-- ==== Sys2Proof/Word.lean ====
section
/-!
DEFINITION. The word types of the module and the sparse table that every memory-like piece of state uses.
-/

namespace Sys2Proof

/-- One byte. -/
abbrev Byte := BitVec 8

/-- One 32-bit register word (R2). -/
abbrev Word := BitVec 32

/-- A byte string, lowest address first. -/
abbrev Bytes := List Byte

/-- Sparse data by a numeric key, in one canonical form: keys strictly rising, and no entry equal to what an
unlisted key reads as (that value is given by the operation that reads the table). -/
abbrev Tbl (α : Type) := List (Nat × α)

end Sys2Proof
end

