-- ==== Sys2Proof/Syntax.lean ====
section
/-!
DEFINITION. The commands of the block: one constructor of `Instr` per row of the opcode table, with the operands
that the row's rule gives it. Values that come from outside the module (a host buffer that the module reads, the
bytes of a received frame, a measured quantity) are operands; `none` in place of host data is a read of host
memory that failed.
-/

namespace Sys2Proof

/-- A time word (R431): [29:0] nanoseconds, [63:30] seconds [33:0]; 0 for "none" or "at once". -/
abbrev TimeWord := BitVec 64

/-- What the exchange keeps of one consumed command (R432, R434): ring, RING_SEQ, REQ_ID, RESULT_ADDR, and whether
the module's writes of host memory for it succeed (R428). -/
structure CmdTag where
  ring : Fin 16
  ringSeq : Nat
  reqId : Nat
  resultAddr : Nat
  writesOk : Bool
  deriving DecidableEq, Repr

/-- One fetched entry of a command ring (R433): its 64 bytes (`none`: the read failed), the host buffers that the
command's parameters name, by address, and whether writes of host memory succeed. -/
structure CmdEntry where
  raw : Option Bytes
  bufs : List (Nat × Bytes)
  writesOk : Bool
  deriving DecidableEq, Repr

/-- One fetched descriptor of a frame DMA queue (R447): its 32 bytes and its host address. -/
structure Descriptor where
  raw : Option Bytes
  addr : Nat
  deriving DecidableEq, Repr

/-- A hardware update that meets a read-to-clear field in the same clock (R4). -/
structure FieldUpdate where
  hi : Nat
  lo : Nat
  amount : Nat
  deriving DecidableEq, Repr

/-- Result of one step of a start: how long it took in ns, and its FAIL_CODE, 0 where it passed (R61, R75). -/
structure StepResult where
  dur : Nat
  code : Nat
  deriving DecidableEq, Repr

/-- An upset of one sequencer replica before a boundary (R161). -/
structure ReplicaUpset where
  replica : Fin 3
  slot : Nat
  cycle : Nat
  boundary : Nat
  readable : Bool
  deriving DecidableEq, Repr

/-- A core of the active control unit: a loop lane or a supervisor core (R193). -/
inductive CoreRef where
  | lane (n : Fin 64)
  | sup (n : Fin 4)
  deriving DecidableEq, Repr

/-- A function with the status layout of Table 2.6 (R55). -/
inductive FnRef where
  | port (p : Fin 256)
  | fabricLane (n : Fin 256)
  | adcRef
  deriving DecidableEq, Repr

/-- The quantities of Table 11.1. -/
inductive CalQ where
  | offset | gain | scale | refZero | refFull | biasCal | calHtr | eoGain | leak | loss
  | levelBar | levelCross | safeBias | segment | safeHtr | launch | trim
  deriving DecidableEq, Repr

/-- One measurement of a Calibrate run: the quantity, its item, and the results of its two passes (R256, R259). -/
structure CalResult where
  quantity : CalQ
  item : Nat
  first : Int
  second : Int
  deriving DecidableEq, Repr

/-- Result of one eye scan (R261, Table 11.5). -/
structure EyeResult where
  width : Nat
  height : Nat
  ber : Nat
  part : Bool
  deriving DecidableEq, Repr

/-- A burst as a fabric receiver meets it (R276): where the end of the start delimiter lies in ps past b + E
(`none`: not found), the message bytes, the byte ranges that lie in undecodable codewords, codewords corrected and
uncorrectable, and whether the end delimiter was found. -/
structure BurstIn where
  delim : Option Int
  message : Bytes
  bad : List (Nat × Nat)
  corrected : Nat
  uncorrectable : Nat
  endFound : Bool
  deriving DecidableEq, Repr

/-- What goes wrong with a member frame inside the module and its lane (R323, R312, R276): a parity error on a
cell write, codewords corrected and uncorrectable, symbols corrected, and the frame being cut short. -/
structure RxFault where
  parity : Bool
  cut : Bool
  corrected : Nat
  uncorrectable : Nat
  symbols : Nat
  deriving DecidableEq, Repr

/-- A parity failure of a cell that a transmission reads (R323): the test write-read of the cell fails too, and
the failure comes after the frame's first byte was sent. -/
structure TxParity where
  testFails : Bool
  afterFirst : Bool
  deriving DecidableEq, Repr

/-- The filter of FDB_NEXT (Table 20.6); `none` is "any". -/
structure FdbFilter where
  fid : Option Nat
  module : Option Nat
  port : Option Nat
  /-- 0 any, 1 static, 2 dynamic -/
  kind : Nat
  deriving DecidableEq, Repr

/-- A SECDED error met on a read of a table word (R312). -/
inductive EccFault where
  | corrected
  | uncorrectable
  deriving DecidableEq, Repr

/-- A bus transaction (R454): ID, address, write, beats of 16 bytes with their strobes (bit k for byte k), and
whether the target fails the access (Table 21.4, TARGET). -/
structure BusReq where
  master : Fin 8
  id : Nat
  addr : Nat
  write : Bool
  beats : List (BitVec 16 × BitVec 128)
  fails : Bool
  deriving DecidableEq, Repr

/-- The commands of the block: the rows of the opcode table, in its order. -/
inductive Instr where
  /-- REGISTER_WRITE (R5): Host or bus write to a register that has no row of its own, with locked bits kept and range rules applied. -/
  | registerWrite (addr : Nat) (be : Nat) (value : Word)
  /-- REGISTER_READ_CLEAR (R7): A read of an RC field returns its value and then clears it, keeping any update made in the same clock. -/
  | registerReadClear (addr : Nat) (be : Nat) (upd : Option FieldUpdate)
  /-- WINDOW_RECORD_READ (R191): A read of the first word of a window record latches the whole record from one instant. -/
  | windowRecordRead (addr : Nat)
  /-- COUNTER_RECORD_READ (R364): A read of word 0 of a counter record latches words 1 and 2 from the same instant. -/
  | counterRecordRead (addr : Nat)
  /-- MX_MON_SEL_WRITE (R120): A write that selects the far port whose monitor values the next MX_MON_DATA read returns. -/
  | mxMonSelWrite (value : Word)
  /-- MX_MON_DATA_READ (R120): A read that returns the monitor values and latches MX_MON_DATA2 from the same period. -/
  | mxMonDataRead
  /-- DAC_MON_DATA_READ (R120): A read that returns the applied codes and latches DAC_MON_DATA2 from the same instant. -/
  | dacMonDataRead
  /-- ORB_CYCLE_LO_READ (R163): A read of the low cycle word that latches the high word. -/
  | orbCycleLoRead
  /-- LE_LOOP_PERIOD_LO_READ (R165): A read of the low hold-period word that latches the high word. -/
  | leLoopPeriodLoRead
  /-- FDB_EPOCH_READ (R314): A read of TABLE_EPOCH that latches FDB_DRAIN from the same instant. -/
  | fdbEpochRead
  /-- TIM_NOW_FRAC_READ (R376): A read of the fractional time word that latches the rest of module time. -/
  | timNowFracRead
  /-- TIM_JUMP_LO_READ (R385): A read of the low word of the pending correction that latches the high word. -/
  | timJumpLoRead
  /-- TIM_CAP_W0_READ (R394): A read that pops the head of a capture FIFO and latches its stamp words. -/
  | timCapW0Read (n : Nat)
  /-- BM_ERR_INFO_READ (R457): A read of the last bus error that latches BM_ERR_ADDR from the same capture. -/
  | bmErrInfoRead
  /-- CX_STATE_EPOCH_READ (R446): A read of WINDOW that latches the event sequence and every ring's CONS and PROD. -/
  | cxStateEpochRead
  /-- GEN_ALERT_CLEAR (R523): Writing 1 to GEN_ALERT.EVENT clears it unless a routed event is raised in the same clock. -/
  | genAlertClear (concurrent : Option Nat)
  /-- MSIX_UNMASK (R429): Unmasking an MSI-X vector raises it if it became due while masked. -/
  | msixUnmask (vector : Nat)
  /-- START (R61): A cold or warm start runs the 16 start-up steps in order, entering mode 0 and then mode 1. -/
  | start (report : List StepResult)
  /-- START_STEP_TIMEOUT (R61): A start-up step exceeding its time limit fails the start. -/
  | startStepTimeout
  /-- START_RETRY (R71): 100 ms after a failed start the module retries, escalates to cold, or halts. -/
  | startRetry
  /-- START_CONTINUE (R74): Writing GEN_START_CTL.CONTINUE releases a start held by HOLD_STEP. -/
  | startContinue
  /-- RST_N_ASSERT (R68): Assertion of RST_N turns off lasers, clears the DACs, stops the packet engine and drops the link. -/
  | rstNAssert (held : Nat)
  /-- RST_N_RELEASE (R69): Release of RST_N starts a warm or cold start according to the power state and records the hold time. -/
  | rstNRelease (held : Nat)
  /-- PERST_N_ASSERT (R70): PERST_N asserted resets only the PCIe endpoint in L0 to L3. -/
  | perstNAssert
  /-- PERST_N_DEASSERT (R70): PERST_N deasserted restores the host port, or wakes the module from L4 or L5. -/
  | perstNDeassert
  /-- PCIE_FUNCTION_RESET (R430): Function-level reset or link down acts as PERST_N and clears the EN field of every ring and frame queue. -/
  | pcieFunctionReset (linkDown : Bool)
  /-- BUS_MASTER_ENABLE_CLEAR (R430): Clearing Bus Master Enable stops consumption and delivery while keeping every counter and window. -/
  | busMasterEnableClear
  /-- DAC_CLR_N_ASSERT (R241): The filtered assertion of DAC_CLR_N starts a DAC clear that puts every output at its safe code. -/
  | dacClrNAssert (held : Nat)
  /-- DAC_CLR_N_RELEASE (R242): The filtered release of DAC_CLR_N begins the three-step end of the DAC clear. -/
  | dacClrNRelease (held : Nat)
  /-- INPUT_STUCK_TIMEOUT (R511): An input held at its active level for its maximum active time gets a stuck fault. -/
  | inputStuckTimeout (input : Fin 14)
  /-- INPUT_RECOVERY (R511): A faulted input recovers after holding its inactive level for the recovery time. -/
  | inputRecovery (input : Fin 14)
  /-- SAFETY_SAMPLE (R499): On each slow-clock cycle the interlock core samples its inputs and reads back its outputs. -/
  | safetySample (readback : Nat)
  /-- GUARD_CHANGE (R503): A filtered change of GUARD_A or GUARD_B moves the guard between OPEN, CLOSED and DISAGREE. -/
  | guardChange (chanB : Bool) (closed : Bool) (held : Nat)
  /-- DISCREPANCY_FAULT (R504): The DISAGREE run reaching K samples is a discrepancy fault. -/
  | discrepancyFault
  /-- SAF_RESET_PRESS (R508): The filtered press of SAF_RESET_N begins a press whose length is measured. -/
  | safResetPress (held : Nat)
  /-- SAF_RESET_RELEASE (R508): The release of a press of 100 ms to 3 s clears the lockout if the conditions hold, and is refused otherwise. -/
  | safResetRelease (held : Nat)
  /-- RESET_FAULT (R509): A reset press reaching 3 s is a RESET_FAULT. -/
  | resetFault
  /-- LSR_FB_CHANGE (R506): A filtered change of LSR_FB closes a follow window or, outside one, is an uncommanded-feedback fault. -/
  | lsrFbChange (group : Fin 4) (contactsOpen : Bool) (held : Nat)
  /-- FB_LATE (R506): A follow window reaching 50 ms without matching feedback is a fault. -/
  | fbLate (group : Fin 4)
  /-- SAF_LASER_SET (R501): Command that sets the host request of the laser groups and completes when the feedback follows. -/
  | safLaserSet (tag : CmdTag) (groups : Nat)
  /-- SAF_CFG_WRITE (R556): A write to SAF_CFG or SAF_FILTn while no Canvas is active that sets the interlock core's configuration. -/
  | safCfgWrite (addr : Nat) (value : Word)
  /-- TRIG_IN_EDGE (R394): A filtered TRIG_IN edge of the selected kind is captured with its stamp into the pin's FIFO. -/
  | trigInEdge (pin : Fin 4) (rising : Bool) (held : Nat)
  /-- PPS_IN_EDGE (R394): A rising PPS_IN edge is captured and, with SRC 2, yields a servo offset. -/
  | ppsInEdge (held : Nat)
  /-- TRIG_OUT_PULSE (R396): A TRIG_OUT pulse goes active or inactive at its scheduled instant. -/
  | trigOutPulse (pin : Fin 4)
  /-- TRIG_OUT_ARM (R396): Writing ARM takes a new TRIG_OUT schedule from START. -/
  | trigOutArm (pin : Fin 4)
  /-- TRIG_OUT_DISABLE (R396): Clearing a TRIG_OUT EN makes the pin inactive at once. -/
  | trigOutDisable (pin : Fin 4)
  /-- PPS_OUT_PULSE (R397): PPS_OUT goes active at each whole second of module time for WIDTH_US, unless suppressed. -/
  | ppsOutPulse
  /-- TRIP_COMPARATOR_FIRE (R490): A trip comparator firing asserts THERM_TRIP_N and, in L0 to L3, begins a shut-down. -/
  | tripComparatorFire (pDie : Bool)
  /-- TRIP_RESTART (R490): The restart comparators of every tripped die reading true release THERM_TRIP_N. -/
  | tripRestart (restartE : Bool) (restartP : Bool)
  /-- VAON_RISE (R57): VAON rising from below its threshold begins a cold start with cause 0. -/
  | vaonRise
  /-- VAON_FALL (R59): VAON falling clears the retention register. -/
  | vaonFall
  /-- MAIN_RAILS_RISE (R530): The main rails rising with VAON present begin a cold start with cause 1. -/
  | mainRailsRise
  /-- RAIL_UNDERVOLTAGE (R532): A main rail below its limit for 10 µs resets the module as RST_N does and records the rail. -/
  | railUndervoltage (rail : Fin 6) (heldNs : Nat)
  /-- VHTR_REMOVED (R51): VHTR removed while HTR_SAFE is clear raises SUPPLY_FAULT and enters mode 1. -/
  | vhtrRemoved
  /-- VSRAM_LOW (R60): VSRAM below its retention level clears the valid flags of the retention store. -/
  | vsramLow
  /-- REFCLK_CHECK (R53): The 1 ms check of each reference clock against the slow clock, with any switch or holdover. -/
  | refclkCheck (ppmA : Option Int) (ppmB : Option Int)
  /-- SMBUS_IDENT_READ (R450): SMBus code 0x01 returns GEN_IDENT and GEN_FW_VER. -/
  | smbusIdentRead
  /-- SMBUS_THERMAL_READ (R450): SMBus code 0x02 returns the die temperatures and thermal states. -/
  | smbusThermalRead
  /-- SMBUS_SAFETY_READ (R516): SMBus code 0x03 returns the interlock status. -/
  | smbusSafetyRead
  /-- SMBUS_STATUS_READ (R450): SMBus code 0x04 returns the power state, mode, start step and failure code. -/
  | smbusStatusRead
  /-- SMBUS_WAKE (R49): SMBus code 0x10 with 0xA5 wakes the module from L4 or L5. -/
  | smbusWake (value : Byte)
  /-- JTAG_BYPASS (R547): JTAG BYPASS instruction. -/
  | jtagBypass
  /-- JTAG_IDCODE (R547): JTAG IDCODE instruction returning 0x1512_00A7. -/
  | jtagIdcode
  /-- JTAG_SAMPLE_PRELOAD (R547): JTAG SAMPLE/PRELOAD instruction. -/
  | jtagSamplePreload
  /-- JTAG_EXTEST (R547): JTAG EXTEST instruction, which never takes over LSR_EN. -/
  | jtagExtest
  /-- JTAG_EXTEST_PULSE (R547): JTAG EXTEST_PULSE instruction of IEEE 1149.6. -/
  | jtagExtestPulse
  /-- JTAG_EXTEST_TRAIN (R547): JTAG EXTEST_TRAIN instruction of IEEE 1149.6. -/
  | jtagExtestTrain
  /-- SET_MODE (R37): Command that changes the operating mode as Table 2.2 allows, at once or pending on an event. -/
  | setMode (tag : CmdTag) (mode : Nat) (swatch : Nat)
  /-- SET_POWER (R43): Command that moves the module one rung at a time toward a target power state. -/
  | setPower (tag : CmdTag) (target : Nat)
  /-- POWER_RUNG_REACHED (R43): Completion of a power-state rung raises POWER_STATE_REACHED and continues toward the target. -/
  | powerRungReached
  /-- KEEP_PASS (R47): Every keep interval in L3 the module powers up, runs one loop pass and returns to L3. -/
  | keepPass
  /-- PACKET_STOP_TIMEOUT (R38): The drain limit after entry to mode 10 or 1 expires and the remaining frames are discarded. -/
  | packetStopTimeout
  /-- RESET_MODULE (R57): Command that begins a cold or warm start. -/
  | resetModule (tag : CmdTag) (kind : Nat)
  /-- LOAD_CANVAS (R92): Command that verifies a host-supplied Canvas and loads, activates or stores it. -/
  | loadCanvas (tag : CmdTag) (image : Option Bytes) (len : Nat) (store : Bool)
  /-- CANVAS_PREPARE (R95): Command that verifies and stages a new Canvas, reporting changed sections and change class. -/
  | canvasPrepare (tag : CmdTag) (image : Option Bytes) (len : Nat) (timeoutMs : Nat) (store : Bool)
  /-- CANVAS_COMMIT (R97): Command that activates the staged Canvas at once or at ACTIVATE_AT. -/
  | canvasCommit (tag : CmdTag) (at_ : TimeWord)
  /-- CANVAS_ACTIVATION (R97): At ACTIVATE_AT the mode is checked and the changed sections are applied in order. -/
  | canvasActivation
  /-- CANVAS_ABORT (R100): Command that discards the staged Canvas. -/
  | canvasAbort (tag : CmdTag)
  /-- CANVAS_TIMEOUT (R100): The prepare timeout passing discards the staged Canvas. -/
  | canvasTimeout
  /-- CANVAS_DIGEST_CHECK (R94): Every 60 s the in-memory Canvas is checked against its section digests. -/
  | canvasDigestCheck
  /-- DIGEST_GRACE_EXPIRE (R99): The 10 ms grace for peers with the old system digest ends. -/
  | digestGraceExpire
  /-- KEY_REVOKE (R81): Command that sets a key slot's revocation bit. -/
  | keyRevoke (tag : CmdTag) (index : Nat)
  /-- SWATCH_WRITE (R126): Command that routes a permutation under pins and the stuck table and stores it as a swatch. -/
  | swatchWrite (tag : CmdTag) (swatch : Nat) (perm : Option Bytes) (pinCount : Nat) (pins : Option Bytes) (routeOnly : Bool) (outAddr : Nat)
  /-- SWATCH_LOAD (R132): Command that checks host-computed cell states and stores them as a DIRECT swatch. -/
  | swatchLoad (tag : CmdTag) (swatch : Nat) (perm : Option Bytes) (cells : Option Bytes)
  /-- SWATCH_INVALIDATE (R125): Command that clears a swatch's VALID flag. -/
  | swatchInvalidate (tag : CmdTag) (swatch : Nat)
  /-- SWATCH_READ (R125): Command that copies a swatch record to host memory. -/
  | swatchRead (tag : CmdTag) (swatch : Nat) (outAddr : Nat)
  /-- SWATCH_APPLY (R135): Command that puts a swatch in force in a persistent mode at the first interval at or after AT. -/
  | swatchApply (tag : CmdTag) (swatch : Nat) (at_ : TimeWord)
  /-- STUCK_ADD (R551): Command that enters or changes a stuck-table entry and marks stale swatches. -/
  | stuckAdd (tag : CmdTag) (cell : Nat) (state : Nat)
  /-- STUCK_CLEAR (R551): Command that removes a cell's stuck-table entry. -/
  | stuckClear (tag : CmdTag) (cell : Nat)
  /-- ROUTE_REQUEST_DONE (R128): A routing or check request of the routing engine completes and its record is written. -/
  | routeRequestDone (time10ns : Nat)
  /-- ROUTE_CTL_WRITE (R140): A write of MX_ROUTE_CTL; setting AUTO_REROUTE starts the re-route of stale swatches. -/
  | routeCtlWrite (value : Word)
  /-- REROUTE (R140): The automatic re-route of one stale swatch completes and replaces the record in one Palette write. -/
  | reroute
  /-- ORBIT_PREPARE (R149): Command that checks an Orbit and loads it into the pending bank. -/
  | orbitPrepare (tag : CmdTag) (record : Option Bytes) (target : Option Bytes) (hasTarget : Bool) (mode : Nat) (timeoutMs : Nat)
  /-- ORBIT_COMMIT (R150): Command that arms the pending Orbit for takeover in a single module. -/
  | orbitCommit (tag : CmdTag) (at_ : TimeWord)
  /-- ORBIT_ABORT (R153): Command that empties the pending bank. -/
  | orbitAbort (tag : CmdTag)
  /-- ORBIT_READ (R552): Command that copies an Orbit bank to host memory. -/
  | orbitRead (tag : CmdTag) (bank : Nat) (outAddr : Nat) (maxLen : Nat)
  /-- ORBIT_TIMEOUT (R153): A pending Orbit neither armed nor held within its timeout is discarded. -/
  | orbitTimeout
  /-- ORBIT_TAKEOVER (R154): At the takeover instant the armed Orbit becomes active and opens slot 0. -/
  | orbitTakeover
  /-- SLOT_BOUNDARY (R154): At each slot boundary the sequencer votes, opens the next slot, applies its gates and runs its Eclipse. -/
  | slotBoundary (upsets : List ReplicaUpset)
  /-- BURST_INTERVAL_BOUNDARY (R20): A persistent-mode burst interval opens with an Eclipse, applying any pending swatch change. -/
  | burstIntervalBoundary
  /-- HOLD_PERIOD_BOUNDARY (R165): At each hold-period boundary the outputs of the last period apply and the post-period work runs. -/
  | holdPeriodBoundary (parity : List Nat)
  /-- END_OF_PERIOD_WORK (R167): At 121.6 µs of each period the far-port values, cell judgements, estimates and control law are computed. -/
  | endOfPeriodWork (standard : Nat)
  /-- LOOP_OUTPUT_DEADLINE (R168): At 127.6 µs the framework takes the staged output words and counts lanes that overran. -/
  | loopOutputDeadline
  /-- COEF_WINDOW_WRITE (R189): A write to the coefficient window enters the staging buffer of that cell. -/
  | coefWindowWrite (cell : Nat) (word : Nat) (value : Word)
  /-- COEF_COMMIT (R189): A write of word 0x3C commits the staged coefficient record if it meets Table 8.3. -/
  | coefCommit (cell : Nat)
  /-- LOOP_CMD_RELEASE (R178): LE_LOOP_CMD action RELEASE releases SUSPECT cells at the next end-of-period work. -/
  | loopCmdRelease (cell : Nat) (all : Bool)
  /-- LOOP_CMD_RESET (R170): LE_LOOP_CMD action RESET sets the integrator and heater to calibrated values and enters ACQUIRE. -/
  | loopCmdReset (cell : Nat) (all : Bool)
  /-- LOOP_CMD_DISABLE (R169): LE_LOOP_CMD action DISABLE puts the cell in OFF. -/
  | loopCmdDisable (cell : Nat) (all : Bool)
  /-- LOOP_CMD_ENABLE (R170): LE_LOOP_CMD action ENABLE returns an OFF cell with BIAS_EN set to ACQUIRE. -/
  | loopCmdEnable (cell : Nat) (all : Bool)
  /-- LANE_CMD_RESTART (R218): LE_LANE_CMD action RESTART restarts a halted lane at the next boundary. -/
  | laneCmdRestart (lane : Nat) (all : Bool)
  /-- LANE_CMD_SOFT (R217): LE_LANE_CMD action 2 raises the SOFT interrupt cause. -/
  | laneCmdSoft (lane : Nat) (all : Bool)
  /-- LANE_DEADLINE (R217): The DEADL instant of a period raises the DEADLINE interrupt cause. -/
  | laneDeadline (lane : Fin 64)
  /-- LANE_INTERRUPT (R217): A lane takes a pending interrupt at a clean boundary and continues at IVEC. -/
  | laneInterrupt (lane : Fin 64)
  /-- LANE_STALL_TIMEOUT (R216): A lane that has not reached WAITP within 2 periods is halted with code STALLED. -/
  | laneStallTimeout (lane : Fin 64)
  /-- PATH_LATE (R198): A PATH_OUT word not written 1.0 µs after the boundary counts as not checked and raises PATH_LATE. -/
  | pathLate (lane : Fin 64)
  /-- SUPERVISOR_EXCEPTION (R219): A supervisor core takes an interrupt or exception and continues at EVEC. -/
  | supervisorException (core : Fin 4) (cause : Nat) (addr : Nat)
  /-- DIVIDE_DONE (R210): A divide-unit result reaches DQ 12 cycles after issue. -/
  | divideDone (c : CoreRef)
  /-- WAIT_CONTINUE (R214): A WAITP, WAITE, WAITS or WAITI continues when its condition is met. -/
  | waitContinue (c : CoreRef)
  /-- NOP (R206): Stroke NOP instruction. -/
  | nop (c : CoreRef)
  /-- HALT (R206): Stroke HALT instruction: the lane stops with fault code HALT. -/
  | halt (c : CoreRef)
  /-- BR (R210): Stroke conditional branch with two delay slots. -/
  | br (c : CoreRef) (cond : Nat) (t : Nat)
  /-- CALL (R210): Stroke call setting LR, with two delay slots. -/
  | call (c : CoreRef) (t : Nat)
  /-- JR (R210): Stroke jump to a register address. -/
  | jr (c : CoreRef) (a : Fin 16)
  /-- RET (R210): Stroke return to LR. -/
  | ret (c : CoreRef)
  /-- RETI (R217): Stroke return from a lane interrupt restoring STATUS. -/
  | reti (c : CoreRef)
  /-- REPEAT (R212): Stroke REPEAT sets up a repeat level over the next words. -/
  | repeat_ (c : CoreRef) (n : Nat) (len : Nat)
  /-- REPEATR (R212): Stroke REPEAT with its count from a register. -/
  | repeatr (c : CoreRef) (a : Fin 16) (len : Nat)
  /-- WAITP (R214): Stroke wait for the next period boundary. -/
  | waitp (c : CoreRef)
  /-- WAITE (R214): Stroke wait for the end-of-period data. -/
  | waite (c : CoreRef)
  /-- WAITS (R214): Stroke wait for sample records. -/
  | waits (c : CoreRef) (a : Fin 16) (n : Nat)
  /-- CSTEP (R215): Stroke cell state step handing one cell's period result to the framework. -/
  | cstep (c : CoreRef) (d : Fin 16) (a : Fin 16)
  /-- BKPT (R206): Stroke breakpoint instruction. -/
  | bkpt (c : CoreRef)
  /-- MOV (R206): Stroke register move. -/
  | mov (c : CoreRef) (d : Fin 16) (a : Fin 16)
  /-- LI (R206): Stroke load immediate. -/
  | li (c : CoreRef) (d : Fin 16) (imm : Word)
  /-- ADD (R207): Stroke add. -/
  | add (c : CoreRef) (d : Fin 16) (a : Fin 16) (b : Fin 16)
  /-- ADDI (R207): Stroke add immediate. -/
  | addi (c : CoreRef) (d : Fin 16) (a : Fin 16) (imm : Word)
  /-- SUB (R207): Stroke subtract. -/
  | sub (c : CoreRef) (d : Fin 16) (a : Fin 16) (b : Fin 16)
  /-- NEG (R207): Stroke negate. -/
  | neg (c : CoreRef) (d : Fin 16) (a : Fin 16)
  /-- ABS (R207): Stroke absolute value. -/
  | abs (c : CoreRef) (d : Fin 16) (a : Fin 16)
  /-- MULL (R207): Stroke low 32-bit multiply. -/
  | mull (c : CoreRef) (d : Fin 16) (a : Fin 16) (b : Fin 16)
  /-- AND (R206): Stroke bitwise AND. -/
  | and_ (c : CoreRef) (d : Fin 16) (a : Fin 16) (b : Fin 16)
  /-- ANDI (R206): Stroke bitwise AND with immediate. -/
  | andi (c : CoreRef) (d : Fin 16) (a : Fin 16) (imm : Word)
  /-- OR (R206): Stroke bitwise OR. -/
  | or_ (c : CoreRef) (d : Fin 16) (a : Fin 16) (b : Fin 16)
  /-- ORI (R206): Stroke bitwise OR with immediate. -/
  | ori (c : CoreRef) (d : Fin 16) (a : Fin 16) (imm : Word)
  /-- XOR (R206): Stroke bitwise XOR. -/
  | xor_ (c : CoreRef) (d : Fin 16) (a : Fin 16) (b : Fin 16)
  /-- XORI (R206): Stroke bitwise XOR with immediate. -/
  | xori (c : CoreRef) (d : Fin 16) (a : Fin 16) (imm : Word)
  /-- SLL (R207): Stroke shift left logical. -/
  | sll (c : CoreRef) (d : Fin 16) (a : Fin 16) (s : Nat)
  /-- SRL (R206): Stroke shift right logical. -/
  | srl (c : CoreRef) (d : Fin 16) (a : Fin 16) (s : Nat)
  /-- SRA (R206): Stroke shift right arithmetic. -/
  | sra (c : CoreRef) (d : Fin 16) (a : Fin 16) (s : Nat)
  /-- RSH (R206): Stroke rounding right shift. -/
  | rsh (c : CoreRef) (d : Fin 16) (a : Fin 16) (s : Nat)
  /-- SHV (R206): Stroke shift by a signed register amount. -/
  | shv (c : CoreRef) (d : Fin 16) (a : Fin 16) (b : Fin 16)
  /-- CMP (R201): Stroke compare setting flags. -/
  | cmp (c : CoreRef) (a : Fin 16) (b : Fin 16)
  /-- CMPI (R201): Stroke compare with immediate. -/
  | cmpi (c : CoreRef) (a : Fin 16) (imm : Word)
  /-- TST (R201): Stroke test setting Z and N. -/
  | tst (c : CoreRef) (a : Fin 16) (b : Fin 16)
  /-- MIN (R206): Stroke signed minimum. -/
  | min (c : CoreRef) (d : Fin 16) (a : Fin 16) (b : Fin 16)
  /-- MAX (R206): Stroke signed maximum. -/
  | max (c : CoreRef) (d : Fin 16) (a : Fin 16) (b : Fin 16)
  /-- CLAMP (R206): Stroke clamp to ±m. -/
  | clamp (c : CoreRef) (d : Fin 16) (a : Fin 16) (b : Fin 16)
  /-- SEL (R206): Stroke select by condition. -/
  | sel (c : CoreRef) (d : Fin 16) (a : Fin 16) (b : Fin 16) (cond : Nat)
  /-- CLZ (R206): Stroke count leading zeros. -/
  | clz (c : CoreRef) (d : Fin 16) (a : Fin 16)
  /-- EXT (R206): Stroke unsigned field extract. -/
  | ext (c : CoreRef) (d : Fin 16) (a : Fin 16) (lsb : Nat) (w : Nat)
  /-- EXTS (R206): Stroke signed field extract. -/
  | exts (c : CoreRef) (d : Fin 16) (a : Fin 16) (lsb : Nat) (w : Nat)
  /-- INS (R206): Stroke field insert. -/
  | ins (c : CoreRef) (d : Fin 16) (a : Fin 16) (lsb : Nat) (w : Nat)
  /-- MPA (R207): Stroke accumulator multiply. -/
  | mpa (c : CoreRef) (ac : Fin 2) (a : Fin 16) (b : Fin 16)
  /-- MAC (R207): Stroke multiply-accumulate. -/
  | mac (c : CoreRef) (ac : Fin 2) (a : Fin 16) (b : Fin 16)
  /-- MSU (R207): Stroke multiply-subtract. -/
  | msu (c : CoreRef) (ac : Fin 2) (a : Fin 16) (b : Fin 16)
  /-- MPAI (R207): Stroke accumulator multiply by immediate. -/
  | mpai (c : CoreRef) (ac : Fin 2) (a : Fin 16) (imm : Word)
  /-- MACI (R207): Stroke multiply-accumulate by immediate. -/
  | maci (c : CoreRef) (ac : Fin 2) (a : Fin 16) (imm : Word)
  /-- MPR (R206): Stroke multiply with rounding shift. -/
  | mpr (c : CoreRef) (ac : Fin 2) (a : Fin 16) (b : Fin 16) (cc : Fin 16) (k : Fin 4)
  /-- MSR (R206): Stroke subtract rounded product from accumulator. -/
  | msr (c : CoreRef) (ac : Fin 2) (a : Fin 16) (b : Fin 16) (cc : Fin 16) (k : Fin 4)
  /-- MAR (R206): Stroke add rounded product to accumulator. -/
  | mar (c : CoreRef) (ac : Fin 2) (a : Fin 16) (b : Fin 16) (cc : Fin 16) (k : Fin 4)
  /-- CLRA (R206): Stroke clear accumulator. -/
  | clra (c : CoreRef) (ac : Fin 2)
  /-- ADDA (R207): Stroke add shifted register to accumulator. -/
  | adda (c : CoreRef) (ac : Fin 2) (a : Fin 16) (s : Nat)
  /-- ADDAA (R207): Stroke add accumulators. -/
  | addaa (c : CoreRef) (ac : Fin 2) (ac2 : Fin 2)
  /-- NEGA (R207): Stroke negate accumulator. -/
  | nega (c : CoreRef) (ac : Fin 2)
  /-- SHA (R206): Stroke shift accumulator by immediate. -/
  | sha (c : CoreRef) (ac : Fin 2) (s : BitVec 8)
  /-- SHAR (R206): Stroke shift accumulator by register. -/
  | shar (c : CoreRef) (ac : Fin 2) (b : Fin 16)
  /-- SATA (R206): Stroke saturate accumulator to 32 bits. -/
  | sata (c : CoreRef) (ac : Fin 2)
  /-- MVA (R208): Stroke move accumulator to register with scaling. -/
  | mva (c : CoreRef) (d : Fin 16) (ac : Fin 2) (s : Nat)
  /-- MOVA (R206): Stroke accumulator copy. -/
  | mova (c : CoreRef) (ac : Fin 2) (ac2 : Fin 2)
  /-- MVAX (R206): Stroke move accumulator part to register. -/
  | mvax (c : CoreRef) (d : Fin 16) (ac : Fin 2) (p : Nat)
  /-- MTAX (R206): Stroke move register to accumulator part. -/
  | mtax (c : CoreRef) (ac : Fin 2) (a : Fin 16) (p : Nat)
  /-- LD (R202): Stroke load through an address generator with post-modify. -/
  | ld (c : CoreRef) (d : Fin 16) (g : Fin 8) (step : BitVec 16)
  /-- ST (R195): Stroke store through an address generator with post-modify. -/
  | st (c : CoreRef) (b : Fin 16) (g : Fin 8) (step : BitVec 16)
  /-- LDX (R202): Stroke indexed load. -/
  | ldx (c : CoreRef) (d : Fin 16) (g : Fin 8) (off : BitVec 16)
  /-- STX (R202): Stroke indexed store. -/
  | stx (c : CoreRef) (b : Fin 16) (g : Fin 8) (off : BitVec 16)
  /-- LDV (R202): Stroke load with register post-modify. -/
  | ldv (c : CoreRef) (d : Fin 16) (g : Fin 8) (b : Fin 16)
  /-- STV (R202): Stroke store with register post-modify. -/
  | stv (c : CoreRef) (b : Fin 16) (g : Fin 8) (cc : Fin 16)
  /-- LDD (R206): Stroke direct load. -/
  | ldd (c : CoreRef) (d : Fin 16) (imm : Word)
  /-- STD (R206): Stroke direct store. -/
  | std (c : CoreRef) (b : Fin 16) (imm : Word)
  /-- LDR (R206): Stroke register-relative load. -/
  | ldr (c : CoreRef) (d : Fin 16) (a : Fin 16) (imm : Word)
  /-- STR (R206): Stroke register-relative store. -/
  | str (c : CoreRef) (b : Fin 16) (a : Fin 16) (imm : Word)
  /-- AGSET (R203): Stroke set address generator BASE and LEN with PTR 0. -/
  | agset (c : CoreRef) (g : Fin 8) (base : Nat) (len : Nat)
  /-- AGSETR (R203): Stroke set address generator from registers. -/
  | agsetr (c : CoreRef) (g : Fin 8) (a : Fin 16) (b : Fin 16)
  /-- MTAG (R203): Stroke write an address generator field. -/
  | mtag (c : CoreRef) (g : Fin 8) (f : Nat) (a : Fin 16)
  /-- MFAG (R206): Stroke read an address generator field. -/
  | mfag (c : CoreRef) (d : Fin 16) (g : Fin 8) (f : Nat)
  /-- MFS (R200): Stroke read a special register. -/
  | mfs (c : CoreRef) (d : Fin 16) (sr : Nat)
  /-- MTS (R200): Stroke write a special register. -/
  | mts (c : CoreRef) (sr : Nat) (a : Fin 16)
  /-- DIVQ (R210): Stroke start a scaled division. -/
  | divq (c : CoreRef) (a : Fin 16) (b : Fin 16) (q : Nat)
  /-- DIVA (R210): Stroke start an accumulator division. -/
  | diva (c : CoreRef) (ac : Fin 2) (b : Fin 16)
  /-- SQRTA (R210): Stroke start an accumulator square root. -/
  | sqrta (c : CoreRef) (ac : Fin 2)
  /-- RETE (R219): Supervisor return from exception restoring STATUS and RACT. -/
  | rete (c : CoreRef)
  /-- SYSCALL (R206): Supervisor system call exception. -/
  | syscall (c : CoreRef) (imm : Word)
  /-- LDB (R457): Supervisor 32-bit bus read. -/
  | ldb (c : CoreRef) (d : Fin 16) (a : Fin 16) (imm : Word) (fails : Bool)
  /-- STB (R457): Supervisor 32-bit bus write. -/
  | stb (c : CoreRef) (b : Fin 16) (a : Fin 16) (imm : Word) (fails : Bool)
  /-- LOCKB (R460): Supervisor opens a locked sequence on a bus target. -/
  | lockb (c : CoreRef) (a : Fin 16) (imm : Word)
  /-- UNLOCKB (R460): Supervisor closes its locked sequence. -/
  | unlockb (c : CoreRef)
  /-- WAITI (R206): Supervisor waits for an enabled interrupt. -/
  | waiti (c : CoreRef)
  /-- FENCE (R455): Supervisor waits until its bus writes have completed. -/
  | fence (c : CoreRef)
  /-- ADC_CONVERSION (R224): A hold group is sampled and converted, corrected, tagged and delivered to the loops and the Easel. -/
  | adcConversion (conv : Fin 32) (round : Nat) (slot : Nat) (raw : List (Option Nat)) (secded : Option (Nat × Bool))
  /-- HK_PUBLISH (R235): At 124.0 µs the housekeeping values of the period are published. -/
  | hkPublish
  /-- REF_ENABLE (R230): Writing ADC_REF_CTL.EN = 1 starts the reference buffers. -/
  | refEnable
  /-- REF_DISABLE (R230): Clearing ADC_REF_CTL.EN stops conversions and discharges the buffers. -/
  | refDisable
  /-- REF_READY (R230): 5 ms after the start the references become READY if every buffer is in its window. -/
  | refReady (inWindow : Nat)
  /-- FUNCTION_STOPPED (R56): A function's shut-down completes to OFF, restarting by itself if RESTART_PENDING is set. -/
  | functionStopped (fn : FnRef)
  /-- ADC_DIRECT_REQUEST (R234): Writing ADC_DIRECT.GO requests one raw conversion in a tail slot. -/
  | adcDirectRequest (channel : Nat)
  /-- PAIR_FLAG_CLEAR (R232): Writing 1 to an ADC_PAIR_FLAG bit clears a CHECK, REFCHK or TIMEOUT flag. -/
  | pairFlagClear (mask : Nat)
  /-- PAIR_FORCE_WRITE (R232): Writing ADC_PAIR_FLAG.FORCE flags or unflags pairs with cause FORCED. -/
  | pairForceWrite (mask : Nat)
  /-- HEATER_SLEW_TICK (R238): On each slew-limiter tick every heater output moves up to STEP toward its target. -/
  | heaterSlewTick
  /-- CAL_RUN (R256): Command that starts a Calibrate run. -/
  | calRun (tag : CmdTag) (kind : Nat) (set : Nat) (groups : Nat) (store : Bool)
  /-- CAL_RUN_DONE (R257): A Calibrate run ends, applies its values, completes CAL_RUN and returns to mode 1. -/
  | calRunDone (results : List CalResult) (skipped : Nat) (nvmOk : Bool)
  /-- CAL_RUN_TIMEOUT (R256): A run not at phase 5 within 60 s ends as ABORTED. -/
  | calRunTimeout
  /-- CAL_DRIFT_READ (R262): Command that copies a cell's drift record to host memory. -/
  | calDriftRead (tag : CmdTag) (cell : Nat) (outAddr : Nat)
  /-- EYE_SCAN_START (R261): At a lane's turn the Easel starts an eye scan. -/
  | eyeScanStart (lane : Nat)
  /-- EYE_SCAN_DONE (R261): An eye scan ends and its record is written. -/
  | eyeScanDone (lane : Nat) (result : EyeResult)
  /-- EYE_NOW_REQUEST (R278): Writing LANE_CTL.EYE_NOW places the lane first in the next round of scans. -/
  | eyeNowRequest (lane : Nat)
  /-- DRIFT_DAILY_SAMPLE (R262): Every 86 400 s of L0 a daily drift sample is taken for each tracking cell. -/
  | driftDailySample
  /-- DRIFT_MONTHLY_WRITE (R262): Every 2 592 000 s of L0 a monthly drift entry is written and the ageing fit is made. -/
  | driftMonthlyWrite
  /-- TRIM_NVM_WRITE (R253): Changed offset trims are written to NVM at most once per hour. -/
  | trimNvmWrite
  /-- PORT_ENABLE (R279): Writing PORT_CTL.EN = 1 starts the port's lanes and negotiation or alignment. -/
  | portEnable (port : Nat)
  /-- PORT_DISABLE (R279): Writing PORT_CTL.EN = 0 completes the frame in progress and powers the lanes down. -/
  | portDisable (port : Nat)
  /-- TRAIN_FAILED (R266): Training not complete within 500 ms raises TRAIN_FAILED and restarts negotiation. -/
  | trainFailed (port : Nat) (lane : Nat) (reached : Nat)
  /-- PORT_LINK_UP (R268): A port with all lanes aligned and no fault for 1 ms comes up. -/
  | portLinkUp (port : Nat)
  /-- PORT_LINK_DOWN (R268): Loss of alignment, high symbol errors or a fault takes the port down and discards its queued frames. -/
  | portLinkDown (port : Nat) (cause : Nat)
  /-- FABRIC_LANE_ENABLE (R280): Writing LANE_CTL.EN = 1 powers a fabric lane and calibrates its receiver. -/
  | fabricLaneEnable (lane : Fin 256)
  /-- FABRIC_LANE_DISABLE (R280): Writing LANE_CTL.EN = 0 darkens the fabric lane from the next interval boundary. -/
  | fabricLaneDisable (lane : Fin 256)
  /-- FABRIC_LANE_READY (R280): A fabric lane becomes READY and reachability is recomputed at the next boundary. -/
  | fabricLaneReady (lane : Fin 256)
  /-- MEMBER_FRAME_RX (R282): A member frame is received and decided through parse, classification, policing, lookup and admission. -/
  | memberFrameRx (port : Nat) (frame : Bytes) (upset : RxFault)
  /-- PAUSE_FRAME_RX (R269): A received PAUSE frame stops the port from starting frames for its quanta. -/
  | pauseFrameRx (port : Nat) (frame : Bytes)
  /-- PFC_FRAME_RX (R269): A received PFC frame stops the named classes for their quanta. -/
  | pfcFrameRx (port : Nat) (frame : Bytes)
  /-- PAUSE_EXPIRE (R269): The received pause time of a port or class runs out. -/
  | pauseExpire (port : Nat) (cls : Nat)
  /-- PAUSE_REFRESH (R270): While back-pressure persists the PAUSE or PFC frame is sent again every REFRESH quanta. -/
  | pauseRefresh (port : Nat)
  /-- FRAME_TX_DONE (R337): A frame's last byte is sent on a member port, releasing its cells and starting the next choice. -/
  | frameTxDone (port : Nat) (parity : Option TxParity)
  /-- FABRIC_RECORD_TAKE (R336): A serving fabric lane able to take its next record has the selector place a frame in the burst. -/
  | fabricRecordTake (lane : Fin 256)
  /-- BURST_RX (R276): A fabric receiver takes a burst and applies the receive checks to it and its frames. -/
  | burstRx (lane : Fin 256) (burst : BurstIn)
  /-- CLS_RULE_WRITE (R296): Command that writes classifier rules atomically. -/
  | clsRuleWrite (tag : CmdTag) (count : Nat) (resetCnt : Bool) (records : Option Bytes)
  /-- CLS_RULE_DELETE (R296): Command that invalidates classifier rules atomically. -/
  | clsRuleDelete (tag : CmdTag) (count : Nat) (indices : Option Bytes)
  /-- CLS_RANGE_WRITE (R296): Command that writes range comparators. -/
  | clsRangeWrite (tag : CmdTag) (count : Nat) (records : Option Bytes)
  /-- CLS_RULE_READ (R296): Command that copies rules and their counters to host memory. -/
  | clsRuleRead (tag : CmdTag) (first : Nat) (count : Nat) (outAddr : Nat)
  /-- STORM_LIMITER_WRITE (R295): A write of a storm limiter's RATE or BURST sets its credit to BURST. -/
  | stormLimiterWrite (port : Nat) (limiter : Fin 3) (value : Word)
  /-- FDB_SEARCH (R317): Command that copies the FDB entry of a key. -/
  | fdbSearch (tag : CmdTag) (mac : Nat) (fid : Nat) (outAddr : Nat)
  /-- FDB_NEXT (R318): Command that copies the next matching FDB entries after a cursor. -/
  | fdbNext (tag : CmdTag) (cursor : Nat) (count : Nat) (outAddr : Nat) (filter : FdbFilter)
  /-- FDB_INSERT (R317): Command that adds or replaces an FDB entry. -/
  | fdbInsert (tag : CmdTag) (w0 : BitVec 64) (w1 : BitVec 64) (replace : Bool) (notify : Bool)
  /-- FDB_DELETE (R317): Command that removes an FDB entry. -/
  | fdbDelete (tag : CmdTag) (mac : Nat) (fid : Nat) (notify : Bool)
  /-- FDB_FLUSH_BY_PORT (R319): Command that removes every matching entry of a destination. -/
  | fdbFlushByPort (tag : CmdTag) (dstModule : Nat) (dstPort : Nat) (fid : Option Nat) (staticToo : Bool) (notify : Bool)
  /-- FLUSH_REMOVAL_DONE (R319): A flush finishes removing its entries and waiting learn requests proceed. -/
  | flushRemovalDone
  /-- FID_WRITE (R302): Command that replaces a FID record and its flood list. -/
  | fidWrite (tag : CmdTag) (fid : Nat) (flags : Nat) (len : Nat) (pairs : Option Bytes)
  /-- FID_READ (R302): Command that copies a FID record and its list. -/
  | fidRead (tag : CmdTag) (fid : Nat) (outAddr : Nat)
  /-- LEARN_COMMIT (R307): The engine commits a queued learn request as a new entry or a move. -/
  | learnCommit
  /-- SWEEPER_VISIT (R310): The sweeper visits a slot, ageing and scrubbing its entry. -/
  | sweeperVisit (ecc : Option EccFault)
  /-- EPOCH_TICK (R313): At the end of each 1 ms tick hardware table changes advance TABLE_EPOCH. -/
  | epochTick
  /-- CHANGE_DRAINED (R314): FDB_DRAIN reaching a change's epoch raises FDB_DRAINED and frees retiring counter pairs. -/
  | changeDrained
  /-- EPOCH_STALL (R315): An epoch advance that has waited 1 s discards the stale frames and proceeds. -/
  | epochStall
  /-- POL_WRITE (R350): Command that replaces policer records atomically. -/
  | polWrite (tag : CmdTag) (count : Nat) (resetTokens : Bool) (records : Option Bytes)
  /-- PORT_GATE_WRITE (R356): Command that loads and arms a port's pending gate list. -/
  | portGateWrite (tag : CmdTag) (port : Nat) (count : Nat) (entries : Option Bytes) (at_ : TimeWord)
  /-- PORT_GATE_CANCEL (R356): Command that empties a port's armed pending gate list. -/
  | portGateCancel (tag : CmdTag) (port : Nat)
  /-- GATE_TAKEOVER (R356): At AT the armed gate list takes over and entry 0 opens. -/
  | gateTakeover (port : Nat)
  /-- GATE_ENTRY_BOUNDARY (R355): The next entry of an active gate list opens. -/
  | gateEntryBoundary (port : Nat)
  /-- LAUNCH_DUE (R358): The head of a port's launch list becomes due at its launch time. -/
  | launchDue (port : Nat)
  /-- SHAPER_RATE_WRITE (R354): A write of a shaper's RATE brings its credit up to date and changes its rate. -/
  | shaperRateWrite (port : Nat) (n : Fin 9) (value : Word)
  /-- SHAPER_BURST_WRITE (R354): A write of a shaper's BURST clips positive credit to the new BURST. -/
  | shaperBurstWrite (port : Nat) (n : Fin 9) (value : Word)
  /-- SAMPLER_WRITE (R373): A write of a sampler's N restarts its countdown. -/
  | samplerWrite (port : Nat) (tx : Bool) (value : Word)
  /-- CNT_SNAPSHOT (R367): Command that copies counters taken at one instant, optionally clearing them. -/
  | cntSnapshot (tag : CmdTag) (ranges : Option Bytes) (rangeCount : Nat) (clear : Bool) (outAddr : Nat)
  /-- READ_LOG (R375): Command that copies retained event log records to host memory. -/
  | readLog (tag : CmdTag) (first : Nat) (count : Nat) (outAddr : Nat)
  /-- LOG_TICK (R374): At each 1 s tick waiting event records are written to NVM in a padded page. -/
  | logTick
  /-- TIME_OFFSET (R380): Command that delivers an offset from the host's IEEE 1588 engine to the servo. -/
  | timeOffset (tag : CmdTag) (offset : Int) (measured : TimeWord)
  /-- TIME_CONFIRM (R386): Command that confirms the pending time correction at AT. -/
  | timeConfirm (tag : CmdTag) (jumpSeq : Nat) (at_ : TimeWord)
  /-- TIME_SET (R386): Command that sets module time to T at AT. -/
  | timeSet (tag : CmdTag) (sec : Nat) (ns : Nat) (frac : Nat) (at_ : TimeWord)
  /-- SERVO_INTERVAL (R382): At the end of each servo interval the offsets are averaged and the servo, acquisition or refusal acts. -/
  | servoInterval
  /-- TIME_STEP_APPLY (R388): A confirmed, set or announced step takes effect at its AT. -/
  | timeStepApply
  /-- EXCH_SEND (R403): Every 125 µs each up Ikile port sends an EXCH record. -/
  | exchSend
  /-- EXCH_RX (R404): A received EXCH record yields an offset and delay and may carry a step announcement. -/
  | exchRx (port : Fin 8) (record : Bytes)
  /-- IKL_PORT_TIMEOUT (R401): 1 ms without a valid record takes an Ikile port down. -/
  | iklPortTimeout (port : Fin 8)
  /-- PARENT_CHANGE (R405): A candidate offering a strictly lower HOP for 10 ms becomes the parent port. -/
  | parentChange (port : Fin 8)
  /-- COMET_SEND (R407): Every 100 µs a module sends a Comet on every up port. -/
  | cometSend
  /-- COMET_RX (R408): A received Comet is forwarded, updates the status table and recomputes the view. -/
  | cometRx (port : Fin 8) (record : Bytes)
  /-- COMET_EXPIRE (R408): A status entry expires after COMET_TIMEOUT_US without a newer Comet. -/
  | cometExpire (origin : Nat)
  /-- SYNC_REQ_SEND (R413): Every 10 ms a stale module sends SYNC_REQ. -/
  | syncReqSend
  /-- SYNC_REQ (R413): A received SYNC_REQ is answered with SYNC_REPLY. -/
  | syncReq (port : Fin 8) (record : Bytes)
  /-- SYNC_REPLY (R413): A received SYNC_REPLY updates the epoch and may set OUT_OF_ORBIT. -/
  | syncReply (port : Fin 8) (record : Bytes)
  /-- CONJ_PROPOSE (R417): Command to the leader that starts a conjunction. -/
  | conjPropose (tag : CmdTag) (orbit : Nat) (notBefore : TimeWord)
  /-- CONJ_ABORT (R422): Command to the leader that aborts an uncommitted conjunction. -/
  | conjAbort (tag : CmdTag)
  /-- PROPOSE (R418): A received PROPOSE is answered PREPARED, arming the pending bank, or refused. -/
  | propose (port : Fin 8) (record : Bytes)
  /-- ANSWER (R419): A received ANSWER lets the leader commit or abort the conjunction. -/
  | answer (port : Fin 8) (record : Bytes)
  /-- COMMIT (R420): A received COMMIT takes the new epoch and schedules the takeover. -/
  | commit (port : Fin 8) (record : Bytes)
  /-- ABORT (R420): A received ABORT disarms the pending bank. -/
  | abort (port : Fin 8) (record : Bytes)
  /-- CONJ_REPEAT_SEND (R416): Each conjunction message is sent a second time 20 µs later. -/
  | conjRepeatSend
  /-- CONJ_DEADLINE (R419): At the answer deadline an uncommitted conjunction is aborted by the leader. -/
  | conjDeadline
  /-- CONJ_LOCAL_ABORT (R420): A member holding PREPARED without COMMIT or ABORT by T − 200 µs aborts locally. -/
  | conjLocalAbort
  /-- IKL_VIEW_READ (R408): Command that copies the status table to host memory. -/
  | iklViewRead (tag : CmdTag) (outAddr : Nat) (max : Nat)
  /-- IKL_TUNNEL_SEND (R423): Command that sends a tunnel message. -/
  | iklTunnelSend (tag : CmdTag) (payload : Option Bytes) (len : Nat) (dst : Nat) (channel : Nat)
  /-- TUNNEL_RX (R423): A received tunnel record is forwarded or delivered to the host. -/
  | tunnelRx (port : Fin 8) (record : Bytes)
  /-- CX_NOP (R445): Command NOP that completes with OK. -/
  | cxNop (tag : CmdTag)
  /-- CX_STATE_READ (R446): Command that copies the CX_STATE picture to host memory. -/
  | cxStateRead (tag : CmdTag) (outAddr : Nat)
  /-- SQ_DOORBELL (R433): A write of a ring's SQ_DB makes command entries available for consumption. -/
  | sqDoorbell (ring : Fin 16) (value : Word) (entries : List CmdEntry)
  /-- CQ_DOORBELL (R434): A write of CQ_DB releases completions the host has consumed. -/
  | cqDoorbell (ring : Fin 16) (value : Word)
  /-- RING_ENABLE (R439): Setting a ring's EN resumes consumption and writes held completions. -/
  | ringEnable (ring : Fin 16)
  /-- RING_DISABLE (R439): Clearing a ring's EN stops consumption. -/
  | ringDisable (ring : Fin 16)
  /-- RING_RESUME (R433): Writing RESUME re-reads the entry that stopped a ring in ERROR. -/
  | ringResume (ring : Fin 16) (entries : List CmdEntry)
  /-- EVT_DOORBELL (R440): A write of CX_EVT.DB releases event entries the host has consumed. -/
  | evtDoorbell (value : Word)
  /-- COALESCE_TIMEOUT (R429): COAL_US after the first unsignalled entry the source's vector is raised. -/
  | coalesceTimeout (source : Nat)
  /-- CX_PROGRESS (R443): Once per second a command in progress for more than 1 s raises CX_PROGRESS. -/
  | cxProgress (ring : Fin 16) (ringSeq : Nat)
  /-- FQ_TX_DOORBELL (R447): A write of TX_DB makes transmit descriptors available. -/
  | fqTxDoorbell (q : Fin 8) (value : Word) (descs : List Descriptor)
  /-- TX_DESCRIPTOR (R448): A transmit descriptor is taken and its frame enters the port's launch list. -/
  | txDescriptor (q : Fin 8) (frame : Option Bytes)
  /-- FQ_RX_DOORBELL (R449): A write of RX_DB posts receive descriptors. -/
  | fqRxDoorbell (q : Fin 8) (value : Word) (descs : List Descriptor)
  /-- BUS_TRANSACTION (R454): A bus transaction from a master is arbitrated, carried to its target and answered. -/
  | busTransaction (req : BusReq)
  /-- LOCK_TIMEOUT (R461): A bus lock held for 10 µs is broken. -/
  | lockTimeout (target : Fin 12)
  /-- BUS_MASTER_RESET (R462): A master entering reset has its burst finished, lock released and requests withdrawn. -/
  | busMasterReset (m : Fin 8) (burst : Option (Nat × Nat))
  /-- BUS_DRAINED (R463): Every ID of a reset master is free and DRAINED is set. -/
  | busDrained (m : Fin 8)
  /-- HEARTBEAT_CHECK (R470): At the end of each 8 µs interval the two heartbeat paths of the active unit are judged. -/
  | heartbeatCheck (toggled : Bool)
  /-- CU_SWITCH (R476): Command that hands the loops to the standby unit without a failure. -/
  | cuSwitch (tag : CmdTag)
  /-- CU_RESTORE (R477): Command that tests and returns a FAILED or OFF unit to STANDBY. -/
  | cuRestore (tag : CmdTag) (unit : Nat)
  /-- CU_RESTORED (R477): A restore completes, making the unit STANDBY or leaving it FAILED. -/
  | cuRestored (failStep : Option Nat)
  /-- THERMAL_READING (R482): The thermal unit reads the sensors and moves each die's thermal state. -/
  | thermalReading
  /-- SHUTDOWN_RECORD_WRITE (R489): Once any page program ends the shut-down record is programmed into a pre-erased slot. -/
  | shutdownRecordWrite (waitedUs : Nat)
  /-- SHUTDOWN_COMPLETE (R488): With the record committed and the heaters safe the link drops and the module enters L5. -/
  | shutdownComplete
  /-- SHUTDOWN_READ (R497): Command that copies the newest shut-down records to host memory. -/
  | shutdownRead (tag : CmdTag) (count : Nat) (outAddr : Nat)
  /-- NVM_PROGRAM_DONE (R494): A flash program or erase completes and is read back, retried or reported failed. -/
  | nvmProgramDone (ok : Bool)
  /-- SHAPER_CREDIT_REACHES_ZERO (R353): A shaper's rising credit reaches 0, making its waiting class eligible so that an idle port starts a frame. -/
  | shaperCreditReachesZero (port : Nat) (n : Fin 9)
  /-- START_DELIMITER_TIMEOUT (R276): An expected burst whose start delimiter is not found by b + E + 20 ns is lost and counted as BURST_NO_DELIM. -/
  | startDelimiterTimeout (lane : Fin 256)
  /-- STARTING_UNIT_CLAIM (R471): The starting control unit finishes powering its island and loading the checkpoint, then writes its claim, or fails with cause START. -/
  | startingUnitClaim (failStep : Option Nat)
  /-- IKL_HIGH_SYMBOL_ERRORS (R401): An Ikile port's receiver enters the FEC high-symbol-error state, so the port goes down with cause 1 and trains again. -/
  | iklHighSymbolErrors (port : Fin 8)
  /-- BUS_MASTER_ENABLE_SET (R430): Setting PCIe Bus Master Enable again resumes consumption, host delivery and the writing of held completions. -/
  | busMasterEnableSet
  /-- D3HOT_TRANSITION (R427): A host move of the endpoint into or out of D3hot stops or resumes the endpoint's DMA. -/
  | d3hotTransition (into : Bool)
  deriving DecidableEq, Repr

end Sys2Proof
end

