-- ==== Sys2Proof/Decode.lean ====
section
/-!
DEFINITION. The decoder of table words. The opcode table gives none of its rows any bits: commands reach the block as
register accesses, ring entries, messages, frames and pin events, so no word spells one.
-/

namespace Sys2Proof

/-- The command that a word spells by the table's bits. Every row of the table has an empty list of fields and no
width, so there is none. -/
def decodeTableWord (_nbits _w : Nat) : Option Instr := none

end Sys2Proof
end

