-- ==== Sys2Proof/Config.lean ====
section
/-!
DEFINITION. What one build of the module fixes, and the free values: values the spec leaves open. A free value is
an opaque constant, applied to the state's counter `freeCtr` where a fresh value is needed each time.
-/

namespace Sys2Proof.Config

/-- GEN_FW_VER.MINOR and BUILD, "per image" (R10, R521): free. -/
opaque fwMinor : BitVec 8
opaque fwBuild : BitVec 16

/-- MX_GEOM, GEN_IDENT step codes are fixed by the silicon; the 64-bit die identity of the fuses (R427): free. -/
opaque serial : BitVec 64

/-- Free 32-bit values, one for each value of the state's counter. -/
opaque freeWord : Nat → BitVec 32

/-- Free naturals, one for each value of the state's counter; the user bounds them. -/
opaque freeNat : Nat → Nat

/-- The draw of a sampler's LFSR, of which only the width and the uniform law are stated (R373). -/
opaque lfsrNext : BitVec 32 → BitVec 32

/-- Fuse content of the four key slots at manufacture: the hash of slot k, 48 bytes (R81); free. -/
opaque fuseHash : Nat → List (BitVec 8)

/-- The calibration image that the factory wrote (R247), by key: free. -/
opaque factoryCal : Nat → Int

/-- Where the lanes' data memories lie in loop memory's bus range, which R452 does not say: the key of the data word at a
word offset of the range, `none` where another part of the memory lies there; free. -/
opaque loopMemKey : Nat → Option Nat

end Sys2Proof.Config
end

