-- ==== Sys2Proof/Machine/StateLight.lean ====
section
/-!
DEFINITION. State of the light side: matrix, Palette and routing engine, Orbits, hold loops, Stroke cores, converters,
calibration (chapters 05 to 11).
-/

namespace Sys2Proof.Machine

/-! ### Modes, power, start (chapters 02, 03) -/

/-- The operating modes of Table 2.1 (R34), in the order of their codes 0 to 11. -/
inductive Mode where
  | bootstrap | safe | calibrate | edgeSlotted | edgePersistent | edgePacket
  | coreSlotted | corePersistent | transitSlotted | loopbackTest | maintain | fenced
  deriving DecidableEq, Repr

/-- The event a pending SET_MODE waits for (R39, Table 2.2). -/
inductive ModeWait where
  /-- the takeover of the pending Orbit -/
  | takeover
  /-- the Eclipse (or boundary) of the next burst interval at or after acceptance -/
  | interval
  /-- the next boundary of the active Orbit's cycle -/
  | cycle
  deriving DecidableEq, Repr


/-! ### The matrix, the Palette and the routing engine (chapters 05, 06) -/

/-- One swatch of the Palette, the content of the 1 280-byte record of Table 6.1 (R121, R122). -/
structure Swatch where
  valid : Bool := false
  direct : Bool := false
  degraded : Bool := false
  stale : Bool := false
  /-- valid entries of PERM: input and output, rising inputs -/
  perm : Tbl Nat := []
  /-- CELLS: bit c is the state of cell c, 0 BAR and 1 CROSS -/
  cells : Nat := 0
  pins : Nat := 0
  generation : Nat := 0
  stuckRev : Nat := 0
  deriving DecidableEq, Repr

/-- One entry of the stuck table (R138, R551, Table 6.9). -/
structure StuckEntry where
  cell : Nat
  cross : Bool
  /-- SOURCE = 1: entered by STUCK_ADD -/
  byHost : Bool
  /-- MX_STUCK_REV.REV when the entry took its state (R123) -/
  rev : Nat
  deriving DecidableEq, Repr

/-- A pin of R125: a cell and the state asked of it. -/
structure Pin where
  cell : Nat
  cross : Bool
  deriving DecidableEq, Repr

/-- What a request of the routing engine is to do (R126, R132). -/
inductive RouteJob where
  /-- SWATCH_WRITE: permutation, pins, ROUTE_ONLY -/
  | write (perm : Tbl Nat) (pins : List Pin) (routeOnly : Bool) (outAddr : Nat)
  /-- SWATCH_LOAD: permutation and host-computed cells -/
  | load (perm : Tbl Nat) (cells : Nat)
  deriving DecidableEq, Repr

/-- A request queued at the routing engine (R128); tag `none` is the module's own START_PERM (R84). -/
structure RouteReq where
  tag : Option CmdTag
  swatch : Nat
  job : RouteJob
  deriving DecidableEq, Repr

/-- A pending SWATCH_APPLY (R134-R136): `at_` is a module time, 0 for the next interval. -/
structure PendingApply where
  tag : CmdTag
  swatch : Nat
  at_ : Nat
  deriving DecidableEq, Repr

/-- Monitor values and states of one far port (R117); powers in 0.01 dBm, `none` is the sentinel 0x8000. -/
structure FarMon where
  mean : Option Int := none
  peak : Option Int := none
  min : Option Int := none
  samples : Nat := 0
  high : Bool := false
  los : Bool := false
  /-- consecutive periods that point to the other LOS state -/
  losRun : Nat := 0
  ovpRun : Nat := 0
  /-- consecutive periods with a path deviation (R118) -/
  pathRun : Nat := 0
  deriving DecidableEq, Repr

/-- One unflagged far-port conversion of the period in progress: low and high range power, swatch tag. -/
structure FarSample where
  round : Nat
  low : Int
  highP : Int
  swatch : Option Nat
  deriving DecidableEq, Repr

/-- The matrix: swatch in force, monitors, Palette, stuck table and routing engine. -/
structure MatrixSt where
  /-- swatch in force (MX_STATUS.SWATCH, SWATCH_VALID) -/
  inForce : Option Nat := none
  /-- cells as the switching sections stand: bit c set is CROSS -/
  cells : Nat := 0
  openLoop : Bool := false
  lit : Nat := 0
  /-- far ports: key port for inputs (256 to 511), 512 + port for outputs -/
  far : Tbl FarMon := []
  /-- conversions of the period in progress, same keys -/
  farAcc : Tbl (List FarSample) := []
  /-- near transmitters at launch level in the interval in force: bit i for transmitter i -/
  txOn : Nat := 0
  /-- inputs lit for some conversion of the period in progress: bit p -/
  litAcc : Nat := 0
  /-- MX_MON_DATA2 as latched by the last read of MX_MON_DATA (R120) -/
  monLatch : Option Word := none
  /-- the Palette, keyed by swatch number -/
  palette : Tbl Swatch := []
  stuck : List StuckEntry := []
  stuckRev : Nat := 0
  /-- stuck table as last written to NVM (R138) -/
  stuckNvm : List StuckEntry := []
  stuckRevNvm : Nat := 0
  queue : List RouteReq := []
  /-- swatches re-routed and stored DEGRADED since the stale set was last empty (R140) -/
  rerouted : Nat := 0
  degraded : Nat := 0
  lastSwatch : Nat := 0
  lastResult : Nat := 0
  lastTime : Nat := 0
  worstTime : Nat := 0
  apply : Option PendingApply := none
  /-- transmitters held off under R139 or R141: bit i for near transmitter i -/
  heldOff : Nat := 0
  /-- re-route deferred to L0 (R142) -/
  deferred : Bool := false
  /-- MX_LOS_CTL as the period in force uses it (R117: a change applies from the next hold period) -/
  losCtl : Word := 0x03E8F448
  /-- WRONG_MIN as the period in force uses it (Table 6.5: a change applies from the next hold period) -/
  wrongMin : Nat := 4
  deriving DecidableEq, Repr

/-! ### Orbits (chapter 07) -/

/-- One Orbit bank: record, target block, MODE and timeout given at prepare (R144, R146, R149). -/
structure OrbitBank where
  record : Bytes
  target : Option Bytes
  mode : Mode
  timeoutNs : Nat
  /-- clock at which the prepare timeout expires; `none` while armed or held -/
  expires : Option Nat
  deriving DecidableEq, Repr

/-- One of the three sequencer replicas (R161). -/
structure Replica where
  slot : Nat := 0
  cycle : Nat := 0
  boundary : Nat := 0
  readable : Bool := true
  failed : Bool := false
  outvotedAt : Option Nat := none
  count : Nat := 0
  deriving DecidableEq, Repr

/-- The gate sequencer (R147-R163). Instants are module times in units of 2^-40 ns. -/
structure OrbitSt where
  active : Option OrbitBank := none
  pendBank : Option OrbitBank := none
  /-- stated time T of an armed Orbit -/
  armed : Option Nat := none
  /-- armed by a conjunction and CONJ_HELD -/
  conjHeld : Bool := false
  running : Bool := false
  halted : Bool := false
  anchor : Nat := 0
  /-- voted slot, cycle count, and the boundary at which the slot in force ends -/
  slot : Nat := 0
  cycle : Nat := 0
  boundary : Nat := 0
  /-- cycle of the schedule in which the slot in force lies (R163) -/
  schedCycle : Nat := 0
  lastTko : Nat := 0
  /-- the Orbit that the last takeover replaced (Table 12.4, check 4) -/
  replaced : Option Nat := none
  replicas : List Replica := [{}, {}, {}]
  cycleHiLatch : Nat := 0
  /-- Egress gate of the slot in force (16 bytes); closed bits only while an Orbit executes -/
  egrGate : Bytes := []
  pktGate : Nat := 0
  /-- start of the burst interval in force, and its end (module time), R20, R23, R155 -/
  intStart : Nat := 0
  intEnd : Nat := 0
  /-- length that the interval's bursts keep, in units: fixed as it opens, shortened by a step or a cut (R16, R23) -/
  intLen : Nat := 0
  /-- the interval in force carries bursts (R23, R155, R156) -/
  intBurst : Bool := false
  /-- modules barred as of the last slot or interval boundary, as bit m (R414) -/
  barred : Nat := 0
  /-- lane targets of the interval in force: lane index i (0 to 255) to module (R146) -/
  targets : Tbl Nat := []
  deriving DecidableEq, Repr

/-! ### Hold loops (chapter 08) -/

/-- The loop states of Table 8.2 (R169). -/
inductive LoopState where
  | off | acquire | track | model | dark | suspect | stuck | hold
  deriving DecidableEq, Repr

/-- One sample record of a cell (R172, R173, R197): the two powers, the swatch and state of its tag, the flags, GAIN in
Q8.23 as delivered, Walsh sign, hold period. -/
structure LoopSample where
  period : Nat
  p0 : Nat
  p1 : Nat
  swatch : Option Nat
  cross : Bool
  eclipse : Bool
  gain : Int
  neg : Bool
  deriving DecidableEq, Repr

/-- The framework's state of one cell: the status record of Table 8.11 and the counters behind it. -/
structure CellLoop where
  state : LoopState := .off
  /-- DISABLE command in force (Table 8.2, row OFF) -/
  disabled : Bool := false
  /-- mark of R177, released under R178 -/
  suspect : Bool := false
  failCount : Nat := 0
  passRun : Nat := 0
  /-- ACQUIRE: consecutive estimates below PHI_MAX, estimates passed (R170) -/
  goodRun : Nat := 0
  estCount : Nat := 0
  reason : Nat := 0
  htrActive : Bool := false
  biasClamped : Bool := false
  htrLimited : Bool := false
  usable : Nat := 0
  integ : Int := 0
  est : Option Int := none
  /-- the last 256 estimates, newest first -/
  ests : List Int := []
  coherence : Nat := 0
  sumRes : Int := 0
  sinceEst : Nat := 0
  estPeriod : Nat := 0
  suspects : Nat := 0
  /-- consecutive periods DARK or MODEL (R170) -/
  unlit : Nat := 0
  samples : List LoopSample := []
  /-- lit valid samples of the period, those that failed the sum check, DRIFT, as SUMM holds them -/
  litCount : Nat := 0
  litFails : Nat := 0
  drift : Bool := false
  /-- CSTEP taken this period (R215) -/
  stepped : Bool := false
  /-- output words written this period (R168), and the words taken at the deadline -/
  written : Bool := false
  outBias : Int := 0
  outHtr : Nat := 0
  outFlags : Nat := 0
  taken : Bool := false
  /-- outputs of the period are not applied (R177, R215) -/
  frozen : Bool := false
  deriving DecidableEq, Repr

/-- A staged coefficient record (R189). -/
structure CoefStage where
  cell : Nat := 0
  valid : Bool := false
  words : List Word := []
  deriving DecidableEq, Repr

/-- A cell command of LE_LOOP_CMD that awaits the end-of-period work. -/
structure LoopCmd where
  cell : Nat
  action : Nat
  all : Bool
  deriving DecidableEq, Repr

/-- The hold-loop framework. -/
structure LoopSt where
  /-- LE_LOOP_PERIOD, 64 bits -/
  period : Nat := 0
  /-- clock at which the period in force began; rounds run while the PLLs do -/
  periodAt : Nat := 0
  /-- the period is sampled (R185) -/
  sampled : Bool := true
  /-- count of sampled periods, for the chip parity (R185) -/
  sampledCount : Nat := 0
  /-- loops have been started (step 11) -/
  started : Bool := false
  periodHiLatch : Nat := 0
  cells : Tbl CellLoop := []
  /-- coefficient records in force, sixteen words a cell (R187, R189) -/
  coef : Tbl (List Word) := []
  stage : CoefStage := {}
  /-- records committed and waiting for the end-of-period work (R189, R190) -/
  coefNext : Tbl (List Word) := []
  cmd : Option LoopCmd := none
  sums : List Nat := [0, 0, 0, 0, 0, 0]
  /-- outputs are held for the mode 0/1 rule of R63 -/
  heldOut : Bool := true
  /-- LE_LOOP_ERR.LAST_LANE -/
  lastOverrun : Nat := 0
  /-- outputs 256 to 511 whose PATH_OUT word for the last sampled period is awaited (R198) -/
  pathAwait : List Nat := []
  /-- hold periods are counted: from step 6 on, while the PLLs run (R165) -/
  counting : Bool := false
  /-- the end-of-period work and the output deadline of the period in force have passed -/
  eopDone : Bool := false
  deadlineDone : Bool := false
  deriving DecidableEq, Repr

/-! ### Stroke cores (chapter 09) -/

/-- An address generator (R200, R202). -/
structure AddrGen where
  base : Nat := 0
  len : Nat := 0
  ptr : Nat := 0
  deriving DecidableEq, Repr

/-- The STATUS register (Table 9.4). -/
structure Status where
  z : Bool := false
  n : Bool := false
  c : Bool := false
  v : Bool := false
  ovs : Bool := false
  aov : Bool := false
  scaled : Bool := false
  dz : Bool := false
  ie : Bool := false
  sat : Bool := false
  deriving DecidableEq, Repr

/-- One level of REPEAT (R212): RS, RE, RC and its RACT bit. -/
structure RepLevel where
  rs : Nat := 0
  re : Nat := 0
  rc : Nat := 0
  act : Bool := false
  deriving DecidableEq, Repr

/-- Run state of a core (LE_LANE_STAT.RUN). -/
inductive RunState where
  | halted | running | waiting | stopped
  deriving DecidableEq, Repr

/-- What a waiting core waits for (R214, Table 9.9). -/
inductive WaitKind where
  | none | period | endData | records (base n : Nat) | interrupt
  deriving DecidableEq, Repr

/-- A branch in its delay slots: target and slots left (Table 9.10). -/
structure BranchPend where
  target : Nat
  slots : Nat
  /-- STATUS that RETI restores with it -/
  status : Option Status
  deriving DecidableEq, Repr

/-- A load (or CSTEP) result in its delay slot. -/
structure LoadPend where
  reg : Fin 16
  value : Word
  deriving DecidableEq, Repr

/-- A divide-unit instruction in flight (R210). -/
structure DivPend where
  cycles : Nat
  result : Word
  deriving DecidableEq, Repr

/-- One lane or supervisor core (R200, Tables 9.4 and 9.10). -/
structure Core where
  d : Vector Word 16 := Vector.replicate 16 0
  a : Vector (BitVec 72) 2 := Vector.replicate 2 0
  g : Vector AddrGen 8 := Vector.replicate 8 {}
  st : Status := {}
  scl : Nat := 0
  lr : Nat := 0
  iret : Nat := 0
  ifl : Status := {}
  ivec : Nat := 0
  icause : Nat := 0
  deadl : Nat := 0
  agstat : BitVec 8 := 0
  dq : Word := 0
  rep0 : RepLevel := {}
  rep1 : RepLevel := {}
  epc : Nat := 0
  efl : Word := 0
  ecause : Nat := 0
  evec : Nat := 0
  eaddr : Nat := 0
  imask : Nat := 0
  pc : Nat := 0
  run : RunState := .halted
  fault : Nat := 0
  wait : WaitKind := .none
  /-- clock at which the wait began -/
  waitAt : Nat := 0
  branch : Option BranchPend := none
  load : Option LoadPend := none
  div : Option DivPend := none
  /-- clock of the last automatic restart (R218) -/
  autoAt : Option Nat := none
  /-- clock at which a stop under R216 was asked, and what it is for -/
  stopAt : Option Nat := none
  /-- to be restarted at the next boundary (R218) -/
  restart : Bool := false
  /-- that restart is an automatic one -/
  restartAuto : Bool := false
  srwc : Nat := 0
  /-- the program started this period: FRESH (Table 9.3) -/
  fresh : Bool := true
  cyc : Nat := 0
  cycLast : Nat := 0
  cycMax : Nat := 0
  /-- bus writes of a supervisor core not yet completed (FENCE) -/
  writesOut : Nat := 0
  deriving DecidableEq, Repr

/-- The loop engine: cores, memories, loaded images. -/
structure EngineSt where
  /-- cores, keyed 128 × unit + lane, and 128 × unit + 64 + core for supervisors -/
  cores : Tbl Core := []
  /-- lane data memory, shared by the units: key 12 288 × lane + word address -/
  dm : Tbl Word := []
  /-- supervisor memory: key 2^20 × unit + word address -/
  smem : Tbl Word := []
  /-- LANE_PROGRAMS body in each unit's Stroke program memory -/
  progA : Bytes := []
  progB : Bytes := []
  /-- pending supervisor interrupt lines: key 4 × unit + core, lines as bits -/
  irq : Tbl Nat := []
  /-- a RESTART of LE_LANE_CMD awaits the boundary -/
  laneBusy : Bool := false
  /-- the lanes stop for a new image and start together once all have (R222) -/
  swapping : Bool := false
  lctlSnap : Word := 0
  pathcSnap : Word := 0
  deriving DecidableEq, Repr

/-! ### Converters (chapter 10) -/

/-- A function with start-up and shut-down sequences (R55, R56, Table 2.6). -/
structure FnStatus where
  /-- STATE: 0 OFF, 1 ON, 2 STOPPING -/
  state : Nat := 0
  ready : Bool := false
  restartPending : Bool := false
  stopPending : Bool := false
  deriving DecidableEq, Repr

/-- Check state of one converter pair (R231, R232, Table 10.19). -/
structure PairSt where
  check : Bool := false
  ref : Bool := false
  refchk : Bool := false
  timeout : Bool := false
  table : Bool := false
  forced : Bool := false
  badRun : Nat := 0
  goodRun : Nat := 0
  lastD : Nat := 0
  flagsSeen : Nat := 0
  /-- conversions of the even and odd converter that timed out this period -/
  lateEven : Nat := 0
  lateOdd : Nat := 0
  /-- raw check codes of the period by tail slot, and reference conversions gathered -/
  evenCheck : Tbl Nat := []
  oddCheck : Tbl Nat := []
  zeroEven : List Nat := []
  zeroOdd : List Nat := []
  fullEven : List Nat := []
  fullOdd : List Nat := []
  /-- the pair's reference buffer reads within its window -/
  refIn : Bool := false
  deriving DecidableEq, Repr

/-- A housekeeping value (Table 10.20). -/
structure HkValue where
  value : Int := 0
  valid : Bool := false
  flagged : Bool := false
  deriving DecidableEq, Repr

/-- Claims registered at an output stage (R243): the claim of each unit, `none` while not VALID. -/
structure ClaimReg where
  a : Option Nat := none
  b : Option Nat := none
  deriving DecidableEq, Repr

/-- The ADC sequencer. -/
structure AdcSt where
  ref : FnStatus := {}
  /-- clock at which the references started, for the 5 ms settle (R230) -/
  refAt : Nat := 0
  pairs : Tbl PairSt := []
  claim : ClaimReg := {}
  /-- ADC_DIRECT pending request: hold-period boundaries it has seen (R234); RAW and STATUS of the last result -/
  direct : Option Nat := none
  directRaw : Nat := 0
  directStatus : Nat := 0
  hk : Tbl HkValue := []
  /-- housekeeping raw codes gathered in the tail of the period, keyed by channel -/
  hkAcc : Tbl (List Nat) := []
  /-- channels whose correction entry holds an uncorrectable error (R229) -/
  tableBad : List Nat := []
  /-- ADC_CHK_CTL as the period in force uses it (Table 10.13) -/
  chkCtl : Word := 0x00100010
  deriving DecidableEq, Repr

/-- The DAC bank (R236-R244). -/
structure DacSt where
  claim : ClaimReg := {}
  /-- bias codes applied, without dither, by cell -/
  bias : Tbl Int := []
  htrOut : Tbl Nat := []
  htrTarget : Tbl Nat := []
  /-- limiter outputs at the last hold-period boundary (R183, R238) -/
  htrStart : Tbl Nat := []
  /-- outputs stand at or move to their safe codes (R239) -/
  safeHold : Bool := true
  /-- heaters move at maximum rate (R238) -/
  maxRate : Bool := true
  /-- a DAC clear is in force (R241); 1 after the filtered release, 2 in step 1 of R242 -/
  clr : Bool := true
  released : Bool := false
  recover : Bool := false
  clrFault : Bool := false
  clrAt : Nat := 0
  clrSource : Nat := 0
  /-- conversions stay flagged until the next hold-period boundary (R242 step 3) -/
  flagTail : Bool := false
  /-- pre-emphasis in progress: module time of its start and the cells that changed (R236) -/
  stepAt : Nat := 0
  stepCells : Nat := 0
  monLatch : Option Word := none
  deriving DecidableEq, Repr

/-! ### Calibration (chapter 11) -/


/-- One temperature zone (R248-R250). -/
structure Zone where
  /-- temperature in use, and the one that takes effect at the next hold-period boundary, 0.01 °C -/
  tUsed : Int := 0
  tNext : Int := 0
  extrap : Bool := false
  deriving DecidableEq, Repr

/-- A live offset window of one channel (R253): samples of the open window and the first result, 2^−20 LSB. -/
structure OfsWindow where
  count : Nat := 0
  sum : Nat := 0
  first : Option Int := none
  /-- zone temperature at the start of the first window -/
  tStart : Int := 0
  acceptedAt : Option Nat := none
  deriving DecidableEq, Repr

/-- A live BIAS_CAL window of one cell (R254). -/
structure BiasWindow where
  set : Nat := 0
  count : Nat := 0
  sum : Int := 0
  first : Option Int := none
  tStart : Int := 0
  deriving DecidableEq, Repr

/-- A Calibrate run in progress (R256). -/
structure CalRun where
  tag : CmdTag
  kind : Nat
  set : Nat
  groups : Nat
  store : Bool
  phase : Nat
  startAt : Nat
  deriving DecidableEq, Repr

/-- Quality and ageing figures of one cell (R260, R262, R263). -/
structure CellQuality where
  /-- extinction ratios of the last 16 qualifying periods, 0.1 dB, newest first -/
  ers : List Nat := []
  floor : Bool := false
  erAt : Option Nat := none
  biasDrift : Option Int := none
  htrDrift : Option Int := none
  yearsBias : Nat := 255
  yearsHtr : Nat := 255
  warn : Bool := false
  /-- daily samples of the month: bias drift, heater drift -/
  daily : List (Int × Int) := []
  /-- monthly entries, oldest first once full, and the ring index -/
  ring : List Word := []
  index : Nat := 0
  deriving DecidableEq, Repr

/-- One lane's eye record (Table 11.5). -/
structure EyeRecord where
  width : Nat := 0
  height : Nat := 0
  ber : Nat := 0
  sec : Nat := 0
  valid : Bool := false
  stale : Bool := false
  part : Bool := false
  deriving DecidableEq, Repr

/-- The Easel. -/
structure CalSt where
  /-- calibration image in use and as held in NVM: key by quantity, set and item -/
  img : Tbl Int := []
  imgNvm : Tbl Int := []
  gen : Nat := 0
  genNvm : Nat := 0
  imgOk : Bool := true
  /-- changes that take effect at the next hold-period boundary (R252) -/
  next : Tbl Int := []
  trims : Tbl Int := []
  trimsNext : Tbl Int := []
  trimsNvm : Tbl Int := []
  trimsAt : Nat := 0
  zones : Tbl Zone := []
  ofs : Tbl OfsWindow := []
  biasWin : Tbl BiasWindow := []
  run : Option CalRun := none
  quality : Tbl CellQuality := []
  eyes : Tbl EyeRecord := []
  /-- lanes under scan -/
  scanning : List Nat := []
  /-- ns of L0 counted toward the daily sample and the monthly write (R262) -/
  l0Day : Nat := 0
  l0Month : Nat := 0
  deriving DecidableEq, Repr

end Sys2Proof.Machine
end

