-- ==== Sys2Proof/Machine/StatePacket.lean ====
section
/-!
DEFINITION. State of the packet side: lanes and ports, classifier, forwarding tables, buffer and queues, gates, policers,
counters and the event log (chapters 12 to 17).
-/

namespace Sys2Proof.Machine

/-! ### Lanes and ports (chapter 12) -/

/-- One SerDes lane (Tables 12.5, 12.6 and the LANE status registers). -/
structure LaneSt where
  fn : FnStatus := {}
  eyeNow : Bool := false
  sigDet : Bool := false
  cdrLock : Bool := false
  aligned : Bool := false
  trainDone : Bool := false
  trainFail : Bool := false
  rxInv : Bool := false
  rxCal : Bool := false
  rxLane : Nat := 0
  lastSrc : Nat := 0
  lastSrcLane : Nat := 0
  lastValid : Bool := false
  lastSeq : Nat := 0
  lag : Int := 0
  pwr : Option Int := none
  lastCause : Nat := 0
  /-- bursts sent since READY (BURST_SEQ, R274) -/
  burstSeq : Nat := 0
  /-- serving: ON and READY as applied at the last interval boundary (R280, R281) -/
  serving : Bool := false
  /-- BURST_LOSS failures counted since the last event (R276) -/
  lossCount : Nat := 0
  /-- the burst in progress: its records, their number, the sum of LENGTH, the fabric headers -/
  burstRecs : Bytes := []
  burstFrames : Nat := 0
  burstBytes : Nat := 0
  burstHdrs : Bytes := []
  deriving DecidableEq, Repr

/-- One member port: function, link, pause (Tables 12.7, 12.8; R268-R270). -/
structure PortSt where
  fn : FnStatus := {}
  linkUp : Bool := false
  anDone : Bool := false
  hiSer : Bool := false
  localFault : Bool := false
  remoteFault : Bool := false
  /-- clock until which the link stays down (R268) -/
  downUntil : Nat := 0
  /-- clock until which received PAUSE or PFC holds each class; `none` in the list for no pause -/
  rxPause : List (Option Nat) := List.replicate 8 none
  /-- classes the port is pausing toward its peer (R270), and the clock of the next refresh -/
  txPausing : Nat := 0
  refreshAt : Nat := 0
  /-- storm limiter credits BC, UU, MC: frames in units of 10^-6, the clock last credited, the last drop -/
  storm : List (Nat × Nat × Option Nat) := [(64000000, 0, none), (64000000, 0, none), (64000000, 0, none)]
  deriving DecidableEq, Repr

/-! ### Parsing and classification (chapter 13) -/

/-- The classifier and parse graph in force (R284, R289, R290, R296). -/
structure ClsSt where
  /-- rule records of 96 bytes by INDEX -/
  rules : Tbl Bytes := []
  /-- range comparator records, 64 bits, by number -/
  ranges : Tbl Nat := []
  /-- parse graph nodes, 64 bytes -/
  graph : Tbl Bytes := []
  gen : Nat := 0
  deriving DecidableEq, Repr

/-! ### Forwarding tables (chapter 14) -/

/-- One FDB entry (Table 14.1). -/
structure FdbEntry where
  mac : Nat := 0
  fid : Nat := 0
  valid : Bool := false
  static : Bool := false
  locked : Bool := false
  hit : Bool := false
  dstModule : Nat := 0
  dstPort : Nat := 0
  /-- 0 FORWARD, 1 DISCARD, 2 FLOOD, 3 HOST -/
  kind : Nat := 0
  hostQ : Nat := 0
  ageMark : Bool := false
  counter : Nat := 0
  deriving DecidableEq, Repr

/-- One FID record with its flood list of (module, port) pairs (R302). -/
structure FidRec where
  valid : Bool := false
  learn : Bool := false
  uuFlood : Bool := false
  mcFlood : Bool := false
  flood : List (Nat × Nat) := []
  deriving DecidableEq, Repr

/-- A learn request (R306, R307). -/
structure LearnReq where
  mac : Nat
  fid : Nat
  port : Nat
  epoch : Nat
  deriving DecidableEq, Repr

/-- A flush in progress (R319). -/
structure Flush where
  dstModule : Nat
  dstPort : Nat
  fid : Option Nat
  /-- the positions of the entries it removes: lookups treat them as absent from the commit on -/
  doomed : List Nat
  removed : Nat
  /-- the command, `none` for FLUSH_ON_DOWN, and its NOTIFY_DRAIN -/
  tag : Option CmdTag
  notify : Bool
  epoch : Nat
  deriving DecidableEq, Repr

/-- A committed removal that makes older learn requests stale (R307). -/
structure Barrier where
  epoch : Nat
  /-- the key of a DELETE or REPLACE, or the destination and FID of a flush -/
  key : Option (Nat × Nat)
  dst : Option (Nat × Nat × Option Nat)
  deriving DecidableEq, Repr

/-- A command that waits for its epoch advance (R315). -/
structure EpochWait where
  tag : Option CmdTag
  /-- items of the detail in front of the epoch -/
  before : List (Nat × Nat)
  notify : Bool
  deriving DecidableEq, Repr

/-- The forwarding tables and the table maintenance engine. -/
structure FdbSt where
  /-- entries by position, 0 to 1 052 671 (R298) -/
  slots : Tbl FdbEntry := []
  /-- positions with an uncorrectable word not yet removed (R312) -/
  bad : List Nat := []
  fids : Tbl FidRec := []
  learn : List LearnReq := []
  flushes : List Flush := []
  barriers : List Barrier := []
  epoch : Nat := 0
  drainLatch : Nat := 0
  /-- hardware changes made since the last tick (R313) -/
  hwChanged : Bool := false
  /-- clock since which an advance waits (R315) -/
  waitSince : Option Nat := none
  waiting : List EpochWait := []
  /-- epochs to be reported by FDB_DRAINED (R314) -/
  notify : List Nat := []
  /-- retiring counter pairs with the epoch of their change (R316) -/
  retiring : Tbl Nat := []
  /-- sweeper: next position, passes, and the SWEEP_S of the pass in progress (R310) -/
  sweepPos : Nat := 0
  passes : Nat := 0
  sweepS : Nat := 0
  /-- notifications posted in the second that began at `notifyAt` (R309) -/
  notifyCount : Nat := 0
  notifyAt : Nat := 0
  /-- clock of the next 1 ms tick (R313) -/
  tickAt : Nat := 0
  deriving DecidableEq, Repr


/-! ### Gate lists, launch lists, samplers, policers (chapters 16, 17) -/

/-- A gate list: entries of gates and duration in ns (R355); the empty list opens every gate (R356). -/
abbrev GateList := List (Nat × Nat)

/-- The host's descriptor behind a launched frame (R391, R448). -/
structure LaunchRef where
  queue : Nat
  hseq : Nat
  /-- host address of the descriptor -/
  addr : Nat
  tsReq : Bool
  oneStep : Bool
  tsOff : Nat
  csumOff : Option Nat
  deriving DecidableEq, Repr

/-- One entry of a launch list (R358): launch time in 2^-40 ns; `timed` is false where none was given. -/
structure Launch where
  t : Nat
  timed : Bool
  cls : Nat
  frame : Bytes
  ref : LaunchRef
  deriving DecidableEq, Repr

/-- A sampler: countdown, its 32-bit LFSR, samples made (R373). -/
structure Sampler where
  count : Nat := 0
  lfsr : Word := 1
  seq : Nat := 0
  deriving DecidableEq, Repr

/-- A policer: its 32-byte record, buckets in 1/1024 byte and what is carried below one unit (R346). -/
structure Policer where
  record : Bytes := []
  c : Nat := 0
  e : Nat := 0
  remC : Nat := 0
  remE : Nat := 0
  lastNs : Nat := 0
  deriving DecidableEq, Repr

/-- One DRR list: deficit and turn of each queue, and the pointer (R352). -/
structure Drr where
  deficits : Tbl Int := []
  turns : List Nat := []
  ptr : Nat := 0
  deriving DecidableEq, Repr

/-! ### Buffer, queues, scheduling (chapters 15, 16) -/

/-- To whom the cells of a frame are charged: a source port and class, a fabric egress queue, a mirror session. -/
inductive Owner where
  | port (p cls : Nat)
  | fabric (p cls : Nat)
  | mirror (session : Nat)
  deriving DecidableEq, Repr

/-- Cells held by one frame and its flood copies (R322, R328). -/
structure Buf where
  owner : Owner
  cells : Nat
  deriving DecidableEq, Repr

/-- One descriptor: a frame or a flood copy in a queue (R322, R325, R326). -/
structure Frame where
  /-- buffer number, shared by flood copies -/
  buf : Nat
  /-- source member port at this module; `none` for a frame from a fabric lane -/
  srcPort : Option Nat
  /-- SRC_PORT and source module of a fabric frame -/
  remoteSrc : Nat
  remoteModule : Nat
  /-- destination 0 to 767 of a VOQ, or the member port of a fabric egress queue -/
  dst : Nat
  fabric : Bool
  /-- the mirror session of a copy (R369) -/
  mirror : Option Nat
  /-- member port at the destination module (DST_PORT) -/
  dstPort : Nat
  cls : Nat
  colour : Nat
  data : Bytes
  epoch : Nat
  counter : Nat
  hash : Nat
  ts : Nat
  tsValid : Bool
  ptp : Bool
  /-- launch descriptor's frame: stamp request and descriptor (R391, R448) -/
  launch : Option LaunchRef
  /-- winning rule of a member frame -/
  rule : Option Nat
  /-- ends with a stomped FCS (R340, R371) -/
  stomped : Bool
  /-- a MAC control frame of the module: 12 TX_PAUSE or 13 TX_PFC, its counter in Table 17.2 -/
  control : Option Nat
  /-- burst interval in which a fabric frame arrived (R18) -/
  interval : Nat
  deriving DecidableEq, Repr

/-- Per-port state of queues, gates and shapers. -/
structure PortQ where
  /-- MAC control frames that wait (R270) -/
  ctl : List Bytes := []
  /-- frame in transmission, and the clock at which its last byte is sent -/
  sending : Option Frame := none
  sendEnd : Nat := 0
  /-- class scheduler, and the queue scheduler of each class (R351, R352) -/
  classes : Drr := {}
  queues : Tbl Drr := []
  /-- shaper credits in 1/1024 byte, what is carried below one unit, the clock last credited: shapers 0 to 7 the
  classes and 8 the port (R353) -/
  credit : List Int := List.replicate 9 9437184
  creditRem : List Nat := List.replicate 9 0
  creditAt : List Nat := List.replicate 9 0
  overXoff : Nat := 0
  lastAdmitDrop : Option Nat := none
  /-- gate lists (R355, R356) -/
  gate : Option GateList := none
  gatePend : Option GateList := none
  gateArmedAt : Option Nat := none
  gateStart : Nat := 0
  gateEntry : Nat := 0
  gateBoundary : Nat := 0
  gateTko : Nat := 0
  launch : List Launch := []
  samplerRx : Sampler := {}
  samplerTx : Sampler := {}
  deriving DecidableEq, Repr

/-- The buffer, the queues and the fabric selectors (chapters 15, 16). -/
structure TmSt where
  bufs : Tbl Buf := []
  nextBuf : Nat := 1
  /-- every queued frame, in admission order -/
  frames : List Frame := []
  /-- ports by number -/
  ports : Tbl PortQ := []
  /-- class-level and group-level DRR of the fabric selector of each destination; key 8 × d + class for the latter -/
  selCls : Tbl Drr := []
  selGrp : Tbl Drr := []
  /-- by VOQ: flow hashes of the frames that stayed queued in the interval in force, and the VOQs passed over (R336) -/
  skips : Tbl (List Nat) := []
  passed : List Nat := []
  /-- ingress groups over their back-pressure threshold, as bits; the shared pool over its own -/
  groupXoff : Nat := 0
  sharedXoff : Bool := false
  /-- cells withdrawn from service (R324) -/
  withdrawn : Nat := 0
  policers : Tbl Policer := []
  polGen : Nat := 0
  deriving DecidableEq, Repr

/-- An event record: EVT_SEQ and the 32 bytes of its event ring entry (R374, R440). -/
structure EvtRec where
  seq : Nat
  entry : Bytes
  deriving DecidableEq, Repr

/-- Counters, snapshots, mirror numbering and the event log (chapter 17). -/
structure ObsSt where
  /-- counters of 72 bits by the address of their record (R363, R364) -/
  cnt : Tbl Nat := []
  /-- words 1 and 2 of the counter record read last, and its address (R364) -/
  cntLatch : Option (Nat × Nat) := none
  /-- clocks at which the snapshots taken leave the queue (R367) -/
  snaps : List Nat := []
  /-- SEQ of copies: sessions 0 to 15, then queues as 16 + q (Table 17.4) -/
  seqs : Tbl Nat := []
  /-- staged records, oldest first -/
  staged : List EvtRec := []
  /-- pages in NVM, oldest first; and pages ever written -/
  pages : List (List EvtRec) := []
  pageCount : Nat := 0
  /-- clock of the next 1 s tick -/
  tickAt : Nat := 0
  deriving DecidableEq, Repr

end Sys2Proof.Machine
end

