-- ==== Sys2Proof/Machine/StateModes.lean ====
section
/-!
DEFINITION. State of modes, power, starts, the Canvas, the thermal unit, the flash, the safety interlock and the pins
(chapters 02 to 04, 23, 24, 26).
-/

namespace Sys2Proof.Machine

/-- A SET_MODE (or the automatic move to START_MODE, tag `none`) that waits for its event (R39). -/
structure PendingMode where
  tag : Option CmdTag
  target : Mode
  swatch : Option Nat
  wait : ModeWait
  deriving DecidableEq, Repr

/-- Operating mode of the module (R33, R37, R39, R411). -/
structure ModeSt where
  mode : Mode := .bootstrap
  pend : Option PendingMode := none
  /-- the mode before the entry to mode 11, to which Table 2.2 lets SET_MODE return -/
  before11 : Mode := .safe
  /-- packet stop of R38 in progress: the clock at which its drain limit expires -/
  drainEnd : Option Nat := none
  /-- the fabric is dark from the next boundary (entry to modes 10 and 11) -/
  darkNext : Bool := false
  /-- the fabric lanes and far outputs are dark for the mode -/
  dark : Bool := true
  deriving DecidableEq, Repr

/-- Power ladder (R42-R51): levels 0 (L0) to 5 (L5). -/
structure PowerSt where
  state : Nat := 0
  target : Nat := 0
  /-- the SET_POWER in progress, completed on arrival -/
  cmd : Option CmdTag := none
  /-- the state to which the rung in progress leads -/
  rung : Option Nat := none
  /-- a keep pass is in progress (R47) -/
  keeping : Bool := false
  /-- the next keep pass, on the slow clock (R47) -/
  keepAt : Option Nat := none
  wakeRefused : Nat := 0
  /-- mean P-die temperature at the entry to L3 or the last keep pass, 0.01 °C, for KEEP_DRIFT (R114) -/
  keepTemp : Int := 0
  deriving DecidableEq, Repr

/-- Reference clocks (R53, Table 2.9). -/
structure ClkSt where
  refAOk : Bool := false
  refBOk : Bool := false
  selB : Bool := false
  holdover : Bool := false
  deriving DecidableEq, Repr

/-- The retention register of the always-on domain (R59, Table 1.4). -/
structure Retention where
  warmFails : Nat := 0
  coldFails : Nat := 0
  failStep : Nat := 0
  failCode : Nat := 0
  rstHold : Nat := 0
  rstStuck : Bool := false
  tripSeen : Bool := false
  shutdownSeen : Bool := false
  wakeSrc : Nat := 0
  tested : Bool := false
  lockout : Bool := false
  faultCode : Nat := 0
  faultWhere : Nat := 0
  faults : Nat := 0
  /-- RST_N chattered before the next start (R69) -/
  rstChatter : Bool := false
  /-- RESET_STUCK waits for the host port (R69) -/
  stuckPending : Bool := false
  /-- the module went to L5 by a thermal shut-down: wakes are refused until the restart condition holds (R50, R491) -/
  thermalL5 : Bool := false
  /-- RED_CLAIM.LAST (R468) -/
  lastClaim : Nat := 0
  /-- a hardware trip is pending its record (R490): the tripped dies, bit 0 E-die, bit 1 P-die -/
  tripDies : Nat := 0
  /-- the trip came in a state whose shut-down record is not yet in the record area (R62, R490) -/
  tripUnrecorded : Bool := false
  /-- mode and power state in force at the trip (R490) -/
  tripMode : Nat := 0
  tripPower : Nat := 0
  /-- thresholds of the restart comparators, 0.5 °C units (R490, R553) -/
  restartThrE : Nat := 190
  restartThrP : Nat := 150
  /-- the rail whose undervoltage was last acted on (R532) -/
  rail : Option Nat := none
  /-- DROP_RESET, the retained count of frames lost in resets (R68, R366) -/
  dropReset : Nat := 0
  deriving DecidableEq, Repr

/-- The seven regions of the retention store, each with its valid flag (R48, R60). -/
structure RetainStore where
  canvas : Bool := false
  calib : Bool := false
  ckpt : Bool := false
  palette : Bool := false
  fdbCls : Bool := false
  counters : Bool := false
  cxWindow : Bool := false
  deriving DecidableEq, Repr

/-- Progress of a start (R57-R75, Tables 3.1, 3.4). -/
structure StartSt where
  /-- a start is running -/
  running : Bool := false
  warm : Bool := false
  cause : Nat := 0
  /-- GEN_START.STEP, 1 to 17 -/
  step : Nat := 0
  /-- GEN_START.STATE: 0 running, 1 waiting, 2 done, 3 halted -/
  state : Nat := 0
  escalated : Bool := false
  retainBad : Bool := false
  /-- clock at which the step in progress began -/
  stepAt : Nat := 0
  /-- step 4 waits for a Canvas from the host (R62) -/
  canvasWait : Bool := false
  /-- the start stands in a HOLD_STEP hold (R74) -/
  held : Bool := false
  /-- clock of the retry after a failed start (R71) -/
  retryAt : Option Nat := none
  /-- cause of the retry that R71 has chosen; `none` for the halt -/
  retryCause : Option Nat := none
  /-- the step whose hold this start has been released from (R74) -/
  released : Nat := 0
  /-- results of steps that a START has brought and that have not been used (model's own) -/
  report : List StepResult := []
  /-- the undervoltage code 0x10 recorded for the next start (R532) -/
  railFail : Bool := false
  deriving DecidableEq, Repr

/-! ### The Canvas (chapter 04) -/

/-- One fuse key slot (R81). -/
structure KeySlot where
  programmed : Bool := false
  hash : Bytes := []
  revoked : Bool := false
  deriving DecidableEq, Repr

/-- One NVM Canvas slot: the image as written and its commit marker (R91, R92, R97). -/
structure CanvasSlot where
  image : Bytes := []
  marker : Bool := false
  deriving DecidableEq, Repr

/-- A staged Canvas (R95, R100). -/
structure Staged where
  image : Bytes
  store : Bool
  timeoutNs : Nat
  expires : Option Nat
  /-- slot written without its marker when `store` is set (R95) -/
  slotB : Bool
  deriving DecidableEq, Repr

/-- A CANVAS_COMMIT that waits for ACTIVATE_AT (R97): the module time, 0 for at once. -/
structure PendingCommit where
  tag : CmdTag
  at_ : Nat
  deriving DecidableEq, Repr

/-- The Canvas block: active image, slots, keys, verification status, staged change (R76-R100). -/
structure CanvasSt where
  /-- the active image; `none` while no Canvas is active -/
  active : Option Bytes := none
  /-- the in-memory copy that R94 checks -/
  memory : Bytes := []
  /-- GEN_CANVAS.SOURCE: 0 none, 1 slot A, 2 slot B, 3 host -/
  source : Nat := 0
  slotA : CanvasSlot := {}
  slotB : CanvasSlot := {}
  keys : List KeySlot := [{}, {}, {}, {}]
  /-- the anti-rollback counter GEN_ARB.COUNT -/
  arb : Nat := 0
  staged : Option Staged := none
  commit : Option PendingCommit := none
  verr : Nat := 0
  verrSect : Nat := 0
  vrec : Nat := 0
  /-- the active Canvas was lost and none is active yet (R94) -/
  lost : Bool := false
  /-- the digest before the last activation and the end of its grace (R99) -/
  oldDigest : Bytes := []
  graceEnd : Option Nat := none
  /-- next 60 s digest check (R94) -/
  checkAt : Nat := 0
  deriving DecidableEq, Repr

/-! ### Thermal unit and flash (chapter 23) -/

/-- One die sensor (R483, Table 23.8). -/
structure Sensor where
  value : Int := 0
  valid : Bool := false
  flagged : Bool := false
  fault : Bool := false
  badRun : Nat := 0
  goodRun : Nat := 0
  deriving DecidableEq, Repr

/-- A shut-down in progress (R488). -/
structure Shutdown where
  /-- clock of the reading or trip that began it -/
  at_ : Nat
  cause : Nat
  dies : Nat
  sensor : Nat
  temp : Nat
  threshold : Nat
  mode : Nat
  power : Nat
  time : Nat
  frames : Nat
  gen : Nat
  /-- the record is committed, or abandoned -/
  recorded : Bool
  deriving DecidableEq, Repr

/-- The thermal unit. -/
structure ThmSt where
  sensors : Tbl Sensor := []
  eState : Nat := 0
  pState : Nat := 0
  /-- clock since which every usable sensor has been 3 °C below the threshold, by die -/
  eBelow : Option Nat := none
  pBelow : Option Nat := none
  /-- clock at which FAST ends -/
  fastUntil : Option Nat := none
  /-- clock of the last reading -/
  readAt : Nat := 0
  throttleMs : Nat := 0
  throttling : Bool := false
  eMax : Int := 0
  pMax : Int := 0
  eSrc : Nat := 0
  pSrc : Nat := 0
  htrW : Nat := 0
  htrMax : Nat := 0
  /-- dies for which THERM_TRIP_N is asserted, bit 0 E-die, bit 1 P-die; 0 while it is released -/
  tripN : Nat := 0
  /-- restart comparators of the E-die and the P-die -/
  restartE : Bool := true
  restartP : Bool := true
  shutdown : Option Shutdown := none
  deriving DecidableEq, Repr

/-- A program or erase of the flash that has been started or waits (R493, R494). -/
inductive FlashJob where
  /-- a page of the event log -/
  | logPage (recs : List EvtRec)
  /-- the calibration image with the stuck table -/
  | calImage
  /-- the offset trims -/
  | trims
  /-- the month's drift entries -/
  | drift
  /-- a shut-down record of 64 bytes -/
  | record (bytes : Bytes)
  /-- a raise of the counter journal -/
  | journal
  deriving DecidableEq, Repr

/-- The in-package flash, beside the images that their own blocks hold. -/
structure NvmSt where
  /-- programs and erases, the one in progress first -/
  jobs : List FlashJob := []
  /-- region of a unit whose program a reset cut short, not yet discarded (R491, Table 23.3) -/
  torn : Option Nat := none
  /-- a program or erase has failed once and is retried (R494) -/
  retried : Bool := false
  /-- counter journal: COUNT, WINDOW, journal sequence in force (R495) -/
  journalCount : Nat := 0
  journalWindow : Nat := 0
  journalSeq : Nat := 0
  journalFailed : Bool := false
  /-- shut-down records, newest first, 64 bytes each; total since manufacture; slots ready -/
  records : List Bytes := []
  recordTotal : Nat := 0
  slots : Nat := 1020
  /-- erases by sector -/
  erases : Tbl Nat := []
  discarded : Nat := 0
  deriving DecidableEq, Repr

/-! ### Laser safety and filtered inputs (chapters 24, 26) -/

/-- One filtered input (R511). -/
structure Filter where
  /-- accepted level: true is the active level -/
  active : Bool := false
  /-- an edge has been accepted since the bank's supply rose -/
  seen : Bool := false
  faulted : Bool := false
  /-- clocks of accepted edges, newest first -/
  edges : List Nat := []
  /-- clock of the last accepted edge -/
  at_ : Nat := 0
  deriving DecidableEq, Repr

/-- The guard (R503). -/
inductive Guard where
  | open_ | closed | disagree
  deriving DecidableEq, Repr

/-- The interlock core and the safety unit (chapter 24). -/
structure SafSt where
  guard : Guard := .open_
  /-- OPEN has been observed from both inputs since VAON rose, and no CLOSED since (R505) -/
  openSeen : Bool := false
  /-- DISAGREE run in samples and the longest since last read, in 0.1 ms ticks -/
  run : Nat := 0
  longest : Nat := 0
  /-- LSR_EN as commanded, and as read back at the pins -/
  lsrEn : Nat := 0
  readback : Nat := 0
  /-- consecutive samples on which each pin differed -/
  misRun : List Nat := [0, 0, 0, 0]
  request : Nat := 0
  /-- clock at which each group's follow window opened -/
  follow : List (Option Nat) := [none, none, none, none]
  /-- a SAF_LASER_SET that waits for feedback, and the groups it changed -/
  pending : Option (CmdTag × Nat) := none
  /-- clock of the press in progress -/
  pressAt : Option Nat := none
  /-- the filter treats SAF_RESET_N as released until 1 s of release (R509) -/
  resetRecovery : Bool := false
  /-- values held by the interlock core (R555): T_DISC_MS, GROUP_WIRED, the 11 records of Table 24.2 -/
  tDisc : Nat := 100
  wired : Nat := 0
  records : List Word := [0x48810055, 0x48810055, 0x38818362, 0x48810052, 0x48810052, 0x48810052, 0x48810052,
    0x46719621, 0x37819131, 0x38827911, 0x65618101]
  deriving DecidableEq, Repr

/-- Supplies and pins (chapters 3, 26). -/
structure PinSt where
  vaon : Bool := false
  rails : Bool := false
  vhtr : Bool := false
  /-- filters: 0, 1 guards, 2 SAF_RESET_N, 3 to 6 LSR_FB, 7 DAC_CLR_N, 8 RST_N, 9 PPS_IN, 10 to 13 TRIG_IN -/
  filters : List Filter := [{}, {}, {}, {}, {}, {}, {}, { active := true }, { active := true }, {}, {}, {}, {}, {}]
  /-- clock at which RST_N was accepted as asserted, and the power state then (R69) -/
  rstAt : Option Nat := none
  rstPower : Nat := 0
  /-- JTAG instruction in force: 0 BYPASS, 1 IDCODE, 2 SAMPLE/PRELOAD, 3 EXTEST, 4 EXTEST_PULSE, 5 EXTEST_TRAIN -/
  jtag : Nat := 1
  /-- boundary pins that a JTAG EXTEST instruction drives -/
  extest : Bool := false
  deriving DecidableEq, Repr

end Sys2Proof.Machine
end

