-- ==== Sys2Proof/Machine/StateSystem.lean ====
section
/-!
DEFINITION. State of the time unit, the Ikile agent, the command exchange, the bus matrix and the control units
(chapters 18 to 22).
-/

namespace Sys2Proof.Machine

/-! ### Time (chapter 18) -/

/-- A step that waits for its AT (R386, R387): amount in ps for a correction, or the new time of a TIME_SET. -/
structure StepWait where
  at_ : Nat
  /-- correction in ps; used where `setTo` is `none` -/
  ps : Int
  setTo : Option Nat
  /-- 1 confirmed, 2 TIME_SET, 3 announced -/
  cause : Nat
  tag : Option CmdTag
  deriving DecidableEq, Repr

/-- A captured edge (Table 18.10). -/
structure Capture where
  stamp : Nat
  rising : Bool
  timeNt : Bool
  deriving DecidableEq, Repr

/-- A TRIG_OUT pin (R396): schedules in 2^-40 ns for START, ns for PERIOD and WIDTH. -/
structure TrigOut where
  /-- the schedule that runs: START, PERIOD, WIDTH -/
  sched : Option (Nat × Nat × Nat) := none
  /-- the schedule ARM took, in force from its START -/
  next : Option (Nat × Nat × Nat) := none
  /-- next k to be produced -/
  k : Nat := 0
  /-- end of the pulse in progress -/
  activeEnd : Option Nat := none
  deriving DecidableEq, Repr

/-- The time unit. Instants are module times in units of 2^-40 ns (R377). -/
structure TimeSt where
  now : Nat := 0
  /-- the counter runs on the slow clock (R378) -/
  slow : Bool := true
  /-- Table 18.1 -/
  state : Nat := 0
  unset : Bool := true
  /-- SRC as applied at the last servo interval; 3 is Ikile -/
  srcUsed : Nat := 0
  y : Int := 0
  integ : Int := 0
  misses : Nat := 0
  good : Nat := 0
  /-- offsets of the interval in progress, ps -/
  offsets : List Int := []
  theta : Option Int := none
  /-- clock at which the servo interval ends -/
  intervalAt : Nat := 0
  jump : Option Int := none
  jumpSeq : Nat := 0
  wait : Option StepWait := none
  /-- STEP fields announced to followers, and the last announcement applied (R387, R406) -/
  annId : Nat := 0
  annPs : Int := 0
  annAt : Nat := 0
  annHeard : Nat := 0
  /-- the last step that took effect: new time at which it did, and its amount in 2^-40 ns (R380) -/
  lastStep : Option (Nat × Int) := none
  /-- latches of TIM_NOW_NS, SEC_LO, SEC_HI and of TIM_JUMP_HI -/
  nowLatch : Nat := 0
  jumpLatch : Word := 0
  /-- capture FIFOs by unit and the words latched by a read of W0 -/
  caps : Tbl (List Capture) := []
  capLatch : Tbl Nat := []
  trigOut : Tbl TrigOut := []
  /-- end of the PPS_OUT pulse in progress -/
  ppsEnd : Option Nat := none
  /-- a PPS_IN edge arrived in the second that ends next (R394) -/
  ppsSeen : Bool := false
  deriving DecidableEq, Repr

/-! ### Ikile (chapter 19) -/

/-- One Ikile port (R401-R406). -/
structure IklPort where
  /-- 0 down, 1 training, 2 up -/
  state : Nat := 0
  peerValid : Bool := false
  peerId : Nat := 0
  peerHop : Nat := 255
  delay : Int := 0
  ofs : Option Int := none
  /-- valid records received since training began, toward the 8 of R401 -/
  goodRecs : Nat := 0
  /-- clock of the last valid record -/
  lastValid : Nat := 0
  txSeq : Nat := 0
  rxSeq : Option Nat := none
  /-- SEQ and transmit stamp of the last EXCH sent, SEQ and receive stamp of the last received -/
  exTx : Option (Nat × Nat) := none
  /-- transmit stamps of earlier EXCH records sent, newest first: SEQ, stamp -/
  exSent : List (Nat × Nat) := []
  exRx : Option (Nat × Nat) := none
  /-- the last EXCH's peer time state -/
  peerTstate : Nat := 0
  /-- clock since which this candidate has offered a HOP below the parent's (R405) -/
  lowerSince : Option Nat := none
  /-- kept down for a DUPLICATE_ID (R424) -/
  dup : Bool := false
  /-- clocks at which the tunnel messages queued will have left, 64 at most (R423) -/
  tunnels : List Nat := []
  deriving DecidableEq, Repr

/-- One entry of the status table (R408): the 96-byte body, its port, and the clock of its arrival. -/
structure ViewEntry where
  body : Bytes
  port : Nat
  at_ : Nat
  deriving DecidableEq, Repr

/-- The leader's book of an open conjunction (R415-R419). -/
structure Proposal where
  tag : CmdTag
  id : Nat
  orbit : Nat
  t : Nat
  epoch : Nat
  voters : List Nat
  joiners : List Nat
  prepared : List Nat
  /-- H of R419 -/
  hops : Nat
  deriving DecidableEq, Repr

/-- What a member holds of a conjunction (R418, R420). -/
structure Held where
  id : Nat
  orbit : Nat
  t : Nat
  epoch : Nat
  leader : Nat
  committed : Bool
  deriving DecidableEq, Repr

/-- The Ikile agent. -/
structure IklSt where
  ports : List IklPort := List.replicate 8 {}
  parent : Option Nat := none
  table : Tbl ViewEntry := []
  cometSeq : Nat := 0
  cometAt : Nat := 0
  leader : Option Nat := none
  excluded : Bool := false
  exclCause : Nat := 0
  stale : Bool := false
  outOfOrbit : Bool := false
  fwRefused : Bool := false
  /-- clock since which the readmission run of R412 stands -/
  readmitAt : Option Nat := none
  epoch : Nat := 0
  /-- clocks of the next EXCH records and of the next SYNC_REQ; SYNC_REQ messages made -/
  exchAt : Nat := 0
  syncAt : Nat := 0
  syncId : Nat := 0
  /-- the last Comet sent announced ELIGIBLE -/
  saidEligible : Bool := false
  lastId : Nat := 0
  prop : Option Proposal := none
  held : Option Held := none
  last : Nat := 0
  reason : Nat := 0
  by_ : Nat := 0
  /-- latest T seen in a PROPOSE (R421) -/
  seenT : Nat := 0
  /-- this module leads and has a quorum in view (R415) -/
  quorumOk : Bool := false
  /-- the voter whose refusal of the newest proposal was heard first: CONJ_ID, module -/
  refuser : Option (Nat × Nat) := none
  /-- conjunction messages seen of late: clock, ORIGIN, KIND, CONJ_ID (R416) -/
  seen : List (Nat × Nat × Nat × Nat) := []
  /-- messages to be sent a second time: the clock at which, the port they do not leave on (8 for none), the body (R416) -/
  repeats : List (Nat × Nat × Bytes) := []
  /-- TUN_SEQ of each channel of this module (R423) -/
  tunSeq : Tbl Nat := []
  /-- newest TUN_SEQ flooded of each SRC and CHANNEL: key 65536 × SRC + CHANNEL -/
  tunSeen : Tbl Nat := []
  deriving DecidableEq, Repr

/-! ### The command exchange (chapter 20) -/

/-- A completion as produced: DEV_SEQ and the 32 bytes of Table 20.2. -/
structure Completion where
  devSeq : Nat
  entry : Bytes
  deriving DecidableEq, Repr

/-- One entry of a duplicate window (R437). -/
structure DupEntry where
  reqId : Nat
  status : Nat
  detail : Bytes
  deriving DecidableEq, Repr

/-- A command in progress, with the clock of its acceptance and of its last CX_PROGRESS (R443). -/
structure InProgress where
  tag : CmdTag
  opcode : Nat
  since : Nat
  toldAt : Nat
  deriving DecidableEq, Repr

/-- One command ring with its completion ring (R433-R439). -/
structure Ring where
  cons : Nat := 0
  devSeq : Nat := 0
  sqDb : Nat := 0
  cqDb : Nat := 0
  error : Bool := false
  /-- entries made available by the doorbell and fetched, oldest first -/
  fetched : List CmdEntry := []
  running : List InProgress := []
  /-- completions held in the module (R430, R434) -/
  held : List Completion := []
  window : List DupEntry := []
  /-- CONS and PROD as latched (R446) -/
  consLatch : Nat := 0
  prodLatch : Nat := 0
  deriving DecidableEq, Repr

/-- One direction of a frame DMA queue (R447). -/
structure FqDir where
  cons : Nat := 0
  db : Nat := 0
  error : Bool := false
  /-- descriptors fetched and not yet used, oldest first -/
  descs : List Descriptor := []
  deriving DecidableEq, Repr

/-- A coalescing source (R429): entries since its last interrupt and the clock of the first. -/
structure Coal where
  count : Nat := 0
  first : Nat := 0
  deriving DecidableEq, Repr

/-- One MSI-X vector. -/
structure Vector64 where
  masked : Bool := true
  pending : Bool := false
  /-- times raised toward the host -/
  raised : Nat := 0
  deriving DecidableEq, Repr

/-- The command exchange and the PCIe endpoint. -/
structure CxSt where
  rings : List Ring := List.replicate 16 {}
  fqTx : List FqDir := List.replicate 8 {}
  fqRx : List FqDir := List.replicate 8 {}
  /-- frames that hold a queue whose launch list is full (R448), by queue -/
  txHeld : Tbl (Nat × Launch) := []
  /-- last EVT_SEQ raised, and CX_EVT.DB -/
  evtSeq : Nat := 0
  evtDb : Nat := 0
  evtLatch : Nat := 0
  /-- WINDOW, held in NVM -/
  window : Nat := 0
  /-- coalescing: rings 0 to 15, the event ring 16, frame queues 24 + q and 32 + q -/
  coal : Tbl Coal := []
  msix : List Vector64 := List.replicate 64 {}
  busMaster : Bool := false
  d3hot : Bool := false
  linkUp : Bool := false
  perst : Bool := true
  deriving DecidableEq, Repr

/-! ### The bus matrix and the control units (chapters 21, 22) -/

/-- One bus master. -/
structure BmMaster where
  inReset : Bool := false
  drained : Bool := true
  deriving DecidableEq, Repr

/-- One bus target. -/
structure BmTarget where
  /-- master granted last -/
  owner : Nat := 0
  /-- the lock in force: master and core; its grant; the longest lock since the last read, in 10 ns units -/
  lockedBy : Option (Nat × Nat) := none
  lockAt : Nat := 0
  lockMax : Nat := 0
  deriving DecidableEq, Repr

/-- The bus matrix. -/
structure BmSt where
  masters : List BmMaster := List.replicate 8 {}
  targets : List BmTarget := List.replicate 12 {}
  /-- requests that wait for a lock, a reset or an ID, oldest first, with the clock of the request -/
  waiting : List (BusReq × Nat) := []
  /-- locks broken whose holder has not been told: master, core, target (R461) -/
  broken : List (Nat × Nat × Nat) := []
  /-- capture of the last error: master, target, code, write, address (Table 21.10) -/
  errMaster : Nat := 0
  errTarget : Nat := 0
  errCode : Nat := 0
  errWrite : Bool := false
  errValid : Bool := false
  errAddr : Nat := 0
  errAddrLatch : Nat := 0
  deriving DecidableEq, Repr

/-- Control-unit states of Table 22.1. -/
inductive UnitState where
  | off | standby | starting | active | testing | failed
  deriving DecidableEq, Repr

/-- One control unit. -/
structure CuUnit where
  state : UnitState := .off
  failed : Bool := false
  cause : Nat := 0
  step : Nat := 0
  times : Nat := 0
  /-- bytes of the two images the program memory holds are of the active Canvas -/
  loaded : Bool := false
  deriving DecidableEq, Repr

/-- One checkpoint buffer (R467), as the state it holds. -/
structure Checkpoint where
  seq : Nat := 0
  period : Nat := 0
  unit : Nat := 0
  claim : Nat := 0
  gen : Nat := 0
  /-- the completion word; right where it is the complement of `seq` -/
  compl : Nat := 0
  /-- PRIV and XCH words by DM key, cell states -/
  dm : Tbl Word := []
  cells : Tbl CellLoop := []
  deriving DecidableEq, Repr

/-- A planned switch-over or a declaration in progress. -/
inductive Switching where
  /-- after a declaration: the other unit starts -/
  | failover (declaredAt : Nat)
  /-- CU_SWITCH, or the commit of a LANE_PROGRAMS change of R98; `stopped` once the active unit's lanes stand at WAITP -/
  | planned (tag : CmdTag) (canvas stopped : Bool)
  deriving DecidableEq, Repr

/-- Redundancy (chapter 22). -/
structure RedSt where
  activeUnit : Nat := 0
  a : CuUnit := {}
  b : CuUnit := {}
  switching : Option Switching := none
  /-- clock at which the starting unit claims, and whether it has (R471) -/
  claimed : Bool := false
  restore : Option (Nat × Option CmdTag) := none
  tie : Bool := false
  ckpt0 : Checkpoint := {}
  ckpt1 : Checkpoint := {}
  ckptSeq : Nat := 0
  /-- what the checkpoint takes, as it stood at 127.6 µs of the period (R199, R467) -/
  snapDm : Tbl Word := []
  snapCells : Tbl CellLoop := []
  /-- clock from which a checkpoint is overdue (R470) -/
  ckptOverdue : Option Nat := none
  lineMiss : Nat := 0
  ckptMiss : Nat := 0
  lineFault : Bool := false
  ckptFault : Bool := false
  /-- the fault of a path was raised and the path has not been heard since -/
  lineDown : Bool := false
  ckptDown : Bool := false
  /-- clock of the first silent interval of each path -/
  lineFirst : Nat := 0
  ckptFirst : Nat := 0
  /-- clock of the last boundary at which outputs took effect (R472) -/
  lastOut : Nat := 0
  gapUs : Nat := 0
  declareUs : Nat := 0
  /-- a resumed unit's first outputs are awaited, to end the gap -/
  gapOpen : Bool := false
  deriving DecidableEq, Repr

end Sys2Proof.Machine
end

