-- ==== Sys2Proof/Machine/State.lean ====
section
/-!
DEFINITION. The state of the block: every register, buffer, counter, mode and pin the spec gives it, and the queue of
commands that wait; the reasons a step can stop; the state before VAON first rises.
-/

namespace Sys2Proof.Machine

/-- Something the module sends or shows outside itself (model's own record, not the spec's). -/
inductive Out where
  /-- a frame's bytes as sent on a member port -/
  | frame (port : Nat) (bytes : Bytes)
  /-- a burst message on a fabric lane -/
  | burst (lane : Nat) (bytes : Bytes)
  /-- a message record on an Ikile port -/
  | ikile (port : Nat) (bytes : Bytes)
  /-- a bus response: master, ID, code, data beats -/
  | bus (master : Nat) (id : Nat) (code : Nat) (data : List (BitVec 128))
  /-- an SMBus block read -/
  | smbus (bytes : Bytes)
  /-- a JTAG read of 32 bits -/
  | jtag (value : Word)
  /-- a pin level: 0 to 3 TRIG_OUT, 4 PPS_OUT -/
  | pin (n : Nat) (high : Bool)
  deriving DecidableEq, Repr

/-- The block. -/
structure State where
  /-- commands that wait, first in first out -/
  pending : List Instr := []
  /-- ns since VAON first rose, on a timebase that no step moves -/
  clk : Nat := 0
  /-- counter from which free values are drawn (model's own) -/
  freeCtr : Nat := 0
  /-- stored register words by BAR0 offset; an unlisted register holds its reset word -/
  regs : Tbl Word := []
  /-- bits of RWL fields that LOCK_LIST locks, by offset (R4, R90) -/
  locks : Tbl Word := []
  /-- clock of the last raise of a rate-limited event, by code × 2^20 + subject -/
  evLast : Tbl Nat := []
  /-- record latched by a read of its first word, by window: its address and words (R191) -/
  winLatch : Tbl (Nat × List Word) := []
  /-- value that the last register read returned (model's own) -/
  readData : Word := 0
  /-- what the module has sent, newest first (model's own) -/
  out : List Out := []
  /-- bytes the module has written to host memory, by address -/
  host : Tbl Byte := []
  /-- GEN_ALERT: EVENT, FIRST_CODE -/
  alertEvent : Bool := false
  alertCode : Nat := 0
  /-- CU_NO_STANDBY raised and no unit ACTIVE since -/
  noStandby : Bool := false
  mode : ModeSt := {}
  pwr : PowerSt := {}
  ref : ClkSt := {}
  ret : Retention := {}
  store : RetainStore := {}
  start : StartSt := {}
  canvas : CanvasSt := {}
  pins : PinSt := {}
  saf : SafSt := {}
  thm : ThmSt := {}
  nvm : NvmSt := {}
  mx : MatrixSt := {}
  orb : OrbitSt := {}
  loops : LoopSt := {}
  eng : EngineSt := {}
  adc : AdcSt := {}
  dac : DacSt := {}
  cal : CalSt := {}
  lanes : Tbl LaneSt := []
  ports : Tbl PortSt := []
  cls : ClsSt := {}
  fdb : FdbSt := {}
  tm : TmSt := {}
  obs : ObsSt := {}
  time : TimeSt := {}
  ikl : IklSt := {}
  cx : CxSt := {}
  bm : BmSt := {}
  red : RedSt := {}
  deriving DecidableEq, Repr

/-- Why a step can end in a fault. The spec names no event that stops the whole block: no meaning raises one. -/
inductive Fault where
  /-- Raised by no meaning; it keeps the type inhabited. Safe: the machine never stops here. -/
  | none
  deriving DecidableEq, Repr

/-- Why a step can be refused. -/
inductive Refusal where
  /-- Raised by an arm of `exec` whose command has no meaning yet. Safe: nothing can be proved of a next state. -/
  | notModelled (mnemonic : String)
  deriving DecidableEq, Repr

/-- The module before VAON first rises: every register at the reset value of its table, memories empty. The first
command of a run from power-on is VAON_RISE. -/
def State.reset : State := {}

end Sys2Proof.Machine
end

