-- ==== Sys2Proof/Machine/Registers.lean ====
section
/-!
DEFINITION. The register map (R2 to R7, Tables 25.1 and 25.5): every register of BAR0 with its offset, repeats, fields,
access codes and reset values, and a name for every field that a register word stores.
-/

namespace Sys2Proof.Machine

/-- Access codes of Table 0.4 (R4). -/
inductive Acc where
  | rw | ro | wo | w1c | w1s | rc | rwl | rws
  deriving DecidableEq, Repr

/-- One field: bits, access, whether the stored register word holds it (else another part of the state does), and
its reset value in repeat `i`. -/
structure FieldDesc where
  hi : Nat
  lo : Nat
  acc : Acc
  stored : Bool
  reset : Nat → Nat

/-- One register, repeated `count` times `stride` bytes apart, and `count2` times `stride2` bytes apart in each. -/
structure RegDesc where
  base : Nat
  stride : Nat
  count : Nat
  stride2 : Nat
  count2 : Nat
  fields : List FieldDesc

/-- A stored field at its offset, with its reset value. -/
structure FieldRef where
  addr : Nat
  hi : Nat
  lo : Nat
  reset : Nat
  deriving DecidableEq, Repr

/-- Reset priorities of Table 21.7: master `m`, target `t`. -/
def priReset (m t : Nat) : Nat :=
  let fast := t = 5 ∨ t = 6 ∨ t = 7
  match m with
  | 0 | 1 => if fast then 7 else 5
  | 5 => if fast then 0 else 6
  | 2 => 3
  | 7 => if fast then 0 else 4
  | _ => 2

/-- GEN registers: GEN_IDENT, GEN_FW_VER, GEN_STATUS, GEN_ALERT, GEN_EVT_ROUTE, GEN_START, GEN_RESET_CAUSE, GEN_START_CTL, GEN_CANVAS, GEN_CANVAS_GEN, GEN_CANVAS_SVN, GEN_ARB. -/
def regsGen : List RegDesc := [
  ⟨0x0, 0, 1, 0, 1,
    [⟨31, 16, .ro, false, fun _ => 20768⟩,
     ⟨15, 12, .ro, false, fun _ => 0⟩,
     ⟨11, 8, .ro, false, fun _ => 0⟩,
     ⟨7, 4, .ro, false, fun _ => 0⟩,
     ⟨3, 0, .ro, false, fun _ => 0⟩]⟩,
  ⟨0x4, 0, 1, 0, 1,
    [⟨31, 24, .ro, false, fun _ => 0⟩,
     ⟨23, 16, .ro, false, fun _ => 0⟩,
     ⟨15, 0, .ro, false, fun _ => 0⟩]⟩,
  ⟨0x8, 0, 1, 0, 1,
    [⟨3, 0, .ro, false, fun _ => 0⟩,
     ⟨6, 4, .ro, false, fun _ => 0⟩,
     ⟨7, 7, .ro, false, fun _ => 0⟩,
     ⟨15, 8, .ro, false, fun _ => 255⟩,
     ⟨24, 16, .ro, false, fun _ => 0⟩,
     ⟨25, 25, .ro, false, fun _ => 0⟩,
     ⟨26, 26, .ro, false, fun _ => 0⟩,
     ⟨27, 27, .ro, false, fun _ => 0⟩]⟩,
  ⟨0xc, 0, 1, 0, 1,
    [⟨0, 0, .ro, false, fun _ => 0⟩,
     ⟨1, 1, .ro, false, fun _ => 0⟩,
     ⟨2, 2, .ro, false, fun _ => 0⟩,
     ⟨3, 3, .ro, false, fun _ => 0⟩,
     ⟨4, 4, .w1c, false, fun _ => 0⟩,
     ⟨15, 8, .ro, false, fun _ => 0⟩,
     ⟨31, 16, .ro, false, fun _ => 0⟩]⟩,
  ⟨0x10, 0, 1, 0, 1,
    [⟨22, 0, .rws, true, fun _ => 0⟩]⟩,
  ⟨0x20, 0, 1, 0, 1,
    [⟨4, 0, .ro, false, fun _ => 0⟩,
     ⟨5, 5, .ro, false, fun _ => 0⟩,
     ⟨7, 6, .ro, false, fun _ => 0⟩,
     ⟨12, 8, .ro, false, fun _ => 0⟩,
     ⟨23, 16, .ro, false, fun _ => 0⟩,
     ⟨25, 24, .ro, false, fun _ => 0⟩,
     ⟨27, 26, .ro, false, fun _ => 0⟩,
     ⟨28, 28, .ro, false, fun _ => 0⟩,
     ⟨29, 29, .ro, false, fun _ => 0⟩]⟩,
  ⟨0x24, 0, 1, 0, 1,
    [⟨3, 0, .ro, false, fun _ => 0⟩,
     ⟨19, 4, .ro, false, fun _ => 0⟩,
     ⟨20, 20, .w1c, false, fun _ => 0⟩,
     ⟨21, 21, .w1c, false, fun _ => 0⟩,
     ⟨22, 22, .w1c, false, fun _ => 0⟩]⟩,
  ⟨0x28, 0, 1, 0, 1,
    [⟨4, 0, .rws, true, fun _ => 0⟩,
     ⟨8, 8, .w1s, false, fun _ => 0⟩]⟩,
  ⟨0x30, 0, 1, 0, 1,
    [⟨1, 0, .ro, false, fun _ => 0⟩,
     ⟨3, 2, .ro, false, fun _ => 0⟩,
     ⟨5, 4, .ro, false, fun _ => 0⟩,
     ⟨15, 8, .ro, false, fun _ => 0⟩,
     ⟨21, 16, .ro, false, fun _ => 0⟩]⟩,
  ⟨0x34, 0, 1, 0, 1,
    [⟨31, 0, .ro, false, fun _ => 0⟩]⟩,
  ⟨0x38, 0, 1, 0, 1,
    [⟨31, 0, .ro, false, fun _ => 0⟩]⟩,
  ⟨0x3c, 0, 1, 0, 1,
    [⟨31, 0, .ro, false, fun _ => 0⟩]⟩]

/-- GEN registers: GEN_SYSDIG, GEN_CANVAS_VREC, GEN_SCRATCH. -/
def regsGen2 : List RegDesc := [
  ⟨0x40, 4, 4, 0, 1,
    [⟨31, 0, .ro, false, fun _ => 0⟩]⟩,
  ⟨0x50, 0, 1, 0, 1,
    [⟨23, 0, .ro, false, fun _ => 0⟩]⟩,
  ⟨0x70, 4, 4, 0, 1,
    [⟨31, 0, .rws, true, fun _ => 0⟩]⟩]

/-- CX registers: CX_CTL, CX_STATE_EPOCH, CX_STATE_EVT, CX_ERR, CX_RING_CTL, CX_RING_STAT, CX_RING_SQ_BASE_LO, CX_RING_SQ_BASE_HI, CX_RING_CQ_BASE_LO, CX_RING_CQ_BASE_HI, CX_RING_SQ_DB, CX_RING_CQ_DB. -/
def regsCx : List RegDesc := [
  ⟨0x10000, 0, 1, 0, 1,
    [⟨0, 0, .rw, true, fun _ => 0⟩]⟩,
  ⟨0x10004, 0, 1, 0, 1,
    [⟨31, 0, .ro, false, fun _ => 0⟩]⟩,
  ⟨0x10008, 0, 1, 0, 1,
    [⟨31, 0, .ro, false, fun _ => 0⟩]⟩,
  ⟨0x1000c, 0, 1, 0, 1,
    [⟨7, 0, .rc, true, fun _ => 0⟩,
     ⟨15, 8, .rc, true, fun _ => 0⟩,
     ⟨31, 16, .rc, true, fun _ => 0⟩]⟩,
  ⟨0x10100, 64, 16, 0, 1,
    [⟨0, 0, .rw, true, fun _ => 0⟩,
     ⟨1, 1, .w1s, false, fun _ => 0⟩,
     ⟨13, 8, .rw, true, fun i => i⟩,
     ⟨23, 16, .rw, true, fun _ => 0⟩,
     ⟨31, 24, .rw, true, fun _ => 0⟩]⟩,
  ⟨0x10104, 64, 16, 0, 1,
    [⟨1, 0, .ro, false, fun _ => 0⟩,
     ⟨2, 2, .ro, false, fun _ => 0⟩,
     ⟨28, 16, .ro, false, fun _ => 0⟩]⟩,
  ⟨0x10108, 64, 16, 0, 1,
    [⟨31, 0, .rw, true, fun _ => 0⟩]⟩,
  ⟨0x1010c, 64, 16, 0, 1,
    [⟨31, 0, .rw, true, fun _ => 0⟩]⟩,
  ⟨0x10110, 64, 16, 0, 1,
    [⟨31, 0, .rw, true, fun _ => 0⟩]⟩,
  ⟨0x10114, 64, 16, 0, 1,
    [⟨31, 0, .rw, true, fun _ => 0⟩]⟩,
  ⟨0x10118, 64, 16, 0, 1,
    [⟨31, 0, .wo, false, fun _ => 0⟩]⟩,
  ⟨0x1011c, 64, 16, 0, 1,
    [⟨31, 0, .rw, false, fun _ => 0⟩]⟩]

/-- CX registers: CX_RING_CONS, CX_RING_PROD, CX_EVT_CTL, CX_EVT_BASE_LO, CX_EVT_BASE_HI, CX_EVT_DB, CX_FQ_CTL, CX_FQ_COAL, CX_FQ_TX_BASE_LO, CX_FQ_TX_BASE_HI, CX_FQ_RX_BASE_LO, CX_FQ_RX_BASE_HI. -/
def regsCx2 : List RegDesc := [
  ⟨0x10120, 64, 16, 0, 1,
    [⟨31, 0, .ro, false, fun _ => 0⟩]⟩,
  ⟨0x10124, 64, 16, 0, 1,
    [⟨31, 0, .ro, false, fun _ => 0⟩]⟩,
  ⟨0x10800, 0, 1, 0, 1,
    [⟨0, 0, .rw, true, fun _ => 0⟩,
     ⟨13, 8, .rw, true, fun _ => 16⟩,
     ⟨23, 16, .rw, true, fun _ => 0⟩,
     ⟨31, 24, .rw, true, fun _ => 0⟩]⟩,
  ⟨0x10808, 0, 1, 0, 1,
    [⟨31, 0, .rw, true, fun _ => 0⟩]⟩,
  ⟨0x1080c, 0, 1, 0, 1,
    [⟨31, 0, .rw, true, fun _ => 0⟩]⟩,
  ⟨0x10810, 0, 1, 0, 1,
    [⟨31, 0, .rw, false, fun _ => 0⟩]⟩,
  ⟨0x11000, 64, 8, 0, 1,
    [⟨0, 0, .rw, true, fun _ => 0⟩,
     ⟨1, 1, .rw, true, fun _ => 0⟩,
     ⟨13, 8, .rw, true, fun i => 24 + i⟩,
     ⟨21, 16, .rw, true, fun i => 32 + i⟩,
     ⟨29, 22, .rw, true, fun _ => 0⟩]⟩,
  ⟨0x11004, 64, 8, 0, 1,
    [⟨15, 0, .rw, true, fun _ => 0⟩]⟩,
  ⟨0x11008, 64, 8, 0, 1,
    [⟨31, 0, .rw, true, fun _ => 0⟩]⟩,
  ⟨0x1100c, 64, 8, 0, 1,
    [⟨31, 0, .rw, true, fun _ => 0⟩]⟩,
  ⟨0x11010, 64, 8, 0, 1,
    [⟨31, 0, .rw, true, fun _ => 0⟩]⟩,
  ⟨0x11014, 64, 8, 0, 1,
    [⟨31, 0, .rw, true, fun _ => 0⟩]⟩]

/-- CX registers: CX_FQ_TX_DB, CX_FQ_RX_DB, CX_FQ_TX_CONS, CX_FQ_RX_CONS. -/
def regsCx3 : List RegDesc := [
  ⟨0x11018, 64, 8, 0, 1,
    [⟨31, 0, .wo, false, fun _ => 0⟩]⟩,
  ⟨0x1101c, 64, 8, 0, 1,
    [⟨31, 0, .wo, false, fun _ => 0⟩]⟩,
  ⟨0x11020, 64, 8, 0, 1,
    [⟨31, 0, .ro, false, fun _ => 0⟩]⟩,
  ⟨0x11024, 64, 8, 0, 1,
    [⟨31, 0, .ro, false, fun _ => 0⟩]⟩]

/-- BM registers: BM_MST_STAT, BM_PRI_LO, BM_PRI_HI, BM_PATH, BM_TGT_STAT, BM_ERR, BM_ERR_INFO, BM_ERR_ADDR. -/
def regsBm : List RegDesc := [
  ⟨0x20000, 4, 8, 0, 1,
    [⟨6, 0, .ro, false, fun _ => 0⟩,
     ⟨7, 7, .ro, false, fun _ => 0⟩,
     ⟨8, 8, .ro, false, fun _ => 0⟩,
     ⟨9, 9, .ro, false, fun _ => 0⟩,
     ⟨13, 10, .ro, false, fun _ => 0⟩]⟩,
  ⟨0x20040, 8, 8, 0, 1,
    [⟨2, 0, .rwl, true, fun i => priReset i 0⟩,
     ⟨6, 4, .rwl, true, fun i => priReset i 1⟩,
     ⟨10, 8, .rwl, true, fun i => priReset i 2⟩,
     ⟨14, 12, .rwl, true, fun i => priReset i 3⟩,
     ⟨18, 16, .rwl, true, fun i => priReset i 4⟩,
     ⟨22, 20, .rwl, true, fun i => priReset i 5⟩,
     ⟨26, 24, .rwl, true, fun i => priReset i 6⟩,
     ⟨30, 28, .rwl, true, fun i => priReset i 7⟩]⟩,
  ⟨0x20044, 8, 8, 0, 1,
    [⟨2, 0, .rwl, true, fun i => priReset i 8⟩,
     ⟨6, 4, .rwl, true, fun i => priReset i 9⟩,
     ⟨10, 8, .rwl, true, fun i => priReset i 10⟩,
     ⟨14, 12, .rwl, true, fun i => priReset i 11⟩]⟩,
  ⟨0x20080, 4, 8, 0, 1,
    [⟨11, 0, .ro, false, fun _ => 0⟩]⟩,
  ⟨0x200c0, 4, 12, 0, 1,
    [⟨2, 0, .ro, false, fun _ => 0⟩,
     ⟨3, 3, .ro, false, fun _ => 0⟩,
     ⟨4, 4, .ro, false, fun _ => 0⟩,
     ⟨7, 5, .ro, false, fun _ => 0⟩,
     ⟨25, 16, .rc, false, fun _ => 0⟩]⟩,
  ⟨0x20100, 0, 1, 0, 1,
    [⟨7, 0, .rc, true, fun _ => 0⟩,
     ⟨15, 8, .rc, true, fun _ => 0⟩,
     ⟨23, 16, .rc, true, fun _ => 0⟩]⟩,
  ⟨0x20104, 0, 1, 0, 1,
    [⟨2, 0, .ro, false, fun _ => 0⟩,
     ⟨6, 3, .ro, false, fun _ => 0⟩,
     ⟨9, 7, .ro, false, fun _ => 0⟩,
     ⟨10, 10, .ro, false, fun _ => 0⟩,
     ⟨11, 11, .rc, false, fun _ => 0⟩]⟩,
  ⟨0x20108, 0, 1, 0, 1,
    [⟨31, 0, .ro, false, fun _ => 0⟩]⟩]

/-- PWR registers: PWR_STATUS, PWR_KEEP, PWR_CLK. -/
def regsPwr : List RegDesc := [
  ⟨0x30000, 0, 1, 0, 1,
    [⟨2, 0, .ro, false, fun _ => 0⟩,
     ⟨6, 4, .ro, false, fun _ => 0⟩,
     ⟨7, 7, .ro, false, fun _ => 0⟩,
     ⟨10, 8, .ro, false, fun _ => 0⟩,
     ⟨11, 11, .ro, false, fun _ => 0⟩,
     ⟨23, 16, .rc, false, fun _ => 0⟩]⟩,
  ⟨0x30004, 0, 1, 0, 1,
    [⟨5, 0, .rw, true, fun _ => 10⟩]⟩,
  ⟨0x30008, 0, 1, 0, 1,
    [⟨0, 0, .ro, false, fun _ => 0⟩,
     ⟨1, 1, .ro, false, fun _ => 0⟩,
     ⟨2, 2, .ro, false, fun _ => 0⟩,
     ⟨3, 3, .ro, false, fun _ => 0⟩,
     ⟨4, 4, .rws, true, fun _ => 0⟩,
     ⟨8, 8, .w1c, true, fun _ => 0⟩]⟩]

/-- THM registers: THM_CTL, THM_THR_E0, THM_THR_E1, THM_THR_P0, THM_THR_P1, THM_STATUS, THM_MAX, THM_MAX_SRC, THM_HTR, THM_THROTTLE_MS, THM_SENS. -/
def regsThm : List RegDesc := [
  ⟨0x40000, 0, 1, 0, 1,
    [⟨0, 0, .rw, true, fun _ => 0⟩,
     ⟨1, 1, .rwl, true, fun _ => 0⟩,
     ⟨3, 2, .rwl, true, fun _ => 0⟩,
     ⟨14, 4, .rwl, true, fun _ => 2⟩]⟩,
  ⟨0x40004, 0, 1, 0, 1,
    [⟨15, 0, .rwl, true, fun _ => 190⟩,
     ⟨31, 16, .rwl, true, fun _ => 200⟩]⟩,
  ⟨0x40008, 0, 1, 0, 1,
    [⟨15, 0, .rwl, true, fun _ => 220⟩,
     ⟨31, 16, .ro, false, fun _ => 0⟩]⟩,
  ⟨0x4000c, 0, 1, 0, 1,
    [⟨15, 0, .rwl, true, fun _ => 150⟩,
     ⟨31, 16, .rwl, true, fun _ => 160⟩]⟩,
  ⟨0x40010, 0, 1, 0, 1,
    [⟨15, 0, .rwl, true, fun _ => 180⟩,
     ⟨31, 16, .ro, false, fun _ => 0⟩]⟩,
  ⟨0x40014, 0, 1, 0, 1,
    [⟨2, 0, .ro, false, fun _ => 0⟩,
     ⟨5, 3, .ro, false, fun _ => 0⟩,
     ⟨6, 6, .ro, false, fun _ => 0⟩,
     ⟨7, 7, .ro, false, fun _ => 0⟩,
     ⟨8, 8, .ro, false, fun _ => 0⟩,
     ⟨9, 9, .ro, false, fun _ => 0⟩]⟩,
  ⟨0x40018, 0, 1, 0, 1,
    [⟨15, 0, .ro, false, fun _ => 0⟩,
     ⟨31, 16, .ro, false, fun _ => 0⟩]⟩,
  ⟨0x4001c, 0, 1, 0, 1,
    [⟨6, 0, .ro, false, fun _ => 0⟩,
     ⟨12, 8, .ro, false, fun _ => 0⟩]⟩,
  ⟨0x40020, 0, 1, 0, 1,
    [⟨15, 0, .ro, false, fun _ => 0⟩,
     ⟨31, 16, .rc, false, fun _ => 0⟩]⟩,
  ⟨0x40024, 0, 1, 0, 1,
    [⟨31, 0, .ro, false, fun _ => 0⟩]⟩,
  ⟨0x40100, 4, 96, 0, 1,
    [⟨15, 0, .ro, false, fun _ => 0⟩,
     ⟨16, 16, .ro, false, fun _ => 0⟩,
     ⟨17, 17, .ro, false, fun _ => 0⟩,
     ⟨18, 18, .ro, false, fun _ => 0⟩]⟩]

/-- SAF registers: SAF_STATUS, SAF_FAULT, SAF_DISC, SAF_CFG, SAF_FILT, SAF_INPUT. -/
def regsSaf : List RegDesc := [
  ⟨0x50000, 0, 1, 0, 1,
    [⟨1, 0, .ro, false, fun _ => 0⟩,
     ⟨2, 2, .ro, false, fun _ => 0⟩,
     ⟨3, 3, .ro, false, fun _ => 0⟩,
     ⟨7, 4, .ro, false, fun _ => 0⟩,
     ⟨11, 8, .ro, false, fun _ => 0⟩,
     ⟨15, 12, .ro, false, fun _ => 0⟩,
     ⟨19, 16, .ro, false, fun _ => 0⟩,
     ⟨20, 20, .ro, false, fun _ => 0⟩]⟩,
  ⟨0x50004, 0, 1, 0, 1,
    [⟨7, 0, .ro, false, fun _ => 0⟩,
     ⟨11, 8, .ro, false, fun _ => 0⟩,
     ⟨31, 16, .ro, false, fun _ => 0⟩]⟩,
  ⟨0x50008, 0, 1, 0, 1,
    [⟨13, 0, .rc, false, fun _ => 0⟩]⟩,
  ⟨0x5000c, 0, 1, 0, 1,
    [⟨9, 0, .rwl, false, fun _ => 0⟩,
     ⟨19, 16, .rwl, false, fun _ => 0⟩]⟩,
  ⟨0x50010, 4, 11, 0, 1,
    [⟨31, 0, .rwl, false, fun _ => 0⟩]⟩,
  ⟨0x50040, 0, 1, 0, 1,
    [⟨6, 0, .ro, false, fun _ => 0⟩,
     ⟨22, 16, .ro, false, fun _ => 0⟩]⟩]

/-- NVM registers: NVM_STATUS, NVM_LOG, NVM_ERR. -/
def regsNvm : List RegDesc := [
  ⟨0x60000, 0, 1, 0, 1,
    [⟨0, 0, .ro, false, fun _ => 0⟩,
     ⟨1, 1, .ro, false, fun _ => 0⟩,
     ⟨15, 8, .ro, false, fun _ => 0⟩,
     ⟨31, 16, .ro, false, fun _ => 0⟩]⟩,
  ⟨0x60004, 0, 1, 0, 1,
    [⟨31, 0, .ro, false, fun _ => 0⟩]⟩,
  ⟨0x60008, 0, 1, 0, 1,
    [⟨7, 0, .rc, true, fun _ => 0⟩,
     ⟨15, 8, .rc, true, fun _ => 0⟩]⟩]

/-- TIM registers: TIM_CTL, TIM_STATUS, TIM_NOW_FRAC, TIM_NOW_NS, TIM_NOW_SEC_LO, TIM_NOW_SEC_HI, TIM_JUMP_THR, TIM_SERVO, TIM_SERVO2, TIM_LOCK, TIM_OFFSET, TIM_FREQ. -/
def regsTim : List RegDesc := [
  ⟨0x70000, 0, 1, 0, 1,
    [⟨1, 0, .rw, true, fun _ => 0⟩]⟩,
  ⟨0x70004, 0, 1, 0, 1,
    [⟨2, 0, .ro, false, fun _ => 0⟩,
     ⟨3, 3, .ro, false, fun _ => 0⟩,
     ⟨4, 4, .ro, false, fun _ => 1⟩,
     ⟨6, 5, .ro, false, fun _ => 0⟩,
     ⟨7, 7, .ro, false, fun _ => 0⟩,
     ⟨31, 16, .ro, false, fun _ => 0⟩]⟩,
  ⟨0x70008, 0, 1, 0, 1,
    [⟨15, 0, .ro, false, fun _ => 0⟩]⟩,
  ⟨0x7000c, 0, 1, 0, 1,
    [⟨29, 0, .ro, false, fun _ => 0⟩]⟩,
  ⟨0x70010, 0, 1, 0, 1,
    [⟨31, 0, .ro, false, fun _ => 0⟩]⟩,
  ⟨0x70014, 0, 1, 0, 1,
    [⟨15, 0, .ro, false, fun _ => 0⟩]⟩,
  ⟨0x70018, 0, 1, 0, 1,
    [⟨29, 0, .rw, true, fun _ => 1000⟩]⟩,
  ⟨0x7001c, 0, 1, 0, 1,
    [⟨15, 0, .rw, true, fun _ => 137⟩,
     ⟨31, 16, .rw, true, fun _ => 4295⟩]⟩,
  ⟨0x70020, 0, 1, 0, 1,
    [⟨4, 0, .rw, true, fun _ => 0⟩,
     ⟨12, 8, .rw, true, fun _ => 10⟩,
     ⟨31, 16, .rw, true, fun _ => 8⟩]⟩,
  ⟨0x70024, 0, 1, 0, 1,
    [⟨15, 0, .rw, true, fun _ => 1000⟩,
     ⟨23, 16, .rw, true, fun _ => 16⟩]⟩,
  ⟨0x70028, 0, 1, 0, 1,
    [⟨31, 0, .ro, false, fun _ => 0⟩]⟩,
  ⟨0x7002c, 0, 1, 0, 1,
    [⟨31, 0, .ro, false, fun _ => 0⟩]⟩]

/-- TIM registers: TIM_JUMP_LO, TIM_JUMP_HI, TIM_PPS_OUT, TIM_PPS_IN, TIM_TRIG_IN, TIM_CAP_W0, TIM_CAP_W1, TIM_CAP_W2, TIM_CAP_W3, TIM_TRIG_OUT_CTL, TIM_TRIG_OUT_START_LO, TIM_TRIG_OUT_START_HI. -/
def regsTim2 : List RegDesc := [
  ⟨0x70030, 0, 1, 0, 1,
    [⟨31, 0, .ro, false, fun _ => 0⟩]⟩,
  ⟨0x70034, 0, 1, 0, 1,
    [⟨31, 0, .ro, false, fun _ => 0⟩]⟩,
  ⟨0x70038, 0, 1, 0, 1,
    [⟨0, 0, .rw, true, fun _ => 0⟩,
     ⟨1, 1, .rw, true, fun _ => 1⟩,
     ⟨20, 2, .rw, true, fun _ => 0x186a0⟩]⟩,
  ⟨0x7003c, 0, 1, 0, 1,
    [⟨23, 0, .rw, true, fun _ => 0⟩,
     ⟨24, 24, .rw, true, fun _ => 0⟩]⟩,
  ⟨0x70040, 4, 4, 0, 1,
    [⟨0, 0, .rw, true, fun _ => 0⟩,
     ⟨2, 1, .rw, true, fun _ => 1⟩,
     ⟨12, 8, .ro, false, fun _ => 0⟩,
     ⟨13, 13, .ro, false, fun _ => 0⟩]⟩,
  ⟨0x70080, 16, 5, 0, 1,
    [⟨31, 0, .ro, false, fun _ => 0⟩]⟩,
  ⟨0x70084, 16, 5, 0, 1,
    [⟨31, 0, .ro, false, fun _ => 0⟩]⟩,
  ⟨0x70088, 16, 5, 0, 1,
    [⟨31, 0, .ro, false, fun _ => 0⟩]⟩,
  ⟨0x7008c, 16, 5, 0, 1,
    [⟨31, 0, .ro, false, fun _ => 0⟩]⟩,
  ⟨0x70100, 32, 4, 0, 1,
    [⟨0, 0, .rw, true, fun _ => 0⟩,
     ⟨1, 1, .rw, true, fun _ => 0⟩,
     ⟨2, 2, .w1s, false, fun _ => 0⟩,
     ⟨3, 3, .ro, false, fun _ => 0⟩,
     ⟨4, 4, .ro, false, fun _ => 0⟩]⟩,
  ⟨0x70104, 32, 4, 0, 1,
    [⟨31, 0, .rw, true, fun _ => 0⟩]⟩,
  ⟨0x70108, 32, 4, 0, 1,
    [⟨15, 0, .rw, true, fun _ => 0⟩]⟩]

/-- TIM registers: TIM_TRIG_OUT_START_NS, TIM_TRIG_OUT_PERIOD, TIM_TRIG_OUT_WIDTH. -/
def regsTim3 : List RegDesc := [
  ⟨0x7010c, 32, 4, 0, 1,
    [⟨29, 0, .rw, true, fun _ => 0⟩]⟩,
  ⟨0x70110, 32, 4, 0, 1,
    [⟨31, 0, .rw, true, fun _ => 0⟩]⟩,
  ⟨0x70114, 32, 4, 0, 1,
    [⟨29, 0, .rw, true, fun _ => 1000⟩]⟩]

/-- IKL registers: IKL_CTL, IKL_STATUS, IKL_SETS, IKL_FLAGS, IKL_EPOCH, IKL_CONJ, IKL_CONJ_ID, IKL_PORT, IKL_PORT_ASYM, IKL_PORT_DELAY, IKL_PORT_OFS. -/
def regsIkl : List RegDesc := [
  ⟨0x80000, 0, 1, 0, 1,
    [⟨7, 0, .rw, true, fun _ => 255⟩,
     ⟨10, 8, .rw, true, fun _ => 0⟩,
     ⟨11, 11, .rw, true, fun _ => 1⟩]⟩,
  ⟨0x80004, 0, 1, 0, 1,
    [⟨8, 0, .ro, false, fun _ => 0⟩,
     ⟨9, 9, .ro, false, fun _ => 0⟩,
     ⟨10, 10, .ro, false, fun _ => 0⟩,
     ⟨11, 11, .ro, false, fun _ => 0⟩,
     ⟨12, 12, .ro, false, fun _ => 0⟩,
     ⟨23, 16, .ro, false, fun _ => 255⟩]⟩,
  ⟨0x80008, 0, 1, 0, 1,
    [⟨9, 0, .ro, false, fun _ => 1⟩,
     ⟨25, 16, .ro, false, fun _ => 1⟩]⟩,
  ⟨0x8000c, 0, 1, 0, 1,
    [⟨7, 0, .ro, false, fun _ => 0⟩,
     ⟨31, 16, .ro, false, fun _ => 0⟩]⟩,
  ⟨0x80010, 0, 1, 0, 1,
    [⟨31, 0, .ro, false, fun _ => 0⟩]⟩,
  ⟨0x80014, 0, 1, 0, 1,
    [⟨1, 0, .ro, false, fun _ => 0⟩,
     ⟨3, 2, .ro, false, fun _ => 0⟩,
     ⟨11, 4, .ro, false, fun _ => 0⟩,
     ⟨20, 12, .ro, false, fun _ => 0⟩]⟩,
  ⟨0x80018, 0, 1, 0, 1,
    [⟨31, 0, .ro, false, fun _ => 0⟩]⟩,
  ⟨0x80040, 16, 8, 0, 1,
    [⟨1, 0, .ro, false, fun _ => 0⟩,
     ⟨2, 2, .ro, false, fun _ => 0⟩,
     ⟨3, 3, .ro, false, fun _ => 0⟩,
     ⟨12, 4, .ro, false, fun _ => 0⟩,
     ⟨23, 16, .ro, false, fun _ => 255⟩]⟩,
  ⟨0x80044, 16, 8, 0, 1,
    [⟨31, 0, .rw, true, fun _ => 0⟩]⟩,
  ⟨0x80048, 16, 8, 0, 1,
    [⟨31, 0, .ro, false, fun _ => 0⟩]⟩,
  ⟨0x8004c, 16, 8, 0, 1,
    [⟨31, 0, .ro, false, fun _ => 0⟩]⟩]

/-- RED registers: RED_CTL, RED_STATUS, RED_HB, RED_CKPT, RED_CLAIM, RED_GAP, RED_FAIL. -/
def regsRed : List RegDesc := [
  ⟨0x90000, 0, 1, 0, 1,
    [⟨0, 0, .rw, true, fun _ => 1⟩,
     ⟨1, 1, .rws, true, fun _ => 0⟩]⟩,
  ⟨0x90004, 0, 1, 0, 1,
    [⟨0, 0, .ro, false, fun _ => 0⟩,
     ⟨3, 1, .ro, false, fun _ => 0⟩,
     ⟨6, 4, .ro, false, fun _ => 0⟩,
     ⟨7, 7, .ro, false, fun _ => 0⟩,
     ⟨8, 8, .ro, false, fun _ => 0⟩]⟩,
  ⟨0x90008, 0, 1, 0, 1,
    [⟨1, 0, .ro, false, fun _ => 0⟩,
     ⟨3, 2, .ro, false, fun _ => 0⟩,
     ⟨4, 4, .w1c, false, fun _ => 0⟩,
     ⟨5, 5, .w1c, false, fun _ => 0⟩]⟩,
  ⟨0x9000c, 0, 1, 0, 1,
    [⟨31, 0, .ro, false, fun _ => 0⟩]⟩,
  ⟨0x90010, 0, 1, 0, 1,
    [⟨15, 0, .ro, false, fun _ => 0⟩,
     ⟨16, 16, .ro, false, fun _ => 0⟩,
     ⟨17, 17, .ro, false, fun _ => 0⟩]⟩,
  ⟨0x90014, 0, 1, 0, 1,
    [⟨15, 0, .ro, false, fun _ => 0⟩,
     ⟨31, 16, .ro, false, fun _ => 0⟩]⟩,
  ⟨0x90020, 4, 2, 0, 1,
    [⟨2, 0, .rws, false, fun _ => 0⟩,
     ⟨7, 3, .rws, false, fun _ => 0⟩,
     ⟨31, 16, .rws, false, fun _ => 0⟩]⟩]

/-- CAL registers: CAL_CTL, CAL_TOL, CAL_STATUS, CAL_IMG_GEN, CAL_AGE, CAL_ERR, CAL_ZONE. -/
def regsCal : List RegDesc := [
  ⟨0xa0000, 0, 1, 0, 1,
    [⟨0, 0, .rw, true, fun _ => 1⟩,
     ⟨1, 1, .rw, true, fun _ => 1⟩,
     ⟨2, 2, .rw, true, fun _ => 1⟩,
     ⟨11, 4, .rw, true, fun _ => 64⟩,
     ⟨31, 20, .rw, true, fun _ => 60⟩]⟩,
  ⟨0xa0004, 0, 1, 0, 1,
    [⟨9, 0, .rw, true, fun _ => 50⟩,
     ⟨18, 12, .rw, true, fun _ => 10⟩,
     ⟨27, 20, .rw, true, fun _ => 4⟩]⟩,
  ⟨0xa0008, 0, 1, 0, 1,
    [⟨1, 0, .ro, false, fun _ => 0⟩,
     ⟨4, 2, .ro, false, fun _ => 0⟩,
     ⟨5, 5, .ro, false, fun _ => 0⟩,
     ⟨15, 8, .ro, false, fun _ => 0⟩,
     ⟨29, 16, .ro, false, fun _ => 0⟩]⟩,
  ⟨0xa000c, 0, 1, 0, 1,
    [⟨31, 0, .ro, false, fun _ => 0⟩]⟩,
  ⟨0xa0010, 0, 1, 0, 1,
    [⟨7, 0, .rw, true, fun _ => 50⟩]⟩,
  ⟨0xa0014, 0, 1, 0, 1,
    [⟨15, 0, .rc, true, fun _ => 0⟩,
     ⟨31, 16, .rc, true, fun _ => 0⟩]⟩,
  ⟨0xa0040, 4, 32, 0, 1,
    [⟨15, 0, .ro, false, fun _ => 0⟩,
     ⟨18, 16, .ro, false, fun _ => 0⟩,
     ⟨19, 19, .ro, false, fun _ => 0⟩]⟩]

/-- ADC registers: ADC_REF_CTL, ADC_REF_STAT, ADC_REF_INFO, ADC_CHK_CTL, ADC_PAIR_FLAG, ADC_ERR, ADC_CLAIM, ADC_DIRECT, ADC_DIRECT_DATA, ADC_CHK, ADC_HK. -/
def regsAdc : List RegDesc := [
  ⟨0xb0000, 0, 1, 0, 1,
    [⟨0, 0, .rw, true, fun _ => 0⟩]⟩,
  ⟨0xb0004, 0, 1, 0, 1,
    [⟨4, 0, .ro, false, fun _ => 0⟩]⟩,
  ⟨0xb0008, 0, 1, 0, 1,
    [⟨15, 0, .ro, false, fun _ => 0⟩,
     ⟨28, 16, .ro, false, fun _ => 0⟩]⟩,
  ⟨0xb000c, 0, 1, 0, 1,
    [⟨10, 0, .rw, true, fun _ => 16⟩,
     ⟨11, 11, .rw, true, fun _ => 0⟩,
     ⟨23, 16, .rw, true, fun _ => 16⟩]⟩,
  ⟨0xb0010, 0, 1, 0, 1,
    [⟨15, 0, .w1c, false, fun _ => 0⟩,
     ⟨31, 16, .rw, true, fun _ => 0⟩]⟩,
  ⟨0xb0014, 0, 1, 0, 1,
    [⟨7, 0, .rc, true, fun _ => 0⟩,
     ⟨15, 8, .rc, true, fun _ => 0⟩,
     ⟨23, 16, .rc, true, fun _ => 0⟩]⟩,
  ⟨0xb0018, 0, 1, 0, 1,
    [⟨15, 0, .ro, false, fun _ => 0⟩,
     ⟨16, 16, .ro, false, fun _ => 0⟩,
     ⟨17, 17, .ro, false, fun _ => 0⟩,
     ⟨18, 18, .ro, false, fun _ => 0⟩]⟩,
  ⟨0xb0020, 0, 1, 0, 1,
    [⟨13, 0, .rw, true, fun _ => 0⟩,
     ⟨15, 15, .w1s, false, fun _ => 0⟩]⟩,
  ⟨0xb0024, 0, 1, 0, 1,
    [⟨15, 0, .ro, false, fun _ => 0⟩,
     ⟨16, 16, .rc, true, fun _ => 0⟩,
     ⟨19, 17, .ro, false, fun _ => 0⟩]⟩,
  ⟨0xb0040, 4, 16, 0, 1,
    [⟨10, 0, .ro, false, fun _ => 0⟩,
     ⟨13, 11, .ro, false, fun _ => 0⟩,
     ⟨19, 16, .ro, false, fun _ => 0⟩,
     ⟨31, 24, .rc, false, fun _ => 0⟩]⟩,
  ⟨0xb0200, 4, 128, 0, 1,
    [⟨15, 0, .ro, false, fun _ => 0⟩,
     ⟨16, 16, .ro, false, fun _ => 0⟩,
     ⟨17, 17, .ro, false, fun _ => 0⟩]⟩]

/-- DAC registers: DAC_HTR_SLEW, DAC_STATUS, DAC_CLAIM, DAC_MON_SEL, DAC_MON_DATA, DAC_MON_DATA2, DAC_ERR. -/
def regsDac : List RegDesc := [
  ⟨0xc0000, 0, 1, 0, 1,
    [⟨8, 0, .rw, true, fun _ => 16⟩,
     ⟨31, 16, .rw, true, fun _ => 1⟩]⟩,
  ⟨0xc0004, 0, 1, 0, 1,
    [⟨0, 0, .ro, false, fun _ => 1⟩,
     ⟨1, 1, .ro, false, fun _ => 0⟩,
     ⟨2, 2, .ro, false, fun _ => 0⟩,
     ⟨3, 3, .ro, false, fun _ => 0⟩]⟩,
  ⟨0xc0008, 0, 1, 0, 1,
    [⟨15, 0, .ro, false, fun _ => 0⟩,
     ⟨16, 16, .ro, false, fun _ => 0⟩,
     ⟨17, 17, .ro, false, fun _ => 0⟩,
     ⟨18, 18, .ro, false, fun _ => 0⟩]⟩,
  ⟨0xc000c, 0, 1, 0, 1,
    [⟨12, 0, .rw, true, fun _ => 0⟩]⟩,
  ⟨0xc0010, 0, 1, 0, 1,
    [⟨15, 0, .ro, false, fun _ => 0⟩,
     ⟨25, 16, .ro, false, fun _ => 0⟩,
     ⟨26, 26, .ro, false, fun _ => 0⟩]⟩,
  ⟨0xc0014, 0, 1, 0, 1,
    [⟨15, 0, .ro, false, fun _ => 0⟩,
     ⟨31, 16, .ro, false, fun _ => 0⟩]⟩,
  ⟨0xc0018, 0, 1, 0, 1,
    [⟨7, 0, .rc, true, fun _ => 0⟩,
     ⟨15, 8, .rc, true, fun _ => 0⟩,
     ⟨23, 16, .rc, true, fun _ => 0⟩]⟩]

/-- LE registers: LE_LOOP_CTL, LE_LOOP_LEVELS, LE_LOOP_TREF, LE_LOOP_CMD, LE_LOOP_STAGE, LE_LOOP_SUM, LE_LOOP_PERIOD_LO, LE_LOOP_PERIOD_HI, LE_LOOP_ERR, LE_LANE_CTL, LE_LANE_SEL, LE_LANE_STAT. -/
def regsLe : List RegDesc := [
  ⟨0xd0000, 0, 1, 0, 1,
    [⟨0, 0, .rw, true, fun _ => 1⟩,
     ⟨1, 1, .rw, true, fun _ => 1⟩,
     ⟨2, 2, .rw, true, fun _ => 1⟩,
     ⟨3, 3, .rw, true, fun _ => 1⟩,
     ⟨12, 8, .rw, true, fun _ => 12⟩,
     ⟨23, 16, .rw, true, fun _ => 20⟩]⟩,
  ⟨0xd0004, 0, 1, 0, 1,
    [⟨15, 0, .rw, true, fun _ => 62036⟩,
     ⟨27, 16, .rw, true, fun _ => 256⟩]⟩,
  ⟨0xd0008, 0, 1, 0, 1,
    [⟨15, 0, .rw, true, fun _ => 5500⟩]⟩,
  ⟨0xd000c, 0, 1, 0, 1,
    [⟨12, 0, .rw, true, fun _ => 0⟩,
     ⟨18, 16, .rw, true, fun _ => 0⟩,
     ⟨19, 19, .rw, true, fun _ => 0⟩,
     ⟨31, 31, .ro, false, fun _ => 0⟩]⟩,
  ⟨0xd0010, 0, 1, 0, 1,
    [⟨12, 0, .ro, false, fun _ => 0⟩,
     ⟨15, 15, .ro, false, fun _ => 0⟩]⟩,
  ⟨0xd0014, 4, 3, 0, 1,
    [⟨12, 0, .ro, false, fun _ => 0⟩,
     ⟨28, 16, .ro, false, fun _ => 0⟩]⟩,
  ⟨0xd0020, 0, 1, 0, 1,
    [⟨31, 0, .ro, false, fun _ => 0⟩]⟩,
  ⟨0xd0024, 0, 1, 0, 1,
    [⟨31, 0, .ro, false, fun _ => 0⟩]⟩,
  ⟨0xd0028, 0, 1, 0, 1,
    [⟨7, 0, .rc, true, fun _ => 0⟩,
     ⟨13, 8, .ro, false, fun _ => 0⟩,
     ⟨31, 16, .rc, true, fun _ => 0⟩]⟩,
  ⟨0xd0100, 0, 1, 0, 1,
    [⟨0, 0, .rw, true, fun _ => 1⟩,
     ⟨1, 1, .rw, true, fun _ => 0⟩]⟩,
  ⟨0xd0104, 0, 1, 0, 1,
    [⟨5, 0, .rw, true, fun _ => 0⟩]⟩,
  ⟨0xd0108, 0, 1, 0, 1,
    [⟨1, 0, .ro, false, fun _ => 0⟩,
     ⟨5, 2, .ro, false, fun _ => 0⟩,
     ⟨6, 6, .ro, false, fun _ => 0⟩,
     ⟨18, 8, .ro, false, fun _ => 0⟩,
     ⟨25, 20, .ro, false, fun _ => 0⟩]⟩]

/-- LE registers: LE_LANE_FLAGS, LE_LANE_CYC, LE_LANE_CYCMAX, LE_LANE_HALT, LE_LANE_CMD, LE_PROG_STAT. -/
def regsLe2 : List RegDesc := [
  ⟨0xd010c, 0, 1, 0, 1,
    [⟨0, 0, .w1c, false, fun _ => 0⟩,
     ⟨1, 1, .w1c, false, fun _ => 0⟩,
     ⟨2, 2, .w1c, false, fun _ => 0⟩,
     ⟨3, 3, .w1c, false, fun _ => 0⟩,
     ⟨15, 8, .w1c, false, fun _ => 0⟩]⟩,
  ⟨0xd0110, 0, 1, 0, 1,
    [⟨16, 0, .ro, false, fun _ => 0⟩]⟩,
  ⟨0xd0114, 0, 1, 0, 1,
    [⟨16, 0, .rc, false, fun _ => 0⟩]⟩,
  ⟨0xd0118, 4, 2, 0, 1,
    [⟨31, 0, .ro, false, fun _ => 0⟩]⟩,
  ⟨0xd0120, 0, 1, 0, 1,
    [⟨5, 0, .rw, true, fun _ => 0⟩,
     ⟨8, 8, .rw, true, fun _ => 0⟩,
     ⟨10, 9, .rw, true, fun _ => 0⟩,
     ⟨31, 31, .ro, false, fun _ => 0⟩]⟩,
  ⟨0xd0124, 0, 1, 0, 1,
    [⟨6, 0, .ro, false, fun _ => 0⟩,
     ⟨15, 8, .ro, false, fun _ => 0⟩,
     ⟨16, 16, .ro, false, fun _ => 0⟩]⟩]

/-- MX registers: MX_GEOM, MX_STATUS, MX_LOS_CTL, MX_PATH_CTL, MX_MON_SEL, MX_MON_DATA, MX_MON_DATA2, MX_ROUTE_CTL, MX_ROUTE_STATUS, MX_ROUTE_TIME, MX_PAL_STATUS, MX_STUCK_REV. -/
def regsMx : List RegDesc := [
  ⟨0xe0000, 0, 1, 0, 1,
    [⟨4, 0, .ro, false, fun _ => 17⟩,
     ⟨15, 8, .ro, false, fun _ => 255⟩,
     ⟨24, 16, .ro, false, fun _ => 511⟩]⟩,
  ⟨0xe0004, 0, 1, 0, 1,
    [⟨9, 0, .ro, false, fun _ => 0⟩,
     ⟨10, 10, .ro, false, fun _ => 0⟩,
     ⟨11, 11, .ro, false, fun _ => 1⟩,
     ⟨12, 12, .ro, false, fun _ => 0⟩,
     ⟨13, 13, .ro, false, fun _ => 1⟩,
     ⟨25, 16, .ro, false, fun _ => 0⟩]⟩,
  ⟨0xe0008, 0, 1, 0, 1,
    [⟨15, 0, .rw, true, fun _ => 62536⟩,
     ⟨31, 16, .rw, true, fun _ => 1000⟩]⟩,
  ⟨0xe000c, 0, 1, 0, 1,
    [⟨7, 0, .rw, true, fun _ => 30⟩,
     ⟨8, 8, .rw, true, fun _ => 1⟩]⟩,
  ⟨0xe0010, 0, 1, 0, 1,
    [⟨8, 0, .rw, true, fun _ => 256⟩,
     ⟨9, 9, .rw, true, fun _ => 0⟩]⟩,
  ⟨0xe0014, 0, 1, 0, 1,
    [⟨15, 0, .ro, false, fun _ => 32768⟩,
     ⟨31, 16, .ro, false, fun _ => 32768⟩]⟩,
  ⟨0xe0018, 0, 1, 0, 1,
    [⟨15, 0, .ro, false, fun _ => 32768⟩,
     ⟨19, 16, .ro, false, fun _ => 0⟩,
     ⟨20, 20, .ro, false, fun _ => 0⟩,
     ⟨21, 21, .ro, false, fun _ => 0⟩,
     ⟨22, 22, .ro, false, fun _ => 0⟩]⟩,
  ⟨0xe0040, 0, 1, 0, 1,
    [⟨0, 0, .rw, true, fun _ => 1⟩,
     ⟨1, 1, .rw, true, fun _ => 1⟩,
     ⟨12, 8, .rw, true, fun _ => 4⟩]⟩,
  ⟨0xe0044, 0, 1, 0, 1,
    [⟨0, 0, .ro, false, fun _ => 0⟩,
     ⟨5, 1, .ro, false, fun _ => 0⟩,
     ⟨6, 6, .ro, false, fun _ => 0⟩,
     ⟨17, 8, .ro, false, fun _ => 0⟩,
     ⟨21, 18, .ro, false, fun _ => 0⟩]⟩,
  ⟨0xe0048, 0, 1, 0, 1,
    [⟨10, 0, .ro, false, fun _ => 0⟩,
     ⟨26, 16, .rc, false, fun _ => 0⟩]⟩,
  ⟨0xe004c, 0, 1, 0, 1,
    [⟨10, 0, .ro, false, fun _ => 0⟩,
     ⟨26, 16, .ro, false, fun _ => 0⟩]⟩,
  ⟨0xe0050, 0, 1, 0, 1,
    [⟨15, 0, .ro, false, fun _ => 0⟩,
     ⟨20, 16, .ro, false, fun _ => 0⟩]⟩]

/-- MX registers: MX_STUCK. -/
def regsMx2 : List RegDesc := [
  ⟨0xe0060, 4, 16, 0, 1,
    [⟨12, 0, .ro, false, fun _ => 0⟩,
     ⟨13, 13, .ro, false, fun _ => 0⟩,
     ⟨14, 14, .ro, false, fun _ => 0⟩,
     ⟨15, 15, .ro, false, fun _ => 0⟩]⟩]

/-- ORB registers: ORB_STATUS, ORB_ACTIVE_ID, ORB_PENDING_ID, ORB_TKO_SEC, ORB_TKO_NS, ORB_CYCLE_LO, ORB_CYCLE_HI, ORB_PHASE, ORB_VOTE, ORB_ACT_DIG, ORB_PEND_DIG. -/
def regsOrb : List RegDesc := [
  ⟨0xf0000, 0, 1, 0, 1,
    [⟨0, 0, .ro, false, fun _ => 0⟩,
     ⟨1, 1, .ro, false, fun _ => 0⟩,
     ⟨2, 2, .ro, false, fun _ => 0⟩,
     ⟨3, 3, .ro, false, fun _ => 0⟩,
     ⟨6, 4, .ro, false, fun _ => 0⟩,
     ⟨8, 8, .ro, false, fun _ => 0⟩,
     ⟨23, 12, .ro, false, fun _ => 0⟩,
     ⟨27, 24, .ro, false, fun _ => 0⟩]⟩,
  ⟨0xf0004, 0, 1, 0, 1,
    [⟨31, 0, .ro, false, fun _ => 0⟩]⟩,
  ⟨0xf0008, 0, 1, 0, 1,
    [⟨31, 0, .ro, false, fun _ => 0⟩]⟩,
  ⟨0xf000c, 0, 1, 0, 1,
    [⟨31, 0, .ro, false, fun _ => 0⟩]⟩,
  ⟨0xf0010, 0, 1, 0, 1,
    [⟨29, 0, .ro, false, fun _ => 0⟩]⟩,
  ⟨0xf0014, 0, 1, 0, 1,
    [⟨31, 0, .ro, false, fun _ => 0⟩]⟩,
  ⟨0xf0018, 0, 1, 0, 1,
    [⟨31, 0, .ro, false, fun _ => 0⟩]⟩,
  ⟨0xf001c, 0, 1, 0, 1,
    [⟨31, 0, .rw, true, fun _ => 0⟩]⟩,
  ⟨0xf0020, 0, 1, 0, 1,
    [⟨7, 0, .rc, false, fun _ => 0⟩,
     ⟨15, 8, .rc, false, fun _ => 0⟩,
     ⟨23, 16, .rc, false, fun _ => 0⟩]⟩,
  ⟨0xf0040, 4, 4, 0, 1,
    [⟨31, 0, .ro, false, fun _ => 0⟩]⟩,
  ⟨0xf0050, 4, 4, 0, 1,
    [⟨31, 0, .ro, false, fun _ => 0⟩]⟩]

/-- LANE registers: LANE_CTL, LANE_FN, LANE_STAT, LANE_LAST_SRC, LANE_LAST_SEQ, LANE_LAG, LANE_RX_PWR. -/
def regsLane : List RegDesc := [
  ⟨0x100000, 256, 512, 0, 1,
    [⟨0, 0, .rw, true, fun _ => 0⟩,
     ⟨1, 1, .w1s, false, fun _ => 0⟩]⟩,
  ⟨0x100004, 256, 512, 0, 1,
    [⟨4, 0, .ro, false, fun _ => 0⟩]⟩,
  ⟨0x100008, 256, 512, 0, 1,
    [⟨18, 0, .ro, false, fun _ => 0⟩]⟩,
  ⟨0x10000c, 256, 512, 0, 1,
    [⟨31, 0, .ro, false, fun _ => 0⟩]⟩,
  ⟨0x100010, 256, 512, 0, 1,
    [⟨31, 0, .ro, false, fun _ => 0⟩]⟩,
  ⟨0x100014, 256, 512, 0, 1,
    [⟨31, 0, .ro, false, fun _ => 0⟩]⟩,
  ⟨0x100018, 256, 512, 0, 1,
    [⟨23, 0, .ro, false, fun _ => 0⟩]⟩]

/-- PORT registers: PORT_CTL, PORT_FN, PORT_STAT, PORT_PAUSE, PORT_SA_LO, PORT_SA_HI, PORT_CLS, PORT_SEC, PORT_STORM, PORT_LEARN, PORT_LEARN_CNT, PORT_ADMIT. -/
def regsPort : List RegDesc := [
  ⟨0x200000, 4096, 256, 0, 1,
    [⟨0, 0, .rw, true, fun _ => 0⟩,
     ⟨1, 1, .rw, true, fun _ => 0⟩,
     ⟨2, 2, .rw, true, fun _ => 0⟩,
     ⟨3, 3, .rw, true, fun _ => 0⟩,
     ⟨4, 4, .rw, true, fun _ => 0⟩,
     ⟨15, 8, .rw, true, fun _ => 255⟩]⟩,
  ⟨0x200004, 4096, 256, 0, 1,
    [⟨4, 0, .ro, false, fun _ => 0⟩]⟩,
  ⟨0x200008, 4096, 256, 0, 1,
    [⟨23, 0, .ro, false, fun _ => 0⟩]⟩,
  ⟨0x20000c, 4096, 256, 0, 1,
    [⟨15, 0, .rw, true, fun _ => 65535⟩,
     ⟨31, 16, .rw, true, fun _ => 32767⟩]⟩,
  ⟨0x200010, 4096, 256, 0, 1,
    [⟨31, 0, .rw, true, fun _ => 0⟩]⟩,
  ⟨0x200014, 4096, 256, 0, 1,
    [⟨15, 0, .rw, true, fun _ => 0⟩]⟩,
  ⟨0x200040, 4096, 256, 0, 1,
    [⟨0, 0, .rw, true, fun _ => 0⟩,
     ⟨1, 1, .rw, true, fun _ => 0⟩,
     ⟨4, 2, .rw, true, fun _ => 0⟩,
     ⟨8, 8, .rw, true, fun _ => 1⟩,
     ⟨9, 9, .rw, true, fun _ => 0⟩,
     ⟨12, 10, .rw, true, fun _ => 0⟩]⟩,
  ⟨0x200044, 4096, 256, 0, 1,
    [⟨0, 0, .rw, true, fun _ => 0⟩,
     ⟨1, 1, .rw, true, fun _ => 0⟩,
     ⟨4, 2, .rw, true, fun _ => 0⟩]⟩,
  ⟨0x200048, 4096, 256, 4, 3,
    [⟨23, 0, .rw, true, fun _ => 0xffffff⟩,
     ⟨31, 24, .rw, true, fun _ => 64⟩]⟩,
  ⟨0x200060, 4096, 256, 0, 1,
    [⟨0, 0, .rw, true, fun _ => 1⟩,
     ⟨1, 1, .rw, true, fun _ => 0⟩,
     ⟨31, 16, .rw, true, fun _ => 0⟩]⟩,
  ⟨0x200064, 4096, 256, 0, 1,
    [⟨20, 0, .ro, false, fun _ => 0⟩]⟩,
  ⟨0x200080, 4096, 256, 0, 1,
    [⟨12, 0, .ro, false, fun _ => 0⟩]⟩]

/-- PORT registers: PORT_OCC, PORT_QOS, PORT_QOS2, PORT_GATE_STAT, PORT_GATE_TKO_SEC, PORT_GATE_TKO_NS, PORT_LAUNCH, PORT_MIR, PORT_SAMPLE, PORT_TS_DLY, PORT_SHAPE_RATE, PORT_SHAPE_BURST. -/
def regsPort2 : List RegDesc := [
  ⟨0x2000a0, 4096, 256, 4, 8,
    [⟨16, 0, .ro, false, fun _ => 0⟩]⟩,
  ⟨0x2000c0, 4096, 256, 0, 1,
    [⟨23, 0, .rw, true, fun _ => 0⟩,
     ⟨26, 24, .rw, true, fun _ => 0⟩,
     ⟨28, 27, .rw, true, fun _ => 0⟩]⟩,
  ⟨0x2000c4, 4096, 256, 0, 1,
    [⟨15, 0, .rw, true, fun _ => 0⟩,
     ⟨23, 16, .rw, true, fun _ => 20⟩]⟩,
  ⟨0x2000c8, 4096, 256, 0, 1,
    [⟨29, 0, .ro, false, fun _ => 0⟩]⟩,
  ⟨0x2000cc, 4096, 256, 0, 1,
    [⟨31, 0, .ro, false, fun _ => 0⟩]⟩,
  ⟨0x2000d0, 4096, 256, 0, 1,
    [⟨29, 0, .ro, false, fun _ => 0⟩]⟩,
  ⟨0x2000d4, 4096, 256, 0, 1,
    [⟨6, 0, .ro, false, fun _ => 0⟩]⟩,
  ⟨0x2000e0, 4096, 256, 0, 1,
    [⟨0, 0, .rw, true, fun _ => 0⟩,
     ⟨4, 1, .rw, true, fun _ => 0⟩,
     ⟨5, 5, .rw, true, fun _ => 0⟩,
     ⟨9, 6, .rw, true, fun _ => 0⟩]⟩,
  ⟨0x2000e4, 4096, 256, 4, 2,
    [⟨23, 0, .rw, true, fun _ => 0⟩,
     ⟨24, 24, .rw, true, fun _ => 0⟩,
     ⟨27, 25, .rw, true, fun _ => 0⟩]⟩,
  ⟨0x2000f0, 4096, 256, 0, 1,
    [⟨15, 0, .rw, true, fun _ => 0⟩,
     ⟨31, 16, .rw, true, fun _ => 0⟩]⟩,
  ⟨0x200100, 4096, 256, 8, 9,
    [⟨31, 0, .rw, true, fun _ => 0xffffffff⟩]⟩,
  ⟨0x200104, 4096, 256, 8, 9,
    [⟨23, 0, .rw, true, fun _ => 9216⟩]⟩]

/-- PORT registers: PORT_CREDIT. -/
def regsPort3 : List RegDesc := [
  ⟨0x200180, 4096, 256, 4, 9,
    [⟨31, 0, .ro, false, fun _ => 0⟩]⟩]

/-- PRS registers: PRS_CTL, PRS_HASH_CTL, PRS_HASH_SEED, PRS_CLS_STAT, PRS_CLS_GEN. -/
def regsPrs : List RegDesc := [
  ⟨0x300000, 0, 1, 0, 1,
    [⟨4, 0, .rw, true, fun _ => 16⟩]⟩,
  ⟨0x300004, 0, 1, 0, 1,
    [⟨0, 0, .rw, true, fun _ => 0⟩,
     ⟨1, 1, .rw, true, fun _ => 0⟩,
     ⟨2, 2, .rw, true, fun _ => 1⟩,
     ⟨3, 3, .rw, true, fun _ => 0⟩,
     ⟨4, 4, .rw, true, fun _ => 0⟩]⟩,
  ⟨0x300008, 0, 1, 0, 1,
    [⟨31, 0, .rw, true, fun _ => 0xffffffff⟩]⟩,
  ⟨0x30000c, 0, 1, 0, 1,
    [⟨16, 0, .ro, false, fun _ => 0⟩]⟩,
  ⟨0x300010, 0, 1, 0, 1,
    [⟨31, 0, .ro, false, fun _ => 0⟩]⟩]

/-- FDB registers: FDB_CTL, FDB_AGE, FDB_STATUS, FDB_OVF, FDB_EPOCH, FDB_DRAIN, FDB_ERR, FDB_CNT_STAT, FDB_LEARN_CNT. -/
def regsFdb : List RegDesc := [
  ⟨0x400000, 0, 1, 0, 1,
    [⟨0, 0, .rw, true, fun _ => 0⟩,
     ⟨1, 1, .rw, true, fun _ => 0⟩,
     ⟨15, 8, .rw, true, fun _ => 0⟩]⟩,
  ⟨0x400004, 0, 1, 0, 1,
    [⟨15, 0, .rw, true, fun _ => 0⟩,
     ⟨31, 16, .ro, false, fun _ => 0⟩]⟩,
  ⟨0x400008, 0, 1, 0, 1,
    [⟨20, 0, .ro, false, fun _ => 0⟩,
     ⟨21, 21, .w1c, true, fun _ => 0⟩]⟩,
  ⟨0x40000c, 0, 1, 0, 1,
    [⟨12, 0, .ro, false, fun _ => 0⟩,
     ⟨28, 16, .ro, false, fun _ => 0⟩,
     ⟨31, 29, .ro, false, fun _ => 0⟩]⟩,
  ⟨0x400010, 0, 1, 0, 1,
    [⟨31, 0, .ro, false, fun _ => 0⟩]⟩,
  ⟨0x400014, 0, 1, 0, 1,
    [⟨31, 0, .ro, false, fun _ => 0⟩]⟩,
  ⟨0x400018, 0, 1, 0, 1,
    [⟨7, 0, .rc, true, fun _ => 0⟩,
     ⟨15, 8, .rc, true, fun _ => 0⟩,
     ⟨31, 16, .rc, true, fun _ => 0⟩]⟩,
  ⟨0x40001c, 0, 1, 0, 1,
    [⟨15, 0, .ro, false, fun _ => 0⟩,
     ⟨31, 16, .ro, false, fun _ => 0⟩]⟩,
  ⟨0x400020, 0, 1, 0, 1,
    [⟨7, 0, .rc, true, fun _ => 0⟩,
     ⟨15, 8, .rc, true, fun _ => 0⟩,
     ⟨23, 16, .rc, true, fun _ => 0⟩,
     ⟨31, 24, .rc, true, fun _ => 0⟩]⟩]

/-- TM registers: TM_CTL, TM_STATUS, TM_DESC, TM_SHARED, TM_ERR, TM_FAB, TM_GROUP, TM_LAUNCH, TM_POL_STAT, TM_POL_GEN. -/
def regsTm : List RegDesc := [
  ⟨0x500000, 0, 1, 0, 1,
    [⟨0, 0, .rw, true, fun _ => 1⟩,
     ⟨1, 1, .rw, true, fun _ => 1⟩]⟩,
  ⟨0x500004, 0, 1, 0, 1,
    [⟨19, 0, .ro, false, fun _ => 0⟩,
     ⟨20, 20, .ro, false, fun _ => 0⟩]⟩,
  ⟨0x500008, 0, 1, 0, 1,
    [⟨19, 0, .ro, false, fun _ => 0⟩]⟩,
  ⟨0x50000c, 0, 1, 0, 1,
    [⟨19, 0, .ro, false, fun _ => 0⟩]⟩,
  ⟨0x500010, 0, 1, 0, 1,
    [⟨7, 0, .rc, true, fun _ => 0⟩,
     ⟨15, 8, .rc, true, fun _ => 0⟩,
     ⟨26, 16, .ro, false, fun _ => 0⟩]⟩,
  ⟨0x500014, 0, 1, 0, 1,
    [⟨19, 0, .ro, false, fun _ => 0⟩]⟩,
  ⟨0x500040, 4, 16, 0, 1,
    [⟨19, 0, .ro, false, fun _ => 0⟩,
     ⟨20, 20, .ro, false, fun _ => 0⟩]⟩,
  ⟨0x501000, 0, 1, 0, 1,
    [⟨19, 0, .rw, true, fun _ => 1000⟩]⟩,
  ⟨0x501004, 0, 1, 0, 1,
    [⟨14, 0, .ro, false, fun _ => 0⟩]⟩,
  ⟨0x501008, 0, 1, 0, 1,
    [⟨31, 0, .ro, false, fun _ => 0⟩]⟩]

/-- MIR registers: MIR_SESS, MIR_SESS_LIM, MIR_DROP, MIR_SAMPLE_LEN. -/
def regsMir : List RegDesc := [
  ⟨0x600000, 16, 16, 0, 1,
    [⟨0, 0, .rw, true, fun _ => 0⟩,
     ⟨2, 1, .rw, true, fun _ => 0⟩,
     ⟨10, 3, .rw, true, fun _ => 0⟩,
     ⟨19, 11, .rw, true, fun _ => 0⟩,
     ⟨22, 20, .rw, true, fun _ => 0⟩,
     ⟨25, 23, .rw, true, fun _ => 0⟩,
     ⟨26, 26, .rw, true, fun _ => 0⟩]⟩,
  ⟨0x600004, 16, 16, 0, 1,
    [⟨7, 0, .rw, true, fun _ => 0⟩,
     ⟨27, 8, .rw, true, fun _ => 4096⟩]⟩,
  ⟨0x600100, 0, 1, 0, 1,
    [⟨0, 0, .rw, true, fun _ => 0⟩,
     ⟨4, 1, .rw, true, fun _ => 0⟩,
     ⟨15, 8, .rw, true, fun _ => 0⟩]⟩,
  ⟨0x600104, 0, 1, 0, 1,
    [⟨7, 0, .rw, true, fun _ => 2⟩]⟩]

/-- CNT registers: CNT_STATUS. -/
def regsCnt : List RegDesc := [
  ⟨0x700000, 0, 1, 0, 1,
    [⟨0, 0, .ro, false, fun _ => 0⟩,
     ⟨3, 1, .ro, false, fun _ => 0⟩]⟩]

/-- Every register block, by the offset at which its range begins (Table 25.1). -/
def regTable : List RegDesc :=
  regsGen ++ regsGen2 ++ regsCx ++ regsCx2 ++ regsCx3 ++ regsBm ++ regsPwr ++ regsThm ++ regsSaf ++ regsNvm ++ regsTim ++ regsTim2 ++ regsTim3 ++ regsIkl ++ regsRed ++ regsCal ++ regsAdc ++ regsDac ++ regsLe ++ regsLe2 ++ regsMx ++ regsMx2 ++ regsOrb ++ regsLane ++ regsPort ++ regsPort2 ++ regsPort3 ++ regsPrs ++ regsFdb ++ regsTm ++ regsMir ++ regsCnt

/-! Stored fields by the manual's names: `<register>_<field>`. -/

namespace Reg

def GEN_EVT_ROUTE_BLOCKS : FieldRef := ⟨0x10, 22, 0, 0⟩
def GEN_START_CTL_HOLD_STEP : FieldRef := ⟨0x28, 4, 0, 0⟩
def GEN_SCRATCH_VALUE (i : Nat) : FieldRef := ⟨0x70 + 4 * i, 31, 0, 0⟩
def CX_CTL_EN : FieldRef := ⟨0x10000, 0, 0, 0⟩
def CX_ERR_DB_BAD : FieldRef := ⟨0x1000c, 7, 0, 0⟩
def CX_ERR_DUP : FieldRef := ⟨0x1000c, 15, 8, 0⟩
def CX_ERR_EVT_LOST : FieldRef := ⟨0x1000c, 31, 16, 0⟩
def CX_RING_CTL_EN (i : Nat) : FieldRef := ⟨0x10100 + 0x40 * i, 0, 0, 0⟩
def CX_RING_CTL_VEC (i : Nat) : FieldRef := ⟨0x10100 + 0x40 * i, 13, 8, i⟩
def CX_RING_CTL_COAL_N (i : Nat) : FieldRef := ⟨0x10100 + 0x40 * i, 23, 16, 0⟩
def CX_RING_CTL_COAL_US (i : Nat) : FieldRef := ⟨0x10100 + 0x40 * i, 31, 24, 0⟩
def CX_RING_SQ_BASE_LO_BASE (i : Nat) : FieldRef := ⟨0x10108 + 0x40 * i, 31, 0, 0⟩
def CX_RING_SQ_BASE_HI_BASE (i : Nat) : FieldRef := ⟨0x1010c + 0x40 * i, 31, 0, 0⟩
def CX_RING_CQ_BASE_LO_BASE (i : Nat) : FieldRef := ⟨0x10110 + 0x40 * i, 31, 0, 0⟩
def CX_RING_CQ_BASE_HI_BASE (i : Nat) : FieldRef := ⟨0x10114 + 0x40 * i, 31, 0, 0⟩
def CX_EVT_CTL_EN : FieldRef := ⟨0x10800, 0, 0, 0⟩
def CX_EVT_CTL_VEC : FieldRef := ⟨0x10800, 13, 8, 16⟩
def CX_EVT_CTL_COAL_N : FieldRef := ⟨0x10800, 23, 16, 0⟩
def CX_EVT_CTL_COAL_US : FieldRef := ⟨0x10800, 31, 24, 0⟩
def CX_EVT_BASE_LO_BASE : FieldRef := ⟨0x10808, 31, 0, 0⟩
def CX_EVT_BASE_HI_BASE : FieldRef := ⟨0x1080c, 31, 0, 0⟩
def CX_FQ_CTL_TX_EN (i : Nat) : FieldRef := ⟨0x11000 + 0x40 * i, 0, 0, 0⟩
def CX_FQ_CTL_RX_EN (i : Nat) : FieldRef := ⟨0x11000 + 0x40 * i, 1, 1, 0⟩
def CX_FQ_CTL_TX_VEC (i : Nat) : FieldRef := ⟨0x11000 + 0x40 * i, 13, 8, 24 + i⟩
def CX_FQ_CTL_RX_VEC (i : Nat) : FieldRef := ⟨0x11000 + 0x40 * i, 21, 16, 32 + i⟩
def CX_FQ_CTL_COAL_N (i : Nat) : FieldRef := ⟨0x11000 + 0x40 * i, 29, 22, 0⟩
def CX_FQ_COAL_COAL_US (i : Nat) : FieldRef := ⟨0x11004 + 0x40 * i, 15, 0, 0⟩
def CX_FQ_TX_BASE_LO_BASE (i : Nat) : FieldRef := ⟨0x11008 + 0x40 * i, 31, 0, 0⟩
def CX_FQ_TX_BASE_HI_BASE (i : Nat) : FieldRef := ⟨0x1100c + 0x40 * i, 31, 0, 0⟩
def CX_FQ_RX_BASE_LO_BASE (i : Nat) : FieldRef := ⟨0x11010 + 0x40 * i, 31, 0, 0⟩
def CX_FQ_RX_BASE_HI_BASE (i : Nat) : FieldRef := ⟨0x11014 + 0x40 * i, 31, 0, 0⟩
def BM_PRI_LO_PRI_0 (i : Nat) : FieldRef := ⟨0x20040 + 8 * i, 2, 0, priReset i 0⟩
def BM_PRI_LO_PRI_1 (i : Nat) : FieldRef := ⟨0x20040 + 8 * i, 6, 4, priReset i 1⟩
def BM_PRI_LO_PRI_2 (i : Nat) : FieldRef := ⟨0x20040 + 8 * i, 10, 8, priReset i 2⟩
def BM_PRI_LO_PRI_3 (i : Nat) : FieldRef := ⟨0x20040 + 8 * i, 14, 12, priReset i 3⟩
def BM_PRI_LO_PRI_4 (i : Nat) : FieldRef := ⟨0x20040 + 8 * i, 18, 16, priReset i 4⟩
def BM_PRI_LO_PRI_5 (i : Nat) : FieldRef := ⟨0x20040 + 8 * i, 22, 20, priReset i 5⟩
def BM_PRI_LO_PRI_6 (i : Nat) : FieldRef := ⟨0x20040 + 8 * i, 26, 24, priReset i 6⟩
def BM_PRI_LO_PRI_7 (i : Nat) : FieldRef := ⟨0x20040 + 8 * i, 30, 28, priReset i 7⟩
def BM_PRI_HI_PRI_8 (i : Nat) : FieldRef := ⟨0x20044 + 8 * i, 2, 0, priReset i 8⟩
def BM_PRI_HI_PRI_9 (i : Nat) : FieldRef := ⟨0x20044 + 8 * i, 6, 4, priReset i 9⟩
def BM_PRI_HI_PRI_10 (i : Nat) : FieldRef := ⟨0x20044 + 8 * i, 10, 8, priReset i 10⟩
def BM_PRI_HI_PRI_11 (i : Nat) : FieldRef := ⟨0x20044 + 8 * i, 14, 12, priReset i 11⟩
def BM_ERR_ACCESS : FieldRef := ⟨0x20100, 7, 0, 0⟩
def BM_ERR_LOCK_BROKEN : FieldRef := ⟨0x20100, 15, 8, 0⟩
def BM_ERR_RESETS : FieldRef := ⟨0x20100, 23, 16, 0⟩
def PWR_KEEP_INTERVAL : FieldRef := ⟨0x30004, 5, 0, 10⟩
def PWR_CLK_PREFER : FieldRef := ⟨0x30008, 4, 4, 0⟩
def PWR_CLK_SWITCHED : FieldRef := ⟨0x30008, 8, 8, 0⟩
def THM_CTL_FORCE_THROTTLE : FieldRef := ⟨0x40000, 0, 0, 0⟩
def THM_CTL_SAMPLE_MODE : FieldRef := ⟨0x40000, 1, 1, 0⟩
def THM_CTL_THROTTLE : FieldRef := ⟨0x40000, 3, 2, 0⟩
def THM_CTL_N : FieldRef := ⟨0x40000, 14, 4, 2⟩
def THM_THR_E0_WARN : FieldRef := ⟨0x40004, 15, 0, 190⟩
def THM_THR_E0_THROTTLE : FieldRef := ⟨0x40004, 31, 16, 200⟩
def THM_THR_E1_SHUTDOWN : FieldRef := ⟨0x40008, 15, 0, 220⟩
def THM_THR_P0_WARN : FieldRef := ⟨0x4000c, 15, 0, 150⟩
def THM_THR_P0_THROTTLE : FieldRef := ⟨0x4000c, 31, 16, 160⟩
def THM_THR_P1_SHUTDOWN : FieldRef := ⟨0x40010, 15, 0, 180⟩
def NVM_ERR_WRITE_FAIL : FieldRef := ⟨0x60008, 7, 0, 0⟩
def NVM_ERR_CRC_FAIL : FieldRef := ⟨0x60008, 15, 8, 0⟩
def TIM_CTL_SRC : FieldRef := ⟨0x70000, 1, 0, 0⟩
def TIM_JUMP_THR_THR : FieldRef := ⟨0x70018, 29, 0, 1000⟩
def TIM_SERVO_KP : FieldRef := ⟨0x7001c, 15, 0, 137⟩
def TIM_SERVO_KI : FieldRef := ⟨0x7001c, 31, 16, 4295⟩
def TIM_SERVO2_KP_SH : FieldRef := ⟨0x70020, 4, 0, 0⟩
def TIM_SERVO2_KI_SH : FieldRef := ⟨0x70020, 12, 8, 10⟩
def TIM_SERVO2_INT : FieldRef := ⟨0x70020, 31, 16, 8⟩
def TIM_LOCK_LOCK_PS : FieldRef := ⟨0x70024, 15, 0, 1000⟩
def TIM_LOCK_HOLD_N : FieldRef := ⟨0x70024, 23, 16, 16⟩
def TIM_PPS_OUT_EN : FieldRef := ⟨0x70038, 0, 0, 0⟩
def TIM_PPS_OUT_NT_SUPPRESS : FieldRef := ⟨0x70038, 1, 1, 1⟩
def TIM_PPS_OUT_WIDTH_US : FieldRef := ⟨0x70038, 20, 2, 100000⟩
def TIM_PPS_IN_DELAY : FieldRef := ⟨0x7003c, 23, 0, 0⟩
def TIM_PPS_IN_EN : FieldRef := ⟨0x7003c, 24, 24, 0⟩
def TIM_TRIG_IN_EN (i : Nat) : FieldRef := ⟨0x70040 + 4 * i, 0, 0, 0⟩
def TIM_TRIG_IN_EDGE (i : Nat) : FieldRef := ⟨0x70040 + 4 * i, 2, 1, 1⟩
def TIM_TRIG_OUT_CTL_EN (i : Nat) : FieldRef := ⟨0x70100 + 0x20 * i, 0, 0, 0⟩
def TIM_TRIG_OUT_CTL_POL (i : Nat) : FieldRef := ⟨0x70100 + 0x20 * i, 1, 1, 0⟩
def TIM_TRIG_OUT_START_LO_START_SEC (i : Nat) : FieldRef := ⟨0x70104 + 0x20 * i, 31, 0, 0⟩
def TIM_TRIG_OUT_START_HI_START_SEC (i : Nat) : FieldRef := ⟨0x70108 + 0x20 * i, 15, 0, 0⟩
def TIM_TRIG_OUT_START_NS_START_NS (i : Nat) : FieldRef := ⟨0x7010c + 0x20 * i, 29, 0, 0⟩
def TIM_TRIG_OUT_PERIOD_PERIOD (i : Nat) : FieldRef := ⟨0x70110 + 0x20 * i, 31, 0, 0⟩
def TIM_TRIG_OUT_WIDTH_WIDTH (i : Nat) : FieldRef := ⟨0x70114 + 0x20 * i, 29, 0, 1000⟩
def IKL_CTL_PORT_EN : FieldRef := ⟨0x80000, 7, 0, 255⟩
def IKL_CTL_TUN_Q : FieldRef := ⟨0x80000, 10, 8, 0⟩
def IKL_CTL_TUN_EN : FieldRef := ⟨0x80000, 11, 11, 1⟩
def IKL_PORT_ASYM_ASYM (i : Nat) : FieldRef := ⟨0x80044 + 0x10 * i, 31, 0, 0⟩
def RED_CTL_AUTO_FAILOVER : FieldRef := ⟨0x90000, 0, 0, 1⟩
def RED_CTL_PREFER : FieldRef := ⟨0x90000, 1, 1, 0⟩
def CAL_CTL_BG_EN : FieldRef := ⟨0xa0000, 0, 0, 1⟩
def CAL_CTL_BIAS_LIVE_EN : FieldRef := ⟨0xa0000, 1, 1, 1⟩
def CAL_CTL_EYE_EN : FieldRef := ⟨0xa0000, 2, 2, 1⟩
def CAL_CTL_OFS_N : FieldRef := ⟨0xa0000, 11, 4, 64⟩
def CAL_CTL_EYE_INTERVAL : FieldRef := ⟨0xa0000, 31, 20, 60⟩
def CAL_TOL_BIAS_TOL : FieldRef := ⟨0xa0004, 9, 0, 50⟩
def CAL_TOL_LEVEL_TOL : FieldRef := ⟨0xa0004, 18, 12, 10⟩
def CAL_TOL_OFS_TOL : FieldRef := ⟨0xa0004, 27, 20, 4⟩
def CAL_AGE_WARN_YEARS : FieldRef := ⟨0xa0010, 7, 0, 50⟩
def CAL_ERR_REJECTS : FieldRef := ⟨0xa0014, 15, 0, 0⟩
def CAL_ERR_EV_SUPPRESSED : FieldRef := ⟨0xa0014, 31, 16, 0⟩
def ADC_REF_CTL_EN : FieldRef := ⟨0xb0000, 0, 0, 0⟩
def ADC_CHK_CTL_BOUND : FieldRef := ⟨0xb000c, 10, 0, 16⟩
def ADC_CHK_CTL_AUTO_CLEAR : FieldRef := ⟨0xb000c, 11, 11, 0⟩
def ADC_CHK_CTL_CLEAR_N : FieldRef := ⟨0xb000c, 23, 16, 16⟩
def ADC_PAIR_FLAG_FORCE : FieldRef := ⟨0xb0010, 31, 16, 0⟩
def ADC_ERR_TABLE_CORR : FieldRef := ⟨0xb0014, 7, 0, 0⟩
def ADC_ERR_TABLE_UNCORR : FieldRef := ⟨0xb0014, 15, 8, 0⟩
def ADC_ERR_REFUSED : FieldRef := ⟨0xb0014, 23, 16, 0⟩
def ADC_DIRECT_CHANNEL : FieldRef := ⟨0xb0020, 13, 0, 0⟩
def ADC_DIRECT_DATA_DONE : FieldRef := ⟨0xb0024, 16, 16, 0⟩
def DAC_HTR_SLEW_STEP : FieldRef := ⟨0xc0000, 8, 0, 16⟩
def DAC_HTR_SLEW_RATE : FieldRef := ⟨0xc0000, 31, 16, 1⟩
def DAC_MON_SEL_CELL : FieldRef := ⟨0xc000c, 12, 0, 0⟩
def DAC_ERR_PARITY : FieldRef := ⟨0xc0018, 7, 0, 0⟩
def DAC_ERR_REFUSED : FieldRef := ⟨0xc0018, 15, 8, 0⟩
def DAC_ERR_GLITCH : FieldRef := ⟨0xc0018, 23, 16, 0⟩
def LE_LOOP_CTL_DITHER_EN : FieldRef := ⟨0xd0000, 0, 0, 1⟩
def LE_LOOP_CTL_AUTO_RELEASE : FieldRef := ⟨0xd0000, 1, 1, 1⟩
def LE_LOOP_CTL_STAGE_FF_EN : FieldRef := ⟨0xd0000, 2, 2, 1⟩
def LE_LOOP_CTL_HTR_TRIM_EN : FieldRef := ⟨0xd0000, 3, 3, 1⟩
def LE_LOOP_CTL_DEMOD_MIN : FieldRef := ⟨0xd0000, 12, 8, 12⟩
def LE_LOOP_CTL_PHI_MAX : FieldRef := ⟨0xd0000, 23, 16, 20⟩
def LE_LOOP_LEVELS_LIT_MIN : FieldRef := ⟨0xd0004, 15, 0, 62036⟩
def LE_LOOP_LEVELS_ACQ_MAX : FieldRef := ⟨0xd0004, 27, 16, 256⟩
def LE_LOOP_TREF_T_REF : FieldRef := ⟨0xd0008, 15, 0, 5500⟩
def LE_LOOP_CMD_CELL : FieldRef := ⟨0xd000c, 12, 0, 0⟩
def LE_LOOP_CMD_ACTION : FieldRef := ⟨0xd000c, 18, 16, 0⟩
def LE_LOOP_CMD_ALL : FieldRef := ⟨0xd000c, 19, 19, 0⟩
def LE_LOOP_ERR_OVERRUNS : FieldRef := ⟨0xd0028, 7, 0, 0⟩
def LE_LOOP_ERR_EV_SUPPRESSED : FieldRef := ⟨0xd0028, 31, 16, 0⟩
def LE_LANE_CTL_AUTO_RESTART : FieldRef := ⟨0xd0100, 0, 0, 1⟩
def LE_LANE_CTL_BKPT_EN : FieldRef := ⟨0xd0100, 1, 1, 0⟩
def LE_LANE_SEL_LANE : FieldRef := ⟨0xd0104, 5, 0, 0⟩
def LE_LANE_CMD_LANE : FieldRef := ⟨0xd0120, 5, 0, 0⟩
def LE_LANE_CMD_ALL : FieldRef := ⟨0xd0120, 8, 8, 0⟩
def LE_LANE_CMD_ACTION : FieldRef := ⟨0xd0120, 10, 9, 0⟩
def MX_LOS_CTL_LOS_LEVEL : FieldRef := ⟨0xe0008, 15, 0, 62536⟩
def MX_LOS_CTL_OVP_LEVEL : FieldRef := ⟨0xe0008, 31, 16, 1000⟩
def MX_PATH_CTL_PATH_TOL : FieldRef := ⟨0xe000c, 7, 0, 30⟩
def MX_PATH_CTL_PATH_EN : FieldRef := ⟨0xe000c, 8, 8, 1⟩
def MX_MON_SEL_PORT : FieldRef := ⟨0xe0010, 8, 0, 256⟩
def MX_MON_SEL_DIR : FieldRef := ⟨0xe0010, 9, 9, 0⟩
def MX_ROUTE_CTL_AUTO_REROUTE : FieldRef := ⟨0xe0040, 0, 0, 1⟩
def MX_ROUTE_CTL_DARK_AFFECTED : FieldRef := ⟨0xe0040, 1, 1, 1⟩
def MX_ROUTE_CTL_WRONG_MIN : FieldRef := ⟨0xe0040, 12, 8, 4⟩
def ORB_PHASE_PHASE : FieldRef := ⟨0xf001c, 31, 0, 0⟩
def LANE_CTL_EN (i : Nat) : FieldRef := ⟨0x100000 + 0x100 * i, 0, 0, 0⟩
def PORT_CTL_EN (i : Nat) : FieldRef := ⟨0x200000 + 0x1000 * i, 0, 0, 0⟩
def PORT_CTL_PAUSE_RX_EN (i : Nat) : FieldRef := ⟨0x200000 + 0x1000 * i, 1, 1, 0⟩
def PORT_CTL_PAUSE_TX_EN (i : Nat) : FieldRef := ⟨0x200000 + 0x1000 * i, 2, 2, 0⟩
def PORT_CTL_PFC_RX_EN (i : Nat) : FieldRef := ⟨0x200000 + 0x1000 * i, 3, 3, 0⟩
def PORT_CTL_PFC_TX_EN (i : Nat) : FieldRef := ⟨0x200000 + 0x1000 * i, 4, 4, 0⟩
def PORT_CTL_PFC_CLASSES (i : Nat) : FieldRef := ⟨0x200000 + 0x1000 * i, 15, 8, 255⟩
def PORT_PAUSE_QUANTA (i : Nat) : FieldRef := ⟨0x20000c + 0x1000 * i, 15, 0, 65535⟩
def PORT_PAUSE_REFRESH (i : Nat) : FieldRef := ⟨0x20000c + 0x1000 * i, 31, 16, 32767⟩
def PORT_SA_LO_SA (i : Nat) : FieldRef := ⟨0x200010 + 0x1000 * i, 31, 0, 0⟩
def PORT_SA_HI_SA (i : Nat) : FieldRef := ⟨0x200014 + 0x1000 * i, 15, 0, 0⟩
def PORT_CLS_NM_DROP (i : Nat) : FieldRef := ⟨0x200040 + 0x1000 * i, 0, 0, 0⟩
def PORT_CLS_NM_COPY (i : Nat) : FieldRef := ⟨0x200040 + 0x1000 * i, 1, 1, 0⟩
def PORT_CLS_NM_Q (i : Nat) : FieldRef := ⟨0x200040 + 0x1000 * i, 4, 2, 0⟩
def PORT_CLS_PF_DROP (i : Nat) : FieldRef := ⟨0x200040 + 0x1000 * i, 8, 8, 1⟩
def PORT_CLS_PF_COPY (i : Nat) : FieldRef := ⟨0x200040 + 0x1000 * i, 9, 9, 0⟩
def PORT_CLS_PF_Q (i : Nat) : FieldRef := ⟨0x200040 + 0x1000 * i, 12, 10, 0⟩
def PORT_SEC_LOCK (i : Nat) : FieldRef := ⟨0x200044 + 0x1000 * i, 0, 0, 0⟩
def PORT_SEC_COPY_VIOL (i : Nat) : FieldRef := ⟨0x200044 + 0x1000 * i, 1, 1, 0⟩
def PORT_SEC_VIOL_Q (i : Nat) : FieldRef := ⟨0x200044 + 0x1000 * i, 4, 2, 0⟩
def PORT_STORM_RATE (i : Nat) (j : Nat) : FieldRef := ⟨0x200048 + 0x1000 * i + 4 * j, 23, 0, 16777215⟩
def PORT_STORM_BURST (i : Nat) (j : Nat) : FieldRef := ⟨0x200048 + 0x1000 * i + 4 * j, 31, 24, 64⟩
def PORT_LEARN_LEARN_EN (i : Nat) : FieldRef := ⟨0x200060 + 0x1000 * i, 0, 0, 1⟩
def PORT_LEARN_OVER_DROP (i : Nat) : FieldRef := ⟨0x200060 + 0x1000 * i, 1, 1, 0⟩
def PORT_LEARN_LIMIT (i : Nat) : FieldRef := ⟨0x200060 + 0x1000 * i, 31, 16, 0⟩
def PORT_QOS_PCP_CLASS (i : Nat) : FieldRef := ⟨0x2000c0 + 0x1000 * i, 23, 0, 0⟩
def PORT_QOS_UNTAGGED_CLASS (i : Nat) : FieldRef := ⟨0x2000c0 + 0x1000 * i, 26, 24, 0⟩
def PORT_QOS_COLOUR_SRC (i : Nat) : FieldRef := ⟨0x2000c0 + 0x1000 * i, 28, 27, 0⟩
def PORT_QOS2_PCP_COLOUR (i : Nat) : FieldRef := ⟨0x2000c4 + 0x1000 * i, 15, 0, 0⟩
def PORT_QOS2_SHAPE_ADJ (i : Nat) : FieldRef := ⟨0x2000c4 + 0x1000 * i, 23, 16, 20⟩
def PORT_MIR_RX_EN (i : Nat) : FieldRef := ⟨0x2000e0 + 0x1000 * i, 0, 0, 0⟩
def PORT_MIR_RX_SESSION (i : Nat) : FieldRef := ⟨0x2000e0 + 0x1000 * i, 4, 1, 0⟩
def PORT_MIR_TX_EN (i : Nat) : FieldRef := ⟨0x2000e0 + 0x1000 * i, 5, 5, 0⟩
def PORT_MIR_TX_SESSION (i : Nat) : FieldRef := ⟨0x2000e0 + 0x1000 * i, 9, 6, 0⟩
def PORT_SAMPLE_N (i : Nat) (j : Nat) : FieldRef := ⟨0x2000e4 + 0x1000 * i + 4 * j, 23, 0, 0⟩
def PORT_SAMPLE_RANDOM (i : Nat) (j : Nat) : FieldRef := ⟨0x2000e4 + 0x1000 * i + 4 * j, 24, 24, 0⟩
def PORT_SAMPLE_Q (i : Nat) (j : Nat) : FieldRef := ⟨0x2000e4 + 0x1000 * i + 4 * j, 27, 25, 0⟩
def PORT_TS_DLY_RX_DLY (i : Nat) : FieldRef := ⟨0x2000f0 + 0x1000 * i, 15, 0, 0⟩
def PORT_TS_DLY_TX_DLY (i : Nat) : FieldRef := ⟨0x2000f0 + 0x1000 * i, 31, 16, 0⟩
def PORT_SHAPE_RATE_RATE (i : Nat) (j : Nat) : FieldRef := ⟨0x200100 + 0x1000 * i + 8 * j, 31, 0, 4294967295⟩
def PORT_SHAPE_BURST_BURST (i : Nat) (j : Nat) : FieldRef := ⟨0x200104 + 0x1000 * i + 8 * j, 23, 0, 9216⟩
def PRS_CTL_DEPTH : FieldRef := ⟨0x300000, 4, 0, 16⟩
def PRS_HASH_CTL_LEVEL : FieldRef := ⟨0x300004, 0, 0, 0⟩
def PRS_HASH_CTL_SYM : FieldRef := ⟨0x300004, 1, 1, 0⟩
def PRS_HASH_CTL_L4_EN : FieldRef := ⟨0x300004, 2, 2, 1⟩
def PRS_HASH_CTL_FLOW_EN : FieldRef := ⟨0x300004, 3, 3, 0⟩
def PRS_HASH_CTL_PORT_EN : FieldRef := ⟨0x300004, 4, 4, 0⟩
def PRS_HASH_SEED_SEED : FieldRef := ⟨0x300008, 31, 0, 4294967295⟩
def FDB_CTL_NOTIFY : FieldRef := ⟨0x400000, 0, 0, 0⟩
def FDB_CTL_FLUSH_ON_DOWN : FieldRef := ⟨0x400000, 1, 1, 0⟩
def FDB_CTL_NOTIFY_MAX : FieldRef := ⟨0x400000, 15, 8, 0⟩
def FDB_AGE_SWEEP_S : FieldRef := ⟨0x400004, 15, 0, 0⟩
def FDB_STATUS_FULL_SEEN : FieldRef := ⟨0x400008, 21, 21, 0⟩
def FDB_ERR_CORR : FieldRef := ⟨0x400018, 7, 0, 0⟩
def FDB_ERR_UNCORR : FieldRef := ⟨0x400018, 15, 8, 0⟩
def FDB_ERR_NOTIFY_LOST : FieldRef := ⟨0x400018, 31, 16, 0⟩
def FDB_LEARN_CNT_MISSED : FieldRef := ⟨0x400020, 7, 0, 0⟩
def FDB_LEARN_CNT_FULL : FieldRef := ⟨0x400020, 15, 8, 0⟩
def FDB_LEARN_CNT_LIMITED : FieldRef := ⟨0x400020, 23, 16, 0⟩
def FDB_LEARN_CNT_STALE : FieldRef := ⟨0x400020, 31, 24, 0⟩
def TM_CTL_CT_EN : FieldRef := ⟨0x500000, 0, 0, 1⟩
def TM_CTL_PUSH_EN : FieldRef := ⟨0x500000, 1, 1, 1⟩
def TM_ERR_PAR_WRITE : FieldRef := ⟨0x500010, 7, 0, 0⟩
def TM_ERR_PAR_READ : FieldRef := ⟨0x500010, 15, 8, 0⟩
def TM_LAUNCH_LATE_TOL : FieldRef := ⟨0x501000, 19, 0, 1000⟩
def MIR_SESS_EN (i : Nat) : FieldRef := ⟨0x600000 + 0x10 * i, 0, 0, 0⟩
def MIR_SESS_DEST_KIND (i : Nat) : FieldRef := ⟨0x600000 + 0x10 * i, 2, 1, 0⟩
def MIR_SESS_DEST_PORT (i : Nat) : FieldRef := ⟨0x600000 + 0x10 * i, 10, 3, 0⟩
def MIR_SESS_DEST_MODULE (i : Nat) : FieldRef := ⟨0x600000 + 0x10 * i, 19, 11, 0⟩
def MIR_SESS_HOST_Q (i : Nat) : FieldRef := ⟨0x600000 + 0x10 * i, 22, 20, 0⟩
def MIR_SESS_CLASS (i : Nat) : FieldRef := ⟨0x600000 + 0x10 * i, 25, 23, 0⟩
def MIR_SESS_ERR_EN (i : Nat) : FieldRef := ⟨0x600000 + 0x10 * i, 26, 26, 0⟩
def MIR_SESS_LIM_TRUNC (i : Nat) : FieldRef := ⟨0x600004 + 0x10 * i, 7, 0, 0⟩
def MIR_SESS_LIM_CELL_LIMIT (i : Nat) : FieldRef := ⟨0x600004 + 0x10 * i, 27, 8, 4096⟩
def MIR_DROP_EN : FieldRef := ⟨0x600100, 0, 0, 0⟩
def MIR_DROP_SESSION : FieldRef := ⟨0x600100, 4, 1, 0⟩
def MIR_DROP_STEPS : FieldRef := ⟨0x600100, 15, 8, 0⟩
def MIR_SAMPLE_LEN_LEN : FieldRef := ⟨0x600104, 7, 0, 2⟩

end Reg

end Sys2Proof.Machine
end

