-- ==== Sys2Proof/Machine/Ops.lean ====
section
/-!
DEFINITION. The named operations that every meaning uses: bit fields, serial numbers, sparse tables, byte strings,
stored register fields, the active Canvas's sections, clocks and module time, counters, events, host memory.
-/

namespace Sys2Proof.Machine

/-! ### Bits and numbers -/

/-- Bits [hi:lo] of `n`. -/
def bitsOf (n hi lo : Nat) : Nat := n / 2 ^ lo % 2 ^ (hi + 1 - lo)

/-- `n` with bits [hi:lo] replaced by `v`. -/
def putBits (n hi lo v : Nat) : Nat :=
  n - bitsOf n hi lo * 2 ^ lo + v % 2 ^ (hi + 1 - lo) * 2 ^ lo

/-- Bit `k` of `n`. -/
def bitAt (n k : Nat) : Bool := n / 2 ^ k % 2 == 1

/-- `n` with bit `k` set or cleared. -/
def setBit (n k : Nat) (b : Bool) : Nat := putBits n k k (if b then 1 else 0)

/-- The bits of `a` that `b` does not have. -/
def clearBits (a b : Nat) : Nat := a - (a &&& b)

/-- How many of the low `w` bits of `n` are set. -/
def popCount : Nat → Nat → Nat
  | 0, _ => 0
  | w + 1, n => n % 2 + popCount w (n / 2)

/-- The numbers below `w` whose bits are set in `n`, rising. -/
def bitList (w n : Nat) : List Nat := (List.range w).filter (bitAt n)

/-- The `w` low bits of `n` as a two's complement number. -/
def signed (w n : Nat) : Int :=
  let m := n % 2 ^ w
  if m < 2 ^ (w - 1) then m else (m : Int) - 2 ^ w

/-- An integer as `w` bits of two's complement. -/
def unsigned (w : Nat) (i : Int) : Nat := (i % 2 ^ w).toNat

/-- An integer clamped to [lo, hi]. -/
def clampInt (i lo hi : Int) : Int := if i < lo then lo else if i > hi then hi else i

/-- Saturation to `w` bits of two's complement. -/
def satInt (w : Nat) (i : Int) : Int := clampInt i (-(2 ^ (w - 1))) (2 ^ (w - 1) - 1)

/-- The rounding right shift of R180: half is rounded up. -/
def rsh (x : Int) (k : Nat) : Int := if k = 0 then x else (x + 2 ^ (k - 1)) / 2 ^ k

/-- One or zero. -/
def ofBool (b : Bool) : Nat := if b then 1 else 0

/-- `a` is newer than `b` by serial-number arithmetic on `n` bits (R548). -/
def newer (n a b : Nat) : Bool :=
  let d := (a + 2 ^ n - b % 2 ^ n) % 2 ^ n
  decide (1 ≤ d ∧ d < 2 ^ (n - 1))

/-- (a − b) mod 2^32. -/
def seqDiff (a b : Nat) : Nat := (a + 2 ^ 32 - b % 2 ^ 32) % 2 ^ 32

/-- The next number of a 32-bit series. -/
def seqNext (a : Nat) : Nat := (a + 1) % 2 ^ 32

/-! ### Sparse tables -/

/-- The entry at a key. -/
def tget? {α : Type} (t : Tbl α) (k : Nat) : Option α :=
  match t with
  | [] => none
  | (j, v) :: rest => if j = k then some v else tget? rest k

/-- The entry at a key, or the value an unlisted key reads as. -/
def tget {α : Type} (d : α) (t : Tbl α) (k : Nat) : α := (tget? t k).getD d

/-- Removal of a key. -/
def terase {α : Type} (t : Tbl α) (k : Nat) : Tbl α :=
  match t with
  | [] => []
  | (j, v) :: rest => if j = k then rest else if k < j then (j, v) :: rest else (j, v) :: terase rest k

/-- Insertion or replacement, keeping the keys rising. -/
def tput {α : Type} (t : Tbl α) (k : Nat) (v : α) : Tbl α :=
  match t with
  | [] => [(k, v)]
  | (j, w) :: rest =>
    if j = k then (k, v) :: rest else if k < j then (k, v) :: (j, w) :: rest else (j, w) :: tput rest k v

/-- A write that keeps the canonical form: writing what an unlisted key reads as removes the entry. -/
def tset {α : Type} [DecidableEq α] (d : α) (t : Tbl α) (k : Nat) (v : α) : Tbl α :=
  if v = d then terase t k else tput t k v

/-- The canonical form: keys strictly rising from `lo`, and no entry equal to `d`. -/
def tblWf {α : Type} [DecidableEq α] (d : α) : Nat → Tbl α → Bool
  | _, [] => true
  | lo, (k, v) :: rest => decide (lo ≤ k) && decide (v ≠ d) && tblWf d (k + 1) rest

/-- Keys that lie strictly above `lo` in rising order: the form of a table with no default entry. -/
def keysRise {α : Type} : Nat → Tbl α → Bool
  | _, [] => true
  | lo, (k, _) :: rest => decide (lo ≤ k) && keysRise (k + 1) rest

/-- The element at an index of a list, or a default. -/
def lget {α : Type} (d : α) (l : List α) (i : Nat) : α := l.getD i d

/-- A list with the element at an index replaced; unchanged where there is none. -/
def lset {α : Type} (l : List α) (i : Nat) (v : α) : List α := l.set i v

/-- Bytewise insertion of a string into byte memory from an address on. -/
def putBytes (t : Tbl Byte) (addr : Nat) : Bytes → Tbl Byte
  | [] => t
  | b :: rest => putBytes (tput t addr b) (addr + 1) rest

/-! ### Byte strings -/

/-- Little-endian value of a byte string. -/
def leNat : Bytes → Nat
  | [] => 0
  | b :: rest => b.toNat + 256 * leNat rest

/-- `w` bytes of a number, little-endian. -/
def leBytes : Nat → Nat → Bytes
  | 0, _ => []
  | w + 1, n => BitVec.ofNat 8 n :: leBytes w (n / 256)

/-- Big-endian value of a byte string. -/
def beNat (b : Bytes) : Nat := leNat b.reverse

/-- `w` bytes of a number, big-endian. -/
def beBytes (w n : Nat) : Bytes := (leBytes w n).reverse

/-- `len` bytes from an offset. -/
def slice (b : Bytes) (off len : Nat) : Bytes := (b.drop off).take len

/-- The little-endian number of `len` bytes at an offset; bytes past the end read 0. -/
def leAt (b : Bytes) (off len : Nat) : Nat := leNat (slice b off len)

/-- The big-endian number of `len` bytes at an offset. -/
def beAt (b : Bytes) (off len : Nat) : Nat := beNat (slice b off len)

/-- The byte at an offset, as a number. -/
def byteAt (b : Bytes) (off : Nat) : Nat := (b.getD off 0).toNat

/-- Zeros. -/
def zeros (n : Nat) : Bytes := List.replicate n 0

/-- A string padded with zeros, or cut, to a length. -/
def padTo (n : Nat) (b : Bytes) : Bytes := (b ++ zeros n).take n

/-- Is every byte zero? -/
def allZero (b : Bytes) : Bool := b.all (· == 0)

/-- Eight steps of a reflected CRC. -/
def crcStep (poly : BitVec 32) : Nat → BitVec 32 → BitVec 32
  | 0, c => c
  | n + 1, c => crcStep poly n (if c.getLsbD 0 then (c >>> 1) ^^^ poly else c >>> 1)

/-- A reflected CRC-32 of a byte string from a register value. -/
def crcRun (poly : BitVec 32) (c : BitVec 32) : Bytes → BitVec 32
  | [] => c
  | b :: rest => crcRun poly (crcStep poly 8 (c ^^^ b.setWidth 32)) rest

/-- CRC-32C of R274: polynomial 0x1EDC_6F41 reflected, initial and final 0xFFFF_FFFF. -/
def crc32c (b : Bytes) : Nat := (crcRun 0x82F63B78 0xFFFFFFFF b ^^^ 0xFFFFFFFF).toNat

/-- The Ethernet FCS: CRC-32, polynomial 0x04C1_1DB7 reflected (PRESUMED: IEEE 802.3). -/
def crc32 (b : Bytes) : Nat := (crcRun 0xEDB88320 0xFFFFFFFF b ^^^ 0xFFFFFFFF).toNat

/-- Bytes to the next multiple of an alignment. -/
def alignUp (n a : Nat) : Nat := if a = 0 then n else (n + a - 1) / a * a

/-- Alignment of an item of a width: 2 for a MAC, 8 above 8 bytes, else the width (R435). -/
def itemAlign (w : Nat) : Nat := if w = 6 then 2 else if w > 8 then 8 else w

/-- Items of given widths laid out as R435 and R441 give. -/
def packItems : List (Nat × Nat) → Bytes → Bytes
  | [], acc => acc
  | (w, v) :: rest, acc => packItems rest (acc ++ zeros (alignUp acc.length (itemAlign w) - acc.length) ++ leBytes w v)

/-! ### Stored registers -/

/-- The register of the map at an offset, with its repeat. -/
def RegDesc.at? (d : RegDesc) (a : Nat) : Option Nat :=
  if a < d.base then none
  else
    let off := a - d.base
    let i := if d.stride = 0 then 0 else off / d.stride
    let r := if d.stride = 0 then off else off % d.stride
    let j := if d.stride2 = 0 then 0 else r / d.stride2
    let r2 := if d.stride2 = 0 then r else r % d.stride2
    if i < d.count ∧ j < d.count2 ∧ r2 = 0 then some i else none

/-- The map's entry for an offset. -/
def regFind (a : Nat) : List RegDesc → Option (RegDesc × Nat)
  | [] => none
  | d :: rest => match d.at? a with
    | some i => some (d, i)
    | none => regFind a rest

/-- The register at an offset. -/
def regAt (a : Nat) : Option (RegDesc × Nat) := regFind a regTable

/-- Reset word of the stored fields of a register in repeat `i`. -/
def resetOf (i : Nat) (fs : List FieldDesc) : Nat :=
  fs.foldl (fun w f => if f.stored then putBits w f.hi f.lo (f.reset i) else w) 0

/-- Reset word of an offset. -/
def resetWord (a : Nat) : Word :=
  match regAt a with
  | some (d, i) => BitVec.ofNat 32 (resetOf i d.fields)
  | none => 0

/-- The stored word of a register. -/
def State.regWord (s : State) (a : Nat) : Word := (tget? s.regs a).getD (resetWord a)

/-- A store of a register's word, in canonical form. -/
def State.setRegWord (s : State) (a : Nat) (w : Word) : State := { s with regs := tset (resetWord a) s.regs a w }

/-- A stored field. -/
def State.fld (s : State) (f : FieldRef) : Nat :=
  match tget? s.regs f.addr with
  | some w => bitsOf w.toNat f.hi f.lo
  | none => f.reset

/-- A stored one-bit field. -/
def State.flag (s : State) (f : FieldRef) : Bool := s.fld f != 0

/-- A stored field as a signed number. -/
def State.sfld (s : State) (f : FieldRef) : Int := signed (f.hi + 1 - f.lo) (s.fld f)

/-- A store of one field. -/
def State.setFld (s : State) (f : FieldRef) (v : Nat) : State :=
  s.setRegWord f.addr (BitVec.ofNat 32 (putBits (s.regWord f.addr).toNat f.hi f.lo v))

/-- A saturating count in a field. -/
def State.bump (s : State) (f : FieldRef) (n : Nat) : State :=
  s.setFld f (min (s.fld f + n) (2 ^ (f.hi + 1 - f.lo) - 1))

/-! ### The active Canvas -/

/-- Entry `i` of an image's section table: TYPE, OFFSET, LENGTH, COUNT (Table 4.2). -/
def sectEntry (img : Bytes) (i : Nat) : Nat × Nat × Nat × Nat :=
  let o := 0x80 + 32 * i
  (leAt img o 2, leAt img (o + 4) 4, leAt img (o + 8) 4, leAt img (o + 12) 4)

/-- The body of the section of a TYPE; `none` where the image has none (R79). -/
def sectionOf (img : Bytes) (type : Nat) : Option Bytes :=
  ((List.range (leAt img 0x16 2)).map (sectEntry img)).find? (fun e => e.1 == type)
    |>.map (fun e => slice img e.2.1 e.2.2.1)

/-- A section of the active Canvas, empty where there is none. -/
def State.section (s : State) (type : Nat) : Bytes :=
  match s.canvas.active with
  | some img => (sectionOf img type).getD []
  | none => []

/-- IDENT, SYSTEM, FIBRE_PLAN and the rest by name (Table 4.3). -/
def State.ident (s : State) : Bytes := s.section 1
def State.system (s : State) : Bytes := s.section 2
def State.fibrePlan (s : State) : Bytes := s.section 5
def State.queuePlan (s : State) : Bytes := s.section 12
/-- MODULE_ID (Table 4.5); 0 while no Canvas is active. -/
def State.moduleId (s : State) : Nat := leAt s.ident 0 2 % 512
/-- MODE_PERMIT. -/
def State.modePermit (s : State) : Nat := leAt s.ident 2 2
/-- SYSTEM_SIZE; a module without a Canvas is a system of one. -/
def State.systemSize (s : State) : Nat := if s.canvas.active.isNone then 1 else leAt s.system 0 2
/-- ECLIPSE_NS. -/
def State.eclipseNs (s : State) : Nat := leAt s.system 2 2
/-- BURST_PERIOD_NS; 2 µs where no Canvas is active (R20, the default). -/
def State.burstPeriod (s : State) : Nat := if s.canvas.active.isNone then 2000 else leAt s.system 4 4
def State.exclNs (s : State) : Nat := leAt s.system 8 2
def State.readmitNs (s : State) : Nat := leAt s.system 10 2
def State.readmitMs (s : State) : Nat := leAt s.system 12 2
def State.cometTimeoutUs (s : State) : Nat := leAt s.system 14 2
/-- The quorum: the integer part of SYSTEM_SIZE / 2, plus 1 (Table 4.5). -/
def State.quorum (s : State) : Nat := s.systemSize / 2 + 1
/-- GENERATION of the active image; 0 while none is. -/
def State.canvasGen (s : State) : Nat := match s.canvas.active with
  | some img => leAt img 0x0C 4
  | none => 0
/-- The system digest in force (R80): the header's SYSTEM_DIGEST. -/
def State.sysDigest (s : State) : Bytes := match s.canvas.active with
  | some img => slice img 0x20 16
  | none => zeros 16

/-- PORT_PLAN's record of a port (Table 4.6): word 0 and word 1. -/
def portRec (plan : Bytes) (p : Nat) : Option (Nat × Nat) :=
  ((List.range (plan.length / 8)).map (fun i => (leAt plan (8 * i) 4, leAt plan (8 * i + 4) 4))).find?
    (fun r => r.1 % 256 == p)

/-- The record of a port of the active Canvas. -/
def State.portPlan (s : State) (p : Nat) : Option (Nat × Nat) := portRec (s.section 3) p

/-- Is a port in PORT_PLAN? -/
def State.planned (s : State) (p : Nat) : Bool := (s.portPlan p).isSome

/-- MTU of a port. -/
def State.mtu (s : State) (p : Nat) : Nat := match s.portPlan p with
  | some (_, w1) => w1 / 65536
  | none => 0

/-- PVID of a port. -/
def State.pvid (s : State) (p : Nat) : Nat := match s.portPlan p with
  | some (_, w1) => w1 % 4096
  | none => 0

/-- SPEED of a port, 0 to 3: 100, 200, 400 or 800 GbE. -/
def State.speed (s : State) (p : Nat) : Nat := match s.portPlan p with
  | some (w0, _) => bitsOf w0 18 16
  | none => 0

/-- First lane of a port. -/
def State.firstLane (s : State) (p : Nat) : Nat := match s.portPlan p with
  | some (w0, _) => bitsOf w0 15 8
  | none => 0

/-- Ingress group of a port (R12). -/
def State.group (s : State) (p : Nat) : Nat := s.firstLane p / 16

/-! ### Identity (R8, R9) -/

/-- GEN_IDENT: part 0x5120, E-die step B0, P-die step A1. -/
def identWord : Nat := 0x51201001

/-- The major version of the running firmware. -/
def fwMajor : Nat := 3

/-- GEN_FW_VER. -/
def fwWord : Nat := fwMajor * 2 ^ 24 + Config.fwMinor.toNat * 2 ^ 16 + Config.fwBuild.toNat

/-! ### Modes -/

/-- The code of a mode (Table 2.1). -/
def Mode.code : Mode → Nat
  | .bootstrap => 0
  | .safe => 1
  | .calibrate => 2
  | .edgeSlotted => 3
  | .edgePersistent => 4
  | .edgePacket => 5
  | .coreSlotted => 6
  | .corePersistent => 7
  | .transitSlotted => 8
  | .loopbackTest => 9
  | .maintain => 10
  | .fenced => 11

/-- The mode of a code. -/
def modeOf : Nat → Option Mode
  | 0 => some .bootstrap
  | 1 => some .safe
  | 2 => some .calibrate
  | 3 => some .edgeSlotted
  | 4 => some .edgePersistent
  | 5 => some .edgePacket
  | 6 => some .coreSlotted
  | 7 => some .corePersistent
  | 8 => some .transitSlotted
  | 9 => some .loopbackTest
  | 10 => some .maintain
  | 11 => some .fenced
  | _ => none

/-- Slotted modes: 3, 6 and 8. -/
def Mode.slotted (m : Mode) : Bool := m == .edgeSlotted || m == .coreSlotted || m == .transitSlotted

/-- Persistent modes with a swatch by command or fixed: 4, 5, 7 and 9 (R20). -/
def Mode.persistent (m : Mode) : Bool :=
  m == .edgePersistent || m == .edgePacket || m == .corePersistent || m == .loopbackTest

/-- Modes in which the loops are closed: 3 to 11. -/
def Mode.loopsClosed (m : Mode) : Bool := decide (3 ≤ m.code)

/-- Modes in which the packet engine runs: 3, 4, 5, 8 and 9; Fenced runs the local member ports. -/
def Mode.packets (m : Mode) : Bool :=
  m == .edgeSlotted || m == .edgePersistent || m == .edgePacket || m == .transitSlotted || m == .loopbackTest
    || m == .fenced

/-- Modes that use fabric lanes: 3 to 9. -/
def Mode.fabric (m : Mode) : Bool := decide (3 ≤ m.code ∧ m.code ≤ 9)

/-! ### Parts of the state by index -/

def State.lane (s : State) (n : Nat) : LaneSt := tget {} s.lanes n
def State.setLane (s : State) (n : Nat) (l : LaneSt) : State := { s with lanes := tset {} s.lanes n l }
def State.port (s : State) (p : Nat) : PortSt := tget {} s.ports p
def State.setPort (s : State) (p : Nat) (x : PortSt) : State := { s with ports := tset {} s.ports p x }
def State.pq (s : State) (p : Nat) : PortQ := tget {} s.tm.ports p
def State.setPq (s : State) (p : Nat) (x : PortQ) : State :=
  { s with tm := { s.tm with ports := tset {} s.tm.ports p x } }
def State.cell (s : State) (c : Nat) : CellLoop := tget {} s.loops.cells c
def State.setCell (s : State) (c : Nat) (x : CellLoop) : State :=
  { s with loops := { s.loops with cells := tset {} s.loops.cells c x } }

/-! ### Free values -/

/-- A fresh free word, and the state after drawing it. -/
def State.draw (s : State) : Word × State := (Config.freeWord s.freeCtr, { s with freeCtr := s.freeCtr + 1 })

/-! ### Module time and clocks (R376 to R378) -/

/-- Units of module time in one ns: 2^40 (R377). -/
def nsUnit : Nat := 2 ^ 40

/-- Units of module time in one second. -/
def secUnit : Nat := 1000000000 * nsUnit

/-- Whole ns of a module time. -/
def timeNs (t : Nat) : Nat := t / nsUnit

/-- ps of an amount of time, from units, truncated toward −∞. -/
def unitsToPs (u : Int) : Int := u * 1000 / (nsUnit : Int)

/-- Units of an amount in ps, truncated toward −∞. -/
def psToUnits (ps : Int) : Int := ps * (nsUnit : Int) / 1000

/-- The short stamp of INGRESS_TS (Table 12.3): 16 fraction bits, 30 ns bits, 18 seconds bits. -/
def shortStamp (t : Nat) : Nat :=
  t / 2 ^ 24 % 65536 + timeNs t % 1000000000 * 2 ^ 16 + timeNs t / 1000000000 % 2 ^ 18 * 2 ^ 46

/-- Full seconds of a number of low bits, nearest to the module's own time (R392, R431). -/
def nearestSec (own low width : Nat) : Nat :=
  let m := 2 ^ width
  let base := own / m * m + low
  if base + m / 2 < own then base + m
  else if own + m / 2 < base ∧ m ≤ base then base - m
  else base

/-- Module time of a short stamp. -/
def State.fromStamp (s : State) (st : Nat) : Nat :=
  let sec := nearestSec (timeNs s.time.now / 1000000000) (st / 2 ^ 46 % 2 ^ 18) 18
  sec * secUnit + st / 2 ^ 16 % 2 ^ 30 * nsUnit + st % 65536 * 2 ^ 24

/-- Module time of a time word (R431). -/
def State.fromWord (s : State) (w : TimeWord) : Nat :=
  let n := w.toNat
  let sec := nearestSec (timeNs s.time.now / 1000000000) (n / 2 ^ 30) 34
  sec * secUnit + n % 2 ^ 30 * nsUnit

/-- The time word of a module time. -/
def toWord (t : Nat) : Nat := timeNs t % 1000000000 + timeNs t / 1000000000 % 2 ^ 34 * 2 ^ 30

/-- `n` ns pass: the clock, module time at the servo's rate (R377), the time spent throttled (R487) and in L0. -/
def State.elapse (s : State) (n : Nat) : State :=
  let rate : Nat := if s.time.slow then nsUnit else ((nsUnit : Int) + s.time.y).toNat
  let ms := (s.clk + n) / 1000000 - s.clk / 1000000
  let l0 := if s.pwr.state = 0 then n else 0
  { s with
    clk := s.clk + n
    time := { s.time with now := s.time.now + n * rate }
    thm := { s.thm with
      throttleMs := if s.thm.throttling then min (s.thm.throttleMs + ms) (2 ^ 32 - 1) else s.thm.throttleMs }
    cal := { s.cal with l0Day := s.cal.l0Day + l0, l0Month := s.cal.l0Month + l0 } }

/-- Time passes up to a clock instant, if it lies ahead. -/
def State.waitClk (s : State) (t : Nat) : State := s.elapse (t - s.clk)

/-- Time passes up to a module time, if it lies ahead; module time then reads exactly that instant. -/
def State.waitTime (s : State) (t : Nat) : State :=
  if s.time.now < t then
    let rate : Nat := if s.time.slow then nsUnit else ((nsUnit : Int) + s.time.y).toNat
    let s1 := s.elapse ((t - s.time.now) / rate)
    { s1 with time := { s1.time with now := t } }
  else s

/-- Does the module follow Ikile (R379): SYSTEM_SIZE above 1, and another module leads in its view. -/
def State.follows (s : State) : Bool :=
  decide (s.systemSize > 1) && (match s.ikl.leader with
    | some m => m != s.moduleId
    | none => false)

/-- The parent's time as its Comets report it (R381): [3] of TSTATE. -/
def State.parentTraceable (s : State) : Bool :=
  match s.ikl.parent with
  | some p => match tget? s.ikl.table (lget {} s.ikl.ports p).peerId with
    | some e => bitAt (byteAt e.body 0x2B) 3
    | none => false
  | none => false

/-- TIM_STATUS.TRACEABLE (R381, Table 18.1). -/
def State.traceable (s : State) : Bool :=
  !s.time.unset && (s.time.state == 0 || s.time.state == 2) && (!s.follows || s.parentTraceable)

/-! ### Counters (R363, R364) -/

/-- A counter record by its window address. -/
def State.cntOf (s : State) (a : Nat) : Nat := tget 0 s.obs.cnt a

/-- Counting. -/
def State.count (s : State) (a n : Nat) : State :=
  { s with obs := { s.obs with cnt := tset 0 s.obs.cnt a ((s.cntOf a + n) % 2 ^ 72) } }

/-- Port counter `i` of Table 17.2. -/
def portCnt (p i : Nat) : Nat := 0x2600000 + 0x1000 * p + 0x10 * i
/-- Lane counter `i` of Table 17.3. -/
def laneCnt (n i : Nat) : Nat := 0x2700000 + 0x400 * n + 0x10 * i
/-- Module counters of Table 17.1: 0 DROP_RESET, 1 LOG_DROPPED, 8 + q HOST_Q_DROP. -/
def modCnt (i : Nat) : Nat := 0x2C10000 + 0x10 * i
/-- Time counters (R399). -/
def timCnt (i : Nat) : Nat := 0x2C20000 + 0x10 * i
/-- Ikile counters of port n, or of the module for n = 8 (R425). -/
def iklCnt (n i : Nat) : Nat := 0x2C30000 + 0x100 * n + 0x10 * i

/-! ### Host memory, interrupts and events -/

/-- The endpoint can issue DMA: link up, Bus Master Enable set, not in D3hot, not in reset (R427, R430). -/
def State.dmaOk (s : State) : Bool := s.cx.linkUp && s.cx.busMaster && !s.cx.d3hot && !s.cx.perst

/-- The host reaches BAR0: the link is up and step 3 of the start has completed (R64, R430). -/
def State.barUp (s : State) : Bool := s.cx.linkUp && !s.cx.perst && decide (4 ≤ s.start.step)

/-- A bus target grants a master and stays parked on it (R459). -/
def State.granted (s : State) (t m : Nat) : State :=
  { s with bm := { s.bm with targets := s.bm.targets.modify t (fun x => { x with owner := m }) } }

/-- A write of the host's to a register behind target `t`: discarded where BAR0 is not reached. -/
def State.hostAct (s : State) (t : Nat) (f : State → State) : State := if s.barUp then f (s.granted t 2) else s

/-- A read of the host's behind target `t`: all ones where BAR0 is not reached. -/
def State.hostRead (s : State) (t : Nat) (f : State → State) : State :=
  if s.barUp then f (s.granted t 2) else { s with readData := 0xFFFFFFFF }

/-- A write of host memory (R428). -/
def State.hostWrite (s : State) (addr : Nat) (b : Bytes) : State := { s with host := putBytes s.host addr b }

/-- A vector is raised, or made pending where it is masked (R429). -/
def State.raiseVector (s : State) (v : Nat) : State :=
  let x := lget {} s.cx.msix v
  let y := if x.masked then { x with pending := true } else { x with raised := x.raised + 1 }
  { s with cx := { s.cx with msix := lset s.cx.msix v y } }

/-- COAL_N and the vector of a coalescing source: rings 0 to 15, the event ring 16, queues 24 + q and 32 + q. -/
def State.coalOf (s : State) (src : Nat) : Nat × Nat :=
  if src < 16 then (s.fld (Reg.CX_RING_CTL_COAL_N src), s.fld (Reg.CX_RING_CTL_VEC src))
  else if src = 16 then (s.fld Reg.CX_EVT_CTL_COAL_N, s.fld Reg.CX_EVT_CTL_VEC)
  else if src < 32 then (s.fld (Reg.CX_FQ_CTL_COAL_N (src - 24)), s.fld (Reg.CX_FQ_CTL_TX_VEC (src - 24)))
  else (s.fld (Reg.CX_FQ_CTL_COAL_N (src - 32)), s.fld (Reg.CX_FQ_CTL_RX_VEC (src - 32)))

/-- One entry written by a source: its vector is raised once COAL_N entries have been written (R429). -/
def State.coalesce (s : State) (src : Nat) : State :=
  let (n, v) := s.coalOf src
  let c := tget {} s.cx.coal src
  let c' : Coal := { count := c.count + 1, first := if c.count = 0 then s.clk else c.first }
  if c'.count ≥ n then
    { s with cx := { s.cx with coal := tset {} s.cx.coal src {} } }.raiseVector v
  else { s with cx := { s.cx with coal := tset {} s.cx.coal src c' } }

/-- A flash job joins the queue of programs and erases; the head of the queue is the one in progress. -/
def State.flashJob (s : State) (j : FlashJob) : State := { s with nvm := { s.nvm with jobs := s.nvm.jobs ++ [j] } }

/-- A log page program is waiting or in progress. -/
def isLogJob : FlashJob → Bool
  | .logPage _ => true
  | _ => false

/-- A page of 7 is written as soon as 7 records wait (R374); one program of the log at a time. -/
def State.logPages (s : State) : State :=
  if s.obs.staged.length ≥ 7 ∧ (s.nvm.jobs.any isLogJob) = false then s.flashJob (.logPage (s.obs.staged.take 7))
  else s

/-- One event entry (Table 20.4): numbered, staged for the log, posted on the ring where it can take it (R440). -/
def State.postEvt (s : State) (code flags : Nat) (data : Bytes) : State :=
  let seq := seqNext s.cx.evtSeq
  let entry := leBytes 4 seq ++ leBytes 2 code ++ leBytes 2 (flags + ofBool (!s.traceable))
    ++ leBytes 8 (shortStamp s.time.now) ++ padTo 14 data ++ leBytes 2 (65535 - seq % 65536)
  let s1 := { s with cx := { s.cx with evtSeq := seq } }
  let s2 :=
    if s1.obs.staged.length < 4096 then
      { s1 with obs := { s1.obs with staged := s1.obs.staged ++ [({ seq := seq, entry := entry } : EvtRec)] } }.logPages
    else s1.count (modCnt 1) 1
  let s3 :=
    if s2.flag Reg.CX_EVT_CTL_EN ∧ s2.dmaOk ∧ seqDiff seq s2.cx.evtDb ≤ 65536 then
      let base := s2.fld Reg.CX_EVT_BASE_LO_BASE + 2 ^ 32 * s2.fld Reg.CX_EVT_BASE_HI_BASE
      (s2.hostWrite (base + 32 * (seq % 65536)) entry).coalesce 16
    else s2.bump Reg.CX_ERR_EVT_LOST 1
  if bitAt (s3.fld Reg.GEN_EVT_ROUTE_BLOCKS) (code / 256) ∧ s3.alertEvent = false then
    { s3 with alertEvent := true, alertCode := code }
  else s3

/-- An event with its fields as (width, value) pairs; past 14 bytes it continues in a second entry (R441). -/
def State.raise (s : State) (code : Nat) (items : List (Nat × Nat)) : State :=
  let d := packItems items []
  if d.length ≤ 14 then s.postEvt code 0 d
  else (s.postEvt code 4 (d.take 14)).postEvt code 2 (d.drop 14)

/-- An event raised at most once per second for a subject; a withheld event takes no number (R440). -/
def State.raiseLim (s : State) (code subject : Nat) (items : List (Nat × Nat)) : State :=
  let key := code * 2 ^ 24 + subject
  match tget? s.evLast key with
  | some t =>
    if s.clk < t + 1000000000 then s
    else { s with evLast := tput s.evLast key s.clk }.raise code items
  | none => { s with evLast := tput s.evLast key s.clk }.raise code items

/-- Would `raiseLim` withhold the event now? -/
def State.withheld (s : State) (code subject : Nat) : Bool :=
  match tget? s.evLast (code * 2 ^ 24 + subject) with
  | some t => decide (s.clk < t + 1000000000)
  | none => false

/-- Something leaves the module. -/
def State.emit (s : State) (o : Out) : State := { s with out := o :: s.out }

/-- ALERT_N asserted (R523): some source of GEN_ALERT is set. -/
def State.alert (s : State) : Bool :=
  decide (s.thm.eState ≥ 2) || decide (s.thm.pState ≥ 2) || s.ret.lockout || decide (s.start.state = 3)
    || s.noStandby || s.alertEvent

/-- A fold of state changes over a list. -/
def State.each {α : Type} (s : State) (l : List α) (f : State → α → State) : State := l.foldl f s

end Sys2Proof.Machine
end

