-- ==== Sys2Proof/Machine/BusCore.lean ====
section
/-!
DEFINITION. The bus matrix's own state (chapter 21): paths, address ranges, locks, errors, master resets.
-/

namespace Sys2Proof.Machine

def State.bmMaster (s : State) (m : Nat) : BmMaster := lget {} s.bm.masters m
def State.setBmMaster (s : State) (m : Nat) (x : BmMaster) : State :=
  { s with bm := { s.bm with masters := lset s.bm.masters m x } }
def State.bmTarget (s : State) (t : Nat) : BmTarget := lget {} s.bm.targets t
def State.setBmTarget (s : State) (t : Nat) (x : BmTarget) : State :=
  { s with bm := { s.bm with targets := lset s.bm.targets t x } }

/-- First and last address of a range, and its target (Table 21.2). -/
def busRanges : List (Nat × Nat × Nat) := [
  (0x00000000, 0x0003FFFF, 0), (0x00080000, 0x000AFFFF, 0), (0x000E0000, 0x006FFFFF, 0), (0x01560000, 0x01581FFF, 0),
  (0x01800000, 0x01D8FFFF, 0), (0x06000000, 0x06FFFFFF, 1), (0x00700000, 0x007FFFFF, 2), (0x02000000, 0x02FFFFFF, 2),
  (0x01000000, 0x0113FFFF, 3), (0x000D0000, 0x000DFFFF, 4), (0x01400000, 0x014FFFFF, 4), (0x04000000, 0x047FFFFF, 4),
  (0x05000000, 0x053FFFFF, 5), (0x000C0000, 0x000CFFFF, 6), (0x01530000, 0x0155FFFF, 6), (0x000B0000, 0x000BFFFF, 7),
  (0x01500000, 0x0152FFFF, 7), (0x00060000, 0x0006FFFF, 8), (0x20000000, 0x3FFFFFFF, 8), (0x00070000, 0x0007FFFF, 9),
  (0x00050000, 0x0005FFFF, 10), (0x00040000, 0x0004FFFF, 11)]

/-- The range in which an address lies. -/
def busRange (a : Nat) : Option (Nat × Nat × Nat) := busRanges.find? (fun r => decide (r.1 ≤ a ∧ a ≤ r.2.1))

/-- The target of an address. -/
def busTarget (a : Nat) : Option Nat := (busRange a).map (fun r => r.2.2)

/-- Targets that a master reaches, as bits (Table 21.3). -/
def busPaths (m : Nat) : Nat :=
  match m with
  | 0 | 1 => 0xFFD
  | 2 => 0xFDD
  | 3 => 0x11D
  | 4 => 0x005
  | 5 => 0x20D
  | 6 => 0xBD5
  | 7 => 0x007
  | _ => 0

/-- Targets that never lock (R460): FDB port, counter memory, time unit, safety unit. -/
def neverLocks (t : Nat) : Bool := t == 1 || t == 2 || t == 9 || t == 10

/-- Register ranges of R454: single-beat transactions on one aligned 32-bit word. -/
def registerRange (a : Nat) : Bool := decide (a < 0x00800000) && (busTarget a).isSome

/-- An error response (R457): it counts, latches the capture and is reported once a second for a master (R464). -/
def State.busError (s : State) (m : Nat) (t : Option Nat) (code addr : Nat) (write : Bool) : State :=
  let s1 := s.bump Reg.BM_ERR_ACCESS 1
  let s2 := { s1 with bm := { s1.bm with
    errMaster := m, errTarget := t.getD 0xF, errCode := code, errWrite := write, errValid := true, errAddr := addr } }
  s2.raiseLim 0x0201 m [(1, m), (1, t.getD 0xF), (1, code), (4, addr)]

/-- A lock ends; the longest is kept (Table 21.8). -/
def State.unlockTarget (s : State) (t : Nat) : State :=
  let x := s.bmTarget t
  s.setBmTarget t { x with lockedBy := none, lockMax := min 1000 (max x.lockMax ((s.clk - x.lockAt) / 10)) }

/-- The target that a core holds locked. -/
def State.lockOf (s : State) (m core : Nat) : Option Nat :=
  (List.range 12).find? (fun t => (s.bmTarget t).lockedBy == some (m, core))

/-- A target serves a requester: no lock is in force but its own. -/
def State.targetFree (s : State) (t m core : Nat) : Bool :=
  match (s.bmTarget t).lockedBy with
  | none => true
  | some h => h == (m, core)

/-- Requests of a master that wait: IDs in use. -/
def State.idsOf (s : State) (m : Nat) : List Nat := (s.bm.waiting.filter (fun e => e.1.master.val == m)).map (fun e => e.1.id)

/-- A master is reset (R462): its requests are withdrawn, its locks released. `burst` is the target of a write burst in
progress and the beats completed with zero strobes. -/
def State.resetMaster (s : State) (m : Nat) (burst : Option (Nat × Nat)) : State :=
  let n := min 64 (s.idsOf m).eraseDups.length
  let held := (List.range 12).filter (fun t => match (s.bmTarget t).lockedBy with
    | some h => h.1 == m
    | none => false)
  let s1 := (s.each held State.unlockTarget).setBmMaster m { inReset := true, drained := false }
  let s2 := { s1 with bm := { s1.bm with
    waiting := s1.bm.waiting.filter (fun e => e.1.master.val != m)
    broken := s1.bm.broken.filter (fun e => e.1 != m) } }
  (s2.bump Reg.BM_ERR_RESETS 1).raise 0x0203
    [(1, m), (1, (burst.map Prod.fst).getD 0xF), (1, (burst.map Prod.snd).getD 0), (1, n)]

/-- A master that is not in reset is put into it. -/
def State.holdMaster (s : State) (m : Nat) : State := if (s.bmMaster m).inReset then s else s.resetMaster m none

/-- The reset of a master ends (R463). -/
def State.freeMaster (s : State) (m : Nat) : State := s.setBmMaster m { s.bmMaster m with inReset := false }

end Sys2Proof.Machine
end

