-- ==== Sys2Proof/Machine/Num.lean ====
section
/-!
DEFINITION. Arithmetic of powers: levels in 0.001 dBm, linear powers in 10 pW, decibel ratios and means, computed
exactly on integers and rounded to the nearest unit, halves toward plus infinity.
-/

namespace Sys2Proof.Machine

/-- Largest n below 2^bits, from `acc` on, whose test holds; the test is monotone. -/
def searchMax (test : Nat → Bool) : Nat → Nat → Nat
  | 0, acc => acc
  | b + 1, acc => searchMax test b (if test (acc + 2 ^ b) then acc + 2 ^ b else acc)

/-- Linear power in 10 pW of a level of `x` × 0.001 dBm: the largest n with n^10000 ≤ 10^(x + 80000); 0 below the
unit. -/
def dbmToLin (x : Int) : Nat :=
  if x < -80000 then 0 else searchMax (fun n => decide (n ^ 10000 ≤ 10 ^ (x + 80000).toNat)) 40 0

/-- 1000 × log10(p / q) rounded to the nearest integer, that is a ratio in 0.01 dB; `none` where either is 0. -/
def ratioDb (p q : Nat) : Option Int :=
  if p = 0 ∨ q = 0 then none
  else if p ≥ q then some ((Nat.log 10 (p ^ 2000 * 10 / q ^ 2000) : Nat) / 2 : Int)
  else
    -- ceil(x) for x = 1000 × log10(q / p) − 1/2
    let y := q ^ 2000
    let z := p ^ 2000 * 10
    if y ≤ z then some 0
    else
      let f := Nat.log 10 (y / z)
      let up := if 10 ^ f * z = y then f else f + 1
      some (-(((up + 1) / 2 : Nat) : Int))

/-- Level in 0.01 dBm of a linear power in 10 pW. -/
def linToDbm (v : Nat) : Option Int := (ratioDb v 1).map (fun d => d - 8000)

/-- |10 log10(p / q)| is at most `bound` × 0.1 dB (R176). -/
def withinDb (p q bound : Nat) : Bool :=
  decide (0 < p ∧ 0 < q ∧ p ^ 100 ≤ 10 ^ bound * q ^ 100 ∧ q ^ 100 ≤ 10 ^ bound * p ^ 100)

/-- Insertion into a rising list. -/
def insertInt (x : Int) : List Int → List Int
  | [] => [x]
  | y :: rest => if x ≤ y then x :: y :: rest else y :: insertInt x rest

/-- A list in rising order. -/
def sortInt (l : List Int) : List Int := l.foldr insertInt []

/-- The median; of an even number the mean of the middle two, rounded half toward plus infinity. -/
def median (l : List Int) : Int :=
  let s := sortInt l
  let n := s.length
  if n = 0 then 0
  else if n % 2 = 1 then lget 0 s (n / 2) else (lget 0 s (n / 2 - 1) + lget 0 s (n / 2) + 1) / 2

/-- Quotient rounded to the nearest integer, halves toward plus infinity, of a positive divisor. -/
def divRound (a : Int) (b : Nat) : Int := (2 * a + b) / (2 * (b : Int))

/-- Sum of a list. -/
def sumNat (l : List Nat) : Nat := l.foldl (· + ·) 0
def sumInt (l : List Int) : Int := l.foldl (· + ·) 0

/-- Mean of a nonempty list, rounded as `divRound`. -/
def meanInt (l : List Int) : Int := if l = [] then 0 else divRound (sumInt l) l.length

end Sys2Proof.Machine
end

