-- ==== Sys2Proof/Machine/Calib.lean ====
section
/-!
DEFINITION. Calibration in use (chapter 11): the image, zones and their interpolation, correction of conversions
(R228), drive records (R244).
-/

namespace Sys2Proof.Machine

/-- Code of a quantity of Table 11.1. -/
def calCode : CalQ → Nat
  | .offset => 0
  | .gain => 1
  | .scale => 2
  | .refZero => 3
  | .refFull => 4
  | .biasCal => 5
  | .calHtr => 6
  | .eoGain => 7
  | .leak => 8
  | .loss => 9
  | .levelBar => 10
  | .levelCross => 11
  | .safeBias => 12
  | .segment => 13
  | .safeHtr => 14
  | .launch => 15
  | .trim => 16

/-- Key of an image value: quantity, set, item. -/
def calKey (q : CalQ) (set item : Nat) : Nat := (calCode q * 8 + set) * 2 ^ 17 + item

/-- Is a quantity held in the temperature sets, for an item (Table 11.1)? -/
def inSets (q : CalQ) (item : Nat) : Bool :=
  match q with
  | .offset | .gain => decide (item < 9728)
  | .biasCal | .calHtr | .eoGain | .leak | .loss | .levelBar | .levelCross | .safeBias | .launch => true
  | _ => false

/-- Field ranges (Tables 10.6, 10.10, 11.1). -/
def calRange (q : CalQ) : Int × Int :=
  match q with
  | .offset | .trim => (-(2 ^ 31), 2 ^ 31 - 1)
  | .gain | .refZero | .refFull | .calHtr | .safeHtr | .eoGain | .leak | .loss => (0, 65535)
  | .scale => (0, 2 ^ 32 - 1)
  | .biasCal | .safeBias => (-32767, 32767)
  | .levelBar | .levelCross => (0, 1023)
  | .segment => (0, 65535)
  | .launch => (-32767, 32767)

/-- A value of the image in use. -/
def State.imgVal (s : State) (q : CalQ) (set item : Nat) : Int :=
  let k := calKey q set item
  clampInt ((tget? s.cal.img k).getD (Config.factoryCal k)) (calRange q).1 (calRange q).2

/-- Zone of a cell (R108). -/
def cellZone (c : Nat) : Nat := 2 * min (c / 256) 15 + c % 256 / 128

/-- Zone of an item of a quantity. -/
def zoneOf (q : CalQ) (item : Nat) : Nat :=
  match q with
  | .offset | .gain | .scale | .trim =>
    if item < 8704 then cellZone (item / 2)
    else if item < 9216 then cellZone (((item - 8704) / 2 + 256) / 2)
    else cellZone (15 * 256 + ((item - 9216) / 2 + 256) / 2)
  | .launch => cellZone (item / 2)
  | _ => cellZone item

def State.zone (s : State) (z : Nat) : Zone := tget {} s.cal.zones z

/-- Lower set of R248 for a temperature in 0.01 °C. -/
def lowerSet (t : Int) : Nat := (min 6 (max 0 ((t - 2000) / 1000))).toNat

/-- A calibration value in force: interpolated at its zone's T_USED where it is in the sets (R248). -/
def State.calAt (s : State) (q : CalQ) (item : Nat) : Int :=
  if inSets q item then
    let t := (s.zone (zoneOf q item)).tUsed
    let i := lowerSet t
    let tc := clampInt t 2000 9000
    let a := s.imgVal q i item
    let b := s.imgVal q (i + 1) item
    clampInt (divRound (a * 1000 + (b - a) * (tc - (2000 + 1000 * (i : Int)))) 1000) (calRange q).1 (calRange q).2
  else s.imgVal q 0 item

/-- OFFSET in force: the interpolated offset plus the trim (R253). -/
def State.offsetOf (s : State) (ch : Nat) : Int := s.calAt .offset ch + tget 0 s.cal.trims ch

/-- VALID of a channel's entry: the reserved housekeeping channels never have one (Table 10.5), and an uncorrectable
entry has none until the Easel writes it again (R229). -/
def State.entryValid (s : State) (ch : Nat) : Bool := decide (ch < 9849) && !s.adc.tableBad.contains ch

/-- A raw code corrected: x and v of R228. -/
def State.correct (s : State) (ch raw : Nat) : Option (Int × Int) :=
  if s.entryValid ch then
    let x := rsh ((16 * (raw : Int) - s.offsetOf ch) * s.calAt .gain ch) 18
    some (x, rsh (x * s.calAt .scale ch) 16)
  else none

/-- The four words of a channel's correction entry (Table 10.6). -/
def State.entryWord (s : State) (ch w : Nat) : Nat :=
  match w with
  | 0 => unsigned 32 (s.offsetOf ch)
  | 1 => unsigned 16 (s.calAt .gain ch)
  | 2 => unsigned 32 (s.calAt .scale ch)
  | _ => ofBool (s.entryValid ch)

/-! ### Converters and pairs (R223) -/

/-- Converter that owns a channel. -/
def ownerOf (ch : Nat) : Nat :=
  if ch < 8704 then ch / 2 % 256 / 8
  else if ch < 9728 then (ch - 8704) % 512 / 2 / 8
  else (ch - 9728) / 4

/-- Pair of a cell's taps, of a far port, of a housekeeping channel. -/
def cellPair (c : Nat) : Nat := c % 256 / 16
def portPair (p : Nat) : Nat := (p - 256) / 16
def hkPair (n : Nat) : Nat := n / 8

def State.pair (s : State) (k : Nat) : PairSt := tget {} s.adc.pairs k
def State.setPair (s : State) (k : Nat) (x : PairSt) : State :=
  { s with adc := { s.adc with pairs := tset {} s.adc.pairs k x } }

/-- A pair is flagged, for any cause (R232). -/
def PairSt.flagged (x : PairSt) : Bool := x.check || x.ref || x.refchk || x.timeout || x.table || x.forced
def State.pairFlagged (s : State) (k : Nat) : Bool := (s.pair k).flagged

/-! ### Drive records (R239, R244) -/

/-- The eight words of a cell's drive record (Table 10.10). -/
def State.driveWord (s : State) (c w : Nat) : Nat :=
  let seg (k : Nat) : Nat := unsigned 16 (s.imgVal .segment 0 (8 * c + k)) % 4096
  match w with
  | 0 => unsigned 10 (s.calAt .levelBar c) + 65536 * unsigned 10 (s.calAt .levelCross c)
  | 1 => seg 0 + 65536 * seg 1
  | 2 => seg 2 + 65536 * seg 3
  | 3 => seg 4 + 65536 * seg 5
  | 4 => seg 6 + 65536 * seg 7
  | 5 => unsigned 16 (s.calAt .safeBias c) + 65536 * unsigned 16 (s.imgVal .safeHtr 0 c)
  | _ => 0

def State.safeBias (s : State) (c : Nat) : Int := s.calAt .safeBias c
def State.safeHtr (s : State) (c : Nat) : Nat := (s.imgVal .safeHtr 0 c).toNat

/-- Every cell of the matrix. -/
def allCells : List Nat := List.range 4352

end Sys2Proof.Machine
end

