-- ==== Sys2Proof/Machine/Hash.lean ====
section
/-!
DEFINITION. SHA-384 (FIPS 180-4), the hash of every digest of the spec (R80, R121, R144).
-/

namespace Sys2Proof.Machine

/-- Round constants 0 to 39. -/
def shaK0 : List (BitVec 64) := [
  0x428A2F98D728AE22, 0x7137449123EF65CD, 0xB5C0FBCFEC4D3B2F, 0xE9B5DBA58189DBBC,
  0x3956C25BF348B538, 0x59F111F1B605D019, 0x923F82A4AF194F9B, 0xAB1C5ED5DA6D8118,
  0xD807AA98A3030242, 0x12835B0145706FBE, 0x243185BE4EE4B28C, 0x550C7DC3D5FFB4E2,
  0x72BE5D74F27B896F, 0x80DEB1FE3B1696B1, 0x9BDC06A725C71235, 0xC19BF174CF692694,
  0xE49B69C19EF14AD2, 0xEFBE4786384F25E3, 0x0FC19DC68B8CD5B5, 0x240CA1CC77AC9C65,
  0x2DE92C6F592B0275, 0x4A7484AA6EA6E483, 0x5CB0A9DCBD41FBD4, 0x76F988DA831153B5,
  0x983E5152EE66DFAB, 0xA831C66D2DB43210, 0xB00327C898FB213F, 0xBF597FC7BEEF0EE4,
  0xC6E00BF33DA88FC2, 0xD5A79147930AA725, 0x06CA6351E003826F, 0x142929670A0E6E70,
  0x27B70A8546D22FFC, 0x2E1B21385C26C926, 0x4D2C6DFC5AC42AED, 0x53380D139D95B3DF,
  0x650A73548BAF63DE, 0x766A0ABB3C77B2A8, 0x81C2C92E47EDAEE6, 0x92722C851482353B]

/-- Round constants 40 to 79. -/
def shaK1 : List (BitVec 64) := [
  0xA2BFE8A14CF10364, 0xA81A664BBC423001, 0xC24B8B70D0F89791, 0xC76C51A30654BE30,
  0xD192E819D6EF5218, 0xD69906245565A910, 0xF40E35855771202A, 0x106AA07032BBD1B8,
  0x19A4C116B8D2D0C8, 0x1E376C085141AB53, 0x2748774CDF8EEB99, 0x34B0BCB5E19B48A8,
  0x391C0CB3C5C95A63, 0x4ED8AA4AE3418ACB, 0x5B9CCA4F7763E373, 0x682E6FF3D6B2B8A3,
  0x748F82EE5DEFB2FC, 0x78A5636F43172F60, 0x84C87814A1F0AB72, 0x8CC702081A6439EC,
  0x90BEFFFA23631E28, 0xA4506CEBDE82BDE9, 0xBEF9A3F7B2C67915, 0xC67178F2E372532B,
  0xCA273ECEEA26619C, 0xD186B8C721C0C207, 0xEADA7DD6CDE0EB1E, 0xF57D4F7FEE6ED178,
  0x06F067AA72176FBA, 0x0A637DC5A2C898A6, 0x113F9804BEF90DAE, 0x1B710B35131C471B,
  0x28DB77F523047D84, 0x32CAAB7B40C72493, 0x3C9EBE0A15C9BEBC, 0x431D67C49C100D4C,
  0x4CC5D4BECB3E42B6, 0x597F299CFC657E2A, 0x5FCB6FAB3AD6FAEC, 0x6C44198C4A475817]

/-- Round constants. -/
def shaK : List (BitVec 64) := shaK0 ++ shaK1

/-- Initial hash value of SHA-384. -/
def shaH : List (BitVec 64) := [
  0xCBBB9D5DC1059ED8, 0x629A292A367CD507, 0x9159015A3070DD17, 0x152FECD8F70E5939,
  0x67332667FFC00B31, 0x8EB44A8768581511, 0xDB0C2E0D64F98FA7, 0x47B5481DBEFA4FA4]

/-- Working registers. -/
structure ShaRegs where
  a : BitVec 64
  b : BitVec 64
  c : BitVec 64
  d : BitVec 64
  e : BitVec 64
  f : BitVec 64
  g : BitVec 64
  h : BitVec 64
  deriving DecidableEq, Repr

/-- Rotation right by 64-bit words. -/
def rotr (x : BitVec 64) (n : Nat) : BitVec 64 := x.rotateRight n

/-- One round with constant `k` and schedule word `w`. -/
def ShaRegs.round (r : ShaRegs) (k w : BitVec 64) : ShaRegs :=
  let s1 := rotr r.e 14 ^^^ rotr r.e 18 ^^^ rotr r.e 41
  let ch := (r.e &&& r.f) ^^^ (~~~r.e &&& r.g)
  let t1 := r.h + s1 + ch + k + w
  let s0 := rotr r.a 28 ^^^ rotr r.a 34 ^^^ rotr r.a 39
  let maj := (r.a &&& r.b) ^^^ (r.a &&& r.c) ^^^ (r.b &&& r.c)
  { a := t1 + (s0 + maj), b := r.a, c := r.b, d := r.c, e := r.d + t1, f := r.e, g := r.f, h := r.g }

/-- The next schedule word from the last sixteen, oldest first. -/
def shaNext (w : List (BitVec 64)) : BitVec 64 :=
  let x := lget 0 w 1
  let y := lget 0 w 14
  (rotr y 19 ^^^ rotr y 61 ^^^ (y >>> 6)) + lget 0 w 9 + (rotr x 1 ^^^ rotr x 8 ^^^ (x >>> 7)) + lget 0 w 0

/-- The rounds over the remaining constants; the window holds the next sixteen schedule words. -/
def shaRounds : List (BitVec 64) → List (BitVec 64) → ShaRegs → ShaRegs
  | [], _, r => r
  | k :: ks, w, r => shaRounds ks (w.drop 1 ++ [shaNext w]) (r.round k (lget 0 w 0))

/-- One block of 128 bytes. -/
def shaBlock (h : List (BitVec 64)) (b : Bytes) : List (BitVec 64) :=
  let w := (List.range 16).map (fun i => BitVec.ofNat 64 (beAt b (8 * i) 8))
  let r0 : ShaRegs := ⟨lget 0 h 0, lget 0 h 1, lget 0 h 2, lget 0 h 3, lget 0 h 4, lget 0 h 5, lget 0 h 6, lget 0 h 7⟩
  let r := shaRounds shaK w r0
  [r0.a + r.a, r0.b + r.b, r0.c + r.c, r0.d + r.d, r0.e + r.e, r0.f + r.f, r0.g + r.g, r0.h + r.h]

/-- Blocks of a padded message. -/
def shaBlocks : Nat → List (BitVec 64) → Bytes → List (BitVec 64)
  | 0, h, _ => h
  | n + 1, h, b => shaBlocks n (shaBlock h (b.take 128)) (b.drop 128)

/-- SHA-384 of a byte string: 48 bytes. -/
def sha384 (m : Bytes) : Bytes :=
  let padLen := (128 - (m.length + 17) % 128) % 128
  let p := m ++ [0x80] ++ zeros padLen ++ beBytes 16 (8 * m.length)
  let h := shaBlocks (p.length / 128) shaH p
  (h.take 6).foldr (fun w acc => beBytes 8 w.toNat ++ acc) []

/-- The first 16 bytes of a SHA-384, as every digest field of the spec holds. -/
def digest16 (m : Bytes) : Bytes := (sha384 m).take 16

end Sys2Proof.Machine
end

