-- ==== Sys2Proof/Machine/Routing.lean ====
section
/-!
DEFINITION. The matrix's wiring (R101 to R104), permutations, the routing engine's procedure (R126 to R131), traces and
the swatch record (R121 to R123).
-/

namespace Sys2Proof.Machine

/-! ### Wiring and traces -/

/-- Line of stage s + 1 to which output line l of stage s is wired (R103). -/
def nextLine (s l : Nat) : Nat :=
  if s ≤ 7 then
    let k := 9 - s
    let low := l % 2 ^ k
    l - low + low / 2 + low % 2 * 2 ^ (k - 1)
  else
    let k := s - 6
    let low := l % 2 ^ k
    l - low + low * 2 % 2 ^ k + low / 2 ^ (k - 1)

/-- Output line of stage s that is wired to line l of stage s + 1: the rotation undone. -/
def prevLine (s l : Nat) : Nat :=
  if s ≤ 7 then
    let k := 9 - s
    let low := l % 2 ^ k
    l - low + low * 2 % 2 ^ k + low / 2 ^ (k - 1)
  else
    let k := s - 6
    let low := l % 2 ^ k
    l - low + low / 2 + low % 2 * 2 ^ (k - 1)

/-- Output line of a cell's stage for an input line, under CELLS (R104). -/
def throughCell (cells s l : Nat) : Nat := if bitAt cells (256 * s + l / 2) then l ^^^ 1 else l

/-- The line on which light on input line l of stage s leaves stage 16, `n` = 16 − s. -/
def traceOn (cells : Nat) : Nat → Nat → Nat → Nat
  | 0, s, l => throughCell cells s l
  | n + 1, s, l => traceOn cells n (s + 1) (nextLine s (throughCell cells s l))

/-- Matrix output that input p reaches under CELLS. -/
def traceOut (cells p : Nat) : Nat := traceOn cells 16 0 p

/-- The cells passed before stage s on the way to input line l of stage s, nearest first, and the matrix input. -/
def traceBack (cells : Nat) : Nat → Nat → List Nat × Nat
  | 0, l => ([], l)
  | s + 1, l =>
    let o := prevLine s l
    let r := traceBack cells s (throughCell cells s o)
    ((256 * s + o / 2) :: r.1, r.2)

/-- The cells on the way from an input, stage 0 first. -/
def pathCells (cells : Nat) : Nat → Nat → Nat → List Nat
  | 0, s, l => [256 * s + l / 2]
  | n + 1, s, l => (256 * s + l / 2) :: pathCells cells n (s + 1) (nextLine s (throughCell cells s l))

/-! ### Permutations -/

/-- A permutation in the 2-byte host format of START_PERM (R84, R123): its valid entries, rising inputs. -/
def permOfHost (b : Bytes) : Tbl Nat :=
  (List.range 512).filterMap (fun i => let w := leAt b (2 * i) 2; if bitAt w 15 then some (i, w % 512) else none)

/-- Some entry sets a reserved bit [14:9]. -/
def permReserved (b : Bytes) : Bool := (List.range 512).any (fun i => leAt b (2 * i) 2 / 512 % 64 != 0)

/-- First input whose output an earlier entry already names. -/
def permDouble : List Nat → Tbl Nat → Option Nat
  | _, [] => none
  | seen, (i, o) :: rest => if seen.contains o then some i else permDouble (o :: seen) rest

/-- The completion of R126: free inputs and free outputs paired in ascending order. -/
def permComplete (perm : Tbl Nat) : Array Nat :=
  let outs := perm.map Prod.snd
  let freeIn := (List.range 512).filter (fun i => (tget? perm i).isNone)
  let freeOut := (List.range 512).filter (fun o => !outs.contains o)
  (perm ++ freeIn.zip freeOut).foldl (fun a e => a.set! e.1 e.2) (Array.replicate 512 0)

/-- The 512 entries of ten bits as one number (R122). -/
def permBits (perm : Tbl Nat) : Nat := perm.foldl (fun n e => n + (e.2 + 512) * 2 ^ (10 * e.1)) 0

/-! ### The routing procedure (R127) -/

/-- Why a request is unroutable (R129): pin or 0xFFFF, depth, block, local input line. -/
structure RouteFail where
  pin : Nat
  depth : Nat
  block : Nat
  line : Nat
  deriving DecidableEq, Repr

/-- A walk of R127 through colours 0, 1 and 2 (none), with fuel for every line of the block. -/
def routeWalk (sigma inv : Array Nat) (fail : Nat → RouteFail) :
    Nat → Array Nat → Nat → Nat → Except RouteFail (Array Nat)
  | 0, col, _, _ => .ok col
  | n + 1, col, x, c =>
    if col[x]! = c then .ok col
    else if col[x]! = 1 - c then .error (fail x)
    else
      let col1 := col.set! x c
      let x2 := inv[sigma[x]! ^^^ 1]!
      if col1[x2]! = c then .error (fail x2)
      else routeWalk sigma inv fail n (col1.set! x2 (1 - c)) (x2 ^^^ 1) c

/-- Inverse of a local permutation. -/
def invPerm (sigma : Array Nat) : Array Nat :=
  (List.range sigma.size).foldl (fun a x => a.set! sigma[x]! x) (Array.replicate sigma.size 0)

/-- Depth of a pin's cell, and the block that holds its row. -/
def pinDepth (c : Nat) : Nat := min (c / 256) (16 - c / 256)
def pinBlock (c : Nat) : Nat := c % 256 / 2 ^ (8 - pinDepth c)

/-- Pins of one stage pair of a block, in ascending cell. -/
def pinsAt (pins : List Pin) (d b : Nat) : List Pin :=
  (pins.filter (fun p => pinDepth p.cell == d && pinBlock p.cell == b)).mergeSort (fun p q => p.cell ≤ q.cell)

/-- Colours of a block: pins first, then every line left (R127). -/
def routeColours (d b : Nat) (sigma inv : Array Nat) (pins : List Pin) : Except RouteFail (Array Nat) := do
  let n := sigma.size
  let c0 ← (pinsAt pins d b).foldlM (fun col p =>
    let j := p.cell % 2 ^ (8 - d)
    let x := if p.cell / 256 = d then 2 * j else inv[2 * j]!
    routeWalk sigma inv (fun y => ⟨p.cell, d, b, y⟩) (n + 1) col x (ofBool p.cross)) (Array.replicate n 2)
  (List.range n).foldlM (fun col x =>
    if col[x]! = 2 then routeWalk sigma inv (fun y => ⟨0xFFFF, d, b, y⟩) (n + 1) col x 0 else .ok col) c0

/-- The sub-permutation of the lines of a colour. -/
def subPerm (sigma col : Array Nat) (c : Nat) : Array Nat :=
  (List.range sigma.size).foldl (fun a x => if col[x]! = c then a.set! (x / 2) (sigma[x]! / 2) else a)
    (Array.replicate (sigma.size / 2) 0)

/-- The flip of a four-line block that meets a stage 8 pin (R127, R131). -/
def routeFlip (d b : Nat) (sigma col : Array Nat) (pins : List Pin) : Array Nat :=
  let mid (c : Nat) : Bool := (subPerm sigma col c)[0]! != 0
  let unmet := pins.any (fun p => p.cell == 2048 + 2 * b && p.cross != mid 0 || p.cell == 2049 + 2 * b && p.cross != mid 1)
  let oneCycle := sigma[0]! / 2 != sigma[1]! / 2
  if sigma.size = 4 ∧ unmet ∧ oneCycle ∧ (pinsAt pins d b).isEmpty then col.map (fun c => 1 - c) else col

/-- route_block of R127: `k` depths remain below; the result is CELLS with the block's cells set. -/
def routeBlock (pins : List Pin) : Nat → Nat → Nat → Array Nat → Nat → Except RouteFail Nat
  | 0, _, b, sigma, cells =>
    let cross := sigma[0]! != 0
    if pins.any (fun p => p.cell == 2048 + b && p.cross != cross) then .error ⟨2048 + b, 8, b, 0⟩
    else .ok (cells + ofBool cross * 2 ^ (2048 + b))
  | k + 1, d, b, sigma, cells => do
    let inv := invPerm sigma
    let col0 ← routeColours d b sigma inv pins
    let col := routeFlip d b sigma col0 pins
    let half := sigma.size / 2
    let row0 := half * b
    let cells1 := (List.range half).foldl (fun n i =>
      n + ofBool (col[2 * i]! != 0) * 2 ^ (256 * d + row0 + i)
        + ofBool (col[inv[2 * i]!]! != 0) * 2 ^ (256 * (16 - d) + row0 + i)) cells
    let cells2 ← routeBlock pins k (d + 1) (2 * b) (subPerm sigma col 0) cells1
    routeBlock pins k (d + 1) (2 * b + 1) (subPerm sigma col 1) cells2

/-- CELLS for a permutation under pins (R126, R127). -/
def routePerm (perm : Tbl Nat) (pins : List Pin) : Except RouteFail Nat := routeBlock pins 8 0 0 (permComplete perm) 0

/-- First valid entry whose trace misses its output. -/
def firstMiss (perm : Tbl Nat) (cells : Nat) : Option Nat := (perm.find? (fun e => traceOut cells e.1 != e.2)).map Prod.fst

/-- Inputs of valid entries whose trace no longer reaches their output (R141). -/
def lostInputs (perm : Tbl Nat) (cells : Nat) : List Nat :=
  (perm.filter (fun e => traceOut cells e.1 != e.2)).map Prod.fst

/-! ### The swatch record -/

/-- Bytes 0x060 to 0x4FF: PERM, CELLS and what follows them. -/
def swatchBody (w : Swatch) : Bytes := leBytes 640 (permBits w.perm) ++ leBytes 544 w.cells

/-- DIGEST of a swatch (Table 6.1). -/
def Swatch.digest (w : Swatch) : Bytes := digest16 (padTo 0x4A0 (swatchBody w))

/-- The 1 280 bytes of swatch n. -/
def Swatch.bytes (w : Swatch) (n : Nat) : Bytes :=
  leBytes 2 n ++ leBytes 2 (ofBool w.valid + 2 * ofBool w.direct + 4 * ofBool w.degraded + 8 * ofBool w.stale)
    ++ leBytes 2 w.perm.length ++ leBytes 2 w.pins ++ leBytes 4 w.generation ++ leBytes 2 w.stuckRev ++ zeros 2
    ++ w.digest ++ zeros 64 ++ padTo 0x4A0 (swatchBody w)

/-- Number of cells that differ. -/
def cellsDiffer (a b : Nat) : Nat := popCount 4352 (a ^^^ b)

/-- Does a circuit kind pass the role of a mode (Table 6.2)? -/
def kindAdmitted (m : Mode) (i o : Nat) : Bool :=
  let nearIn := decide (i < 256)
  let nearOut := decide (o < 256)
  match m with
  | .edgeSlotted | .edgePersistent | .edgePacket => nearIn != nearOut
  | .coreSlotted | .corePersistent => !nearIn && !nearOut
  | .transitSlotted => true
  | .loopbackTest => nearIn && nearOut
  | _ => false

/-- The role check of R124. -/
def Swatch.roleOk (w : Swatch) (m : Mode) : Bool := w.perm.all (fun e => kindAdmitted m e.1 e.2)

end Sys2Proof.Machine
end

