-- ==== Sys2Proof/Machine/Exchange.lean ====
section
/-!
DEFINITION. What every command shares with the exchange (chapter 20): status codes, registration while in progress,
the boot gate, results, completions and the duplicate window.
-/

namespace Sys2Proof.Machine

/-! Status codes of Table 20.5 and of R501. -/

namespace St
def ok : Nat := 0x0000
def inProgress : Nat := 0x0001
def badOpcode : Nat := 0x0002
def badParam : Nat := 0x0003
def hostDmaError : Nat := 0x0004
def notStarted : Nat := 0x0005
def wrongMode : Nat := 0x0006
def powerState : Nat := 0x0007
def busy : Nat := 0x0008
def late : Nat := 0x0009
def aborted : Nat := 0x000A
def preempted : Nat := 0x000B
def wrongRole : Nat := 0x000C
def internalError : Nat := 0x000D
def modeNotPermitted : Nat := 0x0010
def noPendingOrbit : Nat := 0x0011
def digestMismatch : Nat := 0x0012
def laserLockout : Nat := 0x0013
def canvasInvalid : Nat := 0x0020
def noStagedCanvas : Nat := 0x0021
def swatchInvalid : Nat := 0x0030
def swatchInUse : Nat := 0x0031
def unroutable : Nat := 0x0032
def badPin : Nat := 0x0033
def checkFailed : Nat := 0x0034
def orbitInvalid : Nat := 0x0038
def clsInvalid : Nat := 0x0040
def polInvalid : Nat := 0x0041
def gateInvalid : Nat := 0x0042
def noPendingGate : Nat := 0x0043
def portRange : Nat := 0x0044
def notFound : Nat := 0x0048
def exists_ : Nat := 0x0049
def fdbFull : Nat := 0x004A
def fdbInvalid : Nat := 0x004B
def floodFull : Nat := 0x004C
def cntRetiring : Nat := 0x004D
def cntRange : Nat := 0x0050
def calTemp : Nat := 0x0058
def noPendingJump : Nat := 0x0060
def staleJump : Nat := 0x0061
def noQuorum : Nat := 0x0068
def guardOpen : Nat := 0x0070
def notTested : Nat := 0x0071
def groupUnwired : Nat := 0x0072
def safetyFault : Nat := 0x0073
end St

/-- A command ring. -/
def State.ring (s : State) (r : Nat) : Ring := lget {} s.cx.rings r
def State.setRing (s : State) (r : Nat) (x : Ring) : State := { s with cx := { s.cx with rings := lset s.cx.rings r x } }

/-- A command is accepted: it is in progress from now on (R433, R436). -/
def State.begin (s : State) (tag : CmdTag) (op : Nat) : State :=
  let g := s.ring tag.ring
  s.setRing tag.ring { g with running := g.running ++ [{ tag := tag, opcode := op, since := s.clk, toldAt := s.clk }] }

/-- Writes of host memory for a command succeed (R428). -/
def State.writable (s : State) (tag : CmdTag) : Bool := tag.writesOk && s.dmaOk

/-- OUT_ADDR data of a command (R428). -/
def State.outData (s : State) (tag : CmdTag) (addr : Nat) (b : Bytes) : State :=
  if s.writable tag then s.hostWrite addr b else s

/-- The ring can take a completion of this number now (R430, R434). -/
def State.ringTakes (s : State) (r dev : Nat) : Bool :=
  s.flag (Reg.CX_RING_CTL_EN r) && s.dmaOk && decide (seqDiff dev (s.ring r).cqDb ≤ 4096)

/-- A completion entry goes out to its ring, or is held in the module (R430, R434). -/
def State.produce (s : State) (r dev : Nat) (entry : Bytes) : State :=
  let g := s.ring r
  if s.ringTakes r dev ∧ g.held = [] then
    let base := s.fld (Reg.CX_RING_CQ_BASE_LO_BASE r) + 2 ^ 32 * s.fld (Reg.CX_RING_CQ_BASE_HI_BASE r)
    (s.hostWrite (base + 32 * (dev % 4096)) entry).coalesce r
  else s.setRing r { g with held := g.held ++ [{ devSeq := dev, entry := entry }] }

/-- One completion entry (Table 20.2) with the next DEV_SEQ. -/
def State.postCompletion (s : State) (tag : CmdTag) (status flags : Nat) (detail : Bytes) : State :=
  let g := s.ring tag.ring
  let dev := seqNext g.devSeq
  let entry := leBytes 4 dev ++ leBytes 4 tag.ringSeq ++ leBytes 8 tag.reqId ++ leBytes 2 status ++ leBytes 2 flags
    ++ padTo 8 detail ++ leBytes 2 0 ++ leBytes 2 (65535 - dev % 65536)
  (s.setRing tag.ring { g with devSeq := dev }).produce tag.ring dev entry

/-- A command completes: its result record, its completion entry, its place in the duplicate window (R428, R434,
R435, R437). `wrote` tells that OUT_ADDR data was written. -/
def State.completeWith (s : State) (tag : CmdTag) (status : Nat) (detail : List (Nat × Nat)) (wrote : Bool) : State :=
  let d := packItems detail []
  let wantsRec := decide (detail ≠ [] ∧ tag.resultAddr ≠ 0)
  let good := s.writable tag
  let s1 := if wantsRec ∧ good then s.hostWrite tag.resultAddr (padTo 64 d) else s
  let flags := (if wantsRec ∧ good then 2 else 0) + (if (wantsRec ∨ wrote) ∧ good = false then 4 else 0)
  let s2 := s1.postCompletion tag status flags d
  let g := s2.ring tag.ring
  let win := if tag.reqId = 0 then g.window
    else g.window.drop (g.window.length + 1 - 4096) ++
      [({ reqId := tag.reqId, status := status, detail := padTo 8 d } : DupEntry)]
  s2.setRing tag.ring { g with window := win, running := g.running.filter (fun p => p.tag.ringSeq != tag.ringSeq) }

/-- A command completes with a status and a detail, having written no OUT_ADDR data. -/
def State.complete (s : State) (tag : CmdTag) (status : Nat) (detail : List (Nat × Nat) := []) : State :=
  s.completeWith tag status detail false

/-- Completion of a command that may be the module's own work (no tag). -/
def State.completeOpt (s : State) (tag : Option CmdTag) (status : Nat) (detail : List (Nat × Nat) := []) : State :=
  match tag with
  | some t => s.complete t status detail
  | none => s

/-- The start is done: step 16 has completed (R66). -/
def State.started (s : State) : Bool := decide (s.start.state = 2)

/-- The boot commands of R66 by opcode: LOAD_CANVAS, RESET_MODULE, READ_LOG, SHUTDOWN_READ, CX_STATE_READ. -/
def bootCommand (op : Nat) : Bool := [0x0004, 0x0003, 0x0009, 0x0601, 0x0100].contains op

/-- Why a command is not served at all now: during a start (R66), or after CANVAS_LOST (R94). -/
def State.gate (s : State) (op : Nat) : Option Nat :=
  if bootCommand op then none
  else if s.started = false then some St.notStarted
  else if s.canvas.lost then some St.wrongMode
  else none

/-- The common course of a command: accepted, refused by the boot gate, or carried out. -/
def State.serve (s : State) (tag : CmdTag) (op : Nat) (body : State → State) : State :=
  let s1 := s.begin tag op
  match s1.gate op with
  | some st => s1.complete tag st
  | none => body s1

/-- The outcome of a meaning that always goes on. -/
def next (s : State) : Host.Outcome State Fault Refusal := .next s

end Sys2Proof.Machine
end

