-- ==== Sys2Proof/Machine/StrokeCore.lean ====
section
/-!
DEFINITION. How a loop lane or a supervisor core runs one instruction (chapter 9): cores, flags and conditions,
overflow, address generators, special registers, REPEAT and delay slots, faults and exceptions.
-/

namespace Sys2Proof.Machine

/-! ### Cores and memories (R193, R200) -/

/-- A core is a lane. -/
def isLane : CoreRef → Bool
  | .lane _ => true
  | .sup _ => false

/-- Key of a core of the active unit: 128 × unit + lane, and 128 × unit + 64 + core for supervisors. -/
def State.coreKey (s : State) (c : CoreRef) : Nat :=
  128 * s.red.activeUnit + (match c with
    | .lane n => n.val
    | .sup n => 64 + n.val)

def State.core (s : State) (c : CoreRef) : Core := tget {} s.eng.cores (s.coreKey c)
def State.setCore (s : State) (c : CoreRef) (x : Core) : State :=
  { s with eng := { s.eng with cores := tset {} s.eng.cores (s.coreKey c) x } }

/-- Key of a word of a lane's data memory. -/
def dmKey (lane a : Nat) : Nat := 12288 * lane + a
def State.dm (s : State) (lane a : Nat) : Word := tget 0 s.eng.dm (dmKey lane a)
def State.setDm (s : State) (lane a : Nat) (w : Word) : State :=
  { s with eng := { s.eng with dm := tset 0 s.eng.dm (dmKey lane a) w } }

/-- A word of the LOOP_PLAN record in force of a cell (R187, R189); 0 where there is none. -/
def State.coefWord (s : State) (cell w : Nat) : Nat := (lget 0 (tget [] s.loops.coef cell) w).toNat

/-- LANE of a record held as its sixteen words. -/
def recLane (ws : List Word) : Nat := (lget 0 ws 0).toNat / 65536 % 256

/-- The cells of a lane in ascending order (R194). -/
def State.laneCells (s : State) (lane : Nat) : List Nat :=
  (s.loops.coef.filter (fun e => recLane e.2 == lane)).map Prod.fst

/-- The lane that serves a cell, and the cell's index in it. -/
def State.laneOf (s : State) (cell : Nat) : Nat := recLane (tget [] s.loops.coef cell)
def State.indexOf (s : State) (cell : Nat) : Nat := (s.laneCells (s.laneOf cell)).findIdx (· == cell)

/-- Key of a word of a cell's exchange block (Table 9.2). -/
def xch (n w : Nat) : Nat := 0x0440 + 16 * n + w

/-- Time in the hold period, ns (PTIME). -/
def State.ptime (s : State) : Nat := s.clk - s.loops.periodAt

/-- RECS of a lane: 8 × NCELL in a sampled period, else 0. -/
def State.recs (s : State) (lane : Nat) : Nat := if s.loops.sampled then 8 * (s.laneCells lane).length else 0

/-- An event of the loop engine, at most once per second for one cell or lane (R192). -/
def State.raiseLoop (s : State) (code subject : Nat) (items : List (Nat × Nat)) : State :=
  if s.withheld code subject then s.bump Reg.LE_LOOP_ERR_EV_SUPPRESSED 1 else s.raiseLim code subject items

/-! ### Flags (R200, R201) -/

/-- STATUS as a word (Table 9.4). -/
def Status.word (x : Status) : Nat :=
  ofBool x.z + 2 * ofBool x.n + 4 * ofBool x.c + 8 * ofBool x.v + 16 * ofBool x.ovs + 32 * ofBool x.aov
    + 64 * ofBool x.scaled + 128 * ofBool x.dz + 256 * ofBool x.ie + 512 * ofBool x.sat

/-- STATUS from a word; SAT exists only in supervisor cores. -/
def Status.ofWord (w : Nat) (lane : Bool) : Status :=
  { z := bitAt w 0, n := bitAt w 1, c := bitAt w 2, v := bitAt w 3, ovs := bitAt w 4, aov := bitAt w 5,
    scaled := bitAt w 6, dz := bitAt w 7, ie := bitAt w 8, sat := bitAt w 9 && !lane }

/-- Does a condition hold; `none` for code 15, which is illegal (R201). -/
def condHolds (x : Status) : Nat → Option Bool
  | 0 => some true
  | 1 => some x.z
  | 2 => some !x.z
  | 3 => some (x.n != x.v)
  | 4 => some (x.n == x.v)
  | 5 => some (!x.z && x.n == x.v)
  | 6 => some (x.z || x.n != x.v)
  | 7 => some x.n
  | 8 => some !x.n
  | 9 => some x.c
  | 10 => some !x.c
  | 11 => some x.v
  | 12 => some !x.v
  | 13 => some (x.c && !x.z)
  | 14 => some (!x.c || x.z)
  | _ => none

/-- Flags of CMP and CMPI (R201). -/
def cmpFlags (x : Status) (a b : Word) : Status :=
  { x with
    z := a == b
    n := (a - b).msb
    c := decide (b.toNat ≤ a.toNat)
    v := decide (a.toInt - b.toInt < -(2 ^ 31) ∨ a.toInt - b.toInt ≥ 2 ^ 31) }

/-- Flags of TST. -/
def tstFlags (x : Status) (a b : Word) : Status :=
  { x with z := a &&& b == 0, n := (a &&& b).msb, c := false, v := false }

/-! ### Results, overflow and saturation (R207, R209) -/

/-- Does an integer fit in `w` bits of two's complement? -/
def fits (w : Nat) (i : Int) : Bool := decide (-(2 ^ (w - 1)) ≤ i ∧ i < 2 ^ (w - 1))

/-- A data register. -/
def Core.reg (x : Core) (r : Fin 16) : Word := x.d.get r
def Core.setReg (x : Core) (r : Fin 16) (v : Word) : Core := { x with d := x.d.set r v }

/-- An accumulator as an integer. -/
def Core.acc (x : Core) (k : Fin 2) : Int := (x.a.get k).toInt

/-- An arithmetic result of R207: wrapped, or saturated with SAT set; OVS where it does not fit. -/
def Core.putArith (x : Core) (r : Fin 16) (i : Int) : Core :=
  let v := if x.st.sat then satInt 32 i else i
  ({ x with st := { x.st with ovs := x.st.ovs || !fits 32 i } }).setReg r (BitVec.ofInt 32 v)

/-- An accumulator result of R207. -/
def Core.putAcc (x : Core) (k : Fin 2) (i : Int) : Core :=
  let v := if x.st.sat then satInt 72 i else i
  { x with st := { x.st with aov := x.st.aov || !fits 72 i }, a := x.a.set k (BitVec.ofInt 72 v) }

/-- MVA's least extra shift k from `k` on for which rsh(ac, s + k) fits (R208). -/
def mvaShift (v : Int) (s : Nat) : Nat → Nat → Nat
  | 0, k => k
  | n + 1, k => if fits 32 (rsh v (s + k)) then k else mvaShift v s n (k + 1)

/-- MVA (R208, R209). -/
def Core.mva (x : Core) (r : Fin 16) (k : Fin 2) (s : Nat) : Core :=
  let v := rsh (x.acc k) s
  if x.st.sat then
    ({ x with scl := 0, st := { x.st with ovs := x.st.ovs || !fits 32 v } }).setReg r (BitVec.ofInt 32 (satInt 32 v))
  else
    let n := mvaShift (x.acc k) s 40 0
    ({ x with scl := n, st := { x.st with scaled := x.st.scaled || decide (n ≠ 0) } }).setReg r
      (BitVec.ofInt 32 (rsh (x.acc k) (s + n)))

/-! ### Address generators (R202, R203) -/

/-- Width of BASE, LEN and PTR: 14 bits in a lane, 20 in a supervisor core. -/
def agMod (c : CoreRef) : Nat := if isLane c then 2 ^ 14 else 2 ^ 20

/-- The address of a generator with a signed offset. -/
def AddrGen.addr (g : AddrGen) (m : Nat) (off : Int) : Nat :=
  if g.len = 0 then ((((g.base + g.ptr : Nat) : Int) + off) % (m : Int)).toNat
  else g.base + (((g.ptr : Int) + off) % (g.len : Int)).toNat

/-- A post-modify by a signed step. -/
def AddrGen.modify (g : AddrGen) (m : Nat) (step : Int) : AddrGen :=
  { g with ptr := (((g.ptr : Int) + step) % ((if g.len = 0 then m else g.len : Nat) : Int)).toNat }

def Core.gen (x : Core) (g : Fin 8) : AddrGen := x.g.get g
def Core.setGen (x : Core) (g : Fin 8) (v : AddrGen) : Core := { x with g := x.g.set g v }

/-- AGSET and AGSETR: BASE, LEN set and PTR cleared in one step. -/
def Core.agSet (x : Core) (m : Nat) (g : Fin 8) (base len : Nat) : Core :=
  x.setGen g { base := base % m, len := len % m, ptr := 0 }

/-- MTAG: a field of a generator is written (R202, R203). -/
def Core.agField (x : Core) (m : Nat) (g : Fin 8) (f v : Nat) : Option Core :=
  let y := x.gen g
  let w := v % m
  match f with
  | 0 => some (x.setGen g { y with base := w })
  | 1 =>
    if w ≠ 0 ∧ y.ptr ≥ w then
      some ({ x with agstat := x.agstat ||| (1 <<< g.val) }.setGen g { y with len := w, ptr := y.ptr % w })
    else some (x.setGen g { y with len := w })
  | 2 => some (x.setGen g { y with ptr := if y.len = 0 then w else w % y.len })
  | _ => none

/-! ### Special registers (Table 9.4) -/

/-- RACT as two bits. -/
def Core.ract (x : Core) : Nat := ofBool x.rep0.act + 2 * ofBool x.rep1.act

/-- Number of a supervisor core in CORE: [1:0] core, [2] unit. -/
def State.coreNumber (s : State) (c : CoreRef) : Nat :=
  (match c with
    | .lane n => n.val
    | .sup n => n.val) + 4 * s.red.activeUnit

/-- A register of the lane's place in the engine, S 17 to 25; of a supervisor core those of the lane's cells (18 to 22)
have no stated value and read a free one. -/
def State.engineSpecial (s : State) (c : CoreRef) (x : Core) (sr : Nat) : Word × State :=
  match sr, c with
  | 17, _ => (BitVec.ofNat 32 s.loops.period, s)
  | 18, _ => (BitVec.ofNat 32 (s.ptime % 2 ^ 17), s)
  | 19, .lane _ => (BitVec.ofNat 32 x.srwc, s)
  | 20, .lane n => (BitVec.ofNat 32 (s.recs n), s)
  | 21, .lane n => (BitVec.ofNat 32 (s.laneCells n).length, s)
  | 22, .lane n => (BitVec.ofNat 32 n, s)
  | 23, _ => (s.eng.lctlSnap, s)
  | 24, _ => (BitVec.ofInt 32 (s.sfld Reg.LE_LOOP_TREF_T_REF), s)
  | 25, _ => (s.eng.pathcSnap, s)
  | _, _ => s.draw

/-- MFS: the value of a special register; `none` is ILLEGAL. -/
def State.readSpecial (s : State) (c : CoreRef) (x : Core) (sr : Nat) : Option (Word × State) :=
  let w (n : Nat) : Option (Word × State) := some (BitVec.ofNat 32 n, s)
  match sr with
  | 0 => w x.st.word
  | 1 => w x.scl
  | 2 => w x.lr
  | 3 => w x.iret
  | 4 => w x.ifl.word
  | 5 => w x.ivec
  | 6 => w x.icause
  | 7 => w x.deadl
  | 8 => w x.agstat.toNat
  | 9 => some (x.dq, s)
  | 10 => w x.rep0.rs
  | 11 => w x.rep0.re
  | 12 => w x.rep0.rc
  | 13 => w x.rep1.rs
  | 14 => w x.rep1.re
  | 15 => w x.rep1.rc
  | 16 => w x.ract
  | n =>
    if 17 ≤ n ∧ n ≤ 25 then some (s.engineSpecial c x n)
    else if isLane c then none
    else
      match n with
      | 32 => w x.epc
      | 33 => some (x.efl, s)
      | 34 => w x.ecause
      | 35 => w x.evec
      | 36 => w x.eaddr
      | 37 => w x.imask
      | 38 => w (s.coreNumber c)
      | _ => none

/-- MTS: a special register is written; a read-only one keeps its value (R4); `none` is ILLEGAL. -/
def Core.writeSpecial (x : Core) (c : CoreRef) (sr : Nat) (v : Word) : Option Core :=
  let n := v.toNat
  match sr with
  | 0 => some { x with st := Status.ofWord n (isLane c) }
  | 2 => some { x with lr := n }
  | 3 => some { x with iret := n }
  | 4 => some { x with ifl := Status.ofWord n (isLane c) }
  | 5 => some { x with ivec := n }
  | 6 => some { x with icause := clearBits x.icause n }
  | 7 => some { x with deadl := n % 2 ^ 14 }
  | 8 => some { x with agstat := x.agstat &&& ~~~(v.setWidth 8) }
  | 9 => some { x with dq := v }
  | 10 => if x.rep0.act then none else some { x with rep0 := { x.rep0 with rs := n } }
  | 11 => if x.rep0.act then none else some { x with rep0 := { x.rep0 with re := n } }
  | 12 => if x.rep0.act then none else some { x with rep0 := { x.rep0 with rc := n } }
  | 13 => if x.rep1.act then none else some { x with rep1 := { x.rep1 with rs := n } }
  | 14 => if x.rep1.act then none else some { x with rep1 := { x.rep1 with re := n } }
  | 15 => if x.rep1.act then none else some { x with rep1 := { x.rep1 with rc := n } }
  | 1 | 16 | 17 | 18 | 19 | 20 | 21 | 22 | 23 | 24 | 25 => some x
  | k =>
    if isLane c then none
    else
      match k with
      | 32 => some { x with epc := n }
      | 33 => some { x with efl := v &&& 0x3FFFF }
      | 35 => some { x with evec := n }
      | 37 => some { x with imask := n % 65536 }
      | 34 | 36 | 38 => some x
      | _ => none

/-! ### The course of an instruction (R205, R210 to R213) -/

/-- Where an instruction may stand and run (R205, R211). -/
inductive OpClass where
  /-- anywhere -/
  | plain
  /-- BR, CALL, JR, RET, RETI, CSTEP, WAITP, WAITE, WAITS, HALT, RETE: in no branch slot and in no REPEAT body -/
  | transfer
  /-- REPEAT, REPEATR, SYSCALL: in no branch slot -/
  | noSlot
  /-- WAITI: in no REPEAT body -/
  | noBody
  deriving DecidableEq, Repr

/-- Which cores have an instruction. -/
inductive Cores where
  | all | lanes | supervisors
  deriving DecidableEq, Repr

/-- Why an instruction ends in a fault of a lane or an exception of a supervisor core. -/
inductive Trap where
  | illegal
  | memRange (addr : Nat)
  | memProt
  | bkpt
  | halt
  | busError (addr : Nat)
  | syscall
  deriving DecidableEq, Repr

/-- What an instruction does: the core goes on with the next word, at a given address, waits in place, or traps. -/
inductive Ran where
  | go (x : Core) (s : State)
  | jump (x : Core) (pc : Nat) (s : State)
  | stay (x : Core) (s : State)
  | trap (t : Trap)

/-- Is a level's body around an address? -/
def RepLevel.around (r : RepLevel) (pc : Nat) : Bool := r.act && decide (r.rs ≤ pc ∧ pc ≤ r.re)

/-- The instruction may not run here (R205). -/
def Core.misplaced (x : Core) (c : CoreRef) (k : OpClass) (w : Cores) : Bool :=
  let slot := x.branch.isSome
  let body := x.rep0.around x.pc || x.rep1.around x.pc
  (match w with
    | .all => false
    | .lanes => !isLane c
    | .supervisors => isLane c)
  || (match k with
    | .plain => false
    | .transfer => slot || body
    | .noSlot => slot
    | .noBody => body)

/-- Width of the program counter: 2 048 instruction words in a lane. -/
def pcMod (c : CoreRef) : Nat := if isLane c then 2048 else 2 ^ 32

/-- One cycle passes in the divide unit: DQ takes the result 12 cycles after issue (Table 9.10). -/
def Core.tick (x : Core) : Core :=
  match x.div with
  | some d => if d.cycles ≤ 1 then { x with dq := d.result, div := none }
    else { x with div := some { d with cycles := d.cycles - 1 } }
  | none => x

/-- The divide unit's instruction in flight completes. -/
def Core.divDone (x : Core) : Core :=
  match x.div with
  | some d => { x with dq := d.result, div := none }
  | none => x

/-- A load's value reaches its register after the instruction in its delay slot (Table 9.10). -/
def Core.landLoad (x : Core) (p : Option LoadPend) : Core :=
  match p with
  | some l => x.setReg l.reg l.value
  | none => x

/-- The word at RE completes at a level (R212): the core, and the next address where the level gives one. -/
def RepLevel.close (r : RepLevel) (pc : Nat) : RepLevel × Option Nat :=
  if r.act = false ∨ pc ≠ r.re then (r, none)
  else if r.rc > 1 then ({ r with rc := r.rc - 1 }, some r.rs)
  else ({ r with rc := 0, act := false }, none)

/-- The word at PC has completed: branch slots run out, or the repeat levels resolve, the inner first (R212, R213). -/
def Core.advance (x : Core) (m : Nat) : Core :=
  match x.branch with
  | some b =>
    if b.slots ≤ 1 then { x with pc := b.target % m, branch := none, st := b.status.getD x.st }
    else { x with pc := (x.pc + 1) % m, branch := some { b with slots := b.slots - 1 } }
  | none =>
    let (r1, n1) := x.rep1.close x.pc
    match n1 with
    | some t => { x with rep1 := r1, pc := t % m }
    | none =>
      let (r0, n0) := x.rep0.close x.pc
      { x with rep1 := r1, rep0 := r0, pc := (n0.getD (x.pc + 1)) % m }

/-- A branch is set up: its target takes effect after two delay slots, taken or not (Table 9.10). -/
def Core.branchTo (x : Core) (target : Nat) (st : Option Status) : Core :=
  { x with branch := some { target := target, slots := 3, status := st } }

/-- Codes of LE_LANE_STAT.FAULT and ECAUSE for a trap, and the data address it reports. -/
def Trap.laneCode : Trap → Nat
  | .illegal => 1
  | .memRange _ => 2
  | .memProt => 3
  | .bkpt => 4
  | .halt => 5
  | .busError _ => 1
  | .syscall => 1
def Trap.supCause : Trap → Nat
  | .illegal => 0x10
  | .memRange _ => 0x11
  | .memProt => 0x11
  | .busError _ => 0x12
  | .syscall => 0x13
  | .bkpt => 0x14
  | .halt => 0x10
def Trap.addr : Trap → Option Nat
  | .memRange a => some a
  | .busError a => some a
  | _ => none

/-- A lane halts with a fault code and raises LANE_FAULT; it may be restarted at the next boundary (R218). -/
def State.laneFault (s : State) (n : Nat) (x : Core) (code : Nat) : State :=
  let recent := match x.autoAt with
    | some t => decide (s.clk < t + 1000000000)
    | none => false
  let auto := s.flag Reg.LE_LANE_CTL_AUTO_RESTART && !recent && code != 4 && code != 5
  let y := { x with run := .halted, fault := code, wait := .none, stopAt := none, restart := auto, restartAuto := auto }
  (({ s with eng := { s.eng with
      cores := tset {} s.eng.cores (128 * s.red.activeUnit + n) y } }).raiseLoop 0x0D07 n [(1, n), (1, code), (2, x.pc)])

/-- A supervisor core enters its handler (R219): EPC holds the next word, EFL the status and RACT. -/
def Core.enter (x : Core) (cause : Nat) (addr : Option Nat) : Core :=
  let y := x.divDone
  { y with
    epc := y.pc, efl := BitVec.ofNat 32 (y.st.word + 65536 * y.ract), ecause := cause
    eaddr := addr.getD y.eaddr
    rep0 := { y.rep0 with act := false }, rep1 := { y.rep1 with act := false }
    st := { y.st with ie := false }, branch := none, pc := y.evec, run := .running, wait := .none }

/-- A change to every lane of the active unit that it concerns. -/
def State.eachCore (s : State) (f : Core → Core) : State :=
  s.each (List.range 64) (fun s n =>
    let k := 128 * s.red.activeUnit + n
    { s with eng := { s.eng with cores := tset {} s.eng.cores k (f (tget {} s.eng.cores k)) } })

/-- The lanes of the active unit are asked to stop at WAITP (R216). -/
def State.stopLanes (s : State) : State :=
  s.eachCore (fun x =>
    if x.run = .halted ∨ x.run = .stopped then x
    else if x.run = .waiting ∧ x.wait = .period then { x with run := .stopped }
    else { x with stopAt := some s.clk })

/-- Stopped lanes resume from their WAITP; a stop that was asked is withdrawn (R216). -/
def State.releaseLanes (s : State) : State :=
  s.eachCore (fun x =>
    if x.run = .stopped then { x with run := .running, wait := .none }.advance 2048 else { x with stopAt := none })

/-- Lowest set bit below a width. -/
def lowestBit (w n : Nat) : Option Nat := (bitList w n).head?

/-- A supervisor core takes a pending enabled interrupt unless the next word is a delay slot (R219). -/
def State.takeIrq (s : State) (c : CoreRef) : State :=
  match c with
  | .lane _ => s
  | .sup n =>
    let x := s.core c
    let key := 4 * s.red.activeUnit + n
    let lines := tget 0 s.eng.irq key
    match lowestBit 16 (lines &&& x.imask) with
    | none => s
    | some l =>
      if x.st.ie ∧ x.branch.isNone ∧ x.load.isNone ∧ (x.run = .running ∨ x.run = .waiting) then
        ({ s with eng := { s.eng with irq := tset 0 s.eng.irq key (setBit lines l false) } }).setCore c (x.enter l none)
      else s

/-- One instruction issues on a core that runs: its place is checked, it acts on the core, a load before it lands, the
program counter moves on; a trap faults the lane or enters the supervisor's handler. -/
def State.issue (s : State) (c : CoreRef) (k : OpClass) (w : Cores) (f : State → Core → Ran) : State :=
  let x0 := s.core c
  if x0.run ≠ .running then s
  else
    let x := ({ x0 with cyc := x0.cyc + 1, load := none }).tick
    match (if x.misplaced c k w then .trap .illegal else f s x : Ran) with
    | .go y s1 => (s1.setCore c ((y.landLoad x0.load).advance (pcMod c))).takeIrq c
    | .jump y pc s1 => (s1.setCore c { y.landLoad x0.load with pc := pc % pcMod c }).takeIrq c
    | .stay y s1 => (s1.setCore c (y.landLoad x0.load)).takeIrq c
    | .trap t =>
      let y := x.landLoad x0.load
      match c with
      | .lane n => s.laneFault n y t.laneCode
      | .sup _ => s.setCore c ((y.advance (pcMod c)).enter t.supCause t.addr)

/-- An instruction that acts on its core alone. -/
def State.alu (s : State) (c : CoreRef) (f : Core → Core) : State := s.issue c .plain .all (fun s x => .go (f x) s)

/-! ### Data memory (R195, R202) -/

/-- May a lane store to this word (Tables 9.1, 9.2)? -/
def laneStores (a : Nat) : Bool :=
  (decide (0x0440 ≤ a ∧ a < 0x0880) && decide (6 ≤ a % 16 ∧ a % 16 ≤ 12))
    || decide (0x0880 ≤ a ∧ a < 0x0CC0) || decide (0x0CE0 ≤ a ∧ a < 0x0CE4) || decide (0x1500 ≤ a)

/-- First address past a core's data memory. -/
def memTop (c : CoreRef) : Nat := if isLane c then 0x3000 else 2 ^ 20

/-- A word of a core's data memory. -/
def State.memRead (s : State) (c : CoreRef) (a : Nat) : Word :=
  match c with
  | .lane n => s.dm n a
  | .sup _ => tget 0 s.eng.smem (2 ^ 20 * s.red.activeUnit + a)

/-- The window in which a PATH_OUT word counts for the period that ended last: from 121.6 µs to 1.0 µs after the
boundary (R198). -/
def State.pathWindow (s : State) : Bool := decide (s.ptime ≤ 1000 ∨ s.ptime ≥ 121600)

/-- The value of a PATH_OUT word is taken: the three-period rule of R118 applied to EXCEEDS (R198). -/
def State.pathOut (s : State) (out : Nat) (v : Word) : State :=
  if s.loops.pathAwait.contains out = false ∨ s.pathWindow = false then s
  else
    let s1 := { s with loops := { s.loops with pathAwait := s.loops.pathAwait.filter (· != out) } }
    if v.toNat % 65536 = 0x8000 then s1
    else
      let m := tget {} s1.mx.far (512 + out)
      let run := if bitAt v.toNat 16 ∧ s1.flag Reg.MX_PATH_CTL_PATH_EN then m.pathRun + 1 else 0
      let s2 := { s1 with mx := { s1.mx with far := tset {} s1.mx.far (512 + out) { m with pathRun := min run 3 } } }
      if run = 3 then
        s2.raise 0x0E04 [(2, out), (2, s2.mx.inForce.getD 0), (2, unsigned 16 ((signed 16 v.toNat + 5) / 10))]
      else s2

/-- A store to a core's data memory; word OUT_HTR marks the cell's output words written (Table 9.2). -/
def State.memWrite (s : State) (c : CoreRef) (a : Nat) (v : Word) : State :=
  match c with
  | .sup _ => { s with eng := { s.eng with smem := tset 0 s.eng.smem (2 ^ 20 * s.red.activeUnit + a) v } }
  | .lane n =>
    let s1 := s.setDm n a v
    if 0x0440 ≤ a ∧ a < 0x0880 ∧ a % 16 = 12 then
      match (s1.laneCells n)[(a - 0x0440) / 16]? with
      | some cell => s1.setCell cell { s1.cell cell with written := true }
      | none => s1
    else if 0x0CE0 ≤ a ∧ a < 0x0CE4 then s1.pathOut (256 + 4 * n + (a - 0x0CE0)) v
    else s1

/-- A load: the register takes the value after one delay slot. -/
def State.loadFrom (s : State) (c : CoreRef) (x : Core) (d : Fin 16) (a : Nat) : Ran :=
  if a ≥ memTop c then .trap (.memRange a)
  else .go { x with load := some { reg := d, value := s.memRead c a } } s

/-- A store. -/
def State.storeTo (s : State) (c : CoreRef) (x : Core) (a : Nat) (v : Word) : Ran :=
  if a ≥ memTop c then .trap (.memRange a)
  else if isLane c ∧ laneStores a = false then .trap .memProt
  else .go x (s.memWrite c a v)

end Sys2Proof.Machine
end

