-- ==== Sys2Proof/Machine/Light.lean ====
section
/-!
DEFINITION. The light side's shared operations: swatches in use, fibres, lane targets and reachability (R15, R146,
R147), transmitters (R112, R139, R141, R281), burst intervals, safe codes and DAC clears (R239 to R242), and the model's
powers (R175).
-/

namespace Sys2Proof.Machine

/-! ### Palette and stuck table -/

def State.swatch (s : State) (n : Nat) : Swatch := tget {} s.mx.palette n
def State.setSwatch (s : State) (n : Nat) (w : Swatch) : State :=
  { s with mx := { s.mx with palette := tset {} s.mx.palette n w } }

/-- CELLS with every stuck cell in its stuck state. -/
def State.stuckCells (s : State) (cells : Nat) : Nat := s.mx.stuck.foldl (fun n e => setBit n e.cell e.cross) cells

/-- Is a cell in the stuck table? -/
def State.isStuck (s : State) (c : Nat) : Bool := s.mx.stuck.any (fun e => e.cell == c)

/-! ### Orbit banks (R144 to R147) -/

def OrbitBank.id (b : OrbitBank) : Nat := leAt b.record 8 4
def OrbitBank.digest (b : OrbitBank) : Bytes := slice b.record 0x10 16
def OrbitBank.slots (b : OrbitBank) : Nat := leAt b.record 6 2
def OrbitBank.sets (b : OrbitBank) : Nat := leAt b.record 0x0C 2
def OrbitBank.cycleNs (b : OrbitBank) : Nat := leAt b.record 0x20 8
/-- Slot record k. -/
def OrbitBank.slotRec (b : OrbitBank) (k : Nat) : Bytes := slice b.record (0x40 + 64 * b.sets + 32 * k) 32
def OrbitBank.swatch (b : OrbitBank) (k : Nat) : Nat := leAt (b.slotRec k) 0 2 % 1024
def OrbitBank.duration (b : OrbitBank) (k : Nat) : Nat := leAt (b.slotRec k) 4 4 % 2 ^ 30
def OrbitBank.pktGate (b : OrbitBank) (k : Nat) : Nat := leAt (b.slotRec k) 8 8
def OrbitBank.egrGate (b : OrbitBank) (k : Nat) : Bytes := slice (b.slotRec k) 16 16
/-- Swatch numbers an Orbit names. -/
def OrbitBank.swatches (b : OrbitBank) : List Nat := (List.range b.slots).map b.swatch
/-- Destination set n as bits by module. -/
def OrbitBank.destSet (b : OrbitBank) (n : Nat) : Nat := leAt b.record (0x40 + 64 * n) 64
/-- Modules open in a slot. -/
def OrbitBank.openModules (b : OrbitBank) (k : Nat) : Nat :=
  (bitList 64 (b.pktGate k)).foldl (fun n i => n ||| b.destSet i) 0
/-- Map of slot k, where the target block gives one. -/
def OrbitBank.mapOf (b : OrbitBank) (k : Nat) : Option Bytes :=
  b.target.bind fun t =>
    let m := leAt t (4 + 2 * k) 2
    if m = 0xFFFF then none else some (slice t (alignUp (4 + 2 * b.slots) 64 + 512 * m) 512)

/-- Is a swatch in use (R125)? -/
def State.inUse (s : State) (n : Nat) : Bool :=
  s.mx.inForce == some n
    || (match s.orb.active with
      | some b => b.swatches.contains n
      | none => false)
    || (match s.orb.pendBank with
      | some b => b.swatches.contains n
      | none => false)
    || (match s.mx.apply with
      | some a => a.swatch == n
      | none => false)
    || (match s.mode.pend with
      | some p => p.swatch == some n
      | none => false)
    || (s.flag Reg.MX_ROUTE_CTL_AUTO_REROUTE && (s.swatch n).valid && (s.swatch n).stale && !(s.swatch n).direct)

/-! ### Fibres, lane targets and reachability (R87, R146, R147, R15) -/

/-- Fibres of the system: source module, source far output, destination module, destination far input. -/
def State.fibres (s : State) : List (Nat × Nat × Nat × Nat) :=
  (List.range (s.fibrePlan.length / 8)).map (fun i =>
    (leAt s.fibrePlan (8 * i) 2 % 512, 256 + byteAt s.fibrePlan (8 * i + 2),
      leAt s.fibrePlan (8 * i + 4) 2 % 512, 256 + byteAt s.fibrePlan (8 * i + 6)))

/-- Module and far input that this module's far output reaches. -/
def State.fibreOut (s : State) (q : Nat) : Option (Nat × Nat) :=
  (s.fibres.find? (fun f => f.1 == s.moduleId && f.2.1 == q)).map (fun f => f.2.2)

/-- Module and far output that reach this module's far input. -/
def State.fibreIn (s : State) (p : Nat) : Option (Nat × Nat) :=
  (s.fibres.find? (fun f => f.2.2.1 == s.moduleId && f.2.2.2 == p)).map (fun f => (f.1, f.2.1))

/-- Derived target of every lane under a swatch (R146). -/
def State.derivedTargets (s : State) (w : Swatch) : Tbl Nat :=
  w.perm.filterMap (fun e =>
    if e.1 < 256 ∧ e.2 ≥ 256 then (s.fibreOut e.2).map (fun d => (e.1, d.1)) else none)

/-- Targets of the lanes in slot k of a bank. -/
def State.slotTargets (s : State) (b : OrbitBank) (k : Nat) : Tbl Nat :=
  match b.mapOf k with
  | some m => (List.range 256).filterMap (fun i =>
      let w := leAt m (2 * i) 2
      if bitAt w 15 then some (i, w % 512) else none)
  | none => s.derivedTargets (s.swatch (b.swatch k))

/-- Destinations served in slot k: targets that lie in an open set. -/
def State.slotReach (s : State) (b : OrbitBank) (k : Nat) : Nat :=
  (s.slotTargets b k).foldl (fun n e => n ||| 2 ^ e.2) 0 &&& b.openModules k

/-- Reachability of an Orbit (R147). -/
def State.orbitReach (s : State) (b : OrbitBank) : Nat :=
  (List.range b.slots).foldl (fun n k => n ||| s.slotReach b k) 0

/-! ### Transmitters (R112, R139, R141, R281) -/

/-- Near inputs whose circuits the stuck table breaks: held off under R139 while the swatch awaits its re-route, under
R141 where the circuit is lost. -/
def State.heldInputs (s : State) (w : Swatch) : Nat :=
  let need := if w.stale ∧ w.direct = false ∧ s.flag Reg.MX_ROUTE_CTL_DARK_AFFECTED then
      (w.perm.filter (fun e => (pathCells w.cells 16 0 e.1).any (fun c =>
        s.mx.stuck.any (fun t => t.cell == c && t.cross != bitAt w.cells c)))).map Prod.fst
    else []
  let lost := if w.degraded ∨ (w.stale ∧ w.direct) then lostInputs w.perm (s.stuckCells w.cells) else []
  ((need ++ lost).filter (· < 256)).foldl (fun n i => n ||| 2 ^ i) 0

/-- Is a module barred: its live status entry carries EXCLUDED, FENCED, FW_REFUSED, OUT_OF_ORBIT or HALTED (R414)? -/
def State.barredNow (s : State) (m : Nat) : Bool :=
  match tget? s.ikl.table m with
  | some e => byteAt e.body 0x2C % 32 != 0
  | none => false

/-- The barred modules, as bits. -/
def State.barredMask (s : State) : Nat :=
  (s.ikl.table.filter (fun e => s.barredNow e.1)).foldl (fun n e => n ||| 2 ^ e.1) 0

/-- Lane i is held at its off level by the system's state: this module excluded or out of Orbit, or the lane's target
barred (R412 to R414). -/
def State.laneBarred (s : State) (i : Nat) : Bool :=
  s.ikl.excluded || s.ikl.outOfOrbit || s.orb.targets.any (fun e => e.1 == i && bitAt s.orb.barred e.2)

/-- Transmitters at launch level under the swatch in force: its near inputs that carry a circuit, whose lane serves, whose
laser group is on, and that nothing holds off. -/
def State.txLevel (s : State) (w : Swatch) (held : Nat) : Nat :=
  (w.perm.filter (fun e => decide (e.1 < 256) && (s.lane (256 + e.1)).serving && bitAt s.saf.lsrEn (e.1 / 64)
    && !bitAt held e.1 && !s.laneBarred e.1)).foldl (fun n e => n ||| 2 ^ e.1) 0

/-- Lane changes asked since the last boundary take effect: a lane serves while ON and READY (R280, R281). -/
def State.laneBoundary (s : State) : State :=
  let serve (e : Nat × LaneSt) : Nat × LaneSt :=
    if e.1 < 256 then e else (e.1, { e.2 with serving := decide (e.2.fn.state = 1) && e.2.fn.ready })
  let l := (s.lanes.map serve).filter (fun e => e.2 != {})
  { s with lanes := l }

/-- Every fabric transmitter at its off level, at once (R21, R162, R241). -/
def State.txDark (s : State) : State := { s with mx := { s.mx with txOn := 0 } }

/-! ### Putting a swatch in force -/

/-- The output stages take no swatch and no loop output: a DAC clear runs, or the mode holds safe codes (R239, R241). -/
def State.switchHeld (s : State) : Bool := s.dac.safeHold || s.dac.clr || s.dac.recover

/-- Margin m of R157, ns. -/
def eclipseMargin (e : Nat) : Nat := min 10 ((e - 57) / 2)

/-- Swatch n takes over in the Eclipse that opens at b: its cells, transmitters, targets. While the switching sections are
held at their safe codes they keep them, and the number is kept for their return. -/
def State.putSwatch (s : State) (n b : Nat) : State :=
  let w := s.swatch n
  let held := s.heldInputs w
  let cells := if s.switchHeld then s.mx.cells else w.cells
  let changed := s.mx.cells ^^^ cells
  let s1 := { s with
    mx := { s.mx with
      inForce := some n, cells := cells, heldOff := held
      txOn := if s.switchHeld then 0 else s.txLevel w held }
    dac := { s.dac with
      stepAt := b + eclipseMargin s.eclipseNs * nsUnit
      stepCells := if changed = 0 then s.dac.stepCells else changed } }
  s1

/-- No swatch is in force: the switching sections stand at BAR. -/
def State.noSwatch (s : State) : State :=
  { s with mx := { s.mx with inForce := none, cells := 0, txOn := 0, heldOff := 0 } }

/-! ### Heaters and safe codes (R238 to R242) -/

/-- Output and target of a heater; an unlisted heater stands at its safe code. -/
def State.htrOut (s : State) (c : Nat) : Nat := (tget? s.dac.htrOut c).getD (s.safeHtr c)
def State.htrTarget (s : State) (c : Nat) : Nat :=
  if s.dac.safeHold ∨ s.dac.clr then s.safeHtr c else (tget? s.dac.htrTarget c).getD (s.htrOut c)

/-- Bias code applied, without dither. -/
def State.biasOut (s : State) (c : Nat) : Int :=
  if s.dac.safeHold ∨ s.dac.clr then s.safeBias c else (tget? s.dac.bias c).getD (s.safeBias c)

/-- Every heater stands at its safe code; every heater has reached its target. -/
def State.htrSafe (s : State) : Bool := s.dac.htrOut.all (fun e => e.2 == s.safeHtr e.1)
def State.htrSettled (s : State) : Bool := allCells.all (fun c => s.htrOut c == s.htrTarget c)

/-- Every output at its safe code (MX_STATUS.SAFE). -/
def State.allSafe (s : State) : Bool := (s.dac.safeHold || s.dac.clr) && s.htrSafe

/-- MX_STATUS.SWATCH_VALID. -/
def State.swatchValid (s : State) : Bool := s.mx.inForce.isSome && !s.switchHeld

/-- One output of the slew limiter (R238). -/
def slewStep (out target step : Nat) : Nat :=
  if out + step < target then out + step
  else if target + step < out then out - step
  else target

/-- One tick of the slew limiter. -/
def State.slewTick (s : State) (step : Nat) : State :=
  let outs := (allCells.map (fun c => (c, slewStep (s.htrOut c) (s.htrTarget c) step))).filter
    (fun e => e.2 != s.safeHtr e.1)
  { s with dac := { s.dac with htrOut := outs } }

/-- The outputs move to their safe codes (R239): sections at once, transmitters off, heaters at maximum rate. -/
def State.toSafe (s : State) : State :=
  { s with
    mx := { s.mx with cells := 0, txOn := 0 }
    dac := { s.dac with safeHold := true, maxRate := true, stepCells := 0, recover := false } }

/-- The outputs leave their safe codes for a mode with closed loops; the biases take the loop outputs at the next
hold-period boundary and the heaters ramp at maximum rate (R63). -/
def State.leaveSafe (s : State) : State := { s with dac := { s.dac with safeHold := false, maxRate := true } }

/-- A DAC clear begins (R241). Sources: 0 DAC_CLR_N, 1 RST_N, 2 input fault. -/
def State.dacClear (s : State) (source : Nat) : State :=
  let s1 := { s with
    mx := { s.mx with cells := 0, txOn := 0 }
    dac := { s.dac with
      clr := true, released := false, recover := false, flagTail := true, maxRate := true, stepCells := 0
      clrAt := s.clk, clrSource := source } }
  s1.raise 0x0C01 [(1, source)]

/-- The switching sections return at an Eclipse that opens after every heater has settled (R242 step 2). -/
def State.dacReturn (s : State) : State :=
  if s.dac.recover ∧ s.htrSettled then
    let s1 := { s with dac := { s.dac with recover := false, maxRate := false } }
    let s2 := match s1.mx.inForce with
      | some n => s1.putSwatch n s1.orb.intStart
      | none => s1
    s2.raise 0x0C02 [(4, (s2.clk - s2.dac.clrAt) / 1000)]
  else s

/-! ### Burst intervals (R20 to R23, R155) -/

/-- Shortest interval that carries a burst: E + 100 ns. -/
def State.minInterval (s : State) : Nat := (s.eclipseNs + 100) * nsUnit

/-- A burst interval opens at b and ends at e: lanes change, the DACs may return, bursts start afresh. -/
def State.openInterval (s : State) (b e : Nat) : State :=
  let s1 := s.laneBoundary
  let fresh (l : Nat × LaneSt) : Nat × LaneSt :=
    (l.1, { l.2 with burstRecs := [], burstFrames := 0, burstBytes := 0, burstHdrs := [] })
  let lanes := (s1.lanes.map fresh).filter (fun l => l.2 != {})
  let s2 := { s1 with
    orb := { s1.orb with intStart := b, intEnd := e, intLen := e - b, intBurst := decide (e ≥ b + s.minInterval) }
    mode := { s1.mode with dark := false }
    lanes := lanes }
  s2.dacReturn

/-- Next boundary of the burst-period grid after an instant (R20). -/
def State.gridAfter (s : State) (t : Nat) : Nat :=
  let p := s.burstPeriod * nsUnit
  if p = 0 then t else t / secUnit * secUnit + (t % secUnit / p + 1) * p

/-- Fabric lanes are dark: the mode or power state has no bursts. -/
def State.fabricDark (s : State) : State :=
  { s with
    mx := { s.mx with txOn := 0 }
    mode := { s.mode with dark := true, darkNext := false }
    orb := { s.orb with intBurst := false } }

/-- The lanes' targets under a persistent swatch, and the modules barred as of this boundary (R146, R414). -/
def State.swatchTargets (s : State) (n : Nat) : State :=
  { s with orb := { s.orb with targets := s.derivedTargets (s.swatch n), barred := s.barredMask } }

/-! ### Eclipse flag (R25, R158, R241) -/

/-- Do burst intervals run? -/
def State.intervalsRun (s : State) : Bool :=
  (s.mode.mode.fabric || s.mode.darkNext) && s.pwr.state == 0 && !s.mode.dark || s.orb.running

/-- The conversion flag of an instant: within an Eclipse or 25 ns after, or flagged for a DAC clear. -/
def State.flagged (s : State) (t : Nat) : Bool :=
  s.dac.clr || s.dac.recover || s.dac.flagTail
    || (s.intervalsRun && decide (s.orb.intStart ≤ t ∧ t < s.orb.intStart + (s.eclipseNs + 25) * nsUnit))

/-- The span of an Eclipse in which a flagged conversion is a dark sample; a dark matrix gives dark samples always
(R26, R158, R253). -/
def State.darkSample (s : State) (t : Nat) : Bool :=
  let e := s.eclipseNs
  let b := s.orb.intStart
  !(s.dac.clr || s.dac.recover || s.dac.flagTail)
    && (if s.intervalsRun then
        decide (b + (eclipseMargin e + 25) * nsUnit ≤ t ∧ t + 32 * nsUnit ≤ b + e * nsUnit)
      else decide (s.mx.lit = 0))

/-! ### The model's powers (R107, R117, R175) -/

/-- What the model knows of an input: unknown, dark, or lit at a level in 0.001 dBm. -/
inductive InPower where
  | unknown | dark | lit (x : Int)
  deriving DecidableEq, Repr

/-- LOS_LEVEL and OVP_LEVEL of the period in force, 0.01 dBm. -/
def State.losLevel (s : State) : Int := signed 16 s.mx.losCtl.toNat
def State.ovpLevel (s : State) : Int := signed 16 (s.mx.losCtl.toNat / 65536)

/-- −15 dBm in 10 pW: the range choice of R107. -/
def rangeSplit : Nat := 3162278

/-- Port power of one conversion: low range below −15 dBm, high range from there on. -/
def FarSample.power (f : FarSample) : Nat := if f.low < rangeSplit then f.low.toNat else f.highP.toNat

/-- Mean of the conversions so far of a far port, 0.01 dBm; the last MEAN where there is none. -/
def State.meanNow (s : State) (key : Nat) : Option Int :=
  match tget [] s.mx.farAcc key with
  | [] => (tget {} s.mx.far key).mean
  | l => linToDbm (sumNat (l.map FarSample.power) / l.length)

/-- A matrix input's power for the model; `final` takes the period's MEAN, else what is known so far. -/
def State.inPower (s : State) (final : Bool) (p : Nat) : InPower :=
  if p < 256 then (if bitAt s.mx.txOn p then .lit (10 * s.calAt .launch p) else .dark)
  else if s.pairFlagged (portPair p) then .unknown
  else
    let m := tget {} s.mx.far p
    match (if final then m.mean else s.meanNow p) with
    | some x => if m.los = false ∧ x ≥ s.losLevel then .lit (10 * x) else .dark
    | none => .dark

/-- Loss of the cells on a way, 0.001 dB. -/
def State.lossOf (s : State) (cells : List Nat) : Int := sumInt (cells.map (s.calAt .loss))

/-- Power at input line l of stage st under CELLS with the stuck cells in their states. -/
def State.powerAt (s : State) (final : Bool) (cells st l : Nat) : InPower :=
  let r := traceBack (s.stuckCells cells) st l
  match s.inPower final r.2 with
  | .lit x => .lit (x - s.lossOf r.1)
  | o => o

/-- The model of one cell: inputs, their linear powers, lit, unknown, and the predicted output powers. -/
structure Predict where
  a : Nat := 0
  b : Nat := 0
  lit : Bool := false
  unknown : Bool := false
  p0 : Nat := 0
  p1 : Nat := 0
  /-- levels of the two inputs, 0.001 dBm -/
  la : Option Int := none
  lb : Option Int := none
  deriving DecidableEq, Repr

/-- Prediction of R175 for a cell in the state `cross`, under CELLS. -/
def State.predict (s : State) (final : Bool) (cells c : Nat) (cross : Bool) : Predict :=
  let ia := s.powerAt final cells (c / 256) (2 * (c % 256))
  let ib := s.powerAt final cells (c / 256) (2 * (c % 256) + 1)
  let lvl (i : InPower) : Option Int := match i with
    | .lit x => some x
    | _ => none
  let unk := ia == .unknown || ib == .unknown
  let lin (o : Option Int) (less : Int) : Nat := match o with
    | some x => dbmToLin (x - less)
    | none => 0
  let litMin := 10 * s.sfld Reg.LE_LOOP_LEVELS_LIT_MIN
  let isLit (o : Option Int) : Bool := match o with
    | some x => decide (x ≥ litMin)
    | none => false
  let loss := s.calAt .loss c
  let leak := 10 * s.calAt .leak c
  let la := lvl ia
  let lb := lvl ib
  let toA := lin la loss + lin lb (loss + leak)
  let toB := lin lb loss + lin la (loss + leak)
  { a := lin la 0, b := lin lb 0, lit := !unk && (isLit la || isLit lb), unknown := unk,
    p0 := if cross then toB else toA, p1 := if cross then toA else toB, la := la, lb := lb }

end Sys2Proof.Machine
end

