-- ==== Sys2Proof/Machine/TimeBase.lean ====
section
/-!
DEFINITION. The time unit's parts that other units use: its source, the withdrawal of a correction, the slow clock
(chapter 18).
-/

namespace Sys2Proof.Machine

/-- A pending correction is withdrawn; TIM_JUMP then reads 0 (R385). -/
def State.withdrawJump (s : State) : State := { s with time := { s.time with jump := none } }

/-- The source in use, as R379 gives it from the roles and TIM_CTL.SRC. -/
def State.sourceNow (s : State) : Nat := if s.follows then 3 else s.fld Reg.TIM_CTL_SRC

/-- The source in use changes where the role or SRC has changed (R379, R381, R385). -/
def State.updateSource (s : State) : State :=
  let new := s.sourceNow
  let old := s.time.srcUsed
  if new = old then s
  else
    let s1 := s.withdrawJump
    let s2 := { s1 with time := { s1.time with
      srcUsed := new, offsets := [], misses := 0, good := 0,
      state := if s1.time.slow then 4 else if new = 0 then 0 else 1 } }
    s2.raise 0x0706 [(1, old), (1, new)]

/-- Time is not traceable until it is resynchronised: UNSET is set, a pending correction withdrawn (R381, R385). -/
def State.setUnset (s : State) : State :=
  let s1 := s.withdrawJump
  { s1 with time := { s1.time with unset := true } }

/-- The counter passes to the slow clock (R54, R378). -/
def State.toSlowClock (s : State) : State :=
  let s1 := s.setUnset
  { s1 with time := { s1.time with slow := true, state := 4, theta := none, offsets := [], good := 0 } }

/-- The counter passes back to the PLL timebase (R378). -/
def State.toFastClock (s : State) : State :=
  { s with time := { s.time with
    slow := false, state := if s.time.srcUsed = 0 then 0 else 1, intervalAt := s.clk, misses := 0, good := 0 } }

/-- Length of the servo interval in ns (R382). -/
def State.servoNs (s : State) : Nat :=
  if s.time.srcUsed = 2 then 1000000000 else s.fld Reg.TIM_SERVO2_INT * 125000

/-- An offset the module measured itself joins the interval in progress (R380). -/
def State.addOffset (s : State) (ps : Int) : State :=
  ({ s with time := { s.time with offsets := s.time.offsets ++ [ps] } }).count (timCnt 3) 1

end Sys2Proof.Machine
end

