-- ==== Sys2Proof/Machine/Exclude.lean ====
section
/-!
DEFINITION. Exclusion from slotted operation (R412).
-/

namespace Sys2Proof.Machine

/-- |θ| lies above a bound in ns; no θ counts as `whenNone`. -/
def thetaAbove (theta : Option Int) (ns : Nat) (whenNone : Bool) : Bool :=
  match theta with
  | some t => decide (t.natAbs > 1000 * ns)
  | none => whenNone

/-- Why a follower excludes itself, in the order of R412: 0 θ, 1 HOLDOVER, 2 SLOW, 3 JUMP_PENDING, 4 UNSET. -/
def State.exclusionCause (s : State) (theta : Option Int) : Option Nat :=
  if thetaAbove theta s.exclNs false then some 0
  else match s.time.state with
    | 3 => some 1
    | 4 => some 2
    | 5 => some 3
    | _ => if s.time.unset then some 4 else none

/-- Exclusion and readmission (R412), judged with the θ of a servo interval or at a change of the time state. A leader is
never excluded. -/
def State.exclusionCheck (s : State) (theta : Option Int) : State :=
  if s.follows = false then { s with ikl := { s.ikl with excluded := false, readmitAt := none } }
  else
    let cause := s.exclusionCause theta
    match s.ikl.excluded, cause with
    | false, some c =>
      let s1 := { s with ikl := { s.ikl with excluded := true, exclCause := c, readmitAt := none } }
      s1.txDark.raise 0x0809 [(8, unsigned 64 (theta.getD 0)), (1, c)]
    | false, none => s
    | true, some _ => { s with ikl := { s.ikl with readmitAt := none } }
    | true, none =>
      if (s.time.state ≠ 1 ∧ s.time.state ≠ 2) ∨ thetaAbove theta s.readmitNs true then
        { s with ikl := { s.ikl with readmitAt := none } }
      else
        let since := s.ikl.readmitAt.getD s.clk
        if s.clk ≥ since + s.readmitMs * 1000000 then
          ({ s with ikl := { s.ikl with excluded := false, readmitAt := none } }).raise 0x080A []
        else { s with ikl := { s.ikl with readmitAt := some since } }

end Sys2Proof.Machine
end

