-- ==== Sys2Proof/Machine/Parse.lean ====
section
/-!
DEFINITION. The parser (R283 to R288): the walk along the parse graph, the fields of each level, the keys of the
classifier and the flow hash of R292.
-/

namespace Sys2Proof.Machine

/-- The fields that the headers of one level fill (Table 13.3). -/
structure PLevel where
  eth : Bool := false
  da : Nat := 0
  sa : Nat := 0
  etype : Nat := 0
  tags : Nat := 0
  ovid : Nat := 0
  opcp : Nat := 0
  odei : Nat := 0
  ivid : Nat := 0
  ipcp : Nat := 0
  labels : Nat := 0
  label0 : Nat := 0
  labelTc : Nat := 0
  ip4 : Bool := false
  ip6 : Bool := false
  sip : Nat := 0
  dip : Nat := 0
  tos : Nat := 0
  proto : Nat := 0
  flow : Nat := 0
  frag : Bool := false
  nonfirst : Bool := false
  arp : Bool := false
  oper : Nat := 0
  sha : Nat := 0
  spa : Nat := 0
  tha : Nat := 0
  tpa : Nat := 0
  icmp6 : Bool := false
  icmpType : Nat := 0
  icmpCode : Nat := 0
  target : Nat := 0
  l4 : Bool := false
  l4src : Nat := 0
  l4dst : Nat := 0
  tcpFlags : Nat := 0
  /-- bytes from the start of the frame through the last ETH or VLAN header, and through UDP -/
  l2end : Nat := 0
  udpEnd : Option Nat := none
  deriving DecidableEq, Repr

/-- What a parse leaves: the levels reached, innermost first, tunnels passed, DEEP, the cause of a failure. -/
structure Parsed where
  levels : List PLevel := [{}]
  tunnels : Nat := 0
  deep : Bool := false
  fail : Option Nat := none
  deriving DecidableEq, Repr

/-- The level in which the parse stands. -/
def Parsed.inner (r : Parsed) : PLevel := lget {} r.levels 0

/-- The outer level. -/
def Parsed.outer (r : Parsed) : PLevel := r.levels.getLastD {}

/-- A change of the level in which the parse stands. -/
def Parsed.put (r : Parsed) (l : PLevel) : Parsed := { r with levels := l :: r.levels.drop 1 }

/-! Header kinds of Table 13.3: 0 ETH, 1 VLAN, 2 MPLS, 3 IPV4, 4 IPV6, 5 IPV6_EXT, 6 IPV6_FRAG, 7 ARP, 8 ICMP,
9 ICMPV6, 10 TCP, 11 UDP, 12 VXLAN, 13 GRE, 14 GENEVE, 15 OPAQUE. -/

/-- The least length of a header of a kind; `opq` is OPAQUE_LEN. -/
def headMin (kind opq : Nat) : Nat :=
  match kind with
  | 0 => 14
  | 1 => 4
  | 2 => 4
  | 3 => 20
  | 4 => 40
  | 5 => 8
  | 6 => 8
  | 7 => 28
  | 8 => 4
  | 9 => 4
  | 10 => 20
  | 11 => 8
  | 12 => 8
  | 13 => 4
  | 14 => 8
  | _ => opq

/-- The length of the header that begins at `h`. -/
def headLen (kind opq : Nat) (h : Bytes) : Nat :=
  match kind with
  | 3 => max 20 (byteAt h 0 % 16 * 4)
  | 5 => (byteAt h 1 + 1) * 8
  | 9 => if byteAt h 0 = 135 ∨ byteAt h 0 = 136 then 24 else 4
  | 10 => max 20 (byteAt h 12 / 16 * 4)
  | 13 => if bitAt (byteAt h 0) 7 then 8 else 4
  | 14 => 8 + 4 * (byteAt h 0 % 64)
  | _ => headMin kind opq

/-- The checks of Table 13.3 on the header at `h`; the bytes from there to the FCS are `h` itself. -/
def headCheck (kind : Nat) (h : Bytes) : Bool :=
  match kind with
  | 3 =>
    let ihl := byteAt h 0 % 16
    let total := beAt h 2 2
    decide (byteAt h 0 / 16 = 4 ∧ 5 ≤ ihl ∧ ihl * 4 ≤ total ∧ total ≤ h.length)
  | 4 => decide (byteAt h 0 / 16 = 6)
  | 7 => decide (beAt h 0 2 = 1 ∧ beAt h 2 2 = 0x0800 ∧ byteAt h 4 = 6 ∧ byteAt h 5 = 4)
  | 10 => decide (5 ≤ byteAt h 12 / 16)
  | 12 => bitAt (byteAt h 0) 3
  | 13 => decide (beAt h 0 2 % 2 ^ 15 = 0)
  | 14 => decide (byteAt h 0 / 64 = 0)
  | _ => true

/-- The kinds that are tunnel headers. -/
def tunnelKind (kind : Nat) : Bool := kind == 12 || kind == 13 || kind == 14

/-- The fields that the header at `h` fills in its level. -/
def headFill (kind : Nat) (h : Bytes) (l : PLevel) : PLevel :=
  match kind with
  | 0 => { l with eth := true, da := beAt h 0 6, sa := beAt h 6 6, etype := beAt h 12 2 }
  | 1 =>
    let tci := beAt h 0 2
    let l1 := { l with etype := beAt h 2 2, tags := l.tags + 1 }
    if l.tags = 0 then { l1 with ovid := tci % 4096, opcp := tci / 8192, odei := tci / 4096 % 2 }
    else if l.tags = 1 then { l1 with ivid := tci % 4096, ipcp := tci / 8192 } else l1
  | 2 =>
    let w := beAt h 0 4
    let l1 := { l with labels := l.labels + 1 }
    if l.labels = 0 then { l1 with label0 := w / 4096, labelTc := w / 512 % 8 } else l1
  | 3 =>
    let fr := beAt h 6 2
    { l with
      ip4 := true, sip := beAt h 12 4, dip := beAt h 16 4, tos := byteAt h 1, proto := byteAt h 9
      frag := bitAt fr 13 || fr % 8192 != 0, nonfirst := fr % 8192 != 0 }
  | 4 =>
    let w := beAt h 0 4
    { l with
      ip6 := true, sip := beAt h 8 16, dip := beAt h 24 16, tos := w / 2 ^ 20 % 256, flow := w % 2 ^ 20
      proto := byteAt h 6 }
  | 5 => { l with proto := byteAt h 0 }
  | 6 =>
    let off := beAt h 2 2 / 8
    { l with proto := byteAt h 0, frag := true, nonfirst := off != 0 }
  | 7 =>
    { l with
      arp := true, oper := beAt h 6 2, sha := beAt h 8 6, spa := beAt h 14 4, tha := beAt h 18 6, tpa := beAt h 24 4 }
  | 8 => { l with icmpType := byteAt h 0, icmpCode := byteAt h 1 }
  | 9 =>
    let t := byteAt h 0
    { l with
      icmp6 := true, icmpType := t, icmpCode := byteAt h 1
      target := if t = 135 ∨ t = 136 then beAt h 8 16 else 0 }
  | 10 => { l with l4 := true, l4src := beAt h 0 2, l4dst := beAt h 2 2, tcpFlags := byteAt h 13 }
  | 11 => { l with l4 := true, l4src := beAt h 0 2, l4dst := beAt h 2 2 }
  | _ => l

/-- Does the parse end after the header: a terminal kind, or a fragment that is not the first? -/
def headEnds (kind : Nat) (l : PLevel) : Bool :=
  kind == 7 || kind == 8 || kind == 9 || kind == 10 || kind == 11 || ((kind == 3 || kind == 6) && l.nonfirst)

/-- The kind-defined next value; `none` where there is none and DEFAULT_NEXT alone applies. -/
def headNext (kind : Nat) (h : Bytes) : Option Nat :=
  match kind with
  | 0 => some (beAt h 12 2)
  | 1 => some (beAt h 2 2)
  | 2 => some (if bitAt (byteAt h 2) 0 then 0x8000 + byteAt h 4 / 16 else 0)
  | 3 => some (byteAt h 9)
  | 4 => some (byteAt h 6)
  | 5 => some (byteAt h 0)
  | 6 => some (byteAt h 0)
  | 11 => some (beAt h 2 2)
  | 13 => some (beAt h 2 2)
  | 14 => some (beAt h 2 2)
  | _ => none

/-- The next value of a node (NEXT_SEL, Table 13.2). -/
def nodeNext (node h : Bytes) : Option Nat :=
  match byteAt node 2 with
  | 0 => headNext (byteAt node 1) h
  | 1 => some (beAt h (byteAt node 3) 2)
  | 2 => some (byteAt h (byteAt node 3))
  | _ => none

/-- How many bytes from the header's start the next value reaches. -/
def nextEnd (node h : Bytes) : Nat :=
  match byteAt node 2 with
  | 0 => if byteAt node 1 = 2 ∧ bitAt (byteAt h 2) 0 then 5 else 0
  | 1 => byteAt node 3 + 2
  | 2 => byteAt node 3 + 1
  | _ => 0

/-- The node that follows: the first used transition that matches, else DEFAULT_NEXT. -/
def follow (node : Bytes) (v : Option Nat) : Nat :=
  match v with
  | none => byteAt node 4
  | some x =>
    let trans := (List.range 8).map (fun k => slice node (8 + 6 * k) 6)
    match trans.find? (fun t => byteAt t 4 != 0xFF && (x &&& leAt t 2 2) == leAt t 0 2) with
    | some t => byteAt t 4
    | none => byteAt node 4

/-- A header that ends at `stop` runs past the frame (TRUNCATED) or past the depth (DEPTH). -/
def extent (len depth stop : Nat) : Option Nat :=
  if stop > len then some 1 else if stop > depth then some 2 else none

/-- The first cause for which the header of a node at `pos` fails, apart from LOOP (Table 13.4). -/
def headFails (kind opq depth pos : Nat) (body h : Bytes) (l : PLevel) : Option Nat :=
  if kind = 1 ∧ l.tags ≥ 4 then some 3
  else if kind = 2 ∧ l.labels ≥ 6 then some 4
  else match extent body.length depth (pos + headMin kind opq) with
    | some c => some c
    | none => match extent body.length depth (pos + headLen kind opq h) with
      | some c => some c
      | none => if headCheck kind h then none else some 6

/-- The walk (R284 to R287) over the frame's bytes before the FCS; `fuel` headers may still be parsed. -/
def walk (graph : Tbl Bytes) (body : Bytes) (depth : Nat) : Nat → Nat → Nat → Parsed → Parsed
  | 0, _, _, r => { r with fail := some 7 }
  | fuel + 1, n, pos, r =>
    match tget? graph n with
    | none => { r with fail := some 5 }
    | some node =>
      let kind := byteAt node 1
      let opq := byteAt node 5
      let h := body.drop pos
      match headFails kind opq depth pos body h r.inner with
      | some c => { r with fail := some c }
      | none =>
        let stop := pos + headLen kind opq h
        let l0 := headFill kind h r.inner
        let l := if kind ≤ 1 then { l0 with l2end := stop } else if kind = 11 then { l0 with udpEnd := some stop } else l0
        let r1 := r.put l
        if headEnds kind l then r1
        else if tunnelKind kind ∧ r1.tunnels ≥ 2 then { r1 with deep := true }
        else
          let r2 := if tunnelKind kind then { r1 with levels := ({} : PLevel) :: r1.levels, tunnels := r1.tunnels + 1 }
            else r1
          let nx := follow node (nodeNext node h)
          if h.length < nextEnd node h then { r2 with fail := some 1 }
          else if nx = 0xFE then r2
          else if nx = 0xFD then { r2 with fail := some 5 }
          else walk graph body depth fuel nx stop r2

/-- The parse of a frame, given with its FCS. -/
def State.parse (s : State) (frame : Bytes) : Parsed :=
  walk s.cls.graph (frame.take (frame.length - 4)) (16 * s.fld Reg.PRS_CTL_DEPTH) 32 0 0 {}

/-! ### Keys (R288) -/

/-- Fields at their bit places. -/
def packBits (fs : List (Nat × Nat)) : Nat := fs.foldl (fun n f => n + f.2 * 2 ^ f.1) 0

/-- Is the destination address of a level a group address (DA_MC)? -/
def groupMac (mac : Nat) : Bool := bitAt mac 40

/-- The common part of Table 13.6. -/
def keyCommon (r : Parsed) (l : PLevel) (port type level : Nat) : Nat :=
  packBits [(0, port), (8, type), (11, level), (12, l.tags), (15, l.labels), (18, r.tunnels), (20, ofBool l.frag),
    (21, ofBool l.nonfirst), (22, ofBool r.deep), (23, ofBool (l.eth && groupMac l.da)), (24, l.ovid), (36, l.opcp),
    (39, l.odei), (40, l.ivid), (52, l.ipcp), (56, l.etype), (72, l.tos), (80, l.proto), (88, l.tcpFlags)]

/-- The keys of one level (Table 13.5). -/
def keysOf (r : Parsed) (l : PLevel) (port level : Nat) : List Nat :=
  let c (t : Nat) : Nat := keyCommon r l port t level
  [c 0 + packBits [(96, l.da), (144, l.sa), (192, l.label0), (212, l.labelTc)]]
  ++ (if l.ip4 then
      [c 1 + packBits [(96, l.sip), (128, l.dip), (160, l.l4src), (176, l.l4dst), (192, l.icmpType), (200, l.icmpCode)]]
    else [])
  ++ (if l.arp then
      [c 2 + packBits [(96, l.oper), (112, l.sha), (160, l.spa), (192, l.tpa), (224, l.tha)]]
    else [])
  ++ (if l.ip6 then
      let rest := packBits [(224, l.l4src), (240, l.l4dst), (256, l.icmpType), (264, l.icmpCode), (272, l.flow)]
      [c 3 + packBits [(96, l.sip)] + rest, c 4 + packBits [(96, l.dip)] + rest]
    else [])
  ++ (if l.icmp6 ∧ 133 ≤ l.icmpType ∧ l.icmpType ≤ 137 then
      [c 5 + packBits [(96, l.icmpType), (104, l.icmpCode), (112, l.target), (240, l.sip % 2 ^ 64)]]
    else [])

/-- The keys of a completed parse: the outer level, and the innermost where a tunnel was passed. -/
def keys (r : Parsed) (port : Nat) : List Nat :=
  keysOf r r.outer port 0 ++ (if r.tunnels > 0 then keysOf r r.inner port 1 else [])

/-! ### The flow hash (R292) -/

/-- Two addresses, with what goes with each, in the order of SYM. -/
def symOrder (sym : Bool) (a b : Nat) : Bool := sym && decide (b < a)

/-- The bytes of the flow hash. Fields that a failed parse did not reach are absent. -/
def hashBytes (r : Parsed) (port : Nat) (level sym l4en flowen porten : Bool) : Bytes :=
  let l := if level then r.inner else r.outer
  let pre := if porten then leBytes 1 port else []
  let swap := symOrder sym l.sip l.dip
  let w := if l.ip6 then 16 else 4
  if l.ip4 ∨ l.ip6 then
    let ports := if l4en && l.l4 && !l.nonfirst then
        (if swap then beBytes 2 l.l4dst ++ beBytes 2 l.l4src else beBytes 2 l.l4src ++ beBytes 2 l.l4dst)
      else []
    pre ++ (if swap then beBytes w l.dip ++ beBytes w l.sip else beBytes w l.sip ++ beBytes w l.dip)
      ++ leBytes 1 l.proto ++ ports ++ (if flowen && l.ip6 then beBytes 3 l.flow else [])
  else
    let macs := if symOrder sym l.da l.sa then beBytes 6 l.sa ++ beBytes 6 l.da else beBytes 6 l.da ++ beBytes 6 l.sa
    let here := r.fail.isNone || l.eth
    let tag := r.fail.isNone || l.tags != 0
    pre ++ (if here then macs ++ beBytes 2 l.etype else []) ++ (if tag then beBytes 2 l.ovid else [])

/-- The 32-bit flow hash of a frame. -/
def State.flowHash (s : State) (r : Parsed) (port : Nat) : Nat :=
  let b := hashBytes r port (s.flag Reg.PRS_HASH_CTL_LEVEL) (s.flag Reg.PRS_HASH_CTL_SYM)
    (s.flag Reg.PRS_HASH_CTL_L4_EN) (s.flag Reg.PRS_HASH_CTL_FLOW_EN) (s.flag Reg.PRS_HASH_CTL_PORT_EN)
  (crcRun 0x82F63B78 (BitVec.ofNat 32 (s.fld Reg.PRS_HASH_SEED_SEED)) b ^^^ 0xFFFFFFFF).toNat

/-! ### Range comparators (R290) -/

/-- The values that a comparator's FIELD names at a level; none where the level has no such field. -/
def rangeValues (r : Parsed) (frameLen field level : Nat) : List Nat :=
  if level = 1 ∧ r.tunnels = 0 ∧ field ≠ 5 then []
  else
    let l := if level = 1 then r.inner else r.outer
    match field with
    | 0 => if l.l4 then [l.l4src] else []
    | 1 => if l.l4 then [l.l4dst] else []
    | 2 => if l.eth ∨ l.tags > 0 then [l.etype] else []
    | 3 => if l.tags > 0 then [l.ovid] else []
    | 4 => if l.tags > 1 then [l.ivid] else []
    | 5 => [frameLen]
    | 6 => if l.l4 then [l.l4src, l.l4dst] else []
    | _ => []

/-- The result of a comparator record on a frame. -/
def rangeHit (r : Parsed) (frameLen rec : Nat) : Bool :=
  bitAt rec 37 && (rangeValues r frameLen (bitsOf rec 35 32) (bitsOf rec 36 36)).any
    (fun v => decide (rec % 65536 ≤ v ∧ v ≤ bitsOf rec 31 16))

end Sys2Proof.Machine
end

