-- ==== Sys2Proof/Machine/Classify.lean ====
section
/-!
DEFINITION. Classification (R289 to R291, R293), policers (R346 to R350), and the commands that change or read the rule
set, the comparators and the policers.
-/

namespace Sys2Proof.Machine

/-- A command that needs the packet domain is refused with POWER_STATE outside L0 (R45). -/
def State.serveL0 (s : State) (tag : CmdTag) (op : Nat) (body : State → State) : State :=
  s.serve tag op fun s => if s.pwr.state ≠ 0 then s.complete tag St.powerState else body s

/-! ### Rules -/

/-- A rule record by INDEX; an index that no record names holds an invalid rule (R291). -/
def State.rule (s : State) (i : Nat) : Bytes := tget (zeros 96) s.cls.rules i
def ruleWord (rec : Bytes) (k : Nat) : Nat := leAt rec (0x50 + 4 * k) 4
def ruleIndex (rec : Bytes) : Nat := ruleWord rec 0 % 2 ^ 15
def ruleValid (rec : Bytes) : Bool := bitAt (ruleWord rec 0) 15
def ruleValue (rec : Bytes) : Nat := leAt rec 0 40
def ruleMask (rec : Bytes) : Nat := leAt rec 0x28 40

/-- What the frame's action asks for (Table 13.7); a default action has no rule. -/
structure Action where
  drop : Bool := false
  copy : Option Nat := none
  mirror : Option Nat := none
  cls : Option Nat := none
  count : Bool := false
  police : Option Nat := none
  rule : Option Nat := none
  /-- drops are counted as DROP_DEFAULT -/
  byDefault : Bool := false
  deriving DecidableEq, Repr

/-- The action of a rule record. -/
def ruleAction (rec : Bytes) : Action :=
  let w := ruleWord rec 0
  let w1 := ruleWord rec 1
  { drop := bitAt w 16
    copy := if bitAt w 17 then some (bitsOf w 20 18) else none
    mirror := if bitAt w 21 then some (bitsOf w 25 22) else none
    cls := if bitAt w 26 then some (bitsOf w 29 27) else none
    count := bitAt w 30
    police := if bitAt w1 0 then some (bitsOf w1 14 1) else none
    rule := some (ruleIndex rec) }

/-- One of a rule's two range tests, in bits [9:0] of `w` (R289, R290). -/
def rangeTest (hits : Nat → Bool) (w : Nat) : Bool := !bitAt w 8 || (hits (w % 256) != bitAt w 9)

/-- Does a rule match a frame with these keys (R289)? -/
def ruleHit (ks : List Nat) (hits : Nat → Bool) (rec : Bytes) : Bool :=
  let w := ruleWord rec 2
  ruleValid rec && ks.any (fun k => k &&& ruleMask rec == ruleValue rec)
    && rangeTest hits w && rangeTest hits (w / 65536)

/-- The winning rule's action (R289); NOMATCH or FAIL of the port otherwise (R286, R293). -/
def State.classify (s : State) (r : Parsed) (port len : Nat) : Action :=
  let dflt (drop copy : Bool) (q : Nat) : Action :=
    { drop := drop, copy := if copy then some q else none, byDefault := true }
  if r.fail.isSome then
    dflt (s.flag (Reg.PORT_CLS_PF_DROP port)) (s.flag (Reg.PORT_CLS_PF_COPY port)) (s.fld (Reg.PORT_CLS_PF_Q port))
  else
    let hits (n : Nat) : Bool := rangeHit r len (tget 0 s.cls.ranges n)
    match s.cls.rules.find? (fun e => ruleHit (keys r port) hits e.2) with
    | some e => ruleAction e.2
    | none =>
      dflt (s.flag (Reg.PORT_CLS_NM_DROP port)) (s.flag (Reg.PORT_CLS_NM_COPY port)) (s.fld (Reg.PORT_CLS_NM_Q port))

/-- Address of the counter records of a rule (Table 17.1). -/
def ruleCnt (i : Nat) : Nat := 0x2780000 + 0x20 * i

/-- A rule record keeps R289 and R291, given the comparators and the number of policers. -/
def ruleOk (ranges : Tbl Nat) (policers : Nat) (rec : Bytes) : Bool :=
  let w1 := ruleWord rec 1
  let w2 := ruleWord rec 2
  let rc (w : Nat) : Bool := !bitAt w 8 || bitAt (tget 0 ranges (w % 256)) 37
  decide (rec.length = 96) && !bitAt (ruleWord rec 0) 31 && decide (w1 / 2 ^ 15 = 0)
    && decide (bitsOf w2 15 10 = 0 ∧ bitsOf w2 31 26 = 0 ∧ ruleWord rec 3 = 0)
    && decide (bitsOf (ruleMask rec) 10 8 = 7) && decide (clearBits (ruleValue rec) (ruleMask rec) = 0)
    && rc w2 && rc (w2 / 65536) && (!bitAt w1 0 || decide (bitsOf w1 14 1 < policers))

/-- A comparator record keeps R290. -/
def rangeOk (rec : Nat) : Bool := decide (bitsOf rec 35 32 ≤ 6 ∧ rec / 2 ^ 38 = 0)

/-- Chunks of a host buffer. -/
def chunks (size n : Nat) (b : Bytes) : List Bytes := (List.range n).map (fun i => slice b (size * i) size)

/-- First position at which a list of records fails its check. -/
def firstBad {α : Type} (ok : α → Bool) (l : List α) : Option Nat := l.findIdx? (fun r => !ok r)

/-- First position that repeats an earlier number of the list. -/
def firstRepeat (l : List Nat) : Option Nat :=
  (List.range l.length).find? (fun i => (l.take i).contains (l.getD i 0))

/-- The earlier of two positions. -/
def earlier : Option Nat → Option Nat → Option Nat
  | some a, some b => some (min a b)
  | some a, none => some a
  | none, b => b

/-- POLICER_COUNT of QUEUE_PLAN (R350). -/
def State.policerCount (s : State) : Nat := leAt s.queuePlan 0xB60 4

/-- The set changes: PRS_CLS_GEN adds one (R296). -/
def State.clsChanged (s : State) : State := { s with cls := { s.cls with gen := seqNext s.cls.gen } }

/-- A rule is written to its INDEX; its counters are kept, unless asked or the index had been deleted (R296). -/
def State.writeRule (s : State) (resetCnt : Bool) (rec : Bytes) : State :=
  let i := ruleIndex rec
  let s1 := if resetCnt ∨ ruleValid (s.rule i) = false then
      { s with obs := { s.obs with cnt := terase (terase s.obs.cnt (ruleCnt i)) (ruleCnt i + 0x10) } }
    else s
  { s1 with cls := { s1.cls with rules := tset (zeros 96) s1.cls.rules i rec } }

/-- CLS_RULE_WRITE (R296). -/
def execClsRuleWrite (tag : CmdTag) (count : Nat) (resetCnt : Bool) (records : Option Bytes) (s : State) :
    Host.Outcome State Fault Refusal :=
  next <| s.serveL0 tag 0x1201 fun s =>
    if count < 1 ∨ 256 < count then s.complete tag St.badParam
    else match records with
    | none => s.complete tag St.hostDmaError
    | some b =>
      let recs := chunks 96 count b
      match earlier (firstBad (ruleOk s.cls.ranges s.policerCount) recs) (firstRepeat (recs.map ruleIndex)) with
      | some i => s.complete tag St.clsInvalid [(4, i)]
      | none =>
        let s1 := (s.each recs (fun s r => s.writeRule resetCnt r)).clsChanged
        s1.complete tag St.ok [(4, s1.cls.gen)]

/-- CLS_RULE_DELETE (R296). -/
def execClsRuleDelete (tag : CmdTag) (count : Nat) (indices : Option Bytes) (s : State) :
    Host.Outcome State Fault Refusal :=
  next <| s.serveL0 tag 0x1202 fun s =>
    if count < 1 ∨ 256 < count then s.complete tag St.badParam
    else match indices with
    | none => s.complete tag St.hostDmaError
    | some b =>
      let is := (chunks 2 count b).map leNat
      match firstBad (fun i => decide (i < 32768)) is with
      | some i => s.complete tag St.clsInvalid [(4, i)]
      | none =>
        let wipe (s : State) (i : Nat) : State :=
          let r := s.rule i
          let r1 := r.take 0x50 ++ leBytes 4 (setBit (ruleWord r 0) 15 false) ++ r.drop 0x54
          { s with cls := { s.cls with rules := tset (zeros 96) s.cls.rules i r1 } }
        let s1 := (s.each is wipe).clsChanged
        s1.complete tag St.ok [(4, s1.cls.gen)]

/-- CLS_RANGE_WRITE (R296): comparator records, each preceded by its number in 4 bytes. -/
def execClsRangeWrite (tag : CmdTag) (count : Nat) (records : Option Bytes) (s : State) :
    Host.Outcome State Fault Refusal :=
  next <| s.serveL0 tag 0x1203 fun s =>
    if count < 1 ∨ 256 < count then s.complete tag St.badParam
    else match records with
    | none => s.complete tag St.hostDmaError
    | some b =>
      let recs := (chunks 12 count b).map (fun r => (leAt r 0 4, leAt r 4 8))
      match firstBad (fun r => decide (r.1 < 256) && rangeOk r.2) recs with
      | some i => s.complete tag St.clsInvalid [(4, i)]
      | none =>
        let put (s : State) (r : Nat × Nat) : State :=
          { s with cls := { s.cls with ranges := tset 0 s.cls.ranges r.1 r.2 } }
        let s1 := (s.each recs put).clsChanged
        s1.complete tag St.ok [(4, s1.cls.gen)]

/-- A counter record (R364). -/
def State.cntRecord (s : State) (a : Nat) : Bytes := padTo 16 (leBytes 9 (s.cntOf a))

/-- CLS_RULE_READ (R296): 128 bytes a rule, its record and its two counter records. -/
def execClsRuleRead (tag : CmdTag) (first count outAddr : Nat) (s : State) : Host.Outcome State Fault Refusal :=
  next <| s.serveL0 tag 0x1204 fun s =>
    if first + count > 32768 then s.complete tag St.badParam
    else
      let one (i : Nat) : Bytes := s.rule i ++ s.cntRecord (ruleCnt i) ++ s.cntRecord (ruleCnt i + 0x10)
      let b := ((List.range count).map (fun k => one (first + k))).flatten
      (s.outData tag outAddr b).completeWith tag St.ok [] true

/-! ### Policers (R346 to R350) -/

def polMode (rec : Bytes) : Nat := leAt rec 0 2 % 4
def polAware (rec : Bytes) : Bool := bitAt (leAt rec 0 2) 2
def polYellowDrop (rec : Bytes) : Bool := bitAt (leAt rec 0 2) 3
def polRedDrop (rec : Bytes) : Bool := bitAt (leAt rec 0 2) 4
def polAdj (rec : Bytes) : Int := signed 8 (byteAt rec 2)
def polCir (rec : Bytes) : Nat := leAt rec 4 4
def polPir (rec : Bytes) : Nat := leAt rec 12 4
/-- Bucket sizes in 1/1024 byte. -/
def polCSize (rec : Bytes) : Nat := leAt rec 8 4 * 1024
def polESize (rec : Bytes) : Nat := leAt rec 16 4 * 1024

/-- A policer record keeps Table 16.3. -/
def polOk (rec : Bytes) : Bool :=
  let m := polMode rec
  decide (rec.length = 32) && decide (leAt rec 0 2 / 32 = 0 ∧ m ≤ 2 ∧ byteAt rec 3 = 0 ∧ leAt rec 20 12 = 0)
    && decide (-64 ≤ polAdj rec ∧ polAdj rec ≤ 64)
    && (m == 0 || decide (1 ≤ polCir rec ∧ polCir rec ≤ 1000000000))
    && decide (leAt rec 8 4 ≤ 16777215 ∧ leAt rec 16 4 ≤ 16777215)
    && (if m = 2 then decide (polCir rec ≤ polPir rec ∧ polPir rec ≤ 1000000000) else polPir rec == 0)

/-- Policer i. -/
def State.policer (s : State) (i : Nat) : Policer := tget {} s.tm.policers i
def State.setPolicer (s : State) (i : Nat) (p : Policer) : State :=
  { s with tm := { s.tm with policers := tset {} s.tm.policers i p } }

/-- Tokens that a rate in kbit/s yields over `dt` ns in 1/1024 byte, with the remainder carried (R346). -/
def tokens (rate dt rem : Nat) : Nat × Nat := ((rate * dt * 128 + rem) / 1000000, (rate * dt * 128 + rem) % 1000000)

/-- The buckets are filled up to a clock (R346 to R348). -/
def polRefill (p : Policer) (clk : Nat) : Policer :=
  let dt := clk - p.lastNs
  let r := p.record
  match polMode r with
  | 1 =>
    let (n, rem) := tokens (polCir r) dt p.remC
    let toC := min n (polCSize r - p.c)
    { p with c := p.c + toC, e := min (p.e + (n - toC)) (polESize r), remC := rem, lastNs := clk }
  | 2 =>
    let (n, rem) := tokens (polCir r) dt p.remC
    let (m, rem2) := tokens (polPir r) dt p.remE
    { p with
      c := min (p.c + n) (polCSize r), e := min (p.e + m) (polESize r), remC := rem, remE := rem2, lastNs := clk }
  | _ => { p with lastNs := clk }

/-- Metering of a frame of length L under its colour, 0 green, 1 yellow, 2 red, on filled buckets (R347, R348). -/
def polMeter (p : Policer) (len colour : Nat) : Nat × Policer :=
  let r := p.record
  let b := (((len : Int) + polAdj r) * 1024).toNat
  let col := if polAware r then colour else 0
  match polMode r with
  | 1 =>
    if col = 0 ∧ p.c ≥ b then (0, { p with c := p.c - b })
    else if col ≤ 1 ∧ p.e ≥ b then (1, { p with e := p.e - b })
    else (2, p)
  | 2 =>
    if col = 2 ∨ p.e < b then (2, p)
    else if col = 1 ∨ p.c < b then (1, { p with e := p.e - b })
    else (0, { p with e := p.e - b, c := p.c - b })
  | _ => (colour, p)

/-- Address of a policer's counters for a colour (Table 17.1). -/
def polCnt (i colour : Nat) : Nat := 0x2A80000 + 0x60 * i + 0x20 * colour

/-- Step 4: the frame is metered and counted; the Bool tells whether the policer drops it (R346, R349). -/
def State.police (s : State) (i len colour : Nat) : Nat × Bool × State :=
  let p := s.policer i
  let (c, p1) := polMeter (polRefill p s.clk) len colour
  let s1 := ((s.setPolicer i p1).count (polCnt i c) 1).count (polCnt i c + 0x10) len
  (c, (c == 2 && polRedDrop p.record) || (c == 1 && polYellowDrop p.record), s1)

/-- A record replaces a policer's: buckets are filled at the old rate, then set full or clipped (R350). A policer newly
provided starts with full buckets. -/
def polReplace (p : Policer) (rec : Bytes) (resetTokens : Bool) (clk : Nat) : Policer :=
  let q := polRefill p clk
  if resetTokens ∨ p.record = [] then
    { q with record := rec, c := polCSize rec, e := polESize rec, remC := 0, remE := 0 }
  else { q with record := rec, c := min q.c (polCSize rec), e := min q.e (polESize rec) }

/-- POL_WRITE (R350): records, each preceded by its index in 4 bytes. -/
def execPolWrite (tag : CmdTag) (count : Nat) (resetTokens : Bool) (records : Option Bytes) (s : State) :
    Host.Outcome State Fault Refusal :=
  next <| s.serveL0 tag 0x1401 fun s =>
    if count < 1 ∨ 256 < count then s.complete tag St.badParam
    else match records with
    | none => s.complete tag St.hostDmaError
    | some b =>
      let recs := (chunks 36 count b).map (fun r => (leAt r 0 4, r.drop 4))
      match firstBad (fun r => decide (r.1 < s.policerCount) && polOk r.2) recs with
      | some i => s.complete tag St.polInvalid [(4, i)]
      | none =>
        let put (s : State) (r : Nat × Bytes) : State :=
          s.setPolicer r.1 (polReplace (s.policer r.1) r.2 resetTokens s.clk)
        let s1 := s.each recs put
        let s2 := { s1 with tm := { s1.tm with polGen := seqNext s1.tm.polGen } }
        s2.complete tag St.ok [(4, s2.tm.polGen)]

end Sys2Proof.Machine
end

