-- ==== Sys2Proof/Machine/HostQ.lean ====
section
/-!
DEFINITION. Frame DMA queues: the record in front of a host copy (Table 17.4), delivery to a receive queue (R372, R449)
and the write-back of transmit descriptors (R448).
-/

namespace Sys2Proof.Machine

/-- What the record of Table 17.4 says of a copy. -/
structure CopyInfo where
  kind : Nat
  session : Nat := 0
  fabric : Bool := false
  cls : Nat := 0
  colour : Nat := 0
  /-- module time of the stamp; `none` where none was taken -/
  ts : Option Nat := none
  srcPort : Nat := 0
  /-- 0 to 767, 0x3FE flooded, 0x3FF none -/
  dest : Nat := 0x3FF
  srcModule : Nat := 0
  dropCause : Nat := 0
  dstPort : Nat := 0
  rule : Option Nat := none
  epoch : Nat := 0
  hash : Nat := 0
  deriving DecidableEq, Repr

/-- The 48-byte record of Table 17.4. -/
def copyRecord (i : CopyInfo) (origLen : Nat) (trunc badFcs timeNt : Bool) (seq : Nat) : Bytes :=
  let t := i.ts.getD 0
  let ns := timeNs t
  leBytes 2 (origLen + 2 ^ 14 * ofBool trunc + 2 ^ 15 * ofBool badFcs)
    ++ leBytes 1 (i.kind + 8 * ofBool i.fabric + 16 * i.session)
    ++ leBytes 1 (i.cls + 8 * i.colour + 32 * ofBool i.ts.isSome + 64 * ofBool timeNt)
    ++ leBytes 1 i.srcPort ++ leBytes 1 0 ++ leBytes 2 i.dest ++ leBytes 2 i.srcModule
    ++ leBytes 2 (i.dropCause + 256 * i.dstPort)
    ++ leBytes 2 (i.rule.getD 0 + 2 ^ 15 * ofBool i.rule.isSome) ++ leBytes 2 i.epoch
    ++ leBytes 4 i.hash ++ leBytes 4 seq ++ leBytes 4 (ns / 1000000000) ++ leBytes 4 (ns % 1000000000)
    ++ leBytes 2 (t / 2 ^ 24) ++ zeros 14

/-- A direction of a frame queue. -/
def State.fqRxOf (s : State) (q : Nat) : FqDir := lget {} s.cx.fqRx q
def State.setFqRx (s : State) (q : Nat) (d : FqDir) : State := { s with cx := { s.cx with fqRx := lset s.cx.fqRx q d } }
def State.fqTxOf (s : State) (q : Nat) : FqDir := lget {} s.cx.fqTx q
def State.setFqTx (s : State) (q : Nat) (d : FqDir) : State := { s with cx := { s.cx with fqTx := lset s.cx.fqTx q d } }

/-- The next number of a copy series: sessions 0 to 15, queues as 16 + q (Table 17.4). -/
def State.nextSeq (s : State) (key : Nat) : Nat × State :=
  let n := seqNext (tget 0 s.obs.seqs key)
  (n, { s with obs := { s.obs with seqs := tset 0 s.obs.seqs key n } })

/-- What a descriptor's sequence check finds (R433, R447): the number found and the cause, where it fails. -/
def FqDir.check (d : FqDir) (desc : Descriptor) : Option (Nat × Nat) :=
  match desc.raw with
  | none => some (0, 1)
  | some raw =>
    let e := seqNext d.cons
    if leAt raw 0x1C 4 ≠ e then some (leAt raw 0x1C 4, 0) else if leAt raw 0 4 ≠ e then some (leAt raw 0 4, 0) else none

/-- CX_RING_ERROR (Table 20.14): a failed check stops the ring. -/
def State.ringFault (s : State) (ring expected : Nat) (f : Nat × Nat) : State :=
  s.raiseLim 0x0102 ring [(1, ring), (4, expected), (4, f.1), (1, f.2)]

/-- CX_DB_BAD: a doorbell value out of range is ignored and counted (R433). -/
def State.doorbellBad (s : State) (ring value : Nat) : State :=
  (s.bump Reg.CX_ERR_DB_BAD 1).raiseLim 0x0103 ring [(1, ring), (4, value)]

/-- A record and a frame go into the oldest posted descriptor of queue q, or are dropped and counted (R372, R449). The
Bool tells whether they were delivered. -/
def State.deliver (s : State) (q : Nat) (data : Bytes) : Bool × State :=
  let d := s.fqRxOf q
  let ready := s.flag (Reg.CX_FQ_CTL_RX_EN q) && s.dmaOk && !d.error
  match ready, d.descs with
  | true, desc :: rest =>
    match d.check desc with
    | some f =>
      let s1 := (s.setFqRx q { d with error := true }).ringFault (17 + 2 * q) (seqNext d.cons) f
      (false, s1.count (modCnt (8 + q)) 1)
    | none =>
      let raw := desc.raw.getD []
      let cut := data.take (leAt raw 4 4)
      let hseq := leAt raw 0 4
      let s1 := s.hostWrite (leAt raw 8 8) cut
      let s2 := s1.hostWrite (desc.addr + 4) (leBytes 4 cut.length)
      let s3 := s2.hostWrite (desc.addr + 8) (leBytes 1 (ofBool (decide (cut.length < data.length))))
      let s4 := s3.hostWrite (desc.addr + 0x1C) (leBytes 4 (2 ^ 32 - 1 - hseq))
      (true, (s4.setFqRx q { d with cons := hseq, descs := rest }).coalesce (32 + q))
  | _, _ => (false, s.count (modCnt (8 + q)) 1)

/-- A copy of KIND 0 to 2 is made for queue q (R372). -/
def State.hostCopy (s : State) (q : Nat) (i : CopyInfo) (frame : Bytes) (badFcs : Bool) : Bool × State :=
  let (n, s1) := s.nextSeq (16 + q)
  s1.deliver q (copyRecord i frame.length false badFcs (!s.traceable) n ++ frame)

/-- The transmit descriptor of a launched frame is written back (R448): status and, where one was asked, the stamp. -/
def State.writeBack (s : State) (r : LaunchRef) (status : Nat) (stamp : Option Nat) : State :=
  let t := stamp.getD 0
  let ns := timeNs t
  let sec := ns / 1000000000
  let body := leBytes 2 status ++ leBytes 2 0 ++ leBytes 2 (t / 2 ^ 24) ++ leBytes 2 (sec / 2 ^ 32) ++ leBytes 4 sec
    ++ leBytes 4 (ns % 1000000000) ++ leBytes 4 0 ++ leBytes 4 0 ++ leBytes 4 (2 ^ 32 - 1 - r.hseq)
  if s.dmaOk then (s.hostWrite (r.addr + 4) body).coalesce (24 + r.queue) else s

end Sys2Proof.Machine
end

