-- ==== Sys2Proof/Machine/Buffers.lean ====
section
/-!
DEFINITION. The packet buffer (chapter 15): QUEUE_PLAN, the use of cells, back-pressure (R331 to R333), admission with
push-out (R327 to R330, R334), release (R337), and the discard of a port's queues (R341).
-/

namespace Sys2Proof.Machine

/-! ### QUEUE_PLAN (Table 15.2) -/

def State.fabPool (s : State) : Nat := leAt s.queuePlan 0 4
def State.fabQLimit (s : State) : Nat := leAt s.queuePlan 4 2
def State.pushClasses (s : State) : Nat := byteAt s.queuePlan 6
def State.sXoff (s : State) : Nat := leAt s.queuePlan 8 4
def State.sXon (s : State) : Nat := leAt s.queuePlan 12 4
def State.guar (s : State) (g : Nat) : Nat := leAt s.queuePlan (0x40 + 16 * g) 4
def State.groupMax (s : State) (g : Nat) : Nat := leAt s.queuePlan (0x44 + 16 * g) 4
def State.gXoff (s : State) (g : Nat) : Nat := leAt s.queuePlan (0x48 + 16 * g) 4
def State.gXon (s : State) (g : Nat) : Nat := leAt s.queuePlan (0x4C + 16 * g) 4
/-- PORT_CLASS of a port: its profile in both parts of QUEUE_PLAN. -/
def State.portClass (s : State) (p : Nat) : Nat := leAt s.queuePlan (0x540 + 4 * p) 4 % 16
/-- XOFF, XON and HEADROOM of a port and class. -/
def State.xoff (s : State) (p c : Nat) : Nat := leAt s.queuePlan (0x140 + 64 * s.portClass p + 6 * c) 2
def State.xon (s : State) (p c : Nat) : Nat := leAt s.queuePlan (0x142 + 64 * s.portClass p + 6 * c) 2
def State.headroom (s : State) (p c : Nat) : Nat := leAt s.queuePlan (0x144 + 64 * s.portClass p + 6 * c) 2

/-! ### Use of the buffer (R322, R327, R328) -/

/-- Cells of the buffer. -/
def bufferCells : Nat := 786432

/-- Cells that a frame of L bytes takes. -/
def cellsOf (len : Nat) : Nat := (len + 255) / 256

/-- Cells held by the buffers that a test selects. -/
def State.cellsWhere (s : State) (sel : Owner → Bool) : Nat :=
  (s.tm.bufs.filter (fun e => sel e.2.owner)).foldl (fun n e => n + e.2.cells) 0

/-- Use of a source port and class; of a group; of a fabric egress queue and of the pool; of a session. -/
def State.portUse (s : State) (p c : Nat) : Nat := s.cellsWhere (fun o => o == .port p c)
def State.groupUse (s : State) (g : Nat) : Nat := s.cellsWhere fun o => match o with
  | .port p _ => s.group p == g
  | _ => false
def State.fabUse (s : State) (p c : Nat) : Nat := s.cellsWhere (fun o => o == .fabric p c)
def State.fabUsed (s : State) : Nat := s.cellsWhere fun o => match o with
  | .fabric _ _ => true
  | _ => false
def State.mirUse (s : State) (n : Nat) : Nat := s.cellsWhere (fun o => o == .mirror n)
def State.mirUsed (s : State) : Nat := s.cellsWhere fun o => match o with
  | .mirror _ => true
  | _ => false
def State.cellsUsed (s : State) : Nat := s.cellsWhere (fun _ => true)

/-- Frames that hold a descriptor: queued, or in transmission from the buffer. -/
def State.descUsed (s : State) : Nat :=
  s.tm.frames.length + (s.tm.ports.filter (fun e => (e.2.sending.map Frame.buf).getD 0 != 0)).length

/-- Free cells of the shared pool (R327): what the groups use beyond their reserves comes out of it, and the mirror
copies. -/
def State.sharedFree (s : State) : Nat :=
  let gs := List.range 16
  let reserves := gs.foldl (fun n g => n + s.guar g) 0
  let beyond := gs.foldl (fun n g => n + (s.groupUse g - s.guar g)) 0
  bufferCells - reserves - s.fabPool - s.tm.withdrawn - beyond - s.mirUsed

/-! ### Back-pressure (R331 to R333, R269, R270) -/

/-- May class c be paused at port p? -/
def State.pausable (s : State) (p c : Nat) : Bool :=
  s.flag (Reg.PORT_CTL_PAUSE_TX_EN p)
    || (s.flag (Reg.PORT_CTL_PFC_TX_EN p) && bitAt (s.fld (Reg.PORT_CTL_PFC_CLASSES p)) c)

/-- Planned ports, in the order of PORT_PLAN. -/
def State.plannedPorts (s : State) : List Nat :=
  (List.range ((s.section 3).length / 8)).map (fun i => byteAt (s.section 3) (8 * i))

/-- A threshold with hysteresis: set above or at one side, cleared at the other. -/
def hyster (now on off : Bool) : Bool := if on then true else if off then false else now

/-- Classes of a port over XOFF, after the use as it stands (R331). -/
def State.overNow (s : State) (p : Nat) : Nat :=
  (List.range 8).foldl (fun n c =>
    let u := s.portUse p c
    setBit n c (hyster (bitAt n c) (decide (u > s.xoff p c)) (decide (u ≤ s.xon p c)))) (s.pq p).overXoff

/-- Classes that a port is to pause: its classes over XOFF, or all for its group or the shared pool; PAUSE pauses the
whole port (R331 to R333). -/
def State.pauseWanted (s : State) (p : Nat) : Nat :=
  let all := s.tm.sharedXoff || bitAt s.tm.groupXoff (s.group p)
  let held := if all then 255 else (s.pq p).overXoff
  if s.flag (Reg.PORT_CTL_PAUSE_TX_EN p) then (if held = 0 then 0 else 255)
  else if s.flag (Reg.PORT_CTL_PFC_TX_EN p) then held &&& s.fld (Reg.PORT_CTL_PFC_CLASSES p)
  else 0

/-- A MAC control frame of a port: opcode and parameters, padded to 64 bytes with its FCS. -/
def State.controlFrame (s : State) (p opcode : Nat) (params : Bytes) : Bytes :=
  let sa := beBytes 2 (s.fld (Reg.PORT_SA_HI_SA p)) ++ beBytes 4 (s.fld (Reg.PORT_SA_LO_SA p))
  let b := padTo 60 (beBytes 6 0x0180C2000001 ++ sa ++ beBytes 2 0x8808 ++ beBytes 2 opcode ++ params)
  b ++ leBytes 4 (crc32 b)

/-- Quanta of 512 bit times at a port's speed, in ns. -/
def State.quantaNs (s : State) (p n : Nat) : Nat := n * 5120 / 2 ^ s.speed p / 1000

/-- A PAUSE or PFC frame that gives the classes of `on` QUANTA and those of `off` zero joins the control frames. -/
def State.sendPause (s : State) (p on off : Nat) : State :=
  let q := s.fld (Reg.PORT_PAUSE_QUANTA p)
  let frame := if s.flag (Reg.PORT_CTL_PAUSE_TX_EN p) then
      s.controlFrame p 0x0001 (beBytes 2 (if on = 0 then 0 else q))
    else
      s.controlFrame p 0x0101 (beBytes 2 (on ||| off)
        ++ ((List.range 8).map (fun c => beBytes 2 (if bitAt on c then q else 0))).flatten)
  let x := s.port p
  let s1 := s.setPort p { x with refreshAt := s.clk + s.quantaNs p (s.fld (Reg.PORT_PAUSE_REFRESH p)) }
  let y := s1.pq p
  s1.setPq p { y with ctl := y.ctl ++ [frame] }

/-- The pauses of a port follow its classes, its group and the shared pool (R270, R331). -/
def State.pausePort (s : State) (p : Nat) : State :=
  let x := s.pq p
  let s1 := s.setPq p { x with overXoff := s.overNow p }
  let want := s1.pauseWanted p
  let have_ := (s1.port p).txPausing
  if want = have_ then s1
  else
    let z := s1.port p
    let s2 := s1.setPort p { z with txPausing := want }
    if (s2.port p).linkUp then s2.sendPause p (clearBits want have_) (clearBits have_ want) else s2

/-- Every back-pressure state is brought up to the use as it stands (R331 to R333, R342). -/
def State.pressure (s : State) : State :=
  let groups := (List.range 16).foldl (fun n g =>
    let u := s.groupUse g
    setBit n g (hyster (bitAt n g) (decide (u ≥ s.gXoff g)) (decide (u ≤ s.gXon g)))) s.tm.groupXoff
  let free := s.sharedFree
  let shared := hyster s.tm.sharedXoff (decide (free ≤ s.sXoff)) (decide (free ≥ s.sXon))
  if s.canvas.active.isNone then s
  else
    ({ s with tm := { s.tm with groupXoff := groups, sharedXoff := shared } }).each s.plannedPorts State.pausePort

/-! ### Queueing and release -/

/-- A frame joins its queue. -/
def State.enqueue (s : State) (f : Frame) : State := { s with tm := { s.tm with frames := s.tm.frames ++ [f] } }

/-- Cells of a new buffer; its number. -/
def State.newBuf (s : State) (b : Buf) : Nat × State :=
  (s.tm.nextBuf, { s with tm := { s.tm with bufs := tput s.tm.bufs s.tm.nextBuf b, nextBuf := s.tm.nextBuf + 1 } })

/-- Does a queued frame or one in transmission hold a buffer? -/
def State.bufHeld (s : State) (b : Nat) : Bool :=
  s.tm.frames.any (fun f => f.buf == b) || s.tm.ports.any (fun e => (e.2.sending.map Frame.buf) == some b)

/-- The cells of a buffer are freed once nothing holds them (R322, R337). -/
def State.freeBuf (s : State) (b : Nat) : State :=
  if s.bufHeld b then s else { s with tm := { s.tm with bufs := terase s.tm.bufs b } }

/-- A queued frame leaves its queue, with its cells if it is their last holder. -/
def State.unqueue (s : State) (f : Frame) : State :=
  ({ s with tm := { s.tm with frames := s.tm.frames.erase f } }).freeBuf f.buf

/-! ### Admission (R327 to R330) and push-out (R334) -/

/-- The first check of Table 15.1, from check 2 on, that a charge of n cells fails. -/
def State.admitFail (s : State) (p c n : Nat) : Option Nat :=
  let g := s.group p
  let limit := if s.pausable p c then s.xoff p c + s.headroom p c else s.xoff p c
  let use := s.groupUse g
  if s.descUsed ≥ bufferCells then some 2
  else if s.portUse p c + n > limit then some 3
  else if use + n > s.groupMax g ∨ n > (s.guar g - use) + s.sharedFree then some 4
  else if s.cellsUsed + n > bufferCells - s.tm.withdrawn then some 5
  else none

/-- Admission of a copy that shares its original's cells: it takes a descriptor only. -/
def State.admitShare (s : State) : Option Nat := if s.descUsed ≥ bufferCells then some 2 else none

/-- Victims of a frame of class c in group g, in the order of R334: the lowest eligible class first, youngest first. -/
def State.victims (s : State) (g c : Nat) : List Frame :=
  (List.range c).flatMap (fun k =>
    if bitAt s.pushClasses k then
      (s.tm.frames.filter (fun f => !f.fabric && f.mirror.isNone && f.cls == k && (match f.srcPort with
        | some p => s.group p == g
        | none => false))).reverse
    else [])

/-- Victims are dropped one by one, at most `fuel`, until the test passes; `none` where it never does. -/
def pushOut (test : State → Option Nat) : Nat → List Frame → State → Option State
  | _, [], _ => none
  | 0, _, _ => none
  | fuel + 1, f :: rest, s =>
    let s1 := (s.unqueue f).count (portCnt (f.srcPort.getD 0) (88 + f.cls)) 1
    if (test s1).isNone then some s1 else pushOut test fuel rest s1

/-- The room for a frame of class c at port p under a test: as it stands, after push-out, or the check that fails. -/
def State.makeRoom (s : State) (p c : Nat) (test : State → Option Nat) : Option Nat × State :=
  match test s with
  | none => (none, s)
  | some k =>
    if s.flag Reg.TM_CTL_PUSH_EN ∧ k ≠ 3 then
      match pushOut test 8 (s.victims (s.group p) c) s with
      | some s1 => (none, s1)
      | none => (some k, s)
    else (some k, s)

/-- The drop of a frame at an admission check is counted and told (R329, R331). -/
def State.admitDrop (s : State) (p c check : Nat) : State :=
  let s1 := s.count (portCnt p (40 + check)) 1
  let ignored := bitAt (s1.port p).txPausing c
  let s2 := if check ≥ 3 then
      if s1.pausable p c = false then s1.count (portCnt p 46) 1
      else if ignored then s1.count (portCnt p 47) 1 else s1
    else s1
  let s3 := if check = 3 ∧ s2.pausable p c then s2.raiseLim 0x1404 p [(2, p), (1, c)] else s2
  let x := s3.pq p
  let quiet := match x.lastAdmitDrop with
    | some t => decide (s3.clk ≥ t + 1000000000)
    | none => true
  let s4 := s3.setPq p { x with lastAdmitDrop := some s3.clk }
  if quiet then s4.raise 0x1402 [(2, p), (1, c), (1, check)] else s4

/-- A local destination is configured, ON and up (check 1, R268). -/
def State.portOpen (s : State) (p : Nat) : Bool := s.planned p && decide ((s.port p).fn.state = 1) && (s.port p).linkUp

/-! ### Discards -/

/-- A queued frame is discarded under a counter of its source port; a mirror copy under its session. -/
def State.discard (s : State) (f : Frame) (local_ : Nat) (fabricCnt : Nat) : State :=
  let s1 := s.unqueue f
  match f.mirror, f.srcPort with
  | some n, _ => s1.count (0x2C00020 + 0x40 * n) 1
  | none, some p => s1.count (portCnt p local_) 1
  | none, none => s1.count (portCnt f.dstPort fabricCnt) 1

/-- Is a frame queued toward local port p? -/
def Frame.toward (f : Frame) (p : Nat) : Bool := f.dst == p

/-- Every frame queued toward a port is discarded, and the one in transmission is lost (R341, R358). -/
def State.discardPort (s : State) (p : Nat) : State :=
  let s1 := s.each (s.tm.frames.filter (fun f => f.toward p)) (fun s f => s.discard f 41 53)
  let x := s1.pq p
  let s2 := s1.setPq p { x with sending := none, launch := [], ctl := [] }
  let lost (s : State) (f : Frame) : State :=
    let s' := match f.launch with
      | some r => (s.count (portCnt p 41) 1).writeBack r 2 none
      | none => match f.mirror, f.srcPort with
        | some n, _ => s.count (0x2C00020 + 0x40 * n) 1
        | none, some q => s.count (portCnt q 41) 1
        | none, none => s.count (portCnt p 53) 1
    s'.freeBuf f.buf
  let s3 := match x.sending with
    | some f => lost s2 f
    | none => s2
  s3.each x.launch (fun s l => (s.count (portCnt p 41) 1).writeBack l.ref 2 none)

end Sys2Proof.Machine
end

