-- ==== Sys2Proof/Machine/Fdb.lean ====
section
/-!
DEFINITION. The forwarding table (chapter 14): organisation and lookups, epochs and drain, learning, ageing, and the table
commands.
-/

namespace Sys2Proof.Machine

/-! ### Organisation (R298 to R300, R302) -/

/-- An entry from its two words (Table 14.1). -/
def entryOf (w0 w1 : Nat) : FdbEntry :=
  { mac := w0 % 2 ^ 48, fid := bitsOf w0 59 48, valid := bitAt w0 60, static := bitAt w0 61, locked := bitAt w0 62
    hit := bitAt w0 63, dstModule := w1 % 512, dstPort := bitsOf w1 16 9, kind := bitsOf w1 18 17
    hostQ := bitsOf w1 21 19, ageMark := bitAt w1 22, counter := bitsOf w1 38 23 }

/-- The 16 bytes of an entry. -/
def entryBytes (e : FdbEntry) : Bytes :=
  leBytes 8 (packBits [(0, e.mac), (48, e.fid), (60, ofBool e.valid), (61, ofBool e.static), (62, ofBool e.locked),
      (63, ofBool e.hit)])
    ++ leBytes 8 (packBits [(0, e.dstModule), (9, e.dstPort), (17, e.kind), (19, e.hostQ), (22, ofBool e.ageMark),
      (23, e.counter)])

/-- SEED of a way. -/
def State.seed (s : State) (w : Nat) : Nat := leAt (s.section 11) (4 * w) 4

/-- Position of the candidate slot of a key in a way (R298). -/
def State.candidate (s : State) (fid mac w : Nat) : Nat :=
  let h := (crcRun 0x82F63B78 (BitVec.ofNat 32 (s.seed w)) (beBytes 2 fid ++ beBytes 6 mac) ^^^ 0xFFFFFFFF).toNat
  w * 131072 + h % 131072

/-- The eight candidates of a key. -/
def State.candidates (s : State) (fid mac : Nat) : List Nat := (List.range 8).map (s.candidate fid mac)

/-- First position of the overflow store, and the end of the table. -/
def ovfBase : Nat := 1048576
def fdbSlots : Nat := 1052672

/-- The entry at a position; `none` for an empty slot. -/
def State.slot (s : State) (pos : Nat) : Option FdbEntry := tget? s.fdb.slots pos

/-- Is the entry at a position being removed by a flush (R319)? -/
def State.doomed (s : State) (pos : Nat) : Bool := s.fdb.flushes.any (fun f => f.doomed.contains pos)

/-- The entry of a key with its position, whether or not a flush is removing it. -/
def State.findAny (s : State) (fid mac : Nat) : Option (Nat × FdbEntry) :=
  let ovf := (s.fdb.slots.filter (fun e => decide (e.1 ≥ ovfBase))).map Prod.fst
  (s.candidates fid mac ++ ovf).findSome? (fun p =>
    match s.slot p with
    | some e => if e.fid = fid ∧ e.mac = mac then some (p, e) else none
    | none => none)

/-- The entry of a key, as a lookup finds it. -/
def State.find (s : State) (fid mac : Nat) : Option (Nat × FdbEntry) :=
  (s.findAny fid mac).filter (fun r => !s.doomed r.1)

/-- A candidate slot of a key holds an uncorrectable word (R312). -/
def State.lookupBad (s : State) (fid mac : Nat) : Bool := (s.candidates fid mac).any (fun p => s.fdb.bad.contains p)

/-- The slot that a new entry takes (R299). -/
def State.freeSlot (s : State) (fid mac : Nat) : Option Nat :=
  match (s.candidates fid mac).find? (fun p => (s.slot p).isNone) with
  | some p => some p
  | none => ((List.range 4096).map (fun k => ovfBase + k)).find? (fun p => (s.slot p).isNone)

/-- A change of the table. -/
def State.putSlot (s : State) (pos : Nat) (e : FdbEntry) : State :=
  { s with fdb := { s.fdb with slots := tput s.fdb.slots pos e } }
def State.dropSlot (s : State) (pos : Nat) : State :=
  { s with fdb := { s.fdb with slots := terase s.fdb.slots pos, bad := s.fdb.bad.filter (· != pos) } }

/-- A FID record (R302). -/
def State.fidRec (s : State) (fid : Nat) : FidRec := tget {} s.fdb.fids fid
/-- Is a local port a member of a FID? -/
def State.fidMember (s : State) (fid p : Nat) : Bool := (s.fidRec fid).flood.contains (s.moduleId, p)

/-- The FID table of a cold start: each PVID's FID, with the local ports of that PVID in ascending order (R302). -/
def State.fidDefaults (s : State) : Tbl FidRec :=
  let ports := (List.range 256).filter s.planned
  ports.foldl (fun t p =>
    let f := s.pvid p
    let r := tget {} t f
    tput t f { valid := true, learn := true, uuFlood := true, mcFlood := true, flood := r.flood ++ [(s.moduleId, p)] }) []

/-- Dynamic entries that name a local port (PORT_LEARN_CNT). -/
def State.dynCount (s : State) (p : Nat) : Nat :=
  (s.fdb.slots.filter (fun e => !e.2.static && e.2.kind == 0 && e.2.dstModule == s.moduleId && e.2.dstPort == p)).length

/-- Port already holds LIMIT dynamic entries (R307). -/
def State.atLimit (s : State) (p : Nat) : Bool :=
  let l := s.fld (Reg.PORT_LEARN_LIMIT p)
  decide (l ≠ 0 ∧ s.dynCount p ≥ l)

/-! ### Epochs and drain (R313 to R316) -/

/-- Is a frame in flight from a destination lookup of this module (R314)? -/
def Frame.inFlight (f : Frame) : Bool := !f.fabric && f.mirror.isNone && f.launch.isNone

/-- Epochs of the frames in flight, queued or in transmission. -/
def State.flightEpochs (s : State) : List Nat :=
  ((s.tm.frames ++ s.tm.ports.filterMap (fun e => e.2.sending)).filter Frame.inFlight).map Frame.epoch

/-- FDB_DRAIN (R314). -/
def State.drain (s : State) : Nat :=
  match s.flightEpochs with
  | [] => s.fdb.epoch
  | e :: rest => rest.foldl (fun m x => if newer 32 m x then x else m) e

/-- A change of epoch E has drained. -/
def State.drained (s : State) (e : Nat) : Bool := !newer 32 e s.drain

/-- The epoch that a change committed now carries: advances that wait come first (R313, R315). -/
def State.nextEpoch (s : State) : Nat := (s.fdb.epoch + 1 + s.fdb.waiting.length) % 2 ^ 32

/-- An advance waits while frames of epoch E − 65 536 are in flight (R315). -/
def State.advanceBlocked (s : State) : Bool :=
  s.flightEpochs.contains ((s.fdb.epoch + 1 + (2 ^ 32 - 65536)) % 2 ^ 32)

/-- A completion of a table command with its epoch; FDB_DRAINED is asked for where NOTIFY_DRAIN is set. -/
def State.tableDone (s : State) (tag : Option CmdTag) (before : List (Nat × Nat)) (epoch : Nat) (notify : Bool) : State :=
  let s1 := if notify then { s with fdb := { s.fdb with notify := s.fdb.notify ++ [epoch] } } else s
  s1.completeOpt tag St.ok (before ++ [(4, epoch)])

/-- Waiting advances are made, each with its command's completion, as far as nothing blocks them. -/
def advances : Nat → State → State
  | 0, s => s
  | n + 1, s =>
    match s.fdb.waiting with
    | [] => { s with fdb := { s.fdb with waitSince := none } }
    | w :: rest =>
      if s.advanceBlocked then
        { s with fdb := { s.fdb with waitSince := some (s.fdb.waitSince.getD s.clk) } }
      else
        let e := seqNext s.fdb.epoch
        let s1 := { s with fdb := { s.fdb with epoch := e, waiting := rest, waitSince := none } }
        advances n (s1.tableDone w.tag w.before e w.notify)

/-- A command's change asks for its advance (R313, R315). -/
def State.askAdvance (s : State) (w : EpochWait) : State :=
  let s1 := { s with fdb := { s.fdb with waiting := s.fdb.waiting ++ [w] } }
  advances (s1.fdb.waiting.length + 1) s1

/-- Does any entry name a counter pair? -/
def State.pairNamed (s : State) (j : Nat) : Bool := s.fdb.slots.any (fun e => e.2.counter == j)

/-- A pair that no entry names any longer retires with an epoch (R316). -/
def State.retire (s : State) (j epoch : Nat) : State :=
  if j = 0 ∨ s.pairNamed j then s else { s with fdb := { s.fdb with retiring := tput s.fdb.retiring j epoch } }

/-- A pair is retiring: its change has not drained. -/
def State.retiringPair (s : State) (j : Nat) : Bool :=
  match tget? s.fdb.retiring j with
  | some e => !s.pairNamed j && !s.drained e
  | none => false

/-- Removal of an entry under an epoch. -/
def State.removeSlot (s : State) (pos epoch : Nat) : State :=
  match s.slot pos with
  | some e => (s.dropSlot pos).retire e.counter epoch
  | none => s.dropSlot pos

/-- A change that the hardware makes is carried by the advance of the tick (R313). -/
def State.hwChange (s : State) : State := { s with fdb := { s.fdb with hwChanged := true } }

/-! ### Notifications (R309) -/

/-- FDB_LEARNED, FDB_MOVED and FDB_AGED, at most NOTIFY_MAX × 1 000 in any second. -/
def State.fdbNotify (s : State) (code : Nat) (items : List (Nat × Nat)) : State :=
  if s.flag Reg.FDB_CTL_NOTIFY = false then s
  else
    let fresh := decide (s.clk ≥ s.fdb.notifyAt + 1000000000)
    let n := if fresh then 0 else s.fdb.notifyCount
    if n ≥ 1000 * s.fld Reg.FDB_CTL_NOTIFY_MAX then s.bump Reg.FDB_ERR_NOTIFY_LOST 1
    else
      let s1 := { s with fdb := { s.fdb with
        notifyCount := n + 1, notifyAt := if fresh then s.clk else s.fdb.notifyAt } }
      s1.raise code items

/-- FDB_FULL (R307, R317, R320): source 0 learning, 1 command, 2 re-placement. -/
def State.fdbFull (s : State) (mac fid source : Nat) : State :=
  (s.setFld Reg.FDB_STATUS_FULL_SEEN 1).raiseLim 0x1304 source [(6, mac), (2, fid), (1, source)]

/-! ### Learning (R306, R307) -/

/-- A learn request joins the queue, merged with one of its key; a full queue discards it. -/
def State.askLearn (s : State) (mac fid port : Nat) : State :=
  let r : LearnReq := { mac := mac, fid := fid, port := port, epoch := s.fdb.epoch }
  if s.fdb.learn.any (fun q => q.mac == mac && q.fid == fid) then
    { s with fdb := { s.fdb with learn := s.fdb.learn.map (fun q => if q.mac = mac ∧ q.fid = fid then r else q) } }
  else if s.fdb.learn.length ≥ 4096 then s.bump Reg.FDB_LEARN_CNT_MISSED 1
  else { s with fdb := { s.fdb with learn := s.fdb.learn ++ [r] } }

/-- A request waits for a flush of its destination (R319). -/
def State.learnWaits (s : State) (r : LearnReq) : Bool :=
  s.fdb.flushes.any (fun f => f.dstModule == s.moduleId && f.dstPort == r.port
    && (match f.fid with
      | some x => x == r.fid
      | none => true))

/-- A request whose frame was looked up before a removal that covers its key (R307). -/
def State.learnStale (s : State) (r : LearnReq) (old : Option FdbEntry) : Bool :=
  s.fdb.barriers.any (fun b => newer 32 b.epoch r.epoch
    && (b.key == some (r.fid, r.mac)
      || (match b.dst with
        | some (m, p, f) =>
          (m == s.moduleId && p == r.port || (match old with
            | some e => e.dstModule == m && e.dstPort == p
            | none => false)) && (f.isNone || f == some r.fid)
        | none => false)))

/-- LEARN_LIMITED (R307). -/
def State.learnLimited (s : State) (port : Nat) : State :=
  (s.bump Reg.FDB_LEARN_CNT_LIMITED 1).raiseLim 0x1308 port [(2, port)]

/-- A position leaves the lists of the flushes in progress: a command has given it a new entry. -/
def State.spare (s : State) (pos : Nat) : State :=
  { s with fdb := { s.fdb with
    flushes := s.fdb.flushes.map (fun f => { f with doomed := f.doomed.filter (· != pos) }) } }

/-- One learn request is handled (R307). -/
def State.learnOne (s : State) (r : LearnReq) : State :=
  let old := s.find r.fid r.mac
  if s.learnStale r (old.map Prod.snd) then s.bump Reg.FDB_LEARN_CNT_STALE 1
  else match old with
    | some (pos, e) =>
      if e.static then s
      else if e.dstModule = s.moduleId ∧ e.dstPort = r.port ∧ e.kind = 0 then
        s.putSlot pos { e with hit := true, ageMark := false }
      else if s.atLimit r.port then s.learnLimited r.port
      else
        let s1 := (s.putSlot pos { e with
          kind := 0, dstModule := s.moduleId, dstPort := r.port, hit := true, ageMark := false }).hwChange
        s1.fdbNotify 0x1302 [(6, r.mac), (2, r.fid), (2, e.dstModule), (2, e.dstPort), (2, s.moduleId), (2, r.port)]
    | none =>
      if s.atLimit r.port then s.learnLimited r.port
      else match ((s.findAny r.fid r.mac).map Prod.fst).or (s.freeSlot r.fid r.mac) with
        | some pos =>
          let e : FdbEntry := {
            mac := r.mac, fid := r.fid, valid := true, hit := true
            dstModule := s.moduleId, dstPort := r.port }
          ((s.putSlot pos e).spare pos).fdbNotify 0x1301 [(6, r.mac), (2, r.fid), (2, s.moduleId), (2, r.port)]
        | none => (s.bump Reg.FDB_LEARN_CNT_FULL 1).fdbFull r.mac r.fid 0

/-- The first request that no flush holds is taken from the queue and handled. -/
def State.learnStep (s : State) : State :=
  match s.fdb.learn.find? (fun r => !s.learnWaits r) with
  | none => s
  | some r =>
    let s1 := { s with fdb := { s.fdb with learn := s.fdb.learn.erase r } }
    let s2 := s1.learnOne r
    if s2.fdb.learn = [] then { s2 with fdb := { s2.fdb with barriers := [] } } else s2

/-- Every request that no flush holds, in order: a table command comes after those queued before it (R317). -/
def learnAll : Nat → State → State
  | 0, s => s
  | n + 1, s => learnAll n s.learnStep

/-- The engine's own work: the queued requests, and the entries that R312 takes out. -/
def State.engineRun (s : State) : State :=
  let s1 := learnAll s.fdb.learn.length s
  s1.each s1.fdb.bad (fun s p => (s.removeSlot p s.nextEpoch).hwChange)

/-- LEARN_COMMIT (R307). -/
def execLearnCommit (s : State) : Host.Outcome State Fault Refusal :=
  next (if s.pwr.state ≠ 0 then s else s.learnStep)

/-! ### Ageing (R310 to R312) -/

/-- The sweeper meets an uncorrectable word: the slot is unusable until the engine removes its entry (R312). -/
def State.eccBad (s : State) (pos : Nat) : State :=
  let s1 := s.bump Reg.FDB_ERR_UNCORR 1
  let s2 := { s1 with fdb := { s1.fdb with bad := if s1.fdb.bad.contains pos then s1.fdb.bad else s1.fdb.bad ++ [pos] } }
  let w0 := match s.slot pos with
    | some e => leNat ((entryBytes e).take 8)
    | none => 0
  s2.raiseLim 0x1305 0 [(4, pos), (8, w0)]

/-- Ageing of the entry at a position (R310). -/
def State.ageSlot (s : State) (pos : Nat) : State :=
  match s.slot pos with
  | none => s
  | some e =>
    if e.static ∨ e.kind ≠ 0 ∨ e.dstModule ≠ s.moduleId ∨ s.fdb.sweepS = 0 then s
    else if e.hit then s.putSlot pos { e with hit := false, ageMark := false }
    else if e.ageMark = false then s.putSlot pos { e with ageMark := true }
    else
      ((s.removeSlot pos s.nextEpoch).hwChange).fdbNotify 0x1303
        [(6, e.mac), (2, e.fid), (2, e.dstModule), (2, e.dstPort)]

/-- SWEEPER_VISIT (R310, R311): the next slot is read, scrubbed and aged; a change of SWEEP_S applies from the next pass. -/
def execSweeperVisit (ecc : Option EccFault) (s : State) : Host.Outcome State Fault Refusal :=
  next <|
    if s.pwr.state ≠ 0 then s
    else
      let pos := s.fdb.sweepPos
      let s0 := if pos = 0 then { s with fdb := { s.fdb with sweepS := s.fld Reg.FDB_AGE_SWEEP_S } } else s
      let s1 := match ecc with
        | some .uncorrectable => s0.eccBad pos
        | some .corrected => (s0.bump Reg.FDB_ERR_CORR 1).ageSlot pos
        | none => s0.ageSlot pos
      let last := decide (pos + 1 ≥ fdbSlots)
      { s1 with fdb := { s1.fdb with
        sweepPos := if last then 0 else pos + 1
        passes := if last then (s1.fdb.passes + 1) % 65536 else s1.fdb.passes } }

/-! ### Epoch events -/

/-- EPOCH_TICK (R313): the 1 ms tick carries the hardware changes made in it. -/
def execEpochTick (s : State) : Host.Outcome State Fault Refusal :=
  next <|
    if s.pwr.state ≠ 0 then s
    else
      let s1 := s.waitClk s.fdb.tickAt
      let s2 := { s1 with fdb := { s1.fdb with tickAt := s1.clk + 1000000 } }
      let s3 := s2.each s2.fdb.bad (fun s p => (s.removeSlot p s.nextEpoch).hwChange)
      if s3.fdb.hwChanged then
        let s4 := { s3 with fdb := { s3.fdb with hwChanged := false } }
        s4.askAdvance { tag := none, before := [], notify := false }
      else advances (s3.fdb.waiting.length + 1) s3

/-- CHANGE_DRAINED (R314 to R316): changes that have drained are reported, their pairs become free, advances that
waited are made. -/
def execChangeDrained (s : State) : Host.Outcome State Fault Refusal :=
  next <|
    let s1 := advances (s.fdb.waiting.length + 1) s
    let done := s1.fdb.notify.filter s1.drained
    let s2 := { s1 with fdb := { s1.fdb with
      notify := s1.fdb.notify.filter (fun e => !s1.drained e)
      retiring := s1.fdb.retiring.filter (fun r => s1.retiringPair r.1) } }
    s2.each done (fun s e => s.raise 0x1306 [(4, e)])

/-- EPOCH_STALL (R315): the wait has lasted 1 s. -/
def execEpochStall (s : State) : Host.Outcome State Fault Refusal :=
  next <|
    match s.fdb.waitSince with
    | none => s
    | some t =>
      let s1 := s.waitClk (t + 1000000000)
      if s1.advanceBlocked = false then advances (s1.fdb.waiting.length + 1) s1
      else
        let old := (s1.fdb.epoch + 1 + (2 ^ 32 - 65536)) % 2 ^ 32
        let gone := s1.tm.frames.filter (fun f => f.inFlight && f.epoch == old)
        let s2 := s1.each gone (fun s f => s.discard f 50 50)
        let s3 := s2.raise 0x1307 [(4, old), (4, gone.length)]
        -- frames in transmission end by themselves; the advance is made
        match s3.fdb.waiting with
        | [] => { s3 with fdb := { s3.fdb with waitSince := none } }
        | w :: rest =>
          let e := seqNext s3.fdb.epoch
          let s4 := { s3 with fdb := { s3.fdb with epoch := e, waiting := rest, waitSince := none } }
          let s5 := s4.tableDone w.tag w.before e w.notify
          advances (s5.fdb.waiting.length + 1) s5.pressure

/-- FDB_EPOCH_READ (R314): TABLE_EPOCH, latching FDB_DRAIN. -/
def State.fdbEpochLatch (s : State) : State := { s with readData := BitVec.ofNat 32 s.fdb.epoch, fdb := { s.fdb with drainLatch := s.drain } }

/-- FDB_EPOCH_READ as a host access. -/
def execFdbEpochRead (s : State) : Host.Outcome State Fault Refusal := next (s.hostRead 0 fun s => s.fdbEpochLatch)

/-! ### Commands (R317 to R319) -/

/-- A table command: served in L0, after every learn request queued before it (R317). -/
def State.serveTable (s : State) (tag : CmdTag) (op : Nat) (body : State → State) : State :=
  s.serveL0 tag op fun s => body s.engineRun

/-- FDB_SEARCH. -/
def execFdbSearch (tag : CmdTag) (mac fid outAddr : Nat) (s : State) : Host.Outcome State Fault Refusal :=
  next <| s.serveTable tag 0x1301 fun s =>
    match s.find fid mac with
    | some (pos, e) => (s.outData tag outAddr (entryBytes e)).completeWith tag St.ok [(4, pos)] true
    | none => s.complete tag St.notFound

/-- Does an entry pass a filter of FDB_NEXT? -/
def filterHit (f : FdbFilter) (e : FdbEntry) : Bool :=
  let same (o : Option Nat) (x : Nat) : Bool := match o with
    | some y => x == y
    | none => true
  same f.fid e.fid && same f.module e.dstModule && same f.port e.dstPort
    && (f.kind == 0 || (f.kind == 1 && e.static) || (f.kind == 2 && !e.static))

/-- FDB_NEXT (R318): the matching entries from position CURSOR on; the new CURSOR is the position after the last. -/
def execFdbNext (tag : CmdTag) (cursor count outAddr : Nat) (filter : FdbFilter) (s : State) :
    Host.Outcome State Fault Refusal :=
  next <| s.serveTable tag 0x1302 fun s =>
    if count < 1 ∨ 256 < count ∨ 2 < filter.kind then s.complete tag St.badParam
    else
      let all := s.fdb.slots.filter (fun e => decide (cursor ≤ e.1) && filterHit filter e.2 && !s.doomed e.1)
      let got := all.take count
      let cur := if all.length ≤ count then 0xFFFFFFFF else ((got.getLast?.map Prod.fst).getD 0) + 1
      (s.outData tag outAddr ((got.map (fun e => entryBytes e.2)).flatten)).completeWith tag St.ok
        [(4, got.length), (4, cur)] true

/-- An entry that the host supplies keeps Table 14.1 (R317). -/
def State.entryOk (s : State) (e : FdbEntry) (w1 : Nat) : Bool :=
  decide (w1 / 2 ^ 39 = 0) && e.valid && (!e.locked || e.static) && decide (1 ≤ e.fid ∧ e.fid ≤ 4094)
    && (e.kind == 0 || (e.dstModule == 0 && e.dstPort == 0))
    && !(groupMac e.mac && e.kind == 0 && e.dstModule != s.moduleId)

/-- An entry overwritten or removed by a command makes older learn requests stale (R307). -/
def State.barrier (s : State) (b : Barrier) : State := { s with fdb := { s.fdb with barriers := s.fdb.barriers ++ [b] } }

/-- FDB_INSERT. -/
def execFdbInsert (tag : CmdTag) (w0 w1 : BitVec 64) (replace notify : Bool) (s : State) :
    Host.Outcome State Fault Refusal :=
  next <| s.serveTable tag 0x1303 fun s =>
    let e := { entryOf w0.toNat w1.toNat with hit := false, ageMark := false }
    if s.entryOk e w1.toNat = false then s.complete tag St.fdbInvalid
    else if e.counter ≠ 0 ∧ s.retiringPair e.counter then s.complete tag St.cntRetiring
    else match s.findAny e.fid e.mac with
      | some (pos, old) =>
        if s.doomed pos then
          let s1 := (s.putSlot pos e).spare pos
          (s1.retire old.counter s1.nextEpoch).tableDone (some tag) [(4, pos)] s1.fdb.epoch notify
        else if replace = false then s.complete tag St.exists_
        else
          let ep := s.nextEpoch
          let s1 := (s.putSlot pos e).retire old.counter ep
          let s2 := s1.barrier { epoch := ep, key := some (e.fid, e.mac), dst := none }
          s2.askAdvance { tag := some tag, before := [(4, pos)], notify := notify }
      | none => match s.freeSlot e.fid e.mac with
        | some pos => (s.putSlot pos e).tableDone (some tag) [(4, pos)] s.fdb.epoch notify
        | none => (s.fdbFull e.mac e.fid 1).complete tag St.fdbFull

/-- FDB_DELETE. -/
def execFdbDelete (tag : CmdTag) (mac fid : Nat) (notify : Bool) (s : State) : Host.Outcome State Fault Refusal :=
  next <| s.serveTable tag 0x1304 fun s =>
    match s.find fid mac with
    | none => s.complete tag St.notFound
    | some (pos, _) =>
      let ep := s.nextEpoch
      let s1 := (s.removeSlot pos ep).barrier { epoch := ep, key := some (fid, mac), dst := none }
      s1.askAdvance { tag := some tag, before := [], notify := notify }

/-- Positions that a flush removes. -/
def State.flushSet (s : State) (dstModule dstPort : Nat) (fid : Option Nat) (staticToo : Bool) : List Nat :=
  (s.fdb.slots.filter (fun e => e.2.kind == 0 && e.2.dstModule == dstModule && e.2.dstPort == dstPort
    && (match fid with
      | some f => e.2.fid == f
      | none => true) && (!e.2.static || staticToo) && !s.doomed e.1)).map Prod.fst

/-- A flush takes effect (R319): its entries are absent from now on; frames queued toward a local port that is down, or
whose function stops or is off, are discarded. -/
def State.startFlush (s : State) (dstModule dstPort : Nat) (fid : Option Nat) (staticToo : Bool) (tag : Option CmdTag)
    (notify : Bool) : State :=
  let set := s.flushSet dstModule dstPort fid staticToo
  let ep := s.nextEpoch
  let f : Flush := {
    dstModule := dstModule, dstPort := dstPort, fid := fid, doomed := set, removed := set.length
    tag := tag, notify := notify, epoch := ep }
  let s1 := { s with fdb := { s.fdb with flushes := s.fdb.flushes ++ [f] } }
  let s2 := s1.barrier { epoch := ep, key := none, dst := some (dstModule, dstPort, fid) }
  if dstModule = s.moduleId ∧ s.planned dstPort ∧ s.portOpen dstPort = false then (s2.discardPort dstPort).pressure
  else s2

/-- FDB_FLUSH_BY_PORT. -/
def execFdbFlushByPort (tag : CmdTag) (dstModule dstPort : Nat) (fid : Option Nat) (staticToo notify : Bool) (s : State) :
    Host.Outcome State Fault Refusal :=
  next <| s.serveTable tag 0x1305 fun s =>
    if dstModule > 511 ∨ dstPort > 255 then s.complete tag St.badParam
    else if s.fdb.flushes.length ≥ 4 then s.complete tag St.busy
    else s.startFlush dstModule dstPort fid staticToo (some tag) notify

/-- FLUSH_REMOVAL_DONE (R319): the oldest flush has removed its entries; its change advances the epoch. -/
def execFlushRemovalDone (s : State) : Host.Outcome State Fault Refusal :=
  next <|
    match s.fdb.flushes with
    | [] => s
    | f :: rest =>
      let s1 := { s with fdb := { s.fdb with flushes := rest } }
      let s2 := s1.each f.doomed (fun s p => s.removeSlot p s.nextEpoch)
      let before : List (Nat × Nat) := [(4, f.removed)]
      s2.askAdvance { tag := f.tag, before := before, notify := f.notify }

/-- FID_WRITE (R302). A pair is 4 bytes: module, port. -/
def execFidWrite (tag : CmdTag) (fid flags len : Nat) (pairs : Option Bytes) (s : State) :
    Host.Outcome State Fault Refusal :=
  next <| s.serveTable tag 0x1306 fun s =>
    if fid < 1 ∨ 4094 < fid ∨ 4096 < len ∨ 16 ≤ flags then s.complete tag St.badParam
    else match pairs with
    | none => s.complete tag St.hostDmaError
    | some b =>
      let ws := (chunks 4 len b).map leNat
      let others := (s.fdb.fids.filter (fun e => e.1 != fid)).foldl (fun n e => n + e.2.flood.length) 0
      if ws.any (fun w => w / 512 % 128 != 0 || w / 2 ^ 24 != 0) then s.complete tag St.fdbInvalid
      else if others + len > 65536 then s.complete tag St.floodFull
      else
        let r : FidRec := {
          valid := bitAt flags 0, learn := bitAt flags 1, uuFlood := bitAt flags 2, mcFlood := bitAt flags 3
          flood := ws.map (fun w => (w % 512, bitsOf w 23 16)) }
        let s1 := { s with fdb := { s.fdb with fids := tset {} s.fdb.fids fid r } }
        s1.complete tag St.ok [(4, 65536 - others - len)]

/-- The record that FID_READ copies: FID, flags, list length, then the pairs as FID_WRITE takes them. -/
def fidBytes (fid : Nat) (r : FidRec) : Bytes :=
  leBytes 2 fid ++ leBytes 2 (ofBool r.valid + 2 * ofBool r.learn + 4 * ofBool r.uuFlood + 8 * ofBool r.mcFlood)
    ++ leBytes 4 r.flood.length ++ (r.flood.map (fun x => leBytes 4 (x.1 + 65536 * x.2))).flatten

/-- FID_READ. -/
def execFidRead (tag : CmdTag) (fid outAddr : Nat) (s : State) : Host.Outcome State Fault Refusal :=
  next <| s.serveTable tag 0x1307 fun s =>
    if fid < 1 ∨ 4094 < fid then s.complete tag St.badParam
    else
      let r := s.fidRec fid
      (s.outData tag outAddr (fidBytes fid r)).completeWith tag St.ok [(4, r.flood.length)] true

/-- New seeds: static entries are placed again, dynamic ones are flushed (R320). -/
def State.reseed (s : State) : State :=
  let old := s.fdb.slots
  let s1 := { s with fdb := { s.fdb with slots := [], bad := [], flushes := [] } }
  let s2 := s1.each (old.filter (fun e => e.2.static)) (fun s e =>
    match s.freeSlot e.2.fid e.2.mac with
    | some p => s.putSlot p e.2
    | none => s.fdbFull e.2.mac e.2.fid 2)
  s2.each old (fun s e => s.retire e.2.counter s.nextEpoch)

end Sys2Proof.Machine
end

