-- ==== Sys2Proof/Machine/Mirror.lean ====
section
/-!
DEFINITION. Circuits toward modules (R15), mirror copies (R369 to R371) and samplers (R373).
-/

namespace Sys2Proof.Machine

/-! ### Circuits (R15, R281) -/

/-- A fabric lane can send: it serves and its laser group is on. -/
def State.laneLit (s : State) (i : Nat) : Bool := (s.lane (256 + i)).serving && bitAt s.saf.lsrEn (i / 64)

/-- Has a module a circuit: in some slot of the active Orbit in slotted modes, under the swatch in force in persistent
modes (R15); a lane that does not serve, or has no light, gives none (R29, R281). -/
def State.hasCircuit (s : State) (m : Nat) : Bool :=
  let lit (t : Tbl Nat) : Bool := t.any (fun e => e.2 == m && s.laneLit e.1)
  if bitAt s.orb.barred m then false
  else if s.mode.mode.slotted then
    match s.orb.active with
    | some b => (List.range b.slots).any (fun k => bitAt (b.openModules k) m && lit (s.slotTargets b k))
    | none => false
  else if s.mode.mode.persistent then
    match s.mx.inForce with
    | some n => lit (s.derivedTargets (s.swatch n))
    | none => false
  else false

/-! ### Mirror copies -/

/-- Counter i of a session: 0 MIR_FRAMES, 1 MIR_BYTES, 2 MIR_DROPPED, 3 MIR_TRUNCATED. -/
def mirCnt (n i : Nat) : Nat := 0x2C00000 + 0x40 * n + 0x10 * i

/-- A frame's bytes with a fresh FCS, or a stomped one (R340). -/
def withFcs (body : Bytes) : Bytes := body ++ leBytes 4 (crc32 body)
def withStomp (body : Bytes) : Bytes := body ++ leBytes 4 (2 ^ 32 - 1 - crc32 body)

/-- Is a frame's FCS good? -/
def fcsGood (b : Bytes) : Bool := decide (4 ≤ b.length) && leNat (b.drop (b.length - 4)) == crc32 (b.take (b.length - 4))

/-- A copy that is not admitted (R370): cause 0 cell limit, 1 shared pool, 2 no circuit, 3 host queue. -/
def State.mirrorDrop (s : State) (n cause : Nat) : State :=
  (s.count (mirCnt n 2) 1).raiseLim 0x1502 n [(1, n), (1, cause)]

/-- Why a copy of some cells is not admitted, where it is not (R370). -/
def State.mirrorFail (s : State) (n cells dest : Nat) : Option Nat :=
  if s.mirUse n + cells > s.fld (Reg.MIR_SESS_LIM_CELL_LIMIT n) then some 0
  else if s.sharedFree ≤ s.sXoff ∨ s.descUsed ≥ bufferCells then some 1
  else if dest < 256 ∧ s.portOpen dest = false then some 2
  else if 256 ≤ dest ∧ s.hasCircuit (dest - 256) = false then some 2
  else none

/-- A copy of a frame for a session, taken at a port (R369 to R371). -/
def State.mirrorCopy (s : State) (n : Nat) (info : CopyInfo) (frame : Bytes) (taken : Nat) (bad : Bool) : State :=
  if s.flag (Reg.MIR_SESS_EN n) = false ∨ (bad ∧ s.flag (Reg.MIR_SESS_ERR_EN n) = false) then s
  else
    let (seq, s1) := s.nextSeq n
    let size := 64 * s1.fld (Reg.MIR_SESS_LIM_TRUNC n)
    let cut := decide (size ≠ 0 ∧ frame.length > size)
    let kind := s1.fld (Reg.MIR_SESS_DEST_KIND n)
    let body := if cut then frame.take (size - 4) else frame.take (frame.length - 4)
    let data := if bad ∧ kind ≠ 2 then withStomp body else if cut then withFcs body else frame
    let s2 := (s1.count (mirCnt n 0) 1).count (mirCnt n 1) data.length
    let s3 := if cut then s2.count (mirCnt n 3) 1 else s2
    let i := { info with session := n }
    if kind = 2 then
      let (done, s4) := s3.deliver (s3.fld (Reg.MIR_SESS_HOST_Q n))
        (copyRecord i frame.length cut bad (!s3.traceable) seq ++ data)
      if done then s4 else s4.mirrorDrop n 3
    else
      let port := s3.fld (Reg.MIR_SESS_DEST_PORT n)
      let dest := if kind = 0 then port else 256 + s3.fld (Reg.MIR_SESS_DEST_MODULE n)
      match s3.mirrorFail n (cellsOf data.length) dest with
      | some c => s3.mirrorDrop n c
      | none =>
        let (b, s4) := s3.newBuf { owner := .mirror n, cells := cellsOf data.length }
        let f : Frame := {
          buf := b, srcPort := some taken, remoteSrc := 0, remoteModule := 0, dst := dest, fabric := false
          mirror := some n, dstPort := port, cls := s4.fld (Reg.MIR_SESS_CLASS n), colour := info.colour
          data := data, epoch := info.epoch, counter := 0, hash := info.hash, ts := info.ts.getD 0
          tsValid := info.ts.isSome, ptp := false, launch := none, rule := info.rule, stomped := bad, control := none
          interval := 0 }
        s4.enqueue f

/-! ### Samplers -/

/-- What a start of frame does to a sampler's countdown (R373): whether the frame is selected, and the sampler after it.
A frame that is no candidate passes the selection on. -/
def samplerStep (x : Sampler) (n : Nat) (random candidate : Bool) : Bool × Sampler :=
  if n = 0 then (false, x)
  else if x.count ≠ 0 then (false, { x with count := x.count - 1 })
  else if candidate = false then (false, x)
  else if random then
    let l := Config.lfsrNext x.lfsr
    (true, { x with count := l.toNat % (2 * n - 1), lfsr := l, seq := seqNext x.seq })
  else (true, { x with count := n - 1, seq := seqNext x.seq })

/-- A sample goes to the host: the first 64 × LEN bytes (R373). `dir` is 0 at ingress, 1 at egress. -/
def State.sample (s : State) (p dir : Nat) (info : CopyInfo) (frame : Bytes) (seq : Nat) : State :=
  let size := 64 * s.fld Reg.MIR_SAMPLE_LEN_LEN
  let s1 := s.count (portCnt p (105 + 3 * dir)) 1
  let (done, s2) := s1.deliver (s1.fld (Reg.PORT_SAMPLE_Q p dir))
    (copyRecord info frame.length (decide (frame.length > size)) false (!s1.traceable) seq ++ frame.take size)
  if done then s2 else (s2.count (portCnt p (106 + 3 * dir)) 1).raiseLim 0x1503 p [(2, p)]

/-- SAMPLER_WRITE (R373): a write of N restarts the countdown. -/
def State.samplerSet (s : State) (p : Nat) (tx : Bool) (value : Word) : State :=
  let dir := ofBool tx
  let s1 := s.setRegWord (0x2000E4 + 0x1000 * p + 4 * dir) (value &&& 0x0FFFFFFF)
  let x := s1.pq p
  let n := value.toNat % 2 ^ 24
  if tx then s1.setPq p { x with samplerTx := { x.samplerTx with count := n - 1 } }
  else s1.setPq p { x with samplerRx := { x.samplerRx with count := n - 1 } }

def execSamplerWrite (port : Nat) (tx : Bool) (value : Word) (s : State) : Host.Outcome State Fault Refusal :=
  next <| s.hostAct 0 fun s => (if port < 256 then s.samplerSet port tx value else s)

end Sys2Proof.Machine
end

