-- ==== Sys2Proof/Machine/Gates.lean ====
section
/-!
DEFINITION. Egress gate lists (R355 to R357) and shapers (R353, R354) of a member port.
-/

namespace Sys2Proof.Machine

/-! ### Gate lists -/

/-- CYCLE of a list in units of module time. -/
def gateCycle (l : GateList) : Nat := l.foldl (fun n e => n + e.2) 0 * nsUnit

/-- The entry in force at an offset into the cycle, and how long it still lasts. -/
def gateFind : GateList → Nat → Nat → Nat × Nat
  | [], _, k => (k, 0)
  | e :: rest, off, k =>
    let d := e.2 * nsUnit
    if off < d ∨ rest = [] then (k, d - off) else gateFind rest (off - d) (k + 1)

/-- Entry and end of the schedule of a list taken over at `start`, at the module time t (R355). -/
def gateAt (l : GateList) (start t : Nat) : Nat × Nat :=
  let off := (((t : Int) - (start : Int)) % (gateCycle l : Int)).toNat
  let r := gateFind l off 0
  (r.1, t + r.2)

/-- LIST_GATES: gates of the entry in force; all open with no list (R355). -/
def State.listGates (s : State) (p : Nat) : Nat :=
  let x := s.pq p
  match x.gate with
  | some l => (lget (255, 0) l x.gateEntry).1 % 256
  | none => 255

/-- EFFECTIVE: with the Orbit's gate for the port's class while an Orbit executes in mode 3 or 8 (R148, R355). -/
def State.gates (s : State) (p : Nat) : Nat :=
  let orbit := if s.orb.running && (s.mode.mode == .edgeSlotted || s.mode.mode == .transitSlotted) then
    byteAt s.orb.egrGate (s.portClass p) else 255
  s.listGates p &&& orbit

/-- A list takes over at an instant (R356); an empty one opens every gate. -/
def State.gateTake (s : State) (p start : Nat) : State :=
  let x := s.pq p
  match x.gatePend with
  | none => s
  | some l =>
    let active := if l = [] then none else some l
    let s1 := s.setPq p { x with
      gate := active, gatePend := none, gateArmedAt := none, gateStart := start, gateEntry := 0
      gateBoundary := start + (lget (0, 0) l 0).2 * nsUnit }
    s1.raise 0x1407 [(2, p), (8, toWord start)]

/-- After a step of module time each active list runs its entry on to the next boundary of its schedule; an armed list
that the step passes takes over at the new time (R357). -/
def State.gateRealign (s : State) (amount : Int) : State :=
  s.each s.plannedPorts (fun s p =>
    let x := s.pq p
    let s1 := match x.gate with
      | some l =>
        (s.setPq p { x with gateBoundary := (gateAt l x.gateStart s.time.now).2 }).raise 0x1408
          [(2, p), (8, unsigned 64 (unitsToPs amount))]
      | none => s
    match x.gateArmedAt with
    | some t => if t ≤ s1.time.now then s1.gateTake p s1.time.now else s1
    | none => s1)

/-- Entries of a list as the host gives them, 8 bytes each. -/
def gateEntries (count : Nat) (b : Bytes) : GateList := (chunks 8 count b).map (fun r => (leAt r 0 4, leAt r 4 4))

/-- An entry keeps R355. -/
def gateOk (e : Nat × Nat) : Bool := decide (e.1 < 256 ∧ 100 ≤ e.2 ∧ e.2 ≤ 1000000000)

/-- PORT_GATE_WRITE (R356). -/
def execPortGateWrite (tag : CmdTag) (port count : Nat) (entries : Option Bytes) (at_ : TimeWord) (s : State) :
    Host.Outcome State Fault Refusal :=
  next <| s.serveL0 tag 0x1402 fun s =>
    if count > 64 then s.complete tag St.badParam
    else if s.planned port = false then s.complete tag St.portRange
    else match (if count = 0 then some [] else entries) with
    | none => s.complete tag St.hostDmaError
    | some b =>
      let l := gateEntries count b
      let t := s.fromWord at_
      let x := s.pq port
      if l.all gateOk = false then s.complete tag St.gateInvalid
      else if at_ = 0 ∨ t < s.time.now + 50000 * nsUnit then s.complete tag St.late
      else if x.gateArmedAt.isSome then s.complete tag St.busy
      else
        let s1 := s.setPq port { x with gatePend := some l, gateArmedAt := some t, gateTko := t }
        s1.complete tag St.ok

/-- PORT_GATE_CANCEL (R356). -/
def execPortGateCancel (tag : CmdTag) (port : Nat) (s : State) : Host.Outcome State Fault Refusal :=
  next <| s.serveL0 tag 0x1403 fun s =>
    let x := s.pq port
    if s.planned port = false then s.complete tag St.portRange
    else match x.gateArmedAt with
    | none => s.complete tag St.noPendingGate
    | some t =>
      if t < s.time.now + 5000 * nsUnit then s.complete tag St.late
      else (s.setPq port { x with gatePend := none, gateArmedAt := none }).complete tag St.ok

/-! ### Shapers (R353, R354) -/

/-- RATE and BURST of shaper n, the latter in 1/1024 byte. -/
def State.shapeRate (s : State) (p n : Nat) : Nat := s.fld (Reg.PORT_SHAPE_RATE_RATE p n)
def State.shapeBurst (s : State) (p n : Nat) : Int := s.fld (Reg.PORT_SHAPE_BURST_BURST p n) * 1024

/-- RATE unlimited. -/
def rateUnlimited : Nat := 0xFFFFFFFF

/-- Credit of shaper n at the present clock, with what is carried below one unit. -/
def State.creditNow (s : State) (p n : Nat) : Int × Nat :=
  let x := s.pq p
  let c := lget 0 x.credit n
  let r := s.shapeRate p n
  if r = rateUnlimited then (s.shapeBurst p n, 0)
  else
    let (t, rem) := tokens r (s.clk - lget 0 x.creditAt n) (lget 0 x.creditRem n)
    if c ≥ s.shapeBurst p n then (c, 0) else (min (c + t) (s.shapeBurst p n), rem)

/-- A credit is set, as of now. -/
def State.setCredit (s : State) (p n : Nat) (c : Int) (rem : Nat) : State :=
  let x := s.pq p
  s.setPq p { x with
    credit := lset x.credit n c, creditRem := lset x.creditRem n rem, creditAt := lset x.creditAt n s.clk }

/-- A credit is brought up to now. -/
def State.fillCredit (s : State) (p n : Nat) : State :=
  let c := s.creditNow p n
  s.setCredit p n c.1 c.2

/-- The shapers let a class start: its own credit and the port's are at or above 0. -/
def State.shaperOpen (s : State) (p c : Nat) : Bool :=
  decide ((s.creditNow p c).1 ≥ 0) && decide ((s.creditNow p 8).1 ≥ 0)

/-- A frame of L bytes of a class charges both its shapers L + SHAPE_ADJ. -/
def State.chargeShapers (s : State) (p c len : Nat) : State :=
  let b := ((len : Int) + s.sfld (Reg.PORT_QOS2_SHAPE_ADJ p)) * 1024
  let one (s : State) (n : Nat) : State :=
    if s.shapeRate p n = rateUnlimited then s
    else
      let r := s.creditNow p n
      s.setCredit p n (r.1 - b) r.2
  one (one s c) 8

/-- A write of RATE (R354); a value out of range raises TM_RANGE. -/
def State.setRate (s : State) (p n : Nat) (value : Word) : State :=
  let v := value.toNat
  let addr := 0x200100 + 0x1000 * p + 8 * n
  if 1000000000 < v ∧ v ≠ rateUnlimited then s.raise 0x1406 [(4, addr)]
  else
    let s1 := (s.fillCredit p n).setRegWord addr value
    if v = rateUnlimited then s1.setCredit p n (s1.shapeBurst p n) 0 else s1

/-- A write of BURST (R354): positive credit above it is clipped, debt is never altered. -/
def State.setBurst (s : State) (p n : Nat) (value : Word) : State :=
  let s1 := (s.fillCredit p n).setRegWord (0x200104 + 0x1000 * p + 8 * n) (value &&& 0xFFFFFF)
  let c := lget 0 (s1.pq p).credit n
  let b := s1.shapeBurst p n
  if s1.shapeRate p n = rateUnlimited ∨ c > b ∧ c > 0 then s1.setCredit p n b (lget 0 (s1.pq p).creditRem n) else s1

/-- The clock at which a credit in debt reaches 0; `none` for a rate of 0 or a credit that is not in debt. -/
def State.zeroAt (s : State) (p n : Nat) : Option Nat :=
  let c := lget 0 (s.pq p).credit n
  let r := s.shapeRate p n
  if c ≥ 0 ∨ r = 0 ∨ r = rateUnlimited then none
  else
    let need := c.natAbs * 1000000 - lget 0 (s.pq p).creditRem n
    some (lget 0 (s.pq p).creditAt n + (need + r * 128 - 1) / (r * 128))

end Sys2Proof.Machine
end

