-- ==== Sys2Proof/Machine/Egress.lean ====
section
/-!
DEFINITION. The egress side of a member port: DRR (R352), the choice of the next frame (R351, R335, R358 to R360), the
start and the end of a transmission (R337, R305, R391), pauses received and refreshed (R269, R270).
-/

namespace Sys2Proof.Machine

/-! ### DRR (R352) -/

/-- The queues of a list: how many, the length of each one's head, its eligibility, its quantum. -/
structure DrrView where
  n : Nat
  len : Nat → Option Nat
  elig : Nat → Bool
  quantum : Nat → Nat

/-- Is some queue both eligible and not empty? -/
def DrrView.any (v : DrrView) : Bool := (List.range v.n).any (fun q => v.elig q && (v.len q).isSome)

/-- The procedure of R352. -/
def drrRun (v : DrrView) : Nat → Drr → Option Nat × Drr
  | 0, d => (none, d)
  | fuel + 1, d =>
    let q := d.ptr
    let after := if q + 1 ≥ v.n then 0 else q + 1
    let off := d.turns.filter (· != q)
    match v.len q with
    | none => drrRun v fuel { deficits := tset 0 d.deficits q 0, turns := off, ptr := after }
    | some l =>
      if v.elig q = false then drrRun v fuel { d with turns := off, ptr := after }
      else
        let turn := d.turns.contains q
        let x := tget 0 d.deficits q + (if turn then 0 else (v.quantum q : Int))
        if (l : Int) ≤ x then
          (some q, { d with deficits := tset 0 d.deficits q (x - l), turns := if turn then d.turns else q :: d.turns })
        else drrRun v fuel { deficits := tset 0 d.deficits q x, turns := off, ptr := after }

/-- A pick, where some queue is eligible and not empty; rounds enough for the largest frame at the least quantum. -/
def drrPick (v : DrrView) (d : Drr) : Option Nat × Drr := if v.any then drrRun v 3000 d else (none, d)

/-! ### The queues of a port (R335) and their quanta (R361) -/

/-- Base of a port's scheduling profile. -/
def State.schedBase (s : State) (p : Nat) : Nat := 0x940 + 32 * s.portClass p
def State.spMask (s : State) (p : Nat) : Nat := byteAt s.queuePlan (s.schedBase p)
def State.classQuantum (s : State) (p c : Nat) : Nat := leAt s.queuePlan (s.schedBase p + 8 + 2 * c) 2
/-- Queues 0 to 15 are the VOQs of the ingress groups, 16 is the fabric egress queue. -/
def State.queueQuantum (s : State) (p q : Nat) : Nat :=
  if q < 16 then leAt s.queuePlan (s.schedBase p + 2) 2 else leAt s.queuePlan (s.schedBase p + 4) 2

/-- Ingress group of a queued member frame or mirror copy. -/
def State.groupOf (s : State) (f : Frame) : Nat := s.group (f.srcPort.getD 0)

/-- The head of queue q of class c at port p. -/
def State.queueHead (s : State) (p c q : Nat) : Option Frame :=
  s.tm.frames.find? (fun f => f.dst == p && f.cls == c
    && (if q < 16 then !f.fabric && s.groupOf f == q else f.fabric))

/-- The queue that the inner DRR of a class would choose, with its state after the choice. -/
def State.innerPick (s : State) (p c : Nat) : Option (Nat × Frame) × Drr :=
  let d := tget {} (s.pq p).queues c
  let v : DrrView := {
    n := 17, len := fun q => (s.queueHead p c q).map (fun f => f.data.length)
    elig := fun _ => true, quantum := s.queueQuantum p }
  match drrPick v d with
  | (some q, d1) => ((s.queueHead p c q).map (fun f => (q, f)), d1)
  | (none, d1) => (none, d1)

/-! ### Eligibility -/

/-- Is a class held by a received PAUSE or PFC (R269)? -/
def State.rxPaused (s : State) (p c : Nat) : Bool :=
  match lget none (s.port p).rxPause c with
  | some t => decide (s.clk < t)
  | none => false

/-- Not paused, and its gates open: what also holds for a launched frame. -/
def State.classOpen (s : State) (p c : Nat) : Bool := !s.rxPaused p c && bitAt (s.gates p) c

/-- Line time of a frame of L bytes at a port, with preamble and gap, in ns. -/
def State.lineTime (s : State) (p len : Nat) : Nat :=
  let r := 100 * 2 ^ s.speed p
  ((len + 20) * 8 + r - 1) / r

/-- The transmission would end after a launch that lies ahead (R360). -/
def State.beforeLaunch (s : State) (p len : Nat) : Bool :=
  match (s.pq p).launch with
  | l :: _ => !l.timed || decide (l.t ≤ s.time.now) || decide (s.time.now + s.lineTime p len * nsUnit ≤ l.t)
  | [] => true

/-- Head length of a class, where its chosen frame may start (R351, R352). -/
def State.classLen (s : State) (p c : Nat) : Option Nat := (s.innerPick p c).1.map (fun x => x.2.data.length)

/-- A class is eligible (R335, R353, R360). -/
def State.classElig (s : State) (p c : Nat) : Bool :=
  s.classOpen p c && s.shaperOpen p c && (match s.classLen p c with
    | some l => s.beforeLaunch p l
    | none => true)

/-- The class that starts next, strict priority first, with the class scheduler after the choice (R351). -/
def State.classPick (s : State) (p : Nat) : Option Nat × Drr :=
  let d := (s.pq p).classes
  let mask := s.spMask p
  let ready (c : Nat) : Bool := (s.classLen p c).isSome && s.classElig p c
  match ((List.range 8).reverse).find? (fun c => bitAt mask c && ready c) with
  | some c => (some c, d)
  | none =>
    let v : DrrView := {
      n := 8, len := fun c => if bitAt mask c then none else s.classLen p c
      elig := s.classElig p, quantum := s.classQuantum p }
    drrPick v d

/-! ### Starting a frame -/

/-- Transmit stamp at the plane of the port (R389). -/
def State.txStamp (s : State) (p : Nat) : Nat :=
  ((s.time.now : Int) + psToUnits (4 * s.sfld (Reg.PORT_TS_DLY_TX_DLY p))).toNat

/-- What the record of an egress copy says of a frame. -/
def State.egressInfo (s : State) (p : Nat) (f : Frame) (kind : Nat) : CopyInfo :=
  { kind := kind, fabric := f.fabric, cls := f.cls, colour := f.colour, ts := some (s.txStamp p)
    srcPort := if f.fabric then f.remoteSrc else f.srcPort.getD 0
    dest := p, srcModule := if f.fabric then f.remoteModule else s.moduleId, dstPort := p, rule := f.rule
    epoch := f.epoch, hash := f.hash }

/-- A candidate for egress mirror and sampler: a frame that will be counted in TX_FRAMES, and no mirror copy. -/
def Frame.candidate (f : Frame) : Bool := f.control.isNone && f.mirror.isNone && !f.stomped

/-- A frame starts on a port: the sampler counts it, the egress mirror copies it, the transmission is in progress. -/
def State.startFrame (s : State) (p : Nat) (f : Frame) : State :=
  let x := s.pq p
  let n := s.fld (Reg.PORT_SAMPLE_N p 1)
  let (hit, sm) := samplerStep x.samplerTx n (s.flag (Reg.PORT_SAMPLE_RANDOM p 1)) f.candidate
  let s1 := s.setPq p { x with
    samplerTx := sm, sending := some { f with ts := if f.launch.isSome then s.txStamp p else f.ts }
    sendEnd := s.clk + s.lineTime p f.data.length }
  let s2 := if n ≠ 0 ∧ f.candidate then s1.count (portCnt p 107) 1 else s1
  let s3 := if hit then s2.sample p 1 (s2.egressInfo p f 4) f.data sm.seq else s2
  if s3.flag (Reg.PORT_MIR_TX_EN p) ∧ f.candidate then
    s3.mirrorCopy (s3.fld (Reg.PORT_MIR_TX_SESSION p)) (s3.egressInfo p f 6) f.data p false
  else s3

/-- A frame that the module makes itself, with no place in the buffer. -/
def ownFrame (p cls : Nat) (data : Bytes) (launch : Option LaunchRef) (control : Option Nat) : Frame :=
  { buf := 0, srcPort := none, remoteSrc := 0, remoteModule := 0, dst := p, fabric := false, mirror := none, dstPort := p
    cls := cls, colour := 0, data := data, epoch := 0, counter := 0, hash := 0, ts := 0, tsValid := false, ptp := false
    launch := launch, rule := none, stomped := false, control := control, interval := 0 }

/-- IEEE 1588 timestamp of a module time, rounded to the nearest ns with carry (R391). -/
def ptpStamp (t : Nat) : Bytes :=
  let ns := (t + nsUnit / 2) / nsUnit
  beBytes 6 (ns / 1000000000) ++ beBytes 4 (ns % 1000000000)

/-- The bytes of a string as one's complement words aligned with an offset's parity. -/
def onesSum (even : Bool) : Bytes → Nat
  | [] => 0
  | b :: rest => (if even then 256 * b.toNat else b.toNat) + onesSum (!even) rest

/-- The UDP checksum after the bytes at TS_OFF have changed (R391); 0 means that the frame carries none. -/
def fixChecksum (old : Nat) (even : Bool) (was new : Bytes) : Nat :=
  if old = 0 then 0
  else
    let r := ((65535 - old) + onesSum even new + 65535 * 10 * 256 - onesSum even was) % 65535
    if r = 0 then 65535 else 65535 - r

/-- ONE_STEP: the stamp is written into the frame, the checksum adjusted, the FCS made anew (R391). -/
def oneStep (r : LaunchRef) (stamp : Nat) (frame : Bytes) : Bytes :=
  let body := frame.take (frame.length - 4)
  let new := ptpStamp stamp
  let put (b : Bytes) (off : Nat) (x : Bytes) : Bytes := b.take off ++ x ++ b.drop (off + x.length)
  let b1 := put body r.tsOff new
  let b2 := match r.csumOff with
    | some c =>
      let even := decide ((r.tsOff + c) % 2 = 0)
      put b1 c (beBytes 2 (fixChecksum (beAt body c 2) even (slice body r.tsOff 10) new))
    | none => b1
  withFcs b2

/-- A held frame of a queue enters its launch list once there is room (R448). -/
def State.admitHeld (s : State) (p : Nat) : State :=
  let x := s.pq p
  match s.cx.txHeld.find? (fun e => e.2.1 == p) with
  | some (q, _, l) =>
    if x.launch.length ≥ 64 then s
    else
      let s1 := { s with cx := { s.cx with txHeld := terase s.cx.txHeld q } }
      let l1 := if l.timed then l else { l with t := s.time.now }
      let before := x.launch.takeWhile (fun e => decide (e.t ≤ l1.t))
      s1.setPq p { x with launch := before ++ [l1] ++ x.launch.drop before.length }
  | none => s

/-- Lateness in ns of a frame with a launch time, where it lies more than LATE_TOL in the past (R359). -/
def State.lateBy (s : State) (l : Launch) : Option Nat :=
  let n := (s.time.now - l.t) / nsUnit
  if l.timed ∧ s.time.now > l.t + s.fld Reg.TM_LAUNCH_LATE_TOL * nsUnit then some n else none

/-- A frame is dropped as LAUNCH_LATE (R359). -/
def State.launchLate (s : State) (p : Nat) (l : Launch) (ns : Nat) : State :=
  ((s.count (portCnt p 52) 1).raiseLim 0x1409 p [(2, p), (4, ns)]).writeBack l.ref 1 none

/-- Steps 3 and 4 of R351: the frame that the class and queue schedulers choose starts. -/
def State.kickQueue (s : State) (p : Nat) : State :=
  match s.classPick p with
  | (some c, d) =>
    match s.innerPick p c with
    | (some (_, f), dq) =>
      let x := s.pq p
      let s1 := s.setPq p { x with classes := d, queues := tset {} x.queues c dq }
      let s2 := { s1 with tm := { s1.tm with frames := s1.tm.frames.erase f } }
      (s2.chargeShapers p c f.data.length).startFrame p f
    | (none, _) => s
  | (none, _) => s

/-- The packet engine has stopped: it starts no frame but the control frames of a port (R38). -/
def State.engineStopped (s : State) : Bool := !s.mode.mode.packets && s.mode.drainEnd.isNone

/-- A port that is free takes the first ready of R351. `fuel` bounds the late frames it passes. -/
def kickPort (p : Nat) : Nat → State → State
  | 0, s => s
  | fuel + 1, s =>
    let x := s.pq p
    if s.portOpen p = false ∨ x.sending.isSome then s
    else match x.ctl with
    | c :: rest =>
      let k := if beAt c 14 2 = 0x0101 then 13 else 12
      (s.setPq p { x with ctl := rest }).startFrame p (ownFrame p 0 c none (some k))
    | [] =>
      if s.engineStopped then s
      else match x.launch with
      | l :: rest =>
        if l.t ≤ s.time.now ∧ s.classOpen p l.cls then
          let s1 := (s.setPq p { x with launch := rest }).admitHeld p
          match s1.lateBy l with
          | some ns => kickPort p fuel (s1.launchLate p l ns)
          | none =>
            let data := if l.ref.oneStep then oneStep l.ref (s1.txStamp p) l.frame else l.frame
            (s1.chargeShapers p l.cls data.length).startFrame p (ownFrame p l.cls data (some l.ref) none)
        else s.kickQueue p
      | [] => s.kickQueue p

def State.kick (s : State) (p : Nat) : State := kickPort p 65 s

/-- Ports with something to send. -/
def State.busyPorts (s : State) : List Nat :=
  s.plannedPorts.filter (fun p =>
    let x := s.pq p
    x.sending.isNone && (x.ctl != [] || x.launch != [] || s.tm.frames.any (fun f => f.dst == p)))

/-- Back-pressure follows the use, and every free port takes what is ready; a second pass serves the copies that the
first has made. -/
def State.settle (s : State) : State :=
  let s1 := s.pressure
  let s2 := s1.each s1.busyPorts State.kick
  let s3 := s2.pressure
  s3.each s3.busyPorts State.kick

/-! ### The end of a transmission -/

/-- A frame that leaves on its last byte is counted in its destination entry's pair (R305). -/
def State.countPair (s : State) (f : Frame) : State :=
  if f.counter = 0 then s
  else (s.count (0x2880000 + 0x20 * f.counter) 1).count (0x2880000 + 0x20 * f.counter + 0x10) f.data.length

/-- A fresh cell number; which cells a frame holds is not told by any rule. -/
def State.drawCell (s : State) : Nat × State :=
  (Config.freeNat s.freeCtr % bufferCells, { s with freeCtr := s.freeCtr + 1 })

/-- A cell that fails its test is withdrawn, up to 1 024 and while the shared pool keeps S_XOFF cells (R324). -/
def State.withdrawCell (s : State) (cell : Nat) : State :=
  let reserves := (List.range 16).foldl (fun n g => n + s.guar g) 0
  let pool := bufferCells - reserves - s.fabPool - s.tm.withdrawn
  if s.tm.withdrawn ≥ 1024 ∨ pool < s.sXoff + 1 then s
  else ({ s with tm := { s.tm with withdrawn := s.tm.withdrawn + 1 } }).raise 0x1405 [(4, cell)]

/-- Counters of a frame whose last byte has been sent (Table 17.2). -/
def State.countTx (s : State) (p : Nat) (f : Frame) : State :=
  match f.control with
  | some k => s.count (portCnt p k) 1
  | none =>
    if f.stomped then s.count (portCnt p 8) 1
    else
      let n := f.data.length
      (((s.count (portCnt p 2) 1).count (portCnt p 3) n).count (portCnt p (64 + f.cls)) 1).count (portCnt p (72 + f.cls)) n

/-- How many bytes of a frame precede a faulty cell; no rule tells which cell it is. -/
def State.drawSent (s : State) (len : Nat) : Nat × State :=
  (60 + Config.freeNat s.freeCtr % (len - 63), { s with freeCtr := s.freeCtr + 1 })

/-- A parity failure of a cell that the transmission reads (R323): dropped before the first byte, stomped after it. -/
def State.txParity (s : State) (p : Nat) (f : Frame) (t : TxParity) : Option Frame × State :=
  let (cell, s1) := s.drawCell
  let s2 := (s1.bump Reg.TM_ERR_PAR_READ 1).raise 0x1401 [(4, cell), (1, 1), (1, ofBool t.afterFirst)]
  let s3 := if t.testFails then s2.withdrawCell cell else s2
  if t.afterFirst then
    let (n, s4) := s3.drawSent f.data.length
    (some { f with data := withStomp (f.data.take n), stomped := true }, s4)
  else (none, s3.count (portCnt (f.srcPort.getD p) 48) 1)

/-- The frame in transmission on a port ends (R337). -/
def State.txDone (s : State) (p : Nat) (parity : Option TxParity) : State :=
  let x := s.pq p
  match x.sending with
  | none => s
  | some f0 =>
    let s0 := s.waitClk x.sendEnd
    let (out, s1) := match parity, f0.buf with
      | some t, _ + 1 => s0.txParity p f0 t
      | _, _ => (some f0, s0)
    let x1 := s1.pq p
    let s2 := s1.setPq p { x1 with sending := none }
    let s3 := match out with
      | none => s2
      | some f =>
        let s3 := ((s2.emit (.frame p f.data)).countTx p f).countPair f
        match f.launch with
        | some r => s3.writeBack r 0 (if r.tsReq ∨ r.oneStep then some f.ts else none)
        | none => s3
    s3.freeBuf f0.buf

/-- FRAME_TX_DONE (R337): then the next choice (R351). -/
def execFrameTxDone (port : Nat) (parity : Option TxParity) (s : State) : Host.Outcome State Fault Refusal :=
  next (if (s.pq port).sending.isNone then s else (s.txDone port parity).settle)

/-- LAUNCH_DUE (R358): the head of the launch list becomes due. -/
def execLaunchDue (port : Nat) (s : State) : Host.Outcome State Fault Refusal :=
  next <| match (s.pq port).launch with
    | l :: _ => (s.waitTime l.t).settle
    | [] => s

/-- GATE_TAKEOVER (R356). -/
def execGateTakeover (port : Nat) (s : State) : Host.Outcome State Fault Refusal :=
  next <| match (s.pq port).gateArmedAt with
    | some t => ((s.waitTime t).gateTake port t).settle
    | none => s

/-- GATE_ENTRY_BOUNDARY (R355): the schedule's next entry opens. -/
def execGateEntryBoundary (port : Nat) (s : State) : Host.Outcome State Fault Refusal :=
  next <| match (s.pq port).gate with
    | some l =>
      let s1 := s.waitTime (s.pq port).gateBoundary
      let x := s1.pq port
      let r := gateAt l x.gateStart x.gateBoundary
      (s1.setPq port { x with gateEntry := r.1, gateBoundary := r.2 }).settle
    | none => s

/-- SHAPER_RATE_WRITE and SHAPER_BURST_WRITE (R354). -/
def execShaperRateWrite (port : Nat) (n : Fin 9) (value : Word) (s : State) : Host.Outcome State Fault Refusal :=
  next <| s.hostAct 0 fun s => (if port < 256 then (s.setRate port n value).settle else s)
def execShaperBurstWrite (port : Nat) (n : Fin 9) (value : Word) (s : State) : Host.Outcome State Fault Refusal :=
  next <| s.hostAct 0 fun s => (if port < 256 then (s.setBurst port n value).settle else s)

/-- SHAPER_CREDIT_REACHES_ZERO (R353): a class held by debt may start again. -/
def execShaperCreditReachesZero (port : Nat) (n : Fin 9) (s : State) : Host.Outcome State Fault Refusal :=
  next <| match s.zeroAt port n with
    | some t => ((s.waitClk t).fillCredit port n).settle
    | none => s

/-! ### Received and refreshed pauses (R269, R270) -/

/-- A pause of some classes lasts for quanta; 0 ends it. -/
def State.pauseFor (s : State) (p cls quanta : Nat) : State :=
  let x := s.port p
  let until_ := if quanta = 0 then none else some (s.clk + s.quantaNs p quanta)
  s.setPort p { x with rxPause := lset x.rxPause cls until_ }

/-- A received MAC control frame acts (R269); every one is removed and counted. -/
def State.macControl (s : State) (p : Nat) (frame : Bytes) : State :=
  match beAt frame 14 2 with
  | 0x0001 =>
    let s1 := s.count (portCnt p 9) 1
    if s1.flag (Reg.PORT_CTL_PAUSE_RX_EN p) then
      (s1.each (List.range 8) (fun s c => s.pauseFor p c (beAt frame 16 2))).settle
    else s1
  | 0x0101 =>
    let s1 := s.count (portCnt p 10) 1
    let cls := beAt frame 16 2 &&& s1.fld (Reg.PORT_CTL_PFC_CLASSES p)
    if s1.flag (Reg.PORT_CTL_PFC_RX_EN p) then
      (s1.each (bitList 8 cls) (fun s c => s.pauseFor p c (beAt frame (18 + 2 * c) 2))).settle
    else s1
  | _ => s.count (portCnt p 11) 1

/-- A frame can be received on a port now: its link is up (R36, R268). -/
def State.receives (s : State) (p : Nat) : Bool := s.planned p && (s.port p).linkUp

/-- PAUSE_FRAME_RX and PFC_FRAME_RX (R269). A frame with a bad FCS acts on nothing and is counted. -/
def State.controlRx (s : State) (p opcode : Nat) (frame : Bytes) : State :=
  if s.receives p = false ∨ beAt frame 12 2 ≠ 0x8808 ∨ beAt frame 14 2 ≠ opcode then s
  else if fcsGood frame then s.macControl p frame else s.count (portCnt p 4) 1

def execPauseFrameRx (port : Nat) (frame : Bytes) (s : State) : Host.Outcome State Fault Refusal :=
  next (s.controlRx port 0x0001 frame)
def execPfcFrameRx (port : Nat) (frame : Bytes) (s : State) : Host.Outcome State Fault Refusal :=
  next (s.controlRx port 0x0101 frame)

/-- PAUSE_EXPIRE (R269): the time of a received pause ends. -/
def execPauseExpire (port cls : Nat) (s : State) : Host.Outcome State Fault Refusal :=
  next <| match lget none (s.port port).rxPause cls with
    | some t => ((s.waitClk t).pauseFor port cls 0).settle
    | none => s

/-- PAUSE_REFRESH (R270): while the condition persists the frame is sent again. -/
def execPauseRefresh (port : Nat) (s : State) : Host.Outcome State Fault Refusal :=
  next <|
    let x := s.port port
    if x.txPausing = 0 ∨ x.linkUp = false then s
    else ((s.waitClk x.refreshAt).sendPause port x.txPausing 0).settle

end Sys2Proof.Machine
end

