-- ==== Sys2Proof/Machine/Ingress.lean ====
section
/-!
DEFINITION. What becomes of a member frame (R282): receive, parse, classify, police, lock check, lookups, storm limiters,
class, admission, cut-through, copies and samples.
-/

namespace Sys2Proof.Machine

/-! ### The frame's record through the steps of Table 13.1 -/

/-- What the ingress pipeline knows of a frame. -/
structure Rx where
  port : Nat
  frame : Bytes
  parsed : Parsed
  hash : Nat
  stamp : Nat
  /-- good FCS, within the MTU, received whole -/
  good : Bool
  fid : Nat := 0
  act : Action := {}
  colour : Nat := 0
  cls : Nat := 0
  /-- index of Table 17.2 that counted the drop, 0 for none, and its step of Table 13.1 -/
  cause : Nat := 0
  step : Nat := 0
  /-- destinations of the frame or of its flood copies: destination and DST_PORT -/
  dests : List (Nat × Nat) := []
  flooded : Bool := false
  hostQ : Option Nat := none
  lockQ : Option Nat := none
  counter : Nat := 0
  /-- a flood of rows 9 and 10, on which a storm limiter acts: 0 BC, 1 UU, 2 MC -/
  storm : Option Nat := none
  learn : Bool := false
  /-- frames queued by admission -/
  queued : List Frame := []
  deriving DecidableEq, Repr

/-- The frame is dropped at a step under a counter of its source port. -/
def State.rxDrop (s : State) (x : Rx) (step cause : Nat) : Rx × State :=
  ({ x with cause := cause, step := step }, s.count (portCnt x.port cause) 1)

/-- A step acts on a frame that no earlier step has dropped. -/
def onward (f : Rx → State → Rx × State) (r : Rx × State) : Rx × State := if r.1.cause ≠ 0 then r else f r.1 r.2

/-- Steps 2 and 3 (R286, R289, R293). -/
def rxClassify (x : Rx) (s : State) : Rx × State :=
  let a := s.classify x.parsed x.port x.frame.length
  let s1 := match x.parsed.fail with
    | some c => s.count (portCnt x.port (16 + c)) 1
    | none => s
  let s2 := match a.count, a.rule with
    | true, some i => (s1.count (ruleCnt i) 1).count (ruleCnt i + 0x10) x.frame.length
    | _, _ => s1
  let x1 := { x with act := a }
  if a.drop = false then (x1, s2)
  else if x.parsed.fail.isSome then s2.rxDrop x1 2 24
  else if a.byDefault then s2.rxDrop x1 3 26
  else s2.rxDrop x1 3 25

/-- The initial colour (R345). -/
def State.colour0 (s : State) (p : Nat) (l : PLevel) : Nat :=
  if l.tags = 0 then 0
  else match s.fld (Reg.PORT_QOS_COLOUR_SRC p) with
    | 1 => l.odei
    | 2 => s.fld (Reg.PORT_QOS2_PCP_COLOUR p) / 4 ^ l.opcp % 4
    | _ => 0

/-- Step 4 (R346 to R349). -/
def rxPolice (x : Rx) (s : State) : Rx × State :=
  match x.act.police with
  | none => (x, s)
  | some i =>
    let (c, drop, s1) := s.police i x.frame.length x.colour
    let x1 := { x with colour := c }
    if drop then s1.rxDrop x1 4 27 else (x1, s1)

/-- Step 5 (R294, R308): the lock of the port, and a locked entry that names another destination. -/
def rxLock (x : Rx) (s : State) : Rx × State :=
  let l := x.parsed.outer
  let src := if s.lookupBad x.fid l.sa then none else s.find x.fid l.sa
  let mine (e : FdbEntry) : Bool := e.kind == 0 && e.dstModule == s.moduleId && e.dstPort == x.port
  let locked := match src with
    | some (_, e) => e.locked && mine e
    | none => false
  let away := match src with
    | some (_, e) => e.locked && !mine e
    | none => false
  if (s.flag (Reg.PORT_SEC_LOCK x.port) && !locked) || away then
    let x1 := if s.flag (Reg.PORT_SEC_COPY_VIOL x.port) then
      { x with lockQ := some (s.fld (Reg.PORT_SEC_VIOL_Q x.port)) } else x
    (s.raiseLim 0x1202 x.port [(2, x.port), (6, l.sa), (2, x.fid)]).rxDrop x1 5 28
  else (x, s)

/-- Row 6 of Table 14.2: what the source lookup leads to (Table 14.3), and the drop of OVER_DROP. -/
def rxLearn (x : Rx) (s : State) : Rx × State :=
  let l := x.parsed.outer
  let ask (s : State) : Rx × State :=
    if s.atLimit x.port ∧ s.flag (Reg.PORT_LEARN_OVER_DROP x.port) then
      (s.learnLimited x.port).rxDrop x 6 34
    else ({ x with learn := true }, s)
  match s.find x.fid l.sa with
  | some (pos, e) =>
    if e.kind = 0 ∧ e.dstModule = s.moduleId ∧ e.dstPort = x.port then
      (x, s.putSlot pos { e with hit := true, ageMark := false })
    else if e.static then (x, s.count (portCnt x.port 51) 1)
    else ask s
  | none =>
    if (s.fidRec x.fid).learn ∧ s.flag (Reg.PORT_LEARN_LEARN_EN x.port) then ask s else (x, s)

/-- The flood list of a FID without this module's source port (R303). -/
def State.floodTo (s : State) (fid p : Nat) : List (Nat × Nat) :=
  ((s.fidRec fid).flood.filter (fun d => d != (s.moduleId, p))).map (fun d =>
    if d.1 = s.moduleId then (d.2, d.2) else (256 + d.1, d.2))

/-- Rows 7 to 11 of Table 14.2: the destination lookup. -/
def rxDest (x : Rx) (s : State) : Rx × State :=
  let da := x.parsed.outer.da
  let flood (x : Rx) : Rx := { x with dests := s.floodTo x.fid x.port, flooded := true }
  match s.find x.fid da with
  | some (_, e) =>
    let x1 := { x with counter := e.counter }
    if e.kind = 0 ∧ e.dstModule = s.moduleId ∧ e.dstPort = x.port then s.rxDrop x1 6 35
    else if e.kind = 0 then
      ({ x1 with dests := [(if e.dstModule = s.moduleId then e.dstPort else 256 + e.dstModule, e.dstPort)] }, s)
    else if e.kind = 1 then s.rxDrop x1 6 33
    else if e.kind = 2 then (flood x1, s)
    else ({ x1 with hostQ := some e.hostQ }, s)
  | none =>
    let r := s.fidRec x.fid
    if da = 2 ^ 48 - 1 then ({ flood x with storm := some 0 }, s)
    else if groupMac da then (if r.mcFlood then ({ flood x with storm := some 2 }, s) else s.rxDrop x 6 36)
    else if r.uuFlood then ({ flood x with storm := some 1 }, s)
    else s.rxDrop x 6 36

/-- Step 6 (Table 14.2). -/
def rxLookup (x : Rx) (s : State) : Rx × State :=
  let l := x.parsed.outer
  if x.fid = 0 ∨ x.fid = 4095 ∨ (s.fidRec x.fid).valid = false then s.rxDrop x 6 29
  else if s.fidMember x.fid x.port = false then s.rxDrop x 6 30
  else if groupMac l.sa ∨ l.sa = 0 then s.rxDrop x 6 31
  else if s.lookupBad x.fid l.sa ∨ s.lookupBad x.fid l.da then s.rxDrop x 6 32
  else match s.find x.fid l.sa with
    | some (pos, e) =>
      if e.kind = 1 then (s.putSlot pos { e with hit := true }).rxDrop x 6 33
      else onward rxDest (rxLearn x s)
    | none => onward rxDest (rxLearn x s)

/-- A storm limiter of a port is credited up to now: credit in 10^-6 frame, the clock, its last drop (R295). -/
def State.stormCredit (s : State) (p k : Nat) : Nat × Nat × Option Nat :=
  let t := lget (0, 0, none) (s.port p).storm k
  let us := s.clk / 1000 - t.2.1 / 1000
  (min (t.1 + us * s.fld (Reg.PORT_STORM_RATE p k)) (s.fld (Reg.PORT_STORM_BURST p k) * 1000000), s.clk, t.2.2)

def State.setStorm (s : State) (p k : Nat) (t : Nat × Nat × Option Nat) : State :=
  let x := s.port p
  s.setPort p { x with storm := lset x.storm k t }

/-- Step 7 (R295). -/
def rxStorm (x : Rx) (s : State) : Rx × State :=
  match x.storm with
  | none => (x, s)
  | some k =>
    let rate := s.fld (Reg.PORT_STORM_RATE x.port k)
    if rate = 0xFFFFFF then (x, s)
    else
      let t := s.stormCredit x.port k
      if rate ≠ 0 ∧ t.1 ≥ 1000000 then (x, s.setStorm x.port k (t.1 - 1000000, t.2.1, t.2.2))
      else
        let quiet := match t.2.2 with
          | some d => decide (s.clk ≥ d + 1000000000)
          | none => true
        let s1 := s.setStorm x.port k (t.1, t.2.1, some s.clk)
        (if quiet then s1.raise 0x1203 [(2, x.port), (1, k)] else s1).rxDrop x 7 (38 + k)

/-- STORM_LIMITER_WRITE (R295): a write of RATE or BURST sets the credit to BURST. BURST is 1 to 255. -/
def State.stormWrite (s : State) (port : Nat) (limiter : Fin 3) (value : Word) : State :=
    let addr := 0x200048 + 0x1000 * port + 4 * limiter
    if port ≥ 256 then s
    else if value.toNat / 2 ^ 24 = 0 then s.raise 0x1201 [(4, addr)]
    else
      let s1 := s.setRegWord addr value
      s1.setStorm port limiter (value.toNat / 2 ^ 24 * 1000000, s1.clk, (lget (0, 0, none) (s1.port port).storm limiter).2.2)

/-- STORM_LIMITER_WRITE as a host access. -/
def execStormLimiterWrite (port : Nat) (limiter : Fin 3) (value : Word) (s : State) : Host.Outcome State Fault Refusal := next (s.hostAct 0 fun s => s.stormWrite port limiter value)

/-- Step 8: the class (R344). -/
def rxClass (x : Rx) (s : State) : Rx × State :=
  let l := x.parsed.outer
  let c := match x.act.cls with
    | some c => c
    | none =>
      if l.tags > 0 then s.fld (Reg.PORT_QOS_PCP_CLASS x.port) / 8 ^ l.opcp % 8
      else s.fld (Reg.PORT_QOS_UNTAGGED_CLASS x.port)
  ({ x with cls := c }, if x.good then s.count (portCnt x.port (80 + c)) 1 else s)

/-! ### Step 9 -/

/-- An IEEE 1588 event message (R390). -/
def ptpEvent (x : Rx) : Bool :=
  let l := x.parsed.outer
  let low (o : Nat) : Bool := decide (byteAt x.frame o % 16 ≤ 3)
  (l.etype == 0x88F7 && low l.l2end)
    || (l.proto == 17 && l.l4dst == 319 && !l.nonfirst && (match l.udpEnd with
      | some o => low o
      | none => false))

/-- The queued frame of one destination. -/
def rxFrame (x : Rx) (s : State) (buf : Nat) (d : Nat × Nat) : Frame :=
  { buf := buf, srcPort := some x.port, remoteSrc := x.port, remoteModule := s.moduleId, dst := d.1, fabric := false
    mirror := none, dstPort := d.2, cls := x.cls, colour := x.colour, data := x.frame, epoch := s.fdb.epoch
    counter := x.counter, hash := x.hash, ts := x.stamp, tsValid := true, ptp := ptpEvent x, launch := none
    rule := x.act.rule, stomped := false, control := none, interval := 0 }

/-- Pair counters of a source port and destination (R368). -/
def pairCnt (p d : Nat) : Nat := 0x2000000 + 0x20 * (768 * p + d)

/-- One copy of the frame is admitted or dropped (R15, R329): the buffer of the copies admitted so far, if any. -/
def rxAdmit (r : Rx × State) (d : Nat × Nat) : Rx × State :=
  let (x, s) := r
  let lose (s : State) (cause : Nat) : Rx × State :=
    (if x.flooded then x else { x with cause := cause, step := 9 }, s)
  if d.1 < 256 ∧ s.portOpen d.1 = false then lose (s.admitDrop x.port x.cls 1) 41
  else if 256 ≤ d.1 ∧ s.hasCircuit (d.1 - 256) = false then lose (s.count (portCnt x.port 37) 1) 37
  else
    let n := cellsOf x.frame.length
    let test := match x.queued with
      | [] => fun s : State => s.admitFail x.port x.cls n
      | _ :: _ => State.admitShare
    match s.makeRoom x.port x.cls test with
    | (some k, s1) => lose (s1.admitDrop x.port x.cls k) (40 + k)
    | (none, s1) =>
      let (b, s2) := match x.queued with
        | f :: _ => (f.buf, s1)
        | [] => s1.newBuf { owner := .port x.port x.cls, cells := n }
      let f := rxFrame x s2 b d
      let s3 := s2.enqueue f
      ({ x with queued := x.queued ++ [f] },
        (s3.count (pairCnt x.port d.1) 1).count (pairCnt x.port d.1 + 0x10) x.frame.length)

/-- Admission of every copy in list order (R303). -/
def rxQueue (x : Rx) (s : State) : Rx × State :=
  let r := x.dests.foldl rxAdmit (x, s)
  r

/-! ### Cut-through (R339, R340) -/

/-- EXPRESS_PORTS names a port. -/
def State.express (s : State) (p : Nat) : Bool := (s.section 13).any (fun b => b.toNat == p)

/-- Is the frame just admitted cut through (R339, R360)? -/
def State.cutsThrough (s : State) (x : Rx) : Option Frame :=
  match x.dests, x.queued with
  | [d], [f] =>
    let q := s.pq d.1
    let ahead := match q.launch with
      | l :: _ => l.timed && decide (l.t > s.time.now)
      | [] => false
    if d.1 < 256 ∧ s.flag Reg.TM_CTL_CT_EN ∧ x.flooded = false ∧ s.express x.port ∧ s.express d.1
        ∧ s.speed d.1 ≤ s.speed x.port ∧ q.sending.isNone
        ∧ (s.tm.frames.filter (fun g => g.dst == d.1)).length = 1 ∧ ahead = false
        ∧ s.classOpen d.1 x.cls ∧ s.shaperOpen d.1 x.cls then some f
    else none
  | _, _ => none

/-- How a receive can end badly (R338, R340), in the order in which one is named. -/
inductive RxEnd where
  | good | runt | oversize | fcs | parity
  deriving DecidableEq, Repr

/-- Ingress counter of a bad end. -/
def RxEnd.counter : RxEnd → Nat
  | .good => 0
  | .runt => 6
  | .oversize => 5
  | .fcs => 4
  | .parity => 7

/-- The bytes that a cut-through frame sends where its receive ends badly (R340). -/
def State.stompedData (s : State) (x : Rx) (e : RxEnd) : Bytes × State :=
  match e with
  | .good => (x.frame, s)
  | .fcs => (withStomp (x.frame.take (x.frame.length - 4)), s)
  | .oversize => (withStomp (x.frame.take (s.mtu x.port - 4)), s)
  | .runt => (withStomp x.frame, s)
  | .parity =>
    let (n, s1) := s.drawSent x.frame.length
    (withStomp (x.frame.take n), s1)

/-- A parity error on a cell write (R323): told and counted. -/
def State.parityWrite (s : State) (stomped : Bool) : State :=
  let (cell, s1) := s.drawCell
  (s1.bump Reg.TM_ERR_PAR_WRITE 1).raise 0x1401 [(4, cell), (1, 0), (1, ofBool stomped)]

/-- The frame leaves its queue for the wire at once. -/
def State.cutStart (s : State) (x : Rx) (f : Frame) (e : RxEnd) : State :=
  let s1 := if e = .parity then s.parityWrite true else s
  let (data, s2) := s1.stompedData x e
  let s3 := { s2 with tm := { s2.tm with frames := s2.tm.frames.erase f } }
  (s3.chargeShapers f.dst f.cls x.frame.length).startFrame f.dst { f with data := data, stomped := e != .good }

/-- What admission leaves of the frame: cut through, waiting, or discarded where its receive ended badly (R338). -/
def rxForward (e : RxEnd) (x : Rx) (s : State) : Rx × State :=
  match s.cutsThrough x with
  | some f =>
    let s1 := s.cutStart x f e
    (x, if e = .good then s1 else s1.count (portCnt x.port e.counter) 1)
  | none =>
    match e with
    | .good => (x, s)
    | .parity =>
      let s1 := (s.each x.queued (fun s f => s.unqueue f)).parityWrite false
      ({ x with cause := if x.cause = 0 then 48 else x.cause }, s1.count (portCnt x.port 48) 1)
    | bad => (x, (s.each x.queued (fun s f => s.unqueue f)).count (portCnt x.port bad.counter) 1)

/-! ### Copies (R282, R369, R372) -/

/-- The record of an ingress copy, completed after step 9. -/
def rxInfo (x : Rx) (s : State) (kind : Nat) : CopyInfo :=
  { kind := kind, cls := x.cls, colour := x.colour, ts := some x.stamp, srcPort := x.port
    dest := if x.flooded then 0x3FE else match x.dests with
      | d :: _ => d.1
      | [] => 0x3FF
    srcModule := s.moduleId, dropCause := x.cause
    dstPort := if x.flooded then 0 else match x.dests with
      | d :: _ => d.2
      | [] => 0
    rule := x.act.rule, epoch := s.fdb.epoch % 65536, hash := x.hash }

/-- Copies to the host: rule or default copy, lock violation, FDB KIND 3. -/
def rxHost (x : Rx) (s : State) : State :=
  let s1 := match x.act.copy with
    | some q => (s.hostCopy q (rxInfo x s 0) x.frame (!x.good)).2
    | none => s
  let s2 := match x.lockQ with
    | some q => (s1.hostCopy q (rxInfo x s1 2) x.frame (!x.good)).2
    | none => s1
  match x.hostQ with
  | some q =>
    if x.cause = 0 ∧ x.good then
      let (done, s3) := s2.hostCopy q (rxInfo x s2 1) x.frame false
      if done then
        let s4 := s3.count (portCnt x.port 54) 1
        if x.counter = 0 then s4
        else (s4.count (0x2880000 + 0x20 * x.counter) 1).count (0x2880000 + 0x20 * x.counter + 0x10) x.frame.length
      else s3
    else s2
  | none => s2

/-- Mirror copies of the three ingress kinds of source (R369). -/
def rxMirror (e : RxEnd) (x : Rx) (s : State) : State :=
  let bad := !x.good
  let s1 := match x.act.mirror with
    | some n => s.mirrorCopy n (rxInfo x s 5) x.frame x.port bad
    | none => s
  let s2 := if s1.flag (Reg.PORT_MIR_RX_EN x.port) ∧ (x.good ∨ e = .fcs) then
      s1.mirrorCopy (s1.fld (Reg.PORT_MIR_RX_SESSION x.port)) (rxInfo x s1 5) x.frame x.port bad
    else s1
  if s2.flag Reg.MIR_DROP_EN ∧ 2 ≤ x.step ∧ bitAt (s2.fld Reg.MIR_DROP_STEPS) (x.step - 2) then
    s2.mirrorCopy (s2.fld Reg.MIR_DROP_SESSION) (rxInfo x s2 7) x.frame x.port bad
  else s2

/-! ### The whole -/

/-- The packet engine takes member frames: it runs in the mode, and no stop of R38 is in progress. -/
def State.engineOn (s : State) : Bool := s.mode.mode.packets && s.mode.drainEnd.isNone

/-- Receive stamp at the plane of the port (R389). -/
def State.rxStamp (s : State) (p : Nat) : Nat :=
  ((s.time.now : Int) - psToUnits (4 * s.sfld (Reg.PORT_TS_DLY_RX_DLY p))).toNat

/-- How the receive of a frame ends. -/
def State.rxEnd (s : State) (p : Nat) (frame : Bytes) (u : RxFault) : RxEnd :=
  if u.cut ∨ frame.length < 64 then .runt
  else if frame.length > s.mtu p then .oversize
  else if fcsGood frame = false then .fcs
  else if u.parity then .parity
  else .good

/-- Codewords and symbols of the port's first lane (Table 17.3). -/
def State.fecCounts (s : State) (p : Nat) (u : RxFault) : State :=
  let l := s.firstLane p
  ((s.count (laneCnt l 1) u.corrected).count (laneCnt l 2) u.uncorrectable).count (laneCnt l 3) u.symbols

/-- Counters of a frame received with good FCS within the MTU. -/
def State.rxCount (s : State) (p : Nat) (frame : Bytes) : State :=
  let s1 := (s.count (portCnt p 0) 1).count (portCnt p 1) frame.length
  let da := beAt frame 0 6
  if da = 2 ^ 48 - 1 then s1.count (portCnt p 14) 1
  else if groupMac da then s1.count (portCnt p 15) 1 else s1

/-- The start of a frame at the ingress sampler (R373). -/
def State.rxSampler (s : State) (p : Nat) (candidate : Bool) : Bool × State :=
  let x := s.pq p
  let n := s.fld (Reg.PORT_SAMPLE_N p 0)
  let (hit, sm) := samplerStep x.samplerRx n (s.flag (Reg.PORT_SAMPLE_RANDOM p 0)) candidate
  let s1 := s.setPq p { x with samplerRx := sm }
  (hit, if n ≠ 0 ∧ candidate then s1.count (portCnt p 104) 1 else s1)

/-- A frame's course from classification to its queues, in the order of Table 13.1 (R282). -/
def rxCourse (x : Rx) (s : State) : Rx × State :=
  onward rxQueue (onward rxClass (onward rxStorm (onward rxLookup (onward rxLock (onward rxPolice (rxClassify x s))))))

/-- What follows the course: the learn request of a good frame (a bad one's is discarded, R338), the host's copies and the
mirror's. -/
def rxAfter (u : Rx × State) (e : RxEnd) (p : Nat) : Rx × State :=
  let s1 := if u.1.learn ∧ e = .good then u.2.askLearn u.1.parsed.outer.sa u.1.fid p else u.2
  (u.1, rxMirror e u.1 (rxHost u.1 s1))

/-- Steps 2 to 9 and what follows admission, with copies. -/
def State.rxFrameIn (s : State) (p : Nat) (frame : Bytes) (e : RxEnd) : Rx × State :=
  let r := s.parse frame
  let l := r.outer
  let x : Rx := {
    port := p, frame := frame, parsed := r, hash := s.flowHash r p, stamp := s.rxStamp p
    good := e == .good || e == .parity
    fid := if l.tags > 0 ∧ l.ovid ≠ 0 then l.ovid else s.pvid p
    colour := s.colour0 p l }
  let t := rxCourse x s
  rxAfter (rxForward e t.1 t.2) e p

/-- MEMBER_FRAME_RX (R282). -/
def execMemberFrameRx (port : Nat) (frame : Bytes) (upset : RxFault) (s : State) : Host.Outcome State Fault Refusal :=
  next <|
    if s.receives port = false then s
    else
      let s0 := s.fecCounts port upset
      let e := s0.rxEnd port frame upset
      let counted := e == .good || e == .parity
      if beAt frame 12 2 = 0x8808 then
        let s1 := (s0.rxSampler port false).2
        if counted then s1.macControl port frame else s1.count (portCnt port e.counter) 1
      else
        let (hit, s1) := s0.rxSampler port counted
        let s2 := if counted then s1.rxCount port frame else s1
        if s2.engineOn = false then
          (if counted then s2 else s2.count (portCnt port e.counter) 1).count (portCnt port 49) 1
        else
          let (x, s3) := s2.rxFrameIn port frame e
          let s4 := if hit then s3.sample port 0 (rxInfo x s3 3) frame (s3.pq port).samplerRx.seq else s3
          s4.settle

end Sys2Proof.Machine
end

