-- ==== Sys2Proof/Machine/FrameDma.lean ====
section
/-!
DEFINITION. The host's side of the frame DMA queues (R447 to R449): doorbells, and transmit descriptors on their way to
the launch lists.
-/

namespace Sys2Proof.Machine

/-- A doorbell of one direction: the value and the descriptors from CONS + 1 up to it; `none` where it is out of range. -/
def FqDir.ring (d : FqDir) (value : Nat) (descs : List Descriptor) : Option FqDir :=
  let n := seqDiff value d.cons
  if n > 1024 then none else some { d with db := value, descs := descs.take n }

/-- FQ_RX_DOORBELL (R449): receive descriptors are posted. -/
def execFqRxDoorbell (q : Fin 8) (value : Word) (descs : List Descriptor) (s : State) :
    Host.Outcome State Fault Refusal :=
  next <| s.hostAct 0 fun s => match (s.fqRxOf q).ring value.toNat descs with
    | some d => s.setFqRx q d
    | none => s.doorbellBad (17 + 2 * q) value.toNat

/-- FQ_TX_DOORBELL (R447): transmit descriptors are made available. -/
def execFqTxDoorbell (q : Fin 8) (value : Word) (descs : List Descriptor) (s : State) :
    Host.Outcome State Fault Refusal :=
  next <| s.hostAct 0 fun s => match (s.fqTxOf q).ring value.toNat descs with
    | some d => s.setFqTx q d
    | none => s.doorbellBad (16 + 2 * q) value.toNat

/-- A transmit descriptor breaks R448. -/
def State.badTx (s : State) (raw : Bytes) : Bool :=
  let len := leAt raw 4 2
  let w := byteAt raw 7
  let p := byteAt raw 6
  decide (len / 2 ^ 14 ≠ 0) || bitAt w 7 || !s.planned p || decide (len < 64) || decide (len > s.mtu p)
    || (bitAt w 4 && decide (leAt raw 0x18 2 + 10 > len - 4)) || (bitAt w 6 && decide (leAt raw 0x1A 2 + 2 > len - 4))

/-- What the module keeps of a transmit descriptor. -/
def launchRef (q addr : Nat) (raw : Bytes) : LaunchRef :=
  let w := byteAt raw 7
  { queue := q, hseq := leAt raw 0 4, addr := addr, tsReq := bitAt w 3, oneStep := bitAt w 4, tsOff := leAt raw 0x18 2
    csumOff := if bitAt w 6 then some (leAt raw 0x1A 2) else none }

/-- A frame enters its port's launch list, or holds its queue while the list is full (R358, R448); one that comes too
late is dropped (R359). -/
def State.launchIn (s : State) (p q : Nat) (l : Launch) : State :=
  match s.lateBy l with
  | some ns => s.launchLate p l ns
  | none => { s with cx := { s.cx with txHeld := tput s.cx.txHeld q (p, l) } }.admitHeld p

/-- One transmit descriptor with the bytes that its buffer holds (R448). -/
def State.txDescriptor (s : State) (q addr : Nat) (raw : Bytes) (frame : Option Bytes) : State :=
  let r := launchRef q addr raw
  let p := byteAt raw 6
  if s.badTx raw then s.writeBack r 3 none
  else match frame with
  | none => s.writeBack r 4 none
  | some b =>
    if s.portOpen p = false then (s.count (portCnt p 41) 1).writeBack r 2 none
    else
      let timed := bitAt (byteAt raw 7) 5
      let t := if timed then s.fromWord (BitVec.ofNat 64 (leAt raw 0x10 8)) else s.time.now
      let data := withFcs (padTo (leAt raw 4 2 - 4) b)
      (s.launchIn p q { t := t, timed := timed, cls := byteAt raw 7 % 8, frame := data, ref := r }).settle

/-- TX_DESCRIPTOR (R448): the next descriptor of a queue is taken, where its direction is enabled, nothing holds it, and
the packet engine runs. -/
def execTxDescriptor (q : Fin 8) (frame : Option Bytes) (s : State) : Host.Outcome State Fault Refusal :=
  next <|
    let d := s.fqTxOf q
    let ready := s.flag (Reg.CX_FQ_CTL_TX_EN q) && s.dmaOk && !d.error && s.engineOn && (tget? s.cx.txHeld q).isNone
    match ready, d.descs with
    | true, desc :: rest =>
      match d.check desc with
      | some f => (s.setFqTx q { d with error := true }).ringFault (16 + 2 * q) (seqNext d.cons) f
      | none => (s.setFqTx q { d with cons := seqNext d.cons, descs := rest }).txDescriptor q desc.addr
          (desc.raw.getD []) frame
    | _, _ => s

end Sys2Proof.Machine
end

