-- ==== Sys2Proof/Machine/ConjBase.lean ====
section
/-!
DEFINITION. What the Ikile agent sends (R402, R416), the Orbit's pending bank as conjunctions and modes change it (R153,
R420), and the end of a conjunction at its leader (R417, R421).
-/

namespace Sys2Proof.Machine

/-! ### Records and floods -/

def State.iklPort (s : State) (n : Nat) : IklPort := lget {} s.ikl.ports n
def State.setIklPort (s : State) (n : Nat) (p : IklPort) : State :=
  { s with ikl := { s.ikl with ports := lset s.ikl.ports n p } }

/-- Numbers of the ports that are up. -/
def State.upPorts (s : State) : List Nat := (List.range 8).filter (fun n => (s.iklPort n).state == 2)

/-- A message record of R402 with its CRC. -/
def iklRecord (type seq : Nat) (body : Bytes) : Bytes :=
  let h := leBytes 1 type ++ [0] ++ leBytes 2 body.length ++ leBytes 4 seq ++ body
  h ++ leBytes 4 (crc32c h)

/-- A record leaves on a port, where it is up. -/
def State.sendIkl (s : State) (n type : Nat) (body : Bytes) : State :=
  let p := s.iklPort n
  if p.state ≠ 2 then s
  else
    let seq := seqNext p.txSeq
    let s1 := s.setIklPort n { p with txSeq := seq }
    (s1.emit (.ikile n (iklRecord type seq body))).count (iklCnt n 0) 1

/-- A body leaves on every up port but one (8 for none). -/
def State.flood (s : State) (type except : Nat) (body : Bytes) : State :=
  s.each (s.upPorts.filter (· != except)) (fun s n => s.sendIkl n type body)

/-- A conjunction message (Table 19.3). -/
structure ConjMsg where
  kind : Nat
  reason : Nat := 0
  origin : Nat
  id : Nat
  orbit : Nat := 0
  digest : Bytes := []
  epoch : Nat := 0
  /-- T, a time word -/
  t : Nat := 0
  leader : Nat := 0
  voters : Nat := 0
  target : Nat := 0
  deriving DecidableEq, Repr

/-- The 64 bytes of a conjunction message. -/
def ConjMsg.bytes (m : ConjMsg) : Bytes :=
  leBytes 1 m.kind ++ leBytes 1 m.reason ++ leBytes 2 m.origin ++ leBytes 4 m.id ++ leBytes 4 m.orbit
    ++ padTo 16 m.digest ++ leBytes 4 m.epoch ++ leBytes 8 m.t ++ leBytes 2 m.leader ++ leBytes 2 m.voters
    ++ leBytes 2 m.target ++ zeros 18

/-- The message of a body. -/
def ConjMsg.read (b : Bytes) : ConjMsg :=
  { kind := byteAt b 0, reason := byteAt b 1, origin := leAt b 2 2 % 512, id := leAt b 4 4, orbit := leAt b 8 4,
    digest := slice b 0x0C 16, epoch := leAt b 0x1C 4, t := leAt b 0x20 8, leader := leAt b 0x28 2 % 512,
    voters := leAt b 0x2A 2, target := leAt b 0x2C 2 % 512 }

/-- A message of this module about a conjunction, with the digest of the Orbit in its pending bank; `t` is module time. -/
def State.conjMsg (s : State) (kind reason id orbit epoch t leader : Nat) : ConjMsg :=
  let d := (s.orb.pendBank.map OrbitBank.digest).getD []
  {
    kind := kind
    reason := reason
    origin := s.moduleId
    id := id
    orbit := orbit
    digest := d
    epoch := epoch
    t := toWord t
    leader := leader }

/-- A conjunction message leaves on every up port but one, and again 20 µs later (R416). -/
def State.floodConj (s : State) (except : Nat) (body : Bytes) : State :=
  let s1 := s.flood 3 except body
  { s1 with ikl := { s1.ikl with repeats := s1.ikl.repeats ++ [(s1.clk + 20000, except, body)] } }

/-- A copy of a message met less than 1 ms ago is a duplicate (R416). -/
def State.conjSeen (s : State) (m : ConjMsg) : Bool :=
  s.ikl.seen.any (fun e => decide (s.clk < e.1 + 1000000) && e.2 == (m.origin, m.kind, m.id))

/-- A message is met. -/
def State.meetConj (s : State) (m : ConjMsg) : State :=
  let fresh := s.ikl.seen.filter (fun e => decide (s.clk < e.1 + 1000000))
  { s with ikl := { s.ikl with seen := fresh ++ [(s.clk, m.origin, m.kind, m.id)] } }

/-- The module's own message is flooded; a copy that returns is a duplicate. -/
def State.sendConj (s : State) (m : ConjMsg) : State := (s.meetConj m).floodConj 8 m.bytes

/-! ### Pending SET_MODE and pending Orbit (R39, R152, R153) -/

/-- A SET_MODE that waits ends with a status, and the mode stays. -/
def State.endPendingMode (s : State) (status : Nat) : State :=
  match s.mode.pend with
  | some p => ({ s with mode := { s.mode with pend := none } }).completeOpt p.tag status
  | none => s

/-- A SET_MODE that awaits the pending Orbit's takeover ends as ABORTED (R39). -/
def State.abortTakeoverWait (s : State) : State :=
  match s.mode.pend with
  | some p => if p.wait = .takeover then s.endPendingMode St.aborted else s
  | none => s

/-- The pending Orbit is disarmed and stays loaded; its prepare timeout starts again in full. -/
def State.disarm (s : State) : State :=
  let b := s.orb.pendBank.map (fun b => { b with expires := some (s.clk + b.timeoutNs) })
  { s with orb := { s.orb with armed := none, conjHeld := false, pendBank := b } }

/-- The pending bank is emptied: its swatches are released, a SET_MODE that awaited it is aborted. -/
def State.emptyPending (s : State) : State :=
  ({ s with orb := { s.orb with armed := none, conjHeld := false, pendBank := none } }).abortTakeoverWait

/-! ### The end of a conjunction -/

/-- A member's part ends without a takeover (R420): 2 for an ABORT, 3 for a local abort. -/
def State.memberEnd (s : State) (last reason by_ : Nat) : State :=
  let s1 := { s with ikl := { s.ikl with held := none, last := last, reason := reason, by_ := by_ } }
  s1.disarm.abortTakeoverWait

/-- The leader's book of an open conjunction is closed; its command completes. -/
def State.closeProposal (s : State) (status : Nat) (detail : List (Nat × Nat)) : State :=
  match s.ikl.prop with
  | some p => ({ s with ikl := { s.ikl with prop := none } }).complete p.tag status detail
  | none => s

/-- The leader floods ABORT with a reason and ends the conjunction for itself (R419 to R422). -/
def State.abortConj (s : State) (reason by_ : Nat) : State :=
  match s.ikl.prop with
  | none => s
  | some p =>
    let m := s.conjMsg 4 reason p.id p.orbit p.epoch p.t s.moduleId
    let s1 := (s.sendConj m).count (iklCnt 8 2) 1
    let s2 := if (match s1.ikl.held with
      | some h => h.id == p.id
      | none => false) then s1.memberEnd 2 reason by_
      else { s1 with ikl := { s1.ikl with last := 2, reason := reason, by_ := by_ } }
    (s2.raise 0x0807 [(4, p.id), (1, reason), (2, by_)]).closeProposal St.aborted [(1, reason), (2, by_)]

/-- Entry to mode 1 or 0 of a module that holds PREPARED and has met no COMMIT (R421): it answers NOT_ELIGIBLE, and a
leader that has not committed aborts. -/
def State.leaveConj (s : State) : State :=
  match s.ikl.held with
  | none => s
  | some h =>
    let s1 := { s with ikl := { s.ikl with held := none } }
    if h.committed then s1
    else
      let s2 := s1.sendConj (s1.conjMsg 2 7 h.id h.orbit h.epoch h.t h.leader)
      match s2.ikl.prop with
      | some p => if p.id = h.id ∧ p.voters.contains s2.moduleId then s2.abortConj 1 s2.moduleId else s2
      | none => s2

end Sys2Proof.Machine
end

