-- ==== Sys2Proof/Machine/Filters.lean ====
section
/-!
DEFINITION. The filters of the external inputs (R511, R512): 0, 1 GUARD_A and GUARD_B, 2 SAF_RESET_N, 3 to 6 LSR_FB,
7 DAC_CLR_N, 8 RST_N, 9 PPS_IN, 10 to 13 TRIG_IN. An edge comes with the time its level then persists.
-/

namespace Sys2Proof.Machine

/-- One filtered input. -/
def State.filter (s : State) (n : Nat) : Filter := lget {} s.pins.filters n
def State.setFilter (s : State) (n : Nat) (f : Filter) : State :=
  { s with pins := { s.pins with filters := lset s.pins.filters n f } }

/-- Time of a code of R512: [7:4] E, [3:0] M gives M × 10^E × 10 ns; `none` for M = 0. -/
def timeCode (c : Nat) : Option Nat := if c % 16 = 0 then none else some (c % 16 * 10 ^ (c / 16 % 16) * 10)

/-- Filter record of an input: 0 to 10 as Table 24.2, with the four TRIG_IN pins on record 10. -/
def State.filterRecord (s : State) (n : Nat) : Nat := (lget 0 s.saf.records (min n 10)).toNat

/-- MIN_PW in ns, rounded up to whole slow-clock cycles for the safety inputs (R511). -/
def State.minPw (s : State) (n : Nat) : Nat :=
  let ns := (timeCode (s.filterRecord n % 256)).getD 0
  if n ≤ 6 then ((ns * 32768 + 999999999) / 1000000000) * 1000000000 / 32768 else ns

/-- MAX_ACT and RECOVERY in ns. -/
def State.maxAct (s : State) (n : Nat) : Option Nat := timeCode (s.filterRecord n / 256 % 256)
def State.recoveryNs (s : State) (n : Nat) : Nat := (timeCode (s.filterRecord n / 65536 % 256)).getD 0
/-- WINDOW in ns and EDGES. -/
def State.windowNs (s : State) (n : Nat) : Nat := 10 ^ (s.filterRecord n / 2 ^ 24 % 16) * 10
def State.edgeLimit (s : State) (n : Nat) : Nat := 2 ^ (s.filterRecord n / 2 ^ 28 % 8)

/-- What an edge of an input does at its filter (R511). -/
inductive EdgeResult where
  /-- shorter than MIN_PW, no change of level, or the input is faulted: nothing -/
  | ignored
  /-- accepted -/
  | accepted
  /-- the edge is a chatter fault -/
  | chatter
  deriving DecidableEq, Repr

/-- An edge to a level that then persists for `held` ns meets the filter (R511). -/
def State.edge (s : State) (n : Nat) (active : Bool) (held : Nat) : EdgeResult × State :=
  let f := s.filter n
  if held < s.minPw n ∨ f.active = active ∧ f.seen then (.ignored, s)
  else
    let recent := f.edges.filter (fun t => decide (s.clk < t + s.windowNs n))
    let f' : Filter := { f with active := active, seen := true, edges := s.clk :: recent, at_ := s.clk }
    if f.faulted then (.ignored, s.setFilter n f')
    else if recent.length + 1 > s.edgeLimit n then (.chatter, s.setFilter n { f' with faulted := true })
    else (.accepted, s.setFilter n f')

/-- The instant at which a faulted input has been inactive and quiet for its recovery time (R511). -/
def State.recoveryAt (s : State) (n : Nat) : Nat := (s.filter n).at_ + s.recoveryNs n

end Sys2Proof.Machine
end

