-- ==== Sys2Proof/Machine/Interlock.lean ====
section
/-!
DEFINITION. The laser safety interlock (chapter 24): stops, faults and lockout, the guard, the reset button, contactor
feedback, SAF_LASER_SET and the configuration of the interlock core.
-/

namespace Sys2Proof.Machine

/-! ### Outputs, stops and faults -/

/-- LSR_EN changes; every wired group that changes opens its follow window (R506). -/
def State.driveLasers (s : State) (new : Nat) : State :=
  let changed := (s.saf.lsrEn ^^^ new) &&& s.saf.wired
  { s with saf := { s.saf with
    lsrEn := new
    follow := (List.range 4).map (fun g => if bitAt changed g then some s.clk else lget none s.saf.follow g) } }

/-- A SAF_LASER_SET that waits for feedback completes. -/
def State.endLaserSet (s : State) (status : Nat) : State :=
  match s.saf.pending with
  | some (tag, _) => ({ s with saf := { s.saf with pending := none } }).complete tag status
  | none => s

/-- A stop (R502): every output off, every request cleared; it raises SAF_STOP only where that changes something. -/
def State.safStop (s : State) (cause status : Nat) : State :=
  if s.saf.lsrEn = 0 ∧ s.saf.request = 0 then s.endLaserSet status
  else
    let s1 := s.driveLasers 0
    let s2 := { s1 with saf := { s1.saf with request := 0 } }
    (s2.endLaserSet status).raiseLim 0x0501 0 [(1, cause)]

/-- A safety fault (R507). -/
def State.safFault (s : State) (code loc : Nat) : State :=
  let s1 := s.driveLasers 0
  let s2 := { s1 with
    saf := { s1.saf with request := 0 }
    ret := { s1.ret with
      lockout := true, tested := false, faultCode := code, faultWhere := loc,
      faults := min (s1.ret.faults + 1) 65535 } }
  (s2.endLaserSet St.safetyFault).raise 0x0502 [(1, code), (1, loc)]

/-- The mode in force permits lasers (Table 2.1): modes 3 to 11. -/
def State.lasersPermitted (s : State) : Bool := decide (3 ≤ s.mode.mode.code)

/-- The conditions of R500 that are common to the groups: lockout clear, tested, guard CLOSED, and a mode that permits
lasers, of the host or in mode 2 of the Easel. -/
def State.lasersMay (s : State) : Bool :=
  !s.ret.lockout && s.ret.tested && s.saf.guard == .closed && decide (2 ≤ s.mode.mode.code)

/-- When a condition fails, the output turns off and the group's request is cleared (R500). An unwired group has no follow
window (R506). -/
def State.lasersRecheck (s : State) : State :=
  let keep := if s.lasersMay then s.saf.request &&& s.saf.wired else 0
  let s1 := s.driveLasers keep
  { s1 with saf := { s1.saf with
    request := keep
    follow := (List.range 4).map (fun g => if bitAt s1.saf.wired g then lget none s1.saf.follow g else none) } }

/-- The Easel's request in mode 2 (R256, R500). -/
def State.easelLasers (s : State) (groups : Nat) : State :=
  if s.mode.mode = .calibrate ∧ s.ret.lockout = false ∧ s.ret.tested ∧ s.saf.guard = .closed then
    let g := groups &&& s.saf.wired
    let s1 := s.driveLasers g
    { s1 with saf := { s1.saf with request := g } }
  else s

/-- SAF_LASER_SET (R501). -/
def execSafLaserSet (tag : CmdTag) (groups : Nat) (s : State) : Host.Outcome State Fault Refusal :=
  next <| s.serve tag 0x0501 fun s =>
    if groups ≥ 16 then s.complete tag St.badParam
    else if s.lasersPermitted = false then s.complete tag St.wrongMode
    else if clearBits groups s.saf.wired ≠ 0 then s.complete tag St.groupUnwired
    else if s.ret.lockout then s.complete tag St.laserLockout
    else if s.ret.tested = false then s.complete tag St.notTested
    else if s.saf.guard ≠ .closed then s.complete tag St.guardOpen
    else if s.saf.pending.isSome then s.complete tag St.busy
    else
      let changed := s.saf.lsrEn ^^^ groups
      let s1 := s.driveLasers groups
      let s2 := { s1 with saf := { s1.saf with request := groups } }
      if changed = 0 then s2.complete tag St.ok
      else { s2 with saf := { s2.saf with pending := some (tag, changed) } }

/-! ### The guard (R503 to R505) -/

/-- A channel as read: a faulted one reads open. -/
def State.chanClosed (s : State) (n : Nat) : Bool := (s.filter n).active && !(s.filter n).faulted

/-- The guard's state from its two channels. -/
def State.guardNow (s : State) : Guard :=
  match s.chanClosed 0, s.chanClosed 1 with
  | true, true => .closed
  | false, false => .open_
  | _, _ => .disagree

/-- OPEN has been accepted from both inputs since VAON rose (R505). -/
def State.openAccepted (s : State) : Bool := (s.filter 0).seen && (s.filter 1).seen && s.guardNow == .open_

/-- Longest DISAGREE in 0.1 ms ticks, saturating (SAF_DISC). -/
def discTicks (samples : Nat) : Nat := min (samples * 10000 / 32768) 16383

/-- The guard follows its channels: leaving CLOSED stops the lasers; OPEN to CLOSED with the lockout clear sets the
tested flag (R502, R505). -/
def State.guardUpdate (s : State) : State :=
  let old := s.saf.guard
  let new := s.guardNow
  let s1 := { s with saf := { s.saf with
    guard := new
    openSeen := s.saf.openSeen || s.openAccepted
    run := if new = .disagree ∧ old = .disagree then s.saf.run else 0 } }
  let s2 := if old = .closed ∧ new ≠ .closed then s1.safStop 0 St.guardOpen else s1
  if new = .closed ∧ old ≠ .closed then
    let passed := s2.saf.openSeen && !s2.ret.lockout
    let s3 := { s2 with saf := { s2.saf with openSeen := false } }
    if passed ∧ s3.ret.tested = false then ({ s3 with ret := { s3.ret with tested := true } }).raise 0x0505 []
    else s3
  else s2

/-- GUARD_CHANGE: a filtered change of a channel (R503, R511). -/
def execGuardChange (chanB closed : Bool) (held : Nat) (s : State) : Host.Outcome State Fault Refusal :=
  next <|
    if s.pins.vaon = false then s
    else
      let n := if chanB then 1 else 0
      match s.edge n closed held with
      | (.ignored, s1) => s1
      | (.accepted, s1) => s1.guardUpdate
      | (.chatter, s1) => (s1.safFault 0x05 n).guardUpdate

/-- K of R504. -/
def State.discK (s : State) : Nat := 32768 * s.saf.tDisc / 1000

/-- DISCREPANCY_FAULT: the DISAGREE run has reached K samples (R504). -/
def execDiscrepancyFault (s : State) : Host.Outcome State Fault Refusal :=
  next <|
    if s.saf.guard = .disagree ∧ s.saf.run = s.discK then
      let s1 := s.safFault 0x01 0
      { s1 with saf := { s1.saf with openSeen := false } }
    else s

/-- The next edge of the slow clock (R499). -/
def State.slowEdge (s : State) : Nat := ((s.clk * 32768 / 1000000000 + 1) * 1000000000 + 32767) / 32768

/-- Groups whose output pin has differed from its command on two consecutive samples now. -/
def State.readbackFaults (s : State) : List Nat := (List.range 4).filter (fun g => lget 0 s.saf.misRun g == 2)

/-- SAFETY_SAMPLE: one sample of the interlock core: the DISAGREE run and the read-back of the outputs (R498, R499,
R504, Table 24.1). -/
def execSafetySample (readback : Nat) (s : State) : Host.Outcome State Fault Refusal :=
  next <|
    if s.pins.vaon = false then s
    else
      let s1 := s.waitClk s.slowEdge
      let run := if s1.saf.guard = .disagree then s1.saf.run + 1 else 0
      let mis := (List.range 4).map (fun g =>
        if bitAt readback g = bitAt s1.saf.lsrEn g then 0 else lget 0 s1.saf.misRun g + 1)
      let s2 := { s1 with saf := { s1.saf with
        run := run, longest := max s1.saf.longest (discTicks run), readback := readback % 16, misRun := mis } }
      s2.each s2.readbackFaults (fun s g => s.safFault 0x07 g)

/-! ### Contactor feedback (R506) -/

/-- A pending SAF_LASER_SET completes once the feedback of every group it changed has followed. -/
def State.laserSetDone (s : State) : State :=
  match s.saf.pending with
  | some (_, changed) =>
    if (bitList 4 (changed &&& s.saf.wired)).all (fun g => (lget none s.saf.follow g).isNone) then s.endLaserSet St.ok
    else s
  | none => s

/-- The follow window of a group closes. -/
def State.closeFollow (s : State) (g : Nat) : State :=
  { s with saf := { s.saf with follow := lset s.saf.follow g none } }

/-- A change of filtered feedback of a wired group: it follows the command, comes late, or is uncommanded. -/
def State.fbChange (s : State) (g : Nat) (contactsOpen : Bool) : State :=
  match lget none s.saf.follow g with
  | some t =>
    if s.clk > t + 50000000 then ((s.closeFollow g).safFault 0x02 g).safFault 0x03 g
    else if contactsOpen = !(bitAt s.saf.lsrEn g) then (s.closeFollow g).laserSetDone
    else s
  | none => s.safFault 0x03 g

/-- LSR_FB_CHANGE (R506, R511). -/
def execLsrFbChange (group : Fin 4) (contactsOpen : Bool) (held : Nat) (s : State) : Host.Outcome State Fault Refusal :=
  next <|
    if s.pins.vaon = false then s
    else
      let first := (s.filter (3 + group)).seen = false
      match s.edge (3 + group) contactsOpen held with
      | (.ignored, s1) => s1
      | (.accepted, s1) => if bitAt s1.saf.wired group ∧ ¬ first then s1.fbChange group contactsOpen else s1
      | (.chatter, s1) => if bitAt s1.saf.wired group then s1.safFault 0x05 (3 + group) else s1

/-- FB_LATE: a follow window reaches 50 ms without matching feedback (R506). -/
def execFbLate (group : Fin 4) (s : State) : Host.Outcome State Fault Refusal :=
  next <|
    match lget none s.saf.follow group with
    | some t => ((s.waitClk (t + 50000000)).closeFollow group).safFault 0x02 group
    | none => s

/-! ### The reset button (R508, R509) -/

/-- Contacts of a group read open: filtered feedback active and not faulted. -/
def State.fbOpen (s : State) (g : Nat) : Bool := (s.filter (3 + g)).active && !(s.filter (3 + g)).faulted

/-- Some safety input is faulted or in recovery; feedback of unwired groups is ignored (R498). -/
def State.safInputFault (s : State) : Bool :=
  [0, 1, 2].any (fun n => (s.filter n).faulted) || s.saf.resetRecovery
    || (bitList 4 s.saf.wired).any (fun g => (s.filter (3 + g)).faulted)

/-- First condition of R508 that fails, as SAF_RESET_REFUSED codes it; `none` where all hold. -/
def State.resetBlocked (s : State) : Option Nat :=
  if s.safInputFault then some 1
  else if s.saf.guard = .disagree then some 2
  else if (bitList 4 s.saf.wired).any (fun g => !s.fbOpen g) then some 3
  else if s.saf.readback ≠ 0 then some 4
  else none

/-- A press that reaches 3 s (R509). -/
def State.resetFaultNow (s : State) : State :=
  let s1 := s.setFilter 2 { s.filter 2 with faulted := true }
  let s2 := { s1 with saf := { s1.saf with pressAt := none, resetRecovery := true } }
  s2.safFault 0x06 2

/-- SAF_RESET_PRESS: the filtered press begins (R508). -/
def execSafResetPress (held : Nat) (s : State) : Host.Outcome State Fault Refusal :=
  next <|
    if s.pins.vaon = false then s
    else
      match s.edge 2 true held with
      | (.ignored, s1) => s1
      | (.accepted, s1) => { s1 with saf := { s1.saf with pressAt := some s1.clk } }
      | (.chatter, s1) => s1.resetFaultNow

/-- The release of a press of a length in ns (R508). -/
def State.resetRelease (s : State) (dur : Nat) : State :=
  if s.ret.lockout = false then s
  else if dur < 100000000 then s.raiseLim 0x0504 0 [(1, 0)]
  else
    match s.resetBlocked with
    | some r => s.raiseLim 0x0504 0 [(1, r)]
    | none => ({ s with ret := { s.ret with lockout := false } }).raise 0x0503 [(2, dur / 100000)]

/-- SAF_RESET_RELEASE (R508, R509). -/
def execSafResetRelease (held : Nat) (s : State) : Host.Outcome State Fault Refusal :=
  next <|
    if s.pins.vaon = false then s
    else
      match s.edge 2 false held with
      | (.ignored, s1) => s1
      | (.chatter, s1) => s1.resetFaultNow
      | (.accepted, s1) =>
        match s1.saf.pressAt with
        | none => s1
        | some t =>
          let s2 := { s1 with saf := { s1.saf with pressAt := none } }
          if s1.clk ≥ t + 3000000000 then s2.resetFaultNow else s2.resetRelease (s1.clk - t)

/-- RESET_FAULT: a press reaches 3 s (R509). -/
def execResetFault (s : State) : Host.Outcome State Fault Refusal :=
  next <|
    match s.saf.pressAt with
    | some t => (s.waitClk (t + 3000000000)).resetFaultNow
    | none => s

/-! ### Configuration (R512, R513, R555, R556) -/

/-- A time code whose E is at most 9 and whose time lies within [lo, hi] ns. -/
def codeWithin (c lo hi : Nat) : Bool :=
  match timeCode c with
  | some t => decide (c / 16 % 16 ≤ 9 ∧ lo ≤ t ∧ t ≤ hi)
  | none => false

/-- The permitted values of the guard and feedback records (Table 24.2). -/
def guardRecordOk (w : Nat) : Bool :=
  codeWithin (w % 256) 1000000 10000000 && w / 256 % 16 == 0 && decide (w / 4096 % 16 ≤ 9)
    && codeWithin (w / 65536 % 256) 100000000 10000000000
    && w / 2 ^ 24 % 16 == 8 && decide (3 ≤ w / 2 ^ 28 % 8 ∧ w / 2 ^ 28 % 8 ≤ 6) && w / 2 ^ 31 == 0

/-- Record n within its permitted values; `other` is the other guard record, whose MIN_PW must be equal. -/
def filterRecordOk (n w other : Nat) : Bool :=
  match n with
  | 0 | 1 => guardRecordOk w && w % 256 == other % 256
  | 2 => codeWithin (w % 256) 10000000 50000000 && w / 256 == 0x388183
  | 3 | 4 | 5 | 6 => guardRecordOk w
  | 7 => w == 0x46719621
  | 8 => w == 0x37819131
  | 9 => w == 0x38827911
  | _ => w == 0x65618101

/-- A write of SAF_CFG or SAF_FILTn (R556). -/
def State.safCfgWrite (s : State) (addr : Nat) (value : Word) : State :=
  let w := value.toNat
  let n := (addr - 0x50010) / 4
  let present := if addr = 0x5000C then s.saf.tDisc + s.saf.wired * 65536 else s.filterRecord n
  if s.canvas.active.isSome then
    if w &&& (if addr = 0x5000C then 0x000F03FF else 0xFFFFFFFF) ≠ present then s.raise 0x0010 [(4, addr)] else s
  else if addr = 0x5000C then
    if w % 1024 < 10 ∨ w % 1024 > 1000 ∨ w &&& 0xFFF0FC00 ≠ 0 then s.raise 0x0506 [(4, addr)]
    else State.lasersRecheck { s with saf := { s.saf with tDisc := w % 1024, wired := w / 65536 % 16 } }
  else if filterRecordOk n w (s.filterRecord (1 - n)) then
    { s with saf := { s.saf with records := lset s.saf.records n value } }
  else s.raise 0x0506 [(4, addr)]

/-- Is an offset SAF_CFG or a SAF_FILTn? -/
def isSafCfg (addr : Nat) : Bool := addr == 0x5000C || (decide (0x50010 ≤ addr ∧ addr < 0x5003C) && addr % 4 == 0)

/-- SAF_CFG_WRITE (R556). -/
def execSafCfgWrite (addr : Nat) (value : Word) (s : State) : Host.Outcome State Fault Refusal :=
  next <| s.hostAct 10 fun s => (if isSafCfg addr then s.safCfgWrite addr value else s)

/-- The values of a Canvas's SAFETY section pass to the interlock core (R555). -/
def State.loadSafety (s : State) (sec : Bytes) : State :=
  State.lasersRecheck { s with saf := { s.saf with
    tDisc := leAt sec 0 2, wired := byteAt sec 2 % 16
    records := (List.range 11).map (fun n => BitVec.ofNat 32 (leAt sec (4 + 4 * n) 4)) } }

/-- Step 13 of a start: every wired LSR_FB must show open contacts with LSR_EN off (R62, Table 24.1). -/
def State.safetyStartup (s : State) : State :=
  s.each (bitList 4 s.saf.wired) (fun s g => if s.fbOpen g then s else s.safFault 0x04 g)

/-- The 8 bytes of SMBus code 0x03 (R516). -/
def State.safetyBytes (s : State) : Bytes :=
  let g : Nat := match s.saf.guard with
    | .open_ => 0
    | .closed => 1
    | .disagree => 2
  let fb := (List.range 4).foldl (fun n k => setBit n k (s.fbOpen k)) 0
  leBytes 1 (g + 4 * ofBool s.ret.lockout + 8 * ofBool s.ret.tested + 16 * ofBool s.safInputFault)
    ++ leBytes 1 (s.saf.readback + 16 * fb) ++ leBytes 1 s.ret.faultCode ++ [0] ++ leBytes 4 s.ret.faults

end Sys2Proof.Machine
end

