-- ==== Sys2Proof/Machine/LoopBase.lean ====
section
/-!
DEFINITION. The hold-loop framework's view of one cell (chapter 8): cell states and judgements (R169, R170, R176 to
R178), the demodulation of R173, the control law of R181 to R184, exchange blocks.
-/

namespace Sys2Proof.Machine

/-! ### Coefficients (Table 8.3) and exchange words (Table 9.2) -/

def State.coefByte (s : State) (c off : Nat) : Nat := s.coefWord c (off / 4) / 2 ^ (8 * (off % 4)) % 256
def State.coefHalf (s : State) (c off : Nat) : Nat := s.coefWord c (off / 4) / 2 ^ (8 * (off % 4)) % 65536
def State.coefInt (s : State) (c off : Nat) : Int := signed 32 (s.coefWord c (off / 4))
/-- FLAGS bits: 0 BIAS_EN, 1 HTR_EN, 2 STAGE_FF_EN, 3 TEMP_FF_EN. -/
def State.coefFlag (s : State) (c bit : Nat) : Bool := bitAt (s.coefHalf c 4) bit
def State.dither (s : State) (c : Nat) : Nat := s.coefHalf c 6

/-- Address of a word of a cell's exchange block, with its lane. -/
def State.xchGet (s : State) (c w : Nat) : Word := s.dm (s.laneOf c) (xch (s.indexOf c) w)
def State.xchSet (s : State) (c w : Nat) (v : Word) : State := s.setDm (s.laneOf c) (xch (s.indexOf c) w) v

/-- Code of a cell state (Table 8.2). -/
def LoopState.code : LoopState → Nat
  | .off => 0
  | .acquire => 1
  | .track => 2
  | .model => 3
  | .dark => 4
  | .suspect => 5
  | .stuck => 6
  | .hold => 7

/-- A cell takes a state; word 1 of its exchange block follows. -/
def State.setCellState (s : State) (c : Nat) (x : CellLoop) (st : LoopState) : State :=
  (s.setCell c { x with state := st }).xchSet c 1 (BitVec.ofNat 32 st.code)

/-! ### States (R169, R170) -/

/-- The frozen state whose condition holds and stands highest in Table 8.2. -/
def State.frozenState (s : State) (c : Nat) : Option LoopState :=
  let x := s.cell c
  if x.disabled ∨ s.coefFlag c 0 = false then some .off
  else if s.pairFlagged (cellPair c) ∨ s.mode.mode = .calibrate then some .hold
  else if s.isStuck c then some .stuck
  else if x.suspect then some .suspect
  else none

/-- Is a state one of the frozen ones? -/
def LoopState.frozen (l : LoopState) : Bool := l == .off || l == .hold || l == .stuck || l == .suspect

/-- Entry to ACQUIRE. -/
def CellLoop.enterAcquire (x : CellLoop) : CellLoop := { x with state := .acquire, goodRun := 0, estCount := 0 }

/-- A cell's frozen conditions have changed: it takes the frozen state that holds, or leaves for ACQUIRE (R169). -/
def State.refreshCell (s : State) (c : Nat) : State :=
  let x := s.cell c
  match s.frozenState c with
  | some f => if x.state = f then s else s.setCellState c x f
  | none => if x.state.frozen then s.setCellState c x.enterAcquire .acquire else s

/-- Magnitude of an estimate against PHI_MAX: mrad against 2^−24 rad. -/
def State.beyondPhi (s : State) (e : Int) : Bool :=
  decide (e.natAbs * 1000 > s.fld Reg.LE_LOOP_CTL_PHI_MAX * 2 ^ 24)

/-- A cell becomes SUSPECT (R177): outputs of the period are not applied, the count is cleared. -/
def State.enterSuspect (s : State) (c : Nat) (x : CellLoop) (reason : Nat) : State :=
  let y := { x with
    suspect := true, failCount := 0, passRun := 0, reason := reason, frozen := true
    suspects := min (x.suspects + 1) 65535 }
  (s.setCellState c y .suspect).raiseLoop 0x0D01 c
    [(2, c), (1, reason), (2, unsigned 16 y.sumRes), (4, match y.est with
      | some e => unsigned 32 e
      | none => 0x80000000)]

/-- A SUSPECT cell is released (R178): how is 0 automatic, 1 command. -/
def State.releaseCell (s : State) (c how : Nat) : State :=
  let x := s.cell c
  let s1 := (s.setCell c { x with suspect := false, passRun := 0 }).refreshCell c
  s1.raiseLoop 0x0D02 c [(2, c), (1, how)]

/-- Reason of a failing period: the sum check, PHI_MAX, or the lane program's own (Table 8.11). -/
def State.failReason (s : State) (x : CellLoop) : Nat :=
  if x.litCount ≥ 4 ∧ 2 * x.litFails > x.litCount then 1
  else
    match x.est with
    | some e => if x.state = .track ∧ s.beyondPhi e then 2 else 4
    | none => 4

/-- The state of a cell in no frozen state after a period with or without an estimate (R169, R170). -/
def State.nextCellState (s : State) (x : CellLoop) : CellLoop :=
  match x.state, x.est with
  | .acquire, some e =>
    let good := if s.beyondPhi e then 0 else x.goodRun + 1
    let y := { x with goodRun := good, estCount := x.estCount + 1 }
    if good ≥ 4 then { y with state := .track, unlit := 0 } else y
  | .acquire, none => x
  | _, some _ => if x.unlit > 65536 then { x with unlit := 0 }.enterAcquire else { x with state := .track, unlit := 0 }
  | _, none =>
    if x.litCount = 0 then { x with state := .dark, failCount := 0, unlit := x.unlit + 1 }
    else { x with state := .model, unlit := x.unlit + 1 }

/-- One cell's period result: 0 not judged, 1 pass, 2 fail (R177, R178, R215). -/
def State.judgeCell (s : State) (c result : Nat) : State :=
  let x := s.cell c
  match s.frozenState c with
  | some .suspect =>
    if result = 2 then s.setCellState c { x with passRun := 0 } .suspect
    else if result = 1 then
      let y := { x with passRun := x.passRun + 1 }
      let s1 := s.setCellState c y .suspect
      if y.passRun ≥ 32 ∧ s.flag Reg.LE_LOOP_CTL_AUTO_RELEASE then s1.releaseCell c 0 else s1
    else s.setCellState c x .suspect
  | some f => s.setCellState c x f
  | none =>
    let x0 := if x.state.frozen then x.enterAcquire else x
    let fails := if result = 2 then x0.failCount + 1 else if result = 1 then 0 else x0.failCount
    let y := s.nextCellState { x0 with failCount := fails }
    if result = 2 ∧ fails ≥ 3 then s.enterSuspect c { x0 with failCount := fails } (s.failReason x0)
    else if y.state = .acquire ∧ y.estCount ≥ s.fld Reg.LE_LOOP_LEVELS_ACQ_MAX then s.enterSuspect c y 3
    else s.setCellState c y y.state

/-! ### The model's judgement of a period (R172, R175, R176) -/

/-- CELLS of the swatch in a tag; with none, every cell stands at BAR. -/
def State.tagCells (s : State) (n : Option Nat) : Nat :=
  match n with
  | some k => (s.swatch k).cells
  | none => 0

/-- Contrast k = (a − b) / (a + b) is at least KAPPA_MIN / 1 024 in magnitude. -/
def contrastOk (a b kmin : Nat) : Bool := decide (0 < a + b ∧ ((a : Int) - b).natAbs * 1024 ≥ kmin * (a + b))

/-- GAIN: s / k in Q8.23, rounded to the nearest (Table 9.3). -/
def gainOf (a b : Nat) (cross : Bool) : Int :=
  let d : Int := (a : Int) - b
  let n : Int := ((a + b : Nat) : Int) * 2 ^ 23 * (if cross then -1 else 1)
  if d = 0 then 0 else if d > 0 then divRound n d.toNat else divRound (-n) d.natAbs

/-- The GAIN of a sample: 0 where R172 makes it unusable. -/
def State.sampleGain (s : State) (c : Nat) (p : Predict) (smp : LoopSample) : Int :=
  let st := (s.cell c).state
  let ok := !smp.eclipse && p.lit && contrastOk p.a p.b (s.coefHalf c 0x32)
    && withinDb (smp.p0 + smp.p1) (p.p0 + p.p1) (s.coefHalf c 0x30) && st != .off && st != .hold
  if ok then gainOf p.a p.b smp.cross else 0

/-- Is a sample lit and valid under a prediction: its flag clear and an input lit? -/
def sampleLit (p : Predict) (smp : LoopSample) : Bool := !smp.eclipse && p.lit

/-- GAIN changed sign, or by more than 1/64 of itself (R197). -/
def gainDrifts (old new : Int) : Bool :=
  decide (old * new < 0 ∨ (old = 0) ≠ (new = 0) ∨ 64 * (new - old).natAbs > old.natAbs)

/-- The period's samples of a cell with their final predictions. -/
def State.finalSamples (s : State) (c : Nat) : List (LoopSample × Predict) :=
  ((s.cell c).samples.filter (fun m => m.period == s.loops.period)).map
    (fun m => (m, s.predict true (s.tagCells m.swatch) c m.cross))

/-- SUMM of a cell: lit valid samples, sum-check failures, DRIFT, median residual; and the final gains. -/
def State.summCell (s : State) (c : Nat) : State :=
  let fin := s.finalSamples c
  let lit := fin.filter (fun e => sampleLit e.2 e.1)
  let bound := s.coefHalf c 0x30
  let fails := (lit.filter (fun e => !withinDb (e.1.p0 + e.1.p1) (e.2.p0 + e.2.p1) bound)).length
  let res := lit.filterMap (fun e => ratioDb (e.1.p0 + e.1.p1) (e.2.p0 + e.2.p1))
  let drift := fin.any (fun e => gainDrifts e.1.gain (s.sampleGain c e.2 e.1))
  let x := s.cell c
  let y := { x with
    litCount := lit.length, litFails := fails, drift := drift
    sumRes := if lit.length ≥ 4 then clampInt (median res) (-32768) 32767 else x.sumRes }
  (s.setCell c y).xchSet c 2 (BitVec.ofNat 32
    (lit.length + 16 * fails + 256 * ofBool drift + 65536 * unsigned 16 y.sumRes))

/-- The judgement of the standard program (R176): 0, 1 or 2. -/
def State.standardJudge (s : State) (c : Nat) (est : Option Int) : Nat :=
  let x := s.cell c
  if x.litCount < 4 then 0
  else if 2 * x.litFails > x.litCount then 2
  else
    match est with
    | some e => if x.state = .track ∧ s.beyondPhi e then 2 else 1
    | none => 1

/-! ### The estimate (R173, R174) -/

/-- Walsh sign of chip c for a code: true is −1 (R171). -/
def walshNeg (code chip : Nat) : Bool := popCount 4 (code &&& chip) % 2 == 1

/-- Dither chip of a round: the chip count advances only in sampled periods (R171, R185). -/
def State.chip (s : State) (round : Nat) : Nat := 8 * ((s.loops.sampledCount + 1) % 2) + round

/-- x in Q.23 of two powers, truncated, saturated (the divide unit of R206). -/
def demodX (p0 p1 : Nat) : Int :=
  if p0 + p1 = 0 then 0 else satInt 32 (Int.tdiv (((p1 : Int) - p0) * 2 ^ 23) ((p0 + p1 : Nat) : Int))

/-- y of a usable sample: s x / k in Q.23. -/
def LoopSample.y (m : LoopSample) : Int := rsh (demodX m.p0 m.p1 * m.gain) 23

/-- 1 / d in Q16.16, with d the DITHER in radians (Table 9.2, word 14). -/
def State.dscale (s : State) (c : Nat) : Int :=
  let d := s.dither c * (s.calAt .eoGain c).toNat
  if d = 0 then 0 else divRound (1000000 * 65536) d

/-- The estimate of the period, with its window's usable count and coherence (R173, R174). -/
def State.estimate (s : State) (c : Nat) : Option Int × Nat × Nat :=
  let x := s.cell c
  let win := x.samples.filter (fun m => m.gain != 0 && decide (m.period + 32 > s.loops.period))
  let n : Int := win.length
  let sgn (m : LoopSample) : Int := if m.neg then -1 else 1
  let sw := sumInt (win.map sgn)
  let sy := sumInt (win.map LoopSample.y)
  let swy := sumInt (win.map (fun m => sgn m * m.y))
  let syy := sumInt (win.map (fun m => m.y * m.y))
  let pos := (win.filter (fun m => !m.neg)).length
  if s.flag Reg.LE_LOOP_CTL_DITHER_EN = false ∨ x.drift ∨ win.length < s.fld Reg.LE_LOOP_CTL_DEMOD_MIN ∨ pos < 4
      ∨ win.length - pos < 4 then (none, win.length, x.coherence)
  else
    let num := n * swy - sw * sy
    let den := n * n - sw * sw
    let beta := satInt 32 (Int.tdiv num den)
    let e := satInt 32 (rsh (beta * s.dscale c) 15)
    let var := (den * (n * syy - sy * sy)).toNat
    (some e, win.length, if var = 0 then 0 else min 1023 (Nat.sqrt (num.natAbs ^ 2 * 1023 ^ 2 / var)))

/-! ### The control law (R180 to R184) -/

/-- Temperature of a cell's zone sensor, 0.01 °C (R182). -/
def State.cellTemp (s : State) (c : Nat) : Int := (tget {} s.adc.hk (64 + cellZone c)).value

/-- Limiter output of a heater at the start of the period; an unlisted heater stood at its safe code. -/
def State.htrAt0 (s : State) (c : Nat) : Nat := (tget? s.dac.htrStart c).getD (s.safeHtr c)

/-- Heater code applied by a neighbour less its calibrated code; 0 past the ends of a stage (R183). -/
def State.dh (s : State) (c : Nat) (up : Bool) : Int :=
  let r := c % 256
  if up then (if r = 0 then 0 else (s.htrAt0 (c - 1) : Int) - s.calAt .calHtr (c - 1))
  else if r = 255 then 0 else (s.htrAt0 (c + 1) : Int) - s.calAt .calHtr (c + 1)

/-- Temperature feedforward (R181). -/
def State.tempFf (s : State) (c : Nat) : Int :=
  if s.coefFlag c 3 then
    rsh (s.coefInt c 0x14 * (s.cellTemp c - s.sfld Reg.LE_LOOP_TREF_T_REF)) (s.coefByte c 0x1B)
  else 0

/-- Stage feedforward (R183). -/
def State.stageFf (s : State) (c : Nat) : Int :=
  if s.coefFlag c 2 ∧ s.flag Reg.LE_LOOP_CTL_STAGE_FF_EN then
    let acc := signed 24 (s.coefWord c 7) * s.dh c true + signed 24 (s.coefWord c 8) * s.dh c false
    let x := signed 8 (s.coefByte c 0x24)
    if x ≥ 0 then satInt 32 (acc * 2 ^ x.toNat) else satInt 32 (rsh acc x.natAbs)
  else 0

/-- Heater trim (R184): the new h, active flag, limited flag. -/
def State.heaterTrim (s : State) (c : Nat) (b h : Int) (active : Bool) : Int × Bool × Bool :=
  if (s.coefFlag c 1 && s.flag Reg.LE_LOOP_CTL_HTR_TRIM_EN) = false then (s.calAt .calHtr c * 65536, active, false)
  else
    let act1 := active || decide (b.natAbs > s.coefHalf c 0x28 * 65536)
    let act := act1 && !decide (b.natAbs ≤ s.coefHalf c 0x26 * 65536)
    if act then
      let v := satInt 32 (h + rsh (s.coefInt c 0x10 * b) (s.coefByte c 0x1A))
      let lo : Int := s.coefHalf c 0x2C * 65536
      let hi : Int := s.coefHalf c 0x2E * 65536
      (clampInt v lo hi, true, decide (v < lo ∨ v > hi))
    else (h, false, false)

/-- The control law of one cell: its exchange words 6, 7, 10, 11 and 12 (R181). -/
def State.controlCell (s : State) (c : Nat) : State :=
  let x := s.cell c
  let i := (s.xchGet c 6).toInt
  let lim : Int := s.coefHalf c 0x2A * 65536
  let ff := s.tempFf c + s.stageFf c
  let (i1, p) : Int × Int := match x.est with
    | some e =>
      if x.state = .acquire ∨ x.state = .track then
        (satInt 32 (i - rsh (s.coefInt c 0x0C * e) (s.coefByte c 0x19)), rsh (s.coefInt c 0x08 * e) (s.coefByte c 0x18))
      else (i, 0)
    | none => (i, 0)
  let b0 := satInt 32 (i1 - p + ff)
  let b := clampInt b0 (-lim) lim
  let windUp := decide (b0 > lim ∧ i1 > i ∨ b0 < -lim ∧ i1 < i)
  let inew := if windUp then i else i1
  let (h, act, hlim) := s.heaterTrim c b (s.xchGet c 7).toInt x.htrActive
  let flags := ofBool act + 2 * ofBool (b0 != b) + 4 * ofBool hlim
  (((((s.xchSet c 6 (BitVec.ofInt 32 inew)).xchSet c 7 (BitVec.ofInt 32 h)).xchSet c 10 (BitVec.ofNat 32 flags)).xchSet
    c 11 (BitVec.ofNat 32 (unsigned 16 (rsh b 16)))).xchSet c 12 (BitVec.ofNat 32 (unsigned 16 (rsh h 16)))).setCell c
      { x with written := true }

/-- An estimate is recorded with a cell (Table 8.11). -/
def CellLoop.takeEst (x : CellLoop) (e : Option Int) (usable coh period : Nat) : CellLoop :=
  match e with
  | some v => { x with
      est := some v, ests := (v :: x.ests).take 256, usable := usable, coherence := coh, sinceEst := 0
      estPeriod := period % 2 ^ 32 }
  | none => { x with est := none, usable := usable, sinceEst := min (x.sinceEst + 1) 65535 }

/-- The standard program's work on one cell at the end of a period (R167 steps 2 to 4). -/
def State.standardCell (s : State) (c : Nat) : State :=
  let (e, n, coh) := s.estimate c
  let x := s.cell c
  let s1 := (s.setCell c (x.takeEst e n coh s.loops.period)).xchSet c 8
    (match e with
      | some v => BitVec.ofInt 32 v
      | none => 0x80000000)
  let s2 := (s1.xchSet c 9 (BitVec.ofNat 32 coh)).judgeCell c (s1.standardJudge c e)
  let y := s2.cell c
  let s3 := s2.setCell c { y with stepped := true }
  if y.state.frozen then s3.setCell c { y with stepped := true, written := true } else s3.controlCell c

end Sys2Proof.Machine
end

