-- ==== Sys2Proof/Machine/CalLive.lean ====
section
/-!
DEFINITION. The Easel's live pass (chapter 11): acceptance by repeat, offset and bias windows, extinction ratios, zones.
-/

namespace Sys2Proof.Machine

/-! ### Acceptance (R251, R264) -/

/-- Code of a quantity in CAL_REJECTED, in the order of Table 11.2. -/
def rejectCode : CalQ → Nat
  | .offset => 0
  | .biasCal => 1
  | .levelBar | .levelCross => 2
  | .gain => 3
  | .eoGain => 4
  | .leak => 5
  | .loss => 6
  | .launch => 7
  | _ => 8

/-- Two results agree within the tolerance of Table 11.2; a ratio tolerance counts against their mean. -/
def State.agree (s : State) (q : CalQ) (a b : Int) : Bool :=
  let d := (a - b).natAbs
  let rel (num den : Nat) : Bool := decide (2 * d * den ≤ (a + b).natAbs * num)
  match q with
  | .offset => decide (d ≤ 16 * s.fld Reg.CAL_TOL_OFS_TOL)
  | .biasCal => decide (d * 6000 ≤ s.fld Reg.CAL_TOL_BIAS_TOL * 32767)
  | .levelBar | .levelCross => rel (s.fld Reg.CAL_TOL_LEVEL_TOL) 1000
  | .gain => rel 1 1000
  | .eoGain => rel 2 100
  | .leak => decide (d ≤ 100)
  | .loss => decide (d ≤ 200)
  | .launch => decide (d ≤ 30)
  | _ => true

/-- A pair of measurements that disagree: the value in force stays (R251, R264). -/
def State.calReject (s : State) (q : CalQ) (item : Nat) (a b inForce : Int) : State :=
  let s1 := s.bump Reg.CAL_ERR_REJECTS 1
  if s1.withheld 0x0A02 (rejectCode q) then s1.bump Reg.CAL_ERR_EV_SUPPRESSED 1
  else s1.raiseLim 0x0A02 (rejectCode q)
    [(1, rejectCode q), (2, item), (4, unsigned 32 a), (4, unsigned 32 b), (4, unsigned 32 inForce)]

/-- The live pass runs: BG_EN, every mode but 0 and 2, only in L0 (R246). -/
def State.livePass (s : State) : Bool :=
  s.flag Reg.CAL_CTL_BG_EN && s.mode.mode != .bootstrap && s.mode.mode != .calibrate && s.pwr.state == 0

/-! ### Offsets (R253) -/

def State.ofsWin (s : State) (ch : Nat) : OfsWindow := tget {} s.cal.ofs ch
def State.setOfs (s : State) (ch : Nat) (w : OfsWindow) : State :=
  { s with cal := { s.cal with ofs := tset {} s.cal.ofs ch w } }

/-- Temperature of a channel's zone as the sensor reads it. -/
def State.zoneTemp (s : State) (z : Nat) : Int := (tget {} s.adc.hk (64 + z)).value

/-- A pair of windows of a channel is complete: accepted, rejected, or void where the zone moved by more than 1 °C.
Results are in 2^−20 LSB; M and the event's results are in 1/16 LSB. -/
def State.ofsPair (s : State) (ch : Nat) (w : OfsWindow) (a b : Int) : State :=
  let fresh : OfsWindow := { acceptedAt := w.acceptedAt }
  if (s.zoneTemp (zoneOf .offset ch) - w.tStart).natAbs > 100 then s.setOfs ch fresh
  else if (a - b).natAbs ≤ s.fld Reg.CAL_TOL_OFS_TOL * 2 ^ 20 then
    let m := divRound (a + b) (2 * 65536)
    let s1 := s.setOfs ch { acceptedAt := some s.clk }
    { s1 with cal := { s1.cal with trimsNext := tput s1.cal.trimsNext ch (m - s1.calAt .offset ch) } }
  else (s.setOfs ch fresh).calReject .offset ch (divRound a 65536) (divRound b 65536) (s.offsetOf ch)

/-- A dark sample of a channel joins its window (R253). -/
def State.ofsSample (s : State) (ch raw : Nat) : State :=
  if s.livePass = false ∨ s.pairFlagged (ownerOf ch / 2) ∨ ch ≥ 9728 then s
  else
    let w := s.ofsWin ch
    let t := s.zoneTemp (zoneOf .offset ch)
    let w1 := { w with
      count := w.count + 1, sum := w.sum + raw
      tStart := if w.count = 0 ∧ w.first.isNone then t else w.tStart }
    if w1.count < s.fld Reg.CAL_CTL_OFS_N then s.setOfs ch w1
    else
      let r := divRound ((w1.sum : Int) * 2 ^ 20) w1.count
      match w1.first with
      | none => s.setOfs ch { w1 with count := 0, sum := 0, first := some r }
      | some a => s.ofsPair ch w1 a r

/-- Every measurement in progress is discarded: on leaving L0, and where the mode or the power state changes (R246,
R251). -/
def State.voidWindows (s : State) : State :=
  { s with cal := { s.cal with
    ofs := (s.cal.ofs.map (fun e => (e.1, ({ acceptedAt := e.2.acceptedAt } : OfsWindow)))).filter (fun e => e.2 != {})
    biasWin := [] } }

/-- CAL_STATUS.STALE_OFS: channels whose last accepted offset is more than 60 s old. -/
def State.staleOfs (s : State) : Nat :=
  9728 - (s.cal.ofs.filter (fun e => match e.2.acceptedAt with
    | some t => decide (s.clk ≤ t + 60000000000)
    | none => false)).length

/-! ### Live BIAS_CAL (R254) -/

/-- The set point a zone lies at, within ±0.50 °C. -/
def setPoint (t : Int) : Option Nat := (List.range 8).find? (fun i => decide ((t - (2000 + 1000 * (i : Int))).natAbs ≤ 50))

/-- One hold period of a cell's BIAS_CAL window. -/
def State.biasWindow (s : State) (c : Nat) : State :=
  let x := s.cell c
  let t := s.zoneTemp (cellZone c)
  let put (s : State) (w : BiasWindow) : State := { s with cal := { s.cal with biasWin := tset {} s.cal.biasWin c w } }
  let w := tget {} s.cal.biasWin c
  match setPoint t with
  | some i =>
    if x.state = .track ∧ x.htrActive = false ∧ (s.dh c true).natAbs ≤ 16 ∧ (s.dh c false).natAbs ≤ 16
        ∧ s.livePass ∧ s.flag Reg.CAL_CTL_BIAS_LIVE_EN then
      let w0 : BiasWindow := if w.count = 0 ∧ w.first.isNone ∨ w.set ≠ i then { set := i, tStart := t } else w
      let w1 := { w0 with count := w0.count + 1, sum := w0.sum + 65536 * s.biasOut c - s.stageFf c }
      if w1.count < 8192 then put s w1
      else
        let r := divRound w1.sum (65536 * 8192)
        match w1.first with
        | none => put s { w1 with count := 0, sum := 0, first := some r }
        | some a =>
          let s1 := put s {}
          if (t - w1.tStart).natAbs > 100 then s1
          else if s1.agree .biasCal a r then
            { s1 with cal := { s1.cal with next := tput s1.cal.next (calKey .biasCal i c) (divRound (a + r) 2) } }
          else s1.calReject .biasCal c a r (s1.imgVal .biasCal i c)
    else put s {}
  | none => put s {}

/-! ### Extinction ratio (R260) -/

/-- Lit and dark output power of one sample, where one input is lit and the other at least 30 dB lower. -/
def erSample (m : LoopSample) (p : Predict) : Option (Nat × Nat) :=
  if m.eclipse ∨ p.unknown then none
  else
    let lit0 (inp0 : Bool) : Nat × Nat := if inp0 != m.cross then (m.p0, m.p1) else (m.p1, m.p0)
    match p.la, p.lb with
    | some a, some b => if a ≥ b + 30000 then some (lit0 true) else if b ≥ a + 30000 then some (lit0 false) else none
    | some _, none => some (lit0 true)
    | none, some _ => some (lit0 false)
    | none, none => none

/-- The quality record takes a period's ratio, 0.1 dB, where every conversion of it qualifies. -/
def State.erPeriod (s : State) (c : Nat) : State :=
  let l := (s.finalSamples c).filter (fun e => !e.1.eclipse)
  let rs := l.filterMap (fun e => erSample e.1 e.2)
  if l = [] ∨ rs.length ≠ l.length ∨ s.livePass = false then s
  else
    let lit := sumNat (rs.map Prod.fst)
    let dark := sumNat (rs.map Prod.snd)
    let floor := decide (dark < rs.length)
    match ratioDb lit (if floor then rs.length else dark) with
    | some r =>
      let q := tget {} s.cal.quality c
      let q1 := { q with ers := ((divRound r 10).toNat :: q.ers).take 16, floor := floor, erAt := some s.clk }
      { s with cal := { s.cal with quality := tset {} s.cal.quality c q1 } }
    | none => s

/-! ### Zones (R249, R250) -/

/-- A zone's published temperature: re-interpolated where it moved by 0.05 °C, extrapolating outside 20 to 90 °C. -/
def State.zonePublish (s : State) (z : Nat) (t : Int) : State :=
  let x := s.zone z
  let x1 := if (t - x.tUsed).natAbs ≥ 5 then { x with tNext := t } else x
  let put (s : State) (x : Zone) : State := { s with cal := { s.cal with zones := tset {} s.cal.zones z x } }
  if x.extrap = false ∧ (t < 2000 ∨ t > 9000) then
    (put s { x1 with extrap := true }).raise 0x0A03 [(1, z), (2, unsigned 16 t)]
  else if x.extrap ∧ 2050 ≤ t ∧ t ≤ 8950 then (put s { x1 with extrap := false }).raise 0x0A04 [(1, z)]
  else put s x1

/-- Calibration changes that wait take effect together at a hold-period boundary (R229, R249, R252). -/
def State.calBoundary (s : State) : State :=
  { s with cal := { s.cal with
    img := s.cal.next.foldl (fun t e => tput t e.1 e.2) s.cal.img
    next := []
    trims := s.cal.trimsNext.foldl (fun t e => tset 0 t e.1 e.2) s.cal.trims
    trimsNext := []
    zones := (s.cal.zones.map (fun e => (e.1, { e.2 with tUsed := e.2.tNext }))).filter (fun e => e.2 != {}) } }

end Sys2Proof.Machine
end

