-- ==== Sys2Proof/Machine/Loops.lean ====
section
/-!
DEFINITION. The hold loops' work at its instants (chapter 8): far ports (R117, R118), end-of-period work (R167), output
deadline (R168), CSTEP (R215), coefficient commits (R189), cell commands (Table 8.7).
-/

namespace Sys2Proof.Machine

/-! ### The control units as the loops see them -/

/-- One control unit. -/
def State.unit (s : State) (u : Nat) : CuUnit := if u = 0 then s.red.a else s.red.b

/-- A unit is ACTIVE. -/
def State.unitActive (s : State) : Bool := (s.unit s.red.activeUnit).state == .active

/-- Serial comparison of two registered claims leaves neither the higher (R243). -/
def ClaimReg.tie (c : ClaimReg) : Bool :=
  match c.a, c.b with
  | some a, some b => !newer 16 a b && !newer 16 b a
  | _, _ => false

/-- The unit whose commands an output stage accepts, with its claim (R243). -/
def ClaimReg.holder (c : ClaimReg) : Option (Nat × Nat) :=
  match c.a, c.b with
  | some a, some b => if newer 16 a b then some (0, a) else if newer 16 b a then some (1, b) else none
  | some a, none => some (0, a)
  | none, some b => some (1, b)
  | none, none => none

/-- The output stage of the DAC bank takes the active unit's words. -/
def State.dacAccepts (s : State) : Bool := s.unitActive && (s.dac.claim.holder.map Prod.fst) == some s.red.activeUnit

/-- The ADC sequencer delivers samples to the active unit's lanes. -/
def State.adcDelivers (s : State) : Bool := s.unitActive && !s.adc.claim.tie

/-- A lane of the active unit executes. -/
def State.laneRuns (s : State) (n : Nat) : Bool :=
  s.unitActive && (match (tget {} s.eng.cores (128 * s.red.activeUnit + n)).run with
    | .running => true
    | .waiting => true
    | _ => false)

/-! ### Far ports (R117, R118) -/

/-- Key of a far port's monitor: inputs 256 to 511, outputs 512 more. -/
def farKey (p : Nat) (out : Bool) : Nat := if out then 512 + p else p

def State.putFar (s : State) (key : Nat) (m : FarMon) : State :=
  { s with mx := { s.mx with far := tset {} s.mx.far key m } }

/-- Loss of signal of a far input after a period with a PEAK. -/
def State.losStep (s : State) (p : Nat) (m : FarMon) (peak : Int) : State :=
  let other := if m.los then decide (peak ≥ s.losLevel + 100) else decide (peak < s.losLevel)
  if other = false then s.putFar p { m with losRun := 0 }
  else if m.losRun = 0 then s.putFar p { m with losRun := 1 }
  else (s.putFar p { m with losRun := 0, los := !m.los }).raise (if m.los then 0x0E02 else 0x0E01)
    [(2, p), (2, unsigned 16 peak)]

/-- Overpower of a far port after a period with a PEAK. -/
def State.ovpStep (s : State) (p : Nat) (out : Bool) (peak : Int) : State :=
  let m := tget {} s.mx.far (farKey p out)
  if peak ≤ s.ovpLevel then s.putFar (farKey p out) { m with ovpRun := 0 }
  else
    let s1 := s.putFar (farKey p out) { m with ovpRun := min (m.ovpRun + 1) 3 }
    if m.ovpRun ≥ 2 then s1.raiseLim 0x0E03 (farKey p out) [(2, p), (1, ofBool out), (2, unsigned 16 peak)] else s1

/-- The three values of a far port for the period, and its states. A power below one unit counts as one unit. -/
def State.farPeriod (s : State) (p : Nat) (out : Bool) : State :=
  let key := farKey p out
  let m := tget {} s.mx.far key
  match (tget [] s.mx.farAcc key).map FarSample.power with
  | [] => s.putFar key { m with mean := none, peak := none, min := none, samples := 0 }
  | w :: rest =>
    let n := rest.length + 1
    let level (v : Nat) : Int := (linToDbm (max 1 v)).getD 0
    let peak := level (rest.foldl max w)
    let m1 := { m with
      mean := some (level ((w + sumNat rest) / n)), peak := some peak, min := some (level (rest.foldl min w))
      samples := n, high := decide ((w + sumNat rest) / n ≥ rangeSplit) }
    let s1 := s.putFar key m1
    let s2 := if out then s1 else s1.losStep p m1 peak
    s2.ovpStep p out peak

/-- Every far port of the period; a flagged pair's ports have no conversion (R232). -/
def State.farPeriods (s : State) : State :=
  (List.range 256).foldl (fun s i => (s.farPeriod (256 + i) false).farPeriod (256 + i) true) s

/-- Deviation of one far-output conversion from the power expected under the swatch in its tag, 0.01 dB (R118). -/
def State.pathDev (s : State) (out : Nat) (f : FarSample) : Option Int :=
  f.swatch.bind fun n =>
    let w := s.swatch n
    match w.perm.find? (fun e => e.2 == out) with
    | none => none
    | some (p, _) =>
      let cells := s.stuckCells w.cells
      match s.inPower true p with
      | .lit x =>
        let want := dbmToLin (x - s.lossOf (pathCells cells 16 0 p))
        ratioDb (max 1 f.power) (max 1 want)
      | _ => none

/-- PATH_IN of a far output: one word a round (R198). -/
def State.pathIn (s : State) (out : Nat) : List (Option Int) :=
  let l := tget [] s.mx.farAcc (512 + out)
  (List.range 8).map (fun j => (l.find? (fun f => f.round == j)).bind (s.pathDev out))

def devWord (d : Option Int) : Word :=
  match d with
  | some x => BitVec.ofNat 32 (unsigned 16 (clampInt x (-32767) 32767))
  | none => 0x8000

/-- The framework writes PATH_IN of every lane. -/
def State.putPathIn (s : State) : State :=
  (List.range 256).foldl (fun s i => ((List.range 8).zip (s.pathIn (256 + i))).foldl
    (fun s e => s.setDm (i / 4) (0x0CC0 + 8 * (i % 4) + e.1) (devWord e.2)) s) s

/-- PATH_OUT of the standard program: the mean deviation of the period, and whether it lies beyond PATH_TOL. -/
def State.standardPath (s : State) (out : Nat) : State :=
  let l := (s.pathIn out).filterMap id
  let mean := clampInt (meanInt l) (-32767) 32767
  let beyond := decide (mean.natAbs > 10 * s.fld Reg.MX_PATH_CTL_PATH_TOL)
  let v : Word := if l = [] then 0x8000 else BitVec.ofNat 32 (unsigned 16 mean + 65536 * ofBool beyond)
  (s.setDm ((out - 256) / 4) (0x0CE0 + (out - 256) % 4) v).pathOut out v

/-! ### Coefficients (R187, R189) -/

/-- A staged record's rules (Table 8.3), but for CELL, LANE, WALSH and STAGE_EXP, which no write changes. -/
def coefRecOk (ws : List Word) : Bool :=
  let w (k : Nat) : Nat := (lget 0 ws k).toNat
  let half (k : Nat) : Nat := w (k / 4) / 2 ^ (8 * (k % 4)) % 65536
  decide (ws.length = 16) && decide (half 4 < 16) && decide (16 ≤ half 6 ∧ half 6 ≤ 384)
    && decide (w 6 &&& 0xE0E0E0E0 = 0) && decide (w 7 < 2 ^ 24 ∧ w 8 < 2 ^ 24) && decide (half 0x24 < 256)
    && decide (half 0x26 < half 0x28 ∧ half 0x28 < half 0x2A ∧ half 0x2A + half 6 ≤ 32767)
    && decide (half 0x2C < half 0x2E) && decide (5 ≤ half 0x30 ∧ half 0x30 ≤ 200)
    && decide (16 ≤ half 0x32 ∧ half 0x32 ≤ 1023) && decide (w 13 = 0 ∧ w 14 = 0)

/-- Address of a word of the coefficient window. -/
def coefAddr (cell w : Nat) : Nat := 0x1480000 + 0x40 * cell + 4 * w

/-- The staging of a cell, started afresh where another cell's was staged. -/
def State.stageFor (s : State) (cell : Nat) : List Word :=
  if s.loops.stage.valid ∧ s.loops.stage.cell = cell then s.loops.stage.words
  else (tget? s.loops.coefNext cell).getD (tget [] s.loops.coef cell)

/-- A write to a word of the window (R189): word 0 and STAGE_EXP keep their values. -/
def State.coefWrite (s : State) (cell w : Nat) (v : Word) : State :=
  let ws := s.stageFor cell
  let ws1 := if w = 0 then ws
    else if w = 9 then lset ws 9 ((lget 0 ws 9 &&& 0xFF) ||| (v &&& 0xFFFFFF00))
    else lset ws w v
  { s with loops := { s.loops with stage := { cell := cell, valid := true, words := ws1 } } }

/-- A commit (R189). -/
def State.coefCommit (s : State) (cell : Nat) : State :=
  let ws := s.stageFor cell
  if coefRecOk ws then
    { s with loops := { s.loops with stage := { cell := cell }, coefNext := tput s.loops.coefNext cell ws } }
  else
    let s1 := { s with loops := { s.loops with stage := { cell := cell, valid := true, words := ws } } }
    s1.raiseLoop 0x0D06 (coefAddr cell 15) [(4, coefAddr cell 15)]

/-- COEF_WINDOW_WRITE. -/
def execCoefWindowWrite (cell word : Nat) (value : Word) (s : State) : Host.Outcome State Fault Refusal :=
  next <| s.hostAct 4 fun s => (if cell ≥ 4352 ∨ word ≥ 16 then s else if word = 15 then s.coefCommit cell else s.coefWrite cell word value)

/-- COEF_COMMIT. -/
def execCoefCommit (cell : Nat) (s : State) : Host.Outcome State Fault Refusal :=
  next <| s.hostAct 4 fun s => (if cell ≥ 4352 then s else s.coefCommit cell)

/-- The words of a cell's record stand in COEF of its lane's data memory. -/
def State.coefToDm (s : State) (c : Nat) (ws : List Word) : State :=
  ((List.range 16).zip ws).foldl (fun s e => s.setDm (s.laneOf c) (16 * s.indexOf c + e.1) e.2) s

/-- A record comes into force (R190): the cell's words follow it to a new lane, and BIAS_EN moves it into or out of
OFF. -/
def State.takeCoef (s : State) (c : Nat) (ws : List Word) : State :=
  let keep := (List.range 16).map (s.xchGet c)
  let s1 := { s with loops := { s.loops with coef := tput s.loops.coef c ws } }
  let s2 := ((List.range 16).zip keep).foldl (fun s e => s.xchSet c e.1 e.2) s1
  (s2.coefToDm c ws).refreshCell c

/-- Committed records take effect in the end-of-period work. -/
def State.takeCoefs (s : State) : State :=
  let s1 := s.loops.coefNext.foldl (fun s e => s.takeCoef e.1 e.2) s
  { s1 with loops := { s1.loops with coefNext := [] } }

/-! ### Cell commands (Table 8.7) -/

/-- RESET of one cell. -/
def State.resetCell (s : State) (c : Nat) : State :=
  match s.frozenState c with
  | some .stuck => s
  | some .hold => s
  | _ =>
    let i := satInt 32 (s.calAt .biasCal c * 65536 - s.tempFf c - s.stageFf c)
    let h := s.calAt .calHtr c * 65536
    let x := { s.cell c with suspect := false, failCount := 0, passRun := 0, integ := i, htrActive := false }
    let s1 := ((s.xchSet c 6 (BitVec.ofInt 32 i)).xchSet c 7 (BitVec.ofInt 32 h)).setCell c x
    match s1.frozenState c with
    | some f => s1.setCellState c x f
    | none => s1.setCellState c x.enterAcquire .acquire

/-- One action on one cell. -/
def State.cellAction (s : State) (action c : Nat) : State :=
  let x := s.cell c
  match action with
  | 1 => if s.frozenState c = some .suspect then s.releaseCell c 1 else s
  | 2 => s.resetCell c
  | 3 => (s.setCell c { x with disabled := true }).refreshCell c
  | 4 => (s.setCell c { x with disabled := false }).refreshCell c
  | _ => s

/-- The command that awaits the end-of-period work is carried out. -/
def State.runLoopCmd (s : State) : State :=
  match s.loops.cmd with
  | some k =>
    let s1 := (if k.all then allCells else [k.cell]).foldl (fun s c => s.cellAction k.action c) s
    { s1 with loops := { s1.loops with cmd := none } }
  | none => s

/-- A write of LE_LOOP_CMD. -/
def State.loopCmd (s : State) (cell action : Nat) (all : Bool) : State :=
  if s.loops.cmd.isSome ∨ cell ≥ 4352 ∨ action = 0 ∨ action > 4 then s.raiseLoop 0x0D06 0xD000C [(4, 0xD000C)]
  else
    let s1 := ((s.setFld Reg.LE_LOOP_CMD_CELL cell).setFld Reg.LE_LOOP_CMD_ACTION action).setFld Reg.LE_LOOP_CMD_ALL
      (ofBool all)
    { s1 with loops := { s1.loops with cmd := some { cell := cell, action := action, all := all } } }

def execLoopCmdRelease (cell : Nat) (all : Bool) (s : State) : Host.Outcome State Fault Refusal :=
  next <| s.hostAct 4 fun s => (s.loopCmd cell 1 all)
def execLoopCmdReset (cell : Nat) (all : Bool) (s : State) : Host.Outcome State Fault Refusal :=
  next <| s.hostAct 4 fun s => (s.loopCmd cell 2 all)
def execLoopCmdDisable (cell : Nat) (all : Bool) (s : State) : Host.Outcome State Fault Refusal :=
  next <| s.hostAct 4 fun s => (s.loopCmd cell 3 all)
def execLoopCmdEnable (cell : Nat) (all : Bool) (s : State) : Host.Outcome State Fault Refusal :=
  next <| s.hostAct 4 fun s => (s.loopCmd cell 4 all)

/-! ### End-of-period work (R167) -/

/-- Words 1 to 5, 13 and 14 of a cell's exchange block (R196). -/
def State.frameworkWords (s : State) (c : Nat) : State :=
  let s1 := (s.refreshCell c).summCell c
  let w (i : Int) : Word := BitVec.ofInt 32 i
  ((((((s1.xchSet c 0 (BitVec.ofNat 32 c)).xchSet c 1 (BitVec.ofNat 32 (s1.cell c).state.code)).xchSet c 3
    (w (s1.cellTemp c))).xchSet c 4 (w (s1.dh c true))).xchSet c 5 (w (s1.dh c false))).xchSet c 13
      (w (s1.calAt .calHtr c))).xchSet c 14 (w (s1.dscale c))

/-- Cells of the lanes of a mask that run. -/
def State.standardCells (s : State) (mask : Nat) : List Nat :=
  allCells.filter (fun c => bitAt mask (s.laneOf c) && s.laneRuns (s.laneOf c) && (tget? s.loops.coef c).isSome)

/-- Cells by state, as LE_LOOP_SUMn counts them: TRACK, DARK, MODEL, ACQUIRE, SUSPECT, STUCK and HOLD. -/
def State.cellSums (s : State) : List Nat :=
  let n (l : List LoopState) : Nat := (allCells.filter (fun c => l.contains (s.cell c).state)).length
  [n [.track], n [.dark], n [.model], n [.acquire], n [.suspect], n [.stuck, .hold]]

/-- PATH_IN is published, and LE_LOOP_CTL and MX_PATH_CTL are taken for the period (R195, R198). -/
def State.publishPaths (s : State) : State :=
  let t := s.putPathIn
  { t with eng := { t.eng with lctlSnap := s.regWord 0xD0000, pathcSnap := s.regWord 0xE000C } }

/-- Every output of the period awaits its PATH_OUT word while a unit is active (R198). -/
def State.awaitPaths (s : State) : State :=
  { s with loops := { s.loops with pathAwait := if s.unitActive then (List.range 256).map (256 + ·) else [] } }

/-- The work of one sampled period; bit L of `standard` says that lane L runs the standard program, whose work is done
here; other lanes step their cells by their own instructions. -/
def State.sampledWork (s : State) (standard : Nat) : State :=
  let s1 := s.farPeriods.takeCoefs.runLoopCmd
  let s2 := allCells.foldl State.frameworkWords s1
  let s4 := s2.publishPaths.awaitPaths
  let s5 := (s4.standardCells standard).foldl State.standardCell s4
  let s6 := ((List.range 256).filter (fun i => bitAt standard (i / 4) && s5.laneRuns (i / 4))).foldl
    (fun s i => s.standardPath (256 + i)) s5
  allCells.foldl (fun s c => (s.biasWindow c).erPeriod c) s6

/-- END_OF_PERIOD_WORK. -/
def State.endOfPeriod (s : State) (standard : Nat) : State :=
  if s.loops.counting = false ∨ s.loops.eopDone then s
  else
    let s1 := s.waitClk (s.loops.periodAt + 121600)
    let s2 := if s1.loops.sampled then s1.sampledWork standard else (s1.farPeriods.takeCoefs).runLoopCmd
    { s2 with loops := { s2.loops with eopDone := true, sums := s2.cellSums } }

def execEndOfPeriodWork (standard : Nat) (s : State) : Host.Outcome State Fault Refusal := next (s.endOfPeriod standard)

/-! ### CSTEP (R215) -/

/-- CSTEP's effect on a cell: the new state code, bit 3 set where it has none. -/
def State.cstep (s : State) (n : Fin 64) (ra : Word) : Word × State :=
  match (s.laneCells n)[ra.toNat % 128]? with
  | none => (8, s)
  | some c =>
    let x := s.cell c
    if s.loops.sampled = false ∨ s.ptime < 121800 ∨ s.ptime > 127600 ∨ x.stepped then
      (BitVec.ofNat 32 (x.state.code + 8), s)
    else
      let w := s.xchGet c 8
      let e : Option Int := if w = 0x80000000 then none else some w.toInt
      let s1 := s.setCell c (x.takeEst e x.usable x.coherence s.loops.period)
      let s2 := s1.judgeCell c (ra.toNat / 256 % 4)
      let s3 := s2.setCell c { s2.cell c with stepped := true }
      (BitVec.ofNat 32 (s3.cell c).state.code, s3)

/-- CSTEP rd, ra; its result has one delay slot. -/
def execCstep (c : CoreRef) (d a : Fin 16) (s : State) : Host.Outcome State Fault Refusal :=
  next <| s.issue c .transfer .lanes fun s x =>
    match c with
    | .lane n =>
      let (v, s1) := s.cstep n (x.reg a)
      .go { x with load := some { reg := d, value := v } } s1
    | .sup _ => .trap .illegal

/-! ### Output deadline (R168) -/

/-- The words a cell's lane has written are taken (R196, R199). -/
def State.takeCell (s : State) (c : Nat) : State :=
  let x := s.cell c
  let coh := (s.xchGet c 9).toNat % 1024
  s.setCell c { x with
    taken := x.written
    outBias := if x.written then signed 16 (s.xchGet c 11).toNat else x.outBias
    outHtr := if x.written then (s.xchGet c 12).toNat % 65536 else x.outHtr
    outFlags := (s.xchGet c 10).toNat % 8
    integ := (s.xchGet c 6).toInt
    coherence := coh }

/-- Lanes with cells whose words were not written, with the number of them. -/
def State.overruns (s : State) : List (Nat × Nat) :=
  ((List.range 64).map (fun l => (l, ((s.laneCells l).filter (fun c => !(s.cell c).written)).length))).filter
    (fun e => e.2 != 0)

/-- One overrun is counted, and reported where the line path was not silent (R168, R472). -/
def State.overrun (s : State) (lane cells : Nat) : State :=
  let s1 := s.bump Reg.LE_LOOP_ERR_OVERRUNS 1
  let s2 := { s1 with loops := { s1.loops with lastOverrun := lane } }
  if s2.red.lineMiss = 0 then s2.raiseLoop 0x0D05 lane [(1, lane), (1, cells)] else s2

/-- Data-memory words of the checkpoint: PRIV, and XCH words 6 to 12 (Table 9.1). -/
def ckptWord (key : Nat) : Bool :=
  let a := key % 12288
  decide (0x0880 ≤ a ∧ a < 0x0CC0) || (decide (0x0440 ≤ a ∧ a < 0x0880) && decide (6 ≤ a % 16 ∧ a % 16 ≤ 12))

/-- What the period's checkpoint holds is taken (R199). -/
def State.snapCheckpoint (s : State) : State :=
  { s with red := { s.red with snapDm := s.eng.dm.filter (fun e => ckptWord e.1), snapCells := s.loops.cells } }

/-- The deadline: words are taken, lanes that overran are counted. -/
def State.takeOutputs (s : State) : State :=
  if s.loops.deadlineDone then s
  else
    let s1 := { s with loops := { s.loops with deadlineDone := true } }
    if s1.loops.sampled ∧ s1.unitActive then
      let s2 := (s1.loops.coef.map Prod.fst).foldl State.takeCell s1
      (s2.each s1.overruns (fun s e => s.overrun e.1 e.2)).snapCheckpoint
    else s1

/-- LOOP_OUTPUT_DEADLINE. -/
def execLoopOutputDeadline (s : State) : Host.Outcome State Fault Refusal :=
  next (if s.loops.counting = false ∨ s.loops.deadlineDone then s
    else (s.waitClk (s.loops.periodAt + 127600)).takeOutputs)

/-! ### Path words that come late (R198) -/

/-- PATH_LATE: 1.0 µs after the boundary a lane's words that are still awaited count as not checked. -/
def execPathLate (lane : Fin 64) (s : State) : Host.Outcome State Fault Refusal :=
  next <|
    let mine (o : Nat) : Bool := (o - 256) / 4 == lane.val
    if s.loops.eopDone ∨ s.loops.pathAwait.any mine = false then s
    else
      let s1 := s.waitClk (s.loops.periodAt + 1000)
      ({ s1 with loops := { s1.loops with pathAwait := s1.loops.pathAwait.filter (fun o => !mine o) } }).raiseLoop
        0x0D09 lane [(1, lane)]

/-- LE_LOOP_PERIOD_LO_READ: the low word, with the high word latched (R165). -/
def State.loopPeriodLo (s : State) : State := { s with
    readData := BitVec.ofNat 32 s.loops.period
    loops := { s.loops with periodHiLatch := s.loops.period / 2 ^ 32 % 2 ^ 32 } }

/-- LE_LOOP_PERIOD_LO_READ as a host access. -/
def execLeLoopPeriodLoRead (s : State) : Host.Outcome State Fault Refusal := next (s.hostRead 4 fun s => s.loopPeriodLo)

end Sys2Proof.Machine
end

