-- ==== Sys2Proof/Machine/Converters.lean ====
section
/-!
DEFINITION. The converters (chapter 10): functions with start-up and shut-down (R55, R56), references, pair checks,
conversions and sample records, housekeeping, direct conversions, heater slew, DAC clears, monitor reads.
-/

namespace Sys2Proof.Machine

/-! ### Functions (R55, R56) -/

/-- An enable; the Bool tells whether a start-up begins. -/
def FnStatus.enable (f : FnStatus) : FnStatus × Bool :=
  if f.state = 0 then ({ f with state := 1, ready := false, stopPending := false }, true)
  else if f.state = 2 then ({ f with restartPending := true }, false)
  else ({ f with stopPending := false }, false)

/-- A disable; the Bool tells whether a shut-down begins. -/
def FnStatus.disable (f : FnStatus) : FnStatus × Bool :=
  if f.state = 2 then ({ f with restartPending := false }, false)
  else if f.state = 1 ∧ f.ready then ({ f with state := 2, ready := false }, true)
  else if f.state = 1 then ({ f with stopPending := true }, false)
  else (f, false)

/-- Start-up completes; a recorded disable then begins the shut-down. -/
def FnStatus.up (f : FnStatus) : FnStatus × Bool :=
  if f.state = 1 ∧ f.ready = false then
    if f.stopPending then ({ f with state := 2, ready := false, stopPending := false }, true)
    else ({ f with ready := true }, false)
  else (f, false)

/-- Shut-down completes; a recorded enable then begins the start-up. -/
def FnStatus.down (f : FnStatus) : FnStatus × Bool :=
  if f.state = 2 then
    if f.restartPending then ({ state := 1, ready := false, restartPending := false, stopPending := false }, true)
    else ({}, false)
  else (f, false)

/-! ### Pair flags (R230 to R233) -/

/-- CAUSE of a pair: the lowest code that holds (Table 10.19). -/
def PairSt.cause (x : PairSt) : Nat :=
  if x.check then 1 else if x.ref then 2 else if x.refchk then 3 else if x.timeout then 4 else if x.table then 5
  else if x.forced then 6 else 0

/-- A cause of a pair, and the pair with it set or cleared. -/
def PairSt.has (x : PairSt) : Nat → Bool
  | 1 => x.check
  | 2 => x.ref
  | 3 => x.refchk
  | 4 => x.timeout
  | 5 => x.table
  | _ => x.forced
def PairSt.put (x : PairSt) (cause : Nat) (b : Bool) : PairSt :=
  match cause with
  | 1 => { x with check := b }
  | 2 => { x with ref := b }
  | 3 => { x with refchk := b }
  | 4 => { x with timeout := b }
  | 5 => { x with table := b }
  | _ => { x with forced := b }

/-- Cells whose taps a pair owns. -/
def pairCells (k : Nat) : List Nat := allCells.filter (fun c => cellPair c == k)

/-- The cells of a pair enter or leave HOLD. -/
def State.refreshPair (s : State) (k : Nat) : State := (pairCells k).foldl State.refreshCell s

/-- A pair is flagged with a cause; its cells go to HOLD. -/
def State.flagPair (s : State) (k cause : Nat) : State :=
  let x := s.pair k
  if x.has cause then s
  else
    let s1 := s.setPair k { x.put cause true with flagsSeen := min (x.flagsSeen + 1) 255 }
    (s1.refreshPair k).raiseLim 0x0B01 k [(1, k), (1, cause), (2, x.lastD)]

/-- A cause is cleared: how is 0 automatic, 1 host or condition gone. -/
def State.unflagPair (s : State) (k cause how : Nat) : State :=
  let x := s.pair k
  if x.has cause = false then s
  else ((s.setPair k (x.put cause false)).refreshPair k).raiseLim 0x0B02 k [(1, k), (1, how)]

/-- ADC_RANGE and DAC_RANGE. -/
def State.adcRange (s : State) (addr : Nat) : State := s.raiseLim 0x0B04 addr [(4, addr)]
def State.dacRange (s : State) (addr : Nat) : State := s.raiseLim 0x0C06 addr [(4, addr)]

/-- Flag REF of every pair follows the references: not READY, or the pair's buffer out of its window. -/
def State.refFlags (s : State) : State :=
  s.each (List.range 16) fun s k =>
    if s.adc.ref.ready ∧ (s.pair k).refIn then s.unflagPair k 2 1 else s.flagPair k 2

/-! ### References (R230) -/

/-- The buffers start: READY comes 5 ms later. -/
def State.refStart (s : State) : State :=
  let (f, began) := s.adc.ref.enable
  let s1 := { s with adc := { s.adc with ref := f, refAt := if began then s.clk else s.adc.refAt } }
  if began then s1.refFlags else s1

/-- The buffers stop. -/
def State.refStop (s : State) : State :=
  let (f, began) := s.adc.ref.disable
  let s1 := { s with adc := { s.adc with ref := f } }
  if began then s1.refFlags else s1

/-- The host may write EN in modes 1 and 2 only. -/
def State.refHost (s : State) (en : Bool) : State :=
  if s.mode.mode = .safe ∨ s.mode.mode = .calibrate then
    let s1 := s.setFld Reg.ADC_REF_CTL_EN (ofBool en)
    if en then s1.refStart else s1.refStop
  else s.adcRange 0xB0000

/-- REF_ENABLE. -/
def execRefEnable (s : State) : Host.Outcome State Fault Refusal := next <| s.hostAct 7 fun s => (s.refHost true)

/-- REF_DISABLE. -/
def execRefDisable (s : State) : Host.Outcome State Fault Refusal := next <| s.hostAct 7 fun s => (s.refHost false)

/-- What each pair's buffer reads: bit k of `inWindow`. -/
def State.refWindows (s : State) (inWindow : Nat) : State :=
  s.each (List.range 16) fun s k => s.setPair k { s.pair k with refIn := bitAt inWindow k }

/-- REF_READY: 5 ms after the start READY is set if every buffer is in its window; while READY, a buffer that has left its
window flags its pair. -/
def execRefReady (inWindow : Nat) (s : State) : Host.Outcome State Fault Refusal :=
  next <|
    if s.adc.ref.state ≠ 1 then s
    else if s.adc.ref.ready then (s.refWindows inWindow).refFlags
    else
      let s1 := (s.waitClk (s.adc.refAt + 5000000)).refWindows inWindow
      if inWindow % 65536 = 65535 then
        let s2 := { s1 with adc := { s1.adc with ref := s1.adc.ref.up.1 } }
        s2.refFlags
      else s1

/-! ### Slots (R224 to R226) -/

/-- Position of a tap group that starts at a slot (Table 10.3). -/
def tapPosition (slot : Nat) : Option Nat :=
  if slot % 2 = 1 then none
  else if 4 ≤ slot ∧ slot ≤ 58 then some (108 + (slot - 4) / 2)
  else if slot < 64 ∨ slot > 302 then none
  else
    let g := (slot - 64) / 38
    let k := (slot - 64) % 38 / 2
    if k ≤ 16 then some (17 * g + k) else none

/-- Cell of a tap group of a converter (R225). -/
def tapCell (a slot : Nat) : Option Nat :=
  (tapPosition slot).map fun p =>
    let i := (p + 136 - 34 * a % 136) % 136
    256 * (i / 8) + 8 * a + i % 8

/-- Monitor group that starts at a slot (Table 10.2). -/
def monGroup (slot : Nat) : Option Nat :=
  if slot = 0 then some 0
  else if slot ≥ 60 ∧ (slot - 22) % 38 = 0 ∧ slot ≤ 288 then some ((slot - 22) / 38) else none

/-! ### Conversions -/

/-- A conversion of a converter that had not completed within its slot (R231). -/
def State.lateConversion (s : State) (conv : Nat) : State :=
  let x := s.pair (conv / 2)
  s.setPair (conv / 2) (if conv % 2 = 0 then { x with lateEven := x.lateEven + 1 } else { x with lateOdd := x.lateOdd + 1 })

/-- An error met on a correction entry (R229). -/
def State.entryError (s : State) (e : Option (Nat × Bool)) : State :=
  match e with
  | none => s
  | some (_, false) => s.bump Reg.ADC_ERR_TABLE_CORR 1
  | some (ch, true) =>
    let s1 := s.bump Reg.ADC_ERR_TABLE_UNCORR 1
    let bad := if s1.adc.tableBad.contains ch then s1.adc.tableBad else ch :: s1.adc.tableBad
    (({ s1 with adc := { s1.adc with tableBad := bad } }).flagPair (ownerOf ch / 2) 5).raiseLim 0x0B03 (ownerOf ch / 2)
      [(2, ch)]

/-- Swatch in a conversion's tag (R25). -/
def State.tagSwatch (s : State) : Option Nat := if s.swatchValid then s.mx.inForce else none

/-- WALSH code of a cell. -/
def State.walsh (s : State) (c : Nat) : Nat := s.coefByte c 3

/-- The sample of a cell at this instant, from its two corrected powers. -/
def State.sampleOf (s : State) (c round : Nat) (p0 p1 : Nat) : LoopSample × Predict :=
  let tag := s.tagSwatch
  let cells := s.tagCells tag
  let cross := bitAt cells c
  let p := s.predict false cells c cross
  let m : LoopSample := {
    period := s.loops.period, p0 := p0, p1 := p1, swatch := tag, cross := cross, eclipse := s.flagged s.time.now
    gain := 0, neg := walshNeg (s.walsh c) (s.chip round) }
  ({ m with gain := s.sampleGain c p m }, p)

/-- TAG of a sample record (Table 9.3). -/
def State.tagWord (s : State) (c round : Nat) (m : LoopSample) (p : Predict) (fresh : Bool) : Nat :=
  m.swatch.getD 0 + 2 ^ 10 * ofBool m.cross + 2 ^ 11 * ofBool m.eclipse + 2 ^ 12 * ofBool p.lit
    + 2 ^ 13 * ofBool p.unknown + 2 ^ 14 * ofBool (withinDb (m.p0 + m.p1) (p.p0 + p.p1) (s.coefHalf c 0x30))
    + 2 ^ 15 * ofBool m.neg + 2 ^ 16 * s.chip round + 2 ^ 20 * round + 2 ^ 23 * (s.loops.sampledCount % 2)
    + 2 ^ 24 * ofBool fresh

/-- A record enters the sample ring of the cell's lane (R197). -/
def State.putRecord (s : State) (c round slot : Nat) (m : LoopSample) (p : Predict) : State :=
  let lane := s.laneOf c
  let ref := CoreRef.lane (Fin.ofNat 64 lane)
  if s.adcDelivers = false ∨ s.laneRuns lane = false then s
  else
    let x := s.core ref
    let base := 0x0D00 + 8 * (x.srwc % 256)
    let words : List Nat := [m.p0, m.p1, unsigned 32 m.gain, s.tagWord c round m p x.fresh,
      s.indexOf c + 256 * c, p.p0 + p.p1, 15200 * round + 50 * slot, 0]
    let s1 := ((List.range 8).zip words).foldl (fun s e => s.setDm lane (base + e.1) (BitVec.ofNat 32 e.2)) s
    s1.setCore ref { s1.core ref with srwc := (x.srwc + 1) % 2 ^ 32 }

/-- A tap pair of a cell is delivered (R197, R224, R228); a pair without both values has no sample. -/
def State.tapPair (s : State) (c round slot : Nat) (raw : List (Option Nat)) : State :=
  let value (h : Nat) : Option Nat := (lget none raw h).bind (fun r => (s.correct (2 * c + h) r).map (fun e => e.2.toNat))
  let (v0, v1) := (value 0, value 1)
  let (m, p) := s.sampleOf c round (v0.getD 0) (v1.getD 0)
  let good := v0.isSome && v1.isSome && s.adcDelivers
  let m1 := if good then m else { m with gain := 0 }
  let x := s.cell c
  let s1 := if good then s.setCell c { x with samples := m :: x.samples } else s
  s1.putRecord c round slot m1 p

/-- The four conversions of a monitor group (R107, R224). -/
def State.monitorGroup (s : State) (p round : Nat) (raw : List (Option Nat)) : State :=
  let i := p - 256
  let value (ch h : Nat) : Option Int := (lget none raw h).bind (fun r => (s.correct ch r).map (fun e => max 0 e.2))
  let put (s : State) (key : Nat) (lo hi : Option Int) : State :=
    match lo, hi with
    | some l, some h =>
      let f : FarSample := { round := round, low := l, highP := h, swatch := s.tagSwatch }
      { s with mx := { s.mx with farAcc := tset [] s.mx.farAcc key (f :: tget [] s.mx.farAcc key) } }
    | _, _ => s
  if s.flagged s.time.now ∨ s.pairFlagged (portPair p) then s
  else
    put (put s p (value (8704 + 2 * i) 0) (value (8705 + 2 * i) 1)) (512 + p) (value (9216 + 2 * i) 2)
      (value (9217 + 2 * i) 3)

/-- Dark samples go to the Easel (R253). -/
def State.easelDark (s : State) (chs : List Nat) (raw : List (Option Nat)) : State :=
  if s.darkSample s.time.now then
    (chs.zip raw).foldl (fun s e => match e.2 with
      | some r => s.ofsSample e.1 r
      | none => s) s
  else s

/-- Channels of a hold group. -/
def tapChannels (c : Nat) : List Nat := [2 * c, 2 * c + 1]
def monChannels (p : Nat) : List Nat :=
  [8704 + 2 * (p - 256), 8705 + 2 * (p - 256), 9216 + 2 * (p - 256), 9217 + 2 * (p - 256)]

/-- One hold group of a round. -/
def State.roundGroup (s : State) (conv round slot : Nat) (raw : List (Option Nat)) : State :=
  match tapCell conv slot with
  | some c =>
    let r := raw.take 2
    let s1 := (r.filter (· == none)).foldl (fun s _ => s.lateConversion conv) s
    (s1.tapPair c round slot r).easelDark (tapChannels c) r
  | none =>
    match monGroup slot with
    | some g =>
      let p := 256 + 8 * conv + g
      let r := raw.take 4
      let s1 := (r.filter (· == none)).foldl (fun s _ => s.lateConversion conv) s
      (s1.monitorGroup p round r).easelDark (monChannels p) r
    | none => s

/-- A result of ADC_DIRECT (R234). -/
def State.directResult (s : State) (status raw : Nat) : State :=
  { s with adc := { s.adc with direct := none, directRaw := raw, directStatus := status } }.setFld
    Reg.ADC_DIRECT_DATA_DONE 1

/-- One conversion of the tail (Table 10.4). -/
def State.tailSlot (s : State) (conv m : Nat) (raw : Option Nat) : State :=
  match raw with
  | none => s.lateConversion conv
  | some r =>
    let k := conv / 2
    let x := s.pair k
    let even := conv % 2 == 0
    if m < 16 then
      s.setPair k (if even then { x with evenCheck := tput x.evenCheck m r } else { x with oddCheck := tput x.oddCheck m r })
    else if m < 48 then
      let ch := 9728 + 4 * conv + (m - 16) / 2 % 4
      { s with adc := { s.adc with hkAcc := tset [] s.adc.hkAcc ch (r :: tget [] s.adc.hkAcc ch) } }
    else if m < 56 then
      s.setPair k (if even then { x with zeroEven := r :: x.zeroEven } else { x with zeroOdd := r :: x.zeroOdd })
    else if m < 64 then
      s.setPair k (if even then { x with fullEven := r :: x.fullEven } else { x with fullOdd := r :: x.fullOdd })
    else if s.adc.direct.isSome ∧ ownerOf (s.fld Reg.ADC_DIRECT_CHANNEL) = conv then s.directResult 0 (r % 65536)
    else s

/-- Near transmitters that are lit at a conversion count for LIT_INPUTS (R550). -/
def State.litNow (s : State) : State := { s with mx := { s.mx with litAcc := s.mx.litAcc ||| s.mx.txOn } }

/-- ADC_CONVERSION: round 0 to 7 with the first slot of a hold group, or round 8 for the tail with its slot m. -/
def execAdcConversion (conv : Fin 32) (round slot : Nat) (raw : List (Option Nat)) (secded : Option (Nat × Bool))
    (s : State) : Host.Outcome State Fault Refusal :=
  next <|
    if s.loops.counting = false ∨ round > 8 ∨ round < 8 ∧ s.loops.sampled = false then s
    else
      let s1 := s.waitClk (s.loops.periodAt + 15200 * round + 50 * slot)
      if s1.adc.ref.ready = false then s1.flagPair (conv / 2) 2
      else
        let s2 := s1.entryError secded
        if round = 8 then (if slot < 128 then s2.tailSlot conv slot (lget none raw 0) else s2)
        else s2.litNow.roundGroup conv round slot raw

/-! ### Pair evaluation (R231, R232), at the end of a period -/

/-- Largest difference of the check conversions of a period. -/
def PairSt.maxDiff (x : PairSt) : Nat :=
  (List.range 16).foldl (fun d m => match tget? x.evenCheck m, tget? x.oddCheck m with
    | some a, some b => max d ((a : Int) - b).natAbs
    | _, _ => d) 0

/-- A check conversion of either converter is missing. -/
def PairSt.missing (x : PairSt) : Bool := decide (x.evenCheck.length < 16 ∨ x.oddCheck.length < 16)

/-- A mean reference conversion lies more than 300 LSB from its factory value. -/
def refOff (l : List Nat) (factory : Int) : Bool :=
  l != [] && decide (((sumNat l : Int) - factory * l.length).natAbs > 300 * l.length)
def State.pairRefOff (s : State) (k : Nat) (x : PairSt) : Bool :=
  refOff x.zeroEven (s.imgVal .refZero 0 (2 * k)) || refOff x.zeroOdd (s.imgVal .refZero 0 (2 * k + 1))
    || refOff x.fullEven (s.imgVal .refFull 0 (2 * k)) || refOff x.fullOdd (s.imgVal .refFull 0 (2 * k + 1))

/-- No conversion of the pair's check was reported in the period. -/
def PairSt.silent (x : PairSt) : Bool :=
  x.evenCheck == [] && x.oddCheck == [] && x.lateEven == 0 && x.lateOdd == 0

/-- The gathered conversions of a period are dropped. -/
def PairSt.freshPeriod (x : PairSt) : PairSt :=
  { x with
    lateEven := 0, lateOdd := 0, evenCheck := [], oddCheck := [], zeroEven := [], zeroOdd := [], fullEven := []
    fullOdd := [] }

/-- Causes CHECK, REFCHK and TIMEOUT are cleared. -/
def State.clearChecks (s : State) (k how : Nat) : State :=
  [1, 3, 4].foldl (fun s c => s.unflagPair k c how) s

/-- The period of one pair is judged. -/
def State.pairPeriod (s : State) (k : Nat) : State :=
  let x := s.pair k
  if s.adc.ref.ready = false ∨ x.silent then s.setPair k x.freshPeriod
  else
    let d := x.maxDiff
    let ctl := s.adc.chkCtl.toNat
    let cause := if d > ctl % 2048 then 1 else if s.pairRefOff k x then 3
      else if x.missing ∨ x.lateEven ≥ 8 ∨ x.lateOdd ≥ 8 then 4 else 0
    let y : PairSt := { x.freshPeriod with lastD := min d 2047 }
    if cause = 0 then
      let s1 := s.setPair k { y with badRun := 0, goodRun := y.goodRun + 1 }
      if bitAt ctl 11 ∧ y.goodRun + 1 ≥ 16 * (ctl / 65536 % 256) then s1.clearChecks k 0 else s1
    else
      let s1 := s.setPair k { y with badRun := min (y.badRun + 1) 4, goodRun := 0 }
      if y.badRun ≥ 3 then s1.flagPair k cause else s1

/-- Every pair; a direct request not served within two periods ends with status 2. -/
def State.tailEnd (s : State) : State :=
  let s1 := s.each (List.range 16) State.pairPeriod
  match s1.adc.direct with
  | some n => if n ≥ 1 then s1.directResult 2 0 else { s1 with adc := { s1.adc with direct := some (n + 1) } }
  | none => s1

/-- PAIR_FLAG_CLEAR: 1s written to FLAGGED clear CHECK, REFCHK and TIMEOUT (R232). -/
def State.clearFlagged (s : State) (mask : Nat) : State := s.each (bitList 16 mask) fun s k =>
    let s1 := s.clearChecks k 1
    s1.setPair k { s1.pair k with badRun := 0 }

/-- PAIR_FLAG_CLEAR as a host access. -/
def execPairFlagClear (mask : Nat) (s : State) : Host.Outcome State Fault Refusal := next (s.hostAct 7 fun s => s.clearFlagged mask)

/-- PAIR_FORCE_WRITE: FORCE flags a pair with cause FORCED while it is set. -/
def State.forcePairs (s : State) (mask : Nat) : State := (s.setFld Reg.ADC_PAIR_FLAG_FORCE mask).each (List.range 16) fun s k =>
    if bitAt mask k then s.flagPair k 6 else s.unflagPair k 6 1

/-- PAIR_FORCE_WRITE as a host access. -/
def execPairForceWrite (mask : Nat) (s : State) : Host.Outcome State Fault Refusal := next (s.hostAct 7 fun s => s.forcePairs mask)

/-! ### Housekeeping and direct conversions (R234, R235) -/

/-- One housekeeping channel is published. -/
def State.publish (s : State) (n : Nat) : State :=
  let ch := 9728 + n
  match (tget [] s.adc.hkAcc ch).filterMap (fun r => (s.correct ch r).map Prod.snd) with
  | [] => s
  | vs =>
    let v := meanInt vs
    let flag := s.pairFlagged (hkPair n)
    let s1 := { s with adc := { s.adc with hk := tset {} s.adc.hk n { value := v, valid := true, flagged := flag } } }
    if 64 ≤ n ∧ n < 96 ∧ flag = false then s1.zonePublish (n - 64) v else s1

/-- HK_PUBLISH: the values of the period are published at 124.0 µs. -/
def execHkPublish (s : State) : Host.Outcome State Fault Refusal :=
  next <|
    if s.loops.counting = false then s
    else
      let s1 := (s.waitClk (s.loops.periodAt + 124000)).each (List.range 128) State.publish
      { s1 with adc := { s1.adc with hkAcc := [] } }

/-- ADC_DIRECT_REQUEST: GO with a channel. -/
def State.adcDirect (s : State) (channel : Nat) : State :=
    if s.adc.direct.isSome then s.adcRange 0xB0020
    else
      let s1 := s.setFld Reg.ADC_DIRECT_CHANNEL channel
      if channel > 9855 then s1.directResult 3 0
      else if s.pwr.state ≥ 3 then s1.directResult 2 0
      else if s.adc.ref.ready = false then s1.directResult 1 0
      else { s1 with adc := { s1.adc with direct := some 0 } }

/-- ADC_DIRECT_REQUEST as a host access. -/
def execAdcDirectRequest (channel : Nat) (s : State) : Host.Outcome State Fault Refusal := next (s.hostAct 7 fun s => s.adcDirect channel)

/-! ### Heaters (R238) -/

/-- HEATER_SLEW_TICK: the next tick of the slew limiters. -/
def execHeaterSlewTick (s : State) : Host.Outcome State Fault Refusal :=
  next <|
    if s.pins.vaon = false then s
    else
      let us := if s.dac.maxRate then 1 else max 1 (s.fld Reg.DAC_HTR_SLEW_RATE)
      let s1 := s.waitClk ((s.clk / (1000 * us) + 1) * (1000 * us))
      let s2 := s1.slewTick (if s1.dac.maxRate then 256 else min 256 (s1.fld Reg.DAC_HTR_SLEW_STEP))
      if s2.dac.maxRate ∧ s2.dac.safeHold = false ∧ s2.dac.clr = false ∧ s2.dac.recover = false ∧ s2.htrSettled then
        { s2 with dac := { s2.dac with maxRate := false } }
      else s2

/-! ### DAC_CLR_N (R240 to R242) -/

/-- The two pins that hold a DAC clear are released. -/
def State.clrReleased (s : State) : Bool :=
  let f := s.filter 7
  let r := s.filter 8
  !(f.active || f.faulted || r.active || r.faulted)

/-- The clear's end begins once nothing holds it. -/
def State.dacRelease (s : State) : State :=
  if s.dac.clr ∧ s.clrReleased then { s with dac := { s.dac with released := true } } else s

/-- DAC_CLR_N is treated as asserted after a fault or chatter: 0 stuck, 1 chatter. -/
def State.clrInputFault (s : State) (kind : Nat) : State :=
  let s1 := { s with dac := { s.dac with clrFault := true, released := false } }
  let s2 := if s1.dac.clr then s1 else s1.dacClear 2
  s2.raiseLim 0x0C03 7 [(1, kind)]

/-- A pulse of DAC_CLR_N shorter than the minimum width. -/
def State.clrGlitch (s : State) (held : Nat) : State :=
  if held < s.minPw 7 then s.bump Reg.DAC_ERR_GLITCH 1 else s

/-- DAC_CLR_N_ASSERT. -/
def execDacClrNAssert (held : Nat) (s : State) : Host.Outcome State Fault Refusal :=
  next <|
    if s.pins.vaon = false then s
    else
      match s.edge 7 true held with
      | (.ignored, s1) => s1.clrGlitch held
      | (.accepted, s1) => (s1.elapse (s1.minPw 7 + 200)).dacClear 0
      | (.chatter, s1) => s1.clrInputFault 1

/-- DAC_CLR_N_RELEASE. -/
def execDacClrNRelease (held : Nat) (s : State) : Host.Outcome State Fault Refusal :=
  next <|
    if s.pins.vaon = false then s
    else
      match s.edge 7 false held with
      | (.ignored, s1) => s1.clrGlitch held
      | (.accepted, s1) => s1.dacRelease
      | (.chatter, s1) => s1.clrInputFault 1

/-! ### Monitor reads (R120, Tables 10.24 and 10.25) -/

/-- Level of the switching section of a cell now, pre-emphasis included (R236). -/
def State.driveNow (s : State) (c : Nat) : Nat :=
  let cross := bitAt s.mx.cells c
  let bar := (s.calAt .levelBar c).toNat
  let crs := (s.calAt .levelCross c).toNat
  let target := if cross then crs else bar
  if bitAt s.dac.stepCells c = false then target
  else if s.time.now < s.dac.stepAt then (if cross then bar else crs)
  else
    let steps := (unitsToPs ((s.time.now - s.dac.stepAt : Nat) : Int)).toNat / 125
    let first := if cross then 1 else 3
    let seg (k : Nat) : Nat := s.driveWord c (first + k / 2) / 65536 ^ (k % 2) % 4096
    let go := (List.range 4).foldl (fun (acc : Nat × Option Nat) k =>
      let d := seg k / 256 + 1
      if acc.2.isSome then acc
      else if acc.1 < d then (acc.1, some k) else (acc.1 - d, none)) (steps, none)
    match go.2 with
    | some k => (clampInt (target + signed 8 (seg k)) 0 1023).toNat
    | none => target

/-- Dither of a cell now (R171). -/
def State.ditherNow (s : State) (c : Nat) : Int :=
  if s.flag Reg.LE_LOOP_CTL_DITHER_EN = false ∨ s.loops.sampled = false ∨ (s.cell c).state = .off ∨ s.dac.safeHold
      ∨ s.dac.clr ∨ s.loops.counting = false then 0
  else if walshNeg (s.walsh c) (s.chip (min 7 (s.ptime / 15200))) then -(s.dither c : Int) else s.dither c

/-- DAC_MON_DATA_READ: the applied codes of the selected cell, with the heater codes latched. -/
def State.dacMonData (s : State) : State :=
    let c := s.fld Reg.DAC_MON_SEL_CELL
    { s with
      readData := BitVec.ofNat 32 (unsigned 16 (s.biasOut c + s.ditherNow c) + 65536 * s.driveNow c
        + 2 ^ 26 * ofBool (bitAt s.mx.cells c))
      dac := { s.dac with monLatch := some (BitVec.ofNat 32 (s.htrOut c + 65536 * s.htrTarget c)) } }

/-- DAC_MON_DATA_READ as a host access. -/
def execDacMonDataRead (s : State) : Host.Outcome State Fault Refusal := next (s.hostRead 6 fun s => s.dacMonData)

/-- MX_MON_SEL_WRITE. -/
def State.monSel (s : State) (value : Word) : State :=
    let v := value.toNat
    if v % 512 < 256 then s.raise 0x0E06 [(4, 0xE0010)]
    else
      let s1 := (s.setFld Reg.MX_MON_SEL_PORT v).setFld Reg.MX_MON_SEL_DIR (v / 512)
      { s1 with mx := { s1.mx with monLatch := none } }

/-- MX_MON_SEL_WRITE as a host access. -/
def execMxMonSelWrite (value : Word) (s : State) : Host.Outcome State Fault Refusal := next (s.hostAct 0 fun s => s.monSel value)

/-- A level as 16 bits, 0x8000 for the sentinel. -/
def level16 (l : Option Int) : Nat := match l with
  | some x => unsigned 16 x
  | none => 0x8000

/-- MX_MON_DATA_READ: MEAN and PEAK of the selected port, with MX_MON_DATA2 latched. -/
def State.monData (s : State) : State :=
    let out := s.flag Reg.MX_MON_SEL_DIR
    let key := farKey (s.fld Reg.MX_MON_SEL_PORT) out
    let m := tget {} s.mx.far key
    let w2 := level16 m.min + 65536 * m.samples + 2 ^ 20 * ofBool m.high + 2 ^ 21 * ofBool (m.los && !out)
      + 2 ^ 22 * ofBool (s.withheld 0x0E03 key)
    { s with
      readData := BitVec.ofNat 32 (level16 m.mean + 65536 * level16 m.peak)
      mx := { s.mx with monLatch := some (BitVec.ofNat 32 w2) } }

/-- MX_MON_DATA_READ as a host access. -/
def execMxMonDataRead (s : State) : Host.Outcome State Fault Refusal := next (s.hostRead 0 fun s => s.monData)

end Sys2Proof.Machine
end

