-- ==== Sys2Proof/Machine/Fabric.lean ====
section
/-!
DEFINITION. Fabric lanes: the selector of R336, burst messages (R273 to R275), and the receive checks (R276, R277) with
the admission of fabric frames (R330).
-/

namespace Sys2Proof.Machine

/-! ### Sending -/

/-- Message bytes that a burst of the interval in force can hold (R273). -/
def State.burstCap (s : State) : Nat :=
  let w : Nat := s.orb.intLen - s.eclipseNs * nsUnit
  let n := (1125 * w - 2240 * nsUnit) / (100 * nsUnit)
  let m := 514 * (n / 544) + (n % 544 - 30)
  10 * m / 8

/-- Does lane i send a burst in the interval in force: it serves, and the interval carries bursts (R20, R280)? -/
def State.laneSends (s : State) (i : Nat) : Bool :=
  s.intervalsRun && s.orb.intBurst && (s.lane (256 + i)).serving

/-- Lanes that serve a module in the interval, in ascending order (R17). -/
def State.lanesTo (s : State) (m : Nat) : List Nat :=
  (s.orb.targets.filter (fun e => e.2 == m && s.laneSends e.1 && bitAt s.mx.txOn e.1)).map Prod.fst

/-- Is a module open in the interval: the slot's packet gate admits it (R147); persistent intervals have no gate. -/
def State.moduleOpen (s : State) (m : Nat) : Bool :=
  match s.orb.running, s.orb.active with
  | true, some b => bitAt (b.openModules s.orb.slot) m
  | _, _ => true

/-- The lane that a flow hash names (R17). -/
def State.hashLane (s : State) (m hash : Nat) : Option Nat :=
  let l := s.lanesTo m
  if l = [] then none else some (l.getD (hash % l.length) 0)

/-- Can a lane take a record of L frame bytes (R16, R273)? -/
def State.laneTakes (s : State) (i len : Nat) : Bool :=
  decide (32 + (s.lane (256 + i)).burstRecs.length + 16 + len + 16 ≤ s.burstCap)

/-- Number of a VOQ (R325). -/
def voq (g d c : Nat) : Nat := (g * 768 + d) * 8 + c

/-- The frames of a VOQ toward a module, in order. -/
def State.voqFrames (s : State) (g m c : Nat) : List Frame :=
  s.tm.frames.filter (fun f => !f.fabric && f.dst == 256 + m && f.cls == c && s.groupOf f == g)

/-- The first frame of the look-ahead that can be placed, with the hashes of those skipped before it (R336). -/
def State.placeable (s : State) (m : Nat) : List Nat → List Frame → Option (Frame × Nat) × List Nat
  | skip, [] => (none, skip)
  | skip, f :: rest =>
    if skip.contains f.hash then s.placeable m skip rest
    else match s.hashLane m f.hash with
      | some i => if s.laneTakes i f.data.length then (some (f, i), skip) else s.placeable m (f.hash :: skip) rest
      | none => s.placeable m (f.hash :: skip) rest

/-- What a VOQ offers the selector: its head and up to 7 frames behind it. -/
def State.voqOffer (s : State) (g m c : Nat) : Option (Frame × Nat) × List Nat :=
  let v := voq g (256 + m) c
  if s.tm.passed.contains v then (none, tget [] s.tm.skips v)
  else s.placeable m (tget [] s.tm.skips v) ((s.voqFrames g m c).take 8)

/-- A VOQ with no placeable frame is passed over for the rest of the interval; its deficit is kept (R336). -/
def State.passOver (s : State) (m : Nat) : State :=
  let all := (List.range 16).flatMap (fun g => (List.range 8).map (fun c => (g, c)))
  s.each all (fun s gc =>
    let v := voq gc.1 (256 + m) gc.2
    if (s.voqFrames gc.1 m gc.2) = [] then s
    else
      let o := s.voqOffer gc.1 m gc.2
      let s1 := { s with tm := { s.tm with skips := tset [] s.tm.skips v o.2 } }
      if o.1.isNone ∧ s1.tm.passed.contains v = false then
        { s1 with tm := { s1.tm with passed := v :: s1.tm.passed } }
      else s1)

/-- The group-level DRR of a class toward a module. -/
def State.selGroup (s : State) (m c : Nat) : Option (Nat × Frame × Nat) × Drr :=
  let d := tget {} s.tm.selGrp (8 * m + c)
  let offer (g : Nat) : Option (Frame × Nat) := (s.voqOffer g m c).1
  let v : DrrView := {
    n := 16
    len := fun g => match offer g with
      | some x => some (x.1.data.length + 16)
      | none => if s.voqFrames g m c = [] then none else some 0
    elig := fun g => (offer g).isSome
    quantum := fun _ => leAt s.queuePlan 0xB50 2 }
  match drrPick v d with
  | (some g, d1) => ((offer g).map (fun x => (g, x.1, x.2)), d1)
  | (none, d1) => (none, d1)

/-- Record length that a class offers. -/
def State.selLen (s : State) (m c : Nat) : Option Nat := (s.selGroup m c).1.map (fun x => x.2.1.data.length + 16)

/-- The class-level choice toward a module, with its DRR after it (R336, R352). -/
def State.selClass (s : State) (m : Nat) : Option Nat × Drr :=
  let d := tget {} s.tm.selCls m
  let mask := byteAt s.queuePlan 0xB52
  match ((List.range 8).reverse).find? (fun c => bitAt mask c && (s.selLen m c).isSome) with
  | some c => (some c, d)
  | none =>
    let v : DrrView := {
      n := 8, len := fun c => if bitAt mask c then none else s.selLen m c
      elig := fun _ => true, quantum := fun c => leAt s.queuePlan (0xB40 + 2 * c) 2 }
    drrPick v d

/-- Fabric header of a frame (Table 12.3). -/
def fabricHeader (f : Frame) (src : Nat) : Bytes :=
  leBytes 2 f.data.length ++ leBytes 1 f.dstPort
    ++ leBytes 1 (f.cls + 8 * f.colour + 32 * ofBool f.tsValid + 64 * ofBool f.ptp)
    ++ leBytes 2 src ++ leBytes 2 f.epoch ++ leBytes 8 (if f.tsValid then shortStamp f.ts else 0)

/-- A frame is placed in a lane's burst: it leaves the buffer (R337, R305). -/
def State.placeFrame (s : State) (i : Nat) (f : Frame) : State :=
  let l := s.lane (256 + i)
  let h := fabricHeader f (f.srcPort.getD 0)
  let s1 := s.setLane (256 + i) { l with
    burstRecs := l.burstRecs ++ h ++ f.data, burstFrames := l.burstFrames + 1
    burstBytes := l.burstBytes + f.data.length, burstHdrs := l.burstHdrs ++ h }
  let s2 := (s1.count (laneCnt (256 + i) 2) 1).count (laneCnt (256 + i) 3) f.data.length
  (s2.unqueue f).countPair f

/-- The packet engine has stopped, or its fabric queues are being discarded (R38). -/
def State.engineHalted (s : State) : Bool := !s.mode.mode.packets || s.mode.drainEnd.isSome

/-- FABRIC_RECORD_TAKE (R336): a serving lane can take its next record; the selector of its target chooses. -/
def State.recordTake (s : State) (i : Nat) : State :=
  match tget? s.orb.targets i with
  | none => s
  | some m =>
    if (s.lanesTo m).contains i = false ∨ s.moduleOpen m = false ∨ s.engineHalted then s
    else
      let s1 := s.passOver m
      match s1.selClass m with
      | (some c, d) =>
        match s1.selGroup m c with
        | (some (_, f, lane), dg) =>
          let s2 := { s1 with tm := { s1.tm with
            selCls := tset {} s1.tm.selCls m d, selGrp := tset {} s1.tm.selGrp (8 * m + c) dg } }
          (s2.placeFrame lane f).settle
        | (none, _) => s1
      | (none, _) => s1

def execFabricRecordTake (lane : Fin 256) (s : State) : Host.Outcome State Fault Refusal := next (s.recordTake lane)

/-! ### The burst message (R274, R275) -/

/-- The burst header of lane i for the interval in force (Table 12.2). -/
def State.burstHeader (s : State) (i : Nat) : Bytes :=
  let ns := timeNs s.orb.intStart
  let orbit := if s.orb.running then (s.orb.active.map OrbitBank.id).getD 0 else 0
  let b := leBytes 2 (s.moduleId + 2 ^ 12) ++ leBytes 1 i ++ leBytes 1 s.mode.mode.code ++ leBytes 4 orbit
    ++ leBytes 2 (if s.orb.running then s.orb.slot else 0)
    ++ leBytes 2 (ofBool (!s.orb.running) + 2 * ofBool (!s.traceable))
    ++ leBytes 4 (s.lane (256 + i)).burstSeq ++ leBytes 4 (ns / 1000000000) ++ leBytes 4 (ns % 1000000000) ++ zeros 4
  b ++ leBytes 4 (crc32c b)

/-- The trailer (Table 12.3). -/
def trailer (hdr hdrs : Bytes) (frames bytes : Nat) : Bytes :=
  let t := leBytes 2 (2 ^ 14) ++ zeros 2 ++ leBytes 4 frames ++ leBytes 4 bytes
  t ++ leBytes 4 (crc32c (hdr ++ hdrs ++ t))

/-- The whole message of lane i's burst. -/
def State.burstMessage (s : State) (i : Nat) : Bytes :=
  let l := s.lane (256 + i)
  let h := s.burstHeader i
  h ++ l.burstRecs ++ trailer h l.burstHdrs l.burstFrames l.burstBytes

/-- The burst of lane i ends: it is counted and numbered, and leaves where the transmitter is lit (R22, R274). -/
def State.closeBurst (s : State) (i : Nat) : State :=
  let l := s.lane (256 + i)
  let m := s.burstMessage i
  let s1 := s.count (laneCnt (256 + i) 0) 1
  let s2 := if l.burstFrames = 0 then s1.count (laneCnt (256 + i) 1) 1 else s1
  let s3 := s2.setLane (256 + i) { l with
    burstSeq := seqNext l.burstSeq, burstRecs := [], burstFrames := 0, burstBytes := 0, burstHdrs := [] }
  if bitAt s.mx.txOn i then s3.emit (.burst (256 + i) m) else s3

/-- Every burst of the interval in force ends with it. -/
def State.closeBursts (s : State) : State :=
  s.each ((List.range 256).filter s.laneSends) State.closeBurst

/-! ### Receiving (R276, R277) -/

/-- Matrix input that the swatch in force connects to near output i. -/
def State.inputTo (s : State) (i : Nat) : Option Nat :=
  match s.mx.inForce with
  | some n => ((s.swatch n).perm.find? (fun e => e.2 == i)).map Prod.fst
  | none => none

/-- Does lane i expect a burst in the interval in force (LANE_STAT.EXPECTING)? -/
def State.expecting (s : State) (i : Nat) : Bool :=
  s.intervalsRun && (s.lane (256 + i)).serving && (s.inputTo i).isSome && s.orb.intBurst

/-- Mode that a module's Comets report. -/
def State.cometMode (s : State) (m : Nat) : Option Nat := (tget? s.ikl.table m).map (fun e => byteAt e.body 3 % 16)

/-- The expected source of lane i, and whether any other member is accepted too (R24, R276). -/
def State.expectedSrc (s : State) (i : Nat) : Option Nat × Bool :=
  match s.inputTo i with
  | some p =>
    if p < 256 then (some s.moduleId, false)
    else match s.fibreIn p with
      | some (m, _) => (some m, s.cometMode m == some 6 || s.cometMode m == some 7)
      | none => (none, false)
  | none => (none, false)

/-- A failure of a receive check is counted; BURST_LOSS at most once per second for a lane (R276). -/
def State.burstFail (s : State) (i check counter : Nat) : State :=
  let n := 256 + i
  let s1 := s.count (laneCnt n counter) 1
  let l := s1.lane n
  let s2 := s1.setLane n { l with lossCount := l.lossCount + 1, lastCause := check }
  if s2.withheld 0x1004 n then s2
  else
    let s3 := s2.raiseLim 0x1004 n [(2, n), (1, check), (4, l.lossCount + 1)]
    s3.setLane n { s3.lane n with lossCount := 0 }

/-- Does a byte range meet an undecodable one? Ranges are offset and length. -/
def meetsBad (bad : List (Nat × Nat)) (off len : Nat) : Bool :=
  bad.any (fun r => decide (r.1 < off + len ∧ off < r.1 + r.2))

/-- Check 2: header CRC, VERSION, reserved bits. -/
def headerGood (h : Bytes) : Bool :=
  decide (h.length = 32) && leAt h 28 4 == crc32c (h.take 28) && bitsOf (leAt h 0 2) 15 12 == 1
    && bitsOf (leAt h 0 2) 11 9 == 0 && leAt h 8 2 / 2 ^ 12 == 0 && leAt h 10 2 / 4 == 0 && leAt h 0x14 4 / 2 ^ 30 == 0
    && leAt h 0x18 4 == 0

/-- Check 4: the Orbit of the burst. -/
def State.orbitGood (s : State) (h : Bytes) : Bool :=
  let id := leAt h 4 4
  if s.mode.mode.slotted then
    some id == s.orb.active.map OrbitBank.id
      || (some id == s.orb.replaced && decide (s.time.now < s.orb.lastTko + 1000000 * nsUnit))
  else id == 0 && bitAt (leAt h 10 2) 0

/-- Admission to a fabric egress queue (R330). -/
def State.fabricAdmit (s : State) (f : Frame) : State :=
  let n := cellsOf f.data.length
  if s.fabUse f.dstPort f.cls + n > s.fabQLimit ∨ s.fabUsed + n > s.fabPool ∨ s.descUsed ≥ bufferCells then
    (s.count (portCnt f.dstPort (96 + f.cls)) 1).raiseLim 0x1403 f.dstPort [(2, f.dstPort), (1, f.cls)]
  else
    let (b, s1) := s.newBuf { owner := .fabric f.dstPort f.cls, cells := n }
    s1.enqueue { f with buf := b }

/-- A frame record that passed checks 5 and 6 (R19): check 7, then admission. -/
def State.fabricFrame (s : State) (i src : Nat) (h data : Bytes) : State :=
  let n := 256 + i
  let s1 := (s.count (laneCnt n 5) 1).count (laneCnt n 6) data.length
  let p := byteAt h 2
  let w := byteAt h 3
  if s1.portOpen p = false then s1.count (portCnt p 53) 1
  else
    s1.fabricAdmit {
      buf := 0, srcPort := none, remoteSrc := byteAt h 4, remoteModule := src, dst := p, fabric := true, mirror := none
      dstPort := p, cls := w % 8, colour := w / 8 % 4, data := data, epoch := leAt h 6 2, counter := 0, hash := 0
      ts := s1.fromStamp (leAt h 8 8), tsValid := bitAt w 5, ptp := bitAt w 6, launch := none, rule := none
      stomped := false, control := none, interval := s1.orb.intStart }

/-- Check 5: a record's header suits its type. -/
def recordGood (h : Bytes) : Bool :=
  let t := leAt h 0 2 / 2 ^ 14
  let len := leAt h 0 2 % 2 ^ 14
  (t == 0 && decide (64 ≤ len ∧ len ≤ 9216) && byteAt h 3 / 128 == 0 && byteAt h 5 == 0)
    || (t == 1 && len == 0 && leAt h 2 2 == 0)

/-- Checks 8 and 9 (R276). -/
def State.burstEnd (s : State) (i : Nat) (b : BurstIn) (hdr hdrs t : Bytes) (frames bytes : Nat) : State :=
  if b.endFound = false then s.burstFail i 8 13
  else
    let s1 := if leAt t 12 4 = crc32c (hdr ++ hdrs ++ t.take 12) then s else s.burstFail i 9 14
    if leAt t 4 4 = frames ∧ leAt t 8 4 = bytes % 2 ^ 32 then s1 else s1.burstFail i 9 15

/-- The records of a burst from an offset on (checks 5 to 9). -/
def burstRecords (i : Nat) (b : BurstIn) (hdr : Bytes) : Nat → Nat → Bytes → Nat → Nat → State → State
  | 0, _, _, _, _, s => s
  | fuel + 1, off, hdrs, frames, bytes, s =>
    let h := slice b.message off 16
    if off ≥ b.message.length ∧ b.endFound = false then s.burstFail i 8 13
    else if h.length < 16 ∨ meetsBad b.bad off 16 ∨ recordGood h = false then s.burstFail i 5 11
    else if leAt h 0 2 / 2 ^ 14 = 1 then s.burstEnd i b hdr hdrs h frames bytes
    else
      let len := leAt h 0 2 % 2 ^ 14
      let data := slice b.message (off + 16) len
      let ok := decide (data.length = len) && !meetsBad b.bad (off + 16) len && fcsGood data
      let s1 := if ok then s.fabricFrame i (leAt hdr 0 2 % 512) h data else s.burstFail i 6 12
      burstRecords i b hdr fuel (off + 16 + len) (hdrs ++ h) (frames + 1) (bytes + len) s1

/-- LANE_LAG of a burst in ps: the stamp less (b + E), b taken from the header (R277). -/
def State.burstLag (s : State) (h : Bytes) (delim : Int) : Int :=
  let sec : Nat := nearestSec (timeNs s.time.now / 1000000000) (leAt h 0x10 4) 32
  let b : Nat := sec * secUnit + leAt h 0x14 4 % 2 ^ 30 * nsUnit
  satInt 32 (delim + unitsToPs ((s.orb.intStart : Int) - (b : Int)))

/-- A burst that passed check 2: stamp, source, Orbit, records. -/
def State.burstBody (s : State) (i : Nat) (b : BurstIn) (delim : Int) : State :=
  let n := 256 + i
  let h := b.message.take 32
  let s1 := s.setLane n { s.lane n with lag := s.burstLag h delim }
  let src := leAt h 0 2 % 512
  let e := s1.expectedSrc i
  if e.1 ≠ some src ∧ (e.2 = false ∨ src = s1.moduleId) then
    (s1.raiseLim 0x0120 n [(2, n), (2, e.1.getD 0xFFFF), (2, src)]).burstFail i 3 9
  else if s1.orbitGood h = false then s1.burstFail i 4 10
  else
    let l := s1.lane n
    let s2 := (s1.setLane n { l with
      lastSrc := src, lastSrcLane := byteAt h 2, lastValid := true, lastSeq := leAt h 12 4 }).count (laneCnt n 4) 1
    burstRecords i b h (b.message.length / 16 + 1) 32 [] 0 0 s2

/-- BURST_RX (R276): a receiver that expects no burst counts nothing. -/
def State.burstIn (s : State) (i : Nat) (b : BurstIn) : State :=
  if s.expecting i = false then s
  else
    let n := 256 + i
    let (w, s0) := s.draw
    let s1 := (s0.count (laneCnt n 16) b.corrected).count (laneCnt n 17) b.uncorrectable
    let s2 := s1.setLane n { s1.lane n with pwr := some (signed 16 w.toNat), cdrLock := b.delim.isSome }
    match b.delim with
    | none => s2.burstFail i 1 7
    | some d =>
      if d > 20000 then s2.burstFail i 1 7
      else if meetsBad b.bad 0 32 ∨ headerGood (b.message.take 32) = false then s2.burstFail i 2 8
      else (s2.burstBody i b d).settle

def execBurstRx (lane : Fin 256) (burst : BurstIn) (s : State) : Host.Outcome State Fault Refusal :=
  next (s.burstIn lane burst)

/-- START_DELIMITER_TIMEOUT (R276, check 1): no start delimiter by b + E + 20 ns. -/
def execStartDelimiterTimeout (lane : Fin 256) (s : State) : Host.Outcome State Fault Refusal :=
  next <|
    if s.expecting lane = false then s
    else
      let s1 := s.waitTime (s.orb.intStart + (s.eclipseNs + 20) * nsUnit)
      let n : Nat := 256 + lane.val
      (s1.setLane n { s1.lane n with cdrLock := false }).burstFail lane 1 7

end Sys2Proof.Machine
end

