-- ==== Sys2Proof/Machine/LanesPorts.lean ====
section
/-!
DEFINITION. Start-up and shut-down of member ports and fabric lanes (R55, R56, R266, R268, R279 to R281), and the end of
every function's shut-down.
-/

namespace Sys2Proof.Machine

/-! ### Lanes of a port -/

/-- Lanes of a port: FIRST_LANE and up, 1, 2, 4 or 8 of them (R85, Table 12.1). -/
def State.portLanes (s : State) (p : Nat) : List Nat := (List.range (2 ^ s.speed p)).map (s.firstLane p + ·)

/-- LANE_PLAN's record of a lane, 0 where it has none (R86). -/
def State.lanePlan (s : State) (n : Nat) : Nat :=
  let plan := s.section 4
  (((List.range (plan.length / 4)).map (fun i => leAt plan (4 * i) 4)).find? (fun w => w % 512 == n)).getD 0

/-- LINK_TRAIN of a port's lanes (R266). -/
def State.linkTrain (s : State) (p : Nat) : Bool := bitAt (s.lanePlan (s.firstLane p)) 15

/-- Every lane of a port is changed. -/
def State.eachLane (s : State) (p : Nat) (f : LaneSt → LaneSt) : State :=
  s.each (s.portLanes p) (fun s n => s.setLane n (f (s.lane n)))

/-- Member lanes can run: the packet domain is awake and the mode is not 6 or 7 (R36, R45). -/
def State.lanesAwake (s : State) : Bool :=
  decide (s.pwr.state = 0) && s.mode.mode != .coreSlotted && s.mode.mode != .corePersistent

/-- Fabric lanes can run: they sleep in L1 and below (Table 2.1, Table 2.4). -/
def State.fabricAwake (s : State) : Bool := decide (s.pwr.state = 0)

/-! ### The port function -/

/-- A port's start-up begins: its lanes start, then it negotiates or aligns (R279). -/
def State.portStart (s : State) (p : Nat) : State :=
  let x := s.port p
  let (f, began) := x.fn.enable
  let s1 := s.setPort p { x with fn := f }
  if began then s1.eachLane p (fun l => { l with fn := l.fn.enable.1, trainDone := false, trainFail := false }) else s1

/-- What is left of a link as it goes down: alignment, negotiation and the pauses. -/
def State.linkLost (s : State) (p : Nat) : State :=
  let x := s.port p
  let s1 := s.setPort p { x with linkUp := false, anDone := false, downUntil := s.clk + 10000000 }
  s1.eachLane p (fun l => { l with aligned := false })

/-- Flag of PORT_STAT that a cause of Table 12.9 sets. -/
def PortSt.faulted (x : PortSt) (cause : Nat) : PortSt :=
  match cause with
  | 1 => { x with hiSer := true }
  | 2 => { x with localFault := true }
  | 3 => { x with remoteFault := true }
  | _ => x

/-- A port that was up goes down with a cause (R268): its queued frames are discarded (R341, R358), and FLUSH_ON_DOWN
flushes its dynamic entries (R319). -/
def State.linkDown (s : State) (p cause : Nat) : State :=
  let s1 := s.setPort p ((s.port p).faulted cause)
  if (s.port p).linkUp then
    let s2 := (s1.linkLost p).raise 0x1102 [(2, p), (1, cause)]
    let s3 := s2.discardPort p
    let s4 := if s3.flag Reg.FDB_CTL_FLUSH_ON_DOWN then s3.startFlush s3.moduleId p none false none false else s3
    s4.settle
  else s1

/-- The shut-down of a port begins: the frame in progress completes, then the link goes down with cause 4 (R279). -/
def State.portStop (s : State) (p : Nat) : State :=
  let x := s.port p
  let (f, began) := x.fn.disable
  let s1 := s.setPort p { x with fn := f }
  if began then
    let s2 := match (s1.pq p).sending with
      | some _ => (s1.waitClk (s1.pq p).sendEnd).txDone p none
      | none => s1
    let s3 := s2.linkDown p 4
    s3.eachLane p (fun l => { l with fn := { l.fn with state := 2, ready := false, stopPending := false } })
  else s1

/-- PORT_CTL.EN = 1 (R279): refused for a port that is not planned; accepted while lanes sleep, which then start by
themselves. -/
def State.portEnable (s : State) (p : Nat) : State :=
  if s.planned p = false then s.raise 0x1103 [(4, 0x200000 + 0x1000 * p)]
  else
    let s1 := s.setFld (Reg.PORT_CTL_EN p) 1
    if s1.lanesAwake then s1.portStart p else s1

/-- PORT_CTL.EN = 0. -/
def State.portDisable (s : State) (p : Nat) : State :=
  if s.flag (Reg.PORT_CTL_EN p) then (s.setFld (Reg.PORT_CTL_EN p) 0).portStop p else s

/-- PORT_ENABLE (R279). -/
def execPortEnable (port : Nat) (s : State) : Host.Outcome State Fault Refusal :=
  next <| s.hostAct 0 fun s => (if port < 256 then s.portEnable port else s)

/-- PORT_DISABLE (R279). -/
def execPortDisable (port : Nat) (s : State) : Host.Outcome State Fault Refusal :=
  next <| s.hostAct 0 fun s => (if port < 256 then s.portDisable port else s)

/-- At most once per 10 s for a subject. -/
def State.raiseTen (s : State) (code subject : Nat) (items : List (Nat × Nat)) : State :=
  let key := code * 2 ^ 24 + subject
  if (match tget? s.evLast key with
      | some t => decide (s.clk < t + 10000000000)
      | none => false) then s
  else { s with evLast := tput s.evLast key s.clk }.raise code items

/-- Training of a port has not completed within 500 ms (R266): negotiation starts again, unless a recorded disable ends
the start-up here (R279). -/
def State.trainFail (s : State) (p lane reached : Nat) : State :=
  let x := s.port p
  if s.linkTrain p = false ∨ x.fn.state ≠ 1 ∨ x.linkUp then s
  else
    let s1 := (s.setLane lane { s.lane lane with trainFail := true }).raiseTen 0x1003 p
      [(2, p), (2, lane), (1, reached)]
    let s2 := s1.setPort p { s1.port p with anDone := false }
    if x.fn.stopPending then
      let s3 := s2.setPort p { s2.port p with fn := { x.fn with state := 2, stopPending := false } }
      s3.eachLane p (fun l => { l with fn := { l.fn with state := 2, ready := false } })
    else s2

/-- TRAIN_FAILED (R266). -/
def execTrainFailed (port lane reached : Nat) (s : State) : Host.Outcome State Fault Refusal :=
  next (if (s.portLanes port).contains lane then s.trainFail port lane reached else s)

/-- What a lane finds as its port comes up: alignment, and the order and polarity of R267, which are the link's own. -/
def State.alignLane (s : State) (p n : Nat) : State :=
  let (w, s1) := s.draw
  let l := s1.lane n
  s1.setLane n { l with
    fn := l.fn.up.1, sigDet := true, cdrLock := true, aligned := true, trainDone := s1.linkTrain p
    trainFail := false, rxLane := w.toNat / 2 % 2 ^ s1.speed p, rxInv := bitAt w.toNat 0 }

/-- A port comes up (R268): every lane is aligned and no fault has stood for 1 ms. A recorded disable then begins the
shut-down (R56). -/
def State.linkUpNow (s : State) (p : Nat) : State :=
  let s0 := s.waitClk (s.port p).downUntil
  let s1 := s0.each (s0.portLanes p) (fun s n => s.alignLane p n)
  let x := s1.port p
  let s2 := s1.setPort p { x with
    linkUp := true, anDone := s1.linkTrain p, hiSer := false, localFault := false, remoteFault := false }
  let s3 := s2.raise 0x1101 [(2, p), (1, s2.speed p)]
  let stop := x.fn.stopPending
  let s4 := s3.setPort p { s3.port p with fn := { x.fn with ready := true, stopPending := false } }
  if stop then s4.portStop p else s4.settle

/-- PORT_LINK_UP (R268). -/
def execPortLinkUp (port : Nat) (s : State) : Host.Outcome State Fault Refusal :=
  next (if s.lanesAwake ∧ s.planned port ∧ (s.port port).fn.state = 1 ∧ (s.port port).linkUp = false
    then s.linkUpNow port else s)

/-- PORT_LINK_DOWN (R268). -/
def execPortLinkDown (port cause : Nat) (s : State) : Host.Outcome State Fault Refusal :=
  next (if s.planned port ∧ (s.port port).fn.state = 1 then s.linkDown port cause else s)

/-! ### Fabric lanes -/

/-- A fabric lane's start-up begins (R280). -/
def State.fabricStart (s : State) (n : Nat) : State :=
  let l := s.lane n
  let (f, began) := l.fn.enable
  s.setLane n { l with fn := f, rxCal := if began then false else l.rxCal }

/-- LANE_CTL.EN = 1. -/
def State.fabricEnable (s : State) (n : Nat) : State :=
  let s1 := s.setFld (Reg.LANE_CTL_EN n) 1
  if s1.fabricAwake then s1.fabricStart n else s1

/-- LANE_CTL.EN = 0: the lane serves until the next interval boundary (R280). -/
def State.fabricDisable (s : State) (n : Nat) : State :=
  let s1 := s.setFld (Reg.LANE_CTL_EN n) 0
  s1.setLane n { s1.lane n with fn := (s1.lane n).fn.disable.1 }

/-- FABRIC_LANE_ENABLE (R280). -/
def execFabricLaneEnable (lane : Fin 256) (s : State) : Host.Outcome State Fault Refusal :=
  next <| s.hostAct 0 fun s => (s.fabricEnable (256 + lane.val))

/-- FABRIC_LANE_DISABLE (R280). -/
def execFabricLaneDisable (lane : Fin 256) (s : State) : Host.Outcome State Fault Refusal :=
  next <| s.hostAct 0 fun s => (s.fabricDisable (256 + lane.val))

/-- FABRIC_LANE_READY (R280): its bursts are numbered from 0 again (R274), and it serves from the next boundary on. -/
def State.fabricReady (s : State) (n : Nat) : State :=
  let l := s.lane n
  if l.fn.state = 1 ∧ l.fn.ready = false then
    s.setLane n { l with fn := l.fn.up.1, rxCal := true, burstSeq := 0, lastValid := false }
  else s

def execFabricLaneReady (lane : Fin 256) (s : State) : Host.Outcome State Fault Refusal :=
  next (s.fabricReady (256 + lane.val))

/-! ### Shut-down complete (R56) -/

/-- A port reaches OFF, and starts again where an enable was recorded. -/
def State.portStopped (s : State) (p : Nat) : State :=
  let x := s.port p
  if x.fn.state = 2 then
    let off : FnStatus := {}
    let s1 := s.setPort p { x with fn := off }
    let s2 := s1.eachLane p (fun l => { l with
      fn := off, sigDet := false, cdrLock := false, aligned := false, trainDone := false })
    if x.fn.restartPending then s2.portStart p else s2
  else s

/-- A fabric lane reaches OFF once its last interval has ended. -/
def State.fabricStopped (s : State) (n : Nat) : State :=
  let l := s.lane n
  if l.fn.state = 2 ∧ (l.serving && s.intervalsRun) = false then
    s.setLane n { l with fn := l.fn.down.1, rxCal := false, serving := false }
  else s

/-- The reference buffers reach OFF; their start-up is timed afresh where one was recorded. -/
def State.refStopped (s : State) : State :=
  let (f, again) := s.adc.ref.down
  { s with adc := { s.adc with ref := f, refAt := if again then s.clk else s.adc.refAt } }

/-- FUNCTION_STOPPED (R56). -/
def execFunctionStopped (fn : FnRef) (s : State) : Host.Outcome State Fault Refusal :=
  next <| match fn with
    | .port p => s.portStopped p.val
    | .fabricLane n => s.fabricStopped (256 + n.val)
    | .adcRef => s.refStopped

/-! ### Sleep of the packet domain -/

/-- Member ports go off with their lanes: modes 6 and 7, L1 and below, a reset (R36, R68). -/
def State.portsOff (s : State) : State :=
  s.each (s.ports.map Prod.fst) (fun s p =>
    let s1 := s.linkDown p 4
    let off : FnStatus := {}
    let s2 := s1.setPort p { s1.port p with fn := off }
    s2.eachLane p (fun l => { l with fn := off, sigDet := false, cdrLock := false, aligned := false, trainDone := false }))

/-- Ports whose EN is set start by themselves. -/
def State.portsWake (s : State) : State :=
  s.each (s.plannedPorts.filter (fun p => s.flag (Reg.PORT_CTL_EN p))) State.portStart

/-- Every fabric lane goes off. -/
def State.fabricOff (s : State) : State :=
  let off (l : Nat × LaneSt) : Nat × LaneSt :=
    if l.1 < 256 then l else (l.1, { l.2 with fn := {}, rxCal := false, serving := false, cdrLock := false })
  { s with lanes := (s.lanes.map off).filter (fun l => l.2 != {}) }

/-- Fabric lanes whose EN is set start by themselves. -/
def State.fabricWake (s : State) : State :=
  s.each (((List.range 256).map (256 + ·)).filter (fun n => s.flag (Reg.LANE_CTL_EN n))) State.fabricStart

end Sys2Proof.Machine
end

