-- ==== Sys2Proof/Machine/ModeCore.lean ====
section
/-!
DEFINITION. The change of the operating mode (chapter 02): what every entry stops, keeps and starts.
-/

namespace Sys2Proof.Machine

/-! ### What an entry ends -/

/-- A pending SWATCH_APPLY ends as PREEMPTED (R136). -/
def State.endApply (s : State) : State :=
  match s.mx.apply with
  | some a => ({ s with mx := { s.mx with apply := none } }).complete a.tag St.preempted
  | none => s

/-- A Calibrate run ends by the departure from its conditions: every value in force stays (R258); the lasers stop. -/
def State.endCalRun (s : State) : State :=
  match s.cal.run with
  | some r =>
    (({ s with cal := { s.cal with run := none } }).complete r.tag St.aborted).safStop 4 St.wrongMode
  | none => s

/-- The staged Canvas is discarded; a commit that waits completes as ABORTED (R100). -/
def State.dropStaged (s : State) : State :=
  let s1 := { s with canvas := { s.canvas with staged := none, commit := none } }
  match s.canvas.commit with
  | some c => s1.complete c.tag St.aborted
  | none => s1

/-- Orbit execution stops; both banks stay (R155). The Orbit's egress gates open (R148). -/
def State.stopOrbit (s : State) : State :=
  { s with orb := { s.orb with running := false, egrGate := [], pktGate := 0 } }

/-- HALTED is cleared and every replica that has not failed takes the voted state (R162). -/
def State.unhalt (s : State) : State :=
  let fix (r : Replica) : Replica :=
    if r.failed then r
    else { r with slot := s.orb.slot, cycle := s.orb.cycle, boundary := s.orb.boundary, readable := true }
  { s with orb := { s.orb with halted := false, replicas := s.orb.replicas.map fix } }

/-! ### The packet engine's stop (R38) -/

/-- Frames for other modules are discarded as DROP_MODE. -/
def State.dropFabricQueues (s : State) : State :=
  s.each (s.tm.frames.filter (fun f => !f.fabric && decide (256 ≤ f.dst ∧ f.dst < 768))) (fun s f => s.discard f 49 53)

/-- The packet engine begins to stop, with its drain limit. -/
def State.packetStop (s : State) (limit : Nat) : State :=
  let t := match s.mode.drainEnd with
    | some e => min e (s.clk + limit)
    | none => s.clk + limit
  let s1 := { s with mode := { s.mode with drainEnd := some t } }
  s1.dropFabricQueues

/-- Every frame still queued at the drain limit is discarded as DROP_MODE; launched frames are told so. -/
def State.dropLeftovers (s : State) : State :=
  let s1 := s.each s.tm.frames (fun s f => s.discard f 49 53)
  s1.each (s1.tm.ports.map Prod.fst) (fun s p =>
    let l := (s.pq p).launch
    let s2 := s.setPq p { s.pq p with launch := [] }
    s2.each l (fun s e => (s.count (portCnt p 49) 1).writeBack e.ref 2 none))

/-- PACKET_STOP_TIMEOUT: the drain limit of R38 expires. -/
def execPacketStopTimeout (s : State) : Host.Outcome State Fault Refusal :=
  next <| match s.mode.drainEnd with
  | some t =>
    let s1 := (s.waitClk t).dropLeftovers
    { s1 with mode := { s1.mode with drainEnd := none } }
  | none => s

/-! ### Entries -/

/-- Fabric lanes go dark: from the next boundary where intervals run, else now. -/
def State.darkAtBoundary (s : State) : State :=
  if s.intervalsRun ∧ s.orb.halted = false then { s with mode := { s.mode with darkNext := true } }
  else s.stopOrbit.fabricDark

/-- Entry to mode 0 or 1: lasers off, outputs to their safe codes, no swatch, nothing armed (Table 2.2, R38, R153, R100,
R421). -/
def State.enterSafe (s : State) : State :=
  let s1 := (s.safStop 1 St.wrongMode).toSafe.noSwatch
  let s2 := s1.stopOrbit.unhalt.fabricDark.leaveConj
  let s3 := if s2.orb.armed.isSome then s2.emptyPending else s2
  { s3.dropStaged with loops := { s3.dropStaged.loops with heldOut := true } }

/-- Entry to a mode in which the loops are closed, from wherever: outputs leave their safe codes (R63). -/
def State.closeLoops (s : State) : State :=
  if s.dac.safeHold then { s.leaveSafe with loops := { s.leaveSafe.loops with heldOut := false } } else s

/-- Entry to mode 2: the Easel owns lasers and matrix. -/
def State.enterCalibrate (s : State) : State :=
  let s1 := s.driveLasers 0
  let s2 := ({ s1 with saf := { s1.saf with request := 0 } }).endLaserSet St.wrongMode
  s2.stopOrbit.fabricDark.noSwatch.closeLoops

/-- What is left to do in the new mode `m`, entered from `old`. -/
def State.modeEntry (s : State) (old m : Mode) : State :=
  match m with
  | .bootstrap | .safe =>
    let s1 := s.enterSafe
    if old.packets ∨ s1.mode.drainEnd.isSome then s1.packetStop 10000000 else s1
  | .calibrate => s.enterCalibrate
  | .maintain =>
    let s1 := s.closeLoops.darkAtBoundary.unhalt
    if old.packets then s1.packetStop 100000000 else s1
  | .fenced =>
    let s1 := s.closeLoops.darkAtBoundary
    { s1 with mode := { s1.mode with before11 := old, drainEnd := none } }
  | _ =>
    let s1 := s.closeLoops
    { s1 with mode := { s1.mode with drainEnd := none, darkNext := false } }

/-- Member lanes sleep in modes 6 and 7 (R36). -/
def Mode.asleep (m : Mode) : Bool := m == .coreSlotted || m == .corePersistent

/-- On leaving mode 2 each integrator and heater target takes the code that the Easel left (R186). -/
def State.takeEaselCodes (s : State) : State :=
  (s.loops.coef.map Prod.fst).foldl (fun s c =>
    let i := satInt 32 (s.biasOut c * 65536 - s.tempFf c - s.stageFf c)
    (s.xchSet c 6 (BitVec.ofInt 32 i)).xchSet c 7 (BitVec.ofNat 32 (s.htrTarget c * 65536))) s

/-- The mode changes (R33). An entry to the mode in force changes nothing. -/
def State.enterMode (s : State) (m : Mode) (trigger : Nat) : State :=
  let old := s.mode.mode
  if m = old then s
  else
    let s1 := if old = .calibrate then s.endApply.endCalRun.takeEaselCodes else s.endApply
    let s2 := if m.asleep ∧ ¬ old.asleep then s1.portsOff else s1
    let sv := s2.voidWindows
    let s3 := ({ sv with mode := { sv.mode with mode := m } }).modeEntry old m
    let s4 := if old.asleep ∧ ¬ m.asleep ∧ s3.pwr.state = 0 then s3.portsWake else s3
    (s4.raise 0x0011 [(1, old.code), (1, m.code), (1, trigger)]).settle

/-- A change on an automatic trigger: a SET_MODE that waits is preempted (R39). -/
def State.autoMode (s : State) (m : Mode) (trigger : Nat) : State := (s.endPendingMode St.preempted).enterMode m trigger

end Sys2Proof.Machine
end

