-- ==== Sys2Proof/Machine/Orbit.lean ====
section
/-!
DEFINITION. Orbits (chapter 07): checks and commands, the schedule, the vote, takeover, slot boundaries; burst intervals
of the persistent modes (R20 to R23, R134 to R136); realignment after a step of module time.
-/

namespace Sys2Proof.Machine

/-! ### The schedule (R154) -/

/-- Slot in which an offset lies, and the time left of it, in units. -/
def orbFind : List Nat → Nat → Nat → Nat × Nat
  | [], _, k => (k, 0)
  | d :: rest, off, k =>
    let u := d * nsUnit
    if off < u ∨ rest = [] then (k, u - off) else orbFind rest (off - u) (k + 1)

/-- Slot durations in ns. -/
def OrbitBank.durations (b : OrbitBank) : List Nat := (List.range b.slots).map b.duration

/-- Cycle, slot and time left of the slot that the schedule of an anchor names at a module time. -/
def OrbitBank.at (b : OrbitBank) (anchor t : Nat) : Int × Nat × Nat :=
  let c : Int := (b.cycleNs * nsUnit : Nat)
  let d : Int := (t : Int) - (anchor : Int)
  let r := orbFind b.durations (d % c).toNat 0
  (d / c, r.1, r.2)

/-- First boundary of the schedule after a module time, and first at or after it. -/
def OrbitBank.boundaryAfter (b : OrbitBank) (anchor t : Nat) : Nat := t + (b.at anchor t).2.2
def OrbitBank.boundaryFrom (b : OrbitBank) (anchor t : Nat) : Nat :=
  let r := b.at anchor t
  if r.2.2 = b.duration r.2.1 * nsUnit then t else t + r.2.2

/-- T + ORB_PHASE. -/
def State.phased (s : State) (t : Nat) : Nat := ((t : Int) + s.sfld Reg.ORB_PHASE_PHASE * (nsUnit : Int)).toNat

/-- The takeover instant of a stated time (R151). -/
def State.takeoverAt (s : State) (t : Nat) : Nat :=
  match s.orb.running, s.orb.active with
  | true, some b => b.boundaryFrom s.orb.anchor (s.phased t)
  | _, _ => s.phased t

/-! ### The checks of Table 7.4 -/

/-- First slot for which a test fails. -/
def OrbitBank.badSlot (b : OrbitBank) (ok : Nat → Bool) : Option Nat := (List.range b.slots).find? (fun k => !ok k)

/-- Check 1. -/
def orbHeaderOk (r : Bytes) : Bool :=
  let sets := leAt r 0x0C 2
  let slots := leAt r 6 2
  leAt r 0 4 == 0x5442524F && leAt r 4 2 == 1 && leAt r 0x0E 2 == 0 && allZero (slice r 0x28 24)
    && (List.range (min slots 4096)).all (fun k =>
      let o := 0x40 + 64 * sets + 32 * k
      leAt r o 2 / 1024 == 0 && leAt r (o + 2) 2 == 0 && leAt r (o + 4) 4 / 2 ^ 30 == 0)

/-- Check 9: the slot at which the target block fails, where it does. -/
def State.targetBad (s : State) (b : OrbitBank) (t : Bytes) : Option Nat :=
  let count := leAt t 0 2
  let start := alignUp (4 + 2 * b.slots) 64
  let len := start + 512 * count
  if count > 256 ∨ leAt t 2 2 ≠ b.slots ∨ t.length ≠ len
      ∨ allZero (slice t (4 + 2 * b.slots) (start - (4 + 2 * b.slots))) = false
      ∨ (List.range (256 * count)).any (fun i => leAt t (start + 2 * i) 2 / 512 % 64 != 0) then some 0
  else b.badSlot (fun k =>
    let m := leAt t (4 + 2 * k) 2
    if m = 0xFFFF then true
    else decide (m < count) && (List.range 256).all (fun i =>
      let w := leAt t (start + 512 * m + 2 * i) 2
      !bitAt w 15 || (w % 512 != s.moduleId
        && (match tget? (s.swatch (b.swatch k)).perm i with
          | some o => decide (o ≥ 256)
          | none => false))))

/-- A derived target names this module (R147). -/
def State.ownTarget (s : State) (b : OrbitBank) : Option Nat :=
  b.badSlot (fun k => (b.mapOf k).isSome || (s.slotTargets b k).all (fun e => e.2 != s.moduleId))

/-- The checks in order: the code of the first that fails, with the slot where the table says so. -/
def State.orbitCheck (s : State) (b : OrbitBank) : Option (Nat × Option Nat) :=
  let r := b.record
  let durOk (k : Nat) : Bool :=
    decide (1000 ≤ b.duration k ∧ b.duration k ≤ 1000000000 ∧ b.duration k ≥ s.eclipseNs + 100)
  let swOk (k : Nat) : Bool := (s.swatch (b.swatch k)).valid
  if orbHeaderOk r = false then some (1, none)
  else if b.slots = 0 ∨ b.slots > 4096 ∨ b.sets > 64 ∨ r.length ≠ 0x40 + 64 * b.sets + 32 * b.slots then some (2, none)
  else if b.digest ≠ digest16 (slice r 0 16 ++ r.drop 0x20) then some (3, none)
  else if b.id = 0 ∨ (s.orb.active.map OrbitBank.id) = some b.id then some (4, none)
  else match b.badSlot durOk with
  | some k => some (5, some k)
  | none =>
    if b.durations.foldl (· + ·) 0 ≠ b.cycleNs then some (6, none)
    else match b.badSlot swOk with
    | some k => some (7, some k)
    | none =>
      match b.badSlot (fun k => decide (b.pktGate k / 2 ^ b.sets = 0)) with
      | some k => some (8, some k)
      | none =>
        match (match b.target with
          | some t => s.targetBad b t
          | none => none) with
        | some k => some (9, some k)
        | none => (s.ownTarget b).map (fun k => (9, some k))

/-- Every named swatch passes R124 for a mode. -/
def State.orbitRoleOk (s : State) (b : OrbitBank) : Bool := b.swatches.all (fun n => (s.swatch n).roleOk b.mode)

/-- Codes of the checks that carry a slot. -/
def orbFail (f : Nat × Option Nat) : List (Nat × Nat) :=
  match f.2 with
  | some k => [(1, f.1), (2, k)]
  | none => [(1, f.1)]

/-! ### Commands (R149 to R153, R552) -/

/-- ORBIT_PREPARE (R149). -/
def execOrbitPrepare (tag : CmdTag) (record target : Option Bytes) (hasTarget : Bool) (mode timeoutMs : Nat) (s : State) :
    Host.Outcome State Fault Refusal :=
  next <| s.serve tag 0x0F01 fun s =>
    match modeOf mode with
    | none => s.complete tag St.badParam
    | some m =>
      if m.slotted = false ∨ timeoutMs < 100 ∨ timeoutMs > 600000 then s.complete tag St.badParam
      else if s.pwr.state ≥ 3 then s.complete tag St.powerState
      else if s.orb.pendBank.isSome then s.complete tag St.busy
      else if record.isNone ∨ (hasTarget = true ∧ target.isNone) then s.complete tag St.hostDmaError
      else
        let ns := timeoutMs * 1000000
        let t := if hasTarget then target else none
        let b : OrbitBank := ⟨record.getD [], t, m, ns, some (s.clk + ns)⟩
        match s.orbitCheck b with
        | some f => s.complete tag St.orbitInvalid (orbFail f)
        | none =>
          let s1 := { s with orb := { s.orb with pendBank := some b } }
          s1.complete tag St.ok [(4, b.id), (16, leNat b.digest), (4, b.swatches.eraseDups.length),
            (4, popCount 512 (s.orbitReach b))]

/-- The pending bank is armed for a stated time; its timeout stops. -/
def State.arm (s : State) (t : Nat) : State :=
  let b := s.orb.pendBank.map (fun b => { b with expires := none })
  { s with orb := { s.orb with armed := some t, pendBank := b } }

/-- ORBIT_COMMIT (R150). -/
def execOrbitCommit (tag : CmdTag) (at_ : TimeWord) (s : State) : Host.Outcome State Fault Refusal :=
  next <| s.serve tag 0x0F02 fun s =>
    let t := s.fromWord at_
    if s.systemSize > 1 then s.complete tag St.wrongRole
    else if s.pwr.state ≥ 3 then s.complete tag St.powerState
    else if t < s.time.now + 50000 * nsUnit then s.complete tag St.late
    else
      match s.orb.pendBank with
      | some b =>
        if s.orbitRoleOk b = false then s.complete tag St.wrongRole
        else if s.orb.armed.isSome then s.complete tag St.busy
        else (s.arm t).complete tag St.ok [(8, toWord (s.takeoverAt t))]
      | none => s.complete tag St.noPendingOrbit

/-- ORBIT_ABORT (R153). -/
def execOrbitAbort (tag : CmdTag) (s : State) : Host.Outcome State Fault Refusal :=
  next <| s.serve tag 0x0F03 fun s =>
    if s.pwr.state ≥ 3 then s.complete tag St.powerState
    else if s.orb.pendBank.isNone then s.complete tag St.noPendingOrbit
    else if s.orb.conjHeld then s.complete tag St.busy
    else
      match s.orb.armed with
      | some t =>
        if s.takeoverAt t < s.time.now + 5000 * nsUnit then s.complete tag St.late
        else s.emptyPending.complete tag St.ok
      | none => s.emptyPending.complete tag St.ok

/-- The bytes that ORBIT_READ writes of a bank. -/
def OrbitBank.bytes (b : OrbitBank) : Bytes :=
  match b.target with
  | some t => padTo (alignUp b.record.length 64) b.record ++ t
  | none => b.record

/-- ORBIT_READ (R552). -/
def execOrbitRead (tag : CmdTag) (bank outAddr maxLen : Nat) (s : State) : Host.Outcome State Fault Refusal :=
  next <| s.serve tag 0x0F04 fun s =>
    if bank > 1 then s.complete tag St.badParam
    else
      match (if bank = 0 then s.orb.active else s.orb.pendBank) with
      | none => s.complete tag St.notFound
      | some b =>
        let d := b.bytes
        if maxLen < d.length then s.complete tag St.badParam [(4, d.length)]
        else (s.outData tag outAddr d).completeWith tag St.ok [(4, d.length)] true

/-- ORBIT_TIMEOUT (R153): the prepare timeout of the pending Orbit expires. -/
def execOrbitTimeout (s : State) : Host.Outcome State Fault Refusal :=
  next <| match s.orb.pendBank with
  | some b =>
    match b.expires with
    | some t => ((s.waitClk t).emptyPending).raise 0x0F03 [(4, b.id)]
    | none => s
  | none => s

/-- ORB_CYCLE_LO_READ (R163). -/
def State.orbCycleLo (s : State) : State := { s with
    orb := { s.orb with cycleHiLatch := s.orb.cycle / 2 ^ 32 }
    readData := BitVec.ofNat 32 s.orb.cycle }

/-- ORB_CYCLE_LO_READ as a host access. -/
def execOrbCycleLoRead (s : State) : Host.Outcome State Fault Refusal := next (s.hostRead 0 fun s => s.orbCycleLo)

/-! ### The vote (R161, R162) -/

/-- What a replica offers the voter; `none` where it has failed or cannot be read. -/
def Replica.vote (r : Replica) : Option (Nat × Nat × Nat) :=
  if r.failed || !r.readable then none else some (r.slot, r.cycle, r.boundary)

/-- The value that the voter takes: that of two replicas, or of every one that can be read; `none` halts. -/
def voted (rs : List Replica) : Option (Nat × Nat × Nat) :=
  let vs := rs.filterMap Replica.vote
  match vs.find? (fun v => decide (2 ≤ vs.countP (· == v))) with
  | some v => some v
  | none => if vs.length = 1 then vs.head? else none

/-- Upsets of replicas are entered. -/
def State.upset (s : State) (l : List ReplicaUpset) : State :=
  let put (rs : List Replica) (u : ReplicaUpset) : List Replica :=
    let r := lget {} rs u.replica
    lset rs u.replica { r with slot := u.slot, cycle := u.cycle, boundary := u.boundary, readable := u.readable }
  { s with orb := { s.orb with replicas := l.foldl put s.orb.replicas } }

/-- Every replica that has not failed holds the state in force. -/
def State.syncReplicas (s : State) : State :=
  let fix (r : Replica) : Replica :=
    if r.failed then r
    else { r with slot := s.orb.slot, cycle := s.orb.cycle, boundary := s.orb.boundary, readable := true }
  { s with orb := { s.orb with replicas := s.orb.replicas.map fix } }

/-- A replica is outvoted at the boundary that opens a slot. -/
def State.outvote (s : State) (n slot : Nat) : State :=
  let r := lget {} s.orb.replicas n
  let again := match r.outvotedAt with
    | some t => decide (s.clk < t + 1000000000)
    | none => false
  let r' := { r with outvotedAt := some s.clk, failed := again, count := min (r.count + 1) 255 }
  let s1 := { s with orb := { s.orb with replicas := lset s.orb.replicas n r' } }
  let s2 := s1.raise 0x0F05 [(1, n), (2, slot)]
  if again then s2.raise 0x0F06 [(1, n)] else s2

/-- The sequencer halts at a boundary (R162): the swatch in force stays, the fabric is dark, Orbit gates open. -/
def State.haltOrbit (s : State) (b : OrbitBank) : State :=
  let sw (r : Replica) : Nat × Nat :=
    (2, if r.vote.isNone then 0xFFFF else b.swatch ((r.slot + 1) % max b.slots 1))
  let e := (2, s.orb.slot) :: s.orb.replicas.map sw
  let s1 := s.stopOrbit.fabricDark
  ({ s1 with orb := { s1.orb with halted := true } }).raise 0x0F07 e

/-- The vote at a boundary: the replicas that differ are outvoted; the Bool tells that the sequencer goes on. -/
def State.vote (s : State) (b : OrbitBank) (opening : Nat) : Bool × State :=
  match voted s.orb.replicas with
  | none => (false, s.haltOrbit b)
  | some v =>
    let bad := (List.range 3).filter (fun n =>
      let r := lget {} s.orb.replicas n
      !r.failed && r.vote != some v)
    (true, (s.each bad (fun s n => s.outvote n opening)).syncReplicas)

/-! ### Slots and takeovers -/

/-- A slot opens at b and ends at `e`: its gates, targets and Eclipse (R154, R157). -/
def State.openSlot (s : State) (b : OrbitBank) (slot t e : Nat) : State :=
  let s1 := { s with orb := { s.orb with
    slot := slot, boundary := e, egrGate := b.egrGate slot, pktGate := b.pktGate slot
    targets := s.slotTargets b slot, barred := s.barredMask } }
  (((s1.openInterval t e).putSwatch (b.swatch slot) t).syncReplicas).settle

/-- The interval in force is cut at an instant: one that is too short for a burst stays dark (R155). -/
def State.cutInterval (s : State) (i : Nat) : State :=
  let len := min s.orb.intLen (i - s.orb.intStart)
  let s1 := { s with orb := { s.orb with
    intLen := len, intEnd := i, intBurst := s.orb.intBurst && decide (len ≥ s.minInterval) } }
  if s.intervalsRun then s1.closeBursts else s1

/-- The mode permits the takeover of a bank: it is in force, or a SET_MODE to it waits (R152). -/
def State.takeoverMode (s : State) (b : OrbitBank) : Bool :=
  s.mode.mode == b.mode || (match s.mode.pend with
    | some p => p.target == b.mode
    | none => false)

/-- The armed Orbit is missed (R152). -/
def State.missOrbit (s : State) (b : OrbitBank) : State :=
  let s1 := s.disarm
  ({ s1 with ikl := { s1.ikl with held := none } }).raise 0x0F02 [(4, b.id), (1, s.mode.mode.code)]

/-- A SET_MODE that waited takes effect; its command completes. -/
def State.takePending (s : State) : State :=
  match s.mode.pend with
  | some p =>
    let s1 := ({ s with mode := { s.mode with pend := none } }).enterMode p.target (if p.tag.isSome then 0 else 2)
    s1.completeOpt p.tag St.ok
  | none => s

/-- The pending Orbit takes over at i (R154). -/
def State.takeOver (s : State) (b : OrbitBank) (i : Nat) : State :=
  let s1 := s.cutInterval i
  let s2 := if s1.mode.mode = b.mode then s1 else s1.takePending
  let s3 := { s2 with
    orb := { s2.orb with
      active := some { b with expires := none }, pendBank := none, armed := none, conjHeld := false, running := true
      anchor := i, slot := 0, cycle := 0, schedCycle := 0, lastTko := i
      replaced := s.orb.active.map OrbitBank.id }
    ikl := { s2.ikl with held := none, outOfOrbit := s2.ikl.outOfOrbit && !s.orb.conjHeld } }
  (s3.openSlot b 0 i (b.boundaryAfter i (max i s3.time.now))).raise 0x0F01 [(4, b.id), (8, toWord i)]

/-- The next slot of the schedule opens at b; the cycle count rises where its cycle lies later (R163). -/
def State.nextSlot (s : State) (b : OrbitBank) (t : Nat) : State :=
  let r := b.at s.orb.anchor t
  let c := r.1.toNat
  let s1 := { s with orb := { s.orb with
    cycle := if c > s.orb.schedCycle then s.orb.cycle + 1 else s.orb.cycle, schedCycle := c } }
  s1.openSlot b r.2.1 t (t + r.2.2)

/-- A persistent interval opens at b with swatch n (R20, R135, R155). -/
def State.openPersistent (s : State) (n b : Nat) : State :=
  let s1 := s.swatchTargets n
  let s2 := if s1.pwr.state = 0 then s1.openInterval b (s1.gridAfter b) else s1
  (s2.putSwatch n b).settle

/-- Entry to a persistent mode at b by the SET_MODE that waits for it. -/
def State.enterPersistent (s : State) (n b : Nat) : State := s.stopOrbit.takePending.openPersistent n b

/-- The boundary at which the slot in force ends, after the vote. -/
def State.slotEnds (s : State) (b : OrbitBank) (t : Nat) : State :=
  let atCycle := decide ((b.at s.orb.anchor t).2.1 = 0)
  match s.mode.pend with
  | some ⟨_, _, some n, .cycle⟩ => if atCycle then s.enterPersistent n t else s.nextSlot b t
  | _ =>
    if s.mode.darkNext ∧ (s.mode.mode ≠ .fenced ∨ atCycle = true) then s.stopOrbit.fabricDark.settle
    else s.nextSlot b t

/-- The end of the slot in force: vote, then a takeover that is due, or the next slot. -/
def State.slotBoundary (s : State) (upsets : List ReplicaUpset) : State :=
  match s.orb.running, s.orb.active with
  | true, some a =>
    let t := s.orb.boundary
    let s1 := (s.waitTime t).upset upsets
    match s1.vote a (a.at s1.orb.anchor t).2.1 with
    | (false, s2) => s2.settle
    | (true, s2) =>
      match s2.orb.armed, s2.orb.pendBank with
      | some w, some p =>
        if t < s2.phased w then s2.closeBursts.slotEnds a t
        else if s2.takeoverMode p then s2.takeOver p t
        else (s2.missOrbit p).closeBursts.slotEnds a t
      | _, _ => s2.closeBursts.slotEnds a t
  | _, _ => s

/-- SLOT_BOUNDARY (R154). -/
def execSlotBoundary (upsets : List ReplicaUpset) (s : State) : Host.Outcome State Fault Refusal :=
  next (s.slotBoundary upsets)

/-- ORBIT_TAKEOVER (R151, R152, R154): the armed takeover, where its instant is the next boundary or no Orbit runs. -/
def execOrbitTakeover (s : State) : Host.Outcome State Fault Refusal :=
  next <| match s.orb.armed, s.orb.pendBank with
  | some w, some p =>
    if s.orb.running then (if s.orb.boundary ≥ s.phased w then s.slotBoundary [] else s)
    else
      let s1 := s.waitTime (s.phased w)
      if s1.orb.halted = false ∧ s1.takeoverMode p then s1.takeOver p (s1.phased w) else s1.missOrbit p
  | _, _ => s

/-! ### Persistent intervals (R20 to R23, R134 to R136) -/

/-- A pending SWATCH_APPLY is due at b: its time has come, and no re-route of its swatch is still to come (R136). -/
def State.applyDue (s : State) (a : PendingApply) (b : Nat) : Bool :=
  decide (a.at_ ≤ b) && !((s.swatch a.swatch).stale && !(s.swatch a.swatch).direct)

/-- The swatch of the interval that opens at b, and the apply that it ends. -/
def State.intervalSwatch (s : State) (b : Nat) : Option Nat × Option CmdTag :=
  match s.mx.apply with
  | some a => if s.applyDue a b then (some a.swatch, some a.tag) else (s.mx.inForce, none)
  | none => (s.mx.inForce, none)

/-- An interval of the persistent mode in force opens at b. -/
def State.nextInterval (s : State) (b : Nat) : State :=
  let (n, tag) := s.intervalSwatch b
  let s1 := if tag.isSome then { s with mx := { s.mx with apply := none } } else s
  let s2 := match n with
    | some k => s1.openPersistent k b
    | none => s1
  s2.completeOpt tag St.ok [(8, toWord b)]

/-- BURST_INTERVAL_BOUNDARY (R20): while no Orbit runs. -/
def State.intervalBoundary (s : State) : State :=
  let runs := s.intervalsRun
  let b := if runs then s.orb.intEnd else s.gridAfter s.time.now
  let s0 := s.waitTime b
  let s1 := if runs then s0.closeBursts else s0
  if s.mode.darkNext then s1.fabricDark.settle
  else
    match s.mode.pend with
    | some ⟨_, _, some n, .interval⟩ => s1.enterPersistent n b
    | some ⟨_, _, none, .interval⟩ => s1.takePending.fabricDark.settle
    | some ⟨_, _, some n, .cycle⟩ => s1.enterPersistent n b
    | _ => if s.mode.mode.persistent ∧ s.pwr.state ≤ 1 then s1.nextInterval b else s

def execBurstIntervalBoundary (s : State) : Host.Outcome State Fault Refusal :=
  next (if s.orb.running then s else s.intervalBoundary)

/-! ### After a step of module time (R23, R156) -/

/-- The interval in force now ends at `e`: its bursts keep the shorter of the two lengths. -/
def State.moveEnd (s : State) (amount : Int) (e : Nat) : State :=
  let len := min s.orb.intLen ((e : Int) - amount - (s.orb.intStart : Int)).toNat
  { s with orb := { s.orb with
    intEnd := e, intLen := len, intBurst := s.orb.intBurst && decide (len ≥ s.minInterval) } }

/-- Orbit and burst intervals after a step that has just been applied. -/
def State.orbRealign (s : State) (amount : Int) : State :=
  match s.orb.running, s.orb.active with
  | true, some b =>
    let e := b.boundaryAfter s.orb.anchor s.time.now
    let s1 := s.moveEnd amount e
    let s2 := ({ s1 with orb := { s1.orb with boundary := e } }).syncReplicas
    s2.raise 0x0F04 [(8, unsigned 64 (unitsToPs amount)), (2, (b.at s.orb.anchor e).2.1)]
  | _, _ => if s.intervalsRun then s.moveEnd amount (s.gridAfter s.time.now) else s

end Sys2Proof.Machine
end

