-- ==== Sys2Proof/Machine/Modes.lean ====
section
/-!
DEFINITION. SET_MODE (R33 to R39) and the power ladder with its keep passes (R42 to R48).
-/

namespace Sys2Proof.Machine

/-! ### SET_MODE -/

/-- Does Table 2.2 list a change by SET_MODE? From mode 11 see `from11`. -/
def modePair (old m : Nat) : Bool :=
  if m = 1 then old != 0
  else if m = 11 then decide (1 ≤ old ∧ old ≤ 10)
  else if m = 10 then decide (3 ≤ old ∧ old ≤ 9)
  else if old = 1 ∨ old = 10 then decide (2 ≤ m ∧ m ≤ 9)
  else [(3, 4), (6, 7), (4, 5), (5, 4), (4, 3), (7, 6)].contains (old, m)

/-- Modes permitted in a power state (Table 2.4). -/
def powerModes : Nat → List Nat
  | 0 => List.range 12
  | 1 => [1, 6, 7, 10]
  | 2 | 3 => [1, 7, 10]
  | 4 => [1]
  | _ => [0, 1]

/-- A mode can be entered in the power state in force and in that to which the module moves; swatches change in L0 and L1
only (R45). -/
def State.modePowered (s : State) (m : Nat) : Bool :=
  (powerModes s.pwr.state).contains m && (powerModes s.pwr.target).contains m
    && (m != 7 || decide (s.pwr.state ≤ 1 ∧ s.pwr.target ≤ 1))

/-- A system digest counts as this module's: equal, or the one before an activation whose grace runs (R99). -/
def State.digestKnown (s : State) (d : Bytes) : Bool :=
  d == s.sysDigest || (s.canvas.graceEnd.isSome && d == s.canvas.oldDigest)

/-- The system digest agrees with the leader's (Table 2.2, R411). -/
def State.leaderDigestOk (s : State) : Bool :=
  match s.ikl.leader with
  | some m => m == s.moduleId || (match tget? s.ikl.table m with
      | some e => s.digestKnown (slice e.body 0x10 16)
      | none => true)
  | none => true

/-- A SET_MODE that is accepted and waits. -/
def State.pendMode (s : State) (tag : CmdTag) (m : Mode) (swatch : Option Nat) (wait : ModeWait) : State :=
  { s with mode := { s.mode with pend := some ⟨some tag, m, swatch, wait⟩ } }

/-- A SET_MODE that Table 2.2 lists, from `old` (mode 10 stands for 11 where the leave from 11 is as from there). -/
def State.setModeListed (s : State) (tag : CmdTag) (old m : Mode) (n : Nat) : State :=
  match m with
  | .safe => (s.enterMode .safe 0).complete tag St.ok
  | .calibrate =>
    if s.ret.lockout then s.complete tag St.laserLockout
    else if s.modePowered 2 = false then s.complete tag St.powerState
    else (s.enterMode .calibrate 0).complete tag St.ok
  | .edgeSlotted | .coreSlotted | .transitSlotted =>
    if s.orb.armed.isNone then s.complete tag St.noPendingOrbit
    else if s.modePowered m.code = false then s.complete tag St.powerState
    else s.pendMode tag m none .takeover
  | .edgePersistent | .edgePacket | .corePersistent | .loopbackTest =>
    let w := s.swatch n
    if n > 1023 ∨ w.valid = false then s.complete tag St.swatchInvalid
    else if w.roleOk m = false then s.complete tag St.wrongRole
    else if s.modePowered m.code = false then s.complete tag St.powerState
    else s.pendMode tag m (some n) (if old.slotted then .cycle else .interval)
  | .maintain =>
    if s.modePowered 10 = false then s.complete tag St.powerState
    else if old = .loopbackTest ∧ s.intervalsRun then s.pendMode tag .maintain none .interval
    else (s.enterMode .maintain 0).complete tag St.ok
  | .fenced =>
    if s.modePowered 11 = false then s.complete tag St.powerState
    else (s.enterMode .fenced 0).complete tag St.ok
  | .bootstrap => s.complete tag St.wrongMode

/-- A SET_MODE in mode 11: to 1, to 10, or to the mode before 11 (Table 2.2). -/
def State.from11 (s : State) (tag : CmdTag) (m : Mode) (n : Nat) : State :=
  if m = .safe then s.setModeListed tag .fenced m n
  else if m ≠ .maintain ∧ m ≠ s.mode.before11 then s.complete tag St.wrongMode
  else if s.leaderDigestOk = false then s.complete tag St.digestMismatch
  else s.setModeListed tag .maintain m n

/-- The automatic move to START_MODE is cancelled by any SET_MODE (R39). -/
def State.cancelAuto (s : State) : State :=
  match s.mode.pend with
  | some ⟨none, _, _, _⟩ => { s with mode := { s.mode with pend := none } }
  | _ => s

/-- SET_MODE (R35, R37, R39). -/
def execSetMode (tag : CmdTag) (mode swatch : Nat) (s : State) : Host.Outcome State Fault Refusal :=
  next <| s.serve tag 0x0001 fun s0 =>
    let s := s0.cancelAuto
    match modeOf mode with
    | none => s.complete tag St.badParam
    | some m =>
      let old := s.mode.mode
      if s.mode.pend.isSome then s.complete tag St.busy
      else if 3 ≤ mode ∧ mode ≤ 8 ∧ bitAt s.modePermit mode = false then s.complete tag St.modeNotPermitted
      else if old = .fenced then s.from11 tag m swatch
      else if modePair old.code mode = false then s.complete tag St.wrongMode
      else match s.cal.run, m with
        | some r, .safe => if r.phase ≥ 5 then s.pendMode tag .safe none .cycle else s.setModeListed tag old m swatch
        | _, _ => s.setModeListed tag old m swatch

/-! ### The power ladder -/

/-- Mean P-die temperature, 0.01 °C. -/
def State.meanPDie (s : State) : Int :=
  ((List.range 32).map (fun z => (tget {} s.adc.hk (64 + z)).value)).foldl (· + ·) 0 / 32

/-- What the start of a rung does: lanes and ports go to sleep on the way to L1, the outputs to safe codes and the host
link down on the way to L4 (R43, R48). -/
def State.rungStart (s : State) (dest : Nat) : State :=
  if s.pwr.state = 0 then s.endCalRun.portsOff.fabricOff.fabricDark
  else if s.pwr.state = 3 ∧ dest = 4 then
    let s1 := match s.pwr.cmd with
      | some t => ({ s with pwr := { s.pwr with cmd := none } }).complete t St.ok
      | none => s
    { s1.toSafe.stopOrbit with cx := { s1.toSafe.stopOrbit.cx with linkUp := false } }
  else if s.pwr.state = 2 ∧ dest = 3 then s.stopLanes
  else s

/-- The next rung toward the target begins, or the command in progress completes on arrival. -/
def State.nextRung (s : State) : State :=
  if s.pwr.state = s.pwr.target then
    let s1 := { s with pwr := { s.pwr with cmd := none } }
    s1.completeOpt s.pwr.cmd St.ok
  else
    let dest := if s.pwr.state < s.pwr.target then s.pwr.state + 1 else s.pwr.state - 1
    ({ s with pwr := { s.pwr with rung := some dest } }).rungStart dest

/-- The references of the ADC sequencer are enabled at this instant, where their EN is set (R47, R230). -/
def State.refsOn (s : State) : State :=
  if s.flag Reg.ADC_REF_CTL_EN then s.refStart else s

/-- Values that a change of their registers gives to the next hold period only (R117, Tables 6.5 and 10.13). -/
def State.periodSnaps (s : State) : State :=
  { s with
    mx := { s.mx with losCtl := s.regWord 0xE0008, wrongMin := s.fld Reg.MX_ROUTE_CTL_WRONG_MIN }
    adc := { s.adc with chkCtl := s.regWord 0xB000C } }

/-- Hold periods are counted again from this instant (R165). -/
def State.countPeriods (s : State) : State :=
  let s1 := s.periodSnaps
  { s1 with loops := { s1.loops with counting := true, periodAt := s1.clk, eopDone := false, deadlineDone := false } }

/-- Counting resumes after L3 at the next multiple of 16, with a sampled period; samples before it are beyond the age limit,
and lanes stopped for L3 go on (R165, R185, R216, Table 9.3). -/
def State.resumePeriods (s : State) : State :=
  let s1 := (s.countPeriods.releaseLanes).eachCore (fun x => { x with fresh := true })
  { s1 with loops := { s1.loops with
    period := (s1.loops.period / 16 + 1) * 16, sampled := true, sampledCount := s1.loops.sampledCount + 1
    cells := (s1.loops.cells.map (fun e => (e.1, { e.2 with samples := [] }))).filter (fun e => e.2 != {}) } }

/-- Lanes that have not reached WAITP two periods after they were asked to stop are halted (R216). -/
def State.stallLanes (s : State) : State :=
  let s1 := s.each (List.range 64) (fun s n =>
    match (tget {} s.eng.cores (128 * s.red.activeUnit + n)).stopAt with
    | some t => s.waitClk (t + 256000)
    | none => s)
  s1.each (List.range 64) (fun s n =>
    let x := tget {} s.eng.cores (128 * s.red.activeUnit + n)
    if x.stopAt.isSome then s.laneFault n x 6 else s)

/-- Ikile ports begin to train, where enabled (R401). -/
def State.trainPorts (s : State) : State :=
  let start (n : Nat) : IklPort := if bitAt (s.fld Reg.IKL_CTL_PORT_EN) n then { state := 1 } else {}
  { s with ikl := { s.ikl with ports := (List.range 8).map start, parent := none } }

/-- The Ikile domain goes off. -/
def State.iklOff (s : State) : State :=
  { s with ikl := { s.ikl with ports := List.replicate 8 {}, parent := none, repeats := [] } }

/-- Every region of the retention store is written (R48), where VSRAM holds it (R60). -/
def State.writeStore (s : State) : State :=
  { s with store := ⟨s.canvas.active.isSome, true, true, true, true, true, true⟩ }

/-- The photonic domain and the units go off: L3 between keep passes, L4, L5. -/
def State.photonicOff (s : State) : State :=
  { s with
    adc := { s.adc with ref := {} }
    loops := { s.loops with counting := false } }

/-- What an arrival does (R46 to R48, R51, R54). -/
def State.arrive (s : State) (dest : Nat) : State :=
  let up := decide (dest < s.pwr.state)
  let s1 := ({ s with pwr := { s.pwr with state := dest, rung := none } }).voidWindows
  match dest, up with
  | 0, _ =>
    let s2 := (s1.freeMaster 6).freeMaster 7
    if s2.mode.mode.asleep then s2.fabricWake else s2.portsWake.fabricWake
  | 1, true => (s1.freeMaster 5).trainPorts
  | 1, false => (s1.holdMaster 6).holdMaster 7
  | 2, true =>
    let s2 := if s1.pwr.keeping then s1.toFastClock else s1.toFastClock.refsOn.resumePeriods
    { s2 with pwr := { s2.pwr with keeping := false, keepAt := none } }
  | 2, false => s1.iklOff.holdMaster 5
  | 3, _ =>
    let s2 := (s1.stallLanes.toSlowClock.exclusionCheck none).photonicOff
    { s2 with pwr := { s2.pwr with
      keepAt := some (s2.clk + s2.fld Reg.PWR_KEEP_INTERVAL * 1000000000), keepTemp := s2.meanPDie } }
  | 4, _ => { s1.writeStore with pwr := { s1.pwr with keeping := false, keepAt := none } }
  | _, _ => { s1.toSafe with store := {} }

/-- POWER_RUNG_REACHED (R43): L1 is reached only with the buffer empty (R44). -/
def State.rungReached (s : State) : State :=
  match s.pwr.rung with
  | none => s
  | some dest =>
    if dest = 1 ∧ s.pwr.state = 0 ∧ s.tm.frames ≠ [] then s
    else ((s.arrive dest).raise 0x0303 [(1, dest), (1, s.pwr.target)]).nextRung

def execPowerRungReached (s : State) : Host.Outcome State Fault Refusal := next s.rungReached

/-- A rung from L3 into L4 has begun, or L4 or L5 is reached (R43). -/
def State.descended (s : State) : Bool := decide (s.pwr.state ≥ 4) || s.pwr.rung == some 4

/-- States passed on the way to a target, from where the rung in progress leads. -/
def rungPath (a b : Nat) : List Nat := (List.range 6).filter (fun p => decide (min a b ≤ p ∧ p ≤ max a b))

/-- SET_POWER (R43, R44). -/
def execSetPower (tag : CmdTag) (target : Nat) (s : State) : Host.Outcome State Fault Refusal :=
  next <| s.serve tag 0x0002 fun s =>
    let base := s.pwr.rung.getD s.pwr.state
    if target > 5 then s.complete tag St.badParam
    else if s.descended then s.complete tag St.powerState
    else if (rungPath base target).all (fun p => (powerModes p).contains s.mode.mode.code) = false then
      s.complete tag St.powerState
    else
      let s1 := s.completeOpt s.pwr.cmd St.preempted
      let s2 := { s1 with
        pwr := { s1.pwr with target := target, cmd := some tag }
        ret := { s1.ret with wakeSrc := if target < s1.pwr.state then 1 else s1.ret.wakeSrc } }
      if s2.pwr.rung.isSome then s2
      else if s2.pwr.keeping ∧ target < 3 then
        ((s2.arrive 2).raise 0x0303 [(1, 2), (1, target)]).nextRung
      else s2.nextRung

/-! ### Keep passes (R47) -/

/-- KEEP_PASS: a keep pass begins at its instant: PLLs locked and references settled after 5.2 ms, one period sampled; the
hold-period boundary after it applies the outputs and ends the pass. -/
def execKeepPass (s : State) : Host.Outcome State Fault Refusal :=
  next <| match s.pwr.keepAt with
  | some t =>
    if s.pwr.state ≠ 3 ∨ s.pwr.rung.isSome ∨ s.pwr.keeping then s
    else
      let s1 := s.waitClk t
      let s2 := { s1 with pwr := { s1.pwr with
        keeping := true, keepAt := some (t + s1.fld Reg.PWR_KEEP_INTERVAL * 1000000000) } }
      let s3 := (s2.elapse 200000).refsOn
      let s4 := s3.elapse 5000000
      ({ s4 with adc := { s4.adc with ref := s4.adc.ref.up.1 } }).resumePeriods
  | none => s

/-- A keep pass ends at the boundary that has applied its outputs: one period and the power-down later the module is back
in L3; a change of more than 0.5 °C since the last pass is told (R114). -/
def State.endKeepPass (s : State) : State :=
  let s1 := (s.stopLanes.elapse 168000).stallLanes.photonicOff
  let d := (s1.meanPDie - s1.pwr.keepTemp).natAbs
  let s2 := { s1 with pwr := { s1.pwr with keeping := false, keepTemp := s1.meanPDie } }
  if d > 50 then s2.raise 0x0E05 [(2, d / 10)] else s2

end Sys2Proof.Machine
end

