-- ==== Sys2Proof/Machine/Time.lean ====
section
/-!
DEFINITION. The time unit (chapter 18): steps, the servo, captures, TRIG_OUT and PPS_OUT, its commands and reads.
-/

namespace Sys2Proof.Machine

/-! ### Steps (R376, R384 to R388) -/

/-- HOP of this module (R405): 0 for the leader and for a system of one, the parent's plus one, 255 for none. -/
def State.hop (s : State) : Nat :=
  if s.follows then
    match s.ikl.parent with
    | some p => let h := (lget {} s.ikl.ports p).peerHop; if h ≥ 254 then 255 else h + 1
    | none => 255
  else if s.systemSize ≤ 1 then 0
  else if s.ikl.leader.isSome then 0 else 255

/-- Does a peer take its time from this module: a port that is up whose peer is one hop farther (R386). -/
def State.hasFollowers (s : State) : Bool :=
  decide (s.systemSize > 1) && s.ikl.ports.any (fun p => p.state == 2 && p.peerValid && p.peerHop == s.hop + 1)

/-- A pulse that the new time has passed ends; the schedule resumes at the first edge after the new time (R396). -/
def trigAfterStep (now : Nat) (t : TrigOut) : TrigOut :=
  let ended := match t.activeEnd with
    | some e => decide (e ≤ now)
    | none => false
  let k := match t.sched with
    | some (st, per, _) =>
      if now < st then 0 else if per = 0 then 1 else (now - st) / (per * nsUnit) + 1
    | none => 0
  { t with activeEnd := if ended then none else t.activeEnd, k := k }

/-- TRIG_OUT pins after a step, with the pins that went inactive. -/
def State.pinsAfterStep (s : State) : State :=
  let s1 := s.each [0, 1, 2, 3] (fun s n =>
    let t := tget {} s.time.trigOut n
    let t' := trigAfterStep s.time.now t
    let s' := { s with time := { s.time with trigOut := tset {} s.time.trigOut n t' } }
    if t.activeEnd.isSome ∧ t'.activeEnd.isNone then s'.emit (.pin n (s.flag (Reg.TIM_TRIG_OUT_CTL_POL n))) else s')
  match s1.time.ppsEnd with
  | some e => if e ≤ s1.time.now then ({ s1 with time := { s1.time with ppsEnd := none } }).emit (.pin 4 false) else s1
  | none => s1

/-- The state after any step: ACQUIRING, or FREE with SRC 0 (R376, R388). -/
def State.stateAfterStep (s : State) : Nat := if s.time.srcUsed = 0 then 0 else 1

/-- A step by an amount in units. Below 0 s it is refused (R376); else it takes effect after everything scheduled for
the instant (R388), and Orbits, burst intervals, gate lists and pins follow. The Bool tells whether it was applied. -/
def State.stepTime (s : State) (amount : Int) (cause : Nat) : Bool × State :=
  let new : Int := s.time.now + amount
  if new < 0 then
    let s1 := (s.raiseLim 0x0703 s.time.srcUsed
      [(8, unsigned 64 (unitsToPs amount)), (2, s.time.jumpSeq), (1, 1)]).count (timCnt 1) 1
    let s2 := s1.withdrawJump
    (false, { s2 with time := { s2.time with state := s2.stateAfterStep } })
  else
    let s1 := s.withdrawJump
    let s2 := { s1 with time := { s1.time with
      now := new.toNat, unset := false, good := 0, misses := 0, lastStep := some (new.toNat, amount),
      state := s1.stateAfterStep } }
    let s3 := (s2.raise 0x0704 [(8, unsigned 64 (unitsToPs amount)), (1, cause)]).count (timCnt 0) 1
    (true, ((s3.orbRealign amount).gateRealign amount).pinsAfterStep.settle)

/-- The step that waits takes effect; its command completes (R386). -/
def State.applyWait (s : State) (w : StepWait) : State :=
  let s1 := { s with time := { s.time with wait := none } }
  let amount : Int := match w.setTo with
    | some t => (t : Int) - (s1.time.now : Int)
    | none => psToUnits w.ps
  let (done, s2) := s1.stepTime amount w.cause
  s2.completeOpt w.tag (if done then St.ok else St.badParam)

/-- A confirmed step or a TIME_SET is announced to followers (R387). -/
def State.announce (s : State) (ps : Int) (at_ : Nat) : State :=
  { s with time := { s.time with annId := s.time.annId + 1, annPs := ps, annAt := at_ } }

/-- AT of TIME_CONFIRM and TIME_SET is too close (R386). -/
def State.stepLate (s : State) (at_ : TimeWord) : Bool :=
  let t := s.fromWord at_
  if s.hasFollowers then at_ == 0 || decide (t < s.time.now + 2000000 * nsUnit)
  else at_ != 0 && decide (t < s.time.now + 50000 * nsUnit)

/-- TIME_OFFSET (R380). -/
def execTimeOffset (tag : CmdTag) (offset : Int) (measured : TimeWord) (s : State) : Host.Outcome State Fault Refusal :=
  next <| s.serve tag 0x0701 fun s =>
    if s.fld Reg.TIM_CTL_SRC ≠ 1 ∨ s.follows then s.complete tag St.wrongRole
    else
      let m := if measured = 0 then s.time.now else s.fromWord measured
      let stale := match s.time.lastStep with
        | some (new, amount) =>
          if amount ≥ 0 then decide (m < new) else decide ((m : Int) < (new : Int) - amount)
        | none => false
      if stale then (s.count (timCnt 4) 1).complete tag St.ok
      else (s.addOffset offset).complete tag St.ok

/-- TIME_CONFIRM (R386). -/
def execTimeConfirm (tag : CmdTag) (jumpSeq : Nat) (at_ : TimeWord) (s : State) : Host.Outcome State Fault Refusal :=
  next <| s.serve tag 0x0702 fun s =>
    match s.time.jump with
    | none => s.complete tag St.noPendingJump
    | some ps =>
      if jumpSeq ≠ s.time.jumpSeq then s.complete tag St.staleJump
      else if s.stepLate at_ then s.complete tag St.late
      else if s.time.wait.isSome then s.complete tag St.busy
      else
        let w : StepWait := { at_ := s.fromWord at_, ps := ps, setTo := none, cause := 1, tag := some tag }
        if at_ = 0 then s.applyWait w
        else
          let s1 := { s with time := { s.time with wait := some w } }
          if s1.follows then s1 else s1.announce ps w.at_

/-- TIME_SET (R386). -/
def execTimeSet (tag : CmdTag) (sec ns frac : Nat) (at_ : TimeWord) (s : State) : Host.Outcome State Fault Refusal :=
  next <| s.serve tag 0x0703 fun s =>
    if s.follows then s.complete tag St.wrongRole
    else if ns ≥ 1000000000 ∨ sec ≥ 2 ^ 48 ∨ frac ≥ 65536 then s.complete tag St.badParam
    else if s.stepLate at_ then s.complete tag St.late
    else if s.time.wait.isSome then s.complete tag St.busy
    else
      let t := sec * secUnit + ns * nsUnit + frac * 2 ^ 24
      let at' := if at_ = 0 then s.time.now else s.fromWord at_
      let w : StepWait := { at_ := at', ps := 0, setTo := some t, cause := 2, tag := some tag }
      if at_ = 0 then s.applyWait w
      else
        ({ s with time := { s.time with wait := some w } }).announce (unitsToPs ((t : Int) - (at' : Int))) at'

/-- TIME_STEP_APPLY: the step that waits takes effect at its AT (R387, R388). -/
def execTimeStepApply (s : State) : Host.Outcome State Fault Refusal :=
  next <| match s.time.wait with
    | some w => (s.waitTime w.at_).applyWait w
    | none => s

/-! ### The servo (R382 to R385) -/

/-- fmax: 200 ppm in 2^-40 units. -/
def fMax : Int := 219902325

/-- An interval beyond the threshold (R385). -/
def State.refuseJump (s : State) (theta : Int) : State :=
  let seq := (s.time.jumpSeq + 1) % 65536
  let s1 := { s with time := { s.time with jump := some (-theta), jumpSeq := seq, state := 5, good := 0 } }
  (s1.raiseLim 0x0703 s1.time.srcUsed [(8, unsigned 64 theta), (2, seq), (1, 0)]).count (timCnt 1) 1

/-- The proportional and integral terms on one interval's θ (R382). -/
def State.servoTerms (s : State) (theta : Int) : State :=
  let th := satInt 32 theta
  let i := satInt 32 (s.time.integ - rsh ((s.fld Reg.TIM_SERVO_KI : Int) * th) (s.fld Reg.TIM_SERVO2_KI_SH))
  let y := clampInt (i - rsh ((s.fld Reg.TIM_SERVO_KP : Int) * th) (s.fld Reg.TIM_SERVO2_KP_SH)) (-fMax) fMax
  let good := if (theta.natAbs ≤ s.fld Reg.TIM_LOCK_LOCK_PS) then s.time.good + 1 else 0
  let wasAcq := decide (s.time.state = 1)
  let lock := wasAcq && decide (good ≥ 16)
  let s1 := { s with time := { s.time with
    integ := i, y := y, good := good, state := if lock then 2 else s.time.state } }
  let s2 := if (y = fMax ∨ y = -fMax) ∧ s.time.y ≠ y then s1.raise 0x070A [(4, unsigned 32 y)] else s1
  if lock then s2.raise 0x0702 [(1, s2.time.srcUsed)] else s2

/-- One interval's procedure (R382). -/
def State.servo (s : State) : State :=
  let offs := s.time.offsets
  if offs = [] then
    let misses := s.time.misses + 1
    let hold := decide (misses ≥ s.fld Reg.TIM_LOCK_HOLD_N) && (s.time.state == 1 || s.time.state == 2)
    let s1 := { s with time := { s.time with
      misses := misses, theta := none, state := if hold then 3 else s.time.state } }
    let s2 := if s1.time.srcUsed = 2 then s1.count (timCnt 5) 1 else s1
    if hold then (s2.raise 0x0705 [(1, s2.time.srcUsed)]).count (timCnt 2) 1 else s2
  else
    let theta := offs.foldl (· + ·) 0 / (offs.length : Int)
    let s1 := { s with time := { s.time with misses := 0, offsets := [], theta := some theta } }
    if s1.time.unset then
      let (done, s2) := s1.stepTime (psToUnits (-theta)) 0
      if done then
        ({ s2 with time := { s2.time with state := 1, good := 0 } }).raise 0x0701
          [(1, s2.time.srcUsed), (8, unsigned 64 (-theta))]
      else s2
    else if theta.natAbs > 1000 * s1.fld Reg.TIM_JUMP_THR_THR then s1.refuseJump theta
    else
      let s2 := s1.withdrawJump
      let s3 := if s2.time.state = 3 ∨ s2.time.state = 5 then
        { s2 with time := { s2.time with state := 1, good := 0 } } else s2
      s3.servoTerms theta

/-- SERVO_INTERVAL: the end of a servo interval (R382); SRC applies from the next one; exclusion is judged (R412). -/
def execServoInterval (s : State) : Host.Outcome State Fault Refusal :=
  next <|
    if s.time.slow then s
    else
      let s1 := s.waitClk s.time.intervalAt
      let s2 := if s1.time.srcUsed = 0 then
          { s1 with time := { s1.time with theta := none, offsets := [] } }
        else s1.servo
      let s3 := s2.exclusionCheck s2.time.theta
      let s4 := s3.updateSource
      { s4 with time := { s4.time with intervalAt := s4.clk + s4.servoNs } }

/-! ### Pins (R393 to R397) -/

/-- A capture into a FIFO of 16 (R394). -/
def State.capture (s : State) (unit : Nat) (rising : Bool) : State :=
  let q := tget [] s.time.caps unit
  if q.length ≥ 16 then
    (s.count (timCnt (16 + unit)) 1).raiseLim 0x0707 unit [(1, unit)]
  else
    let c : Capture := { stamp := s.time.now, rising := rising, timeNt := !s.traceable }
    ({ s with time := { s.time with caps := tput s.time.caps unit (q ++ [c]) } }).count (timCnt (8 + unit)) 1

/-- Captures and outputs work in L0 to L2 (R395). -/
def State.pinsAlive (s : State) : Bool := decide (s.pwr.state ≤ 2) && s.pins.rails

/-- TRIG_IN_EDGE (R393, R394). -/
def execTrigInEdge (pin : Fin 4) (rising : Bool) (held : Nat) (s : State) : Host.Outcome State Fault Refusal :=
  next <|
    if s.pinsAlive = false then s
    else
      match s.edge (10 + pin) rising held with
      | (.ignored, s1) => s1
      | (.chatter, s1) => s1.raiseLim 0x0708 pin [(1, pin), (1, 1)]
      | (.accepted, s1) =>
        let e := s1.fld (Reg.TIM_TRIG_IN_EDGE pin)
        if s1.flag (Reg.TIM_TRIG_IN_EN pin) ∧ bitAt e (if rising then 0 else 1) then s1.capture pin rising else s1

/-- θ of a PPS_IN edge in ps (R394): u − round(u) for u = t − DELAY. -/
def ppsOffset (t delay : Nat) : Int :=
  let u : Int := unitsToPs t - (delay : Int) * 100
  let r := (u + 500000000000) / 1000000000000
  u - r * 1000000000000

/-- PPS_IN_EDGE: a rising edge (R393, R394). -/
def execPpsInEdge (held : Nat) (s : State) : Host.Outcome State Fault Refusal :=
  next <|
    if s.pinsAlive = false then s
    else
      -- the level falls again before the next rising edge
      let f := s.filter 9
      let low := s.setFilter 9 { f with active := false, edges := if f.active then s.clk :: f.edges else f.edges }
      match low.edge 9 true held with
      | (.ignored, s1) => s1
      | (.chatter, s1) => s1.raiseLim 0x0708 9 [(1, 4), (1, 1)]
      | (.accepted, s1) =>
        let s2 := if s1.flag Reg.TIM_PPS_IN_EN then s1.capture 4 true else s1
        if s2.flag Reg.TIM_PPS_IN_EN ∧ s2.time.srcUsed = 2 then
          s2.addOffset (ppsOffset s2.time.now (s2.fld Reg.TIM_PPS_IN_DELAY))
        else s2

/-- START of a TRIG_OUT pin's registers. -/
def State.trigStart (s : State) (n : Nat) : Nat :=
  (s.fld (Reg.TIM_TRIG_OUT_START_LO_START_SEC n) + 2 ^ 32 * s.fld (Reg.TIM_TRIG_OUT_START_HI_START_SEC n)) * secUnit
    + s.fld (Reg.TIM_TRIG_OUT_START_NS_START_NS n) * nsUnit

/-- TRIG_OUT_ARM (R396). -/
def State.trigArm (s : State) (n : Nat) : State :=
  let st := s.trigStart n
  if st < s.time.now + 10000 * nsUnit then s.raise 0x0709 [(4, 0x70100 + 0x20 * n)]
  else
    let t := tget {} s.time.trigOut n
    let sch := (st, s.fld (Reg.TIM_TRIG_OUT_PERIOD_PERIOD n), s.fld (Reg.TIM_TRIG_OUT_WIDTH_WIDTH n))
    let t' := if t.sched.isNone then { t with sched := some sch, next := none, k := 0 } else { t with next := some sch }
    { s with time := { s.time with trigOut := tset {} s.time.trigOut n t' } }

def execTrigOutArm (pin : Fin 4) (s : State) : Host.Outcome State Fault Refusal := next <| s.hostAct 9 fun s => (s.trigArm pin)

/-- Clearing EN makes the pin inactive at once (R396); its schedules end. -/
def State.trigDisable (s : State) (n : Nat) : State :=
  let t := tget {} s.time.trigOut n
  let s1 := s.setFld (Reg.TIM_TRIG_OUT_CTL_EN n) 0
  let s2 := { s1 with time := { s1.time with trigOut := tset {} s1.time.trigOut n {} } }
  if t.activeEnd.isSome then s2.emit (.pin n (s2.flag (Reg.TIM_TRIG_OUT_CTL_POL n))) else s2

def execTrigOutDisable (pin : Fin 4) (s : State) : Host.Outcome State Fault Refusal := next <| s.hostAct 9 fun s => (s.trigDisable pin)

/-- The instant of the next edge of a schedule at its k-th pulse; `none` where it has no more. -/
def trigEdgeAt (sch : Nat × Nat × Nat) (k : Nat) : Option Nat :=
  if sch.2.1 = 0 then (if k = 0 then some sch.1 else none) else some (sch.1 + k * sch.2.1 * nsUnit)

/-- A new schedule that ARM took replaces the running one from its START (R396). -/
def trigFollow (t : TrigOut) : TrigOut :=
  match t.next with
  | none => t
  | some n =>
    match t.sched.bind (fun sc => trigEdgeAt sc t.k) with
    | some e => if e < n.1 then t else { t with sched := some n, next := none, k := 0 }
    | none => { t with sched := some n, next := none, k := 0 }

/-- TRIG_OUT_PULSE: the pin's next scheduled edge, active or inactive (R396). -/
def execTrigOutPulse (pin : Fin 4) (s : State) : Host.Outcome State Fault Refusal :=
  next <|
    let t := tget {} s.time.trigOut pin
    let pol := s.flag (Reg.TIM_TRIG_OUT_CTL_POL pin)
    match t.activeEnd with
    | some e =>
      let s1 := s.waitTime e
      ({ s1 with time := { s1.time with trigOut := tset {} s1.time.trigOut pin { t with activeEnd := none } } }).emit
        (.pin pin pol)
    | none =>
      let t1 := trigFollow t
      match t1.sched with
      | none => s
      | some sch =>
        match trigEdgeAt sch t1.k with
        | none => { s with time := { s.time with trigOut := tset {} s.time.trigOut pin { t1 with sched := none } } }
        | some e =>
          let s1 := s.waitTime e
          let on := s1.flag (Reg.TIM_TRIG_OUT_CTL_EN pin) && s1.pinsAlive
          let t2 : TrigOut := { t1 with
            k := t1.k + 1, activeEnd := if on then some (e + sch.2.2 * nsUnit) else none }
          let s2 := { s1 with time := { s1.time with trigOut := tset {} s1.time.trigOut pin t2 } }
          if on then s2.emit (.pin pin (!pol)) else s2

/-- PPS_OUT_PULSE: the next edge of PPS_OUT (R397). -/
def execPpsOutPulse (s : State) : Host.Outcome State Fault Refusal :=
  next <|
    match s.time.ppsEnd with
    | some e =>
      let s1 := s.waitTime e
      ({ s1 with time := { s1.time with ppsEnd := none } }).emit (.pin 4 false)
    | none =>
      let t := (s.time.now + secUnit - 1) / secUnit * secUnit
      let s1 := s.waitTime t
      let on := s1.flag Reg.TIM_PPS_OUT_EN && (!s1.flag Reg.TIM_PPS_OUT_NT_SUPPRESS || s1.traceable) && s1.pinsAlive
      if on then
        ({ s1 with time := { s1.time with
          ppsEnd := some (t + s1.fld Reg.TIM_PPS_OUT_WIDTH_US * 1000 * nsUnit) } }).emit (.pin 4 true)
      else s1

/-! ### Latched reads -/

/-- TIM_NOW_FRAC_READ: FRAC, latching the other three (TIM_NOW). -/
def State.timNowLatch (s : State) : State := { s with
    readData := BitVec.ofNat 32 (s.time.now / 2 ^ 24 % 65536)
    time := { s.time with nowLatch := s.time.now } }

/-- TIM_NOW_FRAC_READ as a host access. -/
def execTimNowFracRead (s : State) : Host.Outcome State Fault Refusal := next (s.hostRead 9 fun s => s.timNowLatch)

/-- The pending correction as 64 bits; 0 when none. -/
def State.jumpWord (s : State) : Nat := unsigned 64 (s.time.jump.getD 0)

/-- TIM_JUMP_LO_READ: the low word, latching the high one. -/
def State.jumpLoLatch (s : State) : State := { s with
    readData := BitVec.ofNat 32 s.jumpWord
    time := { s.time with jumpLatch := BitVec.ofNat 32 (s.jumpWord / 2 ^ 32) } }

/-- TIM_JUMP_LO_READ as a host access. -/
def execTimJumpLoRead (s : State) : Host.Outcome State Fault Refusal := next (s.hostRead 9 fun s => s.jumpLoLatch)

/-- W0 of a capture (Table 18.10). -/
def captureW0 (c : Capture) : Nat :=
  c.stamp / 2 ^ 24 % 65536 + 2 ^ 16 * ofBool c.rising + 2 ^ 17 + 2 ^ 18 * ofBool c.timeNt

/-- TIM_CAP_W0_READ: pops the head of FIFO n and latches W1 to W3 (Table 18.10). -/
def State.capRead (s : State) (n : Nat) : State :=
  match tget [] s.time.caps n with
  | [] => { s with readData := 0 }
  | c :: rest =>
    { s with
      readData := BitVec.ofNat 32 (captureW0 c)
      time := { s.time with
        caps := tset [] s.time.caps n rest
        capLatch := tset 0 s.time.capLatch n c.stamp } }

def execTimCapW0Read (n : Nat) (s : State) : Host.Outcome State Fault Refusal :=
  next <| s.hostRead 9 fun s => (if n < 5 then s.capRead n else s)

end Sys2Proof.Machine
end

