-- ==== Sys2Proof/Machine/Ikile.lean ====
section
/-!
DEFINITION. Ikile links, time exchanges, Comets and the module's view of its system (chapter 19, R400 to R414).
-/

namespace Sys2Proof.Machine

/-! ### What the module says of itself -/

/-- The module leads in its own view. -/
def State.isLeader (s : State) : Bool := s.ikl.leader == some s.moduleId

/-- Some MODE_PERMIT bit of modes 3, 6 and 8 is set. -/
def State.permitsSlotted (s : State) : Bool := decide (s.modePermit &&& 0x148 ≠ 0)

/-- This module is in the agreeing set: its digest and major version are those of the leader. -/
def State.agrees (s : State) : Bool := s.leaderDigestOk && !s.ikl.fwRefused

/-- ELIGIBLE of this module (R415). -/
def State.eligible (s : State) : Bool :=
  s.canvas.active.isSome && decide (s.systemSize > 1) && [1, 3, 6, 8, 10].contains s.mode.mode.code && s.permitsSlotted
    && !s.ikl.stale && !s.ikl.excluded && !s.orb.halted && s.agrees

/-- FLAGS of Table 19.2. -/
def State.iklFlags (s : State) : Nat :=
  ofBool s.ikl.excluded + 2 * ofBool (s.mode.mode == .fenced) + 4 * ofBool s.ikl.fwRefused
    + 8 * ofBool s.ikl.outOfOrbit + 16 * ofBool s.orb.halted + 32 * ofBool s.ikl.stale + 64 * ofBool s.eligible
    + 128 * ofBool s.ikl.held.isSome

/-- TSTATE of Table 19.1. -/
def State.tstate (s : State) : Nat := s.time.state + 8 * ofBool s.traceable + 16 * ofBool s.ikl.excluded

/-! ### The view (R409 to R413) -/

/-- One module in view: MODULE_ID, system digest as it counts under R99, major version, epoch. -/
structure Member where
  id : Nat
  digest : Bytes
  major : Nat
  epoch : Nat
  deriving DecidableEq, Repr

/-- A live entry as a member: the digest before an activation counts as the present one while the grace of R99 runs. -/
def State.memberOf (s : State) (id : Nat) (body : Bytes) : Member :=
  let d := slice body 0x10 16
  { id := id, digest := if s.digestKnown d then s.sysDigest else d, major := byteAt body 0x0B, epoch := leAt body 0x20 4 }

/-- The module itself and its live entries. -/
def State.members (s : State) : List Member :=
  { id := s.moduleId, digest := s.sysDigest, major := fwMajor, epoch := s.ikl.epoch }
    :: s.ikl.table.map (fun e => s.memberOf e.1 e.2.body)

/-- Members that agree with one. -/
def agreeWith (l : List Member) (m : Member) : List Member :=
  l.filter (fun x => x.digest == m.digest && x.major == m.major)

/-- Lowest MODULE_ID of a list of members. -/
def lowestId : List Member → Nat
  | [] => 512
  | m :: rest => min m.id (lowestId rest)

/-- The agreeing set: the largest, and among equals the one with the lowest MODULE_ID. -/
def State.agreeing (s : State) : List Member :=
  s.members.foldl (fun best m =>
    let g := agreeWith s.members m
    if g.length > best.length ∨ (g.length = best.length ∧ lowestId g < lowestId best) then g else best) []

/-- Highest epoch of a list by serial-number arithmetic, from a start. -/
def highEpoch : Nat → List Member → Nat
  | e, [] => e
  | e, m :: rest => highEpoch (if newer 32 m.epoch e then m.epoch else e) rest

/-- Number of eligible modules in view, this one included. -/
def State.eligibleCount (s : State) : Nat :=
  ofBool s.eligible + (s.ikl.table.filter (fun e => bitAt (byteAt e.2.body 0x2C) 6)).length

/-- A leader that loses its quorum says so (R415). -/
def State.quorumCheck (s : State) : State :=
  let lead := s.isLeader && decide (s.systemSize > 1)
  let ok := lead && decide (s.quorum ≤ s.eligibleCount)
  let s1 := { s with ikl := { s.ikl with quorumOk := ok } }
  if s.ikl.quorumOk ∧ lead ∧ ok = false then s1.raise 0x0804 [(2, s.eligibleCount)] else s1

/-! ### The parent (R405) -/

/-- Candidates for the parent port. -/
def State.parentPorts (s : State) : List Nat :=
  s.upPorts.filter (fun n => (s.iklPort n).peerValid && (s.iklPort n).peerHop != 255)

/-- The candidate of lowest HOP, and of lowest number among equals. -/
def State.bestParent (s : State) : Option Nat :=
  s.parentPorts.foldl (fun best n => match best with
    | some m => if (s.iklPort n).peerHop < (s.iklPort m).peerHop then some n else some m
    | none => some n) none

/-- A new parent: the time state becomes ACQUIRING, without a step. -/
def State.takeParent (s : State) (p : Option Nat) : State :=
  let s1 := { s with ikl := { s.ikl with
    parent := p, ports := s.ikl.ports.map (fun x => { x with lowerSince := none }) } }
  if p.isSome ∧ s1.time.slow = false then { s1 with time := { s1.time with state := 1, good := 0 } } else s1

/-- The parent is kept while it is a candidate; ports with a lower HOP begin their 10 ms. -/
def State.parentUpdate (s : State) : State :=
  if s.follows = false then { s with ikl := { s.ikl with parent := none } }
  else
    let keep := match s.ikl.parent with
      | some p => s.parentPorts.contains p
      | none => false
    if keep = false then
      let best := s.bestParent
      if best = s.ikl.parent then s else s.takeParent best
    else
      let h := (s.iklPort (s.ikl.parent.getD 0)).peerHop
      s.each (List.range 8) (fun s n =>
        let p := s.iklPort n
        let lower := s.parentPorts.contains n && decide (p.peerHop < h)
        s.setIklPort n { p with lowerSince := if lower then some (p.lowerSince.getD s.clk) else none })

/-- PARENT_CHANGE (R405): a candidate has offered a lower HOP for 10 ms. -/
def execParentChange (port : Fin 8) (s : State) : Host.Outcome State Fault Refusal :=
  next <| match (s.iklPort port).lowerSince with
  | some t => (s.waitClk (t + 10000000)).takeParent (some port)
  | none => s

/-! ### A change of the view -/

/-- What a change of leader ends: a conjunction that the module leads no longer (R421). -/
def State.leaderGone (s : State) : State :=
  if s.ikl.prop.isSome ∧ s.isLeader = false then s.abortConj 5 s.moduleId else s

/-- The leader changes (R409). -/
def State.newLeader (s : State) (m : Nat) : State :=
  let old := s.ikl.leader.getD s.moduleId
  let s1 := { s with ikl := { s.ikl with leader := some m } }
  if old = m then s1 else (s1.raise 0x0803 [(2, old), (2, m)]).leaderGone

/-- A module of another major version than the leader's is refused as a member (R410). -/
def State.fwCheck (s : State) (leader major : Nat) : State :=
  let bad := decide (major ≠ fwMajor)
  let s1 := { s with ikl := { s.ikl with fwRefused := bad } }
  if bad ∧ s.ikl.fwRefused = false then s1.raise 0x080B [(2, leader), (1, fwMajor), (1, major)] else s1

/-- A module behind in epoch is stale (R413). -/
def State.staleCheck (s : State) (high : Nat) : State :=
  let stale := newer 32 high s.ikl.epoch
  if stale ∧ s.ikl.stale = false then
    ({ s with ikl := { s.ikl with stale := true, syncAt := s.clk } }).raise 0x080C [(4, s.ikl.epoch), (4, high)]
  else { s with ikl := { s.ikl with stale := stale } }

/-- A module whose digest differs from its leader's is fenced (R411); mode 11 runs in L0 only (Table 2.4). -/
def State.fenceCheck (s : State) (digest : Bytes) : State :=
  if s.ikl.fwRefused = false ∧ digest ≠ s.sysDigest ∧ 1 ≤ s.mode.mode.code ∧ s.mode.mode.code ≤ 10 ∧ s.pwr.state = 0 then
    s.autoMode .fenced 5
  else s

/-- The view is recomputed (R409). -/
def State.updateView (s : State) : State :=
  if s.canvas.active.isNone then s
  else if s.systemSize ≤ 1 then
    ({ s with ikl := { s.ikl with leader := some s.moduleId, stale := false, fwRefused := false } }).updateSource.parentUpdate
  else
    let set := s.agreeing
    let lead := lowestId set
    let (d, major) := match set with
      | m :: _ => (m.digest, m.major)
      | [] => (s.sysDigest, fwMajor)
    let high := highEpoch s.ikl.epoch set
    let s1 := ((s.newLeader lead).fwCheck lead major).staleCheck high
    (s1.updateSource.parentUpdate.fenceCheck d).quorumCheck

/-! ### Ports (R401, R402) -/

/-- A port goes down and trains again where it is enabled. Causes: 0 no record, 1 high symbol errors, 2 disabled. -/
def State.portDown (s : State) (n cause : Nat) : State :=
  let p := s.iklPort n
  let st := if cause = 2 ∨ p.dup then 0 else 1
  let s1 := s.setIklPort n { state := st, dup := p.dup }
  if p.state = 2 then (s1.raiseLim 0x0802 n [(1, n), (1, cause)]).parentUpdate else s1

/-- A port whose enable is set begins to train. -/
def State.portTrain (s : State) (n : Nat) : State :=
  let p := s.iklPort n
  if s.pwr.state ≤ 1 ∧ p.state = 0 ∧ p.dup = false then s.setIklPort n { state := 1 } else s

/-- IKL_PORT_TIMEOUT (R401). -/
def execIklPortTimeout (port : Fin 8) (s : State) : Host.Outcome State Fault Refusal :=
  next <|
    if (s.iklPort port).state = 2 then (s.waitClk ((s.iklPort port).lastValid + 1000000)).portDown port 0 else s

/-- IKL_HIGH_SYMBOL_ERRORS (R401). -/
def execIklHighSymbolErrors (port : Fin 8) (s : State) : Host.Outcome State Fault Refusal :=
  next (if (s.iklPort port).state = 2 then s.portDown port 1 else s)

/-- LEN suits TYPE (R402). -/
def lenSuits (type len : Nat) : Bool :=
  match type with
  | 1 => len == 48
  | 2 => len == 96
  | 3 => len == 64
  | 4 => decide (16 ≤ len ∧ len ≤ 1040)
  | _ => false

/-- A record whose TYPE, LEN and CRC are good. -/
def recordOk (r : Bytes) : Bool :=
  let len := leAt r 2 2
  lenSuits (byteAt r 0) len && decide (r.length = 12 + len) && leAt r (8 + len) 4 == crc32c (r.take (8 + len))

/-- A record meets its port: it is discarded, or its body is handed on (R401, R402). -/
def State.takeRecord (s : State) (n : Nat) (r : Bytes) : Option Bytes × State :=
  let p := s.iklPort n
  if p.state = 0 ∨ s.pwr.state > 1 then (none, s)
  else if recordOk r = false then (none, (s.setIklPort n { p with goodRecs := 0 }).count (iklCnt n 2) 1)
  else
    let seq := leAt r 4 4
    let p1 := { p with lastValid := s.clk, goodRecs := p.goodRecs + 1 }
    if p.state = 1 then
      if p1.goodRecs < 8 then (none, s.setIklPort n p1)
      else (none, (s.setIklPort n { p1 with state := 2, rxSeq := none }).raise 0x0801 [(1, n)])
    else
      let s1 := (s.setIklPort n p1).count (iklCnt n 1) 1
      match p.rxSeq with
      | some q =>
        if newer 32 seq q = false then (none, s1.count (iklCnt n 3) 1)
        else
          let s2 := s1.setIklPort n { p1 with rxSeq := some seq }
          (some (slice r 8 (leAt r 2 2)), if seqDiff seq q > 1 then s2.count (iklCnt n 4) (seqDiff seq q - 1) else s2)
      | none => (some (slice r 8 (leAt r 2 2)), s1.setIklPort n { p1 with rxSeq := some seq })

/-! ### Time exchanges (R403, R404, R406) -/

/-- STEP fields of an EXCH on port n: the announced step until its AT, on every port but the parent (R406). -/
def State.stepFields (s : State) (n : Nat) : Bytes :=
  if s.time.annId ≠ 0 ∧ s.time.now < s.time.annAt ∧ s.ikl.parent ≠ some n then
    leBytes 4 s.time.annId ++ leBytes 8 (unsigned 64 s.time.annPs) ++ leBytes 8 (toWord s.time.annAt)
  else zeros 20

/-- The EXCH body of port n (Table 19.1). -/
def State.exchBody (s : State) (n : Nat) : Bytes :=
  let p := s.iklPort n
  let (pseq, ptx) := p.exTx.getD (0, 0)
  let (rseq, rrx) := p.exRx.getD (0, 0)
  leBytes 4 pseq ++ leBytes 4 rseq ++ leBytes 8 (shortStamp ptx) ++ leBytes 8 (shortStamp rrx) ++ leBytes 2 s.moduleId
    ++ leBytes 1 s.hop ++ leBytes 1 s.tstate ++ s.stepFields n

/-- An EXCH record leaves on a port; its transmit stamp is kept. -/
def State.sendExch (s : State) (n : Nat) : State :=
  let s1 := s.sendIkl n 1 (s.exchBody n)
  let p := s1.iklPort n
  s1.setIklPort n { p with
    exTx := some (p.txSeq, s1.time.now), exSent := ((p.txSeq, s1.time.now) :: p.exSent).take 8 }

/-- EXCH_SEND (R403): every 125 µs. -/
def execExchSend (s : State) : Host.Outcome State Fault Refusal :=
  next <|
    let s1 := s.waitClk s.ikl.exchAt
    (({ s1 with ikl := { s1.ikl with exchAt := s1.clk + 125000 } }).each s1.upPorts State.sendExch)

/-- A module time as its short stamp gives it back: to 2^−16 ns. -/
def stampTime (t : Nat) : Nat := t / 2 ^ 24 * 2 ^ 24

/-- The exchange of R404: own receive stamp t4 of PREV_SEQ and own transmit stamp t1 of RX_OF_SEQ. -/
def State.exchange (s : State) (n : Nat) (prev : Option (Nat × Nat)) (b : Bytes) : State :=
  let p := s.iklPort n
  match prev, p.exSent.find? (fun e => e.1 == leAt b 4 4) with
  | some (pseq, t4n), some (_, t1n) =>
    let t1 : Int := stampTime t1n
    let t4 : Int := stampTime t4n
    if pseq ≠ leAt b 0 4 ∨ (t4 - t1).natAbs > 250000 * nsUnit then s
    else
      let t3 : Int := s.fromStamp (leAt b 8 8)
      let t2 : Int := s.fromStamp (leAt b 16 8)
      let asym := signed 32 (s.fld (Reg.IKL_PORT_ASYM_ASYM n))
      let ofs := (unitsToPs ((t4 - t3) - (t2 - t1)) - asym) / 2
      let delay := unitsToPs ((t2 - t1) + (t4 - t3)) / 2
      let s1 := (s.setIklPort n { p with delay := delay, ofs := some ofs }).count (iklCnt n 8) 1
      if s1.ikl.parent = some n ∧ s1.time.srcUsed = 3 then s1.addOffset ofs else s1
  | _, _ => s

/-- A step that the parent announces at least 1 ms ahead is taken over (R387, R406). -/
def State.hearStep (s : State) (n : Nat) (b : Bytes) : State :=
  let id := leAt b 0x1C 4
  let at_ := s.fromWord (BitVec.ofNat 64 (leAt b 0x28 8))
  let ps := signed 64 (leAt b 0x20 8)
  if s.ikl.parent ≠ some n ∨ id = 0 ∨ id = s.time.annHeard ∨ at_ < s.time.now + 1000000 * nsUnit then s
  else
    let w : StepWait := { at_ := at_, ps := ps, setTo := none, cause := 3, tag := none }
    ({ s with time := { s.time with annHeard := id, wait := some w } }).announce ps at_

/-- An EXCH body arrives (R404, R424). -/
def State.onExch (s : State) (n : Nat) (seq : Nat) (b : Bytes) : State :=
  let p := s.iklPort n
  if leAt b 0x18 2 % 512 = s.moduleId ∧ s.canvas.active.isSome then
    ((s.setIklPort n { state := 0, dup := true }).raise 0x080F [(1, n)]).parentUpdate
  else
    let s1 := s.setIklPort n { p with
      peerValid := true, peerId := leAt b 0x18 2 % 512, peerHop := byteAt b 0x1A, peerTstate := byteAt b 0x1B
      exRx := some (seq, s.time.now) }
    ((s1.parentUpdate).exchange n p.exRx b).hearStep n b

/-! ### Comets (R407, R408) -/

/-- The Comet of this module (Table 19.2). -/
def State.cometBody (s : State) : Bytes :=
  let lead := match s.ikl.leader with
    | some m => m + 2 ^ 15
    | none => 0
  leBytes 2 s.moduleId ++ [0] ++ leBytes 1 (s.mode.mode.code + 16 * s.pwr.state) ++ leBytes 4 s.ikl.cometSeq
    ++ leBytes 4 fwWord ++ leBytes 4 identWord ++ s.sysDigest ++ leBytes 4 s.ikl.epoch
    ++ leBytes 4 ((s.orb.active.map OrbitBank.id).getD 0) ++ leBytes 2 lead ++ leBytes 1 s.hop ++ leBytes 1 s.tstate
    ++ leBytes 2 s.iklFlags ++ leBytes 2 s.agreeing.length ++ leBytes 4 ((s.ikl.held.map Held.id).getD 0)
    ++ leBytes 4 ((s.orb.pendBank.map OrbitBank.id).getD 0)
    ++ leBytes 4 (unsigned 32 (satInt 32 (s.time.theta.getD 0))) ++ zeros 36

/-- COMET_SEND (R407): every 100 µs in L0 and L1. -/
def execCometSend (s : State) : Host.Outcome State Fault Refusal :=
  next <|
    if s.pwr.state > 1 ∨ s.canvas.active.isNone then s
    else
      let s0 := s.waitClk s.ikl.cometAt
      let s1 := ({ s0 with ikl := { s0.ikl with cometAt := s0.clk + 100000 } }).updateView
      let s2 := { s1 with ikl := { s1.ikl with cometSeq := seqNext s1.ikl.cometSeq, saidEligible := s1.eligible } }
      s2.flood 2 8 s2.cometBody

/-- A Comet is forwarded on every other up port with HOPS plus one. -/
def State.forward (s : State) (n type : Nat) (b : Bytes) : State :=
  s.each (s.upPorts.filter (· != n)) (fun s k => (s.sendIkl k type b).count (iklCnt k 6) 1)

/-- A Comet arrives (R408). -/
def State.onComet (s : State) (n : Nat) (b : Bytes) : State :=
  let s1 := s.count (iklCnt n 5) 1
  let o := leAt b 0 2 % 512
  let hops := byteAt b 2
  if s1.systemSize ≤ 1 then s1
  else
    let fresh := match tget? s1.ikl.table o with
      | some e => newer 32 (leAt b 4 4) (leAt e.body 4 4)
      | none => true
    if o = s1.moduleId ∨ fresh = false then s1.count (iklCnt n 7) 1
    else
      let e : ViewEntry := { body := b, port := n, at_ := s1.clk }
      let s2 := { s1 with ikl := { s1.ikl with table := tput s1.ikl.table o e } }
      let s3 := if hops < 255 then s2.forward n 2 (b.set 2 (BitVec.ofNat 8 (hops + 1))) else s2.count (iklCnt n 7) 1
      s3.updateView

/-- COMET_EXPIRE (R408). -/
def execCometExpire (origin : Nat) (s : State) : Host.Outcome State Fault Refusal :=
  next <| match tget? s.ikl.table origin with
  | some e =>
    let s1 := s.waitClk (e.at_ + s.cometTimeoutUs * 1000)
    ({ s1 with ikl := { s1.ikl with table := terase s1.ikl.table origin } }).updateView
  | none => s

/-- IKL_VIEW_READ (R408). -/
def execIklViewRead (tag : CmdTag) (outAddr : Nat) (max : Nat) (s : State) : Host.Outcome State Fault Refusal :=
  next <| s.serve tag 0x0803 fun s =>
    let l := s.ikl.table.take max
    (s.outData tag outAddr (l.map (fun e => e.2.body)).flatten).completeWith tag St.ok [(4, l.length)] (l != [])

/-! ### Tunnels (R423) -/

/-- A tunnel message is dropped at a port. -/
def State.tunnelDrop (s : State) (n : Nat) (b : Bytes) : State :=
  (s.count (iklCnt n 11) 1).raiseLim 0x080E n [(2, leAt b 2 2 % 1024), (2, leAt b 4 2)]

/-- Messages that still wait at a port: 10 Gbit/s take them out. -/
def State.tunnelsAt (s : State) (n : Nat) : List Nat := (s.iklPort n).tunnels.filter (fun t => decide (s.clk < t))

/-- A tunnel message joins a port's queue of 64. -/
def State.tunnelOut (s : State) (n : Nat) (b : Bytes) : State :=
  let q := s.tunnelsAt n
  if q.length ≥ 64 ∨ (s.iklPort n).state ≠ 2 then s.tunnelDrop n b
  else
    let t := q.getLastD s.clk + (b.length + 12) * 8 / 10
    let s1 := s.setIklPort n { s.iklPort n with tunnels := q ++ [t] }
    (s1.sendIkl n 4 b).count (iklCnt n 9) 1

/-- The way of a message to one module: the port on which its entry arrived. -/
def State.tunnelRoute (s : State) (n : Nat) (b : Bytes) : State :=
  match tget? s.ikl.table (leAt b 2 2 % 512) with
  | some e => s.tunnelOut e.port b
  | none => s.tunnelDrop n b

/-- A message for this module goes to its host. -/
def State.tunnelHost (s : State) (n : Nat) (b : Bytes) : State :=
  if s.flag Reg.IKL_CTL_TUN_EN then (s.deliver (s.fld Reg.IKL_CTL_TUN_Q) b).2 else s.tunnelDrop n b

/-- IKL_TUNNEL_SEND. -/
def execIklTunnelSend (tag : CmdTag) (payload : Option Bytes) (len dst channel : Nat) (s : State) :
    Host.Outcome State Fault Refusal :=
  next <| s.serve tag 0x0804 fun s =>
    if len < 1 ∨ 1024 < len ∨ (512 ≤ dst ∧ dst ≠ 0x3FF) ∨ 65536 ≤ channel then s.complete tag St.badParam
    else match payload with
    | none => s.complete tag St.hostDmaError
    | some p =>
      let port := (tget? s.ikl.table dst).map ViewEntry.port
      let out := if dst = 0x3FF then s.upPorts else port.toList
      if out.any (fun n => decide ((s.tunnelsAt n).length ≥ 64)) then s.complete tag St.busy
      else
        let seq := seqNext (tget 0 s.ikl.tunSeq channel)
        let b := leBytes 2 s.moduleId ++ leBytes 2 dst ++ leBytes 2 channel ++ leBytes 2 len ++ leBytes 4 seq ++ zeros 4
          ++ padTo len p
        let s1 := { s with ikl := { s.ikl with tunSeq := tput s.ikl.tunSeq channel seq } }
        let s2 := if dst = 0x3FF then s1.each out (fun s n => s.tunnelOut n b) else s1.tunnelRoute 0 b
        s2.complete tag St.ok

/-- A tunnel record arrives: delivered, forwarded, or both where it is for every module. -/
def State.onTunnel (s : State) (n : Nat) (b : Bytes) : State :=
  let s1 := s.count (iklCnt n 10) 1
  let src := leAt b 0 2 % 512
  let dst := leAt b 2 2 % 1024
  if dst = 0x3FF then
    let key := 65536 * src + leAt b 4 2
    let fresh := match tget? s1.ikl.tunSeen key with
      | some q => newer 32 (leAt b 8 4) q
      | none => true
    if src = s1.moduleId ∨ fresh = false then s1.count (iklCnt n 7) 1
    else
      let s2 := { s1 with ikl := { s1.ikl with tunSeen := tput s1.ikl.tunSeen key (leAt b 8 4) } }
      (s2.each (s2.upPorts.filter (· != n)) (fun s k => s.tunnelOut k b)).tunnelHost n b
  else if dst % 512 = s1.moduleId then s1.tunnelHost n b
  else s1.tunnelRoute n b

end Sys2Proof.Machine
end

