-- ==== Sys2Proof/Machine/Conj.lean ====
section
/-!
DEFINITION. Conjunctions and the resynchronisation of a stale module (R413, R415 to R422), and the records as they arrive at
an Ikile port.
-/

namespace Sys2Proof.Machine

/-! ### Voters and joiners (R415) -/

/-- A live entry is eligible, and eligible as a voter. -/
def ViewEntry.eligible (e : ViewEntry) : Bool := bitAt (byteAt e.body 0x2C) 6
def ViewEntry.voter (e : ViewEntry) : Bool :=
  e.eligible && [3, 6, 8].contains (byteAt e.body 3 % 16) && !bitAt (byteAt e.body 0x2C) 3

/-- This module is a voter. -/
def State.voter (s : State) : Bool := s.eligible && s.mode.mode.slotted && !s.ikl.outOfOrbit

/-- MODULE_IDs in view, this one included, that pass a test of entries; `own` is the module's own. -/
def State.counted (s : State) (own : Bool) (test : ViewEntry → Bool) : List Nat :=
  (if own then [s.moduleId] else []) ++ (s.ikl.table.filter (fun e => test e.2)).map Prod.fst

/-- H of R419: the highest LEADER_HOP of the modules counted. -/
def State.highHop (s : State) : Nat :=
  (s.ikl.table.filter (fun e => e.2.eligible && byteAt e.2.body 0x2A != 255)).foldl
    (fun h e => max h (byteAt e.2.body 0x2A)) 0

/-! ### Commit (R419, R420) -/

/-- A COMMIT acts on the member that holds its conjunction (R420). -/
def State.onCommit (s : State) (m : ConjMsg) : State :=
  match s.ikl.held with
  | some h =>
    if h.id ≠ m.id ∨ h.leader ≠ m.leader ∨ h.committed then s
    else
      let s1 := { s with ikl := { s.ikl with
        held := some { h with committed := true }, epoch := m.epoch, last := 1, reason := 0, by_ := 0 } }
      ((s1.count (iklCnt 8 1) 1).raise 0x0806 [(4, h.id), (4, h.orbit), (8, m.t), (4, m.epoch)]).updateView
  | none => if s.ikl.last = 3 ∧ s.ikl.lastId = m.id then s.count (iklCnt 8 4) 1 else s

/-- The answer deadline A of an open conjunction. -/
def Proposal.deadline (p : Proposal) : Nat := p.t - (500000 + 2000 * p.hops) * nsUnit

/-- The leader commits: COMMIT is flooded, its command completes. -/
def State.commitConj (s : State) (p : Proposal) : State :=
  let m := { s.conjMsg 3 0 p.id p.orbit p.epoch p.t s.moduleId with voters := p.voters.length }
  let s1 := (s.sendConj m).closeProposal St.ok [(8, toWord p.t), (4, p.epoch)]
  s1.onCommit m

/-- Every voter has answered PREPARED, and with the quorum, by A. -/
def State.canCommit (s : State) (p : Proposal) : Bool :=
  p.voters.all p.prepared.contains && decide (s.quorum ≤ p.prepared.length) && decide (s.time.now ≤ p.deadline)

/-- An ANSWER reaches a module: the leader commits or aborts by it, every module notes the first voter that refuses. -/
def State.onAnswer (s : State) (m : ConjMsg) : State :=
  match s.ikl.prop with
  | some p =>
    if m.id ≠ p.id ∨ m.leader ≠ s.moduleId then s
    else if m.reason ≠ 0 then
      if p.voters.contains m.origin then s.abortConj 1 m.origin
      else { s with ikl := { s.ikl with prop := some { p with prepared := p.prepared.filter (· != m.origin) } } }
    else
      let p1 := { p with prepared := p.prepared.filter (· != m.origin) ++ [m.origin] }
      let s1 := { s with ikl := { s.ikl with prop := some p1 } }
      if s1.canCommit p1 then s1.commitConj p1 else s1
  | none =>
    let votes := match tget? s.ikl.table m.origin with
      | some e => e.voter
      | none => m.origin == s.moduleId && s.voter
    let known := match s.ikl.refuser with
      | some (id, _) => id == m.id
      | none => false
    if m.reason ≠ 0 ∧ votes = true ∧ known = false then { s with ikl := { s.ikl with refuser := some (m.id, m.origin) } } else s

/-! ### Proposals (R417, R418) -/

/-- The module takes part in a proposal: it is a voter or joiner, or it was one when it last said so, or its sequencer is
halted (R162, R418); a refused or fenced module answers nothing (R410, R411). -/
def State.answers (s : State) : Bool :=
  decide (s.systemSize > 1) && !s.ikl.fwRefused && s.mode.mode != .fenced
    && (s.eligible || s.ikl.saidEligible || s.orb.halted)

/-- The first row of Table 19.5 that applies; 0 for PREPARED. -/
def State.answerCode (s : State) (m : ConjMsg) : Nat :=
  match s.orb.pendBank with
  | none => 1
  | some b =>
    let other := match s.ikl.held with
      | some h => h.id != m.id || h.leader != m.leader
      | none => false
    if b.id ≠ m.orbit then 1
    else if b.digest ≠ m.digest then 2
    else if s.orbitRoleOk b = false then 3
    else if s.orb.halted then 4
    else if other then 5
    else if s.fromWord (BitVec.ofNat 64 m.t) < s.time.now + 1000000 * nsUnit then 6
    else if s.eligible = false then 7
    else if (powerModes s.pwr.state).contains b.mode.code = false then 8
    else 0

/-- PREPARED: the bank is armed and held (R150, R418). -/
def State.prepare (s : State) (m : ConjMsg) : State :=
  let t := s.fromWord (BitVec.ofNat 64 m.t)
  let s1 := s.arm t
  let s2 := { s1 with
    orb := { s1.orb with conjHeld := true }
    ikl := { s1.ikl with held := some ⟨m.id, m.orbit, t, m.epoch, m.leader, false⟩ } }
  s2.raise 0x0805 [(4, m.id), (4, m.orbit)]

/-- A PROPOSE reaches a member, the leader itself among them. -/
def State.onPropose (s : State) (m : ConjMsg) : State :=
  let t := s.fromWord (BitVec.ofNat 64 m.t)
  let s1 := { s with ikl := { s.ikl with seenT := max s.ikl.seenT t, lastId := m.id, refuser := none } }
  let same := match s1.ikl.held with
    | some h => h.id == m.id && h.leader == m.leader
    | none => false
  if same = true ∨ s1.answers = false then s1
  else
    let code := s1.answerCode m
    let s2 := if code = 0 then s1.prepare m else s1
    let s3 := { s2 with ikl := { s2.ikl with reason := code } }
    let a := { s3.conjMsg 2 code m.id m.orbit m.epoch t m.leader with digest := m.digest }
    (s3.sendConj a).onAnswer a

/-- CONJ_ID of the next proposal: never 0. -/
def State.nextConj (s : State) : Nat := if seqNext s.ikl.lastId = 0 then 1 else seqNext s.ikl.lastId

/-- CONJ_PROPOSE (R417). -/
def execConjPropose (tag : CmdTag) (orbit : Nat) (notBefore : TimeWord) (s : State) : Host.Outcome State Fault Refusal :=
  next <| s.serve tag 0x0801 fun s =>
    if s.systemSize ≤ 1 ∨ s.isLeader = false then s.complete tag St.wrongRole
    else if s.ikl.stale ∨ s.eligibleCount < s.quorum then s.quorumCheck.complete tag St.noQuorum
    else if s.ikl.prop.isSome ∨ s.time.now < s.ikl.seenT then s.complete tag St.busy
    else match s.orb.pendBank with
    | none => s.complete tag St.noPendingOrbit
    | some b =>
      if b.id ≠ orbit then s.complete tag St.noPendingOrbit
      else
        let soon := s.time.now + 2000000 * nsUnit
        let t0 := if notBefore = 0 then soon else max soon (s.fromWord notBefore)
        let t := match s.orb.active with
          | some act => if s.orb.running ∧ s.orb.halted = false then act.boundaryFrom s.orb.anchor t0 else t0
          | none => t0
        -- T as the messages carry it: a time word of whole ns
        let t := (t + nsUnit - 1) / nsUnit * nsUnit
        let id := s.nextConj
        let voters := s.counted s.voter ViewEntry.voter
        let all := s.counted s.eligible ViewEntry.eligible
        let p : Proposal := {
          tag := tag, id := id, orbit := orbit, t := t, epoch := seqNext s.ikl.epoch, voters := voters
          joiners := all.filter (fun k => !voters.contains k), prepared := [], hops := s.highHop }
        let s1 := ({ s with ikl := { s.ikl with prop := some p } }).count (iklCnt 8 0) 1
        let m := { s1.conjMsg 1 0 id orbit p.epoch t s1.moduleId with voters := voters.length }
        (s1.sendConj m).onPropose m

/-- CONJ_ABORT (R422). -/
def execConjAbort (tag : CmdTag) (s : State) : Host.Outcome State Fault Refusal :=
  next <| s.serve tag 0x0802 fun s =>
    if s.systemSize ≤ 1 ∨ s.isLeader = false then s.complete tag St.wrongRole
    else if s.ikl.prop.isNone then s.complete tag St.late
    else (s.abortConj 4 s.moduleId).complete tag St.ok

/-- CONJ_DEADLINE (R419): A passes and the leader has not committed. -/
def execConjDeadline (s : State) : Host.Outcome State Fault Refusal :=
  next <| match s.ikl.prop with
  | some p =>
    let s1 := s.waitTime p.deadline
    match p.voters.find? (fun v => !p.prepared.contains v) with
    | some v => s1.abortConj 2 v
    | none => s1.quorumCheck.abortConj 3 s1.moduleId
  | none => s

/-- An ABORT reaches a module (R420). -/
def State.onAbort (s : State) (m : ConjMsg) : State :=
  let by_ := match s.ikl.refuser with
    | some (id, k) => if id = m.id ∧ m.reason = 1 then k else m.origin
    | none => m.origin
  let holds := match s.ikl.held with
    | some h => h.id == m.id && h.leader == m.leader && !h.committed
    | none => false
  let s1 := if holds then s.memberEnd 2 m.reason by_
    else { s with ikl := { s.ikl with last := 2, reason := m.reason, by_ := by_ } }
  (s1.count (iklCnt 8 2) 1).raise 0x0807 [(4, m.id), (1, m.reason), (2, by_)]

/-- CONJ_LOCAL_ABORT (R420): T − 200 µs passes without COMMIT or ABORT. -/
def execConjLocalAbort (s : State) : Host.Outcome State Fault Refusal :=
  next <| match s.ikl.held with
  | some h =>
    if h.committed then s
    else
      let s1 := (s.waitTime (h.t - 200000 * nsUnit)).memberEnd 3 0 0
      (s1.count (iklCnt 8 3) 1).raise 0x0808 [(4, h.id)]
  | none => s

/-- CONJ_REPEAT_SEND (R416): a message leaves a second time. -/
def execConjRepeatSend (s : State) : Host.Outcome State Fault Refusal :=
  next <| match s.ikl.repeats with
  | (t, except, body) :: rest =>
    let s1 := s.waitClk t
    ({ s1 with ikl := { s1.ikl with repeats := rest } }).flood 3 except body
  | [] => s

/-! ### Resynchronisation (R413) -/

/-- The lowest MODULE_ID that advertises the highest epoch of the agreeing set. -/
def State.syncSource (s : State) : Option Nat :=
  let set := s.agreeing
  let high := highEpoch s.ikl.epoch set
  let l := set.filter (fun m => m.epoch == high && m.id != s.moduleId)
  if high = s.ikl.epoch ∨ l = [] then none else some (lowestId l)

/-- SYNC_REQ_SEND: every 10 ms while stale. The message's CONJ_ID makes each one new to R416. -/
def execSyncReqSend (s : State) : Host.Outcome State Fault Refusal :=
  next <|
    if s.ikl.stale = false then s
    else
      let s1 := s.waitClk s.ikl.syncAt
      let s2 := { s1 with ikl := { s1.ikl with syncAt := s1.clk + 10000000, syncId := (s1.ikl.syncId + 1) % 65536 } }
      match s2.syncSource with
      | some k =>
        let m : ConjMsg := {
          kind := 5, origin := s2.moduleId, id := s2.moduleId * 65536 + s2.ikl.syncId, epoch := s2.ikl.epoch
          leader := s2.ikl.leader.getD 0, target := k }
        s2.sendConj m
      | none => s2

/-- What SYNC_REPLY says of the active Orbit: ID, digest, takeover instant. -/
def State.orbitPicture (s : State) : Nat × Bytes × Nat :=
  match s.orb.active with
  | some b => (b.id, b.digest, toWord s.orb.lastTko)
  | none => (0, zeros 16, 0)

/-- A SYNC_REQ for this module is answered. -/
def State.onSyncReq (s : State) (m : ConjMsg) : State :=
  if m.target ≠ s.moduleId then s
  else
    let (id, d, t) := s.orbitPicture
    s.sendConj {
      kind := 6, origin := s.moduleId, id := m.id, orbit := id, digest := d, epoch := s.ikl.epoch, t := t
      leader := s.ikl.leader.getD 0, target := m.origin }

/-- A SYNC_REPLY for this module: the epoch is taken, STALE clears, OUT_OF_ORBIT is judged. -/
def State.onSyncReply (s : State) (m : ConjMsg) : State :=
  if m.target ≠ s.moduleId ∨ s.ikl.stale = false then s
  else
    let (id, d, t) := s.orbitPicture
    let s1 := ({ s with ikl := { s.ikl with epoch := m.epoch, stale := false } }).count (iklCnt 8 5) 1
    let s2 := if id = m.orbit ∧ d = m.digest ∧ t = m.t then s1
      else (({ s1 with ikl := { s1.ikl with outOfOrbit := true } }).txDark).raise 0x080D [(4, id), (4, m.orbit)]
    s2.updateView

/-! ### Records as they arrive -/

/-- A CONJ body arrives: a duplicate is counted, any other is forwarded and acted on (R416). -/
def State.onConj (s : State) (n : Nat) (b : Bytes) : State :=
  let m := ConjMsg.read b
  if m.origin = s.moduleId ∨ s.conjSeen m then s.count (iklCnt n 7) 1
  else
    let s1 := (s.meetConj m).floodConj n b
    let s2 := s1.each (s1.upPorts.filter (· != n)) (fun s k => s.count (iklCnt k 6) 1)
    match m.kind with
    | 1 => s2.onPropose m
    | 2 => s2.onAnswer m
    | 3 => s2.onCommit m
    | 4 => s2.onAbort m
    | 5 => s2.onSyncReq m
    | 6 => s2.onSyncReply m
    | _ => s2

/-- A record arrives at an Ikile port (R402). -/
def State.recordIn (s : State) (n : Nat) (r : Bytes) : State :=
  match s.takeRecord n r with
  | (none, s1) => s1
  | (some b, s1) =>
    match byteAt r 0 with
    | 1 => s1.onExch n (leAt r 4 4) b
    | 2 => s1.onComet n b
    | 3 => s1.onConj n b
    | _ => s1.onTunnel n b

/-- EXCH_RX (R404). -/
def execExchRx (port : Fin 8) (record : Bytes) (s : State) : Host.Outcome State Fault Refusal :=
  next (s.recordIn port record)
/-- COMET_RX (R408). -/
def execCometRx (port : Fin 8) (record : Bytes) (s : State) : Host.Outcome State Fault Refusal :=
  next (s.recordIn port record)
/-- SYNC_REQ (R413). -/
def execSyncReq (port : Fin 8) (record : Bytes) (s : State) : Host.Outcome State Fault Refusal :=
  next (s.recordIn port record)
/-- SYNC_REPLY (R413). -/
def execSyncReply (port : Fin 8) (record : Bytes) (s : State) : Host.Outcome State Fault Refusal :=
  next (s.recordIn port record)
/-- PROPOSE (R418). -/
def execPropose (port : Fin 8) (record : Bytes) (s : State) : Host.Outcome State Fault Refusal :=
  next (s.recordIn port record)
/-- ANSWER (R419). -/
def execAnswer (port : Fin 8) (record : Bytes) (s : State) : Host.Outcome State Fault Refusal :=
  next (s.recordIn port record)
/-- COMMIT (R420). -/
def execCommit (port : Fin 8) (record : Bytes) (s : State) : Host.Outcome State Fault Refusal :=
  next (s.recordIn port record)
/-- ABORT (R420). -/
def execAbort (port : Fin 8) (record : Bytes) (s : State) : Host.Outcome State Fault Refusal :=
  next (s.recordIn port record)
/-- TUNNEL_RX (R423). -/
def execTunnelRx (port : Fin 8) (record : Bytes) (s : State) : Host.Outcome State Fault Refusal :=
  next (s.recordIn port record)

end Sys2Proof.Machine
end

