-- ==== Sys2Proof/Machine/Nvm.lean ====
section
/-!
DEFINITION. The flash (chapter 23): regions, programs and erases with their read-back (R493 to R495), the shut-down record
area and its command (R496, R497).
-/

namespace Sys2Proof.Machine

/-- Row of Table 23.3 to which a job writes. -/
def FlashJob.region : FlashJob → Nat
  | .journal => 1
  | .record _ => 2
  | .calImage => 5
  | .trims => 7
  | .drift => 8
  | .logPage _ => 9

/-! ### Sectors (R494) -/

/-- One erase of a sector of 64 KiB; it warns as the sector passes 80 000. -/
def State.eraseSector (s : State) (n : Nat) : State :=
  let c := tget 0 s.nvm.erases n + 1
  let s1 := { s with nvm := { s.nvm with erases := tset 0 s.nvm.erases n c } }
  if c = 80001 then s1.raise 0x0603 [(4, n), (4, c)] else s1

/-- Sectors from one on are erased. -/
def State.eraseSectors (s : State) (first n : Nat) : State := s.each (List.range n) (fun s i => s.eraseSector (first + i))

/-- NVM_STATUS.WEAR_PCT. -/
def State.wearPct (s : State) : Nat := s.nvm.erases.foldl (fun m e => max m e.2) 0 / 1000

/-- Pages of 256 bytes that a sector of the event log holds behind its header, and sectors of the log. -/
def logPagesPerSector : Nat := 255
def logSectors : Nat := 6272

/-- A page joins the event log; the oldest sector is erased where the head needs it (R494). -/
def State.addLogPage (s : State) (recs : List EvtRec) : State :=
  let n := s.obs.pageCount
  let wrap := decide (n % logPagesPerSector = 0 ∧ logPagesPerSector * logSectors ≤ n)
  let s1 := if wrap then s.eraseSector (0x780 + n / logPagesPerSector % logSectors) else s
  let pages := if wrap then s1.obs.pages.drop logPagesPerSector else s1.obs.pages
  { s1 with obs := { s1.obs with
    pages := pages ++ [recs], pageCount := n + 1, staged := s1.obs.staged.drop recs.length } }

/-- A record of the counter journal (R495): 2 040 records a sector, two sectors in turn. -/
def State.addJournal (s : State) : State :=
  let n := s.nvm.journalSeq
  let s1 := if n % 2040 = 0 ∧ 0 < n then s.eraseSector (1 + n / 2040 % 2) else s
  { s1 with nvm := { s1.nvm with
    journalCount := max s1.nvm.journalCount s1.canvas.arb, journalWindow := s1.cx.window, journalSeq := n + 1
    journalFailed := false } }

/-! ### Shut-down records (R496, Table 23.4) -/

/-- Bytes of a record up to its marker. -/
def shutdownBody (seq cause dies sensor mode temp thr power time evt frames gen waited : Nat) : Bytes :=
  leBytes 4 seq ++ leBytes 1 cause ++ leBytes 1 dies ++ leBytes 1 sensor ++ leBytes 1 mode ++ leBytes 2 temp
    ++ leBytes 2 thr ++ leBytes 1 power ++ zeros 3 ++ leBytes 8 time ++ leBytes 4 evt ++ leBytes 4 frames
    ++ leBytes 4 gen ++ leBytes 2 waited ++ zeros 10

/-- A unit of the flash with its commit marker (R493). -/
def withMarker (unit : Bytes) (seq : Nat) : Bytes :=
  unit ++ leBytes 4 0x544D4D43 ++ leBytes 4 unit.length ++ leBytes 4 seq ++ leBytes 4 (crc32c unit)

/-- A record stands committed in its slot. -/
def State.addRecord (s : State) (b : Bytes) : State :=
  { s with
    nvm := { s.nvm with
      records := (b :: s.nvm.records).take 1024, recordTotal := s.nvm.recordTotal + 1, slots := s.nvm.slots - 1 }
    ret := { s.ret with shutdownSeen := true } }

/-- At a start the other sector is erased where fewer than 16 slots are left (R496). -/
def State.readySlots (s : State) : State :=
  if s.nvm.slots < 16 then
    let s1 := s.eraseSector (3 + s.nvm.recordTotal / 1020 % 2)
    { s1 with nvm := { s1.nvm with slots := 1020 } }
  else s

/-- The shut-down's record is committed or abandoned. -/
def State.recordSettled (s : State) : State :=
  match s.thm.shutdown with
  | some d => { s with thm := { s.thm with shutdown := some { d with recorded := true } } }
  | none => s

/-! ### Programs (R494) -/

/-- A program that has read back well. -/
def State.programmed (s : State) (j : FlashJob) : State :=
  match j with
  | .logPage recs => s.addLogPage recs
  | .calImage =>
    let s1 := s.eraseSectors (0x500 + 128 * (s.cal.gen % 2)) 128
    { s1 with
      cal := { s1.cal with imgNvm := s1.cal.img, genNvm := s1.cal.gen }
      mx := { s1.mx with stuckNvm := s1.mx.stuck, stuckRevNvm := s1.mx.stuckRev } }
  | .trims => { s with cal := { s.cal with trimsNvm := s.cal.trims } }
  | .drift => s
  | .record b => (s.addRecord b).recordSettled
  | .journal => s.addJournal

/-- A program that has failed twice: the data stays in memory. -/
def State.programFailed (s : State) (j : FlashJob) : State :=
  let s1 := s.raise 0x0602 [(1, j.region)]
  match j with
  | .calImage => s1.raise 0x0A06 [(4, s1.cal.gen)]
  | .record _ => s1.recordSettled
  | .journal => { s1 with nvm := { s1.nvm with journalFailed := true } }
  | _ => s1

/-- NVM_PROGRAM_DONE: the program in progress ends, with its read-back good or not. -/
def execNvmProgramDone (ok : Bool) (s : State) : Host.Outcome State Fault Refusal :=
  next <| match s.nvm.jobs with
  | [] => s
  | j :: rest =>
    let s0 := if ok then s else s.bump Reg.NVM_ERR_WRITE_FAIL 1
    if ok = false ∧ s0.nvm.retried = false then { s0 with nvm := { s0.nvm with retried := true } }
    else
      let s1 := { s0 with nvm := { s0.nvm with jobs := rest, retried := false } }
      (if ok then s1.programmed j else s1.programFailed j).logPages

/-- SHUTDOWN_READ (R497). -/
def execShutdownRead (tag : CmdTag) (count outAddr : Nat) (s : State) : Host.Outcome State Fault Refusal :=
  next <| s.serve tag 0x0601 fun s =>
    if count < 1 ∨ 64 < count then s.complete tag St.badParam
    else
      let recs := s.nvm.records.take count
      (s.outData tag outAddr recs.flatten).completeWith tag St.ok [(4, recs.length), (4, s.nvm.recordTotal)]
        (decide (recs ≠ []))

end Sys2Proof.Machine
end

