-- ==== Sys2Proof/Machine/Easel.lean ====
section
/-!
DEFINITION. The Easel's commands and timed work (chapter 11): Calibrate runs, eye scans, drift records and ageing, trims.
-/

namespace Sys2Proof.Machine

/-! ### Calibrate runs (R256 to R258) -/

/-- CAL_TEMP of a SET run: some zone more than 1.0 °C from the set's point, or without a valid sensor. -/
def State.calTempBad (s : State) (set : Nat) : Bool :=
  (List.range 32).any (fun z =>
    let h := tget {} s.adc.hk (64 + z)
    !h.valid || decide ((h.value - (2000 + 1000 * (set : Int))).natAbs > 100))

/-- CAL_RUN. -/
def execCalRun (tag : CmdTag) (kind set groups : Nat) (store : Bool) (s : State) : Host.Outcome State Fault Refusal :=
  next <| s.serve tag 0x0A01 fun s =>
    if kind > 1 ∨ set > 7 ∨ groups > 15 then s.complete tag St.badParam
    else if s.mode.mode ≠ .calibrate then s.complete tag St.wrongMode
    else if s.pwr.state ≠ 0 ∨ s.pwr.target ≠ 0 then s.complete tag St.powerState
    else if s.cal.run.isSome then s.complete tag St.busy
    else if kind = 1 ∧ s.calTempBad set = true then s.complete tag St.calTemp
    else
      let r : CalRun := { tag := tag, kind := kind, set := set, groups := groups, store := store, phase := 1, startAt := s.clk }
      ({ s with cal := { s.cal with run := some r } }).easelLasers groups

/-- Quantities that a run measures, with the numbers of their items (Tables 11.1, 11.3). -/
def runItems : CalQ → Nat
  | .offset | .gain => 9856
  | .biasCal | .calHtr | .eoGain | .leak | .loss | .levelBar | .levelCross => 4352
  | .launch => 256
  | _ => 0

/-- What a FIELD run makes of one set's value: the accepted value's difference from the one in force, a ratio for GAIN
and EO_GAIN (R257). -/
def fieldValue (q : CalQ) (v accepted inForce : Int) : Int :=
  match q with
  | .gain | .eoGain => if 0 < inForce then divRound (v * accepted) inForce.toNat else accepted
  | _ => v + (accepted - inForce)

/-- Image values that an accepted result gives. -/
def State.runValues (s : State) (r : CalRun) (q : CalQ) (item : Nat) (accepted : Int) : List (Nat × Int) :=
  let clamp (v : Int) : Int := clampInt v (calRange q).1 (calRange q).2
  if inSets q item = false then [(calKey q 0 item, clamp accepted)]
  else if r.kind = 1 then [(calKey q r.set item, clamp accepted)]
  else (List.range 8).map (fun i => (calKey q i item, clamp (fieldValue q (s.imgVal q i item) accepted (s.calAt q item))))

/-- One measured value of a run: accepted where its two results agree (R251); the Bool tells. -/
def State.runResult (s : State) (r : CalRun) (m : CalResult) : Bool × State :=
  if s.agree m.quantity m.first m.second = false then
    (false, s.calReject m.quantity m.item m.first m.second (s.calAt m.quantity m.item))
  else
    let v := divRound (m.first + m.second) 2
    let s1 := { s with cal := { s.cal with
      next := (s.runValues r m.quantity m.item v).foldl (fun t e => tput t e.1 e.2) s.cal.next } }
    if m.quantity = .offset ∧ r.kind = 0 then
      (true, { s1 with cal := { s1.cal with trimsNext := tput s1.cal.trimsNext m.item 0 } })
    else (true, s1)

/-- The results of a run in turn, with the counts of those accepted and rejected. -/
def State.runResults (s : State) (r : CalRun) (l : List CalResult) : Nat × Nat × State :=
  l.foldl (fun a m =>
    if m.item < runItems m.quantity then
      let x := a.2.2.runResult r m
      if x.1 then (a.1 + 1, a.2.1, x.2) else (a.1, a.2.1 + 1, x.2)
    else a) (0, 0, s)

/-- Every cell is set to the BIAS_CAL and CAL_HTR in force (Table 11.3, phase 5). -/
def State.setCodes (s : State) : State :=
  { s with dac := { s.dac with
    bias := allCells.foldl (fun t c => tput t c (s.calAt .biasCal c)) s.dac.bias
    htrTarget := allCells.foldl (fun t c => tput t c (s.calAt .calHtr c).toNat) s.dac.htrTarget } }

/-- The image is written to the flash; its generation adds one at each write (R247, R257). -/
def State.storeCal (s : State) (ok : Bool) : State :=
  let s1 := { s with cal := { s.cal with gen := (s.cal.gen + 1) % 2 ^ 32 } }
  if ok then s1.programmed .calImage else (s1.bump Reg.NVM_ERR_WRITE_FAIL 2).programFailed .calImage

/-- The run is over: lasers off, and the module returns to mode 1; a SET_MODE that waits completes (R257, R258). -/
def State.leaveRun (s : State) : State :=
  let s1 := s.safStop 4 St.wrongMode
  match s1.mode.pend with
  | some _ => s1.takePending
  | none => s1.enterMode .safe 6

/-- CAL_RUN_DONE: phases 5 and 6, with the measurements of the run. -/
def execCalRunDone (results : List CalResult) (skipped : Nat) (nvmOk : Bool) (s : State) :
    Host.Outcome State Fault Refusal :=
  next <| match s.cal.run with
  | none => s
  | some r =>
    let x := s.runResults r results
    let s1 := x.2.2.calBoundary.setCodes
    let s2 := if r.store then s1.storeCal nvmOk else s1
    let counts := [(4, x.1), (4, x.2.1), (4, skipped)]
    let s3 := ({ s2 with cal := { s2.cal with run := none } }).raise 0x0A01 ((1, r.kind) :: counts)
    (s3.complete r.tag St.ok counts).leaveRun

/-- CAL_RUN_TIMEOUT: phase 5 not reached within 60 s (R256); nothing is applied. -/
def execCalRunTimeout (s : State) : Host.Outcome State Fault Refusal :=
  next <| match s.cal.run with
  | none => s
  | some r =>
    let s1 := s.waitClk (r.startAt + 60000000000)
    (({ s1 with cal := { s1.cal with run := none } }).complete r.tag St.aborted [(1, 2)]).leaveRun

/-! ### Eye scans (R261, R278) -/

/-- The record of a lane. -/
def State.setEye (s : State) (n : Nat) (e : EyeRecord) : State :=
  { s with cal := { s.cal with eyes := tset {} s.cal.eyes n e } }

/-- LANE_CTL.EYE_NOW of a lane. -/
def State.eyeRequest (s : State) (n : Nat) : State :=
  if n < 512 then s.setLane n { s.lane n with eyeNow := true } else s

/-- EYE_NOW_REQUEST. -/
def execEyeNowRequest (lane : Nat) (s : State) : Host.Outcome State Fault Refusal := next <| s.hostAct 0 fun s => (s.eyeRequest lane)

/-- EYE_SCAN_START: a lane's turn. One that is not READY keeps its last figures and is marked STALE. -/
def execEyeScanStart (lane : Nat) (s : State) : Host.Outcome State Fault Refusal :=
  next <|
    if lane ≥ 512 ∨ s.flag Reg.CAL_CTL_EYE_EN = false ∨ s.cal.scanning.contains lane = true then s
    else if (s.lane lane).fn.ready = false then s.setEye lane { tget {} s.cal.eyes lane with stale := true }
    else if s.cal.scanning.length ≥ 32 then s
    else
      let s1 := s.setLane lane { s.lane lane with eyeNow := false }
      { s1 with cal := { s1.cal with scanning := s1.cal.scanning ++ [lane] } }

/-- EYE_SCAN_DONE. -/
def execEyeScanDone (lane : Nat) (result : EyeResult) (s : State) : Host.Outcome State Fault Refusal :=
  next <|
    if s.cal.scanning.contains lane = false then s
    else
      let s1 := { s with cal := { s.cal with scanning := s.cal.scanning.filter (· != lane) } }
      s1.setEye lane {
        width := min result.width 64, height := min result.height 1023, ber := min result.ber 65535
        sec := timeNs s1.time.now / 1000000000 % 2 ^ 32, valid := true, stale := false
        part := decide (256 ≤ lane) && result.part }

/-! ### Drift records and ageing (R262, R263) -/

/-- Bias drift of a cell now: applied bias less both feedforwards, less BIAS_CAL. -/
def State.biasDriftNow (s : State) (c : Nat) : Int :=
  divRound (s.biasOut c * 65536 - s.tempFf c - s.stageFf c) 65536 - s.calAt .biasCal c

/-- Heater drift of a cell now. -/
def State.htrDriftNow (s : State) (c : Nat) : Int := (s.htrTarget c : Int) - s.calAt .calHtr c

/-- A cell's quality figures. -/
def State.quality (s : State) (c : Nat) : CellQuality := tget {} s.cal.quality c
def State.setQuality (s : State) (c : Nat) (q : CellQuality) : State :=
  { s with cal := { s.cal with quality := tset {} s.cal.quality c q } }

def dayNs : Nat := 86400000000000
def monthNs : Nat := 2592000000000000

/-- DRIFT_DAILY_SAMPLE: after 86 400 s of L0, every cell in TRACK. -/
def execDriftDailySample (s : State) : Host.Outcome State Fault Refusal :=
  next <|
    if s.pwr.state ≠ 0 ∨ s.started = false then s
    else
      let s1 := s.elapse (dayNs - s.cal.l0Day)
      let s2 := { s1 with cal := { s1.cal with l0Day := s1.cal.l0Day - dayNs } }
      s2.each (s2.loops.cells.filter (fun e => e.2.state == .track)) (fun s e =>
        let q := s.quality e.1
        s.setQuality e.1 { q with daily := q.daily ++ [(s.biasDriftNow e.1, s.htrDriftNow e.1)] })

/-- The monthly entry of a month's samples (R262). -/
def monthEntry (daily : List (Int × Int)) : Word :=
  if daily.length < 5 then 0x80008000
  else BitVec.ofNat 32 (unsigned 16 (satInt 16 (median (daily.map Prod.fst)))
    + 65536 * unsigned 16 (satInt 16 (median (daily.map Prod.snd))))

/-- The last 36 valid entries as (month, value) pairs; the newest entry is month 0. -/
def validEntries (ring : List Word) (part : Word → Int) : List (Int × Int) :=
  let l := ring.reverse
  ((((List.range l.length).map (fun i => (i, lget 0 l i))).filter (fun e => e.2 != 0x80008000)).take 36).map
    (fun e => (-(e.1 : Int), part e.2))

/-- Tenths of a year until a least-squares line through the entries reaches a bound in its direction; 255 for more than
25.4 years or no trend (R263, Table 11.4). -/
def yearsTo (pts : List (Int × Int)) (lo hi : Int) : Nat :=
  let n : Int := pts.length
  let sx := sumInt (pts.map Prod.fst)
  let sy := sumInt (pts.map Prod.snd)
  let d := n * sumInt (pts.map (fun p => p.1 * p.1)) - sx * sx
  let b := n * sumInt (pts.map (fun p => p.1 * p.2)) - sx * sy
  if pts.length < 6 ∨ b = 0 then 255
  else
    -- the line's value at month 0 is v / (n d), its slope b / d
    let v := sy * d - b * sx
    let bound := if 0 < b then hi else lo
    let num := (bound * n * d - v) * 400
    let t := if 0 < b then num / (n * b * 487) else -num / (-(n * b * 487))
    (clampInt t 0 255).toNat

/-- The ageing fit of a cell after a monthly entry. -/
def State.ageCell (s : State) (c : Nat) : State :=
  let q := s.quality c
  let lim : Int := s.coefHalf c 0x2A * 9 / 10
  let bc := s.calAt .biasCal c
  let hc := s.calAt .calHtr c
  let yb := yearsTo (validEntries q.ring (fun w => signed 16 w.toNat)) (-lim - bc) (lim - bc)
  let yh := yearsTo (validEntries q.ring (fun w => signed 16 (w.toNat / 65536)))
    ((s.coefHalf c 0x2C : Int) - hc) ((s.coefHalf c 0x2E : Int) - hc)
  let limit := s.fld Reg.CAL_AGE_WARN_YEARS
  let s1 := s.setQuality c { q with yearsBias := yb, yearsHtr := yh, warn := decide (yb < limit ∨ yh < limit) }
  if yb < limit then s1.raise 0x0A05 [(2, c), (1, 0), (1, yb)]
  else if yh < limit then s1.raise 0x0A05 [(2, c), (1, 1), (1, yh)]
  else s1

/-- One cell's monthly entry. -/
def State.monthCell (s : State) (c : Nat) : State :=
  let q := s.quality c
  let w := monthEntry q.daily
  let some_ := decide (w ≠ 0x80008000)
  (s.setQuality c { q with
    daily := [], ring := q.ring.drop (q.ring.length + 1 - 256) ++ [w], index := (q.index + 1) % 256
    biasDrift := if some_ then some (signed 16 w.toNat) else q.biasDrift
    htrDrift := if some_ then some (signed 16 (w.toNat / 65536)) else q.htrDrift }).ageCell c

/-- DRIFT_MONTHLY_WRITE: after 2 592 000 s of L0. -/
def execDriftMonthlyWrite (s : State) : Host.Outcome State Fault Refusal :=
  next <|
    if s.pwr.state ≠ 0 ∨ s.started = false then s
    else
      let s1 := s.elapse (monthNs - s.cal.l0Month)
      let s2 := { s1 with cal := { s1.cal with l0Month := s1.cal.l0Month - monthNs } }
      (s2.each allCells State.monthCell).flashJob .drift

/-- Entry k of a cell's drift record; one never written reads as one of fewer than 5 samples. -/
def driftEntry (q : CellQuality) (k : Nat) : Word :=
  if q.ring.length < 256 then lget 0x80008000 q.ring k else lget 0 q.ring ((k + 256 - q.index) % 256)

/-- CAL_DRIFT_READ: the 256 entries, then the ring index as 4 bytes. -/
def execCalDriftRead (tag : CmdTag) (cell outAddr : Nat) (s : State) : Host.Outcome State Fault Refusal :=
  next <| s.serve tag 0x0A02 fun s =>
    if cell ≥ 4352 then s.complete tag St.badParam
    else
      let q := s.quality cell
      let b := (List.range 256).flatMap (fun k => leBytes 4 (driftEntry q k).toNat) ++ leBytes 4 q.index
      (s.outData tag outAddr b).completeWith tag St.ok [] true

/-! ### Trims (R253) -/

/-- TRIM_NVM_WRITE: changed trims are written, at most once an hour. -/
def execTrimNvmWrite (s : State) : Host.Outcome State Fault Refusal :=
  next <|
    if s.cal.trims = s.cal.trimsNvm ∨ s.started = false then s
    else
      let s1 := if s.cal.trimsAt = 0 then s else s.waitClk (s.cal.trimsAt + 3600000000000)
      ({ s1 with cal := { s1.cal with trimsAt := s1.clk } }).flashJob .trims

end Sys2Proof.Machine
end

