-- ==== Sys2Proof/Machine/Observe.lean ====
section
/-!
DEFINITION. Reading of counters, snapshots and the event log (R364, R367, R374, R375).
-/

namespace Sys2Proof.Machine

/-- COUNTER_RECORD_READ (R364): word 0 of a record is read, words 1 and 2 are latched from the same instant. -/
def execCounterRecordRead (addr : Nat) (s : State) : Host.Outcome State Fault Refusal :=
  let a := addr / 16 * 16
  let v := s.cntOf a
  next (s.hostRead 2 fun s =>
    { s with obs := { s.obs with cntLatch := some (a, v) }, readData := BitVec.ofNat 32 v })

/-- Regions of Table 17.1: first and last address. -/
def cntRegions : List (Nat × Nat) :=
  [(0x2000000, 0x25FFFFF), (0x2600000, 0x26FFFFF), (0x2700000, 0x277FFFF), (0x2780000, 0x287FFFF),
    (0x2880000, 0x2A7FFFF), (0x2A80000, 0x2BFFFFF), (0x2C00000, 0x2C003FF), (0x2C10000, 0x2C100FF)]

/-- A range of records lies within one region. -/
def rangeInRegion (r : Nat × Nat) : Bool :=
  cntRegions.any (fun g => decide (g.1 ≤ r.1 ∧ r.1 + 16 * r.2 ≤ g.2 + 1))

/-- Addresses of the records of a list of ranges, in list order. -/
def rangeAddrs (l : List (Nat × Nat)) : List Nat := l.flatMap (fun r => (List.range r.2).map (fun i => r.1 + 16 * i))

/-- Snapshots that are still queued. -/
def State.snapsOpen (s : State) : List Nat := s.obs.snaps.filter (fun t => decide (s.clk < t))

/-- A snapshot taken now (R367): the copy goes out, CLEAR leaves 0, and the queue is held for its longest time. -/
def State.snapshot (s : State) (tag : CmdTag) (l : List (Nat × Nat)) (clear : Bool) (outAddr : Nat) : State :=
  let a := rangeAddrs l
  let s1 := s.outData tag outAddr (a.flatMap (fun x => padTo 16 (leBytes 9 (s.cntOf x))))
  let cnt := if clear then s1.obs.cnt.filter (fun e => !l.any (fun r => decide (r.1 ≤ e.1 ∧ e.1 < r.1 + 16 * r.2)))
    else s1.obs.cnt
  let s2 := { s1 with obs := { s1.obs with
    cnt := cnt, snaps := s1.snapsOpen ++ [s1.clk + 1000000 + 100 * a.length] } }
  s2.completeWith tag St.ok [(8, toWord s.time.now)] true

/-- CNT_SNAPSHOT (R367): served in L0 to L3. -/
def execCntSnapshot (tag : CmdTag) (ranges : Option Bytes) (rangeCount : Nat) (clear : Bool) (outAddr : Nat)
    (s : State) : Host.Outcome State Fault Refusal :=
  next <| s.serve tag 0x1601 fun s =>
    if s.pwr.state > 3 then s.complete tag St.powerState
    else if rangeCount = 0 ∨ rangeCount > 8 then s.complete tag St.badParam
    else match ranges with
    | none => s.complete tag St.hostDmaError
    | some b =>
      let l := (List.range rangeCount).map (fun i => (leAt b (8 * i) 4, leAt b (8 * i + 4) 4))
      if (l.any (fun r => r.1 % 16 != 0)) ∨ (l.map Prod.snd).foldl (· + ·) 0 > 262144 then s.complete tag St.badParam
      else if l.any (fun r => !rangeInRegion r) then s.complete tag St.cntRange
      else if s.snapsOpen.length ≥ 4 then s.complete tag St.busy
      else s.snapshot tag l clear outAddr

/-- Every retained record, in the order raised (R375). -/
def State.retained (s : State) : List EvtRec := s.obs.pages.flatten ++ s.obs.staged

/-- READ_LOG (R375): records written, and the lowest and highest numbers retained. -/
def execReadLog (tag : CmdTag) (first count outAddr : Nat) (s : State) : Host.Outcome State Fault Refusal :=
  next <| s.serve tag 0x0009 fun s =>
    if count = 0 ∨ count > 4096 then s.complete tag St.badParam
    else
      let all := s.retained
      let got := (all.filter (fun r => !newer 32 first r.seq)).take count
      let low := (all.head?.map EvtRec.seq).getD (seqNext s.cx.evtSeq)
      let high := (all.getLast?.map EvtRec.seq).getD s.cx.evtSeq
      let s1 := s.outData tag outAddr (got.flatMap EvtRec.entry)
      s1.completeWith tag St.ok [(4, got.length), (4, low), (4, high)] (got != [])

/-- LOG_TICK (R374): at the 1 s tick the records that wait are written in a padded page. -/
def execLogTick (s : State) : Host.Outcome State Fault Refusal :=
  next <|
    let s1 := s.waitClk s.obs.tickAt
    let s2 := { s1 with obs := { s1.obs with tickAt := s1.clk + 1000000000 } }
    if s2.obs.staged = [] ∨ s2.nvm.jobs.any isLogJob then s2 else s2.flashJob (.logPage (s2.obs.staged.take 7))

end Sys2Proof.Machine
end

