-- ==== Sys2Proof/Machine/P384.lean ====
section
/-!
DEFINITION. ECDSA over curve P-384 (R81), in Jacobian coordinates. The curve's constants are those of FIPS 186 (PRESUMED).
-/

namespace Sys2Proof.Machine

namespace P384
def p : Nat := 2 ^ 384 - 2 ^ 128 - 2 ^ 96 + 2 ^ 32 - 1
def n : Nat := 0xffffffffffffffffffffffffffffffffffffffffffffffffc7634d81f4372ddf581a0db248b0a77aecec196accc52973
def b : Nat := 0xb3312fa7e23ee7e4988e056be3f82d19181d9c6efe8141120314088f5013875ac656398d8a2ed19d2a85c8edd3ec2aef
def gx : Nat := 0xaa87ca22be8b05378eb1c71ef320ad746e1d3b628ba79b9859f741e082542a385502f25dbf55296c3a545e3872760ab7
def gy : Nat := 0x3617de4a96262c6f5d9e98bf9292dc29f8f41dbd289a147ce9da3113b5f0b8c00a60b1ce1d7e819d7a431d7c90ea0e5f

/-- A point in Jacobian coordinates; z = 0 is the point at infinity. -/
structure Point where
  x : Nat
  y : Nat
  z : Nat
  deriving DecidableEq, Repr

def inf : Point := ⟨1, 1, 0⟩

def sub (a b : Nat) : Nat := (a + p - b % p) % p

/-- a^e modulo m over `k` bits of e. -/
def powMod (m : Nat) : Nat → Nat → Nat → Nat
  | 0, _, _ => 1 % m
  | k + 1, a, e => (if e % 2 = 1 then a else 1) * powMod m k (a * a % m) (e / 2) % m

/-- Inverse modulo a prime below 2^384. -/
def inv (m a : Nat) : Nat := powMod m 384 (a % m) (m - 2)

/-- Doubling (a = −3). -/
def dbl (q : Point) : Point :=
  if q.z = 0 ∨ q.y = 0 then inf
  else
    let zz := q.z * q.z % p
    let m := 3 * (sub q.x zz) * (q.x + zz) % p
    let yy := q.y * q.y % p
    let s := 4 * q.x * yy % p
    let x := sub (m * m % p) (2 * s)
    ⟨x, sub (m * sub s x % p) (8 * yy * yy), 2 * q.y * q.z % p⟩

/-- Addition. -/
def add (q r : Point) : Point :=
  if q.z = 0 then r
  else if r.z = 0 then q
  else
    let z1 := q.z * q.z % p
    let z2 := r.z * r.z % p
    let u1 := q.x * z2 % p
    let u2 := r.x * z1 % p
    let s1 := q.y * z2 * r.z % p
    let s2 := r.y * z1 * q.z % p
    if u1 = u2 then (if s1 = s2 then dbl q else inf)
    else
      let h := sub u2 u1
      let d := sub s2 s1
      let hh := h * h % p
      let hhh := h * hh % p
      let v := u1 * hh % p
      let x := sub (sub (d * d % p) hhh) (2 * v)
      ⟨x, sub (d * sub v x % p) (s1 * hhh), q.z * r.z * h % p⟩

/-- The multiple of a point by the low `k` bits of a number. -/
def mul (q : Point) : Nat → Nat → Point
  | 0, _ => inf
  | k + 1, e =>
    let r := dbl (mul q k (e / 2))
    if e % 2 = 1 then add r q else r

/-- Is (x, y) a point of the curve? -/
def onCurve (x y : Nat) : Bool :=
  decide (x < p ∧ y < p ∧ y * y % p = (x * x * x + (p - 3) * x + b) % p)

/-- ECDSA verification of a hash value under a public key. -/
def verify (e x y r s : Nat) : Bool :=
  if onCurve x y = false ∨ r = 0 ∨ n ≤ r ∨ s = 0 ∨ n ≤ s then false
  else
    let w := inv n s
    let q := add (mul ⟨gx, gy, 1⟩ 384 (e * w % n)) (mul ⟨x, y, 1⟩ 384 (r * w % n))
    if q.z = 0 then false
    else
      let zi := inv p q.z
      q.x * zi * zi % p % n == r
end P384

/-- The signature of R81: the block's key, and the signature over the 128 header bytes. -/
def signatureOk (header block : Bytes) : Bool :=
  P384.verify (beNat (sha384 header)) (beAt block 16 48) (beAt block 64 48) (beAt block 112 48) (beAt block 160 48)

end Sys2Proof.Machine
end

