-- ==== Sys2Proof/Machine/CanvasCheck.lean ====
section
/-!
DEFINITION. Verification of a Canvas image (R76 to R90, R221): the checks of Table 4.4 and the content rules of every
section. A content check answers the index of the first record that fails.
-/

namespace Sys2Proof.Machine

/-! ### The image -/

def imgLen (img : Bytes) : Nat := leAt img 8 4
def imgGen (img : Bytes) : Nat := leAt img 0x0C 4
def imgSvn (img : Bytes) : Nat := leAt img 0x10 4
def imgSections (img : Bytes) : Nat := leAt img 0x16 2

/-- The entries of the section table: TYPE, OFFSET, LENGTH, COUNT. -/
def imgEntries (img : Bytes) : List (Nat × Nat × Nat × Nat) := (List.range (imgSections img)).map (sectEntry img)

/-- SECTION_DIGEST of entry i. -/
def entryDigest (img : Bytes) (i : Nat) : Bytes := slice img (0x80 + 32 * i + 0x10) 16

/-- A section's body, empty where it is absent (R79). -/
def secBody (img : Bytes) (type : Nat) : Bytes := (sectionOf img type).getD []

/-- Records of a size in a section. -/
def secRecords (img : Bytes) (type size : Nat) : List Bytes :=
  chunks size ((secBody img type).length / size) (secBody img type)

/-- The system digest recomputed (R80). -/
def systemDigestOf (img : Bytes) : Bytes := digest16 (slice img 4 2 ++ secBody img 2 ++ secBody img 5)

/-- Positions of `l` at which a test over the records before and the record fails: the first of them. -/
def firstBadWith {α : Type} (ok : List α → α → Bool) (l : List α) : Option Nat :=
  (List.range l.length).find? (fun i => match l[i]? with
    | some r => !ok (l.take i) r
    | none => false)

/-! ### Content of the records of chapter 04 -/

/-- IDENT (R83, R84). A START_MODE other than 1 asks for START_PERM to be routable and in service. -/
def identOk (img : Bytes) : Bool :=
  let b := secBody img 1
  let perm := permOfHost (slice b 0x10 1024)
  let mode := byteAt b 4
  let role := secBody img 6
  let routable := match routePerm perm [] with
    | .ok _ => true
    | .error _ => false
  decide (leAt b 0 2 ≤ 511) && decide (leAt b 2 2 &&& 0xFE07 = 0) && [1, 4, 5, 7].contains mode
    && byteAt b 5 == 0 && allZero (slice b 8 8) && !permReserved (slice b 0x10 1024)
    && (permDouble [] perm).isNone
    && (mode == 1 || (decide (leAt b 6 2 ≤ 1023) && bitAt (leAt b 2 2) mode && routable
      && perm.all (fun e => bitAt (byteAt role e.1) 0 && bitAt (byteAt role e.2) 1)))

/-- SYSTEM (R20, R84). -/
def systemOk (b : Bytes) : Bool :=
  let size := leAt b 0 2
  let e := leAt b 2 2
  let p := leAt b 4 4
  let excl := leAt b 8 2
  let re := leAt b 10 2
  let ms := leAt b 12 2
  let limit := leAt b 14 2
  decide (1 ≤ size ∧ size ≤ 512) && decide (40 ≤ e ∧ e ≤ 1000)
    && decide (1000 ≤ p ∧ p ≤ 1000000000 ∧ 1000000000 % p = 0) && decide (5 ≤ excl ∧ excl ≤ 1000)
    && decide (1 ≤ re ∧ re ≤ excl) && decide (10 ≤ ms ∧ ms ≤ 60000) && decide (200 ≤ limit ∧ limit ≤ 10000)
    && allZero (slice b 16 16)

/-- PORT, first lane and number of lanes of a PORT_PLAN record. -/
def planPort (r : Bytes) : Nat × Nat × Nat :=
  let w := leAt r 0 4
  (w % 256, bitsOf w 15 8, 2 ^ min (bitsOf w 18 16) 3)

/-- A PORT_PLAN record beside those before it (R12, R85). -/
def portRecOk (before : List Bytes) (r : Bytes) : Bool :=
  let w0 := leAt r 0 4
  let w1 := leAt r 4 4
  let (p, first, n) := planPort r
  decide (bitsOf w0 18 16 ≤ 3 ∧ w0 / 2 ^ 21 = 0) && !(bitAt w0 19 && bitAt w0 20)
    && decide (first % n = 0 ∧ first + n ≤ 256)
    && decide (1 ≤ w1 % 4096 ∧ w1 % 4096 ≤ 4094 ∧ bitsOf w1 15 12 = 0 ∧ 64 ≤ w1 / 65536 ∧ w1 / 65536 ≤ 9216)
    && before.all (fun q =>
      let (p', f', n') := planPort q
      p' != p && (decide (f' + n' ≤ first) || decide (first + n ≤ f')))

/-- LINK_TRAIN of a lane under LANE_PLAN. -/
def laneTrain (recs : List Bytes) (n : Nat) : Bool :=
  match recs.find? (fun r => leAt r 0 4 % 512 == n) with
  | some r => bitAt (leAt r 0 4) 15
  | none => false

/-- A LANE_PLAN record beside those before it (R86, R266). -/
def laneRecOk (img : Bytes) (before : List Bytes) (r : Bytes) : Bool :=
  let w := leAt r 0 4
  let lane := w % 512
  let train := bitAt w 15
  let recs := secRecords img 4 4
  let port := (secRecords img 3 8).find? (fun q =>
    let (_, f, n) := planPort q
    decide (f ≤ lane ∧ lane < f + n))
  decide (w / 65536 = 0) && !(decide (256 ≤ lane) && train) && before.all (fun q => leAt q 0 4 % 512 != lane)
    && (match port with
      | some q => train == laneTrain recs (planPort q).2.1
      | none => true)

/-- Source and destination of a fibre as numbers. -/
def fibreSrc (r : Bytes) : Nat := leAt r 0 2 % 512 * 256 + byteAt r 2
def fibreDst (r : Bytes) : Nat := leAt r 4 2 % 512 * 256 + byteAt r 6

/-- FIBRE_PLAN (R87): position, last source, destinations met, modules met, as bits. -/
def fibresBad (size : Nat) : Nat → Option Nat → Nat → Nat → List Bytes → Option Nat
  | _, _, _, _, [] => none
  | i, last, dsts, mods, r :: rest =>
    let src := fibreSrc r
    let dst := fibreDst r
    let mods' := setBit (setBit mods (src / 256) true) (dst / 256) true
    let rises := match last with
      | some l => decide (l < src)
      | none => true
    if leAt r 0 4 &&& 0xFF00FE00 ≠ 0 ∨ leAt r 4 4 &&& 0xFF00FE00 ≠ 0 ∨ rises = false ∨ bitAt dsts dst
        ∨ src / 256 = dst / 256 ∨ popCount 512 mods' > size then some i
    else fibresBad size (i + 1) (some src) (setBit dsts dst true) mods' rest

/-- ROLE_PLAN: the byte of matrix port p (R88). -/
def roleOk (img : Bytes) (p : Nat) (r : Byte) : Bool :=
  let me := leAt (secBody img 1) 0 2 % 512
  let fib := secRecords img 5 8
  decide (r.toNat / 4 = 0)
    && (decide (p < 256)
      || ((!bitAt r.toNat 0 || fib.any (fun f => fibreDst f == me * 256 + (p - 256)))
        && (!bitAt r.toNat 1 || fib.any (fun f => fibreSrc f == me * 256 + (p - 256)))))

/-- EXPRESS_PORTS (R89). -/
def expressOk (img : Bytes) (before : List Bytes) (r : Bytes) : Bool :=
  !before.contains r && (portRec (secBody img 3) (byteAt r 0)).isSome

/-- SAFETY (R89, R512, R513). -/
def safetyOk (b : Bytes) : Bool :=
  let rec' (n : Nat) : Nat := leAt b (4 + 4 * n) 4
  decide (10 ≤ leAt b 0 2 ∧ leAt b 0 2 ≤ 1000 ∧ 1 ≤ byteAt b 2 ∧ byteAt b 2 ≤ 15 ∧ byteAt b 3 = 0)
    && allZero (b.drop 48) && (List.range 11).all (fun n => filterRecordOk n (rec' n) (rec' (1 - n)))

/-- THERMAL (R89, Table 23.1). -/
def thermalOk (b : Bytes) : Bool :=
  let t (i : Nat) : Nat := leAt b (4 + 2 * i) 2
  decide (byteAt b 0 ≤ 1 ∧ byteAt b 1 ≤ 2 ∧ 2 ≤ leAt b 2 2 ∧ leAt b 2 2 ≤ 1024)
    && decide (t 0 ≤ 190 ∧ t 1 ≤ 200 ∧ t 2 ≤ 220 ∧ t 3 ≤ 150 ∧ t 4 ≤ 160 ∧ t 5 ≤ 180)
    && decide (t 0 < t 1 ∧ t 1 < t 2 ∧ t 3 < t 4 ∧ t 4 < t 5) && allZero (b.drop 16)

/-- Bits of an offset that are RWL. -/
def rwlMask (a : Nat) : Nat :=
  match regAt a with
  | some (d, _) => d.fields.foldl (fun m f => if f.acc = .rwl then putBits m f.hi f.lo (2 ^ 32 - 1) else m) 0
  | none => 0

/-- A LOCK_LIST record (R90). -/
def lockRecOk (r : Bytes) : Bool := clearBits (leAt r 4 4) (rwlMask (leAt r 0 4)) == 0

/-! ### Content of the sections of other chapters -/

/-- LOOP_PLAN: words, WALSH and stage exponent of a record. -/
def planWords (r : Bytes) : List Word := (chunks 4 16 r).map (fun w => BitVec.ofNat 32 (leNat w))

/-- A LOOP_PLAN record by itself (Table 8.3). -/
def loopRecOk (r : Bytes) : Bool :=
  let e := signed 8 (byteAt r 0x24)
  decide (leAt r 0 2 ≤ 4351 ∧ byteAt r 2 ≤ 63 ∧ 1 ≤ byteAt r 3 ∧ byteAt r 3 ≤ 15 ∧ leAt r 0x3C 4 = 0)
    && decide (-64 ≤ e ∧ e ≤ 16) && coefRecOk (planWords r)

/-- LOOP_PLAN (R187, R83): `walsh` maps the cells met to their WALSH, `lanes` counts the cells of each lane, `exps` the
exponent of each stage. -/
def loopsBad (walshOf : Tbl Nat) : Nat → Nat → Tbl Nat → Tbl Nat → List Bytes → Option Nat
  | _, met, _, _, [] => if met + 1 = 2 ^ 4352 then none else some 0xFFFFFF
  | i, met, lanes, exps, r :: rest =>
    let c := leAt r 0 2
    let l := byteAt r 2
    let e := byteAt r 0x24
    let feed (k : Nat) : Bool :=
      c < 256 || tget 0 walshOf (256 * (c / 256 - 1) + prevLine (c / 256 - 1) (2 * (c % 256) + k) / 2) != byteAt r 3
    if loopRecOk r = false ∨ bitAt met c ∨ tget 0 lanes l ≥ 68 ∨ (tget e exps (c / 256)) ≠ e
        ∨ (feed 0 && feed 1) = false then some i
    else loopsBad walshOf (i + 1) (met + 2 ^ c) (tput lanes l (tget 0 lanes l + 1)) (tput exps (c / 256) e) rest

/-- A PARSE_GRAPH node at index i (Table 13.2). -/
def nodeOk (i : Nat) (r : Bytes) : Bool :=
  let kind := byteAt r 1
  let opq := byteAt r 5
  let nextOk (n : Nat) : Bool := decide (n ≤ 63) || n == 0xFE || n == 0xFD
  let transOk (k : Nat) : Bool :=
    let o := 8 + 6 * k
    clearBits (leAt r o 2) (leAt r (o + 2) 2) == 0 && byteAt r (o + 5) == 0
      && (nextOk (byteAt r (o + 4)) || byteAt r (o + 4) == 0xFF)
  byteAt r 0 == i && decide (kind ≤ 15) && (i != 0 || kind == 0) && decide (byteAt r 2 ≤ 3)
    && decide (byteAt r 3 < headMin kind opq) && nextOk (byteAt r 4)
    && (if kind = 15 then decide (2 ≤ opq ∧ opq ≤ 64) else opq == 0)
    && leAt r 6 2 == 0 && allZero (r.drop 0x38) && (List.range 8).all transOk

/-- CLASSIFIER (R291): comparators, then rules in ascending INDEX. -/
def classifierBad (img : Bytes) (count : Nat) : Option Nat :=
  let b := secBody img 10
  let ranges : List Nat := (chunks 8 256 b).map leNat
  let tbl : Tbl Nat := (ranges.zipIdx.filter (fun x => x.1 != 0)).map (fun x => (x.2, x.1))
  let pol := leAt (secBody img 12) 0xB60 4
  let rules := chunks 96 count (b.drop 2048)
  let index (r : Bytes) : Nat := leAt r 0 4 % 32768
  if b = [] then none
  else if b.length ≠ 2048 + 96 * count ∨ count > 32768 then some 0
  else match firstBad rangeOk ranges with
    | some i => some i
    | none => firstBadWith (fun before r => ruleOk tbl pol r && (match before.getLast? with
        | some q => decide (index q < index r)
        | none => true)) rules

/-- TABLE_GEOMETRY (Table 14.5). -/
def geometryOk (b : Bytes) : Bool :=
  let seeds := (chunks 4 8 b).map leNat
  let sw := leAt b 0x20 2
  seeds.all (fun x => x != 0) && (firstRepeat seeds).isNone && (sw == 0 || decide (10 ≤ sw))
    && decide (leAt b 0x22 2 ≤ 255) && decide (byteAt b 0x24 / 4 = 0) && allZero (b.drop 0x25)

/-- One admission profile of QUEUE_PLAN. -/
def profileOk (b : Bytes) (k : Nat) : Bool :=
  let o := 0x140 + 64 * k
  (List.range 8).all (fun c =>
    let x := leAt b (o + 6 * c) 2
    decide (36 ≤ x ∧ leAt b (o + 6 * c + 2) 2 < x ∧ x + leAt b (o + 6 * c + 4) 2 ≤ 65535))
    && allZero (slice b (o + 0x30) 16)

/-- Quanta of two bytes: 64 or above. -/
def quantaOk (b : Bytes) (o n : Nat) : Bool := (List.range n).all (fun i => decide (64 ≤ leAt b (o + 2 * i) 2))

/-- One scheduling profile of QUEUE_PLAN (Table 16.3). -/
def schedOk (b : Bytes) (k : Nat) : Bool :=
  let o := 0x940 + 32 * k
  let x := byteAt b (o + 0x1B)
  byteAt b (o + 1) == 0 && quantaOk b (o + 2) 2 && leAt b (o + 6) 2 == 0 && quantaOk b (o + 8) 8
    && decide (bitsOf x 4 3 ≤ 2 ∧ x / 32 = 0)
    && (List.range 8).all (fun p => decide (bitsOf (leAt b (o + 0x1C) 2) (2 * p + 1) (2 * p) ≤ 2))
    && leAt b (o + 0x1E) 2 == 0

/-- QUEUE_PLAN (R342, R361). -/
def queuePlanOk (img : Bytes) : Bool :=
  let b := secBody img 12
  let pool := leAt b 0 4
  let g (i k : Nat) : Nat := leAt b (0x40 + 16 * i + 4 * k) 4
  let pols := leAt b 0xB60 4
  let groupOk (i : Nat) : Bool :=
    decide (g i 0 ≤ g i 1 ∧ g i 1 ≤ 786432 - pool ∧ g i 2 ≤ g i 1 ∧ g i 3 < g i 2)
  let portOk (p : Nat) : Bool :=
    let w := leAt b (0x540 + 4 * p) 4
    decide (w / 16 = 0) && (w == 0 || (portRec (secBody img 3) p).isSome)
  decide (pool ≤ 262144 ∧ 36 ≤ leAt b 4 2 ∧ byteAt b 7 = 0 ∧ 4096 ≤ leAt b 8 4 ∧ leAt b 8 4 < leAt b 12 4)
    && allZero (slice b 16 48) && (List.range 16).all groupOk
    && decide ((List.range 16).foldl (fun n i => n + g i 0) pool ≤ 786432)
    && (List.range 16).all (profileOk b) && (List.range 256).all portOk && (List.range 16).all (schedOk b)
    && quantaOk b 0xB40 9 && allZero (slice b 0xB53 13) && decide (pols ≤ 16384) && allZero (slice b 0xB64 28)
    && decide (b.length = 0xB80 + 32 * pols) && (chunks 32 pols (b.drop 0xB80)).all polOk

/-! ### LANE_PROGRAMS (R204, R205, R211, R213, R221) -/

/-- Bounds of D, A, B, C, S and IMM of an opcode in a lane, each field below its bound; `none` for an unlisted or privileged
opcode. A field that the instruction does not use must be 0. -/
def opFields (op : Nat) : Option (Nat × Nat × Nat × Nat × Nat × Nat) :=
  let w := 2 ^ 32
  match op with
  | 0x00 | 0x01 | 0x05 | 0x06 | 0x09 | 0x0A | 0x0D => some (1, 1, 1, 1, 1, 1)
  | 0x02 => some (15, 1, 1, 1, 1, w)
  | 0x03 => some (1, 1, 1, 1, 1, w)
  | 0x04 => some (1, 16, 1, 1, 1, 1)
  | 0x07 => some (1, 1, 1, 1, 64, 65536)
  | 0x08 => some (1, 16, 1, 1, 64, 1)
  | 0x0B => some (1, 16, 1, 1, 1, 512)
  | 0x0C | 0x10 | 0x15 | 0x16 | 0x2A => some (16, 16, 1, 1, 1, 1)
  | 0x11 | 0x4E => some (16, 1, 1, 1, 1, w)
  | 0x12 | 0x14 | 0x17 | 0x18 | 0x1A | 0x1C | 0x22 | 0x26 | 0x27 | 0x28 => some (16, 16, 16, 1, 1, 1)
  | 0x13 | 0x19 | 0x1B | 0x1D | 0x50 => some (16, 16, 1, 1, 1, w)
  | 0x1E | 0x1F | 0x20 | 0x21 => some (16, 16, 1, 1, 32, 1)
  | 0x23 | 0x25 => some (1, 16, 16, 1, 1, 1)
  | 0x24 => some (1, 16, 1, 1, 1, w)
  | 0x29 => some (16, 16, 16, 15, 1, 1)
  | 0x2B | 0x2C | 0x2D => some (16, 16, 1, 1, 256, 64)
  | 0x30 | 0x31 | 0x32 => some (2, 16, 16, 1, 1, 1)
  | 0x33 | 0x34 => some (2, 16, 1, 1, 1, w)
  | 0x35 | 0x36 | 0x37 => some (2, 16, 16, 16, 4, 1)
  | 0x38 | 0x3B | 0x3E | 0x62 => some (2, 1, 1, 1, 1, 1)
  | 0x39 | 0x42 => some (2, 16, 1, 1, 256, 1)
  | 0x3A | 0x40 => some (2, 2, 1, 1, 1, 1)
  | 0x3C => some (2, 1, 1, 1, 256, 1)
  | 0x3D | 0x61 => some (2, 1, 16, 1, 1, 1)
  | 0x3F | 0x41 => some (16, 2, 1, 1, 256, 1)
  | 0x48 | 0x4A => some (16, 8, 1, 1, 1, 65536)
  | 0x49 | 0x4B => some (1, 8, 16, 1, 1, 65536)
  | 0x4C => some (16, 8, 16, 1, 1, 1)
  | 0x4D => some (1, 8, 16, 16, 1, 1)
  | 0x4F => some (1, 1, 16, 1, 1, w)
  | 0x51 => some (1, 16, 16, 1, 1, w)
  | 0x58 => some (8, 1, 1, 1, 1, w)
  | 0x59 => some (8, 16, 16, 1, 1, 1)
  | 0x5A => some (8, 16, 1, 1, 256, 1)
  | 0x5B => some (16, 8, 1, 1, 256, 1)
  | 0x5C => some (16, 1, 1, 1, 256, 1)
  | 0x5D => some (1, 16, 1, 1, 256, 1)
  | 0x60 => some (1, 16, 16, 1, 32, 1)
  | _ => none

/-- A 64-bit word is executable in a lane wherever it stands (R205). -/
def wordOk (w : Nat) : Bool :=
  match opFields (bitsOf w 63 56) with
  | some (d, a, b, c, s, i) =>
    decide (bitsOf w 55 52 < d ∧ bitsOf w 51 48 < a ∧ bitsOf w 47 44 < b ∧ bitsOf w 43 40 < c ∧ bitsOf w 39 32 < s
      ∧ w % 2 ^ 32 < i)
  | none => false

/-- Words with delay slots: BR, CALL, JR, RET, RETI. -/
def opBranches (op : Nat) : Bool := decide (2 ≤ op ∧ op ≤ 6)
/-- REPEAT and REPEATR. -/
def opRepeats (op : Nat) : Bool := op == 7 || op == 8
/-- Words that must not stand in a REPEAT body: control transfers, waits, HALT, CSTEP. -/
def opStands (op : Nat) : Bool := opBranches op || op == 1 || decide (9 ≤ op ∧ op ≤ 0x0C)

/-- The first word of a segment that breaks a rule: its index, whether the two words before it branch, and the last words
of the REPEAT bodies in which it stands. -/
def codeBad (n : Nat) : Nat → Bool → Bool → List Nat → List Nat → Option Nat
  | _, _, _, _, [] => none
  | i, b1, b2, ends, w :: rest =>
    let op := bitsOf w 63 56
    let open_ := ends.filter (fun e => decide (i ≤ e))
    let last := i + bitsOf w 37 32 + 1
    let target := (op == 2 || op == 3) && decide (n ≤ w % 2 ^ 32)
    let slot := (b1 || b2) && (opStands op || opRepeats op)
    let body := open_ != [] && opStands op
    let rep := opRepeats op
      && (decide (n ≤ last) || decide (2 ≤ open_.length) || open_.any (fun e => decide (e < last)))
    if wordOk w = false ∨ target ∨ slot ∨ body ∨ rep then some i
    else codeBad n (i + 1) (opBranches op) b1 (if opRepeats op then last :: open_ else open_) rest

/-- A segment entry by itself (Table 9.12). -/
def segmentOk (body : Bytes) (e : Bytes) : Bool :=
  let words := leAt e 4 2
  let at_ := leAt e 14 2
  let n := leAt e 12 2
  decide (leAt e 0 4 % 8 = 0 ∧ 1 ≤ words ∧ words ≤ 2048 ∧ leAt e 6 2 < words)
    && decide (leAt e 8 4 % 4 = 0 ∧ n ≤ 6912 ∧ 0x1500 ≤ at_ ∧ at_ + n ≤ 0x3000)
    && decide (leAt e 0 4 + 8 * words ≤ body.length ∧ leAt e 8 4 + 4 * n ≤ body.length)

/-- LANE_PROGRAMS: the record that fails, as R221 numbers it; a fault of the header is charged to 0. -/
def programsBad (body : Bytes) : Option Nat :=
  let segs := byteAt body 6
  let map := (slice body 0x10 64).map BitVec.toNat
  let segBad (k : Nat) : Option Nat :=
    let e := slice body (0x50 + 16 * k) 16
    if segmentOk body e = false ∨ map.contains k = false then some (k * 65536 + 0xFFFF)
    else
      let n := leAt e 4 2
      (codeBad n 0 false false [] ((chunks 8 n (body.drop (leAt e 0 4))).map leNat)).map (fun i => k * 65536 + i)
  if leAt body 0 4 ≠ 0x4B525453 ∨ leAt body 4 2 ≠ 1 ∨ segs < 1 ∨ 64 < segs ∨ allZero (slice body 7 9) = false
      ∨ body.length < 0x50 + 16 * segs ∨ map.any (fun k => decide (segs ≤ k)) then some 0
  else (List.range segs).findSome? segBad

/-! ### Check 11, and the order of Table 4.4 -/

/-- Record size and limit of a TYPE, and whether the count must be the limit (Table 4.3). -/
def secShape : Nat → Option (Nat × Nat × Bool)
  | 1 => some (1040, 1, true)
  | 2 => some (32, 1, true)
  | 3 => some (8, 256, false)
  | 4 => some (4, 512, false)
  | 5 => some (8, 131072, false)
  | 6 => some (1, 512, true)
  | 7 => some (64, 4352, false)
  | 9 => some (64, 64, false)
  | 11 => some (64, 1, true)
  | 13 => some (1, 16, false)
  | 14 => some (64, 1, true)
  | 15 => some (32, 1, true)
  | 16 => some (12, 1024, false)
  | _ => none

/-- LENGTH and COUNT of an entry keep Table 4.3. -/
def shapeOk (e : Nat × Nat × Nat × Nat) : Bool :=
  let (t, _, len, count) := e
  match secShape t with
  | some (size, lim, exact) => decide (len = size * count ∧ count ≤ lim) && (!exact || count == lim)
  | none => t != 8 || decide (len ≤ 2 ^ 20)

/-- `some 0` where a whole-section test fails. -/
def whole (ok : Bool) : Option Nat := if ok then none else some 0

/-- The first failing record of a section. -/
def contentBad (img : Bytes) (e : Nat × Nat × Nat × Nat) : Option Nat :=
  let (t, _, _, count) := e
  if shapeOk e = false then some 0
  else match t with
    | 1 => whole (identOk img)
    | 2 => whole (systemOk (secBody img 2))
    | 3 => firstBadWith portRecOk (secRecords img 3 8)
    | 4 => firstBadWith (laneRecOk img) (secRecords img 4 4)
    | 5 => fibresBad (leAt (secBody img 2) 0 2) 0 none 0 0 (secRecords img 5 8)
    | 6 => (secBody img 6).zipIdx.findIdx? (fun x => !roleOk img x.2 x.1)
    | 7 =>
      let recs := secRecords img 7 64
      loopsBad (recs.foldl (fun t r => tput t (leAt r 0 2) (byteAt r 3)) []) 0 0 [] [] recs
    | 8 => programsBad (secBody img 8)
    | 9 =>
      if count = 0 then some 0xFFFFFF
      else (secRecords img 9 64).zipIdx.findIdx? (fun x => !nodeOk x.2 x.1)
    | 10 => classifierBad img count
    | 11 => whole (geometryOk (secBody img 11))
    | 12 => whole (queuePlanOk img)
    | 13 => firstBadWith (expressOk img) (secRecords img 13 1)
    | 14 => whole (safetyOk (secBody img 14))
    | 15 => whole (thermalOk (secBody img 15))
    | 16 => firstBad lockRecOk (secRecords img 16 12)
    | _ => none

/-- R78 and R79 over the section table. -/
def tableOk (img : Bytes) : Bool :=
  let es := imgEntries img
  let types := es.map Prod.fst
  let start := 0x80 + 32 * imgSections img
  let entryOk (i : Nat) (e : Nat × Nat × Nat × Nat) : Bool :=
    let (t, off, len, _) := e
    let prevEnd := match es[i - 1]? with
      | some (_, o, l, _) => if i = 0 then start else o + l
      | none => start
    decide (off % 64 = 0 ∧ start ≤ off ∧ prevEnd ≤ off ∧ off + len ≤ imgLen img - 256)
      && byteAt img (0x80 + 32 * i + 2) == 1 && byteAt img (0x80 + 32 * i + 3) == 0
      && (decide (1 ≤ t ∧ t ≤ 16) || decide (0x8000 ≤ t))
  es.zipIdx.all (fun x => entryOk x.2 x.1) && (firstRepeat types).isNone
    && [1, 2, 3, 4, 6, 7, 8, 9, 11, 12, 14, 15].all types.contains
    && (decide (leAt (secBody img 2) 0 2 ≤ 1) || types.contains 5)

/-- Outcome of a verification: code, section index, record index; code 0 is a pass. -/
structure Verdict where
  code : Nat := 0
  sect : Nat := 0
  record : Option Nat := none
  deriving DecidableEq, Repr

/-- A key slot accepts the key of a signature block (R81). -/
def State.keyAccepted (s : State) (blk : Bytes) : Bool :=
  match s.canvas.keys[byteAt blk 0]? with
  | some k => k.programmed && !k.revoked && k.hash == sha384 ((4 : Byte) :: slice blk 16 96)
  | none => false

/-- Checks 1 to 11 of Table 4.4 on the bytes supplied. -/
def State.verifyImage (s : State) (img : Bytes) : Verdict :=
  let len := imgLen img
  let n := imgSections img
  let blk := slice img (len - 256) 256
  if leAt img 0 4 ≠ 0x53564E43 ∨ leAt img 4 2 ≠ 1 ∨ leAt img 6 2 ≠ 0x5120 then { code := 1 }
  else if n < 1 ∨ 64 < n ∨ len % 64 ≠ 0 ∨ 2 ^ 25 < len ∨ len < 0x80 + 32 * n + 256 ∨ img.length < len then { code := 2 }
  else if s.keyAccepted blk = false then { code := 3 }
  else if signatureOk (img.take 128) blk = false then { code := 4 }
  else if sha384 (slice img 0x80 (len - 256 - 0x80)) ≠ slice img 0x30 48 then { code := 5 }
  else if byteAt img 0x14 ≠ fwMajor ∨ Config.fwMinor.toNat < byteAt img 0x15 then { code := 6 }
  else if imgSvn img < s.canvas.arb then { code := 7 }
  else if tableOk img = false then { code := 8 }
  else
    let es := imgEntries img
    match es.zipIdx.findIdx? (fun x => digest16 (slice img x.1.2.1 x.1.2.2.1) != entryDigest img x.2) with
    | some i => { code := 9, sect := i }
    | none =>
      if systemDigestOf img ≠ slice img 0x20 16 then { code := 0x0A }
      else
        let bad := es.zipIdx.findSome? (fun x => (contentBad img x.1).map (fun r => (x.2, r)))
        match bad with
        | some (i, r) => { code := 0x0B, sect := i, record := some r }
        | none => {}

/-- The outcome of a failed verification in the registers, and its event (R82): from slot A, slot B or the host (0 to 2). -/
def State.verdictFail (s : State) (src : Nat) (v : Verdict) : State :=
  let s1 := { s with canvas := { s.canvas with
    verr := v.code, verrSect := v.sect, vrec := v.record.getD s.canvas.vrec } }
  s1.raise 0x0016 [(1, src), (1, v.code), (1, v.sect), (4, s1.canvas.vrec)]

end Sys2Proof.Machine
end

