-- ==== Sys2Proof/Machine/Palette.lean ====
section
/-!
DEFINITION. The Palette's commands, the routing engine's requests, the stuck table and the automatic re-route (R121 to R142,
R551).
-/

namespace Sys2Proof.Machine

/-! ### Marks -/

/-- A swatch that awaits its re-route. -/
def Swatch.waits (w : Swatch) : Bool := w.valid && w.stale && !w.direct

/-- Do stale swatches remain that the module re-routes (MX_ROUTE_STATUS.REROUTING)? -/
def State.staleLeft (s : State) : Bool := s.mx.palette.any (fun e => e.2.waits)

/-- The stuck table as pins. -/
def State.stuckPins (s : State) : List Pin := s.mx.stuck.map (fun e => ⟨e.cell, e.cross⟩)

/-- Every lit port of a permutation is in service under ROLE_PLAN: the first input that is not, or whose output is not
(R88, R123). -/
def State.outOfService (s : State) (perm : Tbl Nat) : Option Nat :=
  let plan := s.section 6
  (perm.find? (fun e => !bitAt (byteAt plan e.1) 0 || !bitAt (byteAt plan e.2) 1)).map Prod.fst

/-- A request of the engine ends: the registers of its last request, and the queue without it. -/
def State.routeEnds (s : State) (n result time10ns : Nat) : State :=
  let t := min time10ns 0x7FF
  { s with mx := { s.mx with
    lastSwatch := n, lastResult := result, lastTime := t, worstTime := max s.mx.worstTime t } }

/-! ### Requests (R126 to R132) -/

/-- Reserved bits of a pin list, a cell that does not exist, a cell named twice, or more than 64 pins with the stuck table. -/
def pinsOf (b : Bytes) (count : Nat) : List Nat := (List.range count).map (fun i => leAt b (2 * i) 2)
def pinOf (w : Nat) : Pin := ⟨w % 8192, bitAt w 13⟩
def State.pinsBad (s : State) (l : List Pin) : Bool :=
  l.any (fun p => decide (p.cell ≥ 4352)) || (l.map Pin.cell).eraseDups.length != l.length
    || decide ((l.map Pin.cell ++ s.mx.stuck.map StuckEntry.cell).eraseDups.length > 64)

/-- A request joins the engine's queue of 16, behind the one in progress (R128). -/
def State.routeQueue (s : State) (r : RouteReq) : State :=
  let room := if s.staleLeft ∧ s.flag Reg.MX_ROUTE_CTL_AUTO_REROUTE then 16 else 17
  if s.mx.queue.length ≥ room then s.completeOpt r.tag St.busy
  else { s with mx := { s.mx with queue := s.mx.queue ++ [r] } }

/-- The common refusals of the Palette's changes. -/
def State.palGate (s : State) (tag : CmdTag) (n : Nat) (change : Bool) (f : State → State) : State :=
  if n > 1023 then s.complete tag St.badParam
  else if s.pwr.state ≠ 0 then s.complete tag St.powerState
  else if change ∧ s.inUse n then s.complete tag St.swatchInUse
  else f s

/-- SWATCH_WRITE (R126). -/
def execSwatchWrite (tag : CmdTag) (swatch : Nat) (perm : Option Bytes) (pinCount : Nat) (pins : Option Bytes)
    (routeOnly : Bool) (outAddr : Nat) (s : State) : Host.Outcome State Fault Refusal :=
  next <| s.serve tag 0x0E01 fun s => s.palGate tag swatch (!routeOnly) fun s =>
    match perm, (if pinCount = 0 then some [] else pins) with
    | some p, some q =>
      if permReserved p ∨ (pinsOf q pinCount).any (fun w => decide (w ≥ 2 ^ 14)) then s.complete tag St.badParam
      else
        let job := RouteJob.write (permOfHost p) ((pinsOf q pinCount).map pinOf) routeOnly outAddr
        s.routeQueue { tag := some tag, swatch := swatch, job := job }
    | _, _ => s.complete tag St.hostDmaError

/-- SWATCH_LOAD (R132). -/
def execSwatchLoad (tag : CmdTag) (swatch : Nat) (perm cells : Option Bytes) (s : State) :
    Host.Outcome State Fault Refusal :=
  next <| s.serve tag 0x0E02 fun s => s.palGate tag swatch true fun s =>
    match perm, cells with
    | some p, some c =>
      if permReserved p then s.complete tag St.badParam
      else s.routeQueue { tag := some tag, swatch := swatch, job := .load (permOfHost p) (leNat (c.take 544)) }
    | _, _ => s.complete tag St.hostDmaError

/-- A routed swatch. -/
def State.routed (s : State) (n : Nat) (perm : Tbl Nat) (cells pins : Nat) : Swatch :=
  let g := (s.swatch n).generation
  ⟨true, false, false, false, perm, cells, pins, seqNext g, s.mx.stuckRev⟩

/-- Pins of a request with those of the stuck table. -/
def State.allPins (s : State) (l : List Pin) : List Pin := l ++ s.stuckPins.filter (fun p => !l.contains p)

/-- What a request leads to: its result code, and the completion. -/
def State.routeWrite (s : State) (r : RouteReq) (perm : Tbl Nat) (pins : List Pin) (only : Bool) (addr : Nat) :
    Nat × State :=
  match permDouble [] perm with
  | some i => (5, s.completeOpt r.tag St.swatchInvalid [(2, i)])
  | none =>
    match s.outOfService perm with
    | some i => (5, s.completeOpt r.tag St.swatchInvalid [(2, i)])
    | none =>
      if s.pinsBad pins then (2, s.completeOpt r.tag St.badPin)
      else if only = false ∧ r.tag.isSome ∧ s.inUse r.swatch then (5, s.completeOpt r.tag St.swatchInUse)
      else
        let all := s.allPins pins
        match routePerm perm all with
        | .error e =>
          (1, s.completeOpt r.tag St.unroutable [(2, e.pin), (1, e.depth), (2, e.block), (2, e.line)])
        | .ok cells =>
          let w := s.routed r.swatch perm cells (all.map Pin.cell).eraseDups.length
          let d := [(16, leNat w.digest), (4, perm.length), (4, cellsDiffer cells (s.swatch r.swatch).cells)]
          match only, r.tag with
          | true, some t => (0, (s.outData t addr (leBytes 544 cells)).completeWith t St.ok d true)
          | _, _ => (0, (s.setSwatch r.swatch w).completeOpt r.tag St.ok d)

/-- A direct load is checked and stored. -/
def State.routeLoad (s : State) (r : RouteReq) (perm : Tbl Nat) (cells : Nat) : Nat × State :=
  match permDouble [] perm with
  | some i => (5, s.completeOpt r.tag St.swatchInvalid [(2, i)])
  | none =>
    match s.outOfService perm with
    | some i => (5, s.completeOpt r.tag St.swatchInvalid [(2, i)])
    | none =>
      if s.inUse r.swatch then (5, s.completeOpt r.tag St.swatchInUse)
      else match firstMiss perm cells with
      | some i => (3, s.completeOpt r.tag St.checkFailed [(2, i)])
      | none =>
        match s.mx.stuck.find? (fun e => bitAt cells e.cell != e.cross) with
        | some e => (3, s.completeOpt r.tag St.checkFailed [(2, e.cell)])
        | none =>
          let g := (s.swatch r.swatch).generation
          let w : Swatch := ⟨true, true, false, false, perm, cells, 0, seqNext g, s.mx.stuckRev⟩
          (0, (s.setSwatch r.swatch w).completeOpt r.tag St.ok [(16, leNat w.digest), (4, perm.length)])

/-- A request is carried out. -/
def State.routeDo (s : State) (r : RouteReq) : Nat × State :=
  match r.job with
  | .write perm pins only addr => s.routeWrite r perm pins only addr
  | .load perm cells => s.routeLoad r perm cells

/-- ROUTE_REQUEST_DONE (R128): the request at the head of the queue is done. -/
def execRouteRequestDone (time10ns : Nat) (s : State) : Host.Outcome State Fault Refusal :=
  next <| match s.mx.queue with
  | r :: rest =>
    if s.pwr.state ≠ 0 then s
    else
      let x := ({ s with mx := { s.mx with queue := rest } }).routeDo r
      x.2.routeEnds r.swatch x.1 time10ns
  | [] => s

/-- SWATCH_INVALIDATE (R125). -/
def execSwatchInvalidate (tag : CmdTag) (swatch : Nat) (s : State) : Host.Outcome State Fault Refusal :=
  next <| s.serve tag 0x0E03 fun s => s.palGate tag swatch true fun s =>
    let w := s.swatch swatch
    (s.setSwatch swatch { w with valid := false, generation := seqNext w.generation }).complete tag St.ok

/-- SWATCH_READ (R125): served in L0 to L3. -/
def execSwatchRead (tag : CmdTag) (swatch outAddr : Nat) (s : State) : Host.Outcome State Fault Refusal :=
  next <| s.serve tag 0x0E04 fun s =>
    if swatch > 1023 then s.complete tag St.badParam
    else
      let w := s.swatch swatch
      (s.outData tag outAddr (w.bytes swatch)).completeWith tag St.ok [(4, w.generation)] true

/-- SWATCH_APPLY (R134). -/
def execSwatchApply (tag : CmdTag) (swatch : Nat) (at_ : TimeWord) (s : State) : Host.Outcome State Fault Refusal :=
  next <| s.serve tag 0x0E05 fun s =>
    let m := s.mode.mode
    let t := if at_ = 0 then 0 else s.fromWord at_
    if swatch > 1023 then s.complete tag St.badParam
    else if s.pwr.state ≥ 2 then s.complete tag St.powerState
    else if m ≠ .edgePersistent ∧ m ≠ .corePersistent ∧ m ≠ .loopbackTest then s.complete tag St.wrongMode
    else if (s.swatch swatch).valid = false then s.complete tag St.swatchInvalid
    else if (s.swatch swatch).roleOk m = false then s.complete tag St.wrongRole
    else if at_ ≠ 0 ∧ t < s.time.now then s.complete tag St.late
    else if s.mx.apply.isSome then s.complete tag St.busy
    else { s with mx := { s.mx with apply := some { tag := tag, swatch := swatch, at_ := t } } }

/-! ### The stuck table (R133, R138 to R142, R551) -/

/-- A swatch meets a new or changed entry: stale where its CELLS contradict it, else of the new revision. -/
def Swatch.meet (w : Swatch) (cell : Nat) (cross : Bool) (rev : Nat) : Swatch :=
  if w.valid = false then w
  else if bitAt w.cells cell = cross then { w with stuckRev := rev }
  else { w with stale := true }

/-- Entries of a new state mark the Palette (R133, R140). -/
def State.markSwatches (s : State) (cell : Nat) (cross : Bool) : State :=
  let fresh := !s.staleLeft
  let pal := s.mx.palette.map (fun e => (e.1, e.2.meet cell cross s.mx.stuckRev))
  let s1 := { s with mx := { s.mx with
    palette := pal, rerouted := if fresh then 0 else s.mx.rerouted, degraded := if fresh then 0 else s.mx.degraded } }
  s1.each (s.mx.palette.filter (fun e => e.2.valid && e.2.direct && bitAt e.2.cells cell != cross))
    (fun s e => s.raise 0x0E0C [(2, e.1)])

/-- The table with an entry for a cell: in its place, or at the end. -/
def putStuck (l : List StuckEntry) (e : StuckEntry) : List StuckEntry :=
  if l.any (fun x => x.cell == e.cell) then l.map (fun x => if x.cell = e.cell then e else x) else l ++ [e]

/-- An entry takes a state: REV advances, the loops of its cell freeze, the Palette is marked; below L0 the re-route is
deferred (R142). -/
def State.addStuck (s : State) (cell : Nat) (cross byHost mark : Bool) : State :=
  let rev := (s.mx.stuckRev + 1) % 65536
  let e : StuckEntry := { cell := cell, cross := cross, byHost := byHost, rev := rev }
  let s1 := ({ s with mx := { s.mx with stuckRev := rev, stuck := putStuck s.mx.stuck e } }).refreshCell cell
  if mark = false then s1
  else
    let s2 := s1.markSwatches cell cross
    if s2.pwr.state = 0 then s2
    else ({ s2 with mx := { s2.mx with deferred := true } }).raise 0x0E0B [(2, cell), (1, s2.pwr.state)]

/-- STUCK_ADD (R551). -/
def execStuckAdd (tag : CmdTag) (cell state : Nat) (s : State) : Host.Outcome State Fault Refusal :=
  next <| s.serve tag 0x0E06 fun s =>
    if cell > 4351 ∨ state > 1 then s.complete tag St.badParam
    else if s.pwr.state ≠ 0 then s.complete tag St.powerState
    else
      let cross := state == 1
      match s.mx.stuck.find? (fun e => e.cell == cell) with
      | some e =>
        if e.cross = cross ∧ e.byHost then s.complete tag St.ok [(4, s.mx.stuckRev)]
        else
          let s1 := s.addStuck cell cross true (e.cross != cross)
          s1.complete tag St.ok [(4, s1.mx.stuckRev)]
      | none =>
        if s.mx.stuck.length ≥ 16 then (s.raise 0x0E0A [(2, cell)]).complete tag St.busy
        else
          let s1 := s.addStuck cell cross true true
          s1.complete tag St.ok [(4, s1.mx.stuckRev)]

/-- STUCK_CLEAR (R551). -/
def execStuckClear (tag : CmdTag) (cell : Nat) (s : State) : Host.Outcome State Fault Refusal :=
  next <| s.serve tag 0x0E07 fun s =>
    if cell > 4351 then s.complete tag St.badParam
    else if s.pwr.state ≠ 0 then s.complete tag St.powerState
    else if s.isStuck cell = false then s.complete tag St.notFound
    else
      let rev := (s.mx.stuckRev + 1) % 65536
      let s1 := ({ s with mx := { s.mx with
        stuckRev := rev, stuck := s.mx.stuck.filter (fun e => e.cell != cell) } }).refreshCell cell
      s1.complete tag St.ok [(4, rev)]

/-- ROUTE_CTL_WRITE (Table 6.4, R140). -/
def State.routeCtl (s : State) (value : Word) : State :=
    let v := value.toNat
    let w := bitsOf v 12 8
    if w < 2 ∨ w > 8 then s.raise 0x0E06 [(4, 0xE0040)]
    else ((s.setFld Reg.MX_ROUTE_CTL_AUTO_REROUTE (v % 2)).setFld Reg.MX_ROUTE_CTL_DARK_AFFECTED (v / 2)).setFld
      Reg.MX_ROUTE_CTL_WRONG_MIN w

/-- ROUTE_CTL_WRITE as a host access. -/
def execRouteCtlWrite (value : Word) (s : State) : Host.Outcome State Fault Refusal := next (s.hostAct 0 fun s => s.routeCtl value)

/-- The order of R140. -/
def State.rerouteOrder (s : State) : List Nat :=
  let turn (b : OrbitBank) (from_ : Nat) : List Nat :=
    (List.range b.slots).map (fun i => b.swatch ((from_ + i) % max b.slots 1))
  s.mx.inForce.toList ++ (s.mx.apply.map PendingApply.swatch).toList ++ (s.mode.pend.bind PendingMode.swatch).toList
    ++ (s.orb.active.map (fun b => turn b s.orb.slot)).getD [] ++ (s.orb.pendBank.map (fun b => turn b 0)).getD []
    ++ s.mx.palette.map Prod.fst

/-- CELLS for a permutation under the stuck pins, leaving out those that cause a conflict: the pins left out. -/
def routeStuck (perm : Tbl Nat) : Nat → List Pin → List Pin → Nat × List Pin
  | 0, _, out => (0, out)
  | n + 1, pins, out =>
    match routePerm perm pins with
    | .ok cells => (out.foldl (fun c p => setBit c p.cell p.cross) cells, out)
    | .error e =>
      match pins.find? (fun p => p.cell == e.pin) with
      | some p => routeStuck perm n (pins.filter (· != p)) (p :: out)
      | none => routeStuck perm n [] (pins ++ out)

/-- One stale swatch is re-routed (R140, R141). -/
def State.rerouteOne (s : State) (n : Nat) : State :=
  let w := s.swatch n
  let r := routeStuck w.perm 18 s.stuckPins []
  let deg := r.2 ≠ []
  let w1 := s.routed n w.perm r.1 s.mx.stuck.length
  let s1 := s.setSwatch n { w1 with degraded := deg }
  let s2 := { s1 with mx := { s1.mx with
    rerouted := s1.mx.rerouted + 1, degraded := s1.mx.degraded + ofBool deg } }
  let lost := lostInputs w.perm r.1
  let low := r.2.foldl (fun m p => min m p.cell) 4352
  let s3 := if deg then
      s2.raise 0x0E09 ([(2, n), (2, low), (2, lost.length)] ++ (lost.take 11).map (fun i => (2, i)))
    else s2
  s3.routeEnds n (if deg then 4 else 0) s3.mx.lastTime

/-- REROUTE (R140): the next stale swatch in order; after the last one REROUTE_DONE. -/
def execReroute (s : State) : Host.Outcome State Fault Refusal :=
  next <|
    if s.pwr.state ≠ 0 ∨ s.flag Reg.MX_ROUTE_CTL_AUTO_REROUTE = false then s
    else match s.rerouteOrder.find? (fun n => (s.swatch n).waits) with
    | none => s
    | some n =>
      let s1 := s.rerouteOne n
      if s1.staleLeft then s1
      else
        let s2 := { s1 with mx := { s1.mx with deferred := false } }
        s2.raise 0x0E08 [(4, s2.mx.rerouted), (4, s2.mx.degraded)]

end Sys2Proof.Machine
end

