-- ==== Sys2Proof/Machine/Canvas.lean ====
section
/-!
DEFINITION. The life of a Canvas (chapter 04): what an activation applies, the staged change and its commit (R95 to R100),
the digest check (R94), the slots (R91, R92), keys (R81).
-/

namespace Sys2Proof.Machine

/-! ### Registers that the Canvas sets -/

/-- PORT_QOS and PORT_QOS2 of a port from its profile (Table 16.3). -/
def State.portQos (s : State) (p : Nat) : State :=
  let o := s.schedBase p
  let x := byteAt s.queuePlan (o + 0x1B)
  (((s.setFld (Reg.PORT_QOS_PCP_CLASS p) (leAt s.queuePlan (o + 0x18) 3)).setFld (Reg.PORT_QOS_UNTAGGED_CLASS p)
    (x % 8)).setFld (Reg.PORT_QOS_COLOUR_SRC p) (bitsOf x 4 3)).setFld (Reg.PORT_QOS2_PCP_COLOUR p)
      (leAt s.queuePlan (o + 0x1C) 2)

/-- FDB_CTL and FDB_AGE from TABLE_GEOMETRY (Table 14.5). -/
def State.geometryRegs (s : State) : State :=
  let b := s.section 11
  (((s.setFld Reg.FDB_AGE_SWEEP_S (leAt b 0x20 2)).setFld Reg.FDB_CTL_NOTIFY_MAX (leAt b 0x22 2)).setFld
    Reg.FDB_CTL_NOTIFY (byteAt b 0x24)).setFld Reg.FDB_CTL_FLUSH_ON_DOWN (byteAt b 0x24 / 2)

/-- THM_CTL and the thresholds from THERMAL (R553); the restart thresholds go to the retention register. -/
def State.loadThermal (s : State) : State :=
  let b := s.section 15
  let t (k : Nat) : Nat := leAt b (4 + 2 * k) 2
  let s1 := ((s.setFld Reg.THM_CTL_SAMPLE_MODE (byteAt b 0)).setFld Reg.THM_CTL_THROTTLE (byteAt b 1)).setFld Reg.THM_CTL_N
    (leAt b 2 2)
  let s2 := ((s1.setFld Reg.THM_THR_E0_WARN (t 0)).setFld Reg.THM_THR_E0_THROTTLE (t 1)).setFld Reg.THM_THR_E1_SHUTDOWN
    (t 2)
  let s3 := ((s2.setFld Reg.THM_THR_P0_WARN (t 3)).setFld Reg.THM_THR_P0_THROTTLE (t 4)).setFld Reg.THM_THR_P1_SHUTDOWN
    (t 5)
  { s3 with ret := { s3.ret with restartThrE := t 2 - 30, restartThrP := t 5 - 30 } }

/-- The value of a LOCK_LIST record under its mask (R90). -/
def State.lockedValue (s : State) (r : Bytes) : State :=
  let a := leAt r 0 4
  let m := leAt r 4 4
  let put (old : Nat) : Nat := clearBits old m ||| (leAt r 8 4 &&& m)
  if a = 0x5000C then
    let w := put (s.saf.tDisc + s.saf.wired * 65536)
    State.lasersRecheck { s with saf := { s.saf with tDisc := w % 1024, wired := w / 65536 % 16 } }
  else if isSafCfg a then
    let n := (a - 0x50010) / 4
    { s with saf := { s.saf with records := lset s.saf.records n (BitVec.ofNat 32 (put (s.filterRecord n))) } }
  else s.setRegWord a (BitVec.ofNat 32 (put (s.regWord a).toNat))

/-- A record of LOCK_LIST: the value under the mask, then the lock (R90). -/
def State.lockRecord (s : State) (r : Bytes) : State :=
  let a := leAt r 0 4
  let s1 := s.lockedValue r
  { s1 with locks := tset 0 s1.locks a (tget 0 s1.locks a ||| BitVec.ofNat 32 (leAt r 4 4)) }

/-- LOCK_LIST of the active Canvas (R90): its locks alone stand. -/
def State.lockList (s : State) : State :=
  let b := s.section 16
  ({ s with locks := [] }).each (chunks 12 (b.length / 12) b) State.lockRecord

/-- The registers that QUEUE_PLAN governs. -/
def State.queueRegs (s : State) : State := s.each (List.range 256) State.portQos

/-- Every "from Canvas" register of the packet side reads 0 while no Canvas is active (R521). -/
def State.clearCanvasRegs (s : State) : State :=
  (({ s with canvas := { s.canvas with active := none } }).geometryRegs).queueRegs

/-! ### Sections -/

/-- SECTION_DIGEST of the section of a TYPE. -/
def typeDigest (img : Bytes) (t : Nat) : Option Bytes :=
  ((imgEntries img).zipIdx.find? (fun x => x.1.1 == t)).map (fun x => entryDigest img x.2)

/-- TYPEs whose section differs between two images, rising (R95). -/
def changedTypes (old new : Bytes) : List Nat :=
  let all := ((imgEntries old ++ imgEntries new).map Prod.fst).eraseDups
  (all.filter (fun t => typeDigest old t != typeDigest new t)).mergeSort

/-- Class of a changed section (Table 4.7): 0 Live, 1 System, 2 Plan, 3 Safety. -/
def typeClass (old new : Bytes) (t : Nat) : Nat :=
  if t = 1 then (if leAt (secBody old 1) 0 2 = leAt (secBody new 1) 0 2 then 0 else 3)
  else if t = 2 ∨ t = 5 ∨ t = 6 then 1
  else if t = 3 ∨ t = 4 ∨ t = 8 ∨ t = 11 then 2
  else if t = 14 ∨ t = 15 then 3
  else 0

/-- The change class: the strictest of the changed sections (R96). -/
def changeClass (old new : Bytes) : Nat := ((changedTypes old new).map (typeClass old new)).foldl max 0

/-- The bitmap of R95. -/
def changeMap (old new : Bytes) : Nat :=
  (changedTypes old new).foldl (fun m t => setBit m (if t ≤ 63 then t else 0) true) 0

/-- A commit of a class may take effect in a mode (Table 4.7). -/
def classMode (cls mode : Nat) : Bool :=
  match cls with
  | 0 => decide (1 ≤ mode ∧ mode ≤ 11)
  | 1 => mode == 1 || mode == 10 || mode == 11
  | 2 => mode == 1 || mode == 10
  | _ => mode == 1

/-- Ports whose PORT_PLAN record, or the LANE_PLAN of one of whose lanes, differs between the Canvas in force and an image. -/
def State.portsChanged (s : State) (img : Bytes) : List Nat :=
  let recs := secRecords img 4 4
  let lane (n : Nat) : Nat := ((recs.find? (fun r => leAt r 0 4 % 512 == n)).map (fun r => leAt r 0 4)).getD 0
  let plan := secBody img 3
  (s.ports.map Prod.fst).filter (fun p => portRec plan p != s.portPlan p || (s.portLanes p).any (fun n =>
    bitsOf (lane n) 15 9 != bitsOf (s.lanePlan n) 15 9))

/-- A port goes off with its lanes. -/
def State.portOffNow (s : State) (p : Nat) : State :=
  let s1 := s.linkDown p 4
  let off : FnStatus := {}
  let s2 := s1.setPort p { s1.port p with fn := off }
  s2.eachLane p (fun l => { l with fn := off, sigDet := false, cdrLock := false, aligned := false, trainDone := false })

/-- A policer takes its record of QUEUE_PLAN (R350). -/
def State.planPolicer (s : State) (i : Nat) : State :=
  s.setPolicer i (polReplace (s.policer i) (slice s.queuePlan (0xB80 + 32 * i) 32) false s.clk)

/-- Policers under QUEUE_PLAN: those beyond POLICER_COUNT are gone. -/
def State.planPolicers (s : State) : State :=
  let n := s.policerCount
  let s1 := { s with tm := { s.tm with policers := s.tm.policers.filter (fun e => decide (e.1 < n)) } }
  let s2 := s1.each (List.range n) State.planPolicer
  { s2 with tm := { s2.tm with polGen := seqNext s2.tm.polGen } }

/-- The rules and comparators of CLASSIFIER (R291). -/
def State.loadClassifier (s : State) : State :=
  let b := s.section 10
  let recs := chunks 96 ((b.length - 2048) / 96) (b.drop 2048)
  let rules := recs.foldl (fun t r => tset (zeros 96) t (ruleIndex r) r) []
  let ranges := (chunks 8 256 (padTo 2048 b)).zipIdx.foldl (fun t x => tset 0 t x.2 (leNat x.1)) []
  ({ s with cls := { s.cls with rules := rules, ranges := ranges } }).clsChanged

/-- The nodes of PARSE_GRAPH (R284). -/
def State.loadGraph (s : State) : State :=
  let b := s.section 9
  let graph := (chunks 64 (b.length / 64) b).foldl (fun t r => tput t (byteAt r 0) r) []
  { s with cls := { s.cls with graph := graph } }

/-- LOOP_PLAN records that differ from those in force wait for the end-of-period work (R96, R190). -/
def State.planLoops (s : State) : State :=
  s.each (secRecords (s.canvas.active.getD []) 7 64) (fun s r =>
    let c := leAt r 0 2
    if tget [] s.loops.coef c = planWords r then s
    else { s with loops := { s.loops with coefNext := tput s.loops.coefNext c (planWords r) } })

/-- The body of LANE_PROGRAMS stands in a unit's program memory. -/
def State.loadProgram (s : State) (u : Nat) : State :=
  let b := s.section 8
  if u = 0 then { s with eng := { s.eng with progA := b } } else { s with eng := { s.eng with progB := b } }

/-- Every lane of the active unit stops at WAITP and restarts with the new image (R216, R222). -/
def State.swapPrograms (s : State) : State := ({ s with eng := { s.eng with swapping := true } }).stopLanes

/-- A LANE_PROGRAMS that changes: both units' memories where they are loaded; in mode 10 the active unit keeps its own until
the switch-over (R98, R222, R466). -/
def State.planPrograms (s : State) : State :=
  let other := 1 - s.red.activeUnit
  let s1 := if (s.unit other).state = .standby then s.loadProgram other else s
  if s.mode.mode = .maintain then s1 else (s1.loadProgram s.red.activeUnit).swapPrograms

/-- One section takes effect. -/
def State.applyType (s : State) (t : Nat) : State :=
  match t with
  | 1 | 2 =>
    let ports := s.ikl.ports.map (fun x => { x with dup := false })
    ({ s with ikl := { s.ikl with ports := ports } }).updateView
  | 7 => s.planLoops
  | 8 => s.planPrograms
  | 9 => s.loadGraph
  | 10 => s.loadClassifier
  | 11 => s.geometryRegs
  | 12 => s.queueRegs.planPolicers
  | 14 => s.loadSafety (s.section 14)
  | 15 => s.loadThermal
  | 16 => s.lockList
  | _ => s

/-! ### Activation -/

/-- The seeds of TABLE_GEOMETRY differ (R298). -/
def seedsDiffer (old new : Bytes) : Bool := slice (secBody old 11) 0 32 != slice (secBody new 11) 0 32

/-- An image becomes the active Canvas: what changed is applied in ascending order of TYPE; SAFETY and THERMAL at each
activation (R97, R553, R555). -/
def State.activate (s : State) (img : Bytes) (source : Nat) (types : List Nat) : State :=
  let old := s.canvas.active.getD []
  let off := if types.contains 3 ∨ types.contains 4 then s.portsChanged img else []
  let s1 := s.each off State.portOffNow
  let s2 := { s1 with canvas := { s1.canvas with
    active := some img, memory := img, source := source, lost := false, checkAt := s1.clk + 60000000000 } }
  let s3 := s2.each ((types ++ [14, 15]).eraseDups.mergeSort) State.applyType
  let s4 := if types.contains 11 ∧ seedsDiffer old img then s3.reseed else s3
  let s5 := if s4.lanesAwake then
      s4.each (off.filter (fun p => s4.planned p && s4.flag (Reg.PORT_CTL_EN p))) State.portStart
    else s4
  s5.settle

/-- The anti-rollback counter rises to a SECURITY_VERSION, in the journal (R91, R97). -/
def State.raiseArb (s : State) (svn : Nat) : State :=
  if svn > s.canvas.arb then ({ s with canvas := { s.canvas with arb := svn } }).flashJob .journal else s

/-! ### Slots (R91, R92) -/

def State.cslot (s : State) (b : Bool) : CanvasSlot := if b then s.canvas.slotB else s.canvas.slotA
def State.setSlot (s : State) (b : Bool) (x : CanvasSlot) : State :=
  { s with canvas := if b then { s.canvas with slotB := x } else { s.canvas with slotA := x } }

/-- An image is written to a slot, without or with its marker. -/
def State.writeSlot (s : State) (b : Bool) (img : Bytes) (marker : Bool) : State :=
  (s.eraseSectors (if b then 0x300 else 0x100) 512).setSlot b { image := img, marker := marker }

/-- A slot holds a valid image: committed, and it verifies. -/
def State.slotValid (s : State) (b : Bool) : Bool := (s.cslot b).marker && (s.verifyImage (s.cslot b).image).code == 0

/-- The target slot (R92); true is slot B. -/
def State.targetSlot (s : State) : Bool :=
  if s.slotValid false = false then false
  else if s.slotValid true = false then true
  else newer 32 (imgGen (s.cslot false).image) (imgGen (s.cslot true).image)

/-- Check 12: a stored image is newer than the active one and than every valid slot's. -/
def State.genOk (s : State) (img : Bytes) : Bool :=
  (match s.canvas.active with
    | some a => newer 32 (imgGen img) (imgGen a)
    | none => true)
    && [false, true].all (fun b => !s.slotValid b || newer 32 (imgGen img) (imgGen (s.cslot b).image))

/-- Verification of an image from the host, with check 12 where it is to be stored; the slot reads back as written. -/
def State.verifyHost (s : State) (img : Bytes) (store : Bool) : Verdict :=
  let v := s.verifyImage img
  if v.code ≠ 0 then v else if store ∧ s.genOk img = false then { code := 0x0C } else v

/-! ### The staged change (R95 to R100) -/

/-- CANVAS_PREPARE (R95). -/
def execCanvasPrepare (tag : CmdTag) (image : Option Bytes) (len timeoutMs : Nat) (store : Bool) (s : State) :
    Host.Outcome State Fault Refusal :=
  next <| s.serve tag 0x0005 fun s =>
    if timeoutMs < 100 ∨ 600000 < timeoutMs then s.complete tag St.badParam
    else if s.canvas.staged.isSome then s.complete tag St.busy
    else match image with
    | none => s.complete tag St.hostDmaError
    | some b =>
      let img := b.take len
      let v := s.verifyHost img store
      if v.code ≠ 0 then (s.verdictFail 2 v).complete tag St.canvasInvalid [(1, v.code)]
      else
        let img := img.take (imgLen img)
        let slotB := s.targetSlot
        let s1 := if store then s.writeSlot slotB img false else s
        let st : Staged :=
          { image := img, store := store, timeoutNs := timeoutMs * 1000000
            expires := some (s1.clk + timeoutMs * 1000000), slotB := slotB }
        let old := s1.canvas.active.getD []
        let d := [(16, leNat (slice img 0x20 16)), (8, changeMap old img), (1, changeClass old img)]
        ({ s1 with canvas := { s1.canvas with staged := some st } }).complete tag St.ok d

/-- CANVAS_COMMIT (R97): it waits for its activation, CANVAS_ACTIVATION. -/
def execCanvasCommit (tag : CmdTag) (at_ : TimeWord) (s : State) : Host.Outcome State Fault Refusal :=
  next <| s.serve tag 0x0006 fun s =>
    let t := if at_ = 0 then 0 else s.fromWord at_
    match s.canvas.staged with
    | none => s.complete tag St.noStagedCanvas
    | some st =>
      if s.canvas.commit.isSome then s.complete tag St.busy
      else if at_ ≠ 0 ∧ t < s.time.now + 2000000 * nsUnit then s.complete tag St.late
      else { s with canvas := { s.canvas with
        staged := some { st with expires := none }, commit := some { tag := tag, at_ := t } } }

/-- The mode in force stays permitted under an image's IDENT. -/
def State.modeStays (s : State) (img : Bytes) : Bool :=
  let m := s.mode.mode.code
  decide (m < 3 ∨ 8 < m) || bitAt (leAt (secBody img 1) 2 2) m

/-- A LANE_PROGRAMS change in mode 10 needs a standby (R98). -/
def State.standbyReady (s : State) : Bool :=
  (s.unit (1 - s.red.activeUnit)).state == .standby && s.red.switching.isNone && s.red.restore.isNone && s.unitActive

/-- A commit that is refused at its activation: the Canvas stays staged and its timeout starts again in full (R97). -/
def State.commitRefused (s : State) (tag : CmdTag) (st : Staged) : State :=
  let s1 := s.complete tag St.wrongMode
  { s1 with canvas := { s1.canvas with staged := some { st with expires := some (s1.clk + st.timeoutNs) } } }

/-- Steps 5 and 6 of R97 and the completion. -/
def State.commitDone (s : State) (tag : CmdTag) (cls : Nat) (store : Bool) : State :=
  let s1 := { s with store := { s.store with canvas := true } }
  (s1.raise 0x0017 [(4, s1.canvasGen), (1, cls), (1, ofBool store)]).complete tag St.ok

/-- The staged Canvas takes effect (R97, R98, R99). -/
def State.activateStaged (s : State) (tag : CmdTag) (st : Staged) : State :=
  let old := s.canvas.active.getD []
  let types := changedTypes old st.image
  let cls := changeClass old st.image
  let planned := decide (s.mode.mode = .maintain) && types.contains 8
  if classMode cls s.mode.mode.code = false ∨ s.modeStays st.image = false ∨ (planned ∧ s.standbyReady = false) then
    s.commitRefused tag st
  else
    let digest := s.sysDigest
    let s1 := State.lasersRecheck { s with
      store := { s.store with canvas := false }
      canvas := { s.canvas with staged := none }
      ret := { s.ret with tested := s.ret.tested && !types.contains 14 } }
    let s2 := if st.store then s1.setSlot st.slotB { image := st.image, marker := true } else s1
    let s3 := s2.raiseArb (imgSvn st.image)
    let s4 := s3.activate st.image (if st.store then 1 + ofBool st.slotB else 3) types
    let s5 := if s4.sysDigest = digest then s4
      else { s4 with canvas := { s4.canvas with oldDigest := digest, graceEnd := some (s4.clk + 10000000) } }
    if planned then { s5 with red := { s5.red with switching := some (.planned tag true false) } }
    else s5.commitDone tag cls st.store

/-- CANVAS_ACTIVATION: the instant of the pending commit. -/
def execCanvasActivation (s : State) : Host.Outcome State Fault Refusal :=
  next <| match s.canvas.commit, s.canvas.staged with
  | some c, some st =>
    let s1 := s.waitTime c.at_
    ({ s1 with canvas := { s1.canvas with commit := none } }).activateStaged c.tag st
  | _, _ => s

/-- CANVAS_ABORT (R100). -/
def execCanvasAbort (tag : CmdTag) (s : State) : Host.Outcome State Fault Refusal :=
  next <| s.serve tag 0x0007 fun s =>
    match s.red.switching, s.canvas.staged with
    | some (.planned _ true _), _ => s.complete tag St.late
    | _, none => s.complete tag St.noStagedCanvas
    | _, some _ => s.dropStaged.complete tag St.ok

/-- CANVAS_TIMEOUT (R100). -/
def execCanvasTimeout (s : State) : Host.Outcome State Fault Refusal :=
  next <| match s.canvas.staged with
  | some st => match st.expires with
    | some t => ((s.waitClk t).dropStaged).raise 0x0018 [(4, imgGen st.image)]
    | none => s
  | none => s

/-- DIGEST_GRACE_EXPIRE (R99): 10 ms after an activation the old digest counts no longer. -/
def execDigestGraceExpire (s : State) : Host.Outcome State Fault Refusal :=
  next <| match s.canvas.graceEnd with
  | some t =>
    let s1 := s.waitClk t
    ({ s1 with canvas := { s1.canvas with graceEnd := none } }).updateView
  | none => s

/-! ### The copy in memory (R94) -/

/-- The first section whose digest the copy in memory fails. -/
def badSection (mem : Bytes) : Option Nat :=
  (imgEntries mem).zipIdx.findSome? (fun x =>
    if digest16 (slice mem x.1.2.1 x.1.2.2.1) = entryDigest mem x.2 then none else some x.2)

/-- The slot that still holds the active image's GENERATION. -/
def State.reloadSlot (s : State) : Option Bool :=
  let holds (b : Bool) : Bool := s.slotValid b && imgGen (s.cslot b).image == s.canvasGen
  if s.canvas.active.isNone then none else [false, true].find? holds

/-- The image is reloaded from its slot. -/
def State.reloadCanvas (s : State) (b : Bool) : State :=
  let img := (s.cslot b).image
  ({ s with canvas := { s.canvas with memory := img.take (imgLen img) } }).raise 0x001B
    [(4, imgGen img), (1, ofBool b)]

/-- The active Canvas is lost (R94). -/
def State.loseCanvas (s : State) (section_ : Nat) : State :=
  let gen := s.canvasGen
  let s1 := (s.raise 0x0019 [(4, gen), (1, section_)]).autoMode .safe 3
  let s2 := s1.each (s1.ports.map Prod.fst) State.portOffNow
  let s3 := { s2.clearCanvasRegs with store := { s2.store with canvas := false } }
  ({ s3 with canvas := { s3.canvas with memory := [], source := 0, lost := true, graceEnd := none } }).updateView

/-- The check of R94 while a Canvas is active. -/
def State.checkCanvas (s : State) : State :=
  match badSection s.canvas.memory with
  | none => s
  | some i => match s.reloadSlot with
    | some b => s.reloadCanvas b
    | none => s.loseCanvas i

/-- CANVAS_DIGEST_CHECK: every 60 s. -/
def execCanvasDigestCheck (s : State) : Host.Outcome State Fault Refusal :=
  next <|
    if s.canvas.active.isNone ∨ s.started = false then s
    else
      let s1 := s.waitClk s.canvas.checkAt
      ({ s1 with canvas := { s1.canvas with checkAt := s1.clk + 60000000000 } }).checkCanvas

/-! ### Keys (R81) -/

/-- KEY_REVOKE: the key that signed the active Canvas is not revoked. -/
def execKeyRevoke (tag : CmdTag) (index : Nat) (s : State) : Host.Outcome State Fault Refusal :=
  next <| s.serve tag 0x0008 fun s =>
    let signer := s.canvas.active.map (fun img => byteAt (slice img (imgLen img - 256) 256) 0)
    if index > 3 then s.complete tag St.badParam
    else if signer = some index then s.complete tag St.wrongRole
    else
      let k := lget {} s.canvas.keys index
      let s1 := { s with canvas := { s.canvas with keys := lset s.canvas.keys index { k with revoked := true } } }
      s1.complete tag St.ok

end Sys2Proof.Machine
end

