-- ==== Sys2Proof/Machine/Units.lean ====
section
/-!
DEFINITION. The control units (chapter 22): program starts, checkpoints, claims, heartbeats, fail-over, planned switch-over,
return of a unit to standby.
-/

namespace Sys2Proof.Machine

/-! ### Units and their cores -/

def State.setUnit (s : State) (u : Nat) (x : CuUnit) : State :=
  if u = 0 then { s with red := { s.red with a := x } } else { s with red := { s.red with b := x } }

/-- Every core of a unit stops: its island is off or it is held in reset. -/
def State.haltUnit (s : State) (u : Nat) : State :=
  { s with eng := { s.eng with
    cores := s.eng.cores.filter (fun e => e.1 / 128 != u)
    irq := s.eng.irq.filter (fun e => e.1 / 4 != u) } }

/-- A unit's claim is no longer VALID (R468). -/
def ClaimReg.drop (c : ClaimReg) (u : Nat) : ClaimReg := if u = 0 then { c with a := none } else { c with b := none }
def ClaimReg.put (c : ClaimReg) (u v : Nat) : ClaimReg := if u = 0 then { c with a := some v } else { c with b := some v }
def State.dropClaim (s : State) (u : Nat) : State :=
  { s with adc := { s.adc with claim := s.adc.claim.drop u }, dac := { s.dac with claim := s.dac.claim.drop u } }

/-- The next claim is issued (R468); it takes effect at the hold-period boundary that follows. -/
def State.issueClaim (s : State) : State :=
  { s with ret := { s.ret with lastClaim := (s.ret.lastClaim + 1) % 65536 }, red := { s.red with claimed := true } }

/-- The claim takes effect for a unit. -/
def State.enterClaim (s : State) (u : Nat) : State :=
  let v := s.ret.lastClaim
  { s with
    adc := { s.adc with claim := s.adc.claim.put u v }
    dac := { s.dac with claim := s.dac.claim.put u v }
    red := { s.red with claimed := false } }

/-! ### Sorted tables -/

/-- Two tables in one, the second's entries in front; `n` is at least the sum of their lengths. -/
def tmerge {α : Type} : Nat → Tbl α → Tbl α → Tbl α
  | _, [], b => b
  | _, a, [] => a
  | 0, a, _ => a
  | n + 1, (i, x) :: a, (j, y) :: b =>
    if i < j then (i, x) :: tmerge n a ((j, y) :: b)
    else if j < i then (j, y) :: tmerge n ((i, x) :: a) b
    else (j, y) :: tmerge n a b

/-! ### Program starts (R222) -/

/-- The segment entry of a lane in a LANE_PROGRAMS body (R221). -/
def laneEntry (body : Bytes) (lane : Nat) : Bytes := slice body (0x50 + 16 * byteAt body (0x10 + lane)) 16

/-- INIT words of a lane, by data-memory key; zeros are not listed. -/
def laneInit (body : Bytes) (lane : Nat) : Tbl Word :=
  let e := laneEntry body lane
  let n := leAt e 12 2
  let words := (chunks 4 n (body.drop (leAt e 8 4))).map (fun w => BitVec.ofNat 32 (leNat w))
  (((List.range n).map (fun i => dmKey lane (leAt e 14 2 + i))).zip words).filter (fun x => x.2 != 0)

/-- The program that a unit's memory holds. -/
def State.programOf (s : State) (u : Nat) : Bytes := if u = 0 then s.eng.progA else s.eng.progB

/-- USER regions of a list of lanes take their INIT data. -/
def State.loadUser (s : State) (u : Nat) (lanes : List Nat) : State :=
  let body := s.programOf u
  let keep := s.eng.dm.filter (fun e => decide (e.1 % 12288 < 0x1500) || !lanes.contains (e.1 / 12288))
  let init := (lanes.map (laneInit body)).flatten
  { s with eng := { s.eng with dm := tmerge (keep.length + init.length) keep init } }

/-- A lane of the active unit starts at ENTRY with everything cleared; its first records carry FRESH. -/
def State.startLane (s : State) (n : Nat) : State :=
  let e := laneEntry (s.programOf s.red.activeUnit) n
  let x := s.core (.lane (Fin.ofNat 64 n))
  s.setCore (.lane (Fin.ofNat 64 n)) { run := .running, pc := leAt e 6 2 % 2048, autoAt := x.autoAt, cycMax := x.cycMax }

/-- Every lane of the active unit starts, and its supervisor cores run the firmware from its first word. -/
def State.startUnit (s : State) : State :=
  let s1 := (s.loadUser s.red.activeUnit (List.range 64)).each (List.range 64) State.startLane
  s1.each (List.range 4) (fun s n => s.setCore (.sup (Fin.ofNat 4 n)) { run := .running })

/-! ### Checkpoints (R467) -/

/-- The checkpoint of the period that ends is written and completes: RED_CKPT.SEQ advances. -/
def State.takeCheckpoint (s : State) : State :=
  let seq := seqNext s.red.ckptSeq
  let c : Checkpoint :=
    { seq := seq, period := s.loops.period % 2 ^ 32, unit := s.red.activeUnit, claim := s.ret.lastClaim
      gen := s.canvasGen, compl := 2 ^ 32 - 1 - seq, dm := s.red.snapDm, cells := s.red.snapCells }
  let s1 := { s with red := { s.red with ckptSeq := seq, ckptOverdue := none, snapDm := [], snapCells := [] } }
  if seq % 2 = 0 then { s1 with red := { s1.red with ckpt0 := c } } else { s1 with red := { s1.red with ckpt1 := c } }

/-- The completion word holds the complement of CKPT_SEQ (R467). -/
def Checkpoint.complete (c : Checkpoint) : Bool := c.compl == 2 ^ 32 - 1 - c.seq

/-- The last complete checkpoint. -/
def State.lastCheckpoint (s : State) : Option Checkpoint :=
  match s.red.ckpt0.complete, s.red.ckpt1.complete with
  | true, true => if newer 32 s.red.ckpt0.seq s.red.ckpt1.seq then some s.red.ckpt0 else some s.red.ckpt1
  | true, false => some s.red.ckpt0
  | false, true => some s.red.ckpt1
  | false, false => none

/-- What a checkpoint holds of one cell (Table 22.2). -/
def CellLoop.fromCheckpoint (x y : CellLoop) : CellLoop :=
  { x with
    state := y.state, suspect := y.state == .suspect, failCount := y.failCount, passRun := y.passRun
    estCount := y.estCount, goodRun := y.goodRun, sinceEst := y.sinceEst, suspects := y.suspects }

/-- A checkpoint is loaded into the data memories and the framework. -/
def State.loadCheckpoint (s : State) (c : Checkpoint) : State :=
  let keep := s.eng.dm.filter (fun e => !ckptWord e.1)
  let s1 := { s with eng := { s.eng with dm := tmerge (keep.length + c.dm.length) keep c.dm } }
  s1.each c.cells (fun s e => s.setCell e.1 ((s.cell e.1).fromCheckpoint e.2))

/-- Step 5 of R471: the last complete checkpoint, or the memories as they stand with every cell in ACQUIRE. -/
def State.resumeFrom (s : State) : State :=
  match s.lastCheckpoint with
  | some c => s.loadCheckpoint c
  | none =>
    let s1 := s.each (s.loops.coef.map Prod.fst) (fun s c =>
      let x := s.cell c
      if x.state = .off ∨ x.state = .hold ∨ x.state = .stuck then s else s.setCellState c x.enterAcquire .acquire)
    s1.raise 0x0909 [(1, s1.red.ckptSeq % 2)]

/-! ### Failures -/

/-- A unit is marked FAILED: held in reset, its claim dropped, its master drained (R471, R469). -/
def State.failUnit (s : State) (u cause step : Nat) : State :=
  let x := s.unit u
  let y : CuUnit := { x with
    state := .failed, failed := true, cause := cause, step := step, loaded := false
    times := if cause = 1 then min (x.times + 1) 65535 else x.times }
  (((s.setUnit u y).haltUnit u).dropClaim u).holdMaster u

/-- No standby can take over: the outputs hold (R471, R474). -/
def State.noStandbyNow (s : State) (u : Nat) : State :=
  ({ s with noStandby := true, red := { s.red with switching := none } }).raise 0x0905 [(1, u)]

/-- A restore in progress ends with a status; the unit stays FAILED (R477). -/
def State.endRestore (s : State) (status : Nat) : State :=
  match s.red.restore with
  | some (u, tag) =>
    let s1 := (s.setUnit u { s.unit u with state := .failed }).holdMaster u
    ({ s1 with red := { s1.red with restore := none } }).completeOpt tag status
  | none => s

/-- A switch-over is abandoned (R474): a planned one's command completes, and the standby's island goes off. -/
def State.endSwitching (s : State) (status : Nat) : State :=
  match s.red.switching with
  | some (.planned tag _ _) =>
    let o := 1 - s.red.activeUnit
    let s1 := s.setUnit o { s.unit o with state := .standby }
    ({ s1 with red := { s1.red with switching := none, claimed := false } }).complete tag status
  | some (.failover _) =>
    let o := 1 - s.red.activeUnit
    let s1 := s.setUnit o { s.unit o with state := .standby }
    { s1 with red := { s1.red with switching := none, claimed := false } }
  | none => s

/-- The active unit is declared failed (R471). -/
def State.declare (s : State) : State :=
  let u := s.red.activeUnit
  let o := 1 - u
  let s1 := (s.endRestore St.aborted).failUnit u 1 0
  let first := max s1.red.lineFirst s1.red.ckptFirst
  let s2 := { s1 with red := { s1.red with
    lineMiss := 0, ckptMiss := 0, ckptOverdue := none, gapOpen := true, declareUs := (s1.clk - first) / 1000 } }
  let seq := (s2.lastCheckpoint.map Checkpoint.seq).getD 0
  let s3 := s2.raise 0x0903 [(1, u), (1, o), (4, seq)]
  if s3.flag Reg.RED_CTL_AUTO_FAILOVER = false ∨ (s3.unit o).state ≠ .standby then s3.noStandbyNow u
  else
    let s4 := (s3.setUnit o { s3.unit o with state := .starting }).freeMaster o
    { s4 with red := { s4.red with switching := some (.failover s4.clk) } }

/-! ### Heartbeats (R470) -/

/-- One path after a check interval: its consecutive silent intervals and the clock of the first. -/
def missStep (silent : Bool) (miss first start : Nat) : Nat × Nat :=
  if silent then (min (miss + 1) 3, if miss = 0 then start else first) else (0, first)

/-- Events of one path: a fault once it alone has been silent for three intervals, and its end. -/
def State.pathEvents (s : State) (path : Nat) (silent down fault : Bool) : State :=
  let u := s.red.activeUnit
  let put (s : State) (d f : Bool) : State :=
    if path = 0 then { s with red := { s.red with lineDown := d, lineFault := s.red.lineFault || f } }
    else { s with red := { s.red with ckptDown := d, ckptFault := s.red.ckptFault || f } }
  if fault ∧ down = false then (put s true true).raiseLim 0x0901 path [(1, u), (1, path)]
  else if down ∧ silent = false then (put s false false).raiseLim 0x0902 path [(1, u), (1, path)]
  else s

/-- The monitor watches: a unit is active, in L0 to L2 or in a keep pass, and no planned switch-over runs (R473, R476). -/
def State.watches (s : State) : Bool :=
  s.unitActive && s.loops.counting && (decide (s.pwr.state ≤ 2) || s.pwr.keeping) && s.red.switching.isNone

/-- HEARTBEAT_CHECK: the end of an 8 µs check interval. -/
def execHeartbeatCheck (toggled : Bool) (s : State) : Host.Outcome State Fault Refusal :=
  next <|
    if s.watches = false then s
    else
      let t := s.loops.periodAt + (s.ptime / 8000 + 1) * 8000
      let s1 := s.waitClk t
      let late := match s1.red.ckptOverdue with
        | some o => decide (o ≤ t)
        | none => false
      let (lm, lf) := missStep (!toggled) s1.red.lineMiss s1.red.lineFirst (t - 8000)
      let (cm, cf) := missStep late s1.red.ckptMiss s1.red.ckptFirst (t - 8000)
      let s2 := { s1 with red := { s1.red with lineMiss := lm, lineFirst := lf, ckptMiss := cm, ckptFirst := cf } }
      if lm = 3 ∧ cm = 3 then s2.declare
      else
        let s3 := s2.pathEvents 0 (!toggled) s2.red.lineDown (lm == 3)
        s3.pathEvents 1 late s3.red.ckptDown (cm == 3)

/-! ### The starting unit (R471, R476) -/

/-- The starting unit fails a step: it is FAILED, no standby is left, and the outputs hold; a planned switch-over's lanes
resume at the next boundary and its command completes. -/
def State.startFails (s : State) (step : Nat) : State :=
  let o := 1 - s.red.activeUnit
  let sw := s.red.switching
  let s1 := (s.failUnit o 3 step).noStandbyNow o
  match sw with
  | some (.planned tag _ _) =>
    let s2 := s1.each (List.range 64) (fun s n =>
      let k := 128 * s.red.activeUnit + n
      let x := tget {} s.eng.cores k
      if x.run = .stopped then
        { s with eng := { s.eng with cores := tset {} s.eng.cores k { x with run := .waiting, waitAt := s.clk } } }
      else { s with eng := { s.eng with cores := tset {} s.eng.cores k { x with stopAt := none } } })
    s2.complete tag St.aborted
  | _ => s1

/-- STARTING_UNIT_CLAIM: 100 µs after the declaration, or 40 µs after the boundary of a planned switch-over, the unit has
loaded the checkpoint and claims; or it fails a step. -/
def execStartingUnitClaim (failStep : Option Nat) (s : State) : Host.Outcome State Fault Refusal :=
  next <|
    let go (t : Nat) : State :=
      let s1 := s.waitClk t
      match failStep with
      | some k => s1.startFails k
      | none => s1.resumeFrom.issueClaim
    match s.red.switching with
    | some (.failover d) => if s.red.claimed then s else go (d + 100000)
    | some (.planned _ _ true) => if s.red.claimed then s else go (s.loops.periodAt + 40000)
    | _ => s

/-- CU_SWITCH (R476). -/
def execCuSwitch (tag : CmdTag) (s : State) : Host.Outcome State Fault Refusal :=
  next <| s.serve tag 0x0902 fun s =>
    let o := 1 - s.red.activeUnit
    if s.pwr.state > 1 then s.complete tag St.powerState
    else if s.red.switching.isSome ∨ s.red.restore.isSome then s.complete tag St.busy
    else if (s.unit o).state ≠ .standby ∨ s.unitActive = false then s.complete tag St.wrongRole
    else
      let s1 := (s.setUnit o { s.unit o with state := .starting }).freeMaster o
      { s1 with red := { s1.red with switching := some (.planned tag false false) } }

/-- Gap of a switch-over in µs, from the last boundary at which outputs took effect to the first of the new unit (R472). -/
def State.gapAt (s : State) (t : Nat) : Nat := min 65535 ((t - s.red.lastOut) / 1000)

/-- The unit that has claimed becomes ACTIVE at a boundary (R471 step 7, R476 steps 3 and 4). -/
def State.resumeUnit (s : State) : State :=
  let old := s.red.activeUnit
  let new := 1 - old
  let sw := s.red.switching
  let s1 := (s.enterClaim new).setUnit new { s.unit new with state := .active }
  let s2 := { s1 with
    noStandby := false
    red := { s1.red with activeUnit := new, switching := none, gapOpen := true, lineMiss := 0, ckptMiss := 0 } }
  let gap := s2.gapAt (s2.clk + 128000)
  match sw with
  | some (.planned tag canvas _) =>
    let s3 := (((s2.dropClaim old).haltUnit old).setUnit old { s2.unit old with state := .standby }).holdMaster old
    let s4 := if canvas then s3.loadProgram old else s3
    let s5 := s4.startUnit.raise 0x0906 [(1, new), (2, gap)]
    if canvas then s5.commitDone tag 2 (decide (s5.canvas.source ≠ 3)) else s5.complete tag St.ok
  | _ => s2.startUnit.raise 0x0904 [(1, new), (2, s2.ret.lastClaim), (2, gap)]

/-! ### Restore (R477) -/

/-- CU_RESTORE. -/
def execCuRestore (tag : CmdTag) (unit : Nat) (s : State) : Host.Outcome State Fault Refusal :=
  next <| s.serve tag 0x0901 fun s =>
    if unit > 1 then s.complete tag St.badParam
    else
      let x := s.unit unit
      if x.state = .active ∨ x.state = .starting then s.complete tag St.wrongRole
      else if s.red.switching.isSome ∨ s.red.restore.isSome then s.complete tag St.busy
      else if s.pwr.state ≠ 0 then s.complete tag St.powerState
      else if x.state = .standby then s.complete tag St.ok
      else
        let s1 := s.setUnit unit { x with state := .testing }
        { s1 with red := { s1.red with restore := some (unit, some tag) } }

/-- CU_RESTORED: the unit under restore has passed, or failed a step. -/
def execCuRestored (failStep : Option Nat) (s : State) : Host.Outcome State Fault Refusal :=
  next <| match s.red.restore with
  | none => s
  | some (u, tag) =>
    let s1 := { s with red := { s.red with restore := none } }
    match failStep with
    | some k =>
      let s2 := s1.failUnit u 4 k
      (s2.raise 0x0908 [(1, u), (1, k)]).completeOpt tag St.aborted
    | none =>
      let s2 := (s1.setUnit u { s1.unit u with state := .standby, failed := false, loaded := true }).loadProgram u
      (s2.raise 0x0907 [(1, u)]).completeOpt tag St.ok

/-- Two claims are equal (R243, R469): the tie is found, and at the next boundary the unit that is not designated is FAILED
and the designated one claims again. -/
def State.tieStep (s : State) : State :=
  let u := s.red.activeUnit
  if s.red.tie then
    if (s.unit u).state ≠ .active then s
    else
      let s1 := (s.failUnit (1 - u) 2 0).issueClaim
      { s1 with red := { s1.red with tie := false } }
  else if s.dac.claim.tie ∨ s.adc.claim.tie then
    ({ s with red := { s.red with tie := true } }).raise 0x0C04 [(2, (s.dac.claim.a).getD 0)]
  else s

end Sys2Proof.Machine
end

