-- ==== Sys2Proof/Machine/Start.lean ====
section
/-!
DEFINITION. Starts and resets (chapter 03): causes, the sixteen steps, failures and retries, RST_N, wake events, RESET_MODULE,
LOAD_CANVAS.
-/

namespace Sys2Proof.Machine

/-! ### What a start ends and resets -/

/-- The remaining commands in progress end (R443): SET_POWER as PREEMPTED, every other one as ABORTED. -/
def State.endCommands (s : State) : State :=
  let s1 := ({ s with pwr := { s.pwr with cmd := none } }).completeOpt s.pwr.cmd St.preempted
  let tags := (List.range 16).flatMap (fun r => (s1.ring r).running.map InProgress.tag)
  let s2 := s1.each tags (fun s t => s.complete t St.aborted)
  s2.each (List.range 16) (fun s r => s.setRing r { s.ring r with fetched := [] })

/-- Everything that waits or runs is cut short, and the lasers go off (R39, R100, R136, R258, R421, R474, R501). -/
def State.cutShort (s : State) : State :=
  let s1 := ((s.endPendingMode St.preempted).endApply).endCalRun.dropStaged.leaveConj
  let s2 := (s1.safStop 2 St.preempted).endLaserSet St.preempted
  ((s2.endRestore St.aborted).endSwitching St.aborted).endCommands

/-- Bits of a register that a start keeps: on a warm start RWS fields and locked bits (R6); the thermal values in force on
every start (R553). -/
def State.keptBits (s : State) (warm : Bool) (a : Nat) : Nat :=
  match regAt a with
  | some (d, _) =>
    let mask (p : FieldDesc → Bool) : Nat := d.fields.foldl (fun m f => if p f then putBits m f.hi f.lo (2 ^ 32 - 1) else m) 0
    let thm := if 0x40000 ≤ a ∧ a < 0x40014 then mask (fun f => f.acc == .rwl) else 0
    let rws := if warm then mask (fun f => f.acc == .rws) ||| ((tget 0 s.locks a).toNat &&& mask (fun f => f.acc == .rwl)) else 0
    thm ||| rws
  | none => 0

/-- Stored registers return to their reset values but for the bits that are kept. -/
def State.resetRegs (s : State) (warm : Bool) : State :=
  let put (t : Tbl Word) (e : Nat × Word) : Tbl Word :=
    let m := s.keptBits warm e.1
    let w := BitVec.ofNat 32 ((e.2.toNat &&& m) ||| clearBits (resetWord e.1).toNat m)
    if w = resetWord e.1 then t else t ++ [(e.1, w)]
  { s with regs := s.regs.foldl put [], locks := if warm then s.locks else [] }

/-- Frames in the buffer, lost in a reset, are counted in DROP_RESET (R68). -/
def State.loseFrames (s : State) : State :=
  { s with ret := { s.ret with dropReset := s.ret.dropReset + s.tm.frames.length } }

/-- Lanes, ports, buffer, Ikile ports and the parts of the packet side that no rule retains. -/
def State.clearPackets (s : State) : State :=
  { s.loseFrames with
    lanes := [], ports := []
    fdb := { s.fdb with
      learn := [], flushes := [], barriers := [], waiting := [], notify := [], retiring := [], hwChanged := false
      waitSince := none, sweepPos := 0, passes := 0, sweepS := 0, bad := [] }
    tm := { withdrawn := s.tm.withdrawn }
    obs := { s.obs with cntLatch := none, snaps := [], seqs := [] }
    ikl := { epoch := s.ikl.epoch, outOfOrbit := s.ikl.outOfOrbit, seenT := s.ikl.seenT, lastId := s.ikl.lastId } }

/-- The light side stands at its safe codes with no swatch; the Palette, the stuck table and the loops' state stay. -/
def State.clearLight (s : State) : State :=
  let s1 := s.toSafe.noSwatch
  { s1 with
    mx := {
      palette := s1.mx.palette, stuck := s1.mx.stuck, stuckRev := s1.mx.stuckRev, stuckNvm := s1.mx.stuckNvm
      stuckRevNvm := s1.mx.stuckRevNvm }
    orb := {}
    loops := { s1.loops with
      counting := false, started := false, heldOut := true, stage := {}, coefNext := [], cmd := none
      sums := [0, 0, 0, 0, 0, 0], lastOverrun := 0, pathAwait := [], eopDone := false, deadlineDone := false }
    eng := { s1.eng with cores := [], irq := [], laneBusy := false, swapping := false }
    adc := {}
    dac := { s1.dac with claim := {}, monLatch := none, stepCells := 0 }
    cal := { s1.cal with
      next := [], trimsNext := [], ofs := [], biasWin := [], run := none, eyes := [], scanning := [] } }

/-- Both units are held in reset; one that is not FAILED keeps its image in retention (R465, R474, R475). -/
def State.clearUnits (s : State) (warm : Bool) : State :=
  let off (x : CuUnit) : CuUnit :=
    if x.failed then { x with state := .failed } else { x with state := if warm then .standby else .off }
  let old := s.red
  { s with
    red := { a := off old.a, b := off old.b, ckpt0 := old.ckpt0, ckpt1 := old.ckpt1, ckptSeq := old.ckptSeq }
    noStandby := false }

/-- The rest of the module's blocks. -/
def State.clearBlocks (s : State) : State :=
  let s1 := s.toSlowClock
  { s1 with
    evLast := [], alertEvent := false, alertCode := 0
    mode := {}
    pwr := {}
    canvas := { s1.canvas with verr := 0, verrSect := 0, vrec := 0, graceEnd := none, oldDigest := [] }
    saf := { s1.saf with longest := 0 }
    thm := {
      restartE := s1.thm.restartE, restartP := s1.thm.restartP, tripN := s1.thm.tripN
      throttleMs := s1.thm.throttleMs, shutdown := none }
    time := { s1.time with trigOut := [], ppsEnd := none, caps := [], capLatch := [], wait := none, annId := 0, annHeard := 0 }
    bm := {}
    cx := { s1.cx with
      rings := s1.cx.rings.map (fun g => { g with error := false })
      fqTx := List.replicate 8 {}, fqRx := List.replicate 8 {}, txHeld := [], coal := [] }
    nvm := { s1.nvm with jobs := [], retried := false, torn := (s1.nvm.jobs.head?).map FlashJob.region, discarded := 0 } }

/-- Every domain is reset. -/
def State.resetDomains (s : State) (warm : Bool) : State :=
  ((s.cutShort.clearPackets.clearLight).clearUnits warm).clearBlocks

/-! ### The beginning of a start -/

/-- The event sequence resumes at the highest number of the event log plus 4 096, so that the next event takes the highest
plus 4 097 (R438, R442); records that were staged are lost. -/
def State.resumeEvents (s : State) : State :=
  let top := (s.obs.pages.flatten.map EvtRec.seq).foldl (fun m q => if newer 32 q m then q else m) 0
  let n := (top + 4096) % 2 ^ 32
  { s with cx := { s.cx with evtSeq := n, evtDb := n }, obs := { s.obs with staged := [] } }

/-- A cold start begins: the retention store's flags are cleared, the Canvas is not active (R41, R60). -/
def State.coldBegin (s : State) : State :=
  let s1 := ({ s with store := {} }).resumeEvents
  { s1 with
    canvas := { s1.canvas with active := none, memory := [], source := 0, lost := false }
    loops := {}
    thm := { s1.thm with throttleMs := 0 }
    ikl := {}
    red := { s1.red with
      a := { s1.red.a with cause := 0, step := 0, times := 0 }, b := { s1.red.b with cause := 0, step := 0, times := 0 }
      ckpt0 := {}, ckpt1 := {}, ckptSeq := 0 } }

/-- What is recorded of the time before a start without counting as a failure: chatter of RST_N, an undervoltage (R69,
R532). -/
def State.recordBefore (s : State) : State :=
  let s1 := if s.ret.rstChatter then { s with ret := { s.ret with failStep := 0, failCode := 0x02, rstChatter := false } } else s
  if s1.start.railFail then { s1 with ret := { s1.ret with failStep := 1, failCode := 0x10 } } else s1

/-- A start begins (R57, R63): mode 0, L0. -/
def State.beginStart (s : State) (cause : Nat) : State :=
  let warm := decide (7 ≤ cause)
  let s1 := ((s.resetDomains warm).resetRegs warm).recordBefore
  let s2 := if warm then s1 else s1.coldBegin
  let s3 := if warm ∧ s2.canvas.active.isSome then s2.geometryRegs.queueRegs else s2
  let s4 := { s3 with start :=
    { running := true, warm := warm, cause := cause, step := 1, escalated := cause == 4, stepAt := s3.clk } }
  s4.raise 0x0011 [(1, 0xFF), (1, 0), (1, 8)]

/-! ### Failures (R71) -/

/-- The start fails at its step with a code. -/
def State.failStart (s : State) (code : Nat) : State :=
  let warm := s.start.warm
  let wf := if warm then min (s.ret.warmFails + 1) 3 else s.ret.warmFails
  let cf := if warm then s.ret.coldFails else min (s.ret.coldFails + 1) 3
  let s1 := (s.safStop 2 St.preempted).toSafe
  let s2 := { s1 with
    ret := { s1.ret with failStep := s1.start.step, failCode := code, warmFails := wf, coldFails := cf }
    start := { s1.start with running := false, report := [], retryAt := some (s1.clk + 100000000) } }
  let s3 := s2.raise 0x0013 [(1, s2.start.step), (1, code), (1, ofBool warm), (1, wf), (1, cf)]
  let retry := if warm then (if wf ≥ 3 then some 4 else some 10) else if cf ≥ 3 then none else some 6
  { s3 with
    start := { s3.start with retryCause := retry }
    ret := { s3.ret with warmFails := if warm ∧ wf ≥ 3 then 0 else wf } }

/-! ### The steps (Table 3.2, R62) -/

/-- Limit of a step in ns. -/
def stepLimit (n : Nat) (warm : Bool) : Nat :=
  1000000 * match n with
  | 1 | 3 | 8 | 11 | 12 => 5
  | 2 | 6 => 10
  | 4 | 5 => 3000
  | 7 => 8
  | 9 => 1000
  | 10 => if warm then 100 else 1500
  | 13 => 100
  | 14 => 300
  | 15 => 150
  | _ => 200

/-- Does the start in progress skip a step? -/
def State.skips (s : State) (n : Nat) : Bool :=
  s.start.warm && (n == 4 || n == 5 || n == 9 || (n == 13 && s.ret.tested))

/-- Step 2 turns a warm start cold (R58, R60). -/
def State.turnCold (s : State) : State :=
  let s1 := ((s.clearUnits false).resetRegs false).coldBegin
  { s1 with start := { s1.start with warm := false, cause := 5, retainBad := true } }

/-- Every region of the retention store is valid, and the copy of the Canvas passes or is reloaded (R60, R94). -/
def State.retained? (s : State) : Bool × State :=
  let r := s.store
  if (r.canvas && r.calib && r.ckpt && r.palette && r.fdbCls && r.counters && r.cxWindow) = false then (false, s)
  else if s.canvas.active.isNone then (false, s)
  else match badSection s.canvas.memory with
    | none => (true, s)
    | some _ => match s.reloadSlot with
      | some b => (true, s.reloadCanvas b)
      | none => (false, s)

/-- A trip that the retention register shows: TRIP_SEEN, and its record with CAUSE 3 where it has none (R62, R491, R554). -/
def State.tripAtStart (s : State) : State :=
  if s.ret.tripDies = 0 then s
  else
    let top := (s.obs.pages.flatten.map EvtRec.seq).foldl (fun m q => if newer 32 q m then q else m) 0
    let gen := if s.store.canvas then s.canvasGen else 0
    let seq := s.nvm.recordTotal + 1
    let thr := if bitAt s.ret.tripDies 0 then 240 else 200
    let b := withMarker (shutdownBody seq 3 s.ret.tripDies 0xFF s.ret.tripMode 0x8000 thr s.ret.tripPower 0 top 0 gen 0) seq
    let s1 := if s.ret.tripUnrecorded then s.addRecord b else s
    { s1 with ret := { s1.ret with tripSeen := true, tripDies := 0, tripUnrecorded := false } }

/-- A unit whose program was cut short reads as absent and is discarded (R491, R493). -/
def State.discardTorn (s : State) : State :=
  match s.nvm.torn with
  | some r =>
    let s1 := { s with nvm := { s.nvm with torn := none, discarded := 1 } }
    (s1.bump Reg.NVM_ERR_CRC_FAIL 1).raise 0x0601 [(1, r), (4, 1)]
  | none => s

/-- The exchange at step 2 of a cold start (R438): windows and ring counters are cleared, WINDOW adds one. -/
def State.coldExchange (s : State) : State :=
  let s1 := { s with cx := { s.cx with rings := List.replicate 16 {}, window := seqNext s.cx.window } }
  (s1.flashJob .journal).raise 0x0106 [(4, s1.cx.window)]

/-- Step 2. -/
def State.step2 (s : State) : State :=
  let s0 := s.tripAtStart
  let (ok, s1) := if s0.start.warm then s0.retained? else (true, s0)
  let s2 := if ok then s1 else s1.turnCold
  let s3 := State.lasersRecheck { s2.discardTorn.readySlots with
    ret := { s2.ret with thermalL5 := false, tested := s2.ret.tested && s2.start.warm } }
  if s3.start.warm then s3 else s3.coldExchange

/-- Step 3: BAR0 is exposed, the link comes up where PERST_N lets it, and a stuck RST_N is told (R64, R65, R69). -/
def State.step3 (s : State) : State :=
  let s1 := { s with cx := { s.cx with linkUp := !s.cx.perst } }
  let s2 := if s1.cx.linkUp then ((s1.freeMaster 2).freeMaster 3).freeMaster 4 else s1
  if s2.ret.stuckPending then
    ({ s2 with ret := { s2.ret with stuckPending := false } }).raise 0x0015 [(2, s2.ret.rstHold)]
  else s2

/-- A slot that holds a marker and fails its verification is told (R91). -/
def State.checkSlot (s : State) (b : Bool) : State :=
  if (s.cslot b).marker = false then s
  else
    let v := s.verifyImage (s.cslot b).image
    if v.code = 0 then s else (s.verdictFail (ofBool b) v).raise 0x001A [(1, ofBool b), (1, v.code)]

/-- An image is loaded at a cold start: every section is set from it; PARSE_GRAPH, CLASSIFIER and the loops wait for their
own steps. -/
def State.loadImage (s : State) (img : Bytes) (source : Nat) : State :=
  (s.raiseArb (imgSvn img)).activate img source [1, 2, 9, 11, 12, 16]

/-- Step 4 (R91): the Bool tells whether an image was loaded. -/
def State.step4 (s : State) : Bool × State :=
  let s1 := (s.checkSlot false).checkSlot true
  let a := s1.slotValid false
  let b := s1.slotValid true
  let ia := (s1.cslot false).image
  let ib := (s1.cslot true).image
  if b ∧ (a = false ∨ newer 32 (imgGen ib) (imgGen ia)) then (true, s1.loadImage (ib.take (imgLen ib)) 2)
  else if a then (true, s1.loadImage (ia.take (imgLen ia)) 1)
  else (false, { s1 with start := { s1.start with canvasWait := true, state := 1 } })

/-- Step 5 of a cold start tests both units and the packet buffer (R324, R475). -/
def State.step5 (s : State) : State :=
  let fresh (x : CuUnit) : CuUnit := { x with state := .standby, failed := false, loaded := true }
  let s1 := { s with red := { s.red with a := fresh s.red.a, b := fresh s.red.b }, tm := { s.tm with withdrawn := 0 } }
  (s1.loadProgram 0).loadProgram 1

/-- The checks of R53 have found both references bad. -/
def State.refsBad (s : State) : Bool := s.ref.holdover && !s.ref.refAOk && !s.ref.refBOk

/-- Step 6: the PLLs start on a good reference (the result brought for the step vouches for the references where no check
has been made), and hold periods are counted from 0 (R53, R165). -/
def State.step6 (s : State) : State :=
  let known := s.ref.refAOk || s.ref.refBOk
  let a := s.ref.refAOk || !known
  let b := s.ref.refBOk || !known
  let selB := if s.fld Reg.PWR_CLK_PREFER = 1 then b else !a
  let s1 := { s with ref := { refAOk := a, refBOk := b, selB := selB, holdover := false } }
  ({ s1 with loops := { s1.loops with period := 0, sampled := true, sampledCount := 1 } }).countPeriods

/-- Step 7: the references are enabled and settled. -/
def State.step7 (s : State) : State :=
  let s1 := (s.setFld Reg.ADC_REF_CTL_EN 1).refStart
  { s1 with adc := { s1.adc with ref := s1.adc.ref.up.1 } }

/-- Step 9: the calibration image, the trims and the stuck table come from the flash (R138, R247, R253). -/
def State.step9 (s : State) : State :=
  { s with
    cal := { s.cal with img := s.cal.imgNvm, gen := s.cal.genNvm, imgOk := true, trims := s.cal.trimsNvm }
    mx := { s.mx with stuck := s.mx.stuckNvm, stuckRev := s.mx.stuckRevNvm } }

/-- LOOP_PLAN's records come into force. -/
def State.loadCoefs (s : State) : State :=
  let recs := secRecords (s.canvas.active.getD []) 7 64
  let coef := recs.foldl (fun t r => tput t (leAt r 0 2) (planWords r)) []
  let s1 := { s with loops := { s.loops with coef := coef } }
  let words := coef.flatMap (fun e => (List.range 16).map (fun i =>
    (dmKey (s1.laneOf e.1) (16 * s1.indexOf e.1 + i), lget 0 e.2 i)))
  s1.each words (fun s w => { s with eng := { s.eng with dm := tset 0 s.eng.dm w.1 w.2 } })

/-- Step 10: a cold start loads the operating point that the acquisition finds, a warm start the last complete
checkpoint. -/
def State.step10 (s : State) : State :=
  if s.start.warm then
    let s1 := s.loadCoefs
    match s1.lastCheckpoint with
    | some c => s1.loadCheckpoint c
    | none => s1
  else
    let s1 := ({ s with eng := { s.eng with dm := [] } }).loadCoefs
    s1.each (s1.loops.coef.map Prod.fst) State.resetCell

/-- The unit that step 11 makes ACTIVE (R475). -/
def State.unitToStart (s : State) : Option Nat :=
  let p := s.fld Reg.RED_CTL_PREFER
  if (s.unit p).failed = false then some p else if (s.unit (1 - p)).failed = false then some (1 - p) else none

/-- Step 11: the unit claims, its lanes start, every loop starts in ACQUIRE (R62, R170, R468). -/
def State.step11 (s : State) (u : Nat) : State :=
  let o := 1 - u
  let s1 := s.setUnit u { s.unit u with state := .active, loaded := true }
  let s2 := if (s1.unit o).failed then s1 else s1.setUnit o { s1.unit o with state := .standby, loaded := true }
  let s3 := (s2.loadProgram u)
  let s4 := ({ s3 with red := { s3.red with activeUnit := u, lastOut := s3.clk } }).issueClaim
  let s5 := (s4.enterClaim u).startUnit
  let s6 := { s5 with loops := { s5.loops with started := true } }
  s6.each (s6.loops.coef.map Prod.fst) (fun s c => s.setCellState c (s.cell c).enterAcquire .acquire)

/-- Step 12: module time (R62, R378). -/
def State.step12 (s : State) : State :=
  let s1 := if s.start.warm then s else { s with time := { s.time with now := 0, lastStep := none } }
  let s2 := { s1 with time := { s1.time with
    y := 0, integ := 0, misses := 0, good := 0, offsets := [], theta := none, jump := none, jumpSeq := 0, srcUsed := 0
    unset := true } }
  s2.toFastClock

/-- Step 15: the Ikile ports train; the module leads in its own view until it sees others. -/
def State.step15 (s : State) : State :=
  let s1 := s.trainPorts
  ({ s1 with ikl := { s1.ikl with
    leader := some s1.moduleId, exchAt := s1.clk, cometAt := s1.clk, syncAt := s1.clk } }).freeMaster 5

/-- Step 16 (R62): tables. -/
def State.step16 (s : State) : State :=
  let s1 := { s with orb := {} }
  let s2 :=
    if s1.start.warm then
      { s1 with fdb := { s1.fdb with slots := s1.fdb.slots.filter (fun e => e.2.static) } }.planPolicers
    else
      let c := ({ s1 with
        fdb := { fids := s1.fidDefaults, tickAt := s1.fdb.tickAt }
        obs := { s1.obs with cnt := [] }
        mx := { s1.mx with palette := [] }
        cls := {} }).loadClassifier.loadGraph.planPolicers
      { c with cls := { c.cls with gen := 0 } }
  { s2 with tm := { s2.tm with polGen := 0 } }

/-- The automatic move to START_MODE (R39, R84): START_PERM is routed and stored, and the mode waits for its Eclipse. -/
def State.startMode (s : State) : State :=
  let mode := byteAt s.ident 4
  let sw := leAt s.ident 6 2
  if mode = 1 then s
  else match modeOf mode with
  | none => s
  | some m =>
    let job := RouteJob.write (permOfHost (slice s.ident 0x10 1024)) [] false 0
    let r : RouteReq := { tag := none, swatch := sw, job := job }
    let x := s.routeDo r
    let s1 := x.2.routeEnds sw x.1 0
    if x.1 = 0 ∧ (s1.swatch sw).roleOk m then
      { s1 with mode := { s1.mode with pend := some ⟨none, m, some sw, .interval⟩ } }
    else s1

/-- Step 16 completes: the start is done (R63, R72). -/
def State.startDone (s : State) : State :=
  let s1 := { s with
    start := { s.start with running := false, state := 2, step := 17 }
    ret := { s.ret with warmFails := 0, coldFails := 0 }
    store := ⟨true, true, true, true, true, true, true⟩ }
  let s2 := s1.raise 0x0012 [(1, ofBool s1.start.warm), (1, s1.start.cause)]
  (s2.enterMode .safe 1).startMode

/-! ### Running a start -/

/-- The start goes on to the next step. -/
def State.toStep (s : State) (n : Nat) : State := { s with start := { s.start with step := n, stepAt := s.clk } }

/-- What the end of a step does; `none` in the first place for a failure's code. -/
def State.stepEnd (s : State) (n : Nat) : Option Nat × State :=
  match n with
  | 2 => (none, s.step2)
  | 3 => (none, s.step3)
  | 4 => (none, (s.step4).2)
  | 5 => (none, s.step5)
  | 6 => (none, s.step6)
  | 7 => (none, s.step7)
  | 9 => (none, s.step9)
  | 10 => if s.start.warm ∧ s.lastCheckpoint.isNone then (some 0x71, s) else (none, s.step10)
  | 11 => match s.unitToStart with
    | some u => (none, s.step11 u)
    | none => (some 0x80, s)
  | 12 => (none, s.step12)
  | 13 => (none, s.safetyStartup)
  | 15 => (none, s.step15)
  | 16 => (none, s.step16)
  | _ => (none, s)

/-- The start stands: it is not running, RST_N holds it, or it waits. -/
def State.startStands (s : State) : Bool :=
  !s.start.running || (s.filter 8).active || s.start.canvasWait || s.start.held

/-- A hold before the step that comes next (R74). -/
def State.holdsAt (s : State) (n : Nat) : Bool :=
  decide (4 ≤ n) && s.fld Reg.GEN_START_CTL_HOLD_STEP == n && s.start.released != n

/-- One step, by the result that the report gives of it. -/
def State.stepOnce (s : State) : State :=
  let n := s.start.step
  if s.startStands then s
  else if s.holdsAt n then { s with start := { s.start with held := true, state := 1 } }
  else if s.skips n then s.toStep (n + 1)
  else match s.start.report with
  | [] => s
  | r :: rest =>
    let s1 := { s with start := { s.start with report := rest } }
    let lim := stepLimit n s.start.warm
    if n = 6 ∧ s.refsBad = true then (s1.waitClk (s1.start.stepAt + lim)).failStart 0x40
    else if r.dur > lim then (s1.waitClk (s1.start.stepAt + lim)).failStart 0x01
    else
      let s2 := s1.waitClk (s1.start.stepAt + r.dur)
      if r.code ≠ 0 then s2.failStart r.code
      else
        match s2.stepEnd n with
        | (some code, s3) => s3.failStart code
        | (none, s3) =>
          if s3.start.canvasWait then s3
          else if n = 16 then s3.startDone
          else s3.toStep (n + 1)

/-- The start runs as far as it can. -/
def State.runStart : Nat → State → State
  | 0, s => s
  | n + 1, s => runStart n s.stepOnce

/-- START (R61): the results of steps as they are met, in order; the start that has begun runs on with them. -/
def execStart (report : List StepResult) (s : State) : Host.Outcome State Fault Refusal :=
  next <|
    if s.start.running then
      ({ s with start := { s.start with report := s.start.report ++ report } }).runStart 33
    else s

/-- START_STEP_TIMEOUT (R61): the step in progress exceeds its limit; neither wait of R65 counts. -/
def execStartStepTimeout (s : State) : Host.Outcome State Fault Refusal :=
  next <|
    if s.startStands ∨ s.holdsAt s.start.step then s
    else
      let n := s.start.step
      let bad := decide (n = 6) && s.refsBad
      (s.waitClk (s.start.stepAt + stepLimit n s.start.warm)).failStart (if bad then 0x40 else 0x01)

/-- START_RETRY (R71): 100 ms after the failure the next start begins, or the module halts. -/
def execStartRetry (s : State) : Host.Outcome State Fault Refusal :=
  next <| match s.start.retryAt with
  | none => s
  | some t =>
    let s1 := s.waitClk t
    match s1.start.retryCause with
    | some c => s1.beginStart c
    | none => { s1 with start := { s1.start with retryAt := none, state := 3 } }

/-- A hold ends (R74). -/
def State.continueStart (s : State) : State :=
  if s.start.held then
    let s1 := { s with start := { s.start with held := false, state := 0, released := s.start.step, stepAt := s.clk } }
    s1.runStart 33
  else s

/-- START_CONTINUE: a write of GEN_START_CTL.CONTINUE. -/
def execStartContinue (s : State) : Host.Outcome State Fault Refusal := next <| s.hostAct 0 fun s => s.continueStart

/-- Both counters are cleared, as each way out of the halted state does (R72). -/
def State.clearFails (s : State) : State := { s with ret := { s.ret with warmFails := 0, coldFails := 0 } }

/-- RESET_MODULE (R57, R72, R73). -/
def execResetModule (tag : CmdTag) (kind : Nat) (s : State) : Host.Outcome State Fault Refusal :=
  next <| s.serve tag 0x0003 fun s =>
    if kind > 1 then s.complete tag St.badParam
    else
      let s1 := s.complete tag St.ok
      if s1.start.state = 3 then s1.clearFails.beginStart 3 else s1.beginStart (if kind = 1 then 9 else 3)

/-! ### LOAD_CANVAS (R92) -/

/-- A verified image goes to its target slot, the marker last. -/
def State.storeImage (s : State) (img : Bytes) : State := s.writeSlot s.targetSlot img true

/-- LOAD_CANVAS. -/
def execLoadCanvas (tag : CmdTag) (image : Option Bytes) (len : Nat) (store : Bool) (s : State) :
    Host.Outcome State Fault Refusal :=
  next <| s.serve tag 0x0004 fun s =>
    let afterLoss := s.started && s.canvas.lost && decide (s.mode.mode = .safe)
    if (s.start.canvasWait || decide (s.start.state = 3) || afterLoss) = false then s.complete tag St.wrongMode
    else match image with
    | none => s.complete tag St.hostDmaError
    | some b =>
      let v := s.verifyHost (b.take len) store
      if v.code ≠ 0 then (s.verdictFail 2 v).complete tag St.canvasInvalid [(1, v.code)]
      else
        let img := (b.take len).take (imgLen (b.take len))
        let slotB := s.targetSlot
        let s1 := if store then s.storeImage img else s
        let src := if store then 1 + ofBool slotB else 3
        if s1.start.canvasWait then
          let s2 := (s1.loadImage img src).complete tag St.ok
          let s3 := { s2 with start := { s2.start with canvasWait := false, state := 0 } }
          (s3.toStep 5).runStart 33
        else if afterLoss then
          let s2 := (s1.raiseArb (imgSvn img)).activate img src (changedTypes [] img)
          let s3 := State.lasersRecheck { s2 with
            ret := { s2.ret with tested := false }
            store := { s2.store with canvas := true } }
          s3.complete tag St.ok
        else s1.complete tag St.ok

/-! ### RST_N (R67 to R69) -/

/-- The host link goes down: the endpoint and its DMA masters are reset, ring and frame-queue enables cleared (R70,
R430). -/
def State.linkLost_ (s : State) : State :=
  let s1 := s.each (List.range 16) (fun s r => s.setFld (Reg.CX_RING_CTL_EN r) 0)
  let s2 := s1.each (List.range 8) (fun s q => (s.setFld (Reg.CX_FQ_CTL_TX_EN q) 0).setFld (Reg.CX_FQ_CTL_RX_EN q) 0)
  let s3 := { s2 with cx := { s2.cx with
    linkUp := false, busMaster := false, d3hot := false, msix := List.replicate 64 {}, coal := []
    fqTx := s2.cx.fqTx.map (fun (d : FqDir) => { d with descs := [] }), fqRx := s2.cx.fqRx.map (fun (d : FqDir) => { d with descs := [] }) } }
  ((s3.holdMaster 2).holdMaster 3).holdMaster 4

/-- A start in progress is abandoned; a halted module stays halted. -/
def StartSt.abandoned (st : StartSt) : StartSt :=
  if st.state = 3 then st else { railFail := st.railFail, cause := st.cause, warm := st.warm }

/-- RST_N is asserted (R68): lasers off, outputs to safe codes, packet engine, lanes and Ikile ports stopped, link down,
control units in reset. -/
def State.resetAsserted (s : State) : State :=
  let s1 := { s with pins := { s.pins with rstAt := some s.clk, rstPower := s.pwr.state } }
  let s2 := (((s1.cutShort.dacClear 1).clearPackets.clearLight).clearUnits true).toSlowClock.linkLost_
  { s2 with mode := {}, start := s2.start.abandoned }

/-- A wake event in L4 or L5 (R49, R50): refused until the restart condition holds after a thermal shut-down, or the start
it causes begins. -/
def State.wake (s : State) (src : Nat) : State :=
  if s.ret.thermalL5 ∧ (s.thm.restartE && s.thm.restartP) = false then
    { s with pwr := { s.pwr with wakeRefused := min (s.pwr.wakeRefused + 1) 255 } }
  else
    let warm := decide (s.pwr.state = 4)
    ({ s with ret := { s.ret with wakeSrc := src } }).beginStart (if warm then 8 else 2)

/-- RST_N is released (R69): the hold time is recorded and a start begins by the power state of the assertion; at power-up
the start that has begun goes on. -/
def State.resetReleased (s : State) : State :=
  let s0 := s.dacRelease
  match s0.pins.rstAt with
  | none => s0.runStart 33
  | some t =>
    let long := decide (s0.clk - t > 10000000000)
    let s1 := { s0 with
      pins := { s0.pins with rstAt := none }
      ret := { s0.ret with
        rstHold := min ((s0.clk - t) / 10000000) 0xFFFF, rstStuck := s0.ret.rstStuck || long
        stuckPending := s0.ret.stuckPending || long } }
    if s1.start.state = 3 ∨ s1.pins.rails = false then s1
    else if s1.pins.rstPower ≥ 4 then ({ s1 with pwr := { s1.pwr with state := s1.pins.rstPower } }).wake 4
    else ({ s1 with ret := { s1.ret with wakeSrc := 4 } }).beginStart 7

/-- An edge of RST_N that is a chatter fault: the input reads asserted until it recovers (R69, R511). -/
def State.resetChatter (s : State) : State :=
  let s1 := { s with ret := { s.ret with rstChatter := true } }
  if s1.pins.rstAt.isSome then s1 else s1.resetAsserted

/-- RST_N_ASSERT: a level that persists for the filter's minimum width; the actions are complete within 20 µs. -/
def execRstNAssert (held : Nat) (s : State) : Host.Outcome State Fault Refusal :=
  next <|
    if s.pins.vaon = false then s
    else match s.edge 8 true held with
    | (.ignored, s1) => s1
    | (.accepted, s1) => (s1.elapse (s1.minPw 8)).resetAsserted
    | (.chatter, s1) => s1.resetChatter

/-- RST_N_RELEASE. -/
def execRstNRelease (held : Nat) (s : State) : Host.Outcome State Fault Refusal :=
  next <|
    if s.pins.vaon = false then s
    else match s.edge 8 false held with
    | (.ignored, s1) => s1
    | (.accepted, s1) => (s1.elapse (s1.minPw 8)).resetReleased
    | (.chatter, s1) => s1.resetChatter

end Sys2Proof.Machine
end

