-- ==== Sys2Proof/Machine/Thermal.lean ====
section
/-!
DEFINITION. The thermal unit (chapter 23): readings, die states, throttling, shut-down, the hardware trip.
-/

namespace Sys2Proof.Machine

/-! ### Thresholds and sensors (R481 to R484) -/

/-- Sensors of a die: 0 E-die, 1 P-die (R481). -/
def dieSensors (die : Nat) : List Nat := if die = 0 then List.range 64 else (List.range 32).map (· + 64)

/-- Threshold in force of a die in 0.5 °C units: 0 warn, 1 throttle, 2 shut-down. -/
def State.thmThr (s : State) (die k : Nat) : Nat :=
  match die, k with
  | 0, 0 => s.fld Reg.THM_THR_E0_WARN
  | 0, 1 => s.fld Reg.THM_THR_E0_THROTTLE
  | 0, _ => s.fld Reg.THM_THR_E1_SHUTDOWN
  | _, 0 => s.fld Reg.THM_THR_P0_WARN
  | _, 1 => s.fld Reg.THM_THR_P0_THROTTLE
  | _, _ => s.fld Reg.THM_THR_P1_SHUTDOWN

/-- Trip level of a die in 0.5 °C units (Table 23.1). -/
def tripLevel (die : Nat) : Nat := if die = 0 then 240 else 200

/-- Converter pair that reads a sensor (R223). -/
def sensorPair (n : Nat) : Nat := (if n < 64 then n / 4 else 16 + (n - 64) / 4) / 2

/-- One sensor. -/
def State.sensor (s : State) (n : Nat) : Sensor := tget {} s.thm.sensors n

/-- One sensor's reading, taken from its housekeeping value (R483). -/
def State.readSensor (s : State) (n : Nat) : State :=
  let h := tget {} s.adc.hk n
  let ok := h.valid && decide (-4000 ≤ h.value ∧ h.value ≤ 15000)
  let x := s.sensor n
  let y : Sensor :=
    if ok then { x with value := h.value, valid := true, flagged := h.flagged, badRun := 0, goodRun := min (x.goodRun + 1) 8 }
    else { x with valid := false, flagged := h.flagged, badRun := min (x.badRun + 1) 8, goodRun := 0 }
  let z : Sensor := { y with fault := if x.fault then decide (y.goodRun < 8) else decide (8 ≤ y.badRun) }
  let s1 := { s with thm := { s.thm with sensors := tset {} s.thm.sensors n z } }
  if z.fault = x.fault then s1 else s1.raiseLim 0x0405 n [(1, n), (1, ofBool z.fault)]

/-- Sensors of a die that take part in thresholds now: index, value, flagged. -/
def State.usable (s : State) (die : Nat) : List (Nat × Int × Bool) :=
  (dieSensors die).filterMap (fun n =>
    let x := s.sensor n
    if x.valid ∧ x.fault = false then some (n, x.value, x.flagged) else none)

/-- The hottest of a list of sensors, the lowest number of equals. -/
def hottest (l : List (Nat × Int × Bool)) : Option (Nat × Int) :=
  l.foldl (fun m e => match m with
    | some (n, v) => if e.2.1 > v then some (e.1, e.2.1) else some (n, v)
    | none => some (e.1, e.2.1)) none

/-- The sensors that shut a die down (R486): unflagged ones at the threshold, or flagged ones of two converter pairs. -/
def State.shutSensors (s : State) (die : Nat) : List (Nat × Int × Bool) :=
  let over_ := (s.usable die).filter (fun e => decide ((s.thmThr die 2 : Int) * 50 ≤ e.2.1))
  let plain := over_.filter (fun e => !e.2.2)
  let marked := over_.filter (fun e => e.2.2)
  if plain ≠ [] then plain
  else if marked.any (fun a => marked.any (fun b => sensorPair a.1 != sensorPair b.1)) then marked
  else []

/-! ### Die states (R485) -/

/-- State of a die. -/
def State.dieState (s : State) (die : Nat) : Nat := if die = 0 then s.thm.eState else s.thm.pState
def State.setDieState (s : State) (die st : Nat) : State :=
  if die = 0 then { s with thm := { s.thm with eState := st } } else { s with thm := { s.thm with pState := st } }

/-- Clock since which a die has been cool enough to fall by a step. -/
def State.coolSince (s : State) (die : Nat) : Option Nat := if die = 0 then s.thm.eBelow else s.thm.pBelow
def State.setCoolSince (s : State) (die : Nat) (t : Option Nat) : State :=
  if die = 0 then { s with thm := { s.thm with eBelow := t } } else { s with thm := { s.thm with pBelow := t } }

/-- The packet clocks are throttled while a die is in throttle or above, or FORCE_THROTTLE is set (R487). -/
def State.throttleUpdate (s : State) : State :=
  { s with thm := { s.thm with
    throttling := decide (2 ≤ s.thm.eState) || decide (2 ≤ s.thm.pState) || s.flag Reg.THM_CTL_FORCE_THROTTLE } }

/-- A die rises to a state of at most throttle by a reading: the event of each threshold passed. -/
def State.dieRises (s : State) (die level n : Nat) (v : Int) : State :=
  let st := s.dieState die
  let told := s.each ([1, 2].filter (fun k => decide (st < k ∧ k ≤ level)))
    (fun s k => s.raise (0x0400 + k) [(1, die), (1, n), (2, unsigned 16 v)])
  (told.setDieState die (max st level)).setCoolSince die none

/-- A die in warn or throttle after a reading that raises it no further: it falls a step after 100 ms of readings at least
3 °C below. -/
def State.dieCools (s : State) (die : Nat) (v : Int) : State :=
  let st := s.dieState die
  let below (k : Nat) : Bool := decide (v ≤ (s.thmThr die (k - 1) : Int) * 50 - 300)
  if below st = false then s.setCoolSince die none
  else match s.coolSince die with
  | none => s.setCoolSince die (some s.clk)
  | some t =>
    if s.clk < t + 100000000 then s
    else
      let s1 := (s.setDieState die (st - 1)).setCoolSince die (if st = 2 ∧ below 1 = true then some s.clk else none)
      s1.raise (if st = 2 then 0x0403 else 0x0406) [(1, die)]

/-- A die's state after a reading. -/
def State.judgeDie (s : State) (die : Nat) : State :=
  match hottest (s.usable die) with
  | none => s.setCoolSince die none
  | some (n, v) =>
    let level := if (s.thmThr die 1 : Int) * 50 ≤ v then 2 else if (s.thmThr die 0 : Int) * 50 ≤ v then 1 else 0
    let s1 :=
      if die = 0 then { s with thm := { s.thm with eMax := v, eSrc := n } }
      else { s with thm := { s.thm with pMax := v, pSrc := n - 64 } }
    let st := s1.dieState die
    let s2 :=
      if s1.dieState die < level then s1.dieRises die level n v
      else if st = 1 ∨ st = 2 then s1.dieCools die v else s1
    if s2.shutSensors die ≠ [] then s2.setDieState die (max (s2.dieState die) 3) else s2

/-! ### Shut-down (R488 to R490) -/

/-- What a shut-down ends before it begins (R39, R73, R100, R136, R153, R258, R474). -/
def State.shutdownPreempts (s : State) : State :=
  let s1 := (((s.endPendingMode St.preempted).endApply).endCalRun.safStop 3 St.preempted).endLaserSet St.preempted
  let s2 := ({ s1 with pwr := { s1.pwr with cmd := none } }).completeOpt s1.pwr.cmd St.preempted
  { s2 with pwr := { s2.pwr with target := s2.pwr.state, rung := none } }

/-- Step 1 of a shut-down. -/
def State.shutdownStep1 (s : State) : State :=
  let s1 := s.shutdownPreempts
  let s2 :=
    if s1.mode.mode = .bootstrap then { s1.toSafe with start := s1.start.abandoned }
    else if s1.mode.mode = .safe then s1.enterSafe
    else s1.enterMode .safe 4
  { s2 with
    mode := { s2.mode with drainEnd := none, darkNext := false }
    tm := { withdrawn := s2.tm.withdrawn } }

/-- A shut-down begins; one that runs already takes the further dies only. -/
def State.beginShutdown (s : State) (cause dies sensor temp thr : Nat) : State :=
  match s.thm.shutdown with
  | some d => { s with thm := { s.thm with shutdown := some { d with dies := d.dies ||| dies } } }
  | none =>
    let d : Shutdown := {
      at_ := s.clk, cause := cause, dies := dies, sensor := sensor, temp := temp, threshold := thr
      mode := s.mode.mode.code, power := s.pwr.state, time := shortStamp s.time.now
      frames := s.tm.frames.length, gen := s.canvasGen, recorded := false }
    let s1 := s.shutdownStep1.raise 0x0404 [(1, dies), (1, sensor), (2, temp)]
    { s1 with thm := { s1.thm with shutdown := some d } }

/-- The shut-down's record is committed to its slot (R489, Table 23.4). -/
def State.commitShutdown (s : State) (waited : Nat) : State :=
  match s.thm.shutdown with
  | some d =>
    let seq := s.nvm.recordTotal + 1
    let b := withMarker (shutdownBody seq d.cause d.dies d.sensor d.mode d.temp d.threshold d.power d.time
      s.cx.evtSeq d.frames d.gen waited) seq
    (s.addRecord b).recordSettled
  | none => s

/-! ### Readings (R482) -/

/-- Readings are taken: tails run. -/
def State.readingsRun (s : State) : Bool := s.pins.vaon && s.pins.rails && s.loops.counting

/-- The instant of the next reading; `none` where this period has none. -/
def State.readingAt (s : State) : Option Nat :=
  let compat := s.flag Reg.THM_CTL_SAMPLE_MODE
  if compat = false ∧ s.thm.fastUntil = none then some ((s.clk / 1000000 + 1) * 1000000)
  else
    let t := s.loops.periodAt + 124000
    if t ≤ s.thm.readAt ∨ (compat = true ∧ s.loops.period % 80 ≠ 0) then none else some t

/-- Some valid sensor lies within 5 °C below a threshold of its die, or above one. -/
def State.nearThreshold (s : State) : Bool :=
  [0, 1].any (fun die => (dieSensors die).any (fun n =>
    (s.sensor n).valid && [0, 1, 2].any (fun k => decide ((s.thmThr die k : Int) * 50 - 500 ≤ (s.sensor n).value))))

/-- FAST is entered, kept or left (R482). -/
def State.fastUpdate (s : State) : State :=
  let f : Option Nat :=
    if s.flag Reg.THM_CTL_SAMPLE_MODE = true then none
    else if s.nearThreshold = true then some (s.clk + 100000000)
    else match s.thm.fastUntil with
    | some t => if t ≤ s.clk then none else some t
    | none => none
  { s with thm := { s.thm with fastUntil := f } }

/-- One reading. -/
def State.takeReading (s : State) : State :=
  let s1 := { s.each (List.range 96) State.readSensor with thm := { (s.each (List.range 96) State.readSensor).thm with readAt := s.clk } }
  let s2 := ((s1.judgeDie 0).judgeDie 1).fastUpdate.throttleUpdate
  let e := s2.shutSensors 0
  let p := s2.shutSensors 1
  let dies := ofBool (decide (e ≠ [])) + 2 * ofBool (decide (p ≠ []))
  match hottest (if e ≠ [] then e else p) with
  | some (n, v) => s2.beginShutdown 1 dies n (unsigned 16 v) (s2.thmThr (if e ≠ [] then 0 else 1) 2)
  | none => s2

/-- THERMAL_READING. -/
def execThermalReading (s : State) : Host.Outcome State Fault Refusal :=
  next <|
    if s.readingsRun = false then s
    else match s.readingAt with
    | some t => (s.waitClk t).takeReading
    | none => s

/-! ### The record and L5 -/

/-- SHUTDOWN_RECORD_WRITE (R489): the page program in progress has ended, and the record is programmed. -/
def execShutdownRecordWrite (waitedUs : Nat) (s : State) : Host.Outcome State Fault Refusal :=
  next <| match s.thm.shutdown with
  | some d =>
    if d.recorded then s
    else
      let s1 := match s.nvm.jobs with
        | j :: rest => ({ s with nvm := { s.nvm with jobs := rest, retried := false } }).programmed j
        | [] => s
      let waited := if s.nvm.jobs = [] then 0 else min waitedUs 65535
      ((s1.elapse (waited * 1000)).commitShutdown waited).elapse 50000
  | none => s

/-- The module is in L5 after a shut-down: link down, everything but the always-on domain off, staged records lost. -/
def State.shutdownToL5 (s : State) : State :=
  let s1 := (s.linkLost_.toSlowClock.photonicOff.iklOff).toSafe
  { s1 with
    pwr := { s1.pwr with state := 5, target := 5, rung := none, keeping := false, keepAt := none }
    store := {}
    dac := { s1.dac with htrOut := [], htrTarget := [] }
    obs := { s1.obs with staged := [] }
    nvm := { s1.nvm with jobs := [], retried := false, torn := (s1.nvm.jobs.head?).map FlashJob.region }
    ret := { s1.ret with thermalL5 := true }
    thm := { s1.thm with shutdown := none, fastUntil := none } }

/-- SHUTDOWN_COMPLETE (R488): the record committed or abandoned, the heaters at their safe codes. -/
def execShutdownComplete (s : State) : Host.Outcome State Fault Refusal :=
  next <| match s.thm.shutdown with
  | some d => if d.recorded then (s.waitClk (d.at_ + 260000)).shutdownToL5 else s
  | none => s

/-! ### The hardware trip (R490, R491) -/

/-- The trip is held in the retention register. -/
def State.recordTrip (s : State) (die : Nat) : State :=
  let first := decide (s.ret.tripDies = 0)
  { s with
    thm := { s.thm with tripN := setBit s.thm.tripN die true, restartE := s.thm.restartE && die != 0, restartP := s.thm.restartP && die != 1 }
    ret := { s.ret with
      tripDies := setBit s.ret.tripDies die true, tripUnrecorded := true
      tripMode := if first then s.mode.mode.code else s.ret.tripMode
      tripPower := if first then s.pwr.state else s.ret.tripPower } }

/-- The trip's record: at once with CAUSE 2 where the flash is idle and no record stands yet, else left to the retention
register. -/
def State.tripRecord (s : State) : State :=
  match s.thm.shutdown with
  | some d =>
    if d.recorded then s
    else if s.nvm.jobs ≠ [] then s.recordSettled
    else
      let d1 := { d with cause := 2, dies := s.ret.tripDies, sensor := 0xFF, temp := 0x8000, threshold := if bitAt s.ret.tripDies 0 then 240 else 200 }
      let s1 := ({ s with thm := { s.thm with shutdown := some d1 } }).commitShutdown 0
      { s1 with ret := { s1.ret with tripUnrecorded := false } }
  | none => s

/-- TRIP_COMPARATOR_FIRE. -/
def execTripComparatorFire (pDie : Bool) (s : State) : Host.Outcome State Fault Refusal :=
  next <|
    if s.pins.vaon = false then s
    else
      let die := ofBool pDie
      let s1 := ((s.recordTrip die).setDieState die 4).throttleUpdate
      if s1.pwr.state ≥ 4 ∨ s1.pins.rails = false then s1
      else (s1.beginShutdown 2 (2 ^ die) 0xFF 0x8000 (tripLevel die)).tripRecord

/-- TRIP_RESTART: the restart comparators as they read; THERM_TRIP_N is released once those of every tripped die read
true. -/
def execTripRestart (restartE restartP : Bool) (s : State) : Host.Outcome State Fault Refusal :=
  next <|
    if s.pins.vaon = false then s
    else
      let held := (bitAt s.thm.tripN 0 && !restartE) || (bitAt s.thm.tripN 1 && !restartP)
      { s with thm := { s.thm with
        restartE := restartE, restartP := restartP, tripN := if held then s.thm.tripN else 0 } }

end Sys2Proof.Machine
end

