-- ==== Sys2Proof/Machine/Pins.lean ====
section
/-!
DEFINITION. Supplies, reference clocks, the stuck and recovering inputs, SMBus and JTAG (chapters 02, 03, 20, 26).
-/

namespace Sys2Proof.Machine

/-! ### VAON and the main rails (R52, R57, R59, R530 to R532) -/

/-- A filter at its safe value, as its bank's supply rises (R511, Table 26.7). -/
def State.freshFilter (s : State) (n : Nat) : Filter := { active := n == 7 || n == 8, at_ := s.clk }

/-- Filters of a bank start at their safe values: inputs from `first` on, `n` of them. -/
def State.freshFilters (s : State) (first n : Nat) : State :=
  s.each (List.range n) (fun s i => s.setFilter (first + i) (s.freshFilter (first + i)))

/-- What a fall of VAON leaves: the flash, the fuses, the levels outside the module, and the model's own records. -/
def State.vaonLost (s : State) : State :=
  { pending := s.pending, clk := s.clk, freeCtr := s.freeCtr, readData := s.readData, out := s.out, host := s.host
    canvas := { slotA := s.canvas.slotA, slotB := s.canvas.slotB, keys := s.canvas.keys, arb := s.canvas.arb }
    pins := { rails := s.pins.rails, vhtr := s.pins.vhtr }
    nvm := {
      torn := (s.nvm.jobs.head?).map FlashJob.region, journalCount := s.nvm.journalCount
      journalWindow := s.nvm.journalWindow, journalSeq := s.nvm.journalSeq, records := s.nvm.records
      recordTotal := s.nvm.recordTotal, slots := s.nvm.slots, erases := s.nvm.erases }
    mx := { stuckNvm := s.mx.stuckNvm, stuckRevNvm := s.mx.stuckRevNvm }
    cal := {
      imgNvm := s.cal.imgNvm, genNvm := s.cal.genNvm, trimsNvm := s.cal.trimsNvm
      quality := (s.cal.quality.map (fun e => (e.1, ({ ring := e.2.ring, index := e.2.index } : CellQuality)))).filter
        (fun e => e.2 != {}) }
    obs := { pages := s.obs.pages, pageCount := s.obs.pageCount }
    cx := { window := s.cx.window, perst := s.cx.perst } }

/-- VAON_RISE: a cold start with cause 0 begins; where VAON fell with another rail present, the module stays in reset
until a power cycle (R52). -/
def execVaonRise (s : State) : Host.Outcome State Fault Refusal :=
  next <|
    if s.pins.vaon then s
    else
      let s1 := ({ s with pins := { s.pins with vaon := true } }).freshFilters 0 14
      if s1.pins.rails then s1 else s1.beginStart 0

/-- VAON_FALL. -/
def execVaonFall (s : State) : Host.Outcome State Fault Refusal := next (if s.pins.vaon then s.vaonLost else s)

/-- MAIN_RAILS_RISE: a cold start with cause 1; it is a power cycle, and ends a halt (R72). -/
def execMainRailsRise (s : State) : Host.Outcome State Fault Refusal :=
  next <|
    if s.pins.vaon = false then s
    else
      let s1 := if s.start.state = 3 then s.clearFails else s
      let s2 := { s1 with
        pins := { s1.pins with rails := true, vhtr := true, rstAt := none, jtag := 1, extest := false }
        ret := { s1.ret with wakeSrc := 5 } }
      (s2.freshFilters 9 5).beginStart 1

/-- RAIL_UNDERVOLTAGE: a main rail below its limit for 10 µs acts as an assertion of RST_N and is recorded; every domain
but the always-on domain stays in reset until the rails rise (R532). -/
def execRailUndervoltage (rail : Fin 6) (heldNs : Nat) (s : State) : Host.Outcome State Fault Refusal :=
  next <|
    if s.pins.vaon = false ∨ s.pins.rails = false ∨ heldNs < 10000 then s
    else
      let s1 := (s.elapse 10000).resetAsserted
      { s1 with
        pins := { s1.pins with rails := false, rstAt := s.pins.rstAt }
        ret := { s1.ret with rail := some rail }
        start := { s1.start with railFail := true } }

/-- VHTR_REMOVED (R51). -/
def execVhtrRemoved (s : State) : Host.Outcome State Fault Refusal :=
  next <|
    if s.pins.vaon = false ∨ s.pins.vhtr = false then s
    else
      let s1 := { s with pins := { s.pins with vhtr := false } }
      if s1.htrSafe then s1
      else
        let s2 := s1.raise 0x0304 [(1, 5), (1, s1.pwr.state)]
        if s2.mode.mode = .bootstrap then s2 else s2.autoMode .safe 7

/-- VSRAM_LOW (R60). -/
def execVsramLow (s : State) : Host.Outcome State Fault Refusal :=
  next (if s.pins.vaon then { s with store := {} } else s)

/-! ### Reference clocks (R53, R533) -/

/-- A reference is good: present and within ±100 ppm. -/
def refGood (ppm : Option Int) : Bool :=
  match ppm with
  | some p => decide (p.natAbs ≤ 100)
  | none => false

/-- The PLLs pass to a reference: 0 A, 1 B; reason 0 a bad reference, 1 PREFER. -/
def State.switchRef (s : State) (n reason : Nat) : State :=
  let s1 := { s with ref := { s.ref with selB := n == 1, holdover := false } }
  (s1.setFld Reg.PWR_CLK_SWITCHED 1).raise 0x0301 [(1, n), (1, reason)]

/-- What the PLLs make of a check. -/
def State.refAct (s : State) : State :=
  let good (n : Nat) : Bool := if n = 0 then s.ref.refAOk else s.ref.refBOk
  let sel := ofBool s.ref.selB
  let want := s.fld Reg.PWR_CLK_PREFER
  if good 0 = false ∧ good 1 = false then
    if s.ref.holdover then s
    else
      let s1 := ({ s with ref := { s.ref with holdover := true } }).setUnset
      (s1.raise 0x0302 [(1, sel)]).exclusionCheck none
  else if good sel = false then s.switchRef (1 - sel) 0
  else if want ≠ sel ∧ good want = true then s.switchRef want 1
  else { s with ref := { s.ref with holdover := false } }

/-- REFCLK_CHECK: the next 1 ms check. In L4 and L5 and without the main rails no PLL follows it. -/
def execRefclkCheck (ppmA ppmB : Option Int) (s : State) : Host.Outcome State Fault Refusal :=
  next <|
    if s.pins.vaon = false then s
    else
      let s1 := s.waitClk ((s.clk / 1000000 + 1) * 1000000)
      let s2 := { s1 with ref := { s1.ref with refAOk := refGood ppmA, refBOk := refGood ppmB } }
      if s2.pwr.state ≥ 4 ∨ s2.pins.rails = false then
        { s2 with ref := { s2.ref with holdover := !s2.ref.refAOk && !s2.ref.refBOk } }
      else s2.refAct

/-! ### Stuck inputs and recoveries (R511) -/

/-- An input of the time unit as its events number it: TRIG_IN 0 to 3, PPS_IN 4. -/
def timeInput (n : Nat) : Nat := if n = 9 then 4 else n - 10

/-- INPUT_STUCK_TIMEOUT. -/
def execInputStuckTimeout (input : Fin 14) (s : State) : Host.Outcome State Fault Refusal :=
  next <|
    let n := input.val
    let f := s.filter n
    match s.maxAct n with
    | none => s
    | some t =>
      if s.pins.vaon = false ∨ f.active = false ∨ f.faulted = true then s
      else
        let s1 := s.waitClk (f.at_ + t)
        if n = 8 then { s1 with ret := { s1.ret with rstStuck := true, stuckPending := true } }
        else if n = 2 then s1.resetFaultNow
        else
          let s2 := s1.setFilter n { f with faulted := true }
          if n = 7 then s2.clrInputFault 0 else s2.raiseLim 0x0708 (if n = 9 then 9 else n - 10) [(1, timeInput n), (1, 0)]

/-- INPUT_RECOVERY: a faulted input has been inactive and quiet for its recovery time. -/
def execInputRecovery (input : Fin 14) (s : State) : Host.Outcome State Fault Refusal :=
  next <|
    let n := input.val
    let f := s.filter n
    if s.pins.vaon = false ∨ f.active = true ∨ f.faulted = false then s
    else
      let s1 := s.waitClk (s.recoveryAt n)
      let s2 := s1.setFilter n { f with faulted := false }
      if n ≤ 1 then s2.guardUpdate
      else if n = 2 then { s2 with saf := { s2.saf with resetRecovery := false } }
      else if n = 7 then { s2 with dac := { s2.dac with clrFault := false } }.dacRelease
      else if n = 8 then s2.resetReleased
      else s2

/-! ### SMBus (R450, R516) -/

/-- A block read that the responder answers. -/
def State.smbusReply (s : State) (b : Bytes) : State := if s.pins.vaon then s.emit (.smbus b) else s

/-- State byte of a die: 4 where every sensor of it is at FAULT (R483); bit 7 marks values not read now. -/
def State.dieByte (s : State) (die : Nat) : Nat :=
  (if (dieSensors die).all (fun n => (s.sensor n).fault) then 4 else s.dieState die)
    + (if s.pwr.state ≥ 4 then 128 else 0)

/-- The 8 bytes of code 0x02. -/
def State.thermalBytes (s : State) : Bytes :=
  leBytes 2 (unsigned 16 s.thm.eMax) ++ leBytes 2 (unsigned 16 s.thm.pMax) ++ leBytes 1 (s.dieByte 0)
    ++ leBytes 1 (s.dieByte 1) ++ zeros 2

/-- SMBUS_IDENT_READ. -/
def execSmbusIdentRead (s : State) : Host.Outcome State Fault Refusal :=
  next (s.smbusReply (leBytes 4 identWord ++ leBytes 4 fwWord))

/-- SMBUS_THERMAL_READ. -/
def execSmbusThermalRead (s : State) : Host.Outcome State Fault Refusal := next (s.smbusReply s.thermalBytes)

/-- SMBUS_SAFETY_READ. -/
def execSmbusSafetyRead (s : State) : Host.Outcome State Fault Refusal := next (s.smbusReply s.safetyBytes)

/-- SMBUS_STATUS_READ. -/
def execSmbusStatusRead (s : State) : Host.Outcome State Fault Refusal :=
  next (s.smbusReply (leBytes 1 s.pwr.state ++ leBytes 1 s.mode.mode.code ++ leBytes 1 s.start.step
    ++ leBytes 1 s.ret.failCode))

/-- SMBUS_WAKE (R49): ignored but for 0xA5 in L4 and L5. -/
def execSmbusWake (value : Byte) (s : State) : Host.Outcome State Fault Refusal :=
  next <|
    if s.pins.vaon = false ∨ s.pins.rails = false ∨ value ≠ 0xA5 ∨ s.pwr.state < 4 then s else s.wake 2

/-! ### JTAG (R547) -/

/-- A JTAG instruction comes into force; the port works while VIO is present (R535). -/
def State.jtagTake (s : State) (n : Nat) (drives : Bool) : State :=
  if s.pins.rails then { s with pins := { s.pins with jtag := n, extest := drives } } else s

/-- IDCODE. -/
def idcode : Word := 0x151200A7

def execJtagBypass (s : State) : Host.Outcome State Fault Refusal := next (s.jtagTake 0 false)
def execJtagIdcode (s : State) : Host.Outcome State Fault Refusal :=
  next (if s.pins.rails then (s.jtagTake 1 false).emit (.jtag idcode) else s)
def execJtagSamplePreload (s : State) : Host.Outcome State Fault Refusal := next (s.jtagTake 2 false)
def execJtagExtest (s : State) : Host.Outcome State Fault Refusal := next (s.jtagTake 3 true)
def execJtagExtestPulse (s : State) : Host.Outcome State Fault Refusal := next (s.jtagTake 4 true)
def execJtagExtestTrain (s : State) : Host.Outcome State Fault Refusal := next (s.jtagTake 5 true)

end Sys2Proof.Machine
end

