-- ==== Sys2Proof/Machine/Cx.lean ====
section
/-!
DEFINITION. The command exchange (chapter 20): the command catalogue, consumption of entries, duplicates, doorbells, ring
control, coalescing, progress, and the events of the host link.
-/

namespace Sys2Proof.Machine

/-! ### The layout of parameters (Table 20.6, R432) -/

/-- A parameter: offset, bytes, the bits that the catalogue assigns (0 for all of them), and whether it is an address. -/
structure Param where
  off : Nat
  len : Nat
  mask : Nat := 0
  addr : Bool := false

def param (off len : Nat) : Param := { off := off, len := len }
def paramBits (off len mask : Nat) : Param := { off := off, len := len, mask := mask }
def paramAddr (off : Nat) : Param := { off := off, len := 8, addr := true }

/-- Parameters of the general commands, 0x00xx and 0x01xx. -/
def layoutGen (op : Nat) : Option (List Param) :=
  match op with
  | 0x0000 | 0x0007 => some []
  | 0x0001 => some [param 0 1, param 2 2]
  | 0x0002 | 0x0003 | 0x0008 => some [param 0 1]
  | 0x0004 => some [paramAddr 0, param 8 4, paramBits 12 1 1]
  | 0x0005 => some [paramAddr 0, param 8 4, param 12 4, paramBits 16 1 1]
  | 0x0006 => some [param 0 8]
  | 0x0009 => some [param 0 4, param 4 4, paramAddr 8]
  | 0x0100 => some [paramAddr 0]
  | _ => none

/-- Parameters of the commands 0x05xx to 0x0Axx. -/
def layoutMid (op : Nat) : Option (List Param) :=
  match op with
  | 0x0501 => some [param 0 1]
  | 0x0601 => some [param 0 2, paramAddr 8]
  | 0x0701 => some [param 0 8, param 8 8]
  | 0x0702 => some [param 0 2, param 8 8]
  | 0x0703 => some [paramBits 0 8 (2 ^ 48 - 1), param 8 4, param 12 2, param 16 8]
  | 0x0801 => some [param 0 4, param 8 8]
  | 0x0802 | 0x0902 => some []
  | 0x0803 => some [paramAddr 0, param 8 4]
  | 0x0804 => some [paramAddr 0, param 8 2, param 10 2, param 12 2]
  | 0x0901 => some [param 0 1]
  | 0x0A01 => some [param 0 1, param 1 1, param 2 1, paramBits 3 1 1]
  | 0x0A02 => some [param 0 2, paramAddr 8]
  | _ => none

/-- Parameters of the Palette's and the Orbits' commands. -/
def layoutLight (op : Nat) : Option (List Param) :=
  match op with
  | 0x0E01 => some [param 0 2, paramBits 2 1 1, param 4 4, paramAddr 8, paramAddr 16, paramAddr 24]
  | 0x0E02 => some [param 0 2, paramAddr 8, paramAddr 16]
  | 0x0E03 | 0x0E07 => some [param 0 2]
  | 0x0E04 => some [param 0 2, paramAddr 8]
  | 0x0E05 => some [param 0 2, param 8 8]
  | 0x0E06 => some [param 0 2, param 2 1]
  | 0x0F01 => some [paramAddr 0, param 8 4, param 12 4, paramAddr 16, param 24 1, param 28 4]
  | 0x0F02 => some [param 0 8]
  | 0x0F03 => some []
  | 0x0F04 => some [param 0 1, paramAddr 8, param 16 4]
  | _ => none

/-- Parameters of the packet side's commands. -/
def layoutPacket (op : Nat) : Option (List Param) :=
  match op with
  | 0x1201 | 0x1401 => some [paramAddr 0, param 8 2, paramBits 10 1 1]
  | 0x1202 | 0x1203 => some [paramAddr 0, param 8 2]
  | 0x1204 => some [param 0 2, param 2 2, paramAddr 8]
  | 0x1301 => some [param 0 6, param 6 2, paramAddr 8]
  | 0x1302 => some [param 0 4, param 4 2, param 6 2, param 8 2, param 10 1, paramBits 11 1 7, paramAddr 16]
  | 0x1303 => some [param 0 16, paramBits 16 1 3]
  | 0x1304 => some [param 0 6, param 6 2, paramBits 8 1 2]
  | 0x1305 => some [param 0 2, param 2 1, param 4 2, paramBits 6 1 3]
  | 0x1306 => some [param 0 2, paramBits 2 1 15, param 4 4, paramAddr 8]
  | 0x1307 => some [param 0 2, paramAddr 8]
  | 0x1402 => some [param 0 1, param 4 4, paramAddr 8, param 16 8]
  | 0x1403 => some [param 0 1]
  | 0x1601 => some [paramAddr 0, param 8 1, paramBits 9 1 1, paramAddr 16]
  | _ => none

/-- The parameters of an opcode; `none` for one that no chapter defines. -/
def layoutOf (op : Nat) : Option (List Param) :=
  if op < 0x0200 then layoutGen op else if op < 0x0E00 then layoutMid op else if op < 0x1000 then layoutLight op
  else layoutPacket op

/-- Bits of P that a parameter assigns. -/
def Param.bits (f : Param) : Nat := (if f.mask = 0 then 2 ^ (8 * f.len) - 1 else f.mask) * 2 ^ (8 * f.off)

/-- The parameter bytes of an entry keep R432 and R445: unassigned bits are 0, addresses 8-byte aligned. -/
def paramsOk (l : List Param) (p : Bytes) : Bool :=
  let used := l.foldl (fun n f => n ||| f.bits) 0
  clearBits (leNat (p.take 40)) used == 0 && l.all (fun f => !f.addr || leAt p f.off 8 % 8 == 0)

/-! ### NOP and CX_STATE (R445, R446) -/

/-- CX_NOP. -/
def execCxNop (tag : CmdTag) (s : State) : Host.Outcome State Fault Refusal :=
  let s1 := s.begin tag 0x0000
  next (s1.complete tag (if s1.started then St.ok else St.notStarted))

/-- The 144-byte record of CX_STATE. -/
def State.cxState (s : State) : Bytes :=
  leBytes 4 s.cx.window ++ leBytes 4 s.cx.evtSeq
    ++ (List.range 16).flatMap (fun r => leBytes 4 (s.ring r).cons ++ leBytes 4 (s.ring r).devSeq) ++ zeros 8

/-- CX_STATE_READ. -/
def execCxStateRead (tag : CmdTag) (outAddr : Nat) (s : State) : Host.Outcome State Fault Refusal :=
  next <| s.serve tag 0x0100 fun s => (s.outData tag outAddr s.cxState).completeWith tag St.ok [] true

/-! ### The catalogue (R445) -/

/-- The state that an outcome leaves. -/
def afterOf (s : State) (o : Host.Outcome State Fault Refusal) : State :=
  match o with
  | .next t => t
  | _ => s

/-- Host memory at an address, as the entry's fetch brings it. -/
def bufAt (e : CmdEntry) (a : Nat) : Option Bytes := (e.bufs.find? (fun b => b.1 == a)).map Prod.snd

/-- As `buf`, cut to a length; a length of 0 reads nothing. -/
def bufCut (e : CmdEntry) (a len : Nat) : Option Bytes := if len = 0 then some [] else (bufAt e a).map (·.take len)

/-- The general commands. -/
def State.runGen (s : State) (tag : CmdTag) (op : Nat) (p : Bytes) (e : CmdEntry) : State :=
  let n (o l : Nat) : Nat := leAt p o l
  let t (o : Nat) : TimeWord := BitVec.ofNat 64 (leAt p o 8)
  afterOf s <| match op with
  | 0x0000 => execCxNop tag s
  | 0x0001 => execSetMode tag (n 0 1) (n 2 2) s
  | 0x0002 => execSetPower tag (n 0 1) s
  | 0x0003 => execResetModule tag (n 0 1) s
  | 0x0004 => execLoadCanvas tag (bufAt e (n 0 8)) (n 8 4) (bitAt (n 12 1) 0) s
  | 0x0005 => execCanvasPrepare tag (bufAt e (n 0 8)) (n 8 4) (n 12 4) (bitAt (n 16 1) 0) s
  | 0x0006 => execCanvasCommit tag (t 0) s
  | 0x0007 => execCanvasAbort tag s
  | 0x0008 => execKeyRevoke tag (n 0 1) s
  | 0x0009 => execReadLog tag (n 0 4) (n 4 4) (n 8 8) s
  | _ => execCxStateRead tag (n 0 8) s

/-- The commands 0x05xx to 0x0Axx. -/
def State.runMid (s : State) (tag : CmdTag) (op : Nat) (p : Bytes) (e : CmdEntry) : State :=
  let n (o l : Nat) : Nat := leAt p o l
  let t (o : Nat) : TimeWord := BitVec.ofNat 64 (leAt p o 8)
  afterOf s <| match op with
  | 0x0501 => execSafLaserSet tag (n 0 1) s
  | 0x0601 => execShutdownRead tag (n 0 2) (n 8 8) s
  | 0x0701 => execTimeOffset tag (signed 64 (n 0 8)) (t 8) s
  | 0x0702 => execTimeConfirm tag (n 0 2) (t 8) s
  | 0x0703 => execTimeSet tag (n 0 8) (n 8 4) (n 12 2) (t 16) s
  | 0x0801 => execConjPropose tag (n 0 4) (t 8) s
  | 0x0802 => execConjAbort tag s
  | 0x0803 => execIklViewRead tag (n 0 8) (n 8 4) s
  | 0x0804 => execIklTunnelSend tag (bufAt e (n 0 8)) (n 8 2) (n 10 2) (n 12 2) s
  | 0x0901 => execCuRestore tag (n 0 1) s
  | 0x0902 => execCuSwitch tag s
  | 0x0A01 => execCalRun tag (n 0 1) (n 1 1) (n 2 1) (bitAt (n 3 1) 0) s
  | _ => execCalDriftRead tag (n 0 2) (n 8 8) s

/-- The Palette's and the Orbits' commands. -/
def State.runLight (s : State) (tag : CmdTag) (op : Nat) (p : Bytes) (e : CmdEntry) : State :=
  let n (o l : Nat) : Nat := leAt p o l
  let t (o : Nat) : TimeWord := BitVec.ofNat 64 (leAt p o 8)
  afterOf s <| match op with
  | 0x0E01 => execSwatchWrite tag (n 0 2) (bufAt e (n 8 8)) (n 4 4) (bufAt e (n 16 8)) (bitAt (n 2 1) 0) (n 24 8) s
  | 0x0E02 => execSwatchLoad tag (n 0 2) (bufAt e (n 8 8)) (bufAt e (n 16 8)) s
  | 0x0E03 => execSwatchInvalidate tag (n 0 2) s
  | 0x0E04 => execSwatchRead tag (n 0 2) (n 8 8) s
  | 0x0E05 => execSwatchApply tag (n 0 2) (t 8) s
  | 0x0E06 => execStuckAdd tag (n 0 2) (n 2 1) s
  | 0x0E07 => execStuckClear tag (n 0 2) s
  | 0x0F01 => execOrbitPrepare tag (bufCut e (n 0 8) (n 8 4)) (bufCut e (n 16 8) (n 12 4)) (decide (n 12 4 ≠ 0)) (n 24 1) (n 28 4) s
  | 0x0F02 => execOrbitCommit tag (t 0) s
  | 0x0F03 => execOrbitAbort tag s
  | _ => execOrbitRead tag (n 0 1) (n 8 8) (n 16 4) s

/-- The filter of FDB_NEXT. -/
def fdbFilterOf (p : Bytes) : FdbFilter :=
  let m := leAt p 8 2
  let k := byteAt p 11
  { fid := if leAt p 6 2 = 0 then none else some (leAt p 6 2)
    module := if bitAt m 15 then none else some m
    port := if bitAt k 0 then none else some (byteAt p 10)
    kind := bitsOf k 2 1 }

/-- The packet side's commands. -/
def State.runPacket (s : State) (tag : CmdTag) (op : Nat) (p : Bytes) (e : CmdEntry) : State :=
  let n (o l : Nat) : Nat := leAt p o l
  let t (o : Nat) : TimeWord := BitVec.ofNat 64 (leAt p o 8)
  let buf := bufAt e (n 0 8)
  afterOf s <| match op with
  | 0x1201 => execClsRuleWrite tag (n 8 2) (bitAt (n 10 1) 0) buf s
  | 0x1202 => execClsRuleDelete tag (n 8 2) buf s
  | 0x1203 => execClsRangeWrite tag (n 8 2) buf s
  | 0x1204 => execClsRuleRead tag (n 0 2) (n 2 2) (n 8 8) s
  | 0x1301 => execFdbSearch tag (n 0 6) (n 6 2) (n 8 8) s
  | 0x1302 => execFdbNext tag (n 0 4) (n 4 2) (n 16 8) (fdbFilterOf p) s
  | 0x1303 => execFdbInsert tag (t 0) (t 8) (bitAt (n 16 1) 0) (bitAt (n 16 1) 1) s
  | 0x1304 => execFdbDelete tag (n 0 6) (n 6 2) (bitAt (n 8 1) 1) s
  | 0x1305 =>
    execFdbFlushByPort tag (n 0 2) (n 2 1) (if n 4 2 = 0 then none else some (n 4 2)) (bitAt (n 6 1) 0) (bitAt (n 6 1) 1) s
  | 0x1306 => execFidWrite tag (n 0 2) (n 2 1) (n 4 4) (bufCut e (n 8 8) (4 * n 4 4)) s
  | 0x1307 => execFidRead tag (n 0 2) (n 8 8) s
  | 0x1401 => execPolWrite tag (n 8 2) (bitAt (n 10 1) 0) buf s
  | 0x1402 => execPortGateWrite tag (n 0 1) (n 4 4) (bufAt e (n 8 8)) (t 16) s
  | 0x1403 => execPortGateCancel tag (n 0 1) s
  | _ => execCntSnapshot tag buf (n 8 1) (bitAt (n 9 1) 0) (n 16 8) s

/-- A consumed command is carried out: an unknown opcode, reserved flags, the boot gate, the parameters' form, then the
command itself (R66, R432, R445). -/
def State.runEntry (s : State) (tag : CmdTag) (raw : Bytes) (e : CmdEntry) : State :=
  let op := leAt raw 4 2
  let p := slice raw 0x18 40
  match layoutOf op with
  | none => (s.begin tag op).complete tag St.badOpcode
  | some l =>
    if 1 < leAt raw 6 2 then (s.begin tag op).complete tag St.badParam
    else match (if op = 0 then none else s.gate op) with
    | some st => (s.begin tag op).complete tag st
    | none =>
      if paramsOk l p = false then (s.begin tag op).complete tag St.badParam
      else if op < 0x0200 then s.runGen tag op p e
      else if op < 0x0E00 then s.runMid tag op p e
      else if op < 0x1000 then s.runLight tag op p e
      else s.runPacket tag op p e

/-! ### Consumption (R433, R434, R436, R437) -/

/-- Completions produced and not yet consumed by the host, and commands in progress. -/
def State.ringLoad (s : State) (r : Nat) : Nat :=
  (s.ring r).running.length + seqDiff (s.ring r).devSeq (s.ring r).cqDb

/-- The ring may consume: enabled, with the host reached, not in ERROR, not full. -/
def State.ringConsumes (s : State) (r : Nat) : Bool :=
  s.flag Reg.CX_CTL_EN && s.flag (Reg.CX_RING_CTL_EN r) && s.dmaOk && !(s.ring r).error && decide (s.ringLoad r < 4096)

/-- A repeated request: what the window holds, or IN_PROGRESS (R437). -/
def State.duplicate (s : State) (r reqId : Nat) : Option (Nat × Bytes) :=
  if reqId = 0 then none
  else match (s.ring r).window.find? (fun d => d.reqId == reqId) with
  | some d => some (d.status, d.detail)
  | none =>
    if (s.ring r).running.any (fun p => p.tag.reqId == reqId) then some (St.inProgress, zeros 8) else none

/-- A ring stops on an entry that cannot be consumed. -/
def State.ringStop (s : State) (r : Nat) (f : Nat × Nat) : State :=
  let g := s.ring r
  (s.setRing r { g with error := true, fetched := [] }).ringFault r (seqNext g.cons) f

/-- The entry is consumed: executed, or answered as a duplicate. -/
def State.accept (s : State) (r : Fin 16) (raw : Bytes) (e : CmdEntry) : State :=
  let g := s.ring r
  let s1 := s.setRing r { g with cons := seqNext g.cons, fetched := g.fetched.drop 1 }
  let tag : CmdTag := ⟨r, leAt raw 0 4, leAt raw 8 8, leAt raw 0x10 8, e.writesOk⟩
  match s1.duplicate r tag.reqId with
  | some (st, d) => (s1.bump Reg.CX_ERR_DUP 1).postCompletion tag st 1 d
  | none => s1.runEntry tag raw e

/-- The next entry of a ring, where it can be consumed now; `none` where consumption waits. A FENCE waits for every earlier
command of its ring (R436). -/
def State.consumeOne (s : State) (r : Fin 16) : Option State :=
  let g := s.ring r
  if s.ringConsumes r = false ∨ g.cons = g.sqDb then none
  else match g.fetched with
  | [] => none
  | e :: _ => match e.raw with
    | none => some (s.ringStop r (0, 1))
    | some raw =>
      if leAt raw 0 4 ≠ seqNext g.cons then some (s.ringStop r (leAt raw 0 4, 0))
      else if bitAt (leAt raw 6 2) 0 = true ∧ g.running ≠ [] then none
      else some (s.accept r raw e)

/-- A ring consumes what it can, in order. -/
def State.consume (r : Fin 16) : Nat → State → State
  | 0, s => s
  | n + 1, s => match s.consumeOne r with
    | some t => consume r n t
    | none => s

/-- Every entry that has been fetched for a ring is consumed as far as it goes. -/
def State.ringRun (s : State) (r : Fin 16) : State := State.consume r (s.ring r).fetched.length s

/-- Completions held in the module go out in order, as far as the ring takes them (R430, R434). -/
def State.flushHeld (r : Nat) : List Completion → State → State
  | [], s => s.setRing r { s.ring r with held := [] }
  | c :: rest, s =>
    if s.ringTakes r c.devSeq then
      let base := s.fld (Reg.CX_RING_CQ_BASE_LO_BASE r) + 2 ^ 32 * s.fld (Reg.CX_RING_CQ_BASE_HI_BASE r)
      flushHeld r rest ((s.hostWrite (base + 32 * (c.devSeq % 4096)) c.entry).coalesce r)
    else s.setRing r { s.ring r with held := c :: rest }

/-- A ring goes on: held completions, then consumption. -/
def State.ringGo (s : State) (r : Fin 16) : State := (State.flushHeld r (s.ring r).held s).ringRun r

/-- Every ring goes on. -/
def State.ringsGo (s : State) : State := s.each (List.finRange 16) State.ringGo

/-- The doorbell value takes effect (R433). -/
def State.sqRing (s : State) (r : Fin 16) (value : Nat) (entries : List CmdEntry) : State :=
  let g := s.ring r
  if seqDiff value g.cons > 4096 then s.doorbellBad r value
  else (s.setRing r { g with sqDb := value, fetched := if g.error then [] else entries }).ringRun r

/-- SQ_DOORBELL: `entries` are what the module's fetches from CONS + 1 up to the value bring. -/
def execSqDoorbell (ring : Fin 16) (value : Word) (entries : List CmdEntry) (s : State) :
    Host.Outcome State Fault Refusal :=
  next (s.hostAct 0 fun s => s.sqRing ring value.toNat entries)

/-- CX_RINGn_CQ_DB is written. -/
def State.cqRing (s : State) (r : Fin 16) (value : Nat) : State :=
  (s.setRing r { s.ring r with cqDb := value }).ringGo r

/-- CQ_DOORBELL (R434). -/
def execCqDoorbell (ring : Fin 16) (value : Word) (s : State) : Host.Outcome State Fault Refusal :=
  next (s.hostAct 0 fun s => s.cqRing ring value.toNat)

/-- EN of a ring is set: it leaves ERROR and goes on (R433, R439). -/
def State.ringOn (s : State) (r : Fin 16) : State :=
  if s.flag (Reg.CX_RING_CTL_EN r) then s
  else ((s.setFld (Reg.CX_RING_CTL_EN r) 1).setRing r { s.ring r with error := false }).ringGo r

/-- RING_ENABLE. -/
def execRingEnable (ring : Fin 16) (s : State) : Host.Outcome State Fault Refusal :=
  next (s.hostAct 0 fun s => s.ringOn ring)

/-- RING_DISABLE: consumption stops at once; what is in progress goes on (R439). -/
def execRingDisable (ring : Fin 16) (s : State) : Host.Outcome State Fault Refusal :=
  next (s.hostAct 0 fun s => s.setFld (Reg.CX_RING_CTL_EN ring) 0)

/-- RESUME is written: a ring in ERROR reads its entry again (R433). -/
def State.ringAgain (s : State) (r : Fin 16) (entries : List CmdEntry) : State :=
  if (s.ring r).error then (s.setRing r { s.ring r with error := false, fetched := entries }).ringRun r else s

/-- RING_RESUME. -/
def execRingResume (ring : Fin 16) (entries : List CmdEntry) (s : State) : Host.Outcome State Fault Refusal :=
  next (s.hostAct 0 fun s => s.ringAgain ring entries)

/-- EVT_DOORBELL (R440). -/
def execEvtDoorbell (value : Word) (s : State) : Host.Outcome State Fault Refusal :=
  next (s.hostAct 0 fun s => { s with cx := { s.cx with evtDb := value.toNat } })

/-! ### Coalescing and progress (R429, R443) -/

/-- COAL_US of a source in ns. -/
def State.coalNs (s : State) (src : Nat) : Nat :=
  1000 * (if src < 16 then s.fld (Reg.CX_RING_CTL_COAL_US src)
    else if src = 16 then s.fld Reg.CX_EVT_CTL_COAL_US
    else if src < 32 then s.fld (Reg.CX_FQ_COAL_COAL_US (src - 24))
    else s.fld (Reg.CX_FQ_COAL_COAL_US (src - 32)))

/-- COALESCE_TIMEOUT: COAL_US after a source's first entry its vector is raised. -/
def execCoalesceTimeout (source : Nat) (s : State) : Host.Outcome State Fault Refusal :=
  next <|
    let c := tget {} s.cx.coal source
    if c.count = 0 then s
    else
      let s1 := s.waitClk (c.first + s.coalNs source)
      ({ s1 with cx := { s1.cx with coal := tset {} s1.cx.coal source {} } }).raiseVector (s1.coalOf source).2

/-- Percentage that a command reports: CAL_RUN's PROGRESS, which the spec leaves to the measurement; else 0xFF. -/
def State.percent (s : State) (op : Nat) : Nat :=
  if op = 0x0A01 then (Config.freeWord s.clk).toNat % 101 else 0xFF

/-- CX_PROGRESS: a command in progress for another second. -/
def execCxProgress (ring : Fin 16) (ringSeq : Nat) (s : State) : Host.Outcome State Fault Refusal :=
  next <|
    let g := s.ring ring
    match g.running.find? (fun p => p.tag.ringSeq == ringSeq) with
    | none => s
    | some p =>
      let s1 := s.waitClk (p.toldAt + 1000000000)
      let s2 := s1.setRing ring { g with
        running := g.running.map (fun q => if q.tag.ringSeq = ringSeq then { q with toldAt := s1.clk } else q) }
      s2.raise 0x0101 [(1, ring), (4, ringSeq), (8, p.tag.reqId), (1, s2.percent p.opcode)]

/-! ### The host link (R70, R427, R430) -/

/-- The module's registers are exposed: step 3 of the start in force has completed. -/
def State.exposed (s : State) : Bool := s.pins.vaon && s.pins.rails && decide (s.pwr.state ≤ 3 ∧ 4 ≤ s.start.step)

/-- The link comes up; the rings go on where they are enabled. -/
def State.linkBack (s : State) : State :=
  if s.exposed = false ∨ s.cx.perst = true ∨ s.cx.linkUp = true then s
  else
    let s1 := { s with cx := { s.cx with linkUp := true } }
    (((s1.freeMaster 2).freeMaster 3).freeMaster 4).ringsGo

/-- PERST_N_ASSERT. -/
def execPerstNAssert (s : State) : Host.Outcome State Fault Refusal :=
  next <|
    let s1 := { s with cx := { s.cx with perst := true } }
    if s.pwr.state ≤ 3 ∧ s.cx.linkUp = true then s1.linkLost_ else s1

/-- PERST_N_DEASSERT: the link comes back, or the module wakes (R49). -/
def execPerstNDeassert (s : State) : Host.Outcome State Fault Refusal :=
  next <|
    if s.cx.perst = false then s
    else
      let s1 := { s with cx := { s.cx with perst := false } }
      if s1.pins.vaon = false ∨ s1.pins.rails = false then s1
      else if 4 ≤ s1.pwr.state then s1.wake 3
      else s1.linkBack

/-- PCIE_FUNCTION_RESET: a function-level reset, after which the link is still up, or a link down. -/
def execPcieFunctionReset (linkDown : Bool) (s : State) : Host.Outcome State Fault Refusal :=
  next <|
    if s.cx.linkUp = false then s else if linkDown then s.linkLost_ else s.linkLost_.linkBack

/-- BUS_MASTER_ENABLE_CLEAR: as a link down, but the EN fields keep their values. -/
def execBusMasterEnableClear (s : State) : Host.Outcome State Fault Refusal :=
  next { s with cx := { s.cx with busMaster := false } }

/-- BUS_MASTER_ENABLE_SET: the host reaches the endpoint's configuration, so the link is up. -/
def execBusMasterEnableSet (s : State) : Host.Outcome State Fault Refusal :=
  next <|
    if s.exposed = false ∨ s.cx.perst = true then s
    else
      let s1 := s.linkBack
      ({ s1 with cx := { s1.cx with busMaster := true } }).ringsGo

/-- D3HOT_TRANSITION (R427): only DMA stops, and goes on. -/
def execD3hotTransition (into : Bool) (s : State) : Host.Outcome State Fault Refusal :=
  next <|
    let s1 := { s with cx := { s.cx with d3hot := into } }
    if into then s1 else s1.ringsGo

end Sys2Proof.Machine
end

