-- ==== Sys2Proof/Machine/Stroke.lean ====
section
/-!
DEFINITION. The Stroke instructions (Tables 9.5 to 9.9) but for CSTEP and those that use the bus.
-/

namespace Sys2Proof.Machine

/-! ### Control (Table 9.5) -/

/-- NOP. -/
def execNop (c : CoreRef) (s : State) : Host.Outcome State Fault Refusal := next (s.alu c id)

/-- HALT: the lane stops with fault code HALT. -/
def execHalt (c : CoreRef) (s : State) : Host.Outcome State Fault Refusal :=
  next (s.issue c .transfer .lanes fun _ _ => .trap .halt)

/-- A jump that takes effect after two delay slots. -/
def State.jumpSlots (s : State) (c : CoreRef) (w : Cores) (f : Core → Option Core) : State :=
  s.issue c .transfer w fun s x => match f x with
    | some y => .go y s
    | none => .trap .illegal

/-- BR cond, t; an untaken branch has its two slots too. -/
def execBr (c : CoreRef) (cond t : Nat) (s : State) : Host.Outcome State Fault Refusal :=
  next <| s.jumpSlots c .all fun x => match condHolds x.st cond with
    | some true => some (x.branchTo t none)
    | some false => some (x.branchTo (x.pc + 3) none)
    | none => none

/-- CALL t. -/
def execCall (c : CoreRef) (t : Nat) (s : State) : Host.Outcome State Fault Refusal :=
  next <| s.jumpSlots c .all fun x => some ({ x with lr := (x.pc + 3) % pcMod c }.branchTo t none)

/-- JR ra. -/
def execJr (c : CoreRef) (a : Fin 16) (s : State) : Host.Outcome State Fault Refusal :=
  next <| s.jumpSlots c .all fun x => some (x.branchTo (x.reg a).toNat none)

/-- RET. -/
def execRet (c : CoreRef) (s : State) : Host.Outcome State Fault Refusal :=
  next <| s.jumpSlots c .all fun x => some (x.branchTo x.lr none)

/-- RETI: PC and STATUS are restored after the two delay slots. -/
def execReti (c : CoreRef) (s : State) : Host.Outcome State Fault Refusal :=
  next <| s.jumpSlots c .lanes fun x => some (x.branchTo x.iret (some x.ifl))

/-- REPEAT and REPEATR: a level over the next `len` words (R212, R213). -/
def Core.beginRepeat (x : Core) (n len : Nat) (s : State) : Ran :=
  let lvl : RepLevel := { rs := x.pc + 1, re := x.pc + len, rc := n, act := true }
  if x.rep0.act then
    if x.rep1.act ∨ x.pc + len > x.rep0.re then .trap .illegal
    else if n = 0 then .jump x (x.pc + len + 1) s
    else .go { x with rep1 := lvl } s
  else if n = 0 then .jump x (x.pc + len + 1) s
  else .go { x with rep0 := lvl } s

def execRepeat (c : CoreRef) (n len : Nat) (s : State) : Host.Outcome State Fault Refusal :=
  next (s.issue c .noSlot .all fun s x => x.beginRepeat n len s)

def execRepeatr (c : CoreRef) (a : Fin 16) (len : Nat) (s : State) : Host.Outcome State Fault Refusal :=
  next (s.issue c .noSlot .all fun s x => x.beginRepeat (x.reg a).toNat len s)

/-- A core waits in place. -/
def Core.await (x : Core) (k : WaitKind) (clk : Nat) : Core := { x with run := .waiting, wait := k, waitAt := clk }

/-- WAITP; a lane asked to stop stops here (R216). -/
def execWaitp (c : CoreRef) (s : State) : Host.Outcome State Fault Refusal :=
  next <| s.issue c .transfer .lanes fun s x =>
    if x.stopAt.isSome then .stay { x with run := .stopped, wait := .period, stopAt := none } s
    else .stay (x.await .period s.clk) s

/-- End-of-period data are ready: PTIME has reached 121.8 µs of a period whose RECS is not zero (R214). -/
def State.endDataReady (s : State) (c : CoreRef) : Bool :=
  match c with
  | .lane n => decide (s.ptime ≥ 121800 ∧ s.recs n ≠ 0)
  | .sup _ => false

/-- WAITE. -/
def execWaite (c : CoreRef) (s : State) : Host.Outcome State Fault Refusal :=
  next <| s.issue c .transfer .lanes fun s x =>
    if s.endDataReady c then .go x s else .stay (x.await .endData s.clk) s

/-- The condition of WAITS: SRWC − ra ≥ n, unsigned. -/
def recordsReady (srwc base n : Nat) : Bool := decide (seqDiff srwc base ≥ n)

/-- WAITS ra, n. -/
def execWaits (c : CoreRef) (a : Fin 16) (n : Nat) (s : State) : Host.Outcome State Fault Refusal :=
  next <| s.issue c .transfer .lanes fun s x =>
    if recordsReady x.srwc (x.reg a).toNat n then .go x s
    else .stay (x.await (.records (x.reg a).toNat n) s.clk) s

/-- BKPT: a lane stops where BKPT_EN is set; a supervisor core takes the exception. -/
def execBkpt (c : CoreRef) (s : State) : Host.Outcome State Fault Refusal :=
  next <| s.issue c .plain .all fun s x =>
    if isLane c ∧ s.flag Reg.LE_LANE_CTL_BKPT_EN = false then .go x s else .trap .bkpt

/-! ### Register instructions (Table 9.6) -/

def execMov (c : CoreRef) (d a : Fin 16) (s : State) : Host.Outcome State Fault Refusal :=
  next (s.alu c fun x => x.setReg d (x.reg a))
def execLi (c : CoreRef) (d : Fin 16) (imm : Word) (s : State) : Host.Outcome State Fault Refusal :=
  next (s.alu c fun x => x.setReg d imm)
def execAdd (c : CoreRef) (d a b : Fin 16) (s : State) : Host.Outcome State Fault Refusal :=
  next (s.alu c fun x => x.putArith d ((x.reg a).toInt + (x.reg b).toInt))
def execAddi (c : CoreRef) (d a : Fin 16) (imm : Word) (s : State) : Host.Outcome State Fault Refusal :=
  next (s.alu c fun x => x.putArith d ((x.reg a).toInt + imm.toInt))
def execSub (c : CoreRef) (d a b : Fin 16) (s : State) : Host.Outcome State Fault Refusal :=
  next (s.alu c fun x => x.putArith d ((x.reg a).toInt - (x.reg b).toInt))
def execNeg (c : CoreRef) (d a : Fin 16) (s : State) : Host.Outcome State Fault Refusal :=
  next (s.alu c fun x => x.putArith d (-(x.reg a).toInt))
def execAbs (c : CoreRef) (d a : Fin 16) (s : State) : Host.Outcome State Fault Refusal :=
  next (s.alu c fun x => x.putArith d ((x.reg a).toInt.natAbs : Int))
def execMull (c : CoreRef) (d a b : Fin 16) (s : State) : Host.Outcome State Fault Refusal :=
  next (s.alu c fun x => x.putArith d ((x.reg a).toInt * (x.reg b).toInt))
def execAnd (c : CoreRef) (d a b : Fin 16) (s : State) : Host.Outcome State Fault Refusal :=
  next (s.alu c fun x => x.setReg d (x.reg a &&& x.reg b))
def execAndi (c : CoreRef) (d a : Fin 16) (imm : Word) (s : State) : Host.Outcome State Fault Refusal :=
  next (s.alu c fun x => x.setReg d (x.reg a &&& imm))
def execOr (c : CoreRef) (d a b : Fin 16) (s : State) : Host.Outcome State Fault Refusal :=
  next (s.alu c fun x => x.setReg d (x.reg a ||| x.reg b))
def execOri (c : CoreRef) (d a : Fin 16) (imm : Word) (s : State) : Host.Outcome State Fault Refusal :=
  next (s.alu c fun x => x.setReg d (x.reg a ||| imm))
def execXor (c : CoreRef) (d a b : Fin 16) (s : State) : Host.Outcome State Fault Refusal :=
  next (s.alu c fun x => x.setReg d (x.reg a ^^^ x.reg b))
def execXori (c : CoreRef) (d a : Fin 16) (imm : Word) (s : State) : Host.Outcome State Fault Refusal :=
  next (s.alu c fun x => x.setReg d (x.reg a ^^^ imm))

/-- SLL: OVS where the true product by 2^s does not fit (R207). -/
def execSll (c : CoreRef) (d a : Fin 16) (sh : Nat) (s : State) : Host.Outcome State Fault Refusal :=
  next (s.alu c fun x => x.putArith d ((x.reg a).toInt * 2 ^ (sh % 32)))
def execSrl (c : CoreRef) (d a : Fin 16) (sh : Nat) (s : State) : Host.Outcome State Fault Refusal :=
  next (s.alu c fun x => x.setReg d (x.reg a >>> (sh % 32)))
def execSra (c : CoreRef) (d a : Fin 16) (sh : Nat) (s : State) : Host.Outcome State Fault Refusal :=
  next (s.alu c fun x => x.setReg d ((x.reg a).sshiftRight (sh % 32)))
def execRsh (c : CoreRef) (d a : Fin 16) (sh : Nat) (s : State) : Host.Outcome State Fault Refusal :=
  next (s.alu c fun x => x.setReg d (BitVec.ofInt 32 (rsh (x.reg a).toInt (sh % 32))))

/-- An instruction one of whose results the spec does not state: that result is a free word. -/
def State.freeReg (s : State) (x : Core) (d : Fin 16) : Ran :=
  let (w, s1) := s.draw
  .go (x.setReg d w) s1

/-- SHV: rb[7:0] signed; an amount beyond ±31 has no stated result. -/
def execShv (c : CoreRef) (d a b : Fin 16) (s : State) : Host.Outcome State Fault Refusal :=
  next <| s.issue c .plain .all fun s x =>
    let n := signed 8 (x.reg b).toNat
    if n.natAbs > 31 then s.freeReg x d
    else if n ≥ 0 then .go (x.setReg d (BitVec.ofInt 32 (rsh (x.reg a).toInt n.toNat))) s
    else .go (x.putArith d ((x.reg a).toInt * 2 ^ n.natAbs)) s

def execCmp (c : CoreRef) (a b : Fin 16) (s : State) : Host.Outcome State Fault Refusal :=
  next (s.alu c fun x => { x with st := cmpFlags x.st (x.reg a) (x.reg b) })
def execCmpi (c : CoreRef) (a : Fin 16) (imm : Word) (s : State) : Host.Outcome State Fault Refusal :=
  next (s.alu c fun x => { x with st := cmpFlags x.st (x.reg a) imm })
def execTst (c : CoreRef) (a b : Fin 16) (s : State) : Host.Outcome State Fault Refusal :=
  next (s.alu c fun x => { x with st := tstFlags x.st (x.reg a) (x.reg b) })
def execMin (c : CoreRef) (d a b : Fin 16) (s : State) : Host.Outcome State Fault Refusal :=
  next (s.alu c fun x => x.setReg d (if (x.reg a).toInt ≤ (x.reg b).toInt then x.reg a else x.reg b))
def execMax (c : CoreRef) (d a b : Fin 16) (s : State) : Host.Outcome State Fault Refusal :=
  next (s.alu c fun x => x.setReg d (if (x.reg a).toInt ≤ (x.reg b).toInt then x.reg b else x.reg a))

/-- CLAMP: ra limited to −m to m, m = rb[30:0]. -/
def execClamp (c : CoreRef) (d a b : Fin 16) (s : State) : Host.Outcome State Fault Refusal :=
  next (s.alu c fun x =>
    let m : Int := ((x.reg b).toNat % 2 ^ 31 : Nat)
    x.setReg d (BitVec.ofInt 32 (clampInt (x.reg a).toInt (-m) m)))

def execSel (c : CoreRef) (d a b : Fin 16) (cond : Nat) (s : State) : Host.Outcome State Fault Refusal :=
  next <| s.issue c .plain .all fun s x => match condHolds x.st cond with
    | some t => .go (x.setReg d (if t then x.reg a else x.reg b)) s
    | none => .trap .illegal

/-- Leading zeros of a word. -/
def clz (w : Nat) (n : Nat) : Nat := if n = 0 then w else w - 1 - Nat.log2 n

def execClz (c : CoreRef) (d a : Fin 16) (s : State) : Host.Outcome State Fault Refusal :=
  next (s.alu c fun x => x.setReg d (BitVec.ofNat 32 (clz 32 (x.reg a).toNat)))

/-- A field of a word that the spec states: 1 to 32 bits that lie within the word. -/
def fieldOk (lsb w : Nat) : Bool := decide (1 ≤ w ∧ lsb + w ≤ 32)

def execExt (c : CoreRef) (d a : Fin 16) (lsb w : Nat) (s : State) : Host.Outcome State Fault Refusal :=
  next <| s.issue c .plain .all fun s x =>
    if fieldOk lsb w then .go (x.setReg d (BitVec.ofNat 32 ((x.reg a).toNat / 2 ^ lsb % 2 ^ w))) s
    else s.freeReg x d

def execExts (c : CoreRef) (d a : Fin 16) (lsb w : Nat) (s : State) : Host.Outcome State Fault Refusal :=
  next <| s.issue c .plain .all fun s x =>
    if fieldOk lsb w then .go (x.setReg d (BitVec.ofInt 32 (signed w ((x.reg a).toNat / 2 ^ lsb)))) s
    else s.freeReg x d

def execIns (c : CoreRef) (d a : Fin 16) (lsb w : Nat) (s : State) : Host.Outcome State Fault Refusal :=
  next <| s.issue c .plain .all fun s x =>
    if fieldOk lsb w then
      .go (x.setReg d (BitVec.ofNat 32 (putBits (x.reg d).toNat (lsb + w - 1) lsb (x.reg a).toNat))) s
    else s.freeReg x d

/-! ### Accumulators (Table 9.7) -/

/-- Product of two registers. -/
def Core.prod (x : Core) (a b : Fin 16) : Int := (x.reg a).toInt * (x.reg b).toInt

/-- A product shifted by byte `k` of a register, of which the low six bits count. -/
def Core.shProd (x : Core) (a b cc : Fin 16) (k : Fin 4) : Int :=
  rsh (x.prod a b) ((x.reg cc).toNat / 2 ^ (8 * k.val) % 64)

def execMpa (c : CoreRef) (ac : Fin 2) (a b : Fin 16) (s : State) : Host.Outcome State Fault Refusal :=
  next (s.alu c fun x => x.putAcc ac (x.prod a b))
def execMac (c : CoreRef) (ac : Fin 2) (a b : Fin 16) (s : State) : Host.Outcome State Fault Refusal :=
  next (s.alu c fun x => x.putAcc ac (x.acc ac + x.prod a b))
def execMsu (c : CoreRef) (ac : Fin 2) (a b : Fin 16) (s : State) : Host.Outcome State Fault Refusal :=
  next (s.alu c fun x => x.putAcc ac (x.acc ac - x.prod a b))
def execMpai (c : CoreRef) (ac : Fin 2) (a : Fin 16) (imm : Word) (s : State) : Host.Outcome State Fault Refusal :=
  next (s.alu c fun x => x.putAcc ac ((x.reg a).toInt * imm.toInt))
def execMaci (c : CoreRef) (ac : Fin 2) (a : Fin 16) (imm : Word) (s : State) : Host.Outcome State Fault Refusal :=
  next (s.alu c fun x => x.putAcc ac (x.acc ac + (x.reg a).toInt * imm.toInt))
def execMpr (c : CoreRef) (ac : Fin 2) (a b cc : Fin 16) (k : Fin 4) (s : State) : Host.Outcome State Fault Refusal :=
  next (s.alu c fun x => x.putAcc ac (x.shProd a b cc k))
def execMsr (c : CoreRef) (ac : Fin 2) (a b cc : Fin 16) (k : Fin 4) (s : State) : Host.Outcome State Fault Refusal :=
  next (s.alu c fun x => x.putAcc ac (x.acc ac - x.shProd a b cc k))
def execMar (c : CoreRef) (ac : Fin 2) (a b cc : Fin 16) (k : Fin 4) (s : State) : Host.Outcome State Fault Refusal :=
  next (s.alu c fun x => x.putAcc ac (x.acc ac + x.shProd a b cc k))
def execClra (c : CoreRef) (ac : Fin 2) (s : State) : Host.Outcome State Fault Refusal :=
  next (s.alu c fun x => { x with a := x.a.set ac 0 })

/-- A free accumulator value. -/
def State.freeAcc (s : State) (x : Core) (ac : Fin 2) : Ran :=
  let (w0, s1) := s.draw
  let (w1, s2) := s1.draw
  let (w2, s3) := s2.draw
  .go { x with a := x.a.set ac (BitVec.ofNat 72 (w0.toNat + 2 ^ 32 * w1.toNat + 2 ^ 64 * w2.toNat)) } s3

/-- ADDA: S from 0 to 40; no result is stated beyond. -/
def execAdda (c : CoreRef) (ac : Fin 2) (a : Fin 16) (sh : Nat) (s : State) : Host.Outcome State Fault Refusal :=
  next <| s.issue c .plain .all fun s x =>
    if sh > 40 then s.freeAcc x ac else .go (x.putAcc ac (x.acc ac + (x.reg a).toInt * 2 ^ sh)) s
def execAddaa (c : CoreRef) (ac ac2 : Fin 2) (s : State) : Host.Outcome State Fault Refusal :=
  next (s.alu c fun x => x.putAcc ac (x.acc ac + x.acc ac2))
def execNega (c : CoreRef) (ac : Fin 2) (s : State) : Host.Outcome State Fault Refusal :=
  next (s.alu c fun x => x.putAcc ac (-x.acc ac))

/-- SHA and SHAR by a signed amount; a rounding shift beyond 63 has no stated result (R206). -/
def State.shiftAcc (s : State) (x : Core) (ac : Fin 2) (n : Int) : Ran :=
  if n > 63 then s.freeAcc x ac
  else if n ≥ 0 then .go (x.putAcc ac (rsh (x.acc ac) n.toNat)) s
  else .go (x.putAcc ac (x.acc ac * 2 ^ n.natAbs)) s

def execSha (c : CoreRef) (ac : Fin 2) (sh : BitVec 8) (s : State) : Host.Outcome State Fault Refusal :=
  next (s.issue c .plain .all fun s x => s.shiftAcc x ac sh.toInt)
def execShar (c : CoreRef) (ac : Fin 2) (b : Fin 16) (s : State) : Host.Outcome State Fault Refusal :=
  next (s.issue c .plain .all fun s x => s.shiftAcc x ac (signed 8 (x.reg b).toNat))

/-- SATA sets no flag. -/
def execSata (c : CoreRef) (ac : Fin 2) (s : State) : Host.Outcome State Fault Refusal :=
  next (s.alu c fun x => { x with a := x.a.set ac (BitVec.ofInt 72 (satInt 32 (x.acc ac))) })

/-- MVA where no k from 1 to 40 makes the value fit: R208 states neither the value nor SCL, so both are free; SCALED is set. -/
def State.mvaFree (s : State) (x : Core) (d : Fin 16) : Ran :=
  let (k, s1) := s.draw
  s1.freeReg { x with scl := k.toNat % 41, st := { x.st with scaled := true } } d

/-- MVA (R208, R209). -/
def execMva (c : CoreRef) (d : Fin 16) (ac : Fin 2) (sh : Nat) (s : State) : Host.Outcome State Fault Refusal :=
  next <| s.issue c .plain .all fun s x =>
    if sh > 63 then s.freeReg x d
    else if x.st.sat = false ∧ fits 32 (rsh (x.acc ac) (sh + mvaShift (x.acc ac) sh 40 0)) = false then s.mvaFree x d
    else .go (x.mva d ac sh) s
def execMova (c : CoreRef) (ac ac2 : Fin 2) (s : State) : Host.Outcome State Fault Refusal :=
  next (s.alu c fun x => { x with a := x.a.set ac (x.a.get ac2) })

/-- MVAX: part 0, 1 or 2; no other part is stated. -/
def execMvax (c : CoreRef) (d : Fin 16) (ac : Fin 2) (p : Nat) (s : State) : Host.Outcome State Fault Refusal :=
  next <| s.issue c .plain .all fun s x =>
    let a := x.a.get ac
    match p with
    | 0 => .go (x.setReg d (a.setWidth 32)) s
    | 1 => .go (x.setReg d (a.extractLsb' 32 32)) s
    | 2 => .go (x.setReg d ((a.extractLsb' 64 8).signExtend 32)) s
    | _ => s.freeReg x d

/-- MTAX: the same part of the accumulator is written. -/
def execMtax (c : CoreRef) (ac : Fin 2) (a : Fin 16) (p : Nat) (s : State) : Host.Outcome State Fault Refusal :=
  next <| s.issue c .plain .all fun s x =>
    let v := (x.reg a).toNat
    let put (hi lo : Nat) : Ran :=
      .go { x with a := x.a.set ac (BitVec.ofNat 72 (putBits (x.a.get ac).toNat hi lo v)) } s
    match p with
    | 0 => put 31 0
    | 1 => put 63 32
    | 2 => put 71 64
    | _ => s.freeAcc x ac

/-! ### Memory, address generators, special registers, divide unit (Table 9.8) -/

def execLd (c : CoreRef) (d : Fin 16) (g : Fin 8) (step : BitVec 16) (s : State) : Host.Outcome State Fault Refusal :=
  next <| s.issue c .plain .all fun s x =>
    s.loadFrom c (x.setGen g ((x.gen g).modify (agMod c) step.toInt)) d ((x.gen g).addr (agMod c) 0)
def execSt (c : CoreRef) (b : Fin 16) (g : Fin 8) (step : BitVec 16) (s : State) : Host.Outcome State Fault Refusal :=
  next <| s.issue c .plain .all fun s x =>
    s.storeTo c (x.setGen g ((x.gen g).modify (agMod c) step.toInt)) ((x.gen g).addr (agMod c) 0) (x.reg b)
def execLdx (c : CoreRef) (d : Fin 16) (g : Fin 8) (off : BitVec 16) (s : State) : Host.Outcome State Fault Refusal :=
  next (s.issue c .plain .all fun s x => s.loadFrom c x d ((x.gen g).addr (agMod c) off.toInt))
def execStx (c : CoreRef) (b : Fin 16) (g : Fin 8) (off : BitVec 16) (s : State) : Host.Outcome State Fault Refusal :=
  next (s.issue c .plain .all fun s x => s.storeTo c x ((x.gen g).addr (agMod c) off.toInt) (x.reg b))
def execLdv (c : CoreRef) (d : Fin 16) (g : Fin 8) (b : Fin 16) (s : State) : Host.Outcome State Fault Refusal :=
  next <| s.issue c .plain .all fun s x =>
    s.loadFrom c (x.setGen g ((x.gen g).modify (agMod c) (x.reg b).toInt)) d ((x.gen g).addr (agMod c) 0)
def execStv (c : CoreRef) (b : Fin 16) (g : Fin 8) (cc : Fin 16) (s : State) : Host.Outcome State Fault Refusal :=
  next <| s.issue c .plain .all fun s x =>
    s.storeTo c (x.setGen g ((x.gen g).modify (agMod c) (x.reg cc).toInt)) ((x.gen g).addr (agMod c) 0) (x.reg b)
def execLdd (c : CoreRef) (d : Fin 16) (imm : Word) (s : State) : Host.Outcome State Fault Refusal :=
  next (s.issue c .plain .all fun s x => s.loadFrom c x d imm.toNat)
def execStd (c : CoreRef) (b : Fin 16) (imm : Word) (s : State) : Host.Outcome State Fault Refusal :=
  next (s.issue c .plain .all fun s x => s.storeTo c x imm.toNat (x.reg b))
def execLdr (c : CoreRef) (d a : Fin 16) (imm : Word) (s : State) : Host.Outcome State Fault Refusal :=
  next (s.issue c .plain .all fun s x => s.loadFrom c x d (x.reg a + imm).toNat)
def execStr (c : CoreRef) (b a : Fin 16) (imm : Word) (s : State) : Host.Outcome State Fault Refusal :=
  next (s.issue c .plain .all fun s x => s.storeTo c x (x.reg a + imm).toNat (x.reg b))

def execAgset (c : CoreRef) (g : Fin 8) (base len : Nat) (s : State) : Host.Outcome State Fault Refusal :=
  next (s.alu c fun x => x.agSet (agMod c) g base len)
def execAgsetr (c : CoreRef) (g : Fin 8) (a b : Fin 16) (s : State) : Host.Outcome State Fault Refusal :=
  next (s.alu c fun x => x.agSet (agMod c) g (x.reg a).toNat (x.reg b).toNat)

/-- MTAG; a field number above 2 names no field and writes none. -/
def execMtag (c : CoreRef) (g : Fin 8) (f : Nat) (a : Fin 16) (s : State) : Host.Outcome State Fault Refusal :=
  next (s.alu c fun x => (x.agField (agMod c) g f (x.reg a).toNat).getD x)

/-- MFAG; a field number above 2 has no stated value. -/
def execMfag (c : CoreRef) (d : Fin 16) (g : Fin 8) (f : Nat) (s : State) : Host.Outcome State Fault Refusal :=
  next <| s.issue c .plain .all fun s x =>
    match f with
    | 0 => .go (x.setReg d (BitVec.ofNat 32 (x.gen g).base)) s
    | 1 => .go (x.setReg d (BitVec.ofNat 32 (x.gen g).len)) s
    | 2 => .go (x.setReg d (BitVec.ofNat 32 (x.gen g).ptr)) s
    | _ => s.freeReg x d

def execMfs (c : CoreRef) (d : Fin 16) (sr : Nat) (s : State) : Host.Outcome State Fault Refusal :=
  next <| s.issue c .plain .all fun s x => match s.readSpecial c x sr with
    | some (w, s1) => .go (x.setReg d w) s1
    | none => .trap .illegal
def execMts (c : CoreRef) (sr : Nat) (a : Fin 16) (s : State) : Host.Outcome State Fault Refusal :=
  next <| s.issue c .plain .all fun s x => match x.writeSpecial c sr (x.reg a) with
    | some y => .go y s
    | none => .trap .illegal

/-- A divide-unit instruction starts, cancelling one in flight; a zero divisor gives a signed limit and sets DZ. -/
def Core.divide (x : Core) (num den : Int) : Core :=
  let q : Int := if den = 0 then (if num > 0 then 2 ^ 31 - 1 else if num < 0 then -(2 ^ 31) else 0)
    else satInt 32 (Int.tdiv num den)
  { x with div := some { cycles := 12, result := BitVec.ofInt 32 q }, st := { x.st with dz := x.st.dz || den == 0 } }

def execDivq (c : CoreRef) (a b : Fin 16) (q : Nat) (s : State) : Host.Outcome State Fault Refusal :=
  next (s.alu c fun x => x.divide ((x.reg a).toInt * 2 ^ (q % 32)) (x.reg b).toInt)
def execDiva (c : CoreRef) (ac : Fin 2) (b : Fin 16) (s : State) : Host.Outcome State Fault Refusal :=
  next (s.alu c fun x => x.divide (x.acc ac) (x.reg b).toInt)
def execSqrta (c : CoreRef) (ac : Fin 2) (s : State) : Host.Outcome State Fault Refusal :=
  next (s.alu c fun x =>
    let v := x.acc ac
    let r := if v < 0 then 0 else min (Nat.sqrt v.toNat) (2 ^ 32 - 1)
    { x with div := some { cycles := 12, result := BitVec.ofNat 32 r }, st := { x.st with dz := x.st.dz || decide (v < 0) } })

/-! ### Supervisor instructions without the bus (Table 9.9) -/

/-- RETE: PC, STATUS and RACT are restored at once. -/
def execRete (c : CoreRef) (s : State) : Host.Outcome State Fault Refusal :=
  next <| s.issue c .transfer .supervisors fun s x =>
    let e := x.efl.toNat
    .jump { x with
      st := Status.ofWord e false
      rep0 := { x.rep0 with act := bitAt e 16 }
      rep1 := { x.rep1 with act := bitAt e 17 } } x.epc s

/-- SYSCALL. -/
def execSyscall (c : CoreRef) (_imm : Word) (s : State) : Host.Outcome State Fault Refusal :=
  next (s.issue c .noSlot .supervisors fun _ _ => .trap .syscall)

/-- Enabled interrupt lines of a supervisor core. -/
def State.irqPending (s : State) (c : CoreRef) (x : Core) : Bool :=
  match c with
  | .sup n => tget 0 s.eng.irq (4 * s.red.activeUnit + n) &&& x.imask != 0
  | .lane _ => false

/-- WAITI. -/
def execWaiti (c : CoreRef) (s : State) : Host.Outcome State Fault Refusal :=
  next <| s.issue c .noBody .supervisors fun s x =>
    if s.irqPending c x then .go x s else .stay (x.await .interrupt s.clk) s

/-- FENCE: every bus write of the core completes with its STB, so the core goes on. -/
def execFence (c : CoreRef) (s : State) : Host.Outcome State Fault Refusal :=
  next (s.issue c .plain .supervisors fun s x => .go { x with writesOut := 0 } s)

/-! ### Events of a core -/

/-- DIVIDE_DONE: the result reaches DQ; a core that runs has spent the cycles that were left. -/
def execDivideDone (c : CoreRef) (s : State) : Host.Outcome State Fault Refusal :=
  next <|
    let x := s.core c
    match x.div with
    | some d =>
      let ns := if isLane c then (d.cycles * 1250 + 999) / 1000 else (d.cycles * 834 + 999) / 1000
      (s.elapse ns).setCore c x.divDone
    | none => s

/-- The condition of a wait holds now (R214); WAITP's comes with the boundary itself. -/
def State.waitOver (s : State) (c : CoreRef) (x : Core) : Bool :=
  match x.wait with
  | .none => false
  | .period => decide (s.loops.periodAt > x.waitAt)
  | .endData => s.endDataReady c
  | .records b n => recordsReady x.srwc b n
  | .interrupt => s.irqPending c x

/-- A waiting core continues with the next word. -/
def State.continueWait (s : State) (c : CoreRef) : State :=
  let x := s.core c
  s.setCore c ({ x with run := .running, wait := .none }.advance (pcMod c))

/-- WAIT_CONTINUE: a wait continues when its condition is met; WAITE's instant is brought forward. -/
def execWaitContinue (c : CoreRef) (s : State) : Host.Outcome State Fault Refusal :=
  next <|
    let x := s.core c
    if x.run ≠ .waiting then s
    else
      let s1 := if x.wait = .endData then s.waitClk (s.loops.periodAt + 121800) else s
      if s1.waitOver c x then (s1.continueWait c).takeIrq c else s1

/-- A lane takes its interrupt at a clean boundary (R217). -/
def State.laneIrq (s : State) (n : Fin 64) : State :=
  let x := s.core (.lane n)
  if x.st.ie ∧ x.icause ≠ 0 ∧ x.branch.isNone ∧ x.load.isNone ∧ x.ract = 0 ∧ (x.run = .running ∨ x.run = .waiting) then
    let y := x.divDone
    s.setCore (.lane n) { y with
      iret := y.pc, ifl := y.st, st := { y.st with ie := false }, pc := y.ivec % 2048, run := .running, wait := .none }
  else s

/-- LANE_INTERRUPT. -/
def execLaneInterrupt (lane : Fin 64) (s : State) : Host.Outcome State Fault Refusal := next (s.laneIrq lane)

/-- LANE_DEADLINE: the DEADL instant of the period (R217). -/
def execLaneDeadline (lane : Fin 64) (s : State) : Host.Outcome State Fault Refusal :=
  next <|
    let x := s.core (.lane lane)
    if x.deadl = 0 then s
    else
      (s.waitClk (s.loops.periodAt + 10 * x.deadl)).setCore (.lane lane) { x with icause := x.icause ||| 2 }

/-- The lanes a command of LE_LANE_CMD names. -/
def laneSet (lane : Nat) (all : Bool) : List Nat := if all then List.range 64 else [lane % 64]

/-- A write of LE_LANE_CMD: refused while BUSY is set (Table 9.18). -/
def State.laneCmd (s : State) (lane action : Nat) (all : Bool) (f : Core → Core) : State :=
  if s.eng.laneBusy then s.raiseLoop 0x0D06 0xD0120 [(4, 0xD0120)]
  else
    let s1 := ((s.setFld Reg.LE_LANE_CMD_LANE (lane % 64)).setFld Reg.LE_LANE_CMD_ALL (ofBool all)).setFld
      Reg.LE_LANE_CMD_ACTION action
    s1.each (laneSet lane all) fun s n =>
      let c := CoreRef.lane (Fin.ofNat 64 n)
      s.setCore c (f (s.core c))

/-- LANE_CMD_SOFT: action 2 raises SOFT (Table 9.18). -/
def State.laneSoft (s : State) (lane : Nat) (all : Bool) : State := (s.laneCmd lane 2 all (fun x => { x with icause := x.icause ||| 1 }))

/-- LANE_CMD_SOFT as a host access. -/
def execLaneCmdSoft (lane : Nat) (all : Bool) (s : State) : Host.Outcome State Fault Refusal := next (s.hostAct 4 fun s => s.laneSoft lane all)

/-- LANE_CMD_RESTART: action 1 restarts a halted lane at the next boundary, without the one-second limit. -/
def State.laneRestart (s : State) (lane : Nat) (all : Bool) : State :=
    let s1 := s.laneCmd lane 1 all (fun x => if x.run = .halted ∧ x.restart = false then { x with restart := true, restartAuto := false } else x)
    { s1 with eng := { s1.eng with laneBusy := true } }

/-- LANE_CMD_RESTART as a host access. -/
def execLaneCmdRestart (lane : Nat) (all : Bool) (s : State) : Host.Outcome State Fault Refusal := next (s.hostAct 4 fun s => s.laneRestart lane all)

/-- LANE_STALL_TIMEOUT: a lane that has not reached WAITP within 2 periods is halted (R216). -/
def execLaneStallTimeout (lane : Fin 64) (s : State) : Host.Outcome State Fault Refusal :=
  next <|
    let x := s.core (.lane lane)
    match x.stopAt with
    | some t => (s.waitClk (t + 256000)).laneFault lane x 6
    | none => s

/-- SUPERVISOR_EXCEPTION: causes 0 to 15 are interrupt lines, taken when enabled and held off otherwise; causes 0x10 to
0x14 are exceptions (R219). -/
def execSupervisorException (core : Fin 4) (cause addr : Nat) (s : State) : Host.Outcome State Fault Refusal :=
  next <|
    let c := CoreRef.sup core
    let key := 4 * s.red.activeUnit + core
    if cause < 16 then
      let s1 := { s with eng := { s.eng with irq := tset 0 s.eng.irq key (tget 0 s.eng.irq key ||| 2 ^ cause) } }
      s1.takeIrq c
    else if cause ≤ 0x14 then
      let x := s.core c
      if x.run = .running ∨ x.run = .waiting then
        s.setCore c (x.enter cause (if cause = 0x11 ∨ cause = 0x12 then some addr else none))
      else s
    else s

end Sys2Proof.Machine
end

