-- ==== Sys2Proof/Machine/Period.lean ====
section
/-!
DEFINITION. The hold-period boundary (chapters 05 to 10, 22): outputs take effect, the stuck test, the checkpoint, the lanes,
claims and switch-overs.
-/

namespace Sys2Proof.Machine

/-! ### Outputs (R166, R168, R177, R233, R243) -/

/-- A DAC command word arrives with bad parity: section 0 is the bias, 1 the heater (Table 10.7). -/
def State.dacParity (s : State) (c sec : Nat) : State :=
  (s.bump Reg.DAC_ERR_PARITY 1).raiseLim 0x0C05 c [(2, c), (1, sec)]

/-- A cell's words reach the output stage; those listed in `parity`, by 2 × cell + section, are discarded. -/
def State.applyCell (s : State) (parity : List Nat) (c : Nat) : State :=
  let x := s.cell c
  let s1 := if parity.contains (2 * c) then s.dacParity c 0
    else { s with dac := { s.dac with bias := tput s.dac.bias c x.outBias } }
  if parity.contains (2 * c + 1) then s1.dacParity c 1
  else { s1 with dac := { s1.dac with htrTarget := tput s1.dac.htrTarget c x.outHtr } }

/-- Cells whose words are applied at the boundary: taken at the deadline, in no frozen state (R177, R215). -/
def State.cellsToApply (s : State) : List Nat :=
  (s.loops.cells.filter (fun e => e.2.taken && !e.2.state.frozen && !e.2.frozen)).map Prod.fst

/-- Safe codes stand, or the loops' outputs are held for the mode (R63, R239, R241). -/
def State.outputsHeld (s : State) : Bool := s.loops.heldOut || s.dac.safeHold || s.dac.clr

/-- A switch-over's gap ends with the first outputs of the new unit (R472). -/
def State.outputsTook (s : State) : State :=
  { s with red := { s.red with
    gapUs := if s.red.gapOpen then s.gapAt s.clk else s.red.gapUs
    gapOpen := false, lastOut := s.clk } }

/-- MX_STATUS.OPEN_LOOP after a boundary at which words were due; `took` says that some cell took one (R550). -/
def State.openLoop (s : State) (took : Bool) : State :=
  { s with mx := { s.mx with openLoop := !took && decide (2 ≤ s.mode.mode.code) && !s.dac.clr } }

/-- Output words of the period that ends take effect, or are refused, or wait behind safe codes. -/
def State.applyOutputs (s : State) (parity : List Nat) : State :=
  let cells := s.cellsToApply
  if s.unitActive = false then s.openLoop false
  else if s.dacAccepts = false then (s.bump Reg.DAC_ERR_REFUSED (2 * cells.length)).openLoop false
  else if s.outputsHeld then s.openLoop false
  else
    let s1 := s.each cells (fun s c => s.applyCell parity c)
    (if cells = [] then s1 else s1.outputsTook).openLoop (cells != [])

/-- Flags of a cell's output words, and the events on entry to a clamp (R181, R184). -/
def State.cellFlags (s : State) (c : Nat) : State :=
  let x := s.cell c
  if x.taken = false then s
  else
    let clamp := bitAt x.outFlags 1
    let lim := bitAt x.outFlags 2
    let low := s.coefHalf c 0x2C
    let s1 := s.setCell c { x with htrActive := bitAt x.outFlags 0, biasClamped := clamp, htrLimited := lim }
    let s2 := if clamp ∧ x.biasClamped = false then s1.raiseLoop 0x0D03 c [(2, c), (2, unsigned 16 x.outBias)] else s1
    if lim ∧ x.htrLimited = false then
      s2.raiseLoop 0x0D04 c [(2, c), (2, x.outHtr), (2, if x.outHtr ≤ low then low else s.coefHalf c 0x2E)]
    else s2

/-! ### The stuck test (R137, R138) -/

/-- A tap pair shows the wrong state: tagged, its flag clear, inputs at least 10 dB apart, and the output that should be
dark at least 10 dB above the other. -/
def wrongPair (m : LoopSample) (p : Predict) : Bool :=
  let brighter0 := decide (p.a ≥ p.b)
  let hi := max p.a p.b
  let lo := min p.a p.b
  let lit0 := brighter0 != m.cross
  let lightOut := if lit0 then m.p0 else m.p1
  let darkOut := if lit0 then m.p1 else m.p0
  m.swatch.isSome && sampleLit p m && decide (0 < hi ∧ 10 * lo ≤ hi ∧ 0 < darkOut ∧ 10 * lightOut ≤ darkOut)

/-- A cell is declared stuck in the state its taps show. -/
def State.declareStuck (s : State) (c : Nat) (commanded : Bool) (count : Nat) : State :=
  if s.mx.stuck.length ≥ 16 then s.raise 0x0E0A [(2, c)]
  else (s.raise 0x0E07 [(2, c), (1, ofBool commanded), (1, ofBool (!commanded)), (4, count)]).addStuck c (!commanded) false true

/-- The stuck test of one cell. -/
def State.stuckTest (s : State) (c : Nat) : State :=
  if s.isStuck c ∨ s.laneRuns (s.laneOf c) = false then s
  else
    match (s.finalSamples c).filter (fun e => wrongPair e.1 e.2) with
    | [] => s
    | w :: rest =>
      if rest.length + 1 ≥ s.mx.wrongMin then s.declareStuck c w.1.cross (rest.length + 1) else s

/-- Cells that have sampled in the period. -/
def State.sampledCells (s : State) : List Nat :=
  (s.loops.cells.filter (fun e => e.2.samples.any (fun m => m.period == s.loops.period))).map Prod.fst

/-! ### Lanes (R216, R218, R222) -/

/-- PRIV and XCH words 6 to 12 of a lane come from the last complete checkpoint. -/
def State.restoreLane (s : State) (n : Nat) : State :=
  match s.lastCheckpoint with
  | none => s
  | some c =>
    let mine (k : Nat) : Bool := k / 12288 == n && ckptWord k
    let keep := s.eng.dm.filter (fun e => !mine e.1)
    let from_ := c.dm.filter (fun e => mine e.1)
    { s with eng := { s.eng with dm := tmerge (keep.length + from_.length) keep from_ } }

/-- A lane restarts at a boundary (R218). -/
def State.restartLane (s : State) (n : Nat) : State :=
  let c := CoreRef.lane (Fin.ofNat 64 n)
  let auto := (s.core c).restartAuto
  let s1 := ((s.restoreLane n).loadUser s.red.activeUnit [n]).startLane n
  let s2 := if auto then s1.setCore c { s1.core c with autoAt := some s.clk } else s1
  s2.raiseLoop 0x0D08 n [(1, n)]

/-- A core of the active unit's lane. -/
def State.laneCore (s : State) (n : Nat) : Core := tget {} s.eng.cores (128 * s.red.activeUnit + n)

/-- A lane's counts of the period end with it; FRESH lasts one period (Tables 9.3 and 9.17). -/
def Core.newPeriod (x : Core) : Core :=
  if x.run = .halted ∧ x.cyc = 0 ∧ x.cycLast = 0 then x
  else { x with cycLast := min x.cyc 131071, cycMax := max x.cycMax (min x.cyc 131071), cyc := 0, fresh := false }

/-- Lanes at a boundary: stalled ones halt, a new image starts once all have stopped, halted ones restart. -/
def State.boundaryLanes (s : State) : State :=
  let s1 := s.eachCore Core.newPeriod
  let s2 := s1.each (List.range 64) (fun s n =>
    let x := s.laneCore n
    match x.stopAt with
    | some t => if t + 256000 ≤ s.clk then s.laneFault n x 6 else s
    | none => s)
  if s2.eng.swapping then
    if (List.range 64).all (fun n => (s2.laneCore n).run == .halted || (s2.laneCore n).run == .stopped) then
      let s3 := (s2.loadUser s2.red.activeUnit (List.range 64)).each (List.range 64) State.startLane
      { s3 with eng := { s3.eng with swapping := false, laneBusy := false } }
    else s2
  else
    let due := (List.range 64).filter (fun n => (s2.laneCore n).restart && (s2.laneCore n).run == .halted)
    let s3 := s2.each due State.restartLane
    { s3 with eng := { s3.eng with laneBusy := false } }

/-! ### Claims and switch-overs (R468 to R476) -/

/-- The active unit's work of the period is complete: its checkpoint (R467, R473). A unit whose bus master is held in reset
completes none, and it becomes overdue 4 µs after the boundary (R470). -/
def State.boundaryCheckpoint (s : State) : State :=
  if s.unitActive = false then s
  else if (s.bmMaster s.red.activeUnit).inReset then
    { s with red := { s.red with ckptOverdue := some (s.red.ckptOverdue.getD (s.clk + 4000)) } }
  else s.takeCheckpoint

/-- Switch-overs move at a boundary: the lanes of a planned one stop, a unit that has claimed resumes; in L2 at a sampled
period only (R473). -/
def State.boundarySwitch (s : State) : State :=
  let resumed (t : State) : State :=
    { t with loops := { t.loops with
      cells := (t.loops.cells.map (fun e => (e.1, { e.2 with samples := [] }))).filter (fun e => e.2 != {}) } }
  match s.red.switching with
  | some (.planned tag canvas false) =>
    { s.stopLanes with red := { s.stopLanes.red with switching := some (.planned tag canvas true) } }
  | some _ => if s.red.claimed ∧ s.loops.sampled then resumed s.resumeUnit else s
  | none => s

/-- The claim written since the last boundary takes effect for the active unit (R468, R469). -/
def State.boundaryClaim (s : State) : State :=
  if s.red.claimed ∧ s.red.switching.isNone ∧ s.unitActive then s.enterClaim s.red.activeUnit else s

/-! ### The boundary (R165, R242) -/

/-- Step 1 of R242: at the first boundary after its release a DAC clear lets the loop outputs through; where the mode holds
safe codes nothing is left to return. -/
def State.boundaryClear (s : State) : State :=
  if s.dac.clr ∧ s.dac.released then
    let s1 := { s with dac := { s.dac with clr := false, released := false, recover := !s.dac.safeHold } }
    if s.dac.safeHold then s1.raise 0x0C02 [(4, (s1.clk - s1.dac.clrAt) / 1000)] else s1
  else if s.dac.clr = false ∧ s.dac.recover = false then { s with dac := { s.dac with flagTail := false } }
  else s

/-- Heater power of the period in 0.01 W: channel 9 831 in mA times channel 9 829 in 0.1 mV (R492). -/
def State.heaterPower (s : State) : State :=
  let w := min 65535 (((tget {} s.adc.hk 103).value * (tget {} s.adc.hk 101).value).toNat / 100000)
  { s with thm := { s.thm with htrW := w, htrMax := max s.thm.htrMax w } }

/-- The monitors' gathered conversions are dropped; LIT_INPUTS follows a period with rounds (R550). -/
def State.boundaryMonitors (s : State) : State :=
  { s with mx := { s.mx with
    farAcc := [], lit := if s.loops.sampled then s.mx.litAcc else s.mx.lit, litAcc := 0 } }

/-- What a cell gathers in a period is set down for the next; samples of earlier sampled periods leave (R173). -/
def CellLoop.newPeriod (x : CellLoop) (sampled : Bool) (period : Nat) : CellLoop :=
  { x with
    stepped := false, written := false, taken := false, frozen := false
    samples := if sampled then x.samples.filter (fun m => m.period == period) else x.samples }

/-- The next period begins at `b`. -/
def State.beginPeriod (s : State) (b : Nat) : State :=
  let l := s.loops
  let k := (l.period + 1) % 2 ^ 64
  let sampled := decide (s.pwr.state < 2 ∨ k % 16 = 0)
  let s1 := s.periodSnaps
  { s1 with
    loops := { l with
      period := k, periodAt := b, sampled := sampled
      sampledCount := if sampled then l.sampledCount + 1 else l.sampledCount
      cells := (l.cells.map (fun e => (e.1, e.2.newPeriod l.sampled l.period))).filter (fun e => e.2 != {})
      eopDone := false, deadlineDone := false }
    dac := { s1.dac with htrStart := s1.dac.htrOut } }

/-- The boundary of the period in force. -/
def State.periodBoundary (s : State) (parity : List Nat) : State :=
  let b := s.loops.periodAt + 128000
  let s1 := (s.endOfPeriod 0).waitClk (s.loops.periodAt + 127600)
  let s2 := ((s1.takeOutputs.tailEnd).waitClk b).calBoundary.boundaryClear.boundaryClaim
  let s3 := if s2.loops.sampled then s2.applyOutputs parity else s2
  let s4 := s3.each (s3.loops.cells.map Prod.fst) State.cellFlags
  let s5 := s4.each s4.sampledCells State.stuckTest
  let s6 := if s5.loops.sampled then s5.boundaryCheckpoint else s5
  let s7 := (s6.heaterPower.boundaryMonitors.beginPeriod b).boundaryLanes.tieStep.boundarySwitch
  if s7.pwr.keeping then s7.endKeepPass else s7

/-- HOLD_PERIOD_BOUNDARY: `parity` lists the DAC command words that arrive with bad parity, by 2 × cell + section. -/
def execHoldPeriodBoundary (parity : List Nat) (s : State) : Host.Outcome State Fault Refusal :=
  next (if s.loops.counting then s.periodBoundary parity else s)

end Sys2Proof.Machine
end

