-- ==== Sys2Proof/Machine/View.lean ====
section
/-!
DEFINITION. What the registers of the light side and of the system show beside the fields that a register word stores
(chapters 02 to 11, 18 to 25): each function gives those bits of the word at an offset into its block.
-/

namespace Sys2Proof.Machine

/-- Words of a byte string, as a register array shows them. -/
def wordOf (b : Bytes) (n : Nat) : Nat := leAt b (4 * n) 4

/-- Function status word (Table 2.6). -/
def FnStatus.word (f : FnStatus) : Nat :=
  f.state + 4 * ofBool f.ready + 8 * ofBool f.restartPending + 16 * ofBool f.stopPending

/-- Bits of a list of Bools, the first lowest. -/
def boolBits (l : List Bool) : Nat := l.reverse.foldl (fun n b => 2 * n + ofBool b) 0

/-! ### GEN (chapters 03, 04, 25) -/

/-- GEN_STATUS (Table 25.3). -/
def State.genStatus (s : State) : Nat :=
  s.mode.mode.code + 16 * s.pwr.state + 2 ^ 7 * ofBool s.mode.pend.isSome + 2 ^ 8 * s.hop + 2 ^ 16 * s.moduleId
    + 2 ^ 25 * ofBool s.canvas.active.isSome + 2 ^ 26 * ofBool s.traceable + 2 ^ 27 * ofBool (s.iklFlags % 32 != 0)

/-- GEN_ALERT (Table 25.4). -/
def State.genAlert (s : State) : Nat :=
  ofBool (decide (2 ≤ s.thm.eState ∨ 2 ≤ s.thm.pState)) + 2 * ofBool s.ret.lockout + 4 * ofBool (s.start.state == 3)
    + 8 * ofBool s.noStandby + 16 * ofBool s.alertEvent + 2 ^ 8 * (s.alertCode / 256 % 256) + 2 ^ 16 * s.alertCode

/-- GEN_START (Table 3.8). -/
def State.genStart (s : State) : Nat :=
  s.start.step + 2 ^ 5 * ofBool s.start.warm + 2 ^ 6 * s.start.state + 2 ^ 8 * s.ret.failStep + 2 ^ 16 * s.ret.failCode
    + 2 ^ 24 * s.ret.warmFails + 2 ^ 26 * s.ret.coldFails + 2 ^ 28 * ofBool s.start.escalated
    + 2 ^ 29 * ofBool s.start.retainBad

/-- GEN_CANVAS.STAGE: 2 staged, 3 with a commit that waits. -/
def State.stageCode (s : State) : Nat :=
  if s.canvas.commit.isSome then 3 else if s.canvas.staged.isSome then 2 else 0

/-- GEN_CANVAS.CLASS: of the staged change. -/
def State.stageClass (s : State) : Nat := match s.canvas.staged with
  | some st => changeClass (s.canvas.active.getD []) st.image
  | none => 0

def State.viewGen (s : State) (o : Nat) : Nat :=
  match o with
  | 0x00 => identWord
  | 0x04 => fwWord
  | 0x08 => s.genStatus
  | 0x0C => s.genAlert
  | 0x20 => s.genStart
  | 0x24 => s.start.cause + 16 * s.ret.rstHold + 2 ^ 20 * ofBool s.ret.rstStuck + 2 ^ 21 * ofBool s.ret.tripSeen
      + 2 ^ 22 * ofBool s.ret.shutdownSeen
  | 0x30 => s.canvas.source + 4 * s.stageCode + 16 * s.stageClass + 2 ^ 8 * s.canvas.verr + 2 ^ 16 * s.canvas.verrSect
  | 0x34 => s.canvasGen
  | 0x38 => match s.canvas.active with
    | some img => imgSvn img
    | none => 0
  | 0x3C => s.canvas.arb
  | 0x40 | 0x44 | 0x48 | 0x4C => wordOf s.sysDigest ((o - 0x40) / 4)
  | 0x50 => s.canvas.vrec
  | _ => 0

/-! ### CX and BM (chapters 20, 21) -/

/-- CX_RINGn_STAT. -/
def State.ringStat (s : State) (r : Nat) : Nat :=
  (if s.flag (Reg.CX_RING_CTL_EN r) = false then 0 else if (s.ring r).error then 2 else 1)
    + 4 * ofBool (decide (4096 ≤ s.ringLoad r)) + 2 ^ 16 * (s.ring r).running.length

/-- Offsets within a ring's 64 bytes. -/
def State.viewRing (s : State) (r o : Nat) : Nat :=
  match o with
  | 0x04 => s.ringStat r
  | 0x1C => (s.ring r).cqDb
  | 0x20 => (s.ring r).consLatch
  | 0x24 => (s.ring r).prodLatch
  | _ => 0

/-- The MSI-X table's vector control words and the pending bits (R429). -/
def State.viewMsix (s : State) (o : Nat) : Nat :=
  if o < 0xF400 then (if o % 16 = 12 then ofBool (lget {} s.cx.msix ((o - 0xF000) / 16)).masked else 0)
  else if o = 0xF800 then boolBits ((s.cx.msix.take 32).map Vector64.pending)
  else if o = 0xF804 then boolBits ((s.cx.msix.drop 32).map Vector64.pending)
  else 0

def State.viewCx (s : State) (o : Nat) : Nat :=
  if o = 0x04 then s.cx.window
  else if o = 0x08 then s.cx.evtLatch
  else if 0x100 ≤ o ∧ o < 0x500 then s.viewRing ((o - 0x100) / 64) (o % 64)
  else if o = 0x810 then s.cx.evtDb
  else if 0x1000 ≤ o ∧ o < 0x1200 then
    match o % 64 with
    | 0x20 => (lget {} s.cx.fqTx ((o - 0x1000) / 64)).cons
    | 0x24 => (lget {} s.cx.fqRx ((o - 0x1000) / 64)).cons
    | _ => 0
  else if 0xF000 ≤ o then s.viewMsix o
  else 0

/-- The target on which a master holds a lock. -/
def State.masterLock (s : State) (m : Nat) : Option Nat :=
  (List.range 12).find? (fun t => match (s.bmTarget t).lockedBy with
    | some h => h.1 == m
    | none => false)

def State.viewMaster (s : State) (m : Nat) : Nat :=
  min 64 (s.idsOf m).eraseDups.length + 2 ^ 7 * ofBool (s.bmMaster m).drained + 2 ^ 8 * ofBool (s.bmMaster m).inReset
    + 2 ^ 9 * ofBool (s.masterLock m).isSome + 2 ^ 10 * (s.masterLock m).getD 0

/-- BM_TGT_STATt: no transaction of the model is in progress between two commands, so BUSY reads 0. -/
def State.viewTarget (s : State) (t : Nat) : Nat :=
  let x := s.bmTarget t
  x.owner + 2 ^ 4 * ofBool x.lockedBy.isSome + 2 ^ 5 * (x.lockedBy.map Prod.fst).getD 0 + 2 ^ 16 * x.lockMax

def State.viewBm (s : State) (o : Nat) : Nat :=
  if o < 0x20 then s.viewMaster (o / 4)
  else if 0x80 ≤ o ∧ o < 0xA0 then busPaths ((o - 0x80) / 4)
  else if 0xC0 ≤ o ∧ o < 0xF0 then s.viewTarget ((o - 0xC0) / 4)
  else match o with
  | 0x104 => s.bm.errMaster + 8 * s.bm.errTarget + 2 ^ 7 * s.bm.errCode + 2 ^ 10 * ofBool s.bm.errWrite
      + 2 ^ 11 * ofBool s.bm.errValid
  | 0x108 => s.bm.errAddrLatch
  | _ => 0

/-! ### PWR, THM, SAF, NVM (chapters 02, 23, 24) -/

def State.viewPwr (s : State) (o : Nat) : Nat :=
  match o with
  | 0x00 => s.pwr.state + 16 * s.pwr.target + 2 ^ 7 * ofBool (s.pwr.rung.isSome || s.pwr.keeping)
      + 2 ^ 8 * s.ret.wakeSrc + 2 ^ 11 * ofBool s.htrSafe + 2 ^ 16 * s.pwr.wakeRefused
  | 0x08 => ofBool s.ref.refAOk + 2 * ofBool s.ref.refBOk + 4 * ofBool s.ref.selB + 8 * ofBool s.ref.holdover
  | _ => 0

def State.viewThm (s : State) (o : Nat) : Nat :=
  if 0x100 ≤ o ∧ o < 0x280 then
    let x := s.sensor ((o - 0x100) / 4)
    unsigned 16 x.value + 2 ^ 16 * ofBool x.valid + 2 ^ 17 * ofBool x.flagged + 2 ^ 18 * ofBool x.fault
  else match o with
  | 0x08 => 2 ^ 16 * tripLevel 0
  | 0x10 => 2 ^ 16 * tripLevel 1
  | 0x14 => s.thm.eState + 8 * s.thm.pState + 2 ^ 6 * ofBool s.thm.throttling + 2 ^ 7 * ofBool s.thm.fastUntil.isSome
      + 2 ^ 8 * ofBool (s.thm.sensors.any (fun e => e.2.fault)) + 2 ^ 9 * ofBool (s.thm.restartE && s.thm.restartP)
  | 0x18 => unsigned 16 s.thm.eMax + 65536 * unsigned 16 s.thm.pMax
  | 0x1C => s.thm.eSrc + 2 ^ 8 * s.thm.pSrc
  | 0x20 => s.thm.htrW + 65536 * s.thm.htrMax
  | 0x24 => s.thm.throttleMs
  | _ => 0

/-- Code of the guard's state (R503). -/
def Guard.code : Guard → Nat
  | .open_ => 0
  | .closed => 1
  | .disagree => 2

/-- A safety input is faulted or in recovery. -/
def State.safFaulted (s : State) (n : Nat) : Bool := (s.filter n).faulted || (n == 2 && s.saf.resetRecovery)

def State.viewSaf (s : State) (o : Nat) : Nat :=
  if 0x10 ≤ o ∧ o < 0x3C then (lget 0 s.saf.records ((o - 0x10) / 4)).toNat
  else match o with
  | 0x00 => s.saf.guard.code + 4 * ofBool s.ret.lockout + 8 * ofBool s.ret.tested + 2 ^ 4 * s.saf.readback
      + 2 ^ 8 * boolBits ((List.range 4).map (fun g => (s.filter (3 + g)).active)) + 2 ^ 12 * s.saf.request
      + 2 ^ 16 * boolBits (s.saf.follow.map Option.isSome) + 2 ^ 20 * ofBool s.saf.resetRecovery
  | 0x04 => s.ret.faultCode + 2 ^ 8 * s.ret.faultWhere + 2 ^ 16 * s.ret.faults
  | 0x08 => s.saf.longest
  | 0x0C => s.saf.tDisc + 2 ^ 16 * s.saf.wired
  | 0x40 => boolBits ((List.range 7).map (fun n => (s.filter n).active))
      + 2 ^ 16 * boolBits ((List.range 7).map s.safFaulted)
  | _ => 0

def State.viewNvm (s : State) (o : Nat) : Nat :=
  match o with
  | 0x00 => ofBool (s.nvm.jobs != []) + 2 * ofBool (s.nvm.slots != 0) + 2 ^ 8 * s.wearPct + 2 ^ 16 * s.nvm.discarded
  | 0x04 => (s.obs.pages.map List.length).foldl (· + ·) 0
  | _ => 0

/-! ### TIM, IKL, RED (chapters 18, 19, 22) -/

/-- Seconds of a module time. -/
def timeSec (t : Nat) : Nat := t / secUnit
/-- Nanoseconds of the second of a module time. -/
def timeSubNs (t : Nat) : Nat := timeNs t % 1000000000

/-- A signed 32-bit field in ps with the sentinel 0x8000_0000 for none. -/
def psField (x : Option Int) : Nat := match x with
  | some v => unsigned 32 (satInt 32 v)
  | none => 2 ^ 31

/-- Words W1 to W3 of a latched capture. -/
def State.viewCap (s : State) (n w : Nat) : Nat :=
  let t := tget 0 s.time.capLatch n
  match w with
  | 1 => timeSubNs t
  | 2 => timeSec t % 2 ^ 32
  | 3 => timeSec t / 2 ^ 32 % 65536
  | _ => 0

def State.viewTim (s : State) (o : Nat) : Nat :=
  if 0x40 ≤ o ∧ o < 0x50 then
    2 ^ 8 * (tget [] s.time.caps ((o - 0x40) / 4)).length + 2 ^ 13 * ofBool (s.filter (10 + (o - 0x40) / 4)).faulted
  else if 0x80 ≤ o ∧ o < 0xD0 then s.viewCap ((o - 0x80) / 16) (o % 16 / 4)
  else if 0x100 ≤ o ∧ o < 0x180 ∧ o % 32 = 0 then
    let t := tget {} s.time.trigOut ((o - 0x100) / 32)
    8 * ofBool t.next.isSome + 16 * ofBool t.sched.isSome
  else match o with
  | 0x04 => s.time.state + 8 * ofBool s.traceable + 16 * ofBool s.time.unset + 2 ^ 5 * s.time.srcUsed
      + 2 ^ 7 * ofBool s.time.wait.isSome + 2 ^ 16 * s.time.jumpSeq
  | 0x0C => timeSubNs s.time.nowLatch
  | 0x10 => timeSec s.time.nowLatch % 2 ^ 32
  | 0x14 => timeSec s.time.nowLatch / 2 ^ 32 % 65536
  | 0x28 => psField s.time.theta
  | 0x2C => unsigned 32 s.time.y
  | 0x34 => s.time.jumpLatch.toNat
  | _ => 0

/-- IKL_CONJ.STATE: 1 a proposal of this leader is open, 2 PREPARED is held, 3 committed and awaiting its takeover. -/
def State.conjState (s : State) : Nat :=
  match s.ikl.held with
  | some h => if h.committed then 3 else if s.ikl.prop.isSome then 1 else 2
  | none => if s.ikl.prop.isSome then 1 else 0

/-- IKL_CONJ_ID: the open conjunction, or the last. -/
def State.conjId (s : State) : Nat :=
  match s.ikl.held, s.ikl.prop with
  | some h, _ => h.id
  | none, some p => p.id
  | none, none => s.ikl.lastId

/-- Milliseconds of the readmission run (R412). -/
def State.readmitRun (s : State) : Nat := match s.ikl.readmitAt with
  | some t => min 65535 ((s.clk - t) / 1000000)
  | none => 0

def State.viewIklPort (s : State) (n o : Nat) : Nat :=
  let p := s.iklPort n
  match o with
  | 0x0 => p.state + 4 * ofBool (s.ikl.parent == some n) + 8 * ofBool p.peerValid + 16 * p.peerId + 2 ^ 16 * p.peerHop
  | 0x8 => unsigned 32 p.delay
  | 0xC => psField p.ofs
  | _ => 0

def State.viewIkl (s : State) (o : Nat) : Nat :=
  if 0x40 ≤ o ∧ o < 0xC0 then s.viewIklPort ((o - 0x40) / 16) (o % 16)
  else match o with
  | 0x04 => s.ikl.leader.getD 0 + 2 ^ 9 * ofBool s.isLeader + 2 ^ 10 * ofBool (decide (s.quorum ≤ s.eligibleCount))
      + 2 ^ 11 * ofBool s.eligible + 2 ^ 12 * ofBool s.voter + 2 ^ 16 * s.hop
  | 0x08 => s.agreeing.length + 2 ^ 16 * (s.ikl.table.length + 1)
  | 0x0C => s.iklFlags % 256 + 2 ^ 16 * s.readmitRun
  | 0x10 => s.ikl.epoch
  | 0x14 => s.conjState + 4 * s.ikl.last + 16 * s.ikl.reason + 2 ^ 12 * s.ikl.by_
  | 0x18 => s.conjId
  | _ => 0

/-- Code of a control unit's state (Table 22.1). -/
def UnitState.code : UnitState → Nat
  | .off => 0
  | .standby => 1
  | .starting => 2
  | .active => 3
  | .testing => 4
  | .failed => 5

def CuUnit.record (u : CuUnit) : Nat := u.cause + 8 * u.step + 2 ^ 16 * u.times

def State.viewRed (s : State) (o : Nat) : Nat :=
  match o with
  | 0x04 => s.red.activeUnit + 2 * s.red.a.state.code + 16 * s.red.b.state.code
      + 2 ^ 7 * ofBool (s.red.switching.isSome || s.red.restore.isSome) + 2 ^ 8 * ofBool s.red.tie
  | 0x08 => s.red.lineMiss + 4 * s.red.ckptMiss + 16 * ofBool s.red.lineFault + 32 * ofBool s.red.ckptFault
  | 0x0C => (s.lastCheckpoint.map Checkpoint.seq).getD 0
  | 0x10 => s.ret.lastClaim + 2 ^ 16 * ofBool s.dac.claim.a.isSome + 2 ^ 17 * ofBool s.dac.claim.b.isSome
  | 0x14 => s.red.gapUs + 2 ^ 16 * s.red.declareUs
  | 0x20 => s.red.a.record
  | 0x24 => s.red.b.record
  | _ => 0

/-! ### CAL, ADC, DAC (chapters 10, 11) -/

/-- CAL_STATUS. What share of a run is done is its measurement's, so PROGRESS is a free value. -/
def State.calStatus (s : State) : Nat :=
  let run := match s.cal.run with
    | some r => 1 + 4 * r.phase + 2 ^ 8 * s.percent 0x0A01
    | none => 0
  run + 32 * ofBool (s.cal.zones.any (fun e => e.2.extrap)) + 2 ^ 16 * s.staleOfs

def State.viewCal (s : State) (o : Nat) : Nat :=
  if 0x40 ≤ o ∧ o < 0xC0 then
    let z := s.zone ((o - 0x40) / 4)
    unsigned 16 z.tUsed + 2 ^ 16 * lowerSet z.tUsed + 2 ^ 19 * ofBool z.extrap
  else match o with
  | 0x08 => s.calStatus
  | 0x0C => s.cal.gen
  | _ => 0

/-- ADC_CLAIM and DAC_CLAIM (Table 10.16). -/
def ClaimReg.word (c : ClaimReg) : Nat :=
  (match c.holder with
    | some (u, v) => v + 2 ^ 16 * u + 2 ^ 17
    | none => 0) + 2 ^ 18 * ofBool c.tie

/-- µs left of the 5 ms settle of the references (R230). -/
def State.settleLeft (s : State) : Nat :=
  if s.adc.ref.state = 1 ∧ s.adc.ref.ready = false then (s.adc.refAt + 5000000 - s.clk + 999) / 1000 else 0

def State.viewAdc (s : State) (o : Nat) : Nat :=
  if 0x40 ≤ o ∧ o < 0x80 then
    let x := s.pair ((o - 0x40) / 4)
    min 2047 x.lastD + 2 ^ 11 * min 4 x.badRun + 2 ^ 16 * x.cause + 2 ^ 24 * x.flagsSeen
  else if 0x200 ≤ o ∧ o < 0x400 then
    let v := tget {} s.adc.hk ((o - 0x200) / 4)
    unsigned 16 v.value + 2 ^ 16 * ofBool v.valid + 2 ^ 17 * ofBool v.flagged
  else match o with
  | 0x04 => s.adc.ref.word
  | 0x08 => boolBits ((List.range 16).map (fun k => (s.pair k).refIn)) + 2 ^ 16 * s.settleLeft
  | 0x10 => boolBits ((List.range 16).map s.pairFlagged)
  | 0x18 => s.adc.claim.word
  | 0x20 => 2 ^ 15 * ofBool s.adc.direct.isSome
  | 0x24 => s.adc.directRaw + 2 ^ 17 * s.adc.directStatus
  | _ => 0

def State.viewDac (s : State) (o : Nat) : Nat :=
  match o with
  | 0x04 => ofBool s.dac.clr + 2 * ofBool s.dac.recover + 4 * ofBool s.dac.clrFault + 8 * ofBool s.dac.claim.tie
  | 0x08 => s.dac.claim.word
  | 0x14 => (s.dac.monLatch.getD 0).toNat
  | _ => 0

/-! ### LE (chapters 08, 09) -/

/-- The lane that LE_LANE_SEL shows. -/
def State.selLane (s : State) : Core := s.laneCore (s.fld Reg.LE_LANE_SEL_LANE)

/-- Code of LE_LANE_STAT.RUN. -/
def RunState.code : RunState → Nat
  | .halted => 0
  | .running => 1
  | .waiting => 2
  | .stopped => 3

/-- Body of LANE_PROGRAMS in the active unit's program memory. -/
def State.activeProgram (s : State) : Bytes := s.programOf s.red.activeUnit

def State.laneStat (s : State) : Nat :=
  let x := s.selLane
  let auto_ := match x.autoAt with
    | some t => decide (s.clk < t + 1000000000)
    | none => false
  x.run.code + 4 * x.fault + 2 ^ 6 * ofBool auto_ + 2 ^ 8 * (x.pc % 2048)
    + 2 ^ 20 * byteAt s.activeProgram (0x10 + s.fld Reg.LE_LANE_SEL_LANE)

/-- LE_LANE_FLAGS (Table 9.17). -/
def Core.flagsWord (x : Core) : Nat :=
  ofBool x.st.ovs + 2 * ofBool x.st.aov + 4 * ofBool x.st.scaled + 8 * ofBool x.st.dz + 2 ^ 8 * x.agstat.toNat

/-- Halted lanes from one on. -/
def State.haltedLanes (s : State) (first : Nat) : Nat :=
  boolBits ((List.range 32).map (fun n => (s.laneCore (first + n)).run == .halted))

def State.viewLe (s : State) (o : Nat) : Nat :=
  match o with
  | 0x0C => 2 ^ 31 * ofBool s.loops.cmd.isSome
  | 0x10 => s.loops.stage.cell + 2 ^ 15 * ofBool s.loops.stage.valid
  | 0x14 | 0x18 | 0x1C => lget 0 s.loops.sums ((o - 0x14) / 2) + 2 ^ 16 * lget 0 s.loops.sums ((o - 0x14) / 2 + 1)
  | 0x20 => s.loops.period % 2 ^ 32
  | 0x24 => s.loops.periodHiLatch
  | 0x28 => 2 ^ 8 * s.loops.lastOverrun
  | 0x108 => s.laneStat
  | 0x10C => s.selLane.flagsWord
  | 0x110 => s.selLane.cycLast
  | 0x114 => s.selLane.cycMax
  | 0x118 => s.haltedLanes 0
  | 0x11C => s.haltedLanes 32
  | 0x120 => 2 ^ 31 * ofBool s.eng.laneBusy
  | 0x124 => byteAt s.activeProgram 6 + 2 ^ 8 * (leAt s.activeProgram 4 2 % 256)
      + 2 ^ 16 * ofBool (s.unitActive && s.activeProgram != [])
  | _ => 0

/-! ### MX and ORB (chapters 05 to 07) -/

/-- MX_STATUS.OPEN_LOOP (R550). -/
def State.openLoopNow (s : State) : Bool :=
  decide (2 ≤ s.mode.mode.code) && !s.dac.clr && (s.pwr.state == 3 || s.mx.openLoop)

/-- A request or a re-route is in progress. -/
def State.routeBusy (s : State) : Bool :=
  s.mx.queue != [] || (s.staleLeft && s.flag Reg.MX_ROUTE_CTL_AUTO_REROUTE && s.pwr.state == 0)

/-- Host requests that wait behind the one in progress. -/
def State.routeQueued (s : State) : Nat := ((s.mx.queue.drop 1).filter (fun r => r.tag.isSome)).length

def StuckEntry.word (e : StuckEntry) : Nat :=
  e.cell + 2 ^ 13 * ofBool e.cross + 2 ^ 14 * ofBool e.byHost + 2 ^ 15

def State.viewMx (s : State) (o : Nat) : Nat :=
  if 0x60 ≤ o ∧ o < 0xA0 then ((s.mx.stuck[(o - 0x60) / 4]?).map StuckEntry.word).getD 0
  else match o with
  | 0x00 => 17 + 2 ^ 8 * 255 + 2 ^ 16 * 511
  | 0x04 => s.mx.inForce.getD 0 + 2 ^ 10 * ofBool s.swatchValid + 2 ^ 11 * ofBool s.allSafe
      + 2 ^ 12 * ofBool s.openLoopNow + 2 ^ 13 * ofBool (s.mx.lit == 0) + 2 ^ 16 * s.mx.lit
  | 0x18 => (s.mx.monLatch.getD 0x8000).toNat
  | 0x44 => ofBool s.routeBusy + 2 * s.routeQueued + 2 ^ 6 * ofBool s.staleLeft + 2 ^ 8 * s.mx.lastSwatch
      + 2 ^ 18 * s.mx.lastResult
  | 0x48 => min 2047 s.mx.lastTime + 2 ^ 16 * min 2047 s.mx.worstTime
  | 0x4C => (s.mx.palette.filter (fun e => e.2.valid)).length
      + 2 ^ 16 * (s.mx.palette.filter (fun e => e.2.valid && e.2.stale)).length
  | 0x50 => s.mx.stuckRev % 65536 + 2 ^ 16 * s.mx.stuck.length
  | _ => 0

/-- The instant that ORB_TKO shows: I while ARMED, else the last takeover. -/
def State.tkoShown (s : State) : Nat := match s.orb.armed with
  | some t => s.takeoverAt t
  | none => s.orb.lastTko

def State.viewOrb (s : State) (o : Nat) : Nat :=
  let digest (b : Option OrbitBank) (n : Nat) : Nat := match b with
    | some x => wordOf x.digest n
    | none => 0
  if 0x40 ≤ o ∧ o < 0x50 then digest s.orb.active ((o - 0x40) / 4)
  else if 0x50 ≤ o ∧ o < 0x60 then digest s.orb.pendBank ((o - 0x50) / 4)
  else match o with
  | 0x00 => ofBool s.orb.running + 2 * ofBool s.orb.pendBank.isSome + 4 * ofBool s.orb.armed.isSome
      + 8 * ofBool s.orb.halted + 16 * boolBits (s.orb.replicas.map Replica.failed) + 2 ^ 8 * ofBool s.orb.conjHeld
      + 2 ^ 12 * s.orb.slot + 2 ^ 24 * (s.orb.pendBank.map (fun b => b.mode.code)).getD 0
  | 0x04 => (s.orb.active.map OrbitBank.id).getD 0
  | 0x08 => (s.orb.pendBank.map OrbitBank.id).getD 0
  | 0x0C => timeSec s.tkoShown % 2 ^ 32
  | 0x10 => timeSubNs s.tkoShown
  | 0x14 => s.orb.cycle % 2 ^ 32
  | 0x18 => s.orb.cycleHiLatch
  | 0x20 => (lget {} s.orb.replicas 0).count + 2 ^ 8 * (lget {} s.orb.replicas 1).count
      + 2 ^ 16 * (lget {} s.orb.replicas 2).count
  | _ => 0

end Sys2Proof.Machine
end

