-- ==== Sys2Proof/Machine/ViewPacket.lean ====
section
/-!
DEFINITION. What the registers of lanes, ports and the packet engine show beside their stored fields (chapters 12 to 17),
and the word at any register offset (R518, R520).
-/

namespace Sys2Proof.Machine

/-! ### Lanes and ports (chapter 12) -/

/-- The port to which a member lane belongs. -/
def State.portOfLane (s : State) (n : Nat) : Option Nat := s.plannedPorts.find? (fun p => (s.portLanes p).contains n)

/-- LANE_CTL.EN of a member lane: its port is enabled. -/
def State.memberEn (s : State) (n : Nat) : Bool := match s.portOfLane n with
  | some p => s.flag (Reg.PORT_CTL_EN p)
  | none => false

/-- LANE_STAT of a member lane, and of a fabric lane. -/
def State.memberStat (x : LaneSt) : Nat :=
  boolBits [x.sigDet, x.cdrLock, x.aligned, x.trainDone, x.trainFail, x.rxInv] + 2 ^ 16 * x.rxLane
def State.fabricStat (s : State) (i : Nat) (x : LaneSt) : Nat :=
  boolBits [x.sigDet, x.cdrLock] + 2 ^ 8 * ofBool x.rxCal + 2 ^ 9 * ofBool (s.expecting i)

/-- The LANE block: lanes 0 to 255 are member lanes, 256 to 511 fabric lanes. -/
def State.viewLane (s : State) (n o : Nat) : Nat :=
  let x := s.lane n
  let fab := decide (256 ≤ n)
  match o with
  | 0x00 => ofBool (!fab && s.memberEn n) + 2 * ofBool x.eyeNow
  | 0x04 => x.fn.word
  | 0x08 => if fab then s.fabricStat (n - 256) x else State.memberStat x
  | 0x0C => if fab then x.lastSrc + 2 ^ 16 * x.lastSrcLane + 2 ^ 31 * ofBool x.lastValid else 0
  | 0x10 => if fab then x.lastSeq else 0
  | 0x14 => if fab then unsigned 32 (satInt 32 x.lag) else 0
  | 0x18 => if fab then level16 x.pwr + 2 ^ 16 * x.lastCause else 0
  | _ => 0

/-- PORT_STAT (Table 12.8). -/
def State.portStat (s : State) (p : Nat) : Nat :=
  let x := s.port p
  boolBits [x.linkUp, x.anDone, x.hiSer, x.localFault, x.remoteFault]
    + 2 ^ 8 * boolBits ((List.range 8).map (s.rxPaused p)) + 2 ^ 16 * x.txPausing

/-- PORT_GATE_STAT. -/
def State.gateStat (s : State) (p : Nat) : Nat :=
  let q := s.pq p
  ofBool q.gate.isSome + 2 * ofBool q.gateArmedAt.isSome + 2 ^ 8 * s.listGates p + 2 ^ 16 * s.gates p
    + 2 ^ 24 * (if q.gate.isSome then q.gateEntry else 0)

/-- The instant that PORT_GATE_TKO shows: AT of the armed list, else the last takeover. -/
def State.gateTkoShown (s : State) (p : Nat) : Nat := (s.pq p).gateArmedAt.getD (s.pq p).gateTko

def State.viewPort (s : State) (p o : Nat) : Nat :=
  if 0xA0 ≤ o ∧ o < 0xC0 then s.portUse p ((o - 0xA0) / 4)
  else if 0x180 ≤ o ∧ o < 0x1A4 then unsigned 32 ((s.creditNow p ((o - 0x180) / 4)).1 / 1024)
  else match o with
  | 0x004 => (s.port p).fn.word
  | 0x008 => s.portStat p
  | 0x064 => s.dynCount p
  | 0x080 => (s.pq p).overXoff + 2 ^ 8 * s.portClass p + 2 ^ 12 * ofBool (s.express p)
  | 0x0C8 => s.gateStat p
  | 0x0CC => timeSec (s.gateTkoShown p) % 2 ^ 32
  | 0x0D0 => timeSubNs (s.gateTkoShown p)
  | 0x0D4 => (s.pq p).launch.length
  | _ => 0

/-! ### PRS, FDB, TM, CNT (chapters 13 to 17) -/

def State.viewPrs (s : State) (o : Nat) : Nat :=
  match o with
  | 0x0C => (s.cls.rules.filter (fun e => bitAt (leAt e.2 0x50 4) 15)).length
  | 0x10 => s.cls.gen
  | _ => 0

/-- Counter pairs that some entry names. -/
def State.pairsInUse (s : State) : Nat :=
  (((s.fdb.slots.map (fun e => e.2.counter)).filter (fun j => j != 0)).eraseDups).length

def State.viewFdb (s : State) (o : Nat) : Nat :=
  match o with
  | 0x04 => 2 ^ 16 * (s.fdb.passes % 65536)
  | 0x08 => (s.fdb.slots.filter (fun e => e.2.valid)).length
  | 0x0C => (s.fdb.slots.filter (fun e => decide (ovfBase ≤ e.1))).length + 2 ^ 16 * s.fdb.learn.length
      + 2 ^ 29 * s.fdb.flushes.length
  | 0x10 => s.fdb.epoch
  | 0x14 => s.fdb.drainLatch
  | 0x1C => s.pairsInUse + 2 ^ 16 * s.fdb.retiring.length
  | _ => 0

def State.viewTm (s : State) (o : Nat) : Nat :=
  if 0x40 ≤ o ∧ o < 0x80 then
    s.groupUse ((o - 0x40) / 4) + 2 ^ 20 * ofBool (bitAt s.tm.groupXoff ((o - 0x40) / 4))
  else match o with
  | 0x04 => s.cellsUsed + 2 ^ 20 * ofBool s.tm.sharedXoff
  | 0x08 => s.descUsed
  | 0x0C => s.sharedFree
  | 0x10 => 2 ^ 16 * s.tm.withdrawn
  | 0x14 => s.fabUsed
  | 0x1004 => s.policerCount
  | 0x1008 => s.tm.polGen
  | _ => 0

def State.viewCnt (s : State) (o : Nat) : Nat :=
  if o = 0 then ofBool (s.snapsOpen != []) + 2 * s.snapsOpen.length else 0

/-! ### Any register (R518, R520) -/

/-- The blocks of 64 KiB, by number. -/
def State.viewBlock (s : State) (b o : Nat) : Nat :=
  match b with
  | 0x0 => s.viewGen o
  | 0x1 => s.viewCx o
  | 0x2 => s.viewBm o
  | 0x3 => s.viewPwr o
  | 0x4 => s.viewThm o
  | 0x5 => s.viewSaf o
  | 0x6 => s.viewNvm o
  | 0x7 => s.viewTim o
  | 0x8 => s.viewIkl o
  | 0x9 => s.viewRed o
  | 0xA => s.viewCal o
  | 0xB => s.viewAdc o
  | 0xC => s.viewDac o
  | 0xD => s.viewLe o
  | 0xE => s.viewMx o
  | 0xF => s.viewOrb o
  | _ => 0

/-- The bits at an offset that no stored word holds. -/
def State.viewBits (s : State) (a : Nat) : Nat :=
  if a < 0x100000 then s.viewBlock (a / 0x10000) (a % 0x10000)
  else if a < 0x120000 then s.viewLane ((a - 0x100000) / 0x100) (a % 0x100)
  else if a < 0x200000 then 0
  else if a < 0x300000 then s.viewPort ((a - 0x200000) / 0x1000) (a % 0x1000)
  else if a < 0x400000 then s.viewPrs (a - 0x300000)
  else if a < 0x500000 then s.viewFdb (a - 0x400000)
  else if a < 0x600000 then s.viewTm (a - 0x500000)
  else if a < 0x700000 then 0
  else s.viewCnt (a - 0x700000)

/-- The word that a read of a register range returns: the stored fields and those shown from elsewhere; an offset that
names no register reads 0. -/
def State.regRead (s : State) (a : Nat) : Word := s.regWord a ||| BitVec.ofNat 32 (s.viewBits a)

end Sys2Proof.Machine
end

