-- ==== Sys2Proof/Machine/ViewWindows.lean ====
section
/-!
DEFINITION. The indirect windows (R519, Table 25.2): the words of every record, and which windows latch a record by the
read of its first word (R191).
-/

namespace Sys2Proof.Machine

/-- The words of a byte string. -/
def wordsOf (b : Bytes) (n : Nat) : List Word := (List.range n).map (fun i => BitVec.ofNat 32 (wordOf b i))

def words (l : List Nat) : List Word := l.map (BitVec.ofNat 32)

/-- RESID_RMS: root of the mean square of the last estimates, from 2^−24 rad to 0.01 mrad, rounded down. -/
def residRms (l : List Int) : Nat :=
  if l = [] then 0
  else min 65535 (Nat.sqrt ((l.foldl (fun n e => n + e.natAbs ^ 2) 0) * 10 ^ 10 / (l.length * 2 ^ 48)))

/-- Cell status record (Table 8.11). -/
def State.statusRecord (s : State) (c : Nat) : List Word :=
  let x := s.cell c
  words [
    x.state.code + 8 * ofBool x.htrActive + 16 * ofBool x.biasClamped + 32 * ofBool x.htrLimited + 2 ^ 8 * x.reason
      + 2 ^ 12 * x.failCount + 2 ^ 16 * unsigned 16 (s.biasOut c),
    s.htrTarget c + 2 ^ 16 * x.usable, unsigned 32 x.integ, unsigned 32 (x.ests.headD 0),
    residRms x.ests + 2 ^ 16 * x.coherence, unsigned 16 x.sumRes + 2 ^ 16 * x.sinceEst, x.estPeriod, x.suspects]

/-- A drift as the quality record shows it; 0x8000 where no month has given one. -/
def driftField (d : Option Int) : Nat := match d with
  | some v => unsigned 16 v
  | none => 0x8000

/-- Mean extinction ratio of the last 16 qualifying periods, 0.1 dB. -/
def meanEr (l : List Nat) : Nat := if l = [] then 0 else min 65535 (l.foldl (· + ·) 0 / l.length)

/-- ER was measured in the last 60 s. -/
def State.erValid (s : State) (q : CellQuality) : Bool := match q.erAt with
  | some t => decide (s.clk ≤ t + 60000000000)
  | none => false

/-- Cell quality record (Table 11.4). -/
def State.qualityRecord (s : State) (c : Nat) : List Word :=
  let q := s.quality c
  let x := s.cell c
  words [
    meanEr q.ers + 2 ^ 16 * ofBool q.floor + 2 ^ 17 * ofBool (s.erValid q), residRms x.ests + 2 ^ 16 * x.coherence,
    driftField q.biasDrift + 2 ^ 16 * driftField q.htrDrift,
    q.yearsBias + 2 ^ 8 * q.yearsHtr + 2 ^ 16 * ofBool q.warn]

/-- Lane eye record (Table 11.5). -/
def State.eyeRecord (s : State) (n : Nat) : List Word :=
  let e := tget {} s.cal.eyes n
  words [e.width + 2 ^ 16 * e.height, e.ber, e.sec, ofBool e.valid + 2 * ofBool e.stale + 4 * ofBool e.part]

/-- Depth of a queue: cells and frames (R343). A flood copy counts its shared cells in every queue that holds them. -/
def State.depthRecord (s : State) (sel : Frame → Bool) : List Word :=
  let l := s.tm.frames.filter sel
  words [l.foldl (fun n f => n + (tget ⟨.mirror 0, 0⟩ s.tm.bufs f.buf).cells) 0, l.length]

/-- Frames of VOQ v (R325), and of fabric egress queue q (R326). -/
def State.inVoq (s : State) (v : Nat) (f : Frame) : Bool := !f.fabric && voq (s.groupOf f) f.dst f.cls == v
def inFabricQueue (q : Nat) (f : Frame) : Bool := f.fabric && 8 * f.dst + f.cls == q

/-- A gate list bank of a port: 64 entries of 8 bytes. -/
def State.gateBank (s : State) (p bank : Nat) : List Word :=
  let l := (if bank = 0 then (s.pq p).gate else (s.pq p).gatePend).getD []
  words ((List.range 128).map fun i =>
    match l[i / 2]? with
    | some e => if i % 2 = 0 then e.1 else e.2
    | none => 0)

/-- One window: first and last address, bytes of a record, whether the read of a first word latches the record. -/
structure Window where
  first : Nat
  last : Nat
  size : Nat
  latch : Bool
  deriving DecidableEq, Repr

/-- The windows, by number. -/
def windows : List Window := [
  ⟨0x1000000, 0x113FFFF, 0x500, false⟩, ⟨0x1400000, 0x1421FFF, 0x20, true⟩, ⟨0x1480000, 0x14C3FFF, 0x40, false⟩,
  ⟨0x1500000, 0x15267FF, 0x10, false⟩, ⟨0x1530000, 0x1551FFF, 0x20, false⟩, ⟨0x1560000, 0x1570FFF, 0x10, true⟩,
  ⟨0x1580000, 0x1581FFF, 0x10, true⟩, ⟨0x1800000, 0x1AFFFFF, 0x60, true⟩, ⟨0x1B00000, 0x1B007FF, 8, true⟩,
  ⟨0x1B01000, 0x1B01FFF, 0x40, true⟩, ⟨0x1C00000, 0x1CBFFFF, 8, true⟩, ⟨0x1CC0000, 0x1CC3FFF, 8, true⟩,
  ⟨0x1CD0000, 0x1D4FFFF, 0x20, true⟩, ⟨0x1D50000, 0x1D8FFFF, 0x200, true⟩, ⟨0x2000000, 0x2C100FF, 0x10, true⟩,
  ⟨0x2C20000, 0x2C200FF, 0x10, true⟩, ⟨0x2C30000, 0x2C308FF, 0x10, true⟩]

/-- The words of record n of window `k` as they stand; `a` is the record's address. -/
def State.recordNow (s : State) (k n a : Nat) : List Word :=
  match k with
  | 0 => wordsOf ((s.swatch n).bytes n) 320
  | 1 => s.statusRecord n
  | 2 => words ((List.range 16).map (s.coefWord n))
  | 3 => words ((List.range 4).map (s.entryWord n))
  | 4 => words ((List.range 8).map (s.driveWord n))
  | 5 => s.qualityRecord n
  | 6 => s.eyeRecord n
  | 7 => wordsOf (s.rule n) 24
  | 8 => words [tget 0 s.cls.ranges n % 2 ^ 32, tget 0 s.cls.ranges n / 2 ^ 32]
  | 9 => wordsOf (tget [] s.cls.graph n) 16
  | 10 => s.depthRecord (s.inVoq n)
  | 11 => s.depthRecord (inFabricQueue n)
  | 12 => wordsOf (s.policer n).record 8
  | 13 => s.gateBank (n / 2) (n % 2)
  | _ => words [s.cntOf a % 2 ^ 32, s.cntOf a / 2 ^ 32 % 2 ^ 32, s.cntOf a / 2 ^ 64 % 256, 0]

/-- The window in which an address lies, with its number. -/
def windowAt (a : Nat) : Option (Window × Nat) :=
  (windows.zipIdx.find? (fun e => decide (e.1.first ≤ a ∧ a ≤ e.1.last)))

/-- Number of the record that holds an address, and the record's address. -/
def Window.recordOf (w : Window) (a : Nat) : Nat := (a - w.first) / w.size
def Window.recordAddr (w : Window) (a : Nat) : Nat := w.first + w.recordOf a * w.size

/-- A read of word `i` of the counter record at `ra`: word 0 latches words 1 and 2; without a latch they read 0 (R120,
R364). -/
def State.counterWord (s : State) (ra i : Nat) : Word × State :=
  if i = 0 then (BitVec.ofNat 32 (s.cntOf ra), { s with obs := { s.obs with cntLatch := some (ra, s.cntOf ra) } })
  else match s.obs.cntLatch with
  | some (la, v) =>
    (if la ≠ ra then 0 else if i = 1 then BitVec.ofNat 32 (v / 2 ^ 32) else if i = 2 then BitVec.ofNat 32 (v / 2 ^ 64 % 256)
      else 0, s)
  | none => (0, s)

/-- A read of one word of a window: the first word of a latching window takes the whole record; its other words come from
the copy that a read of the first word has latched (R191), or from the record as it stands where none has. -/
def State.windowWord (s : State) (w : Window) (k a : Nat) : Word × State :=
  let ra := w.recordAddr a
  let i := (a - ra) / 4
  if 14 ≤ k then s.counterWord ra i
  else if i = 0 ∧ w.latch = true then
    let r := s.recordNow k (w.recordOf a) ra
    (lget 0 r 0, { s with winLatch := tput s.winLatch k (ra, r) })
  else match tget? s.winLatch k with
  | some (la, r) => (lget 0 (if la = ra then r else s.recordNow k (w.recordOf a) ra) i, s)
  | none => (lget 0 (s.recordNow k (w.recordOf a) ra) i, s)

end Sys2Proof.Machine
end

