-- ==== Sys2Proof/Machine/HostAccess.lean ====
section
/-!
DEFINITION. Accesses to the register space (chapter 25): range rules, locked bits, access codes, reads that clear or
latch, the windows, and the host's own accesses (R2 to R7, R189, R191, R518 to R525).
-/

namespace Sys2Proof.Machine

/-! ### Range rules -/

/-- Bits of the fields of a register that satisfy a test. -/
def fieldMask (fs : List FieldDesc) (p : FieldDesc → Bool) : Nat :=
  fs.foldl (fun m f => if p f then m ||| (2 ^ (f.hi + 1) - 2 ^ f.lo) else m) 0

/-- Codes under which a field takes the value written. -/
def Acc.writes : Acc → Bool
  | .rw | .rwl | .rws => true
  | .ro | .wo | .w1c | .w1s | .rc => false

def inRange (x lo hi : Nat) : Bool := decide (lo ≤ x ∧ x ≤ hi)
def inRangeInt (x lo hi : Int) : Bool := decide (lo ≤ x ∧ x ≤ hi)

/-- Bases of rings may be written while the ring is disabled, and are 4 KiB aligned (R439). -/
def baseOk (en : Bool) (low : Bool) (v : Nat) : Bool := !en && (!low || v % 4096 == 0)

/-- Range rules of the CX block. -/
def State.rangeCx (s : State) (o v : Nat) : Bool :=
  if 0x100 ≤ o ∧ o < 0x500 then
    let en := s.flag (Reg.CX_RING_CTL_EN ((o - 0x100) / 64))
    match o % 64 with
    | 0x08 | 0x10 => baseOk en true v
    | 0x0C | 0x14 => baseOk en false v
    | _ => true
  else if o = 0x808 then baseOk (s.flag Reg.CX_EVT_CTL_EN) true v
  else if o = 0x80C then baseOk (s.flag Reg.CX_EVT_CTL_EN) false v
  else if 0x1000 ≤ o ∧ o < 0x1200 then
    let q := (o - 0x1000) / 64
    match o % 64 with
    | 0x08 => baseOk (s.flag (Reg.CX_FQ_CTL_TX_EN q)) true v
    | 0x0C => baseOk (s.flag (Reg.CX_FQ_CTL_TX_EN q)) false v
    | 0x10 => baseOk (s.flag (Reg.CX_FQ_CTL_RX_EN q)) true v
    | 0x14 => baseOk (s.flag (Reg.CX_FQ_CTL_RX_EN q)) false v
    | _ => true
  else true

/-- Range rules of THM: no threshold above Table 23.1. -/
def rangeThm (o v : Nat) : Bool :=
  match o with
  | 0x00 => bitsOf v 3 2 != 3 && inRange (bitsOf v 14 4) 2 1024
  | 0x04 => decide (v % 65536 ≤ 190 ∧ v / 65536 ≤ 200)
  | 0x08 => decide (v % 65536 ≤ 220)
  | 0x0C => decide (v % 65536 ≤ 150 ∧ v / 65536 ≤ 160)
  | 0x10 => decide (v % 65536 ≤ 180)
  | _ => true

/-- Range rules of TIM. -/
def State.rangeTim (s : State) (o v : Nat) : Bool :=
  if 0x40 ≤ o ∧ o < 0x50 then bitsOf v 2 1 != 0
  else if 0x100 ≤ o ∧ o < 0x180 then
    let n := (o - 0x100) / 32
    match o % 32 with
    | 0x0C => decide (v < 1000000000)
    | 0x10 => v == 0 || decide (s.fld (Reg.TIM_TRIG_OUT_WIDTH_WIDTH n) + 8 ≤ v)
    | 0x14 => inRange v 8 1000000000
        && (s.fld (Reg.TIM_TRIG_OUT_PERIOD_PERIOD n) == 0 || decide (v + 8 ≤ s.fld (Reg.TIM_TRIG_OUT_PERIOD_PERIOD n)))
    | _ => true
  else match o with
  | 0x00 => bitsOf v 1 0 != 3
  | 0x18 => inRange v 10 1000000000
  | 0x20 => inRange (bitsOf v 31 16) 1 8000
  | 0x24 => decide (10 ≤ bitsOf v 15 0 ∧ 2 ≤ bitsOf v 23 16)
  | 0x38 => inRange (bitsOf v 20 2) 1 500000
  | _ => true

/-- Range rules of CAL, ADC, DAC and LE. -/
def rangeLight (b o v : Nat) : Bool :=
  match b, o with
  | 0xA, 0x00 => decide (16 ≤ bitsOf v 11 4) && inRange (bitsOf v 31 20) 2 3600
  | 0xA, 0x04 => inRange (bitsOf v 9 0) 1 1000 && inRange (bitsOf v 18 12) 1 100 && decide (1 ≤ bitsOf v 27 20)
  | 0xA, 0x10 => inRange v 10 200
  | 0xB, 0x0C => inRange (bitsOf v 10 0) 2 1024 && decide (1 ≤ bitsOf v 23 16)
  | 0xC, 0x00 => inRange (bitsOf v 8 0) 1 256 && decide (1 ≤ bitsOf v 31 16)
  | 0xC, 0x0C => decide (v ≤ 4351)
  | 0xD, 0x00 => inRange (bitsOf v 12 8) 10 16 && decide (1 ≤ bitsOf v 23 16)
  | 0xD, 0x04 => inRangeInt (signed 16 v) (-5000) 0 && decide (16 ≤ bitsOf v 27 16)
  | 0xD, 0x08 => inRangeInt (signed 16 v) 2000 9000
  | 0xE, 0x08 => inRangeInt (signed 16 v) (-4500) 0 && inRangeInt (signed 16 (v / 65536)) 0 1400
  | 0xE, 0x0C => inRange (bitsOf v 7 0) 5 200
  | _, _ => true

/-- A priority code point whose colour is 3 is refused (R345). -/
def noColour3 (v : Nat) : Bool := (List.range 8).all (fun k => v / 4 ^ k % 4 != 3)

/-- Bits of PORT_CTL that the port plan permits: EN of a planned port, PAUSE or PFC by its record (Table 4.6). -/
def State.portPermit (s : State) (p : Nat) : Nat := match s.portPlan p with
  | some r => 1 + (if bitAt r.1 19 then 6 else 0) + (if bitAt r.1 20 then 24 else 0)
  | none => 0

/-- Range rules of a port's registers. -/
def State.rangePort (s : State) (p o v : Nat) : Bool :=
  match o with
  | 0x000 => clearBits (v % 32) (s.portPermit p) == 0
  | 0x00C => decide (1 ≤ v / 65536 ∧ v / 65536 < v % 65536)
  | 0x0C0 => bitsOf v 28 27 != 3
  | 0x0C4 => noColour3 (v % 65536) && inRangeInt (signed 8 (v / 65536)) (-64) 64
  | _ => true

/-- Range rules of the packet engine's blocks. -/
def State.rangePacket (s : State) (a v : Nat) : Bool :=
  if a = 0x300000 then inRange v 4 16
  else if a = 0x400004 then !(inRange (v % 65536) 1 9)
  else if a = 0x501000 then decide (v ≤ 1000000)
  else if 0x600000 ≤ a ∧ a < 0x600100 then
    if a % 16 = 0 then bitsOf v 2 1 != 3 && (bitsOf v 2 1 != 1 || bitsOf v 19 11 != s.moduleId)
    else decide (v % 256 ≤ 144) && inRange (bitsOf v 27 8) 36 786432
  else if a = 0x600104 then inRange v 1 144
  else true

/-- Does a register's formed value keep every range rule of its chapter? -/
def State.rangeOk (s : State) (a v : Nat) : Bool :=
  let o := a % 0x10000
  if a < 0x100000 then
    match a / 0x10000 with
    | 0x0 => o != 0x28 || v % 32 == 0 || inRange (v % 32) 4 16
    | 0x1 => s.rangeCx o v
    | 0x3 => o != 0x04 || inRange v 1 60
    | 0x4 => rangeThm o v
    | 0x7 => s.rangeTim o v
    | 0x8 => !(0x40 ≤ o && o < 0xC0 && o % 16 == 4) || inRangeInt (signed 32 v) (-100000) 100000
    | 0x9 => !(o == 0x20 || o == 0x24) || decide (v % 8 ≤ 4)
    | 0xF => o != 0x1C || (inRangeInt (signed 32 v) (-100000) 100000 && !s.orb.running && s.orb.armed.isNone)
    | b => rangeLight b o v
  else if a < 0x200000 then true
  else if a < 0x300000 then s.rangePort ((a - 0x200000) / 0x1000) (a % 0x1000) v
  else s.rangePacket a v

/-- Range event of the chapter that defines a port's register (Table 25.5). -/
def portRangeCode (o : Nat) : Nat :=
  if o < 0x40 then 0x1103 else if o < 0x60 then 0x1201 else if o < 0x80 then 0x1309 else if o < 0xE0 then 0x1406
  else if o < 0xF0 then 0x1501 else if o < 0x100 then 0x0709 else 0x1406

/-- Range event of a register block (Tables 20.14 to 25.8). -/
def blockRangeCode (b : Nat) : Nat :=
  match b with
  | 0x1 => 0x0105
  | 0x2 => 0x0205
  | 0x4 => 0x0407
  | 0x5 => 0x0506
  | 0x6 => 0x0604
  | 0x7 => 0x0709
  | 0x8 => 0x0810
  | 0x9 => 0x090A
  | 0xA => 0x0A07
  | 0xE => 0x0E06
  | _ => 0x0F08

/-- The range event of a register, with the field's value where the event carries one (Table 25.8). -/
def State.rangeEvent (s : State) (a v : Nat) : State :=
  if a < 0x100000 then
    match a / 0x10000 with
    | 0x0 => s.raise 0x0014 [(4, a), (1, v % 32)]
    | 0x3 => s.raise 0x0305 [(4, a), (1, v % 64)]
    | 0xB => s.adcRange a
    | 0xC => s.dacRange a
    | 0xD => s.raiseLoop 0x0D06 a [(4, a)]
    | b => s.raise (blockRangeCode b) [(4, a)]
  else if a < 0x200000 then s.raise 0x1005 [(4, a)]
  else if a < 0x300000 then s.raise (portRangeCode (a % 0x1000)) [(4, a)]
  else if a < 0x400000 then s.raise 0x1201 [(4, a)]
  else if a < 0x500000 then s.raise 0x1309 [(4, a)]
  else if a < 0x600000 then s.raise 0x1406 [(4, a)]
  else s.raise 0x1501 [(4, a)]

/-! ### Registers whose write is an operation -/

/-- Clears GEN_ALERT.EVENT; a routed event of the same clock keeps it set with its own code (R523). -/
def State.alertClear (s : State) (concurrent : Option Nat) : State :=
  match concurrent with
  | some code => { s with alertEvent := true, alertCode := code }
  | none => { s with alertEvent := false }

/-- W1C flags of GEN_RESET_CAUSE (Table 3.9). -/
def State.causeClear (s : State) (v : Nat) : State :=
  let r := s.ret
  { s with ret := { r with
    rstStuck := r.rstStuck && !bitAt v 20, tripSeen := r.tripSeen && !bitAt v 21
    shutdownSeen := r.shutdownSeen && !bitAt v 22 } }

/-- A vector is unmasked: it is raised if it came due while it was masked (R429). -/
def State.unmask (s : State) (n : Nat) : State :=
  let x := lget {} s.cx.msix n
  { s with cx := { s.cx with msix := lset s.cx.msix n { x with
    masked := false, pending := false, raised := if x.pending then x.raised + 1 else x.raised } } }

/-- A vector is masked. -/
def State.maskVector (s : State) (n : Nat) : State :=
  let x := lget {} s.cx.msix n
  { s with cx := { s.cx with msix := lset s.cx.msix n { x with masked := true } } }

/-- A word of the MSI-X table: address and data words are kept, the control word masks or unmasks (R429). -/
def State.msixWrite (s : State) (a v : Nat) : State :=
  let n := (a - 0x1F000) / 16
  if a % 16 ≠ 12 then s.setRegWord a (BitVec.ofNat 32 v)
  else if bitAt v 0 then s.maskVector n
  else s.unmask n

/-- Sticky flags of the selected lane are cleared (Table 9.17). -/
def Core.clearFlags (x : Core) (v : Nat) : Core :=
  { x with
    agstat := BitVec.ofNat 8 (clearBits x.agstat.toNat (v / 256))
    st := { x.st with
      ovs := x.st.ovs && !bitAt v 0, aov := x.st.aov && !bitAt v 1, scaled := x.st.scaled && !bitAt v 2
      dz := x.st.dz && !bitAt v 3 } }

def State.laneFlagsClear (s : State) (v : Nat) : State :=
  let c := CoreRef.lane (Fin.ofNat 64 (s.fld Reg.LE_LANE_SEL_LANE))
  s.setCore c ((s.core c).clearFlags v)

/-- A write of LE_LANE_CMD (Table 9.18): actions 0 and 3 are refused. -/
def State.laneCmdWrite (s : State) (v : Nat) : State :=
  match bitsOf v 10 9 with
  | 1 => s.laneRestart (v % 64) (bitAt v 8)
  | 2 => s.laneSoft (v % 64) (bitAt v 8)
  | _ => s.raiseLoop 0x0D06 0xD0120 [(4, 0xD0120)]

/-- A write of ADC_DIRECT: GO starts a request; while one is pending nothing is taken (R235). -/
def State.adcDirectWrite (s : State) (v : Nat) : State :=
  if bitAt v 15 then s.adcDirect (v % 16384)
  else if s.adc.direct.isSome then s.adcRange 0xB0020
  else s.setFld Reg.ADC_DIRECT_CHANNEL (v % 16384)

/-- A write of LANE_CTL: EN belongs to fabric lanes; on a member lane a value other than the one it reads is refused
(Table 12.5). -/
def State.laneCtlWrite (s : State) (n v : Nat) : State :=
  if n < 256 ∧ bitAt v 0 ≠ s.memberEn n then s.rangeEvent (0x100000 + 0x100 * n) v
  else
    let s1 := if n < 256 ∨ bitAt v 0 = s.flag (Reg.LANE_CTL_EN n) then s
      else if bitAt v 0 then s.fabricEnable n
      else s.fabricDisable n
    if bitAt v 1 then s1.eyeRequest n else s1

/-- Doorbells of a frame queue (R447, R449): descriptors already fetched stay. -/
def State.fqDoor (s : State) (q : Nat) (tx : Bool) (v : Nat) : State :=
  let d := if tx then s.fqTxOf q else s.fqRxOf q
  match d.ring v d.descs with
  | some x => if tx then s.setFqTx q x else s.setFqRx q x
  | none => s.doorbellBad ((if tx then 16 else 17) + 2 * q) v

/-- Doorbells of the command rings; entries already fetched stay (R433, R434). -/
def State.cxOwn (s : State) (o v : Nat) : Option State :=
  if 0x100 ≤ o ∧ o < 0x500 then
    let r : Fin 16 := Fin.ofNat 16 ((o - 0x100) / 64)
    match o % 64 with
    | 0x18 => some (s.sqRing r v ((s.ring r).fetched.take (seqDiff v (s.ring r).cons)))
    | 0x1C => some (s.cqRing r v)
    | _ => none
  else if o = 0x810 then some { s with cx := { s.cx with evtDb := v } }
  else if 0x1000 ≤ o ∧ o < 0x1200 then
    match o % 64 with
    | 0x18 => some (s.fqDoor ((o - 0x1000) / 64) true v)
    | 0x1C => some (s.fqDoor ((o - 0x1000) / 64) false v)
    | _ => none
  else if 0xF000 ≤ o ∧ o < 0xF400 then some (s.msixWrite (0x10000 + o) v)
  else none

/-- W1C flags of RED_HB (Table 22.5). -/
def State.hbClear (s : State) (v : Nat) : State :=
  { s with red := { s.red with
    lineFault := s.red.lineFault && !bitAt v 4, ckptFault := s.red.ckptFault && !bitAt v 5 } }

/-- The words of a port that have a write operation of their own. -/
def State.portOwn (s : State) (p o v : Nat) : Option State :=
  let w := BitVec.ofNat 32 v
  if 0x48 ≤ o ∧ o ≤ 0x50 then some (s.stormWrite p (Fin.ofNat 3 ((o - 0x48) / 4)) w)
  else if o = 0xE4 then some (s.samplerSet p false w)
  else if o = 0xE8 then some (s.samplerSet p true w)
  else if 0x100 ≤ o ∧ o < 0x148 then
    some (if o % 8 = 0 then (s.setRate p ((o - 0x100) / 8) w).settle else (s.setBurst p ((o - 0x100) / 8) w).settle)
  else none

/-- Registers whose write is an operation with a rule of its own; `none` for a register of plain fields. -/
def State.writeOwn (s : State) (a v : Nat) : Option State :=
  if 0x10000 ≤ a ∧ a < 0x20000 then s.cxOwn (a - 0x10000) v
  else if 0x100000 ≤ a ∧ a < 0x120000 then some (if a % 0x100 = 0 then s.laneCtlWrite ((a - 0x100000) / 0x100) v else s)
  else if 0x200000 ≤ a ∧ a < 0x300000 then s.portOwn ((a - 0x200000) / 0x1000) (a % 0x1000) v
  else if isSafCfg a then some (s.safCfgWrite a (BitVec.ofNat 32 v))
  else match a with
  | 0x0000C => some (if bitAt v 4 then s.alertClear none else s)
  | 0x00024 => some (s.causeClear v)
  | 0x90008 => some (s.hbClear v)
  | 0xB0000 => some (s.refHost (bitAt v 0))
  | 0xB0010 => some ((s.clearFlagged (v % 65536)).forcePairs (v / 65536))
  | 0xB0020 => some (s.adcDirectWrite v)
  | 0xD000C => some (s.loopCmd (v % 8192) (bitsOf v 18 16) (bitAt v 19))
  | 0xD010C => some (s.laneFlagsClear v)
  | 0xD0120 => some (s.laneCmdWrite v)
  | 0xE0010 => some (s.monSel (BitVec.ofNat 32 v))
  | 0xE0040 => some (s.routeCtl (BitVec.ofNat 32 v))
  | _ => none

/-! ### Plain fields -/

/-- Locked bits of a register (R5, R90): LOCK_LIST's, and the fields that THERMAL governs. -/
def State.lockedBits (s : State) (a : Nat) (fs : List FieldDesc) : Nat :=
  if s.canvas.active.isNone then 0
  else (tget 0 s.locks a).toNat ||| (if a / 0x10000 = 0x4 then fieldMask fs (fun f => f.acc == .rwl) else 0)

/-- The value to be written: reserved bits 0, locked bits at their present value (R3, R5). -/
def formed (present v locked : Nat) (fs : List FieldDesc) : Nat :=
  clearBits (v &&& fieldMask fs (fun _ => true)) locked ||| (present &&& locked)

/-- The stored word after a write of the formed value (R4): writable fields take it, W1C fields lose the bits set. -/
def stored (old v : Nat) (fs : List FieldDesc) : Nat :=
  let w := fieldMask fs (fun f => f.stored && f.acc.writes)
  let c := fieldMask fs (fun f => f.stored && f.acc == .w1c)
  clearBits (clearBits old w) (v &&& c) ||| (v &&& w)

/-- RED_FAILu is written (Table 22.8). -/
def CuUnit.setRecord (u : CuUnit) (v : Nat) : CuUnit :=
  { u with cause := v % 8, step := bitsOf v 7 3, times := v / 65536 }

/-- Ikile ports whose PORT_EN changed train or go down. -/
def State.iklPorts (s : State) (was now : Nat) : State :=
  s.each (List.range 8) fun s n =>
    if bitAt was n = bitAt now n then s else if bitAt now n then s.portTrain n else s.portDown n 2

/-- A path check that is switched off forgets its consecutive periods (Table 5.7). -/
def State.pathReset (s : State) : State :=
  { s with mx := { s.mx with far := s.mx.far.foldl (fun t e => tset {} t e.1 { e.2 with pathRun := 0 }) [] } }

/-- CX_RINGn_CTL after its fields are stored: EN set brings the ring out of ERROR, RESUME reads the entry again. -/
def State.ringCtl (s : State) (r : Fin 16) (was v : Nat) : State :=
  let s1 := if bitAt v 0 ∧ bitAt was 0 = false then (s.setFld (Reg.CX_RING_CTL_EN r) 0).ringOn r else s
  if bitAt v 1 then s1.ringAgain r (s1.ring r).fetched else s1

/-- CX_FQq_CTL: a direction that is switched on leaves its error (R447). -/
def State.fqCtl (s : State) (q was v : Nat) : State :=
  let s1 := if bitAt v 0 ∧ bitAt was 0 = false then s.setFqTx q { s.fqTxOf q with error := false } else s
  if bitAt v 1 ∧ bitAt was 1 = false then s1.setFqRx q { s1.fqRxOf q with error := false } else s1

/-- TIM_TRIG_OUTn_CTL: EN cleared makes the pin inactive; ARM takes the schedule (R396). -/
def State.trigCtl (s : State) (n was v : Nat) : State :=
  let s1 := if bitAt was 0 ∧ bitAt v 0 = false then s.trigDisable n else s
  if bitAt v 2 then s1.trigArm n else s1

/-- PORT_CTL after its other fields are stored: EN starts or stops the port (R279). -/
def State.portCtl (s : State) (p was v : Nat) : State :=
  let s1 := s.setFld (Reg.PORT_CTL_EN p) (was % 2)
  (if bitAt v 0 = bitAt was 0 then s1 else if bitAt v 0 then s1.portEnable p else s1.portDisable p).settle

/-- What a write does beside storing its fields; `was` is the word before it. -/
def State.writeEffect (s : State) (a was v : Nat) : State :=
  if 0x10100 ≤ a ∧ a < 0x10500 ∧ a % 64 = 0 then s.ringCtl (Fin.ofNat 16 ((a - 0x10100) / 64)) was v
  else if 0x11000 ≤ a ∧ a < 0x11200 ∧ a % 64 = 0 then s.fqCtl ((a - 0x11000) / 64) was v
  else if 0x70100 ≤ a ∧ a < 0x70180 ∧ a % 32 = 0 then s.trigCtl ((a - 0x70100) / 32) was v
  else if 0x200000 ≤ a ∧ a < 0x300000 ∧ a % 0x1000 = 0 then s.portCtl ((a - 0x200000) / 0x1000) was v
  else match a with
  | 0x00028 => if bitAt v 8 then s.continueStart else s
  | 0x10000 => if bitAt v 0 then s.ringsGo else s
  | 0x40000 => s.throttleUpdate
  | 0x80000 => s.iklPorts (was % 256) (v % 256)
  | 0x90020 => { s with red := { s.red with a := s.red.a.setRecord v } }
  | 0x90024 => { s with red := { s.red with b := s.red.b.setRecord v } }
  | 0xE000C => if bitAt v 8 then s else s.pathReset
  | _ => s

/-- A write of one register (R2 to R5, R454): an address that names none discards it. -/
def State.writeReg (s : State) (a v : Nat) : State :=
  match s.writeOwn a v with
  | some t => t
  | none =>
    match regAt a with
    | none => s
    | some (d, _) =>
      let present := (s.regRead a).toNat
      let lk := s.lockedBits a d.fields
      let f := formed present v lk d.fields
      let s1 := if (v &&& lk) ≠ (present &&& lk) then s.raise 0x0010 [(4, a)] else s
      if s1.rangeOk a f then
        (s1.setRegWord a (BitVec.ofNat 32 (stored (s1.regWord a).toNat f d.fields))).writeEffect a present f
      else s1.rangeEvent a f

/-! ### Reads -/

/-- BM_ERR_INFO is read: BM_ERR_ADDR shows the same capture, VALID is cleared (Table 21.10). -/
def State.errInfoLatch (s : State) : State :=
  { s with
    readData := s.regRead 0x20104
    bm := { s.bm with errAddrLatch := s.bm.errAddr, errValid := false } }

/-- CX_STATE_EPOCH is read: the event sequence and every ring's CONS and PROD are latched (R446). -/
def State.epochLatch (s : State) : State :=
  { s with
    readData := s.regRead 0x10004
    cx := { s.cx with
      evtLatch := s.cx.evtSeq
      rings := s.cx.rings.map (fun g => { g with consLatch := g.cons, prodLatch := g.devSeq }) } }

/-- Registers whose read latches others or takes from a FIFO. -/
def State.readLatch (s : State) (a : Nat) : Option State :=
  if 0x70080 ≤ a ∧ a < 0x700D0 ∧ a % 16 = 0 then some (s.capRead ((a - 0x70080) / 16))
  else match a with
  | 0x010004 => some s.epochLatch
  | 0x020104 => some s.errInfoLatch
  | 0x070008 => some s.timNowLatch
  | 0x070030 => some s.jumpLoLatch
  | 0x0C0010 => some s.dacMonData
  | 0x0D0020 => some s.loopPeriodLo
  | 0x0E0014 => some s.monData
  | 0x0F0014 => some s.orbCycleLo
  | 0x400010 => some s.fdbEpochLatch
  | _ => none

/-- An RC count of a sequencer replica. -/
def State.setVoteCount (s : State) (n v : Nat) : State :=
  { s with orb := { s.orb with replicas := lset s.orb.replicas n { lget {} s.orb.replicas n with count := v } } }

/-- An RC field takes a value: those that the register word does not store, by their register; else the word's bits. -/
def State.setRc (s : State) (a : Nat) (f : FieldDesc) (v : Nat) : State :=
  if f.stored then s.setRegWord a (BitVec.ofNat 32 (putBits (s.regWord a).toNat f.hi f.lo v))
  else if 0x200C0 ≤ a ∧ a < 0x200F0 then s.setBmTarget ((a - 0x200C0) / 4) { s.bmTarget ((a - 0x200C0) / 4) with lockMax := v }
  else if 0xB0040 ≤ a ∧ a < 0xB0080 then s.setPair ((a - 0xB0040) / 4) { s.pair ((a - 0xB0040) / 4) with flagsSeen := v }
  else match a with
  | 0x20104 => { s with bm := { s.bm with errValid := v != 0 } }
  | 0x30000 => { s with pwr := { s.pwr with wakeRefused := v } }
  | 0x40020 => { s with thm := { s.thm with htrMax := v } }
  | 0x50008 => { s with saf := { s.saf with longest := v } }
  | 0xD0114 =>
    let c := CoreRef.lane (Fin.ofNat 64 (s.fld Reg.LE_LANE_SEL_LANE))
    s.setCore c { s.core c with cycMax := v }
  | 0xE0048 => { s with mx := { s.mx with worstTime := v } }
  | 0xF0020 => s.setVoteCount (f.lo / 8) v
  | _ => s

/-- RC fields after a read: 0, or the update that the module made in the same clock (R7). -/
def State.clearRc (s : State) (a : Nat) (upd : Option FieldUpdate) (fs : List FieldDesc) : State :=
  s.each (fs.filter (fun f => f.acc == .rc)) fun s f =>
    s.setRc a f (match upd with
      | some u => if u.hi = f.hi ∧ u.lo = f.lo then min u.amount (2 ^ (f.hi + 1 - f.lo) - 1) else 0
      | none => 0)

/-- A read of one register, its word in `readData`. -/
def State.readReg (s : State) (a : Nat) (upd : Option FieldUpdate) : State :=
  match s.readLatch a with
  | some t => t
  | none =>
    let t := { s with readData := s.regRead a }
    match regAt a with
    | some (d, _) => t.clearRc a upd d.fields
    | none => t

/-! ### Windows (R454, R519) -/

/-- Bytes of a word that the enables select. -/
def beMask (be : Nat) : Nat := (List.range 4).foldl (fun m k => if bitAt be k then m ||| (255 * 256 ^ k) else m) 0

/-- A read of the word at `a` of a window; no window there reads 0. -/
def State.readWindow (s : State) (a be : Nat) : State :=
  match windowAt a with
  | some (w, k) =>
    let r := s.windowWord w k a
    { r.2 with readData := BitVec.ofNat 32 (r.1.toNat &&& beMask be) }
  | none => { s with readData := 0 }

/-- Range event of a window, by number: a write into one is discarded (R519). -/
def State.windowEvent (s : State) (k a : Nat) : State :=
  match k with
  | 0 => s.raise 0x0E06 [(4, a)]
  | 1 | 2 => s.raiseLoop 0x0D06 a [(4, a)]
  | 3 => s.adcRange a
  | 4 => s.dacRange a
  | 5 | 6 => s.raise 0x0A07 [(4, a)]
  | 7 | 8 | 9 => s.raise 0x1201 [(4, a)]
  | 10 | 11 | 12 | 13 => s.raise 0x1406 [(4, a)]
  | _ => s.raise 0x1601 [(4, a)]

/-- A write of the coefficient window: the bytes enabled enter the staging, the last word commits it (R189). -/
def State.coefStage (s : State) (cell w be v : Nat) : State :=
  if w = 15 then s.coefCommit cell
  else
    let old := (lget 0 (s.stageFor cell) w).toNat
    s.coefWrite cell w (BitVec.ofNat 32 (clearBits old (beMask be) ||| (v &&& beMask be)))

/-- A write into the word at `a` of a window; outside them it is discarded. -/
def State.writeWindow (s : State) (a be v : Nat) : State :=
  match windowAt a with
  | some (w, k) =>
    if k = 2 then s.coefStage (w.recordOf a) ((a - w.recordAddr a) / 4) be v else s.windowEvent k a
  | none => s

/-! ### The host's accesses (R520) -/

/-- Response to a master's access by path and address alone (Table 21.4): 0, 1 NO_PATH or 2 DECODE. -/
def accessCode (m a : Nat) : Nat :=
  match busTarget a with
  | none => 2
  | some t => if bitAt (busPaths m) t then 0 else 1

/-- Why the host port refuses an access of one word; 0 where it is carried out. -/
def hostCode (a be : Nat) : Nat :=
  if accessCode 2 a ≠ 0 then accessCode 2 a
  else if registerRange a ∧ (be ≠ 15 ∨ a % 4 ≠ 0) then 2
  else 0

/-- A host access to one word: all ones or nothing before BAR0 is reached (R64), refused accesses as R457 gives, else `f`.
An address past BAR0's 64 MiB never arrives. -/
def State.hostAccess (s : State) (a be : Nat) (write : Bool) (f : State → State) : State :=
  if 0x4000000 ≤ a then s
  else if s.barUp = false then (if write then s else { s with readData := 0xFFFFFFFF })
  else if hostCode a be = 0 then f (s.granted ((busTarget a).getD 0) 2)
  else
    let t := s.busError 2 (busTarget a) (hostCode a be) a write
    if write then t else { t with readData := 0xFFFFFFFF }

/-- REGISTER_WRITE (R5, R520). -/
def execRegisterWrite (addr be : Nat) (value : Word) (s : State) : Host.Outcome State Fault Refusal :=
  next (s.hostAccess addr be true fun s =>
    if registerRange addr then s.writeReg addr value.toNat else s.writeWindow (addr - addr % 4) be value.toNat)

/-- REGISTER_READ_CLEAR (R7, R520): `upd` is an update of a field in the clock of the read. -/
def execRegisterReadClear (addr be : Nat) (upd : Option FieldUpdate) (s : State) : Host.Outcome State Fault Refusal :=
  next (s.hostAccess addr be false fun s =>
    if registerRange addr then s.readReg addr upd else s.readWindow (addr - addr % 4) be)

/-- WINDOW_RECORD_READ (R191). -/
def execWindowRecordRead (addr : Nat) (s : State) : Host.Outcome State Fault Refusal :=
  next (s.hostAccess addr 15 false fun s =>
    if registerRange addr then s.readReg addr none else s.readWindow (addr - addr % 4) 15)

/-- BM_ERR_INFO_READ as a host access. -/
def execBmErrInfoRead (s : State) : Host.Outcome State Fault Refusal := next (s.hostRead 0 fun s => s.errInfoLatch)

/-- CX_STATE_EPOCH_READ as a host access. -/
def execCxStateEpochRead (s : State) : Host.Outcome State Fault Refusal := next (s.hostRead 0 fun s => s.epochLatch)

/-- GEN_ALERT_CLEAR (R523): `concurrent` is the code of a routed event raised in the same clock. -/
def execGenAlertClear (concurrent : Option Nat) (s : State) : Host.Outcome State Fault Refusal :=
  next (s.hostAct 0 fun s => s.alertClear concurrent)

/-- MSIX_UNMASK (R429). -/
def execMsixUnmask (vector : Nat) (s : State) : Host.Outcome State Fault Refusal :=
  next (s.hostAct 0 fun s => if vector < 64 then s.unmask vector else s)

end Sys2Proof.Machine
end

