-- ==== Sys2Proof/Machine/Bus.lean ====
section
/-!
DEFINITION. Transactions of the bus matrix (chapter 21): what a target answers, arbitration, locked sequences, master
resets, and the bus instructions of the supervisor cores.
-/

namespace Sys2Proof.Machine

/-! ### Memory ranges (R452, R467) -/

/-- A cell's two words in a checkpoint (Table 22.2). -/
def CellLoop.ckptWord0 (x : CellLoop) : Nat :=
  x.state.code + 2 ^ 3 * (x.failCount % 4) + 2 ^ 5 * (x.passRun % 64) + 2 ^ 11 * (x.estCount % 4096)
    + 2 ^ 23 * (x.goodRun % 8)
def CellLoop.ckptWord1 (x : CellLoop) : Nat := x.sinceEst % 65536 + 2 ^ 16 * (x.suspects % 65536)

/-- The state of a code (Table 8.2). -/
def loopStateOf (n : Nat) : LoopState :=
  match n with
  | 0 => .off
  | 1 => .acquire
  | 2 => .track
  | 3 => .model
  | 4 => .dark
  | 5 => .suspect
  | 6 => .stuck
  | _ => .hold

/-- Key of word `i` of a lane's 1 564 checkpointed words: PRIV, then XCH words 6 to 12 of each cell index. -/
def ckptKey (lane i : Nat) : Nat :=
  if i < 1088 then dmKey lane (0x0880 + i) else dmKey lane (0x0440 + 16 * ((i - 1088) / 7) + 6 + (i - 1088) % 7)

/-- The word at an offset of a checkpoint buffer. -/
def Checkpoint.word (c : Checkpoint) (o : Nat) : Nat :=
  if o < 0x40 then
    match o with
    | 0x0 => c.seq
    | 0x4 => c.period
    | 0x8 => c.unit + 2 ^ 16 * c.claim
    | 0xC => c.gen
    | _ => 0
  else if o < 0x62040 then
    let i := (o - 0x40) % 0x1880 / 4
    if i < 1564 then (tget 0 c.dm (ckptKey ((o - 0x40) / 0x1880) i)).toNat else 0
  else if o < 0x6A840 then
    let x := tget {} c.cells ((o - 0x62040) / 8)
    if o % 8 = 0 then x.ckptWord0 else x.ckptWord1
  else if o = 0x6A840 then c.compl
  else 0

/-- A cell's word in a checkpoint is written. -/
def CellLoop.putCkpt (x : CellLoop) (first : Bool) (v : Nat) : CellLoop :=
  if first then
    { x with state := loopStateOf (v % 8), failCount := bitsOf v 4 3, passRun := bitsOf v 10 5, estCount := bitsOf v 22 11, goodRun := bitsOf v 25 23 }
  else { x with sinceEst := v % 65536, suspects := v / 65536 }

/-- A word of a checkpoint buffer is written; the reserved ones are not kept. -/
def Checkpoint.putWord (c : Checkpoint) (o v : Nat) : Checkpoint :=
  if o < 0x40 then
    match o with
    | 0x0 => { c with seq := v }
    | 0x4 => { c with period := v }
    | 0x8 => { c with unit := v % 256, claim := v / 65536 }
    | 0xC => { c with gen := v }
    | _ => c
  else if o < 0x62040 then
    let i := (o - 0x40) % 0x1880 / 4
    if i < 1564 then { c with dm := tset 0 c.dm (ckptKey ((o - 0x40) / 0x1880) i) (BitVec.ofNat 32 v) } else c
  else if o < 0x6A840 then
    let k := (o - 0x62040) / 8
    { c with cells := tput c.cells k ((tget {} c.cells k).putCkpt (o % 8 == 0) v) }
  else if o = 0x6A840 then { c with compl := v }
  else c

/-- Checkpoint memory: two buffers of 512 KiB, nothing behind them. -/
def State.ckptRead (s : State) (a : Nat) : Nat :=
  let o := a - 0x5000000
  if o < 0x80000 then s.red.ckpt0.word o else if o < 0x100000 then s.red.ckpt1.word (o - 0x80000) else 0

def State.ckptWrite (s : State) (a v : Nat) : State :=
  let o := a - 0x5000000
  if o < 0x80000 then { s with red := { s.red with ckpt0 := s.red.ckpt0.putWord o v } }
  else if o < 0x100000 then { s with red := { s.red with ckpt1 := s.red.ckpt1.putWord (o - 0x80000) v } }
  else s

/-- The word at an offset of the flash (Table 23.3): the images of the two Canvas slots, of which the spec gives the bytes;
the words of other regions are free. -/
def State.flashWord (s : State) (o : Nat) : Nat × State :=
  let slot (b : Bytes) (n : Nat) : Nat × State :=
    if n + 4 ≤ b.length then (leAt b n 4, s) else (s.draw.1.toNat, s.draw.2)
  if 0x1000000 ≤ o ∧ o < 0x3000000 then slot s.canvas.slotA.image (o - 0x1000000)
  else if 0x3000000 ≤ o ∧ o < 0x5000000 then slot s.canvas.slotB.image (o - 0x3000000)
  else (s.draw.1.toNat, s.draw.2)

/-- A read of a word of a memory range. -/
def State.memWordRead (s : State) (a : Nat) : Nat × State :=
  if 0x20000000 ≤ a then s.flashWord (a - 0x20000000)
  else if 0x6000000 ≤ a then (s.draw.1.toNat, s.draw.2)
  else if 0x5000000 ≤ a then (s.ckptRead a, s)
  else match Config.loopMemKey ((a - 0x4000000) / 4) with
  | some k => ((tget 0 s.eng.dm k).toNat, s)
  | none => (s.draw.1.toNat, s.draw.2)

/-- A write of a word of a memory range. The flash takes its writes as units (R493) and the live table as the table
maintenance engine's commands: neither changes here. -/
def State.memWordWrite (s : State) (a v : Nat) : State :=
  if 0x6000000 ≤ a then s
  else if 0x5000000 ≤ a then s.ckptWrite a v
  else match Config.loopMemKey ((a - 0x4000000) / 4) with
  | some k => { s with eng := { s.eng with dm := tset 0 s.eng.dm k (BitVec.ofNat 32 v) } }
  | none => s

/-! ### Beats -/

/-- One word of a beat is read: `be` are its strobes. -/
def State.busWordRead (s : State) (a be : Nat) : Nat × State :=
  if be = 0 then (0, s)
  else if registerRange a then
    let t := s.readReg a none
    (t.readData.toNat, t)
  else if a < 0x4000000 then
    let t := s.readWindow a be
    (t.readData.toNat, t)
  else
    let (v, t) := s.memWordRead a
    (v &&& beMask be, t)

/-- One word of a beat is written. -/
def State.busWordWrite (s : State) (a be v : Nat) : State :=
  if be = 0 then s
  else if registerRange a then s.writeReg a v
  else if a < 0x4000000 then s.writeWindow a be v
  else
    let (old, t) := if be = 15 then (0, s) else s.memWordRead a
    t.memWordWrite a (clearBits old (beMask be) ||| (v &&& beMask be))

/-- The four words of a beat at `a`, from word `i` on. -/
def State.beatRead (a strobes : Nat) : Nat → Nat → State → Nat × State
  | 0, _, s => (0, s)
  | n + 1, i, s =>
    let (v, s1) := s.busWordRead (a + 4 * i) (strobes / 16 ^ i % 16)
    let (r, s2) := beatRead a strobes n (i + 1) s1
    (v * 2 ^ (32 * i) + r, s2)

def State.beatWrite (a strobes data : Nat) (s : State) : State :=
  s.each (List.range 4) fun s i => s.busWordWrite (a + 4 * i) (strobes / 16 ^ i % 16) (data / 2 ^ (32 * i) % 2 ^ 32)

/-- The beats of a read burst in ascending address. -/
def State.burstRead : List (BitVec 16 × BitVec 128) → Nat → State → List (BitVec 128) × State
  | [], _, s => ([], s)
  | b :: rest, a, s =>
    let (v, s1) := State.beatRead a b.1.toNat 4 0 s
    let (l, s2) := burstRead rest (a + 16) s1
    (BitVec.ofNat 128 v :: l, s2)

/-- The beats of a write burst in ascending address. -/
def State.burstWrite : List (BitVec 16 × BitVec 128) → Nat → State → State
  | [], _, s => s
  | b :: rest, a, s => burstWrite rest (a + 16) (State.beatWrite a b.1.toNat b.2.toNat s)

/-! ### One transaction (R454, R457) -/

/-- The strobes of a register access: exactly one aligned word. -/
def oneWord (strobes : Nat) : Bool := strobes == 0x000F || strobes == 0x00F0 || strobes == 0x0F00 || strobes == 0xF000

/-- A burst keeps R454: 1 to 16 beats within 256 bytes and one range; one word of a register range. -/
def burstOk (a : Nat) (beats : List (BitVec 16 × BitVec 128)) : Bool :=
  let b := a / 16 * 16
  let n := beats.length
  match busRange a with
  | some r => decide (1 ≤ n ∧ n ≤ 16 ∧ b % 256 + 16 * n ≤ 256 ∧ b + 16 * n ≤ r.2.1 + 1)
      && (!registerRange a || (n == 1 && beats.all (fun x => oneWord x.1.toNat)))
  | none => false

/-- The response of Table 21.4 that R452 to R458 give, before any lock. -/
def State.busCode (s : State) (m a : Nat) (beats : List (BitVec 16 × BitVec 128)) (fails : Bool) : Nat :=
  if accessCode m a ≠ 0 then accessCode m a
  else if busTarget a = some 1 ∧ 1 ≤ s.pwr.state then 5
  else if burstOk a beats = false then 2
  else if fails then 3
  else 0

/-- A transaction that its target serves, or the error it gets: code, data, state. -/
def State.busServe (s : State) (m a : Nat) (write : Bool) (beats : List (BitVec 16 × BitVec 128)) (fails : Bool) :
    Nat × List (BitVec 128) × State :=
  let code := s.busCode m a beats fails
  let s1 := match busTarget a with
    | some t => if code = 1 then s else s.granted t m
    | none => s
  if code ≠ 0 then (code, if write then [] else beats.map (fun _ => 0), s1.busError m (busTarget a) code a write)
  else if write then (0, [], State.burstWrite beats (a / 16 * 16) s1)
  else
    let (l, s2) := State.burstRead beats (a / 16 * 16) s1
    (0, l, s2)

/-- A request is answered. -/
def State.busAnswer (s : State) (r : BusReq) : State :=
  let (code, data, t) := s.busServe r.master.val r.addr r.write r.beats r.fails
  t.emit (.bus r.master.val r.id code data)

/-! ### Waiting and arbitration (R455, R456, R459, R463) -/

/-- A request waits for its target: one without a target or a path is answered at once. -/
def State.targetReady (s : State) (r : BusReq) : Bool :=
  match busTarget r.addr with
  | some t => accessCode r.master.val r.addr != 0 || s.targetFree t r.master.val 4
  | none => true

/-- A master issues: its reset has ended and DRAINED is set (R463). -/
def State.masterReady (s : State) (m : Nat) : Bool := !(s.bmMaster m).inReset && (s.bmMaster m).drained

/-- A request may go before the ones that wait ahead of it. -/
def State.mayGo (s : State) (ahead : List (BusReq × Nat)) (r : BusReq) : Bool :=
  let own := (ahead.map Prod.fst).filter (fun x => x.master == r.master)
  s.masterReady r.master.val && s.targetReady r && decide (own.length < 64)
    && own.all (fun x => x.id != r.id && busTarget x.addr != busTarget r.addr)
    && (r.write || r.master != 2 || own.all (fun x => !x.write))

/-- Priority of a master at a target, BM_PRIm. -/
def State.busPriority (s : State) (m t : Nat) : Nat :=
  if t < 8 then bitsOf (s.regWord (0x20040 + 8 * m)).toNat (4 * t + 2) (4 * t)
  else bitsOf (s.regWord (0x20044 + 8 * m)).toNat (4 * t - 30) (4 * t - 32)

/-- Order of arbitration as three numbers, the lowest first: raised requests by age, then priority, then round robin. -/
def State.arbKey (s : State) (e : BusReq × Nat) : Nat × Nat × Nat :=
  let t := (busTarget e.1.addr).getD 0
  if s.clk > e.2 + 2000 then (0, e.2, 0)
  else (1, 7 - s.busPriority e.1.master.val t, (e.1.master.val + 7 - (s.bmTarget t).owner) % 8)

def keyLess (a b : Nat × Nat × Nat) : Bool :=
  decide (a.1 < b.1) || (a.1 == b.1 && (decide (a.2.1 < b.2.1) || (a.2.1 == b.2.1 && decide (a.2.2 < b.2.2))))

/-- Places in the list of waiting requests that may go. -/
def State.goers (s : State) : List Nat :=
  (List.range s.bm.waiting.length).filter fun i => match s.bm.waiting[i]? with
    | some e => s.mayGo (s.bm.waiting.take i) e.1
    | none => false

/-- The place that arbitration grants next. -/
def State.granteeOf (s : State) (l : List Nat) : Option Nat :=
  l.foldl (fun best i => match best with
    | none => some i
    | some j => match s.bm.waiting[i]?, s.bm.waiting[j]? with
      | some x, some y => if keyLess (s.arbKey x) (s.arbKey y) then some i else some j
      | _, _ => some j) none

/-- One waiting request is granted and answered. -/
def State.busGrant (s : State) : Option State :=
  match s.granteeOf s.goers with
  | some i => match s.bm.waiting[i]? with
    | some e => some (({ s with bm := { s.bm with waiting := s.bm.waiting.eraseIdx i } }).busAnswer e.1)
    | none => none
  | none => none

def State.busRun : Nat → State → State
  | 0, s => s
  | n + 1, s => match s.busGrant with
    | some t => busRun n t
    | none => s

/-- Every request that can go is served. -/
def State.busDrain (s : State) : State := State.busRun s.bm.waiting.length s

/-- BUS_TRANSACTION (R454 to R459). The matrix is off in L4 and L5, and the host port issues nothing before BAR0 is
reached. -/
def execBusTransaction (req : BusReq) (s : State) : Host.Outcome State Fault Refusal :=
  next <|
    if s.pwr.state ≥ 4 ∨ (req.master = 2 ∧ s.barUp = false) then s
    else ({ s with bm := { s.bm with waiting := s.bm.waiting ++ [(req, s.clk)] } }).busDrain

/-! ### Locked sequences (R460, R461) -/

/-- A broken lock of which its holder has not been told: the target. -/
def State.brokenLock (s : State) (m core : Nat) : Option Nat :=
  (s.bm.broken.find? (fun e => e.1 == m && e.2.1 == core)).map (fun e => e.2.2)

/-- The holder is told: its lock state is cleared. -/
def State.clearBroken (s : State) (m core : Nat) : State :=
  { s with bm := { s.bm with broken := s.bm.broken.filter (fun e => !(e.1 == m && e.2.1 == core)) } }

/-- LOCK_TIMEOUT: a lock is broken 10 µs after its grant. -/
def execLockTimeout (target : Fin 12) (s : State) : Host.Outcome State Fault Refusal :=
  next <|
    match (s.bmTarget target).lockedBy with
    | none => s
    | some (m, core) =>
      let s1 := (s.waitClk ((s.bmTarget target).lockAt + 10000)).unlockTarget target
      let s2 := { s1 with bm := { s1.bm with broken := s1.bm.broken ++ [(m, core, target.val)] } }
      ((s2.bump Reg.BM_ERR_LOCK_BROKEN 1).raise 0x0202 [(1, m), (1, target.val)]).busDrain

/-- BUS_MASTER_RESET (R462): a control unit put into reset stops, and its claim is no longer VALID (R468). -/
def execBusMasterReset (m : Fin 8) (burst : Option (Nat × Nat)) (s : State) : Host.Outcome State Fault Refusal :=
  next <|
    if (s.bmMaster m).inReset ∨ s.pwr.state ≥ 4 then s
    else
      let s1 := if m.val < 2 then (s.haltUnit m).dropClaim m else s
      (s1.resetMaster m burst).busDrain

/-- BUS_DRAINED: every ID of a master is free (R463). -/
def execBusDrained (m : Fin 8) (s : State) : Host.Outcome State Fault Refusal :=
  next (if (s.bmMaster m).drained then s
    else ((s.setBmMaster m { s.bmMaster m with drained := true }).raise 0x0204 [(1, m.val)]).busDrain)

/-! ### The bus instructions of a supervisor core (Table 9.9) -/

/-- A core's place on the bus: its unit's master and its own number. -/
def State.busPlace (s : State) (c : CoreRef) : Nat × Nat :=
  (s.red.activeUnit, match c with
    | .lane _ => 4
    | .sup n => n.val)

/-- The instruction acts: the core runs, and it may stand here. -/
def State.acts (s : State) (c : CoreRef) : Bool :=
  (s.core c).run == .running && !(s.core c).misplaced c .plain .supervisors

/-- An instruction whose effect on the bus is `t`: none, the core waits in place; a response other than OKAY raises
BUS_ERROR with EADDR; else the core takes `f`. -/
def State.busInstr (s : State) (c : CoreRef) (a : Nat) (t : Option (Nat × State)) (f : Core → Core) : State :=
  if s.acts c = false then s.issue c .plain .supervisors (fun s x => .go x s)
  else match t with
  | none => s.issue c .plain .supervisors (fun s x => .stay x s)
  | some (0, s1) => s1.issue c .plain .supervisors (fun s x => .go (f x) s)
  | some (_, s1) => s1.issue c .plain .supervisors (fun _ _ => .trap (.busError a))

/-- The beats of a 32-bit access at a byte address. -/
def wordBeats (a : Nat) (v : Nat) : List (BitVec 16 × BitVec 128) :=
  let k := a % 16
  let strobes := 15 * 2 ^ k
  let data := v * 2 ^ (8 * k)
  (BitVec.ofNat 16 strobes, BitVec.ofNat 128 data)
    :: (if k ≤ 12 then [] else [(BitVec.ofNat 16 (strobes / 65536), BitVec.ofNat 128 (data / 2 ^ 128))])

/-- The word that the beats of a 32-bit read bring. -/
def beatsWord (a : Nat) (l : List (BitVec 128)) : Nat :=
  ((lget 0 l 0).toNat + 2 ^ 128 * (lget 0 l 1).toNat) / 2 ^ (8 * (a % 16)) % 2 ^ 32

/-- A core's access: `none` while the target serves another's lock or the master may not issue; code, word, state. -/
def State.coreAccess (s : State) (m core a : Nat) (write : Bool) (v : Nat) (fails : Bool) : Option (Nat × Nat × State) :=
  let t := busTarget a
  if t.isSome ∧ s.brokenLock m core = t then some (4, 0, (s.clearBroken m core).busError m t 4 a write)
  else if s.masterReady m = false then none
  else if accessCode m a = 0 ∧ s.targetFree (t.getD 0) m core = false then none
  else
    let (code, l, s1) := s.busServe m a write (wordBeats a v) fails
    some (code, beatsWord a l, s1)

/-- LDB: interlocks until the bus answers; no delay slot. -/
def execLdb (c : CoreRef) (d a : Fin 16) (imm : Word) (fails : Bool) (s : State) : Host.Outcome State Fault Refusal :=
  let addr := ((s.core c).reg a + imm).toNat
  let (m, n) := s.busPlace c
  let r := s.coreAccess m n addr false 0 fails
  next (s.busInstr c addr (r.map (fun x => (x.1, x.2.2)))
    (fun x => x.setReg d (BitVec.ofNat 32 ((r.map (fun x => x.2.1)).getD 0))))

/-- STB. -/
def execStb (c : CoreRef) (b a : Fin 16) (imm : Word) (fails : Bool) (s : State) : Host.Outcome State Fault Refusal :=
  let addr := ((s.core c).reg a + imm).toNat
  let (m, n) := s.busPlace c
  let r := s.coreAccess m n addr true ((s.core c).reg b).toNat fails
  next (s.busInstr c addr (r.map (fun x => (x.1, x.2.2))) id)

/-- What LOCKB does: code and state; `none` while another holds the target. -/
def State.lockTry (s : State) (m core a : Nat) : Option (Nat × State) :=
  let t := busTarget a
  let refuse (code : Nat) (s : State) : Option (Nat × State) := some (code, s.busError m t code a false)
  if t.isSome ∧ s.brokenLock m core = t then refuse 4 (s.clearBroken m core)
  else if accessCode m a ≠ 0 then refuse (accessCode m a) s
  else if neverLocks (t.getD 0) ∨ (s.lockOf m core).isSome ∨ (s.brokenLock m core).isSome then refuse 6 s
  else if s.masterReady m = false ∨ (s.bmTarget (t.getD 0)).lockedBy.isSome then none
  else
    let s1 := s.granted (t.getD 0) m
    some (0, s1.setBmTarget (t.getD 0) { s1.bmTarget (t.getD 0) with lockedBy := some (m, core), lockAt := s.clk })

/-- LOCKB. -/
def execLockb (c : CoreRef) (a : Fin 16) (imm : Word) (s : State) : Host.Outcome State Fault Refusal :=
  let addr := ((s.core c).reg a + imm).toNat
  let (m, n) := s.busPlace c
  next (s.busInstr c addr (s.lockTry m n addr) id)

/-- UNLOCKB: with no lock it has no effect; after a break it completes with LOCK_BROKEN, with an address that no rule
states. -/
def execUnlockb (c : CoreRef) (s : State) : Host.Outcome State Fault Refusal :=
  let (m, n) := s.busPlace c
  next <|
    match s.brokenLock m n, s.lockOf m n with
    | some t, _ =>
      let a := s.draw.1.toNat
      s.busInstr c a (some (4, ((s.draw.2).clearBroken m n).busError m (some t) 4 a false)) id
    | none, some t => s.busInstr c 0 (some (0, (s.unlockTarget t).busDrain)) id
    | none, none => s.busInstr c 0 (some (0, s)) id

end Sys2Proof.Machine
end

