-- ==== Sys2Proof/Machine/Dispatch.lean ====
section
/-!
DEFINITION. The meaning of every command: one arm per constructor of `Instr`, one direct call of a meaning each.
-/

namespace Sys2Proof.Machine

/-- The effect of a command on everything but the queue. -/
def exec (i : Instr) (s : State) : Host.Outcome State Fault Refusal :=
  match i with
  | .registerWrite addr be value => Sys2Proof.Machine.execRegisterWrite addr be value s
  | .registerReadClear addr be upd => Sys2Proof.Machine.execRegisterReadClear addr be upd s
  | .windowRecordRead addr => Sys2Proof.Machine.execWindowRecordRead addr s
  | .counterRecordRead addr => Sys2Proof.Machine.execCounterRecordRead addr s
  | .mxMonSelWrite value => Sys2Proof.Machine.execMxMonSelWrite value s
  | .mxMonDataRead => Sys2Proof.Machine.execMxMonDataRead s
  | .dacMonDataRead => Sys2Proof.Machine.execDacMonDataRead s
  | .orbCycleLoRead => Sys2Proof.Machine.execOrbCycleLoRead s
  | .leLoopPeriodLoRead => Sys2Proof.Machine.execLeLoopPeriodLoRead s
  | .fdbEpochRead => Sys2Proof.Machine.execFdbEpochRead s
  | .timNowFracRead => Sys2Proof.Machine.execTimNowFracRead s
  | .timJumpLoRead => Sys2Proof.Machine.execTimJumpLoRead s
  | .timCapW0Read n => Sys2Proof.Machine.execTimCapW0Read n s
  | .bmErrInfoRead => Sys2Proof.Machine.execBmErrInfoRead s
  | .cxStateEpochRead => Sys2Proof.Machine.execCxStateEpochRead s
  | .genAlertClear concurrent => Sys2Proof.Machine.execGenAlertClear concurrent s
  | .msixUnmask vector => Sys2Proof.Machine.execMsixUnmask vector s
  | .start report => Sys2Proof.Machine.execStart report s
  | .startStepTimeout => Sys2Proof.Machine.execStartStepTimeout s
  | .startRetry => Sys2Proof.Machine.execStartRetry s
  | .startContinue => Sys2Proof.Machine.execStartContinue s
  | .rstNAssert held => Sys2Proof.Machine.execRstNAssert held s
  | .rstNRelease held => Sys2Proof.Machine.execRstNRelease held s
  | .perstNAssert => Sys2Proof.Machine.execPerstNAssert s
  | .perstNDeassert => Sys2Proof.Machine.execPerstNDeassert s
  | .pcieFunctionReset linkDown => Sys2Proof.Machine.execPcieFunctionReset linkDown s
  | .busMasterEnableClear => Sys2Proof.Machine.execBusMasterEnableClear s
  | .dacClrNAssert held => Sys2Proof.Machine.execDacClrNAssert held s
  | .dacClrNRelease held => Sys2Proof.Machine.execDacClrNRelease held s
  | .inputStuckTimeout input => Sys2Proof.Machine.execInputStuckTimeout input s
  | .inputRecovery input => Sys2Proof.Machine.execInputRecovery input s
  | .safetySample readback => Sys2Proof.Machine.execSafetySample readback s
  | .guardChange chanB closed held => Sys2Proof.Machine.execGuardChange chanB closed held s
  | .discrepancyFault => Sys2Proof.Machine.execDiscrepancyFault s
  | .safResetPress held => Sys2Proof.Machine.execSafResetPress held s
  | .safResetRelease held => Sys2Proof.Machine.execSafResetRelease held s
  | .resetFault => Sys2Proof.Machine.execResetFault s
  | .lsrFbChange group contactsOpen held => Sys2Proof.Machine.execLsrFbChange group contactsOpen held s
  | .fbLate group => Sys2Proof.Machine.execFbLate group s
  | .safLaserSet tag groups => Sys2Proof.Machine.execSafLaserSet tag groups s
  | .safCfgWrite addr value => Sys2Proof.Machine.execSafCfgWrite addr value s
  | .trigInEdge pin rising held => Sys2Proof.Machine.execTrigInEdge pin rising held s
  | .ppsInEdge held => Sys2Proof.Machine.execPpsInEdge held s
  | .trigOutPulse pin => Sys2Proof.Machine.execTrigOutPulse pin s
  | .trigOutArm pin => Sys2Proof.Machine.execTrigOutArm pin s
  | .trigOutDisable pin => Sys2Proof.Machine.execTrigOutDisable pin s
  | .ppsOutPulse => Sys2Proof.Machine.execPpsOutPulse s
  | .tripComparatorFire pDie => Sys2Proof.Machine.execTripComparatorFire pDie s
  | .tripRestart restartE restartP => Sys2Proof.Machine.execTripRestart restartE restartP s
  | .vaonRise => Sys2Proof.Machine.execVaonRise s
  | .vaonFall => Sys2Proof.Machine.execVaonFall s
  | .mainRailsRise => Sys2Proof.Machine.execMainRailsRise s
  | .railUndervoltage rail heldNs => Sys2Proof.Machine.execRailUndervoltage rail heldNs s
  | .vhtrRemoved => Sys2Proof.Machine.execVhtrRemoved s
  | .vsramLow => Sys2Proof.Machine.execVsramLow s
  | .refclkCheck ppmA ppmB => Sys2Proof.Machine.execRefclkCheck ppmA ppmB s
  | .smbusIdentRead => Sys2Proof.Machine.execSmbusIdentRead s
  | .smbusThermalRead => Sys2Proof.Machine.execSmbusThermalRead s
  | .smbusSafetyRead => Sys2Proof.Machine.execSmbusSafetyRead s
  | .smbusStatusRead => Sys2Proof.Machine.execSmbusStatusRead s
  | .smbusWake value => Sys2Proof.Machine.execSmbusWake value s
  | .jtagBypass => Sys2Proof.Machine.execJtagBypass s
  | .jtagIdcode => Sys2Proof.Machine.execJtagIdcode s
  | .jtagSamplePreload => Sys2Proof.Machine.execJtagSamplePreload s
  | .jtagExtest => Sys2Proof.Machine.execJtagExtest s
  | .jtagExtestPulse => Sys2Proof.Machine.execJtagExtestPulse s
  | .jtagExtestTrain => Sys2Proof.Machine.execJtagExtestTrain s
  | .setMode tag mode swatch => Sys2Proof.Machine.execSetMode tag mode swatch s
  | .setPower tag target => Sys2Proof.Machine.execSetPower tag target s
  | .powerRungReached => Sys2Proof.Machine.execPowerRungReached s
  | .keepPass => Sys2Proof.Machine.execKeepPass s
  | .packetStopTimeout => Sys2Proof.Machine.execPacketStopTimeout s
  | .resetModule tag kind => Sys2Proof.Machine.execResetModule tag kind s
  | .loadCanvas tag image len store => Sys2Proof.Machine.execLoadCanvas tag image len store s
  | .canvasPrepare tag image len timeoutMs store => Sys2Proof.Machine.execCanvasPrepare tag image len timeoutMs store s
  | .canvasCommit tag at_ => Sys2Proof.Machine.execCanvasCommit tag at_ s
  | .canvasActivation => Sys2Proof.Machine.execCanvasActivation s
  | .canvasAbort tag => Sys2Proof.Machine.execCanvasAbort tag s
  | .canvasTimeout => Sys2Proof.Machine.execCanvasTimeout s
  | .canvasDigestCheck => Sys2Proof.Machine.execCanvasDigestCheck s
  | .digestGraceExpire => Sys2Proof.Machine.execDigestGraceExpire s
  | .keyRevoke tag index => Sys2Proof.Machine.execKeyRevoke tag index s
  | .swatchWrite tag swatch perm pinCount pins routeOnly outAddr => Sys2Proof.Machine.execSwatchWrite tag swatch perm pinCount pins routeOnly outAddr s
  | .swatchLoad tag swatch perm cells => Sys2Proof.Machine.execSwatchLoad tag swatch perm cells s
  | .swatchInvalidate tag swatch => Sys2Proof.Machine.execSwatchInvalidate tag swatch s
  | .swatchRead tag swatch outAddr => Sys2Proof.Machine.execSwatchRead tag swatch outAddr s
  | .swatchApply tag swatch at_ => Sys2Proof.Machine.execSwatchApply tag swatch at_ s
  | .stuckAdd tag cell state => Sys2Proof.Machine.execStuckAdd tag cell state s
  | .stuckClear tag cell => Sys2Proof.Machine.execStuckClear tag cell s
  | .routeRequestDone time10ns => Sys2Proof.Machine.execRouteRequestDone time10ns s
  | .routeCtlWrite value => Sys2Proof.Machine.execRouteCtlWrite value s
  | .reroute => Sys2Proof.Machine.execReroute s
  | .orbitPrepare tag record target hasTarget mode timeoutMs => Sys2Proof.Machine.execOrbitPrepare tag record target hasTarget mode timeoutMs s
  | .orbitCommit tag at_ => Sys2Proof.Machine.execOrbitCommit tag at_ s
  | .orbitAbort tag => Sys2Proof.Machine.execOrbitAbort tag s
  | .orbitRead tag bank outAddr maxLen => Sys2Proof.Machine.execOrbitRead tag bank outAddr maxLen s
  | .orbitTimeout => Sys2Proof.Machine.execOrbitTimeout s
  | .orbitTakeover => Sys2Proof.Machine.execOrbitTakeover s
  | .slotBoundary upsets => Sys2Proof.Machine.execSlotBoundary upsets s
  | .burstIntervalBoundary => Sys2Proof.Machine.execBurstIntervalBoundary s
  | .holdPeriodBoundary parity => Sys2Proof.Machine.execHoldPeriodBoundary parity s
  | .endOfPeriodWork standard => Sys2Proof.Machine.execEndOfPeriodWork standard s
  | .loopOutputDeadline => Sys2Proof.Machine.execLoopOutputDeadline s
  | .coefWindowWrite cell word value => Sys2Proof.Machine.execCoefWindowWrite cell word value s
  | .coefCommit cell => Sys2Proof.Machine.execCoefCommit cell s
  | .loopCmdRelease cell all => Sys2Proof.Machine.execLoopCmdRelease cell all s
  | .loopCmdReset cell all => Sys2Proof.Machine.execLoopCmdReset cell all s
  | .loopCmdDisable cell all => Sys2Proof.Machine.execLoopCmdDisable cell all s
  | .loopCmdEnable cell all => Sys2Proof.Machine.execLoopCmdEnable cell all s
  | .laneCmdRestart lane all => Sys2Proof.Machine.execLaneCmdRestart lane all s
  | .laneCmdSoft lane all => Sys2Proof.Machine.execLaneCmdSoft lane all s
  | .laneDeadline lane => Sys2Proof.Machine.execLaneDeadline lane s
  | .laneInterrupt lane => Sys2Proof.Machine.execLaneInterrupt lane s
  | .laneStallTimeout lane => Sys2Proof.Machine.execLaneStallTimeout lane s
  | .pathLate lane => Sys2Proof.Machine.execPathLate lane s
  | .supervisorException core cause addr => Sys2Proof.Machine.execSupervisorException core cause addr s
  | .divideDone c => Sys2Proof.Machine.execDivideDone c s
  | .waitContinue c => Sys2Proof.Machine.execWaitContinue c s
  | .nop c => Sys2Proof.Machine.execNop c s
  | .halt c => Sys2Proof.Machine.execHalt c s
  | .br c cond t => Sys2Proof.Machine.execBr c cond t s
  | .call c t => Sys2Proof.Machine.execCall c t s
  | .jr c a => Sys2Proof.Machine.execJr c a s
  | .ret c => Sys2Proof.Machine.execRet c s
  | .reti c => Sys2Proof.Machine.execReti c s
  | .repeat_ c n len => Sys2Proof.Machine.execRepeat c n len s
  | .repeatr c a len => Sys2Proof.Machine.execRepeatr c a len s
  | .waitp c => Sys2Proof.Machine.execWaitp c s
  | .waite c => Sys2Proof.Machine.execWaite c s
  | .waits c a n => Sys2Proof.Machine.execWaits c a n s
  | .cstep c d a => Sys2Proof.Machine.execCstep c d a s
  | .bkpt c => Sys2Proof.Machine.execBkpt c s
  | .mov c d a => Sys2Proof.Machine.execMov c d a s
  | .li c d imm => Sys2Proof.Machine.execLi c d imm s
  | .add c d a b => Sys2Proof.Machine.execAdd c d a b s
  | .addi c d a imm => Sys2Proof.Machine.execAddi c d a imm s
  | .sub c d a b => Sys2Proof.Machine.execSub c d a b s
  | .neg c d a => Sys2Proof.Machine.execNeg c d a s
  | .abs c d a => Sys2Proof.Machine.execAbs c d a s
  | .mull c d a b => Sys2Proof.Machine.execMull c d a b s
  | .and_ c d a b => Sys2Proof.Machine.execAnd c d a b s
  | .andi c d a imm => Sys2Proof.Machine.execAndi c d a imm s
  | .or_ c d a b => Sys2Proof.Machine.execOr c d a b s
  | .ori c d a imm => Sys2Proof.Machine.execOri c d a imm s
  | .xor_ c d a b => Sys2Proof.Machine.execXor c d a b s
  | .xori c d a imm => Sys2Proof.Machine.execXori c d a imm s
  | .sll c d a sh => Sys2Proof.Machine.execSll c d a sh s
  | .srl c d a sh => Sys2Proof.Machine.execSrl c d a sh s
  | .sra c d a sh => Sys2Proof.Machine.execSra c d a sh s
  | .rsh c d a sh => Sys2Proof.Machine.execRsh c d a sh s
  | .shv c d a b => Sys2Proof.Machine.execShv c d a b s
  | .cmp c a b => Sys2Proof.Machine.execCmp c a b s
  | .cmpi c a imm => Sys2Proof.Machine.execCmpi c a imm s
  | .tst c a b => Sys2Proof.Machine.execTst c a b s
  | .min c d a b => Sys2Proof.Machine.execMin c d a b s
  | .max c d a b => Sys2Proof.Machine.execMax c d a b s
  | .clamp c d a b => Sys2Proof.Machine.execClamp c d a b s
  | .sel c d a b cond => Sys2Proof.Machine.execSel c d a b cond s
  | .clz c d a => Sys2Proof.Machine.execClz c d a s
  | .ext c d a lsb w => Sys2Proof.Machine.execExt c d a lsb w s
  | .exts c d a lsb w => Sys2Proof.Machine.execExts c d a lsb w s
  | .ins c d a lsb w => Sys2Proof.Machine.execIns c d a lsb w s
  | .mpa c ac a b => Sys2Proof.Machine.execMpa c ac a b s
  | .mac c ac a b => Sys2Proof.Machine.execMac c ac a b s
  | .msu c ac a b => Sys2Proof.Machine.execMsu c ac a b s
  | .mpai c ac a imm => Sys2Proof.Machine.execMpai c ac a imm s
  | .maci c ac a imm => Sys2Proof.Machine.execMaci c ac a imm s
  | .mpr c ac a b cc k => Sys2Proof.Machine.execMpr c ac a b cc k s
  | .msr c ac a b cc k => Sys2Proof.Machine.execMsr c ac a b cc k s
  | .mar c ac a b cc k => Sys2Proof.Machine.execMar c ac a b cc k s
  | .clra c ac => Sys2Proof.Machine.execClra c ac s
  | .adda c ac a sh => Sys2Proof.Machine.execAdda c ac a sh s
  | .addaa c ac ac2 => Sys2Proof.Machine.execAddaa c ac ac2 s
  | .nega c ac => Sys2Proof.Machine.execNega c ac s
  | .sha c ac sh => Sys2Proof.Machine.execSha c ac sh s
  | .shar c ac b => Sys2Proof.Machine.execShar c ac b s
  | .sata c ac => Sys2Proof.Machine.execSata c ac s
  | .mva c d ac sh => Sys2Proof.Machine.execMva c d ac sh s
  | .mova c ac ac2 => Sys2Proof.Machine.execMova c ac ac2 s
  | .mvax c d ac p => Sys2Proof.Machine.execMvax c d ac p s
  | .mtax c ac a p => Sys2Proof.Machine.execMtax c ac a p s
  | .ld c d g step => Sys2Proof.Machine.execLd c d g step s
  | .st c b g step => Sys2Proof.Machine.execSt c b g step s
  | .ldx c d g off => Sys2Proof.Machine.execLdx c d g off s
  | .stx c b g off => Sys2Proof.Machine.execStx c b g off s
  | .ldv c d g b => Sys2Proof.Machine.execLdv c d g b s
  | .stv c b g cc => Sys2Proof.Machine.execStv c b g cc s
  | .ldd c d imm => Sys2Proof.Machine.execLdd c d imm s
  | .std c b imm => Sys2Proof.Machine.execStd c b imm s
  | .ldr c d a imm => Sys2Proof.Machine.execLdr c d a imm s
  | .str c b a imm => Sys2Proof.Machine.execStr c b a imm s
  | .agset c g base len => Sys2Proof.Machine.execAgset c g base len s
  | .agsetr c g a b => Sys2Proof.Machine.execAgsetr c g a b s
  | .mtag c g f a => Sys2Proof.Machine.execMtag c g f a s
  | .mfag c d g f => Sys2Proof.Machine.execMfag c d g f s
  | .mfs c d sr => Sys2Proof.Machine.execMfs c d sr s
  | .mts c sr a => Sys2Proof.Machine.execMts c sr a s
  | .divq c a b q => Sys2Proof.Machine.execDivq c a b q s
  | .diva c ac b => Sys2Proof.Machine.execDiva c ac b s
  | .sqrta c ac => Sys2Proof.Machine.execSqrta c ac s
  | .rete c => Sys2Proof.Machine.execRete c s
  | .syscall c imm => Sys2Proof.Machine.execSyscall c imm s
  | .ldb c d a imm fails => Sys2Proof.Machine.execLdb c d a imm fails s
  | .stb c b a imm fails => Sys2Proof.Machine.execStb c b a imm fails s
  | .lockb c a imm => Sys2Proof.Machine.execLockb c a imm s
  | .unlockb c => Sys2Proof.Machine.execUnlockb c s
  | .waiti c => Sys2Proof.Machine.execWaiti c s
  | .fence c => Sys2Proof.Machine.execFence c s
  | .adcConversion conv round slot raw secded => Sys2Proof.Machine.execAdcConversion conv round slot raw secded s
  | .hkPublish => Sys2Proof.Machine.execHkPublish s
  | .refEnable => Sys2Proof.Machine.execRefEnable s
  | .refDisable => Sys2Proof.Machine.execRefDisable s
  | .refReady inWindow => Sys2Proof.Machine.execRefReady inWindow s
  | .functionStopped fn => Sys2Proof.Machine.execFunctionStopped fn s
  | .adcDirectRequest channel => Sys2Proof.Machine.execAdcDirectRequest channel s
  | .pairFlagClear mask => Sys2Proof.Machine.execPairFlagClear mask s
  | .pairForceWrite mask => Sys2Proof.Machine.execPairForceWrite mask s
  | .heaterSlewTick => Sys2Proof.Machine.execHeaterSlewTick s
  | .calRun tag kind set groups store => Sys2Proof.Machine.execCalRun tag kind set groups store s
  | .calRunDone results skipped nvmOk => Sys2Proof.Machine.execCalRunDone results skipped nvmOk s
  | .calRunTimeout => Sys2Proof.Machine.execCalRunTimeout s
  | .calDriftRead tag cell outAddr => Sys2Proof.Machine.execCalDriftRead tag cell outAddr s
  | .eyeScanStart lane => Sys2Proof.Machine.execEyeScanStart lane s
  | .eyeScanDone lane result => Sys2Proof.Machine.execEyeScanDone lane result s
  | .eyeNowRequest lane => Sys2Proof.Machine.execEyeNowRequest lane s
  | .driftDailySample => Sys2Proof.Machine.execDriftDailySample s
  | .driftMonthlyWrite => Sys2Proof.Machine.execDriftMonthlyWrite s
  | .trimNvmWrite => Sys2Proof.Machine.execTrimNvmWrite s
  | .portEnable port => Sys2Proof.Machine.execPortEnable port s
  | .portDisable port => Sys2Proof.Machine.execPortDisable port s
  | .trainFailed port lane reached => Sys2Proof.Machine.execTrainFailed port lane reached s
  | .portLinkUp port => Sys2Proof.Machine.execPortLinkUp port s
  | .portLinkDown port cause => Sys2Proof.Machine.execPortLinkDown port cause s
  | .fabricLaneEnable lane => Sys2Proof.Machine.execFabricLaneEnable lane s
  | .fabricLaneDisable lane => Sys2Proof.Machine.execFabricLaneDisable lane s
  | .fabricLaneReady lane => Sys2Proof.Machine.execFabricLaneReady lane s
  | .memberFrameRx port frame upset => Sys2Proof.Machine.execMemberFrameRx port frame upset s
  | .pauseFrameRx port frame => Sys2Proof.Machine.execPauseFrameRx port frame s
  | .pfcFrameRx port frame => Sys2Proof.Machine.execPfcFrameRx port frame s
  | .pauseExpire port cls => Sys2Proof.Machine.execPauseExpire port cls s
  | .pauseRefresh port => Sys2Proof.Machine.execPauseRefresh port s
  | .frameTxDone port parity => Sys2Proof.Machine.execFrameTxDone port parity s
  | .fabricRecordTake lane => Sys2Proof.Machine.execFabricRecordTake lane s
  | .burstRx lane burst => Sys2Proof.Machine.execBurstRx lane burst s
  | .clsRuleWrite tag count resetCnt records => Sys2Proof.Machine.execClsRuleWrite tag count resetCnt records s
  | .clsRuleDelete tag count indices => Sys2Proof.Machine.execClsRuleDelete tag count indices s
  | .clsRangeWrite tag count records => Sys2Proof.Machine.execClsRangeWrite tag count records s
  | .clsRuleRead tag first count outAddr => Sys2Proof.Machine.execClsRuleRead tag first count outAddr s
  | .stormLimiterWrite port limiter value => Sys2Proof.Machine.execStormLimiterWrite port limiter value s
  | .fdbSearch tag mac fid outAddr => Sys2Proof.Machine.execFdbSearch tag mac fid outAddr s
  | .fdbNext tag cursor count outAddr filter => Sys2Proof.Machine.execFdbNext tag cursor count outAddr filter s
  | .fdbInsert tag w0 w1 replace notify => Sys2Proof.Machine.execFdbInsert tag w0 w1 replace notify s
  | .fdbDelete tag mac fid notify => Sys2Proof.Machine.execFdbDelete tag mac fid notify s
  | .fdbFlushByPort tag dstModule dstPort fid staticToo notify => Sys2Proof.Machine.execFdbFlushByPort tag dstModule dstPort fid staticToo notify s
  | .flushRemovalDone => Sys2Proof.Machine.execFlushRemovalDone s
  | .fidWrite tag fid flags len pairs => Sys2Proof.Machine.execFidWrite tag fid flags len pairs s
  | .fidRead tag fid outAddr => Sys2Proof.Machine.execFidRead tag fid outAddr s
  | .learnCommit => Sys2Proof.Machine.execLearnCommit s
  | .sweeperVisit ecc => Sys2Proof.Machine.execSweeperVisit ecc s
  | .epochTick => Sys2Proof.Machine.execEpochTick s
  | .changeDrained => Sys2Proof.Machine.execChangeDrained s
  | .epochStall => Sys2Proof.Machine.execEpochStall s
  | .polWrite tag count resetTokens records => Sys2Proof.Machine.execPolWrite tag count resetTokens records s
  | .portGateWrite tag port count entries at_ => Sys2Proof.Machine.execPortGateWrite tag port count entries at_ s
  | .portGateCancel tag port => Sys2Proof.Machine.execPortGateCancel tag port s
  | .gateTakeover port => Sys2Proof.Machine.execGateTakeover port s
  | .gateEntryBoundary port => Sys2Proof.Machine.execGateEntryBoundary port s
  | .launchDue port => Sys2Proof.Machine.execLaunchDue port s
  | .shaperRateWrite port n value => Sys2Proof.Machine.execShaperRateWrite port n value s
  | .shaperBurstWrite port n value => Sys2Proof.Machine.execShaperBurstWrite port n value s
  | .samplerWrite port tx value => Sys2Proof.Machine.execSamplerWrite port tx value s
  | .cntSnapshot tag ranges rangeCount clear outAddr => Sys2Proof.Machine.execCntSnapshot tag ranges rangeCount clear outAddr s
  | .readLog tag first count outAddr => Sys2Proof.Machine.execReadLog tag first count outAddr s
  | .logTick => Sys2Proof.Machine.execLogTick s
  | .timeOffset tag offset measured => Sys2Proof.Machine.execTimeOffset tag offset measured s
  | .timeConfirm tag jumpSeq at_ => Sys2Proof.Machine.execTimeConfirm tag jumpSeq at_ s
  | .timeSet tag sec ns frac at_ => Sys2Proof.Machine.execTimeSet tag sec ns frac at_ s
  | .servoInterval => Sys2Proof.Machine.execServoInterval s
  | .timeStepApply => Sys2Proof.Machine.execTimeStepApply s
  | .exchSend => Sys2Proof.Machine.execExchSend s
  | .exchRx port record => Sys2Proof.Machine.execExchRx port record s
  | .iklPortTimeout port => Sys2Proof.Machine.execIklPortTimeout port s
  | .parentChange port => Sys2Proof.Machine.execParentChange port s
  | .cometSend => Sys2Proof.Machine.execCometSend s
  | .cometRx port record => Sys2Proof.Machine.execCometRx port record s
  | .cometExpire origin => Sys2Proof.Machine.execCometExpire origin s
  | .syncReqSend => Sys2Proof.Machine.execSyncReqSend s
  | .syncReq port record => Sys2Proof.Machine.execSyncReq port record s
  | .syncReply port record => Sys2Proof.Machine.execSyncReply port record s
  | .conjPropose tag orbit notBefore => Sys2Proof.Machine.execConjPropose tag orbit notBefore s
  | .conjAbort tag => Sys2Proof.Machine.execConjAbort tag s
  | .propose port record => Sys2Proof.Machine.execPropose port record s
  | .answer port record => Sys2Proof.Machine.execAnswer port record s
  | .commit port record => Sys2Proof.Machine.execCommit port record s
  | .abort port record => Sys2Proof.Machine.execAbort port record s
  | .conjRepeatSend => Sys2Proof.Machine.execConjRepeatSend s
  | .conjDeadline => Sys2Proof.Machine.execConjDeadline s
  | .conjLocalAbort => Sys2Proof.Machine.execConjLocalAbort s
  | .iklViewRead tag outAddr max => Sys2Proof.Machine.execIklViewRead tag outAddr max s
  | .iklTunnelSend tag payload len dst channel => Sys2Proof.Machine.execIklTunnelSend tag payload len dst channel s
  | .tunnelRx port record => Sys2Proof.Machine.execTunnelRx port record s
  | .cxNop tag => Sys2Proof.Machine.execCxNop tag s
  | .cxStateRead tag outAddr => Sys2Proof.Machine.execCxStateRead tag outAddr s
  | .sqDoorbell ring value entries => Sys2Proof.Machine.execSqDoorbell ring value entries s
  | .cqDoorbell ring value => Sys2Proof.Machine.execCqDoorbell ring value s
  | .ringEnable ring => Sys2Proof.Machine.execRingEnable ring s
  | .ringDisable ring => Sys2Proof.Machine.execRingDisable ring s
  | .ringResume ring entries => Sys2Proof.Machine.execRingResume ring entries s
  | .evtDoorbell value => Sys2Proof.Machine.execEvtDoorbell value s
  | .coalesceTimeout source => Sys2Proof.Machine.execCoalesceTimeout source s
  | .cxProgress ring ringSeq => Sys2Proof.Machine.execCxProgress ring ringSeq s
  | .fqTxDoorbell q value descs => Sys2Proof.Machine.execFqTxDoorbell q value descs s
  | .txDescriptor q frame => Sys2Proof.Machine.execTxDescriptor q frame s
  | .fqRxDoorbell q value descs => Sys2Proof.Machine.execFqRxDoorbell q value descs s
  | .busTransaction req => Sys2Proof.Machine.execBusTransaction req s
  | .lockTimeout target => Sys2Proof.Machine.execLockTimeout target s
  | .busMasterReset m burst => Sys2Proof.Machine.execBusMasterReset m burst s
  | .busDrained m => Sys2Proof.Machine.execBusDrained m s
  | .heartbeatCheck toggled => Sys2Proof.Machine.execHeartbeatCheck toggled s
  | .cuSwitch tag => Sys2Proof.Machine.execCuSwitch tag s
  | .cuRestore tag unit => Sys2Proof.Machine.execCuRestore tag unit s
  | .cuRestored failStep => Sys2Proof.Machine.execCuRestored failStep s
  | .thermalReading => Sys2Proof.Machine.execThermalReading s
  | .shutdownRecordWrite waitedUs => Sys2Proof.Machine.execShutdownRecordWrite waitedUs s
  | .shutdownComplete => Sys2Proof.Machine.execShutdownComplete s
  | .shutdownRead tag count outAddr => Sys2Proof.Machine.execShutdownRead tag count outAddr s
  | .nvmProgramDone ok => Sys2Proof.Machine.execNvmProgramDone ok s
  | .shaperCreditReachesZero port n => Sys2Proof.Machine.execShaperCreditReachesZero port n s
  | .startDelimiterTimeout lane => Sys2Proof.Machine.execStartDelimiterTimeout lane s
  | .startingUnitClaim failStep => Sys2Proof.Machine.execStartingUnitClaim failStep s
  | .iklHighSymbolErrors port => Sys2Proof.Machine.execIklHighSymbolErrors port s
  | .busMasterEnableSet => Sys2Proof.Machine.execBusMasterEnableSet s
  | .d3hotTransition into => Sys2Proof.Machine.execD3hotTransition into s

end Sys2Proof.Machine
end

