-- ==== Sys2Proof/Machine/Idle.lean ====
section
/-!
DEFINITION. What happens while no command waits: time passes, and what was held back goes on as soon as it can.
-/

namespace Sys2Proof.Machine

/-- One ns passes. In a module with VAON, bus requests that wait and command rings then go on (R434, R436, R463). -/
def State.idle (s : State) : State :=
  if s.pins.vaon then ((s.elapse 1).busDrain).ringsGo else { s with clk := s.clk + 1 }

end Sys2Proof.Machine
end

