-- ==== Sys2Proof/WellFormed.lean ====
section
/-!
DEFINITION. Well-formed commands: every number a command carries fits the field or the number range that the spec gives
it. Nothing is refused at execution for want of it: a command that is not well-formed is one that no sender can spell.
-/

namespace Sys2Proof

/-- The numbers of a command, each with the bound below which it lies: the width of its parameter, of its instruction
field, or the count of what it numbers (Tables 1.2, 9.3 to 9.9, 20.6, 25.1). -/
def boundsOf (i : Instr) : List (Nat × Nat) :=
  match i with
  | .registerWrite addr be _ => [(addr, 2 ^ 32), (be, 16)]
  | .registerReadClear addr be _ => [(addr, 2 ^ 32), (be, 16)]
  | .windowRecordRead addr => [(addr, 2 ^ 32)]
  | .counterRecordRead addr => [(addr, 2 ^ 32)]
  | .mxMonSelWrite _ => []
  | .mxMonDataRead => []
  | .dacMonDataRead => []
  | .orbCycleLoRead => []
  | .leLoopPeriodLoRead => []
  | .fdbEpochRead => []
  | .timNowFracRead => []
  | .timJumpLoRead => []
  | .timCapW0Read n => [(n, 5)]
  | .bmErrInfoRead => []
  | .cxStateEpochRead => []
  | .genAlertClear _ => []
  | .msixUnmask vector => [(vector, 64)]
  | .start _ => []
  | .startStepTimeout => []
  | .startRetry => []
  | .startContinue => []
  | .rstNAssert _ => []
  | .rstNRelease _ => []
  | .perstNAssert => []
  | .perstNDeassert => []
  | .pcieFunctionReset _ => []
  | .busMasterEnableClear => []
  | .dacClrNAssert _ => []
  | .dacClrNRelease _ => []
  | .inputStuckTimeout _ => []
  | .inputRecovery _ => []
  | .safetySample readback => [(readback, 16)]
  | .guardChange _ _ _ => []
  | .discrepancyFault => []
  | .safResetPress _ => []
  | .safResetRelease _ => []
  | .resetFault => []
  | .lsrFbChange _ _ _ => []
  | .fbLate _ => []
  | .safLaserSet _ groups => [(groups, 256)]
  | .safCfgWrite addr _ => [(addr, 2 ^ 32)]
  | .trigInEdge _ _ _ => []
  | .ppsInEdge _ => []
  | .trigOutPulse _ => []
  | .trigOutArm _ => []
  | .trigOutDisable _ => []
  | .ppsOutPulse => []
  | .tripComparatorFire _ => []
  | .tripRestart _ _ => []
  | .vaonRise => []
  | .vaonFall => []
  | .mainRailsRise => []
  | .railUndervoltage _ _ => []
  | .vhtrRemoved => []
  | .vsramLow => []
  | .refclkCheck _ _ => []
  | .smbusIdentRead => []
  | .smbusThermalRead => []
  | .smbusSafetyRead => []
  | .smbusStatusRead => []
  | .smbusWake _ => []
  | .jtagBypass => []
  | .jtagIdcode => []
  | .jtagSamplePreload => []
  | .jtagExtest => []
  | .jtagExtestPulse => []
  | .jtagExtestTrain => []
  | .setMode _ mode swatch => [(mode, 256), (swatch, 2 ^ 16)]
  | .setPower _ target => [(target, 256)]
  | .powerRungReached => []
  | .keepPass => []
  | .packetStopTimeout => []
  | .resetModule _ kind => [(kind, 256)]
  | .loadCanvas _ _ len _ => [(len, 2 ^ 32)]
  | .canvasPrepare _ _ len timeoutMs _ => [(len, 2 ^ 32), (timeoutMs, 2 ^ 32)]
  | .canvasCommit _ _ => []
  | .canvasActivation => []
  | .canvasAbort _ => []
  | .canvasTimeout => []
  | .canvasDigestCheck => []
  | .digestGraceExpire => []
  | .keyRevoke _ index => [(index, 256)]
  | .swatchWrite _ swatch _ pinCount _ _ outAddr => [(swatch, 2 ^ 16), (pinCount, 2 ^ 16), (outAddr, 2 ^ 64)]
  | .swatchLoad _ swatch _ _ => [(swatch, 2 ^ 16)]
  | .swatchInvalidate _ swatch => [(swatch, 2 ^ 16)]
  | .swatchRead _ swatch outAddr => [(swatch, 2 ^ 16), (outAddr, 2 ^ 64)]
  | .swatchApply _ swatch _ => [(swatch, 2 ^ 16)]
  | .stuckAdd _ cell state => [(cell, 2 ^ 16), (state, 256)]
  | .stuckClear _ cell => [(cell, 2 ^ 16)]
  | .routeRequestDone _ => []
  | .routeCtlWrite _ => []
  | .reroute => []
  | .orbitPrepare _ _ _ _ mode timeoutMs => [(mode, 256), (timeoutMs, 2 ^ 32)]
  | .orbitCommit _ _ => []
  | .orbitAbort _ => []
  | .orbitRead _ bank outAddr maxLen => [(bank, 256), (outAddr, 2 ^ 64), (maxLen, 2 ^ 32)]
  | .orbitTimeout => []
  | .orbitTakeover => []
  | .slotBoundary _ => []
  | .burstIntervalBoundary => []
  | .holdPeriodBoundary _ => []
  | .endOfPeriodWork standard => [(standard, 2 ^ 64)]
  | .loopOutputDeadline => []
  | .coefWindowWrite cell word _ => [(cell, 4352), (word, 16)]
  | .coefCommit cell => [(cell, 4352)]
  | .loopCmdRelease cell _ => [(cell, 2 ^ 13)]
  | .loopCmdReset cell _ => [(cell, 2 ^ 13)]
  | .loopCmdDisable cell _ => [(cell, 2 ^ 13)]
  | .loopCmdEnable cell _ => [(cell, 2 ^ 13)]
  | .laneCmdRestart lane _ => [(lane, 64)]
  | .laneCmdSoft lane _ => [(lane, 64)]
  | .laneDeadline _ => []
  | .laneInterrupt _ => []
  | .laneStallTimeout _ => []
  | .pathLate _ => []
  | .supervisorException _ cause addr => [(cause, 32), (addr, 2 ^ 32)]
  | .divideDone _ => []
  | .waitContinue _ => []
  | .nop _ => []
  | .halt _ => []
  | .br _ cond t => [(cond, 16), (t, 2 ^ 32)]
  | .call _ t => [(t, 2 ^ 32)]
  | .jr _ _ => []
  | .ret _ => []
  | .reti _ => []
  | .repeat_ _ n len => [(n, 65537), (len, 65)]
  | .repeatr _ _ len => [(len, 65)]
  | .waitp _ => []
  | .waite _ => []
  | .waits _ _ n => [(n, 257)]
  | .cstep _ _ _ => []
  | .bkpt _ => []
  | .mov _ _ _ => []
  | .li _ _ _ => []
  | .add _ _ _ _ => []
  | .addi _ _ _ _ => []
  | .sub _ _ _ _ => []
  | .neg _ _ _ => []
  | .abs _ _ _ => []
  | .mull _ _ _ _ => []
  | .and_ _ _ _ _ => []
  | .andi _ _ _ _ => []
  | .or_ _ _ _ _ => []
  | .ori _ _ _ _ => []
  | .xor_ _ _ _ _ => []
  | .xori _ _ _ _ => []
  | .sll _ _ _ s => [(s, 32)]
  | .srl _ _ _ s => [(s, 32)]
  | .sra _ _ _ s => [(s, 32)]
  | .rsh _ _ _ s => [(s, 32)]
  | .shv _ _ _ _ => []
  | .cmp _ _ _ => []
  | .cmpi _ _ _ => []
  | .tst _ _ _ => []
  | .min _ _ _ _ => []
  | .max _ _ _ _ => []
  | .clamp _ _ _ _ => []
  | .sel _ _ _ _ cond => [(cond, 16)]
  | .clz _ _ _ => []
  | .ext _ _ _ lsb w => [(lsb, 32), (w, 33)]
  | .exts _ _ _ lsb w => [(lsb, 32), (w, 33)]
  | .ins _ _ _ lsb w => [(lsb, 32), (w, 33)]
  | .mpa _ _ _ _ => []
  | .mac _ _ _ _ => []
  | .msu _ _ _ _ => []
  | .mpai _ _ _ _ => []
  | .maci _ _ _ _ => []
  | .mpr _ _ _ _ _ _ => []
  | .msr _ _ _ _ _ _ => []
  | .mar _ _ _ _ _ _ => []
  | .clra _ _ => []
  | .adda _ _ _ s => [(s, 41)]
  | .addaa _ _ _ => []
  | .nega _ _ => []
  | .sha _ _ _ => []
  | .shar _ _ _ => []
  | .sata _ _ => []
  | .mva _ _ _ s => [(s, 256)]
  | .mova _ _ _ => []
  | .mvax _ _ _ p => [(p, 3)]
  | .mtax _ _ _ p => [(p, 3)]
  | .ld _ _ _ _ => []
  | .st _ _ _ _ => []
  | .ldx _ _ _ _ => []
  | .stx _ _ _ _ => []
  | .ldv _ _ _ _ => []
  | .stv _ _ _ _ => []
  | .ldd _ _ _ => []
  | .std _ _ _ => []
  | .ldr _ _ _ _ => []
  | .str _ _ _ _ => []
  | .agset _ _ base len => [(base, 2 ^ 16), (len, 2 ^ 16)]
  | .agsetr _ _ _ _ => []
  | .mtag _ _ f _ => [(f, 3)]
  | .mfag _ _ _ f => [(f, 3)]
  | .mfs _ _ sr => [(sr, 64)]
  | .mts _ sr _ => [(sr, 64)]
  | .divq _ _ _ q => [(q, 32)]
  | .diva _ _ _ => []
  | .sqrta _ _ => []
  | .rete _ => []
  | .syscall _ _ => []
  | .ldb _ _ _ _ _ => []
  | .stb _ _ _ _ _ => []
  | .lockb _ _ _ => []
  | .unlockb _ => []
  | .waiti _ => []
  | .fence _ => []
  | .adcConversion _ round slot _ _ => [(round, 16), (slot, 608)]
  | .hkPublish => []
  | .refEnable => []
  | .refDisable => []
  | .refReady inWindow => [(inWindow, 2 ^ 16)]
  | .functionStopped _ => []
  | .adcDirectRequest channel => [(channel, 2 ^ 14)]
  | .pairFlagClear mask => [(mask, 2 ^ 16)]
  | .pairForceWrite mask => [(mask, 2 ^ 16)]
  | .heaterSlewTick => []
  | .calRun _ kind set groups _ => [(kind, 256), (set, 256), (groups, 2 ^ 32)]
  | .calRunDone _ skipped _ => [(skipped, 2 ^ 32)]
  | .calRunTimeout => []
  | .calDriftRead _ cell outAddr => [(cell, 2 ^ 16), (outAddr, 2 ^ 64)]
  | .eyeScanStart lane => [(lane, 512)]
  | .eyeScanDone lane _ => [(lane, 512)]
  | .eyeNowRequest lane => [(lane, 512)]
  | .driftDailySample => []
  | .driftMonthlyWrite => []
  | .trimNvmWrite => []
  | .portEnable port => [(port, 256)]
  | .portDisable port => [(port, 256)]
  | .trainFailed port lane reached => [(port, 256), (lane, 8), (reached, 256)]
  | .portLinkUp port => [(port, 256)]
  | .portLinkDown port cause => [(port, 256), (cause, 256)]
  | .fabricLaneEnable _ => []
  | .fabricLaneDisable _ => []
  | .fabricLaneReady _ => []
  | .memberFrameRx port _ _ => [(port, 256)]
  | .pauseFrameRx port _ => [(port, 256)]
  | .pfcFrameRx port _ => [(port, 256)]
  | .pauseExpire port cls => [(port, 256), (cls, 8)]
  | .pauseRefresh port => [(port, 256)]
  | .frameTxDone port _ => [(port, 256)]
  | .fabricRecordTake _ => []
  | .burstRx _ _ => []
  | .clsRuleWrite _ count _ _ => [(count, 2 ^ 16)]
  | .clsRuleDelete _ count _ => [(count, 2 ^ 16)]
  | .clsRangeWrite _ count _ => [(count, 2 ^ 16)]
  | .clsRuleRead _ first count outAddr => [(first, 2 ^ 16), (count, 2 ^ 16), (outAddr, 2 ^ 64)]
  | .stormLimiterWrite port _ _ => [(port, 256)]
  | .fdbSearch _ mac fid outAddr => [(mac, 2 ^ 48), (fid, 2 ^ 16), (outAddr, 2 ^ 64)]
  | .fdbNext _ cursor count outAddr _ => [(cursor, 2 ^ 32), (count, 2 ^ 16), (outAddr, 2 ^ 64)]
  | .fdbInsert _ _ _ _ _ => []
  | .fdbDelete _ mac fid _ => [(mac, 2 ^ 48), (fid, 2 ^ 16)]
  | .fdbFlushByPort _ dstModule dstPort _ _ _ => [(dstModule, 2 ^ 16), (dstPort, 256)]
  | .flushRemovalDone => []
  | .fidWrite _ fid flags len _ => [(fid, 2 ^ 16), (flags, 256), (len, 2 ^ 32)]
  | .fidRead _ fid outAddr => [(fid, 2 ^ 16), (outAddr, 2 ^ 64)]
  | .learnCommit => []
  | .sweeperVisit _ => []
  | .epochTick => []
  | .changeDrained => []
  | .epochStall => []
  | .polWrite _ count _ _ => [(count, 2 ^ 16)]
  | .portGateWrite _ port count _ _ => [(port, 256), (count, 2 ^ 16)]
  | .portGateCancel _ port => [(port, 256)]
  | .gateTakeover port => [(port, 256)]
  | .gateEntryBoundary port => [(port, 256)]
  | .launchDue port => [(port, 256)]
  | .shaperRateWrite port _ _ => [(port, 256)]
  | .shaperBurstWrite port _ _ => [(port, 256)]
  | .samplerWrite port _ _ => [(port, 256)]
  | .cntSnapshot _ _ rangeCount _ outAddr => [(rangeCount, 2 ^ 16), (outAddr, 2 ^ 64)]
  | .readLog _ first count outAddr => [(first, 2 ^ 32), (count, 2 ^ 16), (outAddr, 2 ^ 64)]
  | .logTick => []
  | .timeOffset _ _ _ => []
  | .timeConfirm _ jumpSeq _ => [(jumpSeq, 2 ^ 16)]
  | .timeSet _ sec ns frac _ => [(sec, 2 ^ 48), (ns, 2 ^ 30), (frac, 2 ^ 16)]
  | .servoInterval => []
  | .timeStepApply => []
  | .exchSend => []
  | .exchRx _ _ => []
  | .iklPortTimeout _ => []
  | .parentChange _ => []
  | .cometSend => []
  | .cometRx _ _ => []
  | .cometExpire origin => [(origin, 512)]
  | .syncReqSend => []
  | .syncReq _ _ => []
  | .syncReply _ _ => []
  | .conjPropose _ orbit _ => [(orbit, 2 ^ 32)]
  | .conjAbort _ => []
  | .propose _ _ => []
  | .answer _ _ => []
  | .commit _ _ => []
  | .abort _ _ => []
  | .conjRepeatSend => []
  | .conjDeadline => []
  | .conjLocalAbort => []
  | .iklViewRead _ outAddr max => [(outAddr, 2 ^ 64), (max, 2 ^ 16)]
  | .iklTunnelSend _ _ len dst channel => [(len, 2 ^ 32), (dst, 2 ^ 16), (channel, 2 ^ 16)]
  | .tunnelRx _ _ => []
  | .cxNop _ => []
  | .cxStateRead _ outAddr => [(outAddr, 2 ^ 64)]
  | .sqDoorbell _ _ _ => []
  | .cqDoorbell _ _ => []
  | .ringEnable _ => []
  | .ringDisable _ => []
  | .ringResume _ _ => []
  | .evtDoorbell _ => []
  | .coalesceTimeout source => [(source, 40)]
  | .cxProgress _ ringSeq => [(ringSeq, 2 ^ 32)]
  | .fqTxDoorbell _ _ _ => []
  | .txDescriptor _ _ => []
  | .fqRxDoorbell _ _ _ => []
  | .busTransaction _ => []
  | .lockTimeout _ => []
  | .busMasterReset _ _ => []
  | .busDrained _ => []
  | .heartbeatCheck _ => []
  | .cuSwitch _ => []
  | .cuRestore _ unit => [(unit, 256)]
  | .cuRestored _ => []
  | .thermalReading => []
  | .shutdownRecordWrite waitedUs => [(waitedUs, 2 ^ 32)]
  | .shutdownComplete => []
  | .shutdownRead _ count outAddr => [(count, 2 ^ 16), (outAddr, 2 ^ 64)]
  | .nvmProgramDone _ => []
  | .shaperCreditReachesZero port _ => [(port, 256)]
  | .startDelimiterTimeout _ => []
  | .startingUnitClaim _ => []
  | .iklHighSymbolErrors _ => []
  | .busMasterEnableSet => []
  | .d3hotTransition _ => []

/-- Every number of the command lies below its bound. -/
def wellFormed (i : Instr) : Bool := (boundsOf i).all (fun p => decide (p.1 < p.2))

end Sys2Proof
end

