-- ==== Sys2Proof/Safety.lean ====
section
/-!
DEFINITION. What the statements call safe: when a laser group may be on.
-/

namespace Sys2Proof

open Machine

/-- R500 for the whole module: the groups that are on are exactly those requested, every one of them is wired, and while any
is on the lockout is clear, the tested flag is set, the guard is CLOSED and the mode in force permits lasers (of the host in
modes 3 to 11, of the Easel in mode 2). -/
def LaserSafe (s : State) : Prop :=
  s.saf.lsrEn = s.saf.request ∧ clearBits s.saf.lsrEn s.saf.wired = 0 ∧
    (s.saf.lsrEn ≠ 0 → s.ret.lockout = false ∧ s.ret.tested = true ∧ s.saf.guard = .closed ∧ 2 ≤ s.mode.mode.code)

end Sys2Proof
end

