-- ==== Sys2Proof/Certificates/Slice0/Obligations.lean ====
section
/-!
DEFINITION. The statements for the provers. Each is about a command, a family of commands or the whole block, and its
docstring names the rules of the manual that it rests on. The notions in front of them are read by the statements only.
-/

namespace Sys2Proof.Stated

open Sys2Proof.Machine

/-- `t` differs from `u` in the command exchange and in host memory at most (what a completion writes, R428, R434). -/
def ExchangeOnly (u t : State) : Prop := { t with cx := u.cx, host := u.host } = u

/-- `t` differs from `u` at most in what an event writes: the exchange and host memory, the event log and its flash jobs, the
count of lost events, the alert, and the clocks of rate-limited events (R374, R440, R523). -/
def EventsOnly (u t : State) : Prop :=
  { t with
    cx := u.cx, host := u.host, obs := u.obs, nvm := u.nvm, regs := u.regs, alertEvent := u.alertEvent
    alertCode := u.alertCode, evLast := u.evLast } = u

/-- From `s` to `t` the command of `tag` has been completed with a status: its ring has produced one completion, and a
command with a REQ_ID stands newest in the duplicate window with that status (R434, R437). -/
def Answered (s t : State) (tag : CmdTag) (status : Nat) : Prop :=
  (t.ring tag.ring).devSeq = seqNext (s.ring tag.ring).devSeq ∧
    (tag.reqId ≠ 0 → ((t.ring tag.ring).window.getLast?).map DupEntry.status = some status)

/-- The newest entry of the duplicate window of the tag's ring is this command's, with a status (R437). -/
def Told (t : State) (tag : CmdTag) (status : Nat) : Prop :=
  tag.reqId ≠ 0 → ((t.ring tag.ring).window.getLast?).map DupEntry.status = some status

/-- A command was refused: it is answered with a status, and nothing but the exchange has moved (R434). -/
def Refused (s t : State) (tag : CmdTag) (status : Nat) : Prop := Answered s t tag status ∧ ExchangeOnly s t

/-- OUT_ADDR data of a command that may write it, answered at once on its ring and without a result record: host memory takes
the data, and the completion entry of 32 bytes in its place of the ring (R428, R434). -/
def Delivered (s t : State) (tag : CmdTag) (addr : Nat) (data : Bytes) : Prop :=
  s.writable tag = true → tag.resultAddr = 0 → (s.ring tag.ring).held = [] →
    s.ringTakes tag.ring (seqNext (s.ring tag.ring).devSeq) = true →
    ∃ entry : Bytes, entry.length = 32 ∧ t.host = putBytes (putBytes s.host addr data)
      (s.fld (Reg.CX_RING_CQ_BASE_LO_BASE tag.ring) + 2 ^ 32 * s.fld (Reg.CX_RING_CQ_BASE_HI_BASE tag.ring)
        + 32 * (seqNext (s.ring tag.ring).devSeq % 4096)) entry

/-- The module serves commands: its start is done, no Canvas is lost, and the exchange has its 16 rings (R66, R94, R433). -/
def Serves (s : State) : Prop := s.started = true ∧ s.canvas.lost = false ∧ s.cx.rings.length = 16

/-- `s` after `n` ns, in everything but what the passing of time itself moves: the clock, module time, the throttle and L0
counters. -/
def TimeOnly (u t : State) : Prop :=
  { t with clk := u.clk, time := u.time, thm := u.thm, cal := u.cal } = u

/-- A register store in its canonical form: offsets strictly rising, and no register listed at its reset value. -/
def RegsCanonical (s : State) : Prop := keysRise 0 s.regs = true ∧ ∀ e ∈ s.regs, e.2 ≠ resetWord e.1

/-- A start has begun with a cause (R57, R63, Table 3.1): step 1 of a cold start for causes below 7, of a warm start from 7 on;
mode 0, L0, every laser off; a cold start has no Canvas in force and nothing retained (R41, R60). -/
def StartBegun (t : State) (cause : Nat) : Prop :=
  t.start.running = true ∧ t.start.step = 1 ∧ t.start.cause = cause ∧ t.start.warm = decide (7 ≤ cause) ∧
    t.mode.mode = .bootstrap ∧ t.pwr.state = 0 ∧ t.saf.lsrEn = 0 ∧
    (cause < 7 → t.canvas.active = none ∧ t.store = {})

/-- A safety fault of a code and place is in force (R507): the lockout is set, every laser is off and unrequested, the tested
flag is cleared. -/
def SafetyFaulted (t : State) (code place : Nat) : Prop :=
  t.ret.lockout = true ∧ t.ret.tested = false ∧ t.saf.lsrEn = 0 ∧ t.saf.request = 0 ∧ t.ret.faultCode = code ∧
    t.ret.faultWhere = place

/-- No command ring has an entry fetched or a completion held. -/
def QuietRings (s : State) : Prop := ∀ r : Fin 16, (s.ring r).fetched = [] ∧ (s.ring r).held = []

/-! ### Stroke cores -/

/-- A running core stands at a plain place, outside branch slots, load slots and REPEAT bodies, with no division in flight and
no interrupt line pending, and `x` is that core with one more cycle counted. -/
def At (s : State) (c : CoreRef) (x : Core) : Prop :=
  x = { s.core c with cyc := (s.core c).cyc + 1 } ∧ x.run = .running ∧ x.branch = none ∧ x.load = none ∧ x.div = none ∧
    x.rep0.act = false ∧ x.rep1.act = false ∧ ∀ n, c = .sup n → tget 0 s.eng.irq (4 * s.red.activeUnit + n) = 0

/-- The machine after a core has become `y` and gone on to its next word; nothing else has changed. -/
def went (s : State) (c : CoreRef) (y : Core) : State := s.setCore c { y with pc := (y.pc + 1) % pcMod c }

/-- As `went`, after `n` free values have been drawn. -/
def drew (s : State) (c : CoreRef) (y : Core) (n : Nat) : State := { went s c y with freeCtr := s.freeCtr + n }

/-- Does an integer fit in two's complement of `w` bits? -/
def fitsIn (w : Nat) (i : Int) : Bool := decide (-(2 ^ (w - 1)) ≤ i ∧ i ≤ 2 ^ (w - 1) - 1)

/-- The rounding right shift of R180: floor(x / 2^k + 1/2). -/
def rounded (x : Int) (k : Nat) : Int := if k = 0 then x else (x + 2 ^ (k - 1)) / 2 ^ k

/-- A register takes a 32-bit result by R207 and R209: wrapped, or saturated with SAT set; OVS where it does not fit. -/
def arith (x : Core) (d : Fin 16) (i : Int) : Core :=
  { x with
    d := x.d.set d (BitVec.ofInt 32 (if x.st.sat then max (-(2 ^ 31)) (min (2 ^ 31 - 1) i) else i))
    st := { x.st with ovs := x.st.ovs || !fitsIn 32 i } }

/-- An accumulator takes a 72-bit result by R207 and R209; AOV where it does not fit. -/
def accum (x : Core) (k : Fin 2) (i : Int) : Core :=
  { x with
    a := x.a.set k (BitVec.ofInt 72 (if x.st.sat then max (-(2 ^ 71)) (min (2 ^ 71 - 1) i) else i))
    st := { x.st with aov := x.st.aov || !fitsIn 72 i } }

/-- The flags of a comparison (R201). -/
def compared (x : Status) (a b : Word) : Status :=
  { x with z := decide (a = b), n := (a - b).msb, c := decide (b ≤ a), v := !fitsIn 32 (a.toInt - b.toInt) }

/-- The address of a generator at an offset (R202): linear where LEN is 0, else in the circular buffer. -/
def genAddr (c : CoreRef) (g : AddrGen) (off : Int) : Nat :=
  if g.len = 0 then (((g.base : Int) + g.ptr + off) % (agMod c : Int)).toNat
  else g.base + (((g.ptr : Int) + off) % (g.len : Int)).toNat

/-- A generator after a post-modify (R202). -/
def genStep (c : CoreRef) (g : AddrGen) (step : Int) : AddrGen :=
  { g with ptr := (((g.ptr : Int) + step) % (if g.len = 0 then (agMod c : Int) else (g.len : Int))).toNat }

/-- A core may store to a word of its data memory (Tables 9.1, 9.2). -/
def mayStore (c : CoreRef) (a : Nat) : Bool := !isLane c || laneStores a

/-- After a store the core has become `y` and gone on, and its data memory holds `v` at `a` and is as before elsewhere; no
other register, core or memory has changed. -/
def Stored (s t : State) (c : CoreRef) (y : Core) (a : Nat) (v : Word) : Prop :=
  t.eng = (match c with
    | .lane n => { (went s c y).eng with dm := tset 0 s.eng.dm (12288 * n + a) v }
    | .sup _ => { (went s c y).eng with smem := tset 0 s.eng.smem (2 ^ 20 * s.red.activeUnit + a) v }) ∧
    t.saf = s.saf ∧ t.mode = s.mode ∧ t.clk = s.clk ∧ t.dac = s.dac

/-- A lane has halted with a fault code, its registers as they were; every other core and the lanes' memory are as before. -/
def LaneFaulted (s t : State) (l : Fin 64) (code : Nat) : Prop :=
  ∃ y, t.eng = { s.eng with cores := tset {} s.eng.cores (s.coreKey (.lane l)) y } ∧ y.run = .halted ∧ y.fault = code ∧
    y.a = (s.core (.lane l)).a ∧ y.g = (s.core (.lane l)).g ∧ y.pc = (s.core (.lane l)).pc

/-- A supervisor core has taken an exception (R219): EPC is the next word, EFL the status and RACT, IE is clear, and it goes
on at EVEC; nothing else of the machine has changed. -/
def Excepted (s t : State) (k : Fin 4) (x : Core) (cause : Nat) (addr : Option Nat) : Prop :=
  ∃ y, t = s.setCore (.sup k) y ∧ y.epc = (x.pc + 1) % 2 ^ 32 ∧ y.ecause = cause ∧ y.eaddr = addr.getD x.eaddr ∧
    y.efl = BitVec.ofNat 32 (x.st.word + 65536 * x.ract) ∧ y.st = { x.st with ie := false } ∧ y.pc = x.evec ∧ y.d = x.d ∧
    y.a = x.a ∧ y.run = .running ∧ y.branch = none

/-- A core whose branch has been set up: two slots are still to run. -/
def slots (x : Core) (target : Nat) (st : Option Status) : Core :=
  { x with branch := some { target := target, slots := 2, status := st } }

/-- A core that waits in place. -/
def waits (x : Core) (k : WaitKind) (clk : Nat) : Core := { x with run := .waiting, wait := k, waitAt := clk }

/-- The result of a division (Table 9.8): truncated and limited to 32 bits, and that of a zero divisor. -/
def quotient (num den : Int) : Int :=
  if den = 0 then (if 0 < num then 2 ^ 31 - 1 else if num < 0 then -(2 ^ 31) else 0)
  else max (-(2 ^ 31)) (min (2 ^ 31 - 1) (num.tdiv den))

/-- A division in flight: its result reaches DQ 12 cycles later, and a zero divisor sets DZ. -/
def divided (x : Core) (num den : Int) : Core :=
  { x with
    div := some ⟨12, BitVec.ofInt 32 (quotient num den)⟩
    st := { x.st with dz := x.st.dz || decide (den = 0) } }

/-- The core on which a Stroke instruction runs; `none` for every other command. -/
def coreOf : Instr → Option CoreRef
  | .nop c => some c
  | .halt c => some c
  | .br c _ _ => some c
  | .call c _ => some c
  | .jr c _ => some c
  | .ret c => some c
  | .reti c => some c
  | .repeat_ c _ _ => some c
  | .repeatr c _ _ => some c
  | .waitp c => some c
  | .waite c => some c
  | .waits c _ _ => some c
  | .cstep c _ _ => some c
  | .bkpt c => some c
  | .mov c _ _ => some c
  | .li c _ _ => some c
  | .add c _ _ _ => some c
  | .addi c _ _ _ => some c
  | .sub c _ _ _ => some c
  | .neg c _ _ => some c
  | .abs c _ _ => some c
  | .mull c _ _ _ => some c
  | .and_ c _ _ _ => some c
  | .andi c _ _ _ => some c
  | .or_ c _ _ _ => some c
  | .ori c _ _ _ => some c
  | .xor_ c _ _ _ => some c
  | .xori c _ _ _ => some c
  | .sll c _ _ _ => some c
  | .srl c _ _ _ => some c
  | .sra c _ _ _ => some c
  | .rsh c _ _ _ => some c
  | .shv c _ _ _ => some c
  | .cmp c _ _ => some c
  | .cmpi c _ _ => some c
  | .tst c _ _ => some c
  | .min c _ _ _ => some c
  | .max c _ _ _ => some c
  | .clamp c _ _ _ => some c
  | .sel c _ _ _ _ => some c
  | .clz c _ _ => some c
  | .ext c _ _ _ _ => some c
  | .exts c _ _ _ _ => some c
  | .ins c _ _ _ _ => some c
  | .mpa c _ _ _ => some c
  | .mac c _ _ _ => some c
  | .msu c _ _ _ => some c
  | .mpai c _ _ _ => some c
  | .maci c _ _ _ => some c
  | .mpr c _ _ _ _ _ => some c
  | .msr c _ _ _ _ _ => some c
  | .mar c _ _ _ _ _ => some c
  | .clra c _ => some c
  | .adda c _ _ _ => some c
  | .addaa c _ _ => some c
  | .nega c _ => some c
  | .sha c _ _ => some c
  | .shar c _ _ => some c
  | .sata c _ => some c
  | .mva c _ _ _ => some c
  | .mova c _ _ => some c
  | .mvax c _ _ _ => some c
  | .mtax c _ _ _ => some c
  | .ld c _ _ _ => some c
  | .st c _ _ _ => some c
  | .ldx c _ _ _ => some c
  | .stx c _ _ _ => some c
  | .ldv c _ _ _ => some c
  | .stv c _ _ _ => some c
  | .ldd c _ _ => some c
  | .std c _ _ => some c
  | .ldr c _ _ _ => some c
  | .str c _ _ _ => some c
  | .agset c _ _ _ => some c
  | .agsetr c _ _ _ => some c
  | .mtag c _ _ _ => some c
  | .mfag c _ _ _ => some c
  | .mfs c _ _ => some c
  | .mts c _ _ => some c
  | .divq c _ _ _ => some c
  | .diva c _ _ => some c
  | .sqrta c _ => some c
  | .rete c => some c
  | .syscall c _ => some c
  | .ldb c _ _ _ _ => some c
  | .stb c _ _ _ _ => some c
  | .lockb c _ _ => some c
  | .unlockb c => some c
  | .waiti c => some c
  | .fence c => some c
  | _ => none

/-- A record of a TYPE that its port takes: the port is up, the record's length and CRC are good, its number is new (R401,
R402). -/
def Heard (s : State) (n : Fin 8) (r : Bytes) (type : Nat) : Prop :=
  s.ikl.ports.length = 8 ∧ s.pwr.state ≤ 1 ∧ (s.iklPort n).state = 2 ∧ recordOk r = true ∧ byteAt r 0 = type ∧
    ∀ q, (s.iklPort n).rxSeq = some q → newer 32 (leAt r 4 4) q = true

/-- A record of a new conjunction message from another module that its port takes (R416). -/
def HeardConj (s : State) (n : Fin 8) (r b : Bytes) (m : ConjMsg) : Prop :=
  Heard s n r 3 ∧ b = slice r 8 (leAt r 2 2) ∧ m = ConjMsg.read b ∧ m.origin ≠ s.moduleId ∧ s.conjSeen m = false

/-- The commands of the exchange: the tag and the opcode of the catalogue (Table 20.6); `none` for every other command. -/
def commandOf : Instr → Option (CmdTag × Nat)
  | .safLaserSet tag _ => some (tag, 0x0501)
  | .setMode tag _ _ => some (tag, 0x0001)
  | .setPower tag _ => some (tag, 0x0002)
  | .resetModule tag _ => some (tag, 0x0003)
  | .loadCanvas tag _ _ _ => some (tag, 0x0004)
  | .canvasPrepare tag _ _ _ _ => some (tag, 0x0005)
  | .canvasCommit tag _ => some (tag, 0x0006)
  | .canvasAbort tag => some (tag, 0x0007)
  | .keyRevoke tag _ => some (tag, 0x0008)
  | .swatchWrite tag _ _ _ _ _ _ => some (tag, 0x0E01)
  | .swatchLoad tag _ _ _ => some (tag, 0x0E02)
  | .swatchInvalidate tag _ => some (tag, 0x0E03)
  | .swatchRead tag _ _ => some (tag, 0x0E04)
  | .swatchApply tag _ _ => some (tag, 0x0E05)
  | .stuckAdd tag _ _ => some (tag, 0x0E06)
  | .stuckClear tag _ => some (tag, 0x0E07)
  | .orbitPrepare tag _ _ _ _ _ => some (tag, 0x0F01)
  | .orbitCommit tag _ => some (tag, 0x0F02)
  | .orbitAbort tag => some (tag, 0x0F03)
  | .orbitRead tag _ _ _ => some (tag, 0x0F04)
  | .calRun tag _ _ _ _ => some (tag, 0x0A01)
  | .calDriftRead tag _ _ => some (tag, 0x0A02)
  | .clsRuleWrite tag _ _ _ => some (tag, 0x1201)
  | .clsRuleDelete tag _ _ => some (tag, 0x1202)
  | .clsRangeWrite tag _ _ => some (tag, 0x1203)
  | .clsRuleRead tag _ _ _ => some (tag, 0x1204)
  | .fdbSearch tag _ _ _ => some (tag, 0x1301)
  | .fdbNext tag _ _ _ _ => some (tag, 0x1302)
  | .fdbInsert tag _ _ _ _ => some (tag, 0x1303)
  | .fdbDelete tag _ _ _ => some (tag, 0x1304)
  | .fdbFlushByPort tag _ _ _ _ _ => some (tag, 0x1305)
  | .fidWrite tag _ _ _ _ => some (tag, 0x1306)
  | .fidRead tag _ _ => some (tag, 0x1307)
  | .polWrite tag _ _ _ => some (tag, 0x1401)
  | .portGateWrite tag _ _ _ _ => some (tag, 0x1402)
  | .portGateCancel tag _ => some (tag, 0x1403)
  | .cntSnapshot tag _ _ _ _ => some (tag, 0x1601)
  | .readLog tag _ _ _ => some (tag, 0x0009)
  | .timeOffset tag _ _ => some (tag, 0x0701)
  | .timeConfirm tag _ _ => some (tag, 0x0702)
  | .timeSet tag _ _ _ _ => some (tag, 0x0703)
  | .conjPropose tag _ _ => some (tag, 0x0801)
  | .conjAbort tag => some (tag, 0x0802)
  | .iklViewRead tag _ _ => some (tag, 0x0803)
  | .iklTunnelSend tag _ _ _ _ => some (tag, 0x0804)
  | .cxNop tag => some (tag, 0x0000)
  | .cxStateRead tag _ => some (tag, 0x0100)
  | .cuSwitch tag => some (tag, 0x0902)
  | .cuRestore tag _ => some (tag, 0x0901)
  | .shutdownRead tag _ _ => some (tag, 0x0601)
  | _ => none

/-- The table commands and the rest of the packet side, which the module serves in L0 only (R45, R317). -/
def needsL0 : Instr → Bool
  | .clsRuleWrite _ _ _ _ => true
  | .clsRuleDelete _ _ _ => true
  | .clsRangeWrite _ _ _ => true
  | .clsRuleRead _ _ _ _ => true
  | .fdbSearch _ _ _ _ => true
  | .fdbNext _ _ _ _ _ => true
  | .fdbInsert _ _ _ _ _ => true
  | .fdbDelete _ _ _ _ => true
  | .fdbFlushByPort _ _ _ _ _ _ => true
  | .fidWrite _ _ _ _ _ => true
  | .fidRead _ _ _ => true
  | .polWrite _ _ _ _ => true
  | .portGateWrite _ _ _ _ _ => true
  | .portGateCancel _ _ => true
  | _ => false

end Sys2Proof.Stated

open Sys2Proof Sys2Proof.Machine Sys2Proof.Stated

/-! ### The block: its queue, its step, its reset -/

/-- O1 (the block's step; log entry 1): the front command runs with the queue's rest; on an empty queue the block idles,
which is the model's choice: in a module without VAON only the clock moves. -/
def Obligations.StepRunsTheFrontCommand : Prop :=
  ∀ s : State,
    (∀ c rest, s.pending = c :: rest → step s = exec c { s with pending := rest }) ∧
    (s.pending = [] → step s = .next s.idle) ∧
    (s.pending = [] → s.pins.vaon = false → step s = .next { s with clk := s.clk + 1 })

/-- O2: every command answers a next state in every state (the manual gives every row an effect) and leaves the queue
alone, so a step takes exactly the front command away (the queue is the model's own, log entry 1). -/
def Obligations.EveryCommandGoesOnAndLeavesTheQueue : Prop :=
  ((∀ (c : Instr) (s : State), ∃ t, exec c s = .next t) ∧ ∀ s : State, ∃ t, step s = .next t) ∧
  ((∀ (c : Instr) (s t : State), exec c s = .next t → t.pending = s.pending) ∧
    ∀ s t : State, step s = .next t → t.pending = s.pending.drop 1)

/-- O3 (R500): whatever the block does next, lasers that obey R500 go on obeying it. -/
def Obligations.LaserSafetyIsKept : Prop := ∀ s t : State, LaserSafe s → step s = .next t → LaserSafe t

/-- O4: the state before VAON first rises. Every stored register holds the reset value of its table (R6); the module is in
mode 0 and L0, no laser is on, no Canvas is active, no unit runs, module time is unset, nothing waits. Where the manual
states no reset value the model's stands (log entry 2). -/
def Obligations.ResetState : Prop :=
  (∀ a, State.reset.regWord a = resetWord a) ∧ State.reset.regWord 0x40004 = 0x00C800BE ∧
    State.reset.regWord 0x70024 = 0x001003E8 ∧ State.reset.mode.mode = .bootstrap ∧
    State.reset.pwr.state = 0 ∧ State.reset.saf.lsrEn = 0 ∧ LaserSafe State.reset ∧ State.reset.canvas.active = none ∧
    State.reset.red.a.state = .off ∧ State.reset.red.b.state = .off ∧ State.reset.time.unset = true ∧
    State.reset.ret = {} ∧ State.reset.pending = [] ∧ State.reset.host = [] ∧
    (∀ n, (State.reset.cx.rings.getD n {}) = {}) ∧ State.reset.cx.rings.length = 16

/-! ### Host accesses to the registers (chapters 00, 17, 20, 25) -/

/-- O5 (R3, R4): a host write of GEN_SCRATCHn stores the word, which reads back; nothing else of the block moves but the
bus target's grant. -/
def Obligations.ScratchWriteReadsBack : Prop :=
  ∀ (s : State) (n : Fin 4) (v : Word), RegsCanonical s → s.barUp = true → tget 0 s.locks (0x70 + 4 * n.val) = 0 →
    ∃ t, exec (.registerWrite (0x70 + 4 * n) 15 v) s = .next t ∧ t.regWord (0x70 + 4 * n) = v ∧
      (∀ a, a ≠ 0x70 + 4 * n.val → t.regWord a = s.regWord a) ∧
      { t with regs := s.regs, bm := s.bm } = s ∧
      exec (.registerReadClear (0x70 + 4 * n) 15 none) t = .next { t with readData := v }

/-- O6 (R5, R90, R553): while a Canvas is active the thresholds that THERMAL governs keep their value on every write, and
a write that would change one raises LOCKED_WRITE; a value that breaks its register's range rule leaves the whole register
unchanged and raises the block's range event, and one that keeps it is stored (PWR_KEEP, 1 to 60 s). -/
def Obligations.RegisterWriteRules : Prop :=
  (∀ (s : State) (v : Word), RegsCanonical s → s.barUp = true → s.canvas.active.isSome = true →
    ∃ t, exec (.registerWrite 0x40004 15 v) s = .next t ∧ t.regWord 0x40004 = s.regWord 0x40004 ∧
      (s.rangeOk 0x40004 (s.regWord 0x40004).toNat = true →
        (v = s.regWord 0x40004 → t.cx.evtSeq = s.cx.evtSeq) ∧
        (v ≠ s.regWord 0x40004 → t.cx.evtSeq = seqNext s.cx.evtSeq))) ∧
  (∀ (s : State) (v : Word), RegsCanonical s → s.barUp = true → tget 0 s.locks 0x30004 = 0 →
    ∃ t, exec (.registerWrite 0x30004 15 v) s = .next t ∧
      (1 ≤ v.toNat % 64 ∧ v.toNat % 64 ≤ 60 → t.fld Reg.PWR_KEEP_INTERVAL = v.toNat % 64 ∧ t.cx = s.cx) ∧
      (¬(1 ≤ v.toNat % 64 ∧ v.toNat % 64 ≤ 60) →
        t.regWord 0x30004 = s.regWord 0x30004 ∧ t.cx.evtSeq = seqNext s.cx.evtSeq))

/-- O7 (R7): a read of CX_ERR returns the counts and clears them; a count that comes in the clock of the read is kept. -/
def Obligations.ReadClearsAndKeepsTheUpdate : Prop :=
  ∀ (s : State) (k : Nat), RegsCanonical s → s.barUp = true → k < 65536 →
    (∃ t, exec (.registerReadClear 0x1000C 15 none) s = .next t ∧ t.readData = s.regWord 0x1000C ∧
      t.regWord 0x1000C = 0 ∧ (∀ a, a ≠ 0x1000C → t.regWord a = s.regWord a)) ∧
    (∃ t, exec (.registerReadClear 0x1000C 15 (some ⟨31, 16, k⟩)) s = .next t ∧ t.readData = s.regWord 0x1000C ∧
      t.regWord 0x1000C = BitVec.ofNat 32 (65536 * k))

/-- O8 (R191, R364): a read of the first word of a loop status record latches the record of that instant, and its other
words come from the copy; a read of word 0 of a counter record latches words 1 and 2. -/
def Obligations.RecordReadsComeFromOneInstant : Prop :=
  ∀ (s : State) (n : Nat), s.barUp = true → n < 4352 →
    (∃ t, exec (.windowRecordRead (0x1400000 + 32 * n)) s = .next t ∧
      t = { s.granted 4 2 with
        readData := lget 0 (s.statusRecord n) 0
        winLatch := tput s.winLatch 1 (0x1400000 + 32 * n, s.statusRecord n) } ∧
      ∀ u : State, u.barUp = true → u.winLatch = t.winLatch → ∀ i, 1 ≤ i → i < 8 →
        ∃ w, exec (.windowRecordRead (0x1400000 + 32 * n + 4 * i)) u = .next w ∧
          w.readData = lget 0 (s.statusRecord n) i) ∧
    ∀ a, a % 16 = 0 →
      exec (.counterRecordRead a) s = .next { s.granted 2 2 with
        obs := { s.obs with cntLatch := some (a, s.cntOf a) }, readData := BitVec.ofNat 32 (s.cntOf a) }

/-- O9 (R120, R163, R165, R314, R376, R385, R394, R446, R457): a read that latches returns its own word and latches the
words that go with it from the same instant, and nothing else moves but the bus target's grant; a read of TIM_CAPn_W0
takes the oldest edge from FIFO n and latches its stamp, and an empty FIFO reads 0. -/
def Obligations.LatchingReads : Prop :=
  (∀ s : State, s.barUp = true →
    exec .orbCycleLoRead s = .next { s.granted 0 2 with
      readData := BitVec.ofNat 32 s.orb.cycle, orb := { s.orb with cycleHiLatch := s.orb.cycle / 2 ^ 32 } } ∧
    exec .leLoopPeriodLoRead s = .next { s.granted 4 2 with
      readData := BitVec.ofNat 32 s.loops.period
      loops := { s.loops with periodHiLatch := s.loops.period / 2 ^ 32 % 2 ^ 32 } } ∧
    exec .fdbEpochRead s = .next { s.granted 0 2 with
      readData := BitVec.ofNat 32 s.fdb.epoch, fdb := { s.fdb with drainLatch := s.drain } } ∧
    exec .timNowFracRead s = .next { s.granted 9 2 with
      readData := BitVec.ofNat 32 (s.time.now / 2 ^ 24 % 65536), time := { s.time with nowLatch := s.time.now } } ∧
    exec .timJumpLoRead s = .next { s.granted 9 2 with
      readData := BitVec.ofNat 32 s.jumpWord
      time := { s.time with jumpLatch := BitVec.ofNat 32 (s.jumpWord / 2 ^ 32) } } ∧
    (∃ t, exec .bmErrInfoRead s = .next t ∧ t.bm.errAddrLatch = s.bm.errAddr ∧ t.bm.errValid = false ∧
      t.readData = s.regRead 0x20104 ∧ { t with readData := s.readData, bm := s.bm } = s) ∧
    (∃ t, exec .cxStateEpochRead s = .next t ∧ t.readData = s.regRead 0x10004 ∧ t.cx.evtLatch = s.cx.evtSeq ∧
      (∀ r < s.cx.rings.length, (t.ring r).consLatch = (s.ring r).cons ∧ (t.ring r).prodLatch = (s.ring r).devSeq ∧
        (t.ring r).cons = (s.ring r).cons) ∧
      { t with readData := s.readData, bm := s.bm, cx := s.cx } = s)) ∧
  (∀ (s : State) (n : Nat), s.barUp = true → n < 5 →
    (∀ c rest, tget [] s.time.caps n = c :: rest → ∃ t, exec (.timCapW0Read n) s = .next t ∧
      t.readData = BitVec.ofNat 32 (captureW0 c) ∧ t.time.caps = tset [] s.time.caps n rest ∧
      t.time.capLatch = tset 0 s.time.capLatch n c.stamp) ∧
    (tget [] s.time.caps n = [] → exec (.timCapW0Read n) s = .next { s.granted 9 2 with readData := 0 }))

/-- O10 (R120): MX_MON_SEL selects a far port, and the monitor words of one period are read as a pair, as are the DAC's
applied codes; a number below 256 is no far port. -/
def Obligations.MonitorReads : Prop :=
  ∀ (s : State) (v : Word), RegsCanonical s → s.barUp = true →
    (256 ≤ v.toNat % 512 → ∃ t, exec (.mxMonSelWrite v) s = .next t ∧
      t.fld Reg.MX_MON_SEL_PORT = v.toNat % 512 ∧ t.flag Reg.MX_MON_SEL_DIR = bitAt v.toNat 9 ∧ t.mx.monLatch = none ∧
      { t with regs := s.regs, bm := s.bm, mx := s.mx } = s) ∧
    (v.toNat % 512 < 256 → ∃ t, exec (.mxMonSelWrite v) s = .next t ∧ t.mx = s.mx ∧
      t.fld Reg.MX_MON_SEL_PORT = s.fld Reg.MX_MON_SEL_PORT ∧ t.cx.evtSeq = seqNext s.cx.evtSeq) ∧
    (∃ t, exec .mxMonDataRead s = .next t ∧
      (∀ m p, (tget {} s.mx.far (farKey (s.fld Reg.MX_MON_SEL_PORT) (s.flag Reg.MX_MON_SEL_DIR))) = m →
        m.mean = some p → 0 ≤ p → p < 32768 → t.readData.toNat % 65536 = p.toNat) ∧
      t.mx.monLatch.isSome = true ∧ { t with readData := s.readData, bm := s.bm, mx := { t.mx with monLatch := s.mx.monLatch } } = s) ∧
    (∃ t, exec .dacMonDataRead s = .next t ∧
      t.dac.monLatch = some (BitVec.ofNat 32
        (s.htrOut (s.fld Reg.DAC_MON_SEL_CELL) + 65536 * s.htrTarget (s.fld Reg.DAC_MON_SEL_CELL))) ∧
      { t with readData := s.readData, bm := s.bm, dac := { t.dac with monLatch := s.dac.monLatch } } = s)

/-- O11 (R429, R523): GEN_ALERT.EVENT is cleared by a write of 1, unless an event is raised in that clock; unmasking a
vector raises it once if it came due while masked. -/
def Obligations.AlertAndVectorWrites : Prop :=
  ∀ (s : State) (v : Nat), s.barUp = true → v < 64 → s.cx.msix.length = 64 →
    exec (.genAlertClear none) s = .next { s.granted 0 2 with alertEvent := false } ∧
    (∀ code, exec (.genAlertClear (some code)) s =
      .next { s.granted 0 2 with alertEvent := true, alertCode := code }) ∧
    ∃ t, exec (.msixUnmask v) s = .next t ∧
      lget {} t.cx.msix v = { masked := false, pending := false
                              raised := (lget {} s.cx.msix v).raised + ofBool (lget {} s.cx.msix v).pending } ∧
      (∀ m, m ≠ v → lget {} t.cx.msix m = lget {} s.cx.msix m) ∧
      { t with bm := s.bm, cx := { t.cx with msix := s.cx.msix } } = s

/-- O12 (R64, R430): before BAR0 is reached a register write is lost, and a register read returns all ones. -/
def Obligations.UnreachedRegisters : Prop :=
  ∀ (s : State) (addr be : Nat) (v : Word), s.barUp = false → addr < 0x4000000 →
    exec (.registerWrite addr be v) s = .next s ∧
    (∀ upd, exec (.registerReadClear addr be upd) s = .next { s with readData := 0xFFFFFFFF }) ∧
    exec .orbCycleLoRead s = .next { s with readData := 0xFFFFFFFF } ∧
    exec (.mxMonSelWrite v) s = .next s ∧ exec (.evtDoorbell v) s = .next s ∧ exec .startContinue s = .next s

/-! ### Tables of the state -/

/-- O13: the sparse tables in which the block keeps its memories: a write is read back, leaves every other key alone, and
keeps the canonical form in which equal contents are equal data (log entry 3). -/
def Obligations.TablesReadBack : Prop :=
  ∀ (d : Word) (t : Tbl Word) (k : Nat) (v : Word), tblWf d 0 t = true →
    tget d (tset d t k v) k = v ∧ (∀ j, j ≠ k → tget d (tset d t k v) j = tget d t j) ∧
      tblWf d 0 (tset d t k v) = true ∧ (tset d t k (tget d t k) = t)

/-- O14: the register store stays in its canonical form whatever the block does (the model's own, log entry 3). -/
def Obligations.RegisterStoreStaysCanonical : Prop :=
  RegsCanonical State.reset ∧ ∀ s t : State, RegsCanonical s → step s = .next t → RegsCanonical t

/-! ### Starts and resets (chapter 03) -/

/-- O15 (R61, R71): a start-up step that passes within its limit ends at its time, and the next step begins; one that
fails ends the start, counts toward its kind, records step and code, and a retry is due 100 ms later. -/
def Obligations.StartStepsPassOrFail : Prop :=
  ∀ (s : State) (dur code : Nat), s.start.running = true → s.startStands = false → s.start.report = [] →
    s.start.step = 1 → dur ≤ 5000000 →
    (∃ t, exec (.start [⟨dur, 0⟩]) s = .next t ∧ t.start.running = true ∧ t.start.step = 2 ∧ t.start.report = [] ∧
      t.clk = max s.clk (s.start.stepAt + dur) ∧ t.start.stepAt = t.clk ∧ t.mode = s.mode ∧ t.saf = s.saf) ∧
    (code ≠ 0 → ∃ t, exec (.start [⟨dur, code⟩]) s = .next t ∧ t.start.running = false ∧
      t.clk = max s.clk (s.start.stepAt + dur) ∧ t.start.retryAt = some (t.clk + 100000000) ∧
      t.ret.failStep = 1 ∧ t.ret.failCode = code ∧ t.saf.lsrEn = 0 ∧
      t.ret.coldFails = (if s.start.warm then s.ret.coldFails else min (s.ret.coldFails + 1) 3))

/-- O16 (R61, R71, R74): a step over its limit fails with code 0x01 (0x40 at step 6 with both references bad); the retry
comes 100 ms after the failure, or the module halts; CONTINUE ends a hold. -/
def Obligations.StartTimeoutRetryAndContinue : Prop :=
  ∀ s : State,
    (s.startStands = false → s.holdsAt s.start.step = false → ∃ t, exec .startStepTimeout s = .next t ∧
      t.start.running = false ∧ t.ret.failStep = s.start.step ∧
      t.ret.failCode = (if s.start.step = 6 ∧ s.refsBad = true then 0x40 else 0x01) ∧
      t.clk = max s.clk (s.start.stepAt + stepLimit s.start.step s.start.warm) ∧
      t.start.retryAt = some (t.clk + 100000000)) ∧
    (∀ a, s.start.retryAt = some a → s.start.retryCause = none → ∃ t, exec .startRetry s = .next t ∧
      t.start.state = 3 ∧ t.start.retryAt = none ∧ t.clk = max s.clk a ∧ t.mode = s.mode ∧ t.regs = s.regs) ∧
    (∀ a c, s.start.retryAt = some a → s.start.retryCause = some c → ∃ t, exec .startRetry s = .next t ∧
      StartBegun t c ∧ t.clk = max s.clk a) ∧
    (s.barUp = true → s.start.held = true → s.start.report = [] → s.start.step = 8 → s.start.running = true →
      s.start.canvasWait = false → (s.filter 8).active = false → ∃ t, exec .startContinue s = .next t ∧
      t.start.held = false ∧ t.start.state = 0 ∧ t.start.released = 8 ∧ t.start.step = 8 ∧ t.start.running = true ∧
      { t with start := s.start, bm := s.bm } = s)

/-- O17 (R57, R49, Table 3.1): what begins a start, and with which cause: VAON rising 0, the main rails 1, a wake from L5
2 or from L4 8, RESET_MODULE 3 or 9, RST_N 7. -/
def Obligations.StartCauses : Prop :=
  ∀ (s : State) (tag : CmdTag) (held : Nat),
    (s.pins.vaon = false → s.pins.rails = false → ∃ t, exec .vaonRise s = .next t ∧ StartBegun t 0 ∧
      t.pins.vaon = true) ∧
    (s.pins.vaon = true → ∃ t, exec .mainRailsRise s = .next t ∧ StartBegun t 1 ∧ t.pins.rails = true ∧
      t.ret.wakeSrc = 5) ∧
    (∀ kind, kind ≤ 1 → s.start.state ≠ 3 → ∃ t, exec (.resetModule tag kind) s = .next t ∧
      StartBegun t (if kind = 1 then 9 else 3)) ∧
    (s.pins.vaon = true → s.pins.rails = true → s.ret.thermalL5 = false → 4 ≤ s.pwr.state → ∃ t,
      exec (.smbusWake 0xA5) s = .next t ∧ StartBegun t (if s.pwr.state = 4 then 8 else 2) ∧ t.ret.wakeSrc = 2) ∧
    (s.pins.vaon = true → s.pins.rails = true → s.ret.thermalL5 = false → 4 ≤ s.pwr.state → s.cx.perst = true → ∃ t,
      exec .perstNDeassert s = .next t ∧ StartBegun t (if s.pwr.state = 4 then 8 else 2) ∧ t.ret.wakeSrc = 3) ∧
    (∀ a, s.pins.vaon = true → s.pins.rails = true → (s.edge 8 false held).1 = .accepted → s.pins.rstAt = some a →
      s.start.state ≠ 3 → s.pins.rstPower ≤ 3 → ∃ t, exec (.rstNRelease held) s = .next t ∧ StartBegun t 7 ∧
      t.ret.wakeSrc = 4 ∧ t.ret.rstHold = min ((s.clk + s.minPw 8 - a) / 10000000) 0xFFFF ∧ t.pins.rstAt = none)

/-- O18 (R68, R532): RST_N, and an undervoltage of a main rail, turn every laser off, clear the DACs, lose the frames in
the buffer with a count, bring the host link down and abandon a start. -/
def Obligations.ResetActions : Prop :=
  ∀ (s : State) (held : Nat) (rail : Fin 6), s.pins.vaon = true →
    ((s.edge 8 true held).1 = .accepted → ∃ t, exec (.rstNAssert held) s = .next t ∧ t.saf.lsrEn = 0 ∧ t.dac.clr = true ∧
      t.dac.clrSource = 1 ∧ t.tm.frames = [] ∧ t.cx.linkUp = false ∧ t.cx.busMaster = false ∧ t.mode.mode = .bootstrap ∧
      t.start.running = (decide (s.start.state = 3) && s.start.running) ∧
      t.pins.rstAt = some (s.clk + s.minPw 8) ∧ t.clk = s.clk + s.minPw 8) ∧
    (s.pins.rails = true → 10000 ≤ held → ∃ t, exec (.railUndervoltage rail held) s = .next t ∧ t.saf.lsrEn = 0 ∧
      t.dac.clr = true ∧ t.tm.frames = [] ∧ t.cx.linkUp = false ∧ t.pins.rails = false ∧ t.ret.rail = some rail.val ∧
      t.start.railFail = true) ∧
    (s.pins.rails = true → held < 10000 → exec (.railUndervoltage rail held) s = .next s)

/-- O19 (R70, R427, R430): PERST_N and a link down reset the endpoint only, and clear the EN of every ring and frame
queue; Bus Master Enable and D3hot stop the DMA and keep the rest. -/
def Obligations.HostLinkEvents : Prop :=
  ∀ s : State, RegsCanonical s → s.cx.linkUp = true →
    (s.pwr.state ≤ 3 → ∃ t, exec .perstNAssert s = .next t ∧ t.cx.perst = true ∧ t.cx.linkUp = false ∧
      t.cx.busMaster = false ∧ (∀ r < 16, t.flag (Reg.CX_RING_CTL_EN r) = false) ∧ t.mode = s.mode ∧ t.tm = s.tm) ∧
    (∃ t, exec (.pcieFunctionReset true) s = .next t ∧ t.cx.linkUp = false ∧ t.cx.busMaster = false ∧
      (∀ r < 16, t.flag (Reg.CX_RING_CTL_EN r) = false) ∧
      (∀ q < 8, t.flag (Reg.CX_FQ_CTL_TX_EN q) = false ∧ t.flag (Reg.CX_FQ_CTL_RX_EN q) = false) ∧ t.mode = s.mode ∧
      (∀ r, (t.ring r).cons = (s.ring r).cons ∧ (t.ring r).window = (s.ring r).window)) ∧
    exec .busMasterEnableClear s = .next { s with cx := { s.cx with busMaster := false } } ∧
    exec (.d3hotTransition true) s = .next { s with cx := { s.cx with d3hot := true } } ∧
    (QuietRings s → s.cx.rings.length = 16 → exec (.d3hotTransition false) s =
      .next { s with cx := { s.cx with d3hot := false } }) ∧
    (QuietRings s → s.cx.rings.length = 16 → s.exposed = true → s.cx.perst = false →
      exec .busMasterEnableSet s = .next { s with cx := { s.cx with busMaster := true } }) ∧
    (s.pwr.state ≤ 3 → ∀ u : State, u = { s with cx := { s.cx with linkUp := false, perst := true } } → QuietRings s →
      s.cx.rings.length = 16 → s.exposed = true → ∃ t, exec .perstNDeassert u = .next t ∧ t.cx.linkUp = true ∧
        t.cx.perst = false ∧ t.mode = s.mode ∧ t.regs = s.regs)

/-! ### Filtered inputs, the DAC clear (chapters 10, 24) -/

/-- O20 (R241, R242): the filtered assertion of DAC_CLR_N puts every switching output at its safe code within 200 ns of
its acceptance; its filtered release lets the end of the clear begin; a shorter pulse is counted and does nothing else. -/
def Obligations.DacClearFollowsItsPin : Prop :=
  ∀ (s : State) (held : Nat), s.pins.vaon = true →
    ((s.edge 7 true held).1 = .accepted → ∃ t, exec (.dacClrNAssert held) s = .next t ∧ t.dac.clr = true ∧
      t.dac.released = false ∧ t.dac.clrSource = 0 ∧ t.dac.clrAt = s.clk + s.minPw 7 + 200 ∧ t.clk = t.dac.clrAt ∧
      t.mx.cells = 0 ∧ t.mx.txOn = 0 ∧ t.cx.evtSeq = seqNext s.cx.evtSeq ∧ t.saf = s.saf ∧ t.mode = s.mode) ∧
    ((s.edge 7 false held).1 = .accepted → s.dac.clr = true → (s.edge 7 false held).2.clrReleased = true → ∃ t,
      exec (.dacClrNRelease held) s = .next t ∧ t.dac = { s.dac with released := true } ∧
      { t with dac := s.dac, pins := s.pins } = s) ∧
    (RegsCanonical s → held < s.minPw 7 → s.fld Reg.DAC_ERR_GLITCH < 255 → ∃ t, exec (.dacClrNAssert held) s = .next t ∧
      t.fld Reg.DAC_ERR_GLITCH = s.fld Reg.DAC_ERR_GLITCH + 1 ∧ { t with regs := s.regs } = s)

/-- O21 (R511, R69): an input held active for its maximum time is faulted (RST_N is recorded as stuck instead); a faulted
input that has been inactive for its recovery time works again. -/
def Obligations.FiltersFaultAndRecover : Prop :=
  ∀ (s : State) (k : Fin 4) (a : Nat), s.pins.vaon = true → s.pins.filters.length = 14 →
    (s.maxAct (10 + k) = some a → (s.filter (10 + k)).active = true → (s.filter (10 + k)).faulted = false → ∃ t,
      exec (.inputStuckTimeout (Fin.ofNat 14 (10 + k))) s = .next t ∧ (t.filter (10 + k)).faulted = true ∧
      t.clk = max s.clk ((s.filter (10 + k)).at_ + a) ∧ t.saf = s.saf ∧ t.ret = s.ret) ∧
    (s.maxAct 8 = some a → (s.filter 8).active = true → (s.filter 8).faulted = false → ∃ t,
      exec (.inputStuckTimeout 8) s = .next t ∧ t.ret.rstStuck = true ∧ t.ret.stuckPending = true ∧ t.pins = s.pins) ∧
    ((s.filter (10 + k)).active = false → (s.filter (10 + k)).faulted = true → ∃ t,
      exec (.inputRecovery (Fin.ofNat 14 (10 + k))) s = .next t ∧ (t.filter (10 + k)).faulted = false ∧
      t.clk = max s.clk (s.recoveryAt (10 + k)) ∧ t.saf = s.saf ∧ t.ret = s.ret ∧ t.regs = s.regs)

/-! ### The laser safety interlock (chapter 24) -/

/-- O22 (R499, R504, R508): a sample counts the DISAGREE run and reads the outputs back, and an output that differs from
its command on two samples in a row is a safety fault; a press of SAF_RESET_N of 100 ms to 3 s clears the lockout where
every condition holds, without setting the tested flag or turning a laser on. -/
def Obligations.SafetySampleAndReset : Prop :=
  (∀ (s : State) (rb : Nat), s.pins.vaon = true → rb < 16 →
    (rb = s.saf.lsrEn → s.saf.misRun = [0, 0, 0, 0] → ∃ t, exec (.safetySample rb) s = .next t ∧ t.saf.readback = rb ∧
      t.saf.misRun = [0, 0, 0, 0] ∧ t.saf.run = (if s.saf.guard = .disagree then s.saf.run + 1 else 0) ∧
      t.saf.longest = max s.saf.longest (discTicks t.saf.run) ∧ t.saf.lsrEn = s.saf.lsrEn ∧ t.ret = s.ret ∧
      t.clk = max s.clk s.slowEdge) ∧
    (bitAt rb 0 ≠ bitAt s.saf.lsrEn 0 → lget 0 s.saf.misRun 0 = 1 →
      (∀ g, 1 ≤ g → g < 4 → bitAt rb g = bitAt s.saf.lsrEn g) →
      ∃ t, exec (.safetySample rb) s = .next t ∧ SafetyFaulted t 0x07 0)) ∧
  (∀ (s : State) (held a : Nat), s.pins.vaon = true →
    ((s.edge 2 true held).1 = .accepted → ∃ t, exec (.safResetPress held) s = .next t ∧ t.saf.pressAt = some s.clk ∧
      { t with saf := s.saf, pins := s.pins } = s) ∧
    ((s.edge 2 false held).1 = .accepted → s.saf.pressAt = some a → a + 100000000 ≤ s.clk → s.clk < a + 3000000000 →
      s.ret.lockout = true → (s.edge 2 false held).2.resetBlocked = none → ∃ t, exec (.safResetRelease held) s = .next t ∧
      t.ret = { s.ret with lockout := false } ∧ t.saf = { s.saf with pressAt := none } ∧ t.mode = s.mode))

/-- O23 (R503, R502, R504 to R507, R509): the guard follows its two channels and stops the lasers as it leaves CLOSED; the
conditions that are safety faults, each with its code. -/
def Obligations.GuardAndSafetyFaults : Prop :=
  ∀ (s : State) (g : Fin 4) (b closed : Bool) (held a : Nat), s.pins.vaon = true →
    ((s.edge (if b then 1 else 0) closed held).1 = .accepted → ∃ t, exec (.guardChange b closed held) s = .next t ∧
      t.saf.guard = (s.edge (if b then 1 else 0) closed held).2.guardNow ∧
      (s.saf.guard = .closed → t.saf.guard ≠ .closed → t.saf.lsrEn = 0 ∧ t.saf.request = 0) ∧ t.mode = s.mode) ∧
    (s.saf.guard = .disagree → s.saf.run = s.discK → ∃ t, exec .discrepancyFault s = .next t ∧ SafetyFaulted t 0x01 0 ∧
      t.saf.openSeen = false) ∧
    (s.saf.pressAt = some a → ∃ t, exec .resetFault s = .next t ∧ SafetyFaulted t 0x06 2 ∧ t.saf.pressAt = none ∧
      t.clk = max s.clk (a + 3000000000)) ∧
    (lget none s.saf.follow g = some a → ∃ t, exec (.fbLate g) s = .next t ∧ SafetyFaulted t 0x02 g ∧
      t.clk = max s.clk (a + 50000000)) ∧
    ((s.edge (3 + g) closed held).1 = .accepted → bitAt s.saf.wired g = true → (s.filter (3 + g)).seen = true →
      lget none s.saf.follow g = none → ∃ t, exec (.lsrFbChange g closed held) s = .next t ∧ SafetyFaulted t 0x03 g)

/-- O24 (R500, R501, R556): SAF_LASER_SET in a mode of the host, with the lockout clear, the tested flag set and the guard
CLOSED, drives exactly the wired groups asked for and waits for their feedback, and the lockout refuses it; with no Canvas
active SAF_CFG takes T_DISC_MS and the wired groups and SAF_FILTn a record that keeps its rules, and one that breaks them
changes nothing and raises SAF_RANGE. -/
def Obligations.LaserSetAndConfiguration : Prop :=
  (∀ (s : State) (tag : CmdTag) (groups : Nat), Serves s → groups < 16 → 3 ≤ s.mode.mode.code →
    clearBits groups s.saf.wired = 0 →
    (s.ret.lockout = false → s.ret.tested = true → s.saf.guard = .closed → s.saf.pending = none →
      s.saf.lsrEn ^^^ groups ≠ 0 → ∃ t, exec (.safLaserSet tag groups) s = .next t ∧ t.saf.lsrEn = groups ∧
      t.saf.request = groups ∧ t.saf.pending = some (tag, s.saf.lsrEn ^^^ groups) ∧ t.ret = s.ret ∧ t.mode = s.mode ∧
      (∀ g < 4, bitAt ((s.saf.lsrEn ^^^ groups) &&& s.saf.wired) g = true → lget none t.saf.follow g = some s.clk)) ∧
    (s.ret.lockout = true → ∃ t, exec (.safLaserSet tag groups) s = .next t ∧ Answered s t tag St.laserLockout ∧
      ExchangeOnly s t)) ∧
  (∀ (s : State) (v : Word), s.barUp = true → s.canvas.active = none → s.saf.lsrEn = 0 → s.saf.request = 0 →
    (10 ≤ v.toNat % 1024 → v.toNat % 1024 ≤ 1000 → v.toNat &&& 0xFFF0FC00 = 0 → ∃ t,
      exec (.safCfgWrite 0x5000C v) s = .next t ∧ t.saf.tDisc = v.toNat % 1024 ∧ t.saf.wired = v.toNat / 65536 % 16 ∧
      t.saf.lsrEn = 0 ∧ t.saf.records = s.saf.records) ∧
    (v.toNat % 1024 < 10 → ∃ t, exec (.safCfgWrite 0x5000C v) s = .next t ∧ t.saf = s.saf ∧
      t.cx.evtSeq = seqNext s.cx.evtSeq) ∧
    (∀ n < 11, s.saf.records.length = 11 → filterRecordOk n v.toNat (s.filterRecord (1 - n)) = true →
      exec (.safCfgWrite (0x50010 + 4 * n) v) s =
        .next { s.granted 10 2 with saf := { s.saf with records := lset s.saf.records n v } }))

/-! ### Pins, supplies, clocks, SMBus and JTAG (chapters 02, 03, 18, 23, 26) -/

/-- O25 (R393 to R397): an accepted edge of an enabled input is stamped into its FIFO, or counted as lost where 16 stand
in it; ARM takes a schedule that starts 10 µs ahead or more; the k-th pulse goes active at START + k × PERIOD and ends
WIDTH later; PPS_OUT goes active at each whole second. -/
def Obligations.CapturesAndTriggerOutputs : Prop :=
  ∀ (s : State) (pin : Fin 4) (rising : Bool) (held : Nat), s.pinsAlive = true →
    ((s.edge (10 + pin) rising held).1 = .accepted → s.flag (Reg.TIM_TRIG_IN_EN pin) = true →
      bitAt (s.fld (Reg.TIM_TRIG_IN_EDGE pin)) (if rising then 0 else 1) = true → ∃ t,
      exec (.trigInEdge pin rising held) s = .next t ∧
      ((tget [] s.time.caps pin).length < 16 → t.time = { s.time with
        caps := tput s.time.caps pin (tget [] s.time.caps pin ++ [⟨s.time.now, rising, !s.traceable⟩]) } ∧
        { t with time := s.time, pins := s.pins, obs := s.obs } = s) ∧
      (16 ≤ (tget [] s.time.caps pin).length → t.time = s.time ∧
        t.saf = s.saf ∧ t.mode = s.mode)) ∧
    (∀ f, f = { s.filter 9 with
        active := false, edges := if (s.filter 9).active then s.clk :: (s.filter 9).edges else (s.filter 9).edges } →
      ((s.setFilter 9 f).edge 9 true held).1 = .accepted → s.flag Reg.TIM_PPS_IN_EN = true →
      (tget [] s.time.caps 4).length < 16 → ∃ t, exec (.ppsInEdge held) s = .next t ∧ t.time = { s.time with
        caps := tput s.time.caps 4 (tget [] s.time.caps 4 ++ [⟨s.time.now, true, !s.traceable⟩])
        offsets := if s.time.srcUsed = 2
          then s.time.offsets ++ [ppsOffset s.time.now (s.fld Reg.TIM_PPS_IN_DELAY)] else s.time.offsets } ∧
        { t with time := s.time, pins := s.pins, obs := s.obs } = s) ∧
    (s.barUp = true → (tget {} s.time.trigOut pin).sched = none →
      s.time.now + 10000 * nsUnit ≤ s.trigStart pin → exec (.trigOutArm pin) s = .next { s.granted 9 2 with
        time := { s.time with trigOut := tset {} s.time.trigOut pin { tget {} s.time.trigOut pin with
          sched := some (s.trigStart pin, s.fld (Reg.TIM_TRIG_OUT_PERIOD_PERIOD pin),
            s.fld (Reg.TIM_TRIG_OUT_WIDTH_WIDTH pin)), next := none, k := 0 } } }) ∧
    (s.barUp = true → s.trigStart pin < s.time.now + 10000 * nsUnit → ∃ t, exec (.trigOutArm pin) s = .next t ∧
      EventsOnly (s.granted 9 2) t ∧ t.cx.evtSeq = seqNext s.cx.evtSeq) ∧
    (RegsCanonical s → s.barUp = true → ∃ t, exec (.trigOutDisable pin) s = .next t ∧
      t.flag (Reg.TIM_TRIG_OUT_CTL_EN pin) = false ∧ t.time = { s.time with trigOut := tset {} s.time.trigOut pin {} } ∧
      t.out = (if (tget {} s.time.trigOut pin).activeEnd.isSome = true
        then .pin pin (s.flag (Reg.TIM_TRIG_OUT_CTL_POL pin)) :: s.out else s.out)) ∧
    (∀ e, (tget {} s.time.trigOut pin).activeEnd = some e → ∃ t, exec (.trigOutPulse pin) s = .next t ∧
      t.out = .pin pin (s.flag (Reg.TIM_TRIG_OUT_CTL_POL pin)) :: s.out ∧ t.time.now = max s.time.now e ∧
      t.time.trigOut = tset {} s.time.trigOut pin { tget {} s.time.trigOut pin with activeEnd := none } ∧
      TimeOnly s { t with out := s.out }) ∧
    (∀ st per w k, tget {} s.time.trigOut pin = ⟨some (st, per, w), none, k, none⟩ → per ≠ 0 ∨ k = 0 →
      s.flag (Reg.TIM_TRIG_OUT_CTL_EN pin) = true → ∃ t, exec (.trigOutPulse pin) s = .next t ∧
      t.out = .pin pin (!s.flag (Reg.TIM_TRIG_OUT_CTL_POL pin)) :: s.out ∧
      t.time.now = max s.time.now (st + k * per * nsUnit) ∧
      t.time.trigOut = tset {} s.time.trigOut pin
        ⟨some (st, per, w), none, k + 1, some (st + k * per * nsUnit + w * nsUnit)⟩ ∧
      TimeOnly s { t with out := s.out }) ∧
    (∀ e, s.time.ppsEnd = some e → ∃ t, exec .ppsOutPulse s = .next t ∧ t.out = .pin 4 false :: s.out ∧
      t.time.now = max s.time.now e ∧ t.time.ppsEnd = none) ∧
    (s.time.ppsEnd = none → s.flag Reg.TIM_PPS_OUT_EN = true → s.flag Reg.TIM_PPS_OUT_NT_SUPPRESS = false → ∃ t,
      exec .ppsOutPulse s = .next t ∧ t.out = .pin 4 true :: s.out ∧
      t.time.now = (s.time.now + secUnit - 1) / secUnit * secUnit ∧
      t.time.ppsEnd = some (t.time.now + s.fld Reg.TIM_PPS_OUT_WIDTH_US * 1000 * nsUnit))

/-- O26 (R51, R53, R59, R60, R490, R491): what a trip, the restart comparators, the loss of a supply and the check of the
references do. -/
def Obligations.TripSuppliesAndReferences : Prop :=
  ∀ (s : State) (pDie e p : Bool), s.pins.vaon = true →
    (LaserSafe s → s.mode.mode ≠ .bootstrap → s.pwr.state ≤ 3 → s.pins.rails = true → s.thm.shutdown = none → ∃ t,
      exec (.tripComparatorFire pDie) s = .next t ∧ bitAt t.ret.tripDies (ofBool pDie) = true ∧ t.mode.mode = .safe ∧
      t.saf.lsrEn = 0 ∧ t.thm.shutdown.isSome = true ∧ t.tm.frames = [] ∧ t.clk = s.clk) ∧
    (4 ≤ s.pwr.state → ∃ t, exec (.tripComparatorFire pDie) s = .next t ∧ bitAt t.ret.tripDies (ofBool pDie) = true ∧
      bitAt t.thm.tripN (ofBool pDie) = true ∧ { t with thm := s.thm, ret := s.ret } = s) ∧
    (∃ t, exec (.tripRestart e p) s = .next t ∧ t.thm.restartE = e ∧ t.thm.restartP = p ∧
      (e = true → p = true → t.thm.tripN = 0) ∧ (bitAt s.thm.tripN 0 = true → e = false → t.thm.tripN = s.thm.tripN) ∧
      { t with thm := s.thm } = s) ∧
    (∃ t, exec .vaonFall s = .next t ∧ t.pins.vaon = false ∧ t.regs = [] ∧ t.ret = {} ∧ t.store = {} ∧
      t.saf.lsrEn = 0 ∧ t.mode.mode = .bootstrap ∧ t.canvas.active = none ∧ t.canvas.slotA = s.canvas.slotA ∧
      t.canvas.slotB = s.canvas.slotB ∧ t.canvas.keys = s.canvas.keys ∧ t.nvm.records = s.nvm.records ∧
      t.obs.pages = s.obs.pages ∧ t.cal.trimsNvm = s.cal.trimsNvm ∧ t.clk = s.clk ∧ t.pending = s.pending) ∧
    (s.pins.vhtr = true →
      (s.htrSafe = true → exec .vhtrRemoved s = .next { s with pins := { s.pins with vhtr := false } }) ∧
      (s.htrSafe = false → s.mode.mode = .bootstrap → ∃ t, exec .vhtrRemoved s = .next t ∧
        EventsOnly { s with pins := { s.pins with vhtr := false } } t ∧ t.cx.evtSeq = seqNext s.cx.evtSeq) ∧
      (s.htrSafe = false → s.mode.mode ≠ .bootstrap → ∃ t, exec .vhtrRemoved s = .next t ∧ t.pins.vhtr = false ∧
        t.mode.mode = .safe ∧ t.saf.wired = s.saf.wired)) ∧
    exec .vsramLow s = .next { s with store := {} } ∧
    (∀ a b : Int, s.pwr.state ≤ 3 → s.pins.rails = true →
      (-100 ≤ a → a ≤ 100 → -100 ≤ b → b ≤ 100 → s.fld Reg.PWR_CLK_PREFER = ofBool s.ref.selB → ∃ t,
        exec (.refclkCheck (some a) (some b)) s = .next t ∧
        t.ref = { s.ref with refAOk := true, refBOk := true, holdover := false } ∧
        t.clk = (s.clk / 1000000 + 1) * 1000000 ∧ TimeOnly s { t with ref := s.ref }) ∧
      (100 < a → -100 ≤ b → b ≤ 100 → s.ref.selB = false → RegsCanonical s → ∃ t,
        exec (.refclkCheck (some a) (some b)) s = .next t ∧ t.ref.selB = true ∧ t.ref.refAOk = false ∧
        t.ref.holdover = false ∧ t.cx.evtSeq = seqNext s.cx.evtSeq) ∧
      (s.ref.holdover = false → ∃ t, exec (.refclkCheck none none) s = .next t ∧ t.ref.holdover = true ∧
        t.ref.selB = s.ref.selB ∧ t.time.unset = true))

/-- O27 (R450, R516, R547): an SMBus block read answers its bytes and changes nothing else; a JTAG instruction takes the
test port, IDCODE answers 0x151200A7, and only the EXTEST instructions drive the pads. -/
def Obligations.ManagementAndTestPorts : Prop :=
  ∀ s : State,
    (s.pins.vaon = true →
      exec .smbusIdentRead s = .next (s.emit (.smbus (leBytes 4 0x51201001 ++ leBytes 4 fwWord))) ∧
      exec .smbusThermalRead s = .next (s.emit (.smbus (leBytes 2 (unsigned 16 s.thm.eMax)
        ++ leBytes 2 (unsigned 16 s.thm.pMax) ++ leBytes 1 (s.dieByte 0) ++ leBytes 1 (s.dieByte 1) ++ [0, 0]))) ∧
      (∃ b, exec .smbusSafetyRead s = .next (s.emit (.smbus b)) ∧ b.length = 8 ∧
        lget 0 b 2 = BitVec.ofNat 8 s.ret.faultCode ∧ bitAt (lget 0 b 0).toNat 2 = s.ret.lockout ∧
        bitAt (lget 0 b 0).toNat 3 = s.ret.tested) ∧
      exec .smbusStatusRead s = .next (s.emit (.smbus [BitVec.ofNat 8 s.pwr.state, BitVec.ofNat 8 s.mode.mode.code,
        BitVec.ofNat 8 s.start.step, BitVec.ofNat 8 s.ret.failCode]))) ∧
    (s.pins.rails = true →
      exec .jtagBypass s = .next { s with pins := { s.pins with jtag := 0, extest := false } } ∧
      exec .jtagIdcode s = .next
        { s with pins := { s.pins with jtag := 1, extest := false }, out := .jtag 0x151200A7 :: s.out } ∧
      exec .jtagSamplePreload s = .next { s with pins := { s.pins with jtag := 2, extest := false } } ∧
      exec .jtagExtest s = .next { s with pins := { s.pins with jtag := 3, extest := true } } ∧
      exec .jtagExtestPulse s = .next { s with pins := { s.pins with jtag := 4, extest := true } } ∧
      exec .jtagExtestTrain s = .next { s with pins := { s.pins with jtag := 5, extest := true } })

/-! ### Modes and power states (chapter 02) -/

/-- O28 (R33, R35, R37, R39, Table 2.2): a SET_MODE that is listed changes the mode at once or waits for its boundary, and
one that is not is refused, each for its reason. -/
def Obligations.ModeChanges : Prop :=
  ∀ (s : State) (tag : CmdTag) (mode n : Nat), Serves s → s.mode.pend = none → s.cal.run = none →
    (s.mode.mode ≠ .bootstrap → ∃ t, exec (.setMode tag 1 n) s = .next t ∧ t.mode.mode = .safe ∧ Told t tag St.ok ∧
      (LaserSafe s → t.saf.lsrEn = 0)) ∧
    (s.mode.mode = .safe ∨ s.mode.mode = .maintain → s.pwr.state = 0 → s.pwr.target = 0 →
      (s.ret.lockout = false → ∃ t, exec (.setMode tag 2 n) s = .next t ∧ t.mode.mode = .calibrate ∧ t.saf.lsrEn = 0 ∧
        t.saf.request = 0 ∧ Told t tag St.ok) ∧
      (s.ret.lockout = true → ∃ t, exec (.setMode tag 2 n) s = .next t ∧ Refused s t tag St.laserLockout) ∧
      (∀ m : Mode, m = .edgeSlotted ∨ m = .coreSlotted ∨ m = .transitSlotted → bitAt s.modePermit m.code = true →
        (s.orb.armed.isSome = true → ∃ t, exec (.setMode tag m.code n) s = .next t ∧
          t.mode = { s.mode with pend := some ⟨some tag, m, none, .takeover⟩ } ∧
          { t with mode := s.mode, cx := s.cx } = s) ∧
        (s.orb.armed = none → ∃ t, exec (.setMode tag m.code n) s = .next t ∧ Refused s t tag St.noPendingOrbit)) ∧
      (∀ m : Mode, m = .edgePersistent ∨ m = .edgePacket ∨ m = .corePersistent → bitAt s.modePermit m.code = true →
        n ≤ 1023 →
        ((s.swatch n).valid = true → (s.swatch n).roleOk m = true → ∃ t, exec (.setMode tag m.code n) s = .next t ∧
          t.mode = { s.mode with pend := some ⟨some tag, m, some n, .interval⟩ } ∧
          { t with mode := s.mode, cx := s.cx } = s) ∧
        ((s.swatch n).valid = false → ∃ t, exec (.setMode tag m.code n) s = .next t ∧
          Refused s t tag St.swatchInvalid))) ∧
    (12 ≤ mode → ∃ t, exec (.setMode tag mode n) s = .next t ∧ Refused s t tag St.badParam) ∧
    (3 ≤ mode → mode ≤ 8 → bitAt s.modePermit mode = false → ∃ t, exec (.setMode tag mode n) s = .next t ∧
      Refused s t tag St.modeNotPermitted) ∧
    (mode < 12 → (3 ≤ mode → mode ≤ 8 → bitAt s.modePermit mode = true) → s.mode.mode ≠ .fenced →
      modePair s.mode.mode.code mode = false → ∃ t, exec (.setMode tag mode n) s = .next t ∧ Refused s t tag St.wrongMode)

/-- O29 (R38, R43, R44, R47): SET_POWER sets the target and begins the first rung, a rung is reached before the next
begins, L1 waits for an empty buffer, a keep pass takes 5.2 ms, and the drain limit discards what is still queued. -/
def Obligations.PowerLadder : Prop :=
  ∀ (s : State) (tag : CmdTag) (target dest a : Nat),
    (Serves s → 5 < target → ∃ t, exec (.setPower tag target) s = .next t ∧ Refused s t tag St.badParam) ∧
    (Serves s → s.pwr.state = 0 → s.pwr.rung = none → s.pwr.cmd = none → s.mode.mode = .edgePacket → 1 ≤ target → target ≤ 5 →
      ∃ t, exec (.setPower tag target) s = .next t ∧ Refused s t tag St.powerState) ∧
    (Serves s → s.pwr.state = 0 → s.pwr.rung = none → s.pwr.keeping = false → s.mode.mode = .safe → 1 ≤ target →
      target ≤ 5 → ∃ t, exec (.setPower tag target) s = .next t ∧
      t.pwr = { s.pwr with target := target, cmd := some tag, rung := some 1 } ∧ t.mode.mode = .safe ∧ t.clk = s.clk) ∧
    (Serves s → target ≤ 3 → s.pwr.state = target → s.pwr.rung = none → s.pwr.cmd = none → s.pwr.keeping = false →
      s.mode.mode = .safe → ∃ t, exec (.setPower tag target) s = .next t ∧ Answered s t tag St.ok ∧
      t.pwr = { s.pwr with target := target } ∧ { t with pwr := s.pwr, cx := s.cx, host := s.host } = s) ∧
    (s.pwr.rung = some 1 → s.pwr.state = 0 → s.tm.frames ≠ [] → exec .powerRungReached s = .next s) ∧
    (s.pwr.rung = some dest → dest = s.pwr.target → (dest = 1 → s.pwr.state = 0 → s.tm.frames = []) → ∃ t,
      exec .powerRungReached s = .next t ∧ t.pwr.state = dest ∧ t.pwr.rung = none ∧ t.pwr.cmd = none ∧
      (dest = 3 → t.loops.counting = false ∧ t.adc.ref = {} ∧ t.time.unset = true) ∧ (dest = 5 → t.store = {}) ∧
      (∀ c, s.pwr.cmd = some c → s.cx.rings.length = 16 → Told t c St.ok)) ∧
    (s.pwr.state = 3 → s.pwr.rung = none → s.pwr.keeping = false → s.pwr.keepAt = some a → ∃ t,
      exec .keepPass s = .next t ∧ t.clk = max s.clk a + 5200000 ∧ t.loops.sampled = true ∧ t.loops.counting = true ∧
      t.pwr = { s.pwr with
        keeping := true, keepAt := some (a + s.fld Reg.PWR_KEEP_INTERVAL * 1000000000) } ∧ t.mode = s.mode) ∧
    (s.mode.drainEnd = some a → ∃ t, exec .packetStopTimeout s = .next t ∧ t.clk = max s.clk a ∧ t.tm.frames = [] ∧
      t.mode = { s.mode with drainEnd := none } ∧ t.saf = s.saf ∧ t.pwr = s.pwr)

/-! ### The Canvas (chapter 04) -/

/-- O30 (R84, R91, R92, R94 to R100): loading, preparing, committing, activating and aborting a Canvas, its digest check,
the end of the old digest's grace, and the revocation of a key. -/
def Obligations.CanvasLifecycle : Prop :=
  ∀ (s : State) (tag : CmdTag) (b : Bytes) (len ms a : Nat) (at_ : TimeWord) (store : Bool) (st : Staged),
    (s.cx.rings.length = 16 → s.start.state = 3 → s.start.canvasWait = false → s.started = false →
      ∃ t, exec (.loadCanvas tag (some b) len true) s = .next t ∧ t.canvas.active = s.canvas.active ∧
      ((s.verifyHost (b.take len) true).code = 0 → (t.cslot s.targetSlot).marker = true ∧ Told t tag St.ok ∧
        (t.cslot s.targetSlot).image = (b.take len).take (imgLen (b.take len))) ∧
      ((s.verifyHost (b.take len) true).code ≠ 0 → Told t tag St.canvasInvalid ∧ t.canvas.slotA = s.canvas.slotA ∧
        t.canvas.slotB = s.canvas.slotB ∧ t.canvas.verr = (s.verifyHost (b.take len) true).code)) ∧
    (s.cx.rings.length = 16 → s.started = true → s.canvas.lost = true → s.mode.mode = .safe →
      s.start.canvasWait = false → ∃ t, exec (.loadCanvas tag (some b) len false) s = .next t ∧
      ((s.verifyHost (b.take len) false).code = 0 → t.canvas.lost = false ∧ t.ret.tested = false ∧ Told t tag St.ok ∧
        t.canvas.active = some ((b.take len).take (imgLen (b.take len)))) ∧
      ((s.verifyHost (b.take len) false).code ≠ 0 → t.canvas.lost = true ∧ t.canvas.active = s.canvas.active ∧
        t.ret = s.ret ∧ Told t tag St.canvasInvalid)) ∧
    (s.cx.rings.length = 16 → s.start.state = 0 → s.start.canvasWait = false → s.canvas.lost = false → ∃ t,
      exec (.loadCanvas tag (some b) len store) s = .next t ∧ Refused s t tag St.wrongMode) ∧
    (Serves s → 100 ≤ ms → ms ≤ 600000 →
      (s.canvas.staged = none → ∃ t, exec (.canvasPrepare tag (some b) len ms store) s = .next t ∧
        t.canvas.active = s.canvas.active ∧
        ((s.verifyHost (b.take len) store).code = 0 → Told t tag St.ok ∧
          t.canvas.staged = some { image := (b.take len).take (imgLen (b.take len)), store := store
                                   timeoutNs := ms * 1000000, expires := some (s.clk + ms * 1000000)
                                   slotB := s.targetSlot }) ∧
        ((s.verifyHost (b.take len) store).code ≠ 0 → Told t tag St.canvasInvalid ∧ t.canvas.staged = none)) ∧
      (s.canvas.staged.isSome = true → ∃ t, exec (.canvasPrepare tag (some b) len ms store) s = .next t ∧
        Refused s t tag St.busy)) ∧
    (Serves s → s.canvas.staged = some st → s.canvas.commit = none →
      (∃ t, exec (.canvasCommit tag 0) s = .next t ∧ { t with canvas := s.canvas, cx := s.cx } = s ∧
        t.canvas = { s.canvas with staged := some { st with expires := none }, commit := some { tag := tag, at_ := 0 } }) ∧
      (at_ ≠ 0 → s.fromWord at_ < s.time.now + 2000000 * nsUnit → ∃ t, exec (.canvasCommit tag at_) s = .next t ∧
        Refused s t tag St.late) ∧
      (s.red.switching = none → ∃ t, exec (.canvasAbort tag) s = .next t ∧ Answered s t tag St.ok ∧
        t.canvas = { s.canvas with staged := none } ∧ ExchangeOnly { s with canvas := { s.canvas with staged := none } } t)) ∧
    (s.cx.rings.length = 16 → s.canvas.staged = some st →
      s.canvas.commit = some { tag := tag, at_ := 0 } →
      (classMode (changeClass (s.canvas.active.getD []) st.image) s.mode.mode.code = true → s.modeStays st.image = true →
        s.mode.mode ≠ .maintain → ∃ t, exec .canvasActivation s = .next t ∧ t.canvas.active = some st.image ∧
        t.canvas.staged = none ∧ t.canvas.commit = none ∧ t.canvas.checkAt = s.clk + 60000000000 ∧ Told t tag St.ok) ∧
      (classMode (changeClass (s.canvas.active.getD []) st.image) s.mode.mode.code = false → ∃ t,
        exec .canvasActivation s = .next t ∧ t.canvas = { s.canvas with
          commit := none, staged := some { st with expires := some (s.clk + st.timeoutNs) } } ∧
        Answered s t tag St.wrongMode)) ∧
    (s.canvas.staged = some { st with expires := some a } → s.canvas.commit = none → ∃ t,
      exec .canvasTimeout s = .next t ∧ t.clk = max s.clk a ∧ t.canvas = { s.canvas with staged := none } ∧
      t.cx.evtSeq = seqNext s.cx.evtSeq) ∧
    (s.canvas.active.isSome = true → s.started = true →
      (badSection s.canvas.memory = none → ∃ t, exec .canvasDigestCheck s = .next t ∧
        t.clk = max s.clk s.canvas.checkAt ∧ t.canvas = { s.canvas with checkAt := t.clk + 60000000000 } ∧
        TimeOnly s { t with canvas := s.canvas }) ∧
      (badSection s.canvas.memory ≠ none → s.reloadSlot = none → ∃ t, exec .canvasDigestCheck s = .next t ∧
        t.canvas.lost = true ∧ t.canvas.active = none ∧ t.mode.mode = .safe)) ∧
    (s.canvas.graceEnd = some a → ∃ t, exec .digestGraceExpire s = .next t ∧ t.canvas.graceEnd = none ∧
      t.clk = max s.clk a ∧ t.canvas.active = s.canvas.active) ∧
    (Serves s → ∀ k < 4, s.canvas.active = none → ∃ t, exec (.keyRevoke tag k) s = .next t ∧ Answered s t tag St.ok ∧
      t.canvas = { s.canvas with
        keys := lset s.canvas.keys k { lget {} s.canvas.keys k with revoked := true } } ∧
      { t with canvas := s.canvas, cx := s.cx, host := s.host } = s)

/-! ### The Palette and the routing engine (chapters 05, 06) -/

/-- O31 (R125, R126, R128, R132, R134, R138, R551): the commands of the Palette and of the stuck table: what each does,
and the refusals they share (a swatch in use, a number past 1023, a power state other than L0). -/
def Obligations.PaletteCommands : Prop :=
  ∀ (s : State) (tag : CmdTag) (n cell : Nat) (p q c : Bytes) (only : Bool) (out cnt : Nat), Serves s → s.pwr.state = 0 →
    n ≤ 1023 → cell ≤ 4351 →
    (permReserved p = false → s.mx.queue.length < 16 → (pinsOf q cnt).all (fun w => decide (w < 2 ^ 14)) = true →
      cnt ≠ 0 → s.inUse n = false ∨ only = true → ∃ t, exec (.swatchWrite tag n (some p) cnt (some q) only out) s = .next t ∧
      t.mx = { s.mx with queue := s.mx.queue ++
        [⟨some tag, n, .write (permOfHost p) ((pinsOf q cnt).map pinOf) only out⟩] } ∧
      { t with mx := s.mx, cx := s.cx } = s) ∧
    (s.inUse n = true → (∃ t, exec (.swatchWrite tag n (some p) cnt (some q) false out) s = .next t ∧
        Refused s t tag St.swatchInUse) ∧
      (∃ t, exec (.swatchLoad tag n (some p) (some c)) s = .next t ∧ Refused s t tag St.swatchInUse) ∧
      (∃ t, exec (.swatchInvalidate tag n) s = .next t ∧ Refused s t tag St.swatchInUse)) ∧
    (s.inUse n = false →
      (permReserved p = false → s.mx.queue.length < 16 → ∃ t, exec (.swatchLoad tag n (some p) (some c)) s = .next t ∧
        t.mx = { s.mx with queue := s.mx.queue ++ [⟨some tag, n, .load (permOfHost p) (leNat (c.take 544))⟩] } ∧
        { t with mx := s.mx, cx := s.cx } = s) ∧
      (∃ t, exec (.swatchInvalidate tag n) s = .next t ∧ Answered s t tag St.ok ∧
        t.mx = { s.mx with
          palette := tset {} s.mx.palette n
            { s.swatch n with valid := false, generation := seqNext (s.swatch n).generation } } ∧
        { t with mx := s.mx, cx := s.cx, host := s.host } = s)) ∧
    (∃ t, exec (.swatchRead tag n out) s = .next t ∧ Answered s t tag St.ok ∧ ExchangeOnly s t ∧
      Delivered s t tag out ((s.swatch n).bytes n)) ∧
    (∀ m, m > 1023 → ∃ t, exec (.swatchInvalidate tag m) s = .next t ∧ Refused s t tag St.badParam) ∧
    (s.mode.mode = .edgePersistent ∨ s.mode.mode = .corePersistent ∨ s.mode.mode = .loopbackTest →
      (s.swatch n).valid = true → (s.swatch n).roleOk s.mode.mode = true → s.mx.apply = none → ∃ t,
      exec (.swatchApply tag n 0) s = .next t ∧ t.mx = { s.mx with apply := some ⟨tag, n, 0⟩ } ∧
      { t with mx := s.mx, cx := s.cx } = s) ∧
    (∀ st : Fin 2, s.mx.stuck = [] → ∃ t, exec (.stuckAdd tag cell st) s = .next t ∧
      t.mx.stuck = [⟨cell, st == 1, true, (s.mx.stuckRev + 1) % 65536⟩] ∧
      t.mx.stuckRev = (s.mx.stuckRev + 1) % 65536 ∧ Answered s t tag St.ok ∧ t.mode = s.mode) ∧
    (s.isStuck cell = true → ∃ t, exec (.stuckClear tag cell) s = .next t ∧ t.isStuck cell = false ∧
      t.mx.stuckRev = (s.mx.stuckRev + 1) % 65536 ∧ Answered s t tag St.ok ∧ t.mode = s.mode) ∧
    (s.isStuck cell = false → ∃ t, exec (.stuckClear tag cell) s = .next t ∧ Refused s t tag St.notFound)

/-- O32 (R127, R128, R130, R132, R140): the routing engine carries out the request at the head of its queue; a routed or
checked swatch is stored with the next generation; a stale swatch is routed again; the engine's control register keeps its
range. -/
def Obligations.RoutingEngine : Prop :=
  ∀ (s : State) (tag : CmdTag) (n time : Nat) (perm : Tbl Nat) (bits : Nat) (rest : List RouteReq) (v : Word),
    s.pwr.state = 0 →
    (s.cx.rings.length = 16 → s.inUse n = false → permDouble [] perm = none → s.outOfService perm = none →
      s.mx.queue = ⟨some tag, n, .write perm [] false 0⟩ :: rest → s.pinsBad [] = false → ∃ t,
      exec (.routeRequestDone time) s = .next t ∧ t.mx.queue = rest ∧ t.mx.lastSwatch = n ∧
      t.mx.lastTime = min time 0x7FF ∧
      (∀ cells, routePerm perm (s.allPins []) = .ok cells →
        t.mx.palette = tset {} s.mx.palette n (s.routed n perm cells ((s.allPins []).map Pin.cell).eraseDups.length) ∧
        t.mx.lastResult = 0 ∧ Answered s t tag St.ok) ∧
      (∀ e, routePerm perm (s.allPins []) = .error e →
        t.mx.palette = s.mx.palette ∧ t.mx.lastResult = 1 ∧ Answered s t tag St.unroutable) ∧
      { t with mx := s.mx, cx := s.cx, host := s.host } = s) ∧
    (s.cx.rings.length = 16 → s.inUse n = false → permDouble [] perm = none → s.outOfService perm = none →
      s.mx.queue = ⟨some tag, n, .load perm bits⟩ :: rest → s.mx.stuck = [] →
      (firstMiss perm bits = none → ∃ t, exec (.routeRequestDone time) s = .next t ∧ t.mx.queue = rest ∧
        t.mx.palette = tset {} s.mx.palette n
          ⟨true, true, false, false, perm, bits, 0, seqNext (s.swatch n).generation, s.mx.stuckRev⟩ ∧
        t.mx.lastResult = 0 ∧ Answered s t tag St.ok) ∧
      (∀ i, firstMiss perm bits = some i → ∃ t, exec (.routeRequestDone time) s = .next t ∧
        t.mx.palette = s.mx.palette ∧ t.mx.lastResult = 3 ∧ Answered s t tag St.checkFailed)) ∧
    (s.flag Reg.MX_ROUTE_CTL_AUTO_REROUTE = true → s.rerouteOrder.find? (fun k => (s.swatch k).waits) = some n →
      (routeStuck (s.swatch n).perm 18 s.stuckPins []).2 = [] → tblWf {} 0 s.mx.palette = true → ∃ t,
      exec .reroute s = .next t ∧ (t.swatch n).valid = true ∧ (t.swatch n).stale = false ∧
      (t.swatch n).degraded = false ∧ (t.swatch n).generation = seqNext (s.swatch n).generation ∧
      (t.swatch n).perm = (s.swatch n).perm ∧ (∀ k, k ≠ n → t.swatch k = s.swatch k) ∧ t.mode = s.mode) ∧
    (RegsCanonical s → s.barUp = true →
      (2 ≤ bitsOf v.toNat 12 8 → bitsOf v.toNat 12 8 ≤ 8 → ∃ t, exec (.routeCtlWrite v) s = .next t ∧
        t.flag Reg.MX_ROUTE_CTL_AUTO_REROUTE = bitAt v.toNat 0 ∧ t.flag Reg.MX_ROUTE_CTL_DARK_AFFECTED = bitAt v.toNat 1 ∧
        t.fld Reg.MX_ROUTE_CTL_WRONG_MIN = bitsOf v.toNat 12 8 ∧ { t with regs := s.regs, bm := s.bm } = s) ∧
      (8 < bitsOf v.toNat 12 8 → ∃ t, exec (.routeCtlWrite v) s = .next t ∧ EventsOnly (s.granted 0 2) t ∧
        t.cx.evtSeq = seqNext s.cx.evtSeq))

/-! ### Orbits and burst intervals (chapters 01, 07) -/

/-- O33 (R20, R135, R149 to R154, R162, R552): an Orbit is prepared, committed, aborted, read, taken over, missed, and
stepped from slot to slot as the three replicas vote; persistent intervals follow the grid of the burst period. -/
def Obligations.OrbitCourse : Prop :=
  ∀ (s : State) (tag : CmdTag) (b : OrbitBank) (out max_ w a : Nat) (at_ : TimeWord),
    (Serves s → s.pwr.state ≤ 2 →
      (s.orb.pendBank = none → 100000000 ≤ b.timeoutNs → b.timeoutNs ≤ 600000000000 → b.timeoutNs % 1000000 = 0 →
        b.expires = some (s.clk + b.timeoutNs) → b.mode.slotted = true → s.orbitCheck b = none → ∃ t,
        exec (.orbitPrepare tag (some b.record) b.target b.target.isSome b.mode.code (b.timeoutNs / 1000000)) s = .next t ∧
        t.orb = { s.orb with pendBank := some b } ∧ Answered s t tag St.ok ∧
        { t with orb := s.orb, cx := s.cx, host := s.host } = s) ∧
      (s.orb.pendBank = some b →
        (s.systemSize ≤ 1 → s.time.now + 50000 * nsUnit ≤ s.fromWord at_ → s.orbitRoleOk b = true → s.orb.armed = none →
          ∃ t, exec (.orbitCommit tag at_) s = .next t ∧ Answered s t tag St.ok ∧ t.orb = { s.orb with
            armed := some (s.fromWord at_), pendBank := some { b with expires := none } } ∧
          { t with orb := s.orb, cx := s.cx, host := s.host } = s) ∧
        (s.systemSize ≤ 1 → s.fromWord at_ < s.time.now + 50000 * nsUnit → ∃ t,
          exec (.orbitCommit tag at_) s = .next t ∧ Refused s t tag St.late) ∧
        (s.orb.conjHeld = false → s.orb.armed = none → s.mode.pend = none → ∃ t,
          exec (.orbitAbort tag) s = .next t ∧ Answered s t tag St.ok ∧ t.orb = { s.orb with pendBank := none } ∧
          { t with orb := s.orb, cx := s.cx, host := s.host } = s))) ∧
    (Serves s → s.orb.active = some b → b.bytes.length ≤ max_ → ∃ t, exec (.orbitRead tag 0 out max_) s = .next t ∧
      Answered s t tag St.ok ∧ ExchangeOnly s t ∧ Delivered s t tag out b.bytes) ∧
    (s.orb.pendBank = some { b with expires := some a } → s.mode.pend = none → ∃ t, exec .orbitTimeout s = .next t ∧
      t.clk = max s.clk a ∧ t.orb = { s.orb with armed := none, conjHeld := false, pendBank := none } ∧
      t.cx.evtSeq = seqNext s.cx.evtSeq) ∧
    (s.orb.armed = some w → s.orb.pendBank = some b → s.orb.running = false → s.orb.halted = false →
      (s.mode.mode = b.mode → ∃ t, exec .orbitTakeover s = .next t ∧ t.orb.active = some { b with expires := none } ∧
        t.orb.pendBank = none ∧ t.orb.armed = none ∧ t.orb.running = true ∧ t.orb.slot = 0 ∧ t.orb.cycle = 0 ∧
        t.orb.anchor = s.phased w ∧ t.mx.inForce = some (b.swatch 0) ∧ t.time.now = max s.time.now (s.phased w)) ∧
      (s.takeoverMode b = false → ∃ t, exec .orbitTakeover s = .next t ∧ t.orb.armed = none ∧
        t.orb.active = s.orb.active ∧ t.orb.pendBank = some { b with expires := some (t.clk + b.timeoutNs) } ∧
        t.cx.evtSeq = seqNext s.cx.evtSeq ∧ t.mode = s.mode)) ∧
    (s.orb.running = true → s.orb.active = some b → s.orb.armed = none → s.mode.pend = none → s.mode.darkNext = false →
      (∀ r, s.orb.replicas = [r, r, r] → r.failed = false → r.readable = true → ∃ t,
        exec (.slotBoundary []) s = .next t ∧ t.orb.slot = (b.at s.orb.anchor s.orb.boundary).2.1 ∧
        t.mx.inForce = some (b.swatch t.orb.slot) ∧ t.orb.running = true ∧ t.orb.active = some b ∧
        t.time.now = max s.time.now s.orb.boundary) ∧
      ((∀ r ∈ s.orb.replicas, r.readable = false) → ∃ t, exec (.slotBoundary []) s = .next t ∧ t.orb.halted = true ∧
        t.orb.running = false ∧ t.orb.active = some b ∧ t.mx.inForce = s.mx.inForce)) ∧
    (∀ n e, s.orb.running = false → s.mode.darkNext = false → s.mode.pend = none → s.mode.mode = .edgePersistent →
      s.pwr.state = 0 → s.mx.apply = some ⟨tag, n, 0⟩ → (s.swatch n).stale = false → s.cx.rings.length = 16 →
      e = (if s.intervalsRun = true then s.orb.intEnd else s.gridAfter s.time.now) → ∃ t,
      exec .burstIntervalBoundary s = .next t ∧ t.mx.inForce = some n ∧ t.mx.apply = none ∧ t.orb.intStart = e ∧
      t.orb.intEnd = s.gridAfter e ∧ t.mx.palette = s.mx.palette ∧ t.time.now = max s.time.now e ∧ Told t tag St.ok)

/-! ### Hold periods and the loop commands (chapters 08, 09) -/

/-- O34 (R165, R167, R168, R185, R196, R198, R199): a hold period lasts 128 µs and the next one is numbered one higher;
its work, the output deadline and a lane's late path words fall at their instants. -/
def Obligations.HoldPeriodCourse : Prop :=
  ∀ (s : State) (std : Nat) (lane : Fin 64), s.loops.counting = true →
    (s.pwr.keeping = false → s.red.switching = none → s.clk ≤ s.loops.periodAt + 128000 → ∃ t,
      exec (.holdPeriodBoundary []) s = .next t ∧ t.loops.periodAt = s.loops.periodAt + 128000 ∧
      t.clk = s.loops.periodAt + 128000 ∧ t.loops.period = (s.loops.period + 1) % 2 ^ 64 ∧
      t.loops.sampled = decide (s.pwr.state < 2 ∨ (s.loops.period + 1) % 2 ^ 64 % 16 = 0) ∧
      t.loops.eopDone = false ∧ t.loops.deadlineDone = false) ∧
    (s.loops.eopDone = false → ∃ t, exec (.endOfPeriodWork std) s = .next t ∧ t.loops.eopDone = true ∧
      t.loops.coefNext = [] ∧ t.loops.cmd = none ∧ t.loops.sums = t.cellSums ∧ t.loops.period = s.loops.period ∧
      t.clk = max s.clk (s.loops.periodAt + 121600)) ∧
    (s.loops.eopDone = true → exec (.endOfPeriodWork std) s = .next s) ∧
    (s.loops.deadlineDone = false → ∃ t, exec .loopOutputDeadline s = .next t ∧ t.loops.deadlineDone = true ∧
      t.clk = max s.clk (s.loops.periodAt + 127600) ∧
      (s.loops.sampled = true → s.unitActive = true → t.red.snapCells = t.loops.cells) ∧
      (s.loops.sampled = false → t.loops = { s.loops with deadlineDone := true } ∧
        TimeOnly s { t with loops := s.loops })) ∧
    (s.loops.eopDone = false → s.loops.pathAwait.any (fun o => (o - 256) / 4 == lane.val) = true → ∃ t,
      exec (.pathLate lane) s = .next t ∧ t.clk = max s.clk (s.loops.periodAt + 1000) ∧
      t.loops = { s.loops with
        pathAwait := s.loops.pathAwait.filter (fun o => !((o - 256) / 4 == lane.val)) } ∧ t.eng = s.eng ∧ t.mx = s.mx)

/-- O35 (R169, R170, R178, R189, R190, R217, R218, Tables 8.6, 9.18): the coefficient window stages words and commits a
record that keeps its rules; a loop command waits for the end-of-period work; a lane command reaches its lane, one at a
time. -/
def Obligations.LoopAndLaneCommands : Prop :=
  ∀ (s : State) (cell w : Nat) (v : Word) (all : Bool) (lane : Fin 64), s.barUp = true → cell < 4352 →
    (1 ≤ w → w < 15 → w ≠ 9 → exec (.coefWindowWrite cell w v) s = .next { s.granted 4 2 with
      loops := { s.loops with stage := { cell := cell, valid := true, words := lset (s.stageFor cell) w v } } }) ∧
    (exec (.coefWindowWrite cell 0 v) s = .next { s.granted 4 2 with
      loops := { s.loops with stage := { cell := cell, valid := true, words := s.stageFor cell } } }) ∧
    (coefRecOk (s.stageFor cell) = true → exec (.coefCommit cell) s = .next { s.granted 4 2 with
      loops := { s.loops with
        stage := { cell := cell }, coefNext := tput s.loops.coefNext cell (s.stageFor cell) } }) ∧
    (coefRecOk (s.stageFor cell) = false → ∃ t, exec (.coefCommit cell) s = .next t ∧ t.loops = { s.loops with
      stage := { cell := cell, valid := true, words := s.stageFor cell } } ∧ t.eng = s.eng) ∧
    (s.loops.cmd = none →
      (∃ t, exec (.loopCmdRelease cell all) s = .next t ∧ t.loops = { s.loops with cmd := some ⟨cell, 1, all⟩ } ∧
        { t with regs := s.regs, bm := s.bm, loops := s.loops } = s) ∧
      (∃ t, exec (.loopCmdReset cell all) s = .next t ∧ t.loops = { s.loops with cmd := some ⟨cell, 2, all⟩ } ∧
        { t with regs := s.regs, bm := s.bm, loops := s.loops } = s) ∧
      (∃ t, exec (.loopCmdDisable cell all) s = .next t ∧ t.loops = { s.loops with cmd := some ⟨cell, 3, all⟩ } ∧
        { t with regs := s.regs, bm := s.bm, loops := s.loops } = s) ∧
      (∃ t, exec (.loopCmdEnable cell all) s = .next t ∧ t.loops = { s.loops with cmd := some ⟨cell, 4, all⟩ } ∧
        { t with regs := s.regs, bm := s.bm, loops := s.loops } = s)) ∧
    (s.loops.cmd.isSome = true → ∃ t, exec (.loopCmdRelease cell all) s = .next t ∧ t.loops = s.loops ∧ t.eng = s.eng) ∧
    (s.eng.laneBusy = false →
      ((s.core (.lane lane)).run = .halted → (s.core (.lane lane)).restart = false → ∃ t,
        exec (.laneCmdRestart lane false) s = .next t ∧ t.eng = { s.eng with
          cores := tset {} s.eng.cores (s.coreKey (.lane lane))
            { s.core (.lane lane) with restart := true, restartAuto := false }
          laneBusy := true } ∧ { t with regs := s.regs, bm := s.bm, eng := s.eng } = s) ∧
      (∃ t, exec (.laneCmdSoft lane false) s = .next t ∧ t.eng = { s.eng with
          cores := tset {} s.eng.cores (s.coreKey (.lane lane))
            { s.core (.lane lane) with icause := (s.core (.lane lane)).icause ||| 1 } } ∧
        { t with regs := s.regs, bm := s.bm, eng := s.eng } = s))

/-! ### Stroke cores (chapter 09) -/

/-- O36 (R214, R216, R217, R218, R219, Table 9.10): the events of a core: the deadline and soft causes, the lane's
interrupt, a stall, an exception or interrupt of a supervisor core, the end of a division, the end of a wait. -/
def Obligations.CoreEvents : Prop :=
  ∀ (s : State) (n : Fin 64) (k : Fin 4) (c : CoreRef) (x : Core),
    (s.core (.lane n) = x → x.deadl ≠ 0 → ∃ t, exec (.laneDeadline n) s = .next t ∧
      t.clk = max s.clk (s.loops.periodAt + 10 * x.deadl) ∧
      t.eng = { s.eng with
        cores := tset {} s.eng.cores (s.coreKey (.lane n)) { x with icause := x.icause ||| 2 } } ∧
      TimeOnly s { t with eng := s.eng }) ∧
    (s.core (.lane n) = x → x.st.ie = true → x.icause ≠ 0 → x.branch = none → x.load = none → x.rep0.act = false →
      x.rep1.act = false → x.div = none → x.run = .running ∨ x.run = .waiting →
      exec (.laneInterrupt n) s = .next (s.setCore (.lane n) { x with
        iret := x.pc, ifl := x.st, st := { x.st with ie := false }, pc := x.ivec % 2048, run := .running, wait := .none })) ∧
    (s.core (.lane n) = x → x.st.ie = false ∨ x.icause = 0 ∨ x.branch.isSome = true → exec (.laneInterrupt n) s = .next s) ∧
    (∀ a, s.core (.lane n) = x → x.stopAt = some a → ∃ t y, exec (.laneStallTimeout n) s = .next t ∧
      t.clk = max s.clk (a + 256000) ∧ t.eng.cores = tset {} s.eng.cores (s.coreKey (.lane n)) y ∧ y.run = .halted ∧
      y.fault = 6 ∧ y.pc = x.pc ∧ y.d = x.d ∧ y.a = x.a ∧ y.stopAt = none) ∧
    (∀ cause addr, s.core (.sup k) = x → 0x10 ≤ cause → cause ≤ 0x14 → x.run = .running → x.div = none → ∃ y,
      exec (.supervisorException k cause addr) s = .next (s.setCore (.sup k) y) ∧ y.epc = x.pc ∧ y.ecause = cause ∧
      y.pc = x.evec ∧ y.st = { x.st with ie := false } ∧ y.efl = BitVec.ofNat 32 (x.st.word + 65536 * x.ract) ∧
      y.eaddr = (if cause = 0x11 ∨ cause = 0x12 then addr else x.eaddr) ∧ y.rep0.act = false ∧ y.rep1.act = false ∧
      y.d = x.d ∧ y.a = x.a ∧ y.branch = none) ∧
    (∀ cause addr, cause < 16 → (s.core (.sup k)).imask = 0 → exec (.supervisorException k cause addr) s =
      .next { s with eng := { s.eng with
        irq := tset 0 s.eng.irq (4 * s.red.activeUnit + k)
          (tget 0 s.eng.irq (4 * s.red.activeUnit + k) ||| 2 ^ cause) } }) ∧
    (∀ d, s.core c = x → x.div = some d → ∃ t, exec (.divideDone c) s = .next t ∧
      t.eng = { s.eng with cores := tset {} s.eng.cores (s.coreKey c) { x with dq := d.result, div := none } } ∧
      TimeOnly s { t with eng := s.eng } ∧ s.clk ≤ t.clk) ∧
    (s.core (.lane n) = x → x.run = .waiting → x.wait = .period → x.branch = none → x.rep0.act = false →
      x.rep1.act = false →
      (x.waitAt < s.loops.periodAt → exec (.waitContinue (.lane n)) s =
        .next (s.setCore (.lane n) { x with run := .running, wait := .none, pc := (x.pc + 1) % 2048 })) ∧
      (s.loops.periodAt ≤ x.waitAt → exec (.waitContinue (.lane n)) s = .next s))

/-- O37 (R200, R201, R206, R207, R209, Table 9.6): the result, the sticky overflow flag and the next address of every
register instruction; everything else of the machine is as before. A result that the manual does not state is a free
value, and the statement holds for whatever it is. -/
def Obligations.RegisterInstructions : Prop :=
  ∀ (s : State) (c : CoreRef) (x : Core) (d a b : Fin 16) (i : Word) (sh w : Nat), At s c x →
    exec (.nop c) s = .next (went s c x) ∧
    exec (.mov c d a) s = .next (went s c (x.setReg d (x.reg a))) ∧
    exec (.li c d i) s = .next (went s c (x.setReg d i)) ∧
    exec (.add c d a b) s = .next (went s c (arith x d ((x.reg a).toInt + (x.reg b).toInt))) ∧
    exec (.addi c d a i) s = .next (went s c (arith x d ((x.reg a).toInt + i.toInt))) ∧
    exec (.sub c d a b) s = .next (went s c (arith x d ((x.reg a).toInt - (x.reg b).toInt))) ∧
    exec (.neg c d a) s = .next (went s c (arith x d (-(x.reg a).toInt))) ∧
    exec (.abs c d a) s = .next (went s c (arith x d
      (if (x.reg a).toInt < 0 then -(x.reg a).toInt else (x.reg a).toInt))) ∧
    exec (.mull c d a b) s = .next (went s c (arith x d ((x.reg a).toInt * (x.reg b).toInt))) ∧
    exec (.and_ c d a b) s = .next (went s c (x.setReg d (x.reg a &&& x.reg b))) ∧
    exec (.andi c d a i) s = .next (went s c (x.setReg d (x.reg a &&& i))) ∧
    exec (.or_ c d a b) s = .next (went s c (x.setReg d (x.reg a ||| x.reg b))) ∧
    exec (.ori c d a i) s = .next (went s c (x.setReg d (x.reg a ||| i))) ∧
    exec (.xor_ c d a b) s = .next (went s c (x.setReg d (x.reg a ^^^ x.reg b))) ∧
    exec (.xori c d a i) s = .next (went s c (x.setReg d (x.reg a ^^^ i))) ∧
    exec (.cmp c a b) s = .next (went s c { x with st := compared x.st (x.reg a) (x.reg b) }) ∧
    exec (.cmpi c a i) s = .next (went s c { x with st := compared x.st (x.reg a) i }) ∧
    exec (.tst c a b) s = .next (went s c { x with st := { x.st with
      z := decide (x.reg a &&& x.reg b = 0), n := (x.reg a &&& x.reg b).msb, c := false, v := false } }) ∧
    exec (.min c d a b) s = .next (went s c (x.setReg d
      (if (x.reg b).slt (x.reg a) then x.reg b else x.reg a))) ∧
    exec (.max c d a b) s = .next (went s c (x.setReg d
      (if (x.reg b).slt (x.reg a) then x.reg a else x.reg b))) ∧
    exec (.clamp c d a b) s = .next (went s c (x.setReg d (BitVec.ofInt 32
      (max (-(((x.reg b).toNat % 2 ^ 31 : Nat) : Int)) (min ((x.reg b).toNat % 2 ^ 31 : Nat) (x.reg a).toInt))))) ∧
    (∀ cond t, condHolds x.st cond = some t → exec (.sel c d a b cond) s =
      .next (went s c (x.setReg d (if t = true then x.reg a else x.reg b)))) ∧
    (∃ k, exec (.clz c d a) s = .next (went s c (x.setReg d (BitVec.ofNat 32 k))) ∧ k ≤ 32 ∧
      (x.reg a).toNat < 2 ^ (32 - k) ∧ (k < 32 → 2 ^ (31 - k) ≤ (x.reg a).toNat)) ∧
    (sh < 32 →
      exec (.sll c d a sh) s = .next (went s c (arith x d ((x.reg a).toInt * 2 ^ sh))) ∧
      exec (.srl c d a sh) s = .next (went s c (x.setReg d (x.reg a >>> sh))) ∧
      exec (.sra c d a sh) s = .next (went s c (x.setReg d (BitVec.ofInt 32 ((x.reg a).toInt / 2 ^ sh)))) ∧
      exec (.rsh c d a sh) s = .next (went s c (x.setReg d (BitVec.ofInt 32 (rounded (x.reg a).toInt sh))))) ∧
    (∀ n : Int, n = ((x.reg b).setWidth 8).toInt →
      (0 ≤ n → n ≤ 31 → exec (.shv c d a b) s =
        .next (went s c (x.setReg d (BitVec.ofInt 32 (rounded (x.reg a).toInt n.toNat))))) ∧
      (n < 0 → -31 ≤ n → exec (.shv c d a b) s =
        .next (went s c (arith x d ((x.reg a).toInt * 2 ^ (-n).toNat)))) ∧
      (31 < n ∨ n < -31 → exec (.shv c d a b) s = .next (drew s c (x.setReg d (Config.freeWord s.freeCtr)) 1))) ∧
    (1 ≤ w → sh + w ≤ 32 →
      exec (.ext c d a sh w) s = .next (went s c (x.setReg d (((x.reg a).extractLsb' sh w).setWidth 32))) ∧
      exec (.exts c d a sh w) s = .next (went s c (x.setReg d (((x.reg a).extractLsb' sh w).signExtend 32))) ∧
      ∃ v : Word, exec (.ins c d a sh w) s = .next (went s c (x.setReg d v)) ∧
        ∀ j < 32, v.getLsbD j = if sh ≤ j ∧ j < sh + w then (x.reg a).getLsbD (j - sh) else (x.reg d).getLsbD j) ∧
    (w = 0 ∨ 32 < sh + w →
      exec (.ext c d a sh w) s = .next (drew s c (x.setReg d (Config.freeWord s.freeCtr)) 1) ∧
      exec (.exts c d a sh w) s = .next (drew s c (x.setReg d (Config.freeWord s.freeCtr)) 1) ∧
      exec (.ins c d a sh w) s = .next (drew s c (x.setReg d (Config.freeWord s.freeCtr)) 1))

/-- O38 (R206 to R209, Table 9.7): the result and the flags of every accumulator instruction: 72 bits wrapped, or
saturated with SAT set, AOV where the true result does not fit; MVA takes the least shift that fits. -/
def Obligations.AccumulatorInstructions : Prop :=
  ∀ (s : State) (c : CoreRef) (x : Core) (d a b r : Fin 16) (k k2 : Fin 2) (j : Fin 4) (i : Word) (sh : Nat)
    (sb : BitVec 8), At s c x →
    exec (.mpa c k a b) s = .next (went s c (accum x k ((x.reg a).toInt * (x.reg b).toInt))) ∧
    exec (.mac c k a b) s = .next (went s c (accum x k ((x.a.get k).toInt + (x.reg a).toInt * (x.reg b).toInt))) ∧
    exec (.msu c k a b) s = .next (went s c (accum x k ((x.a.get k).toInt - (x.reg a).toInt * (x.reg b).toInt))) ∧
    exec (.mpai c k a i) s = .next (went s c (accum x k ((x.reg a).toInt * i.toInt))) ∧
    exec (.maci c k a i) s = .next (went s c (accum x k ((x.a.get k).toInt + (x.reg a).toInt * i.toInt))) ∧
    (∀ p, p = rounded ((x.reg a).toInt * (x.reg b).toInt) (((x.reg r).toNat / 2 ^ (8 * j.val)) % 64) →
      exec (.mpr c k a b r j) s = .next (went s c (accum x k p)) ∧
      exec (.msr c k a b r j) s = .next (went s c (accum x k ((x.a.get k).toInt - p))) ∧
      exec (.mar c k a b r j) s = .next (went s c (accum x k ((x.a.get k).toInt + p)))) ∧
    exec (.clra c k) s = .next (went s c { x with a := x.a.set k 0 }) ∧
    (sh ≤ 40 → exec (.adda c k a sh) s =
      .next (went s c (accum x k ((x.a.get k).toInt + (x.reg a).toInt * 2 ^ sh)))) ∧
    (40 < sh → ∃ v, exec (.adda c k a sh) s = .next (drew s c { x with a := x.a.set k v } 3)) ∧
    exec (.addaa c k k2) s = .next (went s c (accum x k ((x.a.get k).toInt + (x.a.get k2).toInt))) ∧
    exec (.nega c k) s = .next (went s c (accum x k (-(x.a.get k).toInt))) ∧
    (∀ n : Int, n = sb.toInt →
      (0 ≤ n → n ≤ 63 → exec (.sha c k sb) s = .next (went s c (accum x k (rounded (x.a.get k).toInt n.toNat)))) ∧
      (n < 0 → exec (.sha c k sb) s = .next (went s c (accum x k ((x.a.get k).toInt * 2 ^ (-n).toNat)))) ∧
      (63 < n → ∃ v, exec (.sha c k sb) s = .next (drew s c { x with a := x.a.set k v } 3))) ∧
    (∀ n : Int, n = ((x.reg b).setWidth 8).toInt →
      (0 ≤ n → n ≤ 63 → exec (.shar c k b) s = .next (went s c (accum x k (rounded (x.a.get k).toInt n.toNat)))) ∧
      (n < 0 → exec (.shar c k b) s = .next (went s c (accum x k ((x.a.get k).toInt * 2 ^ (-n).toNat))))) ∧
    exec (.sata c k) s = .next (went s c { x with
      a := x.a.set k (BitVec.ofInt 72 (max (-(2 ^ 31)) (min (2 ^ 31 - 1) (x.a.get k).toInt))) }) ∧
    (sh ≤ 63 →
      (x.st.sat = true → exec (.mva c d k sh) s =
        .next (went s c { arith x d (rounded (x.a.get k).toInt sh) with scl := 0 })) ∧
      (x.st.sat = false → ∀ m, m ≤ 40 → fitsIn 32 (rounded (x.a.get k).toInt (sh + m)) = true →
        (∀ l < m, fitsIn 32 (rounded (x.a.get k).toInt (sh + l)) = false) → exec (.mva c d k sh) s =
        .next (went s c { x.setReg d (BitVec.ofInt 32 (rounded (x.a.get k).toInt (sh + m))) with
          scl := m, st := { x.st with scaled := x.st.scaled || decide (0 < m) } })) ∧
      (x.st.sat = false → (∀ m ≤ 40, fitsIn 32 (rounded (x.a.get k).toInt (sh + m)) = false) → ∃ v q, q ≤ 40 ∧
        exec (.mva c d k sh) s =
          .next (drew s c { x.setReg d v with scl := q, st := { x.st with scaled := true } } 2))) ∧
    exec (.mova c k k2) s = .next (went s c { x with a := x.a.set k (x.a.get k2) }) ∧
    exec (.mvax c d k 0) s = .next (went s c (x.setReg d ((x.a.get k).extractLsb' 0 32))) ∧
    exec (.mvax c d k 1) s = .next (went s c (x.setReg d ((x.a.get k).extractLsb' 32 32))) ∧
    exec (.mvax c d k 2) s = .next (went s c (x.setReg d (((x.a.get k).extractLsb' 64 8).signExtend 32))) ∧
    (∀ part lo len, (part, lo, len) = (0, 0, 32) ∨ (part, lo, len) = (1, 32, 32) ∨ (part, lo, len) = (2, 64, 8) →
      ∃ v : BitVec 72, exec (.mtax c k a part) s = .next (went s c { x with a := x.a.set k v }) ∧
      ∀ q < 72, v.getLsbD q = if lo ≤ q ∧ q < lo + len then (x.reg a).getLsbD (q - lo) else (x.a.get k).getLsbD q)

/-- O39 (R195, R202, R203, Tables 9.1, 9.8): every load, store, address-generator, special-register and divide
instruction: the address, the word, the post-modify, the protected and missing words, the result in flight. -/
def Obligations.MemoryInstructions : Prop :=
  ∀ (s : State) (c : CoreRef) (x : Core) (d a b r : Fin 16) (g : Fin 8) (o : BitVec 16) (i : Word) (y : AddrGen) (n : Nat),
    At s c x → x.g.get g = y →
    (∀ ad : Nat, ad < memTop c →
      (ad = genAddr c y 0 →
        exec (.ld c d g o) s = .next (went s c { x with
          g := x.g.set g (genStep c y o.toInt), load := some ⟨d, s.memRead c ad⟩ }) ∧
        exec (.ldv c d g b) s = .next (went s c { x with
          g := x.g.set g (genStep c y (x.reg b).toInt), load := some ⟨d, s.memRead c ad⟩ }) ∧
        (mayStore c ad = true →
          (∃ t, exec (.st c b g o) s = .next t ∧
            Stored s t c { x with g := x.g.set g (genStep c y o.toInt) } ad (x.reg b)) ∧
          ∃ t, exec (.stv c b g r) s = .next t ∧
            Stored s t c { x with g := x.g.set g (genStep c y (x.reg r).toInt) } ad (x.reg b))) ∧
      (ad = genAddr c y o.toInt →
        exec (.ldx c d g o) s = .next (went s c { x with load := some ⟨d, s.memRead c ad⟩ }) ∧
        (mayStore c ad = true → ∃ t, exec (.stx c b g o) s = .next t ∧ Stored s t c x ad (x.reg b))) ∧
      (ad = i.toNat →
        exec (.ldd c d i) s = .next (went s c { x with load := some ⟨d, s.memRead c ad⟩ }) ∧
        (mayStore c ad = true → ∃ t, exec (.std c b i) s = .next t ∧ Stored s t c x ad (x.reg b)) ∧
        (∀ l, c = .lane l → mayStore c ad = false → ∃ t, exec (.std c b i) s = .next t ∧ LaneFaulted s t l 3 ∧
          t.eng.dm = s.eng.dm)) ∧
      (ad = (x.reg a + i).toNat →
        exec (.ldr c d a i) s = .next (went s c { x with load := some ⟨d, s.memRead c ad⟩ }) ∧
        (mayStore c ad = true → ∃ t, exec (.str c b a i) s = .next t ∧ Stored s t c x ad (x.reg b)))) ∧
    (memTop c ≤ i.toNat →
      (∀ l, c = .lane l → ∃ t, exec (.ldd c d i) s = .next t ∧ LaneFaulted s t l 2 ∧ t.eng.dm = s.eng.dm) ∧
      (∀ l, c = .sup l → ∃ t, exec (.ldd c d i) s = .next t ∧ Excepted s t l x 0x11 (some i.toNat))) ∧
    (∀ base len, exec (.agset c g base len) s = .next (went s c { x with
      g := x.g.set g ⟨base % agMod c, len % agMod c, 0⟩ })) ∧
    exec (.agsetr c g a b) s = .next (went s c { x with
      g := x.g.set g ⟨(x.reg a).toNat % agMod c, (x.reg b).toNat % agMod c, 0⟩ }) ∧
    (n = (x.reg a).toNat % agMod c →
      exec (.mtag c g 0 a) s = .next (went s c { x with g := x.g.set g { y with base := n } }) ∧
      (n = 0 ∨ y.ptr < n → exec (.mtag c g 1 a) s = .next (went s c { x with g := x.g.set g { y with len := n } })) ∧
      (n ≠ 0 → n ≤ y.ptr → exec (.mtag c g 1 a) s = .next (went s c { x with
        g := x.g.set g { y with len := n, ptr := y.ptr % n }, agstat := x.agstat ||| 1 <<< g.val })) ∧
      exec (.mtag c g 2 a) s = .next (went s c { x with
        g := x.g.set g { y with ptr := if y.len = 0 then n else n % y.len } })) ∧
    exec (.mfag c d g 0) s = .next (went s c (x.setReg d (BitVec.ofNat 32 y.base))) ∧
    exec (.mfag c d g 1) s = .next (went s c (x.setReg d (BitVec.ofNat 32 y.len))) ∧
    exec (.mfag c d g 2) s = .next (went s c (x.setReg d (BitVec.ofNat 32 y.ptr))) ∧
    (∀ p ∈ [(0, x.st.word), (1, x.scl), (2, x.lr), (3, x.iret), (4, x.ifl.word), (5, x.ivec), (6, x.icause), (7, x.deadl),
        (8, x.agstat.toNat), (9, x.dq.toNat), (10, x.rep0.rs), (11, x.rep0.re), (12, x.rep0.rc), (13, x.rep1.rs),
        (14, x.rep1.re), (15, x.rep1.rc), (16, 0), (17, s.loops.period)],
      exec (.mfs c d p.1) s = .next (went s c (x.setReg d (BitVec.ofNat 32 p.2)))) ∧
    (∀ l, c = .lane l → ∀ sr, 32 ≤ sr → sr ≤ 39 → ∃ t, exec (.mfs c d sr) s = .next t ∧ LaneFaulted s t l 1) ∧
    (∀ l, c = .sup l → ∀ p ∈ [(32, x.epc), (33, x.efl.toNat), (34, x.ecause), (35, x.evec), (36, x.eaddr), (37, x.imask),
        (38, l.val + 4 * s.red.activeUnit)],
      exec (.mfs c d p.1) s = .next (went s c (x.setReg d (BitVec.ofNat 32 p.2)))) ∧
    exec (.mts c 1 a) s = .next (went s c x) ∧
    exec (.mts c 2 a) s = .next (went s c { x with lr := (x.reg a).toNat }) ∧
    exec (.mts c 6 a) s = .next (went s c { x with icause := clearBits x.icause (x.reg a).toNat }) ∧
    exec (.mts c 8 a) s = .next (went s c { x with agstat := x.agstat &&& ~~~((x.reg a).setWidth 8) }) ∧
    exec (.mts c 9 a) s = .next (went s c { x with dq := x.reg a }) ∧
    exec (.divq c a b 0) s = .next (went s c (divided x (x.reg a).toInt (x.reg b).toInt)) ∧
    (n < 32 → exec (.divq c a b n) s = .next (went s c (divided x ((x.reg a).toInt * 2 ^ n) (x.reg b).toInt))) ∧
    (∀ k, exec (.diva c k b) s = .next (went s c (divided x (x.a.get k).toInt (x.reg b).toInt))) ∧
    (∀ k, 0 ≤ (x.a.get k).toInt → ∃ q : Nat, q < 2 ^ 32 ∧ ((q : Int) * q ≤ (x.a.get k).toInt) ∧
      (q < 2 ^ 32 - 1 → (x.a.get k).toInt < ((q + 1 : Nat) : Int) * ((q + 1 : Nat) : Int)) ∧
      exec (.sqrta c k) s = .next (went s c { x with div := some ⟨12, BitVec.ofNat 32 q⟩ })) ∧
    (∀ k, (x.a.get k).toInt < 0 → exec (.sqrta c k) s =
      .next (went s c { x with div := some ⟨12, 0⟩, st := { x.st with dz := true } }))

/-- O40 (R201, R205, R211 to R215, R219, R220, R452, R459, R460, Tables 9.5, 9.9): the control, wait, privileged and bus
instructions: branches set their two slots, REPEAT opens a level, a wait holds the core in place, HALT and BKPT stop a
lane, an exception enters its handler and RETE leaves it, the bus is read, written, locked and unlocked. -/
def Obligations.ControlInstructions : Prop :=
  ∀ (s : State) (c : CoreRef) (x : Core) (d a b : Fin 16) (n len tgt : Nat) (i : Word) (l : Fin 64) (k : Fin 4),
    At s c x →
    (∀ cond, condHolds x.st cond = some true → exec (.br c cond tgt) s = .next (went s c (slots x tgt none))) ∧
    (∀ cond, condHolds x.st cond = some false → exec (.br c cond tgt) s = .next (went s c (slots x (x.pc + 3) none))) ∧
    exec (.call c tgt) s = .next (went s c { slots x tgt none with lr := (x.pc + 3) % pcMod c }) ∧
    exec (.jr c a) s = .next (went s c (slots x (x.reg a).toNat none)) ∧
    exec (.ret c) s = .next (went s c (slots x x.lr none)) ∧
    (0 < n → 0 < len → exec (.repeat_ c n len) s = .next (went s c { x with
      rep0 := { rs := x.pc + 1, re := x.pc + len, rc := n, act := true } })) ∧
    (0 < len → (x.reg a).toNat ≠ 0 → exec (.repeatr c a len) s = .next (went s c { x with
      rep0 := { rs := x.pc + 1, re := x.pc + len, rc := (x.reg a).toNat, act := true } })) ∧
    ((x.reg a).toNat = 0 → exec (.repeatr c a len) s =
      .next (s.setCore c { x with pc := (x.pc + len + 1) % pcMod c })) ∧
    (c = .lane l →
      exec (.reti c) s = .next (went s c (slots x x.iret (some x.ifl))) ∧
      (∃ t, exec (.halt c) s = .next t ∧ LaneFaulted s t l 5) ∧
      (x.stopAt = none → exec (.waitp c) s = .next (s.setCore c (waits x .period s.clk))) ∧
      (x.stopAt.isSome = true → exec (.waitp c) s =
        .next (s.setCore c { x with run := .stopped, wait := .period, stopAt := none })) ∧
      (s.ptime < 121800 → exec (.waite c) s = .next (s.setCore c (waits x .endData s.clk))) ∧
      (121800 ≤ s.ptime → s.recs l ≠ 0 → exec (.waite c) s = .next (went s c x)) ∧
      (n ≤ seqDiff x.srwc (x.reg a).toNat → exec (.waits c a n) s = .next (went s c x)) ∧
      (seqDiff x.srwc (x.reg a).toNat < n → exec (.waits c a n) s =
        .next (s.setCore c (waits x (.records (x.reg a).toNat n) s.clk))) ∧
      ((s.laneCells l).length ≤ (x.reg a).toNat % 128 → exec (.cstep c d a) s =
        .next (went s c { x with load := some ⟨d, 8⟩ })) ∧
      (∀ cell, (s.laneCells l)[(x.reg a).toNat % 128]? = some cell →
        ((s.cell cell).stepped = true ∨ s.ptime < 121800 ∨ 127600 < s.ptime → exec (.cstep c d a) s =
          .next (went s c { x with load := some ⟨d, BitVec.ofNat 32 ((s.cell cell).state.code + 8)⟩ })) ∧
        ((s.cell cell).stepped = false → s.loops.sampled = true → 121800 ≤ s.ptime → s.ptime ≤ 127600 → ∃ u,
          exec (.cstep c d a) s =
            .next (went u c { x with load := some ⟨d, BitVec.ofNat 32 (u.cell cell).state.code⟩ }) ∧
          (u.cell cell).stepped = true ∧ u.clk = s.clk ∧ u.eng.cores = s.eng.cores)) ∧
      (s.flag Reg.LE_LANE_CTL_BKPT_EN = false → exec (.bkpt c) s = .next (went s c x)) ∧
      (s.flag Reg.LE_LANE_CTL_BKPT_EN = true → ∃ t, exec (.bkpt c) s = .next t ∧ LaneFaulted s t l 4)) ∧
    (c = .sup k →
      (∃ t, exec (.bkpt c) s = .next t ∧ Excepted s t k x 0x14 none) ∧
      (∃ t, exec (.syscall c i) s = .next t ∧ Excepted s t k x 0x13 none) ∧
      exec (.rete c) s = .next (s.setCore c { x with
        pc := x.epc % 2 ^ 32, st := Status.ofWord x.efl.toNat false
        rep0 := { x.rep0 with act := bitAt x.efl.toNat 16 }, rep1 := { x.rep1 with act := bitAt x.efl.toNat 17 } }) ∧
      exec (.waiti c) s = .next (s.setCore c (waits x .interrupt s.clk)) ∧
      exec (.fence c) s = .next (went s c { x with writesOut := 0 }) ∧
      (∀ m ad, m = s.red.activeUnit → m < 2 → s.masterReady m = true → s.brokenLock m k = none →
        ad = (x.reg a + i).toNat → 0x5000000 ≤ ad → ad < 0x5400000 → ad % 4 = 0 →
        (s.targetFree 5 m k = true →
          exec (.ldb c d a i false) s = .next (went (s.granted 5 m) c (x.setReg d (BitVec.ofNat 32 (s.ckptRead ad)))) ∧
          exec (.stb c b a i false) s = .next (went ((s.granted 5 m).ckptWrite ad (x.reg b).toNat) c x)) ∧
        (s.targetFree 5 m k = false → exec (.ldb c d a i false) s = .next (s.setCore c x)) ∧
        ((s.bmTarget 5).lockedBy = none → s.lockOf m k = none → exec (.lockb c a i) s = .next (went
          ((s.granted 5 m).setBmTarget 5
            { (s.granted 5 m).bmTarget 5 with lockedBy := some (m, k.val), lockAt := s.clk }) c x)) ∧
        (s.lockOf m k = none → exec (.unlockb c) s = .next (went s c x)) ∧
        (∀ q, s.lockOf m k = some q → s.bm.waiting = [] → exec (.unlockb c) s = .next (went (s.unlockTarget q) c x))))

/-- O41 (R205, R210 to R213, Table 9.10): no instruction issues on a core that does not run; a load lands after the next
instruction and wins over it; the second slot of a branch leads to its target; a REPEAT body turns back to its start; a
transfer in a branch slot, a privileged opcode in a lane and a lane's instruction in a supervisor core are ILLEGAL. -/
def Obligations.IssueAndHazards : Prop :=
  (∀ (i : Instr) (c : CoreRef) (s : State), coreOf i = some c → (s.core c).run ≠ .running → exec i s = .next s) ∧
    ∀ (s : State) (l : Fin 64) (k : Fin 4) (x : Core) (d a : Fin 16) (p : LoadPend) (b : BranchPend),
      x.run = .running → x.div = none → x.cyc = (s.core (.lane l)).cyc + 1 →
      (x.branch = none → x.rep0.act = false → x.rep1.act = false →
        s.core (.lane l) = { x with cyc := (s.core (.lane l)).cyc, load := some p } → x.load = none →
        exec (.mov (.lane l) d a) s = .next (s.setCore (.lane l)
          { (x.setReg d (x.reg a)).setReg p.reg p.value with pc := (x.pc + 1) % 2048 })) ∧
      (s.core (.lane l) = { x with cyc := (s.core (.lane l)).cyc, branch := some b } → x.load = none →
        (b.slots = 2 → exec (.nop (.lane l)) s = .next (s.setCore (.lane l)
          { x with pc := (x.pc + 1) % 2048, branch := some { b with slots := 1 } })) ∧
        (b.slots = 1 → exec (.nop (.lane l)) s = .next (s.setCore (.lane l)
          { x with pc := b.target % 2048, branch := none, st := b.status.getD x.st })) ∧
        (∃ t, exec (.jr (.lane l) a) s = .next t ∧ LaneFaulted s t l 1) ∧
        (∃ t, exec (.waitp (.lane l)) s = .next t ∧ LaneFaulted s t l 1)) ∧
      (s.core (.lane l) = { x with cyc := (s.core (.lane l)).cyc } → x.load = none → x.branch = none →
        x.rep1.act = false → x.rep0.act = true → x.rep0.re = x.pc →
        (1 < x.rep0.rc → exec (.nop (.lane l)) s = .next (s.setCore (.lane l)
          { x with rep0 := { x.rep0 with rc := x.rep0.rc - 1 }, pc := x.rep0.rs % 2048 })) ∧
        (x.rep0.rc = 1 → exec (.nop (.lane l)) s = .next (s.setCore (.lane l)
          { x with rep0 := { x.rep0 with rc := 0, act := false }, pc := (x.pc + 1) % 2048 }))) ∧
      ((s.core (.lane l)).run = .running → (∃ t, exec (.rete (.lane l)) s = .next t ∧ LaneFaulted s t l 1) ∧
        ∃ t, exec (.fence (.lane l)) s = .next t ∧ LaneFaulted s t l 1) ∧
      (At s (.sup k) x → ∃ t, exec (.waitp (.sup k)) s = .next t ∧ Excepted s t k x 0x10 none)

/-! ### Converters and references (chapter 10) -/

/-- O42 (R56, R224, R230 to R232, R234, R235, R238): the conversions of the tail, the publication of the housekeeping
values, the reference buffers, direct conversions, pair flags, and the slew limiter of the heaters. -/
def Obligations.ConvertersAndReferences : Prop :=
  ∀ (s : State) (conv : Fin 32) (slot r ch : Nat) (inW : Nat) (p : Fin 256) (n : Fin 256),
    (s.loops.counting = true → 16 ≤ slot → slot < 48 →
      (s.adc.ref.ready = true → ch = 9728 + 4 * conv + (slot - 16) / 2 % 4 → ∃ t,
        exec (.adcConversion conv 8 slot [some r] none) s = .next t ∧
        t.adc = { s.adc with hkAcc := tset [] s.adc.hkAcc ch (r :: tget [] s.adc.hkAcc ch) } ∧
        t.clk = max s.clk (s.loops.periodAt + 121600 + 50 * slot) ∧ TimeOnly s { t with adc := s.adc }) ∧
      (s.adc.ref.ready = false → ∃ t, exec (.adcConversion conv 8 slot [some r] none) s = .next t ∧
        (t.pair (conv / 2)).ref = true ∧ t.adc.hkAcc = s.adc.hkAcc)) ∧
    (s.loops.counting = true → (∃ t, exec .hkPublish s = .next t ∧ t.adc.hkAcc = [] ∧
        t.clk = max s.clk (s.loops.periodAt + 124000)) ∧
      (∀ m v, m < 64 → s.adc.hkAcc = [(9728 + m, [r])] → (s.correct (9728 + m) r).map Prod.snd = some v → ∃ t,
        exec .hkPublish s = .next t ∧
        t.adc = { s.adc with
          hk := tset {} s.adc.hk m ⟨meanInt [v], true, s.pairFlagged (hkPair m)⟩
          hkAcc := [] })) ∧
    (RegsCanonical s → s.barUp = true →
      (s.mode.mode = .safe ∨ s.mode.mode = .calibrate →
        (s.adc.ref.state = 0 → ∃ t, exec .refEnable s = .next t ∧ t.flag Reg.ADC_REF_CTL_EN = true ∧
          t.adc.ref = { s.adc.ref with state := 1, ready := false, stopPending := false } ∧ t.adc.refAt = s.clk) ∧
        (s.adc.ref.state = 1 → s.adc.ref.ready = true → ∃ t, exec .refDisable s = .next t ∧
          t.flag Reg.ADC_REF_CTL_EN = false ∧ t.adc.ref = { s.adc.ref with state := 2, ready := false })) ∧
      (s.mode.mode ≠ .safe → s.mode.mode ≠ .calibrate → ∃ t, exec .refEnable s = .next t ∧ EventsOnly (s.granted 7 2) t)) ∧
    (s.adc.ref.state = 1 → s.adc.ref.ready = false →
      (s.adc.ref.stopPending = false → inW % 65536 = 65535 → ∃ t, exec (.refReady inW) s = .next t ∧
        t.adc.ref = { s.adc.ref with ready := true } ∧ t.clk = max s.clk (s.adc.refAt + 5000000)) ∧
      (inW % 65536 ≠ 65535 → ∃ t, exec (.refReady inW) s = .next t ∧ t.adc.ref = s.adc.ref ∧
        t.clk = max s.clk (s.adc.refAt + 5000000))) ∧
    (s.adc.ref.state = 2 → s.adc.ref.restartPending = false → exec (.functionStopped .adcRef) s =
      .next { s with adc := { s.adc with ref := {} } }) ∧
    ((s.port p).fn.state = 2 → (s.port p).fn.restartPending = false → ∃ t,
      exec (.functionStopped (.port p)) s = .next t ∧ t.ports = tset {} s.ports p { s.port p with fn := {} } ∧
      t.mode = s.mode ∧ t.tm = s.tm) ∧
    ((s.lane (256 + n)).fn = ⟨2, false, false, false⟩ → (s.lane (256 + n)).serving = false →
      exec (.functionStopped (.fabricLane n)) s = .next { s with
        lanes := tset {} s.lanes (256 + n) { s.lane (256 + n) with fn := {}, rxCal := false, serving := false } }) ∧
    (RegsCanonical s → s.barUp = true → s.adc.direct = none →
      (ch ≤ 9855 → s.pwr.state ≤ 2 → s.adc.ref.ready = true → ∃ t, exec (.adcDirectRequest ch) s = .next t ∧
        t.adc = { s.adc with direct := some 0 } ∧ t.fld Reg.ADC_DIRECT_CHANNEL = ch ∧
        { t with adc := s.adc, regs := s.regs, bm := s.bm } = s) ∧
      (9855 < ch → ch < 16384 → ∃ t, exec (.adcDirectRequest ch) s = .next t ∧
        t.adc = { s.adc with directStatus := 3, directRaw := 0 } ∧
        { t with adc := s.adc, regs := s.regs, bm := s.bm } = s)) ∧
    (s.barUp = true → tblWf {} 0 s.adc.pairs = true → ∀ k < 16, (∃ t, exec (.pairFlagClear (2 ^ k)) s = .next t ∧ (t.pair k).check = false ∧
        (t.pair k).refchk = false ∧ (t.pair k).timeout = false ∧ (t.pair k).badRun = 0 ∧
        (t.pair k).ref = (s.pair k).ref ∧ ∀ j, j ≠ k → t.pair j = s.pair j) ∧
      ∃ t, exec (.pairForceWrite (2 ^ k)) s = .next t ∧ ∀ j < 16, (t.pair j).forced = decide (j = k)) ∧
    (s.pins.vaon = true → s.dac.maxRate = true → ∃ t, exec .heaterSlewTick s = .next t ∧
      t.clk = (s.clk / 1000 + 1) * 1000 ∧
      (∀ c < 4352, t.htrOut c = (if s.htrOut c + 256 < s.htrTarget c then s.htrOut c + 256
        else if s.htrTarget c + 256 < s.htrOut c then s.htrOut c - 256 else s.htrTarget c)) ∧
      TimeOnly s { t with dac := s.dac })

/-! ### Calibration, quality and eyes (chapter 11) -/

/-- O43 (R251 to R253, R256 to R258, R261 to R263, R278): a calibration run begins, ends with its results or times out;
the drift ring is read; eye scans; the daily sample, the monthly entry and the writes of drift and trims to the flash. -/
def Obligations.CalibrationAndQuality : Prop :=
  ∀ (s : State) (tag : CmdTag) (set groups cell out lane : Nat) (store : Bool) (r : CalRun) (e : EyeResult),
    (Serves s → set ≤ 7 → groups ≤ 15 → s.cal.run = none →
      (s.mode.mode = .calibrate → s.pwr.state = 0 → s.pwr.target = 0 → s.ret.lockout = false → s.ret.tested = true →
        s.saf.guard = .closed → ∃ t, exec (.calRun tag 0 set groups store) s = .next t ∧
        t.cal = { s.cal with run := some ⟨tag, 0, set, groups, store, 1, s.clk⟩ } ∧ t.saf.lsrEn = groups &&& s.saf.wired ∧
        t.saf.request = t.saf.lsrEn ∧ { t with cal := s.cal, saf := s.saf, cx := s.cx } = s) ∧
      (s.mode.mode ≠ .calibrate → ∃ t, exec (.calRun tag 0 set groups store) s = .next t ∧ Refused s t tag St.wrongMode)) ∧
    (s.cal.run = some r → s.mode.mode = .calibrate → s.mode.pend = none → LaserSafe s →
      (∃ t, exec (.calRunDone [] 0 true) s = .next t ∧ t.cal.run = none ∧ t.mode.mode = .safe ∧ t.saf.lsrEn = 0) ∧
      (∃ t, exec .calRunTimeout s = .next t ∧ t.cal.run = none ∧ t.mode.mode = .safe ∧ t.saf.lsrEn = 0 ∧
        t.clk = max s.clk (r.startAt + 60000000000) ∧ t.cal.img = s.cal.img ∧ t.cal.trims = s.cal.trims)) ∧
    (Serves s → cell < 4352 → ∃ t data, exec (.calDriftRead tag cell out) s = .next t ∧ Answered s t tag St.ok ∧
      ExchangeOnly s t ∧ Delivered s t tag out data ∧ data.length = 1028 ∧
      data.take 4 = leBytes 4 (driftEntry (s.quality cell) 0).toNat ∧
      data.drop 1024 = leBytes 4 (s.quality cell).index) ∧
    (lane < 512 → s.flag Reg.CAL_CTL_EYE_EN = true → s.cal.scanning = [] →
      ((s.lane lane).fn.ready = true → exec (.eyeScanStart lane) s = .next { s with
        lanes := tset {} s.lanes lane { s.lane lane with eyeNow := false }, cal := { s.cal with scanning := [lane] } }) ∧
      ((s.lane lane).fn.ready = false → exec (.eyeScanStart lane) s = .next { s with
        cal := { s.cal with eyes := tset {} s.cal.eyes lane { tget {} s.cal.eyes lane with stale := true } } })) ∧
    (s.cal.scanning = [lane] → e.width ≤ 64 → e.height ≤ 1023 → e.ber ≤ 65535 → lane < 256 →
      exec (.eyeScanDone lane e) s = .next { s with cal := { s.cal with
        scanning := []
        eyes := tset {} s.cal.eyes lane
          ⟨e.width, e.height, e.ber, timeNs s.time.now / 1000000000 % 2 ^ 32, true, false, false⟩ } }) ∧
    (s.barUp = true → lane < 512 → exec (.eyeNowRequest lane) s = .next { s.granted 0 2 with
      lanes := tset {} s.lanes lane { s.lane lane with eyeNow := true } }) ∧
    (s.pwr.state = 0 → s.started = true →
      (∀ x : CellLoop, s.loops.cells = [(cell, x)] → s.cal.l0Day ≤ 86400000000000 → ∃ t, exec .driftDailySample s = .next t ∧
        t.cal.l0Day = 0 ∧ t.clk = s.clk + (86400000000000 - s.cal.l0Day) ∧
        (x.state = .track → (t.quality cell).daily =
          (s.quality cell).daily ++ [(s.biasDriftNow cell, s.htrDriftNow cell)]) ∧
        (x.state ≠ .track → t.cal.quality = s.cal.quality)) ∧
      (s.cal.l0Month ≤ 2592000000000000 → ∃ t, exec .driftMonthlyWrite s = .next t ∧ t.cal.l0Month = 0 ∧
        t.nvm.jobs.getLast? = some .drift ∧ ∀ c < 4352, (t.quality c).daily = [] ∧
          (t.quality c).index = ((s.quality c).index + 1) % 256)) ∧
    (s.started = true → s.cal.trims ≠ s.cal.trimsNvm → ∃ t, exec .trimNvmWrite s = .next t ∧
      t.nvm.jobs = s.nvm.jobs ++ [.trims] ∧ t.cal.trimsAt = t.clk ∧
      t.clk = (if s.cal.trimsAt = 0 then s.clk else max s.clk (s.cal.trimsAt + 3600000000000)) ∧ t.cal.trims = s.cal.trims)

/-! ### Lanes and ports (chapter 12) -/

/-- O44 (R56, R266, R268, R279, R280): the enable and disable of a port and of a fabric lane, a failed training, a link
that comes up or goes down, a lane that becomes ready. -/
def Obligations.PortsAndLanes : Prop :=
  ∀ (s : State) (p lane reached cause : Nat) (n : Fin 256), RegsCanonical s → p < 256 →
    (s.barUp = true →
      (s.planned p = true → s.lanesAwake = true → (s.port p).fn.state = 0 → ∃ t, exec (.portEnable p) s = .next t ∧
        t.flag (Reg.PORT_CTL_EN p) = true ∧
        t.ports = tset {} s.ports p { s.port p with
          fn := { (s.port p).fn with state := 1, ready := false, stopPending := false } } ∧
        { t with regs := s.regs, bm := s.bm, ports := s.ports, lanes := s.lanes } = s) ∧
      (s.planned p = true → s.lanesAwake = false → ∃ t, exec (.portEnable p) s = .next t ∧
        t.flag (Reg.PORT_CTL_EN p) = true ∧ { t with regs := s.regs, bm := s.bm } = s) ∧
      (s.planned p = false → ∃ t, exec (.portEnable p) s = .next t ∧ EventsOnly (s.granted 0 2) t ∧
        t.cx.evtSeq = seqNext s.cx.evtSeq) ∧
      (s.flag (Reg.PORT_CTL_EN p) = true → (s.port p).fn.state = 1 → (s.port p).fn.ready = false → ∃ t,
        exec (.portDisable p) s = .next t ∧ t.flag (Reg.PORT_CTL_EN p) = false ∧
        t.ports = tset {} s.ports p { s.port p with fn := { (s.port p).fn with stopPending := true } } ∧
        { t with regs := s.regs, bm := s.bm, ports := s.ports } = s) ∧
      ((s.lane (256 + n)).fn.state = 0 → s.pwr.state = 0 → ∃ t, exec (.fabricLaneEnable n) s = .next t ∧
        t.flag (Reg.LANE_CTL_EN (256 + n)) = true ∧
        t.lanes = tset {} s.lanes (256 + n) { s.lane (256 + n) with
          fn := { (s.lane (256 + n)).fn with state := 1, ready := false, stopPending := false }, rxCal := false } ∧
        { t with regs := s.regs, bm := s.bm, lanes := s.lanes } = s) ∧
      ((s.lane (256 + n)).fn.state = 1 → (s.lane (256 + n)).fn.ready = true → ∃ t, exec (.fabricLaneDisable n) s = .next t ∧
        t.flag (Reg.LANE_CTL_EN (256 + n)) = false ∧
        t.lanes = tset {} s.lanes (256 + n) { s.lane (256 + n) with
          fn := { (s.lane (256 + n)).fn with state := 2, ready := false } } ∧
        { t with regs := s.regs, bm := s.bm, lanes := s.lanes } = s)) ∧
    ((s.portLanes p).contains lane = true → s.linkTrain p = true → (s.port p).fn.state = 1 → (s.port p).linkUp = false →
      (s.port p).fn.stopPending = false → ∃ t, exec (.trainFailed p lane reached) s = .next t ∧
      t.ports = tset {} s.ports p { s.port p with anDone := false } ∧
      t.lanes = tset {} s.lanes lane { s.lane lane with trainFail := true } ∧ t.tm = s.tm ∧ t.mode = s.mode) ∧
    (s.lanesAwake = true → s.planned p = true → (s.port p).fn.state = 1 → (s.port p).linkUp = false →
      (s.port p).fn.stopPending = false → ∃ u : State, exec (.portLinkUp p) s = .next u.settle ∧ (u.port p).linkUp = true ∧
      (u.port p).fn = { (s.port p).fn with ready := true } ∧ (u.port p).anDone = s.linkTrain p ∧
      u.clk = max s.clk (s.port p).downUntil ∧ u.tm = s.tm ∧ u.mode = s.mode) ∧
    (s.planned p = true → (s.port p).fn.state = 1 → (s.port p).linkUp = true → tblWf {} 0 s.tm.ports = true →
      s.flag Reg.FDB_CTL_FLUSH_ON_DOWN = false →
      ∃ u : State, exec (.portLinkDown p cause) s = .next u.settle ∧ (u.port p).linkUp = false ∧
      (u.port p).downUntil = s.clk + 10000000 ∧ (u.pq p).sending = none ∧ (∀ f ∈ u.tm.frames, f.toward p = false) ∧
      u.fdb = s.fdb ∧ u.mode = s.mode) ∧
    ((s.lane (256 + n)).fn = ⟨1, false, false, false⟩ → exec (.fabricLaneReady n) s = .next { s with
      lanes := tset {} s.lanes (256 + n) { s.lane (256 + n) with
        fn := ⟨1, true, false, false⟩, rxCal := true, burstSeq := 0, lastValid := false } })

/-! ### Received frames, pauses and bursts (chapters 12, 13, 16) -/

/-- O45 (R268 to R270, R282): a frame on a port whose link is down is nothing; while the packet engine is stopped a good
frame is counted and dropped; a PAUSE or PFC frame holds its classes for its quanta, 0 ends it, a bad one is counted; a
pause ends at its instant and is refreshed at its own. -/
def Obligations.FramesAndPausesReceived : Prop :=
  ∀ (s : State) (p c : Nat) (frame : Bytes) (up : RxFault),
    (s.receives p = false → exec (.memberFrameRx p frame up) s = .next s ∧ exec (.pauseFrameRx p frame) s = .next s ∧
      exec (.pfcFrameRx p frame) s = .next s) ∧
    (s.receives p = true → tblWf 0 0 s.obs.cnt = true → p < 256 →
      (s.engineOn = false → 64 ≤ frame.length → frame.length ≤ s.mtu p → fcsGood frame = true →
        beAt frame 12 2 ≠ 0x8808 → s.fld (Reg.PORT_SAMPLE_N p 0) = 0 → ∃ t,
        exec (.memberFrameRx p frame ⟨false, false, 0, 0, 0⟩) s = .next t ∧
        t.cntOf (portCnt p 0) = (s.cntOf (portCnt p 0) + 1) % 2 ^ 72 ∧
        t.cntOf (portCnt p 1) = (s.cntOf (portCnt p 1) + frame.length) % 2 ^ 72 ∧
        t.cntOf (portCnt p 49) = (s.cntOf (portCnt p 49) + 1) % 2 ^ 72 ∧ t.tm.frames = s.tm.frames ∧
        { t with obs := s.obs, tm := s.tm } = s) ∧
      (s.engineOn = true → frame.length < 64 → beAt frame 12 2 ≠ 0x8808 → ∃ u : State,
        exec (.memberFrameRx p frame ⟨false, false, 0, 0, 0⟩) s = .next u.settle ∧ u.clk = s.clk ∧ u.mode = s.mode ∧
        u.saf = s.saf ∧ u.mx = s.mx)) ∧
    (s.receives p = true → (s.port p).rxPause.length = 8 → beAt frame 12 2 = 0x8808 →
      (beAt frame 14 2 = 1 → fcsGood frame = true → s.flag (Reg.PORT_CTL_PAUSE_RX_EN p) = true → ∃ u : State,
        exec (.pauseFrameRx p frame) s = .next u.settle ∧ (u.port p).rxPause = List.replicate 8
          (if beAt frame 16 2 = 0 then none else some (s.clk + s.quantaNs p (beAt frame 16 2))) ∧
        u.clk = s.clk ∧ u.tm = s.tm) ∧
      (beAt frame 14 2 = 1 → fcsGood frame = false → exec (.pauseFrameRx p frame) s =
        .next (s.count (portCnt p 4) 1)) ∧
      (beAt frame 14 2 = 0x0101 → fcsGood frame = true → s.flag (Reg.PORT_CTL_PFC_RX_EN p) = true → ∃ u : State,
        exec (.pfcFrameRx p frame) s = .next u.settle ∧ u.clk = s.clk ∧ u.tm = s.tm ∧
        ∀ k < 8, lget none (u.port p).rxPause k =
          if bitAt (beAt frame 16 2 &&& s.fld (Reg.PORT_CTL_PFC_CLASSES p)) k = true then
            (if beAt frame (18 + 2 * k) 2 = 0 then none else some (s.clk + s.quantaNs p (beAt frame (18 + 2 * k) 2)))
          else lget none (s.port p).rxPause k)) ∧
    (∀ a, lget none (s.port p).rxPause c = some a → ∃ u : State, exec (.pauseExpire p c) s = .next u.settle ∧
      u.clk = max s.clk a ∧ u.ports = tset {} s.ports p { s.port p with rxPause := lset (s.port p).rxPause c none } ∧
      TimeOnly s { u with ports := s.ports }) ∧
    ((s.port p).txPausing ≠ 0 → (s.port p).linkUp = true → ∃ (u : State) (f : Bytes), exec (.pauseRefresh p) s = .next u.settle ∧
      u.clk = max s.clk (s.port p).refreshAt ∧ u.tm.ports = tset {} s.tm.ports p { s.pq p with ctl := (s.pq p).ctl ++ [f] } ∧
      (u.port p).txPausing = (s.port p).txPausing ∧ u.tm.frames = s.tm.frames)

/-- O46 (R22, R274, R276, R336, R337, R353): a frame leaves on its last byte; a lane takes the record its selectors
choose; a burst is checked in order and what fails is counted; a shaper's credit is brought up at its instant. -/
def Obligations.BurstsAndTransmission : Prop :=
  ∀ (s : State) (p m c : Nat) (i : Fin 256) (f : Frame) (b : BurstIn) (d dg : Drr) (g lane : Nat) (d0 : Int),
    ((s.pq p).sending = some f → f.launch = none → ∃ u : State, exec (.frameTxDone p none) s = .next u.settle ∧
      u.out = .frame p f.data :: s.out ∧ u.clk = max s.clk (s.pq p).sendEnd ∧
      u.tm.ports = tset {} s.tm.ports p { s.pq p with sending := none } ∧ u.tm.frames = s.tm.frames ∧ u.cx = s.cx) ∧
    (tget? s.orb.targets i = some m → (s.lanesTo m).contains i.val = true → s.moduleOpen m = true → s.engineHalted = false →
      (s.passOver m).selClass m = (some c, d) → (s.passOver m).selGroup m c = (some (g, f, lane), dg) → ∃ u : State,
      exec (.fabricRecordTake i) s = .next u.settle ∧ u.tm.frames = s.tm.frames.erase f ∧
      u.lanes = tset {} s.lanes (256 + lane) { s.lane (256 + lane) with
        burstRecs := (s.lane (256 + lane)).burstRecs ++ fabricHeader f (f.srcPort.getD 0) ++ f.data
        burstFrames := (s.lane (256 + lane)).burstFrames + 1
        burstBytes := (s.lane (256 + lane)).burstBytes + f.data.length
        burstHdrs := (s.lane (256 + lane)).burstHdrs ++ fabricHeader f (f.srcPort.getD 0) } ∧
      u.tm.selCls = tset {} s.tm.selCls m d ∧ u.tm.selGrp = tset {} s.tm.selGrp (8 * m + c) dg ∧ u.clk = s.clk) ∧
    (s.expecting i = false → exec (.burstRx i b) s = .next s ∧ exec (.startDelimiterTimeout i) s = .next s) ∧
    (s.expecting i = true →
      (b.delim = none → ∃ t, exec (.burstRx i b) s = .next t ∧ (t.lane (256 + i)).lastCause = 1 ∧
        (t.lane (256 + i)).cdrLock = false ∧ t.freeCtr = s.freeCtr + 1 ∧ t.tm = s.tm) ∧
      (b.delim = some d0 → d0 ≤ 20000 → headerGood (b.message.take 32) = false → ∃ t, exec (.burstRx i b) s = .next t ∧
        (t.lane (256 + i)).lastCause = 2 ∧ (t.lane (256 + i)).cdrLock = true ∧ t.tm = s.tm) ∧
      (b.delim = some d0 → d0 ≤ 20000 → b.bad = [] → b.message.length = 32 → b.endFound = false →
        headerGood b.message = true → (s.expectedSrc i).1 = some (leAt b.message 0 2 % 512) → s.orbitGood b.message = true →
        ∃ u : State, exec (.burstRx i b) s = .next u.settle ∧ (u.lane (256 + i)).lastSrc = leAt b.message 0 2 % 512 ∧
        (u.lane (256 + i)).lastSeq = leAt b.message 12 4 ∧ (u.lane (256 + i)).lastValid = true ∧
        (u.lane (256 + i)).lastCause = 8 ∧ u.tm = s.tm) ∧
      (∃ t, exec (.startDelimiterTimeout i) s = .next t ∧ (t.lane (256 + i)).lastCause = 1 ∧
        (t.lane (256 + i)).cdrLock = false ∧ t.tm = s.tm ∧
        t.time.now = max s.time.now (s.orb.intStart + (s.eclipseNs + 20) * nsUnit))) ∧
    (∀ (k : Fin 9) (a : Nat), s.zeroAt p k = some a → ∃ u : State, exec (.shaperCreditReachesZero p k) s = .next u.settle ∧
      u.clk = max s.clk a ∧ TimeOnly s { u with tm := s.tm } ∧ u.tm.frames = s.tm.frames ∧
      (k.val < (s.pq p).creditAt.length → lget 0 (u.pq p).creditAt k = u.clk))

/-! ### Gates, launch lists, shapers, limiters and samplers (chapter 16) -/

/-- O47 (R295, R354 to R358, R373): a gate list waits for its instant, takes over, steps from entry to entry and can be
cancelled; the writes of rates, bursts, storm limiters and samplers and what each sets. -/
def Obligations.GatesShapersAndLimiters : Prop :=
  ∀ (s : State) (tag : CmdTag) (p cnt a : Nat) (b : Bytes) (at_ : TimeWord) (v : Word) (k : Fin 9) (l : Fin 3) (tx : Bool),
    (Serves s → s.pwr.state = 0 → s.planned p = true →
      (0 < cnt → cnt ≤ 64 → (gateEntries cnt b).all gateOk = true → at_ ≠ 0 →
        s.time.now + 50000 * nsUnit ≤ s.fromWord at_ → (s.pq p).gateArmedAt = none → ∃ t,
        exec (.portGateWrite tag p cnt (some b) at_) s = .next t ∧ Answered s t tag St.ok ∧
        t.tm = { s.tm with ports := tset {} s.tm.ports p { s.pq p with
          gatePend := some (gateEntries cnt b), gateArmedAt := some (s.fromWord at_), gateTko := s.fromWord at_ } } ∧
        { t with tm := s.tm, cx := s.cx, host := s.host } = s) ∧
      (0 < cnt → cnt ≤ 64 → (gateEntries cnt b).all gateOk = false → ∃ t,
        exec (.portGateWrite tag p cnt (some b) at_) s = .next t ∧ Refused s t tag St.gateInvalid) ∧
      ((s.pq p).gateArmedAt = some a → s.time.now + 5000 * nsUnit ≤ a → ∃ t,
        exec (.portGateCancel tag p) s = .next t ∧ Answered s t tag St.ok ∧
        t.tm = { s.tm with ports := tset {} s.tm.ports p { s.pq p with gatePend := none, gateArmedAt := none } } ∧
        { t with tm := s.tm, cx := s.cx, host := s.host } = s) ∧
      ((s.pq p).gateArmedAt = none → ∃ t, exec (.portGateCancel tag p) s = .next t ∧
        Refused s t tag St.noPendingGate)) ∧
    (Serves s → s.pwr.state ≠ 0 → ∃ t, exec (.portGateCancel tag p) s = .next t ∧ Refused s t tag St.powerState) ∧
    (∀ e rest, (s.pq p).gateArmedAt = some a → (s.pq p).gatePend = some (e :: rest) → ∃ u : State,
      exec (.gateTakeover p) s = .next u.settle ∧ u.time.now = max s.time.now a ∧
      u.tm.ports = tset {} s.tm.ports p { s.pq p with
        gate := some (e :: rest), gatePend := none, gateArmedAt := none, gateStart := a, gateEntry := 0
        gateBoundary := a + e.2 * nsUnit } ∧ u.cx.evtSeq = seqNext (seqNext s.cx.evtSeq)) ∧
    (∀ g, (s.pq p).gate = some g → ∃ u : State, exec (.gateEntryBoundary p) s = .next u.settle ∧
      u.time.now = max s.time.now (s.pq p).gateBoundary ∧
      u.tm.ports = tset {} s.tm.ports p { s.pq p with
        gateEntry := (gateAt g (s.pq p).gateStart (s.pq p).gateBoundary).1
        gateBoundary := (gateAt g (s.pq p).gateStart (s.pq p).gateBoundary).2 } ∧ TimeOnly s { u with tm := s.tm }) ∧
    (∀ d more, (s.pq p).launch = d :: more → ∃ u : State, exec (.launchDue p) s = .next u.settle ∧ TimeOnly s u ∧
      u.time.now = max s.time.now d.t) ∧
    (RegsCanonical s → s.barUp = true → p < 256 →
      (v.toNat ≤ 1000000000 → ∃ u : State, exec (.shaperRateWrite p k v) s = .next u.settle ∧
        u.regWord (0x200100 + 0x1000 * p + 8 * k) = v ∧ { u with regs := s.regs, bm := s.bm, tm := s.tm } = s) ∧
      (1000000000 < v.toNat → v ≠ 0xFFFFFFFF → ∃ u : State, exec (.shaperRateWrite p k v) s = .next u.settle ∧
        EventsOnly (s.granted 0 2) u ∧ u.cx.evtSeq = seqNext s.cx.evtSeq) ∧
      (∃ u : State, exec (.shaperBurstWrite p k v) s = .next u.settle ∧
        u.regWord (0x200104 + 0x1000 * p + 8 * k) = v &&& 0xFFFFFF ∧ { u with regs := s.regs, bm := s.bm, tm := s.tm } = s) ∧
      (0 < v.toNat / 2 ^ 24 → ∃ t, exec (.stormLimiterWrite p l v) s = .next t ∧
        t.regWord (0x200048 + 0x1000 * p + 4 * l) = v ∧
        t.ports = tset {} s.ports p { s.port p with
          storm := lset (s.port p).storm l
            (v.toNat / 2 ^ 24 * 1000000, s.clk, (lget (0, 0, none) (s.port p).storm l).2.2) } ∧
        { t with regs := s.regs, bm := s.bm, ports := s.ports } = s) ∧
      (v.toNat / 2 ^ 24 = 0 → ∃ t, exec (.stormLimiterWrite p l v) s = .next t ∧ EventsOnly (s.granted 0 2) t ∧
        t.cx.evtSeq = seqNext s.cx.evtSeq) ∧
      (∃ t, exec (.samplerWrite p tx v) s = .next t ∧
        t.regWord (0x2000E4 + 0x1000 * p + 4 * ofBool tx) = v &&& 0x0FFFFFFF ∧
        t.tm.ports = tset {} s.tm.ports p (if tx = true
          then { s.pq p with samplerTx := { (s.pq p).samplerTx with count := v.toNat % 2 ^ 24 - 1 } }
          else { s.pq p with samplerRx := { (s.pq p).samplerRx with count := v.toNat % 2 ^ 24 - 1 } }) ∧
        { t with regs := s.regs, bm := s.bm, tm := s.tm } = s))

/-! ### Classifier, policers and the FID table (chapters 13, 14, 16) -/

/-- O48 (R290, R291, R296, R302, R350): the commands of the rule, comparator, policer and FID tables: what each writes and
returns, that a list with one bad record changes nothing, and that a failed read of host memory changes nothing. -/
def Obligations.ClassifierPolicerAndFidTables : Prop :=
  ∀ (s : State) (tag : CmdTag) (n fid flags out : Nat) (flag : Bool) (b : Bytes), Serves s → s.pwr.state = 0 → 1 ≤ n →
    n ≤ 256 → s.fdb.learn = [] → s.fdb.bad = [] →
    (firstRepeat ((chunks 96 n b).map ruleIndex) = none →
      (∀ r ∈ chunks 96 n b, ruleOk s.cls.ranges s.policerCount r = true) → ∃ t,
      exec (.clsRuleWrite tag n flag (some b)) s = .next t ∧ Answered s t tag St.ok ∧ t.cls.gen = seqNext s.cls.gen ∧
      (∀ r ∈ chunks 96 n b, t.rule (ruleIndex r) = r) ∧ t.cls.ranges = s.cls.ranges ∧
      (∀ i, i ∉ (chunks 96 n b).map ruleIndex → t.rule i = s.rule i) ∧
      { t with cls := s.cls, obs := s.obs, cx := s.cx, host := s.host } = s) ∧
    ((∃ r ∈ chunks 96 n b, ruleOk s.cls.ranges s.policerCount r = false) → ∃ t,
      exec (.clsRuleWrite tag n flag (some b)) s = .next t ∧ Answered s t tag St.clsInvalid ∧ ExchangeOnly s t) ∧
    (tblWf (zeros 96) 0 s.cls.rules = true → (∀ x ∈ s.cls.rules, x.2.length = 96) →
      (∀ i ∈ (chunks 2 n b).map leNat, i < 32768) → ∃ t, exec (.clsRuleDelete tag n (some b)) s = .next t ∧
      Answered s t tag St.ok ∧ t.cls.gen = seqNext s.cls.gen ∧
      (∀ i ∈ (chunks 2 n b).map leNat, ruleValid (t.rule i) = false) ∧
      (∀ i, i ∉ (chunks 2 n b).map leNat → t.rule i = s.rule i) ∧
      { t with cls := s.cls, cx := s.cx, host := s.host } = s) ∧
    ((∀ r ∈ chunks 12 n b, leAt r 0 4 < 256 ∧ rangeOk (leAt r 4 8) = true) → ∃ t,
      exec (.clsRangeWrite tag n (some b)) s = .next t ∧ Answered s t tag St.ok ∧
      t.cls = { s.cls with
        gen := seqNext s.cls.gen
        ranges := (chunks 12 n b).foldl (fun x r => tset 0 x (leAt r 0 4) (leAt r 4 8)) s.cls.ranges } ∧
      { t with cls := s.cls, cx := s.cx, host := s.host } = s) ∧
    (fid + n ≤ 32768 → ∃ t, exec (.clsRuleRead tag fid n out) s = .next t ∧ Answered s t tag St.ok ∧ ExchangeOnly s t ∧
      Delivered s t tag out ((List.range n).flatMap (fun k =>
        s.rule (fid + k) ++ s.cntRecord (ruleCnt (fid + k)) ++ s.cntRecord (ruleCnt (fid + k) + 0x10)))) ∧
    (n = 1 → leAt b 0 4 < s.policerCount → polOk (slice b 4 32) = true → b.length = 36 → ∃ t,
      exec (.polWrite tag n flag (some b)) s = .next t ∧ Answered s t tag St.ok ∧ t.tm.polGen = seqNext s.tm.polGen ∧
      (t.policer (leAt b 0 4)).record = slice b 4 32 ∧
      (flag = true → (t.policer (leAt b 0 4)).c = polCSize (slice b 4 32) ∧
        (t.policer (leAt b 0 4)).e = polESize (slice b 4 32)) ∧
      (t.policer (leAt b 0 4)).c ≤ polCSize (slice b 4 32) ∧ (t.policer (leAt b 0 4)).e ≤ polESize (slice b 4 32) ∧
      (∀ i, i ≠ leAt b 0 4 → t.policer i = s.policer i) ∧
      { t with tm := { s.tm with policers := t.tm.policers, polGen := t.tm.polGen } } = t ∧
      { t with tm := s.tm, cx := s.cx, host := s.host } = s) ∧
    (1 ≤ fid → fid ≤ 4094 → flags < 16 →
      ((chunks 4 n b).any (fun c => leNat c / 512 % 128 != 0 || leNat c / 2 ^ 24 != 0) = false →
        ((s.fdb.fids.filter (fun e => e.1 != fid)).map (fun e => e.2.flood.length)).sum + n ≤ 65536 → ∃ t,
        exec (.fidWrite tag fid flags n (some b)) s = .next t ∧ Answered s t tag St.ok ∧
        t.fdb = { s.fdb with
          fids := tset {} s.fdb.fids fid
            { valid := bitAt flags 0, learn := bitAt flags 1, uuFlood := bitAt flags 2, mcFlood := bitAt flags 3
              flood := (chunks 4 n b).map (fun c => (leNat c % 512, bitsOf (leNat c) 23 16)) } } ∧
        { t with fdb := s.fdb, cx := s.cx, host := s.host } = s) ∧
      ((chunks 4 n b).any (fun c => leNat c / 512 % 128 != 0 || leNat c / 2 ^ 24 != 0) = false →
        65536 < ((s.fdb.fids.filter (fun e => e.1 != fid)).map (fun e => e.2.flood.length)).sum + n → ∃ t,
        exec (.fidWrite tag fid flags n (some b)) s = .next t ∧ Refused s t tag St.floodFull) ∧
      (∃ t, exec (.fidRead tag fid out) s = .next t ∧ Answered s t tag St.ok ∧ ExchangeOnly s t ∧
        Delivered s t tag out (fidBytes fid (s.fidRec fid)))) ∧
    (∃ t, exec (.clsRuleWrite tag n flag none) s = .next t ∧ Refused s t tag St.hostDmaError) ∧
    (∃ t, exec (.clsRuleDelete tag n none) s = .next t ∧ Refused s t tag St.hostDmaError) ∧
    (∃ t, exec (.clsRangeWrite tag n none) s = .next t ∧ Refused s t tag St.hostDmaError) ∧
    (∃ t, exec (.polWrite tag n flag none) s = .next t ∧ Refused s t tag St.hostDmaError) ∧
    (256 < fid → (∃ t, exec (.clsRuleWrite tag fid flag (some b)) s = .next t ∧ Refused s t tag St.badParam) ∧
      (∃ t, exec (.polWrite tag fid flag (some b)) s = .next t ∧ Refused s t tag St.badParam))

/-! ### The forwarding table (chapter 14) -/

/-- O49 (R298, R299, R313, R315, R317, R318, R319, Table 14.1): the commands of the forwarding table: what a search and a
walk return, where a new entry goes, that a replacement, a deletion and a flush advance the epoch by one, and their
refusals. -/
def Obligations.ForwardingTableCommands : Prop :=
  ∀ (s : State) (tag : CmdTag) (mac fid pos n cursor out m p : Nat) (w0 w1 : BitVec 64) (e old : FdbEntry) (f : FdbFilter)
    (of_ : Option Nat) (flag : Bool) (fl : Flush) (rest : List Flush), Serves s → s.pwr.state = 0 →
    s.fdb.learn = [] → s.fdb.bad = [] → s.fdb.waiting = [] → s.advanceBlocked = false → keysRise 0 s.fdb.slots = true →
    (s.find fid mac = some (pos, e) → ∃ t, exec (.fdbSearch tag mac fid out) s = .next t ∧ Answered s t tag St.ok ∧
      ExchangeOnly s t ∧ Delivered s t tag out (entryBytes e)) ∧
    (s.find fid mac = none → (∃ t, exec (.fdbSearch tag mac fid out) s = .next t ∧ Refused s t tag St.notFound) ∧
      (∃ t, exec (.fdbDelete tag mac fid flag) s = .next t ∧ Refused s t tag St.notFound)) ∧
    (1 ≤ n → n ≤ 256 → f.kind ≤ 2 → ∃ t, exec (.fdbNext tag cursor n out f) s = .next t ∧ Answered s t tag St.ok ∧
      ExchangeOnly s t ∧ Delivered s t tag out (((s.fdb.slots.filter (fun x =>
        decide (cursor ≤ x.1) && filterHit f x.2 && !s.doomed x.1)).take n).flatMap (fun x => entryBytes x.2))) ∧
    (256 < n → ∃ t, exec (.fdbNext tag cursor n out f) s = .next t ∧ Refused s t tag St.badParam) ∧
    (e = { entryOf w0.toNat w1.toNat with hit := false, ageMark := false } →
      (s.entryOk e w1.toNat = false → ∃ t, exec (.fdbInsert tag w0 w1 flag false) s = .next t ∧
        Refused s t tag St.fdbInvalid) ∧
      (s.entryOk e w1.toNat = true → e.counter = 0 →
        (s.findAny e.fid e.mac = none → s.freeSlot e.fid e.mac = some pos → ∃ t,
          exec (.fdbInsert tag w0 w1 flag false) s = .next t ∧ Answered s t tag St.ok ∧
          t.fdb = { s.fdb with slots := tput s.fdb.slots pos e } ∧
          { t with fdb := s.fdb, cx := s.cx, host := s.host } = s) ∧
        (s.findAny e.fid e.mac = none → s.freeSlot e.fid e.mac = none → ∃ t,
          exec (.fdbInsert tag w0 w1 flag false) s = .next t ∧ Told t tag St.fdbFull ∧ t.fdb = s.fdb ∧ EventsOnly s t) ∧
        (s.findAny e.fid e.mac = some (pos, old) → s.doomed pos = false → old.counter = 0 →
          (∃ t, exec (.fdbInsert tag w0 w1 false false) s = .next t ∧ Refused s t tag St.exists_) ∧
          (∃ t, exec (.fdbInsert tag w0 w1 true false) s = .next t ∧ Answered s t tag St.ok ∧
            t.fdb = { s.fdb with
              slots := tput s.fdb.slots pos e, epoch := seqNext s.fdb.epoch, waitSince := none
              barriers := s.fdb.barriers ++ [⟨seqNext s.fdb.epoch, some (e.fid, e.mac), none⟩] } ∧
            { t with fdb := s.fdb, cx := s.cx, host := s.host } = s)))) ∧
    (s.find fid mac = some (pos, old) → old.counter = 0 → ∃ t, exec (.fdbDelete tag mac fid false) s = .next t ∧
      Answered s t tag St.ok ∧ t.slot pos = none ∧ (∀ q, q ≠ pos → t.slot q = s.slot q) ∧
      t.fdb.epoch = seqNext s.fdb.epoch ∧ t.fdb.fids = s.fdb.fids ∧
      { t with fdb := s.fdb, cx := s.cx, host := s.host } = s) ∧
    (m ≤ 511 → p ≤ 255 → s.fdb.flushes.length < 4 → m ≠ s.moduleId → ∃ t,
      exec (.fdbFlushByPort tag m p of_ flag false) s = .next t ∧
      (∀ q x, s.slot q = some x → x.kind = 0 → x.dstModule = m → x.dstPort = p → (of_ = none ∨ of_ = some x.fid) →
        (x.static = false ∨ flag = true) → t.doomed q = true) ∧
      t.fdb.slots = s.fdb.slots ∧ t.fdb.flushes.length = s.fdb.flushes.length + 1 ∧ t.fdb.epoch = s.fdb.epoch ∧
      { t with fdb := s.fdb, cx := s.cx } = s) ∧
    (s.fdb.flushes.length = 4 → m ≤ 511 → p ≤ 255 → ∃ t, exec (.fdbFlushByPort tag m p of_ flag false) s = .next t ∧
      Refused s t tag St.busy) ∧
    (s.fdb.flushes = fl :: rest → fl.tag = some tag → fl.notify = false → ∃ t, exec .flushRemovalDone s = .next t ∧
      Answered s t tag St.ok ∧ t.fdb.flushes = rest ∧ (∀ q ∈ fl.doomed, t.slot q = none) ∧
      (∀ q, q ∉ fl.doomed → t.slot q = s.slot q) ∧ t.fdb.epoch = seqNext s.fdb.epoch ∧
      { t with fdb := s.fdb, cx := s.cx, host := s.host } = s)

/-- O50 (R307, R310, R311, R313 to R315): the engine's own work on the forwarding table: a learned and a moved address,
the sweeper's two visits before an entry goes, the 1 ms tick that carries the hardware's changes, and an advance held up
by old frames. -/
def Obligations.LearningAgeingAndEpochs : Prop :=
  ∀ (s : State) (r : LearnReq) (pos a : Nat) (e : FdbEntry) (w : EpochWait), s.pwr.state = 0 → s.fdb.bad = [] →
    s.fdb.flushes = [] → s.flag Reg.FDB_CTL_NOTIFY = false → keysRise 0 s.fdb.slots = true →
    (s.fdb.learn = [r] → s.fdb.barriers = [] →
      (s.findAny r.fid r.mac = none → s.atLimit r.port = false → s.freeSlot r.fid r.mac = some pos → ∃ t,
        exec .learnCommit s = .next t ∧ t.slot pos = some { mac := r.mac, fid := r.fid, valid := true, hit := true
                                                            dstModule := s.moduleId, dstPort := r.port } ∧
        (∀ q, q ≠ pos → t.slot q = s.slot q) ∧ t.fdb.learn = [] ∧ { t with fdb := s.fdb } = s) ∧
      (s.findAny r.fid r.mac = some (pos, e) → e.static = false → e.dstPort ≠ r.port → s.atLimit r.port = false → ∃ t,
        exec .learnCommit s = .next t ∧ t.slot pos = some { e with
          kind := 0, dstModule := s.moduleId, dstPort := r.port, hit := true, ageMark := false } ∧
        t.fdb.hwChanged = true ∧ t.fdb.learn = [] ∧ { t with fdb := s.fdb } = s) ∧
      (s.findAny r.fid r.mac = some (pos, e) → e.static = true → ∃ t, exec .learnCommit s = .next t ∧
        t.fdb = { s.fdb with learn := [] } ∧ { t with fdb := s.fdb } = s)) ∧
    (0 < pos → pos < 1052671 → s.fdb.sweepPos = pos → s.slot pos = some e → e.static = false → e.kind = 0 →
      e.dstModule = s.moduleId → s.fdb.sweepS ≠ 0 →
      (e.hit = true → exec (.sweeperVisit none) s = .next { s with
        fdb := { s.fdb with
          slots := tput s.fdb.slots pos { e with hit := false, ageMark := false }, sweepPos := pos + 1 } }) ∧
      (e.hit = false → e.ageMark = false → exec (.sweeperVisit none) s = .next { s with
        fdb := { s.fdb with slots := tput s.fdb.slots pos { e with ageMark := true }, sweepPos := pos + 1 } }) ∧
      (e.hit = false → e.ageMark = true → e.counter = 0 → ∃ t, exec (.sweeperVisit none) s = .next t ∧
        t.slot pos = none ∧ (∀ q, q ≠ pos → t.slot q = s.slot q) ∧ t.fdb.hwChanged = true ∧ t.fdb.sweepPos = pos + 1 ∧
        { t with fdb := s.fdb } = s)) ∧
    (s.fdb.waiting = [] → s.advanceBlocked = false → ∃ t, exec .epochTick s = .next t ∧
      t.clk = max s.clk s.fdb.tickAt ∧
      t.fdb = { s.fdb with
        hwChanged := false, waitSince := none, tickAt := t.clk + 1000000
        epoch := if s.fdb.hwChanged then seqNext s.fdb.epoch else s.fdb.epoch } ∧
      TimeOnly s { t with fdb := s.fdb }) ∧
    (s.fdb.waiting = [] → ∃ t, exec .changeDrained s = .next t ∧
      t.fdb.notify = s.fdb.notify.filter (fun x => !s.drained x) ∧
      (∀ x ∈ t.fdb.retiring, x ∈ s.fdb.retiring ∧ s.pairNamed x.1 = false) ∧
      t.fdb.epoch = s.fdb.epoch ∧ t.fdb.slots = s.fdb.slots ∧ EventsOnly { s with fdb := t.fdb } t) ∧
    (s.fdb.waitSince = some a → s.fdb.waiting = [w] → w.tag = none → w.notify = false → ∃ t,
      exec .epochStall s = .next t ∧ t.clk = max s.clk (a + 1000000000) ∧ t.fdb.epoch = seqNext s.fdb.epoch ∧
      t.fdb.waiting = [] ∧ t.fdb.waitSince = none ∧ t.fdb.slots = s.fdb.slots ∧
      (s.advanceBlocked = false → t.tm = s.tm))

/-! ### Counters, the log, and module time (chapters 17, 18) -/

/-- O51 (R367, R374, R375): counter snapshots, with and without CLEAR and with their refusals, the log's readout, and the
log's 1 s tick. -/
def Obligations.SnapshotsAndLog : Prop :=
  ∀ (s : State) (tag : CmdTag) (b : Bytes) (n first out : Nat) (clear : Bool) (l : List (Nat × Nat)),
    l = (List.range n).map (fun i => (leAt b (8 * i) 4, leAt b (8 * i + 4) 4)) →
    (Serves s → s.pwr.state ≤ 3 → 1 ≤ n → n ≤ 8 → (∀ r ∈ l, r.1 % 16 = 0) → (l.map Prod.snd).sum ≤ 262144 →
      ((∀ r ∈ l, rangeInRegion r = true) → s.snapsOpen.length < 4 → ∃ t,
        exec (.cntSnapshot tag (some b) n clear out) s = .next t ∧ Answered s t tag St.ok ∧
        Delivered s t tag out
          (l.flatMap (fun r => (List.range r.2).flatMap (fun i => padTo 16 (leBytes 9 (s.cntOf (r.1 + 16 * i)))))) ∧
        (∀ a, t.cntOf a = if clear = true ∧ (∃ r ∈ l, r.1 ≤ a ∧ a < r.1 + 16 * r.2) then 0 else s.cntOf a) ∧
        { t with obs := s.obs, cx := s.cx, host := s.host } = s) ∧
      ((∃ r ∈ l, rangeInRegion r = false) → ∃ t, exec (.cntSnapshot tag (some b) n clear out) s = .next t ∧
        Refused s t tag St.cntRange) ∧
      ((∀ r ∈ l, rangeInRegion r = true) → 4 ≤ s.snapsOpen.length → ∃ t,
        exec (.cntSnapshot tag (some b) n clear out) s = .next t ∧ Refused s t tag St.busy)) ∧
    (Serves s → s.pwr.state ≤ 3 → n = 0 ∨ 8 < n → ∃ t, exec (.cntSnapshot tag (some b) n clear out) s = .next t ∧
      Refused s t tag St.badParam) ∧
    (s.cx.rings.length = 16 →
      (1 ≤ n → n ≤ 4096 → ∃ t, exec (.readLog tag first n out) s = .next t ∧ Answered s t tag St.ok ∧ ExchangeOnly s t ∧
        Delivered s t tag out (((s.retained.filter (fun r => !newer 32 first r.seq)).take n).flatMap EvtRec.entry)) ∧
      (n = 0 ∨ 4096 < n → ∃ t, exec (.readLog tag first n out) s = .next t ∧ Refused s t tag St.badParam)) ∧
    (∃ t, exec .logTick s = .next t ∧ t.clk = max s.clk s.obs.tickAt ∧
      t.obs = { s.obs with tickAt := t.clk + 1000000000 } ∧
      (s.obs.staged = [] → t.nvm = s.nvm) ∧
      (s.obs.staged ≠ [] → s.nvm.jobs.any isLogJob = false →
        t.nvm = { s.nvm with jobs := s.nvm.jobs ++ [.logPage (s.obs.staged.take 7)] }) ∧
      TimeOnly s { t with obs := s.obs, nvm := s.nvm })

/-- O52 (R380, R382, R385 to R388): the offsets that software gives, a confirmed step and a time that is set, each at once
or at its instant, a step that takes effect, and the servo's intervals: nothing measured, an offset beyond the threshold,
and the proportional and integral terms. -/
def Obligations.ModuleTimeCommands : Prop :=
  ∀ (s : State) (tag : CmdTag) (d ps : Int) (sec ns frac : Nat) (at_ : TimeWord) (w : StepWait),
    (Serves s → s.follows = false → s.time.lastStep = none →
      (s.fld Reg.TIM_CTL_SRC = 1 → ∃ t, exec (.timeOffset tag d 0) s = .next t ∧ Answered s t tag St.ok ∧
        t.time = { s.time with offsets := s.time.offsets ++ [d] } ∧
        { t with time := s.time, obs := s.obs, cx := s.cx, host := s.host } = s) ∧
      (s.fld Reg.TIM_CTL_SRC ≠ 1 → ∃ t, exec (.timeOffset tag d 0) s = .next t ∧ Refused s t tag St.wrongRole)) ∧
    (Serves s → s.time.jump = none → ∃ t, exec (.timeConfirm tag s.time.jumpSeq at_) s = .next t ∧
      Refused s t tag St.noPendingJump) ∧
    (Serves s → s.time.jump = some ps → s.time.wait = none →
      (ns ≠ s.time.jumpSeq → ∃ t, exec (.timeConfirm tag ns at_) s = .next t ∧ Refused s t tag St.staleJump) ∧
      (at_ ≠ 0 → s.stepLate at_ = true → ∃ t, exec (.timeConfirm tag s.time.jumpSeq at_) s = .next t ∧
        Refused s t tag St.late) ∧
      (at_ ≠ 0 → s.stepLate at_ = false → s.follows = true → ∃ t,
        exec (.timeConfirm tag s.time.jumpSeq at_) s = .next t ∧
        t.time = { s.time with wait := some ⟨s.fromWord at_, ps, none, 1, some tag⟩ } ∧
        { t with time := s.time, cx := s.cx } = s) ∧
      (s.hasFollowers = false → 0 ≤ (s.time.now : Int) + psToUnits ps → ∃ t,
        exec (.timeConfirm tag s.time.jumpSeq 0) s = .next t ∧
        (t.time.now : Int) = s.time.now + psToUnits ps ∧ t.time.jump = none ∧ t.time.unset = false ∧ t.time.wait = none ∧
        t.time.lastStep = some (t.time.now, psToUnits ps) ∧ Told t tag St.ok)) ∧
    (Serves s → s.follows = false → sec < 2 ^ 48 → frac < 65536 → s.time.wait = none →
      (ns < 1000000000 → s.hasFollowers = false → ∃ t, exec (.timeSet tag sec ns frac 0) s = .next t ∧
        t.time.now = sec * secUnit + ns * nsUnit + frac * 2 ^ 24 ∧ t.time.unset = false ∧ t.time.jump = none ∧
        Told t tag St.ok) ∧
      (ns < 1000000000 → at_ ≠ 0 → s.stepLate at_ = false → ∃ t, exec (.timeSet tag sec ns frac at_) s = .next t ∧
        t.time.wait = some ⟨s.fromWord at_, 0, some (sec * secUnit + ns * nsUnit + frac * 2 ^ 24), 2, some tag⟩ ∧
        t.time.now = s.time.now ∧ { t with time := s.time, cx := s.cx } = s) ∧
      (1000000000 ≤ ns → ∃ t, exec (.timeSet tag sec ns frac at_) s = .next t ∧ Refused s t tag St.badParam)) ∧
    (Serves s → s.follows = true → ∃ t, exec (.timeSet tag sec ns frac at_) s = .next t ∧ Refused s t tag St.wrongRole) ∧
    (s.time.wait = some w → s.cx.rings.length = 16 →
      (∀ x, w.setTo = some x → ∃ t, exec .timeStepApply s = .next t ∧ t.time.now = x ∧ t.time.unset = false ∧
        t.time.jump = none ∧ t.time.wait = none ∧ (∀ c, w.tag = some c → Told t c St.ok)) ∧
      (w.setTo = none → 0 ≤ (s.time.now : Int) + psToUnits w.ps → ∃ t, exec .timeStepApply s = .next t ∧
        t.time.lastStep = some (t.time.now, psToUnits w.ps) ∧ t.time.wait = none ∧ t.time.unset = false)) ∧
    (s.time.slow = false → s.follows = false → s.time.srcUsed = 1 → s.fld Reg.TIM_CTL_SRC = 1 → s.time.unset = false →
      (s.time.offsets = [] → s.time.misses + 1 < s.fld Reg.TIM_LOCK_HOLD_N → ∃ t, exec .servoInterval s = .next t ∧
        t.time.misses = s.time.misses + 1 ∧ t.time.theta = none ∧ t.time.y = s.time.y ∧ t.time.state = s.time.state ∧
        t.clk = max s.clk s.time.intervalAt ∧ t.time.intervalAt = t.clk + s.fld Reg.TIM_SERVO2_INT * 125000) ∧
      (s.time.offsets = [] → s.fld Reg.TIM_LOCK_HOLD_N ≤ s.time.misses + 1 → s.time.state = 2 → ∃ t,
        exec .servoInterval s = .next t ∧ t.time.state = 3 ∧ t.time.y = s.time.y) ∧
      (s.time.offsets = [d] →
        (1000 * s.fld Reg.TIM_JUMP_THR_THR < d.natAbs → ∃ t, exec .servoInterval s = .next t ∧
          t.time.jump = some (-d) ∧ t.time.jumpSeq = (s.time.jumpSeq + 1) % 65536 ∧ t.time.state = 5 ∧
          t.time.y = s.time.y ∧ t.time.theta = some d ∧ t.time.offsets = []) ∧
        (d.natAbs ≤ 1000 * s.fld Reg.TIM_JUMP_THR_THR → ∃ t, exec .servoInterval s = .next t ∧
          t.time.integ = satInt 32 (s.time.integ -
            rsh ((s.fld Reg.TIM_SERVO_KI : Int) * satInt 32 d) (s.fld Reg.TIM_SERVO2_KI_SH)) ∧
          t.time.y = max (-219902325) (min 219902325 (t.time.integ -
            rsh ((s.fld Reg.TIM_SERVO_KP : Int) * satInt 32 d) (s.fld Reg.TIM_SERVO2_KP_SH))) ∧
          t.time.jump = none ∧ t.time.theta = some d ∧ t.time.offsets = [] ∧ t.time.misses = 0)))

/-! ### Ikile (chapter 19) -/

/-- O53 (R401 to R405, R423, R424): the ports of Ikile: exchanges sent and received, a duplicate MODULE_ID, a port that
goes down, a new parent, the view as it is read, and tunnel messages sent, forwarded, delivered and dropped. -/
def Obligations.IkilePortsAndTunnels : Prop :=
  ∀ (s : State) (tag : CmdTag) (n : Fin 8) (r b p : Bytes) (a len dst chan out max_ : Nat) (e : ViewEntry),
    (s.ikl.ports.length = 8 → ∃ t, exec .exchSend s = .next t ∧ t.clk = max s.clk s.ikl.exchAt ∧
      t.ikl.exchAt = t.clk + 125000 ∧
      (∀ k : Fin 8, (s.iklPort k).state = 2 → (t.iklPort k).txSeq = seqNext (s.iklPort k).txSeq ∧
        (t.iklPort k).exTx = some (seqNext (s.iklPort k).txSeq, t.time.now)) ∧
      (∀ k : Fin 8, (s.iklPort k).state ≠ 2 → t.iklPort k = s.iklPort k) ∧
      t.out.length = s.out.length + s.upPorts.length ∧ TimeOnly s { t with ikl := s.ikl, obs := s.obs, out := s.out }) ∧
    (Heard s n r 1 → b = slice r 8 (leAt r 2 2) →
      (leAt b 0x18 2 % 512 ≠ s.moduleId → ∃ t, exec (.exchRx n r) s = .next t ∧ (t.iklPort n).peerValid = true ∧
        (t.iklPort n).peerId = leAt b 0x18 2 % 512 ∧ (t.iklPort n).peerHop = byteAt b 0x1A ∧
        (t.iklPort n).peerTstate = byteAt b 0x1B ∧ (t.iklPort n).exRx = some (leAt r 4 4, s.time.now) ∧
        t.time.now = s.time.now ∧ t.saf = s.saf) ∧
      (leAt b 0x18 2 % 512 = s.moduleId → s.canvas.active.isSome = true → ∃ t, exec (.exchRx n r) s = .next t ∧
        (t.iklPort n).state = 0 ∧ (t.iklPort n).dup = true ∧ t.saf = s.saf)) ∧
    (s.ikl.ports.length = 8 → (s.iklPort n).state = 2 → (s.iklPort n).dup = false →
      (∃ t, exec (.iklPortTimeout n) s = .next t ∧ (t.iklPort n).state = 1 ∧ (t.iklPort n).peerValid = false ∧
        t.clk = max s.clk ((s.iklPort n).lastValid + 1000000) ∧ t.saf = s.saf ∧ t.mode = s.mode) ∧
      (∃ t, exec (.iklHighSymbolErrors n) s = .next t ∧ (t.iklPort n).state = 1 ∧ (t.iklPort n).peerValid = false ∧
        t.clk = s.clk ∧ t.saf = s.saf ∧ t.mode = s.mode)) ∧
    ((s.iklPort n).state ≠ 2 → exec (.iklHighSymbolErrors n) s = .next s) ∧
    ((s.iklPort n).lowerSince = some a → ∃ t, exec (.parentChange n) s = .next t ∧ t.ikl.parent = some n ∧
      t.clk = max s.clk (a + 10000000) ∧ (s.time.slow = false → t.time.state = 1) ∧
      (∀ k : Fin 8, (t.iklPort k).lowerSince = none) ∧
      TimeOnly s { t with ikl := s.ikl }) ∧
    (Serves s → ∃ t, exec (.iklViewRead tag out max_) s = .next t ∧ Answered s t tag St.ok ∧ ExchangeOnly s t ∧
      Delivered s t tag out ((s.ikl.table.take max_).flatMap (fun x => x.2.body))) ∧
    (Serves s → s.ikl.ports.length = 8 → chan < 65536 →
      (1 ≤ len → len ≤ 1024 → dst < 512 → tget? s.ikl.table dst = some e → e.port < 8 → (s.iklPort e.port).state = 2 →
        (s.tunnelsAt e.port).length < 64 → ∃ t, exec (.iklTunnelSend tag (some p) len dst chan) s = .next t ∧
        Answered s t tag St.ok ∧ tget? t.ikl.tunSeq chan = some (seqNext (tget 0 s.ikl.tunSeq chan)) ∧
        (t.iklPort e.port).txSeq = seqNext (s.iklPort e.port).txSeq ∧
        (t.tunnelsAt e.port).length = (s.tunnelsAt e.port).length + 1 ∧
        { t with ikl := s.ikl, obs := s.obs, out := s.out, cx := s.cx, host := s.host } = s) ∧
      (len = 0 ∨ 1024 < len → ∃ t, exec (.iklTunnelSend tag (some p) len dst chan) s = .next t ∧
        Refused s t tag St.badParam) ∧
      (1 ≤ len → len ≤ 1024 → dst < 512 → tget? s.ikl.table dst = some e → 64 ≤ (s.tunnelsAt e.port).length → ∃ t,
        exec (.iklTunnelSend tag (some p) len dst chan) s = .next t ∧ Refused s t tag St.busy)) ∧
    (Heard s n r 4 → b = slice r 8 (leAt r 2 2) → dst = leAt b 2 2 % 1024 → dst ≠ 0x3FF →
      (dst % 512 ≠ s.moduleId → tget? s.ikl.table (dst % 512) = some e → e.port < 8 → e.port ≠ n →
        (s.iklPort e.port).state = 2 → (s.tunnelsAt e.port).length < 64 → ∃ t, exec (.tunnelRx n r) s = .next t ∧
        (t.tunnelsAt e.port).length = (s.tunnelsAt e.port).length + 1 ∧
        { t with ikl := s.ikl, obs := s.obs, out := s.out } = s) ∧
      (dst % 512 = s.moduleId → s.flag Reg.IKL_CTL_TUN_EN = false → ∃ t, exec (.tunnelRx n r) s = .next t ∧
        EventsOnly { s with ikl := t.ikl } t) ∧
      (dst % 512 = s.moduleId → s.flag Reg.IKL_CTL_TUN_EN = true → ∃ u t : State, exec (.tunnelRx n r) s = .next t ∧
        { u with ikl := s.ikl, obs := s.obs } = s ∧ (u.deliver (s.fld Reg.IKL_CTL_TUN_Q) b).2 = t))

/-- O54 (R407 to R409, R413): Comets sent, received, turned away as known, and expired; a stale module asks, is answered
and takes the epoch. -/
def Obligations.CometsAndResynchronisation : Prop :=
  ∀ (s : State) (n : Fin 8) (r b : Bytes) (o : Nat) (e : ViewEntry) (m : ConjMsg),
    (s.pwr.state ≤ 1 → s.canvas.active.isSome = true → ∃ t, exec .cometSend s = .next t ∧
      t.ikl.cometSeq = seqNext s.ikl.cometSeq ∧ t.ikl.cometAt = max s.clk s.ikl.cometAt + 100000 ∧
      (s.systemSize ≤ 1 → s.ikl.ports.length = 8 → ∀ k : Fin 8, (s.iklPort k).state = 2 →
        (t.iklPort k).txSeq = seqNext (s.iklPort k).txSeq)) ∧
    (s.canvas.active = none → exec .cometSend s = .next s) ∧
    (Heard s n r 2 → b = slice r 8 (leAt r 2 2) → 1 < s.systemSize → o = leAt b 0 2 % 512 →
      (o ≠ s.moduleId → tget? s.ikl.table o = none → ∃ t, exec (.cometRx n r) s = .next t ∧
        tget? t.ikl.table o = some ⟨b, n, s.clk⟩ ∧ (∀ k, k ≠ o → tget? t.ikl.table k = tget? s.ikl.table k)) ∧
      (tget? s.ikl.table o = some e → newer 32 (leAt b 4 4) (leAt e.body 4 4) = false → ∃ t,
        exec (.cometRx n r) s = .next t ∧ t.ikl.table = s.ikl.table ∧ t.ikl.leader = s.ikl.leader ∧
        { t with ikl := s.ikl, obs := s.obs } = s)) ∧
    (keysRise 0 s.ikl.table = true → tget? s.ikl.table o = some e → ∃ t, exec (.cometExpire o) s = .next t ∧
      tget? t.ikl.table o = none ∧ (∀ k, k ≠ o → tget? t.ikl.table k = tget? s.ikl.table k) ∧
      t.clk = max s.clk (e.at_ + s.cometTimeoutUs * 1000)) ∧
    (s.ikl.stale = false → exec .syncReqSend s = .next s) ∧
    (s.ikl.stale = true → ∃ t, exec .syncReqSend s = .next t ∧ t.clk = max s.clk s.ikl.syncAt ∧
      t.ikl.syncAt = t.clk + 10000000 ∧ t.ikl.syncId = (s.ikl.syncId + 1) % 65536 ∧
      (∀ k, s.syncSource = some k → ∃ q : ConjMsg, q.kind = 5 ∧ q.origin = s.moduleId ∧ q.target = k ∧
        q.epoch = s.ikl.epoch ∧ t.ikl.repeats = s.ikl.repeats ++ [(t.clk + 20000, 8, q.bytes)]) ∧
      TimeOnly s { t with ikl := s.ikl, obs := s.obs, out := s.out }) ∧
    (HeardConj s n r b m → m.kind = 5 → m.target = s.moduleId → ∃ t, exec (.syncReq n r) s = .next t ∧
      (∃ q : ConjMsg, q.kind = 6 ∧ q.origin = s.moduleId ∧ q.target = m.origin ∧ q.epoch = s.ikl.epoch ∧
        (q.orbit, q.digest, q.t) = s.orbitPicture ∧
        t.ikl.repeats = s.ikl.repeats ++ [(s.clk + 20000, n.val, b), (s.clk + 20000, 8, q.bytes)]) ∧
      { t with ikl := s.ikl, obs := s.obs, out := s.out } = s) ∧
    (HeardConj s n r b m → m.kind = 6 → m.target = s.moduleId → s.ikl.stale = true → ∃ t,
      exec (.syncReply n r) s = .next t ∧ t.ikl.epoch = m.epoch ∧
      (s.systemSize ≤ 1 → t.ikl.stale = false) ∧
      (s.orbitPicture = (m.orbit, m.digest, m.t) → t.ikl.outOfOrbit = s.ikl.outOfOrbit) ∧
      (s.orbitPicture ≠ (m.orbit, m.digest, m.t) → t.ikl.outOfOrbit = true))

/-- O55 (R416 to R422, Tables 19.3 to 19.6): a conjunction from its proposal to its end: what a leader proposes and when
it is refused, what a member arms and answers, when the leader commits or aborts, and what a COMMIT, an ABORT, a repeat,
the answer deadline and a member's own abort leave. -/
def Obligations.Conjunctions : Prop :=
  ∀ (s : State) (tag : CmdTag) (n : Fin 8) (r b body : Bytes) (m : ConjMsg) (ob : OrbitBank) (p p1 : Proposal) (h : Held)
    (a ex : Nat) (rest : List (Nat × Nat × Bytes)),
    (Serves s → 1 < s.systemSize → s.isLeader = true → s.ikl.stale = false → s.quorum ≤ s.eligibleCount →
      (s.ikl.prop = none → s.ikl.seenT ≤ s.time.now →
        (s.orb.pendBank = none → ∃ t, exec (.conjPropose tag a 0) s = .next t ∧ Refused s t tag St.noPendingOrbit) ∧
        (s.orb.pendBank = some ob → ob.id = a → s.orb.active = none → ∃ t, exec (.conjPropose tag a 0) s = .next t ∧
          (∃ q : ConjMsg, q.kind = 1 ∧ q.origin = s.moduleId ∧ q.orbit = a ∧ q.digest = ob.digest ∧ q.id = s.nextConj ∧
            q.epoch = seqNext s.ikl.epoch ∧ (s.clk + 20000, 8, q.bytes) ∈ t.ikl.repeats ∧
            s.time.now + 2000000 * nsUnit ≤ t.ikl.seenT) ∧
          (s.answers = false → ∃ q, t.ikl.prop = some q ∧ q.tag = tag ∧ q.id = s.nextConj ∧ q.orbit = a ∧
            q.prepared = [] ∧ q.voters = s.counted s.voter ViewEntry.voter))) ∧
      (s.ikl.prop = some p → ∃ t, exec (.conjPropose tag a 0) s = .next t ∧ Refused s t tag St.busy) ∧
      (s.ikl.prop = none → ∃ t, exec (.conjAbort tag) s = .next t ∧ Refused s t tag St.late) ∧
      (s.ikl.prop = some p → ∃ t, exec (.conjAbort tag) s = .next t ∧ t.ikl.prop = none ∧ t.ikl.last = 2 ∧
        t.ikl.reason = 4 ∧ t.ikl.by_ = s.moduleId ∧ Told t tag St.ok ∧
        (∃ q : ConjMsg, q.kind = 4 ∧ q.reason = 4 ∧ q.id = p.id ∧ q.origin = s.moduleId ∧
          (s.clk + 20000, 8, q.bytes) ∈ t.ikl.repeats))) ∧
    (Serves s → s.isLeader = false → (∃ t, exec (.conjPropose tag a 0) s = .next t ∧ Refused s t tag St.wrongRole) ∧
      (∃ t, exec (.conjAbort tag) s = .next t ∧ Refused s t tag St.wrongRole)) ∧
    (HeardConj s n r b m → m.kind = 1 → s.ikl.prop = none → s.ikl.held = none → s.answers = true →
      (s.answerCode m = 0 → ∃ t, exec (.propose n r) s = .next t ∧
        t.ikl.held = some ⟨m.id, m.orbit, s.fromWord (BitVec.ofNat 64 m.t), m.epoch, m.leader, false⟩ ∧
        t.orb.armed = some (s.fromWord (BitVec.ofNat 64 m.t)) ∧ t.orb.conjHeld = true ∧ t.ikl.reason = 0 ∧
        (∃ q : ConjMsg, q.kind = 2 ∧ q.reason = 0 ∧ q.id = m.id ∧ q.origin = s.moduleId ∧
          (s.clk + 20000, 8, q.bytes) ∈ t.ikl.repeats)) ∧
      (s.answerCode m ≠ 0 → ∃ t, exec (.propose n r) s = .next t ∧ t.ikl.held = none ∧ t.orb = s.orb ∧
        t.ikl.reason = s.answerCode m ∧ (∃ q : ConjMsg, q.kind = 2 ∧ q.reason = s.answerCode m ∧ q.id = m.id ∧
          q.origin = s.moduleId ∧ (s.clk + 20000, 8, q.bytes) ∈ t.ikl.repeats))) ∧
    (HeardConj s n r b m → m.kind = 2 → s.ikl.prop = some p → m.id = p.id → m.leader = s.moduleId →
      s.cx.rings.length = 16 →
      (m.reason ≠ 0 → p.voters.contains m.origin = true → ∃ t, exec (.answer n r) s = .next t ∧ t.ikl.prop = none ∧
        t.ikl.last = 2 ∧ t.ikl.reason = 1 ∧ t.ikl.by_ = m.origin ∧ Told t p.tag St.aborted) ∧
      (m.reason = 0 → p1 = { p with prepared := p.prepared.filter (· != m.origin) ++ [m.origin] } →
        (s.canCommit p1 = false → ∃ t, exec (.answer n r) s = .next t ∧ t.ikl.prop = some p1 ∧
          t.ikl.epoch = s.ikl.epoch ∧ t.orb = s.orb) ∧
        (s.canCommit p1 = true → s.ikl.held = none → ∃ t, exec (.answer n r) s = .next t ∧ t.ikl.prop = none ∧
          Told t p.tag St.ok) ∧
        (s.canCommit p1 = true → s.ikl.held = some h → h.id = p.id → h.leader = s.moduleId → h.committed = false → ∃ t,
          exec (.answer n r) s = .next t ∧ t.ikl.prop = none ∧ t.ikl.epoch = p.epoch ∧ t.ikl.last = 1))) ∧
    (HeardConj s n r b m → m.kind = 3 → s.ikl.prop = none →
      (s.ikl.held = some h → h.id = m.id → h.leader = m.leader → h.committed = false → ∃ t,
        exec (.commit n r) s = .next t ∧ t.ikl.epoch = m.epoch ∧ t.ikl.last = 1 ∧ t.ikl.reason = 0) ∧
      (s.ikl.held = none → ∃ t, exec (.commit n r) s = .next t ∧ t.ikl.epoch = s.ikl.epoch ∧ t.ikl.last = s.ikl.last ∧
        t.orb = s.orb)) ∧
    (HeardConj s n r b m → m.kind = 4 → s.ikl.refuser = none → s.ikl.held = some h → h.id = m.id → h.leader = m.leader →
      (h.committed = false → ∃ t, exec (.abort n r) s = .next t ∧ t.ikl.held = none ∧ t.orb.armed = none ∧
        t.orb.conjHeld = false ∧ t.ikl.last = 2 ∧ t.ikl.reason = m.reason ∧ t.ikl.by_ = m.origin) ∧
      (h.committed = true → ∃ t, exec (.abort n r) s = .next t ∧ t.ikl.held = some h ∧ t.orb = s.orb)) ∧
    (s.ikl.repeats = (a, ex, body) :: rest → s.ikl.ports.length = 8 → ∃ t, exec .conjRepeatSend s = .next t ∧
      t.clk = max s.clk a ∧ t.ikl.repeats = rest ∧
      (∀ k : Fin 8, (t.iklPort k).txSeq =
        if (s.iklPort k).state = 2 ∧ k.val ≠ ex then seqNext (s.iklPort k).txSeq else (s.iklPort k).txSeq) ∧
      TimeOnly s { t with ikl := s.ikl, obs := s.obs, out := s.out }) ∧
    (s.ikl.prop = some p → s.cx.rings.length = 16 → ∃ t, exec .conjDeadline s = .next t ∧ t.ikl.prop = none ∧
      t.ikl.last = 2 ∧ t.ikl.epoch = s.ikl.epoch ∧ Told t p.tag St.aborted ∧
      (∀ v, p.voters.find? (fun k => !p.prepared.contains k) = some v → t.ikl.reason = 2 ∧ t.ikl.by_ = v) ∧
      ((∀ v ∈ p.voters, p.prepared.contains v = true) → t.ikl.reason = 3 ∧ t.ikl.by_ = s.moduleId)) ∧
    (s.ikl.held = some h →
      (h.committed = false → ∃ t, exec .conjLocalAbort s = .next t ∧ t.ikl.held = none ∧ t.ikl.last = 3 ∧
        t.orb.armed = none ∧ t.orb.conjHeld = false ∧ t.ikl.epoch = s.ikl.epoch) ∧
      (h.committed = true → exec .conjLocalAbort s = .next s))

/-! ### The command exchange and the frame queues (chapter 20) -/

/-- O56 (R429, R433, R434, R437, R439, R440, R443, R445 to R449): the exchange's own commands, the doorbells of the rings
and what they bring about, the enable, disable and resume of a ring, coalescing and progress, and the descriptors of the
frame queues. -/
def Obligations.RingsAndFrameQueues : Prop :=
  ∀ (s : State) (tag : CmdTag) (r : Fin 16) (q : Fin 8) (v : Word) (e : CmdEntry) (raw frame : Bytes) (c : Completion)
    (ds rest : List Descriptor) (d : Descriptor) (out src n : Nat) (x : InProgress) (m : Vector64),
    RegsCanonical s → s.cx.rings.length = 16 → s.cx.fqTx.length = 8 → s.cx.fqRx.length = 8 →
    (∃ t, exec (.cxNop tag) s = .next t ∧ Answered s t tag (if s.started then St.ok else St.notStarted) ∧ ExchangeOnly s t) ∧
    (∃ t, exec (.cxStateRead tag out) s = .next t ∧ Answered s t tag St.ok ∧ ExchangeOnly s t ∧
      Delivered s t tag out s.cxState) ∧
    (s.barUp = true →
      (4096 < seqDiff v.toNat (s.ring r).cons → ∃ t, exec (.sqDoorbell r v [e]) s = .next t ∧ t.ring r = s.ring r ∧
        EventsOnly (s.granted 0 2) t) ∧
      (seqDiff v.toNat (s.ring r).cons ≤ 4096 → (s.ring r).error = false → s.flag (Reg.CX_RING_CTL_EN r) = false →
        exec (.sqDoorbell r v [e]) s = .next
          ((s.granted 0 2).setRing r { s.ring r with sqDb := v.toNat, fetched := [e] })) ∧
      (seqDiff v.toNat (s.ring r).cons ≤ 4096 → v.toNat ≠ (s.ring r).cons → s.ringConsumes r = true → e.raw = some raw →
        (leAt raw 0 4 = seqNext (s.ring r).cons → leAt raw 4 2 = 0 → leAt raw 6 2 = 0 →
          paramsOk [] (slice raw 0x18 40) = true → tag = ⟨r, leAt raw 0 4, 0, leAt raw 0x10 8, e.writesOk⟩ →
          leAt raw 8 8 = 0 → ∃ t, exec (.sqDoorbell r v [e]) s = .next t ∧ (t.ring r).cons = seqNext (s.ring r).cons ∧
          (t.ring r).sqDb = v.toNat ∧ (t.ring r).fetched = [] ∧
          Answered s t tag (if s.started then St.ok else St.notStarted) ∧ ExchangeOnly (s.granted 0 2) t) ∧
        (leAt raw 0 4 ≠ seqNext (s.ring r).cons → ∃ t, exec (.sqDoorbell r v [e]) s = .next t ∧
          (t.ring r).error = true ∧ (t.ring r).cons = (s.ring r).cons ∧ (t.ring r).devSeq = (s.ring r).devSeq ∧
          EventsOnly (s.granted 0 2) t)) ∧
      ((s.ring r).fetched = [] → (s.ring r).held = [] → exec (.cqDoorbell r v) s = .next
        ((s.granted 0 2).setRing r { s.ring r with cqDb := v.toNat })) ∧
      ((s.ring r).fetched = [] → (s.ring r).held = [c] →
        (s.setRing r { s.ring r with cqDb := v.toNat }).ringTakes r c.devSeq = true → ∃ t,
        exec (.cqDoorbell r v) s = .next t ∧ (t.ring r).held = [] ∧ (t.ring r).cqDb = v.toNat ∧
        t.host = putBytes s.host (s.fld (Reg.CX_RING_CQ_BASE_LO_BASE r) + 2 ^ 32 * s.fld (Reg.CX_RING_CQ_BASE_HI_BASE r)
          + 32 * (c.devSeq % 4096)) c.entry) ∧
      (s.flag (Reg.CX_RING_CTL_EN r) = false → (s.ring r).fetched = [] → (s.ring r).held = [] → ∃ t,
        exec (.ringEnable r) s = .next t ∧ t.flag (Reg.CX_RING_CTL_EN r) = true ∧
        t.ring r = { s.ring r with error := false } ∧ { t with regs := s.regs, bm := s.bm, cx := s.cx } = s) ∧
      (∃ t, exec (.ringDisable r) s = .next t ∧ t.flag (Reg.CX_RING_CTL_EN r) = false ∧
        { t with regs := s.regs, bm := s.bm } = s) ∧
      ((s.ring r).error = false → exec (.ringResume r [e]) s = .next (s.granted 0 2)) ∧
      ((s.ring r).error = true → s.flag (Reg.CX_RING_CTL_EN r) = false → exec (.ringResume r [e]) s = .next
        ((s.granted 0 2).setRing r { s.ring r with error := false, fetched := [e] })) ∧
      exec (.evtDoorbell v) s = .next { s.granted 0 2 with cx := { s.cx with evtDb := v.toNat } } ∧
      (seqDiff v.toNat (s.fqTxOf q).cons ≤ 1024 → exec (.fqTxDoorbell q v ds) s = .next ((s.granted 0 2).setFqTx q
        { s.fqTxOf q with db := v.toNat, descs := ds.take (seqDiff v.toNat (s.fqTxOf q).cons) })) ∧
      (seqDiff v.toNat (s.fqRxOf q).cons ≤ 1024 → exec (.fqRxDoorbell q v ds) s = .next ((s.granted 0 2).setFqRx q
        { s.fqRxOf q with db := v.toNat, descs := ds.take (seqDiff v.toNat (s.fqRxOf q).cons) })) ∧
      (1024 < seqDiff v.toNat (s.fqTxOf q).cons → ∃ t, exec (.fqTxDoorbell q v ds) s = .next t ∧
        t.cx.fqTx = s.cx.fqTx ∧ EventsOnly (s.granted 0 2) t) ∧
      (1024 < seqDiff v.toNat (s.fqRxOf q).cons → ∃ t, exec (.fqRxDoorbell q v ds) s = .next t ∧
        t.cx.fqRx = s.cx.fqRx ∧ EventsOnly (s.granted 0 2) t)) ∧
    (s.barUp = false → exec (.sqDoorbell r v [e]) s = .next s ∧ exec (.ringEnable r) s = .next s ∧
      exec (.evtDoorbell v) s = .next s) ∧
    ((tget {} s.cx.coal src).count = 0 → exec (.coalesceTimeout src) s = .next s) ∧
    (tblWf {} 0 s.cx.coal = true → (tget {} s.cx.coal src).count ≠ 0 → s.cx.msix.length = 64 → (s.coalOf src).2 < 64 →
      lget {} s.cx.msix (s.coalOf src).2 = m → ∃ t, exec (.coalesceTimeout src) s = .next t ∧
      t.clk = max s.clk ((tget {} s.cx.coal src).first + s.coalNs src) ∧ (tget {} t.cx.coal src).count = 0 ∧
      lget {} t.cx.msix (s.coalOf src).2 =
        (if m.masked then { m with pending := true } else { m with raised := m.raised + 1 }) ∧
      TimeOnly s { t with cx := s.cx }) ∧
    ((s.ring r).running = [x] → x.tag.ringSeq = n → ∃ t, exec (.cxProgress r n) s = .next t ∧
      t.clk = max s.clk (x.toldAt + 1000000000) ∧ t.cx.evtSeq = seqNext (seqNext s.cx.evtSeq) ∧
      (t.ring r).running = [{ x with toldAt := t.clk }] ∧ (t.ring r).devSeq = (s.ring r).devSeq ∧ t.mode = s.mode) ∧
    ((s.ring r).running = [] → exec (.cxProgress r n) s = .next s) ∧
    (s.engineOn = false → exec (.txDescriptor q (some frame)) s = .next s) ∧
    (s.engineOn = true → s.dmaOk = true → s.flag (Reg.CX_FQ_CTL_TX_EN q) = true → s.cx.txHeld = [] →
      (s.fqTxOf q).error = false → (s.fqTxOf q).descs = d :: rest → d.raw = some raw →
      (leAt raw 0x1C 4 ≠ seqNext (s.fqTxOf q).cons → ∃ t, exec (.txDescriptor q (some frame)) s = .next t ∧
        (t.fqTxOf q).error = true ∧ (t.fqTxOf q).cons = (s.fqTxOf q).cons ∧ EventsOnly s t) ∧
      (leAt raw 0x1C 4 = seqNext (s.fqTxOf q).cons → leAt raw 0 4 = seqNext (s.fqTxOf q).cons →
        (s.badTx raw = true → ∃ t, exec (.txDescriptor q (some frame)) s = .next t ∧
          (t.fqTxOf q).cons = seqNext (s.fqTxOf q).cons ∧ (t.fqTxOf q).descs = rest ∧ t.tm = s.tm ∧ ExchangeOnly s t) ∧
        (s.badTx raw = false → s.portOpen (byteAt raw 6) = true → bitAt (byteAt raw 7) 5 = false →
          (s.pq (byteAt raw 6)).launch = [] → ∃ u : State, exec (.txDescriptor q (some frame)) s = .next u.settle ∧
          (u.fqTxOf q).cons = seqNext (s.fqTxOf q).cons ∧ (u.fqTxOf q).descs = rest ∧
          (u.pq (byteAt raw 6)).launch = [⟨s.time.now, false, byteAt raw 7 % 8,
            withFcs (padTo (leAt raw 4 2 - 4) frame), launchRef q d.addr raw⟩] ∧
          { u with tm := s.tm, cx := s.cx } = s)))

/-- O57 (R66, R45): until the start is done every command but the boot commands is answered NOT_STARTED, and outside L0
every table command is answered POWER_STATE; in both cases nothing but the exchange moves. -/
def Obligations.CommandsNotServed : Prop :=
  ∀ (s : State) (i : Instr) (tag : CmdTag) (op : Nat), commandOf i = some (tag, op) → s.cx.rings.length = 16 →
    (s.started = false → bootCommand op = false → ∃ t, exec i s = .next t ∧ Refused s t tag St.notStarted) ∧
    (Serves s → s.pwr.state ≠ 0 → needsL0 i = true → ∃ t, exec i s = .next t ∧ Refused s t tag St.powerState)

/-! ### The bus matrix and the control units (chapters 21, 22) -/

/-- O58 (R452, R454, R457, R460 to R463): a bus transaction served, turned away for its address or its path, and one that
waits for a locked target; a lock broken after 10 µs; a master put into reset, and drained. -/
def Obligations.BusMatrix : Prop :=
  ∀ (s : State) (m : Fin 8) (tgt : Fin 12) (id a core mm code : Nat) (w : Bool) (v : BitVec 128)
    (bs : List (BitVec 16 × BitVec 128)) (req : BusReq), s.cx.rings.length = 16 → s.bm.waiting = [] →
    s.bm.masters.length = 8 → s.bm.targets.length = 12 →
    (4 ≤ s.pwr.state → exec (.busTransaction req) s = .next s) ∧
    (s.pwr.state < 4 → s.masterReady m = true → m = 2 → s.barUp = false →
      exec (.busTransaction ⟨m, id, a, w, bs, false⟩) s = .next s) ∧
    (s.pwr.state < 4 → s.masterReady m = true → (m = 2 → s.barUp = true) →
      (RegsCanonical s → tget 0 s.locks 0x70 = 0 → (s.bmTarget 0).lockedBy = none → ∃ t,
        exec (.busTransaction ⟨m, id, 0x70, true, [(0x000F, v)], false⟩) s = .next t ∧
        t.out = .bus m id 0 [] :: s.out ∧ t.regWord 0x70 = BitVec.ofNat 32 v.toNat ∧ (t.bmTarget 0).owner = m ∧
        { t with regs := s.regs, bm := s.bm, out := s.out } = s) ∧
      (accessCode m a = code → code ≠ 0 → ∃ t, exec (.busTransaction ⟨m, id, a, w, bs, false⟩) s = .next t ∧
        t.out = .bus m id code (if w then [] else bs.map (fun _ => 0)) :: s.out ∧ t.bm.errValid = true ∧
        t.bm.errCode = code ∧ t.bm.errMaster = m ∧ t.bm.errAddr = a ∧ t.bm.errWrite = w ∧
        t.bm.errTarget = (busTarget a).getD 0xF ∧ t.eng = s.eng ∧ t.pwr = s.pwr) ∧
      (busTarget a = some tgt.val → accessCode m a = 0 → (s.bmTarget tgt).lockedBy = some (mm, core) → mm ≠ m →
        exec (.busTransaction ⟨m, id, a, w, bs, false⟩) s = .next
          { s with bm := { s.bm with waiting := [(⟨m, id, a, w, bs, false⟩, s.clk)] } })) ∧
    ((s.bmTarget tgt).lockedBy = some (mm, core) → ∃ t, exec (.lockTimeout tgt) s = .next t ∧
      t.clk = max s.clk ((s.bmTarget tgt).lockAt + 10000) ∧ (t.bmTarget tgt).lockedBy = none ∧
      t.bm.broken = s.bm.broken ++ [(mm, core, tgt.val)] ∧ t.cx.evtSeq = seqNext s.cx.evtSeq) ∧
    ((s.bmTarget tgt).lockedBy = none → exec (.lockTimeout tgt) s = .next s) ∧
    ((s.bmMaster m).inReset = false → s.pwr.state < 4 → ∃ t, exec (.busMasterReset m none) s = .next t ∧
      (t.bmMaster m).inReset = true ∧ (t.bmMaster m).drained = false ∧
      (∀ k : Fin 12, ∀ n, (t.bmTarget k).lockedBy ≠ some (m.val, n)) ∧ (∀ n, n ≠ m.val → t.bmMaster n = s.bmMaster n) ∧
      (m = 0 → t.dac.claim.a = none ∧ t.adc.claim.a = none) ∧ (m = 1 → t.dac.claim.b = none ∧ t.adc.claim.b = none) ∧
      (2 ≤ m.val → t.eng = s.eng ∧ t.dac = s.dac) ∧ t.saf = s.saf) ∧
    ((s.bmMaster m).drained = false → ∃ t, exec (.busDrained m) s = .next t ∧
      t.bmMaster m = { s.bmMaster m with drained := true } ∧ t.cx.evtSeq = seqNext s.cx.evtSeq ∧
      EventsOnly { s with bm := t.bm } t) ∧
    ((s.bmMaster m).drained = true → exec (.busDrained m) s = .next s)

/-- O59 (R470 to R472, R474, R476, R477): the heartbeat monitor, a failover, a planned switch-over and its refusals, the
claim of the unit that starts, and the return of a unit to standby. -/
def Obligations.ControlUnits : Prop :=
  ∀ (s : State) (tag : CmdTag) (u o k a : Nat) (tog : Bool), s.cx.rings.length = 16 → s.red.activeUnit ≤ 1 →
    o = 1 - s.red.activeUnit → s.bm.masters.length = 8 →
    (s.watches = false → exec (.heartbeatCheck tog) s = .next s) ∧
    (s.watches = true → s.red.ckptOverdue = none → s.red.lineDown = false → s.red.ckptDown = false → ∃ t,
      exec (.heartbeatCheck true) s = .next t ∧ t.clk = max s.clk (s.loops.periodAt + (s.ptime / 8000 + 1) * 8000) ∧
      t.red = { s.red with lineMiss := 0, ckptMiss := 0 } ∧ TimeOnly s { t with red := s.red }) ∧
    (s.watches = true → s.red.ckptOverdue = none → s.red.lineDown = false → s.red.ckptDown = false → s.red.lineMiss = 2 →
      ∃ t, exec (.heartbeatCheck false) s = .next t ∧ t.red.lineMiss = 3 ∧ t.red.ckptMiss = 0 ∧ t.red.lineDown = true ∧
      t.red.lineFault = true ∧ t.red.switching = none ∧ t.red.activeUnit = s.red.activeUnit ∧ t.noStandby = s.noStandby) ∧
    (s.watches = true → s.red.lineMiss = 2 → s.red.ckptMiss = 2 → s.red.ckptOverdue = some a → a ≤ s.clk →
      s.loops.periodAt ≤ s.clk → s.red.restore = none → ∃ t, exec (.heartbeatCheck false) s = .next t ∧
      (t.unit s.red.activeUnit).state = .failed ∧ (t.unit s.red.activeUnit).cause = 1 ∧
      (s.flag Reg.RED_CTL_AUTO_FAILOVER = true → (s.unit o).state = .standby →
        (t.unit o).state = .starting ∧ t.red.switching = some (.failover t.clk) ∧ t.noStandby = s.noStandby) ∧
      (s.flag Reg.RED_CTL_AUTO_FAILOVER = false ∨ (s.unit o).state ≠ .standby →
        t.noStandby = true ∧ t.red.switching = none)) ∧
    (Serves s → s.pwr.state ≤ 1 → s.red.restore = none →
      (s.red.switching = none → (s.unit o).state = .standby → (s.unit s.red.activeUnit).state = .active → ∃ t,
        exec (.cuSwitch tag) s = .next t ∧ t.red.switching = some (.planned tag false false) ∧
        (t.unit o).state = .starting ∧ t.unit s.red.activeUnit = s.unit s.red.activeUnit ∧ (t.bmMaster o).inReset = false ∧
        { t with red := s.red, bm := s.bm, cx := s.cx } = s) ∧
      (s.red.switching = none → (s.unit o).state ≠ .standby → ∃ t, exec (.cuSwitch tag) s = .next t ∧
        Refused s t tag St.wrongRole) ∧
      (s.red.switching ≠ none → ∃ t, exec (.cuSwitch tag) s = .next t ∧ Refused s t tag St.busy)) ∧
    (Serves s → 1 < s.pwr.state → ∃ t, exec (.cuSwitch tag) s = .next t ∧ Refused s t tag St.powerState) ∧
    (Serves s → s.pwr.state = 0 → u ≤ 1 → s.red.switching = none → s.red.restore = none →
      ((s.unit u).state = .failed → ∃ t, exec (.cuRestore tag u) s = .next t ∧ (t.unit u).state = .testing ∧
        t.red.restore = some (u, some tag) ∧ { t with red := s.red, cx := s.cx } = s) ∧
      ((s.unit u).state = .standby → ∃ t, exec (.cuRestore tag u) s = .next t ∧ Answered s t tag St.ok ∧
        ExchangeOnly s t) ∧
      ((s.unit u).state = .active → ∃ t, exec (.cuRestore tag u) s = .next t ∧ Refused s t tag St.wrongRole)) ∧
    (Serves s → 1 < u → ∃ t, exec (.cuRestore tag u) s = .next t ∧ Refused s t tag St.badParam) ∧
    (s.red.restore = none → exec (.cuRestored none) s = .next s) ∧
    (s.red.restore = some (u, some tag) → u ≤ 1 →
      (∃ t, exec (.cuRestored none) s = .next t ∧ t.red.restore = none ∧ (t.unit u).state = .standby ∧
        (t.unit u).failed = false ∧ (t.unit u).loaded = true ∧ t.programOf u = s.section 8 ∧ Answered s t tag St.ok) ∧
      (∃ t, exec (.cuRestored (some k)) s = .next t ∧ t.red.restore = none ∧ (t.unit u).state = .failed ∧
        (t.unit u).cause = 4 ∧ (t.unit u).step = k ∧ (t.bmMaster u).inReset = true ∧ Answered s t tag St.aborted)) ∧
    (s.red.switching = none → exec (.startingUnitClaim none) s = .next s) ∧
    (s.red.switching = some (.failover a) → s.red.claimed = false →
      (∃ t, exec (.startingUnitClaim none) s = .next t ∧ t.clk = max s.clk (a + 100000) ∧ t.red.claimed = true ∧
        t.ret.lastClaim = (s.ret.lastClaim + 1) % 65536 ∧ t.red.activeUnit = s.red.activeUnit) ∧
      (∃ t, exec (.startingUnitClaim (some k)) s = .next t ∧ (t.unit o).state = .failed ∧ (t.unit o).cause = 3 ∧
        (t.unit o).step = k ∧ t.noStandby = true ∧ t.red.switching = none ∧ t.clk = max s.clk (a + 100000))) ∧
    (s.red.switching = some (.planned tag false true) → s.red.claimed = false → ∃ t,
      exec (.startingUnitClaim none) s = .next t ∧ t.clk = max s.clk (s.loops.periodAt + 40000) ∧ t.red.claimed = true ∧
      t.ret.lastClaim = (s.ret.lastClaim + 1) % 65536 ∧ t.red.activeUnit = s.red.activeUnit)

/-! ### Temperature and the flash (chapter 23) -/

/-- O60 (R482, R483, R488, R489, R493, R494, R496, R497): a reading of the temperature sensors, a shut-down's record and
its end in L5, the records as they are read, and a flash program that ends well, fails once, and fails twice. -/
def Obligations.ThermalAndFlash : Prop :=
  ∀ (s : State) (tag : CmdTag) (a n out waited : Nat) (d : Shutdown) (recs : List EvtRec) (j : FlashJob)
    (rest : List FlashJob),
    (s.readingsRun = false → exec .thermalReading s = .next s) ∧
    (s.readingsRun = true → s.readingAt = some a → tblWf {} 0 s.thm.sensors = true → ∃ t,
      exec .thermalReading s = .next t ∧ t.thm.readAt = max s.clk a ∧
      (∀ k < 96, (t.sensor k).valid = ((tget {} s.adc.hk k).valid &&
          decide (-4000 ≤ (tget {} s.adc.hk k).value ∧ (tget {} s.adc.hk k).value ≤ 15000)) ∧
        ((t.sensor k).valid = true → (t.sensor k).value = (tget {} s.adc.hk k).value) ∧
        ((t.sensor k).valid = false → (t.sensor k).value = (s.sensor k).value))) ∧
    (s.thm.shutdown = some d → d.recorded = false → s.nvm.jobs = [] → ∃ t, exec (.shutdownRecordWrite waited) s = .next t ∧
      t.clk = s.clk + 50000 ∧ t.thm.shutdown = some { d with recorded := true } ∧
      t.nvm.recordTotal = s.nvm.recordTotal + 1 ∧ t.ret.shutdownSeen = true ∧
      t.nvm.records = (withMarker (shutdownBody (s.nvm.recordTotal + 1) d.cause d.dies d.sensor d.mode d.temp d.threshold
        d.power d.time s.cx.evtSeq d.frames d.gen 0) (s.nvm.recordTotal + 1) :: s.nvm.records).take 1024) ∧
    (s.thm.shutdown = none → exec (.shutdownRecordWrite waited) s = .next s ∧ exec .shutdownComplete s = .next s) ∧
    (s.thm.shutdown = some d → d.recorded = true → ∃ t, exec .shutdownComplete s = .next t ∧ t.pwr.state = 5 ∧
      t.thm.shutdown = none ∧ t.ret.thermalL5 = true ∧ t.cx.linkUp = false ∧ t.store = {} ∧ t.nvm.jobs = [] ∧
      t.obs.staged = [] ∧ t.mx.txOn = 0 ∧ t.time.slow = true ∧ t.clk = max s.clk (d.at_ + 260000) ∧ t.saf = s.saf) ∧
    (s.cx.rings.length = 16 →
      (1 ≤ n → n ≤ 64 → ∃ t, exec (.shutdownRead tag n out) s = .next t ∧ Answered s t tag St.ok ∧ ExchangeOnly s t ∧
        Delivered s t tag out (s.nvm.records.take n).flatten ∧
        (tag.reqId ≠ 0 → ((t.ring tag.ring).window.getLast?).map DupEntry.detail =
          some (leBytes 4 (s.nvm.records.take n).length ++ leBytes 4 s.nvm.recordTotal))) ∧
      (n = 0 ∨ 64 < n → ∃ t, exec (.shutdownRead tag n out) s = .next t ∧ Refused s t tag St.badParam)) ∧
    (s.nvm.jobs = [] → exec (.nvmProgramDone true) s = .next s) ∧
    (s.nvm.jobs = [.logPage recs] → s.obs.pageCount % 255 ≠ 0 → s.obs.staged.length < recs.length + 7 → ∃ t,
      exec (.nvmProgramDone true) s = .next t ∧ t.obs.pages = s.obs.pages ++ [recs] ∧
      t.obs.pageCount = s.obs.pageCount + 1 ∧ t.obs.staged = s.obs.staged.drop recs.length ∧ t.nvm.jobs = [] ∧
      { t with obs := s.obs, nvm := s.nvm } = s) ∧
    (s.nvm.jobs = j :: rest → s.nvm.retried = false → ∃ t, exec (.nvmProgramDone false) s = .next t ∧
      t.nvm = { s.nvm with retried := true } ∧ { t with regs := s.regs, nvm := s.nvm } = s) ∧
    (s.nvm.jobs = [.journal] → s.nvm.retried = true → ∃ t, exec (.nvmProgramDone false) s = .next t ∧
      t.nvm.journalFailed = true ∧ t.nvm.retried = false ∧ (∀ i ∈ t.nvm.jobs, isLogJob i = true) ∧
      t.nvm.journalCount = s.nvm.journalCount ∧ t.canvas = s.canvas)
end

