-- ==== Sys2Proof/Laws/State.lean ====
section
/-!
SUPPORT. What the elementary updates of the state leave alone: one lemma per update and field, true by unfolding.
-/

namespace Sys2Proof.Machine

/-! ### setRegWord -/

@[simp] theorem State.setRegWord_pending (s : State) (a : Nat) (w : Word) : (s.setRegWord a w).pending = s.pending := rfl
@[simp] theorem State.setRegWord_clk (s : State) (a : Nat) (w : Word) : (s.setRegWord a w).clk = s.clk := rfl
@[simp] theorem State.setRegWord_freeCtr (s : State) (a : Nat) (w : Word) : (s.setRegWord a w).freeCtr = s.freeCtr := rfl
@[simp] theorem State.setRegWord_locks (s : State) (a : Nat) (w : Word) : (s.setRegWord a w).locks = s.locks := rfl
@[simp] theorem State.setRegWord_evLast (s : State) (a : Nat) (w : Word) : (s.setRegWord a w).evLast = s.evLast := rfl
@[simp] theorem State.setRegWord_winLatch (s : State) (a : Nat) (w : Word) : (s.setRegWord a w).winLatch = s.winLatch := rfl
@[simp] theorem State.setRegWord_readData (s : State) (a : Nat) (w : Word) : (s.setRegWord a w).readData = s.readData := rfl
@[simp] theorem State.setRegWord_out (s : State) (a : Nat) (w : Word) : (s.setRegWord a w).out = s.out := rfl
@[simp] theorem State.setRegWord_host (s : State) (a : Nat) (w : Word) : (s.setRegWord a w).host = s.host := rfl
@[simp] theorem State.setRegWord_alertEvent (s : State) (a : Nat) (w : Word) : (s.setRegWord a w).alertEvent = s.alertEvent := rfl
@[simp] theorem State.setRegWord_alertCode (s : State) (a : Nat) (w : Word) : (s.setRegWord a w).alertCode = s.alertCode := rfl
@[simp] theorem State.setRegWord_noStandby (s : State) (a : Nat) (w : Word) : (s.setRegWord a w).noStandby = s.noStandby := rfl
@[simp] theorem State.setRegWord_mode (s : State) (a : Nat) (w : Word) : (s.setRegWord a w).mode = s.mode := rfl
@[simp] theorem State.setRegWord_pwr (s : State) (a : Nat) (w : Word) : (s.setRegWord a w).pwr = s.pwr := rfl
@[simp] theorem State.setRegWord_ref (s : State) (a : Nat) (w : Word) : (s.setRegWord a w).ref = s.ref := rfl
@[simp] theorem State.setRegWord_ret (s : State) (a : Nat) (w : Word) : (s.setRegWord a w).ret = s.ret := rfl
@[simp] theorem State.setRegWord_store (s : State) (a : Nat) (w : Word) : (s.setRegWord a w).store = s.store := rfl
@[simp] theorem State.setRegWord_start (s : State) (a : Nat) (w : Word) : (s.setRegWord a w).start = s.start := rfl
@[simp] theorem State.setRegWord_canvas (s : State) (a : Nat) (w : Word) : (s.setRegWord a w).canvas = s.canvas := rfl
@[simp] theorem State.setRegWord_pins (s : State) (a : Nat) (w : Word) : (s.setRegWord a w).pins = s.pins := rfl
@[simp] theorem State.setRegWord_saf (s : State) (a : Nat) (w : Word) : (s.setRegWord a w).saf = s.saf := rfl
@[simp] theorem State.setRegWord_thm (s : State) (a : Nat) (w : Word) : (s.setRegWord a w).thm = s.thm := rfl
@[simp] theorem State.setRegWord_nvm (s : State) (a : Nat) (w : Word) : (s.setRegWord a w).nvm = s.nvm := rfl
@[simp] theorem State.setRegWord_mx (s : State) (a : Nat) (w : Word) : (s.setRegWord a w).mx = s.mx := rfl
@[simp] theorem State.setRegWord_orb (s : State) (a : Nat) (w : Word) : (s.setRegWord a w).orb = s.orb := rfl
@[simp] theorem State.setRegWord_loops (s : State) (a : Nat) (w : Word) : (s.setRegWord a w).loops = s.loops := rfl
@[simp] theorem State.setRegWord_eng (s : State) (a : Nat) (w : Word) : (s.setRegWord a w).eng = s.eng := rfl
@[simp] theorem State.setRegWord_adc (s : State) (a : Nat) (w : Word) : (s.setRegWord a w).adc = s.adc := rfl
@[simp] theorem State.setRegWord_dac (s : State) (a : Nat) (w : Word) : (s.setRegWord a w).dac = s.dac := rfl
@[simp] theorem State.setRegWord_cal (s : State) (a : Nat) (w : Word) : (s.setRegWord a w).cal = s.cal := rfl
@[simp] theorem State.setRegWord_lanes (s : State) (a : Nat) (w : Word) : (s.setRegWord a w).lanes = s.lanes := rfl
@[simp] theorem State.setRegWord_ports (s : State) (a : Nat) (w : Word) : (s.setRegWord a w).ports = s.ports := rfl
@[simp] theorem State.setRegWord_cls (s : State) (a : Nat) (w : Word) : (s.setRegWord a w).cls = s.cls := rfl
@[simp] theorem State.setRegWord_fdb (s : State) (a : Nat) (w : Word) : (s.setRegWord a w).fdb = s.fdb := rfl
@[simp] theorem State.setRegWord_tm (s : State) (a : Nat) (w : Word) : (s.setRegWord a w).tm = s.tm := rfl
@[simp] theorem State.setRegWord_obs (s : State) (a : Nat) (w : Word) : (s.setRegWord a w).obs = s.obs := rfl
@[simp] theorem State.setRegWord_time (s : State) (a : Nat) (w : Word) : (s.setRegWord a w).time = s.time := rfl
@[simp] theorem State.setRegWord_ikl (s : State) (a : Nat) (w : Word) : (s.setRegWord a w).ikl = s.ikl := rfl
@[simp] theorem State.setRegWord_cx (s : State) (a : Nat) (w : Word) : (s.setRegWord a w).cx = s.cx := rfl
@[simp] theorem State.setRegWord_bm (s : State) (a : Nat) (w : Word) : (s.setRegWord a w).bm = s.bm := rfl
@[simp] theorem State.setRegWord_red (s : State) (a : Nat) (w : Word) : (s.setRegWord a w).red = s.red := rfl

/-! ### setFld -/

@[simp] theorem State.setFld_pending (s : State) (f : FieldRef) (v : Nat) : (s.setFld f v).pending = s.pending := rfl
@[simp] theorem State.setFld_clk (s : State) (f : FieldRef) (v : Nat) : (s.setFld f v).clk = s.clk := rfl
@[simp] theorem State.setFld_freeCtr (s : State) (f : FieldRef) (v : Nat) : (s.setFld f v).freeCtr = s.freeCtr := rfl
@[simp] theorem State.setFld_locks (s : State) (f : FieldRef) (v : Nat) : (s.setFld f v).locks = s.locks := rfl
@[simp] theorem State.setFld_evLast (s : State) (f : FieldRef) (v : Nat) : (s.setFld f v).evLast = s.evLast := rfl
@[simp] theorem State.setFld_winLatch (s : State) (f : FieldRef) (v : Nat) : (s.setFld f v).winLatch = s.winLatch := rfl
@[simp] theorem State.setFld_readData (s : State) (f : FieldRef) (v : Nat) : (s.setFld f v).readData = s.readData := rfl
@[simp] theorem State.setFld_out (s : State) (f : FieldRef) (v : Nat) : (s.setFld f v).out = s.out := rfl
@[simp] theorem State.setFld_host (s : State) (f : FieldRef) (v : Nat) : (s.setFld f v).host = s.host := rfl
@[simp] theorem State.setFld_alertEvent (s : State) (f : FieldRef) (v : Nat) : (s.setFld f v).alertEvent = s.alertEvent := rfl
@[simp] theorem State.setFld_alertCode (s : State) (f : FieldRef) (v : Nat) : (s.setFld f v).alertCode = s.alertCode := rfl
@[simp] theorem State.setFld_noStandby (s : State) (f : FieldRef) (v : Nat) : (s.setFld f v).noStandby = s.noStandby := rfl
@[simp] theorem State.setFld_mode (s : State) (f : FieldRef) (v : Nat) : (s.setFld f v).mode = s.mode := rfl
@[simp] theorem State.setFld_pwr (s : State) (f : FieldRef) (v : Nat) : (s.setFld f v).pwr = s.pwr := rfl
@[simp] theorem State.setFld_ref (s : State) (f : FieldRef) (v : Nat) : (s.setFld f v).ref = s.ref := rfl
@[simp] theorem State.setFld_ret (s : State) (f : FieldRef) (v : Nat) : (s.setFld f v).ret = s.ret := rfl
@[simp] theorem State.setFld_store (s : State) (f : FieldRef) (v : Nat) : (s.setFld f v).store = s.store := rfl
@[simp] theorem State.setFld_start (s : State) (f : FieldRef) (v : Nat) : (s.setFld f v).start = s.start := rfl
@[simp] theorem State.setFld_canvas (s : State) (f : FieldRef) (v : Nat) : (s.setFld f v).canvas = s.canvas := rfl
@[simp] theorem State.setFld_pins (s : State) (f : FieldRef) (v : Nat) : (s.setFld f v).pins = s.pins := rfl
@[simp] theorem State.setFld_saf (s : State) (f : FieldRef) (v : Nat) : (s.setFld f v).saf = s.saf := rfl
@[simp] theorem State.setFld_thm (s : State) (f : FieldRef) (v : Nat) : (s.setFld f v).thm = s.thm := rfl
@[simp] theorem State.setFld_nvm (s : State) (f : FieldRef) (v : Nat) : (s.setFld f v).nvm = s.nvm := rfl
@[simp] theorem State.setFld_mx (s : State) (f : FieldRef) (v : Nat) : (s.setFld f v).mx = s.mx := rfl
@[simp] theorem State.setFld_orb (s : State) (f : FieldRef) (v : Nat) : (s.setFld f v).orb = s.orb := rfl
@[simp] theorem State.setFld_loops (s : State) (f : FieldRef) (v : Nat) : (s.setFld f v).loops = s.loops := rfl
@[simp] theorem State.setFld_eng (s : State) (f : FieldRef) (v : Nat) : (s.setFld f v).eng = s.eng := rfl
@[simp] theorem State.setFld_adc (s : State) (f : FieldRef) (v : Nat) : (s.setFld f v).adc = s.adc := rfl
@[simp] theorem State.setFld_dac (s : State) (f : FieldRef) (v : Nat) : (s.setFld f v).dac = s.dac := rfl
@[simp] theorem State.setFld_cal (s : State) (f : FieldRef) (v : Nat) : (s.setFld f v).cal = s.cal := rfl
@[simp] theorem State.setFld_lanes (s : State) (f : FieldRef) (v : Nat) : (s.setFld f v).lanes = s.lanes := rfl
@[simp] theorem State.setFld_ports (s : State) (f : FieldRef) (v : Nat) : (s.setFld f v).ports = s.ports := rfl
@[simp] theorem State.setFld_cls (s : State) (f : FieldRef) (v : Nat) : (s.setFld f v).cls = s.cls := rfl
@[simp] theorem State.setFld_fdb (s : State) (f : FieldRef) (v : Nat) : (s.setFld f v).fdb = s.fdb := rfl
@[simp] theorem State.setFld_tm (s : State) (f : FieldRef) (v : Nat) : (s.setFld f v).tm = s.tm := rfl
@[simp] theorem State.setFld_obs (s : State) (f : FieldRef) (v : Nat) : (s.setFld f v).obs = s.obs := rfl
@[simp] theorem State.setFld_time (s : State) (f : FieldRef) (v : Nat) : (s.setFld f v).time = s.time := rfl
@[simp] theorem State.setFld_ikl (s : State) (f : FieldRef) (v : Nat) : (s.setFld f v).ikl = s.ikl := rfl
@[simp] theorem State.setFld_cx (s : State) (f : FieldRef) (v : Nat) : (s.setFld f v).cx = s.cx := rfl
@[simp] theorem State.setFld_bm (s : State) (f : FieldRef) (v : Nat) : (s.setFld f v).bm = s.bm := rfl
@[simp] theorem State.setFld_red (s : State) (f : FieldRef) (v : Nat) : (s.setFld f v).red = s.red := rfl

/-! ### bump -/

@[simp] theorem State.bump_pending (s : State) (f : FieldRef) (n : Nat) : (s.bump f n).pending = s.pending := rfl
@[simp] theorem State.bump_clk (s : State) (f : FieldRef) (n : Nat) : (s.bump f n).clk = s.clk := rfl
@[simp] theorem State.bump_freeCtr (s : State) (f : FieldRef) (n : Nat) : (s.bump f n).freeCtr = s.freeCtr := rfl
@[simp] theorem State.bump_locks (s : State) (f : FieldRef) (n : Nat) : (s.bump f n).locks = s.locks := rfl
@[simp] theorem State.bump_evLast (s : State) (f : FieldRef) (n : Nat) : (s.bump f n).evLast = s.evLast := rfl
@[simp] theorem State.bump_winLatch (s : State) (f : FieldRef) (n : Nat) : (s.bump f n).winLatch = s.winLatch := rfl
@[simp] theorem State.bump_readData (s : State) (f : FieldRef) (n : Nat) : (s.bump f n).readData = s.readData := rfl
@[simp] theorem State.bump_out (s : State) (f : FieldRef) (n : Nat) : (s.bump f n).out = s.out := rfl
@[simp] theorem State.bump_host (s : State) (f : FieldRef) (n : Nat) : (s.bump f n).host = s.host := rfl
@[simp] theorem State.bump_alertEvent (s : State) (f : FieldRef) (n : Nat) : (s.bump f n).alertEvent = s.alertEvent := rfl
@[simp] theorem State.bump_alertCode (s : State) (f : FieldRef) (n : Nat) : (s.bump f n).alertCode = s.alertCode := rfl
@[simp] theorem State.bump_noStandby (s : State) (f : FieldRef) (n : Nat) : (s.bump f n).noStandby = s.noStandby := rfl
@[simp] theorem State.bump_mode (s : State) (f : FieldRef) (n : Nat) : (s.bump f n).mode = s.mode := rfl
@[simp] theorem State.bump_pwr (s : State) (f : FieldRef) (n : Nat) : (s.bump f n).pwr = s.pwr := rfl
@[simp] theorem State.bump_ref (s : State) (f : FieldRef) (n : Nat) : (s.bump f n).ref = s.ref := rfl
@[simp] theorem State.bump_ret (s : State) (f : FieldRef) (n : Nat) : (s.bump f n).ret = s.ret := rfl
@[simp] theorem State.bump_store (s : State) (f : FieldRef) (n : Nat) : (s.bump f n).store = s.store := rfl
@[simp] theorem State.bump_start (s : State) (f : FieldRef) (n : Nat) : (s.bump f n).start = s.start := rfl
@[simp] theorem State.bump_canvas (s : State) (f : FieldRef) (n : Nat) : (s.bump f n).canvas = s.canvas := rfl
@[simp] theorem State.bump_pins (s : State) (f : FieldRef) (n : Nat) : (s.bump f n).pins = s.pins := rfl
@[simp] theorem State.bump_saf (s : State) (f : FieldRef) (n : Nat) : (s.bump f n).saf = s.saf := rfl
@[simp] theorem State.bump_thm (s : State) (f : FieldRef) (n : Nat) : (s.bump f n).thm = s.thm := rfl
@[simp] theorem State.bump_nvm (s : State) (f : FieldRef) (n : Nat) : (s.bump f n).nvm = s.nvm := rfl
@[simp] theorem State.bump_mx (s : State) (f : FieldRef) (n : Nat) : (s.bump f n).mx = s.mx := rfl
@[simp] theorem State.bump_orb (s : State) (f : FieldRef) (n : Nat) : (s.bump f n).orb = s.orb := rfl
@[simp] theorem State.bump_loops (s : State) (f : FieldRef) (n : Nat) : (s.bump f n).loops = s.loops := rfl
@[simp] theorem State.bump_eng (s : State) (f : FieldRef) (n : Nat) : (s.bump f n).eng = s.eng := rfl
@[simp] theorem State.bump_adc (s : State) (f : FieldRef) (n : Nat) : (s.bump f n).adc = s.adc := rfl
@[simp] theorem State.bump_dac (s : State) (f : FieldRef) (n : Nat) : (s.bump f n).dac = s.dac := rfl
@[simp] theorem State.bump_cal (s : State) (f : FieldRef) (n : Nat) : (s.bump f n).cal = s.cal := rfl
@[simp] theorem State.bump_lanes (s : State) (f : FieldRef) (n : Nat) : (s.bump f n).lanes = s.lanes := rfl
@[simp] theorem State.bump_ports (s : State) (f : FieldRef) (n : Nat) : (s.bump f n).ports = s.ports := rfl
@[simp] theorem State.bump_cls (s : State) (f : FieldRef) (n : Nat) : (s.bump f n).cls = s.cls := rfl
@[simp] theorem State.bump_fdb (s : State) (f : FieldRef) (n : Nat) : (s.bump f n).fdb = s.fdb := rfl
@[simp] theorem State.bump_tm (s : State) (f : FieldRef) (n : Nat) : (s.bump f n).tm = s.tm := rfl
@[simp] theorem State.bump_obs (s : State) (f : FieldRef) (n : Nat) : (s.bump f n).obs = s.obs := rfl
@[simp] theorem State.bump_time (s : State) (f : FieldRef) (n : Nat) : (s.bump f n).time = s.time := rfl
@[simp] theorem State.bump_ikl (s : State) (f : FieldRef) (n : Nat) : (s.bump f n).ikl = s.ikl := rfl
@[simp] theorem State.bump_cx (s : State) (f : FieldRef) (n : Nat) : (s.bump f n).cx = s.cx := rfl
@[simp] theorem State.bump_bm (s : State) (f : FieldRef) (n : Nat) : (s.bump f n).bm = s.bm := rfl
@[simp] theorem State.bump_red (s : State) (f : FieldRef) (n : Nat) : (s.bump f n).red = s.red := rfl

/-! ### setLane -/

@[simp] theorem State.setLane_pending (s : State) (n : Nat) (x : LaneSt) : (s.setLane n x).pending = s.pending := rfl
@[simp] theorem State.setLane_clk (s : State) (n : Nat) (x : LaneSt) : (s.setLane n x).clk = s.clk := rfl
@[simp] theorem State.setLane_freeCtr (s : State) (n : Nat) (x : LaneSt) : (s.setLane n x).freeCtr = s.freeCtr := rfl
@[simp] theorem State.setLane_regs (s : State) (n : Nat) (x : LaneSt) : (s.setLane n x).regs = s.regs := rfl
@[simp] theorem State.setLane_locks (s : State) (n : Nat) (x : LaneSt) : (s.setLane n x).locks = s.locks := rfl
@[simp] theorem State.setLane_evLast (s : State) (n : Nat) (x : LaneSt) : (s.setLane n x).evLast = s.evLast := rfl
@[simp] theorem State.setLane_winLatch (s : State) (n : Nat) (x : LaneSt) : (s.setLane n x).winLatch = s.winLatch := rfl
@[simp] theorem State.setLane_readData (s : State) (n : Nat) (x : LaneSt) : (s.setLane n x).readData = s.readData := rfl
@[simp] theorem State.setLane_out (s : State) (n : Nat) (x : LaneSt) : (s.setLane n x).out = s.out := rfl
@[simp] theorem State.setLane_host (s : State) (n : Nat) (x : LaneSt) : (s.setLane n x).host = s.host := rfl
@[simp] theorem State.setLane_alertEvent (s : State) (n : Nat) (x : LaneSt) : (s.setLane n x).alertEvent = s.alertEvent := rfl
@[simp] theorem State.setLane_alertCode (s : State) (n : Nat) (x : LaneSt) : (s.setLane n x).alertCode = s.alertCode := rfl
@[simp] theorem State.setLane_noStandby (s : State) (n : Nat) (x : LaneSt) : (s.setLane n x).noStandby = s.noStandby := rfl
@[simp] theorem State.setLane_mode (s : State) (n : Nat) (x : LaneSt) : (s.setLane n x).mode = s.mode := rfl
@[simp] theorem State.setLane_pwr (s : State) (n : Nat) (x : LaneSt) : (s.setLane n x).pwr = s.pwr := rfl
@[simp] theorem State.setLane_ref (s : State) (n : Nat) (x : LaneSt) : (s.setLane n x).ref = s.ref := rfl
@[simp] theorem State.setLane_ret (s : State) (n : Nat) (x : LaneSt) : (s.setLane n x).ret = s.ret := rfl
@[simp] theorem State.setLane_store (s : State) (n : Nat) (x : LaneSt) : (s.setLane n x).store = s.store := rfl
@[simp] theorem State.setLane_start (s : State) (n : Nat) (x : LaneSt) : (s.setLane n x).start = s.start := rfl
@[simp] theorem State.setLane_canvas (s : State) (n : Nat) (x : LaneSt) : (s.setLane n x).canvas = s.canvas := rfl
@[simp] theorem State.setLane_pins (s : State) (n : Nat) (x : LaneSt) : (s.setLane n x).pins = s.pins := rfl
@[simp] theorem State.setLane_saf (s : State) (n : Nat) (x : LaneSt) : (s.setLane n x).saf = s.saf := rfl
@[simp] theorem State.setLane_thm (s : State) (n : Nat) (x : LaneSt) : (s.setLane n x).thm = s.thm := rfl
@[simp] theorem State.setLane_nvm (s : State) (n : Nat) (x : LaneSt) : (s.setLane n x).nvm = s.nvm := rfl
@[simp] theorem State.setLane_mx (s : State) (n : Nat) (x : LaneSt) : (s.setLane n x).mx = s.mx := rfl
@[simp] theorem State.setLane_orb (s : State) (n : Nat) (x : LaneSt) : (s.setLane n x).orb = s.orb := rfl
@[simp] theorem State.setLane_loops (s : State) (n : Nat) (x : LaneSt) : (s.setLane n x).loops = s.loops := rfl
@[simp] theorem State.setLane_eng (s : State) (n : Nat) (x : LaneSt) : (s.setLane n x).eng = s.eng := rfl
@[simp] theorem State.setLane_adc (s : State) (n : Nat) (x : LaneSt) : (s.setLane n x).adc = s.adc := rfl
@[simp] theorem State.setLane_dac (s : State) (n : Nat) (x : LaneSt) : (s.setLane n x).dac = s.dac := rfl
@[simp] theorem State.setLane_cal (s : State) (n : Nat) (x : LaneSt) : (s.setLane n x).cal = s.cal := rfl
@[simp] theorem State.setLane_ports (s : State) (n : Nat) (x : LaneSt) : (s.setLane n x).ports = s.ports := rfl
@[simp] theorem State.setLane_cls (s : State) (n : Nat) (x : LaneSt) : (s.setLane n x).cls = s.cls := rfl
@[simp] theorem State.setLane_fdb (s : State) (n : Nat) (x : LaneSt) : (s.setLane n x).fdb = s.fdb := rfl
@[simp] theorem State.setLane_tm (s : State) (n : Nat) (x : LaneSt) : (s.setLane n x).tm = s.tm := rfl
@[simp] theorem State.setLane_obs (s : State) (n : Nat) (x : LaneSt) : (s.setLane n x).obs = s.obs := rfl
@[simp] theorem State.setLane_time (s : State) (n : Nat) (x : LaneSt) : (s.setLane n x).time = s.time := rfl
@[simp] theorem State.setLane_ikl (s : State) (n : Nat) (x : LaneSt) : (s.setLane n x).ikl = s.ikl := rfl
@[simp] theorem State.setLane_cx (s : State) (n : Nat) (x : LaneSt) : (s.setLane n x).cx = s.cx := rfl
@[simp] theorem State.setLane_bm (s : State) (n : Nat) (x : LaneSt) : (s.setLane n x).bm = s.bm := rfl
@[simp] theorem State.setLane_red (s : State) (n : Nat) (x : LaneSt) : (s.setLane n x).red = s.red := rfl

/-! ### setPort -/

@[simp] theorem State.setPort_pending (s : State) (p : Nat) (x : PortSt) : (s.setPort p x).pending = s.pending := rfl
@[simp] theorem State.setPort_clk (s : State) (p : Nat) (x : PortSt) : (s.setPort p x).clk = s.clk := rfl
@[simp] theorem State.setPort_freeCtr (s : State) (p : Nat) (x : PortSt) : (s.setPort p x).freeCtr = s.freeCtr := rfl
@[simp] theorem State.setPort_regs (s : State) (p : Nat) (x : PortSt) : (s.setPort p x).regs = s.regs := rfl
@[simp] theorem State.setPort_locks (s : State) (p : Nat) (x : PortSt) : (s.setPort p x).locks = s.locks := rfl
@[simp] theorem State.setPort_evLast (s : State) (p : Nat) (x : PortSt) : (s.setPort p x).evLast = s.evLast := rfl
@[simp] theorem State.setPort_winLatch (s : State) (p : Nat) (x : PortSt) : (s.setPort p x).winLatch = s.winLatch := rfl
@[simp] theorem State.setPort_readData (s : State) (p : Nat) (x : PortSt) : (s.setPort p x).readData = s.readData := rfl
@[simp] theorem State.setPort_out (s : State) (p : Nat) (x : PortSt) : (s.setPort p x).out = s.out := rfl
@[simp] theorem State.setPort_host (s : State) (p : Nat) (x : PortSt) : (s.setPort p x).host = s.host := rfl
@[simp] theorem State.setPort_alertEvent (s : State) (p : Nat) (x : PortSt) : (s.setPort p x).alertEvent = s.alertEvent := rfl
@[simp] theorem State.setPort_alertCode (s : State) (p : Nat) (x : PortSt) : (s.setPort p x).alertCode = s.alertCode := rfl
@[simp] theorem State.setPort_noStandby (s : State) (p : Nat) (x : PortSt) : (s.setPort p x).noStandby = s.noStandby := rfl
@[simp] theorem State.setPort_mode (s : State) (p : Nat) (x : PortSt) : (s.setPort p x).mode = s.mode := rfl
@[simp] theorem State.setPort_pwr (s : State) (p : Nat) (x : PortSt) : (s.setPort p x).pwr = s.pwr := rfl
@[simp] theorem State.setPort_ref (s : State) (p : Nat) (x : PortSt) : (s.setPort p x).ref = s.ref := rfl
@[simp] theorem State.setPort_ret (s : State) (p : Nat) (x : PortSt) : (s.setPort p x).ret = s.ret := rfl
@[simp] theorem State.setPort_store (s : State) (p : Nat) (x : PortSt) : (s.setPort p x).store = s.store := rfl
@[simp] theorem State.setPort_start (s : State) (p : Nat) (x : PortSt) : (s.setPort p x).start = s.start := rfl
@[simp] theorem State.setPort_canvas (s : State) (p : Nat) (x : PortSt) : (s.setPort p x).canvas = s.canvas := rfl
@[simp] theorem State.setPort_pins (s : State) (p : Nat) (x : PortSt) : (s.setPort p x).pins = s.pins := rfl
@[simp] theorem State.setPort_saf (s : State) (p : Nat) (x : PortSt) : (s.setPort p x).saf = s.saf := rfl
@[simp] theorem State.setPort_thm (s : State) (p : Nat) (x : PortSt) : (s.setPort p x).thm = s.thm := rfl
@[simp] theorem State.setPort_nvm (s : State) (p : Nat) (x : PortSt) : (s.setPort p x).nvm = s.nvm := rfl
@[simp] theorem State.setPort_mx (s : State) (p : Nat) (x : PortSt) : (s.setPort p x).mx = s.mx := rfl
@[simp] theorem State.setPort_orb (s : State) (p : Nat) (x : PortSt) : (s.setPort p x).orb = s.orb := rfl
@[simp] theorem State.setPort_loops (s : State) (p : Nat) (x : PortSt) : (s.setPort p x).loops = s.loops := rfl
@[simp] theorem State.setPort_eng (s : State) (p : Nat) (x : PortSt) : (s.setPort p x).eng = s.eng := rfl
@[simp] theorem State.setPort_adc (s : State) (p : Nat) (x : PortSt) : (s.setPort p x).adc = s.adc := rfl
@[simp] theorem State.setPort_dac (s : State) (p : Nat) (x : PortSt) : (s.setPort p x).dac = s.dac := rfl
@[simp] theorem State.setPort_cal (s : State) (p : Nat) (x : PortSt) : (s.setPort p x).cal = s.cal := rfl
@[simp] theorem State.setPort_lanes (s : State) (p : Nat) (x : PortSt) : (s.setPort p x).lanes = s.lanes := rfl
@[simp] theorem State.setPort_cls (s : State) (p : Nat) (x : PortSt) : (s.setPort p x).cls = s.cls := rfl
@[simp] theorem State.setPort_fdb (s : State) (p : Nat) (x : PortSt) : (s.setPort p x).fdb = s.fdb := rfl
@[simp] theorem State.setPort_tm (s : State) (p : Nat) (x : PortSt) : (s.setPort p x).tm = s.tm := rfl
@[simp] theorem State.setPort_obs (s : State) (p : Nat) (x : PortSt) : (s.setPort p x).obs = s.obs := rfl
@[simp] theorem State.setPort_time (s : State) (p : Nat) (x : PortSt) : (s.setPort p x).time = s.time := rfl
@[simp] theorem State.setPort_ikl (s : State) (p : Nat) (x : PortSt) : (s.setPort p x).ikl = s.ikl := rfl
@[simp] theorem State.setPort_cx (s : State) (p : Nat) (x : PortSt) : (s.setPort p x).cx = s.cx := rfl
@[simp] theorem State.setPort_bm (s : State) (p : Nat) (x : PortSt) : (s.setPort p x).bm = s.bm := rfl
@[simp] theorem State.setPort_red (s : State) (p : Nat) (x : PortSt) : (s.setPort p x).red = s.red := rfl

/-! ### setPq -/

@[simp] theorem State.setPq_pending (s : State) (p : Nat) (x : PortQ) : (s.setPq p x).pending = s.pending := rfl
@[simp] theorem State.setPq_clk (s : State) (p : Nat) (x : PortQ) : (s.setPq p x).clk = s.clk := rfl
@[simp] theorem State.setPq_freeCtr (s : State) (p : Nat) (x : PortQ) : (s.setPq p x).freeCtr = s.freeCtr := rfl
@[simp] theorem State.setPq_regs (s : State) (p : Nat) (x : PortQ) : (s.setPq p x).regs = s.regs := rfl
@[simp] theorem State.setPq_locks (s : State) (p : Nat) (x : PortQ) : (s.setPq p x).locks = s.locks := rfl
@[simp] theorem State.setPq_evLast (s : State) (p : Nat) (x : PortQ) : (s.setPq p x).evLast = s.evLast := rfl
@[simp] theorem State.setPq_winLatch (s : State) (p : Nat) (x : PortQ) : (s.setPq p x).winLatch = s.winLatch := rfl
@[simp] theorem State.setPq_readData (s : State) (p : Nat) (x : PortQ) : (s.setPq p x).readData = s.readData := rfl
@[simp] theorem State.setPq_out (s : State) (p : Nat) (x : PortQ) : (s.setPq p x).out = s.out := rfl
@[simp] theorem State.setPq_host (s : State) (p : Nat) (x : PortQ) : (s.setPq p x).host = s.host := rfl
@[simp] theorem State.setPq_alertEvent (s : State) (p : Nat) (x : PortQ) : (s.setPq p x).alertEvent = s.alertEvent := rfl
@[simp] theorem State.setPq_alertCode (s : State) (p : Nat) (x : PortQ) : (s.setPq p x).alertCode = s.alertCode := rfl
@[simp] theorem State.setPq_noStandby (s : State) (p : Nat) (x : PortQ) : (s.setPq p x).noStandby = s.noStandby := rfl
@[simp] theorem State.setPq_mode (s : State) (p : Nat) (x : PortQ) : (s.setPq p x).mode = s.mode := rfl
@[simp] theorem State.setPq_pwr (s : State) (p : Nat) (x : PortQ) : (s.setPq p x).pwr = s.pwr := rfl
@[simp] theorem State.setPq_ref (s : State) (p : Nat) (x : PortQ) : (s.setPq p x).ref = s.ref := rfl
@[simp] theorem State.setPq_ret (s : State) (p : Nat) (x : PortQ) : (s.setPq p x).ret = s.ret := rfl
@[simp] theorem State.setPq_store (s : State) (p : Nat) (x : PortQ) : (s.setPq p x).store = s.store := rfl
@[simp] theorem State.setPq_start (s : State) (p : Nat) (x : PortQ) : (s.setPq p x).start = s.start := rfl
@[simp] theorem State.setPq_canvas (s : State) (p : Nat) (x : PortQ) : (s.setPq p x).canvas = s.canvas := rfl
@[simp] theorem State.setPq_pins (s : State) (p : Nat) (x : PortQ) : (s.setPq p x).pins = s.pins := rfl
@[simp] theorem State.setPq_saf (s : State) (p : Nat) (x : PortQ) : (s.setPq p x).saf = s.saf := rfl
@[simp] theorem State.setPq_thm (s : State) (p : Nat) (x : PortQ) : (s.setPq p x).thm = s.thm := rfl
@[simp] theorem State.setPq_nvm (s : State) (p : Nat) (x : PortQ) : (s.setPq p x).nvm = s.nvm := rfl
@[simp] theorem State.setPq_mx (s : State) (p : Nat) (x : PortQ) : (s.setPq p x).mx = s.mx := rfl
@[simp] theorem State.setPq_orb (s : State) (p : Nat) (x : PortQ) : (s.setPq p x).orb = s.orb := rfl
@[simp] theorem State.setPq_loops (s : State) (p : Nat) (x : PortQ) : (s.setPq p x).loops = s.loops := rfl
@[simp] theorem State.setPq_eng (s : State) (p : Nat) (x : PortQ) : (s.setPq p x).eng = s.eng := rfl
@[simp] theorem State.setPq_adc (s : State) (p : Nat) (x : PortQ) : (s.setPq p x).adc = s.adc := rfl
@[simp] theorem State.setPq_dac (s : State) (p : Nat) (x : PortQ) : (s.setPq p x).dac = s.dac := rfl
@[simp] theorem State.setPq_cal (s : State) (p : Nat) (x : PortQ) : (s.setPq p x).cal = s.cal := rfl
@[simp] theorem State.setPq_lanes (s : State) (p : Nat) (x : PortQ) : (s.setPq p x).lanes = s.lanes := rfl
@[simp] theorem State.setPq_ports (s : State) (p : Nat) (x : PortQ) : (s.setPq p x).ports = s.ports := rfl
@[simp] theorem State.setPq_cls (s : State) (p : Nat) (x : PortQ) : (s.setPq p x).cls = s.cls := rfl
@[simp] theorem State.setPq_fdb (s : State) (p : Nat) (x : PortQ) : (s.setPq p x).fdb = s.fdb := rfl
@[simp] theorem State.setPq_obs (s : State) (p : Nat) (x : PortQ) : (s.setPq p x).obs = s.obs := rfl
@[simp] theorem State.setPq_time (s : State) (p : Nat) (x : PortQ) : (s.setPq p x).time = s.time := rfl
@[simp] theorem State.setPq_ikl (s : State) (p : Nat) (x : PortQ) : (s.setPq p x).ikl = s.ikl := rfl
@[simp] theorem State.setPq_cx (s : State) (p : Nat) (x : PortQ) : (s.setPq p x).cx = s.cx := rfl
@[simp] theorem State.setPq_bm (s : State) (p : Nat) (x : PortQ) : (s.setPq p x).bm = s.bm := rfl
@[simp] theorem State.setPq_red (s : State) (p : Nat) (x : PortQ) : (s.setPq p x).red = s.red := rfl

/-! ### setCell -/

@[simp] theorem State.setCell_pending (s : State) (c : Nat) (x : CellLoop) : (s.setCell c x).pending = s.pending := rfl
@[simp] theorem State.setCell_clk (s : State) (c : Nat) (x : CellLoop) : (s.setCell c x).clk = s.clk := rfl
@[simp] theorem State.setCell_freeCtr (s : State) (c : Nat) (x : CellLoop) : (s.setCell c x).freeCtr = s.freeCtr := rfl
@[simp] theorem State.setCell_regs (s : State) (c : Nat) (x : CellLoop) : (s.setCell c x).regs = s.regs := rfl
@[simp] theorem State.setCell_locks (s : State) (c : Nat) (x : CellLoop) : (s.setCell c x).locks = s.locks := rfl
@[simp] theorem State.setCell_evLast (s : State) (c : Nat) (x : CellLoop) : (s.setCell c x).evLast = s.evLast := rfl
@[simp] theorem State.setCell_winLatch (s : State) (c : Nat) (x : CellLoop) : (s.setCell c x).winLatch = s.winLatch := rfl
@[simp] theorem State.setCell_readData (s : State) (c : Nat) (x : CellLoop) : (s.setCell c x).readData = s.readData := rfl
@[simp] theorem State.setCell_out (s : State) (c : Nat) (x : CellLoop) : (s.setCell c x).out = s.out := rfl
@[simp] theorem State.setCell_host (s : State) (c : Nat) (x : CellLoop) : (s.setCell c x).host = s.host := rfl
@[simp] theorem State.setCell_alertEvent (s : State) (c : Nat) (x : CellLoop) : (s.setCell c x).alertEvent = s.alertEvent := rfl
@[simp] theorem State.setCell_alertCode (s : State) (c : Nat) (x : CellLoop) : (s.setCell c x).alertCode = s.alertCode := rfl
@[simp] theorem State.setCell_noStandby (s : State) (c : Nat) (x : CellLoop) : (s.setCell c x).noStandby = s.noStandby := rfl
@[simp] theorem State.setCell_mode (s : State) (c : Nat) (x : CellLoop) : (s.setCell c x).mode = s.mode := rfl
@[simp] theorem State.setCell_pwr (s : State) (c : Nat) (x : CellLoop) : (s.setCell c x).pwr = s.pwr := rfl
@[simp] theorem State.setCell_ref (s : State) (c : Nat) (x : CellLoop) : (s.setCell c x).ref = s.ref := rfl
@[simp] theorem State.setCell_ret (s : State) (c : Nat) (x : CellLoop) : (s.setCell c x).ret = s.ret := rfl
@[simp] theorem State.setCell_store (s : State) (c : Nat) (x : CellLoop) : (s.setCell c x).store = s.store := rfl
@[simp] theorem State.setCell_start (s : State) (c : Nat) (x : CellLoop) : (s.setCell c x).start = s.start := rfl
@[simp] theorem State.setCell_canvas (s : State) (c : Nat) (x : CellLoop) : (s.setCell c x).canvas = s.canvas := rfl
@[simp] theorem State.setCell_pins (s : State) (c : Nat) (x : CellLoop) : (s.setCell c x).pins = s.pins := rfl
@[simp] theorem State.setCell_saf (s : State) (c : Nat) (x : CellLoop) : (s.setCell c x).saf = s.saf := rfl
@[simp] theorem State.setCell_thm (s : State) (c : Nat) (x : CellLoop) : (s.setCell c x).thm = s.thm := rfl
@[simp] theorem State.setCell_nvm (s : State) (c : Nat) (x : CellLoop) : (s.setCell c x).nvm = s.nvm := rfl
@[simp] theorem State.setCell_mx (s : State) (c : Nat) (x : CellLoop) : (s.setCell c x).mx = s.mx := rfl
@[simp] theorem State.setCell_orb (s : State) (c : Nat) (x : CellLoop) : (s.setCell c x).orb = s.orb := rfl
@[simp] theorem State.setCell_eng (s : State) (c : Nat) (x : CellLoop) : (s.setCell c x).eng = s.eng := rfl
@[simp] theorem State.setCell_adc (s : State) (c : Nat) (x : CellLoop) : (s.setCell c x).adc = s.adc := rfl
@[simp] theorem State.setCell_dac (s : State) (c : Nat) (x : CellLoop) : (s.setCell c x).dac = s.dac := rfl
@[simp] theorem State.setCell_cal (s : State) (c : Nat) (x : CellLoop) : (s.setCell c x).cal = s.cal := rfl
@[simp] theorem State.setCell_lanes (s : State) (c : Nat) (x : CellLoop) : (s.setCell c x).lanes = s.lanes := rfl
@[simp] theorem State.setCell_ports (s : State) (c : Nat) (x : CellLoop) : (s.setCell c x).ports = s.ports := rfl
@[simp] theorem State.setCell_cls (s : State) (c : Nat) (x : CellLoop) : (s.setCell c x).cls = s.cls := rfl
@[simp] theorem State.setCell_fdb (s : State) (c : Nat) (x : CellLoop) : (s.setCell c x).fdb = s.fdb := rfl
@[simp] theorem State.setCell_tm (s : State) (c : Nat) (x : CellLoop) : (s.setCell c x).tm = s.tm := rfl
@[simp] theorem State.setCell_obs (s : State) (c : Nat) (x : CellLoop) : (s.setCell c x).obs = s.obs := rfl
@[simp] theorem State.setCell_time (s : State) (c : Nat) (x : CellLoop) : (s.setCell c x).time = s.time := rfl
@[simp] theorem State.setCell_ikl (s : State) (c : Nat) (x : CellLoop) : (s.setCell c x).ikl = s.ikl := rfl
@[simp] theorem State.setCell_cx (s : State) (c : Nat) (x : CellLoop) : (s.setCell c x).cx = s.cx := rfl
@[simp] theorem State.setCell_bm (s : State) (c : Nat) (x : CellLoop) : (s.setCell c x).bm = s.bm := rfl
@[simp] theorem State.setCell_red (s : State) (c : Nat) (x : CellLoop) : (s.setCell c x).red = s.red := rfl

/-! ### count -/

@[simp] theorem State.count_pending (s : State) (a n : Nat) : (s.count a n).pending = s.pending := rfl
@[simp] theorem State.count_clk (s : State) (a n : Nat) : (s.count a n).clk = s.clk := rfl
@[simp] theorem State.count_freeCtr (s : State) (a n : Nat) : (s.count a n).freeCtr = s.freeCtr := rfl
@[simp] theorem State.count_regs (s : State) (a n : Nat) : (s.count a n).regs = s.regs := rfl
@[simp] theorem State.count_locks (s : State) (a n : Nat) : (s.count a n).locks = s.locks := rfl
@[simp] theorem State.count_evLast (s : State) (a n : Nat) : (s.count a n).evLast = s.evLast := rfl
@[simp] theorem State.count_winLatch (s : State) (a n : Nat) : (s.count a n).winLatch = s.winLatch := rfl
@[simp] theorem State.count_readData (s : State) (a n : Nat) : (s.count a n).readData = s.readData := rfl
@[simp] theorem State.count_out (s : State) (a n : Nat) : (s.count a n).out = s.out := rfl
@[simp] theorem State.count_host (s : State) (a n : Nat) : (s.count a n).host = s.host := rfl
@[simp] theorem State.count_alertEvent (s : State) (a n : Nat) : (s.count a n).alertEvent = s.alertEvent := rfl
@[simp] theorem State.count_alertCode (s : State) (a n : Nat) : (s.count a n).alertCode = s.alertCode := rfl
@[simp] theorem State.count_noStandby (s : State) (a n : Nat) : (s.count a n).noStandby = s.noStandby := rfl
@[simp] theorem State.count_mode (s : State) (a n : Nat) : (s.count a n).mode = s.mode := rfl
@[simp] theorem State.count_pwr (s : State) (a n : Nat) : (s.count a n).pwr = s.pwr := rfl
@[simp] theorem State.count_ref (s : State) (a n : Nat) : (s.count a n).ref = s.ref := rfl
@[simp] theorem State.count_ret (s : State) (a n : Nat) : (s.count a n).ret = s.ret := rfl
@[simp] theorem State.count_store (s : State) (a n : Nat) : (s.count a n).store = s.store := rfl
@[simp] theorem State.count_start (s : State) (a n : Nat) : (s.count a n).start = s.start := rfl
@[simp] theorem State.count_canvas (s : State) (a n : Nat) : (s.count a n).canvas = s.canvas := rfl
@[simp] theorem State.count_pins (s : State) (a n : Nat) : (s.count a n).pins = s.pins := rfl
@[simp] theorem State.count_saf (s : State) (a n : Nat) : (s.count a n).saf = s.saf := rfl
@[simp] theorem State.count_thm (s : State) (a n : Nat) : (s.count a n).thm = s.thm := rfl
@[simp] theorem State.count_nvm (s : State) (a n : Nat) : (s.count a n).nvm = s.nvm := rfl
@[simp] theorem State.count_mx (s : State) (a n : Nat) : (s.count a n).mx = s.mx := rfl
@[simp] theorem State.count_orb (s : State) (a n : Nat) : (s.count a n).orb = s.orb := rfl
@[simp] theorem State.count_loops (s : State) (a n : Nat) : (s.count a n).loops = s.loops := rfl
@[simp] theorem State.count_eng (s : State) (a n : Nat) : (s.count a n).eng = s.eng := rfl
@[simp] theorem State.count_adc (s : State) (a n : Nat) : (s.count a n).adc = s.adc := rfl
@[simp] theorem State.count_dac (s : State) (a n : Nat) : (s.count a n).dac = s.dac := rfl
@[simp] theorem State.count_cal (s : State) (a n : Nat) : (s.count a n).cal = s.cal := rfl
@[simp] theorem State.count_lanes (s : State) (a n : Nat) : (s.count a n).lanes = s.lanes := rfl
@[simp] theorem State.count_ports (s : State) (a n : Nat) : (s.count a n).ports = s.ports := rfl
@[simp] theorem State.count_cls (s : State) (a n : Nat) : (s.count a n).cls = s.cls := rfl
@[simp] theorem State.count_fdb (s : State) (a n : Nat) : (s.count a n).fdb = s.fdb := rfl
@[simp] theorem State.count_tm (s : State) (a n : Nat) : (s.count a n).tm = s.tm := rfl
@[simp] theorem State.count_time (s : State) (a n : Nat) : (s.count a n).time = s.time := rfl
@[simp] theorem State.count_ikl (s : State) (a n : Nat) : (s.count a n).ikl = s.ikl := rfl
@[simp] theorem State.count_cx (s : State) (a n : Nat) : (s.count a n).cx = s.cx := rfl
@[simp] theorem State.count_bm (s : State) (a n : Nat) : (s.count a n).bm = s.bm := rfl
@[simp] theorem State.count_red (s : State) (a n : Nat) : (s.count a n).red = s.red := rfl

/-! ### granted -/

@[simp] theorem State.granted_pending (s : State) (t m : Nat) : (s.granted t m).pending = s.pending := rfl
@[simp] theorem State.granted_clk (s : State) (t m : Nat) : (s.granted t m).clk = s.clk := rfl
@[simp] theorem State.granted_freeCtr (s : State) (t m : Nat) : (s.granted t m).freeCtr = s.freeCtr := rfl
@[simp] theorem State.granted_regs (s : State) (t m : Nat) : (s.granted t m).regs = s.regs := rfl
@[simp] theorem State.granted_locks (s : State) (t m : Nat) : (s.granted t m).locks = s.locks := rfl
@[simp] theorem State.granted_evLast (s : State) (t m : Nat) : (s.granted t m).evLast = s.evLast := rfl
@[simp] theorem State.granted_winLatch (s : State) (t m : Nat) : (s.granted t m).winLatch = s.winLatch := rfl
@[simp] theorem State.granted_readData (s : State) (t m : Nat) : (s.granted t m).readData = s.readData := rfl
@[simp] theorem State.granted_out (s : State) (t m : Nat) : (s.granted t m).out = s.out := rfl
@[simp] theorem State.granted_host (s : State) (t m : Nat) : (s.granted t m).host = s.host := rfl
@[simp] theorem State.granted_alertEvent (s : State) (t m : Nat) : (s.granted t m).alertEvent = s.alertEvent := rfl
@[simp] theorem State.granted_alertCode (s : State) (t m : Nat) : (s.granted t m).alertCode = s.alertCode := rfl
@[simp] theorem State.granted_noStandby (s : State) (t m : Nat) : (s.granted t m).noStandby = s.noStandby := rfl
@[simp] theorem State.granted_mode (s : State) (t m : Nat) : (s.granted t m).mode = s.mode := rfl
@[simp] theorem State.granted_pwr (s : State) (t m : Nat) : (s.granted t m).pwr = s.pwr := rfl
@[simp] theorem State.granted_ref (s : State) (t m : Nat) : (s.granted t m).ref = s.ref := rfl
@[simp] theorem State.granted_ret (s : State) (t m : Nat) : (s.granted t m).ret = s.ret := rfl
@[simp] theorem State.granted_store (s : State) (t m : Nat) : (s.granted t m).store = s.store := rfl
@[simp] theorem State.granted_start (s : State) (t m : Nat) : (s.granted t m).start = s.start := rfl
@[simp] theorem State.granted_canvas (s : State) (t m : Nat) : (s.granted t m).canvas = s.canvas := rfl
@[simp] theorem State.granted_pins (s : State) (t m : Nat) : (s.granted t m).pins = s.pins := rfl
@[simp] theorem State.granted_saf (s : State) (t m : Nat) : (s.granted t m).saf = s.saf := rfl
@[simp] theorem State.granted_thm (s : State) (t m : Nat) : (s.granted t m).thm = s.thm := rfl
@[simp] theorem State.granted_nvm (s : State) (t m : Nat) : (s.granted t m).nvm = s.nvm := rfl
@[simp] theorem State.granted_mx (s : State) (t m : Nat) : (s.granted t m).mx = s.mx := rfl
@[simp] theorem State.granted_orb (s : State) (t m : Nat) : (s.granted t m).orb = s.orb := rfl
@[simp] theorem State.granted_loops (s : State) (t m : Nat) : (s.granted t m).loops = s.loops := rfl
@[simp] theorem State.granted_eng (s : State) (t m : Nat) : (s.granted t m).eng = s.eng := rfl
@[simp] theorem State.granted_adc (s : State) (t m : Nat) : (s.granted t m).adc = s.adc := rfl
@[simp] theorem State.granted_dac (s : State) (t m : Nat) : (s.granted t m).dac = s.dac := rfl
@[simp] theorem State.granted_cal (s : State) (t m : Nat) : (s.granted t m).cal = s.cal := rfl
@[simp] theorem State.granted_lanes (s : State) (t m : Nat) : (s.granted t m).lanes = s.lanes := rfl
@[simp] theorem State.granted_ports (s : State) (t m : Nat) : (s.granted t m).ports = s.ports := rfl
@[simp] theorem State.granted_cls (s : State) (t m : Nat) : (s.granted t m).cls = s.cls := rfl
@[simp] theorem State.granted_fdb (s : State) (t m : Nat) : (s.granted t m).fdb = s.fdb := rfl
@[simp] theorem State.granted_tm (s : State) (t m : Nat) : (s.granted t m).tm = s.tm := rfl
@[simp] theorem State.granted_obs (s : State) (t m : Nat) : (s.granted t m).obs = s.obs := rfl
@[simp] theorem State.granted_time (s : State) (t m : Nat) : (s.granted t m).time = s.time := rfl
@[simp] theorem State.granted_ikl (s : State) (t m : Nat) : (s.granted t m).ikl = s.ikl := rfl
@[simp] theorem State.granted_cx (s : State) (t m : Nat) : (s.granted t m).cx = s.cx := rfl
@[simp] theorem State.granted_red (s : State) (t m : Nat) : (s.granted t m).red = s.red := rfl

/-! ### hostWrite -/

@[simp] theorem State.hostWrite_pending (s : State) (a : Nat) (b : Bytes) : (s.hostWrite a b).pending = s.pending := rfl
@[simp] theorem State.hostWrite_clk (s : State) (a : Nat) (b : Bytes) : (s.hostWrite a b).clk = s.clk := rfl
@[simp] theorem State.hostWrite_freeCtr (s : State) (a : Nat) (b : Bytes) : (s.hostWrite a b).freeCtr = s.freeCtr := rfl
@[simp] theorem State.hostWrite_regs (s : State) (a : Nat) (b : Bytes) : (s.hostWrite a b).regs = s.regs := rfl
@[simp] theorem State.hostWrite_locks (s : State) (a : Nat) (b : Bytes) : (s.hostWrite a b).locks = s.locks := rfl
@[simp] theorem State.hostWrite_evLast (s : State) (a : Nat) (b : Bytes) : (s.hostWrite a b).evLast = s.evLast := rfl
@[simp] theorem State.hostWrite_winLatch (s : State) (a : Nat) (b : Bytes) : (s.hostWrite a b).winLatch = s.winLatch := rfl
@[simp] theorem State.hostWrite_readData (s : State) (a : Nat) (b : Bytes) : (s.hostWrite a b).readData = s.readData := rfl
@[simp] theorem State.hostWrite_out (s : State) (a : Nat) (b : Bytes) : (s.hostWrite a b).out = s.out := rfl
@[simp] theorem State.hostWrite_alertEvent (s : State) (a : Nat) (b : Bytes) : (s.hostWrite a b).alertEvent = s.alertEvent := rfl
@[simp] theorem State.hostWrite_alertCode (s : State) (a : Nat) (b : Bytes) : (s.hostWrite a b).alertCode = s.alertCode := rfl
@[simp] theorem State.hostWrite_noStandby (s : State) (a : Nat) (b : Bytes) : (s.hostWrite a b).noStandby = s.noStandby := rfl
@[simp] theorem State.hostWrite_mode (s : State) (a : Nat) (b : Bytes) : (s.hostWrite a b).mode = s.mode := rfl
@[simp] theorem State.hostWrite_pwr (s : State) (a : Nat) (b : Bytes) : (s.hostWrite a b).pwr = s.pwr := rfl
@[simp] theorem State.hostWrite_ref (s : State) (a : Nat) (b : Bytes) : (s.hostWrite a b).ref = s.ref := rfl
@[simp] theorem State.hostWrite_ret (s : State) (a : Nat) (b : Bytes) : (s.hostWrite a b).ret = s.ret := rfl
@[simp] theorem State.hostWrite_store (s : State) (a : Nat) (b : Bytes) : (s.hostWrite a b).store = s.store := rfl
@[simp] theorem State.hostWrite_start (s : State) (a : Nat) (b : Bytes) : (s.hostWrite a b).start = s.start := rfl
@[simp] theorem State.hostWrite_canvas (s : State) (a : Nat) (b : Bytes) : (s.hostWrite a b).canvas = s.canvas := rfl
@[simp] theorem State.hostWrite_pins (s : State) (a : Nat) (b : Bytes) : (s.hostWrite a b).pins = s.pins := rfl
@[simp] theorem State.hostWrite_saf (s : State) (a : Nat) (b : Bytes) : (s.hostWrite a b).saf = s.saf := rfl
@[simp] theorem State.hostWrite_thm (s : State) (a : Nat) (b : Bytes) : (s.hostWrite a b).thm = s.thm := rfl
@[simp] theorem State.hostWrite_nvm (s : State) (a : Nat) (b : Bytes) : (s.hostWrite a b).nvm = s.nvm := rfl
@[simp] theorem State.hostWrite_mx (s : State) (a : Nat) (b : Bytes) : (s.hostWrite a b).mx = s.mx := rfl
@[simp] theorem State.hostWrite_orb (s : State) (a : Nat) (b : Bytes) : (s.hostWrite a b).orb = s.orb := rfl
@[simp] theorem State.hostWrite_loops (s : State) (a : Nat) (b : Bytes) : (s.hostWrite a b).loops = s.loops := rfl
@[simp] theorem State.hostWrite_eng (s : State) (a : Nat) (b : Bytes) : (s.hostWrite a b).eng = s.eng := rfl
@[simp] theorem State.hostWrite_adc (s : State) (a : Nat) (b : Bytes) : (s.hostWrite a b).adc = s.adc := rfl
@[simp] theorem State.hostWrite_dac (s : State) (a : Nat) (b : Bytes) : (s.hostWrite a b).dac = s.dac := rfl
@[simp] theorem State.hostWrite_cal (s : State) (a : Nat) (b : Bytes) : (s.hostWrite a b).cal = s.cal := rfl
@[simp] theorem State.hostWrite_lanes (s : State) (a : Nat) (b : Bytes) : (s.hostWrite a b).lanes = s.lanes := rfl
@[simp] theorem State.hostWrite_ports (s : State) (a : Nat) (b : Bytes) : (s.hostWrite a b).ports = s.ports := rfl
@[simp] theorem State.hostWrite_cls (s : State) (a : Nat) (b : Bytes) : (s.hostWrite a b).cls = s.cls := rfl
@[simp] theorem State.hostWrite_fdb (s : State) (a : Nat) (b : Bytes) : (s.hostWrite a b).fdb = s.fdb := rfl
@[simp] theorem State.hostWrite_tm (s : State) (a : Nat) (b : Bytes) : (s.hostWrite a b).tm = s.tm := rfl
@[simp] theorem State.hostWrite_obs (s : State) (a : Nat) (b : Bytes) : (s.hostWrite a b).obs = s.obs := rfl
@[simp] theorem State.hostWrite_time (s : State) (a : Nat) (b : Bytes) : (s.hostWrite a b).time = s.time := rfl
@[simp] theorem State.hostWrite_ikl (s : State) (a : Nat) (b : Bytes) : (s.hostWrite a b).ikl = s.ikl := rfl
@[simp] theorem State.hostWrite_cx (s : State) (a : Nat) (b : Bytes) : (s.hostWrite a b).cx = s.cx := rfl
@[simp] theorem State.hostWrite_bm (s : State) (a : Nat) (b : Bytes) : (s.hostWrite a b).bm = s.bm := rfl
@[simp] theorem State.hostWrite_red (s : State) (a : Nat) (b : Bytes) : (s.hostWrite a b).red = s.red := rfl

/-! ### raiseVector -/

@[simp] theorem State.raiseVector_pending (s : State) (v : Nat) : (s.raiseVector v).pending = s.pending := rfl
@[simp] theorem State.raiseVector_clk (s : State) (v : Nat) : (s.raiseVector v).clk = s.clk := rfl
@[simp] theorem State.raiseVector_freeCtr (s : State) (v : Nat) : (s.raiseVector v).freeCtr = s.freeCtr := rfl
@[simp] theorem State.raiseVector_regs (s : State) (v : Nat) : (s.raiseVector v).regs = s.regs := rfl
@[simp] theorem State.raiseVector_locks (s : State) (v : Nat) : (s.raiseVector v).locks = s.locks := rfl
@[simp] theorem State.raiseVector_evLast (s : State) (v : Nat) : (s.raiseVector v).evLast = s.evLast := rfl
@[simp] theorem State.raiseVector_winLatch (s : State) (v : Nat) : (s.raiseVector v).winLatch = s.winLatch := rfl
@[simp] theorem State.raiseVector_readData (s : State) (v : Nat) : (s.raiseVector v).readData = s.readData := rfl
@[simp] theorem State.raiseVector_out (s : State) (v : Nat) : (s.raiseVector v).out = s.out := rfl
@[simp] theorem State.raiseVector_host (s : State) (v : Nat) : (s.raiseVector v).host = s.host := rfl
@[simp] theorem State.raiseVector_alertEvent (s : State) (v : Nat) : (s.raiseVector v).alertEvent = s.alertEvent := rfl
@[simp] theorem State.raiseVector_alertCode (s : State) (v : Nat) : (s.raiseVector v).alertCode = s.alertCode := rfl
@[simp] theorem State.raiseVector_noStandby (s : State) (v : Nat) : (s.raiseVector v).noStandby = s.noStandby := rfl
@[simp] theorem State.raiseVector_mode (s : State) (v : Nat) : (s.raiseVector v).mode = s.mode := rfl
@[simp] theorem State.raiseVector_pwr (s : State) (v : Nat) : (s.raiseVector v).pwr = s.pwr := rfl
@[simp] theorem State.raiseVector_ref (s : State) (v : Nat) : (s.raiseVector v).ref = s.ref := rfl
@[simp] theorem State.raiseVector_ret (s : State) (v : Nat) : (s.raiseVector v).ret = s.ret := rfl
@[simp] theorem State.raiseVector_store (s : State) (v : Nat) : (s.raiseVector v).store = s.store := rfl
@[simp] theorem State.raiseVector_start (s : State) (v : Nat) : (s.raiseVector v).start = s.start := rfl
@[simp] theorem State.raiseVector_canvas (s : State) (v : Nat) : (s.raiseVector v).canvas = s.canvas := rfl
@[simp] theorem State.raiseVector_pins (s : State) (v : Nat) : (s.raiseVector v).pins = s.pins := rfl
@[simp] theorem State.raiseVector_saf (s : State) (v : Nat) : (s.raiseVector v).saf = s.saf := rfl
@[simp] theorem State.raiseVector_thm (s : State) (v : Nat) : (s.raiseVector v).thm = s.thm := rfl
@[simp] theorem State.raiseVector_nvm (s : State) (v : Nat) : (s.raiseVector v).nvm = s.nvm := rfl
@[simp] theorem State.raiseVector_mx (s : State) (v : Nat) : (s.raiseVector v).mx = s.mx := rfl
@[simp] theorem State.raiseVector_orb (s : State) (v : Nat) : (s.raiseVector v).orb = s.orb := rfl
@[simp] theorem State.raiseVector_loops (s : State) (v : Nat) : (s.raiseVector v).loops = s.loops := rfl
@[simp] theorem State.raiseVector_eng (s : State) (v : Nat) : (s.raiseVector v).eng = s.eng := rfl
@[simp] theorem State.raiseVector_adc (s : State) (v : Nat) : (s.raiseVector v).adc = s.adc := rfl
@[simp] theorem State.raiseVector_dac (s : State) (v : Nat) : (s.raiseVector v).dac = s.dac := rfl
@[simp] theorem State.raiseVector_cal (s : State) (v : Nat) : (s.raiseVector v).cal = s.cal := rfl
@[simp] theorem State.raiseVector_lanes (s : State) (v : Nat) : (s.raiseVector v).lanes = s.lanes := rfl
@[simp] theorem State.raiseVector_ports (s : State) (v : Nat) : (s.raiseVector v).ports = s.ports := rfl
@[simp] theorem State.raiseVector_cls (s : State) (v : Nat) : (s.raiseVector v).cls = s.cls := rfl
@[simp] theorem State.raiseVector_fdb (s : State) (v : Nat) : (s.raiseVector v).fdb = s.fdb := rfl
@[simp] theorem State.raiseVector_tm (s : State) (v : Nat) : (s.raiseVector v).tm = s.tm := rfl
@[simp] theorem State.raiseVector_obs (s : State) (v : Nat) : (s.raiseVector v).obs = s.obs := rfl
@[simp] theorem State.raiseVector_time (s : State) (v : Nat) : (s.raiseVector v).time = s.time := rfl
@[simp] theorem State.raiseVector_ikl (s : State) (v : Nat) : (s.raiseVector v).ikl = s.ikl := rfl
@[simp] theorem State.raiseVector_bm (s : State) (v : Nat) : (s.raiseVector v).bm = s.bm := rfl
@[simp] theorem State.raiseVector_red (s : State) (v : Nat) : (s.raiseVector v).red = s.red := rfl

/-! ### flashJob -/

@[simp] theorem State.flashJob_pending (s : State) (j : FlashJob) : (s.flashJob j).pending = s.pending := rfl
@[simp] theorem State.flashJob_clk (s : State) (j : FlashJob) : (s.flashJob j).clk = s.clk := rfl
@[simp] theorem State.flashJob_freeCtr (s : State) (j : FlashJob) : (s.flashJob j).freeCtr = s.freeCtr := rfl
@[simp] theorem State.flashJob_regs (s : State) (j : FlashJob) : (s.flashJob j).regs = s.regs := rfl
@[simp] theorem State.flashJob_locks (s : State) (j : FlashJob) : (s.flashJob j).locks = s.locks := rfl
@[simp] theorem State.flashJob_evLast (s : State) (j : FlashJob) : (s.flashJob j).evLast = s.evLast := rfl
@[simp] theorem State.flashJob_winLatch (s : State) (j : FlashJob) : (s.flashJob j).winLatch = s.winLatch := rfl
@[simp] theorem State.flashJob_readData (s : State) (j : FlashJob) : (s.flashJob j).readData = s.readData := rfl
@[simp] theorem State.flashJob_out (s : State) (j : FlashJob) : (s.flashJob j).out = s.out := rfl
@[simp] theorem State.flashJob_host (s : State) (j : FlashJob) : (s.flashJob j).host = s.host := rfl
@[simp] theorem State.flashJob_alertEvent (s : State) (j : FlashJob) : (s.flashJob j).alertEvent = s.alertEvent := rfl
@[simp] theorem State.flashJob_alertCode (s : State) (j : FlashJob) : (s.flashJob j).alertCode = s.alertCode := rfl
@[simp] theorem State.flashJob_noStandby (s : State) (j : FlashJob) : (s.flashJob j).noStandby = s.noStandby := rfl
@[simp] theorem State.flashJob_mode (s : State) (j : FlashJob) : (s.flashJob j).mode = s.mode := rfl
@[simp] theorem State.flashJob_pwr (s : State) (j : FlashJob) : (s.flashJob j).pwr = s.pwr := rfl
@[simp] theorem State.flashJob_ref (s : State) (j : FlashJob) : (s.flashJob j).ref = s.ref := rfl
@[simp] theorem State.flashJob_ret (s : State) (j : FlashJob) : (s.flashJob j).ret = s.ret := rfl
@[simp] theorem State.flashJob_store (s : State) (j : FlashJob) : (s.flashJob j).store = s.store := rfl
@[simp] theorem State.flashJob_start (s : State) (j : FlashJob) : (s.flashJob j).start = s.start := rfl
@[simp] theorem State.flashJob_canvas (s : State) (j : FlashJob) : (s.flashJob j).canvas = s.canvas := rfl
@[simp] theorem State.flashJob_pins (s : State) (j : FlashJob) : (s.flashJob j).pins = s.pins := rfl
@[simp] theorem State.flashJob_saf (s : State) (j : FlashJob) : (s.flashJob j).saf = s.saf := rfl
@[simp] theorem State.flashJob_thm (s : State) (j : FlashJob) : (s.flashJob j).thm = s.thm := rfl
@[simp] theorem State.flashJob_mx (s : State) (j : FlashJob) : (s.flashJob j).mx = s.mx := rfl
@[simp] theorem State.flashJob_orb (s : State) (j : FlashJob) : (s.flashJob j).orb = s.orb := rfl
@[simp] theorem State.flashJob_loops (s : State) (j : FlashJob) : (s.flashJob j).loops = s.loops := rfl
@[simp] theorem State.flashJob_eng (s : State) (j : FlashJob) : (s.flashJob j).eng = s.eng := rfl
@[simp] theorem State.flashJob_adc (s : State) (j : FlashJob) : (s.flashJob j).adc = s.adc := rfl
@[simp] theorem State.flashJob_dac (s : State) (j : FlashJob) : (s.flashJob j).dac = s.dac := rfl
@[simp] theorem State.flashJob_cal (s : State) (j : FlashJob) : (s.flashJob j).cal = s.cal := rfl
@[simp] theorem State.flashJob_lanes (s : State) (j : FlashJob) : (s.flashJob j).lanes = s.lanes := rfl
@[simp] theorem State.flashJob_ports (s : State) (j : FlashJob) : (s.flashJob j).ports = s.ports := rfl
@[simp] theorem State.flashJob_cls (s : State) (j : FlashJob) : (s.flashJob j).cls = s.cls := rfl
@[simp] theorem State.flashJob_fdb (s : State) (j : FlashJob) : (s.flashJob j).fdb = s.fdb := rfl
@[simp] theorem State.flashJob_tm (s : State) (j : FlashJob) : (s.flashJob j).tm = s.tm := rfl
@[simp] theorem State.flashJob_obs (s : State) (j : FlashJob) : (s.flashJob j).obs = s.obs := rfl
@[simp] theorem State.flashJob_time (s : State) (j : FlashJob) : (s.flashJob j).time = s.time := rfl
@[simp] theorem State.flashJob_ikl (s : State) (j : FlashJob) : (s.flashJob j).ikl = s.ikl := rfl
@[simp] theorem State.flashJob_cx (s : State) (j : FlashJob) : (s.flashJob j).cx = s.cx := rfl
@[simp] theorem State.flashJob_bm (s : State) (j : FlashJob) : (s.flashJob j).bm = s.bm := rfl
@[simp] theorem State.flashJob_red (s : State) (j : FlashJob) : (s.flashJob j).red = s.red := rfl

/-! ### emit -/

@[simp] theorem State.emit_pending (s : State) (o : Out) : (s.emit o).pending = s.pending := rfl
@[simp] theorem State.emit_clk (s : State) (o : Out) : (s.emit o).clk = s.clk := rfl
@[simp] theorem State.emit_freeCtr (s : State) (o : Out) : (s.emit o).freeCtr = s.freeCtr := rfl
@[simp] theorem State.emit_regs (s : State) (o : Out) : (s.emit o).regs = s.regs := rfl
@[simp] theorem State.emit_locks (s : State) (o : Out) : (s.emit o).locks = s.locks := rfl
@[simp] theorem State.emit_evLast (s : State) (o : Out) : (s.emit o).evLast = s.evLast := rfl
@[simp] theorem State.emit_winLatch (s : State) (o : Out) : (s.emit o).winLatch = s.winLatch := rfl
@[simp] theorem State.emit_readData (s : State) (o : Out) : (s.emit o).readData = s.readData := rfl
@[simp] theorem State.emit_host (s : State) (o : Out) : (s.emit o).host = s.host := rfl
@[simp] theorem State.emit_alertEvent (s : State) (o : Out) : (s.emit o).alertEvent = s.alertEvent := rfl
@[simp] theorem State.emit_alertCode (s : State) (o : Out) : (s.emit o).alertCode = s.alertCode := rfl
@[simp] theorem State.emit_noStandby (s : State) (o : Out) : (s.emit o).noStandby = s.noStandby := rfl
@[simp] theorem State.emit_mode (s : State) (o : Out) : (s.emit o).mode = s.mode := rfl
@[simp] theorem State.emit_pwr (s : State) (o : Out) : (s.emit o).pwr = s.pwr := rfl
@[simp] theorem State.emit_ref (s : State) (o : Out) : (s.emit o).ref = s.ref := rfl
@[simp] theorem State.emit_ret (s : State) (o : Out) : (s.emit o).ret = s.ret := rfl
@[simp] theorem State.emit_store (s : State) (o : Out) : (s.emit o).store = s.store := rfl
@[simp] theorem State.emit_start (s : State) (o : Out) : (s.emit o).start = s.start := rfl
@[simp] theorem State.emit_canvas (s : State) (o : Out) : (s.emit o).canvas = s.canvas := rfl
@[simp] theorem State.emit_pins (s : State) (o : Out) : (s.emit o).pins = s.pins := rfl
@[simp] theorem State.emit_saf (s : State) (o : Out) : (s.emit o).saf = s.saf := rfl
@[simp] theorem State.emit_thm (s : State) (o : Out) : (s.emit o).thm = s.thm := rfl
@[simp] theorem State.emit_nvm (s : State) (o : Out) : (s.emit o).nvm = s.nvm := rfl
@[simp] theorem State.emit_mx (s : State) (o : Out) : (s.emit o).mx = s.mx := rfl
@[simp] theorem State.emit_orb (s : State) (o : Out) : (s.emit o).orb = s.orb := rfl
@[simp] theorem State.emit_loops (s : State) (o : Out) : (s.emit o).loops = s.loops := rfl
@[simp] theorem State.emit_eng (s : State) (o : Out) : (s.emit o).eng = s.eng := rfl
@[simp] theorem State.emit_adc (s : State) (o : Out) : (s.emit o).adc = s.adc := rfl
@[simp] theorem State.emit_dac (s : State) (o : Out) : (s.emit o).dac = s.dac := rfl
@[simp] theorem State.emit_cal (s : State) (o : Out) : (s.emit o).cal = s.cal := rfl
@[simp] theorem State.emit_lanes (s : State) (o : Out) : (s.emit o).lanes = s.lanes := rfl
@[simp] theorem State.emit_ports (s : State) (o : Out) : (s.emit o).ports = s.ports := rfl
@[simp] theorem State.emit_cls (s : State) (o : Out) : (s.emit o).cls = s.cls := rfl
@[simp] theorem State.emit_fdb (s : State) (o : Out) : (s.emit o).fdb = s.fdb := rfl
@[simp] theorem State.emit_tm (s : State) (o : Out) : (s.emit o).tm = s.tm := rfl
@[simp] theorem State.emit_obs (s : State) (o : Out) : (s.emit o).obs = s.obs := rfl
@[simp] theorem State.emit_time (s : State) (o : Out) : (s.emit o).time = s.time := rfl
@[simp] theorem State.emit_ikl (s : State) (o : Out) : (s.emit o).ikl = s.ikl := rfl
@[simp] theorem State.emit_cx (s : State) (o : Out) : (s.emit o).cx = s.cx := rfl
@[simp] theorem State.emit_bm (s : State) (o : Out) : (s.emit o).bm = s.bm := rfl
@[simp] theorem State.emit_red (s : State) (o : Out) : (s.emit o).red = s.red := rfl

end Sys2Proof.Machine
end

