-- ==== Sys2Proof/Laws/Exchange.lean ====
section
/-!
SUPPORT. What events, results and completions leave alone. `lessEvents` and `lessExchange` are the state without the
parts that an event and a completion can change; every other field is unchanged, one lemma each.
-/

namespace Sys2Proof.Machine

/-- The state without what an event can change. -/
def State.lessEvents (s : State) : State :=
  { s with cx := {}, obs := {}, nvm := {}, host := [], regs := [], alertEvent := false, alertCode := 0, evLast := [] }

/-- The state without what a completion can change. -/
def State.lessExchange (s : State) : State := { s with cx := {}, host := [] }

/-! ### Vectors -/

theorem State.coalesce_lessExchange (s : State) (src : Nat) : (s.coalesce src).lessExchange = s.lessExchange := by
  unfold State.coalesce; dsimp only; split <;> rfl

@[simp] theorem State.coalesce_pending (s : State) (src : Nat) : (s.coalesce src).pending = s.pending := by
  have h := congrArg State.pending (State.coalesce_lessExchange s src); exact h
@[simp] theorem State.coalesce_clk (s : State) (src : Nat) : (s.coalesce src).clk = s.clk := by
  have h := congrArg State.clk (State.coalesce_lessExchange s src); exact h
@[simp] theorem State.coalesce_freeCtr (s : State) (src : Nat) : (s.coalesce src).freeCtr = s.freeCtr := by
  have h := congrArg State.freeCtr (State.coalesce_lessExchange s src); exact h
@[simp] theorem State.coalesce_regs (s : State) (src : Nat) : (s.coalesce src).regs = s.regs := by
  have h := congrArg State.regs (State.coalesce_lessExchange s src); exact h
@[simp] theorem State.coalesce_locks (s : State) (src : Nat) : (s.coalesce src).locks = s.locks := by
  have h := congrArg State.locks (State.coalesce_lessExchange s src); exact h
@[simp] theorem State.coalesce_evLast (s : State) (src : Nat) : (s.coalesce src).evLast = s.evLast := by
  have h := congrArg State.evLast (State.coalesce_lessExchange s src); exact h
@[simp] theorem State.coalesce_winLatch (s : State) (src : Nat) : (s.coalesce src).winLatch = s.winLatch := by
  have h := congrArg State.winLatch (State.coalesce_lessExchange s src); exact h
@[simp] theorem State.coalesce_readData (s : State) (src : Nat) : (s.coalesce src).readData = s.readData := by
  have h := congrArg State.readData (State.coalesce_lessExchange s src); exact h
@[simp] theorem State.coalesce_out (s : State) (src : Nat) : (s.coalesce src).out = s.out := by
  have h := congrArg State.out (State.coalesce_lessExchange s src); exact h
@[simp] theorem State.coalesce_alertEvent (s : State) (src : Nat) : (s.coalesce src).alertEvent = s.alertEvent := by
  have h := congrArg State.alertEvent (State.coalesce_lessExchange s src); exact h
@[simp] theorem State.coalesce_alertCode (s : State) (src : Nat) : (s.coalesce src).alertCode = s.alertCode := by
  have h := congrArg State.alertCode (State.coalesce_lessExchange s src); exact h
@[simp] theorem State.coalesce_noStandby (s : State) (src : Nat) : (s.coalesce src).noStandby = s.noStandby := by
  have h := congrArg State.noStandby (State.coalesce_lessExchange s src); exact h
@[simp] theorem State.coalesce_mode (s : State) (src : Nat) : (s.coalesce src).mode = s.mode := by
  have h := congrArg State.mode (State.coalesce_lessExchange s src); exact h
@[simp] theorem State.coalesce_pwr (s : State) (src : Nat) : (s.coalesce src).pwr = s.pwr := by
  have h := congrArg State.pwr (State.coalesce_lessExchange s src); exact h
@[simp] theorem State.coalesce_ref (s : State) (src : Nat) : (s.coalesce src).ref = s.ref := by
  have h := congrArg State.ref (State.coalesce_lessExchange s src); exact h
@[simp] theorem State.coalesce_ret (s : State) (src : Nat) : (s.coalesce src).ret = s.ret := by
  have h := congrArg State.ret (State.coalesce_lessExchange s src); exact h
@[simp] theorem State.coalesce_store (s : State) (src : Nat) : (s.coalesce src).store = s.store := by
  have h := congrArg State.store (State.coalesce_lessExchange s src); exact h
@[simp] theorem State.coalesce_start (s : State) (src : Nat) : (s.coalesce src).start = s.start := by
  have h := congrArg State.start (State.coalesce_lessExchange s src); exact h
@[simp] theorem State.coalesce_canvas (s : State) (src : Nat) : (s.coalesce src).canvas = s.canvas := by
  have h := congrArg State.canvas (State.coalesce_lessExchange s src); exact h
@[simp] theorem State.coalesce_pins (s : State) (src : Nat) : (s.coalesce src).pins = s.pins := by
  have h := congrArg State.pins (State.coalesce_lessExchange s src); exact h
@[simp] theorem State.coalesce_saf (s : State) (src : Nat) : (s.coalesce src).saf = s.saf := by
  have h := congrArg State.saf (State.coalesce_lessExchange s src); exact h
@[simp] theorem State.coalesce_thm (s : State) (src : Nat) : (s.coalesce src).thm = s.thm := by
  have h := congrArg State.thm (State.coalesce_lessExchange s src); exact h
@[simp] theorem State.coalesce_nvm (s : State) (src : Nat) : (s.coalesce src).nvm = s.nvm := by
  have h := congrArg State.nvm (State.coalesce_lessExchange s src); exact h
@[simp] theorem State.coalesce_mx (s : State) (src : Nat) : (s.coalesce src).mx = s.mx := by
  have h := congrArg State.mx (State.coalesce_lessExchange s src); exact h
@[simp] theorem State.coalesce_orb (s : State) (src : Nat) : (s.coalesce src).orb = s.orb := by
  have h := congrArg State.orb (State.coalesce_lessExchange s src); exact h
@[simp] theorem State.coalesce_loops (s : State) (src : Nat) : (s.coalesce src).loops = s.loops := by
  have h := congrArg State.loops (State.coalesce_lessExchange s src); exact h
@[simp] theorem State.coalesce_eng (s : State) (src : Nat) : (s.coalesce src).eng = s.eng := by
  have h := congrArg State.eng (State.coalesce_lessExchange s src); exact h
@[simp] theorem State.coalesce_adc (s : State) (src : Nat) : (s.coalesce src).adc = s.adc := by
  have h := congrArg State.adc (State.coalesce_lessExchange s src); exact h
@[simp] theorem State.coalesce_dac (s : State) (src : Nat) : (s.coalesce src).dac = s.dac := by
  have h := congrArg State.dac (State.coalesce_lessExchange s src); exact h
@[simp] theorem State.coalesce_cal (s : State) (src : Nat) : (s.coalesce src).cal = s.cal := by
  have h := congrArg State.cal (State.coalesce_lessExchange s src); exact h
@[simp] theorem State.coalesce_lanes (s : State) (src : Nat) : (s.coalesce src).lanes = s.lanes := by
  have h := congrArg State.lanes (State.coalesce_lessExchange s src); exact h
@[simp] theorem State.coalesce_ports (s : State) (src : Nat) : (s.coalesce src).ports = s.ports := by
  have h := congrArg State.ports (State.coalesce_lessExchange s src); exact h
@[simp] theorem State.coalesce_cls (s : State) (src : Nat) : (s.coalesce src).cls = s.cls := by
  have h := congrArg State.cls (State.coalesce_lessExchange s src); exact h
@[simp] theorem State.coalesce_fdb (s : State) (src : Nat) : (s.coalesce src).fdb = s.fdb := by
  have h := congrArg State.fdb (State.coalesce_lessExchange s src); exact h
@[simp] theorem State.coalesce_tm (s : State) (src : Nat) : (s.coalesce src).tm = s.tm := by
  have h := congrArg State.tm (State.coalesce_lessExchange s src); exact h
@[simp] theorem State.coalesce_obs (s : State) (src : Nat) : (s.coalesce src).obs = s.obs := by
  have h := congrArg State.obs (State.coalesce_lessExchange s src); exact h
@[simp] theorem State.coalesce_time (s : State) (src : Nat) : (s.coalesce src).time = s.time := by
  have h := congrArg State.time (State.coalesce_lessExchange s src); exact h
@[simp] theorem State.coalesce_ikl (s : State) (src : Nat) : (s.coalesce src).ikl = s.ikl := by
  have h := congrArg State.ikl (State.coalesce_lessExchange s src); exact h
@[simp] theorem State.coalesce_bm (s : State) (src : Nat) : (s.coalesce src).bm = s.bm := by
  have h := congrArg State.bm (State.coalesce_lessExchange s src); exact h
@[simp] theorem State.coalesce_red (s : State) (src : Nat) : (s.coalesce src).red = s.red := by
  have h := congrArg State.red (State.coalesce_lessExchange s src); exact h

/-! ### Events -/

theorem State.coalesce_lessEvents (s : State) (src : Nat) : (s.coalesce src).lessEvents = s.lessEvents := by
  unfold State.coalesce; dsimp only; split <;> rfl

theorem State.logPages_lessEvents (s : State) : s.logPages.lessEvents = s.lessEvents := by
  unfold State.logPages; split <;> rfl

theorem State.lessEvents_alert (s : State) (a : Bool) (c : Nat) :
    ({ s with alertEvent := a, alertCode := c } : State).lessEvents = s.lessEvents := rfl

theorem State.count_lessEvents (s : State) (a n : Nat) : (s.count a n).lessEvents = s.lessEvents := rfl

theorem State.bump_lessEvents (s : State) (f : FieldRef) (n : Nat) : (s.bump f n).lessEvents = s.lessEvents := rfl

theorem State.hostWrite_lessEvents (s : State) (a : Nat) (b : Bytes) : (s.hostWrite a b).lessEvents = s.lessEvents := rfl

theorem State.lessEvents_ite (c : Prop) [Decidable c] (a b : State) :
    (if c then a else b).lessEvents = if c then a.lessEvents else b.lessEvents := by
  split <;> rfl

theorem State.postEvt_lessEvents (s : State) (code fl : Nat) (d : Bytes) : (s.postEvt code fl d).lessEvents = s.lessEvents := by
  unfold State.postEvt
  dsimp only
  simp only [State.lessEvents_ite, State.lessEvents_alert, State.coalesce_lessEvents, State.hostWrite_lessEvents,
    State.bump_lessEvents, State.logPages_lessEvents, State.count_lessEvents, ite_self]
  split <;> rfl

@[simp] theorem State.postEvt_pending (s : State) (code fl : Nat) (d : Bytes) : (s.postEvt code fl d).pending = s.pending := by
  have h := congrArg State.pending (State.postEvt_lessEvents s code fl d); exact h
@[simp] theorem State.postEvt_clk (s : State) (code fl : Nat) (d : Bytes) : (s.postEvt code fl d).clk = s.clk := by
  have h := congrArg State.clk (State.postEvt_lessEvents s code fl d); exact h
@[simp] theorem State.postEvt_freeCtr (s : State) (code fl : Nat) (d : Bytes) : (s.postEvt code fl d).freeCtr = s.freeCtr := by
  have h := congrArg State.freeCtr (State.postEvt_lessEvents s code fl d); exact h
@[simp] theorem State.postEvt_locks (s : State) (code fl : Nat) (d : Bytes) : (s.postEvt code fl d).locks = s.locks := by
  have h := congrArg State.locks (State.postEvt_lessEvents s code fl d); exact h

@[simp] theorem State.postEvt_winLatch (s : State) (code fl : Nat) (d : Bytes) : (s.postEvt code fl d).winLatch = s.winLatch := by
  have h := congrArg State.winLatch (State.postEvt_lessEvents s code fl d); exact h
@[simp] theorem State.postEvt_readData (s : State) (code fl : Nat) (d : Bytes) : (s.postEvt code fl d).readData = s.readData := by
  have h := congrArg State.readData (State.postEvt_lessEvents s code fl d); exact h
@[simp] theorem State.postEvt_out (s : State) (code fl : Nat) (d : Bytes) : (s.postEvt code fl d).out = s.out := by
  have h := congrArg State.out (State.postEvt_lessEvents s code fl d); exact h
@[simp] theorem State.postEvt_noStandby (s : State) (code fl : Nat) (d : Bytes) : (s.postEvt code fl d).noStandby = s.noStandby := by
  have h := congrArg State.noStandby (State.postEvt_lessEvents s code fl d); exact h
@[simp] theorem State.postEvt_mode (s : State) (code fl : Nat) (d : Bytes) : (s.postEvt code fl d).mode = s.mode := by
  have h := congrArg State.mode (State.postEvt_lessEvents s code fl d); exact h
@[simp] theorem State.postEvt_pwr (s : State) (code fl : Nat) (d : Bytes) : (s.postEvt code fl d).pwr = s.pwr := by
  have h := congrArg State.pwr (State.postEvt_lessEvents s code fl d); exact h
@[simp] theorem State.postEvt_ref (s : State) (code fl : Nat) (d : Bytes) : (s.postEvt code fl d).ref = s.ref := by
  have h := congrArg State.ref (State.postEvt_lessEvents s code fl d); exact h
@[simp] theorem State.postEvt_ret (s : State) (code fl : Nat) (d : Bytes) : (s.postEvt code fl d).ret = s.ret := by
  have h := congrArg State.ret (State.postEvt_lessEvents s code fl d); exact h
@[simp] theorem State.postEvt_store (s : State) (code fl : Nat) (d : Bytes) : (s.postEvt code fl d).store = s.store := by
  have h := congrArg State.store (State.postEvt_lessEvents s code fl d); exact h
@[simp] theorem State.postEvt_start (s : State) (code fl : Nat) (d : Bytes) : (s.postEvt code fl d).start = s.start := by
  have h := congrArg State.start (State.postEvt_lessEvents s code fl d); exact h
@[simp] theorem State.postEvt_canvas (s : State) (code fl : Nat) (d : Bytes) : (s.postEvt code fl d).canvas = s.canvas := by
  have h := congrArg State.canvas (State.postEvt_lessEvents s code fl d); exact h
@[simp] theorem State.postEvt_pins (s : State) (code fl : Nat) (d : Bytes) : (s.postEvt code fl d).pins = s.pins := by
  have h := congrArg State.pins (State.postEvt_lessEvents s code fl d); exact h
@[simp] theorem State.postEvt_saf (s : State) (code fl : Nat) (d : Bytes) : (s.postEvt code fl d).saf = s.saf := by
  have h := congrArg State.saf (State.postEvt_lessEvents s code fl d); exact h
@[simp] theorem State.postEvt_thm (s : State) (code fl : Nat) (d : Bytes) : (s.postEvt code fl d).thm = s.thm := by
  have h := congrArg State.thm (State.postEvt_lessEvents s code fl d); exact h
@[simp] theorem State.postEvt_mx (s : State) (code fl : Nat) (d : Bytes) : (s.postEvt code fl d).mx = s.mx := by
  have h := congrArg State.mx (State.postEvt_lessEvents s code fl d); exact h
@[simp] theorem State.postEvt_orb (s : State) (code fl : Nat) (d : Bytes) : (s.postEvt code fl d).orb = s.orb := by
  have h := congrArg State.orb (State.postEvt_lessEvents s code fl d); exact h
@[simp] theorem State.postEvt_loops (s : State) (code fl : Nat) (d : Bytes) : (s.postEvt code fl d).loops = s.loops := by
  have h := congrArg State.loops (State.postEvt_lessEvents s code fl d); exact h
@[simp] theorem State.postEvt_eng (s : State) (code fl : Nat) (d : Bytes) : (s.postEvt code fl d).eng = s.eng := by
  have h := congrArg State.eng (State.postEvt_lessEvents s code fl d); exact h
@[simp] theorem State.postEvt_adc (s : State) (code fl : Nat) (d : Bytes) : (s.postEvt code fl d).adc = s.adc := by
  have h := congrArg State.adc (State.postEvt_lessEvents s code fl d); exact h
@[simp] theorem State.postEvt_dac (s : State) (code fl : Nat) (d : Bytes) : (s.postEvt code fl d).dac = s.dac := by
  have h := congrArg State.dac (State.postEvt_lessEvents s code fl d); exact h
@[simp] theorem State.postEvt_cal (s : State) (code fl : Nat) (d : Bytes) : (s.postEvt code fl d).cal = s.cal := by
  have h := congrArg State.cal (State.postEvt_lessEvents s code fl d); exact h
@[simp] theorem State.postEvt_lanes (s : State) (code fl : Nat) (d : Bytes) : (s.postEvt code fl d).lanes = s.lanes := by
  have h := congrArg State.lanes (State.postEvt_lessEvents s code fl d); exact h
@[simp] theorem State.postEvt_ports (s : State) (code fl : Nat) (d : Bytes) : (s.postEvt code fl d).ports = s.ports := by
  have h := congrArg State.ports (State.postEvt_lessEvents s code fl d); exact h
@[simp] theorem State.postEvt_cls (s : State) (code fl : Nat) (d : Bytes) : (s.postEvt code fl d).cls = s.cls := by
  have h := congrArg State.cls (State.postEvt_lessEvents s code fl d); exact h
@[simp] theorem State.postEvt_fdb (s : State) (code fl : Nat) (d : Bytes) : (s.postEvt code fl d).fdb = s.fdb := by
  have h := congrArg State.fdb (State.postEvt_lessEvents s code fl d); exact h
@[simp] theorem State.postEvt_tm (s : State) (code fl : Nat) (d : Bytes) : (s.postEvt code fl d).tm = s.tm := by
  have h := congrArg State.tm (State.postEvt_lessEvents s code fl d); exact h
@[simp] theorem State.postEvt_time (s : State) (code fl : Nat) (d : Bytes) : (s.postEvt code fl d).time = s.time := by
  have h := congrArg State.time (State.postEvt_lessEvents s code fl d); exact h
@[simp] theorem State.postEvt_ikl (s : State) (code fl : Nat) (d : Bytes) : (s.postEvt code fl d).ikl = s.ikl := by
  have h := congrArg State.ikl (State.postEvt_lessEvents s code fl d); exact h
@[simp] theorem State.postEvt_bm (s : State) (code fl : Nat) (d : Bytes) : (s.postEvt code fl d).bm = s.bm := by
  have h := congrArg State.bm (State.postEvt_lessEvents s code fl d); exact h
@[simp] theorem State.postEvt_red (s : State) (code fl : Nat) (d : Bytes) : (s.postEvt code fl d).red = s.red := by
  have h := congrArg State.red (State.postEvt_lessEvents s code fl d); exact h

theorem State.raise_lessEvents (s : State) (code : Nat) (l : List (Nat × Nat)) : (s.raise code l).lessEvents = s.lessEvents := by
  unfold State.raise
  dsimp only
  split <;> simp only [State.postEvt_lessEvents]

@[simp] theorem State.raise_pending (s : State) (code : Nat) (l : List (Nat × Nat)) : (s.raise code l).pending = s.pending := by
  have h := congrArg State.pending (State.raise_lessEvents s code l); exact h
@[simp] theorem State.raise_clk (s : State) (code : Nat) (l : List (Nat × Nat)) : (s.raise code l).clk = s.clk := by
  have h := congrArg State.clk (State.raise_lessEvents s code l); exact h
@[simp] theorem State.raise_freeCtr (s : State) (code : Nat) (l : List (Nat × Nat)) : (s.raise code l).freeCtr = s.freeCtr := by
  have h := congrArg State.freeCtr (State.raise_lessEvents s code l); exact h
@[simp] theorem State.raise_locks (s : State) (code : Nat) (l : List (Nat × Nat)) : (s.raise code l).locks = s.locks := by
  have h := congrArg State.locks (State.raise_lessEvents s code l); exact h
@[simp] theorem State.raise_winLatch (s : State) (code : Nat) (l : List (Nat × Nat)) : (s.raise code l).winLatch = s.winLatch := by
  have h := congrArg State.winLatch (State.raise_lessEvents s code l); exact h
@[simp] theorem State.raise_readData (s : State) (code : Nat) (l : List (Nat × Nat)) : (s.raise code l).readData = s.readData := by
  have h := congrArg State.readData (State.raise_lessEvents s code l); exact h
@[simp] theorem State.raise_out (s : State) (code : Nat) (l : List (Nat × Nat)) : (s.raise code l).out = s.out := by
  have h := congrArg State.out (State.raise_lessEvents s code l); exact h
@[simp] theorem State.raise_noStandby (s : State) (code : Nat) (l : List (Nat × Nat)) : (s.raise code l).noStandby = s.noStandby := by
  have h := congrArg State.noStandby (State.raise_lessEvents s code l); exact h
@[simp] theorem State.raise_mode (s : State) (code : Nat) (l : List (Nat × Nat)) : (s.raise code l).mode = s.mode := by
  have h := congrArg State.mode (State.raise_lessEvents s code l); exact h
@[simp] theorem State.raise_pwr (s : State) (code : Nat) (l : List (Nat × Nat)) : (s.raise code l).pwr = s.pwr := by
  have h := congrArg State.pwr (State.raise_lessEvents s code l); exact h
@[simp] theorem State.raise_ref (s : State) (code : Nat) (l : List (Nat × Nat)) : (s.raise code l).ref = s.ref := by
  have h := congrArg State.ref (State.raise_lessEvents s code l); exact h
@[simp] theorem State.raise_ret (s : State) (code : Nat) (l : List (Nat × Nat)) : (s.raise code l).ret = s.ret := by
  have h := congrArg State.ret (State.raise_lessEvents s code l); exact h
@[simp] theorem State.raise_store (s : State) (code : Nat) (l : List (Nat × Nat)) : (s.raise code l).store = s.store := by
  have h := congrArg State.store (State.raise_lessEvents s code l); exact h
@[simp] theorem State.raise_start (s : State) (code : Nat) (l : List (Nat × Nat)) : (s.raise code l).start = s.start := by
  have h := congrArg State.start (State.raise_lessEvents s code l); exact h
@[simp] theorem State.raise_canvas (s : State) (code : Nat) (l : List (Nat × Nat)) : (s.raise code l).canvas = s.canvas := by
  have h := congrArg State.canvas (State.raise_lessEvents s code l); exact h
@[simp] theorem State.raise_pins (s : State) (code : Nat) (l : List (Nat × Nat)) : (s.raise code l).pins = s.pins := by
  have h := congrArg State.pins (State.raise_lessEvents s code l); exact h
@[simp] theorem State.raise_saf (s : State) (code : Nat) (l : List (Nat × Nat)) : (s.raise code l).saf = s.saf := by
  have h := congrArg State.saf (State.raise_lessEvents s code l); exact h
@[simp] theorem State.raise_thm (s : State) (code : Nat) (l : List (Nat × Nat)) : (s.raise code l).thm = s.thm := by
  have h := congrArg State.thm (State.raise_lessEvents s code l); exact h
@[simp] theorem State.raise_mx (s : State) (code : Nat) (l : List (Nat × Nat)) : (s.raise code l).mx = s.mx := by
  have h := congrArg State.mx (State.raise_lessEvents s code l); exact h
@[simp] theorem State.raise_orb (s : State) (code : Nat) (l : List (Nat × Nat)) : (s.raise code l).orb = s.orb := by
  have h := congrArg State.orb (State.raise_lessEvents s code l); exact h
@[simp] theorem State.raise_loops (s : State) (code : Nat) (l : List (Nat × Nat)) : (s.raise code l).loops = s.loops := by
  have h := congrArg State.loops (State.raise_lessEvents s code l); exact h
@[simp] theorem State.raise_eng (s : State) (code : Nat) (l : List (Nat × Nat)) : (s.raise code l).eng = s.eng := by
  have h := congrArg State.eng (State.raise_lessEvents s code l); exact h
@[simp] theorem State.raise_adc (s : State) (code : Nat) (l : List (Nat × Nat)) : (s.raise code l).adc = s.adc := by
  have h := congrArg State.adc (State.raise_lessEvents s code l); exact h
@[simp] theorem State.raise_dac (s : State) (code : Nat) (l : List (Nat × Nat)) : (s.raise code l).dac = s.dac := by
  have h := congrArg State.dac (State.raise_lessEvents s code l); exact h
@[simp] theorem State.raise_cal (s : State) (code : Nat) (l : List (Nat × Nat)) : (s.raise code l).cal = s.cal := by
  have h := congrArg State.cal (State.raise_lessEvents s code l); exact h
@[simp] theorem State.raise_lanes (s : State) (code : Nat) (l : List (Nat × Nat)) : (s.raise code l).lanes = s.lanes := by
  have h := congrArg State.lanes (State.raise_lessEvents s code l); exact h
@[simp] theorem State.raise_ports (s : State) (code : Nat) (l : List (Nat × Nat)) : (s.raise code l).ports = s.ports := by
  have h := congrArg State.ports (State.raise_lessEvents s code l); exact h
@[simp] theorem State.raise_cls (s : State) (code : Nat) (l : List (Nat × Nat)) : (s.raise code l).cls = s.cls := by
  have h := congrArg State.cls (State.raise_lessEvents s code l); exact h
@[simp] theorem State.raise_fdb (s : State) (code : Nat) (l : List (Nat × Nat)) : (s.raise code l).fdb = s.fdb := by
  have h := congrArg State.fdb (State.raise_lessEvents s code l); exact h
@[simp] theorem State.raise_tm (s : State) (code : Nat) (l : List (Nat × Nat)) : (s.raise code l).tm = s.tm := by
  have h := congrArg State.tm (State.raise_lessEvents s code l); exact h
@[simp] theorem State.raise_time (s : State) (code : Nat) (l : List (Nat × Nat)) : (s.raise code l).time = s.time := by
  have h := congrArg State.time (State.raise_lessEvents s code l); exact h
@[simp] theorem State.raise_ikl (s : State) (code : Nat) (l : List (Nat × Nat)) : (s.raise code l).ikl = s.ikl := by
  have h := congrArg State.ikl (State.raise_lessEvents s code l); exact h
@[simp] theorem State.raise_bm (s : State) (code : Nat) (l : List (Nat × Nat)) : (s.raise code l).bm = s.bm := by
  have h := congrArg State.bm (State.raise_lessEvents s code l); exact h
@[simp] theorem State.raise_red (s : State) (code : Nat) (l : List (Nat × Nat)) : (s.raise code l).red = s.red := by
  have h := congrArg State.red (State.raise_lessEvents s code l); exact h

theorem State.raiseLim_lessEvents (s : State) (code sub : Nat) (l : List (Nat × Nat)) : (s.raiseLim code sub l).lessEvents = s.lessEvents := by
  have keep : ∀ e, ({ s with evLast := e } : State).lessEvents = s.lessEvents := fun _ => rfl
  unfold State.raiseLim
  dsimp only
  split
  · split
    · rfl
    · simp only [State.raise_lessEvents, keep]
  · simp only [State.raise_lessEvents, keep]

@[simp] theorem State.raiseLim_pending (s : State) (code sub : Nat) (l : List (Nat × Nat)) : (s.raiseLim code sub l).pending = s.pending := by
  have h := congrArg State.pending (State.raiseLim_lessEvents s code sub l); exact h
@[simp] theorem State.raiseLim_clk (s : State) (code sub : Nat) (l : List (Nat × Nat)) : (s.raiseLim code sub l).clk = s.clk := by
  have h := congrArg State.clk (State.raiseLim_lessEvents s code sub l); exact h
@[simp] theorem State.raiseLim_freeCtr (s : State) (code sub : Nat) (l : List (Nat × Nat)) : (s.raiseLim code sub l).freeCtr = s.freeCtr := by
  have h := congrArg State.freeCtr (State.raiseLim_lessEvents s code sub l); exact h
@[simp] theorem State.raiseLim_locks (s : State) (code sub : Nat) (l : List (Nat × Nat)) : (s.raiseLim code sub l).locks = s.locks := by
  have h := congrArg State.locks (State.raiseLim_lessEvents s code sub l); exact h
@[simp] theorem State.raiseLim_winLatch (s : State) (code sub : Nat) (l : List (Nat × Nat)) : (s.raiseLim code sub l).winLatch = s.winLatch := by
  have h := congrArg State.winLatch (State.raiseLim_lessEvents s code sub l); exact h
@[simp] theorem State.raiseLim_readData (s : State) (code sub : Nat) (l : List (Nat × Nat)) : (s.raiseLim code sub l).readData = s.readData := by
  have h := congrArg State.readData (State.raiseLim_lessEvents s code sub l); exact h
@[simp] theorem State.raiseLim_out (s : State) (code sub : Nat) (l : List (Nat × Nat)) : (s.raiseLim code sub l).out = s.out := by
  have h := congrArg State.out (State.raiseLim_lessEvents s code sub l); exact h
@[simp] theorem State.raiseLim_noStandby (s : State) (code sub : Nat) (l : List (Nat × Nat)) : (s.raiseLim code sub l).noStandby = s.noStandby := by
  have h := congrArg State.noStandby (State.raiseLim_lessEvents s code sub l); exact h
@[simp] theorem State.raiseLim_mode (s : State) (code sub : Nat) (l : List (Nat × Nat)) : (s.raiseLim code sub l).mode = s.mode := by
  have h := congrArg State.mode (State.raiseLim_lessEvents s code sub l); exact h
@[simp] theorem State.raiseLim_pwr (s : State) (code sub : Nat) (l : List (Nat × Nat)) : (s.raiseLim code sub l).pwr = s.pwr := by
  have h := congrArg State.pwr (State.raiseLim_lessEvents s code sub l); exact h
@[simp] theorem State.raiseLim_ref (s : State) (code sub : Nat) (l : List (Nat × Nat)) : (s.raiseLim code sub l).ref = s.ref := by
  have h := congrArg State.ref (State.raiseLim_lessEvents s code sub l); exact h
@[simp] theorem State.raiseLim_ret (s : State) (code sub : Nat) (l : List (Nat × Nat)) : (s.raiseLim code sub l).ret = s.ret := by
  have h := congrArg State.ret (State.raiseLim_lessEvents s code sub l); exact h
@[simp] theorem State.raiseLim_store (s : State) (code sub : Nat) (l : List (Nat × Nat)) : (s.raiseLim code sub l).store = s.store := by
  have h := congrArg State.store (State.raiseLim_lessEvents s code sub l); exact h
@[simp] theorem State.raiseLim_start (s : State) (code sub : Nat) (l : List (Nat × Nat)) : (s.raiseLim code sub l).start = s.start := by
  have h := congrArg State.start (State.raiseLim_lessEvents s code sub l); exact h
@[simp] theorem State.raiseLim_canvas (s : State) (code sub : Nat) (l : List (Nat × Nat)) : (s.raiseLim code sub l).canvas = s.canvas := by
  have h := congrArg State.canvas (State.raiseLim_lessEvents s code sub l); exact h
@[simp] theorem State.raiseLim_pins (s : State) (code sub : Nat) (l : List (Nat × Nat)) : (s.raiseLim code sub l).pins = s.pins := by
  have h := congrArg State.pins (State.raiseLim_lessEvents s code sub l); exact h
@[simp] theorem State.raiseLim_saf (s : State) (code sub : Nat) (l : List (Nat × Nat)) : (s.raiseLim code sub l).saf = s.saf := by
  have h := congrArg State.saf (State.raiseLim_lessEvents s code sub l); exact h
@[simp] theorem State.raiseLim_thm (s : State) (code sub : Nat) (l : List (Nat × Nat)) : (s.raiseLim code sub l).thm = s.thm := by
  have h := congrArg State.thm (State.raiseLim_lessEvents s code sub l); exact h
@[simp] theorem State.raiseLim_mx (s : State) (code sub : Nat) (l : List (Nat × Nat)) : (s.raiseLim code sub l).mx = s.mx := by
  have h := congrArg State.mx (State.raiseLim_lessEvents s code sub l); exact h
@[simp] theorem State.raiseLim_orb (s : State) (code sub : Nat) (l : List (Nat × Nat)) : (s.raiseLim code sub l).orb = s.orb := by
  have h := congrArg State.orb (State.raiseLim_lessEvents s code sub l); exact h
@[simp] theorem State.raiseLim_loops (s : State) (code sub : Nat) (l : List (Nat × Nat)) : (s.raiseLim code sub l).loops = s.loops := by
  have h := congrArg State.loops (State.raiseLim_lessEvents s code sub l); exact h
@[simp] theorem State.raiseLim_eng (s : State) (code sub : Nat) (l : List (Nat × Nat)) : (s.raiseLim code sub l).eng = s.eng := by
  have h := congrArg State.eng (State.raiseLim_lessEvents s code sub l); exact h
@[simp] theorem State.raiseLim_adc (s : State) (code sub : Nat) (l : List (Nat × Nat)) : (s.raiseLim code sub l).adc = s.adc := by
  have h := congrArg State.adc (State.raiseLim_lessEvents s code sub l); exact h
@[simp] theorem State.raiseLim_dac (s : State) (code sub : Nat) (l : List (Nat × Nat)) : (s.raiseLim code sub l).dac = s.dac := by
  have h := congrArg State.dac (State.raiseLim_lessEvents s code sub l); exact h
@[simp] theorem State.raiseLim_cal (s : State) (code sub : Nat) (l : List (Nat × Nat)) : (s.raiseLim code sub l).cal = s.cal := by
  have h := congrArg State.cal (State.raiseLim_lessEvents s code sub l); exact h
@[simp] theorem State.raiseLim_lanes (s : State) (code sub : Nat) (l : List (Nat × Nat)) : (s.raiseLim code sub l).lanes = s.lanes := by
  have h := congrArg State.lanes (State.raiseLim_lessEvents s code sub l); exact h
@[simp] theorem State.raiseLim_ports (s : State) (code sub : Nat) (l : List (Nat × Nat)) : (s.raiseLim code sub l).ports = s.ports := by
  have h := congrArg State.ports (State.raiseLim_lessEvents s code sub l); exact h
@[simp] theorem State.raiseLim_cls (s : State) (code sub : Nat) (l : List (Nat × Nat)) : (s.raiseLim code sub l).cls = s.cls := by
  have h := congrArg State.cls (State.raiseLim_lessEvents s code sub l); exact h
@[simp] theorem State.raiseLim_fdb (s : State) (code sub : Nat) (l : List (Nat × Nat)) : (s.raiseLim code sub l).fdb = s.fdb := by
  have h := congrArg State.fdb (State.raiseLim_lessEvents s code sub l); exact h
@[simp] theorem State.raiseLim_tm (s : State) (code sub : Nat) (l : List (Nat × Nat)) : (s.raiseLim code sub l).tm = s.tm := by
  have h := congrArg State.tm (State.raiseLim_lessEvents s code sub l); exact h
@[simp] theorem State.raiseLim_time (s : State) (code sub : Nat) (l : List (Nat × Nat)) : (s.raiseLim code sub l).time = s.time := by
  have h := congrArg State.time (State.raiseLim_lessEvents s code sub l); exact h
@[simp] theorem State.raiseLim_ikl (s : State) (code sub : Nat) (l : List (Nat × Nat)) : (s.raiseLim code sub l).ikl = s.ikl := by
  have h := congrArg State.ikl (State.raiseLim_lessEvents s code sub l); exact h
@[simp] theorem State.raiseLim_bm (s : State) (code sub : Nat) (l : List (Nat × Nat)) : (s.raiseLim code sub l).bm = s.bm := by
  have h := congrArg State.bm (State.raiseLim_lessEvents s code sub l); exact h
@[simp] theorem State.raiseLim_red (s : State) (code sub : Nat) (l : List (Nat × Nat)) : (s.raiseLim code sub l).red = s.red := by
  have h := congrArg State.red (State.raiseLim_lessEvents s code sub l); exact h

/-! ### Completions -/

theorem State.setRing_lessExchange (s : State) (r : Nat) (x : Ring) : (s.setRing r x).lessExchange = s.lessExchange := by
  rfl

@[simp] theorem State.setRing_pending (s : State) (r : Nat) (x : Ring) : (s.setRing r x).pending = s.pending := by
  have h := congrArg State.pending (State.setRing_lessExchange s r x); exact h
@[simp] theorem State.setRing_clk (s : State) (r : Nat) (x : Ring) : (s.setRing r x).clk = s.clk := by
  have h := congrArg State.clk (State.setRing_lessExchange s r x); exact h
@[simp] theorem State.setRing_freeCtr (s : State) (r : Nat) (x : Ring) : (s.setRing r x).freeCtr = s.freeCtr := by
  have h := congrArg State.freeCtr (State.setRing_lessExchange s r x); exact h
@[simp] theorem State.setRing_regs (s : State) (r : Nat) (x : Ring) : (s.setRing r x).regs = s.regs := by
  have h := congrArg State.regs (State.setRing_lessExchange s r x); exact h
@[simp] theorem State.setRing_locks (s : State) (r : Nat) (x : Ring) : (s.setRing r x).locks = s.locks := by
  have h := congrArg State.locks (State.setRing_lessExchange s r x); exact h
@[simp] theorem State.setRing_evLast (s : State) (r : Nat) (x : Ring) : (s.setRing r x).evLast = s.evLast := by
  have h := congrArg State.evLast (State.setRing_lessExchange s r x); exact h
@[simp] theorem State.setRing_winLatch (s : State) (r : Nat) (x : Ring) : (s.setRing r x).winLatch = s.winLatch := by
  have h := congrArg State.winLatch (State.setRing_lessExchange s r x); exact h
@[simp] theorem State.setRing_readData (s : State) (r : Nat) (x : Ring) : (s.setRing r x).readData = s.readData := by
  have h := congrArg State.readData (State.setRing_lessExchange s r x); exact h
@[simp] theorem State.setRing_out (s : State) (r : Nat) (x : Ring) : (s.setRing r x).out = s.out := by
  have h := congrArg State.out (State.setRing_lessExchange s r x); exact h
@[simp] theorem State.setRing_alertEvent (s : State) (r : Nat) (x : Ring) : (s.setRing r x).alertEvent = s.alertEvent := by
  have h := congrArg State.alertEvent (State.setRing_lessExchange s r x); exact h
@[simp] theorem State.setRing_alertCode (s : State) (r : Nat) (x : Ring) : (s.setRing r x).alertCode = s.alertCode := by
  have h := congrArg State.alertCode (State.setRing_lessExchange s r x); exact h
@[simp] theorem State.setRing_noStandby (s : State) (r : Nat) (x : Ring) : (s.setRing r x).noStandby = s.noStandby := by
  have h := congrArg State.noStandby (State.setRing_lessExchange s r x); exact h
@[simp] theorem State.setRing_mode (s : State) (r : Nat) (x : Ring) : (s.setRing r x).mode = s.mode := by
  have h := congrArg State.mode (State.setRing_lessExchange s r x); exact h
@[simp] theorem State.setRing_pwr (s : State) (r : Nat) (x : Ring) : (s.setRing r x).pwr = s.pwr := by
  have h := congrArg State.pwr (State.setRing_lessExchange s r x); exact h
@[simp] theorem State.setRing_ref (s : State) (r : Nat) (x : Ring) : (s.setRing r x).ref = s.ref := by
  have h := congrArg State.ref (State.setRing_lessExchange s r x); exact h
@[simp] theorem State.setRing_ret (s : State) (r : Nat) (x : Ring) : (s.setRing r x).ret = s.ret := by
  have h := congrArg State.ret (State.setRing_lessExchange s r x); exact h
@[simp] theorem State.setRing_store (s : State) (r : Nat) (x : Ring) : (s.setRing r x).store = s.store := by
  have h := congrArg State.store (State.setRing_lessExchange s r x); exact h
@[simp] theorem State.setRing_start (s : State) (r : Nat) (x : Ring) : (s.setRing r x).start = s.start := by
  have h := congrArg State.start (State.setRing_lessExchange s r x); exact h
@[simp] theorem State.setRing_canvas (s : State) (r : Nat) (x : Ring) : (s.setRing r x).canvas = s.canvas := by
  have h := congrArg State.canvas (State.setRing_lessExchange s r x); exact h
@[simp] theorem State.setRing_pins (s : State) (r : Nat) (x : Ring) : (s.setRing r x).pins = s.pins := by
  have h := congrArg State.pins (State.setRing_lessExchange s r x); exact h
@[simp] theorem State.setRing_saf (s : State) (r : Nat) (x : Ring) : (s.setRing r x).saf = s.saf := by
  have h := congrArg State.saf (State.setRing_lessExchange s r x); exact h
@[simp] theorem State.setRing_thm (s : State) (r : Nat) (x : Ring) : (s.setRing r x).thm = s.thm := by
  have h := congrArg State.thm (State.setRing_lessExchange s r x); exact h
@[simp] theorem State.setRing_nvm (s : State) (r : Nat) (x : Ring) : (s.setRing r x).nvm = s.nvm := by
  have h := congrArg State.nvm (State.setRing_lessExchange s r x); exact h
@[simp] theorem State.setRing_mx (s : State) (r : Nat) (x : Ring) : (s.setRing r x).mx = s.mx := by
  have h := congrArg State.mx (State.setRing_lessExchange s r x); exact h
@[simp] theorem State.setRing_orb (s : State) (r : Nat) (x : Ring) : (s.setRing r x).orb = s.orb := by
  have h := congrArg State.orb (State.setRing_lessExchange s r x); exact h
@[simp] theorem State.setRing_loops (s : State) (r : Nat) (x : Ring) : (s.setRing r x).loops = s.loops := by
  have h := congrArg State.loops (State.setRing_lessExchange s r x); exact h
@[simp] theorem State.setRing_eng (s : State) (r : Nat) (x : Ring) : (s.setRing r x).eng = s.eng := by
  have h := congrArg State.eng (State.setRing_lessExchange s r x); exact h
@[simp] theorem State.setRing_adc (s : State) (r : Nat) (x : Ring) : (s.setRing r x).adc = s.adc := by
  have h := congrArg State.adc (State.setRing_lessExchange s r x); exact h
@[simp] theorem State.setRing_dac (s : State) (r : Nat) (x : Ring) : (s.setRing r x).dac = s.dac := by
  have h := congrArg State.dac (State.setRing_lessExchange s r x); exact h
@[simp] theorem State.setRing_cal (s : State) (r : Nat) (x : Ring) : (s.setRing r x).cal = s.cal := by
  have h := congrArg State.cal (State.setRing_lessExchange s r x); exact h
@[simp] theorem State.setRing_lanes (s : State) (r : Nat) (x : Ring) : (s.setRing r x).lanes = s.lanes := by
  have h := congrArg State.lanes (State.setRing_lessExchange s r x); exact h
@[simp] theorem State.setRing_ports (s : State) (r : Nat) (x : Ring) : (s.setRing r x).ports = s.ports := by
  have h := congrArg State.ports (State.setRing_lessExchange s r x); exact h
@[simp] theorem State.setRing_cls (s : State) (r : Nat) (x : Ring) : (s.setRing r x).cls = s.cls := by
  have h := congrArg State.cls (State.setRing_lessExchange s r x); exact h
@[simp] theorem State.setRing_fdb (s : State) (r : Nat) (x : Ring) : (s.setRing r x).fdb = s.fdb := by
  have h := congrArg State.fdb (State.setRing_lessExchange s r x); exact h
@[simp] theorem State.setRing_tm (s : State) (r : Nat) (x : Ring) : (s.setRing r x).tm = s.tm := by
  have h := congrArg State.tm (State.setRing_lessExchange s r x); exact h
@[simp] theorem State.setRing_obs (s : State) (r : Nat) (x : Ring) : (s.setRing r x).obs = s.obs := by
  have h := congrArg State.obs (State.setRing_lessExchange s r x); exact h
@[simp] theorem State.setRing_time (s : State) (r : Nat) (x : Ring) : (s.setRing r x).time = s.time := by
  have h := congrArg State.time (State.setRing_lessExchange s r x); exact h
@[simp] theorem State.setRing_ikl (s : State) (r : Nat) (x : Ring) : (s.setRing r x).ikl = s.ikl := by
  have h := congrArg State.ikl (State.setRing_lessExchange s r x); exact h
@[simp] theorem State.setRing_bm (s : State) (r : Nat) (x : Ring) : (s.setRing r x).bm = s.bm := by
  have h := congrArg State.bm (State.setRing_lessExchange s r x); exact h
@[simp] theorem State.setRing_red (s : State) (r : Nat) (x : Ring) : (s.setRing r x).red = s.red := by
  have h := congrArg State.red (State.setRing_lessExchange s r x); exact h

theorem State.begin_lessExchange (s : State) (tag : CmdTag) (op : Nat) : (s.begin tag op).lessExchange = s.lessExchange := by
  rfl

@[simp] theorem State.begin_pending (s : State) (tag : CmdTag) (op : Nat) : (s.begin tag op).pending = s.pending := by
  have h := congrArg State.pending (State.begin_lessExchange s tag op); exact h
@[simp] theorem State.begin_clk (s : State) (tag : CmdTag) (op : Nat) : (s.begin tag op).clk = s.clk := by
  have h := congrArg State.clk (State.begin_lessExchange s tag op); exact h
@[simp] theorem State.begin_freeCtr (s : State) (tag : CmdTag) (op : Nat) : (s.begin tag op).freeCtr = s.freeCtr := by
  have h := congrArg State.freeCtr (State.begin_lessExchange s tag op); exact h
@[simp] theorem State.begin_regs (s : State) (tag : CmdTag) (op : Nat) : (s.begin tag op).regs = s.regs := by
  have h := congrArg State.regs (State.begin_lessExchange s tag op); exact h
@[simp] theorem State.begin_locks (s : State) (tag : CmdTag) (op : Nat) : (s.begin tag op).locks = s.locks := by
  have h := congrArg State.locks (State.begin_lessExchange s tag op); exact h
@[simp] theorem State.begin_evLast (s : State) (tag : CmdTag) (op : Nat) : (s.begin tag op).evLast = s.evLast := by
  have h := congrArg State.evLast (State.begin_lessExchange s tag op); exact h
@[simp] theorem State.begin_winLatch (s : State) (tag : CmdTag) (op : Nat) : (s.begin tag op).winLatch = s.winLatch := by
  have h := congrArg State.winLatch (State.begin_lessExchange s tag op); exact h
@[simp] theorem State.begin_readData (s : State) (tag : CmdTag) (op : Nat) : (s.begin tag op).readData = s.readData := by
  have h := congrArg State.readData (State.begin_lessExchange s tag op); exact h
@[simp] theorem State.begin_out (s : State) (tag : CmdTag) (op : Nat) : (s.begin tag op).out = s.out := by
  have h := congrArg State.out (State.begin_lessExchange s tag op); exact h
@[simp] theorem State.begin_alertEvent (s : State) (tag : CmdTag) (op : Nat) : (s.begin tag op).alertEvent = s.alertEvent := by
  have h := congrArg State.alertEvent (State.begin_lessExchange s tag op); exact h
@[simp] theorem State.begin_alertCode (s : State) (tag : CmdTag) (op : Nat) : (s.begin tag op).alertCode = s.alertCode := by
  have h := congrArg State.alertCode (State.begin_lessExchange s tag op); exact h
@[simp] theorem State.begin_noStandby (s : State) (tag : CmdTag) (op : Nat) : (s.begin tag op).noStandby = s.noStandby := by
  have h := congrArg State.noStandby (State.begin_lessExchange s tag op); exact h
@[simp] theorem State.begin_mode (s : State) (tag : CmdTag) (op : Nat) : (s.begin tag op).mode = s.mode := by
  have h := congrArg State.mode (State.begin_lessExchange s tag op); exact h
@[simp] theorem State.begin_pwr (s : State) (tag : CmdTag) (op : Nat) : (s.begin tag op).pwr = s.pwr := by
  have h := congrArg State.pwr (State.begin_lessExchange s tag op); exact h
@[simp] theorem State.begin_ref (s : State) (tag : CmdTag) (op : Nat) : (s.begin tag op).ref = s.ref := by
  have h := congrArg State.ref (State.begin_lessExchange s tag op); exact h
@[simp] theorem State.begin_ret (s : State) (tag : CmdTag) (op : Nat) : (s.begin tag op).ret = s.ret := by
  have h := congrArg State.ret (State.begin_lessExchange s tag op); exact h
@[simp] theorem State.begin_store (s : State) (tag : CmdTag) (op : Nat) : (s.begin tag op).store = s.store := by
  have h := congrArg State.store (State.begin_lessExchange s tag op); exact h
@[simp] theorem State.begin_start (s : State) (tag : CmdTag) (op : Nat) : (s.begin tag op).start = s.start := by
  have h := congrArg State.start (State.begin_lessExchange s tag op); exact h
@[simp] theorem State.begin_canvas (s : State) (tag : CmdTag) (op : Nat) : (s.begin tag op).canvas = s.canvas := by
  have h := congrArg State.canvas (State.begin_lessExchange s tag op); exact h
@[simp] theorem State.begin_pins (s : State) (tag : CmdTag) (op : Nat) : (s.begin tag op).pins = s.pins := by
  have h := congrArg State.pins (State.begin_lessExchange s tag op); exact h
@[simp] theorem State.begin_saf (s : State) (tag : CmdTag) (op : Nat) : (s.begin tag op).saf = s.saf := by
  have h := congrArg State.saf (State.begin_lessExchange s tag op); exact h
@[simp] theorem State.begin_thm (s : State) (tag : CmdTag) (op : Nat) : (s.begin tag op).thm = s.thm := by
  have h := congrArg State.thm (State.begin_lessExchange s tag op); exact h
@[simp] theorem State.begin_nvm (s : State) (tag : CmdTag) (op : Nat) : (s.begin tag op).nvm = s.nvm := by
  have h := congrArg State.nvm (State.begin_lessExchange s tag op); exact h
@[simp] theorem State.begin_mx (s : State) (tag : CmdTag) (op : Nat) : (s.begin tag op).mx = s.mx := by
  have h := congrArg State.mx (State.begin_lessExchange s tag op); exact h
@[simp] theorem State.begin_orb (s : State) (tag : CmdTag) (op : Nat) : (s.begin tag op).orb = s.orb := by
  have h := congrArg State.orb (State.begin_lessExchange s tag op); exact h
@[simp] theorem State.begin_loops (s : State) (tag : CmdTag) (op : Nat) : (s.begin tag op).loops = s.loops := by
  have h := congrArg State.loops (State.begin_lessExchange s tag op); exact h
@[simp] theorem State.begin_eng (s : State) (tag : CmdTag) (op : Nat) : (s.begin tag op).eng = s.eng := by
  have h := congrArg State.eng (State.begin_lessExchange s tag op); exact h
@[simp] theorem State.begin_adc (s : State) (tag : CmdTag) (op : Nat) : (s.begin tag op).adc = s.adc := by
  have h := congrArg State.adc (State.begin_lessExchange s tag op); exact h
@[simp] theorem State.begin_dac (s : State) (tag : CmdTag) (op : Nat) : (s.begin tag op).dac = s.dac := by
  have h := congrArg State.dac (State.begin_lessExchange s tag op); exact h
@[simp] theorem State.begin_cal (s : State) (tag : CmdTag) (op : Nat) : (s.begin tag op).cal = s.cal := by
  have h := congrArg State.cal (State.begin_lessExchange s tag op); exact h
@[simp] theorem State.begin_lanes (s : State) (tag : CmdTag) (op : Nat) : (s.begin tag op).lanes = s.lanes := by
  have h := congrArg State.lanes (State.begin_lessExchange s tag op); exact h
@[simp] theorem State.begin_ports (s : State) (tag : CmdTag) (op : Nat) : (s.begin tag op).ports = s.ports := by
  have h := congrArg State.ports (State.begin_lessExchange s tag op); exact h
@[simp] theorem State.begin_cls (s : State) (tag : CmdTag) (op : Nat) : (s.begin tag op).cls = s.cls := by
  have h := congrArg State.cls (State.begin_lessExchange s tag op); exact h
@[simp] theorem State.begin_fdb (s : State) (tag : CmdTag) (op : Nat) : (s.begin tag op).fdb = s.fdb := by
  have h := congrArg State.fdb (State.begin_lessExchange s tag op); exact h
@[simp] theorem State.begin_tm (s : State) (tag : CmdTag) (op : Nat) : (s.begin tag op).tm = s.tm := by
  have h := congrArg State.tm (State.begin_lessExchange s tag op); exact h
@[simp] theorem State.begin_obs (s : State) (tag : CmdTag) (op : Nat) : (s.begin tag op).obs = s.obs := by
  have h := congrArg State.obs (State.begin_lessExchange s tag op); exact h
@[simp] theorem State.begin_time (s : State) (tag : CmdTag) (op : Nat) : (s.begin tag op).time = s.time := by
  have h := congrArg State.time (State.begin_lessExchange s tag op); exact h
@[simp] theorem State.begin_ikl (s : State) (tag : CmdTag) (op : Nat) : (s.begin tag op).ikl = s.ikl := by
  have h := congrArg State.ikl (State.begin_lessExchange s tag op); exact h
@[simp] theorem State.begin_bm (s : State) (tag : CmdTag) (op : Nat) : (s.begin tag op).bm = s.bm := by
  have h := congrArg State.bm (State.begin_lessExchange s tag op); exact h
@[simp] theorem State.begin_red (s : State) (tag : CmdTag) (op : Nat) : (s.begin tag op).red = s.red := by
  have h := congrArg State.red (State.begin_lessExchange s tag op); exact h

theorem State.outData_lessExchange (s : State) (tag : CmdTag) (a : Nat) (b : Bytes) : (s.outData tag a b).lessExchange = s.lessExchange := by
  unfold State.outData; split <;> rfl

@[simp] theorem State.outData_pending (s : State) (tag : CmdTag) (a : Nat) (b : Bytes) : (s.outData tag a b).pending = s.pending := by
  have h := congrArg State.pending (State.outData_lessExchange s tag a b); exact h
@[simp] theorem State.outData_clk (s : State) (tag : CmdTag) (a : Nat) (b : Bytes) : (s.outData tag a b).clk = s.clk := by
  have h := congrArg State.clk (State.outData_lessExchange s tag a b); exact h
@[simp] theorem State.outData_freeCtr (s : State) (tag : CmdTag) (a : Nat) (b : Bytes) : (s.outData tag a b).freeCtr = s.freeCtr := by
  have h := congrArg State.freeCtr (State.outData_lessExchange s tag a b); exact h
@[simp] theorem State.outData_regs (s : State) (tag : CmdTag) (a : Nat) (b : Bytes) : (s.outData tag a b).regs = s.regs := by
  have h := congrArg State.regs (State.outData_lessExchange s tag a b); exact h
@[simp] theorem State.outData_locks (s : State) (tag : CmdTag) (a : Nat) (b : Bytes) : (s.outData tag a b).locks = s.locks := by
  have h := congrArg State.locks (State.outData_lessExchange s tag a b); exact h
@[simp] theorem State.outData_evLast (s : State) (tag : CmdTag) (a : Nat) (b : Bytes) : (s.outData tag a b).evLast = s.evLast := by
  have h := congrArg State.evLast (State.outData_lessExchange s tag a b); exact h
@[simp] theorem State.outData_winLatch (s : State) (tag : CmdTag) (a : Nat) (b : Bytes) : (s.outData tag a b).winLatch = s.winLatch := by
  have h := congrArg State.winLatch (State.outData_lessExchange s tag a b); exact h
@[simp] theorem State.outData_readData (s : State) (tag : CmdTag) (a : Nat) (b : Bytes) : (s.outData tag a b).readData = s.readData := by
  have h := congrArg State.readData (State.outData_lessExchange s tag a b); exact h
@[simp] theorem State.outData_out (s : State) (tag : CmdTag) (a : Nat) (b : Bytes) : (s.outData tag a b).out = s.out := by
  have h := congrArg State.out (State.outData_lessExchange s tag a b); exact h
@[simp] theorem State.outData_alertEvent (s : State) (tag : CmdTag) (a : Nat) (b : Bytes) : (s.outData tag a b).alertEvent = s.alertEvent := by
  have h := congrArg State.alertEvent (State.outData_lessExchange s tag a b); exact h
@[simp] theorem State.outData_alertCode (s : State) (tag : CmdTag) (a : Nat) (b : Bytes) : (s.outData tag a b).alertCode = s.alertCode := by
  have h := congrArg State.alertCode (State.outData_lessExchange s tag a b); exact h
@[simp] theorem State.outData_noStandby (s : State) (tag : CmdTag) (a : Nat) (b : Bytes) : (s.outData tag a b).noStandby = s.noStandby := by
  have h := congrArg State.noStandby (State.outData_lessExchange s tag a b); exact h
@[simp] theorem State.outData_mode (s : State) (tag : CmdTag) (a : Nat) (b : Bytes) : (s.outData tag a b).mode = s.mode := by
  have h := congrArg State.mode (State.outData_lessExchange s tag a b); exact h
@[simp] theorem State.outData_pwr (s : State) (tag : CmdTag) (a : Nat) (b : Bytes) : (s.outData tag a b).pwr = s.pwr := by
  have h := congrArg State.pwr (State.outData_lessExchange s tag a b); exact h
@[simp] theorem State.outData_ref (s : State) (tag : CmdTag) (a : Nat) (b : Bytes) : (s.outData tag a b).ref = s.ref := by
  have h := congrArg State.ref (State.outData_lessExchange s tag a b); exact h
@[simp] theorem State.outData_ret (s : State) (tag : CmdTag) (a : Nat) (b : Bytes) : (s.outData tag a b).ret = s.ret := by
  have h := congrArg State.ret (State.outData_lessExchange s tag a b); exact h
@[simp] theorem State.outData_store (s : State) (tag : CmdTag) (a : Nat) (b : Bytes) : (s.outData tag a b).store = s.store := by
  have h := congrArg State.store (State.outData_lessExchange s tag a b); exact h
@[simp] theorem State.outData_start (s : State) (tag : CmdTag) (a : Nat) (b : Bytes) : (s.outData tag a b).start = s.start := by
  have h := congrArg State.start (State.outData_lessExchange s tag a b); exact h
@[simp] theorem State.outData_canvas (s : State) (tag : CmdTag) (a : Nat) (b : Bytes) : (s.outData tag a b).canvas = s.canvas := by
  have h := congrArg State.canvas (State.outData_lessExchange s tag a b); exact h
@[simp] theorem State.outData_pins (s : State) (tag : CmdTag) (a : Nat) (b : Bytes) : (s.outData tag a b).pins = s.pins := by
  have h := congrArg State.pins (State.outData_lessExchange s tag a b); exact h
@[simp] theorem State.outData_saf (s : State) (tag : CmdTag) (a : Nat) (b : Bytes) : (s.outData tag a b).saf = s.saf := by
  have h := congrArg State.saf (State.outData_lessExchange s tag a b); exact h
@[simp] theorem State.outData_thm (s : State) (tag : CmdTag) (a : Nat) (b : Bytes) : (s.outData tag a b).thm = s.thm := by
  have h := congrArg State.thm (State.outData_lessExchange s tag a b); exact h
@[simp] theorem State.outData_nvm (s : State) (tag : CmdTag) (a : Nat) (b : Bytes) : (s.outData tag a b).nvm = s.nvm := by
  have h := congrArg State.nvm (State.outData_lessExchange s tag a b); exact h
@[simp] theorem State.outData_mx (s : State) (tag : CmdTag) (a : Nat) (b : Bytes) : (s.outData tag a b).mx = s.mx := by
  have h := congrArg State.mx (State.outData_lessExchange s tag a b); exact h
@[simp] theorem State.outData_orb (s : State) (tag : CmdTag) (a : Nat) (b : Bytes) : (s.outData tag a b).orb = s.orb := by
  have h := congrArg State.orb (State.outData_lessExchange s tag a b); exact h
@[simp] theorem State.outData_loops (s : State) (tag : CmdTag) (a : Nat) (b : Bytes) : (s.outData tag a b).loops = s.loops := by
  have h := congrArg State.loops (State.outData_lessExchange s tag a b); exact h
@[simp] theorem State.outData_eng (s : State) (tag : CmdTag) (a : Nat) (b : Bytes) : (s.outData tag a b).eng = s.eng := by
  have h := congrArg State.eng (State.outData_lessExchange s tag a b); exact h
@[simp] theorem State.outData_adc (s : State) (tag : CmdTag) (a : Nat) (b : Bytes) : (s.outData tag a b).adc = s.adc := by
  have h := congrArg State.adc (State.outData_lessExchange s tag a b); exact h
@[simp] theorem State.outData_dac (s : State) (tag : CmdTag) (a : Nat) (b : Bytes) : (s.outData tag a b).dac = s.dac := by
  have h := congrArg State.dac (State.outData_lessExchange s tag a b); exact h
@[simp] theorem State.outData_cal (s : State) (tag : CmdTag) (a : Nat) (b : Bytes) : (s.outData tag a b).cal = s.cal := by
  have h := congrArg State.cal (State.outData_lessExchange s tag a b); exact h
@[simp] theorem State.outData_lanes (s : State) (tag : CmdTag) (a : Nat) (b : Bytes) : (s.outData tag a b).lanes = s.lanes := by
  have h := congrArg State.lanes (State.outData_lessExchange s tag a b); exact h
@[simp] theorem State.outData_ports (s : State) (tag : CmdTag) (a : Nat) (b : Bytes) : (s.outData tag a b).ports = s.ports := by
  have h := congrArg State.ports (State.outData_lessExchange s tag a b); exact h
@[simp] theorem State.outData_cls (s : State) (tag : CmdTag) (a : Nat) (b : Bytes) : (s.outData tag a b).cls = s.cls := by
  have h := congrArg State.cls (State.outData_lessExchange s tag a b); exact h
@[simp] theorem State.outData_fdb (s : State) (tag : CmdTag) (a : Nat) (b : Bytes) : (s.outData tag a b).fdb = s.fdb := by
  have h := congrArg State.fdb (State.outData_lessExchange s tag a b); exact h
@[simp] theorem State.outData_tm (s : State) (tag : CmdTag) (a : Nat) (b : Bytes) : (s.outData tag a b).tm = s.tm := by
  have h := congrArg State.tm (State.outData_lessExchange s tag a b); exact h
@[simp] theorem State.outData_obs (s : State) (tag : CmdTag) (a : Nat) (b : Bytes) : (s.outData tag a b).obs = s.obs := by
  have h := congrArg State.obs (State.outData_lessExchange s tag a b); exact h
@[simp] theorem State.outData_time (s : State) (tag : CmdTag) (a : Nat) (b : Bytes) : (s.outData tag a b).time = s.time := by
  have h := congrArg State.time (State.outData_lessExchange s tag a b); exact h
@[simp] theorem State.outData_ikl (s : State) (tag : CmdTag) (a : Nat) (b : Bytes) : (s.outData tag a b).ikl = s.ikl := by
  have h := congrArg State.ikl (State.outData_lessExchange s tag a b); exact h
@[simp] theorem State.outData_bm (s : State) (tag : CmdTag) (a : Nat) (b : Bytes) : (s.outData tag a b).bm = s.bm := by
  have h := congrArg State.bm (State.outData_lessExchange s tag a b); exact h
@[simp] theorem State.outData_red (s : State) (tag : CmdTag) (a : Nat) (b : Bytes) : (s.outData tag a b).red = s.red := by
  have h := congrArg State.red (State.outData_lessExchange s tag a b); exact h

theorem State.hostWrite_lessExchange (s : State) (a : Nat) (b : Bytes) :
    (s.hostWrite a b).lessExchange = s.lessExchange := rfl

theorem State.produce_lessExchange (s : State) (r dev : Nat) (e : Bytes) : (s.produce r dev e).lessExchange = s.lessExchange := by
  unfold State.produce
  dsimp only
  split
  · rw [State.coalesce_lessExchange]; rfl
  · rfl

@[simp] theorem State.produce_pending (s : State) (r dev : Nat) (e : Bytes) : (s.produce r dev e).pending = s.pending := by
  have h := congrArg State.pending (State.produce_lessExchange s r dev e); exact h
@[simp] theorem State.produce_clk (s : State) (r dev : Nat) (e : Bytes) : (s.produce r dev e).clk = s.clk := by
  have h := congrArg State.clk (State.produce_lessExchange s r dev e); exact h
@[simp] theorem State.produce_freeCtr (s : State) (r dev : Nat) (e : Bytes) : (s.produce r dev e).freeCtr = s.freeCtr := by
  have h := congrArg State.freeCtr (State.produce_lessExchange s r dev e); exact h
@[simp] theorem State.produce_regs (s : State) (r dev : Nat) (e : Bytes) : (s.produce r dev e).regs = s.regs := by
  have h := congrArg State.regs (State.produce_lessExchange s r dev e); exact h
@[simp] theorem State.produce_locks (s : State) (r dev : Nat) (e : Bytes) : (s.produce r dev e).locks = s.locks := by
  have h := congrArg State.locks (State.produce_lessExchange s r dev e); exact h
@[simp] theorem State.produce_evLast (s : State) (r dev : Nat) (e : Bytes) : (s.produce r dev e).evLast = s.evLast := by
  have h := congrArg State.evLast (State.produce_lessExchange s r dev e); exact h
@[simp] theorem State.produce_winLatch (s : State) (r dev : Nat) (e : Bytes) : (s.produce r dev e).winLatch = s.winLatch := by
  have h := congrArg State.winLatch (State.produce_lessExchange s r dev e); exact h
@[simp] theorem State.produce_readData (s : State) (r dev : Nat) (e : Bytes) : (s.produce r dev e).readData = s.readData := by
  have h := congrArg State.readData (State.produce_lessExchange s r dev e); exact h
@[simp] theorem State.produce_out (s : State) (r dev : Nat) (e : Bytes) : (s.produce r dev e).out = s.out := by
  have h := congrArg State.out (State.produce_lessExchange s r dev e); exact h
@[simp] theorem State.produce_alertEvent (s : State) (r dev : Nat) (e : Bytes) : (s.produce r dev e).alertEvent = s.alertEvent := by
  have h := congrArg State.alertEvent (State.produce_lessExchange s r dev e); exact h
@[simp] theorem State.produce_alertCode (s : State) (r dev : Nat) (e : Bytes) : (s.produce r dev e).alertCode = s.alertCode := by
  have h := congrArg State.alertCode (State.produce_lessExchange s r dev e); exact h
@[simp] theorem State.produce_noStandby (s : State) (r dev : Nat) (e : Bytes) : (s.produce r dev e).noStandby = s.noStandby := by
  have h := congrArg State.noStandby (State.produce_lessExchange s r dev e); exact h
@[simp] theorem State.produce_mode (s : State) (r dev : Nat) (e : Bytes) : (s.produce r dev e).mode = s.mode := by
  have h := congrArg State.mode (State.produce_lessExchange s r dev e); exact h
@[simp] theorem State.produce_pwr (s : State) (r dev : Nat) (e : Bytes) : (s.produce r dev e).pwr = s.pwr := by
  have h := congrArg State.pwr (State.produce_lessExchange s r dev e); exact h
@[simp] theorem State.produce_ref (s : State) (r dev : Nat) (e : Bytes) : (s.produce r dev e).ref = s.ref := by
  have h := congrArg State.ref (State.produce_lessExchange s r dev e); exact h
@[simp] theorem State.produce_ret (s : State) (r dev : Nat) (e : Bytes) : (s.produce r dev e).ret = s.ret := by
  have h := congrArg State.ret (State.produce_lessExchange s r dev e); exact h
@[simp] theorem State.produce_store (s : State) (r dev : Nat) (e : Bytes) : (s.produce r dev e).store = s.store := by
  have h := congrArg State.store (State.produce_lessExchange s r dev e); exact h
@[simp] theorem State.produce_start (s : State) (r dev : Nat) (e : Bytes) : (s.produce r dev e).start = s.start := by
  have h := congrArg State.start (State.produce_lessExchange s r dev e); exact h
@[simp] theorem State.produce_canvas (s : State) (r dev : Nat) (e : Bytes) : (s.produce r dev e).canvas = s.canvas := by
  have h := congrArg State.canvas (State.produce_lessExchange s r dev e); exact h
@[simp] theorem State.produce_pins (s : State) (r dev : Nat) (e : Bytes) : (s.produce r dev e).pins = s.pins := by
  have h := congrArg State.pins (State.produce_lessExchange s r dev e); exact h
@[simp] theorem State.produce_saf (s : State) (r dev : Nat) (e : Bytes) : (s.produce r dev e).saf = s.saf := by
  have h := congrArg State.saf (State.produce_lessExchange s r dev e); exact h
@[simp] theorem State.produce_thm (s : State) (r dev : Nat) (e : Bytes) : (s.produce r dev e).thm = s.thm := by
  have h := congrArg State.thm (State.produce_lessExchange s r dev e); exact h
@[simp] theorem State.produce_nvm (s : State) (r dev : Nat) (e : Bytes) : (s.produce r dev e).nvm = s.nvm := by
  have h := congrArg State.nvm (State.produce_lessExchange s r dev e); exact h
@[simp] theorem State.produce_mx (s : State) (r dev : Nat) (e : Bytes) : (s.produce r dev e).mx = s.mx := by
  have h := congrArg State.mx (State.produce_lessExchange s r dev e); exact h
@[simp] theorem State.produce_orb (s : State) (r dev : Nat) (e : Bytes) : (s.produce r dev e).orb = s.orb := by
  have h := congrArg State.orb (State.produce_lessExchange s r dev e); exact h
@[simp] theorem State.produce_loops (s : State) (r dev : Nat) (e : Bytes) : (s.produce r dev e).loops = s.loops := by
  have h := congrArg State.loops (State.produce_lessExchange s r dev e); exact h
@[simp] theorem State.produce_eng (s : State) (r dev : Nat) (e : Bytes) : (s.produce r dev e).eng = s.eng := by
  have h := congrArg State.eng (State.produce_lessExchange s r dev e); exact h
@[simp] theorem State.produce_adc (s : State) (r dev : Nat) (e : Bytes) : (s.produce r dev e).adc = s.adc := by
  have h := congrArg State.adc (State.produce_lessExchange s r dev e); exact h
@[simp] theorem State.produce_dac (s : State) (r dev : Nat) (e : Bytes) : (s.produce r dev e).dac = s.dac := by
  have h := congrArg State.dac (State.produce_lessExchange s r dev e); exact h
@[simp] theorem State.produce_cal (s : State) (r dev : Nat) (e : Bytes) : (s.produce r dev e).cal = s.cal := by
  have h := congrArg State.cal (State.produce_lessExchange s r dev e); exact h
@[simp] theorem State.produce_lanes (s : State) (r dev : Nat) (e : Bytes) : (s.produce r dev e).lanes = s.lanes := by
  have h := congrArg State.lanes (State.produce_lessExchange s r dev e); exact h
@[simp] theorem State.produce_ports (s : State) (r dev : Nat) (e : Bytes) : (s.produce r dev e).ports = s.ports := by
  have h := congrArg State.ports (State.produce_lessExchange s r dev e); exact h
@[simp] theorem State.produce_cls (s : State) (r dev : Nat) (e : Bytes) : (s.produce r dev e).cls = s.cls := by
  have h := congrArg State.cls (State.produce_lessExchange s r dev e); exact h
@[simp] theorem State.produce_fdb (s : State) (r dev : Nat) (e : Bytes) : (s.produce r dev e).fdb = s.fdb := by
  have h := congrArg State.fdb (State.produce_lessExchange s r dev e); exact h
@[simp] theorem State.produce_tm (s : State) (r dev : Nat) (e : Bytes) : (s.produce r dev e).tm = s.tm := by
  have h := congrArg State.tm (State.produce_lessExchange s r dev e); exact h
@[simp] theorem State.produce_obs (s : State) (r dev : Nat) (e : Bytes) : (s.produce r dev e).obs = s.obs := by
  have h := congrArg State.obs (State.produce_lessExchange s r dev e); exact h
@[simp] theorem State.produce_time (s : State) (r dev : Nat) (e : Bytes) : (s.produce r dev e).time = s.time := by
  have h := congrArg State.time (State.produce_lessExchange s r dev e); exact h
@[simp] theorem State.produce_ikl (s : State) (r dev : Nat) (e : Bytes) : (s.produce r dev e).ikl = s.ikl := by
  have h := congrArg State.ikl (State.produce_lessExchange s r dev e); exact h
@[simp] theorem State.produce_bm (s : State) (r dev : Nat) (e : Bytes) : (s.produce r dev e).bm = s.bm := by
  have h := congrArg State.bm (State.produce_lessExchange s r dev e); exact h
@[simp] theorem State.produce_red (s : State) (r dev : Nat) (e : Bytes) : (s.produce r dev e).red = s.red := by
  have h := congrArg State.red (State.produce_lessExchange s r dev e); exact h

theorem State.postCompletion_lessExchange (s : State) (tag : CmdTag) (st fl : Nat) (d : Bytes) : (s.postCompletion tag st fl d).lessExchange = s.lessExchange := by
  unfold State.postCompletion
  dsimp only
  rw [State.produce_lessExchange]
  rfl

@[simp] theorem State.postCompletion_pending (s : State) (tag : CmdTag) (st fl : Nat) (d : Bytes) : (s.postCompletion tag st fl d).pending = s.pending := by
  have h := congrArg State.pending (State.postCompletion_lessExchange s tag st fl d); exact h
@[simp] theorem State.postCompletion_clk (s : State) (tag : CmdTag) (st fl : Nat) (d : Bytes) : (s.postCompletion tag st fl d).clk = s.clk := by
  have h := congrArg State.clk (State.postCompletion_lessExchange s tag st fl d); exact h
@[simp] theorem State.postCompletion_freeCtr (s : State) (tag : CmdTag) (st fl : Nat) (d : Bytes) : (s.postCompletion tag st fl d).freeCtr = s.freeCtr := by
  have h := congrArg State.freeCtr (State.postCompletion_lessExchange s tag st fl d); exact h
@[simp] theorem State.postCompletion_regs (s : State) (tag : CmdTag) (st fl : Nat) (d : Bytes) : (s.postCompletion tag st fl d).regs = s.regs := by
  have h := congrArg State.regs (State.postCompletion_lessExchange s tag st fl d); exact h
@[simp] theorem State.postCompletion_locks (s : State) (tag : CmdTag) (st fl : Nat) (d : Bytes) : (s.postCompletion tag st fl d).locks = s.locks := by
  have h := congrArg State.locks (State.postCompletion_lessExchange s tag st fl d); exact h
@[simp] theorem State.postCompletion_evLast (s : State) (tag : CmdTag) (st fl : Nat) (d : Bytes) : (s.postCompletion tag st fl d).evLast = s.evLast := by
  have h := congrArg State.evLast (State.postCompletion_lessExchange s tag st fl d); exact h
@[simp] theorem State.postCompletion_winLatch (s : State) (tag : CmdTag) (st fl : Nat) (d : Bytes) : (s.postCompletion tag st fl d).winLatch = s.winLatch := by
  have h := congrArg State.winLatch (State.postCompletion_lessExchange s tag st fl d); exact h
@[simp] theorem State.postCompletion_readData (s : State) (tag : CmdTag) (st fl : Nat) (d : Bytes) : (s.postCompletion tag st fl d).readData = s.readData := by
  have h := congrArg State.readData (State.postCompletion_lessExchange s tag st fl d); exact h
@[simp] theorem State.postCompletion_out (s : State) (tag : CmdTag) (st fl : Nat) (d : Bytes) : (s.postCompletion tag st fl d).out = s.out := by
  have h := congrArg State.out (State.postCompletion_lessExchange s tag st fl d); exact h
@[simp] theorem State.postCompletion_alertEvent (s : State) (tag : CmdTag) (st fl : Nat) (d : Bytes) : (s.postCompletion tag st fl d).alertEvent = s.alertEvent := by
  have h := congrArg State.alertEvent (State.postCompletion_lessExchange s tag st fl d); exact h
@[simp] theorem State.postCompletion_alertCode (s : State) (tag : CmdTag) (st fl : Nat) (d : Bytes) : (s.postCompletion tag st fl d).alertCode = s.alertCode := by
  have h := congrArg State.alertCode (State.postCompletion_lessExchange s tag st fl d); exact h
@[simp] theorem State.postCompletion_noStandby (s : State) (tag : CmdTag) (st fl : Nat) (d : Bytes) : (s.postCompletion tag st fl d).noStandby = s.noStandby := by
  have h := congrArg State.noStandby (State.postCompletion_lessExchange s tag st fl d); exact h
@[simp] theorem State.postCompletion_mode (s : State) (tag : CmdTag) (st fl : Nat) (d : Bytes) : (s.postCompletion tag st fl d).mode = s.mode := by
  have h := congrArg State.mode (State.postCompletion_lessExchange s tag st fl d); exact h
@[simp] theorem State.postCompletion_pwr (s : State) (tag : CmdTag) (st fl : Nat) (d : Bytes) : (s.postCompletion tag st fl d).pwr = s.pwr := by
  have h := congrArg State.pwr (State.postCompletion_lessExchange s tag st fl d); exact h
@[simp] theorem State.postCompletion_ref (s : State) (tag : CmdTag) (st fl : Nat) (d : Bytes) : (s.postCompletion tag st fl d).ref = s.ref := by
  have h := congrArg State.ref (State.postCompletion_lessExchange s tag st fl d); exact h
@[simp] theorem State.postCompletion_ret (s : State) (tag : CmdTag) (st fl : Nat) (d : Bytes) : (s.postCompletion tag st fl d).ret = s.ret := by
  have h := congrArg State.ret (State.postCompletion_lessExchange s tag st fl d); exact h
@[simp] theorem State.postCompletion_store (s : State) (tag : CmdTag) (st fl : Nat) (d : Bytes) : (s.postCompletion tag st fl d).store = s.store := by
  have h := congrArg State.store (State.postCompletion_lessExchange s tag st fl d); exact h
@[simp] theorem State.postCompletion_start (s : State) (tag : CmdTag) (st fl : Nat) (d : Bytes) : (s.postCompletion tag st fl d).start = s.start := by
  have h := congrArg State.start (State.postCompletion_lessExchange s tag st fl d); exact h
@[simp] theorem State.postCompletion_canvas (s : State) (tag : CmdTag) (st fl : Nat) (d : Bytes) : (s.postCompletion tag st fl d).canvas = s.canvas := by
  have h := congrArg State.canvas (State.postCompletion_lessExchange s tag st fl d); exact h
@[simp] theorem State.postCompletion_pins (s : State) (tag : CmdTag) (st fl : Nat) (d : Bytes) : (s.postCompletion tag st fl d).pins = s.pins := by
  have h := congrArg State.pins (State.postCompletion_lessExchange s tag st fl d); exact h
@[simp] theorem State.postCompletion_saf (s : State) (tag : CmdTag) (st fl : Nat) (d : Bytes) : (s.postCompletion tag st fl d).saf = s.saf := by
  have h := congrArg State.saf (State.postCompletion_lessExchange s tag st fl d); exact h
@[simp] theorem State.postCompletion_thm (s : State) (tag : CmdTag) (st fl : Nat) (d : Bytes) : (s.postCompletion tag st fl d).thm = s.thm := by
  have h := congrArg State.thm (State.postCompletion_lessExchange s tag st fl d); exact h
@[simp] theorem State.postCompletion_nvm (s : State) (tag : CmdTag) (st fl : Nat) (d : Bytes) : (s.postCompletion tag st fl d).nvm = s.nvm := by
  have h := congrArg State.nvm (State.postCompletion_lessExchange s tag st fl d); exact h
@[simp] theorem State.postCompletion_mx (s : State) (tag : CmdTag) (st fl : Nat) (d : Bytes) : (s.postCompletion tag st fl d).mx = s.mx := by
  have h := congrArg State.mx (State.postCompletion_lessExchange s tag st fl d); exact h
@[simp] theorem State.postCompletion_orb (s : State) (tag : CmdTag) (st fl : Nat) (d : Bytes) : (s.postCompletion tag st fl d).orb = s.orb := by
  have h := congrArg State.orb (State.postCompletion_lessExchange s tag st fl d); exact h
@[simp] theorem State.postCompletion_loops (s : State) (tag : CmdTag) (st fl : Nat) (d : Bytes) : (s.postCompletion tag st fl d).loops = s.loops := by
  have h := congrArg State.loops (State.postCompletion_lessExchange s tag st fl d); exact h
@[simp] theorem State.postCompletion_eng (s : State) (tag : CmdTag) (st fl : Nat) (d : Bytes) : (s.postCompletion tag st fl d).eng = s.eng := by
  have h := congrArg State.eng (State.postCompletion_lessExchange s tag st fl d); exact h
@[simp] theorem State.postCompletion_adc (s : State) (tag : CmdTag) (st fl : Nat) (d : Bytes) : (s.postCompletion tag st fl d).adc = s.adc := by
  have h := congrArg State.adc (State.postCompletion_lessExchange s tag st fl d); exact h
@[simp] theorem State.postCompletion_dac (s : State) (tag : CmdTag) (st fl : Nat) (d : Bytes) : (s.postCompletion tag st fl d).dac = s.dac := by
  have h := congrArg State.dac (State.postCompletion_lessExchange s tag st fl d); exact h
@[simp] theorem State.postCompletion_cal (s : State) (tag : CmdTag) (st fl : Nat) (d : Bytes) : (s.postCompletion tag st fl d).cal = s.cal := by
  have h := congrArg State.cal (State.postCompletion_lessExchange s tag st fl d); exact h
@[simp] theorem State.postCompletion_lanes (s : State) (tag : CmdTag) (st fl : Nat) (d : Bytes) : (s.postCompletion tag st fl d).lanes = s.lanes := by
  have h := congrArg State.lanes (State.postCompletion_lessExchange s tag st fl d); exact h
@[simp] theorem State.postCompletion_ports (s : State) (tag : CmdTag) (st fl : Nat) (d : Bytes) : (s.postCompletion tag st fl d).ports = s.ports := by
  have h := congrArg State.ports (State.postCompletion_lessExchange s tag st fl d); exact h
@[simp] theorem State.postCompletion_cls (s : State) (tag : CmdTag) (st fl : Nat) (d : Bytes) : (s.postCompletion tag st fl d).cls = s.cls := by
  have h := congrArg State.cls (State.postCompletion_lessExchange s tag st fl d); exact h
@[simp] theorem State.postCompletion_fdb (s : State) (tag : CmdTag) (st fl : Nat) (d : Bytes) : (s.postCompletion tag st fl d).fdb = s.fdb := by
  have h := congrArg State.fdb (State.postCompletion_lessExchange s tag st fl d); exact h
@[simp] theorem State.postCompletion_tm (s : State) (tag : CmdTag) (st fl : Nat) (d : Bytes) : (s.postCompletion tag st fl d).tm = s.tm := by
  have h := congrArg State.tm (State.postCompletion_lessExchange s tag st fl d); exact h
@[simp] theorem State.postCompletion_obs (s : State) (tag : CmdTag) (st fl : Nat) (d : Bytes) : (s.postCompletion tag st fl d).obs = s.obs := by
  have h := congrArg State.obs (State.postCompletion_lessExchange s tag st fl d); exact h
@[simp] theorem State.postCompletion_time (s : State) (tag : CmdTag) (st fl : Nat) (d : Bytes) : (s.postCompletion tag st fl d).time = s.time := by
  have h := congrArg State.time (State.postCompletion_lessExchange s tag st fl d); exact h
@[simp] theorem State.postCompletion_ikl (s : State) (tag : CmdTag) (st fl : Nat) (d : Bytes) : (s.postCompletion tag st fl d).ikl = s.ikl := by
  have h := congrArg State.ikl (State.postCompletion_lessExchange s tag st fl d); exact h
@[simp] theorem State.postCompletion_bm (s : State) (tag : CmdTag) (st fl : Nat) (d : Bytes) : (s.postCompletion tag st fl d).bm = s.bm := by
  have h := congrArg State.bm (State.postCompletion_lessExchange s tag st fl d); exact h
@[simp] theorem State.postCompletion_red (s : State) (tag : CmdTag) (st fl : Nat) (d : Bytes) : (s.postCompletion tag st fl d).red = s.red := by
  have h := congrArg State.red (State.postCompletion_lessExchange s tag st fl d); exact h

theorem State.completeWith_lessExchange (s : State) (tag : CmdTag) (st : Nat) (d : List (Nat × Nat)) (w : Bool) : (s.completeWith tag st d w).lessExchange = s.lessExchange := by
  unfold State.completeWith
  dsimp only
  rw [State.setRing_lessExchange, State.postCompletion_lessExchange]
  split <;> rfl

@[simp] theorem State.completeWith_pending (s : State) (tag : CmdTag) (st : Nat) (d : List (Nat × Nat)) (w : Bool) : (s.completeWith tag st d w).pending = s.pending := by
  have h := congrArg State.pending (State.completeWith_lessExchange s tag st d w); exact h
@[simp] theorem State.completeWith_clk (s : State) (tag : CmdTag) (st : Nat) (d : List (Nat × Nat)) (w : Bool) : (s.completeWith tag st d w).clk = s.clk := by
  have h := congrArg State.clk (State.completeWith_lessExchange s tag st d w); exact h
@[simp] theorem State.completeWith_freeCtr (s : State) (tag : CmdTag) (st : Nat) (d : List (Nat × Nat)) (w : Bool) : (s.completeWith tag st d w).freeCtr = s.freeCtr := by
  have h := congrArg State.freeCtr (State.completeWith_lessExchange s tag st d w); exact h
@[simp] theorem State.completeWith_regs (s : State) (tag : CmdTag) (st : Nat) (d : List (Nat × Nat)) (w : Bool) : (s.completeWith tag st d w).regs = s.regs := by
  have h := congrArg State.regs (State.completeWith_lessExchange s tag st d w); exact h
@[simp] theorem State.completeWith_locks (s : State) (tag : CmdTag) (st : Nat) (d : List (Nat × Nat)) (w : Bool) : (s.completeWith tag st d w).locks = s.locks := by
  have h := congrArg State.locks (State.completeWith_lessExchange s tag st d w); exact h
@[simp] theorem State.completeWith_evLast (s : State) (tag : CmdTag) (st : Nat) (d : List (Nat × Nat)) (w : Bool) : (s.completeWith tag st d w).evLast = s.evLast := by
  have h := congrArg State.evLast (State.completeWith_lessExchange s tag st d w); exact h
@[simp] theorem State.completeWith_winLatch (s : State) (tag : CmdTag) (st : Nat) (d : List (Nat × Nat)) (w : Bool) : (s.completeWith tag st d w).winLatch = s.winLatch := by
  have h := congrArg State.winLatch (State.completeWith_lessExchange s tag st d w); exact h
@[simp] theorem State.completeWith_readData (s : State) (tag : CmdTag) (st : Nat) (d : List (Nat × Nat)) (w : Bool) : (s.completeWith tag st d w).readData = s.readData := by
  have h := congrArg State.readData (State.completeWith_lessExchange s tag st d w); exact h
@[simp] theorem State.completeWith_out (s : State) (tag : CmdTag) (st : Nat) (d : List (Nat × Nat)) (w : Bool) : (s.completeWith tag st d w).out = s.out := by
  have h := congrArg State.out (State.completeWith_lessExchange s tag st d w); exact h
@[simp] theorem State.completeWith_alertEvent (s : State) (tag : CmdTag) (st : Nat) (d : List (Nat × Nat)) (w : Bool) : (s.completeWith tag st d w).alertEvent = s.alertEvent := by
  have h := congrArg State.alertEvent (State.completeWith_lessExchange s tag st d w); exact h
@[simp] theorem State.completeWith_alertCode (s : State) (tag : CmdTag) (st : Nat) (d : List (Nat × Nat)) (w : Bool) : (s.completeWith tag st d w).alertCode = s.alertCode := by
  have h := congrArg State.alertCode (State.completeWith_lessExchange s tag st d w); exact h
@[simp] theorem State.completeWith_noStandby (s : State) (tag : CmdTag) (st : Nat) (d : List (Nat × Nat)) (w : Bool) : (s.completeWith tag st d w).noStandby = s.noStandby := by
  have h := congrArg State.noStandby (State.completeWith_lessExchange s tag st d w); exact h
@[simp] theorem State.completeWith_mode (s : State) (tag : CmdTag) (st : Nat) (d : List (Nat × Nat)) (w : Bool) : (s.completeWith tag st d w).mode = s.mode := by
  have h := congrArg State.mode (State.completeWith_lessExchange s tag st d w); exact h
@[simp] theorem State.completeWith_pwr (s : State) (tag : CmdTag) (st : Nat) (d : List (Nat × Nat)) (w : Bool) : (s.completeWith tag st d w).pwr = s.pwr := by
  have h := congrArg State.pwr (State.completeWith_lessExchange s tag st d w); exact h
@[simp] theorem State.completeWith_ref (s : State) (tag : CmdTag) (st : Nat) (d : List (Nat × Nat)) (w : Bool) : (s.completeWith tag st d w).ref = s.ref := by
  have h := congrArg State.ref (State.completeWith_lessExchange s tag st d w); exact h
@[simp] theorem State.completeWith_ret (s : State) (tag : CmdTag) (st : Nat) (d : List (Nat × Nat)) (w : Bool) : (s.completeWith tag st d w).ret = s.ret := by
  have h := congrArg State.ret (State.completeWith_lessExchange s tag st d w); exact h
@[simp] theorem State.completeWith_store (s : State) (tag : CmdTag) (st : Nat) (d : List (Nat × Nat)) (w : Bool) : (s.completeWith tag st d w).store = s.store := by
  have h := congrArg State.store (State.completeWith_lessExchange s tag st d w); exact h
@[simp] theorem State.completeWith_start (s : State) (tag : CmdTag) (st : Nat) (d : List (Nat × Nat)) (w : Bool) : (s.completeWith tag st d w).start = s.start := by
  have h := congrArg State.start (State.completeWith_lessExchange s tag st d w); exact h
@[simp] theorem State.completeWith_canvas (s : State) (tag : CmdTag) (st : Nat) (d : List (Nat × Nat)) (w : Bool) : (s.completeWith tag st d w).canvas = s.canvas := by
  have h := congrArg State.canvas (State.completeWith_lessExchange s tag st d w); exact h
@[simp] theorem State.completeWith_pins (s : State) (tag : CmdTag) (st : Nat) (d : List (Nat × Nat)) (w : Bool) : (s.completeWith tag st d w).pins = s.pins := by
  have h := congrArg State.pins (State.completeWith_lessExchange s tag st d w); exact h
@[simp] theorem State.completeWith_saf (s : State) (tag : CmdTag) (st : Nat) (d : List (Nat × Nat)) (w : Bool) : (s.completeWith tag st d w).saf = s.saf := by
  have h := congrArg State.saf (State.completeWith_lessExchange s tag st d w); exact h
@[simp] theorem State.completeWith_thm (s : State) (tag : CmdTag) (st : Nat) (d : List (Nat × Nat)) (w : Bool) : (s.completeWith tag st d w).thm = s.thm := by
  have h := congrArg State.thm (State.completeWith_lessExchange s tag st d w); exact h
@[simp] theorem State.completeWith_nvm (s : State) (tag : CmdTag) (st : Nat) (d : List (Nat × Nat)) (w : Bool) : (s.completeWith tag st d w).nvm = s.nvm := by
  have h := congrArg State.nvm (State.completeWith_lessExchange s tag st d w); exact h
@[simp] theorem State.completeWith_mx (s : State) (tag : CmdTag) (st : Nat) (d : List (Nat × Nat)) (w : Bool) : (s.completeWith tag st d w).mx = s.mx := by
  have h := congrArg State.mx (State.completeWith_lessExchange s tag st d w); exact h
@[simp] theorem State.completeWith_orb (s : State) (tag : CmdTag) (st : Nat) (d : List (Nat × Nat)) (w : Bool) : (s.completeWith tag st d w).orb = s.orb := by
  have h := congrArg State.orb (State.completeWith_lessExchange s tag st d w); exact h
@[simp] theorem State.completeWith_loops (s : State) (tag : CmdTag) (st : Nat) (d : List (Nat × Nat)) (w : Bool) : (s.completeWith tag st d w).loops = s.loops := by
  have h := congrArg State.loops (State.completeWith_lessExchange s tag st d w); exact h
@[simp] theorem State.completeWith_eng (s : State) (tag : CmdTag) (st : Nat) (d : List (Nat × Nat)) (w : Bool) : (s.completeWith tag st d w).eng = s.eng := by
  have h := congrArg State.eng (State.completeWith_lessExchange s tag st d w); exact h
@[simp] theorem State.completeWith_adc (s : State) (tag : CmdTag) (st : Nat) (d : List (Nat × Nat)) (w : Bool) : (s.completeWith tag st d w).adc = s.adc := by
  have h := congrArg State.adc (State.completeWith_lessExchange s tag st d w); exact h
@[simp] theorem State.completeWith_dac (s : State) (tag : CmdTag) (st : Nat) (d : List (Nat × Nat)) (w : Bool) : (s.completeWith tag st d w).dac = s.dac := by
  have h := congrArg State.dac (State.completeWith_lessExchange s tag st d w); exact h
@[simp] theorem State.completeWith_cal (s : State) (tag : CmdTag) (st : Nat) (d : List (Nat × Nat)) (w : Bool) : (s.completeWith tag st d w).cal = s.cal := by
  have h := congrArg State.cal (State.completeWith_lessExchange s tag st d w); exact h
@[simp] theorem State.completeWith_lanes (s : State) (tag : CmdTag) (st : Nat) (d : List (Nat × Nat)) (w : Bool) : (s.completeWith tag st d w).lanes = s.lanes := by
  have h := congrArg State.lanes (State.completeWith_lessExchange s tag st d w); exact h
@[simp] theorem State.completeWith_ports (s : State) (tag : CmdTag) (st : Nat) (d : List (Nat × Nat)) (w : Bool) : (s.completeWith tag st d w).ports = s.ports := by
  have h := congrArg State.ports (State.completeWith_lessExchange s tag st d w); exact h
@[simp] theorem State.completeWith_cls (s : State) (tag : CmdTag) (st : Nat) (d : List (Nat × Nat)) (w : Bool) : (s.completeWith tag st d w).cls = s.cls := by
  have h := congrArg State.cls (State.completeWith_lessExchange s tag st d w); exact h
@[simp] theorem State.completeWith_fdb (s : State) (tag : CmdTag) (st : Nat) (d : List (Nat × Nat)) (w : Bool) : (s.completeWith tag st d w).fdb = s.fdb := by
  have h := congrArg State.fdb (State.completeWith_lessExchange s tag st d w); exact h
@[simp] theorem State.completeWith_tm (s : State) (tag : CmdTag) (st : Nat) (d : List (Nat × Nat)) (w : Bool) : (s.completeWith tag st d w).tm = s.tm := by
  have h := congrArg State.tm (State.completeWith_lessExchange s tag st d w); exact h
@[simp] theorem State.completeWith_obs (s : State) (tag : CmdTag) (st : Nat) (d : List (Nat × Nat)) (w : Bool) : (s.completeWith tag st d w).obs = s.obs := by
  have h := congrArg State.obs (State.completeWith_lessExchange s tag st d w); exact h
@[simp] theorem State.completeWith_time (s : State) (tag : CmdTag) (st : Nat) (d : List (Nat × Nat)) (w : Bool) : (s.completeWith tag st d w).time = s.time := by
  have h := congrArg State.time (State.completeWith_lessExchange s tag st d w); exact h
@[simp] theorem State.completeWith_ikl (s : State) (tag : CmdTag) (st : Nat) (d : List (Nat × Nat)) (w : Bool) : (s.completeWith tag st d w).ikl = s.ikl := by
  have h := congrArg State.ikl (State.completeWith_lessExchange s tag st d w); exact h
@[simp] theorem State.completeWith_bm (s : State) (tag : CmdTag) (st : Nat) (d : List (Nat × Nat)) (w : Bool) : (s.completeWith tag st d w).bm = s.bm := by
  have h := congrArg State.bm (State.completeWith_lessExchange s tag st d w); exact h
@[simp] theorem State.completeWith_red (s : State) (tag : CmdTag) (st : Nat) (d : List (Nat × Nat)) (w : Bool) : (s.completeWith tag st d w).red = s.red := by
  have h := congrArg State.red (State.completeWith_lessExchange s tag st d w); exact h

theorem State.complete_lessExchange (s : State) (tag : CmdTag) (st : Nat) (d : List (Nat × Nat)) : (s.complete tag st d).lessExchange = s.lessExchange := by
  exact State.completeWith_lessExchange s tag st d false

@[simp] theorem State.complete_pending (s : State) (tag : CmdTag) (st : Nat) (d : List (Nat × Nat)) : (s.complete tag st d).pending = s.pending := by
  have h := congrArg State.pending (State.complete_lessExchange s tag st d); exact h
@[simp] theorem State.complete_clk (s : State) (tag : CmdTag) (st : Nat) (d : List (Nat × Nat)) : (s.complete tag st d).clk = s.clk := by
  have h := congrArg State.clk (State.complete_lessExchange s tag st d); exact h
@[simp] theorem State.complete_freeCtr (s : State) (tag : CmdTag) (st : Nat) (d : List (Nat × Nat)) : (s.complete tag st d).freeCtr = s.freeCtr := by
  have h := congrArg State.freeCtr (State.complete_lessExchange s tag st d); exact h
@[simp] theorem State.complete_regs (s : State) (tag : CmdTag) (st : Nat) (d : List (Nat × Nat)) : (s.complete tag st d).regs = s.regs := by
  have h := congrArg State.regs (State.complete_lessExchange s tag st d); exact h
@[simp] theorem State.complete_locks (s : State) (tag : CmdTag) (st : Nat) (d : List (Nat × Nat)) : (s.complete tag st d).locks = s.locks := by
  have h := congrArg State.locks (State.complete_lessExchange s tag st d); exact h
@[simp] theorem State.complete_evLast (s : State) (tag : CmdTag) (st : Nat) (d : List (Nat × Nat)) : (s.complete tag st d).evLast = s.evLast := by
  have h := congrArg State.evLast (State.complete_lessExchange s tag st d); exact h
@[simp] theorem State.complete_winLatch (s : State) (tag : CmdTag) (st : Nat) (d : List (Nat × Nat)) : (s.complete tag st d).winLatch = s.winLatch := by
  have h := congrArg State.winLatch (State.complete_lessExchange s tag st d); exact h
@[simp] theorem State.complete_readData (s : State) (tag : CmdTag) (st : Nat) (d : List (Nat × Nat)) : (s.complete tag st d).readData = s.readData := by
  have h := congrArg State.readData (State.complete_lessExchange s tag st d); exact h
@[simp] theorem State.complete_out (s : State) (tag : CmdTag) (st : Nat) (d : List (Nat × Nat)) : (s.complete tag st d).out = s.out := by
  have h := congrArg State.out (State.complete_lessExchange s tag st d); exact h
@[simp] theorem State.complete_alertEvent (s : State) (tag : CmdTag) (st : Nat) (d : List (Nat × Nat)) : (s.complete tag st d).alertEvent = s.alertEvent := by
  have h := congrArg State.alertEvent (State.complete_lessExchange s tag st d); exact h
@[simp] theorem State.complete_alertCode (s : State) (tag : CmdTag) (st : Nat) (d : List (Nat × Nat)) : (s.complete tag st d).alertCode = s.alertCode := by
  have h := congrArg State.alertCode (State.complete_lessExchange s tag st d); exact h
@[simp] theorem State.complete_noStandby (s : State) (tag : CmdTag) (st : Nat) (d : List (Nat × Nat)) : (s.complete tag st d).noStandby = s.noStandby := by
  have h := congrArg State.noStandby (State.complete_lessExchange s tag st d); exact h
@[simp] theorem State.complete_mode (s : State) (tag : CmdTag) (st : Nat) (d : List (Nat × Nat)) : (s.complete tag st d).mode = s.mode := by
  have h := congrArg State.mode (State.complete_lessExchange s tag st d); exact h
@[simp] theorem State.complete_pwr (s : State) (tag : CmdTag) (st : Nat) (d : List (Nat × Nat)) : (s.complete tag st d).pwr = s.pwr := by
  have h := congrArg State.pwr (State.complete_lessExchange s tag st d); exact h
@[simp] theorem State.complete_ref (s : State) (tag : CmdTag) (st : Nat) (d : List (Nat × Nat)) : (s.complete tag st d).ref = s.ref := by
  have h := congrArg State.ref (State.complete_lessExchange s tag st d); exact h
@[simp] theorem State.complete_ret (s : State) (tag : CmdTag) (st : Nat) (d : List (Nat × Nat)) : (s.complete tag st d).ret = s.ret := by
  have h := congrArg State.ret (State.complete_lessExchange s tag st d); exact h
@[simp] theorem State.complete_store (s : State) (tag : CmdTag) (st : Nat) (d : List (Nat × Nat)) : (s.complete tag st d).store = s.store := by
  have h := congrArg State.store (State.complete_lessExchange s tag st d); exact h
@[simp] theorem State.complete_start (s : State) (tag : CmdTag) (st : Nat) (d : List (Nat × Nat)) : (s.complete tag st d).start = s.start := by
  have h := congrArg State.start (State.complete_lessExchange s tag st d); exact h
@[simp] theorem State.complete_canvas (s : State) (tag : CmdTag) (st : Nat) (d : List (Nat × Nat)) : (s.complete tag st d).canvas = s.canvas := by
  have h := congrArg State.canvas (State.complete_lessExchange s tag st d); exact h
@[simp] theorem State.complete_pins (s : State) (tag : CmdTag) (st : Nat) (d : List (Nat × Nat)) : (s.complete tag st d).pins = s.pins := by
  have h := congrArg State.pins (State.complete_lessExchange s tag st d); exact h
@[simp] theorem State.complete_saf (s : State) (tag : CmdTag) (st : Nat) (d : List (Nat × Nat)) : (s.complete tag st d).saf = s.saf := by
  have h := congrArg State.saf (State.complete_lessExchange s tag st d); exact h
@[simp] theorem State.complete_thm (s : State) (tag : CmdTag) (st : Nat) (d : List (Nat × Nat)) : (s.complete tag st d).thm = s.thm := by
  have h := congrArg State.thm (State.complete_lessExchange s tag st d); exact h
@[simp] theorem State.complete_nvm (s : State) (tag : CmdTag) (st : Nat) (d : List (Nat × Nat)) : (s.complete tag st d).nvm = s.nvm := by
  have h := congrArg State.nvm (State.complete_lessExchange s tag st d); exact h
@[simp] theorem State.complete_mx (s : State) (tag : CmdTag) (st : Nat) (d : List (Nat × Nat)) : (s.complete tag st d).mx = s.mx := by
  have h := congrArg State.mx (State.complete_lessExchange s tag st d); exact h
@[simp] theorem State.complete_orb (s : State) (tag : CmdTag) (st : Nat) (d : List (Nat × Nat)) : (s.complete tag st d).orb = s.orb := by
  have h := congrArg State.orb (State.complete_lessExchange s tag st d); exact h
@[simp] theorem State.complete_loops (s : State) (tag : CmdTag) (st : Nat) (d : List (Nat × Nat)) : (s.complete tag st d).loops = s.loops := by
  have h := congrArg State.loops (State.complete_lessExchange s tag st d); exact h
@[simp] theorem State.complete_eng (s : State) (tag : CmdTag) (st : Nat) (d : List (Nat × Nat)) : (s.complete tag st d).eng = s.eng := by
  have h := congrArg State.eng (State.complete_lessExchange s tag st d); exact h
@[simp] theorem State.complete_adc (s : State) (tag : CmdTag) (st : Nat) (d : List (Nat × Nat)) : (s.complete tag st d).adc = s.adc := by
  have h := congrArg State.adc (State.complete_lessExchange s tag st d); exact h
@[simp] theorem State.complete_dac (s : State) (tag : CmdTag) (st : Nat) (d : List (Nat × Nat)) : (s.complete tag st d).dac = s.dac := by
  have h := congrArg State.dac (State.complete_lessExchange s tag st d); exact h
@[simp] theorem State.complete_cal (s : State) (tag : CmdTag) (st : Nat) (d : List (Nat × Nat)) : (s.complete tag st d).cal = s.cal := by
  have h := congrArg State.cal (State.complete_lessExchange s tag st d); exact h
@[simp] theorem State.complete_lanes (s : State) (tag : CmdTag) (st : Nat) (d : List (Nat × Nat)) : (s.complete tag st d).lanes = s.lanes := by
  have h := congrArg State.lanes (State.complete_lessExchange s tag st d); exact h
@[simp] theorem State.complete_ports (s : State) (tag : CmdTag) (st : Nat) (d : List (Nat × Nat)) : (s.complete tag st d).ports = s.ports := by
  have h := congrArg State.ports (State.complete_lessExchange s tag st d); exact h
@[simp] theorem State.complete_cls (s : State) (tag : CmdTag) (st : Nat) (d : List (Nat × Nat)) : (s.complete tag st d).cls = s.cls := by
  have h := congrArg State.cls (State.complete_lessExchange s tag st d); exact h
@[simp] theorem State.complete_fdb (s : State) (tag : CmdTag) (st : Nat) (d : List (Nat × Nat)) : (s.complete tag st d).fdb = s.fdb := by
  have h := congrArg State.fdb (State.complete_lessExchange s tag st d); exact h
@[simp] theorem State.complete_tm (s : State) (tag : CmdTag) (st : Nat) (d : List (Nat × Nat)) : (s.complete tag st d).tm = s.tm := by
  have h := congrArg State.tm (State.complete_lessExchange s tag st d); exact h
@[simp] theorem State.complete_obs (s : State) (tag : CmdTag) (st : Nat) (d : List (Nat × Nat)) : (s.complete tag st d).obs = s.obs := by
  have h := congrArg State.obs (State.complete_lessExchange s tag st d); exact h
@[simp] theorem State.complete_time (s : State) (tag : CmdTag) (st : Nat) (d : List (Nat × Nat)) : (s.complete tag st d).time = s.time := by
  have h := congrArg State.time (State.complete_lessExchange s tag st d); exact h
@[simp] theorem State.complete_ikl (s : State) (tag : CmdTag) (st : Nat) (d : List (Nat × Nat)) : (s.complete tag st d).ikl = s.ikl := by
  have h := congrArg State.ikl (State.complete_lessExchange s tag st d); exact h
@[simp] theorem State.complete_bm (s : State) (tag : CmdTag) (st : Nat) (d : List (Nat × Nat)) : (s.complete tag st d).bm = s.bm := by
  have h := congrArg State.bm (State.complete_lessExchange s tag st d); exact h
@[simp] theorem State.complete_red (s : State) (tag : CmdTag) (st : Nat) (d : List (Nat × Nat)) : (s.complete tag st d).red = s.red := by
  have h := congrArg State.red (State.complete_lessExchange s tag st d); exact h

end Sys2Proof.Machine
end

