-- ==== Sys2Proof/Laws/Keep.lean ====
section
/-!
SUPPORT. `Keep q s`: the queue holds `q` and R500 holds of `s`. Every operation of the model keeps it, one lemma each, so
that the statement about the whole step needs none of their bodies.
-/

namespace Sys2Proof.Machine

/-- What `Keep` reads of a state, field by field. -/
def KeepF (q p : List Instr) (on want wired : Nat) (g : Guard) (lock tested : Bool) (m : Mode) : Prop :=
  p = q ∧ on = want ∧ clearBits on wired = 0 ∧
    (on ≠ 0 → lock = false ∧ tested = true ∧ g = .closed ∧ 2 ≤ m.code)

/-- The queue holds `q`, and the lasers obey R500. -/
def Keep (q : List Instr) (s : State) : Prop :=
  KeepF q s.pending s.saf.lsrEn s.saf.request s.saf.wired s.saf.guard s.ret.lockout s.ret.tested s.mode.mode

/-- `Keep` of what an outcome holds. -/
def KeepOut (q : List Instr) : Host.Outcome State Fault Refusal → Prop
  | .next t => Keep q t
  | _ => True

/-- `Keep` of an optional state. -/
def KeepOpt (q : List Instr) : Option State → Prop
  | some t => Keep q t
  | none => True

/-- `Keep` of the state beside an optional value. -/
def KeepOpt2 {α : Type} (q : List Instr) : Option (α × State) → Prop
  | some t => Keep q t.2
  | none => True

theorem keep_iff (q : List Instr) (s : State) : Keep q s ↔ s.pending = q ∧ LaserSafe s := Iff.rfl

@[simp] theorem keep_mk (q : List Instr) {x0} {x1} {x2} {x3} {x4} {x5} {x6} {x7} {x8} {x9} {x10} {x11} {x12} {x13} {x14} {x15} {x16} {x17} {x18} {x19} {x20} {x21} {x22} {x23} {x24} {x25} {x26} {x27} {x28} {x29} {x30} {x31} {x32} {x33} {x34} {x35} {x36} {x37} {x38} {x39} {x40} {x41} :
    Keep q (State.mk x0 x1 x2 x3 x4 x5 x6 x7 x8 x9 x10 x11 x12 x13 x14 x15 x16 x17 x18 x19 x20 x21 x22 x23 x24 x25 x26 x27 x28 x29 x30 x31 x32 x33 x34 x35 x36 x37 x38 x39 x40 x41) ↔
      KeepF q x0 x21.lsrEn x21.request x21.wired x21.guard x16.lockout x16.tested x13.mode :=
  Iff.rfl

@[simp] theorem keepF_fold (q : List Instr) (s : State) :
    KeepF q s.pending s.saf.lsrEn s.saf.request s.saf.wired s.saf.guard s.ret.lockout s.ret.tested s.mode.mode ↔ Keep q s :=
  Iff.rfl

@[simp] theorem keepOut_next (q : List Instr) (s : State) : KeepOut q (.next s) ↔ Keep q s := Iff.rfl
@[simp] theorem keepOut_next' (q : List Instr) (s : State) : KeepOut q (next s) ↔ Keep q s := Iff.rfl
@[simp] theorem keepOpt_some (q : List Instr) (s : State) : KeepOpt q (some s) ↔ Keep q s := Iff.rfl
@[simp] theorem keepOpt_none (q : List Instr) : KeepOpt q none ↔ True := Iff.rfl
@[simp] theorem keepOpt2_some {α : Type} (q : List Instr) (a : α) (s : State) : KeepOpt2 q (some (a, s)) ↔ Keep q s := Iff.rfl
@[simp] theorem keepOpt2_none {α : Type} (q : List Instr) : KeepOpt2 q (none : Option (α × State)) ↔ True := Iff.rfl

@[simp] theorem keep_ite (q : List Instr) (c : Prop) [Decidable c] (a b : State) :
    Keep q (if c then a else b) ↔ if c then Keep q a else Keep q b := by
  split <;> rfl

theorem keep_each {α : Type} {q : List Instr} {s : State} {l : List α} {f : State → α → State}
    (h : Keep q s) (hf : ∀ s x, Keep q s → Keep q (f s x)) : Keep q (s.each l f) := by
  unfold State.each
  induction l generalizing s with
  | nil => exact h
  | cons x xs ih => exact ih (hf s x h)

theorem keep_foldl {α : Type} {q : List Instr} {s : State} {l : List α} {f : State → α → State}
    (h : Keep q s) (hf : ∀ s x, Keep q s → Keep q (f s x)) : Keep q (l.foldl f s) := keep_each h hf

end Sys2Proof.Machine
end

