-- ==== Sys2Proof/Laws/PerInstr.lean ====
section
/-!
SUPPORT. One statement about every command as syntax: it is well-formed exactly when each of its numbers lies below its
bound.
-/

namespace Sys2Proof.Laws.Operands

/-- A command is well-formed exactly when every number it carries lies below its bound. -/
def Statement (i : Instr) : Prop := wellFormed i = true ↔ ∀ p ∈ boundsOf i, p.1 < p.2

/-- The statement holds of any command. -/
theorem of_any (i : Instr) : Statement i := by
  simp only [Statement, wellFormed, List.all_eq_true, decide_eq_true_eq]

theorem registerWrite {x0} {x1} {x2} : Statement (.registerWrite x0 x1 x2) := of_any _
theorem registerReadClear {x0} {x1} {x2} : Statement (.registerReadClear x0 x1 x2) := of_any _
theorem windowRecordRead {x0} : Statement (.windowRecordRead x0) := of_any _
theorem counterRecordRead {x0} : Statement (.counterRecordRead x0) := of_any _
theorem mxMonSelWrite {x0} : Statement (.mxMonSelWrite x0) := of_any _
theorem mxMonDataRead : Statement (.mxMonDataRead) := of_any _
theorem dacMonDataRead : Statement (.dacMonDataRead) := of_any _
theorem orbCycleLoRead : Statement (.orbCycleLoRead) := of_any _
theorem leLoopPeriodLoRead : Statement (.leLoopPeriodLoRead) := of_any _
theorem fdbEpochRead : Statement (.fdbEpochRead) := of_any _
theorem timNowFracRead : Statement (.timNowFracRead) := of_any _
theorem timJumpLoRead : Statement (.timJumpLoRead) := of_any _
theorem timCapW0Read {x0} : Statement (.timCapW0Read x0) := of_any _
theorem bmErrInfoRead : Statement (.bmErrInfoRead) := of_any _
theorem cxStateEpochRead : Statement (.cxStateEpochRead) := of_any _
theorem genAlertClear {x0} : Statement (.genAlertClear x0) := of_any _
theorem msixUnmask {x0} : Statement (.msixUnmask x0) := of_any _
theorem start {x0} : Statement (.start x0) := of_any _
theorem startStepTimeout : Statement (.startStepTimeout) := of_any _
theorem startRetry : Statement (.startRetry) := of_any _
theorem startContinue : Statement (.startContinue) := of_any _
theorem rstNAssert {x0} : Statement (.rstNAssert x0) := of_any _
theorem rstNRelease {x0} : Statement (.rstNRelease x0) := of_any _
theorem perstNAssert : Statement (.perstNAssert) := of_any _
theorem perstNDeassert : Statement (.perstNDeassert) := of_any _
theorem pcieFunctionReset {x0} : Statement (.pcieFunctionReset x0) := of_any _
theorem busMasterEnableClear : Statement (.busMasterEnableClear) := of_any _
theorem dacClrNAssert {x0} : Statement (.dacClrNAssert x0) := of_any _
theorem dacClrNRelease {x0} : Statement (.dacClrNRelease x0) := of_any _
theorem inputStuckTimeout {x0} : Statement (.inputStuckTimeout x0) := of_any _
theorem inputRecovery {x0} : Statement (.inputRecovery x0) := of_any _
theorem safetySample {x0} : Statement (.safetySample x0) := of_any _
theorem guardChange {x0} {x1} {x2} : Statement (.guardChange x0 x1 x2) := of_any _
theorem discrepancyFault : Statement (.discrepancyFault) := of_any _
theorem safResetPress {x0} : Statement (.safResetPress x0) := of_any _
theorem safResetRelease {x0} : Statement (.safResetRelease x0) := of_any _
theorem resetFault : Statement (.resetFault) := of_any _
theorem lsrFbChange {x0} {x1} {x2} : Statement (.lsrFbChange x0 x1 x2) := of_any _
theorem fbLate {x0} : Statement (.fbLate x0) := of_any _
theorem safLaserSet {x0} {x1} : Statement (.safLaserSet x0 x1) := of_any _
theorem safCfgWrite {x0} {x1} : Statement (.safCfgWrite x0 x1) := of_any _
theorem trigInEdge {x0} {x1} {x2} : Statement (.trigInEdge x0 x1 x2) := of_any _
theorem ppsInEdge {x0} : Statement (.ppsInEdge x0) := of_any _
theorem trigOutPulse {x0} : Statement (.trigOutPulse x0) := of_any _
theorem trigOutArm {x0} : Statement (.trigOutArm x0) := of_any _
theorem trigOutDisable {x0} : Statement (.trigOutDisable x0) := of_any _
theorem ppsOutPulse : Statement (.ppsOutPulse) := of_any _
theorem tripComparatorFire {x0} : Statement (.tripComparatorFire x0) := of_any _
theorem tripRestart {x0} {x1} : Statement (.tripRestart x0 x1) := of_any _
theorem vaonRise : Statement (.vaonRise) := of_any _
theorem vaonFall : Statement (.vaonFall) := of_any _
theorem mainRailsRise : Statement (.mainRailsRise) := of_any _
theorem railUndervoltage {x0} {x1} : Statement (.railUndervoltage x0 x1) := of_any _
theorem vhtrRemoved : Statement (.vhtrRemoved) := of_any _
theorem vsramLow : Statement (.vsramLow) := of_any _
theorem refclkCheck {x0} {x1} : Statement (.refclkCheck x0 x1) := of_any _
theorem smbusIdentRead : Statement (.smbusIdentRead) := of_any _
theorem smbusThermalRead : Statement (.smbusThermalRead) := of_any _
theorem smbusSafetyRead : Statement (.smbusSafetyRead) := of_any _
theorem smbusStatusRead : Statement (.smbusStatusRead) := of_any _
theorem smbusWake {x0} : Statement (.smbusWake x0) := of_any _
theorem jtagBypass : Statement (.jtagBypass) := of_any _
theorem jtagIdcode : Statement (.jtagIdcode) := of_any _
theorem jtagSamplePreload : Statement (.jtagSamplePreload) := of_any _
theorem jtagExtest : Statement (.jtagExtest) := of_any _
theorem jtagExtestPulse : Statement (.jtagExtestPulse) := of_any _
theorem jtagExtestTrain : Statement (.jtagExtestTrain) := of_any _
theorem setMode {x0} {x1} {x2} : Statement (.setMode x0 x1 x2) := of_any _
theorem setPower {x0} {x1} : Statement (.setPower x0 x1) := of_any _
theorem powerRungReached : Statement (.powerRungReached) := of_any _
theorem keepPass : Statement (.keepPass) := of_any _
theorem packetStopTimeout : Statement (.packetStopTimeout) := of_any _
theorem resetModule {x0} {x1} : Statement (.resetModule x0 x1) := of_any _
theorem loadCanvas {x0} {x1} {x2} {x3} : Statement (.loadCanvas x0 x1 x2 x3) := of_any _
theorem canvasPrepare {x0} {x1} {x2} {x3} {x4} : Statement (.canvasPrepare x0 x1 x2 x3 x4) := of_any _
theorem canvasCommit {x0} {x1} : Statement (.canvasCommit x0 x1) := of_any _
theorem canvasActivation : Statement (.canvasActivation) := of_any _
theorem canvasAbort {x0} : Statement (.canvasAbort x0) := of_any _
theorem canvasTimeout : Statement (.canvasTimeout) := of_any _
theorem canvasDigestCheck : Statement (.canvasDigestCheck) := of_any _
theorem digestGraceExpire : Statement (.digestGraceExpire) := of_any _
theorem keyRevoke {x0} {x1} : Statement (.keyRevoke x0 x1) := of_any _
theorem swatchWrite {x0} {x1} {x2} {x3} {x4} {x5} {x6} : Statement (.swatchWrite x0 x1 x2 x3 x4 x5 x6) := of_any _
theorem swatchLoad {x0} {x1} {x2} {x3} : Statement (.swatchLoad x0 x1 x2 x3) := of_any _
theorem swatchInvalidate {x0} {x1} : Statement (.swatchInvalidate x0 x1) := of_any _
theorem swatchRead {x0} {x1} {x2} : Statement (.swatchRead x0 x1 x2) := of_any _
theorem swatchApply {x0} {x1} {x2} : Statement (.swatchApply x0 x1 x2) := of_any _
theorem stuckAdd {x0} {x1} {x2} : Statement (.stuckAdd x0 x1 x2) := of_any _
theorem stuckClear {x0} {x1} : Statement (.stuckClear x0 x1) := of_any _
theorem routeRequestDone {x0} : Statement (.routeRequestDone x0) := of_any _
theorem routeCtlWrite {x0} : Statement (.routeCtlWrite x0) := of_any _
theorem reroute : Statement (.reroute) := of_any _
theorem orbitPrepare {x0} {x1} {x2} {x3} {x4} {x5} : Statement (.orbitPrepare x0 x1 x2 x3 x4 x5) := of_any _
theorem orbitCommit {x0} {x1} : Statement (.orbitCommit x0 x1) := of_any _
theorem orbitAbort {x0} : Statement (.orbitAbort x0) := of_any _
theorem orbitRead {x0} {x1} {x2} {x3} : Statement (.orbitRead x0 x1 x2 x3) := of_any _
theorem orbitTimeout : Statement (.orbitTimeout) := of_any _
theorem orbitTakeover : Statement (.orbitTakeover) := of_any _
theorem slotBoundary {x0} : Statement (.slotBoundary x0) := of_any _
theorem burstIntervalBoundary : Statement (.burstIntervalBoundary) := of_any _
theorem holdPeriodBoundary {x0} : Statement (.holdPeriodBoundary x0) := of_any _
theorem endOfPeriodWork {x0} : Statement (.endOfPeriodWork x0) := of_any _
theorem loopOutputDeadline : Statement (.loopOutputDeadline) := of_any _
theorem coefWindowWrite {x0} {x1} {x2} : Statement (.coefWindowWrite x0 x1 x2) := of_any _
theorem coefCommit {x0} : Statement (.coefCommit x0) := of_any _
theorem loopCmdRelease {x0} {x1} : Statement (.loopCmdRelease x0 x1) := of_any _
theorem loopCmdReset {x0} {x1} : Statement (.loopCmdReset x0 x1) := of_any _
theorem loopCmdDisable {x0} {x1} : Statement (.loopCmdDisable x0 x1) := of_any _
theorem loopCmdEnable {x0} {x1} : Statement (.loopCmdEnable x0 x1) := of_any _
theorem laneCmdRestart {x0} {x1} : Statement (.laneCmdRestart x0 x1) := of_any _
theorem laneCmdSoft {x0} {x1} : Statement (.laneCmdSoft x0 x1) := of_any _
theorem laneDeadline {x0} : Statement (.laneDeadline x0) := of_any _
theorem laneInterrupt {x0} : Statement (.laneInterrupt x0) := of_any _
theorem laneStallTimeout {x0} : Statement (.laneStallTimeout x0) := of_any _
theorem pathLate {x0} : Statement (.pathLate x0) := of_any _
theorem supervisorException {x0} {x1} {x2} : Statement (.supervisorException x0 x1 x2) := of_any _
theorem divideDone {x0} : Statement (.divideDone x0) := of_any _
theorem waitContinue {x0} : Statement (.waitContinue x0) := of_any _
theorem nop {x0} : Statement (.nop x0) := of_any _
theorem halt {x0} : Statement (.halt x0) := of_any _
theorem br {x0} {x1} {x2} : Statement (.br x0 x1 x2) := of_any _
theorem call {x0} {x1} : Statement (.call x0 x1) := of_any _
theorem jr {x0} {x1} : Statement (.jr x0 x1) := of_any _
theorem ret {x0} : Statement (.ret x0) := of_any _
theorem reti {x0} : Statement (.reti x0) := of_any _
theorem repeat_ {x0} {x1} {x2} : Statement (.repeat_ x0 x1 x2) := of_any _
theorem repeatr {x0} {x1} {x2} : Statement (.repeatr x0 x1 x2) := of_any _
theorem waitp {x0} : Statement (.waitp x0) := of_any _
theorem waite {x0} : Statement (.waite x0) := of_any _
theorem waits {x0} {x1} {x2} : Statement (.waits x0 x1 x2) := of_any _
theorem cstep {x0} {x1} {x2} : Statement (.cstep x0 x1 x2) := of_any _
theorem bkpt {x0} : Statement (.bkpt x0) := of_any _
theorem mov {x0} {x1} {x2} : Statement (.mov x0 x1 x2) := of_any _
theorem li {x0} {x1} {x2} : Statement (.li x0 x1 x2) := of_any _
theorem add {x0} {x1} {x2} {x3} : Statement (.add x0 x1 x2 x3) := of_any _
theorem addi {x0} {x1} {x2} {x3} : Statement (.addi x0 x1 x2 x3) := of_any _
theorem sub {x0} {x1} {x2} {x3} : Statement (.sub x0 x1 x2 x3) := of_any _
theorem neg {x0} {x1} {x2} : Statement (.neg x0 x1 x2) := of_any _
theorem abs {x0} {x1} {x2} : Statement (.abs x0 x1 x2) := of_any _
theorem mull {x0} {x1} {x2} {x3} : Statement (.mull x0 x1 x2 x3) := of_any _
theorem and_ {x0} {x1} {x2} {x3} : Statement (.and_ x0 x1 x2 x3) := of_any _
theorem andi {x0} {x1} {x2} {x3} : Statement (.andi x0 x1 x2 x3) := of_any _
theorem or_ {x0} {x1} {x2} {x3} : Statement (.or_ x0 x1 x2 x3) := of_any _
theorem ori {x0} {x1} {x2} {x3} : Statement (.ori x0 x1 x2 x3) := of_any _
theorem xor_ {x0} {x1} {x2} {x3} : Statement (.xor_ x0 x1 x2 x3) := of_any _
theorem xori {x0} {x1} {x2} {x3} : Statement (.xori x0 x1 x2 x3) := of_any _
theorem sll {x0} {x1} {x2} {x3} : Statement (.sll x0 x1 x2 x3) := of_any _
theorem srl {x0} {x1} {x2} {x3} : Statement (.srl x0 x1 x2 x3) := of_any _
theorem sra {x0} {x1} {x2} {x3} : Statement (.sra x0 x1 x2 x3) := of_any _
theorem rsh {x0} {x1} {x2} {x3} : Statement (.rsh x0 x1 x2 x3) := of_any _
theorem shv {x0} {x1} {x2} {x3} : Statement (.shv x0 x1 x2 x3) := of_any _
theorem cmp {x0} {x1} {x2} : Statement (.cmp x0 x1 x2) := of_any _
theorem cmpi {x0} {x1} {x2} : Statement (.cmpi x0 x1 x2) := of_any _
theorem tst {x0} {x1} {x2} : Statement (.tst x0 x1 x2) := of_any _
theorem min {x0} {x1} {x2} {x3} : Statement (.min x0 x1 x2 x3) := of_any _
theorem max {x0} {x1} {x2} {x3} : Statement (.max x0 x1 x2 x3) := of_any _
theorem clamp {x0} {x1} {x2} {x3} : Statement (.clamp x0 x1 x2 x3) := of_any _
theorem sel {x0} {x1} {x2} {x3} {x4} : Statement (.sel x0 x1 x2 x3 x4) := of_any _
theorem clz {x0} {x1} {x2} : Statement (.clz x0 x1 x2) := of_any _
theorem ext {x0} {x1} {x2} {x3} {x4} : Statement (.ext x0 x1 x2 x3 x4) := of_any _
theorem exts {x0} {x1} {x2} {x3} {x4} : Statement (.exts x0 x1 x2 x3 x4) := of_any _
theorem ins {x0} {x1} {x2} {x3} {x4} : Statement (.ins x0 x1 x2 x3 x4) := of_any _
theorem mpa {x0} {x1} {x2} {x3} : Statement (.mpa x0 x1 x2 x3) := of_any _
theorem mac {x0} {x1} {x2} {x3} : Statement (.mac x0 x1 x2 x3) := of_any _
theorem msu {x0} {x1} {x2} {x3} : Statement (.msu x0 x1 x2 x3) := of_any _
theorem mpai {x0} {x1} {x2} {x3} : Statement (.mpai x0 x1 x2 x3) := of_any _
theorem maci {x0} {x1} {x2} {x3} : Statement (.maci x0 x1 x2 x3) := of_any _
theorem mpr {x0} {x1} {x2} {x3} {x4} {x5} : Statement (.mpr x0 x1 x2 x3 x4 x5) := of_any _
theorem msr {x0} {x1} {x2} {x3} {x4} {x5} : Statement (.msr x0 x1 x2 x3 x4 x5) := of_any _
theorem mar {x0} {x1} {x2} {x3} {x4} {x5} : Statement (.mar x0 x1 x2 x3 x4 x5) := of_any _
theorem clra {x0} {x1} : Statement (.clra x0 x1) := of_any _
theorem adda {x0} {x1} {x2} {x3} : Statement (.adda x0 x1 x2 x3) := of_any _
theorem addaa {x0} {x1} {x2} : Statement (.addaa x0 x1 x2) := of_any _
theorem nega {x0} {x1} : Statement (.nega x0 x1) := of_any _
theorem sha {x0} {x1} {x2} : Statement (.sha x0 x1 x2) := of_any _
theorem shar {x0} {x1} {x2} : Statement (.shar x0 x1 x2) := of_any _
theorem sata {x0} {x1} : Statement (.sata x0 x1) := of_any _
theorem mva {x0} {x1} {x2} {x3} : Statement (.mva x0 x1 x2 x3) := of_any _
theorem mova {x0} {x1} {x2} : Statement (.mova x0 x1 x2) := of_any _
theorem mvax {x0} {x1} {x2} {x3} : Statement (.mvax x0 x1 x2 x3) := of_any _
theorem mtax {x0} {x1} {x2} {x3} : Statement (.mtax x0 x1 x2 x3) := of_any _
theorem ld {x0} {x1} {x2} {x3} : Statement (.ld x0 x1 x2 x3) := of_any _
theorem st {x0} {x1} {x2} {x3} : Statement (.st x0 x1 x2 x3) := of_any _
theorem ldx {x0} {x1} {x2} {x3} : Statement (.ldx x0 x1 x2 x3) := of_any _
theorem stx {x0} {x1} {x2} {x3} : Statement (.stx x0 x1 x2 x3) := of_any _
theorem ldv {x0} {x1} {x2} {x3} : Statement (.ldv x0 x1 x2 x3) := of_any _
theorem stv {x0} {x1} {x2} {x3} : Statement (.stv x0 x1 x2 x3) := of_any _
theorem ldd {x0} {x1} {x2} : Statement (.ldd x0 x1 x2) := of_any _
theorem std {x0} {x1} {x2} : Statement (.std x0 x1 x2) := of_any _
theorem ldr {x0} {x1} {x2} {x3} : Statement (.ldr x0 x1 x2 x3) := of_any _
theorem str {x0} {x1} {x2} {x3} : Statement (.str x0 x1 x2 x3) := of_any _
theorem agset {x0} {x1} {x2} {x3} : Statement (.agset x0 x1 x2 x3) := of_any _
theorem agsetr {x0} {x1} {x2} {x3} : Statement (.agsetr x0 x1 x2 x3) := of_any _
theorem mtag {x0} {x1} {x2} {x3} : Statement (.mtag x0 x1 x2 x3) := of_any _
theorem mfag {x0} {x1} {x2} {x3} : Statement (.mfag x0 x1 x2 x3) := of_any _
theorem mfs {x0} {x1} {x2} : Statement (.mfs x0 x1 x2) := of_any _
theorem mts {x0} {x1} {x2} : Statement (.mts x0 x1 x2) := of_any _
theorem divq {x0} {x1} {x2} {x3} : Statement (.divq x0 x1 x2 x3) := of_any _
theorem diva {x0} {x1} {x2} : Statement (.diva x0 x1 x2) := of_any _
theorem sqrta {x0} {x1} : Statement (.sqrta x0 x1) := of_any _
theorem rete {x0} : Statement (.rete x0) := of_any _
theorem syscall {x0} {x1} : Statement (.syscall x0 x1) := of_any _
theorem ldb {x0} {x1} {x2} {x3} {x4} : Statement (.ldb x0 x1 x2 x3 x4) := of_any _
theorem stb {x0} {x1} {x2} {x3} {x4} : Statement (.stb x0 x1 x2 x3 x4) := of_any _
theorem lockb {x0} {x1} {x2} : Statement (.lockb x0 x1 x2) := of_any _
theorem unlockb {x0} : Statement (.unlockb x0) := of_any _
theorem waiti {x0} : Statement (.waiti x0) := of_any _
theorem fence {x0} : Statement (.fence x0) := of_any _
theorem adcConversion {x0} {x1} {x2} {x3} {x4} : Statement (.adcConversion x0 x1 x2 x3 x4) := of_any _
theorem hkPublish : Statement (.hkPublish) := of_any _
theorem refEnable : Statement (.refEnable) := of_any _
theorem refDisable : Statement (.refDisable) := of_any _
theorem refReady {x0} : Statement (.refReady x0) := of_any _
theorem functionStopped {x0} : Statement (.functionStopped x0) := of_any _
theorem adcDirectRequest {x0} : Statement (.adcDirectRequest x0) := of_any _
theorem pairFlagClear {x0} : Statement (.pairFlagClear x0) := of_any _
theorem pairForceWrite {x0} : Statement (.pairForceWrite x0) := of_any _
theorem heaterSlewTick : Statement (.heaterSlewTick) := of_any _
theorem calRun {x0} {x1} {x2} {x3} {x4} : Statement (.calRun x0 x1 x2 x3 x4) := of_any _
theorem calRunDone {x0} {x1} {x2} : Statement (.calRunDone x0 x1 x2) := of_any _
theorem calRunTimeout : Statement (.calRunTimeout) := of_any _
theorem calDriftRead {x0} {x1} {x2} : Statement (.calDriftRead x0 x1 x2) := of_any _
theorem eyeScanStart {x0} : Statement (.eyeScanStart x0) := of_any _
theorem eyeScanDone {x0} {x1} : Statement (.eyeScanDone x0 x1) := of_any _
theorem eyeNowRequest {x0} : Statement (.eyeNowRequest x0) := of_any _
theorem driftDailySample : Statement (.driftDailySample) := of_any _
theorem driftMonthlyWrite : Statement (.driftMonthlyWrite) := of_any _
theorem trimNvmWrite : Statement (.trimNvmWrite) := of_any _
theorem portEnable {x0} : Statement (.portEnable x0) := of_any _
theorem portDisable {x0} : Statement (.portDisable x0) := of_any _
theorem trainFailed {x0} {x1} {x2} : Statement (.trainFailed x0 x1 x2) := of_any _
theorem portLinkUp {x0} : Statement (.portLinkUp x0) := of_any _
theorem portLinkDown {x0} {x1} : Statement (.portLinkDown x0 x1) := of_any _
theorem fabricLaneEnable {x0} : Statement (.fabricLaneEnable x0) := of_any _
theorem fabricLaneDisable {x0} : Statement (.fabricLaneDisable x0) := of_any _
theorem fabricLaneReady {x0} : Statement (.fabricLaneReady x0) := of_any _
theorem memberFrameRx {x0} {x1} {x2} : Statement (.memberFrameRx x0 x1 x2) := of_any _
theorem pauseFrameRx {x0} {x1} : Statement (.pauseFrameRx x0 x1) := of_any _
theorem pfcFrameRx {x0} {x1} : Statement (.pfcFrameRx x0 x1) := of_any _
theorem pauseExpire {x0} {x1} : Statement (.pauseExpire x0 x1) := of_any _
theorem pauseRefresh {x0} : Statement (.pauseRefresh x0) := of_any _
theorem frameTxDone {x0} {x1} : Statement (.frameTxDone x0 x1) := of_any _
theorem fabricRecordTake {x0} : Statement (.fabricRecordTake x0) := of_any _
theorem burstRx {x0} {x1} : Statement (.burstRx x0 x1) := of_any _
theorem clsRuleWrite {x0} {x1} {x2} {x3} : Statement (.clsRuleWrite x0 x1 x2 x3) := of_any _
theorem clsRuleDelete {x0} {x1} {x2} : Statement (.clsRuleDelete x0 x1 x2) := of_any _
theorem clsRangeWrite {x0} {x1} {x2} : Statement (.clsRangeWrite x0 x1 x2) := of_any _
theorem clsRuleRead {x0} {x1} {x2} {x3} : Statement (.clsRuleRead x0 x1 x2 x3) := of_any _
theorem stormLimiterWrite {x0} {x1} {x2} : Statement (.stormLimiterWrite x0 x1 x2) := of_any _
theorem fdbSearch {x0} {x1} {x2} {x3} : Statement (.fdbSearch x0 x1 x2 x3) := of_any _
theorem fdbNext {x0} {x1} {x2} {x3} {x4} : Statement (.fdbNext x0 x1 x2 x3 x4) := of_any _
theorem fdbInsert {x0} {x1} {x2} {x3} {x4} : Statement (.fdbInsert x0 x1 x2 x3 x4) := of_any _
theorem fdbDelete {x0} {x1} {x2} {x3} : Statement (.fdbDelete x0 x1 x2 x3) := of_any _
theorem fdbFlushByPort {x0} {x1} {x2} {x3} {x4} {x5} : Statement (.fdbFlushByPort x0 x1 x2 x3 x4 x5) := of_any _
theorem flushRemovalDone : Statement (.flushRemovalDone) := of_any _
theorem fidWrite {x0} {x1} {x2} {x3} {x4} : Statement (.fidWrite x0 x1 x2 x3 x4) := of_any _
theorem fidRead {x0} {x1} {x2} : Statement (.fidRead x0 x1 x2) := of_any _
theorem learnCommit : Statement (.learnCommit) := of_any _
theorem sweeperVisit {x0} : Statement (.sweeperVisit x0) := of_any _
theorem epochTick : Statement (.epochTick) := of_any _
theorem changeDrained : Statement (.changeDrained) := of_any _
theorem epochStall : Statement (.epochStall) := of_any _
theorem polWrite {x0} {x1} {x2} {x3} : Statement (.polWrite x0 x1 x2 x3) := of_any _
theorem portGateWrite {x0} {x1} {x2} {x3} {x4} : Statement (.portGateWrite x0 x1 x2 x3 x4) := of_any _
theorem portGateCancel {x0} {x1} : Statement (.portGateCancel x0 x1) := of_any _
theorem gateTakeover {x0} : Statement (.gateTakeover x0) := of_any _
theorem gateEntryBoundary {x0} : Statement (.gateEntryBoundary x0) := of_any _
theorem launchDue {x0} : Statement (.launchDue x0) := of_any _
theorem shaperRateWrite {x0} {x1} {x2} : Statement (.shaperRateWrite x0 x1 x2) := of_any _
theorem shaperBurstWrite {x0} {x1} {x2} : Statement (.shaperBurstWrite x0 x1 x2) := of_any _
theorem samplerWrite {x0} {x1} {x2} : Statement (.samplerWrite x0 x1 x2) := of_any _
theorem cntSnapshot {x0} {x1} {x2} {x3} {x4} : Statement (.cntSnapshot x0 x1 x2 x3 x4) := of_any _
theorem readLog {x0} {x1} {x2} {x3} : Statement (.readLog x0 x1 x2 x3) := of_any _
theorem logTick : Statement (.logTick) := of_any _
theorem timeOffset {x0} {x1} {x2} : Statement (.timeOffset x0 x1 x2) := of_any _
theorem timeConfirm {x0} {x1} {x2} : Statement (.timeConfirm x0 x1 x2) := of_any _
theorem timeSet {x0} {x1} {x2} {x3} {x4} : Statement (.timeSet x0 x1 x2 x3 x4) := of_any _
theorem servoInterval : Statement (.servoInterval) := of_any _
theorem timeStepApply : Statement (.timeStepApply) := of_any _
theorem exchSend : Statement (.exchSend) := of_any _
theorem exchRx {x0} {x1} : Statement (.exchRx x0 x1) := of_any _
theorem iklPortTimeout {x0} : Statement (.iklPortTimeout x0) := of_any _
theorem parentChange {x0} : Statement (.parentChange x0) := of_any _
theorem cometSend : Statement (.cometSend) := of_any _
theorem cometRx {x0} {x1} : Statement (.cometRx x0 x1) := of_any _
theorem cometExpire {x0} : Statement (.cometExpire x0) := of_any _
theorem syncReqSend : Statement (.syncReqSend) := of_any _
theorem syncReq {x0} {x1} : Statement (.syncReq x0 x1) := of_any _
theorem syncReply {x0} {x1} : Statement (.syncReply x0 x1) := of_any _
theorem conjPropose {x0} {x1} {x2} : Statement (.conjPropose x0 x1 x2) := of_any _
theorem conjAbort {x0} : Statement (.conjAbort x0) := of_any _
theorem propose {x0} {x1} : Statement (.propose x0 x1) := of_any _
theorem answer {x0} {x1} : Statement (.answer x0 x1) := of_any _
theorem commit {x0} {x1} : Statement (.commit x0 x1) := of_any _
theorem abort {x0} {x1} : Statement (.abort x0 x1) := of_any _
theorem conjRepeatSend : Statement (.conjRepeatSend) := of_any _
theorem conjDeadline : Statement (.conjDeadline) := of_any _
theorem conjLocalAbort : Statement (.conjLocalAbort) := of_any _
theorem iklViewRead {x0} {x1} {x2} : Statement (.iklViewRead x0 x1 x2) := of_any _
theorem iklTunnelSend {x0} {x1} {x2} {x3} {x4} : Statement (.iklTunnelSend x0 x1 x2 x3 x4) := of_any _
theorem tunnelRx {x0} {x1} : Statement (.tunnelRx x0 x1) := of_any _
theorem cxNop {x0} : Statement (.cxNop x0) := of_any _
theorem cxStateRead {x0} {x1} : Statement (.cxStateRead x0 x1) := of_any _
theorem sqDoorbell {x0} {x1} {x2} : Statement (.sqDoorbell x0 x1 x2) := of_any _
theorem cqDoorbell {x0} {x1} : Statement (.cqDoorbell x0 x1) := of_any _
theorem ringEnable {x0} : Statement (.ringEnable x0) := of_any _
theorem ringDisable {x0} : Statement (.ringDisable x0) := of_any _
theorem ringResume {x0} {x1} : Statement (.ringResume x0 x1) := of_any _
theorem evtDoorbell {x0} : Statement (.evtDoorbell x0) := of_any _
theorem coalesceTimeout {x0} : Statement (.coalesceTimeout x0) := of_any _
theorem cxProgress {x0} {x1} : Statement (.cxProgress x0 x1) := of_any _
theorem fqTxDoorbell {x0} {x1} {x2} : Statement (.fqTxDoorbell x0 x1 x2) := of_any _
theorem txDescriptor {x0} {x1} : Statement (.txDescriptor x0 x1) := of_any _
theorem fqRxDoorbell {x0} {x1} {x2} : Statement (.fqRxDoorbell x0 x1 x2) := of_any _
theorem busTransaction {x0} : Statement (.busTransaction x0) := of_any _
theorem lockTimeout {x0} : Statement (.lockTimeout x0) := of_any _
theorem busMasterReset {x0} {x1} : Statement (.busMasterReset x0 x1) := of_any _
theorem busDrained {x0} : Statement (.busDrained x0) := of_any _
theorem heartbeatCheck {x0} : Statement (.heartbeatCheck x0) := of_any _
theorem cuSwitch {x0} : Statement (.cuSwitch x0) := of_any _
theorem cuRestore {x0} {x1} : Statement (.cuRestore x0 x1) := of_any _
theorem cuRestored {x0} : Statement (.cuRestored x0) := of_any _
theorem thermalReading : Statement (.thermalReading) := of_any _
theorem shutdownRecordWrite {x0} : Statement (.shutdownRecordWrite x0) := of_any _
theorem shutdownComplete : Statement (.shutdownComplete) := of_any _
theorem shutdownRead {x0} {x1} {x2} : Statement (.shutdownRead x0 x1 x2) := of_any _
theorem nvmProgramDone {x0} : Statement (.nvmProgramDone x0) := of_any _
theorem shaperCreditReachesZero {x0} {x1} : Statement (.shaperCreditReachesZero x0 x1) := of_any _
theorem startDelimiterTimeout {x0} : Statement (.startDelimiterTimeout x0) := of_any _
theorem startingUnitClaim {x0} : Statement (.startingUnitClaim x0) := of_any _
theorem iklHighSymbolErrors {x0} : Statement (.iklHighSymbolErrors x0) := of_any _
theorem busMasterEnableSet : Statement (.busMasterEnableSet) := of_any _
theorem d3hotTransition {x0} : Statement (.d3hotTransition x0) := of_any _

end Sys2Proof.Laws.Operands
end

