-- ==== Sys2Proof/Tests/Slice0.lean ====
section
/-!
SUPPORT. The model's own tests: commands that are not well-formed are refused, for every obligation states and operands
that meet its hypotheses, clause by clause, and small steps with results written out from the spec.
-/

namespace Sys2Proof.Tests

open Sys2Proof Sys2Proof.Machine Sys2Proof.Stated

set_option Elab.async false

/-! ### States shared by the tests -/

/-- A command of the exchange with a REQ_ID. -/
def tg : CmdTag := ⟨3, 7, 9, 0, true⟩

/-- A module whose start is done: rails up, link up, in safe mode and L0. -/
def servW : State :=
  { start := { state := 2, step := 17 }, pins := { vaon := true, rails := true }, mode := { mode := .safe }
    cx := { linkUp := true, perst := false } }

/-- A module whose registers a host reaches, with an Alert, a vector, edges and an error waiting. -/
def barW : State :=
  { servW with
    alertEvent := true, orb := { cycle := 0x500000007 }, loops := { period := 0x300000009 }
    regs := [(0x70, 5), (0x1000C, 0x00030004)], clk := 77
    cx := { linkUp := true, perst := false, evtSeq := 6, msix := lset (List.replicate 64 {}) 5 { pending := true, raised := 2 }
            rings := lset (List.replicate 16 {}) 3 { cons := 4, devSeq := 8 } }
    time := { now := 0x123456789ABCDEF, jump := some (-5), jumpSeq := 3, caps := [(2, [⟨99, true, false⟩, ⟨120, false, true⟩])] }
    bm := { errAddr := 0x1234, errValid := true } }
/-- A Canvas of one section, IDENT: module 7, every mode permitted. -/
def identImg : Bytes :=
  zeros 0x16 ++ [1, 0] ++ zeros 0x68 ++ [1, 0, 1, 0, 0xA0, 0, 0, 0, 4, 0, 0, 0, 1, 0, 0, 0] ++ zeros 16 ++ [7, 0, 0xF8, 1]
/-- `servW` under that Canvas. -/
def identW : State := { servW with canvas := { active := some identImg, memory := identImg } }
/-- `servW` with ring 3 enabled, its completion ring at 0x40000000, and Bus Master Enable set. -/
def ringW : State :=
  { servW with
    regs := [((Reg.CX_RING_CTL_EN 3).addr, 1), ((Reg.CX_RING_CQ_BASE_LO_BASE 3).addr, 0x40000000)]
    cx := { linkUp := true, perst := false, busMaster := true } }
/-- Entries of a section table whose bodies begin at an offset. -/
def imgTable : Nat → List (Nat × Bytes) → Bytes
  | _, [] => []
  | o, (t, b) :: rest =>
    leBytes 2 t ++ [1, 0] ++ leBytes 4 o ++ leBytes 4 b.length ++ leBytes 4 1 ++ zeros 16 ++ imgTable (o + b.length) rest

/-- A Canvas of the given sections, without digests and signature. -/
def imgOf (secs : List (Nat × Bytes)) : Bytes :=
  zeros 0x16 ++ leBytes 2 secs.length ++ zeros 0x68 ++ imgTable (0x80 + 32 * secs.length) secs
    ++ secs.flatMap Prod.snd

/-! ### Commands that are not well-formed -/

theorem test_ill_formed_0 :
    (([.registerWrite (2 ^ 32) 0 0, .registerWrite 0 16 0, .registerReadClear (2 ^ 32) 0 none,
       .registerReadClear 0 16 none, .windowRecordRead (2 ^ 32), .counterRecordRead (2 ^ 32), .timCapW0Read 5,
       .msixUnmask 64, .safetySample 16, .safLaserSet tg 256, .safCfgWrite (2 ^ 32) 0, .setMode tg 256 0,
       .setMode tg 0 (2 ^ 16), .setPower tg 256, .resetModule tg 256, .loadCanvas tg none (2 ^ 32) false,
       .canvasPrepare tg none (2 ^ 32) 0 false, .canvasPrepare tg none 0 (2 ^ 32) false, .keyRevoke tg 256,
       .swatchWrite tg (2 ^ 16) none 0 none false 0] : List Instr).all (fun i => !wellFormed i)) = true ∧
    (([.registerWrite (2 ^ 32 - 1) 0 0, .registerWrite 0 15 0, .registerReadClear (2 ^ 32 - 1) 0 none,
       .registerReadClear 0 15 none, .windowRecordRead (2 ^ 32 - 1), .counterRecordRead (2 ^ 32 - 1),
       .timCapW0Read 4, .msixUnmask 63, .safetySample 15, .safLaserSet tg 255, .safCfgWrite (2 ^ 32 - 1) 0,
       .setMode tg 255 0, .setMode tg 0 (2 ^ 16 - 1), .setPower tg 255, .resetModule tg 255,
       .loadCanvas tg none (2 ^ 32 - 1) false, .canvasPrepare tg none (2 ^ 32 - 1) 0 false,
       .canvasPrepare tg none 0 (2 ^ 32 - 1) false, .keyRevoke tg 255,
       .swatchWrite tg (2 ^ 16 - 1) none 0 none false 0] : List Instr).all wellFormed) = true := by
  decide +kernel

theorem test_ill_formed_1 :
    (([.swatchWrite tg 0 none (2 ^ 16) none false 0, .swatchWrite tg 0 none 0 none false (2 ^ 64),
       .swatchLoad tg (2 ^ 16) none none, .swatchInvalidate tg (2 ^ 16), .swatchRead tg (2 ^ 16) 0,
       .swatchRead tg 0 (2 ^ 64), .swatchApply tg (2 ^ 16) 0, .stuckAdd tg (2 ^ 16) 0, .stuckAdd tg 0 256,
       .stuckClear tg (2 ^ 16), .orbitPrepare tg none none false 256 0, .orbitPrepare tg none none false 0 (2 ^ 32),
       .orbitRead tg 256 0 0, .orbitRead tg 0 (2 ^ 64) 0, .orbitRead tg 0 0 (2 ^ 32), .endOfPeriodWork (2 ^ 64),
       .coefWindowWrite 4352 0 0, .coefWindowWrite 0 16 0, .coefCommit 4352, .loopCmdRelease (2 ^ 13) false] : List Instr).all (fun i => !wellFormed i)) = true ∧
    (([.swatchWrite tg 0 none (2 ^ 16 - 1) none false 0, .swatchWrite tg 0 none 0 none false (2 ^ 64 - 1),
       .swatchLoad tg (2 ^ 16 - 1) none none, .swatchInvalidate tg (2 ^ 16 - 1), .swatchRead tg (2 ^ 16 - 1) 0,
       .swatchRead tg 0 (2 ^ 64 - 1), .swatchApply tg (2 ^ 16 - 1) 0, .stuckAdd tg (2 ^ 16 - 1) 0,
       .stuckAdd tg 0 255, .stuckClear tg (2 ^ 16 - 1), .orbitPrepare tg none none false 255 0,
       .orbitPrepare tg none none false 0 (2 ^ 32 - 1), .orbitRead tg 255 0 0, .orbitRead tg 0 (2 ^ 64 - 1) 0,
       .orbitRead tg 0 0 (2 ^ 32 - 1), .endOfPeriodWork (2 ^ 64 - 1), .coefWindowWrite 4351 0 0,
       .coefWindowWrite 0 15 0, .coefCommit 4351, .loopCmdRelease (2 ^ 13 - 1) false] : List Instr).all wellFormed) = true := by
  decide +kernel

theorem test_ill_formed_2 :
    (([.loopCmdReset (2 ^ 13) false, .loopCmdDisable (2 ^ 13) false, .loopCmdEnable (2 ^ 13) false,
       .laneCmdRestart 64 false, .laneCmdSoft 64 false, .supervisorException 0 32 0,
       .supervisorException 0 0 (2 ^ 32), .br (.lane 0) 16 0, .br (.lane 0) 0 (2 ^ 32), .call (.lane 0) (2 ^ 32),
       .repeat_ (.lane 0) 65537 0, .repeat_ (.lane 0) 0 65, .repeatr (.lane 0) 0 65, .waits (.lane 0) 0 257,
       .sll (.lane 0) 0 0 32, .srl (.lane 0) 0 0 32, .sra (.lane 0) 0 0 32, .rsh (.lane 0) 0 0 32,
       .sel (.lane 0) 0 0 0 16, .ext (.lane 0) 0 0 32 0] : List Instr).all (fun i => !wellFormed i)) = true ∧
    (([.loopCmdReset (2 ^ 13 - 1) false, .loopCmdDisable (2 ^ 13 - 1) false, .loopCmdEnable (2 ^ 13 - 1) false,
       .laneCmdRestart 63 false, .laneCmdSoft 63 false, .supervisorException 0 31 0,
       .supervisorException 0 0 (2 ^ 32 - 1), .br (.lane 0) 15 0, .br (.lane 0) 0 (2 ^ 32 - 1),
       .call (.lane 0) (2 ^ 32 - 1), .repeat_ (.lane 0) 65536 0, .repeat_ (.lane 0) 0 64, .repeatr (.lane 0) 0 64,
       .waits (.lane 0) 0 256, .sll (.lane 0) 0 0 31, .srl (.lane 0) 0 0 31, .sra (.lane 0) 0 0 31,
       .rsh (.lane 0) 0 0 31, .sel (.lane 0) 0 0 0 15, .ext (.lane 0) 0 0 31 0] : List Instr).all wellFormed) = true := by
  decide +kernel

theorem test_ill_formed_3 :
    (([.ext (.lane 0) 0 0 0 33, .exts (.lane 0) 0 0 32 0, .exts (.lane 0) 0 0 0 33, .ins (.lane 0) 0 0 32 0,
       .ins (.lane 0) 0 0 0 33, .adda (.lane 0) 0 0 41, .mva (.lane 0) 0 0 256, .mvax (.lane 0) 0 0 3,
       .mtax (.lane 0) 0 0 3, .agset (.lane 0) 0 (2 ^ 16) 0, .agset (.lane 0) 0 0 (2 ^ 16), .mtag (.lane 0) 0 3 0,
       .mfag (.lane 0) 0 0 3, .mfs (.lane 0) 0 64, .mts (.lane 0) 64 0, .divq (.lane 0) 0 0 32,
       .adcConversion 0 16 0 [] none, .adcConversion 0 0 608 [] none, .refReady (2 ^ 16), .adcDirectRequest (2 ^ 14)] : List Instr).all (fun i => !wellFormed i)) = true ∧
    (([.ext (.lane 0) 0 0 0 32, .exts (.lane 0) 0 0 31 0, .exts (.lane 0) 0 0 0 32, .ins (.lane 0) 0 0 31 0,
       .ins (.lane 0) 0 0 0 32, .adda (.lane 0) 0 0 40, .mva (.lane 0) 0 0 255, .mvax (.lane 0) 0 0 2,
       .mtax (.lane 0) 0 0 2, .agset (.lane 0) 0 (2 ^ 16 - 1) 0, .agset (.lane 0) 0 0 (2 ^ 16 - 1),
       .mtag (.lane 0) 0 2 0, .mfag (.lane 0) 0 0 2, .mfs (.lane 0) 0 63, .mts (.lane 0) 63 0,
       .divq (.lane 0) 0 0 31, .adcConversion 0 15 0 [] none, .adcConversion 0 0 607 [] none, .refReady (2 ^ 16 - 1),
       .adcDirectRequest (2 ^ 14 - 1)] : List Instr).all wellFormed) = true := by
  decide +kernel

theorem test_ill_formed_4 :
    (([.pairFlagClear (2 ^ 16), .pairForceWrite (2 ^ 16), .calRun tg 256 0 0 false, .calRun tg 0 256 0 false,
       .calRun tg 0 0 (2 ^ 32) false, .calRunDone [] (2 ^ 32) false, .calDriftRead tg (2 ^ 16) 0,
       .calDriftRead tg 0 (2 ^ 64), .eyeScanStart 512, .eyeScanDone 512 ⟨0, 0, 0, false⟩, .eyeNowRequest 512,
       .portEnable 256, .portDisable 256, .trainFailed 256 0 0, .trainFailed 0 8 0, .trainFailed 0 0 256,
       .portLinkUp 256, .portLinkDown 256 0, .portLinkDown 0 256, .memberFrameRx 256 [] ⟨false, false, 0, 0, 0⟩] : List Instr).all (fun i => !wellFormed i)) = true ∧
    (([.pairFlagClear (2 ^ 16 - 1), .pairForceWrite (2 ^ 16 - 1), .calRun tg 255 0 0 false, .calRun tg 0 255 0 false,
       .calRun tg 0 0 (2 ^ 32 - 1) false, .calRunDone [] (2 ^ 32 - 1) false, .calDriftRead tg (2 ^ 16 - 1) 0,
       .calDriftRead tg 0 (2 ^ 64 - 1), .eyeScanStart 511, .eyeScanDone 511 ⟨0, 0, 0, false⟩, .eyeNowRequest 511,
       .portEnable 255, .portDisable 255, .trainFailed 255 0 0, .trainFailed 0 7 0, .trainFailed 0 0 255,
       .portLinkUp 255, .portLinkDown 255 0, .portLinkDown 0 255, .memberFrameRx 255 [] ⟨false, false, 0, 0, 0⟩] : List Instr).all wellFormed) = true := by
  decide +kernel

theorem test_ill_formed_5 :
    (([.pauseFrameRx 256 [], .pfcFrameRx 256 [], .pauseExpire 256 0, .pauseExpire 0 8, .pauseRefresh 256,
       .frameTxDone 256 none, .clsRuleWrite tg (2 ^ 16) false none, .clsRuleDelete tg (2 ^ 16) none,
       .clsRangeWrite tg (2 ^ 16) none, .clsRuleRead tg (2 ^ 16) 0 0, .clsRuleRead tg 0 (2 ^ 16) 0,
       .clsRuleRead tg 0 0 (2 ^ 64), .stormLimiterWrite 256 0 0, .fdbSearch tg (2 ^ 48) 0 0,
       .fdbSearch tg 0 (2 ^ 16) 0, .fdbSearch tg 0 0 (2 ^ 64), .fdbNext tg (2 ^ 32) 0 0 ⟨none, none, none, 0⟩,
       .fdbNext tg 0 (2 ^ 16) 0 ⟨none, none, none, 0⟩, .fdbNext tg 0 0 (2 ^ 64) ⟨none, none, none, 0⟩,
       .fdbDelete tg (2 ^ 48) 0 false] : List Instr).all (fun i => !wellFormed i)) = true ∧
    (([.pauseFrameRx 255 [], .pfcFrameRx 255 [], .pauseExpire 255 0, .pauseExpire 0 7, .pauseRefresh 255,
       .frameTxDone 255 none, .clsRuleWrite tg (2 ^ 16 - 1) false none, .clsRuleDelete tg (2 ^ 16 - 1) none,
       .clsRangeWrite tg (2 ^ 16 - 1) none, .clsRuleRead tg (2 ^ 16 - 1) 0 0, .clsRuleRead tg 0 (2 ^ 16 - 1) 0,
       .clsRuleRead tg 0 0 (2 ^ 64 - 1), .stormLimiterWrite 255 0 0, .fdbSearch tg (2 ^ 48 - 1) 0 0,
       .fdbSearch tg 0 (2 ^ 16 - 1) 0, .fdbSearch tg 0 0 (2 ^ 64 - 1),
       .fdbNext tg (2 ^ 32 - 1) 0 0 ⟨none, none, none, 0⟩, .fdbNext tg 0 (2 ^ 16 - 1) 0 ⟨none, none, none, 0⟩,
       .fdbNext tg 0 0 (2 ^ 64 - 1) ⟨none, none, none, 0⟩, .fdbDelete tg (2 ^ 48 - 1) 0 false] : List Instr).all wellFormed) = true := by
  decide +kernel

theorem test_ill_formed_6 :
    (([.fdbDelete tg 0 (2 ^ 16) false, .fdbFlushByPort tg (2 ^ 16) 0 none false false,
       .fdbFlushByPort tg 0 256 none false false, .fidWrite tg (2 ^ 16) 0 0 none, .fidWrite tg 0 256 0 none,
       .fidWrite tg 0 0 (2 ^ 32) none, .fidRead tg (2 ^ 16) 0, .fidRead tg 0 (2 ^ 64),
       .polWrite tg (2 ^ 16) false none, .portGateWrite tg 256 0 none 0, .portGateWrite tg 0 (2 ^ 16) none 0,
       .portGateCancel tg 256, .gateTakeover 256, .gateEntryBoundary 256, .launchDue 256, .shaperRateWrite 256 0 0,
       .shaperBurstWrite 256 0 0, .samplerWrite 256 false 0, .cntSnapshot tg none (2 ^ 16) false 0,
       .cntSnapshot tg none 0 false (2 ^ 64)] : List Instr).all (fun i => !wellFormed i)) = true ∧
    (([.fdbDelete tg 0 (2 ^ 16 - 1) false, .fdbFlushByPort tg (2 ^ 16 - 1) 0 none false false,
       .fdbFlushByPort tg 0 255 none false false, .fidWrite tg (2 ^ 16 - 1) 0 0 none, .fidWrite tg 0 255 0 none,
       .fidWrite tg 0 0 (2 ^ 32 - 1) none, .fidRead tg (2 ^ 16 - 1) 0, .fidRead tg 0 (2 ^ 64 - 1),
       .polWrite tg (2 ^ 16 - 1) false none, .portGateWrite tg 255 0 none 0, .portGateWrite tg 0 (2 ^ 16 - 1) none 0,
       .portGateCancel tg 255, .gateTakeover 255, .gateEntryBoundary 255, .launchDue 255, .shaperRateWrite 255 0 0,
       .shaperBurstWrite 255 0 0, .samplerWrite 255 false 0, .cntSnapshot tg none (2 ^ 16 - 1) false 0,
       .cntSnapshot tg none 0 false (2 ^ 64 - 1)] : List Instr).all wellFormed) = true := by
  decide +kernel

theorem test_ill_formed_7 :
    (([.readLog tg (2 ^ 32) 0 0, .readLog tg 0 (2 ^ 16) 0, .readLog tg 0 0 (2 ^ 64), .timeConfirm tg (2 ^ 16) 0,
       .timeSet tg (2 ^ 48) 0 0 0, .timeSet tg 0 (2 ^ 30) 0 0, .timeSet tg 0 0 (2 ^ 16) 0, .cometExpire 512,
       .conjPropose tg (2 ^ 32) 0, .iklViewRead tg (2 ^ 64) 0, .iklViewRead tg 0 (2 ^ 16),
       .iklTunnelSend tg none (2 ^ 32) 0 0, .iklTunnelSend tg none 0 (2 ^ 16) 0, .iklTunnelSend tg none 0 0 (2 ^ 16),
       .cxStateRead tg (2 ^ 64), .coalesceTimeout 40, .cxProgress 0 (2 ^ 32), .cuRestore tg 256,
       .shutdownRecordWrite (2 ^ 32), .shutdownRead tg (2 ^ 16) 0] : List Instr).all (fun i => !wellFormed i)) = true ∧
    (([.readLog tg (2 ^ 32 - 1) 0 0, .readLog tg 0 (2 ^ 16 - 1) 0, .readLog tg 0 0 (2 ^ 64 - 1),
       .timeConfirm tg (2 ^ 16 - 1) 0, .timeSet tg (2 ^ 48 - 1) 0 0 0, .timeSet tg 0 (2 ^ 30 - 1) 0 0,
       .timeSet tg 0 0 (2 ^ 16 - 1) 0, .cometExpire 511, .conjPropose tg (2 ^ 32 - 1) 0,
       .iklViewRead tg (2 ^ 64 - 1) 0, .iklViewRead tg 0 (2 ^ 16 - 1), .iklTunnelSend tg none (2 ^ 32 - 1) 0 0,
       .iklTunnelSend tg none 0 (2 ^ 16 - 1) 0, .iklTunnelSend tg none 0 0 (2 ^ 16 - 1),
       .cxStateRead tg (2 ^ 64 - 1), .coalesceTimeout 39, .cxProgress 0 (2 ^ 32 - 1), .cuRestore tg 255,
       .shutdownRecordWrite (2 ^ 32 - 1), .shutdownRead tg (2 ^ 16 - 1) 0] : List Instr).all wellFormed) = true := by
  decide +kernel

theorem test_ill_formed_8 :
    (([.shutdownRead tg 0 (2 ^ 64), .shaperCreditReachesZero 256 0] : List Instr).all (fun i => !wellFormed i)) = true ∧
    (([.shutdownRead tg 0 (2 ^ 64 - 1), .shaperCreditReachesZero 255 0] : List Instr).all wellFormed) = true := by
  decide +kernel

/-! ### Helpers of the witnesses -/

theorem all_elim (o : Option Nat) (f : Nat → Bool) (h : o.all f = true) : ∀ q, o = some q → f q = true := by
  intro q hq
  subst hq
  exact h

/-- A port takes a record, from conditions that can be computed. -/
theorem heard_of (s : State) (n : Fin 8) (r : Bytes) (ty : Nat)
    (h : s.ikl.ports.length = 8 ∧ s.pwr.state ≤ 1 ∧ (s.iklPort n).state = 2 ∧ recordOk r = true ∧ byteAt r 0 = ty ∧
      (s.iklPort n).rxSeq.all (fun q => newer 32 (leAt r 4 4) q) = true) : Heard s n r ty :=
  ⟨h.1, h.2.1, h.2.2.1, h.2.2.2.1, h.2.2.2.2.1, all_elim _ _ h.2.2.2.2.2⟩

theorem crcRun_append (p : BitVec 32) : ∀ (a : Bytes) (c : BitVec 32) (b : Bytes),
    crcRun p c (a ++ b) = crcRun p (crcRun p c a) b
  | [], _, _ => rfl
  | _ :: a, _, b => crcRun_append p a _ b

/-- A record is good, with its CRC computed in two parts. -/
theorem recordOk_of (r : Bytes) (len : Nat) (x : BitVec 32) (h : leAt r 2 2 = len ∧ lenSuits (byteAt r 0) len = true ∧
      r.length = 12 + len ∧ 44 ≤ len) (hx : crcRun 0x82F63B78 0xFFFFFFFF (r.take 52) = x)
    (hy : leAt r (8 + len) 4 = (crcRun 0x82F63B78 x ((r.take (8 + len)).drop 52) ^^^ 0xFFFFFFFF).toNat) :
    recordOk r = true := by
  obtain ⟨h1, h2, h3, h4⟩ := h
  have hs : crc32c (r.take (8 + len)) = leAt r (8 + len) 4 := by
    have ht : (r.take (8 + len)).take 52 = r.take 52 := by rw [List.take_take, Nat.min_eq_left (by omega)]
    rw [hy, ← hx, ← ht, crc32c, ← crcRun_append, List.take_append_drop]
  simp [recordOk, h1, h2, h3, hs]

/-- A heater one code above its safe code is not safe, whatever the calibration. -/
theorem heater_off (s : State) (h : s.dac.htrOut = [(4, servW.safeHtr 4 + 1)]) (hc : s.safeHtr 4 = servW.safeHtr 4) : s.htrSafe = false := by
  simp [State.htrSafe, h, hc]

/-- Without stuck cells none is left out. -/
theorem routeStuck_nil (perm : Tbl Nat) : ∀ n, (routeStuck perm n [] []).2 = []
  | 0 => rfl
  | n + 1 => by
    unfold routeStuck
    cases routePerm perm [] with
    | ok c => rfl
    | error e => exact routeStuck_nil perm n

/-- A port takes a new conjunction message, likewise. -/
theorem heardConj_of (s : State) (n : Fin 8) (r b : Bytes) (m : ConjMsg)
    (h : s.ikl.ports.length = 8 ∧ s.pwr.state ≤ 1 ∧ (s.iklPort n).state = 2 ∧ recordOk r = true ∧ byteAt r 0 = 3 ∧
      (s.iklPort n).rxSeq.all (fun q => newer 32 (leAt r 4 4) q) = true)
    (h' : b = slice r 8 (leAt r 2 2) ∧ m = ConjMsg.read b ∧ m.origin ≠ s.moduleId ∧ s.conjSeen m = false) :
    HeardConj s n r b m := ⟨heard_of s n r 3 h, h'⟩

/-! ### Witnesses: register access and latching reads -/

namespace Access

def queueW : State := { servW with pending := [.orbCycleLoRead, .fdbEpochRead] }
def tickedW : State := { State.reset with clk := 1 }
def farW : FarMon := { mean := some 1234 }
def latchW : State := { barW with winLatch := [(1, (0x1400000 + 32 * 4351, barW.statusRecord 4351))] }
def unreachedW : State := { servW with start := { step := 3 } }
def canvasW : State := { barW with canvas := { active := some [] } }
def monW : State := { barW with
    regs := [(Reg.MX_MON_SEL_PORT.1, 300)]
    mx := { far := [(farKey 300 false, farW)] } }

/-- States and operands that meet the hypotheses of `Obligations.StepRunsTheFrontCommand`, clause by clause. -/
theorem witness_StepRunsTheFrontCommand :
    (queueW.pending = [Instr.orbCycleLoRead, Instr.fdbEpochRead]) ∧
    (State.reset.pending = [] ∧ State.reset.pins.vaon = false) :=
  ⟨by decide +kernel,
   by decide +kernel⟩

/-- States and operands that meet the hypotheses of `Obligations.LaserSafetyIsKept`, clause by clause. -/
theorem witness_LaserSafetyIsKept :
    LaserSafe State.reset ∧ step State.reset = Host.Outcome.next tickedW :=
  ⟨by unfold LaserSafe; decide +kernel, rfl⟩

/-- States and operands that meet the hypotheses of `Obligations.ScratchWriteReadsBack`, clause by clause. -/
theorem witness_ScratchWriteReadsBack :
    RegsCanonical barW ∧ barW.barUp = true ∧ tget (0#32) barW.locks (112 + 4 * 3) = 0#32 ∧ 112 ≠ 112 + 4 * 3 :=
  by unfold RegsCanonical; decide +kernel

/-- States and operands that meet the hypotheses of `Obligations.RegisterWriteRules`, clause by clause. -/
theorem witness_RegisterWriteRules :
    (RegsCanonical canvasW ∧ canvasW.barUp = true ∧ canvasW.canvas.active.isSome = true
       ∧ canvasW.rangeOk 262148 (BitVec.toNat (canvasW.regWord 262148)) = true ∧ 13107390#32 = canvasW.regWord 262148) ∧
    (RegsCanonical canvasW ∧ canvasW.barUp = true ∧ canvasW.canvas.active.isSome = true
       ∧ canvasW.rangeOk 262148 (BitVec.toNat (canvasW.regWord 262148)) = true ∧ 13107391#32 ≠ canvasW.regWord 262148) ∧
    (RegsCanonical barW ∧ barW.barUp = true ∧ tget (0#32) barW.locks 196612 = 0#32 ∧ (1 ≤ (60#32).toNat % 64
       ∧ (60#32).toNat % 64 ≤ 60)) ∧
    (RegsCanonical canvasW ∧ canvasW.barUp = true ∧ tget (0#32) canvasW.locks 196612 = 0#32
       ∧ (¬(1 ≤ (13107390#32).toNat % 64 ∧ (13107390#32).toNat % 64 ≤ 60))) :=
  ⟨by unfold RegsCanonical; decide +kernel,
   by unfold RegsCanonical; decide +kernel,
   by unfold RegsCanonical; decide +kernel,
   by unfold RegsCanonical; decide +kernel⟩

/-- States and operands that meet the hypotheses of `Obligations.ReadClearsAndKeepsTheUpdate`, clause by clause. -/
theorem witness_ReadClearsAndKeepsTheUpdate :
    RegsCanonical barW ∧ barW.barUp = true ∧ 7 < 65536 ∧ 4 ≠ 65548 :=
  by unfold RegsCanonical; decide +kernel

/-- States and operands that meet the hypotheses of `Obligations.RecordReadsComeFromOneInstant`, clause by clause. -/
theorem witness_RecordReadsComeFromOneInstant :
    (barW.barUp = true ∧ 4351 < 4352 ∧ latchW.barUp = true ∧ 1 ≤ 7 ∧ 7 < 8) ∧
    (barW.barUp = true ∧ 4351 < 4352 ∧ 48 % 16 = 0) :=
  ⟨by decide +kernel,
   by decide +kernel⟩

/-- States and operands that meet the hypotheses of `Obligations.LatchingReads`, clause by clause. -/
theorem witness_LatchingReads :
    (barW.barUp = true ∧ 3 < barW.cx.rings.length) ∧
    (barW.barUp = true ∧ 2 < 5
       ∧ tget [] barW.time.caps 2 = [{ stamp := 99, rising := true, timeNt := false }, { stamp := 120, rising := false, timeNt := true }]) ∧
    (barW.barUp = true ∧ 4 < 5 ∧ tget [] barW.time.caps 4 = []) :=
  ⟨by decide +kernel,
   by decide +kernel,
   by decide +kernel⟩

/-- States and operands that meet the hypotheses of `Obligations.MonitorReads`, clause by clause. -/
theorem witness_MonitorReads :
    (RegsCanonical monW ∧ monW.barUp = true ∧ 256 ≤ (256#32).toNat % 512) ∧
    (RegsCanonical monW ∧ monW.barUp = true ∧ (255#32).toNat % 512 < 256) ∧
    (RegsCanonical monW ∧ monW.barUp = true
       ∧ tget { } monW.mx.far (farKey (monW.fld Reg.MX_MON_SEL_PORT) (monW.flag Reg.MX_MON_SEL_DIR)) = farW
       ∧ farW.mean = some 1234 ∧ 0 ≤ 1234 ∧ 1234 < 32768) :=
  ⟨by unfold RegsCanonical; decide +kernel,
   by unfold RegsCanonical; decide +kernel,
   by unfold RegsCanonical; decide +kernel⟩

/-- States and operands that meet the hypotheses of `Obligations.AlertAndVectorWrites`, clause by clause. -/
theorem witness_AlertAndVectorWrites :
    barW.barUp = true ∧ 5 < 64 ∧ barW.cx.msix.length = 64 ∧ 63 ≠ 5 :=
  by decide +kernel

/-- States and operands that meet the hypotheses of `Obligations.UnreachedRegisters`, clause by clause. -/
theorem witness_UnreachedRegisters :
    unreachedW.barUp = false ∧ 67108860 < 67108864 :=
  by decide +kernel

/-- States and operands that meet the hypotheses of `Obligations.TablesReadBack`, clause by clause. -/
theorem witness_TablesReadBack :
    tblWf (0#32) 0 [(3, 7#32), (9, 1#32)] = true ∧ 3 ≠ 9 :=
  by decide +kernel

/-- States and operands that meet the hypotheses of `Obligations.RegisterStoreStaysCanonical`, clause by clause. -/
theorem witness_RegisterStoreStaysCanonical :
    RegsCanonical State.reset ∧ step State.reset = Host.Outcome.next tickedW :=
  ⟨by unfold RegsCanonical; decide +kernel, rfl⟩

end Access

/-! ### Witnesses: the start -/

namespace Starting

def upFilters : List Filter := [{}, {}, {}, {}, {}, {}, {}, { active := true }, { seen := true }, {}, {}, {}, {}, {}]
/-- A start at its first step. -/
def startW : State :=
  { clk := 1000, start := { running := true, step := 1, cause := 0, stepAt := 900 }
    pins := { vaon := true, rails := true, filters := upFilters } }
def warmStartW : State := { startW with start := { running := true, warm := true, cause := 9, step := 1, stepAt := 900 } }
def refStartW : State := { startW with start := { running := true, step := 6, stepAt := 900 }, ref := { holdover := true } }
def haltW : State := { startW with start := { retryAt := some 5000 }, ret := { coldFails := 3 } }
def retryW : State := { startW with start := { retryAt := some 500, retryCause := some 4 } }
def heldW : State :=
  { servW with
    start := { running := true, step := 8, held := true, state := 1 }
    pins := { vaon := true, rails := true, filters := upFilters } }
def asleepW : State := { servW with pwr := { state := 4 }, cx := {} , clk := 88 }
def deepW : State := { servW with pwr := { state := 5 }, cx := {} , clk := 88 }
def rstW : State := { servW with pins := { vaon := true, rails := true, rstAt := some 100 }, clk := 30000100}

/-- States and operands that meet the hypotheses of `Obligations.StartStepsPassOrFail`, clause by clause. -/
theorem witness_StartStepsPassOrFail :
    startW.start.running = true ∧ startW.startStands = false ∧ startW.start.report = [] ∧ startW.start.step = 1
      ∧ 5000000 ≤ 5000000 ∧ 49 ≠ 0 :=
  by decide +kernel

/-- States and operands that meet the hypotheses of `Obligations.StartTimeoutRetryAndContinue`, clause by clause. -/
theorem witness_StartTimeoutRetryAndContinue :
    (startW.startStands = false ∧ startW.holdsAt startW.start.step = false) ∧
    (haltW.start.retryAt = some 5000 ∧ haltW.start.retryCause = none) ∧
    (retryW.start.retryAt = some 500 ∧ retryW.start.retryCause = some 4) ∧
    (heldW.barUp = true ∧ heldW.start.held = true ∧ heldW.start.report = [] ∧ heldW.start.step = 8
       ∧ heldW.start.running = true ∧ heldW.start.canvasWait = false ∧ (heldW.filter 8).active = false) :=
  ⟨by decide +kernel,
   by decide +kernel,
   by decide +kernel,
   by decide +kernel⟩

/-- States and operands that meet the hypotheses of `Obligations.StartCauses`, clause by clause. -/
theorem witness_StartCauses :
    (State.reset.pins.vaon = false ∧ State.reset.pins.rails = false) ∧
    (0 ≤ 1 ∧ State.reset.start.state ≠ 3) ∧
    (asleepW.pins.vaon = true ∧ asleepW.pins.rails = true ∧ asleepW.ret.thermalL5 = false ∧ 4 ≤ asleepW.pwr.state
       ∧ asleepW.cx.perst = true) ∧
    (rstW.pins.vaon = true ∧ rstW.pins.rails = true ∧ (rstW.edge 8 false 10000000).1 = EdgeResult.accepted
       ∧ rstW.pins.rstAt = some 100 ∧ rstW.start.state ≠ 3 ∧ rstW.pins.rstPower ≤ 3) :=
  ⟨by decide +kernel,
   by decide +kernel,
   by decide +kernel,
   by decide +kernel⟩

end Starting

/-! ### Witnesses: pins, the interlock and the host link -/

namespace Inputs

def upFilters : List Filter := [{}, {}, {}, {}, {}, {}, {}, { active := true }, { seen := true }, {}, {}, {}, {}, {}]
def runW : State :=
  { servW with
    clk := 5000, pins := { vaon := true, rails := true, filters := upFilters }
    saf := { lsrEn := 3, request := 3, guard := .closed, openSeen := true }
    cx := { linkUp := true, perst := false, busMaster := true, evtSeq := 40 } }
def haltedW : State := { runW with start := { running := true, state := 3 } }
def disableW : State := { runW with regs := [((Reg.CX_RING_CTL_EN 3).1, 1), ((Reg.CX_FQ_CTL_TX_EN 2).1, 1)] }
def noMasterW : State := { runW with cx := { linkUp := true, perst := false } }

/-- States and operands that meet the hypotheses of `Obligations.ResetActions`, clause by clause. -/
theorem witness_ResetActions :
    (runW.pins.vaon = true ∧ (runW.edge 8 true 20000).1 = EdgeResult.accepted) ∧
    (runW.pins.vaon = true ∧ runW.pins.rails = true ∧ 10000 ≤ 20000) ∧
    (runW.pins.vaon = true ∧ runW.pins.rails = true ∧ 9999 < 10000) :=
  ⟨by decide +kernel,
   by decide +kernel,
   by decide +kernel⟩

def runU : State := { runW with cx := { runW.cx with linkUp := false, perst := true } }
def disableU : State := { disableW with cx := { disableW.cx with linkUp := false, perst := true } }
def noMasterU : State := { noMasterW with cx := { noMasterW.cx with linkUp := false, perst := true } }

/-- States and operands that meet the hypotheses of `Obligations.HostLinkEvents`, clause by clause. -/
theorem witness_HostLinkEvents :
    (RegsCanonical runW ∧ runW.cx.linkUp = true ∧ runW.pwr.state ≤ 3 ∧ 3 < 16) ∧
    (RegsCanonical runW ∧ runW.cx.linkUp = true ∧ 2 < 8) ∧
    (RegsCanonical runW ∧ runW.cx.linkUp = true ∧ QuietRings runW ∧ runW.cx.rings.length = 16 ∧ runW.exposed = true
       ∧ runW.cx.perst = false) ∧
    (RegsCanonical runW ∧ runW.cx.linkUp = true ∧ runW.pwr.state ≤ 3
       ∧ runU = { runW with cx := { runW.cx with linkUp := false, perst := true } } ∧ QuietRings runW
       ∧ runW.cx.rings.length = 16 ∧ runW.exposed = true) :=
  ⟨by unfold RegsCanonical; decide +kernel,
   by unfold RegsCanonical; decide +kernel,
   by unfold RegsCanonical QuietRings; decide +kernel,
   by unfold RegsCanonical QuietRings; decide +kernel⟩

def clrW : State :=
  { runW with
    dac := { clr := true, clrAt := 30 }
    pins := { vaon := true, rails := true, filters := lset (lset upFilters 7 { active := true, seen := true }) 8 { seen := true } } }
def offClrW : State := { runW with pins := { runW.pins with filters := lset upFilters 7 { seen := true } } }

/-- States and operands that meet the hypotheses of `Obligations.DacClearFollowsItsPin`, clause by clause. -/
theorem witness_DacClearFollowsItsPin :
    (offClrW.pins.vaon = true ∧ (offClrW.edge 7 true 1000).1 = EdgeResult.accepted) ∧
    (clrW.pins.vaon = true ∧ (clrW.edge 7 false 1000).1 = EdgeResult.accepted ∧ clrW.dac.clr = true
       ∧ (clrW.edge 7 false 1000).2.clrReleased = true) ∧
    (offClrW.pins.vaon = true ∧ RegsCanonical offClrW ∧ 999 < offClrW.minPw 7 ∧ offClrW.fld Reg.DAC_ERR_GLITCH < 255) :=
  ⟨by decide +kernel,
   by decide +kernel,
   by unfold RegsCanonical; decide +kernel⟩

def stuckW : State :=
  { runW with pins := { vaon := true, rails := true, filters := lset (lset upFilters 12 { active := true, seen := true, at_ := 100 }) 8 { active := true, seen := true, at_ := 50 } } }
def recoverW : State := { runW with pins := { runW.pins with filters := lset upFilters 12 { faulted := true, seen := true, at_ := 100 } } }

/-- States and operands that meet the hypotheses of `Obligations.FiltersFaultAndRecover`, clause by clause. -/
theorem witness_FiltersFaultAndRecover :
    (stuckW.pins.vaon = true ∧ stuckW.pins.filters.length = 14
       ∧ stuckW.maxAct (10 + 2) = some ((stuckW.maxAct 12).getD 0) ∧ (stuckW.filter (10 + 2)).active = true
       ∧ (stuckW.filter (10 + 2)).faulted = false) ∧
    (stuckW.pins.vaon = true ∧ stuckW.pins.filters.length = 14 ∧ stuckW.maxAct 8 = some ((stuckW.maxAct 8).getD 0)
       ∧ (stuckW.filter 8).active = true ∧ (stuckW.filter 8).faulted = false) ∧
    (recoverW.pins.vaon = true ∧ recoverW.pins.filters.length = 14 ∧ (recoverW.filter (10 + 2)).active = false
       ∧ (recoverW.filter (10 + 2)).faulted = true) :=
  ⟨by decide +kernel,
   by decide +kernel,
   by decide +kernel⟩

def sampleW : State := { runW with saf := { runW.saf with guard := .disagree, run := 4, longest := 2 } }
def mismatchW : State := { runW with saf := { runW.saf with misRun := [1, 0, 0, 0] } }
def pressW : State := { runW with saf := { pressAt := none } }
def lockW : State :=
  { runW with
    clk := 150000000, saf := { pressAt := some 40 }, ret := { lockout := true }
    pins := { runW.pins with filters := lset upFilters 2 { active := true, seen := true } } }

/-- States and operands that meet the hypotheses of `Obligations.SafetySampleAndReset`, clause by clause. -/
theorem witness_SafetySampleAndReset :
    (sampleW.pins.vaon = true ∧ 3 < 16 ∧ 3 = sampleW.saf.lsrEn ∧ sampleW.saf.misRun = [0, 0, 0, 0]) ∧
    (mismatchW.pins.vaon = true ∧ 2 < 16 ∧ bitAt 2 0 ≠ bitAt mismatchW.saf.lsrEn 0
       ∧ lget 0 mismatchW.saf.misRun 0 = 1 ∧ (∀ (g : ℕ), 1 ≤ g → g < 4 → bitAt 2 g = bitAt mismatchW.saf.lsrEn g)) ∧
    (pressW.pins.vaon = true ∧ (pressW.edge 2 true 100000000).1 = EdgeResult.accepted) ∧
    (lockW.pins.vaon = true ∧ (lockW.edge 2 false 100000000).1 = EdgeResult.accepted ∧ lockW.saf.pressAt = some 40
       ∧ 40 + 100000000 ≤ lockW.clk ∧ lockW.clk < 40 + 3000000000 ∧ lockW.ret.lockout = true
       ∧ (lockW.edge 2 false 100000000).2.resetBlocked = none) :=
  ⟨by decide +kernel,
   by decide +kernel,
   by decide +kernel,
   by decide +kernel⟩

def guardW : State := { runW with pins := { runW.pins with filters := lset (lset upFilters 0 { active := true, seen := true }) 1 { active := true, seen := true } } }
def discW : State := { runW with saf := { guard := .disagree, run := 3276, tDisc := 100, openSeen := true } }
def pressedW : State := { runW with saf := { pressAt := some 200 } }
def followW : State := { runW with saf := { runW.saf with follow := [none, some 300, none, none] } }
def feedbackW : State := { runW with
  saf := { runW.saf with wired := 3 }, pins := { runW.pins with filters := lset upFilters 4 { seen := true } } }

/-- States and operands that meet the hypotheses of `Obligations.GuardAndSafetyFaults`, clause by clause. -/
theorem witness_GuardAndSafetyFaults :
    (guardW.pins.vaon = true ∧ (guardW.edge (if true = true then 1 else 0) false 20000000).1 = EdgeResult.accepted
       ∧ guardW.saf.guard = Guard.closed) ∧
    (discW.pins.vaon = true ∧ discW.saf.guard = Guard.disagree ∧ discW.saf.run = discW.discK) ∧
    (pressedW.pins.vaon = true ∧ pressedW.saf.pressAt = some 200) ∧
    (followW.pins.vaon = true ∧ lget none followW.saf.follow 1 = some 300) ∧
    (feedbackW.pins.vaon = true ∧ (feedbackW.edge (3 + 1) true 20000000).1 = EdgeResult.accepted
       ∧ bitAt feedbackW.saf.wired 1 = true ∧ (feedbackW.filter (3 + 1)).seen = true
       ∧ lget none feedbackW.saf.follow 1 = none) :=
  ⟨by decide +kernel,
   by decide +kernel,
   by decide +kernel,
   by decide +kernel,
   by decide +kernel⟩

end Inputs

/-! ### Witnesses: lasers, captures and trigger outputs -/

namespace Captures

def upFilters : List Filter := [{}, {}, {}, {}, {}, {}, {}, { active := true }, { seen := true }, {}, {}, {}, {}, {}]
def laserW : State := { servW with mode := { mode := .edgePacket }, clk := 900, ret := { tested := true }, saf := { guard := .closed, wired := 15, lsrEn := 1, request := 1 } }
def lockoutW : State := { laserW with ret := { lockout := true } }
def filterW : State := { servW with pins := { vaon := true, rails := true, filters := upFilters } }

/-- States and operands that meet the hypotheses of `Obligations.LaserSetAndConfiguration`, clause by clause. -/
theorem witness_LaserSetAndConfiguration :
    (Serves laserW ∧ 6 < 16 ∧ 3 ≤ laserW.mode.mode.code ∧ clearBits 6 laserW.saf.wired = 0
       ∧ laserW.ret.lockout = false ∧ laserW.ret.tested = true ∧ laserW.saf.guard = Guard.closed
       ∧ laserW.saf.pending = none ∧ laserW.saf.lsrEn ^^^ 6 ≠ 0 ∧ 2 < 4
       ∧ bitAt ((laserW.saf.lsrEn ^^^ 6) &&& laserW.saf.wired) 2 = true) ∧
    (Serves lockoutW ∧ 6 < 16 ∧ 3 ≤ lockoutW.mode.mode.code ∧ clearBits 6 lockoutW.saf.wired = 0
       ∧ lockoutW.ret.lockout = true) ∧
    (filterW.barUp = true ∧ filterW.canvas.active = none ∧ filterW.saf.lsrEn = 0 ∧ filterW.saf.request = 0
       ∧ 10 ≤ (196624#32).toNat % 1024 ∧ (196624#32).toNat % 1024 ≤ 1000 ∧ (196624#32).toNat &&& 4293983232 = 0) ∧
    (filterW.barUp = true ∧ filterW.canvas.active = none ∧ filterW.saf.lsrEn = 0 ∧ filterW.saf.request = 0
       ∧ (9#32).toNat % 1024 < 10) ∧
    (filterW.barUp = true ∧ filterW.canvas.active = none ∧ filterW.saf.lsrEn = 0 ∧ filterW.saf.request = 0 ∧ 1 < 11
       ∧ filterW.saf.records.length = 11
       ∧ filterRecordOk 1 (1216413781#32).toNat (filterW.filterRecord (1 - 1)) = true) :=
  ⟨by unfold Serves; decide +kernel,
   by unfold Serves; decide +kernel,
   by decide +kernel,
   by decide +kernel,
   by decide +kernel⟩

def capW : State := { filterW with clk := 500, regs := tput [(Reg.TIM_PPS_IN_EN.addr, 0x01000010)] (Reg.TIM_TRIG_IN_EN 2).addr 7, time := { now := 1234567890123456, srcUsed := 2, caps := [(2, [⟨99, true, false⟩])] } }
def fullW : State := { capW with time := { now := 1234567890123456, caps := [(2, List.replicate 16 ⟨99, true, false⟩)] } }
def armW : State := { filterW with time := { now := 1234567890123456 }, regs := [((Reg.TIM_TRIG_OUT_START_LO_START_SEC 1).addr, 9)] }
def lateW : State := { armW with time := { now := 2 ^ 80 } }
def trigW : State := { filterW with time := { now := 5000, trigOut := [(1, { activeEnd := some 7000 })] } }
def pulseW : State := { filterW with regs := [((Reg.TIM_TRIG_OUT_CTL_EN 1).addr, 1)], time := { now := 5000, trigOut := [(1, { sched := some (9000, 0, 4) })] } }
def trainW : State := { filterW with regs := [((Reg.TIM_TRIG_OUT_CTL_EN 1).addr, 3)], time := { now := 5000, trigOut := [(1, { sched := some (9000, 20, 4), k := 3 })] } }
def ppsEndW : State := { filterW with time := { now := 5000, ppsEnd := some 8000 } }
def ppsW : State := { filterW with regs := [(Reg.TIM_PPS_OUT_EN.addr, 1 + 4 * 100)], time := { now := 2 ^ 80 + 5 } }

/-- States and operands that meet the hypotheses of `Obligations.CapturesAndTriggerOutputs`, clause by clause. -/
theorem witness_CapturesAndTriggerOutputs :
    (capW.pinsAlive = true ∧ (capW.edge (10 + 2) true 10000000).1 = EdgeResult.accepted
       ∧ capW.flag (Reg.TIM_TRIG_IN_EN 2) = true
       ∧ bitAt (capW.fld (Reg.TIM_TRIG_IN_EDGE 2)) (if true = true then 0 else 1) = true
       ∧ (tget [] capW.time.caps 2).length < 16) ∧
    (fullW.pinsAlive = true ∧ (fullW.edge (10 + 2) true 10000000).1 = EdgeResult.accepted
       ∧ fullW.flag (Reg.TIM_TRIG_IN_EN 2) = true
       ∧ bitAt (fullW.fld (Reg.TIM_TRIG_IN_EDGE 2)) (if true = true then 0 else 1) = true
       ∧ 16 ≤ (tget [] fullW.time.caps 2).length) ∧
    (capW.pinsAlive = true
       ∧ capW.filter 9 = { capW.filter 9 with edges := if (capW.filter 9).active = true then capW.clk :: (capW.filter 9).edges else (capW.filter 9).edges }
       ∧ ((capW.setFilter 9 (capW.filter 9)).edge 9 true 10000000).1 = EdgeResult.accepted
       ∧ capW.flag Reg.TIM_PPS_IN_EN = true ∧ (tget [] capW.time.caps 4).length < 16) ∧
    (armW.pinsAlive = true ∧ armW.barUp = true ∧ (tget { } armW.time.trigOut 1).sched = none
       ∧ armW.time.now + 10000 * nsUnit ≤ armW.trigStart 1) ∧
    (capW.pinsAlive = true ∧ capW.barUp = true ∧ capW.trigStart 2 < capW.time.now + 10000 * nsUnit) ∧
    (capW.pinsAlive = true ∧ RegsCanonical capW ∧ capW.barUp = true) ∧
    (trigW.pinsAlive = true ∧ (tget { } trigW.time.trigOut 1).activeEnd = some 7000) ∧
    (pulseW.pinsAlive = true ∧ tget { } pulseW.time.trigOut 1 = { sched := some (9000, 0, 4) } ∧ (0 ≠ 0 ∨ 0 = 0)
       ∧ pulseW.flag (Reg.TIM_TRIG_OUT_CTL_EN 1) = true) ∧
    (ppsEndW.pinsAlive = true ∧ ppsEndW.time.ppsEnd = some 8000) ∧
    (ppsW.pinsAlive = true ∧ ppsW.time.ppsEnd = none ∧ ppsW.flag Reg.TIM_PPS_OUT_EN = true
       ∧ ppsW.flag Reg.TIM_PPS_OUT_NT_SUPPRESS = false) :=
  ⟨by decide +kernel,
   by decide +kernel,
   by decide +kernel,
   by decide +kernel,
   by decide +kernel,
   by unfold RegsCanonical; decide +kernel,
   by decide +kernel,
   by decide +kernel,
   by decide +kernel,
   by decide +kernel⟩

end Captures

/-! ### Witnesses: supplies, modes, power and the Canvas -/

namespace PowerCanvas

def tripW : State := { servW with mode := { mode := .edgePacket }, clk := 900, ret := { tested := true }, saf := { guard := .closed, wired := 15, lsrEn := 1, request := 1 } }
def sleepW : State := { servW with pwr := { state := 4 }, thm := { tripN := 1 } }
def heaterW : State := { servW with pins := { vaon := true, vhtr := true, rails := true } , dac := { htrOut := [(4, servW.safeHtr 4 + 1)] } }
def heaterBootW : State := { heaterW with mode := {} }
def heaterSafeW : State := { heaterW with dac := {} }
def refW : State := { servW with ref := { refAOk := true } , clk := 4500000 }
def holdoverW : State := { refW with ref := { selB := true, holdover := true }, regs := [(Reg.PWR_CLK_PREFER.addr, 1 <<< Reg.PWR_CLK_PREFER.lo)] }

/-- States and operands that meet the hypotheses of `Obligations.TripSuppliesAndReferences`, clause by clause. -/
theorem witness_TripSuppliesAndReferences :
    (tripW.pins.vaon = true ∧ LaserSafe tripW ∧ tripW.mode.mode ≠ Mode.bootstrap ∧ tripW.pwr.state ≤ 3
       ∧ tripW.pins.rails = true ∧ tripW.thm.shutdown = none) ∧
    (sleepW.pins.vaon = true ∧ 4 ≤ sleepW.pwr.state) ∧
    (sleepW.pins.vaon = true ∧ true = true) ∧
    (sleepW.pins.vaon = true ∧ bitAt sleepW.thm.tripN 0 = true ∧ false = false) ∧
    (heaterSafeW.pins.vaon = true ∧ heaterSafeW.pins.vhtr = true ∧ heaterSafeW.htrSafe = true) ∧
    (heaterBootW.pins.vaon = true ∧ heaterBootW.pins.vhtr = true ∧ heaterBootW.htrSafe = false
       ∧ heaterBootW.mode.mode = Mode.bootstrap) ∧
    (heaterW.pins.vaon = true ∧ heaterW.pins.vhtr = true ∧ heaterW.htrSafe = false
       ∧ heaterW.mode.mode ≠ Mode.bootstrap) ∧
    (heaterW.pins.vaon = true ∧ heaterW.pwr.state ≤ 3 ∧ heaterW.pins.rails = true ∧ -100 ≤ 100 ∧ 100 ≤ 100
       ∧ -100 ≤ -100 ∧ heaterW.fld Reg.PWR_CLK_PREFER = ofBool heaterW.ref.selB) ∧
    (tripW.pins.vaon = true ∧ tripW.pwr.state ≤ 3 ∧ tripW.pins.rails = true ∧ 100 < 101 ∧ -100 ≤ -100 ∧ -100 ≤ 100
       ∧ tripW.ref.selB = false ∧ RegsCanonical tripW) ∧
    (tripW.pins.vaon = true ∧ tripW.pwr.state ≤ 3 ∧ tripW.pins.rails = true ∧ tripW.ref.holdover = false) :=
  ⟨by unfold LaserSafe; decide +kernel,
   by decide +kernel,
   by decide +kernel,
   by decide +kernel,
   by decide +kernel,
   ⟨by decide +kernel, by decide +kernel, heater_off _ rfl rfl, by decide +kernel⟩,
   ⟨by decide +kernel, by decide +kernel, heater_off _ rfl rfl, by decide +kernel⟩,
   by decide +kernel,
   by unfold RegsCanonical; decide +kernel,
   by decide +kernel⟩

/-- States and operands that meet the hypotheses of `Obligations.ManagementAndTestPorts`, clause by clause. -/
theorem witness_ManagementAndTestPorts :
    (tripW.pins.vaon = true) ∧
    (tripW.pins.rails = true) :=
  ⟨by decide +kernel,
   by decide +kernel⟩

def lockedW : State := { identW with ret := { lockout := true } }
def armedW : State := { identW with orb := { armed := some 77 } }
def paletteW : State := { identW with mx := { palette := [(1023, { valid := true })] } }
def calibW : State := { identW with mode := { mode := .calibrate } }

/-- States and operands that meet the hypotheses of `Obligations.ModeChanges`, clause by clause. -/
theorem witness_ModeChanges :
    (Serves identW ∧ identW.mode.pend = none ∧ identW.cal.run = none ∧ identW.mode.mode ≠ Mode.bootstrap
       ∧ LaserSafe identW) ∧
    (Serves identW ∧ identW.mode.pend = none ∧ identW.cal.run = none
       ∧ (identW.mode.mode = Mode.safe ∨ identW.mode.mode = Mode.maintain) ∧ identW.pwr.state = 0
       ∧ identW.pwr.target = 0 ∧ identW.ret.lockout = false) ∧
    (Serves lockedW ∧ lockedW.mode.pend = none ∧ lockedW.cal.run = none
       ∧ (lockedW.mode.mode = Mode.safe ∨ lockedW.mode.mode = Mode.maintain) ∧ lockedW.pwr.state = 0
       ∧ lockedW.pwr.target = 0 ∧ lockedW.ret.lockout = true) ∧
    (Serves armedW ∧ armedW.mode.pend = none ∧ armedW.cal.run = none
       ∧ (armedW.mode.mode = Mode.safe ∨ armedW.mode.mode = Mode.maintain) ∧ armedW.pwr.state = 0
       ∧ armedW.pwr.target = 0
       ∧ (Mode.transitSlotted = Mode.edgeSlotted ∨ Mode.transitSlotted = Mode.coreSlotted ∨ Mode.transitSlotted = Mode.transitSlotted)
       ∧ bitAt armedW.modePermit Mode.transitSlotted.code = true ∧ armedW.orb.armed.isSome = true) ∧
    (Serves identW ∧ identW.mode.pend = none ∧ identW.cal.run = none
       ∧ (identW.mode.mode = Mode.safe ∨ identW.mode.mode = Mode.maintain) ∧ identW.pwr.state = 0
       ∧ identW.pwr.target = 0
       ∧ (Mode.edgeSlotted = Mode.edgeSlotted ∨ Mode.edgeSlotted = Mode.coreSlotted ∨ Mode.edgeSlotted = Mode.transitSlotted)
       ∧ bitAt identW.modePermit Mode.edgeSlotted.code = true ∧ identW.orb.armed = none) ∧
    (Serves paletteW ∧ paletteW.mode.pend = none ∧ paletteW.cal.run = none
       ∧ (paletteW.mode.mode = Mode.safe ∨ paletteW.mode.mode = Mode.maintain) ∧ paletteW.pwr.state = 0
       ∧ paletteW.pwr.target = 0
       ∧ (Mode.edgePersistent = Mode.edgePersistent ∨ Mode.edgePersistent = Mode.edgePacket ∨ Mode.edgePersistent = Mode.corePersistent)
       ∧ bitAt paletteW.modePermit Mode.edgePersistent.code = true ∧ 1023 ≤ 1023
       ∧ (paletteW.swatch 1023).valid = true ∧ (paletteW.swatch 1023).roleOk Mode.edgePersistent = true) ∧
    (Serves paletteW ∧ paletteW.mode.pend = none ∧ paletteW.cal.run = none
       ∧ (paletteW.mode.mode = Mode.safe ∨ paletteW.mode.mode = Mode.maintain) ∧ paletteW.pwr.state = 0
       ∧ paletteW.pwr.target = 0
       ∧ (Mode.corePersistent = Mode.edgePersistent ∨ Mode.corePersistent = Mode.edgePacket ∨ Mode.corePersistent = Mode.corePersistent)
       ∧ bitAt paletteW.modePermit Mode.corePersistent.code = true ∧ 1022 ≤ 1023
       ∧ (paletteW.swatch 1022).valid = false) ∧
    (Serves identW ∧ identW.mode.pend = none ∧ identW.cal.run = none ∧ 12 ≤ 12) ∧
    (Serves servW ∧ servW.mode.pend = none ∧ servW.cal.run = none ∧ 3 ≤ 8 ∧ 8 ≤ 8 ∧ bitAt servW.modePermit 8 = false) ∧
    (Serves calibW ∧ calibW.mode.pend = none ∧ calibW.cal.run = none ∧ 8 < 12
       ∧ (3 ≤ 8 → 8 ≤ 8 → bitAt calibW.modePermit 8 = true) ∧ calibW.mode.mode ≠ Mode.fenced
       ∧ modePair calibW.mode.mode.code 8 = false) :=
  ⟨by unfold Serves LaserSafe; decide +kernel,
   by unfold Serves; decide +kernel,
   by unfold Serves; decide +kernel,
   by unfold Serves; decide +kernel,
   by unfold Serves; decide +kernel,
   by unfold Serves; decide +kernel,
   by unfold Serves; decide +kernel,
   by unfold Serves; decide +kernel,
   by unfold Serves; decide +kernel,
   by unfold Serves; decide +kernel⟩

def packetW : State := { servW with mode := { mode := .edgePacket } }
def emptyingW : State := { servW with pwr := { rung := some 1, target := 5, cmd := some tg }, tm := { frames := [{ buf := 1, srcPort := none, remoteSrc := 0, remoteModule := 0, dst := 3, fabric := false, mirror := none, dstPort := 1, cls := 0, colour := 0, data := [], epoch := 0, counter := 0, hash := 0, ts := 0, tsValid := false, ptp := false, launch := none, rule := none, stomped := false, control := none, interval := 0 }] } }
def rungW (n : Nat) : State := { servW with pwr := { state := n - 1, rung := some n, target := n, cmd := some tg } }
def keepW : State := { servW with pwr := { state := 3, target := 3, keepAt := some 8000 } }
def drainW : State := { packetW with tm := emptyingW.tm, mode := { mode := .edgePersistent, drainEnd := some 700 } }

/-- States and operands that meet the hypotheses of `Obligations.PowerLadder`, clause by clause. -/
theorem witness_PowerLadder :
    (Serves servW ∧ 5 < 6) ∧
    (Serves packetW ∧ packetW.pwr.state = 0 ∧ packetW.pwr.rung = none ∧ packetW.pwr.cmd = none
       ∧ packetW.mode.mode = Mode.edgePacket ∧ 1 ≤ 5 ∧ 5 ≤ 5) ∧
    (Serves servW ∧ servW.pwr.state = 0 ∧ servW.pwr.rung = none ∧ servW.pwr.keeping = false
       ∧ servW.mode.mode = Mode.safe ∧ 1 ≤ 5 ∧ 5 ≤ 5) ∧
    (Serves servW ∧ 0 ≤ 3 ∧ servW.pwr.state = 0 ∧ servW.pwr.rung = none ∧ servW.pwr.cmd = none
       ∧ servW.pwr.keeping = false ∧ servW.mode.mode = Mode.safe) ∧
    (emptyingW.pwr.rung = some 1 ∧ emptyingW.pwr.state = 0 ∧ emptyingW.tm.frames ≠ []) ∧
    ((rungW 3).pwr.rung = some 3 ∧ 3 = (rungW 3).pwr.target
       ∧ (3 = 1 → (rungW 3).pwr.state = 0 → (rungW 3).tm.frames = []) ∧ 3 = 3) ∧
    ((rungW 5).pwr.rung = some 5 ∧ 5 = (rungW 5).pwr.target
       ∧ (5 = 1 → (rungW 5).pwr.state = 0 → (rungW 5).tm.frames = []) ∧ 5 = 5) ∧
    ((rungW 1).pwr.rung = some 1 ∧ 1 = (rungW 1).pwr.target
       ∧ (1 = 1 → (rungW 1).pwr.state = 0 → (rungW 1).tm.frames = []) ∧ (rungW 1).pwr.cmd = some tg
       ∧ (rungW 1).cx.rings.length = 16) ∧
    (keepW.pwr.state = 3 ∧ keepW.pwr.rung = none ∧ keepW.pwr.keeping = false ∧ keepW.pwr.keepAt = some 8000) ∧
    (drainW.mode.drainEnd = some 700) :=
  ⟨by unfold Serves; decide +kernel,
   by unfold Serves; decide +kernel,
   by unfold Serves; decide +kernel,
   by unfold Serves; decide +kernel,
   by decide +kernel,
   by decide +kernel,
   by decide +kernel,
   by decide +kernel,
   by decide +kernel,
   by decide +kernel⟩

def haltedW : State := { servW with start := { state := 3 } }
def lostW : State := { servW with canvas := { lost := true } }
def runningW : State := { servW with start := { state := 0, running := true, step := 5 } }
def stagedRec : Staged := { image := identImg, store := false, timeoutNs := 100000000, expires := some 4000, slotB := false }
def stagedW : State := { identW with canvas := { identW.canvas with staged := some stagedRec } }
def commitW : State := { identW with canvas := { identW.canvas with staged := some stagedRec, commit := some ⟨tg, 0⟩ } }
def staged2 : Staged := { stagedRec with image := (identImg.set 0xA0 8).set 0x90 8 }
def commit2W : State := { identW with mode := { mode := .edgePacket }, canvas := { identW.canvas with staged := some staged2, commit := some ⟨tg, 0⟩ } }
def digestW : State := { identW with canvas := { identW.canvas with memory := zeros 200, checkAt := 4000 } }
def graceW : State := { identW with canvas := { identW.canvas with graceEnd := some 4000, oldDigest := [1] } }

/-- States and operands that meet the hypotheses of `Obligations.CanvasLifecycle`, clause by clause. -/
theorem witness_CanvasLifecycle :
    (haltedW.cx.rings.length = 16 ∧ haltedW.start.state = 3 ∧ haltedW.start.canvasWait = false
       ∧ haltedW.started = false ∧ (haltedW.verifyHost (List.take 2 [1, 2]) true).code ≠ 0) ∧
    (lostW.cx.rings.length = 16 ∧ lostW.started = true ∧ lostW.canvas.lost = true ∧ lostW.mode.mode = Mode.safe
       ∧ lostW.start.canvasWait = false ∧ (lostW.verifyHost (List.take 2 [1, 2]) false).code ≠ 0) ∧
    (runningW.cx.rings.length = 16 ∧ runningW.start.state = 0 ∧ runningW.start.canvasWait = false
       ∧ runningW.canvas.lost = false) ∧
    (Serves servW ∧ 100 ≤ 100 ∧ 100 ≤ 600000 ∧ servW.canvas.staged = none
       ∧ (servW.verifyHost (List.take 2 [1, 2]) true).code ≠ 0) ∧
    (Serves stagedW ∧ 100 ≤ 600000 ∧ 600000 ≤ 600000 ∧ stagedW.canvas.staged.isSome = true) ∧
    (Serves stagedW ∧ stagedW.canvas.staged = some stagedRec ∧ stagedW.canvas.commit = none ∧ 1 ≠ 0
       ∧ stagedW.fromWord 1 < stagedW.time.now + 2000000 * nsUnit) ∧
    (Serves stagedW ∧ stagedW.canvas.staged = some stagedRec ∧ stagedW.canvas.commit = none
       ∧ stagedW.red.switching = none) ∧
    (commitW.cx.rings.length = 16 ∧ commitW.canvas.staged = some stagedRec
       ∧ commitW.canvas.commit = some { tag := tg, at_ := 0 }
       ∧ classMode (changeClass (commitW.canvas.active.getD []) stagedRec.image) commitW.mode.mode.code = true
       ∧ commitW.modeStays stagedRec.image = true ∧ commitW.mode.mode ≠ Mode.maintain) ∧
    (commit2W.cx.rings.length = 16 ∧ commit2W.canvas.staged = some staged2
       ∧ commit2W.canvas.commit = some { tag := tg, at_ := 0 }
       ∧ classMode (changeClass (commit2W.canvas.active.getD []) staged2.image) commit2W.mode.mode.code = false) ∧
    (stagedW.canvas.staged = some { stagedRec with expires := some 4000 } ∧ stagedW.canvas.commit = none) ∧
    (digestW.canvas.active.isSome = true ∧ digestW.started = true ∧ badSection digestW.canvas.memory = none) ∧
    (stagedW.canvas.active.isSome = true ∧ stagedW.started = true ∧ badSection stagedW.canvas.memory ≠ none
       ∧ stagedW.reloadSlot = none) ∧
    (graceW.canvas.graceEnd = some 4000) ∧
    (Serves servW ∧ 2 < 4 ∧ servW.canvas.active = none) :=
  ⟨by decide +kernel,
   by decide +kernel,
   by decide +kernel,
   by unfold Serves; decide +kernel,
   by unfold Serves; decide +kernel,
   by unfold Serves; decide +kernel,
   by unfold Serves; decide +kernel,
   by decide +kernel,
   by decide +kernel,
   by decide +kernel,
   by decide +kernel,
   by decide +kernel,
   by decide +kernel,
   by unfold Serves; decide +kernel⟩

end PowerCanvas

/-! ### Witnesses: Palette, routing, Orbits, hold periods and loops -/

namespace Orbits

def inForceW : State := { servW with mx := { inForce := some 5, palette := [(5, { valid := true, perm := [(1, 2)] })] } }
def applyW : State := { servW with mode := { mode := .loopbackTest }, mx := { palette := [(5, { valid := true, perm := [(1, 2)] })] } }
def stuckCellW : State := { servW with mx := { stuck := [⟨4351, true, true, 3⟩], stuckRev := 65535 } }

/-- States and operands that meet the hypotheses of `Obligations.PaletteCommands`, clause by clause. -/
theorem witness_PaletteCommands :
    (Serves servW ∧ servW.pwr.state = 0 ∧ 1023 ≤ 1023 ∧ 4351 ≤ 4351 ∧ permReserved [] = false
       ∧ servW.mx.queue.length < 16 ∧ ((pinsOf [3, 32] 1).all fun w => decide (w < 2 ^ 14)) = true ∧ 1 ≠ 0
       ∧ (servW.inUse 1023 = false ∨ false = true)) ∧
    (Serves inForceW ∧ inForceW.pwr.state = 0 ∧ 5 ≤ 1023 ∧ 0 ≤ 4351 ∧ inForceW.inUse 5 = true) ∧
    (Serves servW ∧ servW.pwr.state = 0 ∧ 1023 ≤ 1023 ∧ 4351 ≤ 4351 ∧ servW.inUse 1023 = false
       ∧ permReserved [] = false ∧ servW.mx.queue.length < 16) ∧
    (Serves servW ∧ servW.pwr.state = 0 ∧ 1023 ≤ 1023 ∧ 4351 ≤ 4351 ∧ 1024 > 1023) ∧
    (Serves applyW ∧ applyW.pwr.state = 0 ∧ 5 ≤ 1023 ∧ 0 ≤ 4351
       ∧ (applyW.mode.mode = Mode.edgePersistent ∨ applyW.mode.mode = Mode.corePersistent ∨ applyW.mode.mode = Mode.loopbackTest)
       ∧ (applyW.swatch 5).valid = true ∧ (applyW.swatch 5).roleOk applyW.mode.mode = true ∧ applyW.mx.apply = none) ∧
    (Serves servW ∧ servW.pwr.state = 0 ∧ 1023 ≤ 1023 ∧ 4351 ≤ 4351 ∧ servW.mx.stuck = []) ∧
    (Serves stuckCellW ∧ stuckCellW.pwr.state = 0 ∧ 5 ≤ 1023 ∧ 4351 ≤ 4351 ∧ stuckCellW.isStuck 4351 = true) ∧
    (Serves servW ∧ servW.pwr.state = 0 ∧ 1023 ≤ 1023 ∧ 4351 ≤ 4351 ∧ servW.isStuck 4351 = false) :=
  ⟨by unfold Serves; decide +kernel,
   by unfold Serves; decide +kernel,
   by unfold Serves; decide +kernel,
   by unfold Serves; decide +kernel,
   by unfold Serves; decide +kernel,
   by unfold Serves; decide +kernel,
   by unfold Serves; decide +kernel,
   by unfold Serves; decide +kernel⟩

def cells12 : Nat := 2 ^ 3968 + 2 ^ 4097
def okC : Nat := match routePerm [(1, 2)] [] with | .ok c => c | .error _ => 0
def rolesImg : Bytes :=
  zeros 0x16 ++ [1, 0] ++ zeros 0x68 ++ [6, 0, 1, 0, 0xA0, 0, 0, 0, 0, 2, 0, 0, 0, 2, 0, 0] ++ zeros 16 ++ List.replicate 512 3
def writeReqW : State := { servW with canvas := { active := some rolesImg }, mx := { queue := [⟨some tg, 5, .write [(1, 2)] [] false 0⟩] } }
def loadReqW : State := { servW with canvas := { active := some rolesImg }, mx := { queue := [⟨some tg, 5, .load [(1, 2)] cells12⟩] } }
def missReqW : State := { servW with canvas := { active := some rolesImg }, mx := { queue := [⟨some tg, 5, .load [(1, 2)] 0⟩] } }
def badReqW : State := { servW with canvas := { active := some rolesImg }, mx := { queue := [⟨some tg, 5, .write [(0, 0)] [] false 0⟩], stuck := [⟨0, false, false, 1⟩, ⟨4096, true, false, 1⟩] } }
def rerouteW : State := { servW with mx := { palette := [(4, { valid := true }), (6, { valid := true, stale := true, generation := 7, perm := [(1, 2)] })] } }

/-- States and operands that meet the hypotheses of `Obligations.RoutingEngine`, clause by clause. -/
theorem witness_RoutingEngine :
    (writeReqW.pwr.state = 0 ∧ writeReqW.cx.rings.length = 16 ∧ writeReqW.inUse 5 = false
       ∧ permDouble [] [(1, 2)] = none ∧ writeReqW.outOfService [(1, 2)] = none
       ∧ writeReqW.mx.queue = [{ tag := some tg, swatch := 5, job := RouteJob.write [(1, 2)] [] false 0 }]
       ∧ writeReqW.pinsBad [] = false) ∧
    (badReqW.pwr.state = 0 ∧ badReqW.cx.rings.length = 16 ∧ badReqW.inUse 5 = false ∧ permDouble [] [(0, 0)] = none
       ∧ badReqW.outOfService [(0, 0)] = none
       ∧ badReqW.mx.queue = [{ tag := some tg, swatch := 5, job := RouteJob.write [(0, 0)] [] false 0 }]
       ∧ badReqW.pinsBad [] = false) ∧
    (loadReqW.pwr.state = 0 ∧ loadReqW.cx.rings.length = 16 ∧ loadReqW.inUse 5 = false
       ∧ permDouble [] [(1, 2)] = none ∧ loadReqW.outOfService [(1, 2)] = none
       ∧ loadReqW.mx.queue = [{ tag := some tg, swatch := 5, job := RouteJob.load [(1, 2)] cells12 }]
       ∧ loadReqW.mx.stuck = [] ∧ firstMiss [(1, 2)] cells12 = none) ∧
    (missReqW.pwr.state = 0 ∧ missReqW.cx.rings.length = 16 ∧ missReqW.inUse 5 = false
       ∧ permDouble [] [(1, 2)] = none ∧ missReqW.outOfService [(1, 2)] = none
       ∧ missReqW.mx.queue = [{ tag := some tg, swatch := 5, job := RouteJob.load [(1, 2)] 0 }]
       ∧ missReqW.mx.stuck = [] ∧ firstMiss [(1, 2)] 0 = some 1) ∧
    (rerouteW.pwr.state = 0 ∧ rerouteW.flag Reg.MX_ROUTE_CTL_AUTO_REROUTE = true
       ∧ List.find? (fun k => (rerouteW.swatch k).waits) rerouteW.rerouteOrder = some 6
       ∧ (routeStuck (rerouteW.swatch 6).perm 18 rerouteW.stuckPins []).2 = []
       ∧ tblWf { } 0 rerouteW.mx.palette = true ∧ 4 ≠ 6) ∧
    (rerouteW.pwr.state = 0 ∧ RegsCanonical rerouteW ∧ rerouteW.barUp = true ∧ 2 ≤ bitsOf (515#32).toNat 12 8
       ∧ bitsOf (515#32).toNat 12 8 ≤ 8) ∧
    (rerouteW.pwr.state = 0 ∧ RegsCanonical rerouteW ∧ rerouteW.barUp = true ∧ 8 < bitsOf (2307#32).toNat 12 8) :=
  ⟨by decide +kernel,
   by decide +kernel,
   by decide +kernel,
   by decide +kernel,
   ⟨by decide +kernel, by decide +kernel, by decide +kernel, by rw [show rerouteW.stuckPins = [] from rfl]; exact routeStuck_nil _ 18, by decide +kernel⟩,
   by unfold RegsCanonical; decide +kernel,
   by unfold RegsCanonical; decide +kernel⟩

def orbRec : Bytes :=
  [0x4F, 0x52, 0x42, 0x54, 1, 0, 2, 0, 9, 0, 0, 0, 0, 0, 0, 0] ++
  [153, 13, 66, 248, 81, 167, 244, 223, 145, 101, 212, 9, 138, 239, 38, 5] ++ [0xE0, 0x2E, 0, 0, 0, 0, 0, 0] ++ zeros 24 ++
  [5, 0, 0, 0, 0x88, 0x13, 0, 0] ++ zeros 24 ++ [6, 0, 0, 0, 0x58, 0x1B, 0, 0] ++ zeros 24
def bankW : OrbitBank := ⟨orbRec, none, .edgeSlotted, 200000000, some 200000000⟩
def bank0 : OrbitBank := { bankW with expires := none }
def slottedW : State := { servW with mode := { mode := .edgeSlotted }, mx := { palette := [(5, { valid := true }), (6, { valid := true })] } }
def pendW : State := { slottedW with orb := { pendBank := some bankW } }
def activeOW : State := { slottedW with orb := { active := some bank0, running := true, anchor := 100 * nsUnit, boundary := 5100 * nsUnit } }
def readOW : State := { activeOW with regs := ringW.regs, cx := ringW.cx }
def armedOW : State := { slottedW with orb := { pendBank := some bank0, armed := some (700 * nsUnit) } }
def modeOW : State := { armedOW with mode := { mode := .safe } }
def dupW : State := { activeOW with orb := { activeOW.orb with replicas := [{ readable := false }, { readable := false }, { readable := false }] } }
def sysImg : Bytes := zeros 0x16 ++ [1, 0] ++ zeros 0x68 ++ [2, 0, 1, 0, 0xA0, 0, 0, 0, 0x20, 0, 0, 0, 1, 0, 0, 0] ++ zeros 16 ++ [1, 0, 40, 0, 0xE8, 3, 0, 0] ++ zeros 24
def persistW : State := { servW with canvas := { active := some sysImg }, mode := { mode := .edgePersistent, dark := false }, mx := { palette := [(5, { valid := true, perm := [(1, 2)] })], apply := some ⟨tg, 5, 0⟩ }, orb := { intEnd := 8000 * nsUnit } }
def rep0 : Replica := {}

/-- States and operands that meet the hypotheses of `Obligations.OrbitCourse`, clause by clause. -/
theorem witness_OrbitCourse :
    (Serves slottedW ∧ slottedW.pwr.state ≤ 2 ∧ slottedW.orb.pendBank = none ∧ 100000000 ≤ bankW.timeoutNs
       ∧ bankW.timeoutNs ≤ 600000000000 ∧ bankW.timeoutNs % 1000000 = 0
       ∧ bankW.expires = some (slottedW.clk + bankW.timeoutNs) ∧ bankW.mode.slotted = true
       ∧ slottedW.orbitCheck bankW = none) ∧
    (Serves pendW ∧ pendW.pwr.state ≤ 2 ∧ pendW.orb.pendBank = some bankW ∧ pendW.systemSize ≤ 1
       ∧ pendW.time.now + 50000 * nsUnit ≤ pendW.fromWord 50000 ∧ pendW.orbitRoleOk bankW = true
       ∧ pendW.orb.armed = none) ∧
    (Serves pendW ∧ pendW.pwr.state ≤ 2 ∧ pendW.orb.pendBank = some bankW ∧ pendW.systemSize ≤ 1
       ∧ pendW.fromWord 49999 < pendW.time.now + 50000 * nsUnit) ∧
    (Serves pendW ∧ pendW.pwr.state ≤ 2 ∧ pendW.orb.pendBank = some bankW ∧ pendW.orb.conjHeld = false
       ∧ pendW.orb.armed = none ∧ pendW.mode.pend = none) ∧
    (Serves activeOW ∧ activeOW.orb.active = some bank0 ∧ List.length bank0.bytes ≤ 128) ∧
    (pendW.orb.pendBank = some { bankW with expires := some 200000000 } ∧ pendW.mode.pend = none) ∧
    (armedOW.orb.armed = some (700 * nsUnit) ∧ armedOW.orb.pendBank = some bank0 ∧ armedOW.orb.running = false
       ∧ armedOW.orb.halted = false ∧ armedOW.mode.mode = bank0.mode) ∧
    (modeOW.orb.armed = some (700 * nsUnit) ∧ modeOW.orb.pendBank = some bank0 ∧ modeOW.orb.running = false
       ∧ modeOW.orb.halted = false ∧ modeOW.takeoverMode bank0 = false) ∧
    (activeOW.orb.running = true ∧ activeOW.orb.active = some bank0 ∧ activeOW.orb.armed = none
       ∧ activeOW.mode.pend = none ∧ activeOW.mode.darkNext = false ∧ activeOW.orb.replicas = [rep0, rep0, rep0]
       ∧ rep0.failed = false ∧ rep0.readable = true) ∧
    (dupW.orb.running = true ∧ dupW.orb.active = some bank0 ∧ dupW.orb.armed = none ∧ dupW.mode.pend = none
       ∧ dupW.mode.darkNext = false ∧ (∀ r ∈ dupW.orb.replicas, r.readable = false)) ∧
    (persistW.orb.running = false ∧ persistW.mode.darkNext = false ∧ persistW.mode.pend = none
       ∧ persistW.mode.mode = Mode.edgePersistent ∧ persistW.pwr.state = 0
       ∧ persistW.mx.apply = some { tag := tg, swatch := 5, at_ := 0 } ∧ (persistW.swatch 5).stale = false
       ∧ persistW.cx.rings.length = 16
       ∧ 8000 * nsUnit = if persistW.intervalsRun = true then persistW.orb.intEnd else persistW.gridAfter persistW.time.now) :=
  ⟨by unfold Serves; decide +kernel,
   by unfold Serves; decide +kernel,
   by unfold Serves; decide +kernel,
   by unfold Serves; decide +kernel,
   by unfold Serves; decide +kernel,
   by decide +kernel,
   by decide +kernel,
   by decide +kernel,
   by decide +kernel,
   by decide +kernel,
   by decide +kernel⟩

def periodW : State := { servW with loops := { counting := true, periodAt := 1000, period := 30 }, clk := 1500, red := { a := { state := .active } } }
def idlePeriodW : State := { periodW with loops := { periodW.loops with sampled := false, pathAwait := [300], eopDone := true }, pwr := { state := 2 } }
def awaitW : State := { periodW with loops := { periodW.loops with pathAwait := [300, 301, 511] } }

/-- States and operands that meet the hypotheses of `Obligations.HoldPeriodCourse`, clause by clause. -/
theorem witness_HoldPeriodCourse :
    (periodW.loops.counting = true ∧ periodW.pwr.keeping = false ∧ periodW.red.switching = none
       ∧ periodW.clk ≤ periodW.loops.periodAt + 128000) ∧
    (idlePeriodW.loops.counting = true ∧ idlePeriodW.loops.eopDone = true) ∧
    (periodW.loops.counting = true ∧ periodW.loops.deadlineDone = false ∧ periodW.loops.sampled = true
       ∧ periodW.unitActive = true) ∧
    (idlePeriodW.loops.counting = true ∧ idlePeriodW.loops.deadlineDone = false ∧ idlePeriodW.loops.sampled = false) ∧
    (awaitW.loops.counting = true ∧ awaitW.loops.eopDone = false
       ∧ (awaitW.loops.pathAwait.any fun o => (o - 256) / 4 == 11) = true) :=
  ⟨by decide +kernel,
   by decide +kernel,
   by decide +kernel,
   by decide +kernel,
   by decide +kernel⟩

def coefW : List Word := [0, 0x01800000, 0, 0, 0, 0, 0, 0, 0, 0x00010000, 0x00030002, 0x00010000, 0x00100005, 0, 0, 0]
def stageW : State := { servW with loops := { stage := { cell := 4351, valid := true, words := coefW } } }
def cmdW : State := { servW with loops := { cmd := some ⟨1, 2, false⟩ } }

/-- States and operands that meet the hypotheses of `Obligations.LoopAndLaneCommands`, clause by clause. -/
theorem witness_LoopAndLaneCommands :
    (servW.barUp = true ∧ 4351 < 4352 ∧ 1 ≤ 14 ∧ 14 < 15 ∧ 14 ≠ 9) ∧
    (stageW.barUp = true ∧ 4351 < 4352 ∧ coefRecOk (stageW.stageFor 4351) = true) ∧
    (servW.barUp = true ∧ 4351 < 4352 ∧ coefRecOk (servW.stageFor 4351) = false) ∧
    (servW.barUp = true ∧ 4351 < 4352 ∧ servW.loops.cmd = none) ∧
    (cmdW.barUp = true ∧ 4351 < 4352 ∧ cmdW.loops.cmd.isSome = true) ∧
    (servW.barUp = true ∧ 4351 < 4352 ∧ servW.eng.laneBusy = false
       ∧ (servW.core (CoreRef.lane 63)).run = RunState.halted ∧ (servW.core (CoreRef.lane 63)).restart = false) :=
  ⟨by decide +kernel,
   by decide +kernel,
   by decide +kernel,
   by decide +kernel,
   by decide +kernel,
   by decide +kernel⟩

end Orbits

/-! ### Witnesses: register and accumulator instructions -/

namespace Alu

def regsW : Vector Word 16 := #v[0, 1, 0xFFFFFFFF, 0x80000000, 0x7FFFFFFF, 0x12345678, 0xFFFFFF85, 31, 32, 0xFFFFFFE1, 0xFFFFFFE0, 0x40000000, 0x0000FFFF, 5, 0x1F030201, 63]
def coreW : Core := { d := regsW, a := #v[0x123456789ABCDEF01, 0x800000000000000000], run := .running, pc := 2047, cyc := 6, st := { c := true } }
def satCoreW : Core := { coreW with a := #v[0x7FFFFFFFFFFFFFFFFF, 0xFFFFFFFF0000000000], st := { sat := true, z := true }, pc := 5 }
def mk (c : CoreRef) (x : Core) : State := { servW with mode := { mode := .edgePacket }, red := { a := { state := .active } }, eng := { cores := [((match c with | .lane n => n.val | .sup n => 64 + n.val), x)] } }
def lnW : State := mk (.lane 3) coreW
def lsW : State := mk (.lane 3) satCoreW
def spW : State := mk (.sup 2) coreW
def aft (o : Host.Outcome State Fault Refusal) (c : CoreRef) : Core := match o with | .next t => t.core c | _ => {}
def overCoreW : Core := { satCoreW with st := {} }
def lvW : State := mk (.lane 3) overCoreW
def nx (x : Core) : Core := { x with cyc := x.cyc + 1 }

/-- States and operands that meet the hypotheses of `Obligations.RegisterInstructions`, clause by clause. -/
theorem witness_RegisterInstructions :
    (At lnW (CoreRef.lane 3) (nx coreW) ∧ condHolds (nx coreW).st 0 = some true) ∧
    (At lnW (CoreRef.lane 3) (nx coreW) ∧ 31 < 32) ∧
    (At lsW (CoreRef.lane 3) (nx satCoreW) ∧ 31 = (BitVec.setWidth 8 ((nx satCoreW).reg 7)).toInt ∧ 0 ≤ 31 ∧ 31 ≤ 31) ∧
    (At lnW (CoreRef.lane 3) (nx coreW) ∧ -1 = (BitVec.setWidth 8 ((nx coreW).reg 4)).toInt ∧ -1 < 0 ∧ -31 ≤ -1) ∧
    (At lnW (CoreRef.lane 3) (nx coreW) ∧ 120 = (BitVec.setWidth 8 ((nx coreW).reg 5)).toInt ∧ (31 < 120 ∨ 120 < -31)) ∧
    (At lnW (CoreRef.lane 3) (nx coreW) ∧ 1 ≤ 1 ∧ 31 + 1 ≤ 32) ∧
    (At lsW (CoreRef.lane 3) (nx satCoreW) ∧ (0 = 0 ∨ 32 < 0 + 0)) :=
  ⟨by unfold At; decide +kernel,
   by unfold At; decide +kernel,
   by unfold At; decide +kernel,
   by unfold At; decide +kernel,
   by unfold At; decide +kernel,
   by unfold At; decide +kernel,
   by unfold At; decide +kernel⟩

/-- States and operands that meet the hypotheses of `Obligations.AccumulatorInstructions`, clause by clause. -/
theorem witness_AccumulatorInstructions :
    (At lnW (CoreRef.lane 3) (nx coreW)
       ∧ rounded (-2147483648 * 2147483647) 31 = rounded (BitVec.toInt ((nx coreW).reg 3) * BitVec.toInt ((nx coreW).reg 4)) (BitVec.toNat ((nx coreW).reg 14) / 2 ^ (8 * 3) % 64)) ∧
    (At lnW (CoreRef.lane 3) (nx coreW) ∧ 40 ≤ 40) ∧
    (At lnW (CoreRef.lane 3) (nx coreW) ∧ 40 < 41) ∧
    (At lnW (CoreRef.lane 3) (nx coreW) ∧ 63 = (63#8).toInt ∧ 0 ≤ 63 ∧ 63 ≤ 63) ∧
    (At lsW (CoreRef.lane 3) (nx satCoreW) ∧ -1 = (255#8).toInt ∧ -1 < 0) ∧
    (At lnW (CoreRef.lane 3) (nx coreW) ∧ 64 = (64#8).toInt ∧ 63 < 64) ∧
    (At lnW (CoreRef.lane 3) (nx coreW) ∧ 31 = (BitVec.setWidth 8 ((nx coreW).reg 7)).toInt ∧ 0 ≤ 31 ∧ 31 ≤ 63) ∧
    (At lsW (CoreRef.lane 3) (nx satCoreW) ∧ -32 = (BitVec.setWidth 8 ((nx satCoreW).reg 10)).toInt ∧ -32 < 0) ∧
    (At lsW (CoreRef.lane 3) (nx satCoreW) ∧ 3 ≤ 63 ∧ (nx satCoreW).st.sat = true) ∧
    (At lnW (CoreRef.lane 3) (nx coreW) ∧ 3 ≤ 63 ∧ (nx coreW).st.sat = false ∧ 31 ≤ 40
       ∧ fitsIn 32 (rounded ((nx coreW).a.get 0).toInt (3 + 31)) = true
       ∧ (∀ l < 31, fitsIn 32 (rounded ((nx coreW).a.get 0).toInt (3 + l)) = false)) ∧
    (At lvW (CoreRef.lane 3) (nx overCoreW) ∧ 0 ≤ 63 ∧ (nx overCoreW).st.sat = false
       ∧ (∀ m ≤ 40, fitsIn 32 (rounded ((nx overCoreW).a.get 0).toInt (0 + m)) = false)) ∧
    (At lnW (CoreRef.lane 3) (nx coreW)
       ∧ ((0, 0, 32) = (0, 0, 32) ∨ (0, 0, 32) = (1, 32, 32) ∨ (0, 0, 32) = (2, 64, 8))) :=
  ⟨by unfold At; decide +kernel,
   by unfold At; decide +kernel,
   by unfold At; decide +kernel,
   by unfold At; decide +kernel,
   by unfold At; decide +kernel,
   by unfold At; decide +kernel,
   by unfold At; decide +kernel,
   by unfold At; decide +kernel,
   by unfold At; decide +kernel,
   by unfold At; decide +kernel,
   by unfold At; decide +kernel,
   by unfold At; decide +kernel⟩

end Alu

/-! ### Witnesses: memory instructions -/

namespace Loads

def regsW : Vector Word 16 := #v[0, 1, 0xFFFFFFFF, 0x80000000, 0x7FFFFFFF, 0x12345678, 0xFFFFFF85, 31, 32, 0xFFFFFFE1, 0xFFFFFFE0, 0x40000000, 0x0000FFFF, 5, 0x1F030201, 63]
def coreW : Core := { d := regsW, a := #v[0x123456789ABCDEF01, 0x800000000000000000], run := .running, pc := 2047, cyc := 6, st := { c := true } }
def satCoreW : Core := { coreW with a := #v[0x7FFFFFFFFFFFFFFFFF, 0xFFFFFFFF0000000000], st := { sat := true, z := true }, pc := 5 }
def mk (c : CoreRef) (x : Core) : State := { servW with mode := { mode := .edgePacket }, red := { a := { state := .active } }, eng := { cores := [((match c with | .lane n => n.val | .sup n => 64 + n.val), x)] } }
def lnW : State := mk (.lane 3) coreW
def lsW : State := mk (.lane 3) satCoreW
def spW : State := mk (.sup 2) coreW
def aft (o : Host.Outcome State Fault Refusal) (c : CoreRef) : Core := match o with | .next t => t.core c | _ => {}
def overCoreW : Core := { satCoreW with st := {} }
def lvW : State := mk (.lane 3) overCoreW
def nx (x : Core) : Core := { x with cyc := x.cyc + 1 }
def gensW : Vector AddrGen 8 := #v[⟨0x1500, 0, 3⟩, ⟨0x1600, 16, 15⟩, ⟨0x100, 0, 0⟩, ⟨0x2FFF, 0, 1⟩, {}, {}, {}, ⟨0x3FFF, 0, 0x3FFF⟩]
def memCoreW : Core := { coreW with g := gensW, pc := 2046, ivec := 9, icause := 3, agstat := 0x81, lr := 77, iret := 12, scl := 4, dq := 0x55, d := #v[0x1500, 5, 0xFFFFFFFF, 0x7FFFFFFF, 0x12345678, 0x2000, 0x14F0, 3, 0x5000, 7, 40, 0, 0x1503, 2, 0x5000010, 0x80000000] }
def memW : State := { mk (.lane 3) memCoreW with loops := { period := 0x100000005 } }
def memW2 : State := { memW with eng := { memW.eng with dm := [(12288 * 3 + 0x1503, 0xAB), (12288 * 3 + 0x1600, 0xCD)] } }
def supCoreW : Core := { memCoreW with a := #v[0xFFFFFFFFFFFFFFFF, 4], evec := 0x700, imask := 3, epc := 44, efl := 0x30005, ecause := 3, eaddr := 99 }
def supW : State := mk (.sup 2) supCoreW
def agW0 : AddrGen := ⟨0x1500, 0, 3⟩
def agW1 : AddrGen := ⟨0x1600, 16, 15⟩
def agW2 : AddrGen := ⟨0x100, 0, 0⟩
def agW3 : AddrGen := ⟨0x2FFF, 0, 1⟩
def agW4 : AddrGen := ⟨0x3FFF, 0, 0x3FFF⟩

/-- States and operands that meet the hypotheses of `Obligations.MemoryInstructions`, clause by clause. -/
theorem witness_MemoryInstructions :
    (At memW2 (CoreRef.lane 3) (nx memCoreW) ∧ (nx memCoreW).g.get 0 = agW0 ∧ 5379 < memTop (CoreRef.lane 3)
       ∧ 5379 = genAddr (CoreRef.lane 3) agW0 0 ∧ mayStore (CoreRef.lane 3) 5379 = true) ∧
    (At memW2 (CoreRef.lane 3) (nx memCoreW) ∧ (nx memCoreW).g.get 0 = agW0 ∧ 5379 < memTop (CoreRef.lane 3)
       ∧ 5379 = genAddr (CoreRef.lane 3) agW0 (0#16).toInt ∧ mayStore (CoreRef.lane 3) 5379 = true) ∧
    (At memW2 (CoreRef.lane 3) (nx memCoreW) ∧ (nx memCoreW).g.get 0 = agW0 ∧ 5379 < memTop (CoreRef.lane 3)
       ∧ 5379 = (5379#32).toNat ∧ mayStore (CoreRef.lane 3) 5379 = true) ∧
    (At memW2 (CoreRef.lane 3) (nx memCoreW) ∧ (nx memCoreW).g.get 2 = agW2 ∧ 0 < memTop (CoreRef.lane 3)
       ∧ 0 = (0#32).toNat ∧ CoreRef.lane 3 = CoreRef.lane 3 ∧ mayStore (CoreRef.lane 3) 0 = false) ∧
    (At memW2 (CoreRef.lane 3) (nx memCoreW) ∧ (nx memCoreW).g.get 1 = agW1 ∧ 5380 < memTop (CoreRef.lane 3)
       ∧ 5380 = BitVec.toNat ((nx memCoreW).reg 11 + 5380#32) ∧ mayStore (CoreRef.lane 3) 5380 = true) ∧
    (At memW2 (CoreRef.lane 3) (nx memCoreW) ∧ (nx memCoreW).g.get 3 = agW3
       ∧ memTop (CoreRef.lane 3) ≤ (12288#32).toNat ∧ CoreRef.lane 3 = CoreRef.lane 3) ∧
    (At supW (CoreRef.sup 2) (nx supCoreW) ∧ (nx supCoreW).g.get 2 = agW2
       ∧ memTop (CoreRef.sup 2) ≤ (1048576#32).toNat ∧ CoreRef.sup 2 = CoreRef.sup 2) ∧
    (At memW2 (CoreRef.lane 3) (nx memCoreW) ∧ (nx memCoreW).g.get 0 = agW0
       ∧ 5376 = BitVec.toNat ((nx memCoreW).reg 0) % agMod (CoreRef.lane 3) ∧ (5376 = 0 ∨ agW0.ptr < 5376)) ∧
    (At memW2 (CoreRef.lane 3) (nx memCoreW) ∧ (nx memCoreW).g.get 1 = agW1
       ∧ 7 = BitVec.toNat ((nx memCoreW).reg 9) % agMod (CoreRef.lane 3) ∧ 7 ≠ 0 ∧ 7 ≤ agW1.ptr) ∧
    (At memW2 (CoreRef.lane 3) (nx memCoreW) ∧ (nx memCoreW).g.get 0 = agW0
       ∧ (0, coreW.st.word) ∈ [(0, (nx memCoreW).st.word), (1, (nx memCoreW).scl), (2, (nx memCoreW).lr), (3, (nx memCoreW).iret), (4, (nx memCoreW).ifl.word), (5, (nx memCoreW).ivec), (6, (nx memCoreW).icause), (7, (nx memCoreW).deadl), (8, (nx memCoreW).agstat.toNat), (9, BitVec.toNat (nx memCoreW).dq), (10, (nx memCoreW).rep0.rs), (11, (nx memCoreW).rep0.re), (12, (nx memCoreW).rep0.rc), (13, (nx memCoreW).rep1.rs), (14, (nx memCoreW).rep1.re), (15, (nx memCoreW).rep1.rc), (16, 0), (17, memW2.loops.period)]) ∧
    (At memW2 (CoreRef.lane 3) (nx memCoreW) ∧ (nx memCoreW).g.get 0 = agW0 ∧ CoreRef.lane 3 = CoreRef.lane 3
       ∧ 32 ≤ 32 ∧ 32 ≤ 39) ∧
    (At supW (CoreRef.sup 2) (nx supCoreW) ∧ (nx supCoreW).g.get 0 = agW0 ∧ CoreRef.sup 2 = CoreRef.sup 2
       ∧ (32, 44) ∈ [(32, (nx supCoreW).epc), (33, BitVec.toNat (nx supCoreW).efl), (34, (nx supCoreW).ecause), (35, (nx supCoreW).evec), (36, (nx supCoreW).eaddr), (37, (nx supCoreW).imask), (38, 2 + 4 * supW.red.activeUnit)]) ∧
    (At memW2 (CoreRef.lane 3) (nx memCoreW) ∧ (nx memCoreW).g.get 1 = agW1 ∧ 7 < 32) ∧
    (At memW2 (CoreRef.lane 3) (nx memCoreW) ∧ (nx memCoreW).g.get 1 = agW1 ∧ 0 ≤ ((nx memCoreW).a.get 0).toInt) ∧
    (At memW2 (CoreRef.lane 3) (nx memCoreW) ∧ (nx memCoreW).g.get 0 = agW0 ∧ ((nx memCoreW).a.get 1).toInt < 0) :=
  ⟨by unfold At; decide +kernel,
   by unfold At; decide +kernel,
   by unfold At; decide +kernel,
   by unfold At; decide +kernel,
   by unfold At; decide +kernel,
   by unfold At; decide +kernel,
   by unfold At; decide +kernel,
   by unfold At; decide +kernel,
   by unfold At; decide +kernel,
   by unfold At; decide +kernel,
   by unfold At; decide +kernel,
   by unfold At; decide +kernel,
   by unfold At; decide +kernel,
   by unfold At; decide +kernel,
   by unfold At; decide +kernel⟩

end Loads

/-! ### Witnesses: control instructions -/

namespace Control

def regsW : Vector Word 16 := #v[0, 1, 0xFFFFFFFF, 0x80000000, 0x7FFFFFFF, 0x12345678, 0xFFFFFF85, 31, 32, 0xFFFFFFE1, 0xFFFFFFE0, 0x40000000, 0x0000FFFF, 5, 0x1F030201, 63]
def coreW : Core := { d := regsW, a := #v[0x123456789ABCDEF01, 0x800000000000000000], run := .running, pc := 2047, cyc := 6, st := { c := true } }
def satCoreW : Core := { coreW with a := #v[0x7FFFFFFFFFFFFFFFFF, 0xFFFFFFFF0000000000], st := { sat := true, z := true }, pc := 5 }
def mk (c : CoreRef) (x : Core) : State := { servW with mode := { mode := .edgePacket }, red := { a := { state := .active } }, eng := { cores := [((match c with | .lane n => n.val | .sup n => 64 + n.val), x)] } }
def lnW : State := mk (.lane 3) coreW
def lsW : State := mk (.lane 3) satCoreW
def spW : State := mk (.sup 2) coreW
def aft (o : Host.Outcome State Fault Refusal) (c : CoreRef) : Core := match o with | .next t => t.core c | _ => {}
def overCoreW : Core := { satCoreW with st := {} }
def lvW : State := mk (.lane 3) overCoreW
def nx (x : Core) : Core := { x with cyc := x.cyc + 1 }
def ctlCoreW : Core := { coreW with lr := 0x12345, iret := 99, ifl := { v := true }, pc := 2046, d := #v[0x1500, 5, 0xFFFFFFFF, 0x7FFFFFFF, 0x12345678, 0x2000, 0x14F0, 3, 0x5000, 7, 40, 0, 0x1503, 2, 0x5000010, 0x80000000], srwc := 10 }
def coefRec (cell lane : Nat) : List Word := [BitVec.ofNat 32 (cell + 65536 * lane + 2 ^ 24), 0x01800000, 0, 0, 0, 0, 0, 0, 0, 0x00010000, 0x00030002, 0x00010000, 0x00100005, 0, 0, 0]
def ctlW (x : Core) (clk : Nat) : State := { mk (.lane 3) x with clk := clk, loops := { counting := true, periodAt := 1000, period := 77, coef := [(20, coefRec 20 3), (40, coefRec 40 3)], cells := [(40, { state := .track })] } }
def c1 : State := ctlW ctlCoreW 5000
def c2 : State := ctlW { ctlCoreW with stopAt := some 4, st := { z := true } } 122800
def c3 : State := ctlW ctlCoreW 128601
def c4 : State := { ctlW ctlCoreW 123000 with regs := [(Reg.LE_LANE_CTL_BKPT_EN.addr, 1 <<< Reg.LE_LANE_CTL_BKPT_EN.lo)] }
def supC : Core := { ctlCoreW with evec := 0x700, epc := 44, efl := 0x30005, imask := 3, writesOut := 4 }
def s1 : State := { mk (.sup 2) supC with clk := 99 }
def s2 : State := { s1 with bm := { s1.bm with targets := s1.bm.targets.set 5 { lockedBy := some (0, 2), lockAt := 3 } } }
def s3 : State := { s1 with bm := { s1.bm with targets := s1.bm.targets.set 5 { lockedBy := some (1, 2), lockAt := 3 } } }
def ctlCoreZ : Core := { ctlCoreW with stopAt := some 4, st := { z := true } }

/-- States and operands that meet the hypotheses of `Obligations.ControlInstructions`, clause by clause. -/
theorem witness_ControlInstructions :
    (At c1 (CoreRef.lane 3) (nx ctlCoreW) ∧ condHolds (nx ctlCoreW).st 0 = some true) ∧
    (At c1 (CoreRef.lane 3) (nx ctlCoreW) ∧ condHolds (nx ctlCoreW).st 1 = some false) ∧
    (At c1 (CoreRef.lane 3) (nx ctlCoreW) ∧ 0 < 65536 ∧ 0 < 64) ∧
    (At c1 (CoreRef.lane 3) (nx ctlCoreW) ∧ 0 < 64 ∧ BitVec.toNat ((nx ctlCoreW).reg 13) ≠ 0) ∧
    (At c1 (CoreRef.lane 3) (nx ctlCoreW) ∧ BitVec.toNat ((nx ctlCoreW).reg 11) = 0) ∧
    (At c1 (CoreRef.lane 3) (nx ctlCoreW) ∧ CoreRef.lane 3 = CoreRef.lane 3 ∧ (nx ctlCoreW).stopAt = none) ∧
    (At c2 (CoreRef.lane 3) (nx ctlCoreZ) ∧ CoreRef.lane 3 = CoreRef.lane 3 ∧ (nx ctlCoreZ).stopAt.isSome = true) ∧
    (At c1 (CoreRef.lane 3) (nx ctlCoreW) ∧ CoreRef.lane 3 = CoreRef.lane 3 ∧ c1.ptime < 121800) ∧
    (At c2 (CoreRef.lane 3) (nx ctlCoreZ) ∧ CoreRef.lane 3 = CoreRef.lane 3 ∧ 121800 ≤ c2.ptime ∧ c2.recs 3 ≠ 0) ∧
    (At c1 (CoreRef.lane 3) (nx ctlCoreW) ∧ CoreRef.lane 3 = CoreRef.lane 3
       ∧ 10 ≤ seqDiff (nx ctlCoreW).srwc (BitVec.toNat ((nx ctlCoreW).reg 11))) ∧
    (At c1 (CoreRef.lane 3) (nx ctlCoreW) ∧ CoreRef.lane 3 = CoreRef.lane 3
       ∧ seqDiff (nx ctlCoreW).srwc (BitVec.toNat ((nx ctlCoreW).reg 13)) < 65536) ∧
    (At c1 (CoreRef.lane 3) (nx ctlCoreW) ∧ CoreRef.lane 3 = CoreRef.lane 3
       ∧ (c1.laneCells 3).length ≤ BitVec.toNat ((nx ctlCoreW).reg 13) % 128) ∧
    (At c1 (CoreRef.lane 3) (nx ctlCoreW) ∧ CoreRef.lane 3 = CoreRef.lane 3
       ∧ (c1.laneCells 3)[BitVec.toNat ((nx ctlCoreW).reg 11) % 128]? = some 20
       ∧ ((c1.cell 20).stepped = true ∨ c1.ptime < 121800 ∨ 127600 < c1.ptime)) ∧
    (At c2 (CoreRef.lane 3) (nx ctlCoreZ) ∧ CoreRef.lane 3 = CoreRef.lane 3
       ∧ (c2.laneCells 3)[BitVec.toNat ((nx ctlCoreZ).reg 11) % 128]? = some 20 ∧ (c2.cell 20).stepped = false
       ∧ c2.loops.sampled = true ∧ 121800 ≤ c2.ptime ∧ c2.ptime ≤ 127600) ∧
    (At c1 (CoreRef.lane 3) (nx ctlCoreW) ∧ CoreRef.lane 3 = CoreRef.lane 3 ∧ c1.flag Reg.LE_LANE_CTL_BKPT_EN = false) ∧
    (At c4 (CoreRef.lane 3) (nx ctlCoreW) ∧ CoreRef.lane 3 = CoreRef.lane 3 ∧ c4.flag Reg.LE_LANE_CTL_BKPT_EN = true) ∧
    (At s1 (CoreRef.sup 2) (nx supC) ∧ CoreRef.sup 2 = CoreRef.sup 2 ∧ 0 = s1.red.activeUnit ∧ 0 < 2
       ∧ s1.masterReady 0 = true ∧ s1.brokenLock 0 2 = none ∧ 83886100 = BitVec.toNat ((nx supC).reg 14 + 4#32)
       ∧ 83886080 ≤ 83886100 ∧ 83886100 < 88080384 ∧ 83886100 % 4 = 0 ∧ s1.targetFree 5 0 2 = true) ∧
    (At s3 (CoreRef.sup 2) (nx supC) ∧ CoreRef.sup 2 = CoreRef.sup 2 ∧ 0 = s3.red.activeUnit ∧ 0 < 2
       ∧ s3.masterReady 0 = true ∧ s3.brokenLock 0 2 = none ∧ 83886100 = BitVec.toNat ((nx supC).reg 14 + 4#32)
       ∧ 83886080 ≤ 83886100 ∧ 83886100 < 88080384 ∧ 83886100 % 4 = 0 ∧ s3.targetFree 5 0 2 = false) ∧
    (At s1 (CoreRef.sup 2) (nx supC) ∧ CoreRef.sup 2 = CoreRef.sup 2 ∧ 0 = s1.red.activeUnit ∧ 0 < 2
       ∧ s1.masterReady 0 = true ∧ s1.brokenLock 0 2 = none ∧ 83886100 = BitVec.toNat ((nx supC).reg 14 + 4#32)
       ∧ 83886080 ≤ 83886100 ∧ 83886100 < 88080384 ∧ 83886100 % 4 = 0 ∧ (s1.bmTarget 5).lockedBy = none
       ∧ s1.lockOf 0 2 = none) ∧
    (At s2 (CoreRef.sup 2) (nx supC) ∧ CoreRef.sup 2 = CoreRef.sup 2 ∧ 0 = s2.red.activeUnit ∧ 0 < 2
       ∧ s2.masterReady 0 = true ∧ s2.brokenLock 0 2 = none ∧ 83886100 = BitVec.toNat ((nx supC).reg 14 + 4#32)
       ∧ 83886080 ≤ 83886100 ∧ 83886100 < 88080384 ∧ 83886100 % 4 = 0 ∧ s2.lockOf 0 2 = some 5 ∧ s2.bm.waiting = []) :=
  ⟨by unfold At; decide +kernel,
   by unfold At; decide +kernel,
   by unfold At; decide +kernel,
   by unfold At; decide +kernel,
   by unfold At; decide +kernel,
   by unfold At; decide +kernel,
   by unfold At; decide +kernel,
   by unfold At; decide +kernel,
   by unfold At; decide +kernel,
   by unfold At; decide +kernel,
   by unfold At; decide +kernel,
   by unfold At; decide +kernel,
   by unfold At; decide +kernel,
   by unfold At; decide +kernel,
   by unfold At; decide +kernel,
   by unfold At; decide +kernel,
   by unfold At; decide +kernel,
   by unfold At; decide +kernel,
   by unfold At; decide +kernel,
   by unfold At; decide +kernel⟩

end Control

/-! ### Witnesses: issue, hazards and core events -/

namespace Cores

def regsW : Vector Word 16 := #v[0, 1, 0xFFFFFFFF, 0x80000000, 0x7FFFFFFF, 0x12345678, 0xFFFFFF85, 31, 32, 0xFFFFFFE1, 0xFFFFFFE0, 0x40000000, 0x0000FFFF, 5, 0x1F030201, 63]
def coreW : Core := { d := regsW, a := #v[0x123456789ABCDEF01, 0x800000000000000000], run := .running, pc := 2047, cyc := 6, st := { c := true } }
def satCoreW : Core := { coreW with a := #v[0x7FFFFFFFFFFFFFFFFF, 0xFFFFFFFF0000000000], st := { sat := true, z := true }, pc := 5 }
def mk (c : CoreRef) (x : Core) : State := { servW with mode := { mode := .edgePacket }, red := { a := { state := .active } }, eng := { cores := [((match c with | .lane n => n.val | .sup n => 64 + n.val), x)] } }
def lnW : State := mk (.lane 3) coreW
def lsW : State := mk (.lane 3) satCoreW
def spW : State := mk (.sup 2) coreW
def aft (o : Host.Outcome State Fault Refusal) (c : CoreRef) : Core := match o with | .next t => t.core c | _ => {}
def overCoreW : Core := { satCoreW with st := {} }
def lvW : State := mk (.lane 3) overCoreW
def nx (x : Core) : Core := { x with cyc := x.cyc + 1 }
def ldP : LoadPend := ⟨5, 0x99⟩
def loadCoreW : Core := { coreW with load := some ldP }
def brP (n : Nat) : BranchPend := ⟨0x1805, n, some { v := true }⟩
def br2 : Core := { coreW with branch := some (brP 2) }
def br1 : Core := { coreW with branch := some (brP 1) }
def rp (n : Nat) : Core := { coreW with pc := 9, rep0 := { rs := 7, re := 9, rc := n, act := true } }
def idleC : Core := { coreW with run := .waiting }
def twoW : State := { mk (.lane 3) coreW with eng := { cores := [(3, coreW), (66, coreW)] } }

/-- States and operands that meet the hypotheses of `Obligations.IssueAndHazards`, clause by clause. -/
theorem witness_IssueAndHazards :
    (coreOf (Instr.nop (CoreRef.lane 3)) = some (CoreRef.lane 3)
       ∧ ((mk (CoreRef.lane 3) idleC).core (CoreRef.lane 3)).run ≠ RunState.running) ∧
    ((nx coreW).run = RunState.running ∧ (nx coreW).div = none
       ∧ (nx coreW).cyc = ((mk (CoreRef.lane 3) loadCoreW).core (CoreRef.lane 3)).cyc + 1 ∧ (nx coreW).branch = none
       ∧ (nx coreW).rep0.act = false ∧ (nx coreW).rep1.act = false
       ∧ (mk (CoreRef.lane 3) loadCoreW).core (CoreRef.lane 3) = { nx coreW with load := some ldP, cyc := ((mk (CoreRef.lane 3) loadCoreW).core (CoreRef.lane 3)).cyc }
       ∧ (nx coreW).load = none) ∧
    ((nx br2).run = RunState.running ∧ (nx br2).div = none
       ∧ (nx br2).cyc = ((mk (CoreRef.lane 3) br2).core (CoreRef.lane 3)).cyc + 1
       ∧ (mk (CoreRef.lane 3) br2).core (CoreRef.lane 3) = { nx br2 with branch := some (brP 2), cyc := ((mk (CoreRef.lane 3) br2).core (CoreRef.lane 3)).cyc }
       ∧ (nx br2).load = none ∧ (brP 2).slots = 2) ∧
    ((nx br1).run = RunState.running ∧ (nx br1).div = none
       ∧ (nx br1).cyc = ((mk (CoreRef.lane 3) br1).core (CoreRef.lane 3)).cyc + 1
       ∧ (mk (CoreRef.lane 3) br1).core (CoreRef.lane 3) = { nx br1 with branch := some (brP 1), cyc := ((mk (CoreRef.lane 3) br1).core (CoreRef.lane 3)).cyc }
       ∧ (nx br1).load = none ∧ (brP 1).slots = 1) ∧
    ((nx (rp 2)).run = RunState.running ∧ (nx (rp 2)).div = none
       ∧ (nx (rp 2)).cyc = ((mk (CoreRef.lane 3) (rp 2)).core (CoreRef.lane 3)).cyc + 1
       ∧ (mk (CoreRef.lane 3) (rp 2)).core (CoreRef.lane 3) = { nx (rp 2) with cyc := ((mk (CoreRef.lane 3) (rp 2)).core (CoreRef.lane 3)).cyc }
       ∧ (nx (rp 2)).load = none ∧ (nx (rp 2)).branch = none ∧ (nx (rp 2)).rep1.act = false
       ∧ (nx (rp 2)).rep0.act = true ∧ (nx (rp 2)).rep0.re = (nx (rp 2)).pc ∧ 1 < (nx (rp 2)).rep0.rc) ∧
    ((nx (rp 1)).run = RunState.running ∧ (nx (rp 1)).div = none
       ∧ (nx (rp 1)).cyc = ((mk (CoreRef.lane 3) (rp 1)).core (CoreRef.lane 3)).cyc + 1
       ∧ (mk (CoreRef.lane 3) (rp 1)).core (CoreRef.lane 3) = { nx (rp 1) with cyc := ((mk (CoreRef.lane 3) (rp 1)).core (CoreRef.lane 3)).cyc }
       ∧ (nx (rp 1)).load = none ∧ (nx (rp 1)).branch = none ∧ (nx (rp 1)).rep1.act = false
       ∧ (nx (rp 1)).rep0.act = true ∧ (nx (rp 1)).rep0.re = (nx (rp 1)).pc ∧ (nx (rp 1)).rep0.rc = 1) ∧
    ((nx coreW).run = RunState.running ∧ (nx coreW).div = none
       ∧ (nx coreW).cyc = ((mk (CoreRef.lane 3) loadCoreW).core (CoreRef.lane 3)).cyc + 1
       ∧ ((mk (CoreRef.lane 3) loadCoreW).core (CoreRef.lane 3)).run = RunState.running) ∧
    ((nx coreW).run = RunState.running ∧ (nx coreW).div = none
       ∧ (nx coreW).cyc = (twoW.core (CoreRef.lane 3)).cyc + 1 ∧ At twoW (CoreRef.sup 2) (nx coreW)) :=
  ⟨by decide +kernel,
   by decide +kernel,
   by decide +kernel,
   by decide +kernel,
   by decide +kernel,
   by decide +kernel,
   by decide +kernel,
   by unfold At; decide +kernel⟩

def dlC : Core := { coreW with deadl := 700, icause := 1 }
def intC : Core := { coreW with st := { ie := true }, icause := 2, ivec := 0x812, run := .waiting, wait := .period }
def stallC : Core := { coreW with stopAt := some 900 }
def divC : Core := { coreW with div := some ⟨5, 0x77⟩ }
def waitC : Core := { coreW with run := .waiting, wait := .period, waitAt := 400 }
def wp (x : Core) (t : Nat) : State := { mk (.lane 3) x with clk := 3000, loops := { periodAt := t, counting := true } }
def excC : Core := { coreW with evec := 0x700, eaddr := 4 }

/-- States and operands that meet the hypotheses of `Obligations.CoreEvents`, clause by clause. -/
theorem witness_CoreEvents :
    ((wp dlC 500).core (CoreRef.lane 3) = dlC ∧ dlC.deadl ≠ 0) ∧
    ((wp intC 500).core (CoreRef.lane 3) = intC ∧ intC.st.ie = true ∧ intC.icause ≠ 0 ∧ intC.branch = none
       ∧ intC.load = none ∧ intC.rep0.act = false ∧ intC.rep1.act = false ∧ intC.div = none
       ∧ (intC.run = RunState.running ∨ intC.run = RunState.waiting)) ∧
    ((wp dlC 500).core (CoreRef.lane 3) = dlC ∧ (dlC.st.ie = false ∨ dlC.icause = 0 ∨ dlC.branch.isSome = true)) ∧
    ((wp stallC 500).core (CoreRef.lane 3) = stallC ∧ stallC.stopAt = some 900) ∧
    ((mk (CoreRef.sup 2) excC).core (CoreRef.sup 2) = excC ∧ 16 ≤ 17 ∧ 17 ≤ 20 ∧ excC.run = RunState.running
       ∧ excC.div = none) ∧
    (3 < 16 ∧ ((wp dlC 500).core (CoreRef.sup 2)).imask = 0) ∧
    ((wp divC 500).core (CoreRef.lane 3) = divC ∧ divC.div = some { cycles := 5, result := 119#32 }) ∧
    ((wp intC 500).core (CoreRef.lane 3) = intC ∧ intC.run = RunState.waiting ∧ intC.wait = WaitKind.period
       ∧ intC.branch = none ∧ intC.rep0.act = false ∧ intC.rep1.act = false
       ∧ intC.waitAt < (wp intC 500).loops.periodAt) ∧
    ((wp waitC 400).core (CoreRef.lane 3) = waitC ∧ waitC.run = RunState.waiting ∧ waitC.wait = WaitKind.period
       ∧ waitC.branch = none ∧ waitC.rep0.act = false ∧ waitC.rep1.act = false
       ∧ (wp waitC 400).loops.periodAt ≤ waitC.waitAt) :=
  ⟨by decide +kernel,
   by decide +kernel,
   by decide +kernel,
   by decide +kernel,
   by decide +kernel,
   by decide +kernel,
   by decide +kernel,
   by decide +kernel,
   by decide +kernel⟩

end Cores

/-! ### Witnesses: conversions and calibration -/

namespace Tail

def planImg : Bytes := imgOf [(1, [7, 0, 0xF8, 1]), (3, [9, 8, 1, 0, 1, 0, 0x40, 0, 10, 12, 0, 0, 1, 0, 0, 2]), (4, [8, 0x80, 0, 0])]
def planW : State := { servW with canvas := { active := some planImg }, clk := 700 }
def adcW : State := { servW with clk := 500, loops := { counting := true, periodAt := 1000 }, adc := { ref := { state := 1, ready := true }, hkAcc := [(9728 + 17, [4000])] } }
def notReadyW : State := { adcW with adc := { ref := { state := 1 }, refAt := 30 } }
def offW : State := { adcW with adc := {} }
def slotModeW : State := { offW with mode := { mode := .edgePersistent } }
def stopW : State := { adcW with adc := { ref := { state := 2 } }, ports := [(9, { fn := { state := 2 } })], lanes := [(261, { fn := { state := 2 } , rxCal := true })] }
def pairsW : State := { servW with adc := { pairs := [(3, { check := true, refchk := true, badRun := 3, ref := true }), (15, { timeout := true, forced := true })] } }
def slewW : State := { servW with clk := 12345, dac := { maxRate := true, htrOut := [(2, 500), (3, 10), (5, 100)], htrTarget := [(2, 5), (3, 300), (5, 300)] } }

/-- States and operands that meet the hypotheses of `Obligations.ConvertersAndReferences`, clause by clause. -/
theorem witness_ConvertersAndReferences :
    (adcW.loops.counting = true ∧ 16 ≤ 47 ∧ 47 < 48 ∧ adcW.adc.ref.ready = true
       ∧ 9728 + 4 * 31 + 3 = 9728 + 4 * 31 + (47 - 16) / 2 % 4) ∧
    (notReadyW.loops.counting = true ∧ 16 ≤ 16 ∧ 16 < 48 ∧ notReadyW.adc.ref.ready = false) ∧
    (adcW.loops.counting = true ∧ 17 < 64 ∧ adcW.adc.hkAcc = [(9728 + 17, [4000])]
       ∧ Option.map Prod.snd (adcW.correct (9728 + 17) 4000) = some (adcW.correct (9728 + 17) 4000).get!.2) ∧
    (RegsCanonical offW ∧ offW.barUp = true ∧ (offW.mode.mode = Mode.safe ∨ offW.mode.mode = Mode.calibrate)
       ∧ offW.adc.ref.state = 0) ∧
    (RegsCanonical adcW ∧ adcW.barUp = true ∧ (adcW.mode.mode = Mode.safe ∨ adcW.mode.mode = Mode.calibrate)
       ∧ adcW.adc.ref.state = 1 ∧ adcW.adc.ref.ready = true) ∧
    (RegsCanonical slotModeW ∧ slotModeW.barUp = true ∧ slotModeW.mode.mode ≠ Mode.safe
       ∧ slotModeW.mode.mode ≠ Mode.calibrate) ∧
    (notReadyW.adc.ref.state = 1 ∧ notReadyW.adc.ref.ready = false ∧ notReadyW.adc.ref.stopPending = false
       ∧ 65535 % 65536 = 65535) ∧
    (notReadyW.adc.ref.state = 1 ∧ notReadyW.adc.ref.ready = false ∧ 131070 % 65536 ≠ 65535) ∧
    (stopW.adc.ref.state = 2 ∧ stopW.adc.ref.restartPending = false) ∧
    ((stopW.port 9).fn.state = 2 ∧ (stopW.port 9).fn.restartPending = false) ∧
    ((stopW.lane (256 + 5)).fn = { state := 2 } ∧ (stopW.lane (256 + 5)).serving = false) ∧
    (RegsCanonical adcW ∧ adcW.barUp = true ∧ adcW.adc.direct = none ∧ 9728 + 4 * 31 + 3 ≤ 9855 ∧ adcW.pwr.state ≤ 2
       ∧ adcW.adc.ref.ready = true) ∧
    (RegsCanonical notReadyW ∧ notReadyW.barUp = true ∧ notReadyW.adc.direct = none ∧ 9855 < 9856 ∧ 9856 < 16384) ∧
    (adcW.barUp = true ∧ tblWf { } 0 adcW.adc.pairs = true ∧ 3 < 16 ∧ 15 ≠ 3) ∧
    (adcW.barUp = true ∧ tblWf { } 0 adcW.adc.pairs = true ∧ 3 < 16 ∧ 15 < 16) ∧
    (adcW.pins.vaon = true ∧ adcW.dac.maxRate = true) :=
  ⟨by decide +kernel,
   by decide +kernel,
   ⟨by decide +kernel, by decide +kernel, by decide +kernel, rfl⟩,
   by unfold RegsCanonical; decide +kernel,
   by unfold RegsCanonical; decide +kernel,
   by unfold RegsCanonical; decide +kernel,
   by decide +kernel,
   by decide +kernel,
   by decide +kernel,
   by decide +kernel,
   by decide +kernel,
   by unfold RegsCanonical; decide +kernel,
   by unfold RegsCanonical; decide +kernel,
   by decide +kernel,
   by decide +kernel,
   by decide +kernel⟩

def calW : State := { servW with mode := { mode := .calibrate }, clk := 90, ret := { tested := true }, saf := { guard := .closed, wired := 5 } }
def runRec : CalRun := ⟨tg, 0, 3, 5, true, 1, 80⟩
def calRunW : State := { calW with cal := { run := some runRec } }
def eyeW : State := { servW with regs := [(Reg.CAL_CTL_EYE_EN.addr, 1 <<< Reg.CAL_CTL_EYE_EN.lo)], lanes := [(5, { fn := { state := 1, ready := true } })] }
def scanW : State := { servW with cal := { scanning := [255] } }
def cellT : CellLoop := { state := .track, outBias := 40, outHtr := 500 }
def cellD : CellLoop := { state := .dark }
def cellO : CellLoop := {}
def eyeE : EyeResult := ⟨64, 1023, 65535, false⟩
def driftW : State := { servW with loops := { cells := [(44, cellT)] }, cal := { l0Day := 5, l0Month := 77, trims := [(4, 8)], quality := [(44, { daily := [(1, 2)], index := 255, ring := List.replicate 256 7 })] } }
def darkW : State := { servW with loops := { cells := [(44, cellD)] }, cal := { trims := [(4, 8)], trimsAt := 60 } }
def drift2W : State := { ringW with cal := driftW.cal }

/-- States and operands that meet the hypotheses of `Obligations.CalibrationAndQuality`, clause by clause. -/
theorem witness_CalibrationAndQuality :
    (Serves calW ∧ 7 ≤ 7 ∧ 15 ≤ 15 ∧ calW.cal.run = none ∧ calW.mode.mode = Mode.calibrate ∧ calW.pwr.state = 0
       ∧ calW.pwr.target = 0 ∧ calW.ret.lockout = false ∧ calW.ret.tested = true ∧ calW.saf.guard = Guard.closed) ∧
    (Serves servW ∧ 7 ≤ 7 ∧ 15 ≤ 15 ∧ servW.cal.run = none ∧ servW.mode.mode ≠ Mode.calibrate) ∧
    (calRunW.cal.run = some runRec ∧ calRunW.mode.mode = Mode.calibrate ∧ calRunW.mode.pend = none
       ∧ LaserSafe calRunW) ∧
    (Serves calW ∧ 44 < 4352) ∧
    (5 < 512 ∧ eyeW.flag Reg.CAL_CTL_EYE_EN = true ∧ eyeW.cal.scanning = [] ∧ (eyeW.lane 5).fn.ready = true) ∧
    (5 < 512 ∧ calW.flag Reg.CAL_CTL_EYE_EN = true ∧ calW.cal.scanning = [] ∧ (calW.lane 5).fn.ready = false) ∧
    (scanW.cal.scanning = [255] ∧ eyeE.width ≤ 64 ∧ eyeE.height ≤ 1023 ∧ eyeE.ber ≤ 65535 ∧ 255 < 256) ∧
    (calW.barUp = true ∧ 5 < 512) ∧
    (driftW.pwr.state = 0 ∧ driftW.started = true ∧ driftW.loops.cells = [(44, cellT)]
       ∧ driftW.cal.l0Day ≤ 86400000000000 ∧ cellT.state = LoopState.track) ∧
    (darkW.pwr.state = 0 ∧ darkW.started = true ∧ darkW.loops.cells = [(44, cellD)]
       ∧ darkW.cal.l0Day ≤ 86400000000000 ∧ cellD.state ≠ LoopState.track) ∧
    (calW.pwr.state = 0 ∧ calW.started = true ∧ calW.cal.l0Month ≤ 2592000000000000) ∧
    (drift2W.started = true ∧ drift2W.cal.trims ≠ drift2W.cal.trimsNvm) :=
  ⟨by unfold Serves; decide +kernel,
   by unfold Serves; decide +kernel,
   by unfold LaserSafe; decide +kernel,
   by unfold Serves; decide +kernel,
   by decide +kernel,
   by decide +kernel,
   by decide +kernel,
   by decide +kernel,
   by decide +kernel,
   by decide +kernel,
   by decide +kernel,
   by decide +kernel⟩

end Tail

/-! ### Witnesses: ports, frames and bursts -/

namespace Ports

def planImg : Bytes := imgOf [(1, [7, 0, 0xF8, 1]), (3, [9, 8, 1, 0, 1, 0, 0x40, 0, 10, 12, 0, 0, 1, 0, 0, 2]), (4, [8, 0x80, 0, 0])]
def planW : State := { servW with canvas := { active := some planImg }, clk := 700 }
def asleepW : State := { planW with pwr := { state := 1 } }
def enabledW : State := { planW with regs := [((Reg.PORT_CTL_EN 9).addr, 1)], ports := [(9, { fn := { state := 1 } })], lanes := [(261, { fn := { state := 1, ready := true } })] }
def trainW : State := { planW with ports := [(9, { fn := { state := 1 }, anDone := true, downUntil := 900 })], lanes := [(261, { fn := { state := 1 }, burstSeq := 5 })] }
def upW : State := { planW with ports := [(9, { fn := { state := 1, ready := true }, linkUp := true })] }

/-- States and operands that meet the hypotheses of `Obligations.PortsAndLanes`, clause by clause. -/
theorem witness_PortsAndLanes :
    (RegsCanonical planW ∧ 9 < 256 ∧ planW.barUp = true ∧ planW.planned 9 = true ∧ planW.lanesAwake = true
       ∧ (planW.port 9).fn.state = 0) ∧
    (RegsCanonical asleepW ∧ 9 < 256 ∧ asleepW.barUp = true ∧ asleepW.planned 9 = true ∧ asleepW.lanesAwake = false) ∧
    (RegsCanonical planW ∧ 255 < 256 ∧ planW.barUp = true ∧ planW.planned 255 = false) ∧
    (RegsCanonical enabledW ∧ 9 < 256 ∧ enabledW.barUp = true ∧ enabledW.flag (Reg.PORT_CTL_EN 9) = true
       ∧ (enabledW.port 9).fn.state = 1 ∧ (enabledW.port 9).fn.ready = false) ∧
    (RegsCanonical planW ∧ 9 < 256 ∧ planW.barUp = true ∧ (planW.lane (256 + 5)).fn.state = 0 ∧ planW.pwr.state = 0) ∧
    (RegsCanonical enabledW ∧ 9 < 256 ∧ enabledW.barUp = true ∧ (enabledW.lane (256 + 5)).fn.state = 1
       ∧ (enabledW.lane (256 + 5)).fn.ready = true) ∧
    (RegsCanonical enabledW ∧ 9 < 256 ∧ (enabledW.portLanes 9).contains 8 = true ∧ enabledW.linkTrain 9 = true
       ∧ (enabledW.port 9).fn.state = 1 ∧ (enabledW.port 9).linkUp = false ∧ (enabledW.port 9).fn.stopPending = false) ∧
    (RegsCanonical enabledW ∧ 9 < 256 ∧ enabledW.lanesAwake = true ∧ enabledW.planned 9 = true
       ∧ (enabledW.port 9).fn.state = 1 ∧ (enabledW.port 9).linkUp = false ∧ (enabledW.port 9).fn.stopPending = false) ∧
    (RegsCanonical upW ∧ 9 < 256 ∧ upW.planned 9 = true ∧ (upW.port 9).fn.state = 1 ∧ (upW.port 9).linkUp = true
       ∧ tblWf { samplerRx := { lfsr := 1#32 }, samplerTx := { lfsr := 1#32 } } 0 upW.tm.ports = true
       ∧ upW.flag Reg.FDB_CTL_FLUSH_ON_DOWN = false) ∧
    (RegsCanonical trainW ∧ 9 < 256 ∧ (trainW.lane (256 + 5)).fn = { state := 1 }) :=
  ⟨by unfold RegsCanonical; decide +kernel,
   by unfold RegsCanonical; decide +kernel,
   by unfold RegsCanonical; decide +kernel,
   by unfold RegsCanonical; decide +kernel,
   by unfold RegsCanonical; decide +kernel,
   by unfold RegsCanonical; decide +kernel,
   by unfold RegsCanonical; decide +kernel,
   by unfold RegsCanonical; decide +kernel,
   by unfold RegsCanonical; decide +kernel,
   by unfold RegsCanonical; decide +kernel⟩

def body60 : Bytes := zeros 12 ++ [8, 0] ++ zeros 46
def good64 : Bytes := body60 ++ leBytes 4 (crc32 body60)
def bad64 : Bytes := body60 ++ [1, 2, 3, 4]
def pauseB (op q : Nat) : Bytes := zeros 12 ++ [0x88, 0x08] ++ beBytes 2 op ++ beBytes 2 q ++ [0, 7, 0, 0, 0, 3] ++ zeros 36
def pauseG (op q : Nat) : Bytes := pauseB op q ++ leBytes 4 (crc32 (pauseB op q))
def pktW : State := { upW with mode := { mode := .edgePacket } }
def pauseW : State := { upW with regs := [((Reg.PORT_CTL_PAUSE_RX_EN 9).addr, 0xFFFFFFFF)], ports := [(9, { fn := { state := 1, ready := true }, linkUp := true, rxPause := [none, some 900, none, none, none, none, none, some 800], txPausing := 5, refreshAt := 999 })] }
def nofx : RxFault := ⟨false, false, 0, 0, 0⟩

/-- States and operands that meet the hypotheses of `Obligations.FramesAndPausesReceived`, clause by clause. -/
theorem witness_FramesAndPausesReceived :
    (planW.receives 9 = false) ∧
    (upW.receives 9 = true ∧ tblWf 0 0 upW.obs.cnt = true ∧ 9 < 256 ∧ upW.engineOn = false ∧ 64 ≤ List.length good64
       ∧ List.length good64 ≤ upW.mtu 9 ∧ fcsGood good64 = true ∧ beAt good64 12 2 ≠ 34824
       ∧ upW.fld (Reg.PORT_SAMPLE_N 9 0) = 0) ∧
    (pktW.receives 9 = true ∧ tblWf 0 0 pktW.obs.cnt = true ∧ 9 < 256 ∧ pktW.engineOn = true ∧ [1, 2, 3].length < 64
       ∧ beAt [1, 2, 3] 12 2 ≠ 34824) ∧
    (pauseW.receives 9 = true ∧ (pauseW.port 9).rxPause.length = 8 ∧ beAt (pauseG 1 0) 12 2 = 34824
       ∧ beAt (pauseG 1 0) 14 2 = 1 ∧ fcsGood (pauseG 1 0) = true ∧ pauseW.flag (Reg.PORT_CTL_PAUSE_RX_EN 9) = true) ∧
    (pauseW.receives 9 = true ∧ (pauseW.port 9).rxPause.length = 8 ∧ beAt (pauseB 1 5 ++ [0, 0, 0, 0]) 12 2 = 34824
       ∧ beAt (pauseB 1 5 ++ [0, 0, 0, 0]) 14 2 = 1 ∧ fcsGood (pauseB 1 5 ++ [0, 0, 0, 0]) = false) ∧
    (pauseW.receives 9 = true ∧ (pauseW.port 9).rxPause.length = 8 ∧ beAt (pauseG 257 5) 12 2 = 34824
       ∧ beAt (pauseG 257 5) 14 2 = 257 ∧ fcsGood (pauseG 257 5) = true
       ∧ pauseW.flag (Reg.PORT_CTL_PFC_RX_EN 9) = true ∧ 2 < 8) ∧
    (lget none (pauseW.port 9).rxPause 1 = some 900) ∧
    ((pauseW.port 9).txPausing ≠ 0 ∧ (pauseW.port 9).linkUp = true) :=
  ⟨by decide +kernel,
   by decide +kernel,
   by decide +kernel,
   by decide +kernel,
   by decide +kernel,
   by decide +kernel,
   by decide +kernel,
   by decide +kernel⟩

def frm : Frame := { buf := 1, srcPort := some 9, remoteSrc := 0, remoteModule := 0, dst := 256 + 9, fabric := false, mirror := none, dstPort := 1, cls := 3, colour := 0, data := body60, epoch := 0, counter := 0, hash := 77, ts := 0, tsValid := false, ptp := false, launch := none, rule := none, stomped := false, control := none, interval := 0 }
def sendW : State := { upW with tm := { ports := [(9, { sending := some frm, sendEnd := 950 })] } }
def qplan : Bytes := zeros 0xB40 ++ (List.replicate 9 [200, 0]).flatten ++ [8] ++ zeros 45
def fabImg : Bytes := imgOf [(1, [7, 0, 0xF8, 1]), (12, qplan)]
def fabW : State := { servW with mode := { mode := .edgePacket, dark := false }, canvas := { active := some fabImg }, lanes := [(256, { fn := { state := 1, ready := true }, serving := true })], mx := { inForce := some 5, txOn := 1, palette := [(5, { valid := true, perm := [(7, 0)] })] }, orb := { intBurst := true, intEnd := 5000 * nsUnit, intLen := 1000 * nsUnit, targets := [(0, 9)] }, tm := { frames := [frm] } }
def hdr : Bytes := [7, 0x10, 0, 0, 0, 0, 0, 0, 0, 0, 1, 0, 44, 0, 0, 0] ++ zeros 12
def hdrG : Bytes := hdr ++ leBytes 4 (crc32c hdr)
def burstG : BurstIn := ⟨some 20000, hdrG, [], 0, 0, false⟩
def burstB : BurstIn := ⟨some 20000, hdr ++ [1, 2, 3, 4], [], 0, 0, false⟩
def burstN : BurstIn := ⟨none, [], [], 0, 0, false⟩
def persW : State := { fabW with mode := { mode := .edgePersistent, dark := false } }
def zeroW : State := { planW with regs := [((Reg.PORT_SHAPE_RATE_RATE 9 3).addr, 1000)], tm := { ports := [(9, { credit := lset (List.replicate 9 0) 3 (-5000), creditAt := List.replicate 9 300 })] } }
def drr0 : Drr := {}

/-- States and operands that meet the hypotheses of `Obligations.BurstsAndTransmission`, clause by clause. -/
theorem witness_BurstsAndTransmission :
    ((sendW.pq 9).sending = some frm ∧ frm.launch = none) ∧
    (tget? fabW.orb.targets 0 = some 9 ∧ (fabW.lanesTo 9).contains 0 = true ∧ fabW.moduleOpen 9 = true
       ∧ fabW.engineHalted = false ∧ (fabW.passOver 9).selClass 9 = (some 3, ((fabW.passOver 9).selClass 9).2)
       ∧ (fabW.passOver 9).selGroup 9 3 = (some (0, frm, 0), ((fabW.passOver 9).selGroup 9 3).2)) ∧
    (sendW.expecting 0 = false) ∧
    (persW.expecting 0 = true ∧ burstN.delim = none) ∧
    (persW.expecting 0 = true ∧ burstB.delim = some 20000 ∧ 20000 ≤ 20000
       ∧ headerGood (List.take 32 burstB.message) = false) ∧
    (fabW.expecting 0 = true ∧ burstG.delim = some 20000 ∧ 20000 ≤ 20000 ∧ burstG.bad = []
       ∧ List.length burstG.message = 32 ∧ burstG.endFound = false ∧ headerGood burstG.message = true
       ∧ (fabW.expectedSrc 0).1 = some (leAt burstG.message 0 2 % 512) ∧ fabW.orbitGood burstG.message = true) ∧
    (zeroW.zeroAt 9 3 = some (zeroW.zeroAt 9 3).get! ∧ 3 < (zeroW.pq 9).creditAt.length) :=
  ⟨by decide +kernel,
   by decide +kernel,
   by decide +kernel,
   by decide +kernel,
   by decide +kernel,
   by decide +kernel,
   by decide +kernel⟩

end Ports

/-! ### Witnesses: gates and shapers -/

namespace Gates

def planImg : Bytes := imgOf [(1, [7, 0, 0xF8, 1]), (3, [9, 8, 1, 0, 1, 0, 0x40, 0, 10, 12, 0, 0, 1, 0, 0, 2]), (4, [8, 0x80, 0, 0])]
def planW : State := { servW with canvas := { active := some planImg }, clk := 700 }
def gateB : Bytes := [255, 0, 0, 0, 100, 0, 0, 0, 1, 0, 0, 0, 0, 1, 0, 0]
def gateX : Bytes := [255, 1, 0, 0, 100, 0, 0, 0]
def armedG : State := { planW with tm := { ports := [(9, { gateArmedAt := some (9000 * nsUnit), gatePend := some [(255, 100), (1, 256)] })] } }
def runG : State := { planW with tm := { ports := [(9, { gate := some [(255, 100), (1, 256)], gateStart := 500 * nsUnit, gateBoundary := 600 * nsUnit })] } }
def lpr : LaunchRef := ⟨0, 1, 0x8000, false, false, 0, none⟩
def lau : Launch := ⟨800 * nsUnit, true, 2, zeros 60, lpr⟩
def lauW : State := { planW with tm := { ports := [(9, { launch := [lau] })] } }
def lowG : State := { planW with pwr := { state := 1 } }

/-- States and operands that meet the hypotheses of `Obligations.GatesShapersAndLimiters`, clause by clause. -/
theorem witness_GatesShapersAndLimiters :
    (Serves planW ∧ planW.pwr.state = 0 ∧ planW.planned 9 = true ∧ 0 < 2 ∧ 2 ≤ 64
       ∧ List.all (gateEntries 2 gateB) gateOk = true ∧ 50000 ≠ 0
       ∧ planW.time.now + 50000 * nsUnit ≤ planW.fromWord 50000 ∧ (planW.pq 9).gateArmedAt = none) ∧
    (Serves planW ∧ planW.pwr.state = 0 ∧ planW.planned 9 = true ∧ 0 < 1 ∧ 1 ≤ 64
       ∧ List.all (gateEntries 1 gateX) gateOk = false) ∧
    (Serves armedG ∧ armedG.pwr.state = 0 ∧ armedG.planned 9 = true
       ∧ (armedG.pq 9).gateArmedAt = some (9000 * nsUnit) ∧ armedG.time.now + 5000 * nsUnit ≤ 9000 * nsUnit) ∧
    (Serves lowG ∧ lowG.pwr.state ≠ 0) ∧
    ((armedG.pq 9).gateArmedAt = some (9000 * nsUnit) ∧ (armedG.pq 9).gatePend = some [(255, 100), (1, 256)]) ∧
    ((runG.pq 9).gate = some [(255, 100), (1, 256)]) ∧
    ((lauW.pq 9).launch = [lau]) ∧
    (RegsCanonical planW ∧ planW.barUp = true ∧ 9 < 256 ∧ (1000000000#32).toNat ≤ 1000000000) ∧
    (RegsCanonical planW ∧ planW.barUp = true ∧ 9 < 256 ∧ 1000000000 < (1000000001#32).toNat
       ∧ 1000000001#32 ≠ 4294967295#32) ∧
    (RegsCanonical planW ∧ planW.barUp = true ∧ 9 < 256 ∧ 0 < (1000000000#32).toNat / 2 ^ 24) ∧
    (RegsCanonical planW ∧ planW.barUp = true ∧ 9 < 256 ∧ (16777215#32).toNat / 2 ^ 24 = 0) :=
  ⟨by unfold Serves; decide +kernel,
   by unfold Serves; decide +kernel,
   by unfold Serves; decide +kernel,
   by unfold Serves; decide +kernel,
   by decide +kernel,
   by decide +kernel,
   by decide +kernel,
   by unfold RegsCanonical; decide +kernel,
   by unfold RegsCanonical; decide +kernel,
   by unfold RegsCanonical; decide +kernel,
   by unfold RegsCanonical; decide +kernel⟩

end Gates

/-! ### Witnesses: classifier, forwarding table, counters and the log -/

namespace Tables

def planImg : Bytes := imgOf [(1, [7, 0, 0xF8, 1]), (12, zeros 0xB60 ++ [4, 0, 0, 0])]
def planW : State := { servW with canvas := { active := some planImg }, clk := 700 }
/-- a rule: index 5, valid; mask 10:8 = 7 -/
def ruleR (i : Nat) (hi : Nat) : Bytes := zeros 40 ++ leBytes 4 0x700 ++ zeros 36 ++ leBytes 4 (i + 0x8000 * hi) ++ zeros 12
def ruleB : Bytes := ruleR 5 1 ++ ruleR 6 0
def ruleX : Bytes := ruleR 5 0x10000 ++ ruleR 6 0
def clsW : State := { planW with cls := { rules := [(5, ruleR 5 1)], gen := 3 } }
def idxB : Bytes := [5, 0, 7, 0]
def rngB : Bytes := [9, 0, 0, 0, 0, 0, 0, 0, 0x23, 0, 0, 0]
def polB : Bytes := [2, 0, 0, 0] ++ [0, 0, 1, 0] ++ [100, 0, 0, 0] ++ [0, 1, 0, 0] ++ zeros 20
def floodB : Bytes := [1, 0, 3, 0, 4, 0, 5, 0]
def fullFid : State := { planW with fdb := { fids := [(9, { flood := List.replicate 65536 (1, 2) })] } }

/-- States and operands that meet the hypotheses of `Obligations.ClassifierPolicerAndFidTables`, clause by clause. -/
theorem witness_ClassifierPolicerAndFidTables :
    (Serves clsW ∧ clsW.pwr.state = 0 ∧ 1 ≤ 2 ∧ 2 ≤ 256 ∧ clsW.fdb.learn = [] ∧ clsW.fdb.bad = []
       ∧ firstRepeat (List.map ruleIndex (chunks 96 2 ruleB)) = none
       ∧ (∀ r ∈ chunks 96 2 ruleB, ruleOk clsW.cls.ranges clsW.policerCount r = true) ∧ ruleR 5 1 ∈ chunks 96 2 ruleB) ∧
    (Serves clsW ∧ clsW.pwr.state = 0 ∧ 1 ≤ 2 ∧ 2 ≤ 256 ∧ clsW.fdb.learn = [] ∧ clsW.fdb.bad = []
       ∧ firstRepeat (List.map ruleIndex (chunks 96 2 ruleB)) = none
       ∧ (∀ r ∈ chunks 96 2 ruleB, ruleOk clsW.cls.ranges clsW.policerCount r = true)
       ∧ 7 ∉ List.map ruleIndex (chunks 96 2 ruleB)) ∧
    (Serves clsW ∧ clsW.pwr.state = 0 ∧ 1 ≤ 2 ∧ 2 ≤ 256 ∧ clsW.fdb.learn = [] ∧ clsW.fdb.bad = []
       ∧ (∃ r ∈ chunks 96 2 ruleX, ruleOk clsW.cls.ranges clsW.policerCount r = false)) ∧
    (Serves clsW ∧ clsW.pwr.state = 0 ∧ 1 ≤ 2 ∧ 2 ≤ 256 ∧ clsW.fdb.learn = [] ∧ clsW.fdb.bad = []
       ∧ tblWf (zeros 96) 0 clsW.cls.rules = true ∧ (∀ x ∈ clsW.cls.rules, List.length x.2 = 96)
       ∧ (∀ i ∈ List.map leNat (chunks 2 2 ruleX), i < 32768)) ∧
    (Serves clsW ∧ clsW.pwr.state = 0 ∧ 1 ≤ 2 ∧ 2 ≤ 256 ∧ clsW.fdb.learn = [] ∧ clsW.fdb.bad = []
       ∧ tblWf (zeros 96) 0 clsW.cls.rules = true ∧ (∀ x ∈ clsW.cls.rules, List.length x.2 = 96)
       ∧ (∀ i ∈ List.map leNat (chunks 2 2 ruleB), i < 32768) ∧ 7 ∉ List.map leNat (chunks 2 2 ruleB)) ∧
    (Serves clsW ∧ clsW.pwr.state = 0 ∧ 1 ≤ 2 ∧ 2 ≤ 256 ∧ clsW.fdb.learn = [] ∧ clsW.fdb.bad = []
       ∧ (∀ r ∈ chunks 12 2 ruleB, leAt r 0 4 < 256 ∧ rangeOk (leAt r 4 8) = true)) ∧
    (Serves clsW ∧ clsW.pwr.state = 0 ∧ 1 ≤ 2 ∧ 2 ≤ 256 ∧ clsW.fdb.learn = [] ∧ clsW.fdb.bad = [] ∧ 5 + 2 ≤ 32768) ∧
    (Serves clsW ∧ clsW.pwr.state = 0 ∧ 1 ≤ 1 ∧ 1 ≤ 256 ∧ clsW.fdb.learn = [] ∧ clsW.fdb.bad = [] ∧ 1 = 1
       ∧ leAt polB 0 4 < clsW.policerCount ∧ polOk (slice polB 4 32) = true ∧ List.length polB = 36 ∧ true = true) ∧
    (Serves clsW ∧ clsW.pwr.state = 0 ∧ 1 ≤ 1 ∧ 1 ≤ 256 ∧ clsW.fdb.learn = [] ∧ clsW.fdb.bad = [] ∧ 1 = 1
       ∧ leAt polB 0 4 < clsW.policerCount ∧ polOk (slice polB 4 32) = true ∧ List.length polB = 36) ∧
    (Serves clsW ∧ clsW.pwr.state = 0 ∧ 1 ≤ 2 ∧ 2 ≤ 256 ∧ clsW.fdb.learn = [] ∧ clsW.fdb.bad = [] ∧ 1 ≤ 5 ∧ 5 ≤ 4094
       ∧ 15 < 16 ∧ ((chunks 4 2 ruleB).any fun c => leNat c / 512 % 128 != 0 || leNat c / 2 ^ 24 != 0) = false
       ∧ (List.map (fun e => e.2.flood.length) (List.filter (fun e => e.1 != 5) clsW.fdb.fids)).sum + 2 ≤ 65536) ∧
    (Serves fullFid ∧ fullFid.pwr.state = 0 ∧ 1 ≤ 2 ∧ 2 ≤ 256 ∧ fullFid.fdb.learn = [] ∧ fullFid.fdb.bad = []
       ∧ 1 ≤ 257 ∧ 257 ≤ 4094 ∧ 3 < 16
       ∧ ((chunks 4 2 floodB).any fun c => leNat c / 512 % 128 != 0 || leNat c / 2 ^ 24 != 0) = false
       ∧ 65536 < (List.map (fun e => e.2.flood.length) (List.filter (fun e => e.1 != 257) fullFid.fdb.fids)).sum + 2) ∧
    (Serves clsW ∧ clsW.pwr.state = 0 ∧ 1 ≤ 2 ∧ 2 ≤ 256 ∧ clsW.fdb.learn = [] ∧ clsW.fdb.bad = [] ∧ 256 < 4094) :=
  ⟨by unfold Serves; decide +kernel,
   by unfold Serves; decide +kernel,
   by unfold Serves; decide +kernel,
   by unfold Serves; decide +kernel,
   by unfold Serves; decide +kernel,
   by unfold Serves; decide +kernel,
   by unfold Serves; decide +kernel,
   by unfold Serves; decide +kernel,
   by unfold Serves; decide +kernel,
   by unfold Serves; decide +kernel,
   by unfold Serves; decide +kernel,
   by unfold Serves; decide +kernel⟩

def ent : FdbEntry := { mac := 0x0200000000A1, fid := 20, valid := true, dstModule := 3, dstPort := 9 }
def entS : FdbEntry := { ent with static := true }
def cand : Nat := servW.candidate 20 0x0200000000A1 0
def w0v : BitVec 64 := 0x10140200000000A1
def w1v : BitVec 64 := 0x1203
def fdbW : State := { identW with fdb := { slots := [(cand, ent)], epoch := 0xFFFFFFFF } }
def fdbR : State := { ringW with fdb := { slots := [(cand, ent)], epoch := 0xFFFFFFFF } }
def flu : Flush := ⟨3, 9, none, [cand], 1, some tg, false, 0⟩
def fluW : State := { fdbW with fdb := { slots := [(cand, ent), (1048576, ent)], flushes := [flu, flu, flu, flu] } }
def flu1 : State := { fdbW with fdb := { slots := [(cand, ent), (1048576, ent)], flushes := [flu] } }
def ent21 : FdbEntry := { ent with fid := 21 }
def fill : Nat → Nat → Tbl FdbEntry
  | 0, _ => []
  | n + 1, b => (b, ent21) :: fill n (b + 1)
def ways : Tbl FdbEntry := [(22254, ent21), (153326, ent21), (284398, ent21), (415470, ent21), (546542, ent21), (677614, ent21), (808686, ent21), (939758, ent21)]
def fullSlots : State := { servW with fdb := { slots := ways ++ fill 4096 1048576 } }
def anyF : FdbFilter := ⟨some 20, none, some 9, 2⟩

theorem fill_get : ∀ (n b p : Nat), b ≤ p → p < b + n → tget? (fill n b) p = some ent21
  | 0, b, p, h, h' => by omega
  | n + 1, b, p, h, h' => by
    simp only [fill, tget?]
    split
    · rfl
    · exact fill_get n (b + 1) p (by omega) (by omega)

theorem fill_rise : ∀ (n b lo : Nat), lo ≤ b → keysRise lo (fill n b) = true
  | 0, _, _, _ => rfl
  | n + 1, b, lo, h => by simp [fill, keysRise, h, fill_rise n (b + 1) (b + 1) (Nat.le_refl _)]

theorem fill_fid : ∀ (n b p : Nat) (e : FdbEntry), tget? (fill n b) p = some e → e.fid = 21
  | 0, _, _, _, h => by cases h
  | n + 1, b, p, e, h => by
    simp only [fill, tget?] at h
    split at h
    · cases h; rfl
    · exact fill_fid n (b + 1) p e h

theorem full_slots : fullSlots.fdb.slots = ways ++ fill 4096 1048576 := rfl

theorem full_rise : keysRise 0 fullSlots.fdb.slots = true := by
  rw [full_slots]
  simp [ways, keysRise, fill_rise 4096 1048576 939759 (by omega)]

theorem full_slot (p : Nat) (h : 1048576 ≤ p) (h' : p < 1052672) : fullSlots.slot p = some ent21 := by
  have hf := fill_get 4096 1048576 p h (by omega)
  unfold State.slot
  rw [full_slots]
  simp [ways, tget?, hf]

theorem full_fid (p : Nat) (e : FdbEntry) (h : fullSlots.slot p = some e) : e.fid = 21 := by
  unfold State.slot at h
  rw [full_slots] at h
  simp only [ways, List.cons_append, List.nil_append, tget?] at h
  repeat' split at h
  all_goals first
    | exact fill_fid _ _ _ _ h
    | (cases h; rfl)

theorem full_ways : fullSlots.candidates 20 0x0200000000A1 = ways.map Prod.fst := by decide +kernel

theorem full_free : fullSlots.freeSlot ent.fid ent.mac = none := by
  have h1 : ((fullSlots.candidates ent.fid ent.mac).find? (fun p => (fullSlots.slot p).isNone)) = none := by
    rw [show fullSlots.candidates ent.fid ent.mac = ways.map Prod.fst from full_ways, List.find?_eq_none]
    intro p hp
    unfold State.slot
    rw [full_slots]
    simp only [ways, List.map, List.mem_cons, List.not_mem_nil, or_false] at hp
    rcases hp with h | h | h | h | h | h | h | h <;> subst h <;> simp [ways, tget?]
  have h2 : (((List.range 4096).map (fun k => ovfBase + k)).find? (fun p => (fullSlots.slot p).isNone)) = none := by
    rw [List.find?_eq_none]
    intro p hp
    simp only [List.mem_map, List.mem_range, ovfBase] at hp
    obtain ⟨k, hk, rfl⟩ := hp
    rw [full_slot _ (by omega) (by omega)]
    simp
  unfold State.freeSlot
  rw [h1, h2]

theorem full_find : fullSlots.findAny ent.fid ent.mac = none := by
  unfold State.findAny
  rw [List.findSome?_eq_none_iff]
  intro p _
  cases h : fullSlots.slot p with
  | none => rfl
  | some e => simp [full_fid p e h, ent]

/-- States and operands that meet the hypotheses of `Obligations.ForwardingTableCommands`, clause by clause. -/
theorem witness_ForwardingTableCommands :
    (Serves fdbW ∧ fdbW.pwr.state = 0 ∧ fdbW.fdb.learn = [] ∧ fdbW.fdb.bad = [] ∧ fdbW.fdb.waiting = []
       ∧ fdbW.advanceBlocked = false ∧ keysRise 0 fdbW.fdb.slots = true
       ∧ fdbW.find 20 2199023255713 = some (cand, ent)) ∧
    (Serves servW ∧ servW.pwr.state = 0 ∧ servW.fdb.learn = [] ∧ servW.fdb.bad = [] ∧ servW.fdb.waiting = []
       ∧ servW.advanceBlocked = false ∧ keysRise 0 servW.fdb.slots = true ∧ servW.find 20 2199023255713 = none) ∧
    (Serves fdbW ∧ fdbW.pwr.state = 0 ∧ fdbW.fdb.learn = [] ∧ fdbW.fdb.bad = [] ∧ fdbW.fdb.waiting = []
       ∧ fdbW.advanceBlocked = false ∧ keysRise 0 fdbW.fdb.slots = true ∧ 1 ≤ 256 ∧ 256 ≤ 256 ∧ anyF.kind ≤ 2) ∧
    (Serves fdbR ∧ fdbR.pwr.state = 0 ∧ fdbR.fdb.learn = [] ∧ fdbR.fdb.bad = [] ∧ fdbR.fdb.waiting = []
       ∧ fdbR.advanceBlocked = false ∧ keysRise 0 fdbR.fdb.slots = true ∧ 256 < 257) ∧
    (Serves fdbR ∧ fdbR.pwr.state = 0 ∧ fdbR.fdb.learn = [] ∧ fdbR.fdb.bad = [] ∧ fdbR.fdb.waiting = []
       ∧ fdbR.advanceBlocked = false ∧ keysRise 0 fdbR.fdb.slots = true
       ∧ ent = { entryOf w0v.toNat (w1v + 549755813888#64).toNat with hit := false, ageMark := false }
       ∧ fdbR.entryOk ent (w1v + 549755813888#64).toNat = false) ∧
    (Serves servW ∧ servW.pwr.state = 0 ∧ servW.fdb.learn = [] ∧ servW.fdb.bad = [] ∧ servW.fdb.waiting = []
       ∧ servW.advanceBlocked = false ∧ keysRise 0 servW.fdb.slots = true
       ∧ ent = { entryOf w0v.toNat w1v.toNat with hit := false, ageMark := false }
       ∧ servW.entryOk ent w1v.toNat = true ∧ ent.counter = 0 ∧ servW.findAny ent.fid ent.mac = none
       ∧ servW.freeSlot ent.fid ent.mac = some cand) ∧
    (Serves fullSlots ∧ fullSlots.pwr.state = 0 ∧ fullSlots.fdb.learn = [] ∧ fullSlots.fdb.bad = []
       ∧ fullSlots.fdb.waiting = [] ∧ fullSlots.advanceBlocked = false ∧ keysRise 0 fullSlots.fdb.slots = true
       ∧ ent = { entryOf w0v.toNat w1v.toNat with hit := false, ageMark := false }
       ∧ fullSlots.entryOk ent w1v.toNat = true ∧ ent.counter = 0 ∧ fullSlots.findAny ent.fid ent.mac = none
       ∧ fullSlots.freeSlot ent.fid ent.mac = none) ∧
    (Serves fdbW ∧ fdbW.pwr.state = 0 ∧ fdbW.fdb.learn = [] ∧ fdbW.fdb.bad = [] ∧ fdbW.fdb.waiting = []
       ∧ fdbW.advanceBlocked = false ∧ keysRise 0 fdbW.fdb.slots = true
       ∧ ent = { entryOf w0v.toNat w1v.toNat with hit := false, ageMark := false }
       ∧ fdbW.entryOk ent w1v.toNat = true ∧ ent.counter = 0 ∧ fdbW.findAny ent.fid ent.mac = some (cand, ent)
       ∧ fdbW.doomed cand = false) ∧
    (Serves fdbW ∧ fdbW.pwr.state = 0 ∧ fdbW.fdb.learn = [] ∧ fdbW.fdb.bad = [] ∧ fdbW.fdb.waiting = []
       ∧ fdbW.advanceBlocked = false ∧ keysRise 0 fdbW.fdb.slots = true
       ∧ fdbW.find 20 2199023255713 = some (cand, ent) ∧ ent.counter = 0) ∧
    (Serves fdbW ∧ fdbW.pwr.state = 0 ∧ fdbW.fdb.learn = [] ∧ fdbW.fdb.bad = [] ∧ fdbW.fdb.waiting = []
       ∧ fdbW.advanceBlocked = false ∧ keysRise 0 fdbW.fdb.slots = true ∧ 3 ≤ 511 ∧ 9 ≤ 255
       ∧ fdbW.fdb.flushes.length < 4 ∧ 3 ≠ fdbW.moduleId) ∧
    (Serves fluW ∧ fluW.pwr.state = 0 ∧ fluW.fdb.learn = [] ∧ fluW.fdb.bad = [] ∧ fluW.fdb.waiting = []
       ∧ fluW.advanceBlocked = false ∧ keysRise 0 fluW.fdb.slots = true ∧ fluW.fdb.flushes.length = 4 ∧ 3 ≤ 511
       ∧ 9 ≤ 255) ∧
    (Serves fluW ∧ fluW.pwr.state = 0 ∧ fluW.fdb.learn = [] ∧ fluW.fdb.bad = [] ∧ fluW.fdb.waiting = []
       ∧ fluW.advanceBlocked = false ∧ keysRise 0 fluW.fdb.slots = true ∧ fluW.fdb.flushes = [flu, flu, flu, flu]
       ∧ flu.tag = some tg ∧ flu.notify = false ∧ cand ∈ flu.doomed) ∧
    (Serves flu1 ∧ flu1.pwr.state = 0 ∧ flu1.fdb.learn = [] ∧ flu1.fdb.bad = [] ∧ flu1.fdb.waiting = []
       ∧ flu1.advanceBlocked = false ∧ keysRise 0 flu1.fdb.slots = true ∧ flu1.fdb.flushes = [flu]
       ∧ flu.tag = some tg ∧ flu.notify = false ∧ 1048576 ∉ flu.doomed) :=
  ⟨by unfold Serves; decide +kernel,
   by unfold Serves; decide +kernel,
   by unfold Serves; decide +kernel,
   by unfold Serves; decide +kernel,
   by unfold Serves; decide +kernel,
   by unfold Serves; decide +kernel,
   ⟨by unfold Serves; decide +kernel, by decide +kernel, by decide +kernel, by decide +kernel, by decide +kernel, by decide +kernel, full_rise, by decide +kernel, by decide +kernel, by decide +kernel, full_find, full_free⟩,
   by unfold Serves; decide +kernel,
   by unfold Serves; decide +kernel,
   by unfold Serves; decide +kernel,
   by unfold Serves; decide +kernel,
   by unfold Serves; decide +kernel,
   by unfold Serves; decide +kernel⟩

def wait0 : EpochWait := ⟨none, [], false⟩
def lr : LearnReq := ⟨0x0200000000A1, 20, 4, 5⟩
def lrnNew : State := { servW with fdb := { learn := [lr], epoch := 5 } }
def lrnMove : State := { servW with fdb := { slots := [(cand, ent)], learn := [lr], epoch := 5 } }
def lrnStat : State := { servW with fdb := { slots := [(cand, entS)], learn := [lr], epoch := 5 } }
def entM : FdbEntry := { ent with dstModule := 511 }
def swp (h m : Bool) : FdbEntry := { ent with dstModule := servW.moduleId, hit := h, ageMark := m }
def swpS (h m : Bool) : State := { servW with fdb := { slots := [(cand, swp h m)], sweepPos := cand, sweepS := 300, waitSince := some 4000, waiting := [] } }
def stallS : State := { servW with clk := 55, fdb := { slots := [(cand, ent)], waitSince := some 4000, waiting := [wait0], hwChanged := true, retiring := [(4, 9)], notify := [3, 6] } }
def retW : State := { servW with fdb := { slots := [(cand, { ent with counter := 7 })], epoch := 3, retiring := [(4, 9), (5, 0)], notify := [3, 6] } }

/-- States and operands that meet the hypotheses of `Obligations.LearningAgeingAndEpochs`, clause by clause. -/
theorem witness_LearningAgeingAndEpochs :
    (lrnNew.pwr.state = 0 ∧ lrnNew.fdb.bad = [] ∧ lrnNew.fdb.flushes = [] ∧ lrnNew.flag Reg.FDB_CTL_NOTIFY = false
       ∧ keysRise 0 lrnNew.fdb.slots = true ∧ lrnNew.fdb.learn = [lr] ∧ lrnNew.fdb.barriers = []
       ∧ lrnNew.findAny lr.fid lr.mac = none ∧ lrnNew.atLimit lr.port = false
       ∧ lrnNew.freeSlot lr.fid lr.mac = some cand) ∧
    (lrnMove.pwr.state = 0 ∧ lrnMove.fdb.bad = [] ∧ lrnMove.fdb.flushes = []
       ∧ lrnMove.flag Reg.FDB_CTL_NOTIFY = false ∧ keysRise 0 lrnMove.fdb.slots = true ∧ lrnMove.fdb.learn = [lr]
       ∧ lrnMove.fdb.barriers = [] ∧ lrnMove.findAny lr.fid lr.mac = some (cand, ent) ∧ ent.static = false
       ∧ ent.dstPort ≠ lr.port ∧ lrnMove.atLimit lr.port = false) ∧
    (lrnStat.pwr.state = 0 ∧ lrnStat.fdb.bad = [] ∧ lrnStat.fdb.flushes = []
       ∧ lrnStat.flag Reg.FDB_CTL_NOTIFY = false ∧ keysRise 0 lrnStat.fdb.slots = true ∧ lrnStat.fdb.learn = [lr]
       ∧ lrnStat.fdb.barriers = [] ∧ lrnStat.findAny lr.fid lr.mac = some (cand, entS) ∧ entS.static = true) ∧
    ((swpS true false).pwr.state = 0 ∧ (swpS true false).fdb.bad = [] ∧ (swpS true false).fdb.flushes = []
       ∧ (swpS true false).flag Reg.FDB_CTL_NOTIFY = false ∧ keysRise 0 (swpS true false).fdb.slots = true ∧ 0 < cand
       ∧ cand < 1052671 ∧ (swpS true false).fdb.sweepPos = cand ∧ (swpS true false).slot cand = some (swp true false)
       ∧ (swp true false).static = false ∧ (swp true false).kind = 0
       ∧ (swp true false).dstModule = (swpS true false).moduleId ∧ (swpS true false).fdb.sweepS ≠ 0
       ∧ (swp true false).hit = true) ∧
    ((swpS false false).pwr.state = 0 ∧ (swpS false false).fdb.bad = [] ∧ (swpS false false).fdb.flushes = []
       ∧ (swpS false false).flag Reg.FDB_CTL_NOTIFY = false ∧ keysRise 0 (swpS false false).fdb.slots = true
       ∧ 0 < cand ∧ cand < 1052671 ∧ (swpS false false).fdb.sweepPos = cand
       ∧ (swpS false false).slot cand = some (swp false false) ∧ (swp false false).static = false
       ∧ (swp false false).kind = 0 ∧ (swp false false).dstModule = (swpS false false).moduleId
       ∧ (swpS false false).fdb.sweepS ≠ 0 ∧ (swp false false).hit = false ∧ (swp false false).ageMark = false) ∧
    ((swpS false true).pwr.state = 0 ∧ (swpS false true).fdb.bad = [] ∧ (swpS false true).fdb.flushes = []
       ∧ (swpS false true).flag Reg.FDB_CTL_NOTIFY = false ∧ keysRise 0 (swpS false true).fdb.slots = true ∧ 0 < cand
       ∧ cand < 1052671 ∧ (swpS false true).fdb.sweepPos = cand ∧ (swpS false true).slot cand = some (swp false true)
       ∧ (swp false true).static = false ∧ (swp false true).kind = 0
       ∧ (swp false true).dstModule = (swpS false true).moduleId ∧ (swpS false true).fdb.sweepS ≠ 0
       ∧ (swp false true).hit = false ∧ (swp false true).ageMark = true ∧ (swp false true).counter = 0) ∧
    (lrnNew.pwr.state = 0 ∧ lrnNew.fdb.bad = [] ∧ lrnNew.fdb.flushes = [] ∧ lrnNew.flag Reg.FDB_CTL_NOTIFY = false
       ∧ keysRise 0 lrnNew.fdb.slots = true ∧ lrnNew.fdb.waiting = [] ∧ lrnNew.advanceBlocked = false) ∧
    (retW.pwr.state = 0 ∧ retW.fdb.bad = [] ∧ retW.fdb.flushes = [] ∧ retW.flag Reg.FDB_CTL_NOTIFY = false
       ∧ keysRise 0 retW.fdb.slots = true ∧ retW.fdb.waiting = []) ∧
    (stallS.pwr.state = 0 ∧ stallS.fdb.bad = [] ∧ stallS.fdb.flushes = [] ∧ stallS.flag Reg.FDB_CTL_NOTIFY = false
       ∧ keysRise 0 stallS.fdb.slots = true ∧ stallS.fdb.waitSince = some 4000 ∧ stallS.fdb.waiting = [wait0]
       ∧ wait0.tag = none ∧ wait0.notify = false ∧ stallS.advanceBlocked = false) :=
  ⟨by decide +kernel,
   by decide +kernel,
   by decide +kernel,
   by decide +kernel,
   by decide +kernel,
   by decide +kernel,
   by decide +kernel,
   by decide +kernel,
   by decide +kernel⟩

def snB : Bytes := leBytes 4 0x2000010 ++ leBytes 4 2 ++ leBytes 4 0x2700000 ++ leBytes 4 1
def snX : Bytes := leBytes 4 0x2000010 ++ leBytes 4 2 ++ leBytes 4 0x1000000 ++ leBytes 4 1
def snapW : State := { servW with pwr := { state := 3 }, obs := { cnt := [(0x2000010, 5), (0x2000020, 2 ^ 72 - 1), (0x2700000, 8)] } }
def snapR : State := { ringW with obs := { cnt := [(0x2000010, 5), (0x2000020, 2 ^ 72 - 1), (0x2700000, 8)] } }
def snapF : State := { snapW with obs := { snaps := [9, 9, 9, 9] } }
def logW : State := { ringW with obs := { staged := [⟨5, zeros 32⟩, ⟨6, zeros 32⟩], pages := [[⟨4, zeros 32⟩]], tickAt := 77 } }
def prs (n : Nat) (b : Bytes) : List (Nat × Nat) := (List.range n).map (fun i => (leAt b (8 * i) 4, leAt b (8 * i + 4) 4))

/-- States and operands that meet the hypotheses of `Obligations.SnapshotsAndLog`, clause by clause. -/
theorem witness_SnapshotsAndLog :
    (prs 2 snB = List.map (fun i => (leAt snB (8 * i) 4, leAt snB (8 * i + 4) 4)) (List.range 2) ∧ Serves snapW
       ∧ snapW.pwr.state ≤ 3 ∧ 1 ≤ 2 ∧ 2 ≤ 8 ∧ (∀ r ∈ prs 2 snB, r.1 % 16 = 0)
       ∧ (List.map Prod.snd (prs 2 snB)).sum ≤ 262144 ∧ (∀ r ∈ prs 2 snB, rangeInRegion r = true)
       ∧ snapW.snapsOpen.length < 4) ∧
    (prs 2 snX = List.map (fun i => (leAt snX (8 * i) 4, leAt snX (8 * i + 4) 4)) (List.range 2) ∧ Serves snapW
       ∧ snapW.pwr.state ≤ 3 ∧ 1 ≤ 2 ∧ 2 ≤ 8 ∧ (∀ r ∈ prs 2 snX, r.1 % 16 = 0)
       ∧ (List.map Prod.snd (prs 2 snX)).sum ≤ 262144 ∧ (∃ r ∈ prs 2 snX, rangeInRegion r = false)) ∧
    (prs 2 snB = List.map (fun i => (leAt snB (8 * i) 4, leAt snB (8 * i + 4) 4)) (List.range 2) ∧ Serves snapF
       ∧ snapF.pwr.state ≤ 3 ∧ 1 ≤ 2 ∧ 2 ≤ 8 ∧ (∀ r ∈ prs 2 snB, r.1 % 16 = 0)
       ∧ (List.map Prod.snd (prs 2 snB)).sum ≤ 262144 ∧ (∀ r ∈ prs 2 snB, rangeInRegion r = true)
       ∧ 4 ≤ snapF.snapsOpen.length) ∧
    (prs 0 snB = List.map (fun i => (leAt snB (8 * i) 4, leAt snB (8 * i + 4) 4)) (List.range 0) ∧ Serves snapF
       ∧ snapF.pwr.state ≤ 3 ∧ (0 = 0 ∨ 8 < 0)) ∧
    (prs 2 snB = List.map (fun i => (leAt snB (8 * i) 4, leAt snB (8 * i + 4) 4)) (List.range 2)
       ∧ snapW.cx.rings.length = 16 ∧ 1 ≤ 2 ∧ 2 ≤ 4096) ∧
    (prs 0 snB = List.map (fun i => (leAt snB (8 * i) 4, leAt snB (8 * i + 4) 4)) (List.range 0)
       ∧ snapF.cx.rings.length = 16 ∧ (0 = 0 ∨ 4096 < 0)) ∧
    (prs 2 snB = List.map (fun i => (leAt snB (8 * i) 4, leAt snB (8 * i + 4) 4)) (List.range 2)
       ∧ snapW.obs.staged = []) ∧
    (prs 2 snB = List.map (fun i => (leAt snB (8 * i) 4, leAt snB (8 * i + 4) 4)) (List.range 2)
       ∧ logW.obs.staged ≠ [] ∧ logW.nvm.jobs.any isLogJob = false) :=
  ⟨by unfold Serves; decide +kernel,
   by unfold Serves; decide +kernel,
   by unfold Serves; decide +kernel,
   by unfold Serves; decide +kernel,
   by decide +kernel,
   by decide +kernel,
   by decide +kernel,
   by decide +kernel⟩

end Tables

/-! ### Witnesses: module time and Ikile -/

namespace Ikile

def sysImg : Bytes := imgOf [(1, [7, 0, 0xF8, 1]), (2, [3, 0] ++ zeros 12 ++ leBytes 2 1000 ++ zeros 16)]
def soloImg : Bytes := imgOf [(1, [7, 0, 0xF8, 1]), (2, [1, 0] ++ zeros 12 ++ leBytes 2 1000 ++ zeros 16)]
def up2 : List IklPort := [{ state := 2, rxSeq := some 4, txSeq := 0xFFFFFFFF, lowerSince := some 88 }, { state := 2, peerValid := true, peerHop := 1, peerId := 3 }, { state := 1 }, {}, {}, {}, {}, {}]
def bare : State := { servW with canvas := { active := some sysImg }, ikl := { ports := up2, leader := some 7 }, clk := 3000 }
def peer (id : Nat) : Bytes := leBytes 2 id ++ zeros 94
def sysW : State := { bare with ikl := { bare.ikl with table := [(3, ⟨peer 3, 0, 5⟩), (5, ⟨peer 5, 1, 5⟩)] } }
def folW : State := { sysW with ikl := { sysW.ikl with leader := some 3, parent := some 0 } }
def src1 : State := { servW with regs := servW.setFld Reg.TIM_CTL_SRC 1 |>.regs, time := { now := 5000 * nsUnit } }
def jmpW : State := { servW with time := { now := 5000 * nsUnit, jump := some (-4000), jumpSeq := 9 } }
def jmpF : State := { folW with time := { now := 5000 * nsUnit, jump := some 4000, jumpSeq := 9 } }
def wtW : State := { servW with time := { now := 5000 * nsUnit, wait := some ⟨9000, -4, some 777, 2, some tg⟩ } }
def wtW2 : State := { servW with time := { now := 5000 * nsUnit, wait := some ⟨9000, -4, none, 2, some tg⟩ } }
def svo (o : List Int) (m st : Nat) : State := { servW with regs := servW.setFld Reg.TIM_CTL_SRC 1 |>.regs, time := { now := 5000 * nsUnit, slow := false, srcUsed := 1, unset := false, offsets := o, misses := m, state := st, integ := 9 } }
def sw0 : StepWait := ⟨9000, -4, some 777, 2, some tg⟩
def sw1 : StepWait := ⟨9000, -4, none, 2, some tg⟩

/-- States and operands that meet the hypotheses of `Obligations.ModuleTimeCommands`, clause by clause. -/
theorem witness_ModuleTimeCommands :
    (Serves src1 ∧ src1.follows = false ∧ src1.time.lastStep = none ∧ src1.fld Reg.TIM_CTL_SRC = 1) ∧
    (Serves servW ∧ servW.follows = false ∧ servW.time.lastStep = none ∧ servW.fld Reg.TIM_CTL_SRC ≠ 1) ∧
    (Serves src1 ∧ src1.time.jump = none) ∧
    (Serves jmpW ∧ jmpW.time.jump = some (-4000) ∧ jmpW.time.wait = none ∧ 10 ≠ jmpW.time.jumpSeq) ∧
    (Serves jmpW ∧ jmpW.time.jump = some (-4000) ∧ jmpW.time.wait = none ∧ 1 ≠ 0 ∧ jmpW.stepLate 1 = true) ∧
    (Serves jmpF ∧ jmpF.time.jump = some 4000 ∧ jmpF.time.wait = none ∧ 1048576 ≠ 0 ∧ jmpF.stepLate 1048576 = false
       ∧ jmpF.follows = true) ∧
    (Serves jmpW ∧ jmpW.time.jump = some (-4000) ∧ jmpW.time.wait = none ∧ jmpW.hasFollowers = false
       ∧ 0 ≤ ↑jmpW.time.now + psToUnits (-4000)) ∧
    (Serves src1 ∧ src1.follows = false ∧ 3 < 2 ^ 48 ∧ 65535 < 65536 ∧ src1.time.wait = none ∧ 999999999 < 1000000000
       ∧ src1.hasFollowers = false) ∧
    (Serves src1 ∧ src1.follows = false ∧ 3 < 2 ^ 48 ∧ 65535 < 65536 ∧ src1.time.wait = none ∧ 999999999 < 1000000000
       ∧ 1000000 ≠ 0 ∧ src1.stepLate 1000000 = false) ∧
    (Serves servW ∧ servW.follows = false ∧ 3 < 2 ^ 48 ∧ 65535 < 65536 ∧ servW.time.wait = none
       ∧ 1000000000 ≤ 1000000000) ∧
    (wtW.time.wait = some sw0 ∧ wtW.cx.rings.length = 16 ∧ sw0.setTo = some 777 ∧ sw0.tag = some tg) ∧
    (wtW2.time.wait = some sw1 ∧ wtW2.cx.rings.length = 16 ∧ sw1.setTo = none ∧ 0 ≤ ↑wtW2.time.now + psToUnits sw1.ps) ∧
    ((svo [] 0 2).time.slow = false ∧ (svo [] 0 2).follows = false ∧ (svo [] 0 2).time.srcUsed = 1
       ∧ (svo [] 0 2).fld Reg.TIM_CTL_SRC = 1 ∧ (svo [] 0 2).time.unset = false ∧ (svo [] 0 2).time.offsets = []
       ∧ (svo [] 0 2).time.misses + 1 < (svo [] 0 2).fld Reg.TIM_LOCK_HOLD_N) ∧
    ((svo [] 9999 2).time.slow = false ∧ (svo [] 9999 2).follows = false ∧ (svo [] 9999 2).time.srcUsed = 1
       ∧ (svo [] 9999 2).fld Reg.TIM_CTL_SRC = 1 ∧ (svo [] 9999 2).time.unset = false
       ∧ (svo [] 9999 2).time.offsets = []
       ∧ (svo [] 9999 2).fld Reg.TIM_LOCK_HOLD_N ≤ (svo [] 9999 2).time.misses + 1 ∧ (svo [] 9999 2).time.state = 2) ∧
    ((svo [50000000000] 0 2).time.slow = false ∧ (svo [50000000000] 0 2).follows = false
       ∧ (svo [50000000000] 0 2).time.srcUsed = 1 ∧ (svo [50000000000] 0 2).fld Reg.TIM_CTL_SRC = 1
       ∧ (svo [50000000000] 0 2).time.unset = false ∧ (svo [50000000000] 0 2).time.offsets = [50000000000]
       ∧ 1000 * (svo [50000000000] 0 2).fld Reg.TIM_JUMP_THR_THR < Int.natAbs 50000000000) ∧
    ((svo [-5] 0 2).time.slow = false ∧ (svo [-5] 0 2).follows = false ∧ (svo [-5] 0 2).time.srcUsed = 1
       ∧ (svo [-5] 0 2).fld Reg.TIM_CTL_SRC = 1 ∧ (svo [-5] 0 2).time.unset = false
       ∧ (svo [-5] 0 2).time.offsets = [-5] ∧ (-5).natAbs ≤ 1000 * (svo [-5] 0 2).fld Reg.TIM_JUMP_THR_THR) :=
  ⟨by unfold Serves; decide +kernel,
   by unfold Serves; decide +kernel,
   by unfold Serves; decide +kernel,
   by unfold Serves; decide +kernel,
   by unfold Serves; decide +kernel,
   by unfold Serves; decide +kernel,
   by unfold Serves; decide +kernel,
   by unfold Serves; decide +kernel,
   by unfold Serves; decide +kernel,
   by unfold Serves; decide +kernel,
   by decide +kernel,
   by decide +kernel,
   by decide +kernel,
   by decide +kernel,
   by decide +kernel,
   by decide +kernel⟩

def e3 : ViewEntry := ⟨peer 3, 0, 5⟩
def exB (id : Nat) : Bytes := zeros 0x18 ++ leBytes 2 id ++ [2, 3] ++ zeros 20
def exR (id : Nat) : Bytes := iklRecord 1 5 (exB id)
def tuB (d : Nat) : Bytes := zeros 2 ++ leBytes 2 d ++ zeros 16
def tuR (d : Nat) : Bytes := iklRecord 4 5 (tuB d)
def fullT : State := { sysW with ikl := { sysW.ikl with ports := up2.set 0 { state := 2, tunnels := List.replicate 64 9000 } } }
def tunE : State := { sysW with regs := sysW.setFld Reg.IKL_CTL_TUN_EN 0 |>.regs }
def tunN : State := { sysW with regs := sysW.setFld Reg.IKL_CTL_TUN_EN 1 |>.regs }
def tunU : State := (tunN.takeRecord 1 (tuR 7)).2
def slowN : State := { sysW with time := { slow := false } }
def ringT : State := { ringW with ikl := sysW.ikl, clk := 9 }
def pay : Bytes := List.replicate 1024 0xA5

/-- States and operands that meet the hypotheses of `Obligations.IkilePortsAndTunnels`, clause by clause. -/
theorem witness_IkilePortsAndTunnels :
    (sysW.ikl.ports.length = 8 ∧ (sysW.iklPort 0).state = 2) ∧
    (sysW.ikl.ports.length = 8 ∧ (sysW.iklPort 3).state ≠ 2) ∧
    (Heard sysW 0 (exR 3) 1 ∧ exB 3 = slice (exR 3) 8 (leAt (exR 3) 2 2) ∧ leAt (exB 3) 24 2 % 512 ≠ sysW.moduleId) ∧
    (Heard sysW 0 (exR 7) 1 ∧ exB 7 = slice (exR 7) 8 (leAt (exR 7) 2 2) ∧ leAt (exB 7) 24 2 % 512 = sysW.moduleId
       ∧ sysW.canvas.active.isSome = true) ∧
    (sysW.ikl.ports.length = 8 ∧ (sysW.iklPort 0).state = 2 ∧ (sysW.iklPort 0).dup = false) ∧
    ((sysW.iklPort 2).state ≠ 2) ∧
    ((slowN.iklPort 0).lowerSince = some 88 ∧ slowN.time.slow = false) ∧
    (Serves sysW ∧ sysW.ikl.ports.length = 8 ∧ 65535 < 65536 ∧ 1 ≤ 1024 ∧ 1024 ≤ 1024 ∧ 3 < 512
       ∧ tget? sysW.ikl.table 3 = some e3 ∧ e3.port < 8 ∧ (sysW.iklPort e3.port).state = 2
       ∧ (sysW.tunnelsAt e3.port).length < 64) ∧
    (Serves sysW ∧ sysW.ikl.ports.length = 8 ∧ 65535 < 65536 ∧ (1025 = 0 ∨ 1024 < 1025)) ∧
    (Serves fullT ∧ fullT.ikl.ports.length = 8 ∧ 65535 < 65536 ∧ 1 ≤ 1 ∧ 1 ≤ 1024 ∧ 3 < 512
       ∧ tget? fullT.ikl.table 3 = some e3 ∧ 64 ≤ (fullT.tunnelsAt e3.port).length) ∧
    (Heard sysW 1 (tuR 3) 4 ∧ tuB 3 = slice (tuR 3) 8 (leAt (tuR 3) 2 2) ∧ 3 = leAt (tuB 3) 2 2 % 1024 ∧ 3 ≠ 1023
       ∧ 3 % 512 ≠ sysW.moduleId ∧ tget? sysW.ikl.table (3 % 512) = some e3 ∧ e3.port < 8 ∧ e3.port ≠ 1
       ∧ (sysW.iklPort e3.port).state = 2 ∧ (sysW.tunnelsAt e3.port).length < 64) ∧
    (Heard tunE 1 (tuR 7) 4 ∧ tuB 7 = slice (tuR 7) 8 (leAt (tuR 7) 2 2) ∧ 7 = leAt (tuB 7) 2 2 % 1024 ∧ 7 ≠ 1023
       ∧ 7 % 512 = tunE.moduleId ∧ tunE.flag Reg.IKL_CTL_TUN_EN = false) ∧
    (Heard sysW 1 (tuR 7) 4 ∧ tuB 7 = slice (tuR 7) 8 (leAt (tuR 7) 2 2) ∧ 7 = leAt (tuB 7) 2 2 % 1024 ∧ 7 ≠ 1023
       ∧ 7 % 512 = sysW.moduleId ∧ sysW.flag Reg.IKL_CTL_TUN_EN = true) :=
  ⟨by decide +kernel,
   by decide +kernel,
   ⟨heard_of _ _ _ _ (by decide +kernel), by decide +kernel⟩,
   ⟨heard_of _ _ _ _ (by decide +kernel), by decide +kernel⟩,
   by decide +kernel,
   by decide +kernel,
   by decide +kernel,
   by unfold Serves; decide +kernel,
   by unfold Serves; decide +kernel,
   by unfold Serves; decide +kernel,
   ⟨heard_of _ _ _ _ (by decide +kernel), by decide +kernel⟩,
   ⟨heard_of _ _ _ _ (by decide +kernel), by decide +kernel⟩,
   ⟨heard_of _ _ _ _ (by decide +kernel), by decide +kernel⟩⟩

def lateB (id sq : Nat) : Bytes := leBytes 2 id ++ zeros 2 ++ leBytes 4 sq ++ zeros 88
def coR (id sq crc : Nat) : Bytes := [2, 0, 96, 0, 5, 0, 0, 0] ++ lateB id sq ++ leBytes 4 crc
def soloW : State := { bare with canvas := { active := some soloImg } }
def staleW : State := { folW with ikl := { folW.ikl with stale := true, epoch := 4, table := [(3, ⟨leBytes 2 3 ++ zeros 30 ++ leBytes 4 9 ++ zeros 60, 0, 5⟩), (5, ⟨leBytes 2 5 ++ zeros 30 ++ leBytes 4 9 ++ zeros 60, 1, 5⟩)] } }
def stale1 : State := { soloW with ikl := { soloW.ikl with stale := true } }
def cmsg (k : Nat) : ConjMsg := { kind := k, origin := 3, id := 12, target := 7, epoch := 9, leader := 3, digest := zeros 16, orbit := 0 }
def cmsg2 (k : Nat) : ConjMsg := { cmsg k with orbit := 4 }
def cR (m : ConjMsg) : Bytes := iklRecord 3 5 m.bytes
def q4 : ConjMsg := { kind := 5, origin := 7, id := 7 * 65536 + 1, epoch := 4, leader := 3, target := 3 }
def q5 : ConjMsg := { kind := 6, origin := 7, id := 12, digest := zeros 16, epoch := 0, leader := 7, target := 3 }

/-- States and operands that meet the hypotheses of `Obligations.CometsAndResynchronisation`, clause by clause. -/
theorem witness_CometsAndResynchronisation :
    (soloW.pwr.state ≤ 1 ∧ soloW.canvas.active.isSome = true ∧ soloW.systemSize ≤ 1 ∧ soloW.ikl.ports.length = 8
       ∧ (soloW.iklPort 0).state = 2) ∧
    (servW.canvas.active = none) ∧
    (Heard sysW 0 (coR 9 4 323789586) 2 ∧ lateB 9 4 = slice (coR 9 4 323789586) 8 (leAt (coR 9 4 323789586) 2 2)
       ∧ 1 < sysW.systemSize ∧ 9 = leAt (lateB 9 4) 0 2 % 512 ∧ 9 ≠ sysW.moduleId ∧ tget? sysW.ikl.table 9 = none
       ∧ 3 ≠ 9) ∧
    (Heard sysW 0 (coR 3 0 1788467099) 2 ∧ lateB 3 0 = slice (coR 3 0 1788467099) 8 (leAt (coR 3 0 1788467099) 2 2)
       ∧ 1 < sysW.systemSize ∧ 3 = leAt (lateB 3 0) 0 2 % 512 ∧ tget? sysW.ikl.table 3 = some e3
       ∧ newer 32 (leAt (lateB 3 0) 4 4) (leAt e3.body 4 4) = false) ∧
    (keysRise 0 sysW.ikl.table = true ∧ tget? sysW.ikl.table 3 = some e3 ∧ 5 ≠ 3) ∧
    (soloW.ikl.stale = false) ∧
    (staleW.ikl.stale = true ∧ staleW.syncSource = some 3) ∧
    (HeardConj sysW 0 (cR (cmsg 5)) (cmsg 5).bytes (cmsg 5) ∧ (cmsg 5).kind = 5 ∧ (cmsg 5).target = sysW.moduleId) ∧
    (HeardConj stale1 0 (cR (cmsg2 6)) (cmsg2 6).bytes (cmsg2 6) ∧ (cmsg2 6).kind = 6
       ∧ (cmsg2 6).target = stale1.moduleId ∧ stale1.ikl.stale = true ∧ stale1.systemSize ≤ 1) ∧
    (HeardConj staleW 0 (cR (cmsg 6)) (cmsg 6).bytes (cmsg 6) ∧ (cmsg 6).kind = 6 ∧ (cmsg 6).target = staleW.moduleId
       ∧ staleW.ikl.stale = true ∧ staleW.orbitPicture = ((cmsg 6).orbit, (cmsg 6).digest, (cmsg 6).t)) ∧
    (HeardConj staleW 0 (cR (cmsg2 6)) (cmsg2 6).bytes (cmsg2 6) ∧ (cmsg2 6).kind = 6
       ∧ (cmsg2 6).target = staleW.moduleId ∧ staleW.ikl.stale = true
       ∧ staleW.orbitPicture ≠ ((cmsg2 6).orbit, (cmsg2 6).digest, (cmsg2 6).t)) :=
  ⟨by decide +kernel,
   by decide +kernel,
   ⟨⟨by decide +kernel, by decide +kernel, by decide +kernel, recordOk_of _ 96 1247906923#32 (by decide +kernel) (by decide +kernel) (by decide +kernel), by decide +kernel, all_elim _ _ (by decide +kernel)⟩, by decide +kernel⟩,
   ⟨⟨by decide +kernel, by decide +kernel, by decide +kernel, recordOk_of _ 96 4283085121#32 (by decide +kernel) (by decide +kernel) (by decide +kernel), by decide +kernel, all_elim _ _ (by decide +kernel)⟩, by decide +kernel⟩,
   by decide +kernel,
   by decide +kernel,
   by decide +kernel,
   ⟨heardConj_of _ _ _ _ _ (by decide +kernel) (by decide +kernel), by decide +kernel⟩,
   ⟨heardConj_of _ _ _ _ _ (by decide +kernel) (by decide +kernel), by decide +kernel⟩,
   ⟨heardConj_of _ _ _ _ _ (by decide +kernel) (by decide +kernel), by decide +kernel⟩,
   ⟨heardConj_of _ _ _ _ _ (by decide +kernel) (by decide +kernel), by decide +kernel⟩⟩

end Ikile

/-! ### Witnesses: conjunctions -/

namespace Conj

def sysImg : Bytes := imgOf [(1, [7, 0, 0xF8, 1]), (2, [3, 0] ++ zeros 12 ++ leBytes 2 1000 ++ zeros 16)]
def up2 : List IklPort := [{ state := 2, rxSeq := some 4, txSeq := 0xFFFFFFFF }, { state := 2, peerValid := true, peerHop := 1, peerId := 3 }, { state := 1 }, {}, {}, {}, {}, {}]
def bare : State := { servW with canvas := { active := some sysImg }, ikl := { ports := up2, leader := some 7 }, clk := 3000, time := { now := 7000 * nsUnit } }
def peer (id : Nat) : Bytes := leBytes 2 id ++ slice bare.cometBody 2 42 ++ leBytes 2 0x40 ++ slice bare.cometBody 46 50
def bankR : Bytes := zeros 8 ++ leBytes 4 77 ++ zeros 148
def bank : OrbitBank := ⟨bankR, none, .edgeSlotted, 0, none⟩
def sysW : State := { bare with orb := { pendBank := some bank }, ikl := { bare.ikl with table := [(3, ⟨peer 3, 0, 5⟩), (5, ⟨peer 5, 1, 5⟩)] } }
def nobank : State := { sysW with orb := {} }
def mute : State := { sysW with ikl := { sysW.ikl with excluded := true } }
def folW : State := { sysW with ikl := { sysW.ikl with leader := some 3, parent := some 0, saidEligible := true } }
def pr (vs ps : List Nat) : Proposal := ⟨tg, 12, 77, 9000000 * nsUnit, 9, vs, [], ps, 1⟩
def propW (vs ps : List Nat) : State := { sysW with ikl := { sysW.ikl with prop := some (pr vs ps) } }
def heldS (i l : Nat) (c : Bool) : Held := ⟨i, 77, 9000000 * nsUnit, 9, l, c⟩
def propH (vs ps : List Nat) : State := { sysW with ikl := { sysW.ikl with prop := some (pr vs ps), held := some (heldS 12 7 false) }, orb := { pendBank := some bank, armed := some (9000000 * nsUnit), conjHeld := true } }
def heldW (l : Nat) (c : Bool) : State := { folW with ikl := { folW.ikl with held := some (heldS 12 l c) }, orb := { pendBank := some bank, armed := some (9000000 * nsUnit), conjHeld := true } }
def tW : Nat := 9000000
def msg (k re org led : Nat) : ConjMsg := { kind := k, reason := re, origin := org, id := 12, orbit := 77, digest := zeros 16, epoch := 9, t := tW, leader := led, voters := 3, target := 7 }
def cR (m : ConjMsg) : Bytes := iklRecord 3 5 m.bytes
def msgLate : ConjMsg := { msg 1 0 3 3 with t := 7 }
def repW : State := { sysW with ikl := { sysW.ikl with repeats := [(8000, 1, (msg 1 0 3 3).bytes)] } }
def hd0 : Held := heldS 12 7 false
def pp : Proposal := pr [3] []

/-- States and operands that meet the hypotheses of `Obligations.Conjunctions`, clause by clause. -/
theorem witness_Conjunctions :
    (Serves nobank ∧ 1 < nobank.systemSize ∧ nobank.isLeader = true ∧ nobank.ikl.stale = false
       ∧ nobank.quorum ≤ nobank.eligibleCount ∧ nobank.ikl.prop = none ∧ nobank.ikl.seenT ≤ nobank.time.now
       ∧ nobank.orb.pendBank = none) ∧
    (Serves mute ∧ 1 < mute.systemSize ∧ mute.isLeader = true ∧ mute.ikl.stale = false
       ∧ mute.quorum ≤ mute.eligibleCount ∧ mute.ikl.prop = none ∧ mute.ikl.seenT ≤ mute.time.now
       ∧ mute.orb.pendBank = some bank ∧ bank.id = 77 ∧ mute.orb.active = none ∧ mute.answers = false) ∧
    (Serves (propW [3] []) ∧ 1 < (propW [3] []).systemSize ∧ (propW [3] []).isLeader = true
       ∧ (propW [3] []).ikl.stale = false ∧ (propW [3] []).quorum ≤ (propW [3] []).eligibleCount
       ∧ (propW [3] []).ikl.prop = some (pr [3] [])) ∧
    (Serves folW ∧ folW.isLeader = false) ∧
    (HeardConj sysW 0 (cR (msg 1 0 3 3)) (msg 1 0 3 3).bytes (msg 1 0 3 3) ∧ (msg 1 0 3 3).kind = 1
       ∧ sysW.ikl.prop = none ∧ sysW.ikl.held = none ∧ sysW.answers = true ∧ sysW.answerCode (msg 1 0 3 3) = 0) ∧
    (HeardConj nobank 0 (cR (msg 1 0 3 3)) (msg 1 0 3 3).bytes (msg 1 0 3 3) ∧ (msg 1 0 3 3).kind = 1
       ∧ nobank.ikl.prop = none ∧ nobank.ikl.held = none ∧ nobank.answers = true
       ∧ nobank.answerCode (msg 1 0 3 3) ≠ 0) ∧
    (HeardConj (propW [3] []) 0 (cR (msg 2 1 3 7)) (msg 2 1 3 7).bytes (msg 2 1 3 7) ∧ (msg 2 1 3 7).kind = 2
       ∧ (propW [3] []).ikl.prop = some (pr [3] []) ∧ (msg 2 1 3 7).id = (pr [3] []).id
       ∧ (msg 2 1 3 7).leader = (propW [3] []).moduleId ∧ (propW [3] []).cx.rings.length = 16
       ∧ (msg 2 1 3 7).reason ≠ 0 ∧ (pr [3] []).voters.contains (msg 2 1 3 7).origin = true) ∧
    (HeardConj (propW [3] []) 0 (cR (msg 2 0 3 7)) (msg 2 0 3 7).bytes (msg 2 0 3 7) ∧ (msg 2 0 3 7).kind = 2
       ∧ (propW [3] []).ikl.prop = some (pr [3] []) ∧ (msg 2 0 3 7).id = (pr [3] []).id
       ∧ (msg 2 0 3 7).leader = (propW [3] []).moduleId ∧ (propW [3] []).cx.rings.length = 16
       ∧ (msg 2 0 3 7).reason = 0
       ∧ pr [3] [3] = { pr [3] [] with prepared := List.filter (fun x => x != (msg 2 0 3 7).origin) (pr [3] []).prepared ++ [(msg 2 0 3 7).origin] }
       ∧ (propW [3] []).canCommit (pr [3] [3]) = false) ∧
    (HeardConj (propW [3] [5]) 0 (cR (msg 2 0 3 7)) (msg 2 0 3 7).bytes (msg 2 0 3 7) ∧ (msg 2 0 3 7).kind = 2
       ∧ (propW [3] [5]).ikl.prop = some (pr [3] [5]) ∧ (msg 2 0 3 7).id = (pr [3] [5]).id
       ∧ (msg 2 0 3 7).leader = (propW [3] [5]).moduleId ∧ (propW [3] [5]).cx.rings.length = 16
       ∧ (msg 2 0 3 7).reason = 0
       ∧ pr [3] [5, 3] = { pr [3] [5] with prepared := List.filter (fun x => x != (msg 2 0 3 7).origin) (pr [3] [5]).prepared ++ [(msg 2 0 3 7).origin] }
       ∧ (propW [3] [5]).canCommit (pr [3] [5, 3]) = true ∧ (propW [3] [5]).ikl.held = none) ∧
    (HeardConj (propH [3] [5]) 0 (cR (msg 2 0 3 7)) (msg 2 0 3 7).bytes (msg 2 0 3 7) ∧ (msg 2 0 3 7).kind = 2
       ∧ (propH [3] [5]).ikl.prop = some (pr [3] [5]) ∧ (msg 2 0 3 7).id = (pr [3] [5]).id
       ∧ (msg 2 0 3 7).leader = (propH [3] [5]).moduleId ∧ (propH [3] [5]).cx.rings.length = 16
       ∧ (msg 2 0 3 7).reason = 0
       ∧ pr [3] [5, 3] = { pr [3] [5] with prepared := List.filter (fun x => x != (msg 2 0 3 7).origin) (pr [3] [5]).prepared ++ [(msg 2 0 3 7).origin] }
       ∧ (propH [3] [5]).canCommit (pr [3] [5, 3]) = true ∧ (propH [3] [5]).ikl.held = some hd0
       ∧ hd0.id = (pr [3] [5]).id ∧ hd0.leader = (propH [3] [5]).moduleId ∧ hd0.committed = false) ∧
    (HeardConj (heldW 3 false) 0 (cR (msg 3 0 3 3)) (msg 3 0 3 3).bytes (msg 3 0 3 3) ∧ (msg 3 0 3 3).kind = 3
       ∧ (heldW 3 false).ikl.prop = none ∧ (heldW 3 false).ikl.held = some (heldS 12 3 false)
       ∧ (heldS 12 3 false).id = (msg 3 0 3 3).id ∧ (heldS 12 3 false).leader = (msg 3 0 3 3).leader
       ∧ (heldS 12 3 false).committed = false) ∧
    (HeardConj folW 0 (cR (msg 3 0 3 3)) (msg 3 0 3 3).bytes (msg 3 0 3 3) ∧ (msg 3 0 3 3).kind = 3
       ∧ folW.ikl.prop = none ∧ folW.ikl.held = none) ∧
    (HeardConj (heldW 3 false) 0 (cR (msg 4 5 3 3)) (msg 4 5 3 3).bytes (msg 4 5 3 3) ∧ (msg 4 5 3 3).kind = 4
       ∧ (heldW 3 false).ikl.refuser = none ∧ (heldW 3 false).ikl.held = some (heldS 12 3 false)
       ∧ (heldS 12 3 false).id = (msg 4 5 3 3).id ∧ (heldS 12 3 false).leader = (msg 4 5 3 3).leader
       ∧ (heldS 12 3 false).committed = false) ∧
    (HeardConj (heldW 3 true) 0 (cR (msg 4 5 3 3)) (msg 4 5 3 3).bytes (msg 4 5 3 3) ∧ (msg 4 5 3 3).kind = 4
       ∧ (heldW 3 true).ikl.refuser = none ∧ (heldW 3 true).ikl.held = some (heldS 12 3 true)
       ∧ (heldS 12 3 true).id = (msg 4 5 3 3).id ∧ (heldS 12 3 true).leader = (msg 4 5 3 3).leader
       ∧ (heldS 12 3 true).committed = true) ∧
    (repW.ikl.repeats = [(8000, 1, (msg 1 0 3 3).bytes)] ∧ repW.ikl.ports.length = 8) ∧
    ((propW [3] []).ikl.prop = some (pr [3] []) ∧ (propW [3] []).cx.rings.length = 16
       ∧ List.find? (fun k => !(pr [3] []).prepared.contains k) (pr [3] []).voters = some 3) ∧
    ((propW [3] [3]).ikl.prop = some (pr [3] [3]) ∧ (propW [3] [3]).cx.rings.length = 16
       ∧ (∀ v ∈ (pr [3] [3]).voters, (pr [3] [3]).prepared.contains v = true)) :=
  ⟨by unfold Serves; decide +kernel,
   by unfold Serves; decide +kernel,
   by unfold Serves; decide +kernel,
   by unfold Serves; decide +kernel,
   ⟨heardConj_of _ _ _ _ _ (by decide +kernel) (by decide +kernel), by decide +kernel⟩,
   ⟨heardConj_of _ _ _ _ _ (by decide +kernel) (by decide +kernel), by decide +kernel⟩,
   ⟨heardConj_of _ _ _ _ _ (by decide +kernel) (by decide +kernel), by decide +kernel⟩,
   ⟨heardConj_of _ _ _ _ _ (by decide +kernel) (by decide +kernel), by decide +kernel⟩,
   ⟨heardConj_of _ _ _ _ _ (by decide +kernel) (by decide +kernel), by decide +kernel⟩,
   ⟨heardConj_of _ _ _ _ _ (by decide +kernel) (by decide +kernel), by decide +kernel⟩,
   ⟨heardConj_of _ _ _ _ _ (by decide +kernel) (by decide +kernel), by decide +kernel⟩,
   ⟨heardConj_of _ _ _ _ _ (by decide +kernel) (by decide +kernel), by decide +kernel⟩,
   ⟨heardConj_of _ _ _ _ _ (by decide +kernel) (by decide +kernel), by decide +kernel⟩,
   ⟨heardConj_of _ _ _ _ _ (by decide +kernel) (by decide +kernel), by decide +kernel⟩,
   by decide +kernel,
   by decide +kernel,
   by decide +kernel⟩

end Conj

/-! ### Witnesses: the exchange, the bus, the control units, heat and flash -/

namespace Exchange

def planImg : Bytes := imgOf [(1, [7, 0, 0xF8, 1]), (3, [9, 8, 1, 0, 1, 0, 0x40, 0, 10, 12, 0, 0, 1, 0, 0, 2]), (4, [8, 0x80, 0, 0])]
def nopRaw (sq : Nat) : Bytes := leBytes 4 sq ++ zeros 12 ++ leBytes 8 0x77 ++ zeros 40
def ent (sq : Nat) : CmdEntry := ⟨some (nopRaw sq), [], true⟩
def tagE : CmdTag := ⟨3, 1, 0, 0x77, true⟩
def onRegs : Tbl Word := [((Reg.CX_RING_CTL_EN 3).addr, 1), ((Reg.CX_RING_CQ_BASE_LO_BASE 3).addr, 0x40000000)]
def onW : State := { ringW with regs := tput onRegs Reg.CX_CTL_EN.addr 1 }
def rg (x : Ring) : List Ring := lset (List.replicate 16 {}) 3 x
def cpl : Completion := ⟨1, List.replicate 32 7⟩
def heldW : State := { ringW with cx := { ringW.cx with rings := rg { held := [cpl] } } }
def errW : State := { servW with cx := { servW.cx with rings := rg { error := true } } }
def inp : InProgress := ⟨tagE, 4, 5, 600⟩
def inpT : InProgress := { inp with tag := tg }
def vec0 : Vector64 := {}
def runW : State := { ringW with cx := { ringW.cx with rings := rg { running := [inpT] } } }
def coalW : State := { ringW with cx := { ringW.cx with msix := List.replicate 64 {}, coal := [(5, { count := 2, first := 900 })] } }
def downW : State := { servW with cx := { servW.cx with linkUp := false } }
def txRaw (sq p f own : Nat) : Bytes := leBytes 4 sq ++ leBytes 2 64 ++ leBytes 1 p ++ leBytes 1 f ++ zeros 20 ++ leBytes 4 own
def dsc (sq p f own : Nat) : Descriptor := ⟨some (txRaw sq p f own), 0x9000⟩
def frm60 : Bytes := List.replicate 60 3
def txS (d : Descriptor) : State := { servW with
    mode := { mode := .edgePacket }, canvas := { active := some planImg }, ports := [(9, { fn := { state := 1, ready := true }, linkUp := true })], regs := [((Reg.CX_FQ_CTL_TX_EN 2).addr, 0xFFFFFFFF)], cx := { servW.cx with busMaster := true, fqTx := lset (List.replicate 8 {}) 2 { descs := [d] } } }

/-- States and operands that meet the hypotheses of `Obligations.RingsAndFrameQueues`, clause by clause. -/
theorem witness_RingsAndFrameQueues :
    (RegsCanonical servW ∧ servW.cx.rings.length = 16 ∧ servW.cx.fqTx.length = 8 ∧ servW.cx.fqRx.length = 8
       ∧ servW.barUp = true ∧ 4096 < seqDiff (4097#32).toNat (servW.ring 3).cons) ∧
    (RegsCanonical servW ∧ servW.cx.rings.length = 16 ∧ servW.cx.fqTx.length = 8 ∧ servW.cx.fqRx.length = 8
       ∧ servW.barUp = true ∧ seqDiff (1#32).toNat (servW.ring 3).cons ≤ 4096 ∧ (servW.ring 3).error = false
       ∧ servW.flag (Reg.CX_RING_CTL_EN 3) = false) ∧
    (RegsCanonical onW ∧ onW.cx.rings.length = 16 ∧ onW.cx.fqTx.length = 8 ∧ onW.cx.fqRx.length = 8
       ∧ onW.barUp = true ∧ seqDiff (1#32).toNat (onW.ring 3).cons ≤ 4096 ∧ (1#32).toNat ≠ (onW.ring 3).cons
       ∧ onW.ringConsumes 3 = true ∧ (ent 1).raw = some (nopRaw 1) ∧ leAt (nopRaw 1) 0 4 = seqNext (onW.ring 3).cons
       ∧ leAt (nopRaw 1) 4 2 = 0 ∧ leAt (nopRaw 1) 6 2 = 0 ∧ paramsOk [] (slice (nopRaw 1) 24 40) = true
       ∧ tagE = { ring := 3, ringSeq := leAt (nopRaw 1) 0 4, reqId := 0, resultAddr := leAt (nopRaw 1) 16 8, writesOk := (ent 1).writesOk }
       ∧ leAt (nopRaw 1) 8 8 = 0) ∧
    (RegsCanonical onW ∧ onW.cx.rings.length = 16 ∧ onW.cx.fqTx.length = 8 ∧ onW.cx.fqRx.length = 8
       ∧ onW.barUp = true ∧ seqDiff (1#32).toNat (onW.ring 3).cons ≤ 4096 ∧ (1#32).toNat ≠ (onW.ring 3).cons
       ∧ onW.ringConsumes 3 = true ∧ (ent 2).raw = some (nopRaw 2) ∧ leAt (nopRaw 2) 0 4 ≠ seqNext (onW.ring 3).cons) ∧
    (RegsCanonical heldW ∧ heldW.cx.rings.length = 16 ∧ heldW.cx.fqTx.length = 8 ∧ heldW.cx.fqRx.length = 8
       ∧ heldW.barUp = true ∧ (heldW.ring 3).fetched = [] ∧ (heldW.ring 3).held = [cpl]
       ∧ (heldW.setRing 3 ({ heldW.ring 3 with cqDb := (0#32).toNat })).ringTakes 3 cpl.devSeq = true) ∧
    (RegsCanonical servW ∧ servW.cx.rings.length = 16 ∧ servW.cx.fqTx.length = 8 ∧ servW.cx.fqRx.length = 8
       ∧ servW.barUp = true ∧ servW.flag (Reg.CX_RING_CTL_EN 3) = false ∧ (servW.ring 3).fetched = []
       ∧ (servW.ring 3).held = []) ∧
    (RegsCanonical errW ∧ errW.cx.rings.length = 16 ∧ errW.cx.fqTx.length = 8 ∧ errW.cx.fqRx.length = 8
       ∧ errW.barUp = true ∧ (errW.ring 3).error = true ∧ errW.flag (Reg.CX_RING_CTL_EN 3) = false) ∧
    (RegsCanonical ringW ∧ ringW.cx.rings.length = 16 ∧ ringW.cx.fqTx.length = 8 ∧ ringW.cx.fqRx.length = 8
       ∧ ringW.barUp = true ∧ seqDiff (1#32).toNat (ringW.fqTxOf 2).cons ≤ 1024) ∧
    (RegsCanonical ringW ∧ ringW.cx.rings.length = 16 ∧ ringW.cx.fqTx.length = 8 ∧ ringW.cx.fqRx.length = 8
       ∧ ringW.barUp = true ∧ seqDiff (1#32).toNat (ringW.fqRxOf 2).cons ≤ 1024) ∧
    (RegsCanonical servW ∧ servW.cx.rings.length = 16 ∧ servW.cx.fqTx.length = 8 ∧ servW.cx.fqRx.length = 8
       ∧ servW.barUp = true ∧ 1024 < seqDiff (4097#32).toNat (servW.fqTxOf 2).cons) ∧
    (RegsCanonical servW ∧ servW.cx.rings.length = 16 ∧ servW.cx.fqTx.length = 8 ∧ servW.cx.fqRx.length = 8
       ∧ servW.barUp = true ∧ 1024 < seqDiff (4097#32).toNat (servW.fqRxOf 2).cons) ∧
    (RegsCanonical downW ∧ downW.cx.rings.length = 16 ∧ downW.cx.fqTx.length = 8 ∧ downW.cx.fqRx.length = 8
       ∧ downW.barUp = false) ∧
    (RegsCanonical servW ∧ servW.cx.rings.length = 16 ∧ servW.cx.fqTx.length = 8 ∧ servW.cx.fqRx.length = 8
       ∧ (tget { } servW.cx.coal 5).count = 0) ∧
    (RegsCanonical coalW ∧ coalW.cx.rings.length = 16 ∧ coalW.cx.fqTx.length = 8 ∧ coalW.cx.fqRx.length = 8
       ∧ tblWf { } 0 coalW.cx.coal = true ∧ (tget { } coalW.cx.coal 5).count ≠ 0 ∧ coalW.cx.msix.length = 64
       ∧ (coalW.coalOf 5).2 < 64 ∧ lget { } coalW.cx.msix (coalW.coalOf 5).2 = vec0) ∧
    (RegsCanonical runW ∧ runW.cx.rings.length = 16 ∧ runW.cx.fqTx.length = 8 ∧ runW.cx.fqRx.length = 8
       ∧ (runW.ring 3).running = [inpT] ∧ inpT.tag.ringSeq = 7) ∧
    (RegsCanonical servW ∧ servW.cx.rings.length = 16 ∧ servW.cx.fqTx.length = 8 ∧ servW.cx.fqRx.length = 8
       ∧ (servW.ring 3).running = []) ∧
    (RegsCanonical servW ∧ servW.cx.rings.length = 16 ∧ servW.cx.fqTx.length = 8 ∧ servW.cx.fqRx.length = 8
       ∧ servW.engineOn = false) ∧
    (RegsCanonical (txS (dsc 1 9 0 2)) ∧ (txS (dsc 1 9 0 2)).cx.rings.length = 16
       ∧ (txS (dsc 1 9 0 2)).cx.fqTx.length = 8 ∧ (txS (dsc 1 9 0 2)).cx.fqRx.length = 8
       ∧ (txS (dsc 1 9 0 2)).engineOn = true ∧ (txS (dsc 1 9 0 2)).dmaOk = true
       ∧ (txS (dsc 1 9 0 2)).flag (Reg.CX_FQ_CTL_TX_EN 2) = true ∧ (txS (dsc 1 9 0 2)).cx.txHeld = []
       ∧ ((txS (dsc 1 9 0 2)).fqTxOf 2).error = false ∧ ((txS (dsc 1 9 0 2)).fqTxOf 2).descs = [dsc 1 9 0 2]
       ∧ (dsc 1 9 0 2).raw = some (txRaw 1 9 0 2)
       ∧ leAt (txRaw 1 9 0 2) 28 4 ≠ seqNext ((txS (dsc 1 9 0 2)).fqTxOf 2).cons) ∧
    (RegsCanonical (txS (dsc 1 9 128 1)) ∧ (txS (dsc 1 9 128 1)).cx.rings.length = 16
       ∧ (txS (dsc 1 9 128 1)).cx.fqTx.length = 8 ∧ (txS (dsc 1 9 128 1)).cx.fqRx.length = 8
       ∧ (txS (dsc 1 9 128 1)).engineOn = true ∧ (txS (dsc 1 9 128 1)).dmaOk = true
       ∧ (txS (dsc 1 9 128 1)).flag (Reg.CX_FQ_CTL_TX_EN 2) = true ∧ (txS (dsc 1 9 128 1)).cx.txHeld = []
       ∧ ((txS (dsc 1 9 128 1)).fqTxOf 2).error = false ∧ ((txS (dsc 1 9 128 1)).fqTxOf 2).descs = [dsc 1 9 128 1]
       ∧ (dsc 1 9 128 1).raw = some (txRaw 1 9 128 1)
       ∧ leAt (txRaw 1 9 128 1) 28 4 = seqNext ((txS (dsc 1 9 128 1)).fqTxOf 2).cons
       ∧ leAt (txRaw 1 9 128 1) 0 4 = seqNext ((txS (dsc 1 9 128 1)).fqTxOf 2).cons
       ∧ (txS (dsc 1 9 128 1)).badTx (txRaw 1 9 128 1) = true) ∧
    (RegsCanonical (txS (dsc 1 9 0 1)) ∧ (txS (dsc 1 9 0 1)).cx.rings.length = 16
       ∧ (txS (dsc 1 9 0 1)).cx.fqTx.length = 8 ∧ (txS (dsc 1 9 0 1)).cx.fqRx.length = 8
       ∧ (txS (dsc 1 9 0 1)).engineOn = true ∧ (txS (dsc 1 9 0 1)).dmaOk = true
       ∧ (txS (dsc 1 9 0 1)).flag (Reg.CX_FQ_CTL_TX_EN 2) = true ∧ (txS (dsc 1 9 0 1)).cx.txHeld = []
       ∧ ((txS (dsc 1 9 0 1)).fqTxOf 2).error = false ∧ ((txS (dsc 1 9 0 1)).fqTxOf 2).descs = [dsc 1 9 0 1]
       ∧ (dsc 1 9 0 1).raw = some (txRaw 1 9 0 1)
       ∧ leAt (txRaw 1 9 0 1) 28 4 = seqNext ((txS (dsc 1 9 0 1)).fqTxOf 2).cons
       ∧ leAt (txRaw 1 9 0 1) 0 4 = seqNext ((txS (dsc 1 9 0 1)).fqTxOf 2).cons
       ∧ (txS (dsc 1 9 0 1)).badTx (txRaw 1 9 0 1) = false
       ∧ (txS (dsc 1 9 0 1)).portOpen (byteAt (txRaw 1 9 0 1) 6) = true ∧ bitAt (byteAt (txRaw 1 9 0 1) 7) 5 = false
       ∧ ((txS (dsc 1 9 0 1)).pq (byteAt (txRaw 1 9 0 1) 6)).launch = []) :=
  ⟨by unfold RegsCanonical; decide +kernel,
   by unfold RegsCanonical; decide +kernel,
   by unfold RegsCanonical; decide +kernel,
   by unfold RegsCanonical; decide +kernel,
   by unfold RegsCanonical; decide +kernel,
   by unfold RegsCanonical; decide +kernel,
   by unfold RegsCanonical; decide +kernel,
   by unfold RegsCanonical; decide +kernel,
   by unfold RegsCanonical; decide +kernel,
   by unfold RegsCanonical; decide +kernel,
   by unfold RegsCanonical; decide +kernel,
   by unfold RegsCanonical; decide +kernel,
   by unfold RegsCanonical; decide +kernel,
   by unfold RegsCanonical; decide +kernel,
   by unfold RegsCanonical; decide +kernel,
   by unfold RegsCanonical; decide +kernel,
   by unfold RegsCanonical; decide +kernel,
   by unfold RegsCanonical; decide +kernel,
   by unfold RegsCanonical; decide +kernel,
   by unfold RegsCanonical; decide +kernel⟩

def bootW : State := { servW with start := { state := 1 } }
def l3W : State := { servW with pwr := { state := 3 } }
def bs1 : List (BitVec 16 × BitVec 128) := [(0xFFFF, 5), (0xFFFF, 6)]
def brq : BusReq := ⟨3, 5, 0x70, false, bs1, false⟩
def l4W : State := { servW with pwr := { state := 4 } }
def lockW : State := { servW with bm := { targets := (List.replicate 12 {}).set 9 { lockedBy := some (0, 3), lockAt := 100 }, masters := (List.replicate 8 {}).set 4 { drained := false } } }
def lock0 : State := { servW with bm := { targets := (List.replicate 12 {}).set 0 { lockedBy := some (0, 3), lockAt := 100 } } }

/-- States and operands that meet the hypotheses of `Obligations.BusMatrix`, clause by clause. -/
theorem witness_BusMatrix :
    (l4W.cx.rings.length = 16 ∧ l4W.bm.waiting = [] ∧ l4W.bm.masters.length = 8 ∧ l4W.bm.targets.length = 12
       ∧ 4 ≤ l4W.pwr.state) ∧
    (downW.cx.rings.length = 16 ∧ downW.bm.waiting = [] ∧ downW.bm.masters.length = 8 ∧ downW.bm.targets.length = 12
       ∧ downW.pwr.state < 4 ∧ downW.masterReady 2 = true ∧ 2 = 2 ∧ downW.barUp = false) ∧
    (servW.cx.rings.length = 16 ∧ servW.bm.waiting = [] ∧ servW.bm.masters.length = 8 ∧ servW.bm.targets.length = 12
       ∧ servW.pwr.state < 4 ∧ servW.masterReady 0 = true ∧ (0 = 2 → servW.barUp = true) ∧ RegsCanonical servW
       ∧ tget (0#32) servW.locks 112 = 0#32 ∧ (servW.bmTarget 0).lockedBy = none) ∧
    (servW.cx.rings.length = 16 ∧ servW.bm.waiting = [] ∧ servW.bm.masters.length = 8 ∧ servW.bm.targets.length = 12
       ∧ servW.pwr.state < 4 ∧ servW.masterReady 0 = true ∧ (0 = 2 → servW.barUp = true)
       ∧ accessCode 0 4294967280 = 2 ∧ 2 ≠ 0) ∧
    (lock0.cx.rings.length = 16 ∧ lock0.bm.waiting = [] ∧ lock0.bm.masters.length = 8 ∧ lock0.bm.targets.length = 12
       ∧ lock0.pwr.state < 4 ∧ lock0.masterReady 1 = true ∧ (1 = 2 → lock0.barUp = true) ∧ busTarget 112 = some 0
       ∧ accessCode 1 112 = 0 ∧ (lock0.bmTarget 0).lockedBy = some (0, 3) ∧ 0 ≠ 1) ∧
    (l4W.cx.rings.length = 16 ∧ l4W.bm.waiting = [] ∧ l4W.bm.masters.length = 8 ∧ l4W.bm.targets.length = 12
       ∧ (l4W.bmTarget 0).lockedBy = none) ∧
    (lock0.cx.rings.length = 16 ∧ lock0.bm.waiting = [] ∧ lock0.bm.masters.length = 8 ∧ lock0.bm.targets.length = 12
       ∧ (lock0.bmMaster 1).inReset = false ∧ lock0.pwr.state < 4) ∧
    (servW.cx.rings.length = 16 ∧ servW.bm.waiting = [] ∧ servW.bm.masters.length = 8 ∧ servW.bm.targets.length = 12
       ∧ (servW.bmMaster 0).inReset = false ∧ servW.pwr.state < 4 ∧ 0 = 0) ∧
    (lock0.cx.rings.length = 16 ∧ lock0.bm.waiting = [] ∧ lock0.bm.masters.length = 8 ∧ lock0.bm.targets.length = 12
       ∧ (lock0.bmMaster 1).inReset = false ∧ lock0.pwr.state < 4 ∧ 1 = 1) ∧
    (downW.cx.rings.length = 16 ∧ downW.bm.waiting = [] ∧ downW.bm.masters.length = 8 ∧ downW.bm.targets.length = 12
       ∧ (downW.bmMaster 2).inReset = false ∧ downW.pwr.state < 4 ∧ 2 ≤ 2) ∧
    (lockW.cx.rings.length = 16 ∧ lockW.bm.waiting = [] ∧ lockW.bm.masters.length = 8 ∧ lockW.bm.targets.length = 12
       ∧ (lockW.bmMaster 4).drained = false) ∧
    (lock0.cx.rings.length = 16 ∧ lock0.bm.waiting = [] ∧ lock0.bm.masters.length = 8 ∧ lock0.bm.targets.length = 12
       ∧ (lock0.bmMaster 1).drained = true) :=
  ⟨by decide +kernel,
   by decide +kernel,
   by unfold RegsCanonical; decide +kernel,
   by decide +kernel,
   by decide +kernel,
   by decide +kernel,
   by decide +kernel,
   by decide +kernel,
   by decide +kernel,
   by decide +kernel,
   by decide +kernel,
   by decide +kernel⟩

/-- States and operands that meet the hypotheses of `Obligations.CommandsNotServed`, clause by clause. -/
theorem witness_CommandsNotServed :
    (commandOf (.fdbSearch tg 5 9 0x100) = some (tg, 0x1301) ∧ bootW.cx.rings.length = 16 ∧ bootW.started = false ∧
      bootCommand 0x1301 = false) ∧
    (l3W.cx.rings.length = 16 ∧ Serves l3W ∧ l3W.pwr.state ≠ 0 ∧ needsL0 (.fdbSearch tg 5 9 0x100) = true) :=
  ⟨by decide +kernel, by unfold Serves; decide +kernel⟩

def cuA (x : RedSt) : State := { servW with loops := { counting := true, periodAt := 40000 }, clk := 50000, red := x }
def act : CuUnit := { state := .active, loaded := true }
def stb : CuUnit := { state := .standby, loaded := true }
def fld : CuUnit := { state := .failed, failed := true }
def autoS (x : State) : State := { x with regs := (x.setFld Reg.RED_CTL_AUTO_FAILOVER 1).regs }
def autoN (x : State) : State := { x with regs := (x.setFld Reg.RED_CTL_AUTO_FAILOVER 0).regs }
def cuStb : State := cuA { a := act, b := stb }
def cuFld : State := cuA { a := act, b := fld }
def cuMiss : State := cuA { a := act, b := stb, lineMiss := 2 }
def cuDue : State := cuA { a := act, b := stb, lineMiss := 2, ckptMiss := 2, ckptOverdue := some 9 }
def cuLone : State := cuA { a := act, b := fld, lineMiss := 2, ckptMiss := 2, ckptOverdue := some 9 }
def cuOver : State := cuA { a := act, b := fld, switching := some (.failover 60000) }
def cuPlan : State := cuA { a := act, b := fld, switching := some (.planned tg false true) }
def cuRest : State := cuA { a := act, b := fld, restore := some (1, some tg) }
def cuLow : State := { cuFld with pwr := { state := 2 } }

/-- States and operands that meet the hypotheses of `Obligations.ControlUnits`, clause by clause. -/
theorem witness_ControlUnits :
    (servW.cx.rings.length = 16 ∧ servW.red.activeUnit ≤ 1 ∧ 1 = 1 - servW.red.activeUnit
       ∧ servW.bm.masters.length = 8 ∧ servW.watches = false) ∧
    (cuMiss.cx.rings.length = 16 ∧ cuMiss.red.activeUnit ≤ 1 ∧ 1 = 1 - cuMiss.red.activeUnit
       ∧ cuMiss.bm.masters.length = 8 ∧ cuMiss.watches = true ∧ cuMiss.red.ckptOverdue = none
       ∧ cuMiss.red.lineDown = false ∧ cuMiss.red.ckptDown = false ∧ cuMiss.red.lineMiss = 2) ∧
    ((autoS cuDue).cx.rings.length = 16 ∧ (autoS cuDue).red.activeUnit ≤ 1 ∧ 1 = 1 - (autoS cuDue).red.activeUnit
       ∧ (autoS cuDue).bm.masters.length = 8 ∧ (autoS cuDue).watches = true ∧ (autoS cuDue).red.lineMiss = 2
       ∧ (autoS cuDue).red.ckptMiss = 2 ∧ (autoS cuDue).red.ckptOverdue = some 9 ∧ 9 ≤ (autoS cuDue).clk
       ∧ (autoS cuDue).loops.periodAt ≤ (autoS cuDue).clk ∧ (autoS cuDue).red.restore = none
       ∧ (autoS cuDue).flag Reg.RED_CTL_AUTO_FAILOVER = true ∧ ((autoS cuDue).unit 1).state = UnitState.standby) ∧
    ((autoN cuDue).cx.rings.length = 16 ∧ (autoN cuDue).red.activeUnit ≤ 1 ∧ 1 = 1 - (autoN cuDue).red.activeUnit
       ∧ (autoN cuDue).bm.masters.length = 8 ∧ (autoN cuDue).watches = true ∧ (autoN cuDue).red.lineMiss = 2
       ∧ (autoN cuDue).red.ckptMiss = 2 ∧ (autoN cuDue).red.ckptOverdue = some 9 ∧ 9 ≤ (autoN cuDue).clk
       ∧ (autoN cuDue).loops.periodAt ≤ (autoN cuDue).clk ∧ (autoN cuDue).red.restore = none
       ∧ ((autoN cuDue).flag Reg.RED_CTL_AUTO_FAILOVER = false ∨ ((autoN cuDue).unit 1).state ≠ UnitState.standby)) ∧
    (cuStb.cx.rings.length = 16 ∧ cuStb.red.activeUnit ≤ 1 ∧ 1 = 1 - cuStb.red.activeUnit
       ∧ cuStb.bm.masters.length = 8 ∧ Serves cuStb ∧ cuStb.pwr.state ≤ 1 ∧ cuStb.red.restore = none
       ∧ cuStb.red.switching = none ∧ (cuStb.unit 1).state = UnitState.standby
       ∧ (cuStb.unit cuStb.red.activeUnit).state = UnitState.active) ∧
    (servW.cx.rings.length = 16 ∧ servW.red.activeUnit ≤ 1 ∧ 1 = 1 - servW.red.activeUnit
       ∧ servW.bm.masters.length = 8 ∧ Serves servW ∧ servW.pwr.state ≤ 1 ∧ servW.red.restore = none
       ∧ servW.red.switching = none ∧ (servW.unit 1).state ≠ UnitState.standby) ∧
    (cuOver.cx.rings.length = 16 ∧ cuOver.red.activeUnit ≤ 1 ∧ 1 = 1 - cuOver.red.activeUnit
       ∧ cuOver.bm.masters.length = 8 ∧ Serves cuOver ∧ cuOver.pwr.state ≤ 1 ∧ cuOver.red.restore = none
       ∧ cuOver.red.switching ≠ none) ∧
    (cuLow.cx.rings.length = 16 ∧ cuLow.red.activeUnit ≤ 1 ∧ 1 = 1 - cuLow.red.activeUnit
       ∧ cuLow.bm.masters.length = 8 ∧ Serves cuLow ∧ 1 < cuLow.pwr.state) ∧
    (cuFld.cx.rings.length = 16 ∧ cuFld.red.activeUnit ≤ 1 ∧ 1 = 1 - cuFld.red.activeUnit
       ∧ cuFld.bm.masters.length = 8 ∧ Serves cuFld ∧ cuFld.pwr.state = 0 ∧ 1 ≤ 1 ∧ cuFld.red.switching = none
       ∧ cuFld.red.restore = none ∧ (cuFld.unit 1).state = UnitState.failed) ∧
    (cuStb.cx.rings.length = 16 ∧ cuStb.red.activeUnit ≤ 1 ∧ 1 = 1 - cuStb.red.activeUnit
       ∧ cuStb.bm.masters.length = 8 ∧ Serves cuStb ∧ cuStb.pwr.state = 0 ∧ 1 ≤ 1 ∧ cuStb.red.switching = none
       ∧ cuStb.red.restore = none ∧ (cuStb.unit 1).state = UnitState.standby) ∧
    (cuFld.cx.rings.length = 16 ∧ cuFld.red.activeUnit ≤ 1 ∧ 1 = 1 - cuFld.red.activeUnit
       ∧ cuFld.bm.masters.length = 8 ∧ Serves cuFld ∧ cuFld.pwr.state = 0 ∧ 0 ≤ 1 ∧ cuFld.red.switching = none
       ∧ cuFld.red.restore = none ∧ (cuFld.unit 0).state = UnitState.active) ∧
    (cuFld.cx.rings.length = 16 ∧ cuFld.red.activeUnit ≤ 1 ∧ 1 = 1 - cuFld.red.activeUnit
       ∧ cuFld.bm.masters.length = 8 ∧ Serves cuFld ∧ 1 < 2) ∧
    (cuRest.cx.rings.length = 16 ∧ cuRest.red.activeUnit ≤ 1 ∧ 1 = 1 - cuRest.red.activeUnit
       ∧ cuRest.bm.masters.length = 8 ∧ cuRest.red.restore = some (1, some tg) ∧ 1 ≤ 1) ∧
    (cuOver.cx.rings.length = 16 ∧ cuOver.red.activeUnit ≤ 1 ∧ 1 = 1 - cuOver.red.activeUnit
       ∧ cuOver.bm.masters.length = 8 ∧ cuOver.red.switching = some (Switching.failover 60000)
       ∧ cuOver.red.claimed = false) ∧
    (cuPlan.cx.rings.length = 16 ∧ cuPlan.red.activeUnit ≤ 1 ∧ 1 = 1 - cuPlan.red.activeUnit
       ∧ cuPlan.bm.masters.length = 8 ∧ cuPlan.red.switching = some (Switching.planned tg false true)
       ∧ cuPlan.red.claimed = false) :=
  ⟨by decide +kernel,
   by decide +kernel,
   by decide +kernel,
   by decide +kernel,
   by unfold Serves; decide +kernel,
   by unfold Serves; decide +kernel,
   by unfold Serves; decide +kernel,
   by unfold Serves; decide +kernel,
   by unfold Serves; decide +kernel,
   by unfold Serves; decide +kernel,
   by unfold Serves; decide +kernel,
   by unfold Serves; decide +kernel,
   by decide +kernel,
   by decide +kernel,
   by decide +kernel⟩

def warm : State := { servW with pins := { vaon := true, rails := true }, loops := { counting := true }, clk := 700, adc := { hk := [(3, { value := 15000, valid := true }), (4, { value := 15001, valid := true }), (5, { value := -4000, valid := true })] } }
def sdn (r : Bool) : Shutdown := ⟨700, 1, 3, 5, 9000, 8500, 6, 4, 9, 2, 1, r⟩
def sdW (r : Bool) : State := { servW with thm := { shutdown := some (sdn r) }, nvm := { records := [[1, 2]], recordTotal := 8 }, clk := 800 }
def lrec : EvtRec := ⟨5, zeros 32⟩
def jbW (l : List FlashJob) (re : Bool) : State := { servW with nvm := { jobs := l, retried := re }, obs := { staged := [lrec, lrec], pageCount := 7 } }
def recW : State := { ringW with nvm := { records := [[1, 2], [3]], recordTotal := 8 } }
def ra : Nat := warm.readingAt.getD 0

/-- States and operands that meet the hypotheses of `Obligations.ThermalAndFlash`, clause by clause. -/
theorem witness_ThermalAndFlash :
    (servW.readingsRun = false) ∧
    (warm.readingsRun = true ∧ warm.readingAt = some ra ∧ tblWf { } 0 warm.thm.sensors = true ∧ 3 < 96) ∧
    (warm.readingsRun = true ∧ warm.readingAt = some ra ∧ tblWf { } 0 warm.thm.sensors = true ∧ 4 < 96) ∧
    ((sdW false).thm.shutdown = some (sdn false) ∧ (sdn false).recorded = false ∧ (sdW false).nvm.jobs = []) ∧
    (servW.thm.shutdown = none) ∧
    ((sdW true).thm.shutdown = some (sdn true) ∧ (sdn true).recorded = true) ∧
    (warm.cx.rings.length = 16 ∧ 1 ≤ 64 ∧ 64 ≤ 64 ∧ tg.reqId ≠ 0) ∧
    (servW.cx.rings.length = 16 ∧ (0 = 0 ∨ 64 < 0)) ∧
    ((jbW [FlashJob.logPage [lrec]] false).nvm.jobs = [FlashJob.logPage [lrec]]
       ∧ (jbW [FlashJob.logPage [lrec]] false).obs.pageCount % 255 ≠ 0
       ∧ (jbW [FlashJob.logPage [lrec]] false).obs.staged.length < [lrec].length + 7) ∧
    ((jbW [FlashJob.logPage [lrec]] false).nvm.jobs = [FlashJob.logPage [lrec]]
       ∧ (jbW [FlashJob.logPage [lrec]] false).nvm.retried = false) ∧
    ((jbW [FlashJob.journal] true).nvm.jobs = [FlashJob.journal] ∧ (jbW [FlashJob.journal] true).nvm.retried = true) :=
  ⟨by decide +kernel,
   by decide +kernel,
   by decide +kernel,
   by decide +kernel,
   by decide +kernel,
   by decide +kernel,
   by decide +kernel,
   by decide +kernel,
   by decide +kernel,
   by decide +kernel,
   by decide +kernel⟩

end Exchange

/-! ### The block as a whole -/

/-- A command and a step that answer a next state, as `Obligations.EveryCommandGoesOnAndLeavesTheQueue` supposes. -/
theorem witness_EveryCommandGoesOnAndLeavesTheQueue :
    (∃ t, exec .timJumpLoRead barW = .next t) ∧ ∃ t, step { barW with pending := [.timJumpLoRead] } = .next t :=
  ⟨⟨_, rfl⟩, ⟨_, rfl⟩⟩

/-! ### Small steps, with results written out from the spec -/

namespace Steps

/-- A core after one command. -/
def after (i : Instr) (s : State) (c : CoreRef) : Core :=
  match exec i s with
  | .next t => t.core c
  | _ => {}

/-- A lane, and a supervisor core with STATUS.SAT set, with the registers of the arithmetic tests. -/
def lane : State := Alu.mk (.lane 3) Alu.coreW
def supSat : State := Alu.mk (.sup 2) Alu.satCoreW
def l3 : CoreRef := .lane 3
def s2 : CoreRef := .sup 2

/-- R207: ADD wraps in a lane and sets OVS. -/
theorem test_add_wraps :
    (after (.add l3 5 4 1) lane l3).reg 5 = 0x80000000 ∧ (after (.add l3 5 4 1) lane l3).st.ovs = true := by
  decide +kernel

/-- R209: with SAT set in a supervisor core ADD saturates, and still sets OVS. -/
theorem test_add_saturates :
    (after (.add s2 5 4 1) supSat s2).reg 5 = 0x7FFFFFFF ∧ (after (.add s2 5 4 1) supSat s2).st.ovs = true := by
  decide +kernel

/-- Table 9.6: SUB with the destination as a source. -/
theorem test_sub_in_place : (after (.sub l3 5 5 13) lane l3).reg 5 = 0x12345673 := by decide +kernel

/-- Table 9.6: ABS of −2^31 gives −2^31 and sets OVS. -/
theorem test_abs_lowest :
    (after (.abs l3 6 3) lane l3).reg 6 = 0x80000000 ∧ (after (.abs l3 6 3) lane l3).st.ovs = true := by
  decide +kernel

/-- Table 9.6: the arithmetic shift copies the sign, the logical one does not. -/
theorem test_shifts :
    (after (.sra l3 5 3 31) lane l3).reg 5 = 0xFFFFFFFF ∧ (after (.srl l3 5 3 31) lane l3).reg 5 = 1 := by
  decide +kernel

/-- R180: RSH of 5 by 1 is floor(5 / 2 + 1 / 2) = 3, and of −1 by 1 is 0. -/
theorem test_rsh_rounds :
    (after (.rsh l3 5 13 1) lane l3).reg 5 = 3 ∧ (after (.rsh l3 5 2 1) lane l3).reg 5 = 0 := by
  decide +kernel

/-- Table 9.6: CLZ counts 32 zeros in 0 and 31 in 1. -/
theorem test_clz : (after (.clz l3 5 0) lane l3).reg 5 = 32 ∧ (after (.clz l3 5 1) lane l3).reg 5 = 31 := by
  decide +kernel

/-- Table 9.6: EXT of bits 15 to 8 of 0x12345678. -/
theorem test_ext : (after (.ext l3 0 5 8 8) lane l3).reg 0 = 0x56 := by decide +kernel

/-- Table 9.6: EXTS of the low byte 0x85 of a register. -/
theorem test_exts : (after (.exts l3 0 6 0 8) lane l3).reg 0 = 0xFFFFFF85 := by decide +kernel

/-- Table 9.6: INS keeps the other bits of its destination. -/
theorem test_ins : (after (.ins l3 5 2 4 8) lane l3).reg 5 = 0x12345FF8 := by decide +kernel

/-- Table 9.6: MULL keeps the low 32 bits of −123 × 5. -/
theorem test_mull : (after (.mull l3 5 6 13) lane l3).reg 5 = 0xFFFFFD99 := by decide +kernel

/-- R201: CMP of the lowest and the highest integer: not zero, and the signed difference overflows. -/
theorem test_cmp :
    (after (.cmp l3 3 4) lane l3).st.z = false ∧ (after (.cmp l3 3 4) lane l3).st.v = true := by
  decide +kernel

/-- Table 9.6: CLAMP of 0x12345678 to 0xFFFF on either side. -/
theorem test_clamp : (after (.clamp l3 5 5 12) lane l3).reg 5 = 0xFFFF := by decide +kernel

/-- Table 9.7: MPA of 0x80000000 and 5 is −5 × 2^31 in 72 bits. -/
theorem test_mpa : ((after (.mpa l3 0 3 13) lane l3).a.get 0).toInt = -10737418240 := by decide +kernel

/-- Table 9.7: parts 0 and 2 of an accumulator that holds 0x1_23456789_ABCDEF01. -/
theorem test_mvax :
    (after (.mvax l3 5 0 0) lane l3).reg 5 = 0xABCDEF01 ∧ (after (.mvax l3 5 0 2) lane l3).reg 5 = 1 := by
  decide +kernel

/-- Table 9.8: a division by zero sets DQ to 0x7FFFFFFF for a positive dividend and sets DZ. -/
theorem test_divq_zero :
    (after (.divq l3 13 0 0) lane l3).div = some ⟨12, 0x7FFFFFFF⟩ ∧ (after (.divq l3 13 0 0) lane l3).st.dz = true := by
  decide +kernel

/-- Table 9.9: SYSCALL saves the next word in EPC and goes to the handler. -/
theorem test_syscall :
    (after (.syscall s2 9) supSat s2).epc = 6 ∧ (after (.syscall s2 9) supSat s2).pc = Alu.satCoreW.evec := by
  decide +kernel

/-- Table 5.1: link 0 rotates line 1 right to 256, link 15 rotates line 256 left to 1. -/
theorem test_wiring : nextLine 0 1 = 256 ∧ nextLine 15 256 = 1 := by decide +kernel

/-- R104: with every cell in BAR the matrix connects input p to output p. -/
theorem test_all_bar : [0, 1, 255, 256, 300, 511].all (fun p => traceOut 0 p == p) = true := by decide +kernel

/-- R548: serial numbers wrap: 0 follows 0xFFFFFFFF and is newer. -/
theorem test_serial : seqNext 0xFFFFFFFF = 0 ∧ newer 32 0 0xFFFFFFFF = true := by decide +kernel

/-- R431: a time word holds nanoseconds in bits 29 to 0 and seconds from bit 30 on. -/
theorem test_time_word : toWord (3 * secUnit + 7 * nsUnit) = 3 * 2 ^ 30 + 7 := by decide +kernel

/-- The check value of CRC-32C (R274's polynomial) over the digits 1 to 9. -/
theorem test_crc32c : crc32c [49, 50, 51, 52, 53, 54, 55, 56, 57] = 0xE3069283 := by decide +kernel

/-- The check value of the Ethernet CRC over the digits 1 to 9. -/
theorem test_crc32 : crc32 [49, 50, 51, 52, 53, 54, 55, 56, 57] = 0xCBF43926 := by decide +kernel

/-- R3: a scratch register takes a write, and a write whose byte enables do not cover the word changes none. -/
theorem test_scratch :
    (match exec (.registerWrite 0x74 15 0xA5A5A5A5) barW with
      | .next t => t.regWord 0x74
      | _ => 0) = 0xA5A5A5A5 ∧
    (match exec (.registerWrite 0x74 1 0xA5A5A5A5) barW with
      | .next t => t.regWord 0x74
      | _ => 1) = 0 := by
  decide +kernel

/-- R522: a read-only register keeps its word on a write. -/
theorem test_read_only :
    (match exec (.registerWrite 8 15 0xFFFFFFFF) barW with
      | .next t => t.regWord 8 == barW.regWord 8
      | _ => false) = true := by
  decide +kernel

/-- R45: SET_MODE to a mode that does not exist is answered and changes no mode. -/
theorem test_set_mode_unknown :
    (match exec (.setMode tg 200 0) servW with
      | .next t => t.mode == servW.mode
      | _ => false) = true := by
  decide +kernel

/-- R500: no laser is on after any reset of the block. -/
theorem test_reset_lasers : State.reset.saf.lsrEn = 0 ∧ State.reset.saf.request = 0 := by decide +kernel

/-- R61: VAON alone starts nothing; the state holds no command and no host memory. -/
theorem test_reset_quiet : State.reset.start.running = false ∧ State.reset.pending = [] ∧ State.reset.host = [] := by
  decide +kernel

end Steps

end Sys2Proof.Tests
end

section
/-!
Sparse tables and the register store: what a read returns after a write to the same and to another key, and that the
canonical form is kept.
-/

namespace Sys2Proof.Machine

variable {α : Type}

/-! ### Sparse tables -/

/-- A table whose keys lie from `lo` on holds nothing below `lo`. -/
theorem tget?_eq_none_of_keysRise {t : Tbl α} {lo k : Nat} (h : keysRise lo t = true) (hk : k < lo) :
    tget? t k = none := by
  induction t generalizing lo with
  | nil => rfl
  | cons e rest ih =>
    obtain ⟨hlo, hrest⟩ := Bool.and_eq_true_iff.mp h
    have hle : lo ≤ e.1 := of_decide_eq_true hlo
    rw [tget?, if_neg (by omega)]
    exact ih hrest (by omega)

theorem keysRise_mono {t : Tbl α} {lo lo' : Nat} (hle : lo' ≤ lo) (h : keysRise lo t = true) :
    keysRise lo' t = true := by
  cases t with
  | nil => rfl
  | cons e rest =>
    simp only [keysRise, Bool.and_eq_true, decide_eq_true_eq] at h ⊢
    exact ⟨hle.trans h.1, h.2⟩

@[simp] theorem tget?_tput_same (t : Tbl α) (k : Nat) (v : α) : tget? (tput t k v) k = some v := by
  induction t with
  | nil => simp [tput, tget?]
  | cons e rest ih =>
    rw [tput]
    split_ifs with heq hlt
    · simp [tget?]
    · simp [tget?]
    · rw [tget?, if_neg heq, ih]

theorem tget?_tput_ne (t : Tbl α) {j k : Nat} (hne : j ≠ k) (v : α) : tget? (tput t k v) j = tget? t j := by
  induction t with
  | nil => simp [tput, tget?, hne.symm]
  | cons e rest ih =>
    rw [tput]
    split_ifs with heq hlt
    · simp [tget?, heq, hne.symm]
    · simp [tget?, hne.symm]
    · rw [tget?, tget?, ih]

theorem tget?_terase_same {t : Tbl α} {lo : Nat} (h : keysRise lo t = true) (k : Nat) :
    tget? (terase t k) k = none := by
  induction t generalizing lo with
  | nil => rfl
  | cons e rest ih =>
    obtain ⟨hlo, hrest⟩ := Bool.and_eq_true_iff.mp h
    rw [terase]
    split_ifs with heq hlt
    · exact tget?_eq_none_of_keysRise hrest (by omega)
    · rw [tget?, if_neg heq]
      exact tget?_eq_none_of_keysRise hrest (by omega)
    · rw [tget?, if_neg heq]
      exact ih hrest

theorem tget?_terase_ne (t : Tbl α) {j k : Nat} (hne : j ≠ k) : tget? (terase t k) j = tget? t j := by
  induction t with
  | nil => rfl
  | cons e rest ih =>
    rw [terase]
    split_ifs with heq hlt
    · rw [tget?, if_neg (by omega)]
    · rfl
    · rw [tget?, tget?, ih]

theorem keysRise_tput {t : Tbl α} {lo k : Nat} (h : keysRise lo t = true) (hk : lo ≤ k) (v : α) :
    keysRise lo (tput t k v) = true := by
  induction t generalizing lo with
  | nil => simpa [tput, keysRise] using hk
  | cons e rest ih =>
    obtain ⟨hlo, hrest⟩ := Bool.and_eq_true_iff.mp h
    have hle : lo ≤ e.1 := of_decide_eq_true hlo
    rw [tput]
    split_ifs with heq hlt
    · simp [keysRise, ← heq, hle, hrest]
    · simp [keysRise, hk, hrest]; omega
    · simp [keysRise, hle, ih hrest (by omega)]

theorem keysRise_terase {t : Tbl α} {lo : Nat} (h : keysRise lo t = true) (k : Nat) :
    keysRise lo (terase t k) = true := by
  induction t generalizing lo with
  | nil => rfl
  | cons e rest ih =>
    obtain ⟨hlo, hrest⟩ := Bool.and_eq_true_iff.mp h
    have hle : lo ≤ e.1 := of_decide_eq_true hlo
    rw [terase]
    split_ifs with heq hlt
    · exact keysRise_mono (by omega) hrest
    · exact h
    · simp [keysRise, hle, ih hrest]

section Canonical

variable [DecidableEq α]

theorem tget_tset_same {t : Tbl α} (h : keysRise 0 t = true) (d : α) (k : Nat) (v : α) :
    tget d (tset d t k v) k = v := by
  unfold tget tset
  split_ifs with hv
  · rw [tget?_terase_same h, hv, Option.getD_none]
  · rw [tget?_tput_same, Option.getD_some]

theorem tget?_tset_ne (d : α) (t : Tbl α) {j k : Nat} (hne : j ≠ k) (v : α) :
    tget? (tset d t k v) j = tget? t j := by
  unfold tset
  split_ifs
  · exact tget?_terase_ne t hne
  · exact tget?_tput_ne t hne v

theorem keysRise_tset {t : Tbl α} (h : keysRise 0 t = true) (d : α) (k : Nat) (v : α) :
    keysRise 0 (tset d t k v) = true := by
  unfold tset
  split_ifs
  · exact keysRise_terase h k
  · exact keysRise_tput h (Nat.zero_le k) v

end Canonical

/-! ### The register store -/

theorem State.regWord_setRegWord_same {s : State} (h : keysRise 0 s.regs = true) (a : Nat) (w : Word) :
    (s.setRegWord a w).regWord a = w :=
  tget_tset_same h (resetWord a) a w

theorem State.regWord_setRegWord_ne (s : State) {a b : Nat} (hne : b ≠ a) (w : Word) :
    (s.setRegWord a w).regWord b = s.regWord b :=
  congrArg (·.getD (resetWord b)) (tget?_tset_ne (resetWord a) s.regs hne w)

theorem State.keysRise_setRegWord {s : State} (h : keysRise 0 s.regs = true) (a : Nat) (w : Word) :
    keysRise 0 (s.setRegWord a w).regs = true :=
  keysRise_tset h (resetWord a) a w

/-- The register words of a state depend on its store alone. -/
theorem State.regWord_congr {s t : State} (h : t.regs = s.regs) (a : Nat) : t.regWord a = s.regWord a := by
  rw [State.regWord, State.regWord, h]

@[simp] theorem State.regWord_granted (s : State) (t m a : Nat) : (s.granted t m).regWord a = s.regWord a := rfl

/-- A stored field is the bits of its register's word, where the field's reset value is the bits of the reset word. -/
theorem State.fld_eq_bitsOf (s : State) (f : FieldRef) (hreset : bitsOf (resetWord f.addr).toNat f.hi f.lo = f.reset) :
    s.fld f = bitsOf (s.regWord f.addr).toNat f.hi f.lo := by
  unfold State.fld State.regWord
  cases tget? s.regs f.addr with
  | none => exact hreset.symm
  | some w => rfl

end Sys2Proof.Machine
end

section
/-!
What an event does to the event sequence and to the register words; what a host access to a register is; one rule for a
read and for each outcome of a write of a register of stored fields alone (R3 to R7, R440, R520).
-/

namespace Sys2Proof.Machine

/-! ### Masks -/

/-- Where the writable bits of a register are its `n` low ones, those bits of the stored word are the value's (R4). -/
theorem stored_mod {fs : List FieldDesc} {n : Nat} (old v : Nat)
    (hw : fieldMask fs (fun f => f.stored && f.acc.writes) = 2 ^ n - 1)
    (hc : fieldMask fs (fun f => f.stored && f.acc == .w1c) = 0) : stored old v fs % 2 ^ n = v % 2 ^ n := by
  have hcleared : (old - old % 2 ^ n) % 2 ^ n = 0 := by
    rw [← Nat.div_mul_self_eq_mod_sub_self]; exact Nat.mul_mod_left ..
  simp only [stored, hw, hc, clearBits, Nat.and_zero, Nat.sub_zero, Nat.and_two_pow_sub_one_eq_mod]
  rw [Nat.or_mod_two_pow, hcleared, Nat.zero_or, Nat.mod_mod]

/-- A register that is writable in every bit takes the value written (R4). -/
theorem ofNat_stored {fs : List FieldDesc} (old v : Nat)
    (hw : fieldMask fs (fun f => f.stored && f.acc.writes) = 2 ^ 32 - 1)
    (hc : fieldMask fs (fun f => f.stored && f.acc == .w1c) = 0) :
    BitVec.ofNat 32 (stored old v fs) = BitVec.ofNat 32 v :=
  BitVec.eq_of_toNat_eq (by rw [BitVec.toNat_ofNat, BitVec.toNat_ofNat, stored_mod old v hw hc])

theorem formed_unlocked {fs : List FieldDesc} {n : Nat} (present v : Nat)
    (hm : fieldMask fs (fun _ => true) = 2 ^ n - 1) : formed present v 0 fs = v % 2 ^ n := by
  simp [formed, clearBits, hm, Nat.and_two_pow_sub_one_eq_mod]

/-- A register whose every bit is locked keeps its present value (R5). -/
theorem formed_locked {fs : List FieldDesc} {n present v : Nat} (hp : present < 2 ^ n) (hv : v < 2 ^ n) :
    formed present v (2 ^ n - 1) fs = present := by
  have hle : v &&& fieldMask fs (fun _ => true) < 2 ^ n := lt_of_le_of_lt Nat.and_le_left hv
  simp [formed, clearBits, Nat.and_two_pow_sub_one_eq_mod, Nat.mod_eq_of_lt hp, Nat.mod_eq_of_lt hle]

/-! ### Events -/

@[simp] theorem State.logPages_cx (s : State) : s.logPages.cx = s.cx := by
  unfold State.logPages; split_ifs <;> rfl

@[simp] theorem State.logPages_regs (s : State) : s.logPages.regs = s.regs := by
  unfold State.logPages; split_ifs <;> rfl

@[simp] theorem State.coalesce_evtSeq (s : State) (src : Nat) : (s.coalesce src).cx.evtSeq = s.cx.evtSeq := by
  unfold State.coalesce; dsimp only; split_ifs <;> rfl

/-- An event takes the next number of the series (R440). -/
@[simp] theorem State.postEvt_evtSeq (s : State) (code fl : Nat) (d : Bytes) :
    (s.postEvt code fl d).cx.evtSeq = seqNext s.cx.evtSeq := by
  unfold State.postEvt
  dsimp only
  rw [apply_ite State.cx, ite_self, apply_ite State.cx, apply_ite CxSt.evtSeq, State.coalesce_evtSeq, State.hostWrite_cx,
    State.bump_cx, ite_self]
  split_ifs
  · rw [State.logPages_cx]
  · rw [State.count_cx]

theorem State.bump_regs_congr {s t : State} (h : t.regs = s.regs) (f : FieldRef) (n : Nat) :
    (t.bump f n).regs = (s.bump f n).regs := by
  simp only [State.bump, State.setFld, State.setRegWord, State.fld, State.regWord, h]

/-- The register store after an event: as it was, or with one more event lost (R440). -/
theorem State.postEvt_regs (s : State) (code fl : Nat) (d : Bytes) :
    (s.postEvt code fl d).regs = s.regs ∨ (s.postEvt code fl d).regs = (s.bump Reg.CX_ERR_EVT_LOST 1).regs := by
  have hlost {u : State} (h : u.regs = s.regs) := State.bump_regs_congr h Reg.CX_ERR_EVT_LOST 1
  simp only [State.postEvt, apply_ite State.regs, State.coalesce_regs, State.hostWrite_regs, ite_self]
  split_ifs
  · exact .inl (State.logPages_regs _)
  · exact .inr (hlost (State.logPages_regs _))
  · exact .inl rfl
  · exact .inr (hlost rfl)

/-- CX_ERR is the one register whose word an event can change. -/
theorem State.postEvt_regWord (s : State) (code fl : Nat) (d : Bytes) {a : Nat} (ha : a ≠ 0x1000C) :
    (s.postEvt code fl d).regWord a = s.regWord a := by
  rcases s.postEvt_regs code fl d with hsame | hlost
  · exact State.regWord_congr hsame a
  · exact (State.regWord_congr hlost a).trans (s.regWord_setRegWord_ne ha _)

theorem State.raise_regWord (s : State) (code : Nat) (items : List (Nat × Nat)) {a : Nat} (ha : a ≠ 0x1000C) :
    (s.raise code items).regWord a = s.regWord a := by
  unfold State.raise
  dsimp only
  split_ifs <;> simp only [State.postEvt_regWord _ _ _ _ ha]

theorem State.keysRise_postEvt {s : State} (h : keysRise 0 s.regs = true) (code fl : Nat) (d : Bytes) :
    keysRise 0 (s.postEvt code fl d).regs = true := by
  rcases s.postEvt_regs code fl d with hsame | hlost
  · rwa [hsame]
  · rw [hlost]; exact State.keysRise_setRegWord h _ _

theorem State.keysRise_raise {s : State} (h : keysRise 0 s.regs = true) (code : Nat) (items : List (Nat × Nat)) :
    keysRise 0 (s.raise code items).regs = true := by
  unfold State.raise
  dsimp only
  split_ifs
  · exact State.keysRise_postEvt h _ _ _
  · exact State.keysRise_postEvt (State.keysRise_postEvt h _ _ _) _ _ _

theorem leBytes_length (w n : Nat) : (leBytes w n).length = w := by
  induction w generalizing n with
  | zero => rfl
  | succ w ih => rw [leBytes, List.length_cons, ih]

/-- An address, or an address and a byte, fit one event entry. -/
theorem packItems_addr_length (a : Nat) : (packItems [(4, a)] []).length ≤ 14 := by
  simp [packItems, itemAlign, alignUp, zeros, leBytes_length]

theorem packItems_addr_byte_length (a b : Nat) : (packItems [(4, a), (1, b)] []).length ≤ 14 := by
  simp [packItems, itemAlign, alignUp, zeros, leBytes_length]

/-- An event whose fields fit one entry takes one number. -/
theorem State.raise_evtSeq (s : State) (code : Nat) {items : List (Nat × Nat)}
    (hfit : (packItems items []).length ≤ 14) : (s.raise code items).cx.evtSeq = seqNext s.cx.evtSeq := by
  unfold State.raise
  dsimp only
  rw [if_pos hfit, State.postEvt_evtSeq]

/-! ### The host's accesses to a register (R64, R454, R457, R520) -/

/-- An aligned word of a register range behind target `t`, to which the host has a path. -/
structure HostRegister (a t : Nat) : Prop where
  inRange : registerRange a = true
  target : busTarget a = some t
  accepted : hostCode a 15 = 0

theorem State.hostAccess_register {s : State} {a t : Nat} (hup : s.barUp = true) (ha : HostRegister a t) (write : Bool)
    (f : State → State) : s.hostAccess a 15 write f = f (s.granted t 2) := by
  have hlow : a < 0x00800000 := of_decide_eq_true (Bool.and_eq_true_iff.mp ha.inRange).1
  unfold State.hostAccess
  rw [if_neg (by omega), hup, if_neg (by decide), if_pos ha.accepted, ha.target, Option.getD_some]

/-- A register of stored fields alone: its write and read have no operation of their own, and nothing else of the state shows
in its word (R4, R518). -/
structure PlainRegister (a t : Nat) (d : RegDesc) : Prop extends HostRegister a t where
  described : ∃ i, regAt a = some (d, i)
  writeOwn_eq (s : State) (v : Nat) : s.writeOwn a v = none
  writeEffect_eq (s : State) (was v : Nat) : s.writeEffect a was v = s
  readLatch_eq (s : State) : s.readLatch a = none
  viewBits_eq (s : State) : s.viewBits a = 0

section PlainRegister

variable {s : State} {a t : Nat} {d : RegDesc}

theorem PlainRegister.regRead_eq (ha : PlainRegister a t d) (s : State) : s.regRead a = s.regWord a := by
  simp [State.regRead, ha.viewBits_eq]

theorem exec_registerWrite (ha : HostRegister a t) (hup : s.barUp = true) (v : Word) :
    exec (.registerWrite a 15 v) s = .next ((s.granted t 2).writeReg a v.toNat) := by
  show execRegisterWrite a 15 v s = _
  rw [execRegisterWrite, State.hostAccess_register hup ha, if_pos ha.inRange]
  rfl

/-- A read of a plain register returns its word and clears its RC fields (R7). -/
theorem exec_registerReadClear (ha : PlainRegister a t d) (hup : s.barUp = true) (upd : Option FieldUpdate) :
    exec (.registerReadClear a 15 upd) s =
      .next (({ s.granted t 2 with readData := s.regWord a } : State).clearRc a upd d.fields) := by
  obtain ⟨i, hreg⟩ := ha.described
  show execRegisterReadClear a 15 upd s = _
  rw [execRegisterReadClear, State.hostAccess_register hup ha.toHostRegister, if_pos ha.inRange, State.readReg,
    ha.readLatch_eq, ha.regRead_eq, hreg]
  rfl

/-! ### A write of a plain register (R3 to R5, R90) -/

/-- A value that meets no locked bit and keeps the range rules is stored. -/
theorem PlainRegister.writeReg_inRange (ha : PlainRegister a t d) {n v : Nat} (hlocks : s.lockedBits a d.fields = 0)
    (hmask : fieldMask d.fields (fun _ => true) = 2 ^ n - 1) (hrange : s.rangeOk a (v % 2 ^ n) = true) :
    s.writeReg a v = s.setRegWord a (BitVec.ofNat 32 (stored (s.regWord a).toNat (v % 2 ^ n) d.fields)) := by
  obtain ⟨i, hreg⟩ := ha.described
  simp [State.writeReg, ha.writeOwn_eq, ha.writeEffect_eq, hreg, hlocks, formed_unlocked _ _ hmask, hrange]

/-- A value that meets no locked bit and breaks a range rule raises the block's range event and stores nothing. -/
theorem PlainRegister.writeReg_outOfRange (ha : PlainRegister a t d) {n v : Nat} (hlocks : s.lockedBits a d.fields = 0)
    (hmask : fieldMask d.fields (fun _ => true) = 2 ^ n - 1) (hrange : s.rangeOk a (v % 2 ^ n) = false) :
    s.writeReg a v = s.rangeEvent a (v % 2 ^ n) := by
  obtain ⟨i, hreg⟩ := ha.described
  simp [State.writeReg, ha.writeOwn_eq, hreg, hlocks, formed_unlocked _ _ hmask, hrange]

/-- A write of the value that a register with every bit locked holds stores that value again, or raises the range event. -/
theorem PlainRegister.writeReg_locked_present (ha : PlainRegister a t d) (hlocks : s.lockedBits a d.fields = 2 ^ 32 - 1) :
    s.writeReg a (s.regWord a).toNat =
      if s.rangeOk a (s.regWord a).toNat then
        s.setRegWord a (BitVec.ofNat 32 (stored (s.regWord a).toNat (s.regWord a).toNat d.fields))
      else s.rangeEvent a (s.regWord a).toNat := by
  obtain ⟨i, hreg⟩ := ha.described
  have hlt : (s.regWord a).toNat < 2 ^ 32 := (s.regWord a).isLt
  simp only [State.writeReg, ha.writeOwn_eq, ha.writeEffect_eq, hreg, ha.regRead_eq, hlocks, formed_locked hlt hlt, ne_eq,
    not_true_eq_false, if_false]

/-- A write that would change a register with every bit locked reports it, and goes on as a write of the present value. -/
theorem PlainRegister.writeReg_locked_change (ha : PlainRegister a t d) (hne : a ≠ 0x1000C)
    (hlocks : s.lockedBits a d.fields = 2 ^ 32 - 1) {v : Word} (hv : v ≠ s.regWord a) :
    s.writeReg a v.toNat = (s.raise 0x0010 [(4, a)]).writeReg a (s.regWord a).toNat := by
  obtain ⟨i, hreg⟩ := ha.described
  have hlocks' : (s.raise 0x0010 [(4, a)]).lockedBits a d.fields = 2 ^ 32 - 1 := by
    rw [← hlocks]; simp only [State.lockedBits, State.raise_canvas, State.raise_locks]
  have hand (x : Word) : x.toNat &&& (2 ^ 32 - 1) = x.toNat := by
    rw [Nat.and_two_pow_sub_one_eq_mod, Nat.mod_eq_of_lt x.isLt]
  have hchange : v.toNat ≠ (s.regWord a).toNat := fun h => hv (BitVec.eq_of_toNat_eq h)
  simp only [State.writeReg, ha.writeOwn_eq, hreg, ha.regRead_eq, hlocks, hlocks', State.raise_regWord _ _ _ hne, hand,
    formed_locked (s.regWord a).isLt (BitVec.isLt _), if_pos hchange, ne_eq, not_true_eq_false, if_false]

end PlainRegister

/-- Outside THERMAL's block the locked bits are those that LOCK_LIST names (R90). -/
theorem State.lockedBits_eq_zero {s : State} {a : Nat} (hlist : tget 0 s.locks a = 0) (hblock : a / 0x10000 ≠ 0x4)
    (fs : List FieldDesc) : s.lockedBits a fs = 0 := by
  rw [State.lockedBits, hlist, if_neg hblock]
  simp

/-- Under an active Canvas a THERMAL register of locked fields over the whole word has every bit locked (R90, R553). -/
theorem State.lockedBits_thermal {s : State} {a : Nat} {fs : List FieldDesc} (hactive : s.canvas.active.isSome = true)
    (hblock : a / 0x10000 = 0x4) (hfields : fieldMask fs (fun f => f.acc == .rwl) = 2 ^ 32 - 1) :
    s.lockedBits a fs = 2 ^ 32 - 1 := by
  have hinactive : s.canvas.active.isNone = false := by simpa using hactive
  rw [State.lockedBits, hinactive, if_neg (by decide), if_pos hblock, hfields]
  exact le_antisymm (Nat.le_sub_one_of_lt (Nat.or_lt_two_pow (BitVec.isLt _) (by decide))) Nat.right_le_or

theorem State.granted_granted (s : State) (t m : Nat) : (s.granted t m).granted t m = s.granted t m := by
  simp [State.granted, List.modify_modify_eq, Function.comp_def]

end Sys2Proof.Machine
end

section
/-!
What the reads that clear do to a register's RC fields (R7).
-/

namespace Sys2Proof.Machine

/-- What every change of a fold keeps, the fold keeps. -/
theorem State.each_induction {α : Type} {P : State → Prop} {s : State} {l : List α} {f : State → α → State} (h : P s)
    (hf : ∀ u, ∀ x ∈ l, P u → P (f u x)) : P (s.each l f) := by
  induction l generalizing s with
  | nil => exact h
  | cons x xs ih => exact ih (hf s x (by simp) h) fun u y hy => hf u y (by simp [hy])

theorem State.setRc_stored (s : State) (a : Nat) {f : FieldDesc} (hf : f.stored = true) (v : Nat) :
    s.setRc a f v = s.setRegWord a (BitVec.ofNat 32 (putBits (s.regWord a).toNat f.hi f.lo v)) := by
  unfold State.setRc; exact if_pos hf

theorem State.regWord_setRc_same {s : State} (h : keysRise 0 s.regs = true) (a : Nat) {f : FieldDesc}
    (hf : f.stored = true) (v : Nat) :
    (s.setRc a f v).regWord a = BitVec.ofNat 32 (putBits (s.regWord a).toNat f.hi f.lo v) := by
  rw [s.setRc_stored a hf, State.regWord_setRegWord_same h]

theorem State.keysRise_setRc {s : State} (h : keysRise 0 s.regs = true) (a : Nat) {f : FieldDesc}
    (hf : f.stored = true) (v : Nat) : keysRise 0 (s.setRc a f v).regs = true := by
  rw [s.setRc_stored a hf]; exact State.keysRise_setRegWord h a _

theorem State.clearRc_of_no_rc (s : State) (a : Nat) (upd : Option FieldUpdate) {fs : List FieldDesc}
    (hfs : fs.filter (fun f => f.acc == .rc) = []) : s.clearRc a upd fs = s := by
  rw [State.clearRc, hfs]; rfl

section Stored

variable {fs : List FieldDesc} (hfs : ∀ f ∈ fs, f.stored = true) (s : State) (a : Nat) (upd : Option FieldUpdate)
include hfs

theorem State.regWord_clearRc_ne {b : Nat} (hne : b ≠ a) : (s.clearRc a upd fs).regWord b = s.regWord b := by
  refine State.each_induction (P := fun u => u.regWord b = s.regWord b) rfl fun u f hf hu => ?_
  rw [u.setRc_stored a (hfs f (List.mem_of_mem_filter hf)), u.regWord_setRegWord_ne hne, hu]

theorem State.readData_clearRc : (s.clearRc a upd fs).readData = s.readData := by
  refine State.each_induction (P := fun u => u.readData = s.readData) rfl fun u f hf hu => ?_
  rw [u.setRc_stored a (hfs f (List.mem_of_mem_filter hf)), State.setRegWord_readData, hu]

end Stored

end Sys2Proof.Machine
end

section
/-!
The registers that the statements about register accesses name: GEN_SCRATCHn, PWR_KEEP, THM_THR_E0, CX_ERR.
-/

namespace Sys2Proof.Machine

/-- GEN_SCRATCH0 to GEN_SCRATCH3. -/
def scratchReg : RegDesc := ⟨0x70, 4, 4, 0, 1, [⟨31, 0, .rws, true, fun _ => 0⟩]⟩

/-- PWR_KEEP. -/
def pwrKeepReg : RegDesc := ⟨0x30004, 0, 1, 0, 1, [⟨5, 0, .rw, true, fun _ => 10⟩]⟩

/-- THM_THR_E0. -/
def thmThrE0Reg : RegDesc :=
  ⟨0x40004, 0, 1, 0, 1, [⟨15, 0, .rwl, true, fun _ => 190⟩, ⟨31, 16, .rwl, true, fun _ => 200⟩]⟩

/-- The counts of CX_ERR. -/
def dbBadField : FieldDesc := ⟨7, 0, .rc, true, fun _ => 0⟩
def dupField : FieldDesc := ⟨15, 8, .rc, true, fun _ => 0⟩
def evtLostField : FieldDesc := ⟨31, 16, .rc, true, fun _ => 0⟩

/-- CX_ERR. -/
def cxErrReg : RegDesc := ⟨0x1000c, 0, 1, 0, 1, [dbBadField, dupField, evtLostField]⟩

theorem plainRegister_scratch : (n : Fin 4) → PlainRegister (0x70 + 4 * n.val) 0 scratchReg
  | 0 | 1 | 2 | 3 =>
    ⟨⟨by decide, by decide, by decide⟩, ⟨_, rfl⟩, fun _ _ => rfl, fun _ _ _ => rfl, fun _ => rfl, fun _ => rfl⟩

theorem plainRegister_pwrKeep : PlainRegister 0x30004 0 pwrKeepReg :=
  ⟨⟨by decide, by decide, by decide⟩, ⟨0, rfl⟩, fun _ _ => rfl, fun _ _ _ => rfl, fun _ => rfl, fun _ => rfl⟩

theorem plainRegister_thmThrE0 : PlainRegister 0x40004 11 thmThrE0Reg :=
  ⟨⟨by decide, by decide, by decide⟩, ⟨0, rfl⟩, fun _ _ => rfl, fun _ _ _ => rfl, fun _ => rfl, fun _ => rfl⟩

theorem plainRegister_cxErr : PlainRegister 0x1000C 0 cxErrReg :=
  ⟨⟨by decide, by decide, by decide⟩, ⟨0, rfl⟩, fun _ _ => rfl, fun _ _ _ => rfl, fun _ => rfl, fun _ => rfl⟩

theorem State.rangeOk_scratch (s : State) (v : Nat) : (n : Fin 4) → s.rangeOk (0x70 + 4 * n.val) v = true
  | 0 | 1 | 2 | 3 => rfl

theorem State.rangeOk_pwrKeep (s : State) (v : Nat) : s.rangeOk 0x30004 v = inRange v 1 60 := rfl

theorem State.rangeOk_thmThrE0 (s : State) (v : Nat) : s.rangeOk 0x40004 v = rangeThm 0x04 v := rfl

theorem State.fld_pwrKeep (s : State) : s.fld Reg.PWR_KEEP_INTERVAL = (s.regWord 0x30004).toNat % 64 :=
  (s.fld_eq_bitsOf Reg.PWR_KEEP_INTERVAL (by decide)).trans (congrArg (· % 64) (Nat.div_one _))

theorem State.rangeEvent_pwrKeep (s : State) (v : Nat) :
    s.rangeEvent 0x30004 v = s.raise 0x0305 [(4, 0x30004), (1, v % 64)] := by
  simp [State.rangeEvent]

theorem State.rangeEvent_thmThrE0 (s : State) (v : Nat) : s.rangeEvent 0x40004 v = s.raise 0x0407 [(4, 0x40004)] := by
  simp [State.rangeEvent, blockRangeCode]

end Sys2Proof.Machine
end

section
/-!
The statements about accesses to the registers and about the state before VAON first rises.
-/

namespace Sys2Proof.Machine

/-! ### GEN_SCRATCHn (R3, R4) -/

theorem exec_write_scratch {s : State} (hup : s.barUp = true) (n : Fin 4)
    (hlist : tget 0 s.locks (0x70 + 4 * n.val) = 0) (v : Word) :
    exec (.registerWrite (0x70 + 4 * n.val) 15 v) s = .next ((s.granted 0 2).setRegWord (0x70 + 4 * n.val) v) := by
  have hlocks : (s.granted 0 2).lockedBits (0x70 + 4 * n.val) scratchReg.fields = 0 :=
    State.lockedBits_eq_zero hlist (by omega) _
  have hmod : v.toNat % 2 ^ 32 = v.toNat := Nat.mod_eq_of_lt v.isLt
  rw [exec_registerWrite (plainRegister_scratch n).toHostRegister hup,
    (plainRegister_scratch n).writeReg_inRange hlocks (n := 32) rfl (State.rangeOk_scratch _ _ n),
    ofNat_stored _ _ rfl rfl, hmod, BitVec.ofNat_toNat, BitVec.setWidth_eq]

theorem exec_read_scratch {s : State} (hup : s.barUp = true) (n : Fin 4) :
    exec (.registerReadClear (0x70 + 4 * n.val) 15 none) s =
      .next { s.granted 0 2 with readData := s.regWord (0x70 + 4 * n.val) } := by
  rw [exec_registerReadClear (plainRegister_scratch n) hup, State.clearRc_of_no_rc _ _ _ rfl]

/-- Settles O5: the write is one store of the word in a block whose target is parked on the host, and the read returns it. -/
theorem scratchWriteReadsBack : Obligations.ScratchWriteReadsBack := by
  unfold Obligations.ScratchWriteReadsBack
  rintro s n v ⟨hrise, -⟩ hup hlist
  have hback := State.regWord_setRegWord_same (s := s.granted 0 2) hrise (0x70 + 4 * n.val) v
  refine ⟨_, exec_write_scratch hup n hlist v, hback, fun a ha => State.regWord_setRegWord_ne _ ha v, rfl, ?_⟩
  have hparked : ((s.granted 0 2).setRegWord (0x70 + 4 * n.val) v).granted 0 2 =
      (s.granted 0 2).setRegWord (0x70 + 4 * n.val) v :=
    congrArg (State.setRegWord · (0x70 + 4 * n.val) v) (s.granted_granted 0 2)
  rw [exec_read_scratch (by exact hup) n, hparked, hback]

/-! ### THM_THR_E0 and PWR_KEEP (R5, R90, R553) -/

/-- A write of THM_THR_E0's own value under an active Canvas: the value stays, and no event comes of a value in range. -/
theorem writeReg_thmThrE0_present {s : State} (hrise : keysRise 0 s.regs = true)
    (hactive : s.canvas.active.isSome = true) :
    (s.writeReg 0x40004 (s.regWord 0x40004).toNat).regWord 0x40004 = s.regWord 0x40004 ∧
      (rangeThm 0x04 (s.regWord 0x40004).toNat = true →
        (s.writeReg 0x40004 (s.regWord 0x40004).toNat).cx.evtSeq = s.cx.evtSeq) := by
  rw [plainRegister_thmThrE0.writeReg_locked_present (State.lockedBits_thermal hactive rfl rfl), State.rangeOk_thmThrE0]
  split_ifs with hrange
  · rw [State.regWord_setRegWord_same hrise, ofNat_stored _ _ rfl rfl]
    exact ⟨by simp, fun _ => rfl⟩
  · rw [State.rangeEvent_thmThrE0]
    exact ⟨s.raise_regWord _ _ (by decide), fun h => absurd h hrange⟩

/-- Any write of THM_THR_E0 under an active Canvas: a value other than the present one is reported, the present one stays. -/
theorem writeReg_thmThrE0_locked {s : State} (hrise : keysRise 0 s.regs = true)
    (hactive : s.canvas.active.isSome = true) (v : Word) :
    (s.writeReg 0x40004 v.toNat).regWord 0x40004 = s.regWord 0x40004 ∧
      (rangeThm 0x04 (s.regWord 0x40004).toNat = true →
        (v = s.regWord 0x40004 → (s.writeReg 0x40004 v.toNat).cx.evtSeq = s.cx.evtSeq) ∧
        (v ≠ s.regWord 0x40004 → (s.writeReg 0x40004 v.toNat).cx.evtSeq = seqNext s.cx.evtSeq)) := by
  by_cases hv : v = s.regWord 0x40004
  · subst hv
    obtain ⟨hkeep, hquiet⟩ := writeReg_thmThrE0_present hrise hactive
    exact ⟨hkeep, fun hrange => ⟨fun _ => hquiet hrange, fun h => absurd rfl h⟩⟩
  · have hsame := s.raise_regWord 0x0010 [(4, 0x40004)] (a := 0x40004) (by decide)
    obtain ⟨hkeep, hquiet⟩ := writeReg_thmThrE0_present (State.keysRise_raise hrise 0x0010 [(4, 0x40004)])
      (by rwa [State.raise_canvas])
    rw [hsame] at hkeep hquiet
    rw [plainRegister_thmThrE0.writeReg_locked_change (by decide) (State.lockedBits_thermal hactive rfl rfl) hv]
    refine ⟨hkeep, fun hrange => ⟨fun h => absurd h hv, fun _ => ?_⟩⟩
    rw [hquiet hrange, s.raise_evtSeq _ (packItems_addr_length _)]

section PwrKeep

variable {s : State} (hlist : tget 0 s.locks 0x30004 = 0) {v : Nat}
include hlist

/-- PWR_KEEP takes 1 to 60 s. -/
theorem writeReg_pwrKeep_inRange (hrise : keysRise 0 s.regs = true) (hv : 1 ≤ v % 64 ∧ v % 64 ≤ 60) :
    (s.writeReg 0x30004 v).fld Reg.PWR_KEEP_INTERVAL = v % 64 ∧ (s.writeReg 0x30004 v).cx = s.cx := by
  have hlocks : s.lockedBits 0x30004 pwrKeepReg.fields = 0 := State.lockedBits_eq_zero hlist (by decide) _
  have hrange : s.rangeOk 0x30004 (v % 2 ^ 6) = true := decide_eq_true hv
  have hstored := stored_mod (fs := pwrKeepReg.fields) (n := 6) (s.regWord 0x30004).toNat (v % 2 ^ 6) rfl rfl
  rw [plainRegister_pwrKeep.writeReg_inRange hlocks rfl hrange, State.fld_pwrKeep, State.regWord_setRegWord_same hrise,
    BitVec.toNat_ofNat]
  exact ⟨by omega, rfl⟩

/-- Another value leaves PWR_KEEP as it is and raises PWR_RANGE. -/
theorem writeReg_pwrKeep_outOfRange (hv : ¬(1 ≤ v % 64 ∧ v % 64 ≤ 60)) :
    (s.writeReg 0x30004 v).regWord 0x30004 = s.regWord 0x30004 ∧
      (s.writeReg 0x30004 v).cx.evtSeq = seqNext s.cx.evtSeq := by
  have hlocks : s.lockedBits 0x30004 pwrKeepReg.fields = 0 := State.lockedBits_eq_zero hlist (by decide) _
  have hrange : s.rangeOk 0x30004 (v % 2 ^ 6) = false := decide_eq_false hv
  rw [plainRegister_pwrKeep.writeReg_outOfRange hlocks rfl hrange, State.rangeEvent_pwrKeep]
  exact ⟨s.raise_regWord _ _ (by decide), s.raise_evtSeq _ (packItems_addr_byte_length _ _)⟩

end PwrKeep

/-- Settles O6: THM_THR_E0 has every bit locked under a Canvas; PWR_KEEP stores a value that keeps its range rule. -/
theorem registerWriteRules : Obligations.RegisterWriteRules := by
  unfold Obligations.RegisterWriteRules
  constructor
  · rintro s v ⟨hrise, -⟩ hup hactive
    exact ⟨_, exec_registerWrite plainRegister_thmThrE0.toHostRegister hup v,
      writeReg_thmThrE0_locked (s := s.granted 11 2) hrise hactive v⟩
  · rintro s v ⟨hrise, -⟩ hup hlist
    exact ⟨_, exec_registerWrite plainRegister_pwrKeep.toHostRegister hup v,
      writeReg_pwrKeep_inRange (s := s.granted 0 2) hlist hrise,
      writeReg_pwrKeep_outOfRange (s := s.granted 0 2) hlist⟩

/-! ### CX_ERR (R7) -/

/-- The three counts of CX_ERR fill its word, so putting 0, 0 and `k` into them leaves nothing of what it held. -/
theorem putBits_cxErr (w : Word) (k : Nat) :
    BitVec.ofNat 32 (putBits (BitVec.ofNat 32 (putBits (BitVec.ofNat 32 (putBits w.toNat 7 0 0)).toNat 15 8 0)).toNat
      31 16 k) = BitVec.ofNat 32 (65536 * k) := by
  apply BitVec.eq_of_toNat_eq
  have hw := w.isLt
  simp only [putBits, bitsOf, BitVec.toNat_ofNat]
  omega

/-- A read of CX_ERR clears its counts, or leaves in EVT_LOST the update of the same clock (R7). -/
theorem clearRc_cxErr (s : State) {upd : Option FieldUpdate} {k : Nat} (hk : k < 65536)
    (hupd : upd = none ∧ k = 0 ∨ upd = some ⟨31, 16, k⟩) :
    s.clearRc 0x1000C upd cxErrReg.fields =
      ((s.setRc 0x1000C dbBadField 0).setRc 0x1000C dupField 0).setRc 0x1000C evtLostField k := by
  rcases hupd with ⟨rfl, rfl⟩ | rfl
  · rfl
  · have hmin : min k 65535 = k := Nat.min_eq_left (by omega)
    simp [State.clearRc, State.each, cxErrReg, dbBadField, dupField, evtLostField, hmin]

theorem regWord_clearRc_cxErr {s : State} (hrise : keysRise 0 s.regs = true) {upd : Option FieldUpdate} {k : Nat}
    (hk : k < 65536) (hupd : upd = none ∧ k = 0 ∨ upd = some ⟨31, 16, k⟩) :
    (s.clearRc 0x1000C upd cxErrReg.fields).regWord 0x1000C = BitVec.ofNat 32 (65536 * k) := by
  have hrise₁ := State.keysRise_setRc hrise 0x1000C (f := dbBadField) rfl 0
  have hrise₂ := State.keysRise_setRc hrise₁ 0x1000C (f := dupField) rfl 0
  rw [clearRc_cxErr s hk hupd, State.regWord_setRc_same hrise₂ _ rfl, State.regWord_setRc_same hrise₁ _ rfl,
    State.regWord_setRc_same hrise _ rfl]
  exact putBits_cxErr _ k

/-- Settles O7: the read's word is taken before its RC fields are cleared, one store a field. -/
theorem readClearsAndKeepsTheUpdate : Obligations.ReadClearsAndKeepsTheUpdate := by
  unfold Obligations.ReadClearsAndKeepsTheUpdate
  rintro s k ⟨hrise, -⟩ hup hk
  have hstored : ∀ f ∈ cxErrReg.fields, f.stored = true := by
    simp [cxErrReg, dbBadField, dupField, evtLostField]
  have hread (upd : Option FieldUpdate) := exec_registerReadClear plainRegister_cxErr hup upd
  have hvalue {upd : Option FieldUpdate} {k : Nat} := regWord_clearRc_cxErr (upd := upd) (k := k)
    (s := { s.granted 0 2 with readData := s.regWord 0x1000C }) hrise
  exact ⟨⟨_, hread none, State.readData_clearRc hstored _ _ _, hvalue (by decide) (.inl ⟨rfl, rfl⟩),
      fun a ha => State.regWord_clearRc_ne hstored _ _ _ ha⟩,
    ⟨_, hread _, State.readData_clearRc hstored _ _ _, hvalue hk (.inr rfl)⟩⟩

/-! ### Reset (R6) -/

theorem regWord_reset (a : Nat) : State.reset.regWord a = resetWord a := rfl

theorem rings_reset (n : Nat) : State.reset.cx.rings.getD n {} = {} := by
  show (List.replicate 16 ({} : Ring)).getD n {} = {}
  rw [List.getD_eq_getElem?_getD, List.getElem?_replicate]
  split_ifs <;> rfl

/-- Every laser is off at reset. -/
theorem laserSafe_reset : LaserSafe State.reset := ⟨rfl, rfl, fun h => absurd rfl h⟩

/-- Settles O4: every field of the reset state has its default value, and no register is listed in its store. -/
theorem resetState : Obligations.ResetState := by
  unfold Obligations.ResetState
  exact ⟨regWord_reset, by decide +kernel, by decide +kernel, rfl, rfl, rfl, laserSafe_reset, rfl, rfl, rfl, rfl, rfl, rfl,
    rfl, rings_reset, rfl⟩

end Sys2Proof.Machine
end

section
/-!
The exchange around a command: when it is served, how it is answered, where its data goes (R66, R94, R428, R434, R437).
-/

namespace Sys2Proof.Machine

open Sys2Proof.Stated

/-! ### Rings -/

theorem State.ring_congr {s t : State} (h : t.cx.rings = s.cx.rings) (r : Nat) : t.ring r = s.ring r := by
  rw [State.ring, State.ring, h]

@[simp] theorem State.setRing_rings_length (s : State) (r : Nat) (x : Ring) :
    (s.setRing r x).cx.rings.length = s.cx.rings.length := by
  simp [State.setRing, lset]

theorem State.ring_setRing_same {s : State} {r : Nat} (h : r < s.cx.rings.length) (x : Ring) :
    (s.setRing r x).ring r = x := by
  simp [State.setRing, State.ring, lget, lset, h]

@[simp] theorem State.coalesce_rings (s : State) (src : Nat) : (s.coalesce src).cx.rings = s.cx.rings := by
  unfold State.coalesce; dsimp only; split <;> rfl

@[simp] theorem State.coalesce_host (s : State) (src : Nat) : (s.coalesce src).host = s.host := by
  unfold State.coalesce; dsimp only; split <;> rfl

/-! ### Completions -/

section Completion

variable {s : State} {tag : CmdTag} (hr : tag.ring < s.cx.rings.length)
include hr

/-- An entry that goes out or is held leaves the ring's number as it is. -/
theorem State.produce_ring (dev : Nat) (entry : Bytes) :
    ((s.produce tag.ring dev entry).ring tag.ring).devSeq = (s.ring tag.ring).devSeq ∧
      (s.produce tag.ring dev entry).cx.rings.length = s.cx.rings.length := by
  unfold State.produce
  dsimp only
  split_ifs
  · rw [State.ring_congr (State.coalesce_rings _ _), State.coalesce_rings]
    exact ⟨rfl, rfl⟩
  · rw [State.ring_setRing_same hr, State.setRing_rings_length]
    exact ⟨rfl, rfl⟩

/-- A completion takes the ring's next number (R434). -/
theorem State.postCompletion_ring (st flags : Nat) (d : Bytes) :
    ((s.postCompletion tag st flags d).ring tag.ring).devSeq = seqNext (s.ring tag.ring).devSeq ∧
      (s.postCompletion tag st flags d).cx.rings.length = s.cx.rings.length := by
  have hset (x : Ring) : tag.ring < (s.setRing tag.ring x).cx.rings.length := by rwa [State.setRing_rings_length]
  obtain ⟨hdev, hlen⟩ := State.produce_ring (hset _) _ _
  exact ⟨hdev.trans (congrArg Ring.devSeq (State.ring_setRing_same hr _)), hlen.trans (State.setRing_rings_length _ _ _)⟩

end Completion

/-- What a completion is: a result record or none, an entry, and the command's place in the duplicate window. -/
theorem State.completeWith_cases (s : State) (tag : CmdTag) (st : Nat) (d : List (Nat × Nat)) (w : Bool) :
    ∃ (u : State) (flags : Nat) (x : Ring), u.cx = s.cx ∧ (tag.resultAddr = 0 → u = s) ∧
      x.devSeq = ((u.postCompletion tag st flags (packItems d [])).ring tag.ring).devSeq ∧
      (tag.reqId ≠ 0 → (x.window.getLast?).map DupEntry.status = some st) ∧
      s.completeWith tag st d w = (u.postCompletion tag st flags (packItems d [])).setRing tag.ring x := by
  refine ⟨_, _, _, ?_, ?_, ?_, ?_, rfl⟩
  · split_ifs <;> rfl
  · intro hres
    rw [if_neg (by simp [hres])]
  · rfl
  · intro hreq
    simp [hreq]

/-- A completion numbers its entry and stands newest in the duplicate window (R434, R437). -/
theorem State.completeWith_answered {s : State} {tag : CmdTag} (hr : tag.ring < s.cx.rings.length) (st : Nat)
    (d : List (Nat × Nat)) (w : Bool) : Answered s (s.completeWith tag st d w) tag st := by
  obtain ⟨u, flags, x, hcx, -, hdev, hwin, heq⟩ := s.completeWith_cases tag st d w
  have hru : tag.ring < u.cx.rings.length := by rwa [hcx]
  obtain ⟨hseq, hlen⟩ := State.postCompletion_ring hru st flags (packItems d [])
  rw [Answered, heq, State.ring_setRing_same (by rwa [hlen]), hdev, hseq, State.ring_congr (congrArg CxSt.rings hcx)]
  exact ⟨rfl, hwin⟩

/-! ### Served commands (R66, R94) -/

/-- A module that serves carries a command out. -/
theorem State.serve_eq {s : State} (hs : Serves s) (tag : CmdTag) (op : Nat) (body : State → State) :
    s.serve tag op body = body (s.begin tag op) := by
  obtain ⟨hstarted, hlost, -⟩ := hs
  have hgate : (s.begin tag op).gate op = none := by
    have hstarted' : (s.begin tag op).started = true := hstarted
    simp [State.gate, hstarted', hlost]
  rw [State.serve, hgate]

theorem State.begin_devSeq {s : State} {tag : CmdTag} (hr : tag.ring < s.cx.rings.length) (op : Nat) :
    ((s.begin tag op).ring tag.ring).devSeq = (s.ring tag.ring).devSeq := by
  rw [State.begin, State.ring_setRing_same hr]

/-- A command that was accepted and whose work left the exchange alone is answered by its completion. -/
theorem answered_of_begun {s u : State} {tag : CmdTag} {op : Nat} (hs : Serves s) (hu : u.cx = (s.begin tag op).cx)
    (st : Nat) (d : List (Nat × Nat)) (w : Bool) : Answered s (u.completeWith tag st d w) tag st := by
  obtain ⟨-, -, hlen⟩ := hs
  have hr : tag.ring < s.cx.rings.length := by omega
  have hrings : u.cx.rings = (s.begin tag op).cx.rings := congrArg CxSt.rings hu
  have hru : tag.ring < u.cx.rings.length := by rw [hrings]; exact hr.trans_eq (State.setRing_rings_length _ _ _).symm
  obtain ⟨hdev, hwin⟩ := State.completeWith_answered hru st d w
  rw [State.ring_congr hrings, State.begin_devSeq hr] at hdev
  exact ⟨hdev, hwin⟩

/-! ### What a command leaves alone -/

theorem exchangeOnly_of_lessExchange {s t : State} (h : t.lessExchange = s.lessExchange) : ExchangeOnly s t :=
  show ({ t.lessExchange with cx := s.cx, host := s.host } : State) = s by rw [h]; rfl

/-- A completion of an accepted command whose work changed no more than the exchange. -/
theorem exchangeOnly_completeWith {s u : State} (hu : u.lessExchange = s.lessExchange) (tag : CmdTag) (st : Nat)
    (d : List (Nat × Nat)) (w : Bool) : ExchangeOnly s (u.completeWith tag st d w) :=
  exchangeOnly_of_lessExchange ((State.completeWith_lessExchange u tag st d w).trans hu)

/-- A command that is accepted and completed at once is refused with its status. -/
theorem refused_of_begun {s : State} (hs : Serves s) (tag : CmdTag) (op st : Nat) (d : List (Nat × Nat)) :
    Refused s ((s.begin tag op).complete tag st d) tag st :=
  ⟨answered_of_begun hs rfl st d false, exchangeOnly_completeWith (State.begin_lessExchange s tag op) tag st d false⟩

/-! ### OUT_ADDR data (R428, R434) -/

theorem padTo_length (n : Nat) (b : Bytes) : (padTo n b).length = n := by
  simp [padTo, zeros]

theorem State.fld_congr {s t : State} (h : t.regs = s.regs) (f : FieldRef) : t.fld f = s.fld f := by
  rw [State.fld, State.fld, h]

theorem State.flag_congr {s t : State} (h : t.regs = s.regs) (f : FieldRef) : t.flag f = s.flag f := by
  rw [State.flag, State.flag, State.fld_congr h]

/-- Whether a ring takes a completion depends on the registers, the link and the ring's doorbell. -/
theorem State.ringTakes_congr {s t : State} {r : Nat} (hregs : t.regs = s.regs) (hdma : t.dmaOk = s.dmaOk)
    (hcq : (t.ring r).cqDb = (s.ring r).cqDb) (dev : Nat) : t.ringTakes r dev = s.ringTakes r dev := by
  rw [State.ringTakes, State.ringTakes, State.flag_congr hregs, hdma, hcq]

/-- The place of a ring's completion entry in host memory. -/
def State.cqPlace (s : State) (r dev : Nat) : Nat :=
  s.fld (Reg.CX_RING_CQ_BASE_LO_BASE r) + 2 ^ 32 * s.fld (Reg.CX_RING_CQ_BASE_HI_BASE r) + 32 * (dev % 4096)

theorem State.cqPlace_congr {s t : State} (h : t.regs = s.regs) (r dev : Nat) : t.cqPlace r dev = s.cqPlace r dev := by
  rw [State.cqPlace, State.cqPlace, State.fld_congr h, State.fld_congr h]

theorem State.produce_host {s : State} {r dev : Nat} (htakes : s.ringTakes r dev = true) (hheld : (s.ring r).held = [])
    (entry : Bytes) : (s.produce r dev entry).host = putBytes s.host (s.cqPlace r dev) entry := by
  rw [State.produce]
  dsimp only
  rw [if_pos ⟨htakes, hheld⟩, State.coalesce_host]
  rfl

/-- Where the ring takes it, a completion entry of 32 bytes goes to its place of the ring. -/
theorem State.postCompletion_host {s : State} {tag : CmdTag} (hr : tag.ring < s.cx.rings.length)
    (hheld : (s.ring tag.ring).held = [])
    (htakes : s.ringTakes tag.ring (seqNext (s.ring tag.ring).devSeq) = true) (st flags : Nat) (d : Bytes) :
    ∃ entry : Bytes, entry.length = 32 ∧ (s.postCompletion tag st flags d).host =
      putBytes s.host (s.cqPlace tag.ring (seqNext (s.ring tag.ring).devSeq)) entry := by
  have hring (x : Ring) : (s.setRing tag.ring x).ring tag.ring = x := State.ring_setRing_same hr x
  have hproduce (x : Ring) (hcq : x.cqDb = (s.ring tag.ring).cqDb) (hx : x.held = []) (entry : Bytes) :
      ((s.setRing tag.ring x).produce tag.ring (seqNext (s.ring tag.ring).devSeq) entry).host =
        putBytes s.host (s.cqPlace tag.ring (seqNext (s.ring tag.ring).devSeq)) entry := by
    have htakes' : (s.setRing tag.ring x).ringTakes tag.ring (seqNext (s.ring tag.ring).devSeq) = true := by
      rw [State.ringTakes_congr (s := s) (t := s.setRing tag.ring x) rfl rfl (by rw [hring, hcq]), htakes]
    rw [State.produce_host htakes' (by rw [hring, hx]), State.cqPlace_congr (s := s) (t := s.setRing tag.ring x) rfl]
    rfl
  refine ⟨_, ?_, hproduce _ ?_ ?_ _⟩
  · simp only [List.length_append, leBytes_length, padTo_length]
  · rfl
  · exact hheld

@[simp] theorem State.outData_cx (s : State) (tag : CmdTag) (a : Nat) (b : Bytes) : (s.outData tag a b).cx = s.cx := by
  unfold State.outData; split <;> rfl

/-- The data of an accepted command, then its completion entry, go to host memory. -/
theorem delivered_of_begun {s : State} (hs : Serves s) (tag : CmdTag) (op addr st : Nat) (data : Bytes)
    (d : List (Nat × Nat)) (w : Bool) :
    Delivered s (((s.begin tag op).outData tag addr data).completeWith tag st d w) tag addr data := by
  obtain ⟨-, -, hlen⟩ := hs
  intro hwritable hres hheld htakes
  have hr : tag.ring < s.cx.rings.length := by omega
  have hout : (s.begin tag op).outData tag addr data = (s.begin tag op).hostWrite addr data := if_pos hwritable
  obtain ⟨v, hv⟩ : ∃ v, v = (s.begin tag op).hostWrite addr data := ⟨_, rfl⟩
  have hrv : tag.ring < v.cx.rings.length := by rw [hv]; exact hr.trans_eq (State.setRing_rings_length _ _ _).symm
  have hring : v.ring tag.ring = { s.ring tag.ring with
      running := (s.ring tag.ring).running ++ [{ tag := tag, opcode := op, since := s.clk, toldAt := s.clk }] } := by
    rw [hv]; exact State.ring_setRing_same hr _
  have hdev : (v.ring tag.ring).devSeq = (s.ring tag.ring).devSeq := by rw [hring]
  have htakes' : v.ringTakes tag.ring (seqNext (v.ring tag.ring).devSeq) = true := by
    rw [hdev, State.ringTakes_congr (s := s) (by rw [hv]; rfl) (by rw [hv]; rfl) (by rw [hring])]
    exact htakes
  obtain ⟨u, flags, x, -, hu, -, -, heq⟩ := v.completeWith_cases tag st d w
  obtain ⟨entry, hentry, hhost⟩ :=
    State.postCompletion_host hrv (by rw [hring]; exact hheld) htakes'
    st flags (packItems d [])
  have hhostv : v.host = putBytes s.host addr data := by rw [hv]; rfl
  refine ⟨entry, hentry, ?_⟩
  rw [hout, ← hv, heq, hu hres]
  refine hhost.trans ?_
  rw [hdev, hhostv, State.cqPlace_congr (s := s) (by rw [hv]; rfl)]
  rfl

end Sys2Proof.Machine
end

section
/-!
What the passing of time, the egress of member ports, and the ends and openings of burst intervals leave alone.
-/

namespace Sys2Proof.Machine

open Sys2Proof.Stated

/-! ### Time (R376, R377) -/

@[simp] theorem State.waitClk_clk (s : State) (t : Nat) : (s.waitClk t).clk = max s.clk t :=
  show s.clk + (t - s.clk) = max s.clk t by omega

/-- Waiting for a module time moves nothing but time. -/
theorem State.waitTime_timeOnly (s : State) (t : Nat) : TimeOnly s (s.waitTime t) := by
  unfold State.waitTime; dsimp only; split_ifs <;> rfl

/-- Module time reads exactly the instant waited for, where it lay ahead. -/
@[simp] theorem State.waitTime_now (s : State) (t : Nat) : (s.waitTime t).time.now = max s.time.now t := by
  rcases lt_or_ge s.time.now t with hahead | hpast
  · rw [State.waitTime, if_pos hahead, max_eq_right hahead.le]
  · rw [State.waitTime, if_neg (not_lt.mpr hpast), max_eq_left hpast]

@[simp] theorem State.waitTime_mode (s : State) (t : Nat) : (s.waitTime t).mode = s.mode := by
  have h := congrArg State.mode (s.waitTime_timeOnly t); exact h
@[simp] theorem State.waitTime_pwr (s : State) (t : Nat) : (s.waitTime t).pwr = s.pwr := by
  have h := congrArg State.pwr (s.waitTime_timeOnly t); exact h
@[simp] theorem State.waitTime_orb (s : State) (t : Nat) : (s.waitTime t).orb = s.orb := by
  have h := congrArg State.orb (s.waitTime_timeOnly t); exact h
@[simp] theorem State.waitTime_mx (s : State) (t : Nat) : (s.waitTime t).mx = s.mx := by
  have h := congrArg State.mx (s.waitTime_timeOnly t); exact h
@[simp] theorem State.waitTime_cx (s : State) (t : Nat) : (s.waitTime t).cx = s.cx := by
  have h := congrArg State.cx (s.waitTime_timeOnly t); exact h
@[simp] theorem State.waitTime_regs (s : State) (t : Nat) : (s.waitTime t).regs = s.regs := by
  have h := congrArg State.regs (s.waitTime_timeOnly t); exact h
@[simp] theorem State.waitTime_canvas (s : State) (t : Nat) : (s.waitTime t).canvas = s.canvas := by
  have h := congrArg State.canvas (s.waitTime_timeOnly t); exact h

/-! ### Events -/

@[simp] theorem State.postEvt_rings (s : State) (code fl : Nat) (d : Bytes) :
    (s.postEvt code fl d).cx.rings = s.cx.rings := by
  unfold State.postEvt
  dsimp only
  rw [apply_ite State.cx, ite_self, apply_ite State.cx, apply_ite CxSt.rings, State.coalesce_rings, State.hostWrite_cx,
    State.bump_cx, ite_self]
  split_ifs
  · rw [State.logPages_cx]
  · rw [State.count_cx]

@[simp] theorem State.raise_rings (s : State) (code : Nat) (l : List (Nat × Nat)) :
    (s.raise code l).cx.rings = s.cx.rings := by
  unfold State.raise
  dsimp only
  split_ifs <;> simp only [State.postEvt_rings]

@[simp] theorem State.raiseLim_rings (s : State) (code sub : Nat) (l : List (Nat × Nat)) :
    (s.raiseLim code sub l).cx.rings = s.cx.rings := by
  unfold State.raiseLim
  dsimp only
  split
  · split_ifs
    · rfl
    · rw [State.raise_rings]
  · rw [State.raise_rings]

/-! ### Egress of member ports (R270, R331 to R333, R351, R369 to R373) -/

/-- The state without what events, back-pressure and the frames that start on member ports can change. -/
def State.lessEgress (s : State) : State := { s.lessEvents with tm := {}, ports := [], cx := { rings := s.cx.rings } }

theorem State.lessEgress_of_lessEvents {s t : State} (h : t.lessEvents = s.lessEvents)
    (hrings : t.cx.rings = s.cx.rings) : t.lessEgress = s.lessEgress := by
  rw [State.lessEgress, State.lessEgress, h, hrings]

@[simp] theorem State.raise_lessEgress (s : State) (code : Nat) (l : List (Nat × Nat)) :
    (s.raise code l).lessEgress = s.lessEgress :=
  State.lessEgress_of_lessEvents (State.raise_lessEvents s code l) (State.raise_rings s code l)

@[simp] theorem State.raiseLim_lessEgress (s : State) (code sub : Nat) (l : List (Nat × Nat)) :
    (s.raiseLim code sub l).lessEgress = s.lessEgress :=
  State.lessEgress_of_lessEvents (State.raiseLim_lessEvents s code sub l) (State.raiseLim_rings s code sub l)

@[simp] theorem State.coalesce_lessEgress (s : State) (src : Nat) : (s.coalesce src).lessEgress = s.lessEgress :=
  State.lessEgress_of_lessEvents (State.coalesce_lessEvents s src) (State.coalesce_rings s src)

@[simp] theorem State.count_lessEgress (s : State) (a n : Nat) : (s.count a n).lessEgress = s.lessEgress := rfl
@[simp] theorem State.setPq_lessEgress (s : State) (p : Nat) (x : PortQ) : (s.setPq p x).lessEgress = s.lessEgress := rfl
@[simp] theorem State.setPort_lessEgress (s : State) (p : Nat) (x : PortSt) :
    (s.setPort p x).lessEgress = s.lessEgress := rfl
@[simp] theorem State.hostWrite_lessEgress (s : State) (a : Nat) (b : Bytes) :
    (s.hostWrite a b).lessEgress = s.lessEgress := rfl
@[simp] theorem State.setFqRx_lessEgress (s : State) (q : Nat) (d : FqDir) :
    (s.setFqRx q d).lessEgress = s.lessEgress := rfl
@[simp] theorem State.setCredit_lessEgress (s : State) (p n : Nat) (c : Int) (r : Nat) :
    (s.setCredit p n c r).lessEgress = s.lessEgress := rfl
@[simp] theorem State.nextSeq_lessEgress (s : State) (k : Nat) : (s.nextSeq k).2.lessEgress = s.lessEgress := rfl

@[simp] theorem State.lessEgress_tm (s : State) (x : TmSt) :
    ({ s with tm := x } : State).lessEgress = s.lessEgress := rfl

@[simp] theorem State.lessEgress_ite (c : Prop) [Decidable c] (a b : State) :
    (if c then a else b).lessEgress = if c then a.lessEgress else b.lessEgress := by
  split <;> rfl

theorem State.each_lessEgress {α : Type} (s : State) (l : List α) {f : State → α → State}
    (hf : ∀ u x, (f u x).lessEgress = u.lessEgress) : (s.each l f).lessEgress = s.lessEgress :=
  State.each_induction (P := fun u => u.lessEgress = s.lessEgress) rfl fun u x _ hu => (hf u x).trans hu

@[simp] theorem State.deliver_lessEgress (s : State) (q : Nat) (d : Bytes) :
    (s.deliver q d).2.lessEgress = s.lessEgress := by
  unfold State.deliver
  dsimp only
  split
  · split
    · rw [State.count_lessEgress, State.ringFault, State.raiseLim_lessEgress, State.setFqRx_lessEgress]
    · rw [State.coalesce_lessEgress, State.setFqRx_lessEgress]
      simp only [State.hostWrite_lessEgress]
  · rfl

@[simp] theorem State.writeBack_lessEgress (s : State) (r : LaunchRef) (st : Nat) (stamp : Option Nat) :
    (s.writeBack r st stamp).lessEgress = s.lessEgress := by
  unfold State.writeBack
  dsimp only
  split_ifs
  · rw [State.coalesce_lessEgress, State.hostWrite_lessEgress]
  · rfl

@[simp] theorem State.mirrorDrop_lessEgress (s : State) (n c : Nat) : (s.mirrorDrop n c).lessEgress = s.lessEgress := by
  rw [State.mirrorDrop, State.raiseLim_lessEgress, State.count_lessEgress]

@[simp] theorem State.mirrorCopy_lessEgress (s : State) (n : Nat) (i : CopyInfo) (f : Bytes) (p : Nat) (bad : Bool) :
    (s.mirrorCopy n i f p bad).lessEgress = s.lessEgress := by
  unfold State.mirrorCopy
  dsimp only
  split
  · rfl
  · split
    · simp
    · split <;> simp [State.newBuf, State.enqueue]

@[simp] theorem State.sample_lessEgress (s : State) (p dir : Nat) (i : CopyInfo) (f : Bytes) (seq : Nat) :
    (s.sample p dir i f seq).lessEgress = s.lessEgress := by
  unfold State.sample
  dsimp only
  split_ifs
  · rw [State.deliver_lessEgress, State.count_lessEgress]
  · rw [State.raiseLim_lessEgress, State.count_lessEgress, State.deliver_lessEgress, State.count_lessEgress]

@[simp] theorem State.sendPause_lessEgress (s : State) (p on off : Nat) :
    (s.sendPause p on off).lessEgress = s.lessEgress := by
  simp [State.sendPause]

@[simp] theorem State.pausePort_lessEgress (s : State) (p : Nat) : (s.pausePort p).lessEgress = s.lessEgress := by
  unfold State.pausePort
  dsimp only
  split_ifs <;> simp

@[simp] theorem State.pressure_lessEgress (s : State) : s.pressure.lessEgress = s.lessEgress := by
  unfold State.pressure
  dsimp only
  split_ifs
  · rfl
  · exact State.each_lessEgress _ _ State.pausePort_lessEgress

@[simp] theorem State.chargeShapers_lessEgress (s : State) (p c len : Nat) :
    (s.chargeShapers p c len).lessEgress = s.lessEgress := by
  unfold State.chargeShapers
  dsimp only
  split_ifs <;> rfl

@[simp] theorem State.startFrame_lessEgress (s : State) (p : Nat) (f : Frame) :
    (s.startFrame p f).lessEgress = s.lessEgress := by
  unfold State.startFrame
  dsimp only
  simp

@[simp] theorem State.admitHeld_lessEgress (s : State) (p : Nat) : (s.admitHeld p).lessEgress = s.lessEgress := by
  unfold State.admitHeld
  dsimp only
  split
  · split_ifs <;> rfl
  · rfl

@[simp] theorem State.launchLate_lessEgress (s : State) (p : Nat) (l : Launch) (ns : Nat) :
    (s.launchLate p l ns).lessEgress = s.lessEgress := by
  rw [State.launchLate, State.writeBack_lessEgress, State.raiseLim_lessEgress, State.count_lessEgress]

@[simp] theorem State.kickQueue_lessEgress (s : State) (p : Nat) : (s.kickQueue p).lessEgress = s.lessEgress := by
  unfold State.kickQueue
  split
  · split
    · rw [State.startFrame_lessEgress, State.chargeShapers_lessEgress]; rfl
    · rfl
  · rfl

@[simp] theorem kickPort_lessEgress (p fuel : Nat) (s : State) : (kickPort p fuel s).lessEgress = s.lessEgress := by
  induction fuel generalizing s with
  | zero => rfl
  | succ fuel ih =>
    unfold kickPort
    dsimp only
    split
    · rfl
    · split
      · simp
      · split
        · rfl
        · split
          · split
            · split <;> simp [ih]
            · simp
          · simp

/-- The choice of frames and the pauses move nothing but the queues, the ports and what events move. -/
@[simp] theorem State.settle_lessEgress (s : State) : s.settle.lessEgress = s.lessEgress := by
  have hkick (u : State) (p : Nat) : (u.kick p).lessEgress = u.lessEgress := kickPort_lessEgress p 65 u
  rw [State.settle]
  rw [State.each_lessEgress _ _ hkick, State.pressure_lessEgress, State.each_lessEgress _ _ hkick,
    State.pressure_lessEgress]

@[simp] theorem State.settle_mode (s : State) : s.settle.mode = s.mode := by
  have h := congrArg State.mode s.settle_lessEgress; exact h
@[simp] theorem State.settle_orb (s : State) : s.settle.orb = s.orb := by
  have h := congrArg State.orb s.settle_lessEgress; exact h
@[simp] theorem State.settle_mx (s : State) : s.settle.mx = s.mx := by
  have h := congrArg State.mx s.settle_lessEgress; exact h
@[simp] theorem State.settle_time (s : State) : s.settle.time = s.time := by
  have h := congrArg State.time s.settle_lessEgress; exact h
@[simp] theorem State.settle_rings (s : State) : s.settle.cx.rings = s.cx.rings := by
  have h := congrArg (·.cx.rings) s.settle_lessEgress; exact h

end Sys2Proof.Machine
end

section
/-!
What the ends and the openings of burst intervals leave alone (R20, R22, R155, R242); how a slot opens and the sequencer
votes (R154, R161, R162).
-/

namespace Sys2Proof.Machine

/-! ### The end of an interval's bursts (R22, R274) -/

/-- The state without what the ends of bursts change. -/
def State.lessBursts (s : State) : State := { s with lanes := [], obs := {}, out := [] }

theorem State.count_lessBursts (s : State) (a n : Nat) : (s.count a n).lessBursts = s.lessBursts := rfl
theorem State.setLane_lessBursts (s : State) (n : Nat) (l : LaneSt) : (s.setLane n l).lessBursts = s.lessBursts := rfl
theorem State.emit_lessBursts (s : State) (o : Out) : (s.emit o).lessBursts = s.lessBursts := rfl

theorem State.closeBurst_lessBursts (s : State) (i : Nat) : (s.closeBurst i).lessBursts = s.lessBursts := by
  unfold State.closeBurst
  dsimp only
  split_ifs <;> simp only [State.emit_lessBursts, State.setLane_lessBursts, State.count_lessBursts]

theorem State.closeBursts_lessBursts (s : State) : s.closeBursts.lessBursts = s.lessBursts :=
  State.each_induction (P := fun u => u.lessBursts = s.lessBursts) rfl fun u i _ hu => (u.closeBurst_lessBursts i).trans hu

@[simp] theorem State.closeBursts_mode (s : State) : s.closeBursts.mode = s.mode := by
  have h := congrArg State.mode s.closeBursts_lessBursts; exact h
@[simp] theorem State.closeBursts_pwr (s : State) : s.closeBursts.pwr = s.pwr := by
  have h := congrArg State.pwr s.closeBursts_lessBursts; exact h
@[simp] theorem State.closeBursts_orb (s : State) : s.closeBursts.orb = s.orb := by
  have h := congrArg State.orb s.closeBursts_lessBursts; exact h
@[simp] theorem State.closeBursts_mx (s : State) : s.closeBursts.mx = s.mx := by
  have h := congrArg State.mx s.closeBursts_lessBursts; exact h
@[simp] theorem State.closeBursts_time (s : State) : s.closeBursts.time = s.time := by
  have h := congrArg State.time s.closeBursts_lessBursts; exact h
@[simp] theorem State.closeBursts_cx (s : State) : s.closeBursts.cx = s.cx := by
  have h := congrArg State.cx s.closeBursts_lessBursts; exact h
@[simp] theorem State.closeBursts_canvas (s : State) : s.closeBursts.canvas = s.canvas := by
  have h := congrArg State.canvas s.closeBursts_lessBursts; exact h

/-! ### The opening of an interval (R20, R242) -/

/-- The state without what the return of the switching sections and its event change. -/
def State.lessReturn (s : State) : State :=
  { s.lessEgress with dac := {}, mx := { palette := s.mx.palette, apply := s.mx.apply } }

theorem State.putSwatch_lessReturn (s : State) (n b : Nat) : (s.putSwatch n b).lessReturn = s.lessReturn := rfl

theorem State.raise_lessReturn (s : State) (code : Nat) (l : List (Nat × Nat)) :
    (s.raise code l).lessReturn = s.lessReturn := by
  rw [State.lessReturn, State.raise_lessEgress, State.raise_mx]; rfl

theorem State.dacReturn_lessReturn (s : State) : s.dacReturn.lessReturn = s.lessReturn := by
  unfold State.dacReturn
  dsimp only
  split_ifs
  · rw [State.raise_lessReturn]
    split <;> rfl
  · rfl

@[simp] theorem State.dacReturn_orb (s : State) : s.dacReturn.orb = s.orb := by
  have h := congrArg State.orb s.dacReturn_lessReturn; exact h
@[simp] theorem State.dacReturn_time (s : State) : s.dacReturn.time = s.time := by
  have h := congrArg State.time s.dacReturn_lessReturn; exact h
@[simp] theorem State.dacReturn_palette (s : State) : s.dacReturn.mx.palette = s.mx.palette := by
  have h := congrArg (·.mx.palette) s.dacReturn_lessReturn; exact h
@[simp] theorem State.dacReturn_apply (s : State) : s.dacReturn.mx.apply = s.mx.apply := by
  have h := congrArg (·.mx.apply) s.dacReturn_lessReturn; exact h
@[simp] theorem State.dacReturn_rings (s : State) : s.dacReturn.cx.rings = s.cx.rings := by
  have h := congrArg (·.cx.rings) s.dacReturn_lessReturn; exact h

section OpenInterval

variable (s : State) (b e : Nat)

@[simp] theorem State.openInterval_orb : (s.openInterval b e).orb = { s.orb with
    intStart := b, intEnd := e, intLen := e - b, intBurst := decide (e ≥ b + s.minInterval) } :=
  State.dacReturn_orb _

@[simp] theorem State.openInterval_time : (s.openInterval b e).time = s.time := State.dacReturn_time _
@[simp] theorem State.openInterval_palette : (s.openInterval b e).mx.palette = s.mx.palette := State.dacReturn_palette _
@[simp] theorem State.openInterval_apply : (s.openInterval b e).mx.apply = s.mx.apply := State.dacReturn_apply _
@[simp] theorem State.openInterval_rings : (s.openInterval b e).cx.rings = s.cx.rings := State.dacReturn_rings _

end OpenInterval

@[simp] theorem State.putSwatch_inForce (s : State) (n b : Nat) : (s.putSwatch n b).mx.inForce = some n := rfl
@[simp] theorem State.putSwatch_apply (s : State) (n b : Nat) : (s.putSwatch n b).mx.apply = s.mx.apply := rfl
@[simp] theorem State.putSwatch_palette (s : State) (n b : Nat) : (s.putSwatch n b).mx.palette = s.mx.palette := rfl
@[simp] theorem State.putSwatch_orb (s : State) (n b : Nat) : (s.putSwatch n b).orb = s.orb := rfl
@[simp] theorem State.putSwatch_time (s : State) (n b : Nat) : (s.putSwatch n b).time = s.time := rfl
@[simp] theorem State.putSwatch_cx (s : State) (n b : Nat) : (s.putSwatch n b).cx = s.cx := rfl

/-- The grid of the burst period depends on the Canvas alone (R20). -/
theorem State.gridAfter_congr {s t : State} (h : t.canvas = s.canvas) (i : Nat) : t.gridAfter i = s.gridAfter i := by
  have hperiod : t.burstPeriod = s.burstPeriod := by
    simp only [State.burstPeriod, State.system, State.section, h]
  rw [State.gridAfter, State.gridAfter, hperiod]

/-! ### Slots (R154, R161, R162) -/

/-- The sequencer without what the opening of a slot and of its interval sets. -/
def OrbitSt.lessSlot (o : OrbitSt) : OrbitSt :=
  { o with slot := 0, boundary := 0, egrGate := [], pktGate := 0, targets := [], barred := 0, intStart := 0, intEnd := 0,
           intLen := 0, intBurst := false, replicas := [] }

section OpenSlot

variable (s : State) (b : OrbitBank) (k t e : Nat)

/-- A slot opens with its swatch in force. -/
@[simp] theorem State.openSlot_inForce : (s.openSlot b k t e).mx.inForce = some (b.swatch k) := by
  rw [State.openSlot, State.settle_mx]; rfl

@[simp] theorem State.openSlot_time : (s.openSlot b k t e).time = s.time := by
  rw [State.openSlot, State.settle_time]; exact State.openInterval_time _ t e

@[simp] theorem State.openSlot_slot : (s.openSlot b k t e).orb.slot = k := by
  rw [State.openSlot, State.settle_orb]
  exact congrArg OrbitSt.slot (State.openInterval_orb _ t e)

theorem State.openSlot_lessSlot : (s.openSlot b k t e).orb.lessSlot = s.orb.lessSlot := by
  have hsync (u : State) : u.syncReplicas.orb.lessSlot = u.orb.lessSlot := rfl
  rw [State.openSlot, State.settle_orb, hsync, State.putSwatch_orb, State.openInterval_orb]
  rfl

@[simp] theorem State.openSlot_active : (s.openSlot b k t e).orb.active = s.orb.active := by
  have h := congrArg OrbitSt.active (s.openSlot_lessSlot b k t e); exact h
@[simp] theorem State.openSlot_pendBank : (s.openSlot b k t e).orb.pendBank = s.orb.pendBank := by
  have h := congrArg OrbitSt.pendBank (s.openSlot_lessSlot b k t e); exact h
@[simp] theorem State.openSlot_armed : (s.openSlot b k t e).orb.armed = s.orb.armed := by
  have h := congrArg OrbitSt.armed (s.openSlot_lessSlot b k t e); exact h
@[simp] theorem State.openSlot_running : (s.openSlot b k t e).orb.running = s.orb.running := by
  have h := congrArg OrbitSt.running (s.openSlot_lessSlot b k t e); exact h
@[simp] theorem State.openSlot_cycle : (s.openSlot b k t e).orb.cycle = s.orb.cycle := by
  have h := congrArg OrbitSt.cycle (s.openSlot_lessSlot b k t e); exact h
@[simp] theorem State.openSlot_anchor : (s.openSlot b k t e).orb.anchor = s.orb.anchor := by
  have h := congrArg OrbitSt.anchor (s.openSlot_lessSlot b k t e); exact h

end OpenSlot

@[simp] theorem State.syncReplicas_active (s : State) : s.syncReplicas.orb.active = s.orb.active := rfl
@[simp] theorem State.syncReplicas_armed (s : State) : s.syncReplicas.orb.armed = s.orb.armed := rfl
@[simp] theorem State.syncReplicas_running (s : State) : s.syncReplicas.orb.running = s.orb.running := rfl
@[simp] theorem State.syncReplicas_anchor (s : State) : s.syncReplicas.orb.anchor = s.orb.anchor := rfl
@[simp] theorem State.syncReplicas_mode (s : State) : s.syncReplicas.mode = s.mode := rfl
@[simp] theorem State.syncReplicas_time (s : State) : s.syncReplicas.time = s.time := rfl

/-- Replicas that agree, and that can be read, carry the vote. -/
theorem State.vote_of_agree {s : State} {r : Replica} (hall : s.orb.replicas = [r, r, r]) (hgood : r.failed = false)
    (hread : r.readable = true) (b : OrbitBank) (opening : Nat) : s.vote b opening = (true, s.syncReplicas) := by
  have hvote : r.vote = some (r.slot, r.cycle, r.boundary) := by simp [Replica.vote, hgood, hread]
  have hvoted : voted [r, r, r] = some (r.slot, r.cycle, r.boundary) := by simp [voted, hvote]
  have hbad : (List.range 3).filter (fun n => !(lget {} [r, r, r] n).failed &&
      (lget {} [r, r, r] n).vote != some (r.slot, r.cycle, r.boundary)) = [] := by
    simp [List.range_succ, lget, hvote]
  simp only [State.vote, hall, hvoted, hbad]
  rfl

/-- Where no replica can be read the sequencer halts. -/
theorem State.vote_of_unreadable {s : State} (hall : ∀ r ∈ s.orb.replicas, r.readable = false) (b : OrbitBank)
    (opening : Nat) : s.vote b opening = (false, s.haltOrbit b) := by
  have hnone : s.orb.replicas.filterMap Replica.vote = [] :=
    List.filterMap_eq_nil_iff.mpr fun r hr => by simp [Replica.vote, hall r hr]
  have hvoted : voted s.orb.replicas = none := by rw [voted, hnone]; rfl
  rw [State.vote, hvoted]

end Sys2Proof.Machine
end

section
/-!
An Orbit from its preparation to its takeover and its boundaries (R20, R135, R149 to R154, R162, R552).
-/

namespace Sys2Proof.Machine

open Sys2Proof.Stated

/-! ### Commands (R149, R150, R153, R552) -/

theorem modeOf_code (m : Mode) : modeOf m.code = some m := by cases m <;> rfl

/-- The state with another state of the sequencer. -/
def State.withOrb (s : State) (o : OrbitSt) : State := { s with orb := o }

/-- A command that is accepted, changes the sequencer alone and completes. -/
theorem answered_withOrb {s : State} (hs : Serves s) (tag : CmdTag) (op : Nat) (o : OrbitSt) (st : Nat)
    (d : List (Nat × Nat)) :
    Answered s (((s.begin tag op).withOrb o).complete tag st d) tag st ∧
      (((s.begin tag op).withOrb o).complete tag st d).orb = o ∧
      ({ ((s.begin tag op).withOrb o).complete tag st d with orb := s.orb, cx := s.cx, host := s.host } : State) = s := by
  have hless : (((s.begin tag op).withOrb o).complete tag st d).lessExchange = (s.withOrb o).lessExchange :=
    State.complete_lessExchange _ tag st d
  refine ⟨answered_of_begun hs (u := (s.begin tag op).withOrb o) rfl st d false, State.complete_orb _ tag st d, ?_⟩
  have h := congrArg (fun v : State => { v with orb := s.orb, cx := s.cx, host := s.host }) hless
  exact h

theorem State.abortTakeoverWait_of_none {s : State} (h : s.mode.pend = none) : s.abortTakeoverWait = s := by
  rw [State.abortTakeoverWait, h]

/-- The pending bank is emptied; no SET_MODE awaited it. -/
theorem State.emptyPending_of_noWait {s : State} (h : s.mode.pend = none) : s.emptyPending =
    s.withOrb { s.orb with armed := none, conjHeld := false, pendBank := none } :=
  State.abortTakeoverWait_of_none h

section Commands

variable {s : State} (hs : Serves s) (tag : CmdTag) {b : OrbitBank}
include hs

/-- ORBIT_PREPARE with a bank that passes its checks loads it (R149). -/
theorem exec_orbitPrepare (hpwr : s.pwr.state ≤ 2) (hfree : s.orb.pendBank = none)
    (hmin : 100000000 ≤ b.timeoutNs) (hmax : b.timeoutNs ≤ 600000000000) (hms : b.timeoutNs % 1000000 = 0)
    (hexpires : b.expires = some (s.clk + b.timeoutNs)) (hmode : b.mode.slotted = true) (hcheck : s.orbitCheck b = none) :
    ∃ d, exec (.orbitPrepare tag (some b.record) b.target b.target.isSome b.mode.code (b.timeoutNs / 1000000)) s =
      .next (((s.begin tag 0x0F01).withOrb { s.orb with pendBank := some b }).complete tag St.ok d) := by
  have hns : b.timeoutNs / 1000000 * 1000000 = b.timeoutNs := Nat.div_mul_cancel (Nat.dvd_of_mod_eq_zero hms)
  have htarget : (if b.target.isSome = true then b.target else none) = b.target := by cases b.target <;> rfl
  have hbank : (⟨b.record, b.target, b.mode, b.timeoutNs, some (s.clk + b.timeoutNs)⟩ : OrbitBank) = b := by
    rw [← hexpires]
  have hcheck' : (s.begin tag 0x0F01).orbitCheck b = none := hcheck
  have hrange : ¬(b.mode.slotted = false ∨ b.timeoutNs / 1000000 < 100 ∨ b.timeoutNs / 1000000 > 600000) := by
    simp only [hmode, Bool.true_eq_false, false_or]; omega
  have hbuffers : ¬((some b.record).isNone = true ∨ b.target.isSome = true ∧ b.target.isNone = true) := by
    cases b.target <;> simp
  show ∃ d, execOrbitPrepare tag _ _ _ _ _ s = _
  rw [execOrbitPrepare, State.serve_eq hs, modeOf_code]
  dsimp only
  rw [if_neg hrange, if_neg (by rw [State.begin_pwr]; omega), if_neg (by rw [State.begin_orb, hfree]; decide),
    if_neg hbuffers, htarget, hns, State.begin_clk, Option.getD_some, hbank, hcheck']
  exact ⟨_, rfl⟩

/-- ORBIT_COMMIT at a time far enough ahead arms the pending bank (R150). -/
theorem exec_orbitCommit (hpwr : s.pwr.state ≤ 2) (hpend : s.orb.pendBank = some b) (hsize : s.systemSize ≤ 1)
    {at_ : TimeWord} (hahead : s.time.now + 50000 * nsUnit ≤ s.fromWord at_) (hrole : s.orbitRoleOk b = true)
    (harmed : s.orb.armed = none) :
    ∃ d, exec (.orbitCommit tag at_) s = .next (((s.begin tag 0x0F02).withOrb { s.orb with
      armed := some (s.fromWord at_), pendBank := some { b with expires := none } }).complete tag St.ok d) := by
  have hsize' : (s.begin tag 0x0F02).systemSize = s.systemSize := rfl
  have hword : (s.begin tag 0x0F02).fromWord at_ = s.fromWord at_ := rfl
  have hrole' : (s.begin tag 0x0F02).orbitRoleOk b = true := hrole
  show ∃ d, execOrbitCommit tag at_ s = _
  rw [execOrbitCommit, State.serve_eq hs]
  dsimp only
  rw [hsize', hword, State.begin_pwr, State.begin_time, State.begin_orb, if_neg (by omega), if_neg (by omega),
    if_neg (by omega), hpend]
  dsimp only
  rw [hrole', if_neg (by decide), harmed, if_neg (by decide), State.arm, State.begin_orb, hpend]
  exact ⟨_, rfl⟩

/-- ORBIT_COMMIT for a time too near is LATE (R150). -/
theorem exec_orbitCommit_late (hpwr : s.pwr.state ≤ 2) (hsize : s.systemSize ≤ 1) {at_ : TimeWord}
    (hnear : s.fromWord at_ < s.time.now + 50000 * nsUnit) :
    exec (.orbitCommit tag at_) s = .next ((s.begin tag 0x0F02).complete tag St.late) := by
  have hsize' : (s.begin tag 0x0F02).systemSize = s.systemSize := rfl
  have hword : (s.begin tag 0x0F02).fromWord at_ = s.fromWord at_ := rfl
  show execOrbitCommit tag at_ s = _
  rw [execOrbitCommit, State.serve_eq hs]
  dsimp only
  rw [hsize', hword, State.begin_pwr, State.begin_time, if_neg (by omega), if_neg (by omega), if_pos hnear]
  rfl

/-- ORBIT_ABORT of an Orbit that is not armed empties the pending bank (R153). -/
theorem exec_orbitAbort (hpwr : s.pwr.state ≤ 2) (hpend : s.orb.pendBank = some b) (hheld : s.orb.conjHeld = false)
    (harmed : s.orb.armed = none) (hwait : s.mode.pend = none) :
    exec (.orbitAbort tag) s =
      .next (((s.begin tag 0x0F03).withOrb { s.orb with pendBank := none }).complete tag St.ok) := by
  have hempty : (s.begin tag 0x0F03).emptyPending = (s.begin tag 0x0F03).withOrb { s.orb with pendBank := none } := by
    rw [State.emptyPending_of_noWait (by rw [State.begin_mode, hwait]), State.begin_orb, ← hheld, ← harmed]
  show execOrbitAbort tag s = _
  rw [execOrbitAbort, State.serve_eq hs]
  rw [State.begin_pwr, State.begin_orb, if_neg (by omega), hpend, Option.isNone_some,
    if_neg Bool.false_ne_true, hheld, if_neg Bool.false_ne_true, harmed]
  dsimp only
  rw [hempty]
  rfl

/-- ORBIT_READ of the active bank, into a buffer that holds it (R552). -/
theorem exec_orbitRead (hactive : s.orb.active = some b) (out : Nat) {max_ : Nat} (hmax : b.bytes.length ≤ max_) :
    exec (.orbitRead tag 0 out max_) s =
      .next (((s.begin tag 0x0F04).outData tag out b.bytes).completeWith tag St.ok [(4, b.bytes.length)] true) := by
  show execOrbitRead tag 0 out max_ s = _
  rw [execOrbitRead, State.serve_eq hs]
  dsimp only
  rw [if_neg (by decide), if_pos rfl, State.begin_orb, hactive]
  dsimp only
  rw [if_neg (by omega)]
  rfl

end Commands

/-- ORBIT_TIMEOUT empties the pending bank at the instant at which its timeout expires (R153). -/
theorem exec_orbitTimeout {s : State} {b : OrbitBank} {a : Nat} (hpend : s.orb.pendBank = some { b with expires := some a })
    (hwait : s.mode.pend = none) :
    ∃ id, exec .orbitTimeout s = .next (((s.waitClk a).withOrb { s.orb with
      armed := none, conjHeld := false, pendBank := none }).raise 0x0F03 [(4, id)]) := by
  have hempty : (s.waitClk a).emptyPending = (s.waitClk a).withOrb { s.orb with
      armed := none, conjHeld := false, pendBank := none } := State.emptyPending_of_noWait hwait
  show ∃ id, execOrbitTimeout s = _
  rw [execOrbitTimeout, hpend]
  dsimp only
  rw [hempty]
  exact ⟨_, rfl⟩

/-! ### Takeovers (R151, R152, R154) -/

theorem State.cutInterval_mode (s : State) (i : Nat) : (s.cutInterval i).mode = s.mode := by
  unfold State.cutInterval
  dsimp only
  split_ifs
  · rw [State.closeBursts_mode]
  · rfl

theorem State.cutInterval_time (s : State) (i : Nat) : (s.cutInterval i).time = s.time := by
  unfold State.cutInterval
  dsimp only
  split_ifs
  · rw [State.closeBursts_time]
  · rfl

/-- In the mode of the bank the pending Orbit takes over: slot 0 of cycle 0 opens with its swatch in force (R154). -/
theorem State.takeOver_of_mode {s : State} {b : OrbitBank} (hmode : s.mode.mode = b.mode) (i : Nat) :
    (s.takeOver b i).orb.active = some { b with expires := none } ∧ (s.takeOver b i).orb.pendBank = none ∧
      (s.takeOver b i).orb.armed = none ∧ (s.takeOver b i).orb.running = true ∧ (s.takeOver b i).orb.slot = 0 ∧
      (s.takeOver b i).orb.cycle = 0 ∧ (s.takeOver b i).orb.anchor = i ∧
      (s.takeOver b i).mx.inForce = some (b.swatch 0) ∧ (s.takeOver b i).time = s.time := by
  have hcut : (s.cutInterval i).mode.mode = b.mode := by rw [State.cutInterval_mode, hmode]
  rw [State.takeOver]
  dsimp only
  rw [if_pos hcut]
  simp only [State.raise_orb, State.raise_mx, State.raise_time, State.openSlot_active, State.openSlot_pendBank,
    State.openSlot_armed, State.openSlot_running, State.openSlot_slot, State.openSlot_cycle, State.openSlot_anchor,
    State.openSlot_inForce, State.openSlot_time, State.cutInterval_time, and_self]

/-- ORBIT_TAKEOVER while no Orbit runs: the pending one takes over where its mode permits it, and is missed elsewhere. -/
theorem exec_orbitTakeover {s : State} {b : OrbitBank} {w : Nat} (harmed : s.orb.armed = some w)
    (hpend : s.orb.pendBank = some b) (hrun : s.orb.running = false) (hhalt : s.orb.halted = false) :
    exec .orbitTakeover s = .next (if s.takeoverMode b = true then (s.waitTime (s.phased w)).takeOver b (s.phased w)
      else (s.waitTime (s.phased w)).missOrbit b) := by
  have hmode : (s.waitTime (s.phased w)).takeoverMode b = s.takeoverMode b := by
    rw [State.takeoverMode, State.takeoverMode, State.waitTime_mode]
  have hphased : (s.waitTime (s.phased w)).phased w = s.phased w := by
    simp only [State.phased, State.sfld, State.fld_congr (State.waitTime_regs s _)]
  show execOrbitTakeover s = _
  rw [execOrbitTakeover, harmed, hpend]
  dsimp only
  rw [hrun, if_neg Bool.false_ne_true, State.waitTime_orb, hhalt, hmode, hphased]
  simp only [true_and]
  rfl

/-- A missed Orbit stays loaded with its prepare timeout started again, and is told (R152). -/
theorem State.missOrbit_facts {s : State} {b : OrbitBank} (hpend : s.orb.pendBank = some b) :
    (s.missOrbit b).orb.armed = none ∧ (s.missOrbit b).orb.active = s.orb.active ∧
      (s.missOrbit b).orb.pendBank = some { b with expires := some (s.clk + b.timeoutNs) } ∧
      (s.missOrbit b).clk = s.clk ∧ (s.missOrbit b).cx.evtSeq = seqNext s.cx.evtSeq ∧
      (s.missOrbit b).mode = s.mode := by
  rw [State.missOrbit]
  dsimp only
  rw [State.raise_orb, State.raise_clk, State.raise_mode, State.raise_evtSeq _ _ (packItems_addr_byte_length _ _),
    State.disarm, hpend]
  exact ⟨rfl, rfl, rfl, rfl, rfl, rfl⟩

/-! ### Slot boundaries (R154, R161, R162) -/

/-- Where no SET_MODE waits and the fabric stays lit, the next slot follows. -/
theorem State.slotEnds_of_quiet {s : State} (hpend : s.mode.pend = none) (hlit : s.mode.darkNext = false) (b : OrbitBank)
    (t : Nat) : s.slotEnds b t = s.nextSlot b t := by
  rw [State.slotEnds, hpend, hlit]
  simp

/-- The next slot is the one that the schedule names. -/
theorem State.nextSlot_facts (s : State) (b : OrbitBank) (t : Nat) :
    (s.nextSlot b t).orb.slot = (b.at s.orb.anchor t).2.1 ∧
      (s.nextSlot b t).mx.inForce = some (b.swatch (s.nextSlot b t).orb.slot) ∧
      (s.nextSlot b t).orb.running = s.orb.running ∧ (s.nextSlot b t).orb.active = s.orb.active ∧
      (s.nextSlot b t).time = s.time := by
  rw [State.nextSlot]
  simp only [State.openSlot_slot, State.openSlot_inForce, State.openSlot_running, State.openSlot_active,
    State.openSlot_time, and_self]

section Boundary

variable {s : State} {b : OrbitBank} (hrun : s.orb.running = true) (hactive : s.orb.active = some b)
include hrun hactive

/-- The end of a slot for which no takeover and no change of mode waits, with three replicas that agree. -/
theorem exec_slotBoundary_of_agree (harmed : s.orb.armed = none) (hpend : s.mode.pend = none)
    (hlit : s.mode.darkNext = false) {r : Replica} (hall : s.orb.replicas = [r, r, r]) (hgood : r.failed = false)
    (hread : r.readable = true) :
    exec (.slotBoundary []) s =
      .next (((s.waitTime s.orb.boundary).syncReplicas).closeBursts.nextSlot b s.orb.boundary) := by
  have hvote (k : Nat) : (s.waitTime s.orb.boundary).vote b k = (true, (s.waitTime s.orb.boundary).syncReplicas) :=
    State.vote_of_agree (by rw [State.waitTime_orb, hall]) hgood hread b k
  have hnone : (s.waitTime s.orb.boundary).upset [] = s.waitTime s.orb.boundary := rfl
  have harmed' : (s.waitTime s.orb.boundary).syncReplicas.orb.armed = none := by
    rw [State.syncReplicas_armed, State.waitTime_orb, harmed]
  have hmode : (s.waitTime s.orb.boundary).syncReplicas.closeBursts.mode = s.mode := by
    rw [State.closeBursts_mode, State.syncReplicas_mode, State.waitTime_mode]
  show execSlotBoundary [] s = _
  rw [execSlotBoundary, State.slotBoundary, hrun, hactive]
  dsimp only
  rw [hnone, hvote]
  dsimp only
  rw [harmed', State.slotEnds_of_quiet (by rw [hmode, hpend]) (by rw [hmode, hlit])]
  rfl

/-- The end of a slot with three replicas that cannot be read halts the sequencer (R162). -/
theorem exec_slotBoundary_of_unreadable (hall : ∀ r ∈ s.orb.replicas, r.readable = false) :
    exec (.slotBoundary []) s = .next ((s.waitTime s.orb.boundary).haltOrbit b).settle := by
  have hvote (k : Nat) : (s.waitTime s.orb.boundary).vote b k = (false, (s.waitTime s.orb.boundary).haltOrbit b) :=
    State.vote_of_unreadable (by rwa [State.waitTime_orb]) b k
  have hnone : (s.waitTime s.orb.boundary).upset [] = s.waitTime s.orb.boundary := rfl
  show execSlotBoundary [] s = _
  rw [execSlotBoundary, State.slotBoundary, hrun, hactive]
  dsimp only
  rw [hnone, hvote]
  rfl

end Boundary

/-- A halt leaves the bank and the swatch in force (R162). -/
theorem State.haltOrbit_facts (s : State) (b : OrbitBank) :
    (s.haltOrbit b).orb.halted = true ∧ (s.haltOrbit b).orb.running = false ∧
      (s.haltOrbit b).orb.active = s.orb.active ∧ (s.haltOrbit b).mx.inForce = s.mx.inForce := by
  rw [State.haltOrbit]
  dsimp only
  rw [State.raise_orb, State.raise_mx]
  exact ⟨rfl, rfl, rfl, rfl⟩

/-! ### Persistent intervals (R20, R135, R136) -/

/-- A persistent interval in L0 opens with its swatch in force and ends on the grid of the burst period. -/
theorem State.openPersistent_facts {s : State} (hpwr : s.pwr.state = 0) (n i : Nat) :
    (s.openPersistent n i).mx.inForce = some n ∧ (s.openPersistent n i).mx.apply = s.mx.apply ∧
      (s.openPersistent n i).mx.palette = s.mx.palette ∧ (s.openPersistent n i).orb.intStart = i ∧
      (s.openPersistent n i).orb.intEnd = s.gridAfter i ∧ (s.openPersistent n i).time = s.time ∧
      (s.openPersistent n i).cx.rings = s.cx.rings := by
  have hpwr' : (s.swatchTargets n).pwr.state = 0 := hpwr
  have hgrid : (s.swatchTargets n).gridAfter i = s.gridAfter i := State.gridAfter_congr rfl i
  rw [State.openPersistent, if_pos hpwr', hgrid]
  simp only [State.settle_mx, State.settle_orb, State.settle_time, State.settle_rings, State.putSwatch_inForce,
    State.putSwatch_apply, State.putSwatch_palette, State.putSwatch_orb, State.putSwatch_time, State.putSwatch_cx,
    State.openInterval_apply, State.openInterval_palette, State.openInterval_orb, State.openInterval_time,
    State.openInterval_rings, true_and]
  exact ⟨rfl, rfl, rfl, rfl⟩

/-- The instant of the next boundary while no Orbit runs: the end of the interval in force, or the grid's next. -/
def State.nextBoundary (s : State) : Nat := if s.intervalsRun = true then s.orb.intEnd else s.gridAfter s.time.now

/-- The state at that boundary: the time has come, and the bursts of the interval that ran have ended. -/
def State.atBoundary (s : State) : State :=
  if s.intervalsRun = true then (s.waitTime s.nextBoundary).closeBursts else s.waitTime s.nextBoundary

section AtBoundary

variable (s : State)

theorem State.atBoundary_pwr : s.atBoundary.pwr = s.pwr := by
  rw [State.atBoundary, apply_ite State.pwr, State.closeBursts_pwr, ite_self, State.waitTime_pwr]
theorem State.atBoundary_mx : s.atBoundary.mx = s.mx := by
  rw [State.atBoundary, apply_ite State.mx, State.closeBursts_mx, ite_self, State.waitTime_mx]
theorem State.atBoundary_cx : s.atBoundary.cx = s.cx := by
  rw [State.atBoundary, apply_ite State.cx, State.closeBursts_cx, ite_self, State.waitTime_cx]
theorem State.atBoundary_canvas : s.atBoundary.canvas = s.canvas := by
  rw [State.atBoundary, apply_ite State.canvas, State.closeBursts_canvas, ite_self, State.waitTime_canvas]
theorem State.atBoundary_now : s.atBoundary.time.now = max s.time.now s.nextBoundary := by
  rw [State.atBoundary, apply_ite State.time, State.closeBursts_time, ite_self, State.waitTime_now]

end AtBoundary

/-- The state in which no SWATCH_APPLY waits. -/
def State.withoutApply (s : State) : State := { s with mx := { s.mx with apply := none } }

/-- A boundary in a persistent mode in L0 opens the interval of the SWATCH_APPLY that waits for it (R135, R136). -/
theorem exec_burstIntervalBoundary {s : State} {tag : CmdTag} {n : Nat} (hrun : s.orb.running = false)
    (hlit : s.mode.darkNext = false) (hpend : s.mode.pend = none) (hmode : s.mode.mode = .edgePersistent)
    (hpwr : s.pwr.state = 0) (happly : s.mx.apply = some ⟨tag, n, 0⟩) (hfresh : (s.swatch n).stale = false) :
    ∃ d, exec .burstIntervalBoundary s =
      .next ((s.atBoundary.withoutApply.openPersistent n s.nextBoundary).complete tag St.ok d) := by
  have happly' : s.atBoundary.mx.apply = some ⟨tag, n, 0⟩ := by rw [State.atBoundary_mx, happly]
  have hswatch : s.atBoundary.swatch n = s.swatch n := by rw [State.swatch, State.swatch, State.atBoundary_mx]
  have hdue : s.atBoundary.applyDue ⟨tag, n, 0⟩ s.nextBoundary = true := by simp [State.applyDue, hswatch, hfresh]
  have hboundary : s.intervalBoundary = s.atBoundary.nextInterval s.nextBoundary := by
    rw [State.intervalBoundary, hlit, hpend, hmode, hpwr]
    rfl
  show ∃ d, execBurstIntervalBoundary s = _
  rw [execBurstIntervalBoundary, hrun, if_neg Bool.false_ne_true, hboundary, State.nextInterval, State.intervalSwatch,
    happly']
  dsimp only
  rw [hdue]
  exact ⟨_, rfl⟩

end Sys2Proof.Machine
end

section
/-!
What the commands and boundaries of an Orbit do, clause by clause, and the statement about its course.
-/

namespace Sys2Proof.Machine

open Sys2Proof.Stated

section Takeover

variable {s : State} {b : OrbitBank} {w : Nat} (harmed : s.orb.armed = some w) (hpend : s.orb.pendBank = some b)
  (hrun : s.orb.running = false) (hhalt : s.orb.halted = false)
include harmed hpend hrun hhalt

/-- In the mode of its bank an armed Orbit takes over at the phased instant (R151, R154). -/
theorem orbitTakeover_takesOver (hmode : s.mode.mode = b.mode) :
    ∃ t, exec .orbitTakeover s = .next t ∧ t.orb.active = some { b with expires := none } ∧
      t.orb.pendBank = none ∧ t.orb.armed = none ∧ t.orb.running = true ∧ t.orb.slot = 0 ∧ t.orb.cycle = 0 ∧
      t.orb.anchor = s.phased w ∧ t.mx.inForce = some (b.swatch 0) ∧ t.time.now = max s.time.now (s.phased w) := by
  have hpermits : s.takeoverMode b = true := by simp [State.takeoverMode, hmode]
  have hmode' : (s.waitTime (s.phased w)).mode.mode = b.mode := by rw [State.waitTime_mode, hmode]
  obtain ⟨hactive, hpend', harmed', hrun', hslot, hcycle, hanchor, hswatch, htime⟩ :=
    State.takeOver_of_mode hmode' (s.phased w)
  refine ⟨_, exec_orbitTakeover harmed hpend hrun hhalt, ?_⟩
  rw [if_pos hpermits]
  exact ⟨hactive, hpend', harmed', hrun', hslot, hcycle, hanchor, hswatch, by rw [htime, State.waitTime_now]⟩

/-- In a mode that forbids it an armed Orbit is missed and stays loaded (R152). -/
theorem orbitTakeover_misses (hforbids : s.takeoverMode b = false) :
    ∃ t, exec .orbitTakeover s = .next t ∧ t.orb.armed = none ∧ t.orb.active = s.orb.active ∧
      t.orb.pendBank = some { b with expires := some (t.clk + b.timeoutNs) } ∧ t.cx.evtSeq = seqNext s.cx.evtSeq ∧
      t.mode = s.mode := by
  obtain ⟨harmed', hactive, hpend', hclk, hseq, hmode⟩ :=
    State.missOrbit_facts (s := s.waitTime (s.phased w)) (by rw [State.waitTime_orb, hpend])
  refine ⟨_, exec_orbitTakeover harmed hpend hrun hhalt, ?_⟩
  rw [if_neg (Bool.eq_false_iff.mp hforbids)]
  refine ⟨harmed', ?_, ?_, ?_, ?_⟩
  · rw [hactive, State.waitTime_orb]
  · rw [hpend', hclk]
  · rw [hseq, State.waitTime_cx]
  · rw [hmode, State.waitTime_mode]

end Takeover

section Boundary

variable {s : State} {b : OrbitBank} (hrun : s.orb.running = true) (hactive : s.orb.active = some b)
include hrun hactive

/-- Replicas that agree open the slot that the schedule names, with its swatch in force (R154, R161). -/
theorem slotBoundary_opens (harmed : s.orb.armed = none) (hpend : s.mode.pend = none) (hlit : s.mode.darkNext = false)
    {r : Replica} (hall : s.orb.replicas = [r, r, r]) (hgood : r.failed = false) (hread : r.readable = true) :
    ∃ t, exec (.slotBoundary []) s = .next t ∧ t.orb.slot = (b.at s.orb.anchor s.orb.boundary).2.1 ∧
      t.mx.inForce = some (b.swatch t.orb.slot) ∧ t.orb.running = true ∧ t.orb.active = some b ∧
      t.time.now = max s.time.now s.orb.boundary := by
  obtain ⟨hslot, hswatch, hrun', hactive', htime⟩ :=
    (s.waitTime s.orb.boundary).syncReplicas.closeBursts.nextSlot_facts b s.orb.boundary
  simp only [State.closeBursts_orb, State.closeBursts_time, State.syncReplicas_anchor, State.syncReplicas_running,
    State.syncReplicas_active, State.syncReplicas_time, State.waitTime_orb] at hslot hrun' hactive' htime
  refine ⟨_, exec_slotBoundary_of_agree hrun hactive harmed hpend hlit hall hgood hread, hslot, hswatch,
    hrun'.trans hrun, hactive'.trans hactive, ?_⟩
  rw [htime, State.waitTime_now]

/-- Replicas that cannot be read halt the sequencer; bank and swatch stay (R162). -/
theorem slotBoundary_halts (hall : ∀ r ∈ s.orb.replicas, r.readable = false) :
    ∃ t, exec (.slotBoundary []) s = .next t ∧ t.orb.halted = true ∧ t.orb.running = false ∧
      t.orb.active = some b ∧ t.mx.inForce = s.mx.inForce := by
  obtain ⟨hhalt, hrun', hactive', hswatch⟩ := (s.waitTime s.orb.boundary).haltOrbit_facts b
  refine ⟨_, exec_slotBoundary_of_unreadable hrun hactive hall, ?_⟩
  rw [State.settle_orb, State.settle_mx, hhalt, hrun', hactive', hswatch, State.waitTime_orb, State.waitTime_mx]
  exact ⟨rfl, rfl, hactive, rfl⟩

end Boundary

/-- An interval that a waiting SWATCH_APPLY opens puts its swatch in force and answers it (R20, R135, R136). -/
theorem burstIntervalBoundary_applies {s : State} {tag : CmdTag} {n e : Nat} (hrun : s.orb.running = false)
    (hlit : s.mode.darkNext = false) (hpend : s.mode.pend = none) (hmode : s.mode.mode = .edgePersistent)
    (hpwr : s.pwr.state = 0) (happly : s.mx.apply = some ⟨tag, n, 0⟩) (hfresh : (s.swatch n).stale = false)
    (hlen : s.cx.rings.length = 16) (he : e = if s.intervalsRun = true then s.orb.intEnd else s.gridAfter s.time.now) :
    ∃ t, exec .burstIntervalBoundary s = .next t ∧ t.mx.inForce = some n ∧ t.mx.apply = none ∧ t.orb.intStart = e ∧
      t.orb.intEnd = s.gridAfter e ∧ t.mx.palette = s.mx.palette ∧ t.time.now = max s.time.now e ∧
      Told t tag St.ok := by
  obtain rfl : e = s.nextBoundary := he
  obtain ⟨d, hexec⟩ := exec_burstIntervalBoundary hrun hlit hpend hmode hpwr happly hfresh
  have hpwr' : s.atBoundary.withoutApply.pwr.state = 0 := (congrArg PowerSt.state s.atBoundary_pwr).trans hpwr
  have hpalette : s.atBoundary.withoutApply.mx.palette = s.mx.palette := by
    rw [← State.atBoundary_mx s]; rfl
  have hgrid : s.atBoundary.withoutApply.gridAfter s.nextBoundary = s.gridAfter s.nextBoundary :=
    State.gridAfter_congr s.atBoundary_canvas _
  obtain ⟨hin, hap, hpal, hstart, hend, htime, hrings⟩ := State.openPersistent_facts hpwr' n s.nextBoundary
  have hr : tag.ring < (s.atBoundary.withoutApply.openPersistent n s.nextBoundary).cx.rings.length := by
    have hrings' : s.atBoundary.withoutApply.cx.rings = s.cx.rings := congrArg CxSt.rings s.atBoundary_cx
    rw [hrings, hrings']; omega
  refine ⟨_, hexec, ?_⟩
  rw [State.complete_mx, State.complete_orb, State.complete_time, hin, hap, hpal, hstart, hend, htime, hgrid]
  exact ⟨rfl, rfl, rfl, rfl, hpalette, s.atBoundary_now, (State.completeWith_answered hr St.ok d false).2⟩

/-- Settles O33: each command completes over the sequencer's new state (`answered_withOrb`), and the state at each
boundary is read off past what settling, closing bursts and opening an interval leave alone. -/
theorem orbitCourse : Obligations.OrbitCourse := by
  unfold Obligations.OrbitCourse
  intro s tag b out max_ w a at_
  refine ⟨fun hs hpwr => ⟨?_, fun hpend => ⟨?_, ?_, ?_⟩⟩, ?_, ?_, fun harmed hpend hrun hhalt => ⟨?_, ?_⟩,
    fun hrun hactive harmed hpend hlit => ⟨?_, ?_⟩, ?_⟩
  · intro hfree hmin hmax hms hexpires hmode hcheck
    obtain ⟨d, hexec⟩ := exec_orbitPrepare hs tag hpwr hfree hmin hmax hms hexpires hmode hcheck
    obtain ⟨hanswered, horb, hrest⟩ := answered_withOrb hs tag 0x0F01 { s.orb with pendBank := some b } St.ok d
    exact ⟨_, hexec, horb, hanswered, hrest⟩
  · intro hsize hahead hrole harmed
    obtain ⟨d, hexec⟩ := exec_orbitCommit hs tag hpwr hpend hsize hahead hrole harmed
    exact ⟨_, hexec, answered_withOrb hs tag 0x0F02 _ St.ok d⟩
  · intro hsize hnear
    exact ⟨_, exec_orbitCommit_late hs tag hpwr hsize hnear, refused_of_begun hs tag 0x0F02 St.late []⟩
  · intro hheld harmed hwait
    exact ⟨_, exec_orbitAbort hs tag hpwr hpend hheld harmed hwait, answered_withOrb hs tag 0x0F03 _ St.ok []⟩
  · intro hs hactive hmax
    have hout : ((s.begin tag 0x0F04).outData tag out b.bytes).lessExchange = s.lessExchange :=
      (State.outData_lessExchange _ tag out b.bytes).trans (State.begin_lessExchange s tag 0x0F04)
    exact ⟨_, exec_orbitRead hs tag hactive out hmax, answered_of_begun hs (State.outData_cx _ tag out b.bytes) _ _ _,
      exchangeOnly_completeWith hout tag _ _ _, delivered_of_begun hs tag 0x0F04 out _ b.bytes _ _⟩
  · intro hpend hwait
    obtain ⟨id, hexec⟩ := exec_orbitTimeout hpend hwait
    refine ⟨_, hexec, ?_⟩
    rw [State.raise_clk, State.raise_orb, State.raise_evtSeq _ _ (packItems_addr_length id)]
    exact ⟨State.waitClk_clk s a, rfl, rfl⟩
  · exact orbitTakeover_takesOver harmed hpend hrun hhalt
  · exact orbitTakeover_misses harmed hpend hrun hhalt
  · exact fun r hall hgood hread => slotBoundary_opens hrun hactive harmed hpend hlit hall hgood hread
  · exact slotBoundary_halts hrun hactive
  · intro n e hrun hlit hpend hmode hpwr happly hfresh hlen he
    exact burstIntervalBoundary_applies hrun hlit hpend hmode hpwr happly hfresh hlen he

end Sys2Proof.Machine
end

section
/-!
The statement about frames sent and bursts: it fails where a table is not in its canonical form (log entry 3).
-/

namespace Sys2Proof.Machine

theorem State.pressure_of_noCanvas {s : State} (h : s.canvas.active = none) : s.pressure = s := by
  simp [State.pressure, h]

theorem State.plannedPorts_of_noCanvas {s : State} (h : s.canvas.active = none) : s.plannedPorts = [] := by
  simp [State.plannedPorts, State.section, h]

/-- Without a Canvas no port is planned, and nothing settles. -/
theorem State.settle_of_noCanvas {s : State} (h : s.canvas.active = none) : s.settle = s := by
  have hbusy : s.busyPorts = [] := by simp [State.busyPorts, State.plannedPorts_of_noCanvas h]
  simp [State.settle, State.pressure_of_noCanvas h, hbusy, State.each]

/-- In a canonical table of ports a filled shaper was credited now (R353). -/
theorem State.creditAt_fillCredit {s : State} (h : keysRise 0 s.tm.ports = true) {p n : Nat}
    (hn : n < (s.pq p).creditAt.length) : lget 0 ((s.fillCredit p n).pq p).creditAt n = s.clk := by
  have hport (x : PortQ) : (s.setPq p x).pq p = x := tget_tset_same h {} p x
  rw [State.fillCredit, State.setCredit, hport]
  simp [lget, lset, hn]

/-- SHAPER_CREDIT_REACHES_ZERO brings the credit up at its instant (R353). -/
theorem exec_shaperCreditReachesZero {s : State} {p a : Nat} {k : Fin 9} (h : s.zeroAt p k = some a) :
    exec (.shaperCreditReachesZero p k) s = .next ((s.waitClk a).fillCredit p k).settle := by
  show execShaperCreditReachesZero p k s = _
  rw [execShaperCreditReachesZero, h]
  rfl

/-- Two entries for port 0: the first owes one unit, carries what fills its credit to the brim, and was credited at
clock 0. -/
def twicePorted : State :=
  { regs := [(0x200100, 1)]
    tm := { ports := [
      (0, { credit := (-1) :: List.replicate 8 9437184, creditRem := 9437185000000 :: List.replicate 8 0 }),
      (0, { creditAt := [1] })] } }

/-- Refutes O46, in its clause about a shaper's credit: `twicePorted` lists port 0 twice, and bringing up the credit makes
the first entry the default, which a table does not store, so that the second entry shows with an instant of its own. Such
a table is not canonical (log entry 3); in a canonical one the clause's instant holds (`State.creditAt_fillCredit`). -/
theorem not_burstsAndTransmission : ¬ Obligations.BurstsAndTransmission := by
  unfold Obligations.BurstsAndTransmission
  intro h
  obtain ⟨-, -, -, -, hshaper⟩ :=
    h twicePorted 0 0 0 0 (ownFrame 0 0 [] none none) ⟨none, [], [], 0, 0, false⟩ {} {} 0 0 0
  have hzero : twicePorted.zeroAt 0 (0 : Fin 9) = some 0 := by decide +kernel
  obtain ⟨u, hexec, -, htime, -, hat⟩ := hshaper 0 0 hzero
  have hcanvas : u.canvas.active = none := congrArg (·.canvas.active) (show _ = twicePorted from htime)
  rw [exec_shaperCreditReachesZero hzero, State.settle_of_noCanvas hcanvas, State.settle_of_noCanvas (by rfl)] at hexec
  cases hexec
  exact absurd (hat (by decide +kernel)) (by decide +kernel)

end Sys2Proof.Machine
end

section
/-!
Stored fields of the register map: a repeated register is found at its offsets, and the enable bit of a control register
reads back what was stored in it.
-/

namespace Sys2Proof.Machine

open Sys2Proof.Stated

/-! ### The register map -/

/-- The last offset that a register of the map has. -/
def RegDesc.last (d : RegDesc) : Nat := d.base + d.stride * (d.count - 1) + d.stride2 * (d.count2 - 1)

/-- No repeat of a register lies past its last one. -/
theorem RegDesc.at?_eq_none_of_last_lt {d : RegDesc} {a : Nat} (h : d.last < a) : d.at? a = none := by
  have hsplit (x w n : Nat) (hlt : (if w = 0 then 0 else x / w) < n) :
      x ≤ w * (n - 1) + (if w = 0 then x else x % w) := by
    split_ifs at hlt ⊢ with hw
    · exact Nat.le_add_left _ _
    · have hdiv := Nat.div_add_mod x w
      have hmul : w * (x / w) ≤ w * (n - 1) := Nat.mul_le_mul_left _ (by omega)
      omega
  unfold RegDesc.last at h
  unfold RegDesc.at?
  dsimp only
  rw [if_neg (by omega), if_neg]
  rintro ⟨hi, hj, hr⟩
  have houter := hsplit _ _ _ hi
  have hinner := hsplit _ _ _ hj
  omega

/-- A part of the map that ends below an offset has no register there. -/
theorem regFind_append_of_last_lt {a b : Nat} {l : List RegDesc} (hb : b ≤ a) (r : List RegDesc)
    (hl : l.all (fun d => decide (d.last < b)) = true) : regFind a (l ++ r) = regFind a r := by
  induction l with
  | nil => rfl
  | cons d rest ih =>
    obtain ⟨hd, hrest⟩ := Bool.and_eq_true_iff.mp hl
    have hnone : d.at? a = none := RegDesc.at?_eq_none_of_last_lt (by have := of_decide_eq_true hd; omega)
    rw [List.cons_append, regFind, hnone]
    exact ih hrest

/-- Entry `k` of the map, one dimension of repeats wide, is the register at its offsets, where the map before it ends below
its first one. -/
theorem regAt_repeat {k : Nat} {d : RegDesc} {rest : List RegDesc} (hk : regTable.drop k = d :: rest)
    (hbefore : (regTable.take k).all (fun e => decide (e.last < d.base)) = true) (hone : d.stride2 = 0)
    (hstride : d.stride ≠ 0) (hcount : 0 < d.count2) {i : Nat} (hi : i < d.count) :
    regAt (d.base + d.stride * i) = some (d, i) := by
  have hat : d.at? (d.base + d.stride * i) = some i := by
    have hdiv : d.stride * i / d.stride = i := Nat.mul_div_cancel_left i (by omega)
    simp [RegDesc.at?, hstride, hone, hdiv, hi, hcount]
  rw [regAt, ← List.take_append_drop k regTable, regFind_append_of_last_lt (Nat.le_add_right _ _) _ hbefore, hk, regFind,
    hat]

/-! ### Stored fields that start at bit 0 -/

/-- A field at the low end of its register reads back what was stored in it (R4). -/
theorem State.fld_setFld_low {s : State} (h : keysRise 0 s.regs = true) {f : FieldRef} (hlo : f.lo = 0) (hhi : f.hi < 32)
    (hreset : bitsOf (resetWord f.addr).toNat f.hi f.lo = f.reset) (v : Nat) :
    (s.setFld f v).fld f = v % 2 ^ (f.hi + 1) := by
  have hdvd : 2 ^ (f.hi + 1) ∣ 2 ^ 32 := pow_dvd_pow 2 (by omega)
  rw [State.fld_eq_bitsOf _ f hreset, State.setFld, State.regWord_setRegWord_same h, BitVec.toNat_ofNat]
  simp only [bitsOf, putBits, hlo, pow_zero, Nat.div_one, Nat.sub_zero, Nat.mul_one]
  rw [Nat.mod_mod_of_dvd _ hdvd, ← Nat.div_mul_self_eq_mod_sub_self, Nat.add_mod, Nat.mul_mod_left, Nat.zero_add,
    Nat.mod_mod, Nat.mod_mod]

/-- The enable bit of a control register: bit 0, clear at reset. -/
structure EnableBit (f : FieldRef) : Prop where
  hi_eq : f.hi = 0
  lo_eq : f.lo = 0
  reset_eq : bitsOf (resetWord f.addr).toNat f.hi f.lo = f.reset

theorem EnableBit.flag_setFld {s : State} {f : FieldRef} (hf : EnableBit f) (h : keysRise 0 s.regs = true) (b : Bool) :
    (s.setFld f (ofBool b)).flag f = b := by
  rw [State.flag, State.fld_setFld_low h hf.lo_eq (by rw [hf.hi_eq]; decide) hf.reset_eq, hf.hi_eq]
  cases b <;> rfl

theorem resetWord_of_regAt {a i : Nat} {d : RegDesc} (h : regAt a = some (d, i)) :
    resetWord a = BitVec.ofNat 32 (resetOf i d.fields) := by
  rw [resetWord, h]

/-- PORT_CTL. -/
def portCtlReg : RegDesc :=
  ⟨0x200000, 4096, 256, 0, 1,
    [⟨0, 0, .rw, true, fun _ => 0⟩, ⟨1, 1, .rw, true, fun _ => 0⟩, ⟨2, 2, .rw, true, fun _ => 0⟩,
     ⟨3, 3, .rw, true, fun _ => 0⟩, ⟨4, 4, .rw, true, fun _ => 0⟩, ⟨15, 8, .rw, true, fun _ => 255⟩]⟩

/-- LANE_CTL. -/
def laneCtlReg : RegDesc :=
  ⟨0x100000, 256, 512, 0, 1, [⟨0, 0, .rw, true, fun _ => 0⟩, ⟨1, 1, .w1s, false, fun _ => 0⟩]⟩

theorem enableBit_port {p : Nat} (hp : p < 256) : EnableBit (Reg.PORT_CTL_EN p) := by
  have hat : regAt (0x200000 + 0x1000 * p) = some (portCtlReg, p) :=
    regAt_repeat (k := 193) (d := portCtlReg) rfl (by decide +kernel) rfl (by decide) (by decide) hp
  have hfields : resetOf p portCtlReg.fields = resetOf 0 portCtlReg.fields := rfl
  refine ⟨rfl, rfl, ?_⟩
  show bitsOf (resetWord (0x200000 + 0x1000 * p)).toNat 0 0 = 0
  rw [resetWord_of_regAt hat, hfields]
  decide

theorem enableBit_fabricLane (n : Fin 256) : EnableBit (Reg.LANE_CTL_EN (256 + n)) := by
  have hat : regAt (0x100000 + 0x100 * (256 + n)) = some (laneCtlReg, 256 + n.val) :=
    regAt_repeat (k := 186) (d := laneCtlReg) rfl (by decide +kernel) rfl (by decide) (by decide)
      (show 256 + n.val < 512 by omega)
  have hfields : resetOf (256 + n.val) laneCtlReg.fields = resetOf 0 laneCtlReg.fields := rfl
  refine ⟨rfl, rfl, ?_⟩
  show bitsOf (resetWord (0x100000 + 0x100 * (256 + n))).toNat 0 0 = 0
  rw [resetWord_of_regAt hat, hfields]
  decide

theorem enableBit_references : EnableBit Reg.ADC_REF_CTL_EN := ⟨rfl, rfl, by decide +kernel⟩

end Sys2Proof.Machine
end

section
/-!
Discards: what they leave alone, and the frames that stand in the queues after them (R341, R358).
-/

namespace Sys2Proof.Machine

open Sys2Proof.Stated

/-! ### Tables and lists -/

/-- A value that a table stores reads back from it, whatever else it lists. -/
theorem tget_tset_of_ne_default {α : Type} [DecidableEq α] {d v : α} (hv : v ≠ d) (t : Tbl α) (k : Nat) :
    tget d (tset d t k v) k = v := by
  rw [tset, if_neg hv, tget, tget?_tput_same, Option.getD_some]

theorem keysRise_of_tblWf {α : Type} [DecidableEq α] {d : α} {t : Tbl α} {lo : Nat} (h : tblWf d lo t = true) :
    keysRise lo t = true := by
  induction t generalizing lo with
  | nil => rfl
  | cons e rest ih =>
    simp only [tblWf, keysRise, Bool.and_eq_true] at h ⊢
    exact ⟨h.1.1, ih h.2⟩

/-- Taking the elements that a test selects out of a list leaves none of them. -/
theorem not_mem_diff_filter {α : Type} [DecidableEq α] {l : List α} {sel : α → Bool} {a : α} (ha : sel a = true) :
    a ∉ l.diff (l.filter sel) := by
  rw [← List.count_eq_zero, List.count_diff, List.count_filter ha, Nat.sub_self]

/-! ### The host's writes and what an event leaves alone -/

theorem State.hostAct_of_barUp {s : State} (h : s.barUp = true) (t : Nat) (f : State → State) :
    s.hostAct t f = f (s.granted t 2) := by
  rw [State.hostAct, if_pos h]

theorem eventsOnly_of_lessEvents {s t : State} (h : t.lessEvents = s.lessEvents) : EventsOnly s t :=
  show ({ t.lessEvents with
    cx := s.cx, host := s.host, obs := s.obs, nvm := s.nvm, regs := s.regs, alertEvent := s.alertEvent
    alertCode := s.alertCode, evLast := s.evLast } : State) = s by rw [h]; rfl

/-- An event of an address is one event, and nothing but an event (R440). -/
theorem State.raise_eventsOnly (s : State) (code : Nat) {items : List (Nat × Nat)}
    (hfit : (packItems items []).length ≤ 14) :
    EventsOnly s (s.raise code items) ∧ (s.raise code items).cx.evtSeq = seqNext s.cx.evtSeq :=
  ⟨eventsOnly_of_lessEvents (s.raise_lessEvents code items), s.raise_evtSeq code hfit⟩

/-! ### Discards (R341, R358) -/

/-- The state without what discarded and lost frames change. -/
def State.lessQueues (s : State) : State := { s with tm := {}, obs := {}, cx := {}, host := [] }

theorem State.coalesce_lessQueues (s : State) (src : Nat) : (s.coalesce src).lessQueues = s.lessQueues := by
  unfold State.coalesce; dsimp only; split <;> rfl

theorem State.hostWrite_lessQueues (s : State) (a : Nat) (b : Bytes) : (s.hostWrite a b).lessQueues = s.lessQueues := rfl
@[simp] theorem State.count_lessQueues (s : State) (a n : Nat) : (s.count a n).lessQueues = s.lessQueues := rfl
@[simp] theorem State.setPq_lessQueues (s : State) (p : Nat) (x : PortQ) : (s.setPq p x).lessQueues = s.lessQueues := rfl

@[simp] theorem State.freeBuf_lessQueues (s : State) (b : Nat) : (s.freeBuf b).lessQueues = s.lessQueues := by
  unfold State.freeBuf; split <;> rfl

@[simp] theorem State.unqueue_lessQueues (s : State) (f : Frame) : (s.unqueue f).lessQueues = s.lessQueues :=
  State.freeBuf_lessQueues _ _

@[simp] theorem State.writeBack_lessQueues (s : State) (r : LaunchRef) (st : Nat) (stamp : Option Nat) :
    (s.writeBack r st stamp).lessQueues = s.lessQueues := by
  unfold State.writeBack
  dsimp only
  split_ifs
  · rw [State.coalesce_lessQueues, State.hostWrite_lessQueues]
  · rfl

/-- A discard takes its frame out of the queues and counts it. -/
theorem State.discard_eq (s : State) (f : Frame) (local_ fabricCnt : Nat) :
    ∃ a, s.discard f local_ fabricCnt = (s.unqueue f).count a 1 := by
  unfold State.discard
  dsimp only
  split <;> exact ⟨_, rfl⟩

@[simp] theorem State.discard_lessQueues (s : State) (f : Frame) (local_ fabricCnt : Nat) :
    (s.discard f local_ fabricCnt).lessQueues = s.lessQueues := by
  obtain ⟨a, h⟩ := s.discard_eq f local_ fabricCnt
  rw [h, State.count_lessQueues, State.unqueue_lessQueues]

theorem State.each_lessQueues {α : Type} (s : State) (l : List α) {f : State → α → State}
    (hf : ∀ u x, (f u x).lessQueues = u.lessQueues) : (s.each l f).lessQueues = s.lessQueues :=
  State.each_induction (P := fun u => u.lessQueues = s.lessQueues) rfl fun u x _ hu => (hf u x).trans hu

/-- The queues of the buffer and of the ports, which freed cells and write-backs leave alone. -/
def State.queues (s : State) : List Frame × Tbl PortQ := (s.tm.frames, s.tm.ports)

theorem State.coalesce_queues (s : State) (src : Nat) : (s.coalesce src).queues = s.queues := by
  rw [State.queues, State.queues, State.coalesce_tm]

theorem State.hostWrite_queues (s : State) (a : Nat) (b : Bytes) : (s.hostWrite a b).queues = s.queues := rfl
@[simp] theorem State.count_queues (s : State) (a n : Nat) : (s.count a n).queues = s.queues := rfl

@[simp] theorem State.freeBuf_queues (s : State) (b : Nat) : (s.freeBuf b).queues = s.queues := by
  unfold State.freeBuf; split <;> rfl

@[simp] theorem State.writeBack_queues (s : State) (r : LaunchRef) (st : Nat) (stamp : Option Nat) :
    (s.writeBack r st stamp).queues = s.queues := by
  unfold State.writeBack
  dsimp only
  split_ifs
  · rw [State.coalesce_queues, State.hostWrite_queues]
  · rfl

theorem State.discard_queues (s : State) (f : Frame) (local_ fabricCnt : Nat) :
    (s.discard f local_ fabricCnt).queues = (s.tm.frames.erase f, s.tm.ports) := by
  obtain ⟨a, h⟩ := s.discard_eq f local_ fabricCnt
  rw [h, State.count_queues, State.unqueue, State.freeBuf_queues]
  rfl

theorem State.each_queues {α : Type} (s : State) (l : List α) {f : State → α → State}
    (hf : ∀ u x, (f u x).queues = u.queues) : (s.each l f).queues = s.queues :=
  State.each_induction (P := fun u => u.queues = s.queues) rfl fun u x _ hu => (hf u x).trans hu

/-- Discarding a list of frames takes each of them out of the queues once. -/
theorem State.each_discard_queues (s : State) (l : List Frame) (local_ fabricCnt : Nat) :
    (s.each l (fun s f => s.discard f local_ fabricCnt)).queues = (s.tm.frames.diff l, s.tm.ports) := by
  induction l generalizing s with
  | nil => rfl
  | cons f rest ih =>
    obtain ⟨hframes, hports⟩ := Prod.mk.inj (s.discard_queues f local_ fabricCnt)
    rw [List.diff_cons, ← hframes, ← hports]
    exact ih _

/-- The frame in transmission on a port whose link goes down is lost (R341). -/
theorem State.discardPort_queues (s : State) (p : Nat) :
    (s.discardPort p).queues = (s.tm.frames.diff (s.tm.frames.filter (fun f => f.toward p)),
      tset {} s.tm.ports p { s.pq p with sending := none, launch := [], ctl := [] }) := by
  obtain ⟨hframes, hports⟩ := Prod.mk.inj
    (s.each_discard_queues (s.tm.frames.filter (fun f => f.toward p)) 41 53)
  unfold State.discardPort
  dsimp only
  rw [State.each_queues _ _ fun u x => by rw [State.writeBack_queues, State.count_queues]]
  have hset : ((s.each (s.tm.frames.filter (fun f => f.toward p)) (fun s f => s.discard f 41 53)).setPq p
      { (s.each (s.tm.frames.filter (fun f => f.toward p)) (fun s f => s.discard f 41 53)).pq p with
        sending := none, launch := [], ctl := [] }).queues =
      (s.tm.frames.diff (s.tm.frames.filter (fun f => f.toward p)),
        tset {} s.tm.ports p { s.pq p with sending := none, launch := [], ctl := [] }) := by
    rw [State.setPq, State.queues, State.pq, hframes, hports]; rfl
  rw [← hset]
  split
  · rw [State.freeBuf_queues]
    split
    · rw [State.writeBack_queues, State.count_queues]
    · split <;> rw [State.count_queues]
  · rfl

theorem State.discardPort_lessQueues (s : State) (p : Nat) : (s.discardPort p).lessQueues = s.lessQueues := by
  have hdisc : (s.each (s.tm.frames.filter (fun f => f.toward p)) (fun s f => s.discard f 41 53)).lessQueues =
      s.lessQueues := s.each_lessQueues _ fun u x => u.discard_lessQueues x 41 53
  unfold State.discardPort
  dsimp only
  rw [State.each_lessQueues _ _ fun u x => by rw [State.writeBack_lessQueues, State.count_lessQueues], ← hdisc]
  split
  · rw [State.freeBuf_lessQueues]
    split
    · rw [State.writeBack_lessQueues, State.count_lessQueues, State.setPq_lessQueues]
    · split <;> rw [State.count_lessQueues, State.setPq_lessQueues]
  · rw [State.setPq_lessQueues]

end Sys2Proof.Machine
end

section
/-!
The statement about ports and lanes.
-/

namespace Sys2Proof.Machine

open Sys2Proof.Stated

/-! ### Lanes and ports (R266, R268, R279, R280) -/

theorem FnStatus.enable_of_off {f : FnStatus} (h : f.state = 0) :
    f.enable = ({ f with state := 1, ready := false, stopPending := false }, true) := by
  rw [FnStatus.enable, if_pos h]

theorem FnStatus.disable_of_ready {f : FnStatus} (hon : f.state = 1) (hready : f.ready = true) :
    f.disable = ({ f with state := 2, ready := false }, true) := by
  rw [FnStatus.disable, if_neg (by omega), if_pos ⟨hon, hready⟩]

theorem FnStatus.disable_of_starting {f : FnStatus} (hon : f.state = 1) (hready : f.ready = false) :
    f.disable = ({ f with stopPending := true }, false) := by
  rw [FnStatus.disable, if_neg (by omega), if_neg (by simp [hready]), if_pos hon]

/-- The state with other lanes. -/
def State.withLanes (s : State) (l : Tbl LaneSt) : State := { s with lanes := l }

/-- A change of a port's lanes changes nothing else. -/
theorem State.eachLane_eq (s : State) (p : Nat) (f : LaneSt → LaneSt) : ∃ l, s.eachLane p f = s.withLanes l :=
  State.each_induction (P := fun u => ∃ l, u = s.withLanes l) ⟨s.lanes, rfl⟩ fun _ n _ ⟨l, hl⟩ =>
    ⟨tset {} l n (f (tget {} l n)), by rw [hl]; rfl⟩

/-- A port that was off starts, with its lanes (R279). -/
theorem State.portStart_of_off {s : State} {p : Nat} (h : (s.port p).fn.state = 0) : ∃ l, s.portStart p =
    (s.setPort p { s.port p with
      fn := { (s.port p).fn with state := 1, ready := false, stopPending := false } }).withLanes l := by
  rw [State.portStart, FnStatus.enable_of_off h]
  dsimp only
  rw [if_pos rfl]
  exact State.eachLane_eq _ p _

section HostWrites

variable {s : State} (hup : s.barUp = true) {p : Nat}
include hup

theorem exec_portEnable (hp : p < 256) : exec (.portEnable p) s = .next ((s.granted 0 2).portEnable p) := by
  show execPortEnable p s = _
  rw [execPortEnable, State.hostAct_of_barUp hup, if_pos hp]
  rfl

theorem exec_portDisable (hp : p < 256) : exec (.portDisable p) s = .next ((s.granted 0 2).portDisable p) := by
  show execPortDisable p s = _
  rw [execPortDisable, State.hostAct_of_barUp hup, if_pos hp]
  rfl

/-- An enable of a planned port sets EN, and starts the port where lanes can run (R36, R279). -/
theorem exec_portEnable_planned (hp : p < 256) (hplan : s.planned p = true) : exec (.portEnable p) s =
    .next (if s.lanesAwake = true then ((s.granted 0 2).setFld (Reg.PORT_CTL_EN p) 1).portStart p
      else (s.granted 0 2).setFld (Reg.PORT_CTL_EN p) 1) := by
  have hplan' : (s.granted 0 2).planned p = true := hplan
  rw [exec_portEnable hup hp, State.portEnable, hplan', if_neg (by decide)]
  rfl

/-- A port that is not planned cannot be enabled: PORT_RANGE (R279). -/
theorem exec_portEnable_unplanned (hp : p < 256) (hplan : s.planned p = false) : exec (.portEnable p) s =
    .next ((s.granted 0 2).raise 0x1103 [(4, 0x200000 + 0x1000 * p)]) := by
  have hplan' : (s.granted 0 2).planned p = false := hplan
  rw [exec_portEnable hup hp, State.portEnable, if_pos hplan']

/-- A disable of a port in its start-up is recorded (R56, R279). -/
theorem exec_portDisable_starting (hp : p < 256) (hen : s.flag (Reg.PORT_CTL_EN p) = true)
    (hon : (s.port p).fn.state = 1) (hready : (s.port p).fn.ready = false) : exec (.portDisable p) s =
    .next (((s.granted 0 2).setFld (Reg.PORT_CTL_EN p) 0).setPort p { s.port p with
      fn := { (s.port p).fn with stopPending := true } }) := by
  have hen' : (s.granted 0 2).flag (Reg.PORT_CTL_EN p) = true := hen
  have hdis : (((s.granted 0 2).setFld (Reg.PORT_CTL_EN p) 0).port p).fn.disable =
      ({ (s.port p).fn with stopPending := true }, false) := FnStatus.disable_of_starting hon hready
  rw [exec_portDisable hup hp, State.portDisable, if_pos hen', State.portStop, hdis]
  rfl

/-- An enable of a fabric lane that is off, in L0, starts it (R280). -/
theorem exec_fabricLaneEnable_off (n : Fin 256) (hoff : (s.lane (256 + n)).fn.state = 0) (hpwr : s.pwr.state = 0) :
    exec (.fabricLaneEnable n) s = .next (((s.granted 0 2).setFld (Reg.LANE_CTL_EN (256 + n)) 1).setLane (256 + n)
      { s.lane (256 + n) with
        fn := { (s.lane (256 + n)).fn with state := 1, ready := false, stopPending := false }, rxCal := false }) := by
  have hawake : ((s.granted 0 2).setFld (Reg.LANE_CTL_EN (256 + n)) 1).fabricAwake = true := decide_eq_true hpwr
  have hen : (((s.granted 0 2).setFld (Reg.LANE_CTL_EN (256 + n)) 1).lane (256 + n)).fn.enable =
      ({ (s.lane (256 + n)).fn with state := 1, ready := false, stopPending := false }, true) :=
    FnStatus.enable_of_off hoff
  show execFabricLaneEnable n s = _
  rw [execFabricLaneEnable, State.hostAct_of_barUp hup, State.fabricEnable]
  dsimp only
  rw [if_pos hawake, State.fabricStart, hen]
  rfl

/-- A disable of a fabric lane that is ready begins its shut-down (R280). -/
theorem exec_fabricLaneDisable_ready (n : Fin 256) (hon : (s.lane (256 + n)).fn.state = 1)
    (hready : (s.lane (256 + n)).fn.ready = true) :
    exec (.fabricLaneDisable n) s = .next (((s.granted 0 2).setFld (Reg.LANE_CTL_EN (256 + n)) 0).setLane (256 + n)
      { s.lane (256 + n) with fn := { (s.lane (256 + n)).fn with state := 2, ready := false } }) := by
  have hdis : (((s.granted 0 2).setFld (Reg.LANE_CTL_EN (256 + n)) 0).lane (256 + n)).fn.disable =
      ({ (s.lane (256 + n)).fn with state := 2, ready := false }, true) := FnStatus.disable_of_ready hon hready
  show execFabricLaneDisable n s = _
  rw [execFabricLaneDisable, State.hostAct_of_barUp hup, State.fabricDisable]
  dsimp only
  rw [hdis]
  rfl

end HostWrites

/-! ### A training that fails (R266) -/

theorem State.raiseTen_lessEvents (s : State) (code subject : Nat) (items : List (Nat × Nat)) :
    (s.raiseTen code subject items).lessEvents = s.lessEvents := by
  unfold State.raiseTen
  dsimp only
  split_ifs
  · rfl
  · rw [State.raise_lessEvents]; rfl

@[simp] theorem State.raiseTen_ports (s : State) (code subject : Nat) (items : List (Nat × Nat)) :
    (s.raiseTen code subject items).ports = s.ports := by
  have h := congrArg State.ports (s.raiseTen_lessEvents code subject items); exact h
@[simp] theorem State.raiseTen_lanes (s : State) (code subject : Nat) (items : List (Nat × Nat)) :
    (s.raiseTen code subject items).lanes = s.lanes := by
  have h := congrArg State.lanes (s.raiseTen_lessEvents code subject items); exact h
@[simp] theorem State.raiseTen_tm (s : State) (code subject : Nat) (items : List (Nat × Nat)) :
    (s.raiseTen code subject items).tm = s.tm := by
  have h := congrArg State.tm (s.raiseTen_lessEvents code subject items); exact h
@[simp] theorem State.raiseTen_mode (s : State) (code subject : Nat) (items : List (Nat × Nat)) :
    (s.raiseTen code subject items).mode = s.mode := by
  have h := congrArg State.mode (s.raiseTen_lessEvents code subject items); exact h

/-- A training that has not completed marks its lane, and the port negotiates again (R266). -/
theorem exec_trainFailed {s : State} {p lane : Nat} (hlane : (s.portLanes p).contains lane = true)
    (htrain : s.linkTrain p = true) (hon : (s.port p).fn.state = 1) (hdown : (s.port p).linkUp = false)
    (hstop : (s.port p).fn.stopPending = false) (reached : Nat) :
    exec (.trainFailed p lane reached) s =
      .next (((s.setLane lane { s.lane lane with trainFail := true }).raiseTen 0x1003 p
        [(2, p), (2, lane), (1, reached)]).setPort p { s.port p with anDone := false }) := by
  have hport : (((s.setLane lane { s.lane lane with trainFail := true }).raiseTen 0x1003 p
      [(2, p), (2, lane), (1, reached)])).port p = s.port p := by
    rw [State.port, State.raiseTen_ports]; rfl
  show execTrainFailed p lane reached s = _
  rw [execTrainFailed, if_pos hlane, State.trainFail]
  dsimp only
  rw [if_neg (by simp [htrain, hon, hdown]), hstop, if_neg (by decide), hport]
  rfl

/-! ### A link that comes up (R268) -/

/-- The state without what the alignment of lanes changes. -/
def State.lessAlign (s : State) : State := { s with lanes := [], freeCtr := 0 }

/-- The lanes of a port as they are found aligned, once the time for which it stays down has passed. -/
def State.alignPort (s : State) (p : Nat) : State :=
  (s.waitClk (s.port p).downUntil).each ((s.waitClk (s.port p).downUntil).portLanes p) (fun s n => s.alignLane p n)

theorem State.alignPort_lessAlign (s : State) (p : Nat) :
    (s.alignPort p).lessAlign = (s.waitClk (s.port p).downUntil).lessAlign :=
  State.each_induction (P := fun u => u.lessAlign = (s.waitClk (s.port p).downUntil).lessAlign) rfl
    fun _ _ _ hu => hu

@[simp] theorem State.alignPort_ports (s : State) (p : Nat) : (s.alignPort p).ports = s.ports := by
  have h := congrArg State.ports (s.alignPort_lessAlign p); exact h
@[simp] theorem State.alignPort_canvas (s : State) (p : Nat) : (s.alignPort p).canvas = s.canvas := by
  have h := congrArg State.canvas (s.alignPort_lessAlign p); exact h
@[simp] theorem State.alignPort_tm (s : State) (p : Nat) : (s.alignPort p).tm = s.tm := by
  have h := congrArg State.tm (s.alignPort_lessAlign p); exact h
@[simp] theorem State.alignPort_mode (s : State) (p : Nat) : (s.alignPort p).mode = s.mode := by
  have h := congrArg State.mode (s.alignPort_lessAlign p); exact h
@[simp] theorem State.alignPort_clk (s : State) (p : Nat) :
    (s.alignPort p).clk = max s.clk (s.port p).downUntil := by
  have h := congrArg State.clk (s.alignPort_lessAlign p); exact h.trans (State.waitClk_clk s _)

/-- LINK_TRAIN of a port is the Canvas's (R266). -/
theorem State.linkTrain_congr {s t : State} (h : t.canvas = s.canvas) (p : Nat) : t.linkTrain p = s.linkTrain p := by
  simp only [State.linkTrain, State.lanePlan, State.firstLane, State.portPlan, State.section, h]

/-- A port whose link has come up. -/
def PortSt.cameUp (x : PortSt) (anDone : Bool) : PortSt :=
  { x with
    fn := { x.fn with ready := true, stopPending := false }, linkUp := true, anDone := anDone, hiSer := false
    localFault := false, remoteFault := false }

theorem PortSt.ne_default_of_linkUp {x : PortSt} (h : x.linkUp = true) : x ≠ {} := fun hx => by simp [hx] at h

/-- A port whose lanes are aligned comes up (R268). -/
theorem exec_portLinkUp {s : State} {p : Nat} (hawake : s.lanesAwake = true) (hplan : s.planned p = true)
    (hon : (s.port p).fn.state = 1) (hdown : (s.port p).linkUp = false) (hstop : (s.port p).fn.stopPending = false) :
    ∃ x : PortSt, ∃ speed, exec (.portLinkUp p) s = .next ((((s.alignPort p).setPort p x).raise 0x1101
      [(2, p), (1, speed)]).setPort p ((s.port p).cameUp (s.linkTrain p))).settle := by
  have hport : (s.alignPort p).port p = s.port p := by rw [State.port, State.port, State.alignPort_ports]
  have htrain : (s.alignPort p).linkTrain p = s.linkTrain p := State.linkTrain_congr (s.alignPort_canvas p) p
  obtain ⟨x, hx⟩ : ∃ x : PortSt, x = { s.port p with
    linkUp := true, anDone := s.linkTrain p, hiSer := false, localFault := false, remoteFault := false } := ⟨_, rfl⟩
  have hback (speed : Nat) : (((s.alignPort p).setPort p x).raise 0x1101 [(2, p), (1, speed)]).port p = x := by
    rw [State.port, State.raise_ports]
    exact tget_tset_of_ne_default (PortSt.ne_default_of_linkUp (by rw [hx])) _ p
  refine ⟨x, ((s.alignPort p).setPort p x).speed p, ?_⟩
  show execPortLinkUp p s = _
  rw [execPortLinkUp, if_pos ⟨hawake, hplan, hon, hdown⟩, State.linkUpNow]
  dsimp only
  rw [← State.alignPort, hport, htrain, ← hx, hback, hstop, if_neg (by decide), hx]
  rfl

/-! ### A link that goes down (R268, R341) -/

@[simp] theorem State.discardPort_ports (s : State) (p : Nat) : (s.discardPort p).ports = s.ports := by
  have h := congrArg State.ports (s.discardPort_lessQueues p); exact h
@[simp] theorem State.discardPort_regs (s : State) (p : Nat) : (s.discardPort p).regs = s.regs := by
  have h := congrArg State.regs (s.discardPort_lessQueues p); exact h
@[simp] theorem State.discardPort_fdb (s : State) (p : Nat) : (s.discardPort p).fdb = s.fdb := by
  have h := congrArg State.fdb (s.discardPort_lessQueues p); exact h
@[simp] theorem State.discardPort_mode (s : State) (p : Nat) : (s.discardPort p).mode = s.mode := by
  have h := congrArg State.mode (s.discardPort_lessQueues p); exact h

/-- No frame toward a port stays queued after its discard. -/
theorem State.toward_of_mem_discardPort {s : State} {p : Nat} {f : Frame} (h : f ∈ (s.discardPort p).tm.frames) :
    f.toward p = false := by
  obtain ⟨hframes, -⟩ := Prod.mk.inj (s.discardPort_queues p)
  rw [hframes] at h
  exact Bool.eq_false_iff.mpr fun hto => not_mem_diff_filter (sel := fun f : Frame => f.toward p) hto h

/-- Nothing is in transmission on a port after its discard. -/
theorem State.sending_discardPort {s : State} (hwf : keysRise 0 s.tm.ports = true) (p : Nat) :
    ((s.discardPort p).pq p).sending = none := by
  obtain ⟨-, hports⟩ := Prod.mk.inj (s.discardPort_queues p)
  rw [State.pq, hports, tget_tset_same hwf]

/-- A port whose link has gone down: it stays down for 10 ms. -/
def PortSt.fell (x : PortSt) (clk : Nat) : PortSt :=
  { x with linkUp := false, anDone := false, downUntil := clk + 10000000 }

theorem PortSt.fell_ne_default (x : PortSt) (clk : Nat) : x.fell clk ≠ {} := fun h =>
  absurd (congrArg PortSt.downUntil h) (Nat.succ_ne_zero (clk + 9999999))

theorem State.linkLost_eq (s : State) (p : Nat) :
    ∃ l, s.linkLost p = (s.setPort p ((s.port p).fell s.clk)).withLanes l := by
  rw [State.linkLost]
  exact State.eachLane_eq _ p _

/-- What a port loses as its link goes down, before its queues (R268). -/
def State.linkFell (s : State) (p cause : Nat) : State :=
  ((s.setPort p ((s.port p).faulted cause)).linkLost p).raise 0x1102 [(2, p), (1, cause)]

section LinkFell

variable (s : State) (p cause : Nat)

theorem State.linkFell_port : ∃ x : PortSt, (s.linkFell p cause).port p = x.fell s.clk := by
  obtain ⟨l, hl⟩ := (s.setPort p ((s.port p).faulted cause)).linkLost_eq p
  rw [State.port, State.linkFell, State.raise_ports, hl]
  exact ⟨_, tget_tset_of_ne_default (PortSt.fell_ne_default _ s.clk) _ p⟩

/-- The state without what the loss of a link changes. -/
def State.lessLink (s : State) : State := { s.lessEvents with ports := [], lanes := [] }

theorem State.setPort_lessLink (x : PortSt) : (s.setPort p x).lessLink = s.lessLink := rfl
theorem State.withLanes_lessLink (l : Tbl LaneSt) : (s.withLanes l).lessLink = s.lessLink := rfl
theorem State.raise_lessLink (items : List (Nat × Nat)) : (s.raise p items).lessLink = s.lessLink := by
  rw [State.lessLink, State.lessLink, State.raise_lessEvents]

theorem State.linkFell_lessLink : (s.linkFell p cause).lessLink = s.lessLink := by
  obtain ⟨l, hl⟩ := (s.setPort p ((s.port p).faulted cause)).linkLost_eq p
  rw [State.linkFell, State.raise_lessLink, hl, State.withLanes_lessLink, State.setPort_lessLink, State.setPort_lessLink]

@[simp] theorem State.linkFell_tm : (s.linkFell p cause).tm = s.tm := by
  have h := congrArg State.tm (s.linkFell_lessLink p cause); exact h
@[simp] theorem State.linkFell_fdb : (s.linkFell p cause).fdb = s.fdb := by
  have h := congrArg State.fdb (s.linkFell_lessLink p cause); exact h
@[simp] theorem State.linkFell_mode : (s.linkFell p cause).mode = s.mode := by
  have h := congrArg State.mode (s.linkFell_lessLink p cause); exact h

theorem State.linkFell_regWord {a : Nat} (ha : a ≠ 0x1000C) : (s.linkFell p cause).regWord a = s.regWord a := by
  obtain ⟨l, hl⟩ := (s.setPort p ((s.port p).faulted cause)).linkLost_eq p
  rw [State.linkFell, State.raise_regWord _ _ _ ha, hl]
  rfl

theorem State.linkFell_flushOnDown :
    (s.linkFell p cause).flag Reg.FDB_CTL_FLUSH_ON_DOWN = s.flag Reg.FDB_CTL_FLUSH_ON_DOWN := by
  have hreset : bitsOf (resetWord Reg.FDB_CTL_FLUSH_ON_DOWN.addr).toNat 1 1 = 0 := by decide +kernel
  rw [State.flag, State.flag, State.fld_eq_bitsOf _ _ hreset, State.fld_eq_bitsOf _ _ hreset,
    State.linkFell_regWord _ _ _ (by decide)]

end LinkFell

/-- A link that was up goes down; the frames queued toward it are discarded (R268, R341). -/
theorem exec_portLinkDown {s : State} {p : Nat} (hplan : s.planned p = true) (hon : (s.port p).fn.state = 1)
    (hlink : (s.port p).linkUp = true) (hflush : s.flag Reg.FDB_CTL_FLUSH_ON_DOWN = false) (cause : Nat) :
    exec (.portLinkDown p cause) s = .next ((s.linkFell p cause).discardPort p).settle := by
  have hflag : ((s.linkFell p cause).discardPort p).flag Reg.FDB_CTL_FLUSH_ON_DOWN = false := by
    rw [State.flag_congr (State.discardPort_regs _ p), State.linkFell_flushOnDown, hflush]
  show execPortLinkDown p cause s = _
  rw [execPortLinkDown, if_pos ⟨hplan, hon⟩, State.linkDown]
  dsimp only
  rw [if_pos hlink, ← State.linkFell, hflag, if_neg Bool.false_ne_true]
  rfl

/-! ### What the host's writes of the enables leave alone -/

/-- A write of a field changes the register store and the bus target's owner alone. -/
theorem rest_of_setFld (s : State) (t m : Nat) (f : FieldRef) (v : Nat) :
    ({ (s.granted t m).setFld f v with regs := s.regs, bm := s.bm } : State) = s := rfl

section Rest

variable {s u : State} (hu : ({ u with regs := s.regs, bm := s.bm } : State) = s)
include hu

theorem rest_of_portStart (p : Nat) (x : PortSt) (l : Tbl LaneSt) :
    ({ (u.setPort p x).withLanes l with regs := s.regs, bm := s.bm, ports := s.ports, lanes := s.lanes } : State) = s := by
  have h := congrArg (fun v : State => { v with ports := s.ports, lanes := s.lanes }) hu; exact h

theorem rest_of_setPort (p : Nat) (x : PortSt) :
    ({ u.setPort p x with regs := s.regs, bm := s.bm, ports := s.ports } : State) = s := by
  have h := congrArg (fun v : State => { v with ports := s.ports }) hu; exact h

theorem rest_of_setLane (n : Nat) (x : LaneSt) :
    ({ u.setLane n x with regs := s.regs, bm := s.bm, lanes := s.lanes } : State) = s := by
  have h := congrArg (fun v : State => { v with lanes := s.lanes }) hu; exact h

end Rest

section Enables

variable {s : State} (hrise : keysRise 0 s.regs = true) (hup : s.barUp = true) {p : Nat}
include hrise hup

theorem portEnable_starts (hp : p < 256) (hplan : s.planned p = true) (hawake : s.lanesAwake = true)
    (hoff : (s.port p).fn.state = 0) : ∃ t, exec (.portEnable p) s = .next t ∧ t.flag (Reg.PORT_CTL_EN p) = true ∧
      t.ports = tset {} s.ports p { s.port p with
        fn := { (s.port p).fn with state := 1, ready := false, stopPending := false } } ∧
      { t with regs := s.regs, bm := s.bm, ports := s.ports, lanes := s.lanes } = s := by
  obtain ⟨l, hstart⟩ := State.portStart_of_off (s := (s.granted 0 2).setFld (Reg.PORT_CTL_EN p) 1) (p := p) hoff
  refine ⟨_, exec_portEnable_planned hup hp hplan, ?_⟩
  rw [if_pos hawake, hstart]
  exact ⟨(enableBit_port hp).flag_setFld (s := s.granted 0 2) hrise true, rfl,
    rest_of_portStart (rest_of_setFld s 0 2 _ _) p _ l⟩

theorem portEnable_asleep (hp : p < 256) (hplan : s.planned p = true) (hasleep : s.lanesAwake = false) :
    ∃ t, exec (.portEnable p) s = .next t ∧ t.flag (Reg.PORT_CTL_EN p) = true ∧
      { t with regs := s.regs, bm := s.bm } = s := by
  refine ⟨_, exec_portEnable_planned hup hp hplan, ?_⟩
  rw [if_neg (Bool.eq_false_iff.mp hasleep)]
  exact ⟨(enableBit_port hp).flag_setFld (s := s.granted 0 2) hrise true, rest_of_setFld s 0 2 _ _⟩

theorem portDisable_recorded (hp : p < 256) (hen : s.flag (Reg.PORT_CTL_EN p) = true) (hon : (s.port p).fn.state = 1)
    (hready : (s.port p).fn.ready = false) : ∃ t, exec (.portDisable p) s = .next t ∧
      t.flag (Reg.PORT_CTL_EN p) = false ∧
      t.ports = tset {} s.ports p { s.port p with fn := { (s.port p).fn with stopPending := true } } ∧
      { t with regs := s.regs, bm := s.bm, ports := s.ports } = s :=
  ⟨_, exec_portDisable_starting hup hp hen hon hready,
    (enableBit_port hp).flag_setFld (s := s.granted 0 2) hrise false, rfl,
    rest_of_setPort (rest_of_setFld s 0 2 _ _) p _⟩

theorem fabricLaneEnable_starts (n : Fin 256) (hoff : (s.lane (256 + n)).fn.state = 0) (hpwr : s.pwr.state = 0) :
    ∃ t, exec (.fabricLaneEnable n) s = .next t ∧ t.flag (Reg.LANE_CTL_EN (256 + n)) = true ∧
      t.lanes = tset {} s.lanes (256 + n) { s.lane (256 + n) with
        fn := { (s.lane (256 + n)).fn with state := 1, ready := false, stopPending := false }, rxCal := false } ∧
      { t with regs := s.regs, bm := s.bm, lanes := s.lanes } = s :=
  ⟨_, exec_fabricLaneEnable_off hup n hoff hpwr,
    (enableBit_fabricLane n).flag_setFld (s := s.granted 0 2) hrise true, rfl,
    rest_of_setLane (rest_of_setFld s 0 2 _ _) _ _⟩

theorem fabricLaneDisable_stops (n : Fin 256) (hon : (s.lane (256 + n)).fn.state = 1)
    (hready : (s.lane (256 + n)).fn.ready = true) : ∃ t, exec (.fabricLaneDisable n) s = .next t ∧
      t.flag (Reg.LANE_CTL_EN (256 + n)) = false ∧
      t.lanes = tset {} s.lanes (256 + n) { s.lane (256 + n) with
        fn := { (s.lane (256 + n)).fn with state := 2, ready := false } } ∧
      { t with regs := s.regs, bm := s.bm, lanes := s.lanes } = s :=
  ⟨_, exec_fabricLaneDisable_ready hup n hon hready,
    (enableBit_fabricLane n).flag_setFld (s := s.granted 0 2) hrise false, rfl,
    rest_of_setLane (rest_of_setFld s 0 2 _ _) _ _⟩

end Enables

/-! ### What the link's events leave alone -/

theorem trainFailed_marks {s : State} {p lane : Nat} (hlane : (s.portLanes p).contains lane = true)
    (htrain : s.linkTrain p = true) (hon : (s.port p).fn.state = 1) (hdown : (s.port p).linkUp = false)
    (hstop : (s.port p).fn.stopPending = false) (reached : Nat) :
    ∃ t, exec (.trainFailed p lane reached) s = .next t ∧
      t.ports = tset {} s.ports p { s.port p with anDone := false } ∧
      t.lanes = tset {} s.lanes lane { s.lane lane with trainFail := true } ∧ t.tm = s.tm ∧ t.mode = s.mode := by
  have hports (u : State) (x : PortSt) : (u.setPort p x).ports = tset {} u.ports p x := rfl
  refine ⟨_, exec_trainFailed hlane htrain hon hdown hstop reached, ?_⟩
  rw [hports, State.raiseTen_ports, State.setPort_lanes, State.raiseTen_lanes, State.setPort_tm, State.raiseTen_tm,
    State.setPort_mode, State.raiseTen_mode]
  exact ⟨rfl, rfl, rfl, rfl⟩

theorem portLinkUp_comesUp {s : State} {p : Nat} (hawake : s.lanesAwake = true) (hplan : s.planned p = true)
    (hon : (s.port p).fn.state = 1) (hdown : (s.port p).linkUp = false) (hstop : (s.port p).fn.stopPending = false) :
    ∃ u : State, exec (.portLinkUp p) s = .next u.settle ∧ (u.port p).linkUp = true ∧
      (u.port p).fn = { (s.port p).fn with ready := true } ∧ (u.port p).anDone = s.linkTrain p ∧
      u.clk = max s.clk (s.port p).downUntil ∧ u.tm = s.tm ∧ u.mode = s.mode := by
  obtain ⟨x, speed, hexec⟩ := exec_portLinkUp hawake hplan hon hdown hstop
  have hfn : ({ (s.port p).fn with ready := true, stopPending := false } : FnStatus) =
      { (s.port p).fn with ready := true } := by rw [← hstop]
  have hport (u : State) : (u.setPort p ((s.port p).cameUp (s.linkTrain p))).port p = (s.port p).cameUp (s.linkTrain p) :=
    tget_tset_of_ne_default (PortSt.ne_default_of_linkUp rfl) u.ports p
  refine ⟨_, hexec, ?_⟩
  rw [hport]
  simp only [State.setPort_clk, State.setPort_tm, State.setPort_mode, State.raise_clk, State.raise_tm, State.raise_mode,
    State.alignPort_clk, State.alignPort_tm, State.alignPort_mode]
  exact ⟨rfl, hfn, rfl, trivial, trivial, trivial⟩

theorem portLinkDown_goesDown {s : State} {p : Nat} (hplan : s.planned p = true) (hon : (s.port p).fn.state = 1)
    (hlink : (s.port p).linkUp = true) (hwf : tblWf {} 0 s.tm.ports = true)
    (hflush : s.flag Reg.FDB_CTL_FLUSH_ON_DOWN = false) (cause : Nat) :
    ∃ u : State, exec (.portLinkDown p cause) s = .next u.settle ∧ (u.port p).linkUp = false ∧
      (u.port p).downUntil = s.clk + 10000000 ∧ (u.pq p).sending = none ∧ (∀ f ∈ u.tm.frames, f.toward p = false) ∧
      u.fdb = s.fdb ∧ u.mode = s.mode := by
  obtain ⟨x, hx⟩ := s.linkFell_port p cause
  have hport : ((s.linkFell p cause).discardPort p).port p = x.fell s.clk := by
    rw [← hx, State.port, State.discardPort_ports]; rfl
  have hrise : keysRise 0 (s.linkFell p cause).tm.ports = true := by
    rw [State.linkFell_tm]; exact keysRise_of_tblWf hwf
  refine ⟨_, exec_portLinkDown hplan hon hlink hflush cause, ?_⟩
  rw [hport, State.discardPort_fdb, State.linkFell_fdb, State.discardPort_mode, State.linkFell_mode]
  exact ⟨rfl, rfl, State.sending_discardPort hrise p, fun f hf => State.toward_of_mem_discardPort hf, rfl, rfl⟩

/-- FABRIC_LANE_READY: a lane in its start-up is ON and READY, its bursts numbered afresh (R274, R280). -/
theorem exec_fabricLaneReady {s : State} {n : Fin 256} (hfn : (s.lane (256 + n)).fn = ⟨1, false, false, false⟩) :
    exec (.fabricLaneReady n) s = .next (s.setLane (256 + n) { s.lane (256 + n) with
      fn := ⟨1, true, false, false⟩, rxCal := true, burstSeq := 0, lastValid := false }) := by
  have hup : (s.lane (256 + n)).fn.up.1 = ⟨1, true, false, false⟩ := by rw [hfn]; rfl
  show execFabricLaneReady n s = _
  rw [execFabricLaneReady, State.fabricReady]
  dsimp only
  rw [if_pos (by simp [hfn]), hup]
  rfl

/-- Settles O44: each host write is one store of its enable bit and a step of the function's state; a link's events change
its port, its lanes and its queues, and the rest is read off past what they leave alone. -/
theorem portsAndLanes : Obligations.PortsAndLanes := by
  unfold Obligations.PortsAndLanes
  intro s p lane reached cause n hcanon hp
  obtain ⟨hrise, -⟩ := hcanon
  refine ⟨fun hup => ⟨?_, ?_, ?_, ?_, ?_, ?_⟩, ?_, ?_, ?_, ?_⟩
  · exact portEnable_starts hrise hup hp
  · exact portEnable_asleep hrise hup hp
  · exact fun hplan => ⟨_, exec_portEnable_unplanned hup hp hplan, State.raise_eventsOnly _ _ (packItems_addr_length _)⟩
  · exact portDisable_recorded hrise hup hp
  · exact fabricLaneEnable_starts hrise hup n
  · exact fabricLaneDisable_stops hrise hup n
  · exact fun hlane htrain hon hdown hstop => trainFailed_marks hlane htrain hon hdown hstop reached
  · exact portLinkUp_comesUp
  · exact fun hplan hon hlink hwf hflush => portLinkDown_goesDown hplan hon hlink hwf hflush cause
  · exact exec_fabricLaneReady

end Sys2Proof.Machine
end

section
/-!
What a change of the operating mode leaves alone: the clocks, power, the start, the retention and the number of rings; the
mode and the lasers after an entry to mode 1 or 2 (R33, R38).
-/

namespace Sys2Proof.Machine

open Sys2Proof.Stated

/-! ### What a change of mode stops and tells -/

/-- The state as a change of mode leaves it, beside the mode itself and the lasers: the clocks, the supplies and power, the
retention, the start, the thermal unit, the mode in force, the lasers' outputs and the number of rings. Commands that it
ends, events that it tells, and the queues, ports, loops and outputs that it stops are left out. -/
def State.conduct (s : State) : State :=
  { clk := s.clk, pins := s.pins, pwr := s.pwr, ref := s.ref, ret := s.ret, start := s.start, store := s.store
    thm := s.thm, time := s.time, mode := { mode := s.mode.mode }
    saf := { lsrEn := s.saf.lsrEn, request := s.saf.request, wired := s.saf.wired }
    cx := { rings := List.replicate s.cx.rings.length {} } }

section Reads

variable {s t : State} (h : t.conduct = s.conduct)
include h

theorem State.clk_of_conduct : t.clk = s.clk := by have := congrArg State.clk h; exact this
theorem State.pins_of_conduct : t.pins = s.pins := by have := congrArg State.pins h; exact this
theorem State.pwr_of_conduct : t.pwr = s.pwr := by have := congrArg State.pwr h; exact this
theorem State.ref_of_conduct : t.ref = s.ref := by have := congrArg State.ref h; exact this
theorem State.ret_of_conduct : t.ret = s.ret := by have := congrArg State.ret h; exact this
theorem State.store_of_conduct : t.store = s.store := by have := congrArg State.store h; exact this
theorem State.time_of_conduct : t.time = s.time := by have := congrArg State.time h; exact this
theorem State.mode_of_conduct : t.mode.mode = s.mode.mode := by have := congrArg (·.mode.mode) h; exact this
theorem State.lsrEn_of_conduct : t.saf.lsrEn = s.saf.lsrEn := by have := congrArg (·.saf.lsrEn) h; exact this
theorem State.request_of_conduct : t.saf.request = s.saf.request := by have := congrArg (·.saf.request) h; exact this
theorem State.wired_of_conduct : t.saf.wired = s.saf.wired := by have := congrArg (·.saf.wired) h; exact this
theorem State.ringCount_of_conduct : t.cx.rings.length = s.cx.rings.length := by
  have hlen := congrArg (·.cx.rings.length) h
  simpa only [State.conduct, List.length_replicate] using hlen

end Reads

theorem State.conduct_of_lessEgress {s t : State} (h : t.lessEgress = s.lessEgress) : t.conduct = s.conduct := by
  have := congrArg State.conduct h; exact this

theorem State.each_conduct {α : Type} (s : State) (l : List α) {f : State → α → State}
    (hf : ∀ u x, (f u x).conduct = u.conduct) : (s.each l f).conduct = s.conduct :=
  State.each_induction (P := fun u => u.conduct = s.conduct) rfl fun u x _ hu => (hf u x).trans hu

@[simp] theorem State.conduct_ite (c : Prop) [Decidable c] (a b : State) :
    (if c then a else b).conduct = if c then a.conduct else b.conduct := by
  split <;> rfl

@[simp] theorem State.raise_conduct (s : State) (code : Nat) (l : List (Nat × Nat)) :
    (s.raise code l).conduct = s.conduct := State.conduct_of_lessEgress (s.raise_lessEgress code l)
@[simp] theorem State.raiseLim_conduct (s : State) (code sub : Nat) (l : List (Nat × Nat)) :
    (s.raiseLim code sub l).conduct = s.conduct := State.conduct_of_lessEgress (s.raiseLim_lessEgress code sub l)
@[simp] theorem State.settle_conduct (s : State) : s.settle.conduct = s.conduct :=
  State.conduct_of_lessEgress s.settle_lessEgress
@[simp] theorem State.count_conduct (s : State) (a n : Nat) : (s.count a n).conduct = s.conduct := rfl
@[simp] theorem State.setPort_conduct (s : State) (p : Nat) (x : PortSt) : (s.setPort p x).conduct = s.conduct := rfl
@[simp] theorem State.withLanes_conduct (s : State) (l : Tbl LaneSt) : (s.withLanes l).conduct = s.conduct := rfl

/-! ### Completions -/

@[simp] theorem State.setRing_conduct (s : State) (r : Nat) (x : Ring) : (s.setRing r x).conduct = s.conduct := by
  rw [State.conduct, State.conduct, State.setRing_rings_length]; rfl

@[simp] theorem State.produce_conduct (s : State) (r dev : Nat) (b : Bytes) : (s.produce r dev b).conduct = s.conduct := by
  unfold State.produce
  dsimp only
  split_ifs
  · exact State.conduct_of_lessEgress ((State.coalesce_lessEgress _ r).trans (State.hostWrite_lessEgress s _ b))
  · exact s.setRing_conduct r _

@[simp] theorem State.completeWith_conduct (s : State) (tag : CmdTag) (st : Nat) (d : List (Nat × Nat)) (w : Bool) :
    (s.completeWith tag st d w).conduct = s.conduct := by
  have hwrite : ∀ (c : Prop) [Decidable c] (a : Nat) (b : Bytes),
      (if c then s.hostWrite a b else s).conduct = s.conduct := fun c _ a b => by split <;> rfl
  unfold State.completeWith State.postCompletion
  simp only [State.setRing_conduct, State.produce_conduct, hwrite]

@[simp] theorem State.complete_conduct (s : State) (tag : CmdTag) (st : Nat) (d : List (Nat × Nat)) :
    (s.complete tag st d).conduct = s.conduct := s.completeWith_conduct tag st d false

@[simp] theorem State.completeOpt_conduct (s : State) (tag : Option CmdTag) (st : Nat) (d : List (Nat × Nat)) :
    (s.completeOpt tag st d).conduct = s.conduct := by
  cases tag with
  | none => rfl
  | some t => exact s.complete_conduct t st d

@[simp] theorem State.begin_conduct (s : State) (tag : CmdTag) (op : Nat) : (s.begin tag op).conduct = s.conduct :=
  s.setRing_conduct _ _

/-! ### Queues, ports and lanes -/

@[simp] theorem State.freeBuf_lessEgress (s : State) (b : Nat) : (s.freeBuf b).lessEgress = s.lessEgress := by
  unfold State.freeBuf; split <;> rfl

@[simp] theorem State.discard_lessEgress (s : State) (f : Frame) (local_ fabricCnt : Nat) :
    (s.discard f local_ fabricCnt).lessEgress = s.lessEgress := by
  obtain ⟨a, h⟩ := s.discard_eq f local_ fabricCnt
  rw [h, State.count_lessEgress]
  exact State.freeBuf_lessEgress _ _

@[simp] theorem State.discardPort_lessEgress (s : State) (p : Nat) : (s.discardPort p).lessEgress = s.lessEgress := by
  have hdisc : (s.each (s.tm.frames.filter (fun f => f.toward p)) (fun s f => s.discard f 41 53)).lessEgress =
      s.lessEgress := s.each_lessEgress _ fun u x => u.discard_lessEgress x 41 53
  unfold State.discardPort
  dsimp only
  rw [State.each_lessEgress _ _ fun u x => by rw [State.writeBack_lessEgress, State.count_lessEgress], ← hdisc]
  split
  · rw [State.freeBuf_lessEgress]
    split
    · rw [State.writeBack_lessEgress, State.count_lessEgress, State.setPq_lessEgress]
    · split <;> rw [State.count_lessEgress, State.setPq_lessEgress]
  · rw [State.setPq_lessEgress]

@[simp] theorem State.discard_conduct (s : State) (f : Frame) (local_ fabricCnt : Nat) :
    (s.discard f local_ fabricCnt).conduct = s.conduct :=
  State.conduct_of_lessEgress (s.discard_lessEgress f local_ fabricCnt)

@[simp] theorem State.discardPort_conduct (s : State) (p : Nat) : (s.discardPort p).conduct = s.conduct :=
  State.conduct_of_lessEgress (s.discardPort_lessEgress p)

@[simp] theorem State.pressure_conduct (s : State) : s.pressure.conduct = s.conduct :=
  State.conduct_of_lessEgress s.pressure_lessEgress

@[simp] theorem State.eachLane_conduct (s : State) (p : Nat) (f : LaneSt → LaneSt) :
    (s.eachLane p f).conduct = s.conduct := by
  obtain ⟨l, h⟩ := s.eachLane_eq p f
  rw [h, State.withLanes_conduct]

@[simp] theorem State.startFlush_conduct (s : State) (m p : Nat) (fid : Option Nat) (all : Bool) (tag : Option CmdTag)
    (notify : Bool) : (s.startFlush m p fid all tag notify).conduct = s.conduct := by
  unfold State.startFlush
  dsimp only
  split_ifs
  · rw [State.pressure_conduct, State.discardPort_conduct]; rfl
  · rfl

@[simp] theorem State.linkDown_conduct (s : State) (p cause : Nat) : (s.linkDown p cause).conduct = s.conduct := by
  have hfell : (s.linkFell p cause).conduct = s.conduct := by
    rw [State.linkFell, State.raise_conduct, State.linkLost, State.eachLane_conduct]; rfl
  unfold State.linkDown
  dsimp only
  rw [← State.linkFell]
  split_ifs
  · rw [State.settle_conduct, State.startFlush_conduct, State.discardPort_conduct, hfell]
  · rw [State.settle_conduct, State.discardPort_conduct, hfell]
  · rfl

@[simp] theorem State.portsOff_conduct (s : State) : s.portsOff.conduct = s.conduct :=
  State.each_conduct _ _ fun u p => by
    dsimp only
    rw [State.eachLane_conduct, State.setPort_conduct, State.linkDown_conduct]

@[simp] theorem State.portStart_conduct (s : State) (p : Nat) : (s.portStart p).conduct = s.conduct := by
  unfold State.portStart
  dsimp only
  split_ifs
  · rw [State.eachLane_conduct]; rfl
  · rfl

@[simp] theorem State.portsWake_conduct (s : State) : s.portsWake.conduct = s.conduct :=
  State.each_conduct _ _ State.portStart_conduct

@[simp] theorem State.fabricWake_conduct (s : State) : s.fabricWake.conduct = s.conduct :=
  State.each_conduct _ _ fun _ _ => rfl

@[simp] theorem State.fabricOff_conduct (s : State) : s.fabricOff.conduct = s.conduct := rfl
@[simp] theorem State.fabricDark_conduct (s : State) : s.fabricDark.conduct = s.conduct := rfl

@[simp] theorem State.packetStop_conduct (s : State) (limit : Nat) : (s.packetStop limit).conduct = s.conduct :=
  State.each_conduct _ _ fun u f => u.discard_conduct f 49 53

/-! ### Outputs, swatches and the Orbit -/

@[simp] theorem State.toSafe_conduct (s : State) : s.toSafe.conduct = s.conduct := rfl
@[simp] theorem State.noSwatch_conduct (s : State) : s.noSwatch.conduct = s.conduct := rfl
@[simp] theorem State.stopOrbit_conduct (s : State) : s.stopOrbit.conduct = s.conduct := rfl
@[simp] theorem State.unhalt_conduct (s : State) : s.unhalt.conduct = s.conduct := rfl
@[simp] theorem State.voidWindows_conduct (s : State) : s.voidWindows.conduct = s.conduct := rfl

@[simp] theorem State.closeLoops_conduct (s : State) : s.closeLoops.conduct = s.conduct := by
  unfold State.closeLoops; split <;> rfl

@[simp] theorem State.takeEaselCodes_conduct (s : State) : s.takeEaselCodes.conduct = s.conduct :=
  State.each_conduct s _ fun _ _ => rfl

/-! ### Commands that a change of mode ends -/

@[simp] theorem State.endApply_conduct (s : State) : s.endApply.conduct = s.conduct := by
  unfold State.endApply
  split
  · exact State.complete_conduct _ _ _ _
  · rfl

@[simp] theorem State.endPendingMode_conduct (s : State) (st : Nat) : (s.endPendingMode st).conduct = s.conduct := by
  unfold State.endPendingMode
  split
  · exact State.completeOpt_conduct _ _ _ _
  · rfl

@[simp] theorem State.abortTakeoverWait_conduct (s : State) : s.abortTakeoverWait.conduct = s.conduct := by
  unfold State.abortTakeoverWait
  split
  · split
    · exact s.endPendingMode_conduct _
    · rfl
  · rfl

@[simp] theorem State.emptyPending_conduct (s : State) : s.emptyPending.conduct = s.conduct :=
  State.abortTakeoverWait_conduct _

@[simp] theorem State.dropStaged_conduct (s : State) : s.dropStaged.conduct = s.conduct := by
  unfold State.dropStaged
  dsimp only
  split
  · exact State.complete_conduct _ _ _ _
  · rfl

@[simp] theorem State.endLaserSet_conduct (s : State) (st : Nat) : (s.endLaserSet st).conduct = s.conduct := by
  unfold State.endLaserSet
  split
  · exact State.complete_conduct _ _ _ _
  · rfl

/-! ### Conjunctions (R416, R421) -/

theorem State.conduct_ikl (s : State) (x : IklSt) : ({ s with ikl := x } : State).conduct = s.conduct := rfl

@[simp] theorem State.sendIkl_conduct (s : State) (n type : Nat) (b : Bytes) : (s.sendIkl n type b).conduct = s.conduct := by
  unfold State.sendIkl
  dsimp only
  split <;> rfl

@[simp] theorem State.sendConj_conduct (s : State) (m : ConjMsg) : (s.sendConj m).conduct = s.conduct :=
  State.each_conduct (s.meetConj m) _ fun u n => u.sendIkl_conduct n 3 m.bytes

@[simp] theorem State.memberEnd_conduct (s : State) (last reason by_ : Nat) :
    (s.memberEnd last reason by_).conduct = s.conduct := State.abortTakeoverWait_conduct _

@[simp] theorem State.closeProposal_conduct (s : State) (st : Nat) (d : List (Nat × Nat)) :
    (s.closeProposal st d).conduct = s.conduct := by
  unfold State.closeProposal
  split
  · exact State.complete_conduct _ _ _ _
  · rfl

@[simp] theorem State.abortConj_conduct (s : State) (reason by_ : Nat) : (s.abortConj reason by_).conduct = s.conduct := by
  unfold State.abortConj
  split
  · rfl
  · dsimp only
    simp only [State.closeProposal_conduct, State.raise_conduct, State.conduct_ite, State.memberEnd_conduct,
      State.conduct_ikl, State.count_conduct, State.sendConj_conduct, ite_self]

@[simp] theorem State.leaveConj_conduct (s : State) : s.leaveConj.conduct = s.conduct := by
  unfold State.leaveConj
  split
  · rfl
  · dsimp only
    split
    · rfl
    · split
      · split
        · rw [State.abortConj_conduct, State.sendConj_conduct]; rfl
        · exact State.sendConj_conduct _ _
      · exact State.sendConj_conduct _ _

/-! ### Lasers (R500, R502) -/

/-- A state with every laser off and unrequested. -/
def State.lasersOff (s : State) : State := { s with saf := { s.saf with lsrEn := 0, request := 0 } }

theorem State.safStop_conduct (s : State) (cause st : Nat) : (s.safStop cause st).conduct = s.lasersOff.conduct := by
  unfold State.safStop
  split
  next h =>
    obtain ⟨hen, hreq⟩ := h
    rw [State.endLaserSet_conduct]
    simp [State.conduct, State.lasersOff, hen, hreq]
  next => rw [State.raiseLim_conduct, State.endLaserSet_conduct]; rfl

theorem State.lasersOff_conduct_congr {s t : State} (h : t.conduct = s.conduct) :
    t.lasersOff.conduct = s.lasersOff.conduct := by
  have := congrArg State.lasersOff h; exact this

/-- The end of a Calibrate run moves no more of the conduct than the lasers (R258). -/
theorem State.endCalRun_lasersOff (s : State) : s.endCalRun.lasersOff.conduct = s.lasersOff.conduct := by
  unfold State.endCalRun
  split
  next r _ =>
    have hstop (u : State) : (u.safStop 4 St.wrongMode).lasersOff.conduct = u.lasersOff.conduct := by
      have := congrArg State.lasersOff (u.safStop_conduct 4 St.wrongMode); exact this
    rw [hstop, State.lasersOff_conduct_congr (State.complete_conduct _ r.tag St.aborted [])]
    rfl
  next => rfl

/-! ### Entries (R33, R38) -/

/-- The state in another mode. -/
def State.inMode (s : State) (m : Mode) : State := { s with mode := { s.mode with mode := m } }

theorem State.enterSafe_conduct (s : State) : s.enterSafe.conduct = s.lasersOff.conduct := by
  have hloops (u : State) (x : LoopSt) : ({ u with loops := x } : State).conduct = u.conduct := rfl
  simp only [State.enterSafe, hloops, State.dropStaged_conduct, State.conduct_ite, State.emptyPending_conduct, ite_self,
    State.leaveConj_conduct, State.fabricDark_conduct, State.unhalt_conduct, State.stopOrbit_conduct,
    State.noSwatch_conduct, State.toSafe_conduct, State.safStop_conduct]

theorem State.enterCalibrate_conduct (s : State) : s.enterCalibrate.conduct = s.lasersOff.conduct := by
  unfold State.enterCalibrate
  dsimp only
  rw [State.closeLoops_conduct, State.noSwatch_conduct, State.fabricDark_conduct, State.stopOrbit_conduct,
    State.endLaserSet_conduct]
  rfl

theorem State.modeEntry_safe_conduct (s : State) (old : Mode) : (s.modeEntry old .safe).conduct = s.lasersOff.conduct := by
  simp only [State.modeEntry, State.conduct_ite, State.packetStop_conduct, ite_self, State.enterSafe_conduct]

theorem State.modeEntry_calibrate_conduct (s : State) (old : Mode) :
    (s.modeEntry old .calibrate).conduct = s.lasersOff.conduct := s.enterCalibrate_conduct

/-- What is ended before the mode changes moves no more of the conduct than the lasers. -/
theorem State.modeLeft_lasersOff (s : State) (c : Prop) [Decidable c] :
    (if c then s.endApply.endCalRun.takeEaselCodes else s.endApply).lasersOff.conduct = s.lasersOff.conduct := by
  split
  · rw [State.lasersOff_conduct_congr (State.takeEaselCodes_conduct _), State.endCalRun_lasersOff,
      State.lasersOff_conduct_congr s.endApply_conduct]
  · exact State.lasersOff_conduct_congr s.endApply_conduct

/-- A change to a mode in which the host's lasers are off: the mode and the lasers, and nothing more of the conduct. -/
theorem State.enterMode_conduct {s : State} {m : Mode} (hm : m = .safe ∨ m = .calibrate) (hne : m ≠ s.mode.mode)
    (trigger : Nat) : (s.enterMode m trigger).conduct = (s.inMode m).lasersOff.conduct := by
  have hasleep : m.asleep = false := by rcases hm with rfl | rfl <;> rfl
  have hentry (u : State) : (u.modeEntry s.mode.mode m).conduct = u.lasersOff.conduct := by
    rcases hm with rfl | rfl
    · exact u.modeEntry_safe_conduct _
    · exact u.modeEntry_calibrate_conduct _
  have hmode : ∀ u : State, u.lasersOff.conduct = s.lasersOff.conduct →
      (u.inMode m).lasersOff.conduct = (s.inMode m).lasersOff.conduct := fun u h => by
    have := congrArg (fun v : State => v.inMode m) h; exact this
  have hleft := s.modeLeft_lasersOff (s.mode.mode = .calibrate)
  unfold State.enterMode
  dsimp only
  rw [if_neg hne, if_neg (show ¬(m.asleep = true ∧ ¬s.mode.mode.asleep = true) by simp [hasleep]), State.settle_conduct,
    State.raise_conduct, State.conduct_ite, State.portsWake_conduct, ite_self, hentry]
  exact hmode _ ((State.lasersOff_conduct_congr (State.voidWindows_conduct _)).trans hleft)

theorem State.enterMode_self (s : State) (trigger : Nat) : s.enterMode s.mode.mode trigger = s := by
  rw [State.enterMode, if_pos rfl]

/-! ### The newest entry of a duplicate window -/

theorem told_complete {s : State} (h : s.cx.rings.length = 16) (tag : CmdTag) (st : Nat) (d : List (Nat × Nat)) :
    Told (s.complete tag st d) tag st :=
  (State.completeWith_answered (by omega) st d false).2

end Sys2Proof.Machine
end

section
/-!
The statement about SET_MODE.
-/

namespace Sys2Proof.Machine

open Sys2Proof.Stated

/-! ### SET_MODE (R35, R37, R39, Table 2.2) -/

theorem exists_mode_of_lt {mode : Nat} (h : mode < 12) : ∃ m : Mode, m.code = mode := by
  have hall : ∀ k : Fin 12, ((modeOf k).map Mode.code) = some k.val := by decide
  obtain ⟨m, -, hm⟩ := Option.map_eq_some_iff.mp (hall ⟨mode, h⟩)
  exact ⟨m, hm⟩

theorem modeOf_of_ge {mode : Nat} (h : 12 ≤ mode) : modeOf mode = none := by
  obtain ⟨k, rfl⟩ := Nat.exists_eq_add_of_le' h
  rfl

/-- Every mode can be entered in L0 (Table 2.4). -/
theorem State.modePowered_of_full {s : State} (hstate : s.pwr.state = 0) (htarget : s.pwr.target = 0) {m : Nat}
    (hm : m < 12) : s.modePowered m = true := by
  simp [State.modePowered, hstate, htarget, powerModes, hm]

theorem State.cancelAuto_of_none {s : State} (h : s.mode.pend = none) : s.cancelAuto = s := by
  rw [State.cancelAuto, h]

section SetMode

variable {s : State} (hs : Serves s) (hpend : s.mode.pend = none) (tag : CmdTag) (n : Nat)
include hs hpend

theorem exec_setMode_badParam {mode : Nat} (h : 12 ≤ mode) :
    exec (.setMode tag mode n) s = .next ((s.begin tag 0x0001).complete tag St.badParam) := by
  have hb : (s.begin tag 0x0001).mode.pend = none := hpend
  show execSetMode tag mode n s = _
  rw [execSetMode, State.serve_eq hs, State.cancelAuto_of_none hb, modeOf_of_ge h]
  rfl

variable (hrun : s.cal.run = none) {m : Mode}
include hrun

/-- A SET_MODE of a mode, where none waits and no Calibrate run is in progress: permitted by the Canvas, then listed by
Table 2.2. -/
theorem exec_setMode : exec (.setMode tag m.code n) s = .next (
    if 3 ≤ m.code ∧ m.code ≤ 8 ∧ bitAt s.modePermit m.code = false then
      (s.begin tag 0x0001).complete tag St.modeNotPermitted
    else if s.mode.mode = .fenced then (s.begin tag 0x0001).from11 tag m n
    else if modePair s.mode.mode.code m.code = false then (s.begin tag 0x0001).complete tag St.wrongMode
    else (s.begin tag 0x0001).setModeListed tag s.mode.mode m n) := by
  have hb : (s.begin tag 0x0001).mode.pend = none := hpend
  have hr : (s.begin tag 0x0001).cal.run = none := hrun
  have hidle : ¬(s.begin tag 0x0001).mode.pend.isSome = true := by rw [hb]; exact Bool.false_ne_true
  show execSetMode tag m.code n s = _
  rw [execSetMode, State.serve_eq hs, State.cancelAuto_of_none hb, modeOf_code]
  dsimp only
  rw [if_neg hidle, hr]
  rfl

variable (hperm : 3 ≤ m.code → m.code ≤ 8 → bitAt s.modePermit m.code = true)
include hperm

theorem exec_setMode_fenced (hold : s.mode.mode = .fenced) :
    exec (.setMode tag m.code n) s = .next ((s.begin tag 0x0001).from11 tag m n) := by
  rw [exec_setMode hs hpend tag n hrun, if_neg fun ⟨h3, h8, hno⟩ => Bool.false_ne_true (hno.symm.trans (hperm h3 h8)),
    if_pos hold]

variable (hold : s.mode.mode ≠ .fenced)
include hold

theorem exec_setMode_unlisted (hpair : modePair s.mode.mode.code m.code = false) :
    exec (.setMode tag m.code n) s = .next ((s.begin tag 0x0001).complete tag St.wrongMode) := by
  rw [exec_setMode hs hpend tag n hrun, if_neg fun ⟨h3, h8, hno⟩ => Bool.false_ne_true (hno.symm.trans (hperm h3 h8)),
    if_neg hold, if_pos hpair]

theorem exec_setMode_listed (hpair : modePair s.mode.mode.code m.code = true) :
    exec (.setMode tag m.code n) s = .next ((s.begin tag 0x0001).setModeListed tag s.mode.mode m n) := by
  rw [exec_setMode hs hpend tag n hrun, if_neg fun ⟨h3, h8, hno⟩ => Bool.false_ne_true (hno.symm.trans (hperm h3 h8)),
    if_neg hold, if_neg (by rw [hpair]; exact Bool.noConfusion)]

end SetMode

/-! ### What a SET_MODE that is listed does -/

theorem Mode.code_of_slotted {m : Mode} (hm : m = .edgeSlotted ∨ m = .coreSlotted ∨ m = .transitSlotted) :
    2 ≤ m.code ∧ m.code ≤ 9 := by rcases hm with rfl | rfl | rfl <;> decide

theorem Mode.code_of_persistent {m : Mode} (hm : m = .edgePersistent ∨ m = .edgePacket ∨ m = .corePersistent) :
    2 ≤ m.code ∧ m.code ≤ 9 := by rcases hm with rfl | rfl | rfl <;> decide

section Listed

variable {s : State} (tag : CmdTag) (old : Mode) (n : Nat)

theorem State.setModeListed_lockedOut (h : s.ret.lockout = true) :
    s.setModeListed tag old .calibrate n = s.complete tag St.laserLockout := if_pos h

variable (hstate : s.pwr.state = 0) (htarget : s.pwr.target = 0)
include hstate htarget

theorem State.setModeListed_calibrate (h : s.ret.lockout = false) :
    s.setModeListed tag old .calibrate n = (s.enterMode .calibrate 0).complete tag St.ok := by
  have hpow := State.modePowered_of_full hstate htarget (m := 2) (by decide)
  simp only [State.setModeListed, h, hpow]
  rfl

theorem State.setModeListed_slotted {m : Mode} (hm : m = .edgeSlotted ∨ m = .coreSlotted ∨ m = .transitSlotted)
    (h : s.orb.armed.isSome = true) : s.setModeListed tag old m n = s.pendMode tag m none .takeover := by
  have harmed : s.orb.armed.isNone = false := by rw [Option.isNone_eq_false_iff]; exact h
  have hpow : s.modePowered m.code = true :=
    State.modePowered_of_full hstate htarget (Nat.lt_of_le_of_lt (Mode.code_of_slotted hm).2 (by decide))
  rcases hm with rfl | rfl | rfl <;> simp only [State.setModeListed, harmed, hpow] <;> rfl

theorem State.setModeListed_persistent {m : Mode} (hm : m = .edgePersistent ∨ m = .edgePacket ∨ m = .corePersistent)
    (hn : n ≤ 1023) (hvalid : (s.swatch n).valid = true) (hrole : (s.swatch n).roleOk m = true)
    (hold : old.slotted = false) : s.setModeListed tag old m n = s.pendMode tag m (some n) .interval := by
  have hpow : s.modePowered m.code = true :=
    State.modePowered_of_full hstate htarget (Nat.lt_of_le_of_lt (Mode.code_of_persistent hm).2 (by decide))
  have hbad : ¬(n > 1023 ∨ (s.swatch n).valid = false) := by simp [hvalid]; omega
  rcases hm with rfl | rfl | rfl <;> simp only [State.setModeListed, if_neg hbad, hrole, hpow, hold] <;> rfl

end Listed

theorem State.setModeListed_unarmed {s : State} (tag : CmdTag) (old : Mode) (n : Nat) {m : Mode}
    (hm : m = .edgeSlotted ∨ m = .coreSlotted ∨ m = .transitSlotted) (h : s.orb.armed = none) :
    s.setModeListed tag old m n = s.complete tag St.noPendingOrbit := by
  rcases hm with rfl | rfl | rfl <;> simp only [State.setModeListed, h] <;> rfl

theorem State.setModeListed_noSwatch {s : State} (tag : CmdTag) (old : Mode) {n : Nat} {m : Mode}
    (hm : m = .edgePersistent ∨ m = .edgePacket ∨ m = .corePersistent) (h : (s.swatch n).valid = false) :
    s.setModeListed tag old m n = s.complete tag St.swatchInvalid := by
  rcases hm with rfl | rfl | rfl <;> exact if_pos (Or.inr h)

theorem Mode.code_ne_zero {m : Mode} (h : m ≠ .bootstrap) : m.code ≠ 0 := fun hzero =>
  h (Option.some.inj ((modeOf_code m).symm.trans (congrArg modeOf hzero)))

/-- The lasers are off in the modes that do not permit them. -/
theorem lsrEn_of_safe {s : State} (hsafe : LaserSafe s) (hmode : s.mode.mode = .safe) : s.saf.lsrEn = 0 := by
  obtain ⟨-, -, hon⟩ := hsafe
  by_contra hne
  obtain ⟨-, -, -, hcode⟩ := hon hne
  rw [hmode] at hcode
  exact absurd hcode (by decide)

section Settled

variable {s : State} (hs : Serves s) (hpend : s.mode.pend = none) (tag : CmdTag) (n : Nat) (hrun : s.cal.run = none)
include hs hpend hrun

theorem exec_setMode_safe (hold : s.mode.mode ≠ .bootstrap) :
    exec (.setMode tag 1 n) s = .next (((s.begin tag 0x0001).enterMode .safe 0).complete tag St.ok) := by
  have hperm : 3 ≤ Mode.safe.code → Mode.safe.code ≤ 8 → bitAt s.modePermit Mode.safe.code = true := fun h =>
    absurd h (by decide)
  rcases eq_or_ne s.mode.mode .fenced with hf | hf
  · rw [show 1 = Mode.safe.code from rfl, exec_setMode_fenced hs hpend tag n hrun hperm hf]
    rfl
  · have hpair : modePair s.mode.mode.code Mode.safe.code = true := bne_iff_ne.mpr (Mode.code_ne_zero hold)
    rw [show 1 = Mode.safe.code from rfl, exec_setMode_listed hs hpend tag n hrun hperm hf hpair]
    rfl

/-- SET_MODE to mode 1 from any mode but 0 (R33, R38). -/
theorem setMode_safe (hold : s.mode.mode ≠ .bootstrap) : ∃ t, exec (.setMode tag 1 n) s = .next t ∧
    t.mode.mode = .safe ∧ Told t tag St.ok ∧ (LaserSafe s → t.saf.lsrEn = 0) := by
  obtain ⟨-, -, hrings⟩ := id hs
  have hbegun : (s.begin tag 0x0001).conduct = s.conduct := State.begin_conduct s tag _
  refine ⟨_, exec_setMode_safe hs hpend tag n hrun hold, ?_⟩
  rcases eq_or_ne s.mode.mode .safe with hsafe | hne
  · have hself : (s.begin tag 0x0001).enterMode .safe 0 = s.begin tag 0x0001 := by
      rw [← hsafe]; exact State.enterMode_self (s.begin tag 0x0001) 0
    have hdone := (State.complete_conduct (s.begin tag 0x0001) tag St.ok []).trans hbegun
    rw [hself]
    exact ⟨(State.mode_of_conduct hdone).trans hsafe,
      told_complete ((State.ringCount_of_conduct hbegun).trans hrings) tag _ _,
      fun hlaser => (State.lsrEn_of_conduct hdone).trans (lsrEn_of_safe hlaser hsafe)⟩
  · have hentered := State.enterMode_conduct (s := s.begin tag 0x0001) (Or.inl rfl) hne.symm 0
    have hdone := (State.complete_conduct ((s.begin tag 0x0001).enterMode .safe 0) tag St.ok []).trans hentered
    exact ⟨State.mode_of_conduct hdone,
      told_complete ((State.ringCount_of_conduct hentered).trans ((State.ringCount_of_conduct hbegun).trans hrings)) tag _ _,
      fun _ => State.lsrEn_of_conduct hdone⟩

variable (hmode : s.mode.mode = .safe ∨ s.mode.mode = .maintain)
include hmode

/-- From modes 1 and 10 a SET_MODE to modes 2 to 9 is listed. -/
theorem exec_setMode_fromIdle {m : Mode} (h2 : 2 ≤ m.code) (h9 : m.code ≤ 9)
    (hperm : 3 ≤ m.code → m.code ≤ 8 → bitAt s.modePermit m.code = true) :
    exec (.setMode tag m.code n) s = .next ((s.begin tag 0x0001).setModeListed tag s.mode.mode m n) := by
  have hold : s.mode.mode ≠ .fenced := by rcases hmode with h | h <;> rw [h] <;> exact Mode.noConfusion
  have hcode : s.mode.mode.code = 1 ∨ s.mode.mode.code = 10 := by
    rcases hmode with h | h <;> rw [h]
    · exact Or.inl rfl
    · exact Or.inr rfl
  refine exec_setMode_listed hs hpend tag n hrun hperm hold ?_
  rw [modePair, if_neg (by omega), if_neg (by omega), if_neg (by omega), if_pos hcode]
  exact decide_eq_true ⟨h2, h9⟩

theorem setMode_lockedOut (hlock : s.ret.lockout = true) :
    ∃ t, exec (.setMode tag 2 n) s = .next t ∧ Refused s t tag St.laserLockout := by
  have hexec := exec_setMode_fromIdle hs hpend tag n hrun hmode (m := .calibrate) (by decide) (by decide)
    fun h => absurd h (by decide)
  rw [State.setModeListed_lockedOut tag _ n (s := s.begin tag 0x0001) hlock] at hexec
  exact ⟨_, hexec, refused_of_begun hs tag _ _ _⟩

variable (hstate : s.pwr.state = 0) (htarget : s.pwr.target = 0)
include hstate htarget

theorem setMode_calibrate (hlock : s.ret.lockout = false) : ∃ t, exec (.setMode tag 2 n) s = .next t ∧
    t.mode.mode = .calibrate ∧ t.saf.lsrEn = 0 ∧ t.saf.request = 0 ∧ Told t tag St.ok := by
  obtain ⟨-, -, hrings⟩ := id hs
  have hexec := exec_setMode_fromIdle hs hpend tag n hrun hmode (m := .calibrate) (by decide) (by decide)
    fun h => absurd h (by decide)
  rw [State.setModeListed_calibrate tag _ n (s := s.begin tag 0x0001) hstate htarget hlock] at hexec
  have hne : Mode.calibrate ≠ (s.begin tag 0x0001).mode.mode := by
    show Mode.calibrate ≠ s.mode.mode
    rcases hmode with h | h <;> rw [h] <;> exact Mode.noConfusion
  have hentered := State.enterMode_conduct (Or.inr rfl) hne 0
  have hdone := (State.complete_conduct ((s.begin tag 0x0001).enterMode .calibrate 0) tag St.ok []).trans hentered
  have hcount := (State.ringCount_of_conduct hentered).trans
    ((State.ringCount_of_conduct (State.begin_conduct s tag _)).trans hrings)
  exact ⟨_, hexec, State.mode_of_conduct hdone, State.lsrEn_of_conduct hdone, State.request_of_conduct hdone,
    told_complete hcount tag _ _⟩

section Slotted

variable {m : Mode} (hm : m = .edgeSlotted ∨ m = .coreSlotted ∨ m = .transitSlotted)
  (hperm : bitAt s.modePermit m.code = true)
include hm hperm

theorem setMode_slotted (harmed : s.orb.armed.isSome = true) : ∃ t, exec (.setMode tag m.code n) s = .next t ∧
    t.mode = { s.mode with pend := some ⟨some tag, m, none, .takeover⟩ } ∧
    { t with mode := s.mode, cx := s.cx } = s := by
  have hexec := exec_setMode_fromIdle hs hpend tag n hrun hmode (m := m)
    (Mode.code_of_slotted hm).1 (Mode.code_of_slotted hm).2 fun _ _ => hperm
  rw [State.setModeListed_slotted tag _ n (s := s.begin tag 0x0001) hstate htarget hm harmed] at hexec
  exact ⟨_, hexec, rfl, rfl⟩

omit hstate htarget in
theorem setMode_unarmed (harmed : s.orb.armed = none) :
    ∃ t, exec (.setMode tag m.code n) s = .next t ∧ Refused s t tag St.noPendingOrbit := by
  have hexec := exec_setMode_fromIdle hs hpend tag n hrun hmode (m := m)
    (Mode.code_of_slotted hm).1 (Mode.code_of_slotted hm).2 fun _ _ => hperm
  rw [State.setModeListed_unarmed tag _ n (s := s.begin tag 0x0001) hm harmed] at hexec
  exact ⟨_, hexec, refused_of_begun hs tag _ _ _⟩

end Slotted

section Persistent

variable {m : Mode} (hm : m = .edgePersistent ∨ m = .edgePacket ∨ m = .corePersistent)
  (hperm : bitAt s.modePermit m.code = true)
include hm hperm

theorem setMode_persistent (hn : n ≤ 1023) (hvalid : (s.swatch n).valid = true) (hrole : (s.swatch n).roleOk m = true) :
    ∃ t, exec (.setMode tag m.code n) s = .next t ∧
      t.mode = { s.mode with pend := some ⟨some tag, m, some n, .interval⟩ } ∧
      { t with mode := s.mode, cx := s.cx } = s := by
  have hexec := exec_setMode_fromIdle hs hpend tag n hrun hmode (m := m)
    (Mode.code_of_persistent hm).1 (Mode.code_of_persistent hm).2 fun _ _ => hperm
  have hold : s.mode.mode.slotted = false := by rcases hmode with h | h <;> rw [h] <;> rfl
  rw [State.setModeListed_persistent tag _ n (s := s.begin tag 0x0001) hstate htarget hm hn hvalid hrole hold] at hexec
  exact ⟨_, hexec, rfl, rfl⟩

omit hstate htarget in
theorem setMode_noSwatch (hvalid : (s.swatch n).valid = false) :
    ∃ t, exec (.setMode tag m.code n) s = .next t ∧ Refused s t tag St.swatchInvalid := by
  have hexec := exec_setMode_fromIdle hs hpend tag n hrun hmode (m := m)
    (Mode.code_of_persistent hm).1 (Mode.code_of_persistent hm).2 fun _ _ => hperm
  rw [State.setModeListed_noSwatch tag _ (s := s.begin tag 0x0001) hm hvalid] at hexec
  exact ⟨_, hexec, refused_of_begun hs tag _ _ _⟩

end Persistent

end Settled

/-- Settles O28: a SET_MODE is one walk down Table 2.2 (`exec_setMode`); an entry to mode 1 or 2 is read off the conduct that
it leaves (`State.enterMode_conduct`). -/
theorem modeChanges : Obligations.ModeChanges := by
  unfold Obligations.ModeChanges
  intro s tag mode n hs hpend hrun
  refine ⟨setMode_safe hs hpend tag n hrun, fun hmode hstate htarget => ⟨?_, ?_, ?_, ?_⟩, ?_, ?_, ?_⟩
  · exact setMode_calibrate hs hpend tag n hrun hmode hstate htarget
  · exact setMode_lockedOut hs hpend tag n hrun hmode
  · exact fun m hm hperm => ⟨setMode_slotted hs hpend tag n hrun hmode hstate htarget hm hperm,
      setMode_unarmed hs hpend tag n hrun hmode hm hperm⟩
  · exact fun m hm hperm hn => ⟨setMode_persistent hs hpend tag n hrun hmode hstate htarget hm hperm hn,
      setMode_noSwatch hs hpend tag n hrun hmode hm hperm⟩
  · exact fun hge => ⟨_, exec_setMode_badParam hs hpend tag n hge, refused_of_begun hs tag _ _ _⟩
  · intro h3 h8 hperm
    obtain ⟨m, rfl⟩ := exists_mode_of_lt (show mode < 12 by omega)
    have hexec := exec_setMode hs hpend tag n hrun (m := m)
    rw [if_pos ⟨h3, h8, hperm⟩] at hexec
    exact ⟨_, hexec, refused_of_begun hs tag _ _ _⟩
  · intro hlt hperm hold hpair
    obtain ⟨m, rfl⟩ := exists_mode_of_lt hlt
    exact ⟨_, exec_setMode_unlisted hs hpend tag n hrun hperm hold hpair, refused_of_begun hs tag _ _ _⟩

end Sys2Proof.Machine
end

section
/-!
The statement about trips, supplies and references: what begins a shut-down, and what a check makes of the references.
-/

namespace Sys2Proof.Machine

open Sys2Proof.Stated

/-! ### Bits -/

/-- The bit that was set reads as set. -/
theorem bitAt_setBit_same (n k : Nat) : bitAt (setBit n k true) k = true := by
  have hlow : bitsOf n k k * 2 ^ k = n / 2 ^ k % 2 * 2 ^ k := by rw [bitsOf, Nat.add_sub_cancel_left, pow_one]
  have hsplit : n - n / 2 ^ k % 2 * 2 ^ k = n % 2 ^ k + 2 ^ k * (2 * (n / 2 ^ k / 2)) := by
    have hdiv := Nat.div_add_mod n (2 ^ k)
    have hbit := Nat.div_add_mod (n / 2 ^ k) 2
    have hmul : 2 ^ k * (n / 2 ^ k) = 2 ^ k * (2 * (n / 2 ^ k / 2)) + n / 2 ^ k % 2 * 2 ^ k := by
      rw [Nat.mul_comm (n / 2 ^ k % 2), ← Nat.mul_add, hbit]
    omega
  have hset : setBit n k true = n % 2 ^ k + 2 ^ k * (2 * (n / 2 ^ k / 2) + 1) := by
    rw [setBit, putBits, hlow, hsplit, if_pos rfl, Nat.add_sub_cancel_left, Nat.mul_add (2 ^ k), Nat.add_assoc]
    simp
  have hpos : 0 < 2 ^ k := Nat.two_pow_pos k
  rw [bitAt, hset, Nat.add_mul_div_left _ _ hpos, Nat.div_eq_of_lt (Nat.mod_lt n hpos), Nat.zero_add, Nat.mul_add_mod]
  rfl

/-! ### Shut-down (R488 to R490) -/

/-- The state in another power state. -/
def State.withPwr (s : State) (x : PowerSt) : State := { s with pwr := x }

theorem State.withPwr_conduct (s : State) (x : PowerSt) : (s.withPwr x).conduct = s.conduct.withPwr x := rfl

/-- A shut-down ends what is in progress: the commands, the lasers, and the ladder (R39, R136, R258). -/
theorem State.shutdownPreempts_eq (s : State) : ∃ x y, s.shutdownPreempts =
    ((((((s.endPendingMode St.preempted).endApply).endCalRun.safStop 3 St.preempted).endLaserSet St.preempted).withPwr
      x).completeOpt (((s.endPendingMode St.preempted).endApply.endCalRun.safStop 3 St.preempted).endLaserSet
        St.preempted).pwr.cmd St.preempted).withPwr y := ⟨_, _, rfl⟩

theorem State.shutdownPreempts_conduct (s : State) :
    ∃ x, s.shutdownPreempts.conduct = (s.lasersOff.withPwr x).conduct := by
  have hended : ((s.endPendingMode St.preempted).endApply.endCalRun.safStop 3 St.preempted).conduct =
      s.lasersOff.conduct := by
    rw [State.safStop_conduct, State.endCalRun_lasersOff]
    exact State.lasersOff_conduct_congr ((State.endApply_conduct _).trans (s.endPendingMode_conduct _))
  obtain ⟨x, y, h⟩ := s.shutdownPreempts_eq
  rw [h, State.withPwr_conduct, State.completeOpt_conduct, State.withPwr_conduct, State.endLaserSet_conduct, hended]
  exact ⟨y, rfl⟩

/-- Mode 1 entered, from wherever: the mode and the lasers. -/
theorem State.enterSafe_or_enterMode_conduct (s : State) (trigger : Nat) :
    (if s.mode.mode = .safe then s.enterSafe else s.enterMode .safe trigger).conduct =
      (s.inMode .safe).lasersOff.conduct := by
  split
  next h => rw [State.enterSafe_conduct]; simp [State.conduct, State.lasersOff, State.inMode, h]
  next h => exact State.enterMode_conduct (Or.inl rfl) (Ne.symm h) trigger

/-- Step 1 of a shut-down, from any mode but 0: mode 1, with the lasers off. -/
theorem State.shutdownStep1_conduct {s : State} (h : s.mode.mode ≠ .bootstrap) :
    ∃ x, s.shutdownStep1.conduct = ((s.inMode .safe).lasersOff.withPwr x).conduct := by
  obtain ⟨x, hx⟩ := s.shutdownPreempts_conduct
  have hmode : s.shutdownPreempts.mode.mode ≠ .bootstrap := by
    have hkept := congrArg (·.mode.mode) hx
    exact fun hb => h (hkept.symm.trans hb)
  have hrest : s.shutdownStep1.conduct = (if s.shutdownPreempts.mode.mode = .bootstrap then
      { s.shutdownPreempts.toSafe with start := s.shutdownPreempts.start.abandoned }
      else if s.shutdownPreempts.mode.mode = .safe then s.shutdownPreempts.enterSafe
      else s.shutdownPreempts.enterMode .safe 4).conduct := rfl
  have hset : (s.shutdownPreempts.inMode .safe).lasersOff.conduct =
      ((s.inMode .safe).lasersOff.withPwr x).conduct := by
    have := congrArg (fun u : State => (u.inMode .safe).lasersOff) hx; exact this
  rw [hrest, if_neg hmode, State.enterSafe_or_enterMode_conduct, hset]
  exact ⟨x, rfl⟩

/-- The state with other readings and another shut-down. -/
def State.withThm (s : State) (x : ThmSt) : State := { s with thm := x }

theorem State.withThm_ret (s : State) (x : ThmSt) : (s.withThm x).ret = s.ret := rfl

theorem State.beginShutdown_of_none {s : State} (h : s.thm.shutdown = none) (cause dies sensor temp thr : Nat) :
    ∃ x, x.shutdown.isSome = true ∧ s.beginShutdown cause dies sensor temp thr =
      (s.shutdownStep1.raise 0x0404 [(1, dies), (1, sensor), (2, temp)]).withThm x := by
  unfold State.beginShutdown
  rw [h]
  exact ⟨_, rfl, rfl⟩

/-- A shut-down that begins is held; mode 1 is in force, the lasers are off and the buffer is empty (R488). -/
theorem State.beginShutdown_begins {s : State} (hup : s.mode.mode ≠ .bootstrap) (hnone : s.thm.shutdown = none)
    (cause dies sensor temp thr : Nat) : ∃ t, s.beginShutdown cause dies sensor temp thr = t ∧
      t.mode.mode = .safe ∧ t.saf.lsrEn = 0 ∧ t.tm.frames = [] ∧ t.clk = s.clk ∧ t.ret = s.ret ∧
      t.thm.shutdown.isSome = true := by
  obtain ⟨x, hsome, ht⟩ := State.beginShutdown_of_none hnone cause dies sensor temp thr
  obtain ⟨y, hy⟩ := State.shutdownStep1_conduct hup
  have hraised := (s.shutdownStep1.raise_conduct 0x0404 [(1, dies), (1, sensor), (2, temp)]).trans hy
  have hframes : (s.shutdownStep1.raise 0x0404 [(1, dies), (1, sensor), (2, temp)]).tm.frames = [] := by
    rw [State.raise_tm]; rfl
  have hmode := State.mode_of_conduct hraised
  have hen := State.lsrEn_of_conduct hraised
  have hclk := State.clk_of_conduct hraised
  have hret := (State.withThm_ret _ x).trans (State.ret_of_conduct hraised)
  exact ⟨_, ht, hmode, hen, hframes, hclk, hret, hsome⟩

/-- The state with another flash, retention register and thermal unit. -/
def State.withRecord (s : State) (n : NvmSt) (r : Retention) (x : ThmSt) : State := { s with nvm := n, ret := r, thm := x }

theorem State.recordSettled_of_shutdown {s : State} {d : Shutdown} (h : s.thm.shutdown = some d) :
    s.recordSettled = s.withThm { s.thm with shutdown := some { d with recorded := true } } := by
  rw [State.recordSettled, h]; rfl

theorem State.commitShutdown_of_shutdown {s : State} {d : Shutdown} (h : s.thm.shutdown = some d) (waited : Nat) :
    ∃ n, s.commitShutdown waited = s.withRecord n { s.ret with shutdownSeen := true }
      { s.thm with shutdown := some { d with recorded := true } } := by
  unfold State.commitShutdown
  rw [h]
  dsimp only
  rw [State.recordSettled_of_shutdown (s := s.addRecord _) h]
  exact ⟨_, rfl⟩

/-- What the record of a trip says of a shut-down in progress (R489). -/
def State.tripClaim (s : State) (d : Shutdown) : Shutdown :=
  { d with
    cause := 2, dies := s.ret.tripDies, sensor := 0xFF, temp := 0x8000
    threshold := if bitAt s.ret.tripDies 0 then 240 else 200 }

/-- The record of a trip is the flash's and the retention register's (R489). -/
theorem State.tripRecord_eq {s : State} (h : s.thm.shutdown.isSome = true) : ∃ n r x,
    s.tripRecord = s.withRecord n r x ∧ r.tripDies = s.ret.tripDies ∧ x.shutdown.isSome = true := by
  obtain ⟨d, hd⟩ := Option.isSome_iff_exists.mp h
  unfold State.tripRecord
  rw [hd]
  dsimp only
  by_cases hrec : d.recorded = true
  · rw [if_pos hrec]
    exact ⟨s.nvm, s.ret, s.thm, rfl, rfl, h⟩
  · rw [if_neg hrec]
    split
    · rw [State.recordSettled_of_shutdown hd]
      exact ⟨s.nvm, s.ret, _, rfl, rfl, rfl⟩
    · obtain ⟨n, hn⟩ := State.commitShutdown_of_shutdown
        (s := s.withThm { s.thm with shutdown := some (s.tripClaim d) }) rfl 0
      have hclaimed := congrArg (fun v : State => { v with ret := { v.ret with tripUnrecorded := false } }) hn
      exact ⟨n, _, _, hclaimed, rfl, rfl⟩

/-! ### Trips (R490, R491) -/

/-- A comparator that fires: the trip recorded, the die tripped, the clocks throttled. -/
def State.tripped (s : State) (die : Nat) : State := ((s.recordTrip die).setDieState die 4).throttleUpdate

theorem State.setDieState_eq (s : State) (die st : Nat) : ∃ x, s.setDieState die st = s.withThm x ∧
    x.shutdown = s.thm.shutdown ∧ x.tripN = s.thm.tripN := by
  unfold State.setDieState
  split <;> exact ⟨_, rfl, rfl, rfl⟩

/-- The trip stands in the retention register and on THERM_TRIP_N. -/
theorem State.tripped_eq (s : State) (die : Nat) : ∃ r x, s.tripped die = s.withRecord s.nvm r x ∧
    r.tripDies = setBit s.ret.tripDies die true ∧ x.tripN = setBit s.thm.tripN die true ∧
    x.shutdown = s.thm.shutdown := by
  obtain ⟨x, hx, hshut, htrip⟩ := (s.recordTrip die).setDieState_eq die 4
  rw [State.tripped, hx]
  exact ⟨_, _, rfl, rfl, htrip, hshut⟩

section Trips

variable {s : State} (hvaon : s.pins.vaon = true)
include hvaon

theorem tripComparatorFire_shutsDown (pDie : Bool) (hmode : s.mode.mode ≠ .bootstrap) (hpwr : s.pwr.state ≤ 3)
    (hrails : s.pins.rails = true) (hnone : s.thm.shutdown = none) : ∃ t,
      exec (.tripComparatorFire pDie) s = .next t ∧ bitAt t.ret.tripDies (ofBool pDie) = true ∧ t.mode.mode = .safe ∧
      t.saf.lsrEn = 0 ∧ t.thm.shutdown.isSome = true ∧ t.tm.frames = [] ∧ t.clk = s.clk := by
  obtain ⟨r, x, htripped, hdies, -, hshut⟩ := s.tripped_eq (ofBool pDie)
  have hexec : exec (.tripComparatorFire pDie) s = .next (((s.tripped (ofBool pDie)).beginShutdown 2 (2 ^ ofBool pDie) 0xFF
      0x8000 (tripLevel (ofBool pDie))).tripRecord) := by
    have hawake : ¬((s.tripped (ofBool pDie)).pwr.state ≥ 4 ∨ (s.tripped (ofBool pDie)).pins.rails = false) := by
      rw [htripped]
      show ¬(s.pwr.state ≥ 4 ∨ s.pins.rails = false)
      simp [hrails]
      omega
    show execTripComparatorFire pDie s = _
    rw [execTripComparatorFire, if_neg (by rw [hvaon]; exact Bool.noConfusion)]
    dsimp only
    rw [← State.tripped, if_neg hawake]
    rfl
  have hup : (s.withRecord s.nvm r x).mode.mode ≠ .bootstrap := hmode
  obtain ⟨t, ht, hsafe, hen, hframes, hclk, hret, hsome⟩ :=
    State.beginShutdown_begins hup (hshut.trans hnone) 2 (2 ^ ofBool pDie) 0xFF 0x8000 (tripLevel (ofBool pDie))
  obtain ⟨n, r', x', hrecord, hkept, hheld⟩ := State.tripRecord_eq hsome
  rw [htripped, ht, hrecord] at hexec
  have hbit : bitAt r'.tripDies (ofBool pDie) = true := by
    rw [hkept, hret]
    show bitAt r.tripDies (ofBool pDie) = true
    rw [hdies, bitAt_setBit_same]
  exact ⟨_, hexec, hbit, hsafe, hen, hheld, hframes, hclk⟩

theorem tripComparatorFire_recorded (pDie : Bool) (hpwr : 4 ≤ s.pwr.state) : ∃ t,
      exec (.tripComparatorFire pDie) s = .next t ∧ bitAt t.ret.tripDies (ofBool pDie) = true ∧
      bitAt t.thm.tripN (ofBool pDie) = true ∧ { t with thm := s.thm, ret := s.ret } = s := by
  obtain ⟨r, x, htripped, hdies, htrip, -⟩ := s.tripped_eq (ofBool pDie)
  have hexec : exec (.tripComparatorFire pDie) s = .next (s.withRecord s.nvm r x) := by
    show execTripComparatorFire pDie s = _
    rw [execTripComparatorFire, if_neg (by rw [hvaon]; exact Bool.noConfusion)]
    dsimp only
    rw [← State.tripped, htripped]
    exact congrArg Host.Outcome.next (if_pos (Or.inl hpwr))
  have hret : bitAt r.tripDies (ofBool pDie) = true := by rw [hdies, bitAt_setBit_same]
  have hthm : bitAt x.tripN (ofBool pDie) = true := by rw [htrip, bitAt_setBit_same]
  exact ⟨_, hexec, hret, hthm, rfl⟩

theorem tripRestart_releases (e p : Bool) : ∃ t, exec (.tripRestart e p) s = .next t ∧ t.thm.restartE = e ∧
    t.thm.restartP = p ∧ (e = true → p = true → t.thm.tripN = 0) ∧
    (bitAt s.thm.tripN 0 = true → e = false → t.thm.tripN = s.thm.tripN) ∧ { t with thm := s.thm } = s := by
  have hexec : exec (.tripRestart e p) s = .next (s.withThm { s.thm with
      restartE := e, restartP := p
      tripN := if (bitAt s.thm.tripN 0 && !e || bitAt s.thm.tripN 1 && !p) = true then s.thm.tripN else 0 }) := by
    show execTripRestart e p s = _
    rw [execTripRestart, if_neg (by rw [hvaon]; exact Bool.noConfusion)]
    rfl
  refine ⟨_, hexec, rfl, rfl, ?_, ?_, rfl⟩
  · rintro rfl rfl
    exact if_neg (by simp)
  · rintro hbit rfl
    exact if_pos (by simp [hbit])

end Trips

/-! ### Supplies (R51, R57, R60) -/

section Supplies

variable {s : State} (hvaon : s.pins.vaon = true)
include hvaon

theorem exec_vaonFall : exec .vaonFall s = .next s.vaonLost :=
  congrArg Host.Outcome.next (if_pos hvaon)

theorem exec_vsramLow : exec .vsramLow s = .next { s with store := {} } :=
  congrArg Host.Outcome.next (if_pos hvaon)

/-- The state without the heaters' supply. -/
def State.withoutVhtr (s : State) : State := { s with pins := { s.pins with vhtr := false } }

variable (hvhtr : s.pins.vhtr = true)
include hvhtr

theorem exec_vhtrRemoved : exec .vhtrRemoved s = .next (if s.htrSafe = true then s.withoutVhtr
    else if s.mode.mode = .bootstrap then s.withoutVhtr.raise 0x0304 [(1, 5), (1, s.pwr.state)]
    else (s.withoutVhtr.raise 0x0304 [(1, 5), (1, s.pwr.state)]).autoMode .safe 7) := by
  have hon : ¬(s.pins.vaon = false ∨ s.pins.vhtr = false) := by simp [hvaon, hvhtr]
  have hmode : (s.withoutVhtr.raise 0x0304 [(1, 5), (1, s.pwr.state)]).mode.mode = s.mode.mode :=
    (State.mode_of_conduct (s.withoutVhtr.raise_conduct 0x0304 [(1, 5), (1, s.pwr.state)])).trans rfl
  show execVhtrRemoved s = _
  rw [execVhtrRemoved, if_neg hon, ← hmode]
  rfl

end Supplies

theorem packItems_two_bytes_length (a b : Nat) : (packItems [(1, a), (1, b)] []).length ≤ 14 := by
  simp [packItems, itemAlign, alignUp, zeros, leBytes_length]

/-- An automatic change to mode 1: the mode and the lasers (R38, R39). -/
theorem State.autoMode_safe_keeps (s : State) (trigger : Nat) : (s.autoMode .safe trigger).mode.mode = .safe ∧
    (s.autoMode .safe trigger).saf.wired = s.saf.wired ∧ (s.autoMode .safe trigger).pins = s.pins := by
  have hended := s.endPendingMode_conduct St.preempted
  have hmode := State.mode_of_conduct hended
  have hwired := State.wired_of_conduct hended
  have hpins := State.pins_of_conduct hended
  rw [State.autoMode]
  rcases eq_or_ne (s.endPendingMode St.preempted).mode.mode .safe with h | h
  · have hself : (s.endPendingMode St.preempted).enterMode .safe trigger = s.endPendingMode St.preempted := by
      rw [State.enterMode, if_pos h.symm]
    rw [hself]
    exact ⟨h, hwired, hpins⟩
  · have hentered := State.enterMode_conduct (Or.inl rfl) h.symm trigger
    have hsafe := State.mode_of_conduct hentered
    have hkept := State.wired_of_conduct hentered
    have hheld := State.pins_of_conduct hentered
    exact ⟨hsafe, hkept.trans hwired, hheld.trans hpins⟩

section Vhtr

variable {s : State} (hvaon : s.pins.vaon = true) (hvhtr : s.pins.vhtr = true) (hunsafe : s.htrSafe = false)
include hvaon hvhtr hunsafe

theorem vhtrRemoved_atBoot (hboot : s.mode.mode = .bootstrap) : ∃ t, exec .vhtrRemoved s = .next t ∧
    EventsOnly { s with pins := { s.pins with vhtr := false } } t ∧ t.cx.evtSeq = seqNext s.cx.evtSeq := by
  have hexec := exec_vhtrRemoved hvaon hvhtr
  rw [if_neg (by rw [hunsafe]; exact Bool.noConfusion), if_pos hboot] at hexec
  exact ⟨_, hexec, State.raise_eventsOnly s.withoutVhtr _ (packItems_two_bytes_length _ _)⟩

theorem vhtrRemoved_changesMode (hup : s.mode.mode ≠ .bootstrap) : ∃ t, exec .vhtrRemoved s = .next t ∧
    t.pins.vhtr = false ∧ t.mode.mode = .safe ∧ t.saf.wired = s.saf.wired := by
  have hexec := exec_vhtrRemoved hvaon hvhtr
  rw [if_neg (by rw [hunsafe]; exact Bool.noConfusion), if_neg hup] at hexec
  have htold := s.withoutVhtr.raise_conduct 0x0304 [(1, 5), (1, s.pwr.state)]
  obtain ⟨hmode, hwired, hpins⟩ :=
    State.autoMode_safe_keeps (s.withoutVhtr.raise 0x0304 [(1, 5), (1, s.pwr.state)]) 7
  have hlost := congrArg PinSt.vhtr (hpins.trans (State.pins_of_conduct htold))
  have hkept := hwired.trans (State.wired_of_conduct htold)
  exact ⟨_, hexec, hlost, hmode, hkept⟩

end Vhtr

/-! ### References (R53, R533) -/

theorem refGood_of_within {a : Int} (hlow : -100 ≤ a) (hhigh : a ≤ 100) : refGood (some a) = true :=
  decide_eq_true (by omega)

theorem refGood_of_above {a : Int} (h : 100 < a) : refGood (some a) = false :=
  decide_eq_false (by omega)

/-- The state with what a check made of the references. -/
def State.withRefs (s : State) (a b : Bool) : State := { s with ref := { s.ref with refAOk := a, refBOk := b } }

theorem State.waitClk_timeOnly (s : State) (t : Nat) : TimeOnly s (s.waitClk t) := rfl
@[simp] theorem State.waitClk_pwr (s : State) (t : Nat) : (s.waitClk t).pwr = s.pwr := rfl
@[simp] theorem State.waitClk_pins (s : State) (t : Nat) : (s.waitClk t).pins = s.pins := rfl

theorem State.withRefs_pwr (s : State) (a b : Bool) : (s.withRefs a b).pwr = s.pwr := rfl
theorem State.withRefs_pins (s : State) (a b : Bool) : (s.withRefs a b).pins = s.pins := rfl

/-- A check at an instant, with what it makes of the references. -/
def State.refChecked (s : State) (t : Nat) (a b : Bool) : State := (s.waitClk t).withRefs a b

@[simp] theorem State.exclusionCheck_conduct (s : State) (theta : Option Int) :
    (s.exclusionCheck theta).conduct = s.conduct := by
  have hikl (u : State) (x : IklSt) : ({ u with ikl := x } : State).conduct = u.conduct := rfl
  unfold State.exclusionCheck
  dsimp only
  split
  · rfl
  · split
    · exact State.raise_conduct _ _ _
    · rfl
    · rfl
    · split
      · rfl
      · split
        · exact State.raise_conduct _ _ _
        · rfl

theorem exec_refclkCheck {s : State} (hvaon : s.pins.vaon = true) (hpwr : s.pwr.state ≤ 3) (hrails : s.pins.rails = true)
    (a b : Option Int) : exec (.refclkCheck a b) s =
      .next (s.refChecked ((s.clk / 1000000 + 1) * 1000000) (refGood a) (refGood b)).refAct := by
  have hawake (t : Nat) : ¬((s.refChecked t (refGood a) (refGood b)).pwr.state ≥ 4 ∨
      (s.refChecked t (refGood a) (refGood b)).pins.rails = false) := by
    rw [State.refChecked, State.withRefs_pwr, State.withRefs_pins, State.waitClk_pwr, State.waitClk_pins, hrails]
    exact fun h => h.elim (by omega) Bool.noConfusion
  show execRefclkCheck a b s = _
  rw [execRefclkCheck, if_neg (by rw [hvaon]; exact Bool.noConfusion)]
  generalize (s.clk / 1000000 + 1) * 1000000 = t
  exact congrArg Host.Outcome.next (if_neg (hawake t))

section RefAct

variable {u : State}

/-- Both references good, the preferred one in use. -/
theorem State.refAct_of_good (ha : u.ref.refAOk = true) (hb : u.ref.refBOk = true)
    (hprefer : u.fld Reg.PWR_CLK_PREFER = ofBool u.ref.selB) :
    u.refAct = { u with ref := { u.ref with holdover := false } } := by
  unfold State.refAct
  rw [hprefer, ha, hb]
  cases u.ref.selB <;> rfl

/-- Reference A in use and bad, B good. -/
theorem State.refAct_of_badA (ha : u.ref.refAOk = false) (hb : u.ref.refBOk = true) (hsel : u.ref.selB = false) :
    u.refAct = u.switchRef 1 0 := by
  unfold State.refAct
  rw [hsel, ha, hb]
  rfl

/-- Neither reference good, where the PLLs were not yet in holdover. -/
theorem State.refAct_of_bad (ha : u.ref.refAOk = false) (hb : u.ref.refBOk = false) (hhold : u.ref.holdover = false) :
    u.refAct = ((({ u with ref := { u.ref with holdover := true } } : State).setUnset).raise 0x0302
      [(1, ofBool u.ref.selB)]).exclusionCheck none := by
  unfold State.refAct
  rw [ha, hb, hhold]
  rfl

end RefAct

section Checks

variable {s : State} (hvaon : s.pins.vaon = true) (hpwr : s.pwr.state ≤ 3) (hrails : s.pins.rails = true)
include hvaon hpwr hrails

theorem refclkCheck_good {a b : Option Int} (ha : refGood a = true) (hb : refGood b = true)
    (hprefer : s.fld Reg.PWR_CLK_PREFER = ofBool s.ref.selB) : ∃ t, exec (.refclkCheck a b) s = .next t ∧
      t.ref = { s.ref with refAOk := true, refBOk := true, holdover := false } ∧
      t.clk = (s.clk / 1000000 + 1) * 1000000 ∧ TimeOnly s { t with ref := s.ref } := by
  have hact (t : Nat) : ∃ u : State, (s.refChecked t true true).refAct = u ∧
      u.ref = { s.ref with refAOk := true, refBOk := true, holdover := false } ∧ u.clk = max s.clk t ∧
      TimeOnly s { u with ref := s.ref } :=
    ⟨_, State.refAct_of_good rfl rfl hprefer, rfl, s.waitClk_clk t, s.waitClk_timeOnly t⟩
  obtain ⟨u, hu, href, hclk, htime⟩ := hact ((s.clk / 1000000 + 1) * 1000000)
  have hexec := exec_refclkCheck hvaon hpwr hrails a b
  rw [ha, hb, hu] at hexec
  exact ⟨u, hexec, href, hclk.trans (by omega), htime⟩

theorem refclkCheck_badA {a b : Option Int} (ha : refGood a = false) (hb : refGood b = true) (hsel : s.ref.selB = false) :
    ∃ t, exec (.refclkCheck a b) s = .next t ∧ t.ref.selB = true ∧ t.ref.refAOk = false ∧ t.ref.holdover = false ∧
      t.cx.evtSeq = seqNext s.cx.evtSeq := by
  have hact (t : Nat) : ∃ u : State, (s.refChecked t false true).refAct = u ∧
      u.ref = { s.ref with refAOk := false, refBOk := true, selB := true, holdover := false } ∧
      u.cx.evtSeq = seqNext s.cx.evtSeq :=
    ⟨_, State.refAct_of_badA rfl rfl hsel, State.raise_ref _ _ _, State.raise_evtSeq _ _ (packItems_two_bytes_length _ _)⟩
  obtain ⟨u, hu, href, hseq⟩ := hact ((s.clk / 1000000 + 1) * 1000000)
  have hexec := exec_refclkCheck hvaon hpwr hrails a b
  rw [ha, hb, hu] at hexec
  refine ⟨u, hexec, ?_⟩
  rw [href]
  exact ⟨rfl, rfl, rfl, hseq⟩

theorem refclkCheck_bad (hhold : s.ref.holdover = false) : ∃ t, exec (.refclkCheck none none) s = .next t ∧
    t.ref.holdover = true ∧ t.ref.selB = s.ref.selB ∧ t.time.unset = true := by
  have hact (t : Nat) : ∃ u : State, (s.refChecked t false false).refAct.conduct = u.conduct ∧
      u.ref.holdover = true ∧ u.ref.selB = s.ref.selB ∧ u.time.unset = true := by
    rw [State.refAct_of_bad (u := s.refChecked t false false) rfl rfl hhold, State.exclusionCheck_conduct,
      State.raise_conduct]
    exact ⟨_, rfl, rfl, rfl, rfl⟩
  obtain ⟨u, hu, hheld, hsel, hunset⟩ := hact ((s.clk / 1000000 + 1) * 1000000)
  have href := State.ref_of_conduct hu
  have htime := State.time_of_conduct hu
  refine ⟨_, exec_refclkCheck hvaon hpwr hrails none none, ?_⟩
  rw [show refGood none = false from rfl, href, htime]
  exact ⟨hheld, hsel, hunset⟩

end Checks

/-- Settles O26: a trip is a record in the retention register and a shut-down (`State.beginShutdown_begins`); a lost supply
and a check of the references are read off the conduct that they leave. -/
theorem tripSuppliesAndReferences : Obligations.TripSuppliesAndReferences := by
  unfold Obligations.TripSuppliesAndReferences
  intro s pDie e p hvaon
  refine ⟨?_, ?_, ?_, ?_, ?_, ?_, ?_⟩
  · exact fun _ hmode hpwr hrails hnone => tripComparatorFire_shutsDown hvaon pDie hmode hpwr hrails hnone
  · exact tripComparatorFire_recorded hvaon pDie
  · exact tripRestart_releases hvaon e p
  · exact ⟨_, exec_vaonFall hvaon, rfl, rfl, rfl, rfl, rfl, rfl, rfl, rfl, rfl, rfl, rfl, rfl, rfl, rfl, rfl⟩
  · intro hvhtr
    refine ⟨fun hsafe => ?_, vhtrRemoved_atBoot hvaon hvhtr, vhtrRemoved_changesMode hvaon hvhtr⟩
    rw [exec_vhtrRemoved hvaon hvhtr, if_pos hsafe]
    rfl
  · exact exec_vsramLow hvaon
  · intro a b hpwr hrails
    refine ⟨fun ha ha' hb hb' hprefer => ?_, fun ha hb hb' hsel _ => ?_, refclkCheck_bad hvaon hpwr hrails⟩
    · exact refclkCheck_good hvaon hpwr hrails (refGood_of_within ha ha') (refGood_of_within hb hb') hprefer
    · exact refclkCheck_badA hvaon hpwr hrails (refGood_of_above ha) (refGood_of_within hb hb') hsel

end Sys2Proof.Machine
end

section
/-!
Flags of converter pairs and the reference buffers: what they leave alone, and what they do to the pairs.
-/

namespace Sys2Proof.Machine

open Sys2Proof.Stated

/-! ### Flags of converter pairs (R230 to R233) -/

/-- The state without what the flags of pairs change: the pairs, the cells that follow them, what events change. -/
def State.lessPairs (s : State) : State :=
  { s.lessEvents with
    adc := { s.adc with pairs := [] }, loops := { s.loops with cells := [] }, eng := {}, cx := { rings := s.cx.rings } }

theorem State.conduct_of_lessPairs {s t : State} (h : t.lessPairs = s.lessPairs) : t.conduct = s.conduct := by
  have := congrArg State.conduct h; exact this

theorem State.mode_of_lessPairs {s t : State} (h : t.lessPairs = s.lessPairs) : t.mode = s.mode := by
  have := congrArg State.mode h; exact this

/-- The converters beside the flags of their pairs. -/
theorem State.adc_of_lessPairs {s t : State} (h : t.lessPairs = s.lessPairs) :
    t.adc = { s.adc with pairs := t.adc.pairs } := by
  have hadc := congrArg State.adc h
  have := congrArg (fun x : AdcSt => { x with pairs := t.adc.pairs }) hadc; exact this

theorem State.each_lessPairs {α : Type} (s : State) (l : List α) {f : State → α → State}
    (hf : ∀ u x, (f u x).lessPairs = u.lessPairs) : (s.each l f).lessPairs = s.lessPairs :=
  State.each_induction (P := fun u => u.lessPairs = s.lessPairs) rfl fun u x _ hu => (hf u x).trans hu

@[simp] theorem State.raiseLim_lessPairs (s : State) (code sub : Nat) (l : List (Nat × Nat)) :
    (s.raiseLim code sub l).lessPairs = s.lessPairs := by
  have hevents := s.raiseLim_lessEvents code sub l
  have hrings := s.raiseLim_rings code sub l
  have hadc := s.raiseLim_adc code sub l
  have hloops := s.raiseLim_loops code sub l
  rw [State.lessPairs, State.lessPairs, hevents, hrings, hadc, hloops]

theorem State.setCellState_leaves (s : State) (c : Nat) (x : CellLoop) (st : LoopState) :
    (s.setCellState c x st).lessPairs = s.lessPairs ∧ (s.setCellState c x st).adc = s.adc ∧
      (s.setCellState c x st).regs = s.regs := ⟨rfl, rfl, rfl⟩

/-- A cell that follows its pair moves nothing of the converters and no register. -/
theorem State.refreshCell_leaves (s : State) (c : Nat) : (s.refreshCell c).lessPairs = s.lessPairs ∧
    (s.refreshCell c).adc = s.adc ∧ (s.refreshCell c).regs = s.regs := by
  unfold State.refreshCell
  dsimp only
  split
  · split
    · exact ⟨rfl, rfl, rfl⟩
    · exact s.setCellState_leaves _ _ _
  · split
    · exact s.setCellState_leaves _ _ _
    · exact ⟨rfl, rfl, rfl⟩

theorem State.refreshPair_leaves (s : State) (k : Nat) : (s.refreshPair k).lessPairs = s.lessPairs ∧
    (s.refreshPair k).adc = s.adc ∧ (s.refreshPair k).regs = s.regs := by
  have hfold := State.each_induction (s := s) (l := pairCells k) (f := State.refreshCell)
    (P := fun u => u.lessPairs = s.lessPairs ∧ u.adc = s.adc ∧ u.regs = s.regs) ⟨rfl, rfl, rfl⟩
    fun u c _ ⟨hless, hadc, hregs⟩ => by
      obtain ⟨hl, ha, hr⟩ := u.refreshCell_leaves c
      exact ⟨hl.trans hless, ha.trans hadc, hr.trans hregs⟩
  exact hfold

theorem State.raiseLim_regWord (s : State) (code sub : Nat) (l : List (Nat × Nat)) {a : Nat} (ha : a ≠ 0x1000C) :
    (s.raiseLim code sub l).regWord a = s.regWord a := by
  unfold State.raiseLim
  dsimp only
  split
  · split_ifs
    · rfl
    · exact State.raise_regWord _ _ _ ha
  · exact State.raise_regWord _ _ _ ha

section PairFlags

variable (s : State) (k cause : Nat)

/-- A cause that a pair did not have: the pair is set, and its cells and an event follow. -/
theorem State.flagPair_leaves : (s.flagPair k cause).lessPairs = s.lessPairs ∧
    (s.flagPair k cause).adc.pairs = (if (s.pair k).has cause then s.adc.pairs else
      tset {} s.adc.pairs k { (s.pair k).put cause true with flagsSeen := min ((s.pair k).flagsSeen + 1) 255 }) ∧
    (∀ a, a ≠ 0x1000C → (s.flagPair k cause).regWord a = s.regWord a) := by
  unfold State.flagPair
  dsimp only
  split
  · exact ⟨rfl, rfl, fun _ _ => rfl⟩
  · obtain ⟨hless, hadc, hregs⟩ := (s.setPair k
      { (s.pair k).put cause true with flagsSeen := min ((s.pair k).flagsSeen + 1) 255 }).refreshPair_leaves k
    refine ⟨(State.raiseLim_lessPairs _ _ _ _).trans hless, ?_, fun a ha => ?_⟩
    · rw [State.raiseLim_adc, hadc]; rfl
    · rw [State.raiseLim_regWord _ _ _ _ ha, State.regWord_congr hregs]; rfl

theorem State.unflagPair_leaves (how : Nat) : (s.unflagPair k cause how).lessPairs = s.lessPairs ∧
    (s.unflagPair k cause how).adc.pairs = (if (s.pair k).has cause = false then s.adc.pairs else
      tset {} s.adc.pairs k ((s.pair k).put cause false)) ∧
    (∀ a, a ≠ 0x1000C → (s.unflagPair k cause how).regWord a = s.regWord a) := by
  unfold State.unflagPair
  dsimp only
  split
  · exact ⟨rfl, rfl, fun _ _ => rfl⟩
  · obtain ⟨hless, hadc, hregs⟩ := (s.setPair k ((s.pair k).put cause false)).refreshPair_leaves k
    refine ⟨(State.raiseLim_lessPairs _ _ _ _).trans hless, ?_, fun a ha => ?_⟩
    · rw [State.raiseLim_adc, hadc]; rfl
    · rw [State.raiseLim_regWord _ _ _ _ ha, State.regWord_congr hregs]; rfl

end PairFlags

/-! ### References (R230) -/

theorem State.refFlags_leaves (s : State) : s.refFlags.lessPairs = s.lessPairs ∧
    ∀ a, a ≠ 0x1000C → s.refFlags.regWord a = s.regWord a :=
  State.each_induction (P := fun u => u.lessPairs = s.lessPairs ∧ ∀ a, a ≠ 0x1000C → u.regWord a = s.regWord a)
    ⟨rfl, fun _ _ => rfl⟩ fun u k _ ⟨hless, hregs⟩ => by
      split
      · obtain ⟨hl, -, hr⟩ := u.unflagPair_leaves k 2 1
        exact ⟨hl.trans hless, fun a ha => (hr a ha).trans (hregs a ha)⟩
      · obtain ⟨hl, -, hr⟩ := u.flagPair_leaves k 2
        exact ⟨hl.trans hless, fun a ha => (hr a ha).trans (hregs a ha)⟩

/-- The state with other reference buffers. -/
def State.withRef (s : State) (f : FnStatus) (at_ : Nat) : State := { s with adc := { s.adc with ref := f, refAt := at_ } }

/-- The buffers start where they were off, from this instant. -/
theorem State.refStart_of_off {s : State} (h : s.adc.ref.state = 0) : s.refStart =
    (s.withRef { s.adc.ref with state := 1, ready := false, stopPending := false } s.clk).refFlags := by
  rw [State.refStart, FnStatus.enable_of_off h]
  rfl

theorem State.refStart_of_notOff {s : State} (h : s.adc.ref.state ≠ 0) :
    ∃ f, s.refStart = s.withRef f s.adc.refAt := by
  have hbegan : s.adc.ref.enable.2 = false := by
    rw [FnStatus.enable, if_neg h]
    split <;> rfl
  unfold State.refStart
  dsimp only
  rw [hbegan]
  exact ⟨_, rfl⟩

theorem State.refStop_of_ready {s : State} (hon : s.adc.ref.state = 1) (hready : s.adc.ref.ready = true) : s.refStop =
    (s.withRef { s.adc.ref with state := 2, ready := false } s.adc.refAt).refFlags := by
  rw [State.refStop, FnStatus.disable_of_ready hon hready]
  rfl

/-- The start of the references moves neither the conduct nor the modes' waits. -/
theorem State.refStart_leaves (s : State) : s.refStart.conduct = s.conduct ∧ s.refStart.mode = s.mode := by
  by_cases h : s.adc.ref.state = 0
  · obtain ⟨hless, -⟩ :=
      (s.withRef { s.adc.ref with state := 1, ready := false, stopPending := false } s.clk).refFlags_leaves
    have hconduct := State.conduct_of_lessPairs hless
    have hmode := State.mode_of_lessPairs hless
    rw [State.refStart_of_off h]
    exact ⟨hconduct, hmode⟩
  · obtain ⟨f, hf⟩ := State.refStart_of_notOff h
    rw [hf]
    exact ⟨rfl, rfl⟩

theorem State.refsOn_leaves (s : State) : s.refsOn.conduct = s.conduct ∧ s.refsOn.mode = s.mode := by
  unfold State.refsOn
  split
  · exact s.refStart_leaves
  · exact ⟨rfl, rfl⟩

theorem State.refsOn_conduct (s : State) : s.refsOn.conduct = s.conduct := s.refsOn_leaves.1

end Sys2Proof.Machine
end

section
/-!
The power ladder: what an arrival at a rung leaves alone, and the last rung (R43 to R48).
-/

namespace Sys2Proof.Machine

open Sys2Proof.Stated

/-! ### Functions and masters that follow the power state -/

@[simp] theorem State.bump_conduct (s : State) (f : FieldRef) (n : Nat) : (s.bump f n).conduct = s.conduct := rfl

@[simp] theorem State.holdMaster_conduct (s : State) (m : Nat) : (s.holdMaster m).conduct = s.conduct := by
  have hbm (u : State) (x : BmSt) : ({ u with bm := x } : State).conduct = u.conduct := rfl
  unfold State.holdMaster
  split
  · rfl
  · unfold State.resetMaster
    dsimp only
    rw [State.raise_conduct, State.bump_conduct]
    exact State.each_conduct s _ fun _ _ => rfl

@[simp] theorem State.eachCore_conduct (s : State) (f : Core → Core) : (s.eachCore f).conduct = s.conduct :=
  State.each_conduct s _ fun _ _ => rfl

theorem State.eachCore_loops (s : State) (f : Core → Core) : (s.eachCore f).loops = s.loops :=
  State.each_induction (P := fun u => u.loops = s.loops) rfl fun _ _ _ hu => hu

theorem State.eachCore_mode (s : State) (f : Core → Core) : (s.eachCore f).mode = s.mode :=
  State.each_induction (P := fun u => u.mode = s.mode) rfl fun _ _ _ hu => hu

/-- The cores' release as hold periods are counted again. -/
theorem State.releaseLanes_conduct (s : State) : s.releaseLanes.conduct = s.conduct := s.eachCore_conduct _

theorem State.resumePeriods_conduct (s : State) : s.resumePeriods.conduct = s.conduct := by
  have hcores := (State.eachCore_conduct s.countPeriods.releaseLanes (fun x => { x with fresh := true })).trans
    (State.releaseLanes_conduct s.countPeriods)
  exact hcores

/-- Hold periods are counted again, with a sampled period (R165). -/
theorem State.resumePeriods_leaves (s : State) : s.resumePeriods.mode = s.mode ∧
    s.resumePeriods.loops.sampled = true ∧ s.resumePeriods.loops.counting = true := by
  have hmode := (State.eachCore_mode s.countPeriods.releaseLanes (fun x => { x with fresh := true })).trans
    (State.eachCore_mode s.countPeriods _)
  have hloops := (State.eachCore_loops s.countPeriods.releaseLanes (fun x => { x with fresh := true })).trans
    (State.eachCore_loops s.countPeriods _)
  have hcounting := congrArg LoopSt.counting hloops
  exact ⟨hmode, rfl, hcounting⟩

@[simp] theorem State.raiseLoop_conduct (s : State) (code sub : Nat) (l : List (Nat × Nat)) :
    (s.raiseLoop code sub l).conduct = s.conduct := by
  unfold State.raiseLoop
  split
  · rfl
  · exact s.raiseLim_conduct _ _ _

@[simp] theorem State.laneFault_conduct (s : State) (n : Nat) (x : Core) (code : Nat) :
    (s.laneFault n x code).conduct = s.conduct := State.raiseLoop_conduct _ _ _ _

/-! ### The ladder (R43 to R48) -/

/-- The state as a rung reached leaves it: where the ladder stands, and the number of rings. -/
def State.rung (s : State) : State :=
  { pwr := { state := s.pwr.state, target := s.pwr.target, rung := s.pwr.rung, cmd := s.pwr.cmd }
    cx := { rings := List.replicate s.cx.rings.length {} } }

theorem State.rung_of_conduct {s t : State} (h : t.conduct = s.conduct) : t.rung = s.rung := by
  have hlen := State.ringCount_of_conduct h
  have hpwr := State.pwr_of_conduct h
  rw [State.rung, State.rung, hpwr, hlen]

theorem State.waitClk_rung (s : State) (t : Nat) : (s.waitClk t).rung = s.rung := rfl

theorem State.toSlowClock_rung (s : State) : s.toSlowClock.rung = s.rung := rfl
theorem State.toFastClock_rung (s : State) : s.toFastClock.rung = s.rung := rfl
theorem State.rung_awake (s : State) :
    ({ s with pwr := { s.pwr with keeping := false, keepAt := none } } : State).rung = s.rung := rfl
theorem State.photonicOff_rung (s : State) : s.photonicOff.rung = s.rung := rfl
theorem State.rung_asleep (s : State) (a : Option Nat) (x : Int) :
    ({ s with pwr := { s.pwr with keepAt := a, keepTemp := x } } : State).rung = s.rung := rfl

theorem State.each_rung {α : Type} (s : State) (l : List α) {f : State → α → State}
    (hf : ∀ u x, (f u x).rung = u.rung) : (s.each l f).rung = s.rung :=
  State.each_induction (P := fun u => u.rung = s.rung) rfl fun u x _ hu => (hf u x).trans hu

theorem State.stallLanes_rung (s : State) : s.stallLanes.rung = s.rung := by
  unfold State.stallLanes
  dsimp only
  rw [State.each_rung, State.each_rung]
  · intro u n
    split
    · exact u.waitClk_rung _
    · rfl
  · intro u n
    split
    · exact State.rung_of_conduct (u.laneFault_conduct _ _ _)
    · rfl

/-- A rung's arrival moves the ladder to its state, and no command of it. -/
theorem State.arrive_rung (s : State) (dest : Nat) :
    (s.arrive dest).rung = ({ s with pwr := { s.pwr with state := dest, rung := none } } : State).rung := by
  have hvoid := State.rung_of_conduct
    (({ s with pwr := { s.pwr with state := dest, rung := none } } : State).voidWindows_conduct)
  unfold State.arrive
  dsimp only
  rw [← hvoid]
  split
  · split
    · exact State.rung_of_conduct (State.fabricWake_conduct _)
    · exact State.rung_of_conduct ((State.fabricWake_conduct _).trans (State.portsWake_conduct _))
  · rfl
  · exact State.rung_of_conduct ((State.holdMaster_conduct _ _).trans (State.holdMaster_conduct _ _))
  · split
    · rfl
    · rw [State.rung_awake, State.rung_of_conduct (State.resumePeriods_conduct _),
        State.rung_of_conduct (State.refsOn_conduct _), State.toFastClock_rung]
  · exact State.rung_of_conduct (State.holdMaster_conduct _ _)
  · rw [State.rung_asleep, State.photonicOff_rung, State.rung_of_conduct (State.exclusionCheck_conduct _ none),
      State.toSlowClock_rung, State.stallLanes_rung]
  · rfl
  · rfl

/-- The way into L3: the cores stopped, the slow clock, the photonic domain off (R46, R54). -/
theorem State.arrive_three_eq (s : State) : ∃ x, s.arrive 3 =
    ((({ s with pwr := { s.pwr with state := 3, rung := none } } : State).voidWindows.stallLanes.toSlowClock.exclusionCheck
      none).photonicOff).withPwr x := ⟨_, rfl⟩

/-- L3 between keep passes: no period counted, the references off, time to be set again. -/
theorem State.arrive_three (s : State) : (s.arrive 3).loops.counting = false ∧ (s.arrive 3).adc.ref = {} ∧
    (s.arrive 3).time.unset = true := by
  have hoff (u : State) (x : PowerSt) : (u.photonicOff.withPwr x).time = u.time := rfl
  have hslow (u : State) : u.toSlowClock.time.unset = true := rfl
  obtain ⟨x, hx⟩ := s.arrive_three_eq
  rw [hx, hoff, State.time_of_conduct (State.exclusionCheck_conduct _ none), hslow]
  exact ⟨rfl, rfl, rfl⟩

theorem State.arrive_five (s : State) : (s.arrive 5).store = {} := rfl

/-! ### Rungs reached -/

@[simp] theorem State.completeOpt_loops (s : State) (tag : Option CmdTag) (st : Nat) (d : List (Nat × Nat)) :
    (s.completeOpt tag st d).loops = s.loops := by
  cases tag with
  | none => rfl
  | some t => exact s.complete_loops t st d

@[simp] theorem State.completeOpt_adc (s : State) (tag : Option CmdTag) (st : Nat) (d : List (Nat × Nat)) :
    (s.completeOpt tag st d).adc = s.adc := by
  cases tag with
  | none => rfl
  | some t => exact s.complete_adc t st d

/-- At the target the command in progress completes. -/
theorem State.nextRung_of_arrived {s : State} (h : s.pwr.state = s.pwr.target) :
    s.nextRung = (s.withPwr { s.pwr with cmd := none }).completeOpt s.pwr.cmd St.ok := by
  rw [State.nextRung, if_pos h]
  rfl

section RungReached

variable {s : State} {dest : Nat} (hrung : s.pwr.rung = some dest)
include hrung

/-- L1 waits for an empty buffer (R44). -/
theorem rungReached_waits (hdest : dest = 1) (hstate : s.pwr.state = 0) (hframes : s.tm.frames ≠ []) :
    exec .powerRungReached s = .next s := by
  show execPowerRungReached s = _
  rw [execPowerRungReached, State.rungReached, hrung]
  exact congrArg Host.Outcome.next (if_pos ⟨hdest, hstate, hframes⟩)

/-- The last rung: its arrival, its event, and the end of the command. -/
theorem exec_powerRungReached (hdest : dest = s.pwr.target)
    (hempty : dest = 1 → s.pwr.state = 0 → s.tm.frames = []) : exec .powerRungReached s =
      .next ((((s.arrive dest).raise 0x0303 [(1, dest), (1, s.pwr.target)]).withPwr
        { (s.arrive dest).pwr with cmd := none }).completeOpt s.pwr.cmd St.ok) := by
  have hrised (u : State) (l : List (Nat × Nat)) : (u.raise 0x0303 l).pwr = u.pwr :=
    State.pwr_of_conduct (u.raise_conduct _ _)
  have harrive := s.arrive_rung dest
  have hstate : (s.arrive dest).pwr.state = dest := by have := congrArg (·.pwr.state) harrive; exact this
  have htarget : (s.arrive dest).pwr.target = s.pwr.target := by have := congrArg (·.pwr.target) harrive; exact this
  have hcmd : (s.arrive dest).pwr.cmd = s.pwr.cmd := by have := congrArg (·.pwr.cmd) harrive; exact this
  show execPowerRungReached s = _
  rw [execPowerRungReached, State.rungReached, hrung]
  dsimp only
  rw [if_neg fun ⟨h1, h0, hne⟩ => hne (hempty h1 h0), State.nextRung_of_arrived (by rw [hrised, hstate, htarget, hdest]),
    hrised, hcmd]
  rfl

theorem rungReached_arrives (hdest : dest = s.pwr.target)
    (hempty : dest = 1 → s.pwr.state = 0 → s.tm.frames = []) : ∃ t, exec .powerRungReached s = .next t ∧
      t.pwr.state = dest ∧ t.pwr.rung = none ∧ t.pwr.cmd = none ∧
      (dest = 3 → t.loops.counting = false ∧ t.adc.ref = {} ∧ t.time.unset = true) ∧ (dest = 5 → t.store = {}) ∧
      (∀ c, s.pwr.cmd = some c → s.cx.rings.length = 16 → Told t c St.ok) := by
  have hexec := exec_powerRungReached hrung hdest hempty
  have harrive := s.arrive_rung dest
  have hstate : (s.arrive dest).pwr.state = dest := by have := congrArg (·.pwr.state) harrive; exact this
  have hnone : (s.arrive dest).pwr.rung = none := by have := congrArg (·.pwr.rung) harrive; exact this
  have hraised := (s.arrive dest).raise_conduct 0x0303 [(1, dest), (1, s.pwr.target)]
  have hloops := (s.arrive dest).raise_loops 0x0303 [(1, dest), (1, s.pwr.target)]
  have hadc := (s.arrive dest).raise_adc 0x0303 [(1, dest), (1, s.pwr.target)]
  generalize (s.arrive dest).raise 0x0303 [(1, dest), (1, s.pwr.target)] = u at hexec hraised hloops hadc
  have hdone := (u.withPwr { (s.arrive dest).pwr with cmd := none }).completeOpt_conduct s.pwr.cmd St.ok []
  have hpwr := State.pwr_of_conduct hdone
  have htime := State.time_of_conduct hdone
  have hstore := State.store_of_conduct hdone
  refine ⟨_, hexec, ?_⟩
  rw [hpwr, htime, hstore, State.completeOpt_loops, State.completeOpt_adc]
  refine ⟨hstate, hnone, rfl, ?_, ?_, ?_⟩
  · rintro rfl
    obtain ⟨hcount, href, hunset⟩ := s.arrive_three
    have hcounting := (congrArg LoopSt.counting hloops).trans hcount
    have hrefs := (congrArg AdcSt.ref hadc).trans href
    have htimes := (congrArg TimeSt.unset (State.time_of_conduct hraised)).trans hunset
    exact ⟨hcounting, hrefs, htimes⟩
  · rintro rfl
    exact (State.store_of_conduct hraised).trans s.arrive_five
  · intro c hcmd hlen
    have hcount : (s.arrive dest).cx.rings.length = s.cx.rings.length := by
      have := congrArg (·.cx.rings.length) harrive
      simpa only [State.rung, List.length_replicate] using this
    rw [hcmd]
    exact told_complete (s := u.withPwr { (s.arrive dest).pwr with cmd := none })
      ((State.ringCount_of_conduct hraised).trans (hcount.trans hlen)) c St.ok []

end RungReached

end Sys2Proof.Machine
end

section
/-!
The statement about the power ladder.
-/

namespace Sys2Proof.Machine

open Sys2Proof.Stated

/-! ### SET_POWER (R43, R44) -/

/-- Mode 1 is permitted in every power state (Table 2.4). -/
theorem rungPath_all_safe (a b : Nat) : (rungPath a b).all (fun p => (powerModes p).contains 1) = true := by
  have hall : ∀ p ∈ List.range 6, (powerModes p).contains 1 = true := by decide
  exact List.all_eq_true.mpr fun p hp => hall p (List.mem_filter.mp hp).1

/-- Mode 5 is permitted in L0 only. -/
theorem rungPath_all_edgePacket {target : Nat} (h : 1 ≤ target) :
    (rungPath 0 target).all (fun p => (powerModes p).contains 5) = false := by
  refine List.all_eq_false.mpr ⟨1, List.mem_filter.mpr ⟨by decide, ?_⟩, by decide⟩
  exact decide_eq_true ⟨by omega, by omega⟩

theorem State.descended_of_awake {s : State} (hstate : s.pwr.state ≤ 3) (hrung : s.pwr.rung = none) :
    s.descended = false := by
  rw [State.descended, hrung, decide_eq_false (by omega)]
  rfl

/-- A target that SET_POWER takes, with what it preempts. -/
def State.aimed (s : State) (tag : CmdTag) (target : Nat) : State :=
  { s.completeOpt s.pwr.cmd St.preempted with
    pwr := { (s.completeOpt s.pwr.cmd St.preempted).pwr with target := target, cmd := some tag }
    ret := { (s.completeOpt s.pwr.cmd St.preempted).ret with
      wakeSrc := if target < (s.completeOpt s.pwr.cmd St.preempted).pwr.state then 1
        else (s.completeOpt s.pwr.cmd St.preempted).ret.wakeSrc } }

theorem State.aimed_pwr (s : State) (tag : CmdTag) (target : Nat) :
    (s.aimed tag target).pwr = { s.pwr with target := target, cmd := some tag } := by
  have hpwr := State.pwr_of_conduct (s.completeOpt_conduct s.pwr.cmd St.preempted [])
  have := congrArg (fun x : PowerSt => { x with target := target, cmd := some tag }) hpwr
  exact this

theorem State.aimed_mode (s : State) (tag : CmdTag) (target : Nat) : (s.aimed tag target).mode.mode = s.mode.mode := by
  have hmode := State.mode_of_conduct (s.completeOpt_conduct s.pwr.cmd St.preempted [])
  exact hmode

theorem State.aimed_clk (s : State) (tag : CmdTag) (target : Nat) : (s.aimed tag target).clk = s.clk := by
  have hclk := State.clk_of_conduct (s.completeOpt_conduct s.pwr.cmd St.preempted [])
  exact hclk

/-- With no command in progress and no wake-up nothing but the target is taken. -/
theorem State.aimed_of_idle {s : State} (hcmd : s.pwr.cmd = none) (tag : CmdTag) {target : Nat}
    (hstay : s.pwr.state ≤ target) :
    s.aimed tag target = s.withPwr { s.pwr with target := target, cmd := some tag } := by
  have hwake : (if target < s.pwr.state then 1 else s.ret.wakeSrc) = s.ret.wakeSrc := if_neg (by omega)
  rw [State.aimed, hcmd]
  exact congrArg (fun w => ({ s with
    pwr := { s.pwr with target := target, cmd := some tag }, ret := { s.ret with wakeSrc := w } } : State)) hwake

section SetPower

variable {s : State} (hs : Serves s) (tag : CmdTag) {target : Nat}
include hs

theorem setPower_badParam (h : 5 < target) :
    ∃ t, exec (.setPower tag target) s = .next t ∧ Refused s t tag St.badParam := by
  have hexec : exec (.setPower tag target) s = .next ((s.begin tag 0x0002).complete tag St.badParam) := by
    show execSetPower tag target s = _
    rw [execSetPower, State.serve_eq hs]
    exact congrArg Host.Outcome.next (if_pos h)
  exact ⟨_, hexec, refused_of_begun hs tag _ _ _⟩

variable (htarget : target ≤ 5) (hstate : s.pwr.state ≤ 3) (hrung : s.pwr.rung = none)
include htarget hstate hrung

/-- A target on whose way the mode in force is not permitted everywhere. -/
theorem setPower_refused (hpath : (rungPath s.pwr.state target).all
    (fun p => (powerModes p).contains s.mode.mode.code) = false) :
    ∃ t, exec (.setPower tag target) s = .next t ∧ Refused s t tag St.powerState := by
  have hbase : (s.begin tag 0x0002).pwr.rung.getD (s.begin tag 0x0002).pwr.state = s.pwr.state := by
    show s.pwr.rung.getD s.pwr.state = _
    rw [hrung]; rfl
  have hawake : (s.begin tag 0x0002).descended = false := State.descended_of_awake (s := s.begin tag 0x0002) hstate hrung
  have hexec : exec (.setPower tag target) s = .next ((s.begin tag 0x0002).complete tag St.powerState) := by
    show execSetPower tag target s = _
    rw [execSetPower, State.serve_eq hs, if_neg (by omega), hawake, hbase]
    exact congrArg Host.Outcome.next (if_pos hpath)
  exact ⟨_, hexec, refused_of_begun hs tag _ _ _⟩

/-- A target in mode 1, which every power state permits, where no rung and no keep pass is in progress. -/
theorem exec_setPower (hkeep : s.pwr.keeping = false) (hmode : s.mode.mode = .safe) :
    exec (.setPower tag target) s = .next ((s.begin tag 0x0002).aimed tag target).nextRung := by
  have hbase : (s.begin tag 0x0002).pwr.rung.getD (s.begin tag 0x0002).pwr.state = s.pwr.state := by
    show s.pwr.rung.getD s.pwr.state = _
    rw [hrung]; rfl
  have hawake : (s.begin tag 0x0002).descended = false := State.descended_of_awake (s := s.begin tag 0x0002) hstate hrung
  have hpath : ¬(rungPath s.pwr.state target).all
      (fun p => (powerModes p).contains (s.begin tag 0x0002).mode.mode.code) = false := by
    rw [show (s.begin tag 0x0002).mode.mode = .safe from hmode]
    exact Bool.not_eq_false _ ▸ rungPath_all_safe _ _
  have hpwr := State.aimed_pwr (s.begin tag 0x0002) tag target
  have hidle : ¬((s.begin tag 0x0002).aimed tag target).pwr.rung.isSome = true := by
    rw [hpwr]
    show ¬s.pwr.rung.isSome = true
    rw [hrung]; exact Bool.noConfusion
  have hpass : ¬(((s.begin tag 0x0002).aimed tag target).pwr.keeping = true ∧ target < 3) := by
    rw [hpwr]
    show ¬(s.pwr.keeping = true ∧ target < 3)
    rw [hkeep]; exact fun h => Bool.noConfusion h.1
  show execSetPower tag target s = _
  rw [execSetPower, State.serve_eq hs, if_neg (by omega), hawake, hbase]
  dsimp only
  rw [if_neg Bool.false_ne_true, if_neg hpath]
  exact congrArg Host.Outcome.next ((if_neg hidle).trans (if_neg hpass))

end SetPower

/-! ### The first rung, and a target that is reached at once -/

/-- On the way to L1 the ports and lanes go to sleep (R43): the lasers of a Calibrate run go off, nothing else moves. -/
theorem State.rungStart_lasersOff {s : State} (h : s.pwr.state = 0) (dest : Nat) :
    (s.rungStart dest).lasersOff.conduct = s.lasersOff.conduct := by
  rw [State.rungStart, if_pos h, State.lasersOff_conduct_congr (State.fabricDark_conduct _),
    State.lasersOff_conduct_congr (State.fabricOff_conduct _), State.lasersOff_conduct_congr (State.portsOff_conduct _),
    State.endCalRun_lasersOff]

theorem State.nextRung_of_below {s : State} (h : s.pwr.state < s.pwr.target) :
    s.nextRung = (s.withPwr { s.pwr with rung := some (s.pwr.state + 1) }).rungStart (s.pwr.state + 1) := by
  rw [State.nextRung, if_neg h.ne]
  dsimp only
  rw [if_pos h]
  rfl

theorem setPower_begins {s : State} (hs : Serves s) (tag : CmdTag) {target : Nat} (hstate : s.pwr.state = 0)
    (hrung : s.pwr.rung = none) (hkeep : s.pwr.keeping = false) (hmode : s.mode.mode = .safe) (hlow : 1 ≤ target)
    (hhigh : target ≤ 5) : ∃ t, exec (.setPower tag target) s = .next t ∧
      t.pwr = { s.pwr with target := target, cmd := some tag, rung := some 1 } ∧ t.mode.mode = .safe ∧
      t.clk = s.clk := by
  have hexec := exec_setPower hs tag hhigh (by omega) hrung hkeep hmode
  have hpwr : ((s.begin tag 0x0002).aimed tag target).pwr = { s.pwr with target := target, cmd := some tag } :=
    State.aimed_pwr _ tag target
  have hsafe : ((s.begin tag 0x0002).aimed tag target).mode.mode = .safe := (State.aimed_mode _ tag target).trans hmode
  have hclk : ((s.begin tag 0x0002).aimed tag target).clk = s.clk := State.aimed_clk _ tag target
  generalize (s.begin tag 0x0002).aimed tag target = u at hexec hpwr hsafe hclk
  have hzero : u.pwr.state = 0 := by rw [hpwr]; exact hstate
  have hbelow : u.pwr.state < u.pwr.target := by
    rw [hpwr]
    show s.pwr.state < target
    omega
  rw [State.nextRung_of_below hbelow, hzero] at hexec
  have hstart := State.rungStart_lasersOff (s := u.withPwr { u.pwr with rung := some 1 }) hzero 1
  have hpwr' := State.pwr_of_conduct hstart
  have hmode' := State.mode_of_conduct hstart
  have hclk' := State.clk_of_conduct hstart
  have hladder := hpwr'.trans (congrArg (fun x : PowerSt => { x with rung := some 1 }) hpwr)
  exact ⟨_, hexec, hladder, hmode'.trans hsafe, hclk'.trans hclk⟩

theorem State.nextRung_aimed_of_idle {u : State} (hcmd : u.pwr.cmd = none) (tag : CmdTag) {target : Nat}
    (hstate : u.pwr.state = target) :
    (u.aimed tag target).nextRung = (u.withPwr { u.pwr with target := target }).complete tag St.ok := by
  have hladder : ({ u.pwr with target := target, cmd := none } : PowerSt) = { u.pwr with target := target } := by
    rw [← hcmd]
  rw [State.aimed_of_idle hcmd tag hstate.le, State.nextRung_of_arrived (by exact hstate), ← hladder]
  rfl

theorem rest_of_exchangeOnly {s t : State} {x : PowerSt} (h : ExchangeOnly (s.withPwr x) t) :
    ({ t with pwr := s.pwr, cx := s.cx, host := s.host } : State) = s := by
  have hback := congrArg (fun v : State => v.withPwr s.pwr) h
  exact hback

theorem setPower_stays {s : State} (hs : Serves s) (tag : CmdTag) {target : Nat} (hlow : target ≤ 3)
    (hstate : s.pwr.state = target) (hrung : s.pwr.rung = none) (hcmd : s.pwr.cmd = none)
    (hkeep : s.pwr.keeping = false) (hmode : s.mode.mode = .safe) : ∃ t, exec (.setPower tag target) s = .next t ∧
      Answered s t tag St.ok ∧ t.pwr = { s.pwr with target := target } ∧
      { t with pwr := s.pwr, cx := s.cx, host := s.host } = s := by
  have hexec := exec_setPower hs tag (by omega) (by omega) hrung hkeep hmode (target := target)
  rw [State.nextRung_aimed_of_idle (u := s.begin tag 0x0002) hcmd tag hstate, State.begin_pwr] at hexec
  have hanswered := answered_of_begun hs (tag := tag) (op := 0x0002) (u := (s.begin tag 0x0002).withPwr
    { s.pwr with target := target }) rfl St.ok [] false
  have hpwr := State.complete_pwr ((s.begin tag 0x0002).withPwr { s.pwr with target := target }) tag St.ok []
  have hrest := rest_of_exchangeOnly (exchangeOnly_completeWith (s := s.withPwr { s.pwr with target := target })
    (u := (s.begin tag 0x0002).withPwr { s.pwr with target := target }) rfl tag St.ok [] false)
  exact ⟨_, hexec, hanswered, hpwr, hrest⟩

/-! ### Keep passes (R47) -/

/-- The first part of a keep pass: the PLLs lock in the first time, the references settle in the second. -/
def State.warmed (s : State) (lock settle : Nat) : State :=
  { (s.elapse lock).refsOn.elapse settle with
    adc := { ((s.elapse lock).refsOn.elapse settle).adc with
      ref := ((s.elapse lock).refsOn.elapse settle).adc.ref.up.1 } }

theorem State.warmed_leaves (s : State) (lock settle : Nat) : (s.warmed lock settle).clk = s.clk + lock + settle ∧
    (s.warmed lock settle).pwr = s.pwr ∧ (s.warmed lock settle).mode = s.mode := by
  obtain ⟨hconduct, hmode⟩ := (s.elapse lock).refsOn_leaves
  have hclk := State.clk_of_conduct hconduct
  have hpwr := State.pwr_of_conduct hconduct
  have hlater := congrArg (· + settle) hclk
  exact ⟨hlater, hpwr, hmode⟩

theorem exec_keepPass {s : State} {a : Nat} (hstate : s.pwr.state = 3) (hrung : s.pwr.rung = none)
    (hkeep : s.pwr.keeping = false) (hat : s.pwr.keepAt = some a) : exec .keepPass s =
      .next (((s.waitClk a).withPwr { s.pwr with
        keeping := true, keepAt := some (a + s.fld Reg.PWR_KEEP_INTERVAL * 1000000000) }).warmed 200000
          5000000).resumePeriods := by
  have hready : ¬(s.pwr.state ≠ 3 ∨ s.pwr.rung.isSome = true ∨ s.pwr.keeping = true) := by
    simp [hstate, hrung, hkeep]
  have hfld : (s.waitClk a).fld Reg.PWR_KEEP_INTERVAL = s.fld Reg.PWR_KEEP_INTERVAL := State.fld_congr rfl _
  show execKeepPass s = _
  rw [execKeepPass, hat]
  dsimp only
  rw [if_neg hready, hfld]
  generalize 200000 = lock, 5000000 = settle
  rfl

theorem keepPass_begins {s : State} {a : Nat} (hstate : s.pwr.state = 3) (hrung : s.pwr.rung = none)
    (hkeep : s.pwr.keeping = false) (hat : s.pwr.keepAt = some a) : ∃ t, exec .keepPass s = .next t ∧
      t.clk = max s.clk a + 5200000 ∧ t.loops.sampled = true ∧ t.loops.counting = true ∧
      t.pwr = { s.pwr with
        keeping := true, keepAt := some (a + s.fld Reg.PWR_KEEP_INTERVAL * 1000000000) } ∧ t.mode = s.mode := by
  have hexec := exec_keepPass hstate hrung hkeep hat
  obtain ⟨hclk, hpwr, hmode⟩ := ((s.waitClk a).withPwr { s.pwr with
    keeping := true, keepAt := some (a + s.fld Reg.PWR_KEEP_INTERVAL * 1000000000) }).warmed_leaves 200000 5000000
  have hbegan : ((s.waitClk a).withPwr { s.pwr with
    keeping := true, keepAt := some (a + s.fld Reg.PWR_KEEP_INTERVAL * 1000000000) }).clk = max s.clk a := s.waitClk_clk a
  rw [hbegan] at hclk
  generalize ((s.waitClk a).withPwr { s.pwr with
    keeping := true, keepAt := some (a + s.fld Reg.PWR_KEEP_INTERVAL * 1000000000) }).warmed 200000 5000000 = u
    at hexec hclk hpwr hmode
  obtain ⟨hmode', hsampled, hcounting⟩ := u.resumePeriods_leaves
  have hclk' := State.clk_of_conduct u.resumePeriods_conduct
  have hpwr' := State.pwr_of_conduct u.resumePeriods_conduct
  exact ⟨_, hexec, (hclk'.trans hclk).trans (by omega), hsampled, hcounting, hpwr'.trans hpwr, hmode'.trans hmode⟩

/-! ### The drain limit (R38) -/

theorem diff_self_eq_nil {α : Type} [DecidableEq α] (l : List α) : l.diff l = [] :=
  List.eq_nil_iff_forall_not_mem.mpr fun a => by rw [← List.count_eq_zero, List.count_diff, Nat.sub_self]

/-- Every frame still queued is gone, and nothing but queues, counters and write-backs has moved. -/
theorem State.dropLeftovers_leaves (s : State) : s.dropLeftovers.lessQueues = s.lessQueues ∧
    s.dropLeftovers.tm.frames = [] := by
  have hless := s.each_lessQueues s.tm.frames (f := fun s f => s.discard f 49 53) fun u f => u.discard_lessQueues f 49 53
  obtain ⟨hframes, -⟩ := Prod.mk.inj (s.each_discard_queues s.tm.frames 49 53)
  have hempty : (s.each s.tm.frames (fun s f => s.discard f 49 53)).tm.frames = [] := by
    rw [hframes, diff_self_eq_nil]
  unfold State.dropLeftovers
  dsimp only
  refine State.each_induction (P := fun u => u.lessQueues = s.lessQueues ∧ u.tm.frames = []) ⟨hless, hempty⟩
    fun u p _ ⟨hl, hf⟩ => ?_
  refine State.each_induction (P := fun u => u.lessQueues = s.lessQueues ∧ u.tm.frames = []) ⟨hl, hf⟩
    fun v e _ ⟨hl, hf⟩ => ?_
  obtain ⟨hqueues, -⟩ := Prod.mk.inj ((v.count (portCnt p 49) 1).writeBack_queues e.ref 2 none)
  exact ⟨(State.writeBack_lessQueues _ _ _ _).trans hl, hqueues.trans hf⟩

theorem packetStopTimeout_drains {s : State} {a : Nat} (hend : s.mode.drainEnd = some a) : ∃ t,
    exec .packetStopTimeout s = .next t ∧ t.clk = max s.clk a ∧ t.tm.frames = [] ∧
      t.mode = { s.mode with drainEnd := none } ∧ t.saf = s.saf ∧ t.pwr = s.pwr := by
  have hexec : exec .packetStopTimeout s = .next { (s.waitClk a).dropLeftovers with
      mode := { (s.waitClk a).dropLeftovers.mode with drainEnd := none } } := by
    show execPacketStopTimeout s = _
    rw [execPacketStopTimeout, hend]
    rfl
  obtain ⟨hless, hframes⟩ := (s.waitClk a).dropLeftovers_leaves
  have hclk := congrArg State.clk hless
  have hmode := congrArg (fun u : State => ({ u.mode with drainEnd := none } : ModeSt)) hless
  have hsaf := congrArg State.saf hless
  have hpwr := congrArg State.pwr hless
  exact ⟨_, hexec, hclk.trans (s.waitClk_clk a), hframes, hmode, hsaf, hpwr⟩

/-- Settles O29: SET_POWER and a rung reached are walks down the ladder's conditions; what an arrival, the start of a rung
and a keep pass leave is read off the ladder's own part of the state (`State.arrive_rung`) and off its conduct. -/
theorem powerLadder : Obligations.PowerLadder := by
  unfold Obligations.PowerLadder
  intro s tag target dest a
  refine ⟨fun hs => setPower_badParam hs tag, ?_, ?_, ?_, ?_, rungReached_arrives, keepPass_begins,
    packetStopTimeout_drains⟩
  · intro hs hstate hrung _ hmode hlow hhigh
    refine setPower_refused hs tag hhigh (by omega) hrung ?_
    rw [hstate, hmode]
    exact rungPath_all_edgePacket hlow
  · exact fun hs => setPower_begins hs tag
  · exact fun hs => setPower_stays hs tag
  · exact fun hrung hstate hframes => rungReached_waits hrung rfl hstate hframes

end Sys2Proof.Machine
end

section
/-!
Pairs of converters flagged, cleared and forced (R231, R232).
-/

namespace Sys2Proof.Machine

open Sys2Proof.Stated

/-! ### Tables and bits -/

/-- What a table made from a list of keys by a rule and a filter holds at a key. -/
theorem tget?_filter_map {α : Type} (l : List Nat) (f : Nat → α) (keep : Nat × α → Bool) (c : Nat) :
    tget? ((l.map (fun k => (k, f k))).filter keep) c = if c ∈ l ∧ keep (c, f c) = true then some (f c) else none := by
  induction l with
  | nil => rfl
  | cons k rest ih =>
    rw [List.map_cons, List.filter_cons]
    by_cases hc : k = c
    · subst hc
      by_cases hk : keep (k, f k) = true
      · rw [if_pos hk, if_pos ⟨List.mem_cons_self, hk⟩, tget?, if_pos rfl]
      · rw [if_neg hk, ih, if_neg fun h => hk h.2, if_neg fun h => hk h.2]
    · have hmem : c ∈ k :: rest ↔ c ∈ rest := List.mem_cons.trans (or_iff_right (Ne.symm hc))
      simp only [hmem]
      by_cases hk : keep (k, f k) = true
      · rw [if_pos hk, tget?, if_neg hc, ih]
      · rw [if_neg hk, ih]

theorem bitList_one {k : Nat} (hk : k < 16) : bitList 16 (2 ^ k) = [k] := by
  have hall : ∀ n : Fin 16, bitList 16 (2 ^ n.val) = [n.val] := by decide
  exact hall ⟨k, hk⟩

theorem bitAt_one {j k : Nat} (hj : j < 16) (hk : k < 16) : bitAt (2 ^ k) j = decide (j = k) := by
  have hall : ∀ m n : Fin 16, bitAt (2 ^ n.val) m.val = decide (m.val = n.val) := by decide
  exact hall ⟨j, hj⟩ ⟨k, hk⟩

/-! ### Pairs flagged and cleared (R231, R232) -/

theorem PairSt.put_of_has_eq {x : PairSt} {cause : Nat} {b : Bool} (h : x.has cause = b) : x.put cause b = x := by
  subst h
  match cause with
  | 0 | 1 | 2 | 3 | 4 | 5 | _ + 6 => rfl

theorem PairSt.has_put (x : PairSt) (cause n : Nat) :
    ({ x.put cause true with flagsSeen := n } : PairSt).has cause = true := by
  match cause with
  | 0 | 1 | 2 | 3 | 4 | 5 | _ + 6 => rfl

/-- A flagged pair differs from one that the table leaves out. -/
theorem PairSt.flagged_ne_default (x : PairSt) (cause : Nat) :
    { x.put cause true with flagsSeen := min (x.flagsSeen + 1) 255 } ≠ ({} : PairSt) := fun h => by
  have hseen : min (x.flagsSeen + 1) 255 = 0 := congrArg PairSt.flagsSeen h
  omega

section Pairs

variable {s : State} (hrise : keysRise 0 s.adc.pairs = true) (k cause : Nat)
include hrise

/-- The cause of a pair is cleared; every other pair stays as it is. -/
theorem State.unflagPair_pair (how : Nat) : keysRise 0 (s.unflagPair k cause how).adc.pairs = true ∧
    (s.unflagPair k cause how).pair k = (s.pair k).put cause false ∧
    ∀ j, j ≠ k → (s.unflagPair k cause how).pair j = s.pair j := by
  obtain ⟨-, hpairs, -⟩ := s.unflagPair_leaves k cause how
  have hread (j : Nat) : (s.unflagPair k cause how).pair j = tget {} (s.unflagPair k cause how).adc.pairs j := rfl
  simp only [hread, hpairs]
  split
  next h => exact ⟨hrise, (PairSt.put_of_has_eq h).symm, fun _ _ => rfl⟩
  next => exact ⟨keysRise_tset hrise _ _ _, tget_tset_same hrise _ _ _, fun j hj => by
    rw [tget, tget?_tset_ne _ _ hj]; rfl⟩

/-- A pair has the cause it was flagged with; every other pair stays as it is. -/
theorem State.flagPair_pair : keysRise 0 (s.flagPair k cause).adc.pairs = true ∧
    ((s.flagPair k cause).pair k).has cause = true ∧ ∀ j, j ≠ k → (s.flagPair k cause).pair j = s.pair j := by
  obtain ⟨-, hpairs, -⟩ := s.flagPair_leaves k cause
  have hread (j : Nat) : (s.flagPair k cause).pair j = tget {} (s.flagPair k cause).adc.pairs j := rfl
  simp only [hread, hpairs]
  split
  next h => exact ⟨hrise, h, fun _ _ => rfl⟩
  next => exact ⟨keysRise_tset hrise _ _ _, by rw [tget_tset_same hrise]; exact PairSt.has_put _ _ _, fun j hj => by
    rw [tget, tget?_tset_ne _ _ hj]; rfl⟩

end Pairs

/-- A flagged pair reads back with its cause, whatever else the table lists. -/
theorem State.flagPair_ref (s : State) (k : Nat) : ((s.flagPair k 2).pair k).ref = true := by
  obtain ⟨-, hpairs, -⟩ := s.flagPair_leaves k 2
  have hread : (s.flagPair k 2).pair k = tget {} (s.flagPair k 2).adc.pairs k := rfl
  rw [hread, hpairs]
  split
  next h => exact h
  next => rw [tget_tset_of_ne_default (PairSt.flagged_ne_default _ _)]; rfl

/-- 1s written to FLAGGED clear CHECK, REFCHK and TIMEOUT of their pairs (R232). -/
theorem State.clearChecks_pair {s : State} (hrise : keysRise 0 s.adc.pairs = true) (k how : Nat) :
    keysRise 0 (s.clearChecks k how).adc.pairs = true ∧
      (s.clearChecks k how).pair k = (((s.pair k).put 1 false).put 3 false).put 4 false ∧
      ∀ j, j ≠ k → (s.clearChecks k how).pair j = s.pair j := by
  obtain ⟨hrise1, hpair1, hothers1⟩ := State.unflagPair_pair hrise k 1 how
  obtain ⟨hrise3, hpair3, hothers3⟩ := State.unflagPair_pair hrise1 k 3 how
  obtain ⟨hrise4, hpair4, hothers4⟩ := State.unflagPair_pair hrise3 k 4 how
  refine ⟨hrise4, ?_, fun j hj => (hothers4 j hj).trans ((hothers3 j hj).trans (hothers1 j hj))⟩
  exact hpair4.trans (by rw [hpair3, hpair1])

theorem pairFlagClear_clears {s : State} (hup : s.barUp = true) (hrise : keysRise 0 s.adc.pairs = true) {k : Nat}
    (hk : k < 16) : ∃ t, exec (.pairFlagClear (2 ^ k)) s = .next t ∧ (t.pair k).check = false ∧
      (t.pair k).refchk = false ∧ (t.pair k).timeout = false ∧ (t.pair k).badRun = 0 ∧
      (t.pair k).ref = (s.pair k).ref ∧ ∀ j, j ≠ k → t.pair j = s.pair j := by
  obtain ⟨hrise', hpair, hothers⟩ := State.clearChecks_pair (s := s.granted 7 2) hrise k 1
  have hexec : exec (.pairFlagClear (2 ^ k)) s = .next (((s.granted 7 2).clearChecks k 1).setPair k
      { ((s.granted 7 2).clearChecks k 1).pair k with badRun := 0 }) := by
    show execPairFlagClear (2 ^ k) s = _
    rw [execPairFlagClear, State.hostAct_of_barUp hup, State.clearFlagged, bitList_one hk]
    rfl
  have hsame : (((s.granted 7 2).clearChecks k 1).setPair k
      { ((s.granted 7 2).clearChecks k 1).pair k with badRun := 0 }).pair k =
      { ((s.granted 7 2).clearChecks k 1).pair k with badRun := 0 } := tget_tset_same hrise' _ _ _
  refine ⟨_, hexec, ?_⟩
  rw [hsame, hpair]
  refine ⟨rfl, rfl, rfl, rfl, rfl, fun j hj => ?_⟩
  rw [← show (s.granted 7 2).pair j = s.pair j from rfl, ← hothers j hj]
  exact congrArg (fun x : Option PairSt => x.getD {}) (tget?_tset_ne _ _ hj _)

/-- What FORCE does to one pair. -/
def State.forceOne (mask : Nat) (s : State) (k : Nat) : State :=
  if bitAt mask k then s.flagPair k 6 else s.unflagPair k 6 1

theorem State.forceOne_pair {s : State} (hrise : keysRise 0 s.adc.pairs = true) (mask k : Nat) :
    keysRise 0 (s.forceOne mask k).adc.pairs = true ∧ ((s.forceOne mask k).pair k).forced = bitAt mask k ∧
      ∀ j, j ≠ k → (s.forceOne mask k).pair j = s.pair j := by
  unfold State.forceOne
  split
  next h =>
    obtain ⟨hr, hhas, hothers⟩ := State.flagPair_pair hrise k 6
    exact ⟨hr, hhas.trans h.symm, hothers⟩
  next h =>
    obtain ⟨hr, hpair, hothers⟩ := State.unflagPair_pair hrise k 6 1
    exact ⟨hr, by rw [hpair, Bool.eq_false_iff.mpr h]; rfl, hothers⟩

/-- Every pair that FORCE has gone over is forced as its bit says, and so stays every pair that was before. -/
theorem State.each_forceOne_forced {s : State} (hrise : keysRise 0 s.adc.pairs = true) (mask : Nat) (l : List Nat)
    {j : Nat} (hj : j ∈ l ∨ (s.pair j).forced = bitAt mask j) :
    ((s.each l (State.forceOne mask)).pair j).forced = bitAt mask j := by
  induction l generalizing s with
  | nil => exact hj.resolve_left List.not_mem_nil
  | cons n rest ih =>
    obtain ⟨hr, hforced, hothers⟩ := State.forceOne_pair hrise mask n
    refine ih hr ?_
    by_cases hn : j = n
    · exact Or.inr (hn ▸ hforced)
    · rw [hothers j hn]
      exact hj.imp_left fun hmem => (List.mem_cons.mp hmem).resolve_left hn

theorem pairForceWrite_forces {s : State} (hup : s.barUp = true) (hrise : keysRise 0 s.adc.pairs = true) {k : Nat}
    (hk : k < 16) : ∃ t, exec (.pairForceWrite (2 ^ k)) s = .next t ∧
      ∀ j < 16, (t.pair j).forced = decide (j = k) := by
  have hexec : exec (.pairForceWrite (2 ^ k)) s = .next
      (((s.granted 7 2).setFld Reg.ADC_PAIR_FLAG_FORCE (2 ^ k)).each (List.range 16) (State.forceOne (2 ^ k))) := by
    show execPairForceWrite (2 ^ k) s = _
    rw [execPairForceWrite, State.hostAct_of_barUp hup]
    rfl
  refine ⟨_, hexec, fun j hj => ?_⟩
  rw [State.each_forceOne_forced (s := (s.granted 7 2).setFld Reg.ADC_PAIR_FLAG_FORCE (2 ^ k)) hrise (2 ^ k) _
    (Or.inl (List.mem_range.mpr hj)), bitAt_one hj hk]

end Sys2Proof.Machine
end

section
/-!
Conversions of the tail and the housekeeping values of a period (R224, R235).
-/

namespace Sys2Proof.Machine

open Sys2Proof.Stated

/-! ### Conversions of the tail (R224, R230) -/

/-- The state with one more conversion of a housekeeping channel. -/
def State.gathered (s : State) (ch r : Nat) : State :=
  { s with adc := { s.adc with hkAcc := tset [] s.adc.hkAcc ch (r :: tget [] s.adc.hkAcc ch) } }

section Tail

variable {s : State} (hcount : s.loops.counting = true) (conv : Fin 32) {slot : Nat}
include hcount

/-- A conversion of the tail at its instant. -/
theorem exec_adcConversion_tail (hslot : slot < 128) (raw : Option Nat) :
    exec (.adcConversion conv 8 slot [raw] none) s = .next (
      if s.adc.ref.ready = false then (s.waitClk (s.loops.periodAt + 15200 * 8 + 50 * slot)).flagPair (conv / 2) 2
      else (s.waitClk (s.loops.periodAt + 15200 * 8 + 50 * slot)).tailSlot conv slot raw) := by
  have hruns : ¬(s.loops.counting = false ∨ 8 > 8 ∨ 8 < 8 ∧ s.loops.sampled = false) := by simp [hcount]
  show execAdcConversion conv 8 slot [raw] none s = _
  rw [execAdcConversion, if_neg hruns]
  generalize s.loops.periodAt + 15200 * 8 + 50 * slot = t
  dsimp only
  rw [if_pos rfl, if_pos hslot]
  rfl

theorem adcConversion_gathers (hlow : 16 ≤ slot) (hhigh : slot < 48) (r : Nat) (hready : s.adc.ref.ready = true) :
    ∃ t, exec (.adcConversion conv 8 slot [some r] none) s = .next t ∧
      t.adc = (s.gathered (9728 + 4 * conv + (slot - 16) / 2 % 4) r).adc ∧
      t.clk = max s.clk (s.loops.periodAt + 121600 + 50 * slot) ∧ TimeOnly s { t with adc := s.adc } := by
  have htail (u : State) : u.tailSlot conv slot (some r) = u.gathered (9728 + 4 * conv + (slot - 16) / 2 % 4) r := by
    unfold State.tailSlot
    dsimp only
    rw [if_neg (by omega), if_pos hhigh]
    rfl
  have hleft (t ch : Nat) : ((s.waitClk t).gathered ch r).adc = (s.gathered ch r).adc ∧
      ((s.waitClk t).gathered ch r).clk = max s.clk t ∧ TimeOnly s { (s.waitClk t).gathered ch r with adc := s.adc } :=
    ⟨rfl, s.waitClk_clk t, rfl⟩
  have hexec := exec_adcConversion_tail hcount conv (by omega) (some r) (slot := slot)
  rw [hready, if_neg (by decide), htail] at hexec
  obtain ⟨hadc, hclk, htime⟩ := hleft (s.loops.periodAt + 15200 * 8 + 50 * slot) (9728 + 4 * conv + (slot - 16) / 2 % 4)
  exact ⟨_, hexec, hadc, hclk, htime⟩

theorem adcConversion_flags (hhigh : slot < 48) (r : Nat) (hready : s.adc.ref.ready = false) :
    ∃ t, exec (.adcConversion conv 8 slot [some r] none) s = .next t ∧
      (t.pair (conv / 2)).ref = true ∧ t.adc.hkAcc = s.adc.hkAcc := by
  have hexec := exec_adcConversion_tail hcount conv (by omega) (some r) (slot := slot)
  rw [if_pos hready] at hexec
  generalize s.loops.periodAt + 15200 * 8 + 50 * slot = t at hexec
  obtain ⟨hless, -⟩ := (s.waitClk t).flagPair_leaves (conv / 2) 2
  have hacc := congrArg AdcSt.hkAcc (State.adc_of_lessPairs hless)
  exact ⟨_, hexec, State.flagPair_ref _ _, hacc⟩

end Tail

/-! ### Housekeeping values (R235) -/

@[simp] theorem State.zonePublish_conduct (s : State) (z : Nat) (t : Int) : (s.zonePublish z t).conduct = s.conduct := by
  unfold State.zonePublish
  dsimp only
  split
  · exact State.raise_conduct _ _ _
  · split
    · exact State.raise_conduct _ _ _
    · rfl

@[simp] theorem State.publish_conduct (s : State) (n : Nat) : (s.publish n).conduct = s.conduct := by
  unfold State.publish
  dsimp only
  split
  · rfl
  · split
    · exact State.zonePublish_conduct _ _ _
    · rfl

/-- A channel without a conversion publishes nothing. -/
theorem State.publish_of_none {s : State} {n : Nat} (h : tget [] s.adc.hkAcc (9728 + n) = []) : s.publish n = s := by
  rw [State.publish, h]
  rfl

/-- A channel of the electrical die publishes the mean of its period. -/
theorem State.publish_of_one {s : State} {n r : Nat} {v : Int} (hn : n < 64) (h : tget [] s.adc.hkAcc (9728 + n) = [r])
    (hv : (s.correct (9728 + n) r).map Prod.snd = some v) : s.publish n = { s with adc := { s.adc with
      hk := tset {} s.adc.hk n ⟨meanInt [v], true, s.pairFlagged (hkPair n)⟩ } } := by
  have hvs : [r].filterMap (fun r => (s.correct (9728 + n) r).map Prod.snd) = [v] := by
    rw [List.filterMap_cons, hv]; rfl
  unfold State.publish
  dsimp only
  rw [h, hvs]
  exact if_neg fun hz => absurd hz.1 (by omega)

/-- Channels without a conversion publish nothing. -/
theorem State.each_publish_of_none {s : State} (l : List Nat) (h : ∀ n ∈ l, tget [] s.adc.hkAcc (9728 + n) = []) :
    s.each l State.publish = s := by
  induction l with
  | nil => rfl
  | cons n rest ih =>
    have hn := State.publish_of_none (h n List.mem_cons_self)
    show State.each (s.publish n) rest State.publish = s
    rw [hn]
    exact ih fun k hk => h k (List.mem_cons_of_mem n hk)

/-- A period with one conversion, of a channel of the electrical die: that channel is published alone. -/
theorem State.each_publish_one {s : State} {m r : Nat} {v : Int} (hm : m < 64) (hacc : s.adc.hkAcc = [(9728 + m, [r])])
    (hv : (s.correct (9728 + m) r).map Prod.snd = some v) : s.each (List.range 128) State.publish =
      { s with adc := { s.adc with hk := tset {} s.adc.hk m ⟨meanInt [v], true, s.pairFlagged (hkPair m)⟩ } } := by
  have hnone : ∀ n, n ≠ m → tget [] s.adc.hkAcc (9728 + n) = [] := fun n hn => by
    rw [hacc, tget, tget?, if_neg (by omega)]; rfl
  have hone : tget [] s.adc.hkAcc (9728 + m) = [r] := by rw [hacc, tget, tget?, if_pos rfl]; rfl
  obtain ⟨before, after, hsplit⟩ := List.append_of_mem (List.mem_range.mpr (show m < 128 by omega))
  have hnodup : (before ++ m :: after).Nodup := hsplit ▸ List.nodup_range
  obtain ⟨-, hafter, hbefore⟩ := List.nodup_append.mp hnodup
  have hbefore' : ∀ n ∈ before, n ≠ m := fun n hn => hbefore n hn m List.mem_cons_self
  have hafter' : ∀ n ∈ after, n ≠ m := fun n hn heq => (List.nodup_cons.mp hafter).1 (heq ▸ hn)
  rw [hsplit, State.each, List.foldl_append, List.foldl_cons]
  rw [show before.foldl State.publish s = s from State.each_publish_of_none before fun n hn => hnone n (hbefore' n hn),
    State.publish_of_one hm hone hv]
  exact State.each_publish_of_none after fun n hn => hnone n (hafter' n hn)

/-- The state with the conversions of a period dropped. -/
def State.dropAcc (s : State) : State := { s with adc := { s.adc with hkAcc := [] } }

theorem State.dropAcc_clk (s : State) : s.dropAcc.clk = s.clk := rfl

section Publish

variable {s : State} (hcount : s.loops.counting = true)
include hcount

theorem exec_hkPublish :
    exec .hkPublish s = .next ((s.waitClk (s.loops.periodAt + 124000)).each (List.range 128) State.publish).dropAcc := by
  show execHkPublish s = _
  rw [execHkPublish, if_neg (by rw [hcount]; exact Bool.noConfusion)]
  rfl

theorem hkPublish_ends : ∃ t, exec .hkPublish s = .next t ∧ t.adc.hkAcc = [] ∧
    t.clk = max s.clk (s.loops.periodAt + 124000) := by
  have hconduct := State.each_conduct (s.waitClk (s.loops.periodAt + 124000)) (List.range 128) State.publish_conduct
  have hclk := (State.clk_of_conduct hconduct).trans (s.waitClk_clk (s.loops.periodAt + 124000))
  exact ⟨_, exec_hkPublish hcount, rfl, (State.dropAcc_clk _).trans hclk⟩

theorem hkPublish_publishes {m r : Nat} {v : Int} (hm : m < 64) (hacc : s.adc.hkAcc = [(9728 + m, [r])])
    (hv : (s.correct (9728 + m) r).map Prod.snd = some v) : ∃ t, exec .hkPublish s = .next t ∧
      t.adc = { s.adc with
        hk := tset {} s.adc.hk m ⟨meanInt [v], true, s.pairFlagged (hkPair m)⟩
        hkAcc := [] } := by
  have hpub (t : Nat) := State.each_publish_one (s := s.waitClk t) hm hacc hv
  have hexec := exec_hkPublish hcount
  rw [hpub] at hexec
  exact ⟨_, hexec, rfl⟩

end Publish

end Sys2Proof.Machine
end

section
/-!
The statement about the converters and the reference voltages.
-/

namespace Sys2Proof.Machine

open Sys2Proof.Stated

/-! ### References (R230) -/

theorem EnableBit.flag_congr {s t : State} {f : FieldRef} (hf : EnableBit f) (h : t.regWord f.addr = s.regWord f.addr) :
    t.flag f = s.flag f := by
  rw [State.flag, State.flag, State.fld_eq_bitsOf _ f hf.reset_eq, State.fld_eq_bitsOf _ f hf.reset_eq, h]

section RefHost

variable {s : State} (hrise : keysRise 0 s.regs = true) (hup : s.barUp = true)
include hup

/-- The host may write EN in modes 1 and 2 only. -/
theorem refEnable_refused (hsafe : s.mode.mode ≠ .safe) (hcal : s.mode.mode ≠ .calibrate) :
    ∃ t, exec .refEnable s = .next t ∧ EventsOnly (s.granted 7 2) t := by
  have hmode : ¬((s.granted 7 2).mode.mode = .safe ∨ (s.granted 7 2).mode.mode = .calibrate) := by
    exact fun h => h.elim hsafe hcal
  have hexec : exec .refEnable s = .next ((s.granted 7 2).adcRange 0xB0000) := by
    show execRefEnable s = _
    rw [execRefEnable, State.hostAct_of_barUp hup]
    exact congrArg Host.Outcome.next (if_neg hmode)
  exact ⟨_, hexec, eventsOnly_of_lessEvents (State.raiseLim_lessEvents _ _ _ _)⟩

variable (hmode : s.mode.mode = .safe ∨ s.mode.mode = .calibrate)
include hmode

theorem exec_refEnable :
    exec .refEnable s = .next ((s.granted 7 2).setFld Reg.ADC_REF_CTL_EN (ofBool true)).refStart := by
  show execRefEnable s = _
  rw [execRefEnable, State.hostAct_of_barUp hup]
  exact congrArg Host.Outcome.next (if_pos hmode)

theorem exec_refDisable :
    exec .refDisable s = .next ((s.granted 7 2).setFld Reg.ADC_REF_CTL_EN (ofBool false)).refStop := by
  show execRefDisable s = _
  rw [execRefDisable, State.hostAct_of_barUp hup]
  exact congrArg Host.Outcome.next (if_pos hmode)

include hrise

theorem refEnable_starts (hoff : s.adc.ref.state = 0) : ∃ t, exec .refEnable s = .next t ∧
    t.flag Reg.ADC_REF_CTL_EN = true ∧
    t.adc.ref = { s.adc.ref with state := 1, ready := false, stopPending := false } ∧ t.adc.refAt = s.clk := by
  have hexec := exec_refEnable hup hmode
  have hflag := enableBit_references.flag_setFld (s := s.granted 7 2) hrise true
  have hstart := State.refStart_of_off (s := (s.granted 7 2).setFld Reg.ADC_REF_CTL_EN (ofBool true)) hoff
  rw [hstart] at hexec
  obtain ⟨hless, hregs⟩ := (((s.granted 7 2).setFld Reg.ADC_REF_CTL_EN (ofBool true)).withRef
    { s.adc.ref with state := 1, ready := false, stopPending := false } s.clk).refFlags_leaves
  have hadc := State.adc_of_lessPairs hless
  have href := congrArg AdcSt.ref hadc
  have hat := congrArg AdcSt.refAt hadc
  have hen := (enableBit_references.flag_congr (hregs _ (by decide))).trans hflag
  exact ⟨_, hexec, hen, href, hat⟩

theorem refDisable_stops (hon : s.adc.ref.state = 1) (hready : s.adc.ref.ready = true) : ∃ t,
    exec .refDisable s = .next t ∧ t.flag Reg.ADC_REF_CTL_EN = false ∧
      t.adc.ref = { s.adc.ref with state := 2, ready := false } := by
  have hexec := exec_refDisable hup hmode
  have hflag := enableBit_references.flag_setFld (s := s.granted 7 2) hrise false
  have hstop := State.refStop_of_ready (s := (s.granted 7 2).setFld Reg.ADC_REF_CTL_EN (ofBool false)) hon hready
  rw [hstop] at hexec
  obtain ⟨hless, hregs⟩ := (((s.granted 7 2).setFld Reg.ADC_REF_CTL_EN (ofBool false)).withRef
    { s.adc.ref with state := 2, ready := false } s.adc.refAt).refFlags_leaves
  have href := congrArg AdcSt.ref (State.adc_of_lessPairs hless)
  have hen := (enableBit_references.flag_congr (hregs _ (by decide))).trans hflag
  exact ⟨_, hexec, hen, href⟩

end RefHost

theorem State.refWindows_lessPairs (s : State) (w : Nat) : (s.refWindows w).lessPairs = s.lessPairs :=
  s.each_lessPairs _ fun _ _ => rfl

theorem State.refWindows_waitClk (s : State) (w t : Nat) : ((s.waitClk t).refWindows w).adc.ref = s.adc.ref ∧
    ((s.waitClk t).refWindows w).clk = max s.clk t := by
  have hless := (s.waitClk t).refWindows_lessPairs w
  have href := congrArg AdcSt.ref (State.adc_of_lessPairs hless)
  have hclk := (State.clk_of_conduct (State.conduct_of_lessPairs hless)).trans (s.waitClk_clk t)
  exact ⟨href, hclk⟩

/-- References that have come up, with their flags. -/
def State.refsUp (s : State) : State := (s.withRef s.adc.ref.up.1 s.adc.refAt).refFlags

theorem State.refsUp_leaves {s : State} (hon : s.adc.ref.state = 1) (hready : s.adc.ref.ready = false)
    (hstop : s.adc.ref.stopPending = false) :
    s.refsUp.adc.ref = { s.adc.ref with ready := true } ∧ s.refsUp.clk = s.clk := by
  have hup : s.adc.ref.up.1 = { s.adc.ref with ready := true } := by
    rw [FnStatus.up, if_pos ⟨hon, hready⟩, if_neg (by rw [hstop]; exact Bool.noConfusion)]
  obtain ⟨hless, -⟩ := (s.withRef s.adc.ref.up.1 s.adc.refAt).refFlags_leaves
  have href := congrArg AdcSt.ref (State.adc_of_lessPairs hless)
  have hclk := State.clk_of_conduct (State.conduct_of_lessPairs hless)
  exact ⟨href.trans hup, hclk⟩

section RefReady

variable {s : State} (hon : s.adc.ref.state = 1) (hready : s.adc.ref.ready = false) {w : Nat}
include hon hready

/-- The end of the references' start-up: READY where every buffer lies in its window. -/
theorem exec_refReady : exec (.refReady w) s = .next (
    if w % 65536 = 65535 then ((s.waitClk (s.adc.refAt + 5000000)).refWindows w).refsUp
    else (s.waitClk (s.adc.refAt + 5000000)).refWindows w) := by
  show execRefReady w s = _
  rw [execRefReady, if_neg (by omega), if_neg (by rw [hready]; exact Bool.noConfusion)]
  rfl

theorem refReady_ready (hstop : s.adc.ref.stopPending = false) (hall : w % 65536 = 65535) : ∃ t,
    exec (.refReady w) s = .next t ∧ t.adc.ref = { s.adc.ref with ready := true } ∧
      t.clk = max s.clk (s.adc.refAt + 5000000) := by
  obtain ⟨href, hclk⟩ := s.refWindows_waitClk w (s.adc.refAt + 5000000)
  obtain ⟨href', hclk'⟩ := State.refsUp_leaves (s := (s.waitClk (s.adc.refAt + 5000000)).refWindows w)
    (by rw [href]; exact hon) (by rw [href]; exact hready) (by rw [href]; exact hstop)
  rw [href] at href'
  rw [hclk] at hclk'
  exact ⟨_, (exec_refReady hon hready).trans (congrArg Host.Outcome.next (if_pos hall)), href', hclk'⟩

theorem refReady_waits (hsome : w % 65536 ≠ 65535) : ∃ t, exec (.refReady w) s = .next t ∧
    t.adc.ref = s.adc.ref ∧ t.clk = max s.clk (s.adc.refAt + 5000000) := by
  have hexec := exec_refReady hon hready (w := w)
  rw [if_neg hsome] at hexec
  exact ⟨_, hexec, s.refWindows_waitClk w _⟩

end RefReady

/-! ### Functions that have stopped (R56) -/

theorem FnStatus.down_of_stopping {f : FnStatus} (h : f.state = 2) (hstay : f.restartPending = false) :
    f.down = ({}, false) := by
  rw [FnStatus.down, if_pos h, hstay]
  rfl

theorem exec_functionStopped_adcRef {s : State} (h : s.adc.ref.state = 2) (hstay : s.adc.ref.restartPending = false) :
    exec (.functionStopped .adcRef) s = .next { s with adc := { s.adc with ref := {} } } := by
  show Host.Outcome.next s.refStopped = _
  rw [State.refStopped, FnStatus.down_of_stopping h hstay]
  rfl

theorem functionStopped_port {s : State} {p : Fin 256} (h : (s.port p).fn.state = 2)
    (hstay : (s.port p).fn.restartPending = false) : ∃ t, exec (.functionStopped (.port p)) s = .next t ∧
      t.ports = tset {} s.ports p { s.port p with fn := {} } ∧ t.mode = s.mode ∧ t.tm = s.tm := by
  obtain ⟨l, hl⟩ := (s.setPort p { s.port p with fn := {} }).eachLane_eq p (fun l => { l with
    fn := {}, sigDet := false, cdrLock := false, aligned := false, trainDone := false })
  have hexec : exec (.functionStopped (.port p)) s = .next ((s.setPort p { s.port p with fn := {} }).withLanes l) := by
    show Host.Outcome.next (s.portStopped p) = _
    rw [State.portStopped, if_pos h, hstay, ← hl]
    rfl
  exact ⟨_, hexec, rfl, rfl, rfl⟩

theorem exec_functionStopped_fabricLane {s : State} {n : Fin 256} (hfn : (s.lane (256 + n)).fn = ⟨2, false, false, false⟩)
    (hserve : (s.lane (256 + n)).serving = false) : exec (.functionStopped (.fabricLane n)) s = .next { s with
      lanes := tset {} s.lanes (256 + n) { s.lane (256 + n) with fn := {}, rxCal := false, serving := false } } := by
  have hdown : (s.lane (256 + n)).fn.down.1 = {} := by rw [hfn]; rfl
  show Host.Outcome.next (s.fabricStopped (256 + n)) = _
  rw [State.fabricStopped]
  dsimp only
  rw [if_pos (by simp [hfn, hserve]), hdown]
  rfl

/-! ### Direct conversions (R234) -/

theorem rest_of_directResult {s u : State} (hu : ({ u with regs := s.regs, bm := s.bm } : State) = s) (st raw : Nat) :
    ({ u.directResult st raw with adc := s.adc, regs := s.regs, bm := s.bm } : State) = s := by
  have hrest := congrArg (fun v : State => { v with adc := s.adc }) hu
  exact hrest

section Direct

variable {s : State} (hup : s.barUp = true) (hnone : s.adc.direct = none) (ch : Nat)
include hup hnone

/-- A request of a direct conversion, where none is in progress. -/
theorem exec_adcDirectRequest : exec (.adcDirectRequest ch) s = .next (
    if ch > 9855 then ((s.granted 7 2).setFld Reg.ADC_DIRECT_CHANNEL ch).directResult 3 0
    else if s.pwr.state ≥ 3 then ((s.granted 7 2).setFld Reg.ADC_DIRECT_CHANNEL ch).directResult 2 0
    else if s.adc.ref.ready = false then ((s.granted 7 2).setFld Reg.ADC_DIRECT_CHANNEL ch).directResult 1 0
    else { (s.granted 7 2).setFld Reg.ADC_DIRECT_CHANNEL ch with adc := { s.adc with direct := some 0 } }) := by
  have hidle : ¬(s.granted 7 2).adc.direct.isSome = true := by
    show ¬s.adc.direct.isSome = true
    rw [hnone]; exact Bool.noConfusion
  show execAdcDirectRequest ch s = _
  rw [execAdcDirectRequest, State.hostAct_of_barUp hup, State.adcDirect, if_neg hidle]
  rfl

theorem adcDirectRequest_begins (hrise : keysRise 0 s.regs = true) (hch : ch ≤ 9855) (hpwr : s.pwr.state ≤ 2)
    (hready : s.adc.ref.ready = true) : ∃ t, exec (.adcDirectRequest ch) s = .next t ∧
      t.adc = { s.adc with direct := some 0 } ∧ t.fld Reg.ADC_DIRECT_CHANNEL = ch ∧
      { t with adc := s.adc, regs := s.regs, bm := s.bm } = s := by
  have hexec := exec_adcDirectRequest hup hnone ch
  rw [if_neg (by omega), if_neg (by omega), if_neg (by rw [hready]; exact Bool.noConfusion)] at hexec
  have hfld := State.fld_setFld_low (s := s.granted 7 2) hrise (f := Reg.ADC_DIRECT_CHANNEL) rfl (by decide)
    (by decide +kernel) ch
  have hfits : ch % 2 ^ (Reg.ADC_DIRECT_CHANNEL.hi + 1) = ch := Nat.mod_eq_of_lt (show ch < 16384 by omega)
  exact ⟨_, hexec, rfl, hfld.trans hfits, rfl⟩

theorem adcDirectRequest_refused (hch : 9855 < ch) : ∃ t, exec (.adcDirectRequest ch) s = .next t ∧
    t.adc = { s.adc with directStatus := 3, directRaw := 0 } ∧
    { t with adc := s.adc, regs := s.regs, bm := s.bm } = s := by
  have hexec := exec_adcDirectRequest hup hnone ch
  rw [if_pos hch] at hexec
  have hresult (u : State) : (u.directResult 3 0).adc = { u.adc with direct := none, directRaw := 0, directStatus := 3 } :=
    rfl
  have hadc : ({ s.adc with direct := none, directRaw := 0, directStatus := 3 } : AdcSt) =
      { s.adc with directStatus := 3, directRaw := 0 } := by rw [← hnone]
  exact ⟨_, hexec, (hresult _).trans hadc, rest_of_directResult (rest_of_setFld s 7 2 _ _) 3 0⟩

end Direct

/-! ### Heaters (R238) -/

theorem State.safeHtr_congr {s t : State} (h : t.cal.img = s.cal.img) (c : Nat) : t.safeHtr c = s.safeHtr c := by
  rw [State.safeHtr, State.safeHtr, State.imgVal, State.imgVal, h]

/-- A tick moves every heater's output a step toward its target. -/
theorem State.slewTick_htrOut (s : State) (step : Nat) {c : Nat} (hc : c < 4352) :
    (s.slewTick step).htrOut c = slewStep (s.htrOut c) (s.htrTarget c) step := by
  have houts : (s.slewTick step).dac.htrOut = (allCells.map (fun k => (k, slewStep (s.htrOut k) (s.htrTarget k)
    step))).filter (fun e => e.2 != s.safeHtr e.1) := by rw [State.slewTick]
  have hcal : (s.slewTick step).cal = s.cal := by rw [State.slewTick]
  have hcode : (s.slewTick step).safeHtr c = s.safeHtr c := State.safeHtr_congr (congrArg CalSt.img hcal) c
  have hmem : c ∈ allCells := List.mem_range.mpr hc
  rw [State.htrOut, houts, hcode, tget?_filter_map _ (fun k => slewStep (s.htrOut k) (s.htrTarget k) step)]
  by_cases hsafe : slewStep (s.htrOut c) (s.htrTarget c) step = s.safeHtr c
  · rw [if_neg fun h => absurd h.2 (by simp [hsafe]), Option.getD_none, hsafe]
  · rw [if_pos ⟨hmem, bne_iff_ne.mpr hsafe⟩, Option.getD_some]

/-- The state with the slew limiter's rate given back to the registers. -/
def State.slewed (s : State) : State := { s with dac := { s.dac with maxRate := false } }

theorem State.slewed_htrOut (s : State) (c : Nat) : s.slewed.htrOut c = s.htrOut c := rfl
theorem State.slewed_clk (s : State) : s.slewed.clk = s.clk := rfl

section Heaters

variable {s : State} (hvaon : s.pins.vaon = true) (hmax : s.dac.maxRate = true)
include hvaon hmax

theorem exec_heaterSlewTick : exec .heaterSlewTick s =
      .next ((s.waitClk ((s.clk / 1000 + 1) * 1000)).slewTick 256) ∨
    exec .heaterSlewTick s = .next ((s.waitClk ((s.clk / 1000 + 1) * 1000)).slewTick 256).slewed := by
  have hrate (t : Nat) : (if (s.waitClk t).dac.maxRate = true then 256
      else min 256 ((s.waitClk t).fld Reg.DAC_HTR_SLEW_STEP)) = 256 := if_pos hmax
  show execHeaterSlewTick s = _ ∨ execHeaterSlewTick s = _
  rw [execHeaterSlewTick, if_neg (by rw [hvaon]; exact Bool.noConfusion), hmax]
  dsimp only
  rw [if_pos rfl, hrate, Nat.mul_one]
  split
  · exact Or.inr rfl
  · exact Or.inl rfl

theorem heaterSlewTick_slews : ∃ t, exec .heaterSlewTick s = .next t ∧ t.clk = (s.clk / 1000 + 1) * 1000 ∧
      (∀ c < 4352, t.htrOut c = (if s.htrOut c + 256 < s.htrTarget c then s.htrOut c + 256
        else if s.htrTarget c + 256 < s.htrOut c then s.htrOut c - 256 else s.htrTarget c)) ∧
      TimeOnly s { t with dac := s.dac } := by
  have hleft (t : Nat) : ((s.waitClk t).slewTick 256).clk = max s.clk t ∧
      (∀ c < 4352, ((s.waitClk t).slewTick 256).htrOut c = slewStep (s.htrOut c) (s.htrTarget c) 256) ∧
      TimeOnly s { (s.waitClk t).slewTick 256 with dac := s.dac } :=
    ⟨s.waitClk_clk t, fun c hc => (s.waitClk t).slewTick_htrOut 256 hc, rfl⟩
  obtain ⟨hclk, houts, htime⟩ := hleft ((s.clk / 1000 + 1) * 1000)
  have hlater : max s.clk ((s.clk / 1000 + 1) * 1000) = (s.clk / 1000 + 1) * 1000 := by omega
  rcases exec_heaterSlewTick hvaon hmax with hexec | hexec
  · exact ⟨_, hexec, hclk.trans hlater, houts, htime⟩
  · exact ⟨_, hexec, (State.slewed_clk _).trans (hclk.trans hlater), fun c hc =>
      (State.slewed_htrOut _ c).trans (houts c hc), htime⟩

end Heaters

/-- Settles O42: the host's accesses and the conversions are walks through their conditions; what a flag of a pair leaves
alone is said once (`State.flagPair_leaves`, `State.unflagPair_leaves`), and the pairs, the housekeeping values and the
heaters are read off their tables. -/
theorem convertersAndReferences : Obligations.ConvertersAndReferences := by
  unfold Obligations.ConvertersAndReferences
  intro s conv slot r ch inW p n
  refine ⟨fun hcount hlow hhigh => ⟨?_, ?_⟩, fun hcount => ⟨?_, ?_⟩, fun hcanon hup => ⟨?_, ?_⟩, fun hon hready => ⟨?_, ?_⟩,
    ?_, ?_, ?_, fun hcanon hup hnone => ⟨?_, ?_⟩, ?_, ?_⟩
  · rintro hready rfl
    exact adcConversion_gathers hcount conv hlow hhigh r hready
  · exact adcConversion_flags hcount conv hhigh r
  · exact hkPublish_ends hcount
  · exact fun m v hm hacc hv => hkPublish_publishes hcount hm hacc hv
  · obtain ⟨hrise, -⟩ := hcanon
    exact fun hmode => ⟨refEnable_starts hrise hup hmode, refDisable_stops hrise hup hmode⟩
  · exact refEnable_refused hup
  · exact refReady_ready hon hready
  · exact refReady_waits hon hready
  · exact exec_functionStopped_adcRef
  · exact functionStopped_port
  · exact exec_functionStopped_fabricLane
  · obtain ⟨hrise, -⟩ := hcanon
    exact adcDirectRequest_begins hup hnone ch hrise
  · exact fun hch _ => adcDirectRequest_refused hup hnone ch hch
  · intro hup hwf k hk
    have hrise := keysRise_of_tblWf hwf
    exact ⟨pairFlagClear_clears hup hrise hk, pairForceWrite_forces hup hrise hk⟩
  · exact heaterSlewTick_slews

end Sys2Proof.Machine
end

section
/-!
The statements about commands and register accesses that the module does not serve: commands before the start is done or
outside L0 (R45, R66), and accesses before BAR0 is reached (R64, R430).
-/

namespace Sys2Proof.Machine

open Sys2Proof.Stated

/-! ### Commands (R45, R66) -/

/-- An accepted command that is completed at once has moved nothing but the exchange. -/
theorem refused_of_accepted {s : State} {tag : CmdTag} (hr : tag.ring < s.cx.rings.length) (op st : Nat) :
    Refused s ((s.begin tag op).complete tag st) tag st := by
  have hbegun : tag.ring < (s.begin tag op).cx.rings.length := hr.trans_eq (State.setRing_rings_length _ _ _).symm
  obtain ⟨hdev, hwin⟩ := State.completeWith_answered hbegun st [] false
  rw [State.begin_devSeq hr] at hdev
  exact ⟨⟨hdev, hwin⟩, exchangeOnly_completeWith (State.begin_lessExchange s tag op) tag st [] false⟩

/-- The boot gate turns a command away with its status. -/
theorem State.serve_of_gate {s : State} {op st : Nat} (h : s.gate op = some st) (tag : CmdTag) (body : State → State) :
    s.serve tag op body = (s.begin tag op).complete tag st := by
  have hbegun : (s.begin tag op).gate op = some st := h
  rw [State.serve, hbegun]

theorem State.gate_of_not_started {s : State} {op : Nat} (hstart : s.started = false) (hop : bootCommand op = false) :
    s.gate op = some St.notStarted := by
  simp [State.gate, hop, hstart]

/-- Before the start is done CX_NOP is answered without being executed, as the gate answers the others (R445). -/
theorem exec_cxNop_of_not_started {s : State} (h : s.started = false) (tag : CmdTag) :
    exec (.cxNop tag) s = .next ((s.begin tag 0x0000).complete tag St.notStarted) := by
  have hbegun : (s.begin tag 0x0000).started = false := h
  show execCxNop tag s = _
  rw [execCxNop, hbegun]
  rfl

/-- The commands of the packet side take the course that asks for L0 (R45, R317). -/
theorem exec_of_needsL0 {i : Instr} {tag : CmdTag} {op : Nat} (h : commandOf i = some (tag, op)) (hL0 : needsL0 i = true)
    (s : State) : ∃ body, exec i s = .next (s.serveL0 tag op body) := by
  unfold needsL0 at hL0
  split at hL0
  case h_15 => cases hL0
  all_goals
    cases Option.some.inj h
    exact ⟨_, rfl⟩

/-- Every command but CX_NOP takes the common course, under its own opcode. -/
theorem exec_of_commandOf {i : Instr} {tag : CmdTag} {op : Nat} (h : commandOf i = some (tag, op)) (s : State) :
    (i = .cxNop tag ∧ op = 0x0000) ∨ ∃ body, exec i s = .next (s.serve tag op body) := by
  cases hL0 : needsL0 i with
  | true =>
    obtain ⟨body, hexec⟩ := exec_of_needsL0 h hL0 s
    exact .inr ⟨_, hexec⟩
  | false =>
    unfold commandOf at h
    split at h <;> cases h
    case h_46 => exact .inl ⟨rfl, rfl⟩
    case h_23 | h_24 | h_25 | h_26 | h_27 | h_28 | h_29 | h_30 | h_31 | h_32 | h_33 | h_34 | h_35 | h_36 => cases hL0
    all_goals exact .inr ⟨_, rfl⟩

theorem State.serveL0_of_asleep {s : State} (hs : Serves s) (hpwr : s.pwr.state ≠ 0) (tag : CmdTag) (op : Nat)
    (body : State → State) : s.serveL0 tag op body = (s.begin tag op).complete tag St.powerState := by
  rw [State.serveL0, State.serve_eq hs]
  exact if_pos hpwr

/-- Settles O57: each command is answered where the boot gate or the test for L0 stands, right after it was accepted. -/
theorem commandsNotServed : Obligations.CommandsNotServed := by
  unfold Obligations.CommandsNotServed
  intro s i tag op hcmd hrings
  have hr : tag.ring < s.cx.rings.length := by omega
  constructor
  · intro hstart hop
    refine ⟨_, ?_, refused_of_accepted hr op St.notStarted⟩
    rcases exec_of_commandOf hcmd s with ⟨rfl, rfl⟩ | ⟨body, hexec⟩
    · exact exec_cxNop_of_not_started hstart tag
    · rw [hexec, State.serve_of_gate (State.gate_of_not_started hstart hop)]
  · intro hs hpwr hL0
    obtain ⟨body, hexec⟩ := exec_of_needsL0 hcmd hL0 s
    exact ⟨_, by rw [hexec, State.serveL0_of_asleep hs hpwr], refused_of_accepted hr op St.powerState⟩

/-! ### Registers (R64, R430) -/

section Unreached

variable {s : State} (hdown : s.barUp = false)
include hdown

theorem State.hostAccess_unreached {a : Nat} (ha : a < 0x4000000) (be : Nat) (write : Bool) (f : State → State) :
    s.hostAccess a be write f = if write then s else { s with readData := 0xFFFFFFFF } := by
  rw [State.hostAccess, if_neg (by omega), if_pos hdown]

theorem State.hostAct_unreached (t : Nat) (f : State → State) : s.hostAct t f = s := by
  rw [State.hostAct, hdown, if_neg Bool.false_ne_true]

theorem State.hostRead_unreached (t : Nat) (f : State → State) : s.hostRead t f = { s with readData := 0xFFFFFFFF } := by
  rw [State.hostRead, hdown, if_neg Bool.false_ne_true]

end Unreached

/-- Settles O12: each access stops at the host port. -/
theorem unreachedRegisters : Obligations.UnreachedRegisters := by
  unfold Obligations.UnreachedRegisters
  intro s addr be v hdown haddr
  have hlost (t : Nat) (f : State → State) : next (s.hostAct t f) = .next s :=
    congrArg next (State.hostAct_unreached hdown t f)
  have hones (t : Nat) (f : State → State) : next (s.hostRead t f) = .next { s with readData := 0xFFFFFFFF } :=
    congrArg next (State.hostRead_unreached hdown t f)
  refine ⟨?_, fun upd => ?_, hones _ _, hlost _ _, hlost _ _, hlost _ _⟩
  · exact congrArg next (State.hostAccess_unreached hdown haddr be true _)
  · exact congrArg next (State.hostAccess_unreached hdown haddr be false _)

end Sys2Proof.Machine
end

section
/-!
The statements about the steps of a start: a step that passes, fails or exceeds its limit, the retry, and the end of a hold
(R61, R71, R74).
-/

namespace Sys2Proof.Machine

open Sys2Proof.Stated

/-! ### A start that can go no further -/

theorem runStart_of_fixed {s : State} (h : s.stepOnce = s) (n : Nat) : State.runStart n s = s := by
  induction n with
  | zero => rfl
  | succ n ih => rw [State.runStart, h, ih]

theorem State.stepOnce_of_stands {s : State} (h : s.startStands = true) : s.stepOnce = s := if_pos h

/-- A step for which no result has been brought goes on running. -/
theorem State.stepOnce_of_no_report {s : State} (hhold : s.holdsAt s.start.step = false)
    (hskip : s.skips s.start.step = false) (hreport : s.start.report = []) : s.stepOnce = s := by
  unfold State.stepOnce
  dsimp only
  rw [hhold, if_neg Bool.false_ne_true, hskip, if_neg Bool.false_ne_true, hreport, ite_self]

/-! ### Failures (R71) -/

theorem State.start_of_conduct {s t : State} (h : t.conduct = s.conduct) : t.start = s.start := by
  have := congrArg State.start h; exact this

/-- A failure ends the start with every laser off, counts toward its kind, is recorded, and sets the retry 100 ms later. -/
theorem State.failStart_fails (s : State) (code : Nat) : (s.failStart code).start.running = false ∧
    (s.failStart code).clk = s.clk ∧ (s.failStart code).start.retryAt = some (s.clk + 100000000) ∧
    (s.failStart code).ret.failStep = s.start.step ∧ (s.failStart code).ret.failCode = code ∧
    (s.failStart code).saf.lsrEn = 0 ∧
    (s.failStart code).ret.coldFails = if s.start.warm then s.ret.coldFails else min (s.ret.coldFails + 1) 3 := by
  have hstop : (s.safStop 2 St.preempted).toSafe.conduct = s.lasersOff.conduct := s.safStop_conduct 2 St.preempted
  have hclk : (s.safStop 2 St.preempted).toSafe.clk = s.clk := (State.clk_of_conduct hstop).trans rfl
  have hstart : (s.safStop 2 St.preempted).toSafe.start = s.start := (State.start_of_conduct hstop).trans rfl
  have hlasers : (s.safStop 2 St.preempted).toSafe.saf.lsrEn = 0 := State.lsrEn_of_conduct hstop
  unfold State.failStart
  dsimp only
  simp only [State.raise_start, State.raise_clk, State.raise_ret, State.raise_saf, hclk, hstart, hlasers]
  exact ⟨trivial, trivial, trivial, trivial, trivial, trivial, trivial⟩

/-! ### The result of a step (R61) -/

/-- The start after the time of the one result that it was brought. -/
def State.spent (s : State) (r : StepResult) : State :=
  ({ s with start := { s.start with report := [] } } : State).waitClk (s.start.stepAt + r.dur)

section Result

variable {s : State} (hgoes : s.startStands = false) (hhold : s.holdsAt s.start.step = false)
  (hskip : s.skips s.start.step = false) {r : StepResult} (hreport : s.start.report = [r])
  (hrefs : ¬(s.start.step = 6 ∧ s.refsBad = true)) (hdur : r.dur ≤ stepLimit s.start.step s.start.warm)
include hgoes hhold hskip hreport hrefs hdur

theorem State.stepOnce_fails (hcode : r.code ≠ 0) : s.stepOnce = (s.spent r).failStart r.code := by
  unfold State.stepOnce
  simp only [hgoes, hhold, hskip, hreport, Bool.false_eq_true, if_false, if_neg hrefs, if_neg (Nat.not_lt.mpr hdur),
    if_pos hcode]
  rfl

/-- Past step 16 no further step follows, and step 4 may go on to wait for a Canvas. -/
theorem State.stepOnce_passes (hcode : r.code = 0) {t : State} (hend : (s.spent r).stepEnd s.start.step = (none, t))
    (hwait : t.start.canvasWait = false) (hlast : s.start.step ≠ 16) : s.stepOnce = t.toStep (s.start.step + 1) := by
  unfold State.stepOnce
  unfold State.spent at hend
  simp only [hgoes, hhold, hskip, hreport, Bool.false_eq_true, if_false, if_neg hrefs, if_neg (Nat.not_lt.mpr hdur),
    hcode, ne_eq, not_true_eq_false, hend, hwait, hlast]

end Result

section Step1

variable {s : State} (hrun : s.start.running = true) (hgoes : s.startStands = false) (hreport : s.start.report = [])
  (hstep : s.start.step = 1) {r : StepResult} (hdur : r.dur ≤ 5000000)
include hrun hgoes hreport hstep hdur

/-- Step 1 takes the result of a START: it fails with the result's code, or step 2 begins. -/
theorem exec_start_step1 : exec (.start [r]) s = .next (State.runStart 32
    (if r.code = 0 then (s.spent r).toStep 2 else (s.spent r).failStart r.code)) := by
  obtain ⟨u, hu⟩ : ∃ u : State, u = { s with start := { s.start with report := s.start.report ++ [r] } } := ⟨_, rfl⟩
  have hspent : u.spent r = s.spent r := by rw [hu]; rfl
  have hgoes' : u.startStands = false := by rw [hu]; exact hgoes
  have hstep' : u.start.step = 1 := by rw [hu]; exact hstep
  have hreport' : u.start.report = [r] := by rw [hu, hreport]; rfl
  have hhold' : u.holdsAt u.start.step = false := by rw [hstep']; rfl
  have hskip' : u.skips u.start.step = false := by rw [hstep']; exact Bool.and_false _
  have hrefs' : ¬(u.start.step = 6 ∧ u.refsBad = true) := by rw [hstep']; exact fun h => absurd h.1 (by decide)
  have hdur' : r.dur ≤ stepLimit u.start.step u.start.warm := by rw [hstep']; exact hdur
  have hwait : (s.spent r).start.canvasWait = false := by
    simp only [State.startStands, Bool.or_eq_false_iff] at hgoes
    obtain ⟨⟨-, hwait⟩, -⟩ := hgoes
    exact hwait
  have honce : u.stepOnce = if r.code = 0 then (s.spent r).toStep 2 else (s.spent r).failStart r.code := by
    split_ifs with hcode
    · have hend : (u.spent r).stepEnd u.start.step = (none, s.spent r) := by rw [hstep', hspent]; rfl
      rw [State.stepOnce_passes hgoes' hhold' hskip' hreport' hrefs' hdur' hcode hend hwait (by omega), hstep']
    · rw [State.stepOnce_fails hgoes' hhold' hskip' hreport' hrefs' hdur' hcode, hspent]
  show execStart [r] s = _
  rw [execStart, if_pos hrun, ← hu, State.runStart, honce]
  rfl

end Step1

/-- Settles O15: step 1 takes the result; the start then stands, failed, or stays in step 2 for want of another result. -/
theorem startStepsPassOrFail : Obligations.StartStepsPassOrFail := by
  unfold Obligations.StartStepsPassOrFail
  intro s dur code hrun hgoes hreport hstep hdur
  refine ⟨?_, fun hcode => ?_⟩
  · have hfixed : ((s.spent ⟨dur, 0⟩).toStep 2).stepOnce = (s.spent ⟨dur, 0⟩).toStep 2 :=
      State.stepOnce_of_no_report rfl (Bool.and_false _) rfl
    refine ⟨_, exec_start_step1 hrun hgoes hreport hstep hdur, ?_⟩
    rw [if_pos rfl, runStart_of_fixed hfixed]
    exact ⟨hrun, rfl, rfl, State.waitClk_clk _ _, rfl, rfl, rfl⟩
  · obtain ⟨hended, hclk, hretry, hfailed, hrecorded, hlasers, hcold⟩ := (s.spent ⟨dur, code⟩).failStart_fails code
    have hfixed : ((s.spent ⟨dur, code⟩).failStart code).stepOnce = (s.spent ⟨dur, code⟩).failStart code :=
      State.stepOnce_of_stands (by simp [State.startStands, hended])
    refine ⟨_, exec_start_step1 hrun hgoes hreport hstep hdur, ?_⟩
    rw [if_neg hcode, runStart_of_fixed hfixed, hclk]
    exact ⟨hended, State.waitClk_clk _ _, hretry, hfailed.trans hstep, hrecorded, hlasers, hcold⟩

/-! ### Steps over their limit, retries and holds (R61, R71, R74) -/

theorem exec_startStepTimeout {s : State} (hgoes : s.startStands = false) (hhold : s.holdsAt s.start.step = false) :
    exec .startStepTimeout s = .next ((s.waitClk (s.start.stepAt + stepLimit s.start.step s.start.warm)).failStart
      (if s.start.step = 6 ∧ s.refsBad = true then 0x40 else 0x01)) := by
  show execStartStepTimeout s = _
  rw [execStartStepTimeout, if_neg (by simp [hgoes, hhold])]
  simp only [Bool.and_eq_true, decide_eq_true_eq]
  rfl

theorem exec_startRetry_halts {s : State} {a : Nat} (hretry : s.start.retryAt = some a) (hhalt : s.start.retryCause = none) :
    exec .startRetry s = .next { s.waitClk a with start := { s.start with retryAt := none, state := 3 } } := by
  show execStartRetry s = _
  rw [execStartRetry, hretry]
  dsimp only
  split
  next c hcause => exact nomatch hhalt.symm.trans hcause
  next => rfl

theorem exec_startRetry_begins {s : State} {a c : Nat} (hretry : s.start.retryAt = some a)
    (hcause : s.start.retryCause = some c) : exec .startRetry s = .next ((s.waitClk a).beginStart c) := by
  have hcause' : (s.waitClk a).start.retryCause = some c := hcause
  show execStartRetry s = _
  rw [execStartRetry, hretry]
  dsimp only
  rw [hcause']
  rfl

/-- The start after the end of its hold: the step that was held begins (R74). -/
def State.continued (s : State) : State :=
  { s.granted 0 2 with start :=
    { s.start with held := false, state := 0, released := s.start.step, stepAt := s.clk } }

theorem exec_startContinue {s : State} (hup : s.barUp = true) (hheld : s.start.held = true)
    (hfixed : s.continued.stepOnce = s.continued) : exec .startContinue s = .next s.continued := by
  have hheld' : (s.granted 0 2).start.held = true := hheld
  show execStartContinue s = _
  rw [execStartContinue, State.hostAct_of_barUp hup, State.continueStart, if_pos hheld']
  exact congrArg next (runStart_of_fixed hfixed 33)

end Sys2Proof.Machine
end

section
/-!
What a start and an assertion of RST_N end and reset: of the module they leave the clock, the pins, and what the retention
register tells of the last wake and of RST_N's hold (R57, R63, R68).
-/

namespace Sys2Proof.Machine

open Sys2Proof.Stated

/-! ### What is cut short -/

@[simp] theorem State.setUnit_conduct (s : State) (u : Nat) (x : CuUnit) : (s.setUnit u x).conduct = s.conduct := by
  unfold State.setUnit; split <;> rfl

theorem State.conduct_red (s : State) (x : RedSt) : ({ s with red := x } : State).conduct = s.conduct := rfl

@[simp] theorem State.endRestore_conduct (s : State) (st : Nat) : (s.endRestore st).conduct = s.conduct := by
  unfold State.endRestore
  split
  · dsimp only
    rw [State.completeOpt_conduct, State.conduct_red, State.holdMaster_conduct, State.setUnit_conduct]
  · rfl

@[simp] theorem State.endSwitching_conduct (s : State) (st : Nat) : (s.endSwitching st).conduct = s.conduct := by
  unfold State.endSwitching
  split
  · dsimp only
    rw [State.complete_conduct, State.conduct_red, State.setUnit_conduct]
  · dsimp only
    rw [State.conduct_red, State.setUnit_conduct]
  · rfl

/-- The end of the commands in progress takes the power command with it. -/
theorem State.endCommands_conduct (s : State) :
    s.endCommands.conduct = (s.withPwr { s.pwr with cmd := none }).conduct := by
  unfold State.endCommands
  dsimp only
  rw [State.each_conduct _ _ fun u r => u.setRing_conduct r _, State.each_conduct _ _ fun u t => u.complete_conduct t _ _,
    State.completeOpt_conduct]
  rfl

/-- What is cut short moves no more of the conduct than the lasers and the power command. -/
theorem State.cutShort_conduct (s : State) :
    s.cutShort.conduct = s.lasersOff.conduct.withPwr { s.pwr with cmd := none } := by
  obtain ⟨u, hu⟩ : ∃ u, u = (((s.endPendingMode St.preempted).endApply).endCalRun).dropStaged.leaveConj := ⟨_, rfl⟩
  have hended : u.lasersOff.conduct = s.lasersOff.conduct := by
    rw [hu, State.lasersOff_conduct_congr (State.leaveConj_conduct _),
      State.lasersOff_conduct_congr (State.dropStaged_conduct _), State.endCalRun_lasersOff,
      State.lasersOff_conduct_congr (State.endApply_conduct _),
      State.lasersOff_conduct_congr (State.endPendingMode_conduct s _)]
  have hstopped : ((((u.safStop 2 St.preempted).endLaserSet St.preempted).endRestore St.aborted).endSwitching
      St.aborted).conduct = s.lasersOff.conduct := by
    rw [State.endSwitching_conduct, State.endRestore_conduct, State.endLaserSet_conduct, State.safStop_conduct, hended]
  unfold State.cutShort
  dsimp only
  rw [← hu, State.endCommands_conduct, State.withPwr_conduct, hstopped, State.pwr_of_conduct hstopped]
  rfl

/-! ### What is reset -/

/-- What the resets of a start and of RST_N leave or set: the clock, the pins, the start, the last wake and RST_N's hold time;
the mode, the power state and the lasers' outputs. -/
def State.footing (s : State) : State :=
  { clk := s.clk, pins := s.pins, start := s.start, ret := { wakeSrc := s.ret.wakeSrc, rstHold := s.ret.rstHold }
    mode := { mode := s.mode.mode }, pwr := s.pwr, saf := { lsrEn := s.saf.lsrEn } }

theorem State.footing_of_conduct {s t : State} (h : t.conduct = s.conduct) : t.footing = s.footing := by
  have := congrArg State.footing h; exact this

theorem State.cutShort_footing (s : State) :
    s.cutShort.footing = (s.lasersOff.withPwr { s.pwr with cmd := none }).footing :=
  State.footing_of_conduct (s.cutShort_conduct.trans (s.lasersOff.withPwr_conduct _).symm)

theorem State.clearPackets_footing (s : State) : s.clearPackets.footing = s.footing := by
  unfold State.footing; rfl
theorem State.clearLight_footing (s : State) : s.clearLight.footing = s.footing := by
  unfold State.footing; rfl
theorem State.clearUnits_footing (s : State) (warm : Bool) : (s.clearUnits warm).footing = s.footing := by
  unfold State.footing; rfl

/-- The module as far as its reset domains: mode 0, L0. -/
def State.atBoot (s : State) : State := { s with mode := {}, pwr := {} }

theorem State.clearBlocks_footing (s : State) : s.clearBlocks.footing = s.atBoot.footing := by
  unfold State.footing State.atBoot; rfl

theorem State.atBoot_footing_congr {s t : State} (h : t.footing = s.footing) : t.atBoot.footing = s.atBoot.footing := by
  have := congrArg (fun u : State => u.atBoot) h; exact this

theorem State.resetDomains_footing (s : State) (warm : Bool) :
    (s.resetDomains warm).footing = s.lasersOff.atBoot.footing := by
  unfold State.resetDomains
  rw [State.clearBlocks_footing, State.atBoot_footing_congr (State.clearUnits_footing _ _),
    State.atBoot_footing_congr (State.clearLight_footing _), State.atBoot_footing_congr (State.clearPackets_footing _),
    State.atBoot_footing_congr s.cutShort_footing]
  rfl

theorem State.resetRegs_footing (s : State) (warm : Bool) : (s.resetRegs warm).footing = s.footing := by
  unfold State.footing; rfl
theorem State.coldBegin_footing (s : State) : s.coldBegin.footing = s.footing := by
  unfold State.footing; rfl

theorem State.recordBefore_footing (s : State) : s.recordBefore.footing = s.footing := by
  unfold State.recordBefore
  dsimp only
  split_ifs <;> rfl

theorem State.setFld_footing (s : State) (f : FieldRef) (v : Nat) : (s.setFld f v).footing = s.footing := by
  unfold State.footing; rfl

theorem State.geometryRegs_footing (s : State) : s.geometryRegs.footing = s.footing := by
  unfold State.geometryRegs
  rw [State.setFld_footing, State.setFld_footing, State.setFld_footing, State.setFld_footing]

theorem State.portQos_footing (s : State) (p : Nat) : (s.portQos p).footing = s.footing := by
  unfold State.portQos
  rw [State.setFld_footing, State.setFld_footing, State.setFld_footing, State.setFld_footing]

theorem State.each_footing {α : Type} (s : State) (l : List α) {f : State → α → State}
    (hf : ∀ u x, (f u x).footing = u.footing) : (s.each l f).footing = s.footing :=
  State.each_induction (P := fun u => u.footing = s.footing) rfl fun u x _ hu => (hf u x).trans hu

theorem State.queueRegs_footing (s : State) : s.queueRegs.footing = s.footing := by
  unfold State.queueRegs
  exact s.each_footing _ State.portQos_footing

theorem State.raise_footing (s : State) (code : Nat) (l : List (Nat × Nat)) : (s.raise code l).footing = s.footing :=
  State.footing_of_conduct (s.raise_conduct code l)

/-! ### The beginning of a start (R57, R63) -/

/-- The module as a start finds it once its domains, its registers and, on a cold start, what it retains are reset. -/
def State.startGround (s : State) (warm : Bool) : State :=
  let s1 := ((s.resetDomains warm).resetRegs warm).recordBefore
  let s2 := if warm then s1 else s1.coldBegin
  if warm ∧ s2.canvas.active.isSome then s2.geometryRegs.queueRegs else s2

/-- The start at its first step. -/
def StartSt.first (cause clk : Nat) : StartSt :=
  { running := true, warm := decide (7 ≤ cause), cause := cause, step := 1, escalated := cause == 4, stepAt := clk }

theorem State.beginStart_eq (s : State) (cause : Nat) : s.beginStart cause =
    ({ s.startGround (decide (7 ≤ cause)) with
      start := StartSt.first cause (s.startGround (decide (7 ≤ cause))).clk } : State).raise 0x0011
        [(1, 0xFF), (1, 0), (1, 8)] := rfl

theorem State.startGround_footing (s : State) (warm : Bool) :
    (s.startGround warm).footing = s.lasersOff.atBoot.footing := by
  have hreset : ((s.resetDomains warm).resetRegs warm).recordBefore.footing = s.lasersOff.atBoot.footing := by
    rw [State.recordBefore_footing, State.resetRegs_footing, State.resetDomains_footing]
  unfold State.startGround
  dsimp only
  obtain ⟨u, hu⟩ : ∃ u, u = ((s.resetDomains warm).resetRegs warm).recordBefore := ⟨_, rfl⟩
  rw [← hu] at hreset ⊢
  cases warm with
  | false => exact u.coldBegin_footing.trans hreset
  | true =>
    by_cases hactive : true = true ∧ u.canvas.active.isSome = true
    · rw [if_pos rfl, if_pos hactive, State.queueRegs_footing, State.geometryRegs_footing, hreset]
    · rw [if_pos rfl, if_neg hactive, hreset]

/-- A cold start has no Canvas in force and nothing retained (R41, R60). -/
theorem State.startGround_cold (s : State) : (s.startGround false).canvas.active = none ∧ (s.startGround false).store = {} := by
  unfold State.startGround
  exact ⟨rfl, rfl⟩

/-- A start begins from its cause, whatever came before it. -/
theorem State.beginStart_begun (s : State) (cause : Nat) : StartBegun (s.beginStart cause) cause := by
  have hground := s.startGround_footing (decide (7 ≤ cause))
  have hmode := congrArg (fun u : State => u.mode.mode) hground
  have hpwr := congrArg (fun u : State => u.pwr.state) hground
  have hlasers := congrArg (fun u : State => u.saf.lsrEn) hground
  rw [State.beginStart_eq, StartBegun]
  simp only [State.raise_start, State.raise_mode, State.raise_pwr, State.raise_saf, State.raise_canvas, State.raise_store]
  refine ⟨rfl, rfl, rfl, rfl, hmode, hpwr, hlasers, fun hcold => ?_⟩
  rw [decide_eq_false (Nat.not_le.mpr hcold)]
  exact s.startGround_cold

/-- What a start leaves: the clock, the pins, the last wake and RST_N's hold time. -/
theorem State.beginStart_leaves (s : State) (cause : Nat) : (s.beginStart cause).clk = s.clk ∧
    (s.beginStart cause).pins = s.pins ∧ (s.beginStart cause).ret.wakeSrc = s.ret.wakeSrc ∧
    (s.beginStart cause).ret.rstHold = s.ret.rstHold := by
  have hground := s.startGround_footing (decide (7 ≤ cause))
  have hclk := congrArg (fun u : State => u.clk) hground
  have hpins := congrArg (fun u : State => u.pins) hground
  have hwake := congrArg (fun u : State => u.ret.wakeSrc) hground
  have hhold := congrArg (fun u : State => u.ret.rstHold) hground
  rw [State.beginStart_eq]
  simp only [State.raise_clk, State.raise_pins, State.raise_ret]
  exact ⟨hclk, hpins, hwake, hhold⟩

end Sys2Proof.Machine
end

section
/-!
The statements about the end of a step over its limit, the retry and the hold, and about what begins a start (R57, R61, R69,
R71, R74).
-/

namespace Sys2Proof.Machine

open Sys2Proof.Stated

/-- Settles O16: the failure is that of every step, the retry begins a start or halts the module, and a hold that ends leaves
the start in its step, for which no result has come. -/
theorem startTimeoutRetryAndContinue : Obligations.StartTimeoutRetryAndContinue := by
  unfold Obligations.StartTimeoutRetryAndContinue
  intro s
  refine ⟨fun hgoes hhold => ?_, fun a hretry hhalt => ?_, fun a c hretry hcause => ?_,
    fun hup hheld hreport hstep hrun hwait hfree => ?_⟩
  · obtain ⟨hended, hclk, hretry, hfailed, hrecorded, -, -⟩ :=
      (s.waitClk (s.start.stepAt + stepLimit s.start.step s.start.warm)).failStart_fails
        (if s.start.step = 6 ∧ s.refsBad = true then 0x40 else 0x01)
    refine ⟨_, exec_startStepTimeout hgoes hhold, ?_⟩
    rw [hclk]
    exact ⟨hended, hfailed, hrecorded, State.waitClk_clk _ _, hretry⟩
  · exact ⟨_, exec_startRetry_halts hretry hhalt, rfl, rfl, State.waitClk_clk _ _, rfl, rfl⟩
  · obtain ⟨hclk, -, -, -⟩ := (s.waitClk a).beginStart_leaves c
    exact ⟨_, exec_startRetry_begins hretry hcause, State.beginStart_begun _ _, hclk.trans (State.waitClk_clk _ _)⟩
  · have hhold : s.continued.holdsAt s.continued.start.step = false := by simp [State.holdsAt, State.continued]
    have hskip : s.continued.skips s.continued.start.step = false := by simp [State.skips, State.continued, hstep]
    have hfixed : s.continued.stepOnce = s.continued := State.stepOnce_of_no_report hhold hskip hreport
    exact ⟨_, exec_startContinue hup hheld hfixed, rfl, rfl, hstep, hstep, hrun, rfl⟩

/-! ### Supplies, wakes and RESET_MODULE (R49, R57, R59) -/

/-- The state with other filters at its inputs. -/
def State.withFilters (s : State) (l : List Filter) : State := { s with pins := { s.pins with filters := l } }

theorem State.freshFilters_eq (s : State) (first n : Nat) : ∃ l, s.freshFilters first n = s.withFilters l := by
  refine State.each_induction (P := fun u => ∃ l, u = s.withFilters l) ⟨s.pins.filters, rfl⟩ ?_
  rintro u i - ⟨l, rfl⟩
  exact ⟨lset l (first + i) ((s.withFilters l).freshFilter (first + i)), rfl⟩

theorem exec_vaonRise {s : State} (hoff : s.pins.vaon = false) (hrails : s.pins.rails = false) :
    ∃ u : State, exec .vaonRise s = .next (u.beginStart 0) ∧ u.pins.vaon = true := by
  obtain ⟨l, hl⟩ := State.freshFilters_eq { s with pins := { s.pins with vaon := true } } 0 14
  have hrails' : (State.freshFilters { s with pins := { s.pins with vaon := true } } 0 14).pins.rails = false := by
    rw [hl]; exact hrails
  refine ⟨State.freshFilters { s with pins := { s.pins with vaon := true } } 0 14, ?_, by rw [hl]; rfl⟩
  show execVaonRise s = _
  rw [execVaonRise, hoff, if_neg Bool.false_ne_true]
  dsimp only
  rw [hrails', if_neg Bool.false_ne_true]
  rfl

/-- The supplies as a rise of the main rails finds them: a power cycle, after which no halt and no assertion of RST_N
stands (R72). -/
def State.powerCycled (s : State) : State :=
  let s1 := if s.start.state = 3 then s.clearFails else s
  { s1 with
    pins := { s1.pins with rails := true, vhtr := true, rstAt := none, jtag := 1, extest := false }
    ret := { s1.ret with wakeSrc := 5 } }

theorem exec_mainRailsRise {s : State} (hon : s.pins.vaon = true) :
    exec .mainRailsRise s = .next ((s.powerCycled.freshFilters 9 5).beginStart 1) := by
  show execMainRailsRise s = _
  rw [execMainRailsRise, hon, if_neg (by decide)]
  rfl

/-- RESET_MODULE is a boot command: the gate lets it through in every state (R66). -/
theorem exec_resetModule {s : State} (tag : CmdTag) {kind : Nat} (hkind : kind ≤ 1) (hhalt : s.start.state ≠ 3) :
    ∃ u : State, exec (.resetModule tag kind) s = .next (u.beginStart (if kind = 1 then 9 else 3)) := by
  have hhalt' : ((s.begin tag 0x0003).complete tag St.ok).start.state ≠ 3 := by
    rw [State.complete_start, State.begin_start]; exact hhalt
  refine ⟨(s.begin tag 0x0003).complete tag St.ok, ?_⟩
  show execResetModule tag kind s = _
  rw [execResetModule, State.serve, show (s.begin tag 0x0003).gate 0x0003 = none from rfl]
  dsimp only
  rw [if_neg (by omega), if_neg hhalt']
  rfl

/-- The state after a wake event as GEN_WAKE tells it. -/
def State.wokenBy (s : State) (src : Nat) : State := { s with ret := { s.ret with wakeSrc := src } }

/-- Outside a thermal shut-down a wake begins a start, warm from L4, cold from L5 (R49). -/
theorem State.wake_begins {s : State} (hcool : s.ret.thermalL5 = false) (src : Nat) :
    s.wake src = (s.wokenBy src).beginStart (if s.pwr.state = 4 then 8 else 2) := by
  rw [State.wake, if_neg (by simp [hcool])]
  simp only [decide_eq_true_eq]
  rfl

section Wake

variable {s : State} (hvaon : s.pins.vaon = true) (hrails : s.pins.rails = true) (hpwr : 4 ≤ s.pwr.state)
include hvaon hrails hpwr

theorem exec_smbusWake : exec (.smbusWake 0xA5) s = .next (s.wake 2) := by
  show execSmbusWake 0xA5 s = _
  rw [execSmbusWake, if_neg (by simp [hvaon, hrails, hpwr])]
  rfl

theorem exec_perstNDeassert_wakes (hperst : s.cx.perst = true) :
    exec .perstNDeassert s = .next (State.wake { s with cx := { s.cx with perst := false } } 3) := by
  show execPerstNDeassert s = _
  rw [execPerstNDeassert, hperst, if_neg (by decide)]
  dsimp only
  rw [hvaon, hrails, if_neg (by decide), if_pos hpwr]
  rfl

end Wake

/-! ### RST_N's release (R69) -/

theorem State.dacRelease_leaves (s : State) : s.dacRelease.clk = s.clk ∧ s.dacRelease.pins = s.pins ∧
    s.dacRelease.start = s.start := by
  unfold State.dacRelease
  split <;> exact ⟨rfl, rfl, rfl⟩

/-- An accepted edge changes the input's filter alone. -/
theorem State.edge_accepted {s : State} {n held : Nat} {active : Bool} (h : (s.edge n active held).1 = .accepted) :
    ∃ f, s.edge n active held = (.accepted, s.setFilter n f) := by
  unfold State.edge at h ⊢
  dsimp only at h ⊢
  split_ifs at h ⊢
  exact ⟨_, rfl⟩

/-- What the retention register and the pins tell of an assertion of RST_N that began at `a`, once it has ended. -/
def State.holdRecorded (s : State) (a : Nat) : State :=
  let long := decide (s.clk - a > 10000000000)
  { s with
    pins := { s.pins with rstAt := none }
    ret := { s.ret with
      rstHold := min ((s.clk - a) / 10000000) 0xFFFF, rstStuck := s.ret.rstStuck || long
      stuckPending := s.ret.stuckPending || long, wakeSrc := 4 } }

/-- A release from an awake state begins a start. -/
theorem State.resetReleased_begins {s : State} {a : Nat} (hat : s.pins.rstAt = some a) (hhalt : s.start.state ≠ 3)
    (hrails : s.pins.rails = true) (hpwr : s.pins.rstPower ≤ 3) :
    s.resetReleased = (s.dacRelease.holdRecorded a).beginStart 7 := by
  obtain ⟨-, hpins, hstart⟩ := s.dacRelease_leaves
  rw [← hpins] at hat hrails hpwr
  rw [← hstart] at hhalt
  rw [State.resetReleased]
  dsimp only
  rw [hat]
  dsimp only
  rw [if_neg (by simp [hhalt, hrails]), if_neg (by omega)]
  rfl

theorem exec_rstNRelease {s : State} {held : Nat} (hvaon : s.pins.vaon = true)
    (hedge : (s.edge 8 false held).1 = .accepted) : ∃ f, exec (.rstNRelease held) s =
      .next (((s.setFilter 8 f).elapse (s.minPw 8)).resetReleased) := by
  obtain ⟨f, hf⟩ := State.edge_accepted hedge
  refine ⟨f, ?_⟩
  show execRstNRelease held s = _
  rw [execRstNRelease, hvaon, if_neg (by decide), hf]
  rfl

/-- Settles O17: each cause comes to the beginning of a start, which leaves what is told of the wake and of the hold. -/
theorem startCauses : Obligations.StartCauses := by
  unfold Obligations.StartCauses
  intro s tag held
  refine ⟨fun hoff hrails => ?_, fun hvaon => ?_, fun kind hkind hhalt => ?_, fun hvaon hrails hcool hpwr => ?_,
    fun hvaon hrails hcool hpwr hperst => ?_, fun a hvaon hrails hedge hat hhalt hpwr => ?_⟩
  · obtain ⟨u, hexec, hpins⟩ := exec_vaonRise hoff hrails
    obtain ⟨-, hleft, -, -⟩ := u.beginStart_leaves 0
    exact ⟨_, hexec, u.beginStart_begun 0, by rw [hleft, hpins]⟩
  · obtain ⟨-, hpins, hsrc, -⟩ := (s.powerCycled.freshFilters 9 5).beginStart_leaves 1
    obtain ⟨l, hl⟩ := s.powerCycled.freshFilters_eq 9 5
    refine ⟨_, exec_mainRailsRise hvaon, State.beginStart_begun _ 1, ?_, ?_⟩
    · rw [hpins, hl]; rfl
    · rw [hsrc, hl]; rfl
  · obtain ⟨u, hexec⟩ := exec_resetModule tag hkind hhalt
    exact ⟨_, hexec, u.beginStart_begun _⟩
  · obtain ⟨-, -, hsrc, -⟩ := (s.wokenBy 2).beginStart_leaves (if s.pwr.state = 4 then 8 else 2)
    exact ⟨_, (exec_smbusWake hvaon hrails hpwr).trans (congrArg _ (State.wake_begins hcool 2)),
      State.beginStart_begun _ _, hsrc⟩
  · have hwakes := State.wake_begins (s := { s with cx := { s.cx with perst := false } }) hcool 3
    obtain ⟨-, -, hsrc, -⟩ := (State.wokenBy { s with cx := { s.cx with perst := false } } 3).beginStart_leaves
      (if s.pwr.state = 4 then 8 else 2)
    exact ⟨_, (exec_perstNDeassert_wakes hvaon hrails hpwr hperst).trans (congrArg _ hwakes),
      State.beginStart_begun _ _, hsrc⟩
  · obtain ⟨f, hexec⟩ := exec_rstNRelease hvaon hedge
    obtain ⟨u, hu⟩ : ∃ u, u = (s.setFilter 8 f).elapse (s.minPw 8) := ⟨_, rfl⟩
    have hbegins : u.resetReleased = (u.dacRelease.holdRecorded a).beginStart 7 := by
      rw [hu]; exact State.resetReleased_begins hat hhalt hrails hpwr
    have hclk : u.dacRelease.clk = s.clk + s.minPw 8 := by
      obtain ⟨hkept, -, -⟩ := u.dacRelease_leaves
      rw [hkept, hu]; rfl
    obtain ⟨-, hpins, hsrc, hhold⟩ := (u.dacRelease.holdRecorded a).beginStart_leaves 7
    refine ⟨_, hexec.trans (congrArg _ (hu ▸ hbegins)), State.beginStart_begun _ 7, hsrc, hhold.trans ?_, by rw [hpins]; rfl⟩
    rw [← hclk]
    rfl

end Sys2Proof.Machine
end

section
/-!
The enables that a link down clears, and what a bit cleared in the register store leaves of them (R70, R430).
-/

namespace Sys2Proof.Machine

open Sys2Proof.Stated

/-- An enable of the exchange: bit 0 or 1 of its register, clear at reset, outside the registers that count errors. -/
structure LinkBit (f : FieldRef) : Prop where
  lo_le : f.lo ≤ 1
  hi_eq : f.hi = f.lo
  reset_eq : bitsOf (resetWord f.addr).toNat f.hi f.lo = f.reset
  not_cxErr : f.addr ≠ 0x1000C
  not_bmErr : f.addr ≠ 0x20100

/-- CX_RINGn_CTL. -/
def ringCtlReg : RegDesc :=
  ⟨0x10100, 64, 16, 0, 1,
    [⟨0, 0, .rw, true, fun _ => 0⟩, ⟨1, 1, .w1s, false, fun _ => 0⟩, ⟨13, 8, .rw, true, fun i => i⟩,
     ⟨23, 16, .rw, true, fun _ => 0⟩, ⟨31, 24, .rw, true, fun _ => 0⟩]⟩

/-- CX_FQn_CTL. -/
def queueCtlReg : RegDesc :=
  ⟨0x11000, 64, 8, 0, 1,
    [⟨0, 0, .rw, true, fun _ => 0⟩, ⟨1, 1, .rw, true, fun _ => 0⟩, ⟨13, 8, .rw, true, fun i => 24 + i⟩,
     ⟨21, 16, .rw, true, fun i => 32 + i⟩, ⟨29, 22, .rw, true, fun _ => 0⟩]⟩

theorem linkBit_ring {r : Nat} (hr : r < 16) : LinkBit (Reg.CX_RING_CTL_EN r) := by
  have hat : regAt (0x10100 + 0x40 * r) = some (ringCtlReg, r) :=
    regAt_repeat (k := 19) (d := ringCtlReg) rfl (by decide +kernel) rfl (by decide) (by decide) hr
  have hzero : ∀ i < 16, bitsOf (BitVec.ofNat 32 (resetOf i ringCtlReg.fields)).toNat 0 0 = 0 := by decide
  refine ⟨Nat.zero_le 1, rfl, ?_, ?_, ?_⟩
  · show bitsOf (resetWord (0x10100 + 0x40 * r)).toNat 0 0 = 0
    rw [resetWord_of_regAt hat]
    exact hzero r hr
  · show 0x10100 + 0x40 * r ≠ 0x1000C
    omega
  · show 0x10100 + 0x40 * r ≠ 0x20100
    omega

theorem resetWord_queueCtl {q : Nat} (hq : q < 8) :
    resetWord (0x11000 + 0x40 * q) = BitVec.ofNat 32 (resetOf q queueCtlReg.fields) :=
  resetWord_of_regAt
    (regAt_repeat (k := 33) (d := queueCtlReg) rfl (by decide +kernel) rfl (by decide) (by decide) hq)

theorem linkBit_txQueue {q : Nat} (hq : q < 8) : LinkBit (Reg.CX_FQ_CTL_TX_EN q) := by
  have hzero : ∀ i < 8, bitsOf (BitVec.ofNat 32 (resetOf i queueCtlReg.fields)).toNat 0 0 = 0 := by decide
  refine ⟨Nat.zero_le 1, rfl, ?_, ?_, ?_⟩
  · show bitsOf (resetWord (0x11000 + 0x40 * q)).toNat 0 0 = 0
    rw [resetWord_queueCtl hq]
    exact hzero q hq
  · show 0x11000 + 0x40 * q ≠ 0x1000C
    omega
  · show 0x11000 + 0x40 * q ≠ 0x20100
    omega

theorem linkBit_rxQueue {q : Nat} (hq : q < 8) : LinkBit (Reg.CX_FQ_CTL_RX_EN q) := by
  have hzero : ∀ i < 8, bitsOf (BitVec.ofNat 32 (resetOf i queueCtlReg.fields)).toNat 1 1 = 0 := by decide
  obtain ⟨-, -, -, hcx, hbm⟩ := linkBit_txQueue hq
  refine ⟨le_refl 1, rfl, ?_, hcx, hbm⟩
  show bitsOf (resetWord (0x11000 + 0x40 * q)).toNat 1 1 = 0
  rw [resetWord_queueCtl hq]
  exact hzero q hq

/-! ### A bit cleared -/

theorem putBits_zero_le (n hi lo : Nat) : putBits n hi lo 0 ≤ n := by
  simp [putBits]

theorem bitAt_putBits_zero (n : Nat) {j k : Nat} (hj : j ≤ 1) (hk : k ≤ 1) :
    bitAt (putBits n j j 0) k = (decide (k ≠ j) && bitAt n k) := by
  rw [Bool.eq_iff_iff]
  simp only [bitAt, putBits, bitsOf, beq_iff_eq, Bool.and_eq_true, decide_eq_true_eq]
  interval_cases j <;> interval_cases k <;> omega

namespace LinkBit

variable {s : State} {f g : FieldRef} (hf : LinkBit f)
include hf

theorem flag_eq (s : State) : s.flag f = bitAt (s.regWord f.addr).toNat f.lo := by
  have hwidth : f.lo + 1 - f.lo = 1 := by omega
  rw [State.flag, State.fld_eq_bitsOf s f hf.reset_eq, hf.hi_eq, bitsOf, bitAt, hwidth, pow_one]
  rcases Nat.mod_two_eq_zero_or_one ((s.regWord f.addr).toNat / 2 ^ f.lo) with h | h <;> rw [h] <;> rfl

/-- The enable reads the same where its register's word is the same. -/
theorem flag_congr {t : State} (h : t.regWord f.addr = s.regWord f.addr) : t.flag f = s.flag f := by
  rw [hf.flag_eq, hf.flag_eq, h]

/-- Clearing an enable clears it, and sets no other one. -/
theorem flag_setFld_zero (hrise : keysRise 0 s.regs = true) (hg : LinkBit g) :
    (s.setFld g 0).flag f = (decide (f.addr = g.addr → f.lo ≠ g.lo) && s.flag f) := by
  by_cases haddr : f.addr = g.addr
  · have hlt : putBits (s.regWord g.addr).toNat g.lo g.lo 0 < 2 ^ 32 :=
      (putBits_zero_le _ _ _).trans_lt (s.regWord g.addr).isLt
    rw [hf.flag_eq, hf.flag_eq, haddr, State.setFld, State.regWord_setRegWord_same hrise, BitVec.toNat_ofNat, hg.hi_eq,
      Nat.mod_eq_of_lt hlt, bitAt_putBits_zero _ hg.lo_le hf.lo_le]
    simp
  · rw [State.setFld, hf.flag_congr (s.regWord_setRegWord_ne haddr _), decide_eq_true (fun h => absurd h haddr), Bool.true_and]

end LinkBit

/-- An enable that is clear, in a register store in its order. -/
def LinkOff (f : FieldRef) (s : State) : Prop := keysRise 0 s.regs = true ∧ s.flag f = false

theorem LinkBit.off_setFld_same {s : State} {f : FieldRef} (hf : LinkBit f) (hrise : keysRise 0 s.regs = true) :
    LinkOff f (s.setFld f 0) :=
  ⟨State.keysRise_setRegWord hrise _ _, by rw [hf.flag_setFld_zero hrise hf]; simp⟩

theorem LinkBit.off_setFld {s : State} {f g : FieldRef} (hf : LinkBit f) (hg : LinkBit g) (hoff : LinkOff f s) :
    LinkOff f (s.setFld g 0) := by
  obtain ⟨hrise, hclear⟩ := hoff
  exact ⟨State.keysRise_setRegWord hrise _ _, by rw [hf.flag_setFld_zero hrise hg, hclear, Bool.and_false]⟩

/-- A fold one of whose steps brings about what every step keeps. -/
theorem State.each_establishes {α : Type} {P Q : State → Prop} {f : State → α → State} {x : α} {l : List α} (hx : x ∈ l)
    (hQ : ∀ u y, Q u → Q (f u y)) (hset : ∀ u, Q u → P (f u x)) (hkeep : ∀ u, ∀ y ∈ l, P u → P (f u y)) {s : State}
    (hs : Q s) : P (s.each l f) := by
  obtain ⟨before, after, rfl⟩ := List.append_of_mem hx
  have hbefore : Q (s.each before f) := State.each_induction hs fun u y _ hu => hQ u y hu
  have hsplit : s.each (before ++ x :: after) f = (f (s.each before f) x).each after f := by
    simp only [State.each, List.foldl_append, List.foldl_cons]
  rw [hsplit]
  exact State.each_induction (hset _ hbefore) fun u y hy => hkeep u y (by simp [hy])

end Sys2Proof.Machine
end

section
/-!
The host link as it goes down: the enables are cleared, the endpoint is reset, and nothing else of the module moves (R70,
R427, R430).
-/

namespace Sys2Proof.Machine

open Sys2Proof.Stated

/-! ### What an event and a reset of a bus master leave of the exchange -/

/-- The exchange without what an event changes: its series, the vectors and their coalescing. -/
def CxSt.lessSeries (x : CxSt) : CxSt := { x with evtSeq := 0, coal := [], msix := [] }

theorem CxSt.link_of_lessSeries {x y : CxSt} (h : x.lessSeries = y.lessSeries) : x.linkUp = y.linkUp ∧
    x.busMaster = y.busMaster ∧ x.perst = y.perst ∧ x.rings = y.rings := by
  have hup := congrArg CxSt.linkUp h
  have hmaster := congrArg CxSt.busMaster h
  have hperst := congrArg CxSt.perst h
  have hrings := congrArg CxSt.rings h
  exact ⟨hup, hmaster, hperst, hrings⟩

theorem State.coalesce_lessSeries (s : State) (src : Nat) : (s.coalesce src).cx.lessSeries = s.cx.lessSeries := by
  unfold State.coalesce; dsimp only; split_ifs <;> rfl

theorem State.postEvt_lessSeries (s : State) (code fl : Nat) (d : Bytes) :
    (s.postEvt code fl d).cx.lessSeries = s.cx.lessSeries := by
  unfold State.postEvt
  dsimp only
  rw [apply_ite State.cx, ite_self, apply_ite State.cx, apply_ite CxSt.lessSeries, State.coalesce_lessSeries,
    State.hostWrite_cx, State.bump_cx, ite_self]
  split_ifs
  · rw [State.logPages_cx]; rfl
  · rw [State.count_cx]; rfl

theorem State.raise_lessSeries (s : State) (code : Nat) (l : List (Nat × Nat)) :
    (s.raise code l).cx.lessSeries = s.cx.lessSeries := by
  unfold State.raise
  dsimp only
  split_ifs <;> simp only [State.postEvt_lessSeries]

/-- The module without what the loss of the host link changes. -/
def State.lessEndpoint (s : State) : State := { s.lessEvents with bm := {} }

theorem State.lessEndpoint_of_lessEvents {s t : State} (h : t.lessEvents = s.lessEvents) :
    t.lessEndpoint = s.lessEndpoint := by
  rw [State.lessEndpoint, State.lessEndpoint, h]

section Reads

variable {s t : State} (h : t.lessEndpoint = s.lessEndpoint)
include h

theorem State.mode_of_lessEndpoint : t.mode = s.mode := by have := congrArg State.mode h; exact this
theorem State.tm_of_lessEndpoint : t.tm = s.tm := by have := congrArg State.tm h; exact this
theorem State.dac_of_lessEndpoint : t.dac = s.dac := by have := congrArg State.dac h; exact this

end Reads

/-- The state with another bus matrix. -/
def State.withBm (s : State) (x : BmSt) : State := { s with bm := x }

/-- A master's reset changes the bus matrix, counts, and is told (R462). -/
theorem State.resetMaster_eq (s : State) (m : Nat) : ∃ x items, s.resetMaster m none =
    ((s.withBm x).bump Reg.BM_ERR_RESETS 1).raise 0x0203 items := by
  have hlocks (l : List Nat) : ∃ x, s.each l State.unlockTarget = s.withBm x := by
    refine State.each_induction (P := fun u => ∃ x, u = s.withBm x) ⟨s.bm, rfl⟩ ?_
    rintro u t - ⟨x, rfl⟩
    exact ⟨_, rfl⟩
  unfold State.resetMaster
  dsimp only
  choose x hx using hlocks
  rw [hx]
  exact ⟨_, _, rfl⟩

theorem State.holdMaster_leaves (s : State) (m : Nat) : (s.holdMaster m).lessEndpoint = s.lessEndpoint ∧
    (s.holdMaster m).cx.lessSeries = s.cx.lessSeries ∧
    ∀ a, a ≠ 0x1000C → a ≠ 0x20100 → (s.holdMaster m).regWord a = s.regWord a := by
  unfold State.holdMaster
  split
  · exact ⟨rfl, rfl, fun _ _ _ => rfl⟩
  · obtain ⟨x, items, hx⟩ := s.resetMaster_eq m
    rw [hx]
    refine ⟨(State.lessEndpoint_of_lessEvents (State.raise_lessEvents _ _ _)).trans rfl, State.raise_lessSeries _ _ _,
      fun a hcx hbm => ?_⟩
    rw [State.raise_regWord _ _ _ hcx]
    exact State.regWord_setRegWord_ne _ hbm _

/-! ### The link down -/

/-- The state with a ring, or both directions of a frame queue, disabled. -/
def State.ringOff (s : State) (r : Nat) : State := s.setFld (Reg.CX_RING_CTL_EN r) 0
def State.queueOff (s : State) (q : Nat) : State :=
  (s.setFld (Reg.CX_FQ_CTL_TX_EN q) 0).setFld (Reg.CX_FQ_CTL_RX_EN q) 0

/-- The state with every ring and frame queue disabled (R430). -/
def State.enablesCleared (s : State) : State :=
  (s.each (List.range 16) State.ringOff).each (List.range 8) State.queueOff

/-- The exchange after a reset of the endpoint. -/
def CxSt.linkDown (x : CxSt) : CxSt :=
  { x with
    linkUp := false, busMaster := false, d3hot := false, msix := List.replicate 64 {}, coal := []
    fqTx := x.fqTx.map (fun (d : FqDir) => { d with descs := [] })
    fqRx := x.fqRx.map (fun (d : FqDir) => { d with descs := [] }) }

/-- The module as the endpoint is reset, before its masters are. -/
def State.endpointReset (s : State) : State := { s.enablesCleared with cx := s.enablesCleared.cx.linkDown }

theorem State.endpointReset_regs (s : State) : s.endpointReset.regs = s.enablesCleared.regs := by
  rw [State.endpointReset]

theorem State.hostLinkLost_eq (s : State) : s.linkLost_ = ((s.endpointReset.holdMaster 2).holdMaster 3).holdMaster 4 := rfl

/-- The state with another register store. -/
def State.withRegs (s : State) (x : Tbl Word) : State := { s with regs := x }

theorem State.each_withRegs {α : Type} {s : State} {l : List α} {f : State → α → State}
    (hf : ∀ u x, ∃ r, f u x = u.withRegs r) : ∃ r, s.each l f = s.withRegs r := by
  refine State.each_induction (P := fun u => ∃ r, u = s.withRegs r) ⟨s.regs, rfl⟩ ?_
  rintro u x - ⟨r, rfl⟩
  obtain ⟨r', hr'⟩ := hf (s.withRegs r) x
  exact ⟨r', hr'⟩

theorem State.enablesCleared_eq (s : State) : ∃ r, s.enablesCleared = s.withRegs r := by
  obtain ⟨r, hr⟩ := State.each_withRegs (s := s) (l := List.range 16) (f := State.ringOff) fun _ _ => ⟨_, rfl⟩
  rw [State.enablesCleared, hr]
  exact State.each_withRegs fun _ _ => ⟨_, rfl⟩

/-- What a link down leaves alone: all but the register store, the bus matrix, and the exchange. -/
theorem State.hostLinkLost_lessEndpoint (s : State) : s.linkLost_.lessEndpoint = s.lessEndpoint := by
  obtain ⟨h4, -, -⟩ := ((s.endpointReset.holdMaster 2).holdMaster 3).holdMaster_leaves 4
  obtain ⟨h3, -, -⟩ := (s.endpointReset.holdMaster 2).holdMaster_leaves 3
  obtain ⟨h2, -, -⟩ := s.endpointReset.holdMaster_leaves 2
  obtain ⟨r, hr⟩ := s.enablesCleared_eq
  rw [State.hostLinkLost_eq, h4, h3, h2, State.endpointReset, hr]
  rfl

/-- Of the exchange, a link down leaves the rings, and lets the link, its master enable and D3hot go. -/
theorem State.hostLinkLost_lessSeries (s : State) : s.linkLost_.cx.lessSeries = s.cx.linkDown.lessSeries := by
  obtain ⟨-, h4, -⟩ := ((s.endpointReset.holdMaster 2).holdMaster 3).holdMaster_leaves 4
  obtain ⟨-, h3, -⟩ := (s.endpointReset.holdMaster 2).holdMaster_leaves 3
  obtain ⟨-, h2, -⟩ := s.endpointReset.holdMaster_leaves 2
  obtain ⟨r, hr⟩ := s.enablesCleared_eq
  rw [State.hostLinkLost_eq, h4, h3, h2, State.endpointReset, hr]
  rfl

theorem State.hostLinkLost_link (s : State) : s.linkLost_.cx.linkUp = false ∧ s.linkLost_.cx.busMaster = false ∧
    s.linkLost_.cx.perst = s.cx.perst ∧ s.linkLost_.cx.rings = s.cx.rings :=
  CxSt.link_of_lessSeries s.hostLinkLost_lessSeries

/-- The enables after a link down are those after the clearing. -/
theorem LinkBit.flag_hostLinkLost {f : FieldRef} (hf : LinkBit f) (s : State) :
    s.linkLost_.flag f = s.enablesCleared.flag f := by
  obtain ⟨-, -, h4⟩ := ((s.endpointReset.holdMaster 2).holdMaster 3).holdMaster_leaves 4
  obtain ⟨-, -, h3⟩ := (s.endpointReset.holdMaster 2).holdMaster_leaves 3
  obtain ⟨-, -, h2⟩ := s.endpointReset.holdMaster_leaves 2
  refine hf.flag_congr ?_
  rw [State.hostLinkLost_eq, h4 _ hf.not_cxErr hf.not_bmErr, h3 _ hf.not_cxErr hf.not_bmErr, h2 _ hf.not_cxErr hf.not_bmErr]
  exact State.regWord_congr s.endpointReset_regs _

/-- A link down clears the EN of every ring and of both directions of every frame queue (R430). -/
theorem State.hostLinkLost_enables {s : State} (hrise : keysRise 0 s.regs = true) :
    (∀ r < 16, s.linkLost_.flag (Reg.CX_RING_CTL_EN r) = false) ∧
    ∀ q < 8, s.linkLost_.flag (Reg.CX_FQ_CTL_TX_EN q) = false ∧ s.linkLost_.flag (Reg.CX_FQ_CTL_RX_EN q) = false := by
  have hrings : ∀ (u : State) (r : Nat), keysRise 0 u.regs = true → keysRise 0 (u.ringOff r).regs = true :=
    fun u r h => State.keysRise_setRegWord h _ _
  have hqueues : ∀ (u : State) (q : Nat), keysRise 0 u.regs = true → keysRise 0 (u.queueOff q).regs = true :=
    fun u q h => State.keysRise_setRegWord (State.keysRise_setRegWord h _ _) _ _
  have hkept {f : FieldRef} (hf : LinkBit f) : ∀ u, ∀ q ∈ List.range 8, LinkOff f u → LinkOff f (u.queueOff q) :=
    fun u q hq h => hf.off_setFld (linkBit_rxQueue (List.mem_range.mp hq))
      (hf.off_setFld (linkBit_txQueue (List.mem_range.mp hq)) h)
  have hrise' : keysRise 0 (s.each (List.range 16) State.ringOff).regs = true :=
    State.each_induction (P := fun u => keysRise 0 u.regs = true) hrise fun u r _ => hrings u r
  refine ⟨fun r hr => ?_, fun q hq => ⟨?_, ?_⟩⟩
  · have hoff : LinkOff (Reg.CX_RING_CTL_EN r) (s.each (List.range 16) State.ringOff) :=
      State.each_establishes (List.mem_range.mpr hr) hrings (fun _ h => (linkBit_ring hr).off_setFld_same h)
        (fun _ i hi h => (linkBit_ring hr).off_setFld (linkBit_ring (List.mem_range.mp hi)) h) hrise
    rw [(linkBit_ring hr).flag_hostLinkLost]
    exact (State.each_induction hoff (hkept (linkBit_ring hr))).2
  · rw [(linkBit_txQueue hq).flag_hostLinkLost]
    exact (State.each_establishes (List.mem_range.mpr hq) hqueues
      (fun u h => (linkBit_txQueue hq).off_setFld (linkBit_rxQueue hq) ((linkBit_txQueue hq).off_setFld_same h))
      (hkept (linkBit_txQueue hq)) hrise').2
  · rw [(linkBit_rxQueue hq).flag_hostLinkLost]
    exact (State.each_establishes (List.mem_range.mpr hq) hqueues
      (fun u h => (linkBit_rxQueue hq).off_setFld_same (State.keysRise_setRegWord h _ _))
      (hkept (linkBit_rxQueue hq)) hrise').2

/-! ### Rings with nothing to bring (R430) -/

theorem State.setRing_self {s : State} {r : Nat} (hr : r < s.cx.rings.length) {x : Ring} (hx : x = s.ring r) :
    s.setRing r x = s := by
  have hget : s.ring r = s.cx.rings[r] := List.getD_eq_getElem _ _ hr
  rw [hx, State.setRing, hget, lset, List.set_getElem_self]

/-- Rings with no entry fetched and no completion held have nothing to go on with. -/
theorem State.ringsGo_of_quiet {s : State} (hquiet : QuietRings s) (hlen : s.cx.rings.length = 16) : s.ringsGo = s := by
  refine State.each_induction (P := fun u => u = s) rfl ?_
  rintro u r - rfl
  obtain ⟨hfetched, hheld⟩ := hquiet r
  have hflush : State.flushHeld r (u.ring r).held u = u := by
    rw [hheld]
    exact State.setRing_self (by omega) (by rw [← hheld])
  rw [State.ringGo, hflush, State.ringRun, hfetched]
  rfl

theorem quietRings_of_rings {s t : State} (h : t.cx.rings = s.cx.rings) (hquiet : QuietRings s) : QuietRings t :=
  fun r => by rw [State.ring_congr h]; exact hquiet r

/-- Masters taken out of reset change the bus matrix only. -/
theorem State.freeMasters_eq (s : State) : ∃ x, ((s.freeMaster 2).freeMaster 3).freeMaster 4 = s.withBm x := by
  have hone (u : State) (m : Nat) : ∃ x, u.freeMaster m = u.withBm x := ⟨_, rfl⟩
  obtain ⟨x, hx⟩ := hone s 2
  obtain ⟨y, hy⟩ := hone (s.withBm x) 3
  obtain ⟨z, hz⟩ := hone ((s.withBm x).withBm y) 4
  exact ⟨z, by rw [hx, hy, hz]; rfl⟩

section LinkUp

variable {s : State} (hquiet : QuietRings s) (hlen : s.cx.rings.length = 16)
include hquiet hlen

theorem exec_d3hotTransition_out : exec (.d3hotTransition false) s = .next { s with cx := { s.cx with d3hot := false } } :=
  congrArg next (State.ringsGo_of_quiet (s := { s with cx := { s.cx with d3hot := false } }) hquiet hlen)

theorem exec_busMasterEnableSet (hup : s.cx.linkUp = true) (hexp : s.exposed = true) (hperst : s.cx.perst = false) :
    exec .busMasterEnableSet s = .next { s with cx := { s.cx with busMaster := true } } := by
  have hback : s.linkBack = s := by rw [State.linkBack, if_pos (.inr (.inr hup))]
  show execBusMasterEnableSet s = _
  rw [execBusMasterEnableSet, if_neg (by simp [hexp, hperst]), hback]
  exact congrArg next (State.ringsGo_of_quiet (s := { s with cx := { s.cx with busMaster := true } }) hquiet hlen)

/-- The link comes back, and of the rest the bus matrix alone changes. -/
theorem State.linkBack_of_down (hdown : s.cx.linkUp = false) (hexp : s.exposed = true) (hperst : s.cx.perst = false) :
    ∃ x, s.linkBack = ({ s with cx := { s.cx with linkUp := true } } : State).withBm x := by
  obtain ⟨x, hx⟩ := State.freeMasters_eq { s with cx := { s.cx with linkUp := true } }
  rw [State.linkBack, if_neg (by simp [hexp, hperst, hdown])]
  dsimp only
  rw [hx]
  exact ⟨x, State.ringsGo_of_quiet hquiet hlen⟩

end LinkUp

theorem exec_perstNDeassert_awake {s : State} (hperst : s.cx.perst = true) (hexp : s.exposed = true) :
    exec .perstNDeassert s = .next (State.linkBack { s with cx := { s.cx with perst := false } }) := by
  simp only [State.exposed, Bool.and_eq_true, decide_eq_true_eq] at hexp
  obtain ⟨⟨hvaon, hrails⟩, hpwr, -⟩ := hexp
  show execPerstNDeassert s = _
  rw [execPerstNDeassert, hperst, if_neg (by decide)]
  dsimp only
  rw [hvaon, hrails, if_neg (by decide), if_neg (by omega)]
  rfl

theorem exec_perstNAssert {s : State} (hpwr : s.pwr.state ≤ 3) (hup : s.cx.linkUp = true) :
    exec .perstNAssert s = .next (State.linkLost_ { s with cx := { s.cx with perst := true } }) := by
  show execPerstNAssert s = _
  rw [execPerstNAssert]
  exact congrArg next (if_pos ⟨hpwr, hup⟩)

theorem exec_pcieFunctionReset_down {s : State} (hup : s.cx.linkUp = true) :
    exec (.pcieFunctionReset true) s = .next s.linkLost_ := by
  show execPcieFunctionReset true s = _
  rw [execPcieFunctionReset, hup, if_neg (by decide), if_pos rfl]
  rfl

theorem State.hostLinkLost_mode (s : State) : s.linkLost_.mode = s.mode :=
  State.mode_of_lessEndpoint s.hostLinkLost_lessEndpoint

theorem State.hostLinkLost_tm (s : State) : s.linkLost_.tm = s.tm := State.tm_of_lessEndpoint s.hostLinkLost_lessEndpoint

/-- Settles O19: a link down is one walk through the enables and the endpoint's masters; with quiet rings the DMA has nothing
to go on with. -/
theorem hostLinkEvents : Obligations.HostLinkEvents := by
  unfold Obligations.HostLinkEvents
  rintro s ⟨hrise, -⟩ hup
  refine ⟨fun hpwr => ?_, ?_, rfl, rfl, exec_d3hotTransition_out,
    fun hquiet hlen => exec_busMasterEnableSet hquiet hlen hup, ?_⟩
  · obtain ⟨hdown, hmaster, hperst, -⟩ := State.hostLinkLost_link { s with cx := { s.cx with perst := true } }
    obtain ⟨hrings, -⟩ := State.hostLinkLost_enables (s := { s with cx := { s.cx with perst := true } }) hrise
    exact ⟨_, exec_perstNAssert hpwr hup, hperst, hdown, hmaster, hrings, State.hostLinkLost_mode _,
      State.hostLinkLost_tm _⟩
  · obtain ⟨hdown, hmaster, -, hkept⟩ := s.hostLinkLost_link
    obtain ⟨hrings, hqueues⟩ := State.hostLinkLost_enables hrise
    refine ⟨_, exec_pcieFunctionReset_down hup, hdown, hmaster, hrings, hqueues, s.hostLinkLost_mode, fun r => ?_⟩
    rw [State.ring_congr hkept]
    exact ⟨rfl, rfl⟩
  · rintro hpwr u rfl hquiet hlen hexp
    obtain ⟨x, hback⟩ := State.linkBack_of_down (s := { s with cx := { s.cx with linkUp := false, perst := false } }) hquiet
      hlen rfl hexp rfl
    refine ⟨_, exec_perstNDeassert_awake rfl hexp, ?_⟩
    dsimp only
    rw [hback]
    exact ⟨rfl, rfl, rfl, rfl⟩

end Sys2Proof.Machine
end

section
/-!
The statement about RST_N and an undervoltage of a main rail (R68, R532).
-/

namespace Sys2Proof.Machine

open Sys2Proof.Stated

theorem State.footing_of_lessEndpoint {s t : State} (h : t.lessEndpoint = s.lessEndpoint) : t.footing = s.footing := by
  have := congrArg State.footing h; exact this

theorem State.dacClear_footing (s : State) (source : Nat) : (s.dacClear source).footing = s.footing := by
  unfold State.dacClear
  dsimp only
  rw [State.raise_footing]
  unfold State.footing; rfl

theorem State.dacClear_clears (s : State) (source : Nat) :
    (s.dacClear source).dac.clr = true ∧ (s.dacClear source).dac.clrSource = source := by
  unfold State.dacClear
  dsimp only
  rw [State.raise_dac]
  exact ⟨rfl, rfl⟩

theorem State.toSlowClock_footing (s : State) : s.toSlowClock.footing = s.footing := by
  unfold State.footing; rfl

/-- The domains that RST_N holds in reset, as its assertion leaves them (R68). -/
def State.heldInReset (s : State) : State := ((s.clearPackets.clearLight).clearUnits true).toSlowClock

theorem State.heldInReset_footing (s : State) : s.heldInReset.footing = s.footing := by
  rw [State.heldInReset, State.toSlowClock_footing, State.clearUnits_footing, State.clearLight_footing,
    State.clearPackets_footing]

theorem State.heldInReset_frames (s : State) : s.heldInReset.tm.frames = [] := rfl

theorem State.heldInReset_clear (s : State) : s.heldInReset.dac.clr = s.dac.clr ∧
    s.heldInReset.dac.clrSource = s.dac.clrSource := ⟨rfl, rfl⟩

/-- The pins as an assertion of RST_N notes it: its instant, and the power state in force. -/
def State.resetNoted (s : State) : State := { s with pins := { s.pins with rstAt := some s.clk, rstPower := s.pwr.state } }

/-- What RST_N resets, before the mode and the start end. -/
def State.resetCourse (s : State) : State := (s.resetNoted.cutShort.dacClear 1).heldInReset

/-- The mode and the start ended by a reset. -/
def State.resetEnded (s : State) : State := { s with mode := {}, start := s.start.abandoned }

theorem State.resetAsserted_eq (s : State) : s.resetAsserted = s.resetCourse.linkLost_.resetEnded := rfl

theorem State.resetCourse_footing (s : State) : s.resetCourse.linkLost_.footing =
    (s.resetNoted.lasersOff.withPwr { s.pwr with cmd := none }).footing := by
  rw [State.footing_of_lessEndpoint s.resetCourse.hostLinkLost_lessEndpoint, State.resetCourse, State.heldInReset_footing,
    State.dacClear_footing, State.cutShort_footing]
  rfl

theorem StartSt.abandoned_running (x : StartSt) : x.abandoned.running = (decide (x.state = 3) && x.running) := by
  unfold StartSt.abandoned
  split
  next h => rw [decide_eq_true h, Bool.true_and]
  next h => rw [decide_eq_false h, Bool.false_and]

/-- The assertion of RST_N, and what acts as one: its reset, and what it leaves of the clock and the pins. -/
structure ResetMade (s t : State) : Prop where
  lasers : t.saf.lsrEn = 0
  clear : t.dac.clr = true
  source : t.dac.clrSource = 1
  frames : t.tm.frames = []
  link : t.cx.linkUp = false
  master : t.cx.busMaster = false
  mode : t.mode.mode = .bootstrap
  start : t.start = s.start.abandoned
  pins : t.pins = { s.pins with rstAt := some s.clk, rstPower := s.pwr.state }
  clk : t.clk = s.clk

/-- What is reset in course, with the mode and the start ended, is the reset made. -/
theorem ResetMade.of_course {s u : State}
    (hfooting : u.footing = (s.resetNoted.lasersOff.withPwr { s.pwr with cmd := none }).footing)
    (hclear : u.dac.clr = true ∧ u.dac.clrSource = 1) (hframes : u.tm.frames = [])
    (hlink : u.cx.linkUp = false ∧ u.cx.busMaster = false) : ResetMade s u.resetEnded := by
  have hlasers := congrArg (fun v : State => v.saf.lsrEn) hfooting
  have hstart := congrArg (fun v : State => v.start) hfooting
  have hpins := congrArg (fun v : State => v.pins) hfooting
  have hclk := congrArg (fun v : State => v.clk) hfooting
  exact ⟨hlasers, hclear.1, hclear.2, hframes, hlink.1, hlink.2, rfl, congrArg StartSt.abandoned hstart, hpins, hclk⟩

theorem State.resetCourse_clears (s : State) : s.resetCourse.linkLost_.dac.clr = true ∧
    s.resetCourse.linkLost_.dac.clrSource = 1 := by
  obtain ⟨hclr, hsource⟩ := (s.resetNoted.cutShort.dacClear 1).heldInReset_clear
  obtain ⟨hcleared, hfrom⟩ := s.resetNoted.cutShort.dacClear_clears 1
  rw [State.dac_of_lessEndpoint s.resetCourse.hostLinkLost_lessEndpoint]
  exact ⟨hclr.trans hcleared, hsource.trans hfrom⟩

theorem State.resetCourse_frames (s : State) : s.resetCourse.linkLost_.tm.frames = [] := by
  rw [State.hostLinkLost_tm]
  exact State.heldInReset_frames _

theorem State.resetAsserted_made (s : State) : ResetMade s s.resetAsserted := by
  obtain ⟨hdown, hmaster, -, -⟩ := s.resetCourse.hostLinkLost_link
  rw [State.resetAsserted_eq]
  exact ResetMade.of_course s.resetCourse_footing s.resetCourse_clears s.resetCourse_frames ⟨hdown, hmaster⟩

theorem exec_rstNAssert {s : State} {held : Nat} (hvaon : s.pins.vaon = true)
    (hedge : (s.edge 8 true held).1 = .accepted) : ∃ f, exec (.rstNAssert held) s =
      .next (((s.setFilter 8 f).elapse (s.minPw 8)).resetAsserted) := by
  obtain ⟨f, hf⟩ := State.edge_accepted hedge
  refine ⟨f, ?_⟩
  show execRstNAssert held s = _
  rw [execRstNAssert, hvaon, if_neg (by decide), hf]
  rfl

/-- An undervoltage as it is recorded after its reset: without the main rails no RST_N is timed (R532). -/
def State.undervolted (s : State) (rail : Fin 6) (rstAt : Option Nat) : State :=
  { s with
    pins := { s.pins with rails := false, rstAt := rstAt }
    ret := { s.ret with rail := some rail }
    start := { s.start with railFail := true } }

section Undervoltage

variable {s : State} {held : Nat} (rail : Fin 6)

theorem exec_railUndervoltage (hvaon : s.pins.vaon = true) (hrails : s.pins.rails = true) (hheld : 10000 ≤ held) :
    exec (.railUndervoltage rail held) s = .next ((s.elapse 10000).resetAsserted.undervolted rail s.pins.rstAt) := by
  show execRailUndervoltage rail held s = _
  rw [execRailUndervoltage, if_neg (by simp [hvaon, hrails, hheld])]
  rfl

theorem exec_railUndervoltage_short (hheld : held < 10000) : exec (.railUndervoltage rail held) s = .next s := by
  show execRailUndervoltage rail held s = _
  rw [execRailUndervoltage, if_pos (.inr (.inr hheld))]
  rfl

end Undervoltage

/-- Settles O18: RST_N and an undervoltage make one reset, which is read off its parts. -/
theorem resetActions : Obligations.ResetActions := by
  unfold Obligations.ResetActions
  intro s held rail hvaon
  refine ⟨fun hedge => ?_, fun hrails hheld => ?_, fun _ hheld => exec_railUndervoltage_short rail hheld⟩
  · obtain ⟨f, hexec⟩ := exec_rstNAssert hvaon hedge
    have hmade := ((s.setFilter 8 f).elapse (s.minPw 8)).resetAsserted_made
    exact ⟨_, hexec, hmade.lasers, hmade.clear, hmade.source, hmade.frames, hmade.link, hmade.master, hmade.mode,
      (congrArg StartSt.running hmade.start).trans (StartSt.abandoned_running _), congrArg PinSt.rstAt hmade.pins, hmade.clk⟩
  · have hexec := exec_railUndervoltage rail hvaon hrails hheld
    have hmade := (s.elapse 10000).resetAsserted_made
    generalize (s.elapse 10000).resetAsserted = t at hexec hmade
    exact ⟨_, hexec, hmade.lasers, hmade.clear, hmade.frames, hmade.link, rfl, rfl, rfl⟩

end Sys2Proof.Machine
end

section
/-!
What the change of a port, of the view, of the mode or of a section leaves alone: the clock, the Canvas and the number
of rings. With it, what an activation leaves (R97).
-/

namespace Sys2Proof.Machine

open Sys2Proof.Stated

/-- What the work of an activation, beside the activation itself, does not move: the clock, the Canvas and the number of
rings. -/
def State.standing (s : State) : State :=
  { clk := s.clk, canvas := s.canvas, cx := { rings := List.replicate s.cx.rings.length {} } }

section Reads

variable {s t : State} (h : t.standing = s.standing)
include h

theorem State.clk_of_standing : t.clk = s.clk := by have := congrArg State.clk h; exact this
theorem State.canvas_of_standing : t.canvas = s.canvas := by have := congrArg State.canvas h; exact this
theorem State.ringCount_of_standing : t.cx.rings.length = s.cx.rings.length := by
  have hlen := congrArg (·.cx.rings.length) h
  simpa only [State.standing, List.length_replicate] using hlen

end Reads

theorem State.standing_of_conduct {s t : State} (h : t.conduct = s.conduct) (hcanvas : t.canvas = s.canvas) :
    t.standing = s.standing := by
  rw [State.standing, State.standing, State.clk_of_conduct h, State.ringCount_of_conduct h, hcanvas]

theorem State.standing_of_lessEgress {s t : State} (h : t.lessEgress = s.lessEgress) : t.standing = s.standing := by
  have := congrArg State.standing h; exact this

theorem State.each_standing {α : Type} (s : State) (l : List α) {f : State → α → State}
    (hf : ∀ u x, (f u x).standing = u.standing) : (s.each l f).standing = s.standing :=
  State.each_induction (P := fun u => u.standing = s.standing) rfl fun u x _ hu => (hf u x).trans hu

@[simp] theorem State.standing_ite (c : Prop) [Decidable c] (a b : State) :
    (if c then a else b).standing = if c then a.standing else b.standing := by
  split <;> rfl

/-! ### Events and completions -/

@[simp] theorem State.raise_standing (s : State) (code : Nat) (l : List (Nat × Nat)) :
    (s.raise code l).standing = s.standing := State.standing_of_lessEgress (s.raise_lessEgress code l)
@[simp] theorem State.raiseLim_standing (s : State) (code sub : Nat) (l : List (Nat × Nat)) :
    (s.raiseLim code sub l).standing = s.standing := State.standing_of_lessEgress (s.raiseLim_lessEgress code sub l)
@[simp] theorem State.settle_standing (s : State) : s.settle.standing = s.standing :=
  State.standing_of_lessEgress s.settle_lessEgress
@[simp] theorem State.complete_standing (s : State) (tag : CmdTag) (st : Nat) (d : List (Nat × Nat)) :
    (s.complete tag st d).standing = s.standing :=
  State.standing_of_conduct (s.complete_conduct tag st d) (s.complete_canvas tag st d)
@[simp] theorem State.completeOpt_standing (s : State) (tag : Option CmdTag) (st : Nat) (d : List (Nat × Nat)) :
    (s.completeOpt tag st d).standing = s.standing := by
  cases tag with
  | none => rfl
  | some t => exact s.complete_standing t st d

theorem State.standing_ikl (s : State) (x : IklSt) : ({ s with ikl := x } : State).standing = s.standing := rfl
theorem State.count_standing (s : State) (a n : Nat) : (s.count a n).standing = s.standing := rfl
theorem State.setFld_standing (s : State) (f : FieldRef) (v : Nat) : (s.setFld f v).standing = s.standing := rfl
theorem State.setPort_standing (s : State) (p : Nat) (x : PortSt) : (s.setPort p x).standing = s.standing := rfl

/-! ### Ports (R268, R270, R341) -/

@[simp] theorem State.eachLane_standing (s : State) (p : Nat) (f : LaneSt → LaneSt) :
    (s.eachLane p f).standing = s.standing := by
  obtain ⟨l, h⟩ := s.eachLane_eq p f
  rw [h]; rfl

@[simp] theorem State.discardPort_standing (s : State) (p : Nat) : (s.discardPort p).standing = s.standing :=
  State.standing_of_lessEgress (s.discardPort_lessEgress p)

@[simp] theorem State.startFlush_standing (s : State) (m p : Nat) (fid : Option Nat) (all : Bool) (tag : Option CmdTag)
    (notify : Bool) : (s.startFlush m p fid all tag notify).standing = s.standing := by
  unfold State.startFlush
  dsimp only
  split_ifs
  · rw [State.standing_of_lessEgress (State.pressure_lessEgress _), State.discardPort_standing]; rfl
  · rfl

@[simp] theorem State.linkDown_standing (s : State) (p cause : Nat) : (s.linkDown p cause).standing = s.standing := by
  have hfell : (s.linkFell p cause).standing = s.standing := by
    rw [State.linkFell, State.raise_standing, State.linkLost, State.eachLane_standing]; rfl
  unfold State.linkDown
  dsimp only
  rw [← State.linkFell]
  split_ifs
  · rw [State.settle_standing, State.startFlush_standing, State.discardPort_standing, hfell]
  · rw [State.settle_standing, State.discardPort_standing, hfell]
  · rfl

@[simp] theorem State.portOffNow_standing (s : State) (p : Nat) : (s.portOffNow p).standing = s.standing := by
  unfold State.portOffNow
  dsimp only
  rw [State.eachLane_standing, State.setPort_standing, State.linkDown_standing]

@[simp] theorem State.portStart_standing (s : State) (p : Nat) : (s.portStart p).standing = s.standing := by
  unfold State.portStart
  dsimp only
  split_ifs
  · rw [State.eachLane_standing]; rfl
  · rfl

@[simp] theorem State.portsWake_standing (s : State) : s.portsWake.standing = s.standing :=
  State.each_standing _ _ State.portStart_standing

/-! ### A conjunction that ends (R421) -/

@[simp] theorem State.endPendingMode_standing (s : State) (st : Nat) : (s.endPendingMode st).standing = s.standing := by
  unfold State.endPendingMode
  split
  · exact State.completeOpt_standing _ _ _ _
  · rfl

@[simp] theorem State.memberEnd_standing (s : State) (last reason by_ : Nat) :
    (s.memberEnd last reason by_).standing = s.standing := by
  show (State.abortTakeoverWait _).standing = _
  unfold State.abortTakeoverWait
  split
  · split
    · exact State.endPendingMode_standing _ _
    · rfl
  · rfl

@[simp] theorem State.sendConj_standing (s : State) (m : ConjMsg) : (s.sendConj m).standing = s.standing :=
  State.each_standing (s.meetConj m) _ fun u n => by
    unfold State.sendIkl
    dsimp only
    split <;> rfl

@[simp] theorem State.closeProposal_standing (s : State) (st : Nat) (d : List (Nat × Nat)) :
    (s.closeProposal st d).standing = s.standing := by
  unfold State.closeProposal
  split
  · exact State.complete_standing _ _ _ _
  · rfl

@[simp] theorem State.abortConj_standing (s : State) (reason by_ : Nat) :
    (s.abortConj reason by_).standing = s.standing := by
  unfold State.abortConj
  split
  · rfl
  · simp only [State.closeProposal_standing, State.raise_standing, State.standing_ite, State.memberEnd_standing,
      State.standing_ikl, State.count_standing, State.sendConj_standing, ite_self]

/-! ### The entry to mode 11 (R33, R411) -/

@[simp] theorem State.endApply_standing (s : State) : s.endApply.standing = s.standing := by
  unfold State.endApply
  split
  · exact State.complete_standing _ _ _ _
  · rfl

@[simp] theorem State.endLaserSet_standing (s : State) (st : Nat) : (s.endLaserSet st).standing = s.standing := by
  unfold State.endLaserSet
  split
  · exact State.complete_standing _ _ _ _
  · rfl

@[simp] theorem State.safStop_standing (s : State) (cause st : Nat) : (s.safStop cause st).standing = s.standing := by
  unfold State.safStop
  split
  · exact State.endLaserSet_standing _ _
  · rw [State.raiseLim_standing, State.endLaserSet_standing]; rfl

@[simp] theorem State.endCalRun_standing (s : State) : s.endCalRun.standing = s.standing := by
  unfold State.endCalRun
  split
  · rw [State.safStop_standing, State.complete_standing]; rfl
  · rfl

@[simp] theorem State.takeEaselCodes_standing (s : State) : s.takeEaselCodes.standing = s.standing :=
  have hset (u : State) (c w : Nat) (v : Word) : (u.xchSet c w v).standing = u.standing := rfl
  State.each_standing s _ fun _ _ => (hset _ _ _ _).trans (hset _ _ _ _)

theorem State.modeEntry_fenced_standing (s : State) (old : Mode) : (s.modeEntry old .fenced).standing = s.standing := by
  have hclose : s.closeLoops.standing = s.standing := by unfold State.closeLoops; split <;> rfl
  have hdark (u : State) : u.darkAtBoundary.standing = u.standing := by unfold State.darkAtBoundary; split <;> rfl
  exact (hdark _).trans hclose

theorem State.enterMode_fenced_standing (s : State) (trigger : Nat) :
    (s.enterMode .fenced trigger).standing = s.standing := by
  have hleft (c : Prop) [Decidable c] :
      (if c then s.endApply.endCalRun.takeEaselCodes else s.endApply).standing = s.standing := by
    rw [State.standing_ite, State.takeEaselCodes_standing, State.endCalRun_standing, State.endApply_standing, ite_self]
  have hmode (u : State) (h : u.standing = s.standing) : (u.voidWindows.inMode .fenced).standing = s.standing := h
  unfold State.enterMode
  dsimp only
  rw [State.standing_ite, State.settle_standing, State.raise_standing, State.standing_ite, State.portsWake_standing,
    ite_self, State.modeEntry_fenced_standing,
    if_neg (show ¬(Mode.fenced.asleep = true ∧ ¬s.mode.mode.asleep = true) by simp [Mode.asleep])]
  split
  · rfl
  · exact hmode _ (hleft _)

/-! ### The view (R405, R409 to R415) -/

theorem State.newLeader_standing (s : State) (m : Nat) : (s.newLeader m).standing = s.standing := by
  have hgone (u : State) : u.leaderGone.standing = u.standing := by
    unfold State.leaderGone
    rw [State.standing_ite, State.abortConj_standing, ite_self]
  unfold State.newLeader
  dsimp only
  split_ifs
  · rfl
  · rw [hgone, State.raise_standing, State.standing_ikl]

theorem State.fwCheck_standing (s : State) (leader major : Nat) : (s.fwCheck leader major).standing = s.standing := by
  simp only [State.fwCheck, State.standing_ite, State.raise_standing, State.standing_ikl, ite_self]

theorem State.staleCheck_standing (s : State) (high : Nat) : (s.staleCheck high).standing = s.standing := by
  unfold State.staleCheck
  extract_lets
  split
  · rw [State.raise_standing, State.standing_ikl]
  · exact State.standing_ikl _ _

theorem State.quorumCheck_standing (s : State) : s.quorumCheck.standing = s.standing := by
  simp only [State.quorumCheck, State.standing_ite, State.raise_standing, State.standing_ikl, ite_self]

theorem State.fenceCheck_standing (s : State) (d : Bytes) : (s.fenceCheck d).standing = s.standing := by
  simp only [State.fenceCheck, State.autoMode, State.standing_ite, State.enterMode_fenced_standing,
    State.endPendingMode_standing, ite_self]

theorem State.updateSource_standing (s : State) : s.updateSource.standing = s.standing := by
  unfold State.updateSource
  dsimp only
  split_ifs
  · rfl
  all_goals rw [State.raise_standing]; rfl

theorem State.parentUpdate_standing (s : State) : s.parentUpdate.standing = s.standing := by
  have htake (p : Option Nat) : (s.takeParent p).standing = s.standing := by
    unfold State.takeParent; dsimp only; split_ifs <;> rfl
  unfold State.parentUpdate
  dsimp only
  split_ifs
  · rfl
  · rfl
  · exact htake _
  · exact s.each_standing _ fun _ _ => rfl

@[simp] theorem State.updateView_standing (s : State) : s.updateView.standing = s.standing := by
  unfold State.updateView
  split_ifs
  · rfl
  · rw [State.parentUpdate_standing, State.updateSource_standing, State.standing_ikl]
  · simp only [State.quorumCheck_standing, State.fenceCheck_standing, State.parentUpdate_standing,
      State.updateSource_standing, State.staleCheck_standing, State.fwCheck_standing, State.newLeader_standing]

/-! ### The sections that take effect (R90, R97, R98, R291, R350, R553, R555) -/

@[simp] theorem State.lasersRecheck_standing (s : State) : s.lasersRecheck.standing = s.standing := rfl

theorem State.geometryRegs_standing (s : State) : s.geometryRegs.standing = s.standing := by
  rw [State.geometryRegs, State.setFld_standing, State.setFld_standing, State.setFld_standing, State.setFld_standing]

theorem State.queueRegs_standing (s : State) : s.queueRegs.standing = s.standing :=
  s.each_standing _ fun u p => by
    rw [State.portQos, State.setFld_standing, State.setFld_standing, State.setFld_standing, State.setFld_standing]

theorem State.loadThermal_standing (s : State) : s.loadThermal.standing = s.standing := by
  have hret (u : State) (r : Retention) : ({ u with ret := r } : State).standing = u.standing := rfl
  unfold State.loadThermal
  extract_lets b t s1 s2 s3
  have h1 : s1.standing = s.standing := by
    rw [State.setFld_standing, State.setFld_standing, State.setFld_standing]
  have h2 : s2.standing = s1.standing := by
    rw [State.setFld_standing, State.setFld_standing, State.setFld_standing]
  have h3 : s3.standing = s2.standing := by
    rw [State.setFld_standing, State.setFld_standing, State.setFld_standing]
  rw [hret, h3, h2, h1]

theorem State.planLoops_standing (s : State) : s.planLoops.standing = s.standing :=
  s.each_standing _ fun _ _ => by dsimp only; split_ifs <;> rfl

theorem State.planPrograms_standing (s : State) : s.planPrograms.standing = s.standing := by
  have hload (u : State) (n : Nat) : (u.loadProgram n).standing = u.standing := by
    unfold State.loadProgram; dsimp only; split <;> rfl
  have hswap (u : State) : u.swapPrograms.standing = u.standing := State.each_standing _ _ fun _ _ => rfl
  simp only [State.planPrograms, State.standing_ite, hswap, hload, ite_self]

theorem State.planPolicers_standing (s : State) : s.planPolicers.standing = s.standing :=
  State.each_standing _ _ fun _ _ => rfl

theorem State.lockList_standing (s : State) : s.lockList.standing = s.standing := by
  have hvalue (u : State) (r : Bytes) : (u.lockedValue r).standing = u.standing := by
    unfold State.lockedValue; dsimp only; split_ifs <;> rfl
  exact State.each_standing _ _ fun u r => hvalue u r

theorem State.applyType_standing (s : State) (t : Nat) : (s.applyType t).standing = s.standing := by
  unfold State.applyType
  split
  · rw [State.updateView_standing, State.standing_ikl]
  · rw [State.updateView_standing, State.standing_ikl]
  · exact s.planLoops_standing
  · exact s.planPrograms_standing
  · rfl
  · rfl
  · exact s.geometryRegs_standing
  · exact s.queueRegs.planPolicers_standing.trans s.queueRegs_standing
  · rfl
  · exact s.loadThermal_standing
  · exact s.lockList_standing
  · rfl

theorem State.reseed_standing (s : State) : s.reseed.standing = s.standing := by
  have hretire (u : State) (j epoch : Nat) : (u.retire j epoch).standing = u.standing := by
    unfold State.retire; split <;> rfl
  unfold State.reseed
  dsimp only
  rw [State.each_standing _ _ fun u e => hretire u _ _]
  refine (State.each_standing _ _ fun u e => ?_).trans rfl
  split
  · rfl
  · rw [State.fdbFull, State.raiseLim_standing, State.setFld_standing]

/-! ### Activation (R97) -/

/-- The state with another Canvas block. -/
def State.withCanvas (s : State) (x : CanvasSt) : State := { s with canvas := x }

theorem State.withCanvas_standing_congr {s t : State} (h : t.standing = s.standing) (x : CanvasSt) :
    (t.withCanvas x).standing = (s.withCanvas x).standing := by
  have := congrArg (fun u : State => u.withCanvas x) h; exact this

/-- The Canvas block with an image in force from an instant. -/
def CanvasSt.inForce (x : CanvasSt) (img : Bytes) (source clk : Nat) : CanvasSt :=
  { x with active := some img, memory := img, source := source, lost := false, checkAt := clk + 60000000000 }

/-- An activation puts the image in force; the ports, sections and tables that follow it move nothing of what stands. -/
theorem State.activate_standing (s : State) (img : Bytes) (source : Nat) (types : List Nat) :
    (s.activate img source types).standing = (s.withCanvas (s.canvas.inForce img source s.clk)).standing := by
  have hoff (l : List Nat) : (s.each l State.portOffNow).standing = s.standing :=
    s.each_standing l State.portOffNow_standing
  have hforce (u : State) (hu : u.standing = s.standing) :
      (u.withCanvas (u.canvas.inForce img source u.clk)).standing =
        (s.withCanvas (s.canvas.inForce img source s.clk)).standing := by
    rw [State.canvas_of_standing hu, State.clk_of_standing hu, State.withCanvas_standing_congr hu]
  have hstart (u : State) (l : List Nat) : (u.each l State.portStart).standing = u.standing :=
    u.each_standing l State.portStart_standing
  have happly (u : State) (l : List Nat) : (u.each l State.applyType).standing = u.standing :=
    u.each_standing l State.applyType_standing
  unfold State.activate
  simp only [State.settle_standing, State.standing_ite, State.reseed_standing, hstart, happly, ite_self]
  exact hforce _ (hoff _)

end Sys2Proof.Machine
end

section
/-!
What verification reads of the Canvas block, what a slot holds after it was written, and how the commands of the Canvas
are accepted and answered (R66, R76 to R92).
-/

namespace Sys2Proof.Machine

open Sys2Proof.Stated

/-! ### What verification reads (R79 to R92) -/

/-- What verification and the choice of a slot read of the Canvas block: the active image, the slots, the keys and the
anti-rollback counter. -/
def CanvasSt.vault (x : CanvasSt) : CanvasSt :=
  { active := x.active, slotA := x.slotA, slotB := x.slotB, keys := x.keys, arb := x.arb }

section Vault

variable {s t : State} (h : t.canvas.vault = s.canvas.vault)
include h

theorem State.verifyImage_congr (img : Bytes) : t.verifyImage img = s.verifyImage img := by
  have hkeys : t.canvas.keys = s.canvas.keys := by have := congrArg CanvasSt.keys h; exact this
  have harb : t.canvas.arb = s.canvas.arb := by have := congrArg CanvasSt.arb h; exact this
  rw [State.verifyImage, State.verifyImage, State.keyAccepted, State.keyAccepted, hkeys, harb]

theorem State.cslot_congr (b : Bool) : t.cslot b = s.cslot b := by
  have hA : t.canvas.slotA = s.canvas.slotA := by have := congrArg CanvasSt.slotA h; exact this
  have hB : t.canvas.slotB = s.canvas.slotB := by have := congrArg CanvasSt.slotB h; exact this
  rw [State.cslot, State.cslot, hA, hB]

theorem State.slotValid_congr (b : Bool) : t.slotValid b = s.slotValid b := by
  rw [State.slotValid, State.slotValid, State.cslot_congr h, State.verifyImage_congr h]

theorem State.targetSlot_congr : t.targetSlot = s.targetSlot := by
  simp only [State.targetSlot, State.slotValid_congr h, State.cslot_congr h]

theorem State.verifyHost_congr (img : Bytes) (store : Bool) : t.verifyHost img store = s.verifyHost img store := by
  have hactive : t.canvas.active = s.canvas.active := by have := congrArg CanvasSt.active h; exact this
  have hgen : t.genOk img = s.genOk img := by
    simp only [State.genOk, State.slotValid_congr h, State.cslot_congr h, hactive]
  rw [State.verifyHost, State.verifyHost, State.verifyImage_congr h, hgen]

theorem State.reloadSlot_congr : t.reloadSlot = s.reloadSlot := by
  have hactive : t.canvas.active = s.canvas.active := by have := congrArg CanvasSt.active h; exact this
  simp only [State.reloadSlot, State.canvasGen, State.slotValid_congr h, State.cslot_congr h, hactive]

end Vault

/-- The image that a buffer of the host holds: its first bytes, without what follows the image (R76). -/
def hostImage (b : Bytes) (len : Nat) : Bytes := (b.take len).take (imgLen (b.take len))

/-! ### Slots and the anti-rollback counter (R91, R92) -/

theorem State.cslot_setSlot (s : State) (b : Bool) (x : CanvasSlot) : (s.setSlot b x).cslot b = x := by
  cases b <;> rfl

theorem State.eraseSectors_standing (s : State) (first n : Nat) : (s.eraseSectors first n).standing = s.standing :=
  s.each_standing _ fun u i => by
    unfold State.eraseSector
    extract_lets
    split
    · rw [State.raise_standing]; rfl
    · rfl

theorem State.writeSlot_standing (s : State) (b : Bool) (img : Bytes) (marker : Bool) :
    (s.writeSlot b img marker).standing = (s.setSlot b { image := img, marker := marker }).standing := by
  have hset (u : State) (h : u.standing = s.standing) (x : CanvasSlot) :
      (u.setSlot b x).standing = (s.setSlot b x).standing := by
    have := congrArg (fun v : State => v.setSlot b x) h; exact this
  exact hset _ (s.eraseSectors_standing _ _) _

theorem State.writeSlot_start (s : State) (b : Bool) (img : Bytes) (marker : Bool) :
    (s.writeSlot b img marker).start = s.start := by
  have herase (first n : Nat) : (s.eraseSectors first n).start = s.start :=
    State.each_induction (P := fun u => u.start = s.start) rfl fun u i _ hu => by
      unfold State.eraseSector
      extract_lets
      split
      · rw [State.raise_start]; exact hu
      · exact hu
  have hset (u : State) (x : CanvasSlot) : (u.setSlot b x).start = u.start := rfl
  rw [State.writeSlot, hset, herase]

theorem State.writeSlot_cslot (s : State) (b : Bool) (img : Bytes) (marker : Bool) :
    (s.writeSlot b img marker).cslot b = { image := img, marker := marker } :=
  (State.cslot_congr (congrArg CanvasSt.vault (State.canvas_of_standing (s.writeSlot_standing b img marker))) b).trans
    (s.cslot_setSlot b _)

/-- What stands, without what the flash holds of the Canvas: the slots and the anti-rollback counter. -/
def State.lessFlash (s : State) : State :=
  s.standing.withCanvas { s.canvas with slotA := {}, slotB := {}, arb := 0 }

theorem State.lessFlash_of_standing {s t : State} (h : t.standing = s.standing) : t.lessFlash = s.lessFlash := by
  rw [State.lessFlash, State.lessFlash, h, State.canvas_of_standing h]

theorem State.setSlot_lessFlash (s : State) (b : Bool) (x : CanvasSlot) : (s.setSlot b x).lessFlash = s.lessFlash := by
  cases b <;> rfl

theorem State.writeSlot_lessFlash (s : State) (b : Bool) (img : Bytes) (marker : Bool) :
    (s.writeSlot b img marker).lessFlash = s.lessFlash :=
  (State.lessFlash_of_standing (s.writeSlot_standing b img marker)).trans (s.setSlot_lessFlash b _)

theorem State.raiseArb_lessFlash (s : State) (svn : Nat) : (s.raiseArb svn).lessFlash = s.lessFlash := by
  unfold State.raiseArb; split <;> rfl

section Reads

variable {s t : State} (h : t.lessFlash = s.lessFlash)
include h

theorem State.clk_of_lessFlash : t.clk = s.clk := by have := congrArg State.clk h; exact this
theorem State.active_of_lessFlash : t.canvas.active = s.canvas.active := by
  have := congrArg (·.canvas.active) h; exact this
theorem State.staged_of_lessFlash : t.canvas.staged = s.canvas.staged := by
  have := congrArg (·.canvas.staged) h; exact this
theorem State.commit_of_lessFlash : t.canvas.commit = s.canvas.commit := by
  have := congrArg (·.canvas.commit) h; exact this
theorem State.ringCount_of_lessFlash : t.cx.rings.length = s.cx.rings.length := by
  have hlen := congrArg (·.cx.rings.length) h
  simpa only [State.lessFlash, State.withCanvas, State.standing, List.length_replicate] using hlen

end Reads

/-! ### Commands that are answered at once -/

theorem State.begin_standing (s : State) (tag : CmdTag) (op : Nat) : (s.begin tag op).standing = s.standing :=
  State.standing_of_conduct (s.begin_conduct tag op) (s.begin_canvas tag op)

theorem State.begin_vault (s : State) (tag : CmdTag) (op : Nat) : (s.begin tag op).canvas.vault = s.canvas.vault :=
  congrArg CanvasSt.vault (s.begin_canvas tag op)

/-- A command that is accepted, changes the Canvas block alone and completes. -/
theorem answered_withCanvas {s : State} (hs : Serves s) (tag : CmdTag) (op : Nat) (x : CanvasSt) (st : Nat)
    (d : List (Nat × Nat)) :
    Answered s (((s.begin tag op).withCanvas x).complete tag st d) tag st ∧
      (((s.begin tag op).withCanvas x).complete tag st d).canvas = x ∧
      ExchangeOnly (s.withCanvas x) (((s.begin tag op).withCanvas x).complete tag st d) :=
  ⟨answered_of_begun hs (u := (s.begin tag op).withCanvas x) rfl st d false, State.complete_canvas _ tag st d,
    exchangeOnly_of_lessExchange (State.complete_lessExchange _ tag st d)⟩

/-- The gate lets the boot commands through in every state (R66). -/
theorem State.serve_of_boot (s : State) (tag : CmdTag) {op : Nat} (hop : bootCommand op = true) (body : State → State) :
    s.serve tag op body = body (s.begin tag op) := by
  rw [State.serve, State.gate, if_pos hop]

/-- The state after a command that was accepted and whose image fails verification (R84). -/
def State.imageFails (s : State) (tag : CmdTag) (op : Nat) (v : Verdict) : State :=
  ((s.begin tag op).verdictFail 2 v).complete tag St.canvasInvalid [(1, v.code)]

section Rings

variable {s : State} (hrings : s.cx.rings.length = 16) (tag : CmdTag)
include hrings

/-- Completing after work that left the number of rings tells the newest entry of the window. -/
theorem told_of_ringCount {u : State} (h : u.cx.rings.length = s.cx.rings.length) (st : Nat) (d : List (Nat × Nat)) :
    Told (u.complete tag st d) tag st :=
  told_complete (h.trans hrings) tag st d

/-- A command whose image fails leaves the Canvas block as it was, but for the result of verification (R84). -/
theorem State.imageFails_leaves (op : Nat) (v : Verdict) :
    Told (s.imageFails tag op v) tag St.canvasInvalid ∧ (s.imageFails tag op v).ret = s.ret ∧
      (s.imageFails tag op v).canvas =
        { s.canvas with verr := v.code, verrSect := v.sect, vrec := v.record.getD s.canvas.vrec } := by
  unfold State.imageFails
  refine ⟨told_of_ringCount hrings tag ?_ _ _, ?_, ?_⟩
  · rw [State.verdictFail, State.raise_rings]
    exact State.setRing_rings_length _ _ _
  · rw [State.complete_ret, State.verdictFail, State.raise_ret, State.begin_ret]
  · rw [State.complete_canvas, State.verdictFail, State.raise_canvas, State.begin_canvas]

end Rings

end Sys2Proof.Machine
end

section
/-!
LOAD_CANVAS, CANVAS_PREPARE, CANVAS_COMMIT, CANVAS_ABORT and the timeout of a staged change, one rule for each course
that a command takes (R92, R94, R95, R97, R100).
-/

namespace Sys2Proof.Machine

open Sys2Proof.Stated

/-! ### LOAD_CANVAS (R66, R92) -/

/-- A Canvas was lost, and the module waits for the next one in mode 1 (R94). -/
def State.afterLoss (s : State) : Bool := s.started && s.canvas.lost && decide (s.mode.mode = .safe)

section LoadCanvas

variable {s : State} (tag : CmdTag) (b : Bytes) (len : Nat)

/-- LOAD_CANVAS where the module does not ask for a Canvas. -/
theorem exec_loadCanvas_wrongMode (hwait : s.start.canvasWait = false) (hgoes : s.start.state ≠ 3)
    (hheld : s.canvas.lost = false) (store : Bool) :
    exec (.loadCanvas tag (some b) len store) s = .next ((s.begin tag 0x0004).complete tag St.wrongMode) := by
  show execLoadCanvas tag (some b) len store s = _
  rw [execLoadCanvas, State.serve_of_boot s tag (by decide)]
  dsimp only
  rw [State.begin_start, State.begin_canvas, if_pos (by simp [hwait, hgoes, hheld])]
  rfl

/-- The module as LOAD_CANVAS leaves it after a loss: the image is in force from the host, and the tested flag is
cleared (R92, R94). -/
def State.recovered (s : State) (img : Bytes) : State :=
  let u := (s.raiseArb (imgSvn img)).activate img 3 (changedTypes [] img)
  State.lasersRecheck { u with ret := { u.ret with tested := false }, store := { u.store with canvas := true } }

theorem State.begin_asks (hasks : s.start.state = 3 ∨ s.afterLoss = true) :
    ¬(((s.begin tag 0x0004).start.canvasWait || decide ((s.begin tag 0x0004).start.state = 3) ||
      ((s.begin tag 0x0004).started && (s.begin tag 0x0004).canvas.lost &&
        decide ((s.begin tag 0x0004).mode.mode = .safe))) = false) := by
  show ¬((s.start.canvasWait || decide (s.start.state = 3) || s.afterLoss) = false)
  rcases hasks with h | h <;> simp [h]

/-- LOAD_CANVAS of an image that fails (R84). -/
theorem exec_loadCanvas_invalid (hasks : s.start.state = 3 ∨ s.afterLoss = true) (store : Bool)
    (hbad : (s.verifyHost (b.take len) store).code ≠ 0) :
    exec (.loadCanvas tag (some b) len store) s =
      .next (s.imageFails tag 0x0004 (s.verifyHost (b.take len) store)) := by
  show execLoadCanvas tag (some b) len store s = _
  rw [execLoadCanvas, State.serve_of_boot s tag (by decide)]
  dsimp only
  rw [if_neg (State.begin_asks tag hasks), State.verifyHost_congr (s.begin_vault tag 0x0004), if_pos hbad]
  rfl

/-- LOAD_CANVAS in the halted state stores a valid image (R72, R92). -/
theorem exec_loadCanvas_halted (hhalt : s.start.state = 3) (hwait : s.start.canvasWait = false)
    (hgood : (s.verifyHost (b.take len) true).code = 0) :
    exec (.loadCanvas tag (some b) len true) s =
      .next (((s.begin tag 0x0004).writeSlot s.targetSlot (hostImage b len) true).complete tag St.ok) := by
  have hloss : ¬(((s.begin tag 0x0004).started && (s.begin tag 0x0004).canvas.lost &&
      decide ((s.begin tag 0x0004).mode.mode = .safe)) = true) := by
    have hstarted : (s.begin tag 0x0004).started = false := by simp [State.started, hhalt]
    simp [hstarted]
  show execLoadCanvas tag (some b) len true s = _
  rw [execLoadCanvas, State.serve_of_boot s tag (by decide)]
  dsimp only
  rw [if_neg (State.begin_asks tag (.inl hhalt)), State.verifyHost_congr (s.begin_vault tag 0x0004),
    if_neg (not_not.mpr hgood), if_pos rfl, State.storeImage, State.writeSlot_start, State.begin_start, hwait,
    if_neg Bool.false_ne_true, if_neg hloss, State.targetSlot_congr (s.begin_vault tag 0x0004)]
  rfl

/-- LOAD_CANVAS of a valid image after a loss puts it in force (R94). -/
theorem exec_loadCanvas_recovers (hloss : s.afterLoss = true) (hwait : s.start.canvasWait = false)
    (hgood : (s.verifyHost (b.take len) false).code = 0) :
    exec (.loadCanvas tag (some b) len false) s =
      .next (((s.begin tag 0x0004).recovered (hostImage b len)).complete tag St.ok) := by
  have hloss' : ((s.begin tag 0x0004).started && (s.begin tag 0x0004).canvas.lost &&
      decide ((s.begin tag 0x0004).mode.mode = .safe)) = true := hloss
  show execLoadCanvas tag (some b) len false s = _
  rw [execLoadCanvas, State.serve_of_boot s tag (by decide)]
  dsimp only
  rw [if_neg (State.begin_asks tag (.inr hloss)), State.verifyHost_congr (s.begin_vault tag 0x0004),
    if_neg (not_not.mpr hgood), if_neg Bool.false_ne_true, State.begin_start, hwait, if_neg Bool.false_ne_true,
    if_pos hloss', if_neg Bool.false_ne_true]
  rfl

end LoadCanvas

/-- What stands after the module has taken a Canvas again (R94). -/
theorem State.recovered_standing (u : State) (img : Bytes) :
    (u.recovered img).canvas.active = some img ∧ (u.recovered img).canvas.lost = false ∧
      (u.recovered img).ret.tested = false ∧ (u.recovered img).cx.rings.length = u.cx.rings.length := by
  have hstand := (u.raiseArb (imgSvn img)).activate_standing img 3 (changedTypes [] img)
  have hrecheck : (u.recovered img).standing =
      ((u.raiseArb (imgSvn img)).activate img 3 (changedTypes [] img)).standing := rfl
  have hcanvas := State.canvas_of_standing (hrecheck.trans hstand)
  have hcount := State.ringCount_of_standing (hrecheck.trans hstand)
  have harb := State.ringCount_of_lessFlash (u.raiseArb_lessFlash (imgSvn img))
  refine ⟨?_, ?_, rfl, hcount.trans harb⟩
  all_goals rw [hcanvas]; rfl

section Loaded

variable {s : State} (hrings : s.cx.rings.length = 16) (tag : CmdTag)
include hrings

theorem loadCanvas_wrongMode {b : Bytes} {len : Nat} {store : Bool} (hwait : s.start.canvasWait = false)
    (hgoes : s.start.state = 0) (hheld : s.canvas.lost = false) : ∃ t,
    exec (.loadCanvas tag (some b) len store) s = .next t ∧ Refused s t tag St.wrongMode :=
  ⟨_, exec_loadCanvas_wrongMode tag b len hwait (by omega) hheld store,
    refused_of_accepted (by omega) 0x0004 St.wrongMode⟩

/-- LOAD_CANVAS in the halted state (R72, R92). -/
theorem loadCanvas_halted (b : Bytes) (len : Nat) (hhalt : s.start.state = 3)
    (hwait : s.start.canvasWait = false) : ∃ t,
    exec (.loadCanvas tag (some b) len true) s = .next t ∧ t.canvas.active = s.canvas.active ∧
    ((s.verifyHost (b.take len) true).code = 0 → (t.cslot s.targetSlot).marker = true ∧ Told t tag St.ok ∧
      (t.cslot s.targetSlot).image = hostImage b len) ∧
    ((s.verifyHost (b.take len) true).code ≠ 0 → Told t tag St.canvasInvalid ∧ t.canvas.slotA = s.canvas.slotA ∧
      t.canvas.slotB = s.canvas.slotB ∧ t.canvas.verr = (s.verifyHost (b.take len) true).code) := by
  by_cases hgood : (s.verifyHost (b.take len) true).code = 0
  · have hexec := exec_loadCanvas_halted tag b len hhalt hwait hgood
    have hslot := (s.begin tag 0x0004).writeSlot_cslot s.targetSlot (hostImage b len) true
    have hleft := ((s.begin tag 0x0004).writeSlot_lessFlash s.targetSlot (hostImage b len) true).trans
      (State.lessFlash_of_standing (s.begin_standing tag 0x0004))
    generalize (s.begin tag 0x0004).writeSlot s.targetSlot (hostImage b len) true = u at hexec hslot hleft
    have hcanvas := u.complete_canvas tag St.ok []
    have hloaded := (State.cslot_congr (congrArg CanvasSt.vault hcanvas) s.targetSlot).trans hslot
    refine ⟨_, hexec, ?_, fun _ => ⟨?_, told_of_ringCount hrings tag (State.ringCount_of_lessFlash hleft) _ _, ?_⟩,
      fun h => absurd hgood h⟩
    · rw [hcanvas, State.active_of_lessFlash hleft]
    · rw [hloaded]
    · rw [hloaded]
  · have hexec := exec_loadCanvas_invalid tag b len (.inl hhalt) true hgood
    obtain ⟨htold, -, hcanvas⟩ := State.imageFails_leaves hrings tag 0x0004 (s.verifyHost (b.take len) true)
    refine ⟨_, hexec, ?_, fun h => absurd h hgood, fun _ => ⟨htold, ?_, ?_, ?_⟩⟩ <;> rw [hcanvas]

/-- LOAD_CANVAS after a loss (R94). -/
theorem loadCanvas_afterLoss (b : Bytes) (len : Nat) (hstarted : s.started = true) (hlost : s.canvas.lost = true)
    (hsafe : s.mode.mode = .safe) (hwait : s.start.canvasWait = false) : ∃ t,
    exec (.loadCanvas tag (some b) len false) s = .next t ∧
    ((s.verifyHost (b.take len) false).code = 0 → t.canvas.lost = false ∧ t.ret.tested = false ∧ Told t tag St.ok ∧
      t.canvas.active = some (hostImage b len)) ∧
    ((s.verifyHost (b.take len) false).code ≠ 0 → t.canvas.lost = true ∧ t.canvas.active = s.canvas.active ∧
      t.ret = s.ret ∧ Told t tag St.canvasInvalid) := by
  have hloss : s.afterLoss = true := by simp [State.afterLoss, hstarted, hlost, hsafe]
  by_cases hgood : (s.verifyHost (b.take len) false).code = 0
  · have hexec := exec_loadCanvas_recovers tag b len hloss hwait hgood
    obtain ⟨hactive, hheld, htested, hcount⟩ := (s.begin tag 0x0004).recovered_standing (hostImage b len)
    have hbegun := State.ringCount_of_standing (s.begin_standing tag 0x0004)
    generalize (s.begin tag 0x0004).recovered (hostImage b len) = u at hexec hactive hheld htested hcount
    refine ⟨_, hexec, fun _ => ⟨?_, ?_, told_of_ringCount hrings tag (hcount.trans hbegun) _ _, ?_⟩,
      fun h => absurd hgood h⟩
    · rw [State.complete_canvas, hheld]
    · rw [State.complete_ret, htested]
    · rw [State.complete_canvas, hactive]
  · have hexec := exec_loadCanvas_invalid tag b len (.inr hloss) false hgood
    obtain ⟨htold, hret, hcanvas⟩ := State.imageFails_leaves hrings tag 0x0004 (s.verifyHost (b.take len) false)
    refine ⟨_, hexec, fun h => absurd h hgood, fun _ => ⟨?_, ?_, hret, htold⟩⟩
    · rw [hcanvas, hlost]
    · rw [hcanvas]

end Loaded

/-! ### CANVAS_PREPARE (R95) -/

/-- A staged change that expires `ms` milliseconds after an instant. -/
def stagedAt (img : Bytes) (store : Bool) (ms clk : Nat) (slotB : Bool) : Staged :=
  { image := img, store := store, timeoutNs := ms * 1000000, expires := some (clk + ms * 1000000), slotB := slotB }

section Prepare

variable {s : State} (hs : Serves s) (tag : CmdTag) (b : Bytes) (len : Nat) {ms : Nat} (hmin : 100 ≤ ms)
  (hmax : ms ≤ 600000) (store : Bool)
include hs hmin hmax

theorem canvasPrepare_busy (hbusy : s.canvas.staged.isSome = true) : ∃ t,
    exec (.canvasPrepare tag (some b) len ms store) s = .next t ∧ Refused s t tag St.busy := by
  refine ⟨_, ?_, refused_of_begun hs tag 0x0005 St.busy []⟩
  show execCanvasPrepare tag (some b) len ms store s = _
  rw [execCanvasPrepare, State.serve_eq hs, if_neg (by omega), State.begin_canvas, if_pos hbusy]
  rfl

variable (hfree : s.canvas.staged = none)
include hfree

theorem exec_canvasPrepare_invalid (hbad : (s.verifyHost (b.take len) store).code ≠ 0) :
    exec (.canvasPrepare tag (some b) len ms store) s =
      .next (s.imageFails tag 0x0005 (s.verifyHost (b.take len) store)) := by
  show execCanvasPrepare tag (some b) len ms store s = _
  rw [execCanvasPrepare, State.serve_eq hs, if_neg (by omega), State.begin_canvas, hfree, if_neg (by decide)]
  dsimp only
  rw [State.verifyHost_congr (s.begin_vault tag 0x0005), if_pos hbad]
  rfl

/-- CANVAS_PREPARE stages a valid image; with STORE set it is in its slot, without the marker. -/
theorem exec_canvasPrepare (hgood : (s.verifyHost (b.take len) store).code = 0) : ∃ (u : State) (d : List (Nat × Nat)),
    u.lessFlash = s.lessFlash ∧ exec (.canvasPrepare tag (some b) len ms store) s =
      .next ((u.withCanvas { u.canvas with
        staged := some (stagedAt (hostImage b len) store ms u.clk s.targetSlot) }).complete tag St.ok d) := by
  have hless : (if store = true then (s.begin tag 0x0005).writeSlot s.targetSlot (hostImage b len) false
      else s.begin tag 0x0005).lessFlash = s.lessFlash := by
    have hbegun := State.lessFlash_of_standing (s.begin_standing tag 0x0005)
    split
    · exact (State.writeSlot_lessFlash _ _ _ _).trans hbegun
    · exact hbegun
  show ∃ u d, State.lessFlash u = _ ∧ execCanvasPrepare tag (some b) len ms store s = _
  rw [execCanvasPrepare, State.serve_eq hs, if_neg (by omega), State.begin_canvas, hfree, if_neg (by decide)]
  dsimp only
  rw [State.verifyHost_congr (s.begin_vault tag 0x0005), if_neg (not_not.mpr hgood),
    State.targetSlot_congr (s.begin_vault tag 0x0005)]
  exact ⟨_, _, hless, rfl⟩

theorem canvasPrepare_stages : ∃ t, exec (.canvasPrepare tag (some b) len ms store) s = .next t ∧
    t.canvas.active = s.canvas.active ∧
    ((s.verifyHost (b.take len) store).code = 0 → Told t tag St.ok ∧
      t.canvas.staged = some (stagedAt (hostImage b len) store ms s.clk s.targetSlot)) ∧
    ((s.verifyHost (b.take len) store).code ≠ 0 → Told t tag St.canvasInvalid ∧ t.canvas.staged = none) := by
  obtain ⟨-, -, hrings⟩ := id hs
  by_cases hgood : (s.verifyHost (b.take len) store).code = 0
  · obtain ⟨u, d, hless, hexec⟩ := exec_canvasPrepare hs tag b len hmin hmax store hfree hgood
    rw [State.clk_of_lessFlash hless] at hexec
    generalize hv : u.withCanvas _ = v at hexec
    have hactive : v.canvas.active = s.canvas.active := by
      rw [← hv]; exact State.active_of_lessFlash (t := u) hless
    have hcount : v.cx.rings.length = s.cx.rings.length := by
      rw [← hv]; exact State.ringCount_of_lessFlash (t := u) hless
    refine ⟨_, hexec, ?_, fun _ => ⟨told_of_ringCount hrings tag hcount _ _, ?_⟩, fun h => absurd hgood h⟩
    · rw [State.complete_canvas, hactive]
    · rw [State.complete_canvas, ← hv]; rfl
  · have hexec := exec_canvasPrepare_invalid hs tag b len hmin hmax store hfree hgood
    obtain ⟨htold, -, hcanvas⟩ := State.imageFails_leaves hrings tag 0x0005 (s.verifyHost (b.take len) store)
    refine ⟨_, hexec, ?_, fun h => absurd h hgood, fun _ => ⟨htold, ?_⟩⟩
    · rw [hcanvas]
    · rw [hcanvas, hfree]

end Prepare

/-! ### CANVAS_COMMIT, CANVAS_ABORT and the timeout (R97, R100) -/

section Staged

variable {s : State} (tag : CmdTag) {st : Staged} (hstaged : s.canvas.staged = some st) (hopen : s.canvas.commit = none)
include hstaged hopen

theorem canvasCommit_waits (hs : Serves s) : ∃ t, exec (.canvasCommit tag 0) s = .next t ∧
    { t with canvas := s.canvas, cx := s.cx } = s ∧
    t.canvas = { s.canvas with
      staged := some { st with expires := none }, commit := some { tag := tag, at_ := 0 } } := by
  refine ⟨(s.begin tag 0x0006).withCanvas { s.canvas with
    staged := some { st with expires := none }, commit := some { tag := tag, at_ := 0 } }, ?_, rfl, rfl⟩
  show execCanvasCommit tag 0 s = _
  rw [execCanvasCommit, State.serve_eq hs, State.begin_canvas, hstaged, hopen]
  rfl

theorem canvasCommit_late (hs : Serves s) {at_ : TimeWord} (hat : at_ ≠ 0)
    (hnear : s.fromWord at_ < s.time.now + 2000000 * nsUnit) : ∃ t,
    exec (.canvasCommit tag at_) s = .next t ∧ Refused s t tag St.late := by
  have hword : (s.begin tag 0x0006).fromWord at_ = s.fromWord at_ := rfl
  refine ⟨_, ?_, refused_of_begun hs tag 0x0006 St.late []⟩
  show execCanvasCommit tag at_ s = _
  rw [execCanvasCommit, State.serve_eq hs, State.begin_canvas, hstaged, hopen]
  dsimp only
  rw [Option.isSome_none, if_neg Bool.false_ne_true, if_neg hat, hword, State.begin_time, if_pos ⟨hat, hnear⟩]
  rfl

omit hstaged in
/-- Without a commit that waits, a staged change is dropped without a completion. -/
theorem State.dropStaged_of_noCommit : s.dropStaged = s.withCanvas { s.canvas with staged := none } := by
  have hcanvas : { s.canvas with staged := none, commit := none } = { s.canvas with staged := none } := by rw [← hopen]
  rw [State.dropStaged, hopen, hcanvas]
  rfl

theorem canvasAbort_drops (hs : Serves s) (hswitch : s.red.switching = none) : ∃ t,
    exec (.canvasAbort tag) s = .next t ∧ Answered s t tag St.ok ∧ t.canvas = { s.canvas with staged := none } ∧
    ExchangeOnly { s with canvas := { s.canvas with staged := none } } t := by
  have hdrop : (s.begin tag 0x0007).dropStaged = (s.begin tag 0x0007).withCanvas { s.canvas with staged := none } :=
    State.dropStaged_of_noCommit (s := s.begin tag 0x0007) hopen
  refine ⟨_, ?_, answered_withCanvas hs tag 0x0007 { s.canvas with staged := none } St.ok []⟩
  show execCanvasAbort tag s = _
  rw [execCanvasAbort, State.serve_eq hs, State.begin_red, hswitch, State.begin_canvas, hstaged]
  dsimp only
  rw [hdrop]
  rfl

omit hstaged in
theorem canvasTimeout_drops {a : Nat} (hexpires : s.canvas.staged = some { st with expires := some a }) : ∃ t,
    exec .canvasTimeout s = .next t ∧ t.clk = max s.clk a ∧ t.canvas = { s.canvas with staged := none } ∧
    t.cx.evtSeq = seqNext s.cx.evtSeq := by
  have hdrop : (s.waitClk a).dropStaged = (s.waitClk a).withCanvas { s.canvas with staged := none } :=
    State.dropStaged_of_noCommit (s := s.waitClk a) hopen
  refine ⟨((s.waitClk a).withCanvas { s.canvas with staged := none }).raise 0x0018 [(4, imgGen st.image)],
    ?_, ?_, ?_, ?_⟩
  · show execCanvasTimeout s = _
    rw [execCanvasTimeout, hexpires]
    dsimp only
    rw [hdrop]
    rfl
  · rw [State.raise_clk]; exact s.waitClk_clk a
  · rw [State.raise_canvas]; rfl
  · rw [State.raise_evtSeq _ _ (packItems_addr_length _)]; rfl

end Staged

end Sys2Proof.Machine
end

section
/-!
The activation of a staged change, the checks of the copy in memory with the loss of a Canvas, and the statement about
the life of a Canvas (R94, R97 to R99).
-/

namespace Sys2Proof.Machine

open Sys2Proof.Stated

/-! ### Activation (R97 to R99) -/

section Activation

variable {s : State} {tag : CmdTag} {st : Staged} (hstaged : s.canvas.staged = some st)
  (hcommit : s.canvas.commit = some { tag := tag, at_ := 0 })

/-- The state without the commit that waited. -/
def State.committed (s : State) : State := s.withCanvas { s.canvas with commit := none }

include hstaged hcommit in
theorem exec_canvasActivation : exec .canvasActivation s = .next (s.committed.activateStaged tag st) := by
  have hnow : s.waitTime 0 = s := if_neg (Nat.not_lt_zero _)
  show execCanvasActivation s = _
  rw [execCanvasActivation, hcommit, hstaged]
  dsimp only
  rw [hnow]
  rfl

include hstaged hcommit in
/-- A class that the mode forbids: the Canvas stays staged and its timeout starts again (R97). -/
theorem canvasActivation_refused (hrings : s.cx.rings.length = 16)
    (hforbids : classMode (changeClass (s.canvas.active.getD []) st.image) s.mode.mode.code = false) : ∃ t,
    exec .canvasActivation s = .next t ∧ t.canvas = { s.canvas with
      commit := none, staged := some { st with expires := some (s.clk + st.timeoutNs) } } ∧
    Answered s t tag St.wrongMode := by
  have hexec := exec_canvasActivation hstaged hcommit
  rw [State.activateStaged, if_pos (.inl hforbids), State.commitRefused] at hexec
  refine ⟨_, hexec, ?_, ?_⟩
  · rw [State.complete_clk, State.complete_canvas]; rfl
  · exact State.completeWith_answered (s := s.committed) (show tag.ring < s.cx.rings.length by omega) _ _ _

/-- The state as the switch to a staged change finds it: nothing is staged or retained of the Canvas, and its lasers are
held to what the tested flag still permits (R97). -/
def State.switching (s : State) (types : List Nat) : State :=
  State.lasersRecheck { s with
    store := { s.store with canvas := false }
    canvas := { s.canvas with staged := none, commit := none }
    ret := { s.ret with tested := s.ret.tested && !types.contains 14 } }

/-- The slot is marked and the anti-rollback counter rises before the image is in force (R97). -/
def State.marked (s : State) (st : Staged) (types : List Nat) : State :=
  let u := s.switching types
  (if st.store then u.setSlot st.slotB { image := st.image, marker := true } else u).raiseArb (imgSvn st.image)

/-- The switch to a staged change, as far as the image is in force. -/
def State.switched (s : State) (st : Staged) (types : List Nat) : State :=
  (s.marked st types).activate st.image (if st.store then 1 + ofBool st.slotB else 3) types

/-- The old digest counts on for 10 ms where the digest has changed (R99). -/
def State.graced (s : State) (digest : Bytes) : State :=
  if s.sysDigest = digest then s
  else { s with canvas := { s.canvas with oldDigest := digest, graceEnd := some (s.clk + 10000000) } }

theorem State.marked_lessFlash (s : State) (st : Staged) (types : List Nat) :
    (s.marked st types).lessFlash = (s.switching types).lessFlash := by
  rw [State.marked, State.raiseArb_lessFlash]
  split
  · exact State.setSlot_lessFlash _ _ _
  · rfl

/-- What stands of the Canvas block after the switch. -/
theorem State.switched_leaves (s : State) (st : Staged) (types : List Nat) :
    (s.switched st types).canvas.active = some st.image ∧ (s.switched st types).canvas.staged = none ∧
      (s.switched st types).canvas.commit = none ∧ (s.switched st types).canvas.checkAt = s.clk + 60000000000 ∧
      (s.switched st types).cx.rings.length = s.cx.rings.length := by
  have hless := s.marked_lessFlash st types
  have hstand := (s.marked st types).activate_standing st.image (if st.store then 1 + ofBool st.slotB else 3) types
  have hstaged := State.staged_of_lessFlash hless
  have hcommit := State.commit_of_lessFlash hless
  have hrings := State.ringCount_of_lessFlash hless
  have hclk : (s.marked st types).clk = s.clk := (State.clk_of_lessFlash hless).trans rfl
  have hcount := State.ringCount_of_standing hstand
  rw [State.switched, State.canvas_of_standing hstand, ← hclk]
  exact ⟨rfl, hstaged, hcommit, rfl, hcount.trans hrings⟩

theorem State.graced_leaves (s : State) (digest : Bytes) : (s.graced digest).canvas.active = s.canvas.active ∧
    (s.graced digest).canvas.staged = s.canvas.staged ∧ (s.graced digest).canvas.commit = s.canvas.commit ∧
    (s.graced digest).canvas.checkAt = s.canvas.checkAt ∧ (s.graced digest).cx = s.cx := by
  unfold State.graced
  split <;> exact ⟨rfl, rfl, rfl, rfl, rfl⟩

theorem State.commitDone_leaves {s : State} (hrings : s.cx.rings.length = 16) (tag : CmdTag) (cls : Nat)
    (store : Bool) : (s.commitDone tag cls store).canvas = s.canvas ∧ Told (s.commitDone tag cls store) tag St.ok := by
  refine ⟨?_, told_of_ringCount hrings tag ?_ _ _⟩
  · rw [State.commitDone, State.complete_canvas, State.raise_canvas]
  · rw [State.raise_rings]

/-- An activation that the mode permits, outside mode 10: the steps of R97 in their order. -/
theorem State.activateStaged_permitted {s : State} (tag : CmdTag) (st : Staged)
    (hclass : classMode (changeClass (s.canvas.active.getD []) st.image) s.mode.mode.code = true)
    (hstays : s.modeStays st.image = true) (hmode : s.mode.mode ≠ .maintain) :
    s.committed.activateStaged tag st =
      ((s.switched st (changedTypes (s.canvas.active.getD []) st.image)).graced s.sysDigest).commitDone tag
        (changeClass (s.canvas.active.getD []) st.image) st.store := by
  have hplanned (types : List Nat) : (decide (s.mode.mode = .maintain) && types.contains 8) = false := by simp [hmode]
  have hstays' : s.committed.modeStays st.image = true := hstays
  unfold State.activateStaged
  extract_lets old types cls planned digest s1 s2 s3 s4 s5
  have hplan : planned = false := hplanned _
  rw [if_neg, if_neg]
  · rfl
  · simp [hplan]
  · rintro (h | h | h)
    · exact absurd (hclass.symm.trans h) (by decide)
    · exact absurd (hstays'.symm.trans h) (by decide)
    · exact absurd h.1 (by simp [hplan])

include hstaged hcommit in
/-- A commit takes effect (R97). -/
theorem canvasActivation_takesEffect (hrings : s.cx.rings.length = 16)
    (hclass : classMode (changeClass (s.canvas.active.getD []) st.image) s.mode.mode.code = true)
    (hstays : s.modeStays st.image = true) (hmode : s.mode.mode ≠ .maintain) : ∃ t,
    exec .canvasActivation s = .next t ∧ t.canvas.active = some st.image ∧ t.canvas.staged = none ∧
    t.canvas.commit = none ∧ t.canvas.checkAt = s.clk + 60000000000 ∧ Told t tag St.ok := by
  have hexec := exec_canvasActivation hstaged hcommit
  rw [State.activateStaged_permitted tag st hclass hstays hmode] at hexec
  obtain ⟨hactive, hnone, hdone, hcheck, hcount⟩ :=
    s.switched_leaves st (changedTypes (s.canvas.active.getD []) st.image)
  obtain ⟨hactive', hnone', hdone', hcheck', hcx⟩ :=
    (s.switched st (changedTypes (s.canvas.active.getD []) st.image)).graced_leaves s.sysDigest
  obtain ⟨hcanvas, htold⟩ := State.commitDone_leaves
    ((congrArg (fun x : CxSt => x.rings.length) hcx).trans (hcount.trans hrings)) tag
    (changeClass (s.canvas.active.getD []) st.image) st.store
  refine ⟨_, hexec, ?_, ?_, ?_, ?_, htold⟩ <;> rw [hcanvas]
  · exact hactive'.trans hactive
  · exact hnone'.trans hnone
  · exact hdone'.trans hdone
  · exact hcheck'.trans hcheck

end Activation

/-! ### The copy in memory and the old digest (R94, R99) -/

section Digest

variable {s : State}

/-- The state at the instant of a check, with the next one due. -/
def State.checked (s : State) : State :=
  (s.waitClk s.canvas.checkAt).withCanvas { s.canvas with checkAt := (s.waitClk s.canvas.checkAt).clk + 60000000000 }

theorem exec_canvasDigestCheck (hactive : s.canvas.active.isSome = true) (hstarted : s.started = true) :
    exec .canvasDigestCheck s = .next s.checked.checkCanvas := by
  show execCanvasDigestCheck s = _
  rw [execCanvasDigestCheck, if_neg (by simp [hstarted, Option.isSome_iff_ne_none.mp hactive])]
  rfl

theorem canvasDigestCheck_passes (hactive : s.canvas.active.isSome = true) (hstarted : s.started = true)
    (hgood : badSection s.canvas.memory = none) : ∃ t, exec .canvasDigestCheck s = .next t ∧
    t.clk = max s.clk s.canvas.checkAt ∧ t.canvas = { s.canvas with checkAt := t.clk + 60000000000 } ∧
    TimeOnly s { t with canvas := s.canvas } := by
  have hpass : s.checked.checkCanvas = s.checked := by
    rw [State.checkCanvas, show s.checked.canvas.memory = s.canvas.memory from rfl, hgood]
  exact ⟨s.checked, by rw [exec_canvasDigestCheck hactive hstarted, hpass], s.waitClk_clk _, rfl, rfl⟩

theorem State.portOffNow_conduct (s : State) (p : Nat) : (s.portOffNow p).conduct = s.conduct := by
  unfold State.portOffNow
  dsimp only
  rw [State.eachLane_conduct, State.setPort_conduct, State.linkDown_conduct]

theorem State.mode_of_footing {s t : State} (h : t.footing = s.footing) : t.mode.mode = s.mode.mode := by
  have := congrArg (·.mode.mode) h; exact this

theorem State.clearCanvasRegs_leaves (s : State) : s.clearCanvasRegs.canvas = { s.canvas with active := none } ∧
    s.clearCanvasRegs.mode.mode = s.mode.mode := by
  have hstand := (State.queueRegs_standing _).trans
    (s.withCanvas { s.canvas with active := none }).geometryRegs_standing
  have hfoot := (State.queueRegs_footing _).trans
    (s.withCanvas { s.canvas with active := none }).geometryRegs_footing
  exact ⟨State.canvas_of_standing hstand, State.mode_of_footing hfoot⟩

theorem State.updateView_of_noCanvas {s : State} (h : s.canvas.active = none) : s.updateView = s := by
  rw [State.updateView, if_pos (by rw [h]; rfl)]

/-- A state whose Canvas is lost: nothing of it is in memory or retained, and no old digest counts (R94). -/
def State.withoutCanvas (s : State) (x : RetainStore) : State :=
  let t := { s with store := { x with canvas := false } }
  { t with canvas := { t.canvas with memory := [], source := 0, lost := true, graceEnd := none } }

theorem State.loseCanvas_eq (s : State) (i : Nat) : ∃ u : State, u.mode.mode = .safe ∧
    s.loseCanvas i = (u.clearCanvasRegs.withoutCanvas u.store).updateView := by
  have hoff (u : State) (l : List Nat) : (u.each l State.portOffNow).mode.mode = u.mode.mode :=
    State.mode_of_conduct (u.each_conduct l State.portOffNow_conduct)
  obtain ⟨v, hv⟩ : ∃ v, v = (s.raise 0x0019 [(4, s.canvasGen), (1, i)]).autoMode .safe 3 := ⟨_, rfl⟩
  refine ⟨v.each (v.ports.map Prod.fst) State.portOffNow, ?_, ?_⟩
  · rw [hoff, hv]
    exact (State.autoMode_safe_keeps _ 3).1
  · unfold State.loseCanvas State.withoutCanvas
    rw [hv]

theorem State.withoutCanvas_leaves {s : State} (h : s.canvas.active = none) (x : RetainStore) :
    (s.withoutCanvas x).updateView.canvas.lost = true ∧ (s.withoutCanvas x).updateView.canvas.active = none ∧
      (s.withoutCanvas x).updateView.mode = s.mode := by
  rw [State.updateView_of_noCanvas (s := s.withoutCanvas x) h]
  exact ⟨rfl, h, rfl⟩

/-- Losing the Canvas leaves the module in mode 1 with none active (R94). -/
theorem State.loseCanvas_leaves (s : State) (i : Nat) : (s.loseCanvas i).canvas.lost = true ∧
    (s.loseCanvas i).canvas.active = none ∧ (s.loseCanvas i).mode.mode = .safe := by
  obtain ⟨u, hsafe, heq⟩ := s.loseCanvas_eq i
  obtain ⟨hcanvas, hmode⟩ := u.clearCanvasRegs_leaves
  obtain ⟨hlost, hactive, hkept⟩ := State.withoutCanvas_leaves (congrArg CanvasSt.active hcanvas) u.store
  rw [heq, hkept]
  exact ⟨hlost, hactive, hmode.trans hsafe⟩

theorem canvasDigestCheck_loses (hactive : s.canvas.active.isSome = true) (hstarted : s.started = true)
    (hbad : badSection s.canvas.memory ≠ none) (hslot : s.reloadSlot = none) : ∃ t,
    exec .canvasDigestCheck s = .next t ∧ t.canvas.lost = true ∧ t.canvas.active = none ∧ t.mode.mode = .safe := by
  obtain ⟨i, hi⟩ := Option.ne_none_iff_exists'.mp hbad
  have hlose : s.checked.checkCanvas = s.checked.loseCanvas i := by
    rw [State.checkCanvas, show s.checked.canvas.memory = s.canvas.memory from rfl, hi,
      State.reloadSlot_congr (t := s.checked) (s := s) rfl, hslot]
  exact ⟨_, by rw [exec_canvasDigestCheck hactive hstarted, hlose], s.checked.loseCanvas_leaves i⟩

theorem digestGraceExpire_ends {a : Nat} (hgrace : s.canvas.graceEnd = some a) : ∃ t,
    exec .digestGraceExpire s = .next t ∧ t.canvas.graceEnd = none ∧ t.clk = max s.clk a ∧
    t.canvas.active = s.canvas.active := by
  have hstand := ((s.waitClk a).withCanvas { s.canvas with graceEnd := none }).updateView_standing
  have hcanvas := State.canvas_of_standing hstand
  have hnone := congrArg CanvasSt.graceEnd hcanvas
  have hactive := congrArg CanvasSt.active hcanvas
  have hclk := State.clk_of_standing hstand
  refine ⟨_, ?_, hnone, hclk.trans (s.waitClk_clk a), hactive⟩
  show execDigestGraceExpire s = _
  rw [execDigestGraceExpire, hgrace]
  rfl

end Digest

/-! ### KEY_REVOKE (R81) -/

theorem keyRevoke_revokes {s : State} (hs : Serves s) (tag : CmdTag) {k : Nat} (hk : k < 4)
    (hnone : s.canvas.active = none) : ∃ t, exec (.keyRevoke tag k) s = .next t ∧ Answered s t tag St.ok ∧
    t.canvas = { s.canvas with keys := lset s.canvas.keys k { lget {} s.canvas.keys k with revoked := true } } ∧
    { t with canvas := s.canvas, cx := s.cx, host := s.host } = s := by
  obtain ⟨hanswered, hcanvas, hless⟩ := answered_withCanvas hs tag 0x0008
    { s.canvas with keys := lset s.canvas.keys k { lget {} s.canvas.keys k with revoked := true } } St.ok []
  refine ⟨_, ?_, hanswered, hcanvas, ?_⟩
  · show execKeyRevoke tag k s = _
    rw [execKeyRevoke, State.serve_eq hs, State.begin_canvas, hnone]
    dsimp only
    rw [if_neg (by omega), if_neg (by simp)]
    rfl
  · have h := congrArg (fun u : State => u.withCanvas s.canvas) hless
    exact h

/-- Settles O30: each command takes the one course that its clause describes. -/
theorem canvasLifecycle : Obligations.CanvasLifecycle := by
  unfold Obligations.CanvasLifecycle
  intro s tag b len ms a at_ store st
  refine ⟨fun hrings hhalt hwait _ => loadCanvas_halted hrings tag b len hhalt hwait,
    fun hrings hstarted hlost hsafe hwait => loadCanvas_afterLoss hrings tag b len hstarted hlost hsafe hwait,
    fun hrings hgoes hwait hheld => loadCanvas_wrongMode hrings tag hwait hgoes hheld,
    fun hs hmin hmax => ⟨canvasPrepare_stages hs tag b len hmin hmax store,
      canvasPrepare_busy hs tag b len hmin hmax store⟩,
    fun hs hstaged hopen => ⟨canvasCommit_waits tag hstaged hopen hs, canvasCommit_late tag hstaged hopen hs,
      canvasAbort_drops tag hstaged hopen hs⟩,
    fun hrings hstaged hcommit => ⟨canvasActivation_takesEffect hstaged hcommit hrings,
      canvasActivation_refused hstaged hcommit hrings⟩,
    fun hexpires hopen => canvasTimeout_drops hopen hexpires,
    fun hactive hstarted => ⟨canvasDigestCheck_passes hactive hstarted, canvasDigestCheck_loses hactive hstarted⟩,
    digestGraceExpire_ends, fun hs k hk hnone => keyRevoke_revokes hs tag hk hnone⟩

end Sys2Proof.Machine
end

section
/-!
The host's reads of a register that latches others: the read's own word, the words latched with it, and all that the read
leaves as it was (R120, R163, R165, R314, R376, R385, R394, R446, R457).
-/

namespace Sys2Proof.Machine

section Latches

variable {s : State}

theorem State.hostRead_of_barUp (hup : s.barUp = true) (t : Nat) (f : State → State) :
    s.hostRead t f = f (s.granted t 2) := by
  rw [State.hostRead, if_pos hup]

/-- A host read behind a target runs on the state in which the target is granted to the host (R457, R459). -/
theorem next_hostRead (hup : s.barUp = true) (t : Nat) (f : State → State) :
    next (s.hostRead t f) = .next (f (s.granted t 2)) :=
  congrArg next (State.hostRead_of_barUp hup t f)

/-! ### The exchange and the bus matrix (R446, Table 21.10) -/

/-- A ring with its own counters in its latches. -/
def Ring.latched (g : Ring) : Ring := { g with consLatch := g.cons, prodLatch := g.devSeq }

/-- A read of CX_STATE_EPOCH latches the counters of every ring (R446). -/
theorem State.ring_epochLatch (s : State) (r : Nat) : s.epochLatch.ring r = (s.ring r).latched :=
  List.getD_map s.cx.rings {} Ring.latched

theorem exec_bmErrInfoRead (hup : s.barUp = true) : exec .bmErrInfoRead s = .next (s.granted 0 2).errInfoLatch :=
  next_hostRead hup 0 State.errInfoLatch

theorem exec_cxStateEpochRead (hup : s.barUp = true) :
    exec .cxStateEpochRead s = .next (s.granted 0 2).epochLatch :=
  next_hostRead hup 0 State.epochLatch

/-- The fields of BM_ERR_INFO do not show who holds a target. -/
theorem State.regRead_errInfo_granted (s : State) (t m : Nat) : (s.granted t m).regRead 0x20104 = s.regRead 0x20104 := rfl

/-- The fields of CX_STATE_EPOCH do not show who holds a target. -/
theorem State.regRead_stateEpoch_granted (s : State) (t m : Nat) :
    (s.granted t m).regRead 0x10004 = s.regRead 0x10004 := rfl

theorem bmErrInfoRead_latches (hup : s.barUp = true) : ∃ t, exec .bmErrInfoRead s = .next t ∧
    t.bm.errAddrLatch = s.bm.errAddr ∧ t.bm.errValid = false ∧ t.readData = s.regRead 0x20104 ∧
    { t with readData := s.readData, bm := s.bm } = s :=
  ⟨_, exec_bmErrInfoRead hup, rfl, rfl, s.regRead_errInfo_granted 0 2, rfl⟩

theorem cxStateEpochRead_latches (hup : s.barUp = true) : ∃ t, exec .cxStateEpochRead s = .next t ∧
    t.readData = s.regRead 0x10004 ∧ t.cx.evtLatch = s.cx.evtSeq ∧
    (∀ r < s.cx.rings.length, (t.ring r).consLatch = (s.ring r).cons ∧ (t.ring r).prodLatch = (s.ring r).devSeq ∧
      (t.ring r).cons = (s.ring r).cons) ∧
    { t with readData := s.readData, bm := s.bm, cx := s.cx } = s := by
  refine ⟨_, exec_cxStateEpochRead hup, s.regRead_stateEpoch_granted 0 2, rfl, fun r _ => ?_, rfl⟩
  rw [State.ring_epochLatch]
  exact ⟨rfl, rfl, rfl⟩

/-! ### The capture FIFOs (R385, Table 18.10) -/

theorem State.capRead_of_empty {n : Nat} (h : tget [] s.time.caps n = []) : s.capRead n = { s with readData := 0 } := by
  rw [State.capRead, h]

theorem State.capRead_of_cons {n : Nat} {c : Capture} {rest : List Capture} (h : tget [] s.time.caps n = c :: rest) :
    s.capRead n = { s with
      readData := BitVec.ofNat 32 (captureW0 c)
      time := { s.time with
        caps := tset [] s.time.caps n rest
        capLatch := tset 0 s.time.capLatch n c.stamp } } := by
  rw [State.capRead, h]

theorem exec_timCapW0Read (hup : s.barUp = true) {n : Nat} (hn : n < 5) :
    exec (.timCapW0Read n) s = .next ((s.granted 9 2).capRead n) := by
  have hread := next_hostRead hup 9 fun u => if n < 5 then u.capRead n else u
  rwa [if_pos hn] at hread

theorem timCapW0Read_takesOldest (hup : s.barUp = true) {n : Nat} (hn : n < 5) {c : Capture} {rest : List Capture}
    (hedges : tget [] s.time.caps n = c :: rest) : ∃ t, exec (.timCapW0Read n) s = .next t ∧
    t.readData = BitVec.ofNat 32 (captureW0 c) ∧ t.time.caps = tset [] s.time.caps n rest ∧
    t.time.capLatch = tset 0 s.time.capLatch n c.stamp :=
  ⟨_, by rw [exec_timCapW0Read hup hn, State.capRead_of_cons (s := s.granted 9 2) hedges], rfl, rfl, rfl⟩

theorem timCapW0Read_empty (hup : s.barUp = true) {n : Nat} (hn : n < 5) (hempty : tget [] s.time.caps n = []) :
    exec (.timCapW0Read n) s = .next { s.granted 9 2 with readData := 0 } := by
  rw [exec_timCapW0Read hup hn, State.capRead_of_empty (s := s.granted 9 2) hempty]

end Latches

/-- Settles O9: each read is its latching operation on the state in which the host holds the target. -/
theorem latchingReads : Obligations.LatchingReads := by
  unfold Obligations.LatchingReads
  refine ⟨fun s hup => ⟨?_, ?_, ?_, ?_, ?_, bmErrInfoRead_latches hup, cxStateEpochRead_latches hup⟩,
    fun s n hup hn => ⟨fun c rest => timCapW0Read_takesOldest hup hn, timCapW0Read_empty hup hn⟩⟩
  · exact next_hostRead hup 0 State.orbCycleLo
  · exact next_hostRead hup 4 State.loopPeriodLo
  · exact next_hostRead hup 0 State.fdbEpochLatch
  · exact next_hostRead hup 9 State.timNowLatch
  · exact next_hostRead hup 9 State.jumpLoLatch

end Sys2Proof.Machine
end

section
/-!
MX_MON_SEL, MX_MON_DATA and DAC_MON_DATA (R120), with the rules for two fields of one register that such a write stores.
-/

namespace Sys2Proof.Machine

/-! ### Bit fields of a word -/

/-- A field of a word is the top of the word's low bits. -/
theorem bitsOf_eq_mod_div {hi lo : Nat} (hle : lo ≤ hi) (n : Nat) : bitsOf n hi lo = n % 2 ^ (hi + 1) / 2 ^ lo := by
  have hwidth : 2 ^ (hi + 1) = 2 ^ lo * 2 ^ (hi + 1 - lo) := by rw [← pow_add]; congr 1; omega
  rw [bitsOf, hwidth, Nat.mod_mul_right_div_self]

/-- A field below bit `m` does not depend on the bits from `m` on. -/
theorem bitsOf_mod {hi lo m : Nat} (hle : lo ≤ hi) (hm : hi < m) (n : Nat) :
    bitsOf (n % 2 ^ m) hi lo = bitsOf n hi lo := by
  rw [bitsOf_eq_mod_div hle, bitsOf_eq_mod_div hle, Nat.mod_mod_of_dvd n (pow_dvd_pow 2 hm)]

/-- A word with a field replaced: the bits below the field, the field's new value, the bits above it. -/
theorem putBits_eq (n hi lo v : Nat) : putBits n hi lo v =
    n % 2 ^ lo + 2 ^ lo * (v % 2 ^ (hi + 1 - lo) + 2 ^ (hi + 1 - lo) * (n / 2 ^ lo / 2 ^ (hi + 1 - lo))) := by
  have hlow := Nat.mod_add_div n (2 ^ lo)
  have hhigh := Nat.mod_add_div (n / 2 ^ lo) (2 ^ (hi + 1 - lo))
  have hparts : n = n % 2 ^ lo + 2 ^ lo * (2 ^ (hi + 1 - lo) * (n / 2 ^ lo / 2 ^ (hi + 1 - lo))) +
      bitsOf n hi lo * 2 ^ lo := by
    rw [bitsOf]
    linear_combination -hlow - 2 ^ lo * hhigh
  have hrest := Nat.sub_eq_of_eq_add hparts
  rw [putBits, hrest]
  ring

theorem bitsOf_putBits_same (n hi lo v : Nat) : bitsOf (putBits n hi lo v) hi lo = v % 2 ^ (hi + 1 - lo) := by
  rw [putBits_eq, bitsOf, Nat.add_mul_div_left _ _ (by positivity), Nat.div_eq_of_lt (Nat.mod_lt n (by positivity)),
    Nat.zero_add, Nat.add_mul_mod_self_left, Nat.mod_mod]

theorem bitsOf_putBits_below {hi lo hi' lo' : Nat} (hle : lo' ≤ hi') (hlt : hi' < lo) (n v : Nat) :
    bitsOf (putBits n hi lo v) hi' lo' = bitsOf n hi' lo' := by
  have hlow : putBits n hi lo v % 2 ^ lo = n % 2 ^ lo := by rw [putBits_eq, Nat.add_mul_mod_self_left, Nat.mod_mod]
  rw [← bitsOf_mod hle hlt, hlow, bitsOf_mod hle hlt]

/-! ### Two fields of one register -/

/-- A stored field: its bits lie in the word, and its reset value is its bits of the reset word. -/
structure StoredField (f : FieldRef) : Prop where
  lo_le : f.lo ≤ f.hi
  hi_lt : f.hi < 32
  reset_eq : bitsOf (resetWord f.addr).toNat f.hi f.lo = f.reset

namespace StoredField

variable {s t : State} {f g : FieldRef} (hf : StoredField f)
include hf

theorem fld_congr (h : t.regWord f.addr = s.regWord f.addr) : t.fld f = s.fld f := by
  rw [State.fld_eq_bitsOf t f hf.reset_eq, State.fld_eq_bitsOf s f hf.reset_eq, h]

/-- A field reads back the bits stored in it that it has (R4). -/
theorem fld_setFld_same (hrise : keysRise 0 s.regs = true) (v : Nat) :
    (s.setFld f v).fld f = v % 2 ^ (f.hi + 1 - f.lo) := by
  rw [State.fld_eq_bitsOf _ f hf.reset_eq, State.setFld, State.regWord_setRegWord_same hrise, BitVec.toNat_ofNat,
    bitsOf_mod hf.lo_le hf.hi_lt, bitsOf_putBits_same]

/-- A store of a field leaves the fields below it in its register as they were (R4). -/
theorem fld_setFld_above (hrise : keysRise 0 s.regs = true) (haddr : g.addr = f.addr) (hlt : f.hi < g.lo) (v : Nat) :
    (s.setFld g v).fld f = s.fld f := by
  rw [State.fld_eq_bitsOf _ f hf.reset_eq, State.fld_eq_bitsOf s f hf.reset_eq, State.setFld, haddr,
    State.regWord_setRegWord_same hrise, BitVec.toNat_ofNat, bitsOf_mod hf.lo_le hf.hi_lt,
    bitsOf_putBits_below hf.lo_le hlt]

end StoredField

theorem storedField_monSelPort : StoredField Reg.MX_MON_SEL_PORT := ⟨by decide, by decide, by decide⟩

theorem storedField_monSelDir : StoredField Reg.MX_MON_SEL_DIR := ⟨by decide, by decide, by decide⟩

/-! ### The selection of a far port -/

section Select

variable {s : State} {v : Word}

/-- The state in which both fields of MX_MON_SEL are stored. -/
def State.selStored (s : State) (v : Word) : State :=
  (s.setFld Reg.MX_MON_SEL_PORT v.toNat).setFld Reg.MX_MON_SEL_DIR (v.toNat / 512)

/-- The state in which a far port is selected: no read of MX_MON_DATA has been made since (R120). -/
def State.selected (s : State) (v : Word) : State :=
  { s with regs := (s.selStored v).regs, mx := { s.mx with monLatch := none } }

theorem State.monSel_of_far (hfar : 256 ≤ v.toNat % 512) : s.monSel v = s.selected v := by
  rw [State.monSel, if_neg (by omega)]
  rfl

theorem State.monSel_of_near (hnear : v.toNat % 512 < 256) : s.monSel v = s.raise 0x0E06 [(4, 0xE0010)] := by
  rw [State.monSel, if_pos hnear]

theorem State.selected_port (hrise : keysRise 0 s.regs = true) :
    (s.selected v).fld Reg.MX_MON_SEL_PORT = v.toNat % 512 :=
  calc (s.selStored v).fld Reg.MX_MON_SEL_PORT
    _ = (s.setFld Reg.MX_MON_SEL_PORT v.toNat).fld Reg.MX_MON_SEL_PORT :=
      storedField_monSelPort.fld_setFld_above (g := Reg.MX_MON_SEL_DIR) (State.keysRise_setRegWord hrise _ _) rfl
        (by decide) _
    _ = v.toNat % 512 := storedField_monSelPort.fld_setFld_same hrise _

theorem State.selected_dir (hrise : keysRise 0 s.regs = true) :
    (s.selected v).flag Reg.MX_MON_SEL_DIR = bitAt v.toNat 9 := by
  have hfld : (s.selected v).fld Reg.MX_MON_SEL_DIR = v.toNat / 512 % 2 :=
    storedField_monSelDir.fld_setFld_same (State.keysRise_setRegWord hrise _ _) _
  show ((s.selected v).fld Reg.MX_MON_SEL_DIR != 0) = (v.toNat / 512 % 2 == 1)
  rw [hfld]
  rcases Nat.mod_two_eq_zero_or_one (v.toNat / 512) with h | h <;> rw [h] <;> rfl

theorem exec_mxMonSelWrite (hup : s.barUp = true) : exec (.mxMonSelWrite v) s = .next ((s.granted 0 2).monSel v) :=
  congrArg next (State.hostAct_of_barUp hup 0 fun u => u.monSel v)

theorem mxMonSelWrite_selects (hrise : keysRise 0 s.regs = true) (hup : s.barUp = true) (hfar : 256 ≤ v.toNat % 512) :
    ∃ t, exec (.mxMonSelWrite v) s = .next t ∧ t.fld Reg.MX_MON_SEL_PORT = v.toNat % 512 ∧
    t.flag Reg.MX_MON_SEL_DIR = bitAt v.toNat 9 ∧ t.mx.monLatch = none ∧
    { t with regs := s.regs, bm := s.bm, mx := s.mx } = s :=
  ⟨_, (exec_mxMonSelWrite hup).trans (congrArg next (State.monSel_of_far hfar)),
    State.selected_port (s := s.granted 0 2) hrise, State.selected_dir (s := s.granted 0 2) hrise, rfl, rfl⟩

theorem mxMonSelWrite_outOfRange (hup : s.barUp = true) (hnear : v.toNat % 512 < 256) :
    ∃ t, exec (.mxMonSelWrite v) s = .next t ∧ t.mx = s.mx ∧
    t.fld Reg.MX_MON_SEL_PORT = s.fld Reg.MX_MON_SEL_PORT ∧ t.cx.evtSeq = seqNext s.cx.evtSeq := by
  refine ⟨_, (exec_mxMonSelWrite hup).trans (congrArg next (State.monSel_of_near hnear)), State.raise_mx _ _ _, ?_,
    State.raise_evtSeq _ _ (packItems_addr_length _)⟩
  exact storedField_monSelPort.fld_congr (State.raise_regWord (s.granted 0 2) _ _ (by decide))

end Select

/-! ### The monitor words -/

section Monitor

variable {s : State}

theorem exec_mxMonDataRead (hup : s.barUp = true) : exec .mxMonDataRead s = .next (s.granted 0 2).monData :=
  next_hostRead hup 0 State.monData

theorem exec_dacMonDataRead (hup : s.barUp = true) : exec .dacMonDataRead s = .next (s.granted 6 2).dacMonData :=
  next_hostRead hup 6 State.dacMonData

/-- The low half of MX_MON_DATA is the mean of the port selected. -/
theorem State.monData_mean (s : State) : s.monData.readData.toNat % 65536 =
    level16 (tget {} s.mx.far (farKey (s.fld Reg.MX_MON_SEL_PORT) (s.flag Reg.MX_MON_SEL_DIR))).mean % 65536 := by
  simp only [State.monData, BitVec.toNat_ofNat]
  omega

theorem level16_of_nonneg {p : Int} (hmin : 0 ≤ p) (hmax : p < 32768) : level16 (some p) % 65536 = p.toNat := by
  rw [level16, unsigned]
  omega

theorem mxMonDataRead_latches (hup : s.barUp = true) : ∃ t, exec .mxMonDataRead s = .next t ∧
    (∀ m p, tget {} s.mx.far (farKey (s.fld Reg.MX_MON_SEL_PORT) (s.flag Reg.MX_MON_SEL_DIR)) = m →
      m.mean = some p → 0 ≤ p → p < 32768 → t.readData.toNat % 65536 = p.toNat) ∧
    t.mx.monLatch.isSome = true ∧
    { t with readData := s.readData, bm := s.bm, mx := { t.mx with monLatch := s.mx.monLatch } } = s := by
  refine ⟨_, exec_mxMonDataRead hup, fun m p hm hmean hmin hmax => ?_, rfl, rfl⟩
  have hread := State.monData_mean (s.granted 0 2)
  rw [← level16_of_nonneg hmin hmax, ← hmean, ← hm]
  exact hread

/-- The applied and the target code of a heater do not depend on who holds a bus target. -/
theorem State.htrOut_granted (s : State) (t m c : Nat) : (s.granted t m).htrOut c = s.htrOut c := rfl
theorem State.htrTarget_granted (s : State) (t m c : Nat) : (s.granted t m).htrTarget c = s.htrTarget c := rfl

theorem dacMonDataRead_latches (hup : s.barUp = true) : ∃ t, exec .dacMonDataRead s = .next t ∧
    t.dac.monLatch = some (BitVec.ofNat 32
      (s.htrOut (s.fld Reg.DAC_MON_SEL_CELL) + 65536 * s.htrTarget (s.fld Reg.DAC_MON_SEL_CELL))) ∧
    { t with readData := s.readData, bm := s.bm, dac := { t.dac with monLatch := s.dac.monLatch } } = s := by
  refine ⟨_, exec_dacMonDataRead hup, ?_, rfl⟩
  rw [← s.htrOut_granted 6 2, ← s.htrTarget_granted 6 2]
  rfl

end Monitor

/-- Settles O10: a far port is selected, a near one refused, and each read latches the second word of its pair. -/
theorem monitorReads : Obligations.MonitorReads := by
  unfold Obligations.MonitorReads
  intro s v ⟨hrise, _⟩ hup
  exact ⟨mxMonSelWrite_selects hrise hup, mxMonSelWrite_outOfRange hup, mxMonDataRead_latches hup,
    dacMonDataRead_latches hup⟩

end Sys2Proof.Machine
end

section
/-!
The Palette and the stuck table under the host's commands (R125, R126, R128, R132, R134, R551).
-/

namespace Sys2Proof.Machine

open Sys2Proof.Stated

/-! ### The matrix block -/

/-- The state with another state of the matrix block. -/
def State.withMx (s : State) (m : MatrixSt) : State := { s with mx := m }

/-- A completion over a changed matrix block: nothing else but the exchange has moved. -/
theorem State.complete_withMx {s u : State} (hu : u.lessExchange = s.lessExchange) (m : MatrixSt) (tag : CmdTag) (st : Nat)
    (d : List (Nat × Nat)) : ((u.withMx m).complete tag st d).mx = m ∧
      ({ (u.withMx m).complete tag st d with mx := s.mx, cx := s.cx, host := s.host } : State) = s := by
  have hless : ((u.withMx m).complete tag st d).lessExchange = (s.withMx m).lessExchange :=
    (State.complete_lessExchange _ tag st d).trans (congrArg (·.withMx m) hu)
  have h := congrArg (fun v : State => { v with mx := s.mx, cx := s.cx, host := s.host }) hless
  exact ⟨State.complete_mx _ tag st d, h⟩

/-- A command that is accepted, changes the matrix block alone and completes. -/
theorem answered_withMx {s : State} (hs : Serves s) (tag : CmdTag) (op : Nat) (m : MatrixSt) (st : Nat)
    (d : List (Nat × Nat)) : Answered s (((s.begin tag op).withMx m).complete tag st d) tag st ∧
      (((s.begin tag op).withMx m).complete tag st d).mx = m ∧
      ({ ((s.begin tag op).withMx m).complete tag st d with mx := s.mx, cx := s.cx, host := s.host } : State) = s :=
  ⟨answered_of_begun hs (u := (s.begin tag op).withMx m) rfl st d false,
    State.complete_withMx (State.begin_lessExchange s tag op) m tag st d⟩

theorem State.isStuck_begin (s : State) (tag : CmdTag) (op c : Nat) : (s.begin tag op).isStuck c = s.isStuck c := rfl

theorem State.swatch_begin (s : State) (tag : CmdTag) (op n : Nat) : (s.begin tag op).swatch n = s.swatch n := rfl

/-! ### The common refusals (R45, R125) -/

section Gate

variable {s : State} {n : Nat}

theorem State.palGate_badNumber (hn : 1023 < n) (tag : CmdTag) (change : Bool) (f : State → State) :
    s.palGate tag n change f = s.complete tag St.badParam := if_pos hn

theorem State.palGate_inUse (hpwr : s.pwr.state = 0) (hn : n ≤ 1023) (huse : s.inUse n = true) (tag : CmdTag)
    (f : State → State) : s.palGate tag n true f = s.complete tag St.swatchInUse := by
  rw [State.palGate, if_neg (by omega), if_neg (by omega), if_pos ⟨rfl, huse⟩]

theorem State.palGate_passes (hpwr : s.pwr.state = 0) (hn : n ≤ 1023) {change : Bool}
    (hfree : s.inUse n = false ∨ change = false) (tag : CmdTag) (f : State → State) : s.palGate tag n change f = f s := by
  have hpass : ¬(change = true ∧ s.inUse n = true) := by
    rcases hfree with h | h <;> simp [h]
  rw [State.palGate, if_neg (by omega), if_neg (by omega), if_neg hpass]

/-- Behind fewer than 16 requests a request finds room (R128). -/
theorem State.routeQueue_room (hroom : s.mx.queue.length < 16) (r : RouteReq) :
    s.routeQueue r = s.withMx { s.mx with queue := s.mx.queue ++ [r] } := by
  rw [State.routeQueue]
  dsimp only
  rw [if_neg (by split_ifs <;> omega)]
  rfl

end Gate

/-! ### Commands of the Palette (R125, R126, R132, R134) -/

section Commands

variable {s : State} (hs : Serves s) (tag : CmdTag) {n : Nat}
include hs

/-- A command for a swatch past 1023 is refused, whatever it was to do (R125). -/
theorem badNumber_refused (hn : 1023 < n) (op : Nat) (change : Bool) (f : State → State) :
    ∃ t, next (s.serve tag op fun s => s.palGate tag n change f) = .next t ∧ Refused s t tag St.badParam := by
  rw [State.serve_eq hs, State.palGate_badNumber hn]
  exact ⟨_, rfl, refused_of_begun hs tag op _ []⟩

section InL0

variable (hpwr : s.pwr.state = 0) (hn : n ≤ 1023)
include hpwr hn

/-- A command that changes a swatch in use is refused, whatever it was to do (R125). -/
theorem inUse_refused (huse : s.inUse n = true) (op : Nat) (f : State → State) :
    ∃ t, next (s.serve tag op fun s => s.palGate tag n true f) = .next t ∧ Refused s t tag St.swatchInUse := by
  rw [State.serve_eq hs, State.palGate_inUse (s := s.begin tag op) hpwr hn huse]
  exact ⟨_, rfl, refused_of_begun hs tag op _ []⟩

/-- SWATCH_WRITE of a permutation and pins with no reserved bit joins the engine's queue (R126, R128). -/
theorem exec_swatchWrite_queues {p q : Bytes} {cnt : Nat} {only : Bool} (hfree : s.inUse n = false ∨ only = true)
    (hperm : permReserved p = false) (hpins : (pinsOf q cnt).all (fun w => decide (w < 2 ^ 14)) = true) (hcnt : cnt ≠ 0)
    (hroom : s.mx.queue.length < 16) (out : Nat) :
    exec (.swatchWrite tag n (some p) cnt (some q) only out) s =
      .next ((s.begin tag 0x0E01).withMx { s.mx with queue := s.mx.queue ++
        [⟨some tag, n, .write (permOfHost p) ((pinsOf q cnt).map pinOf) only out⟩] }) := by
  have hgood : ¬(permReserved p = true ∨ (pinsOf q cnt).any (fun w => decide (w ≥ 2 ^ 14)) = true) := by
    simpa [hperm] using hpins
  show execSwatchWrite tag n (some p) cnt (some q) only out s = _
  rw [execSwatchWrite, State.serve_eq hs,
    State.palGate_passes (s := s.begin tag 0x0E01) hpwr hn (hfree.imp_right fun h => by rw [h]; rfl), if_neg hcnt]
  dsimp only
  rw [if_neg hgood, State.routeQueue_room (s := s.begin tag 0x0E01) hroom]
  rfl

/-- SWATCH_LOAD of a permutation with no reserved bit joins the engine's queue (R128, R132). -/
theorem exec_swatchLoad_queues {p : Bytes} (hfree : s.inUse n = false) (hperm : permReserved p = false)
    (hroom : s.mx.queue.length < 16) (c : Bytes) :
    exec (.swatchLoad tag n (some p) (some c)) s =
      .next ((s.begin tag 0x0E02).withMx { s.mx with queue := s.mx.queue ++
        [⟨some tag, n, .load (permOfHost p) (leNat (c.take 544))⟩] }) := by
  show execSwatchLoad tag n (some p) (some c) s = _
  rw [execSwatchLoad, State.serve_eq hs, State.palGate_passes (s := s.begin tag 0x0E02) hpwr hn (.inl hfree)]
  dsimp only
  rw [hperm, if_neg Bool.false_ne_true, State.routeQueue_room (s := s.begin tag 0x0E02) hroom]
  rfl

theorem exec_swatchInvalidate (hfree : s.inUse n = false) : exec (.swatchInvalidate tag n) s =
    .next (((s.begin tag 0x0E03).withMx { s.mx with
      palette := tset {} s.mx.palette n
        { s.swatch n with valid := false, generation := seqNext (s.swatch n).generation } }).complete tag St.ok) := by
  show execSwatchInvalidate tag n s = _
  rw [execSwatchInvalidate, State.serve_eq hs, State.palGate_passes (s := s.begin tag 0x0E03) hpwr hn (.inl hfree)]
  rfl

/-- SWATCH_APPLY at the next interval waits for it (R134). -/
theorem exec_swatchApply_waits
    (hmode : s.mode.mode = .edgePersistent ∨ s.mode.mode = .corePersistent ∨ s.mode.mode = .loopbackTest)
    (hvalid : (s.swatch n).valid = true) (hrole : (s.swatch n).roleOk s.mode.mode = true) (happly : s.mx.apply = none) :
    exec (.swatchApply tag n 0) s =
      .next ((s.begin tag 0x0E05).withMx { s.mx with apply := some ⟨tag, n, 0⟩ }) := by
  have hserved : ¬(s.mode.mode ≠ .edgePersistent ∧ s.mode.mode ≠ .corePersistent ∧ s.mode.mode ≠ .loopbackTest) := by
    tauto
  show execSwatchApply tag n 0 s = _
  rw [execSwatchApply, State.serve_eq hs]
  dsimp only
  rw [State.begin_mode, State.begin_mx, State.begin_pwr, State.swatch_begin, hvalid, hrole, happly, if_neg (by omega),
    if_neg (by omega), if_neg hserved, if_neg (by decide), if_neg (by decide), if_neg (by simp), if_neg (by decide),
    if_pos rfl]
  rfl

end InL0

theorem exec_swatchRead (hn : n ≤ 1023) (out : Nat) : exec (.swatchRead tag n out) s =
    .next (((s.begin tag 0x0E04).outData tag out ((s.swatch n).bytes n)).completeWith tag St.ok
      [(4, (s.swatch n).generation)] true) := by
  show execSwatchRead tag n out s = _
  rw [execSwatchRead, State.serve_eq hs, if_neg (by omega)]
  rfl

end Commands

/-! ### The stuck table (R138, R140, R142, R551) -/

/-- `t` is `s` with the stuck table `l` of revision `rev`; what follows an entry in the loops, in the Palette and in events
stands aside. -/
structure StuckTable (s t : State) (l : List StuckEntry) (rev : Nat) : Prop where
  table : t.mx.stuck = l
  revision : t.mx.stuckRev = rev
  mode : t.mode = s.mode
  rings : t.cx.rings = s.cx.rings

/-- The state with a stuck table and its revision. -/
def State.withStuck (s : State) (l : List StuckEntry) (rev : Nat) : State :=
  { s with mx := { s.mx with stuck := l, stuckRev := rev } }

namespace StuckTable

variable {s t : State} {l : List StuckEntry} {rev : Nat}

theorem withStuck (s : State) (l : List StuckEntry) (rev : Nat) : StuckTable s (s.withStuck l rev) l rev :=
  ⟨rfl, rfl, rfl, rfl⟩

/-- The loops of a cell follow the table (R169). -/
theorem refreshCell (h : StuckTable s t l rev) (c : Nat) : StuckTable s (t.refreshCell c) l rev := by
  obtain ⟨hless, -, -⟩ := t.refreshCell_leaves c
  have hmx : (t.refreshCell c).mx = t.mx := by have := congrArg State.mx hless; exact this
  have hrings : (t.refreshCell c).cx.rings = t.cx.rings := by have := congrArg (·.cx.rings) hless; exact this
  exact ⟨by rw [hmx, h.table], by rw [hmx, h.revision], (State.mode_of_lessPairs hless).trans h.mode,
    hrings.trans h.rings⟩

theorem raise (h : StuckTable s t l rev) (code : Nat) (d : List (Nat × Nat)) : StuckTable s (t.raise code d) l rev :=
  ⟨by rw [State.raise_mx, h.table], by rw [State.raise_mx, h.revision], by rw [State.raise_mode, h.mode],
    by rw [State.raise_rings, h.rings]⟩

/-- The marks of the Palette leave the table (R140). -/
theorem markSwatches (h : StuckTable s t l rev) (cell : Nat) (cross : Bool) :
    StuckTable s (t.markSwatches cell cross) l rev := by
  obtain ⟨htable, hrev, hmode, hrings⟩ := h
  unfold State.markSwatches
  exact State.each_induction (P := fun u => StuckTable s u l rev) ⟨htable, hrev, hmode, hrings⟩
    fun u e _ hu => hu.raise _ _

theorem defer (h : StuckTable s t l rev) (b : Bool) :
    StuckTable s { t with mx := { t.mx with deferred := b } } l rev :=
  ⟨h.table, h.revision, h.mode, h.rings⟩

theorem addStuck (s : State) (cell : Nat) (cross byHost mark : Bool) :
    StuckTable s (s.addStuck cell cross byHost mark)
      (putStuck s.mx.stuck ⟨cell, cross, byHost, (s.mx.stuckRev + 1) % 65536⟩) ((s.mx.stuckRev + 1) % 65536) := by
  have hcell := (withStuck s (putStuck s.mx.stuck ⟨cell, cross, byHost, (s.mx.stuckRev + 1) % 65536⟩)
    ((s.mx.stuckRev + 1) % 65536)).refreshCell cell
  have hmarked := hcell.markSwatches cell cross
  unfold State.addStuck
  dsimp only
  split_ifs
  · exact hcell
  · exact hmarked
  · exact (hmarked.defer true).raise _ _

/-- A command of the stuck table completes over the table that it leaves. -/
theorem complete {tag : CmdTag} {op : Nat} (hs : Serves s) (h : StuckTable (s.begin tag op) t l rev) (st : Nat)
    (d : List (Nat × Nat)) : (t.complete tag st d).mx.stuck = l ∧ (t.complete tag st d).mx.stuckRev = rev ∧
      Answered s (t.complete tag st d) tag st ∧ (t.complete tag st d).mode = s.mode := by
  have hr : tag.ring < s.cx.rings.length := by obtain ⟨-, -, hlen⟩ := hs; omega
  have hrt : tag.ring < t.cx.rings.length := by
    rw [h.rings]; exact hr.trans_eq (State.setRing_rings_length _ _ _).symm
  obtain ⟨hdev, hwin⟩ := State.completeWith_answered hrt st d false
  rw [State.ring_congr h.rings, State.begin_devSeq hr] at hdev
  rw [State.complete_mx, State.complete_mode, h.mode, State.begin_mode]
  exact ⟨h.table, h.revision, ⟨hdev, hwin⟩, rfl⟩

end StuckTable

section StuckCommands

variable {s : State} (hs : Serves s) (tag : CmdTag) (hpwr : s.pwr.state = 0) {cell : Nat} (hcell : cell ≤ 4351)
include hs hpwr hcell

/-- STUCK_ADD into an empty table (R551). -/
theorem exec_stuckAdd_empty (hempty : s.mx.stuck = []) (st : Fin 2) :
    exec (.stuckAdd tag cell st) s = .next (((s.begin tag 0x0E06).addStuck cell (st == 1) true true).complete tag St.ok
      [(4, ((s.begin tag 0x0E06).addStuck cell (st == 1) true true).mx.stuckRev)]) := by
  have hcross : ((st : Nat) == 1) = (st == 1) := by revert st; decide
  show execStuckAdd tag cell st s = _
  rw [execStuckAdd, State.serve_eq hs]
  dsimp only
  rw [State.begin_pwr, State.begin_mx, hempty, hcross, if_neg (by omega), if_neg (by omega), List.find?_nil]
  dsimp only
  rw [if_neg (by decide)]
  rfl

/-- STUCK_CLEAR of a cell of the table (R551). -/
theorem exec_stuckClear (hstuck : s.isStuck cell = true) :
    exec (.stuckClear tag cell) s = .next ((((s.begin tag 0x0E07).withStuck
      (s.mx.stuck.filter (fun e => e.cell != cell)) ((s.mx.stuckRev + 1) % 65536)).refreshCell cell).complete tag St.ok
      [(4, (s.mx.stuckRev + 1) % 65536)]) := by
  show execStuckClear tag cell s = _
  rw [execStuckClear, State.serve_eq hs, State.begin_pwr, State.isStuck_begin, hstuck, if_neg (by omega),
    if_neg (by omega), if_neg (by decide)]
  rfl

theorem exec_stuckClear_notFound (hfree : s.isStuck cell = false) :
    exec (.stuckClear tag cell) s = .next ((s.begin tag 0x0E07).complete tag St.notFound) := by
  show execStuckClear tag cell s = _
  rw [execStuckClear, State.serve_eq hs, State.begin_pwr, State.isStuck_begin, if_neg (by omega),
    if_neg (by omega), if_pos hfree]
  rfl

end StuckCommands

/-- A cell whose entries are filtered out is not stuck. -/
theorem State.isStuck_of_filtered {t : State} {l : List StuckEntry} {c : Nat}
    (h : t.mx.stuck = l.filter (fun e => e.cell != c)) : t.isStuck c = false := by
  rw [State.isStuck, h]
  simp

/-- Settles O31: a swatch in use is refused at the Palette's gate; past it a command queues a request, waits, or completes
over one changed part of the matrix block, and a stuck-table command over the table that it leaves (`StuckTable`). -/
theorem paletteCommands : Obligations.PaletteCommands := by
  unfold Obligations.PaletteCommands
  intro s tag n cell p q c only out cnt hs hpwr hn hcell
  refine ⟨fun hperm hroom hpins hcnt hfree => ?write, fun huse => ⟨?writeUse, ?loadUse, ?invUse⟩,
    fun hfree => ⟨fun hperm hroom => ?load, ?invalidate⟩, ?read, fun m hm => ?number,
    fun hmode hvalid hrole happly => ?apply, fun st hempty => ?add, fun hstuck => ?clear, fun hfree => ?clearNone⟩
  case write =>
    exact ⟨_, exec_swatchWrite_queues hs tag hpwr hn hfree hperm hpins hcnt hroom out, rfl, rfl⟩
  case writeUse => exact inUse_refused hs tag hpwr hn huse 0x0E01 _
  case loadUse => exact inUse_refused hs tag hpwr hn huse 0x0E02 _
  case invUse => exact inUse_refused hs tag hpwr hn huse 0x0E03 _
  case load =>
    exact ⟨_, exec_swatchLoad_queues hs tag hpwr hn hfree hperm hroom c, rfl, rfl⟩
  case invalidate =>
    exact ⟨_, exec_swatchInvalidate hs tag hpwr hn hfree, answered_withMx hs tag 0x0E03 _ St.ok []⟩
  case read =>
    have hout : ((s.begin tag 0x0E04).outData tag out ((s.swatch n).bytes n)).lessExchange = s.lessExchange :=
      (State.outData_lessExchange _ tag out _).trans (State.begin_lessExchange s tag 0x0E04)
    exact ⟨_, exec_swatchRead hs tag hn out, answered_of_begun hs (State.outData_cx _ tag out _) _ _ _,
      exchangeOnly_completeWith hout tag _ _ _, delivered_of_begun hs tag 0x0E04 out _ _ _ _⟩
  case number => exact badNumber_refused hs tag hm 0x0E03 true _
  case apply =>
    exact ⟨_, exec_swatchApply_waits hs tag hpwr hn hmode hvalid hrole happly, rfl, rfl⟩
  case add =>
    have htable := StuckTable.addStuck (s.begin tag 0x0E06) cell (st == 1) true true
    rw [State.begin_mx, hempty] at htable
    exact ⟨_, exec_stuckAdd_empty hs tag hpwr hcell hempty st, htable.complete hs St.ok _⟩
  case clear =>
    have htable := (StuckTable.withStuck (s.begin tag 0x0E07) (s.mx.stuck.filter (fun e => e.cell != cell))
      ((s.mx.stuckRev + 1) % 65536)).refreshCell cell
    obtain ⟨hstuckNow, hrest⟩ := htable.complete hs St.ok [(4, (s.mx.stuckRev + 1) % 65536)]
    exact ⟨_, exec_stuckClear hs tag hpwr hcell hstuck, State.isStuck_of_filtered hstuckNow, hrest⟩
  case clearNone =>
    exact ⟨_, exec_stuckClear_notFound hs tag hpwr hcell hfree, refused_of_begun hs tag 0x0E07 _ []⟩

end Sys2Proof.Machine
end

section
/-!
The routing engine: the request at the head of its queue, the re-route of a stale swatch, MX_ROUTE_CTL (R127, R128, R130,
R132, R140).
-/

namespace Sys2Proof.Machine

open Sys2Proof.Stated

/-! ### The end of a request (R128) -/

/-- The matrix block with the registers of the engine's last request (R128). -/
def MatrixSt.routeEnds (m : MatrixSt) (n result time : Nat) : MatrixSt :=
  { m with
    lastSwatch := n, lastResult := result, lastTime := min time 0x7FF, worstTime := max m.worstTime (min time 0x7FF) }

/-- The state in which the engine has taken up the request at the head of its queue. -/
def State.dequeued (s : State) (rest : List RouteReq) : State := s.withMx { s.mx with queue := rest }

theorem exec_routeRequestDone {s : State} (hpwr : s.pwr.state = 0) {r : RouteReq} {rest : List RouteReq}
    (hqueue : s.mx.queue = r :: rest) (time : Nat) : exec (.routeRequestDone time) s =
      .next (((s.dequeued rest).routeDo r).2.routeEnds r.swatch ((s.dequeued rest).routeDo r).1 time) := by
  show execRouteRequestDone time s = _
  rw [execRouteRequestDone, hqueue]
  dsimp only
  rw [if_neg (by omega)]
  rfl

/-- The engine carries out the request at the head of its queue: where that changes the matrix block to `m` and completes the
command, the registers of the last request follow, and nothing else but the exchange has moved (R128). -/
theorem routeRequestDone_answers {s : State} (hrings : s.cx.rings.length = 16) (hpwr : s.pwr.state = 0) {r : RouteReq}
    {rest : List RouteReq} (hqueue : s.mx.queue = r :: rest) {m : MatrixSt} {tag : CmdTag} {result st : Nat}
    {d : List (Nat × Nat)} (hdo : (s.dequeued rest).routeDo r = (result, (s.withMx m).complete tag st d)) (time : Nat) :
    ∃ t, exec (.routeRequestDone time) s = .next t ∧ t.mx = m.routeEnds r.swatch result time ∧ Answered s t tag st ∧
      { t with mx := s.mx, cx := s.cx, host := s.host } = s := by
  obtain ⟨hmx, hrest⟩ := State.complete_withMx (s := s) rfl m tag st d
  have hexec := exec_routeRequestDone hpwr hqueue time
  rw [hdo] at hexec
  have hends : (((s.withMx m).complete tag st d).routeEnds r.swatch result time).mx =
      ((s.withMx m).complete tag st d).mx.routeEnds r.swatch result time := rfl
  have hanswered : Answered s ((s.withMx m).complete tag st d) tag st :=
    State.completeWith_answered (s := s.withMx m) (show tag.ring < s.cx.rings.length by omega) st d false
  exact ⟨_, hexec, hends.trans (by rw [hmx]), hanswered, hrest⟩

/-! ### Requests (R126, R127, R132) -/

section Requests

variable {s : State} {r : RouteReq} {tag : CmdTag} (htag : r.tag = some tag) (hfree : s.inUse r.swatch = false)
  {perm : Tbl Nat} (hdouble : permDouble [] perm = none) (hservice : s.outOfService perm = none)
include htag hfree hdouble hservice

/-- A permutation that the pins allow is stored with its cells (R126, R127). -/
theorem State.routeWrite_ok {pins : List Pin} (hpins : s.pinsBad pins = false) {cells : Nat}
    (hroute : routePerm perm (s.allPins pins) = .ok cells) (addr : Nat) :
    ∃ d, s.routeWrite r perm pins false addr = (0, (s.setSwatch r.swatch
      (s.routed r.swatch perm cells ((s.allPins pins).map Pin.cell).eraseDups.length)).complete tag St.ok d) := by
  simp only [State.routeWrite, hdouble, hservice, hpins, hfree, hroute, htag, Bool.false_eq_true, and_false, if_false]
  exact ⟨_, rfl⟩

/-- A permutation that the pins do not allow is stored nowhere (R129). -/
theorem State.routeWrite_error {pins : List Pin} (hpins : s.pinsBad pins = false) {e : RouteFail}
    (hroute : routePerm perm (s.allPins pins) = .error e) (addr : Nat) :
    ∃ d, s.routeWrite r perm pins false addr = (1, s.complete tag St.unroutable d) := by
  simp only [State.routeWrite, hdouble, hservice, hpins, hfree, hroute, htag, Bool.false_eq_true, and_false, if_false]
  exact ⟨_, rfl⟩

/-- Under an empty stuck table, cells whose traces meet the permutation are stored as a direct load (R132). -/
theorem State.routeLoad_ok {cells : Nat} (hstuck : s.mx.stuck = []) (hmiss : firstMiss perm cells = none) :
    ∃ d, s.routeLoad r perm cells = (0, (s.setSwatch r.swatch
      ⟨true, true, false, false, perm, cells, 0, seqNext (s.swatch r.swatch).generation, s.mx.stuckRev⟩).complete tag
        St.ok d) := by
  simp only [State.routeLoad, hdouble, hservice, hfree, hmiss, htag, hstuck, List.find?_nil, Bool.false_eq_true, if_false]
  exact ⟨_, rfl⟩

/-- Cells of which a trace misses its output are stored nowhere (R132). -/
theorem State.routeLoad_miss {cells i : Nat} (hmiss : firstMiss perm cells = some i) :
    ∃ d, s.routeLoad r perm cells = (3, s.complete tag St.checkFailed d) := by
  simp only [State.routeLoad, hdouble, hservice, hfree, hmiss, htag, Bool.false_eq_true, if_false]
  exact ⟨_, rfl⟩

end Requests

/-! ### The re-route of a stale swatch (R140, R141) -/

section Reroute

variable {s : State} {n : Nat}

theorem State.rerouteOne_mode (s : State) (n : Nat) : (s.rerouteOne n).mode = s.mode := by
  unfold State.rerouteOne State.routeEnds
  dsimp only
  split_ifs
  · rw [State.raise_mode]; rfl
  · rfl

/-- A stale swatch that no stuck pin is left out of is stored whole, with the next generation (R140). -/
theorem State.rerouteOne_palette (hwhole : (routeStuck (s.swatch n).perm 18 s.stuckPins []).2 = []) :
    (s.rerouteOne n).mx.palette = tset {} s.mx.palette n
      (s.routed n (s.swatch n).perm (routeStuck (s.swatch n).perm 18 s.stuckPins []).1 s.mx.stuck.length) := by
  unfold State.rerouteOne State.routeEnds
  dsimp only
  rw [hwhole, if_neg (by simp)]
  rfl

/-- REROUTE takes the first stale swatch in the order of R140; what follows the last one is an event. -/
theorem exec_reroute (hpwr : s.pwr.state = 0) (hauto : s.flag Reg.MX_ROUTE_CTL_AUTO_REROUTE = true)
    (hfirst : s.rerouteOrder.find? (fun k => (s.swatch k).waits) = some n) : ∃ t, exec .reroute s = .next t ∧
      t.mx.palette = (s.rerouteOne n).mx.palette ∧ t.mode = s.mode := by
  have hruns : ¬(s.pwr.state ≠ 0 ∨ s.flag Reg.MX_ROUTE_CTL_AUTO_REROUTE = false) := by simp [hpwr, hauto]
  refine ⟨_, rfl, ?_⟩
  rw [if_neg hruns, hfirst]
  dsimp only
  split_ifs
  · exact ⟨rfl, s.rerouteOne_mode n⟩
  · rw [State.raise_mx, State.raise_mode]
    exact ⟨rfl, s.rerouteOne_mode n⟩

theorem reroute_stores (hpwr : s.pwr.state = 0) (hauto : s.flag Reg.MX_ROUTE_CTL_AUTO_REROUTE = true)
    (hfirst : s.rerouteOrder.find? (fun k => (s.swatch k).waits) = some n)
    (hwhole : (routeStuck (s.swatch n).perm 18 s.stuckPins []).2 = []) (hwf : tblWf {} 0 s.mx.palette = true) :
    ∃ t, exec .reroute s = .next t ∧ (t.swatch n).valid = true ∧ (t.swatch n).stale = false ∧
      (t.swatch n).degraded = false ∧ (t.swatch n).generation = seqNext (s.swatch n).generation ∧
      (t.swatch n).perm = (s.swatch n).perm ∧ (∀ k, k ≠ n → t.swatch k = s.swatch k) ∧ t.mode = s.mode := by
  obtain ⟨t, hexec, hpalette, hmode⟩ := exec_reroute hpwr hauto hfirst
  rw [State.rerouteOne_palette hwhole] at hpalette
  have hstored : t.swatch n = s.routed n (s.swatch n).perm (routeStuck (s.swatch n).perm 18 s.stuckPins []).1
      s.mx.stuck.length := by
    rw [State.swatch, hpalette, tget_tset_same (keysRise_of_tblWf hwf)]
  have hothers (k : Nat) (hk : k ≠ n) : t.swatch k = s.swatch k := by
    rw [State.swatch, hpalette, tget, tget?_tset_ne _ _ hk]
    rfl
  refine ⟨t, hexec, ?_⟩
  rw [hstored]
  exact ⟨rfl, rfl, rfl, rfl, rfl, hothers, hmode⟩

end Reroute

/-! ### MX_ROUTE_CTL (Table 6.4) -/

theorem storedField_autoReroute : StoredField Reg.MX_ROUTE_CTL_AUTO_REROUTE := ⟨by decide, by decide, by decide⟩

theorem storedField_darkAffected : StoredField Reg.MX_ROUTE_CTL_DARK_AFFECTED := ⟨by decide, by decide, by decide⟩

theorem storedField_wrongMin : StoredField Reg.MX_ROUTE_CTL_WRONG_MIN := ⟨by decide, by decide, by decide⟩

theorem State.keysRise_setFld {s : State} (h : keysRise 0 s.regs = true) (f : FieldRef) (v : Nat) :
    keysRise 0 (s.setFld f v).regs = true :=
  State.keysRise_setRegWord h _ _

/-- A flag whose field holds a bit of a word is that bit. -/
theorem State.flag_of_fld_bit {t : State} {f : FieldRef} {v i : Nat} (h : t.fld f = v / 2 ^ i % 2) :
    t.flag f = bitAt v i := by
  show (t.fld f != 0) = (v / 2 ^ i % 2 == 1)
  rw [h]
  rcases Nat.mod_two_eq_zero_or_one (v / 2 ^ i) with h | h <;> rw [h] <;> rfl

section RouteCtl

variable {s : State} {v : Word}

/-- The state in which the three fields of MX_ROUTE_CTL are stored. -/
def State.routeCtlStored (s : State) (v : Nat) : State :=
  ((s.setFld Reg.MX_ROUTE_CTL_AUTO_REROUTE (v % 2)).setFld Reg.MX_ROUTE_CTL_DARK_AFFECTED (v / 2)).setFld
    Reg.MX_ROUTE_CTL_WRONG_MIN (bitsOf v 12 8)

theorem State.routeCtl_inRange (hmin : 2 ≤ bitsOf v.toNat 12 8) (hmax : bitsOf v.toNat 12 8 ≤ 8) :
    s.routeCtl v = s.routeCtlStored v.toNat := by
  rw [State.routeCtl]
  exact if_neg (by omega)

theorem State.routeCtl_outOfRange (hmax : 8 < bitsOf v.toNat 12 8) :
    s.routeCtl v = s.raise 0x0E06 [(4, 0xE0040)] := by
  rw [State.routeCtl]
  exact if_pos (by omega)

theorem exec_routeCtlWrite (hup : s.barUp = true) :
    exec (.routeCtlWrite v) s = .next ((s.granted 0 2).routeCtl v) :=
  congrArg next (State.hostAct_of_barUp hup 0 fun u => u.routeCtl v)

section Stored

variable (hrise : keysRise 0 s.regs = true) (v : Nat)
include hrise

theorem State.routeCtlStored_wrongMin : (s.routeCtlStored v).fld Reg.MX_ROUTE_CTL_WRONG_MIN = bitsOf v 12 8 :=
  have hdark := State.keysRise_setFld (State.keysRise_setFld hrise Reg.MX_ROUTE_CTL_AUTO_REROUTE (v % 2))
    Reg.MX_ROUTE_CTL_DARK_AFFECTED (v / 2)
  (storedField_wrongMin.fld_setFld_same hdark _).trans (Nat.mod_mod _ _)

theorem State.routeCtlStored_darkAffected : (s.routeCtlStored v).flag Reg.MX_ROUTE_CTL_DARK_AFFECTED = bitAt v 1 := by
  have hauto := State.keysRise_setFld hrise Reg.MX_ROUTE_CTL_AUTO_REROUTE (v % 2)
  have hdark := State.keysRise_setFld hauto Reg.MX_ROUTE_CTL_DARK_AFFECTED (v / 2)
  exact State.flag_of_fld_bit <|
    (storedField_darkAffected.fld_setFld_above (g := Reg.MX_ROUTE_CTL_WRONG_MIN) hdark rfl (by decide) _).trans
      (storedField_darkAffected.fld_setFld_same hauto _)

theorem State.routeCtlStored_autoReroute : (s.routeCtlStored v).flag Reg.MX_ROUTE_CTL_AUTO_REROUTE = bitAt v 0 := by
  have hauto := State.keysRise_setFld hrise Reg.MX_ROUTE_CTL_AUTO_REROUTE (v % 2)
  have hdark := State.keysRise_setFld hauto Reg.MX_ROUTE_CTL_DARK_AFFECTED (v / 2)
  have hbelow : (s.routeCtlStored v).fld Reg.MX_ROUTE_CTL_AUTO_REROUTE =
      (s.setFld Reg.MX_ROUTE_CTL_AUTO_REROUTE (v % 2)).fld Reg.MX_ROUTE_CTL_AUTO_REROUTE :=
    (storedField_autoReroute.fld_setFld_above (g := Reg.MX_ROUTE_CTL_WRONG_MIN) hdark rfl (by decide) _).trans
      (storedField_autoReroute.fld_setFld_above (g := Reg.MX_ROUTE_CTL_DARK_AFFECTED) hauto rfl (by decide) _)
  have hbit : v % 2 % 2 = v / 2 ^ 0 % 2 := by rw [Nat.mod_mod, pow_zero, Nat.div_one]
  exact State.flag_of_fld_bit ((hbelow.trans (storedField_autoReroute.fld_setFld_same hrise _)).trans hbit)

end Stored

theorem routeCtlWrite_stores (hrise : keysRise 0 s.regs = true) (hup : s.barUp = true)
    (hmin : 2 ≤ bitsOf v.toNat 12 8) (hmax : bitsOf v.toNat 12 8 ≤ 8) : ∃ t, exec (.routeCtlWrite v) s = .next t ∧
    t.flag Reg.MX_ROUTE_CTL_AUTO_REROUTE = bitAt v.toNat 0 ∧ t.flag Reg.MX_ROUTE_CTL_DARK_AFFECTED = bitAt v.toNat 1 ∧
    t.fld Reg.MX_ROUTE_CTL_WRONG_MIN = bitsOf v.toNat 12 8 ∧ { t with regs := s.regs, bm := s.bm } = s :=
  ⟨_, (exec_routeCtlWrite hup).trans (congrArg next (State.routeCtl_inRange hmin hmax)),
    State.routeCtlStored_autoReroute (s := s.granted 0 2) hrise _,
    State.routeCtlStored_darkAffected (s := s.granted 0 2) hrise _,
    State.routeCtlStored_wrongMin (s := s.granted 0 2) hrise _, rfl⟩

theorem routeCtlWrite_outOfRange (hup : s.barUp = true) (hmax : 8 < bitsOf v.toNat 12 8) :
    ∃ t, exec (.routeCtlWrite v) s = .next t ∧ EventsOnly (s.granted 0 2) t ∧ t.cx.evtSeq = seqNext s.cx.evtSeq :=
  ⟨_, (exec_routeCtlWrite hup).trans (congrArg next (State.routeCtl_outOfRange hmax)),
    (s.granted 0 2).raise_eventsOnly _ (packItems_addr_length _)⟩

end RouteCtl

/-- Settles O32: a request ends as its routing or its trace decides (`routeRequestDone_answers`); a stale swatch is read back
from the Palette that its re-route wrote; the three fields of MX_ROUTE_CTL are read back from one register. -/
theorem routingEngine : Obligations.RoutingEngine := by
  unfold Obligations.RoutingEngine
  intro s tag n time perm bits rest v hpwr
  refine ⟨fun hrings hfree hdouble hservice hqueue hpins => ?write,
    fun hrings hfree hdouble hservice hqueue hstuck => ⟨fun hmiss => ?load, fun i hmiss => ?miss⟩,
    fun hauto hfirst hwhole hwf => reroute_stores hpwr hauto hfirst hwhole hwf,
    fun ⟨hrise, _⟩ hup => ⟨fun hmin hmax => routeCtlWrite_stores hrise hup hmin hmax,
      fun hmax => routeCtlWrite_outOfRange hup hmax⟩⟩
  case write =>
    cases hroute : routePerm perm (s.allPins []) with
    | ok cells =>
      obtain ⟨d, hdo⟩ := State.routeWrite_ok (s := s.dequeued rest) (r := ⟨some tag, n, .write perm [] false 0⟩)
        rfl hfree hdouble hservice hpins hroute 0
      obtain ⟨t, hexec, hmx, hanswered, hrest⟩ := routeRequestDone_answers hrings hpwr hqueue hdo time
      refine ⟨t, hexec, ?_⟩
      rw [hmx]
      refine ⟨rfl, rfl, rfl, fun cells' hok => ?_, fun e herror => (nomatch herror), hrest⟩
      cases hok
      exact ⟨rfl, rfl, hanswered⟩
    | error e =>
      obtain ⟨d, hdo⟩ := State.routeWrite_error (s := s.dequeued rest) (r := ⟨some tag, n, .write perm [] false 0⟩)
        rfl hfree hdouble hservice hpins hroute 0
      obtain ⟨t, hexec, hmx, hanswered, hrest⟩ := routeRequestDone_answers hrings hpwr hqueue hdo time
      refine ⟨t, hexec, ?_⟩
      rw [hmx]
      exact ⟨rfl, rfl, rfl, fun cells hok => (nomatch hok), fun e' _ => ⟨rfl, rfl, hanswered⟩, hrest⟩
  case load =>
    obtain ⟨d, hdo⟩ := State.routeLoad_ok (s := s.dequeued rest) (r := ⟨some tag, n, .load perm bits⟩)
      rfl hfree hdouble hservice hstuck hmiss
    obtain ⟨t, hexec, hmx, hanswered, -⟩ := routeRequestDone_answers hrings hpwr hqueue hdo time
    refine ⟨t, hexec, ?_⟩
    rw [hmx]
    exact ⟨rfl, rfl, rfl, hanswered⟩
  case miss =>
    obtain ⟨d, hdo⟩ := State.routeLoad_miss (s := s.dequeued rest) (r := ⟨some tag, n, .load perm bits⟩)
      rfl hfree hdouble hservice hmiss
    obtain ⟨t, hexec, hmx, hanswered, -⟩ := routeRequestDone_answers hrings hpwr hqueue hdo time
    refine ⟨t, hexec, ?_⟩
    rw [hmx]
    exact ⟨rfl, rfl, hanswered⟩

end Sys2Proof.Machine
end

section
/-!
The loop status window and the counter records: the read of a record's first word takes the whole record, and the read of
another word answers from the copy (R191, R364).
-/

namespace Sys2Proof.Machine

/-! ### The loop status window (Table 25.5) -/

/-- The window of the loop status records, the window of number 1. -/
def statusWindow : Window := ⟨0x1400000, 0x1421FFF, 0x20, true⟩

section StatusWindow

variable {s : State} {a : Nat} (hlow : 0x1400000 ≤ a) (hhigh : a ≤ 0x1421FFF)
include hlow hhigh

theorem windowAt_status : windowAt a = some (statusWindow, 1) := by
  have hswatches : ¬(0x1000000 ≤ a ∧ a ≤ 0x113FFFF) := by omega
  simp [windowAt, windows, List.zipIdx, hswatches, hlow, hhigh, statusWindow]

theorem busTarget_status : busTarget a = some 4 := by
  have hbelow {x y : Nat} (hy : y < 0x1400000) : decide (x ≤ a ∧ a ≤ y) = false := decide_eq_false (by omega)
  have habove {x y : Nat} (hx : 0x1421FFF < x) : decide (x ≤ a ∧ a ≤ y) = false := decide_eq_false (by omega)
  have hin : decide (0x1400000 ≤ a ∧ a ≤ 0x14FFFFF) = true := decide_eq_true (by omega)
  have hfirst : 0x3FFFF < a := by omega
  simp [busTarget, busRange, busRanges, -Bool.decide_and, hbelow, habove, hin, hfirst]

/-- The host reaches the window behind the loop engine's target, and its words are no registers. -/
theorem hostAccess_status (hup : s.barUp = true) (f : State → State) :
    s.hostAccess a 15 false f = f (s.granted 4 2) := by
  have hregister : registerRange a = false := by rw [registerRange, decide_eq_false (by omega), Bool.false_and]
  have hcode : hostCode a 15 = 0 := by
    rw [hostCode, accessCode, busTarget_status hlow hhigh, hregister]
    rfl
  rw [State.hostAccess, if_neg (by omega), hup, if_neg (by decide), if_pos hcode, busTarget_status hlow hhigh,
    Option.getD_some]

theorem exec_windowRecordRead_status (hup : s.barUp = true) (halign : a % 4 = 0) :
    exec (.windowRecordRead a) s = .next ((s.granted 4 2).readWindow a 15) := by
  have hregister : registerRange a = false := by rw [registerRange, decide_eq_false (by omega), Bool.false_and]
  show execWindowRecordRead a s = _
  rw [execWindowRecordRead, hostAccess_status hlow hhigh hup, if_neg (by rw [hregister]; decide), halign, Nat.sub_zero]
  rfl

/-- A read with all four bytes enabled returns the word as it stands in the window. -/
theorem State.readWindow_status : s.readWindow a 15 =
    { (s.windowWord statusWindow 1 a).2 with readData := (s.windowWord statusWindow 1 a).1 } := by
  have hmask : beMask 15 = 2 ^ 32 - 1 := by decide
  rw [State.readWindow, windowAt_status hlow hhigh, hmask]
  dsimp only
  rw [Nat.and_two_pow_sub_one_eq_mod, Nat.mod_eq_of_lt (BitVec.isLt _), BitVec.ofNat_toNat, BitVec.setWidth_eq]

end StatusWindow

/-! ### The words of a loop status record (R191) -/

section StatusRecord

variable {s : State} {n i : Nat} (hi : i < 8)
include hi

theorem statusWindow_recordOf : statusWindow.recordOf (0x1400000 + 32 * n + 4 * i) = n := by
  show (0x1400000 + 32 * n + 4 * i - 0x1400000) / 32 = n
  omega

theorem statusWindow_recordAddr : statusWindow.recordAddr (0x1400000 + 32 * n + 4 * i) = 0x1400000 + 32 * n := by
  rw [Window.recordAddr, statusWindow_recordOf hi, Nat.mul_comm]
  rfl

end StatusRecord

/-- The read of a record's first word latches the record (R191). -/
theorem State.windowWord_status_first (s : State) (n : Nat) : s.windowWord statusWindow 1 (0x1400000 + 32 * n) =
    (lget 0 (s.statusRecord n) 0,
      { s with winLatch := tput s.winLatch 1 (0x1400000 + 32 * n, s.statusRecord n) }) := by
  have haddr : statusWindow.recordAddr (0x1400000 + 32 * n) = 0x1400000 + 32 * n :=
    statusWindow_recordAddr (i := 0) (by decide)
  have hof : statusWindow.recordOf (0x1400000 + 32 * n) = n := statusWindow_recordOf (i := 0) (by decide)
  rw [State.windowWord, haddr, hof, Nat.sub_self, if_neg (by decide), if_pos ⟨rfl, rfl⟩]
  rfl

/-- The read of another word of a latched record answers from the copy and latches nothing (R191). -/
theorem State.windowWord_status_latched {s : State} {n i : Nat} {r : List Word}
    (hlatch : tget? s.winLatch 1 = some (0x1400000 + 32 * n, r)) (hpos : 1 ≤ i) (hi : i < 8) :
    s.windowWord statusWindow 1 (0x1400000 + 32 * n + 4 * i) = (lget 0 r i, s) := by
  have hword : (0x1400000 + 32 * n + 4 * i - (0x1400000 + 32 * n)) / 4 = i := by omega
  rw [State.windowWord, statusWindow_recordAddr hi, hword, if_neg (by decide), if_neg (by omega), hlatch]
  dsimp only
  rw [if_pos rfl]

section StatusReads

variable {n : Nat} (hn : n < 4352)
include hn

theorem exec_windowRecordRead_first {s : State} (hup : s.barUp = true) :
    exec (.windowRecordRead (0x1400000 + 32 * n)) s = .next { s.granted 4 2 with
      readData := lget 0 (s.statusRecord n) 0
      winLatch := tput s.winLatch 1 (0x1400000 + 32 * n, s.statusRecord n) } := by
  have hrecord : (s.granted 4 2).statusRecord n = s.statusRecord n := rfl
  rw [exec_windowRecordRead_status (by omega) (by omega) hup (by omega),
    State.readWindow_status (by omega) (by omega), State.windowWord_status_first, hrecord]
  rfl

theorem exec_windowRecordRead_latched {s : State} (hup : s.barUp = true) {r : List Word}
    (hlatch : tget? s.winLatch 1 = some (0x1400000 + 32 * n, r)) {i : Nat} (hpos : 1 ≤ i) (hi : i < 8) :
    exec (.windowRecordRead (0x1400000 + 32 * n + 4 * i)) s =
      .next { s.granted 4 2 with readData := lget 0 r i } := by
  rw [exec_windowRecordRead_status (by omega) (by omega) hup (by omega),
    State.readWindow_status (by omega) (by omega),
    State.windowWord_status_latched (s := s.granted 4 2) hlatch hpos hi]

end StatusReads

/-! ### Counter records (R364) -/

theorem exec_counterRecordRead {s : State} (hup : s.barUp = true) {a : Nat} (halign : a % 16 = 0) :
    exec (.counterRecordRead a) s = .next { s.granted 2 2 with
      obs := { s.obs with cntLatch := some (a, s.cntOf a) }, readData := BitVec.ofNat 32 (s.cntOf a) } := by
  have hrecord : a / 16 * 16 = a := Nat.div_mul_cancel (Nat.dvd_of_mod_eq_zero halign)
  show execCounterRecordRead a s = _
  rw [execCounterRecordRead, hrecord]
  exact next_hostRead hup 2 _

/-- Settles O8: the first word's read latches the record, from which every other word's read answers. -/
theorem recordReadsComeFromOneInstant : Obligations.RecordReadsComeFromOneInstant := by
  unfold Obligations.RecordReadsComeFromOneInstant
  intro s n hup hn
  refine ⟨⟨_, exec_windowRecordRead_first hn hup, rfl, fun u huup hlatch i hpos hi => ?_⟩,
    fun a halign => exec_counterRecordRead hup halign⟩
  have hcopy : tget? u.winLatch 1 = some (0x1400000 + 32 * n, s.statusRecord n) := by
    rw [hlatch]
    exact tget?_tput_same _ _ _
  exact ⟨_, exec_windowRecordRead_latched hn huup hcopy hpos hi, rfl⟩

end Sys2Proof.Machine
end

section
/-!
The coefficient window and the commands of LE_LOOP_CMD and LE_LANE_CMD (R169, R170, R178, R189, R190, R217, R218), with
what an event of the loop engine leaves alone (R192).
-/

namespace Sys2Proof.Machine

/-! ### Events of the loop engine (R192) -/

theorem State.raiseLoop_lessEvents (s : State) (code sub : Nat) (l : List (Nat × Nat)) :
    (s.raiseLoop code sub l).lessEvents = s.lessEvents := by
  unfold State.raiseLoop
  split
  · exact s.bump_lessEvents _ _
  · exact s.raiseLim_lessEvents code sub l

@[simp] theorem State.raiseLoop_clk (s : State) (code sub : Nat) (l : List (Nat × Nat)) :
    (s.raiseLoop code sub l).clk = s.clk := by
  have := congrArg State.clk (s.raiseLoop_lessEvents code sub l); exact this
@[simp] theorem State.raiseLoop_loops (s : State) (code sub : Nat) (l : List (Nat × Nat)) :
    (s.raiseLoop code sub l).loops = s.loops := by
  have := congrArg State.loops (s.raiseLoop_lessEvents code sub l); exact this
@[simp] theorem State.raiseLoop_eng (s : State) (code sub : Nat) (l : List (Nat × Nat)) :
    (s.raiseLoop code sub l).eng = s.eng := by
  have := congrArg State.eng (s.raiseLoop_lessEvents code sub l); exact this
@[simp] theorem State.raiseLoop_mx (s : State) (code sub : Nat) (l : List (Nat × Nat)) :
    (s.raiseLoop code sub l).mx = s.mx := by
  have := congrArg State.mx (s.raiseLoop_lessEvents code sub l); exact this

/-! ### The coefficient window (R189) -/

section Coefficients

variable {s : State} (hup : s.barUp = true) {cell : Nat} (hcell : cell < 4352)
include hup hcell

theorem exec_coefWindowWrite {w : Nat} (hw : w < 15) (v : Word) :
    exec (.coefWindowWrite cell w v) s = .next ((s.granted 4 2).coefWrite cell w v) := by
  show execCoefWindowWrite cell w v s = _
  rw [execCoefWindowWrite, State.hostAct_of_barUp hup, if_neg (by omega), if_neg (by omega)]
  rfl

theorem exec_coefCommit : exec (.coefCommit cell) s = .next ((s.granted 4 2).coefCommit cell) := by
  show execCoefCommit cell s = _
  rw [execCoefCommit, State.hostAct_of_barUp hup, if_neg (by omega)]
  rfl

/-- A word without bits of its own to keep is staged whole (R189). -/
theorem exec_coefWindowWrite_stages {w : Nat} (hpos : 1 ≤ w) (hw : w < 15) (hexp : w ≠ 9) (v : Word) :
    exec (.coefWindowWrite cell w v) s = .next { s.granted 4 2 with
      loops := { s.loops with stage := { cell := cell, valid := true, words := lset (s.stageFor cell) w v } } } := by
  have hstage : (s.granted 4 2).stageFor cell = s.stageFor cell := rfl
  rw [exec_coefWindowWrite hup hcell hw, State.coefWrite, if_neg (by omega), if_neg hexp, hstage]
  rfl

/-- Word 0 of a record keeps its value (R189). -/
theorem exec_coefWindowWrite_zero (v : Word) : exec (.coefWindowWrite cell 0 v) s = .next { s.granted 4 2 with
    loops := { s.loops with stage := { cell := cell, valid := true, words := s.stageFor cell } } } :=
  exec_coefWindowWrite hup hcell (by decide) v

/-- A record that keeps its rules waits for the end-of-period work (R189, R190). -/
theorem exec_coefCommit_accepted (hok : coefRecOk (s.stageFor cell) = true) :
    exec (.coefCommit cell) s = .next { s.granted 4 2 with
      loops := { s.loops with
        stage := { cell := cell }, coefNext := tput s.loops.coefNext cell (s.stageFor cell) } } := by
  have hstage : (s.granted 4 2).stageFor cell = s.stageFor cell := rfl
  rw [exec_coefCommit hup hcell, State.coefCommit, hstage, if_pos hok]
  rfl

/-- A record that breaks a rule stays staged, and an event tells (R189). -/
theorem coefCommit_refused (hbad : coefRecOk (s.stageFor cell) = false) :
    ∃ t, exec (.coefCommit cell) s = .next t ∧ t.loops = { s.loops with
      stage := { cell := cell, valid := true, words := s.stageFor cell } } ∧ t.eng = s.eng := by
  have hstage : (s.granted 4 2).stageFor cell = s.stageFor cell := rfl
  refine ⟨_, exec_coefCommit hup hcell, ?_⟩
  rw [State.coefCommit, hstage, if_neg (by rw [hbad]; decide)]
  exact ⟨State.raiseLoop_loops _ _ _ _, State.raiseLoop_eng _ _ _ _⟩

end Coefficients

/-! ### LE_LOOP_CMD (Table 8.6) -/

/-- A store of three fields of a command register changes registers alone. -/
theorem State.setFld_thrice (s : State) (f g h : FieldRef) (x y z : Nat) :
    ∃ r, ((s.setFld f x).setFld g y).setFld h z = s.withRegs r := by
  have hone (u : State) (f : FieldRef) (x : Nat) : ∃ r, u.setFld f x = u.withRegs r := ⟨_, rfl⟩
  obtain ⟨r, hf⟩ := hone s f x
  obtain ⟨r', hg⟩ := hone (s.withRegs r) g y
  obtain ⟨r'', hh⟩ := hone ((s.withRegs r).withRegs r') h z
  exact ⟨r'', by rw [hf, hg, hh]; rfl⟩

section LoopCommands

variable {s : State} {cell action : Nat}

/-- A command that is taken awaits the end-of-period work; beside it the register shows what was written. -/
theorem State.loopCmd_taken (hfree : s.loops.cmd = none) (hcell : cell < 4352) (hpos : 1 ≤ action) (hmax : action ≤ 4)
    (all : Bool) :
    ((s.granted 4 2).loopCmd cell action all).loops = { s.loops with cmd := some ⟨cell, action, all⟩ } ∧
      { (s.granted 4 2).loopCmd cell action all with regs := s.regs, bm := s.bm, loops := s.loops } = s := by
  have htaken : ¬((s.granted 4 2).loops.cmd.isSome = true ∨ cell ≥ 4352 ∨ action = 0 ∨ action > 4) := by
    rw [State.granted_loops, hfree, Option.isSome_none]
    simp only [Bool.false_eq_true, false_or]
    omega
  obtain ⟨r, hregs⟩ := (s.granted 4 2).setFld_thrice Reg.LE_LOOP_CMD_CELL Reg.LE_LOOP_CMD_ACTION Reg.LE_LOOP_CMD_ALL
    cell action (ofBool all)
  rw [State.loopCmd, if_neg htaken, hregs]
  exact ⟨rfl, rfl⟩

/-- A command that comes while another waits is refused with an event. -/
theorem State.loopCmd_refused (hwaits : s.loops.cmd.isSome = true) (all : Bool) :
    (s.loopCmd cell action all).loops = s.loops ∧ (s.loopCmd cell action all).eng = s.eng := by
  rw [State.loopCmd, if_pos (Or.inl hwaits)]
  exact ⟨State.raiseLoop_loops _ _ _ _, State.raiseLoop_eng _ _ _ _⟩

end LoopCommands

/-! ### LE_LANE_CMD (Table 9.18) -/

section LaneCommands

variable {s : State} (hfree : s.eng.laneBusy = false) (lane : Fin 64)
include hfree

/-- A command for one lane, while none is under way, acts on that lane's core. -/
theorem State.laneCmd_one (action : Nat) (f : Core → Core) : ∃ r,
    (s.granted 4 2).laneCmd lane action false f =
      ((s.granted 4 2).withRegs r).setCore (.lane lane) (f (s.core (.lane lane))) := by
  have hlane : Fin.ofNat 64 (lane.val % 64) = lane := by
    ext
    rw [Fin.val_ofNat, Nat.mod_mod, Nat.mod_eq_of_lt lane.isLt]
  obtain ⟨r, hregs⟩ := (s.granted 4 2).setFld_thrice Reg.LE_LANE_CMD_LANE Reg.LE_LANE_CMD_ALL Reg.LE_LANE_CMD_ACTION
    (lane.val % 64) (ofBool false) action
  rw [State.laneCmd, State.granted_eng, hfree, if_neg (by decide), hregs, laneSet, if_neg (by decide), State.each,
    List.foldl_cons, List.foldl_nil, hlane]
  exact ⟨r, rfl⟩

theorem laneCmdSoft_raises (hup : s.barUp = true) : ∃ t, exec (.laneCmdSoft lane false) s = .next t ∧
    t.eng = { s.eng with
      cores := tset {} s.eng.cores (s.coreKey (.lane lane))
        { s.core (.lane lane) with icause := (s.core (.lane lane)).icause ||| 1 } } ∧
    { t with regs := s.regs, bm := s.bm, eng := s.eng } = s := by
  obtain ⟨r, hcmd⟩ := State.laneCmd_one hfree lane 2 (fun x => { x with icause := x.icause ||| 1 })
  refine ⟨_, congrArg next (State.hostAct_of_barUp hup 4 _), ?_⟩
  rw [State.laneSoft, hcmd]
  exact ⟨rfl, rfl⟩

theorem laneCmdRestart_asks (hup : s.barUp = true) (hhalted : (s.core (.lane lane)).run = .halted)
    (hidle : (s.core (.lane lane)).restart = false) : ∃ t, exec (.laneCmdRestart lane false) s = .next t ∧
    t.eng = { s.eng with
      cores := tset {} s.eng.cores (s.coreKey (.lane lane))
        { s.core (.lane lane) with restart := true, restartAuto := false }
      laneBusy := true } ∧
    { t with regs := s.regs, bm := s.bm, eng := s.eng } = s := by
  obtain ⟨r, hcmd⟩ := State.laneCmd_one hfree lane 1 (fun x =>
    if x.run = .halted ∧ x.restart = false then { x with restart := true, restartAuto := false } else x)
  refine ⟨_, congrArg next (State.hostAct_of_barUp hup 4 _), ?_⟩
  rw [State.laneRestart, hcmd, if_pos ⟨hhalted, hidle⟩]
  exact ⟨rfl, rfl⟩

end LaneCommands

/-- Settles O35: the window's writes and commits, LE_LOOP_CMD free and taken, and LE_LANE_CMD for one lane. -/
theorem loopAndLaneCommands : Obligations.LoopAndLaneCommands := by
  unfold Obligations.LoopAndLaneCommands
  intro s cell w v all lane hup hcell
  have hexec (action : Nat) : next (s.hostAct 4 fun u => u.loopCmd cell action all) =
      .next ((s.granted 4 2).loopCmd cell action all) := congrArg next (State.hostAct_of_barUp hup 4 _)
  exact ⟨fun hpos hw hexp => exec_coefWindowWrite_stages hup hcell hpos hw hexp v,
    exec_coefWindowWrite_zero hup hcell v, exec_coefCommit_accepted hup hcell, coefCommit_refused hup hcell,
    fun hfree => ⟨⟨_, hexec 1, State.loopCmd_taken hfree hcell (by decide) (by decide) all⟩,
      ⟨_, hexec 2, State.loopCmd_taken hfree hcell (by decide) (by decide) all⟩,
      ⟨_, hexec 3, State.loopCmd_taken hfree hcell (by decide) (by decide) all⟩,
      ⟨_, hexec 4, State.loopCmd_taken hfree hcell (by decide) (by decide) all⟩⟩,
    fun hwaits => ⟨_, hexec 1, State.loopCmd_refused (s := s.granted 4 2) hwaits all⟩,
    fun hfree => ⟨laneCmdRestart_asks hfree lane hup, laneCmdSoft_raises hfree lane hup⟩⟩

end Sys2Proof.Machine
end

section
/-!
The course of a hold period: the clock, the power state, a switch-over in progress, and where the period, its end-of-period
work and its deadline stand; what of it each operation on the light side changes (R165, R167, R168, R185, R196 to R199).
-/

namespace Sys2Proof.Machine

/-- What tells where the module stands in its hold periods. -/
structure Course where
  clk : Nat
  pwr : PowerSt
  switching : Option Switching
  period : Nat
  periodAt : Nat
  sampled : Bool
  eopDone : Bool
  deadlineDone : Bool
  coefNext : Tbl (List Word)
  cmd : Option LoopCmd

/-- The course of the module's hold periods in a state. -/
def State.course (s : State) : Course :=
  { clk := s.clk, pwr := s.pwr, switching := s.red.switching, period := s.loops.period, periodAt := s.loops.periodAt
    sampled := s.loops.sampled, eopDone := s.loops.eopDone, deadlineDone := s.loops.deadlineDone
    coefNext := s.loops.coefNext, cmd := s.loops.cmd }

section Reads

variable {t : State} {x : Course} (h : t.course = x)
include h

theorem State.clk_of_course : t.clk = x.clk := congrArg Course.clk h
theorem State.pwr_of_course : t.pwr = x.pwr := congrArg Course.pwr h
theorem State.switching_of_course : t.red.switching = x.switching := congrArg Course.switching h
theorem State.period_of_course : t.loops.period = x.period := congrArg Course.period h
theorem State.periodAt_of_course : t.loops.periodAt = x.periodAt := congrArg Course.periodAt h
theorem State.sampled_of_course : t.loops.sampled = x.sampled := congrArg Course.sampled h
theorem State.eopDone_of_course : t.loops.eopDone = x.eopDone := congrArg Course.eopDone h
theorem State.deadlineDone_of_course : t.loops.deadlineDone = x.deadlineDone := congrArg Course.deadlineDone h
theorem State.coefNext_of_course : t.loops.coefNext = x.coefNext := congrArg Course.coefNext h
theorem State.cmd_of_course : t.loops.cmd = x.cmd := congrArg Course.cmd h

end Reads

/-! ### Folds and events -/

theorem State.course_of_lessEvents {s t : State} (h : t.lessEvents = s.lessEvents) : t.course = s.course := by
  have := congrArg State.course h; exact this

theorem State.course_of_lessPairs {s t : State} (h : t.lessPairs = s.lessPairs) : t.course = s.course := by
  have := congrArg State.course h; exact this

theorem State.course_of_lessEndpoint {s t : State} (h : t.lessEndpoint = s.lessEndpoint) : t.course = s.course := by
  have := congrArg State.course h; exact this

theorem State.each_course {α : Type} (s : State) (l : List α) {f : State → α → State}
    (hf : ∀ u x, (f u x).course = u.course) : (s.each l f).course = s.course :=
  State.each_induction (P := fun u => u.course = s.course) rfl fun u x _ hu => (hf u x).trans hu

theorem State.foldl_course {α : Type} (s : State) (l : List α) {f : State → α → State}
    (hf : ∀ u x, (f u x).course = u.course) : (l.foldl f s).course = s.course := s.each_course l hf

@[simp] theorem State.course_ite (c : Prop) [Decidable c] (a b : State) :
    (if c then a else b).course = if c then a.course else b.course := by
  split <;> rfl

@[simp] theorem State.raise_course (s : State) (code : Nat) (l : List (Nat × Nat)) :
    (s.raise code l).course = s.course := State.course_of_lessEvents (s.raise_lessEvents code l)
@[simp] theorem State.raiseLim_course (s : State) (code sub : Nat) (l : List (Nat × Nat)) :
    (s.raiseLim code sub l).course = s.course := State.course_of_lessEvents (s.raiseLim_lessEvents code sub l)
@[simp] theorem State.raiseLoop_course (s : State) (code sub : Nat) (l : List (Nat × Nat)) :
    (s.raiseLoop code sub l).course = s.course := State.course_of_lessEvents (s.raiseLoop_lessEvents code sub l)
@[simp] theorem State.bump_course (s : State) (f : FieldRef) (n : Nat) : (s.bump f n).course = s.course :=
  State.course_of_lessEvents (s.bump_lessEvents f n)

/-! ### Elementary updates -/

@[simp] theorem State.setRegWord_course (s : State) (a : Nat) (w : Word) : (s.setRegWord a w).course = s.course := rfl
@[simp] theorem State.setFld_course (s : State) (f : FieldRef) (v : Nat) : (s.setFld f v).course = s.course :=
  s.setRegWord_course _ _
@[simp] theorem State.course_eng (s : State) (x : EngineSt) : ({ s with eng := x } : State).course = s.course :=
  State.course_of_lessPairs (t := { s with eng := x }) rfl
@[simp] theorem State.setCell_course (s : State) (c : Nat) (x : CellLoop) : (s.setCell c x).course = s.course :=
  State.course_of_lessPairs (t := s.setCell c x) rfl
@[simp] theorem State.setDm_course (s : State) (n a : Nat) (w : Word) : (s.setDm n a w).course = s.course :=
  State.course_of_lessPairs (t := s.setDm n a w) rfl
@[simp] theorem State.xchSet_course (s : State) (c w : Nat) (v : Word) : (s.xchSet c w v).course = s.course :=
  s.setDm_course _ _ _
@[simp] theorem State.setCore_course (s : State) (c : CoreRef) (x : Core) : (s.setCore c x).course = s.course :=
  s.course_eng _
@[simp] theorem State.setPair_course (s : State) (k : Nat) (x : PairSt) : (s.setPair k x).course = s.course := rfl
@[simp] theorem State.putFar_course (s : State) (k : Nat) (m : FarMon) : (s.putFar k m).course = s.course := rfl
@[simp] theorem State.setUnit_course (s : State) (u : Nat) (x : CuUnit) : (s.setUnit u x).course = s.course := by
  unfold State.setUnit
  split <;> rfl
@[simp] theorem State.course_mx (s : State) (x : MatrixSt) : ({ s with mx := x } : State).course = s.course := rfl
@[simp] theorem State.course_cal (s : State) (x : CalSt) : ({ s with cal := x } : State).course = s.course := rfl
@[simp] theorem State.course_adc (s : State) (x : AdcSt) : ({ s with adc := x } : State).course = s.course := rfl
@[simp] theorem State.course_dac (s : State) (x : DacSt) : ({ s with dac := x } : State).course = s.course := rfl

/-! ### Cells (R169, R170, R177, R178) -/

@[simp] theorem State.setCellState_course (s : State) (c : Nat) (x : CellLoop) (st : LoopState) :
    (s.setCellState c x st).course = s.course := State.course_of_lessPairs (s.setCellState_leaves c x st).1

@[simp] theorem State.refreshCell_course (s : State) (c : Nat) : (s.refreshCell c).course = s.course :=
  State.course_of_lessPairs (s.refreshCell_leaves c).1

@[simp] theorem State.enterSuspect_course (s : State) (c : Nat) (x : CellLoop) (reason : Nat) :
    (s.enterSuspect c x reason).course = s.course := by
  simp [State.enterSuspect]

@[simp] theorem State.releaseCell_course (s : State) (c how : Nat) : (s.releaseCell c how).course = s.course := by
  simp [State.releaseCell]

@[simp] theorem State.judgeCell_course (s : State) (c result : Nat) : (s.judgeCell c result).course = s.course := by
  unfold State.judgeCell
  dsimp only
  split <;> simp

@[simp] theorem State.resetCell_course (s : State) (c : Nat) : (s.resetCell c).course = s.course := by
  unfold State.resetCell
  dsimp only
  split
  · rfl
  · rfl
  · split <;> simp

@[simp] theorem State.cellAction_course (s : State) (action c : Nat) : (s.cellAction action c).course = s.course := by
  unfold State.cellAction
  dsimp only
  split <;> simp

/-! ### Coefficients and exchange blocks (R190, R196) -/

@[simp] theorem State.coefToDm_course (s : State) (c : Nat) (ws : List Word) : (s.coefToDm c ws).course = s.course :=
  s.foldl_course _ fun _ _ => rfl

@[simp] theorem State.takeCoef_course (s : State) (c : Nat) (ws : List Word) : (s.takeCoef c ws).course = s.course := by
  unfold State.takeCoef
  dsimp only
  rw [State.refreshCell_course, State.coefToDm_course,
    State.foldl_course (f := fun u (e : Nat × Word) => u.xchSet c e.1 e.2) _ _ fun u e => u.xchSet_course c e.1 e.2]
  rfl

@[simp] theorem State.summCell_course (s : State) (c : Nat) : (s.summCell c).course = s.course := rfl

@[simp] theorem State.frameworkWords_course (s : State) (c : Nat) : (s.frameworkWords c).course = s.course := by
  simp [State.frameworkWords]

@[simp] theorem State.controlCell_course (s : State) (c : Nat) : (s.controlCell c).course = s.course := by
  simp [State.controlCell]

@[simp] theorem State.standardCell_course (s : State) (c : Nat) : (s.standardCell c).course = s.course := by
  simp [State.standardCell]

/-! ### Far ports and paths (R117, R118, R198) -/

@[simp] theorem State.losStep_course (s : State) (p : Nat) (m : FarMon) (peak : Int) :
    (s.losStep p m peak).course = s.course := by
  simp [State.losStep]

@[simp] theorem State.ovpStep_course (s : State) (p : Nat) (out : Bool) (peak : Int) :
    (s.ovpStep p out peak).course = s.course := by
  simp [State.ovpStep]

@[simp] theorem State.farPeriod_course (s : State) (p : Nat) (out : Bool) : (s.farPeriod p out).course = s.course := by
  unfold State.farPeriod
  dsimp only
  split <;> simp

@[simp] theorem State.farPeriods_course (s : State) : s.farPeriods.course = s.course :=
  s.foldl_course _ fun u i => by simp

@[simp] theorem State.pathOut_course (s : State) (out : Nat) (v : Word) : (s.pathOut out v).course = s.course := by
  unfold State.pathOut
  dsimp only
  simp only [State.course_ite, State.raise_course]
  split_ifs <;> rfl

@[simp] theorem State.standardPath_course (s : State) (out : Nat) : (s.standardPath out).course = s.course := by
  simp [State.standardPath]

@[simp] theorem State.putPathIn_course (s : State) : s.putPathIn.course = s.course :=
  s.foldl_course _ fun u _ => u.foldl_course _ fun _ _ => rfl

@[simp] theorem State.publishPaths_course (s : State) : s.publishPaths.course = s.course :=
  (State.course_eng _ _).trans s.putPathIn_course
@[simp] theorem State.awaitPaths_course (s : State) : s.awaitPaths.course = s.course := rfl

/-! ### The live pass (R254, R260) -/

@[simp] theorem State.calReject_course (s : State) (q : CalQ) (item : Nat) (a b v : Int) :
    (s.calReject q item a b v).course = s.course := by
  simp [State.calReject]

@[simp] theorem State.biasWindow_course (s : State) (c : Nat) : (s.biasWindow c).course = s.course := by
  unfold State.biasWindow
  dsimp only
  split
  · simp only [State.course_ite, State.course_cal]
    split
    · split
      · rfl
      · split
        · rfl
        · split
          · rfl
          · simp
    · rfl
  · rfl

@[simp] theorem State.erPeriod_course (s : State) (c : Nat) : (s.erPeriod c).course = s.course := by
  unfold State.erPeriod
  dsimp only
  split
  · rfl
  · split <;> rfl

/-! ### The end-of-period work (R167) -/

/-- No committed record waits any more. -/
def Course.coefsTaken (x : Course) : Course := { x with coefNext := [] }

/-- No command waits any more. -/
def Course.cmdRun (x : Course) : Course := { x with cmd := none }

/-- The clock has come to an instant. -/
def Course.at (x : Course) (t : Nat) : Course := { x with clk := max x.clk t }

theorem State.waitClk_course (s : State) (t : Nat) : (s.waitClk t).course = s.course.at t := by
  have hclk := s.waitClk_clk t
  exact congrArg (fun n => { s.course with clk := n }) hclk

theorem State.takeCoefs_course (s : State) : s.takeCoefs.course = s.course.coefsTaken :=
  congrArg Course.coefsTaken (s.foldl_course s.loops.coefNext fun u e => u.takeCoef_course e.1 e.2)

theorem State.runLoopCmd_course (s : State) : s.runLoopCmd.course = s.course.cmdRun := by
  unfold State.runLoopCmd
  split
  next k _ => exact congrArg Course.cmdRun (s.foldl_course _ fun u c => u.cellAction_course k.action c)
  next hnone => rw [Course.cmdRun, ← hnone]; rfl

theorem State.sampledWork_course (s : State) (standard : Nat) :
    (s.sampledWork standard).course = s.course.coefsTaken.cmdRun := by
  unfold State.sampledWork
  dsimp only
  rw [State.foldl_course _ _ fun u c => by simp, State.foldl_course _ _ fun u i => u.standardPath_course _,
    State.foldl_course _ _ State.standardCell_course, State.awaitPaths_course, State.publishPaths_course,
    State.foldl_course _ _ State.frameworkWords_course, State.runLoopCmd_course, State.takeCoefs_course,
    State.farPeriods_course]

/-- The end-of-period work is done at its instant: records and a command that waited have taken effect. -/
def Course.worked (x : Course) : Course := { (x.at (x.periodAt + 121600)).coefsTaken.cmdRun with eopDone := true }

theorem State.endOfPeriod_course {s : State} (hcounting : s.loops.counting = true) (hdue : s.loops.eopDone = false)
    (standard : Nat) : (s.endOfPeriod standard).course = s.course.worked := by
  have hwork (u : State) : (if u.loops.sampled then u.sampledWork standard else (u.farPeriods.takeCoefs).runLoopCmd).course
      = u.course.coefsTaken.cmdRun := by
    rw [State.course_ite, State.sampledWork_course, State.runLoopCmd_course, State.takeCoefs_course,
      State.farPeriods_course, ite_self]
  rw [State.endOfPeriod, if_neg (by rw [hcounting, hdue]; decide)]
  have hcourse := congrArg (fun x : Course => { x with eopDone := true }) (hwork (s.waitClk (s.loops.periodAt + 121600)))
  rw [State.waitClk_course] at hcourse
  exact hcourse

theorem State.endOfPeriod_of_done {s : State} (hdone : s.loops.eopDone = true) (standard : Nat) :
    s.endOfPeriod standard = s := by
  rw [State.endOfPeriod, if_pos (Or.inr hdone)]

/-- The sums that the work leaves count the cells as it leaves them. -/
theorem State.endOfPeriod_sums {s : State} (hcounting : s.loops.counting = true) (hdue : s.loops.eopDone = false)
    (standard : Nat) : (s.endOfPeriod standard).loops.sums = (s.endOfPeriod standard).cellSums := by
  rw [State.endOfPeriod, if_neg (by rw [hcounting, hdue]; decide)]
  rfl

/-! ### The output deadline (R168, R199) -/

@[simp] theorem State.takeCell_course (s : State) (c : Nat) : (s.takeCell c).course = s.course := rfl

@[simp] theorem State.overrun_course (s : State) (lane cells : Nat) : (s.overrun lane cells).course = s.course := by
  unfold State.overrun
  dsimp only
  rw [State.course_ite, State.raiseLoop_course, ite_self]
  exact s.bump_course _ _

@[simp] theorem State.snapCheckpoint_course (s : State) : s.snapCheckpoint.course = s.course := rfl

/-- The output deadline has passed. -/
def Course.pastDeadline (x : Course) : Course := { x with deadlineDone := true }

theorem State.takeOutputs_course (s : State) : s.takeOutputs.course = s.course.pastDeadline := by
  have htold (u : State) (l : List (Nat × Nat)) : ((u.each l fun v e => v.overrun e.1 e.2).snapCheckpoint).course =
      u.course := u.each_course _ fun v e => v.overrun_course e.1 e.2
  unfold State.takeOutputs
  dsimp only
  split_ifs with hdone
  · rw [Course.pastDeadline, ← hdone]; rfl
  · rw [htold, State.foldl_course _ _ State.takeCell_course]; rfl
  · rfl

/-! ### Converter pairs at the end of a period (R231, R232) -/

@[simp] theorem State.flagPair_course (s : State) (k cause : Nat) : (s.flagPair k cause).course = s.course :=
  State.course_of_lessPairs (s.flagPair_leaves k cause).1

@[simp] theorem State.clearChecks_course (s : State) (k how : Nat) : (s.clearChecks k how).course = s.course :=
  s.foldl_course _ fun u c => State.course_of_lessPairs (u.unflagPair_leaves k c how).1

@[simp] theorem State.pairPeriod_course (s : State) (k : Nat) : (s.pairPeriod k).course = s.course := by
  simp [State.pairPeriod]

@[simp] theorem State.directResult_course (s : State) (status raw : Nat) :
    (s.directResult status raw).course = s.course := (State.setFld_course _ _ _).trans (s.course_adc _)

@[simp] theorem State.tailEnd_course (s : State) : s.tailEnd.course = s.course := by
  have hpairs := s.each_course (List.range 16) State.pairPeriod_course
  unfold State.tailEnd
  dsimp only
  split <;> simp [hpairs]

/-! ### Outputs, flags and the stuck test at the boundary (R137, R166, R242, R243) -/

@[simp] theorem State.calBoundary_course (s : State) : s.calBoundary.course = s.course := rfl

@[simp] theorem State.boundaryClear_course (s : State) : s.boundaryClear.course = s.course := by
  simp [State.boundaryClear]

@[simp] theorem State.boundaryClaim_course (s : State) : s.boundaryClaim.course = s.course := by
  unfold State.boundaryClaim
  split <;> rfl

@[simp] theorem State.applyCell_course (s : State) (parity : List Nat) (c : Nat) :
    (s.applyCell parity c).course = s.course := by
  simp [State.applyCell, State.dacParity]

@[simp] theorem State.openLoop_course (s : State) (took : Bool) : (s.openLoop took).course = s.course := rfl
@[simp] theorem State.outputsTook_course (s : State) : s.outputsTook.course = s.course := rfl

@[simp] theorem State.applyOutputs_course (s : State) (parity : List Nat) :
    (s.applyOutputs parity).course = s.course := by
  have hcells (l : List Nat) := s.each_course l fun u c => u.applyCell_course parity c
  simp [State.applyOutputs, hcells]

@[simp] theorem State.cellFlags_course (s : State) (c : Nat) : (s.cellFlags c).course = s.course := by
  simp [State.cellFlags]

@[simp] theorem State.markSwatches_course (s : State) (cell : Nat) (cross : Bool) :
    (s.markSwatches cell cross).course = s.course := by
  unfold State.markSwatches
  exact State.each_course _ _ fun u e => u.raise_course _ _

@[simp] theorem State.addStuck_course (s : State) (cell : Nat) (cross byHost mark : Bool) :
    (s.addStuck cell cross byHost mark).course = s.course := by
  simp [State.addStuck]

@[simp] theorem State.stuckTest_course (s : State) (c : Nat) : (s.stuckTest c).course = s.course := by
  unfold State.stuckTest
  split_ifs
  · rfl
  · split <;> simp [State.declareStuck]

@[simp] theorem State.takeCheckpoint_course (s : State) : s.takeCheckpoint.course = s.course := by
  unfold State.takeCheckpoint
  dsimp only
  split <;> rfl

@[simp] theorem State.boundaryCheckpoint_course (s : State) : s.boundaryCheckpoint.course = s.course := by
  unfold State.boundaryCheckpoint
  split_ifs
  · rfl
  · rfl
  · exact s.takeCheckpoint_course

theorem State.heaterPower_course (s : State) : s.heaterPower.course = s.course := rfl
theorem State.boundaryMonitors_course (s : State) : s.boundaryMonitors.course = s.course := rfl

/-! ### Lanes and units at the boundary (R216, R218, R222, R243) -/

@[simp] theorem State.eachCore_course (s : State) (f : Core → Core) : (s.eachCore f).course = s.course :=
  s.each_course _ fun _ _ => rfl

@[simp] theorem State.laneFault_course (s : State) (n : Nat) (x : Core) (code : Nat) :
    (s.laneFault n x code).course = s.course := State.raiseLoop_course _ _ _ _

@[simp] theorem State.loadUser_course (s : State) (u : Nat) (lanes : List Nat) :
    (s.loadUser u lanes).course = s.course := rfl
@[simp] theorem State.startLane_course (s : State) (n : Nat) : (s.startLane n).course = s.course := rfl

@[simp] theorem State.restoreLane_course (s : State) (n : Nat) : (s.restoreLane n).course = s.course := by
  unfold State.restoreLane
  split <;> rfl

@[simp] theorem State.restartLane_course (s : State) (n : Nat) : (s.restartLane n).course = s.course := by
  simp [State.restartLane]

@[simp] theorem State.boundaryLanes_course (s : State) : s.boundaryLanes.course = s.course := by
  unfold State.boundaryLanes
  dsimp only
  simp only [State.course_ite, State.course_eng]
  rw [State.each_course _ _ State.startLane_course, State.each_course _ _ State.restartLane_course,
    State.loadUser_course, ite_self, ite_self, State.each_course, State.eachCore_course]
  intro u n
  split <;> simp

@[simp] theorem State.failUnit_course (s : State) (u cause step : Nat) : (s.failUnit u cause step).course = s.course := by
  unfold State.failUnit
  rw [State.course_of_lessEndpoint (State.holdMaster_leaves _ u).1]
  exact s.setUnit_course u _

@[simp] theorem State.tieStep_course (s : State) : s.tieStep.course = s.course := by
  have hclaim (u : State) : ({ u.issueClaim with red := { u.issueClaim.red with tie := false } } : State).course =
      u.course := rfl
  have htie : ({ s with red := { s.red with tie := true } } : State).course = s.course := rfl
  simp [State.tieStep, hclaim, htie]

/-- Without a switch-over in progress none moves. -/
theorem State.boundarySwitch_of_none {s : State} (h : s.red.switching = none) : s.boundarySwitch = s := by
  rw [State.boundarySwitch, h]

/-! ### The next period (R165, R185) -/

/-- The next period has begun at an instant: it is numbered one higher, its work and its deadline are still to come. -/
def Course.begun (x : Course) (b : Nat) : Course :=
  { x with
    period := (x.period + 1) % 2 ^ 64, periodAt := b
    sampled := decide (x.pwr.state < 2 ∨ (x.period + 1) % 2 ^ 64 % 16 = 0), eopDone := false, deadlineDone := false }

theorem State.beginPeriod_course (s : State) (b : Nat) : (s.beginPeriod b).course = s.course.begun b := rfl

/-- The boundary up to the beginning of the next period. -/
def State.periodEnd (s : State) (parity : List Nat) : State :=
  let s1 := (s.endOfPeriod 0).waitClk (s.loops.periodAt + 127600)
  let s2 := ((s1.takeOutputs.tailEnd).waitClk (s.loops.periodAt + 128000)).calBoundary.boundaryClear.boundaryClaim
  let s3 := if s2.loops.sampled then s2.applyOutputs parity else s2
  let s4 := s3.each (s3.loops.cells.map Prod.fst) State.cellFlags
  let s5 := s4.each s4.sampledCells State.stuckTest
  let s6 := if s5.loops.sampled then s5.boundaryCheckpoint else s5
  s6.heaterPower.boundaryMonitors

/-- What remains of the boundary once the next period has begun, where no keep pass ends and no switch-over moves. -/
def State.periodStart (s : State) (b : Nat) : State := (s.beginPeriod b).boundaryLanes.tieStep

theorem State.periodEnd_course (s : State) (parity : List Nat) : (s.periodEnd parity).course =
    (((s.endOfPeriod 0).course.at (s.loops.periodAt + 127600)).pastDeadline.at (s.loops.periodAt + 128000)) := by
  unfold State.periodEnd
  dsimp only
  rw [State.boundaryMonitors_course, State.heaterPower_course, State.course_ite, State.boundaryCheckpoint_course,
    ite_self, State.each_course _ _ State.stuckTest_course, State.each_course _ _ State.cellFlags_course, State.course_ite,
    State.applyOutputs_course, ite_self, State.boundaryClaim_course, State.boundaryClear_course, State.calBoundary_course,
    State.waitClk_course, State.tailEnd_course, State.takeOutputs_course, State.waitClk_course]

theorem State.periodStart_course (s : State) (b : Nat) : (s.periodStart b).course = s.course.begun b := by
  rw [State.periodStart, State.tieStep_course, State.boundaryLanes_course, State.beginPeriod_course]

end Sys2Proof.Machine
end

section
/-!
The instants of a hold period: its boundary, its end-of-period work, its output deadline, and a lane's path words that come
late (R165, R167, R168, R196, R198, R199).
-/

namespace Sys2Proof.Machine

open Sys2Proof.Stated

/-! ### The boundary (R165, R185) -/

theorem State.periodBoundary_eq (s : State) (parity : List Nat) : s.periodBoundary parity =
    if ((s.periodEnd parity).periodStart (s.loops.periodAt + 128000)).boundarySwitch.pwr.keeping then
      ((s.periodEnd parity).periodStart (s.loops.periodAt + 128000)).boundarySwitch.endKeepPass
    else ((s.periodEnd parity).periodStart (s.loops.periodAt + 128000)).boundarySwitch := by
  unfold State.periodBoundary State.periodStart State.periodEnd
  with_reducible rfl

/-- The period that starts is numbered one higher, and is sampled in L0 and L1 or where 16 divides its number. -/
theorem State.periodStart_numbers (s : State) (b : Nat) : (s.periodStart b).loops.periodAt = b ∧
    (s.periodStart b).clk = s.clk ∧ (s.periodStart b).loops.period = (s.loops.period + 1) % 2 ^ 64 ∧
    (s.periodStart b).loops.sampled = decide (s.pwr.state < 2 ∨ (s.loops.period + 1) % 2 ^ 64 % 16 = 0) ∧
    (s.periodStart b).loops.eopDone = false ∧ (s.periodStart b).loops.deadlineDone = false := by
  have hstart := s.periodStart_course b
  exact ⟨State.periodAt_of_course hstart, State.clk_of_course hstart, State.period_of_course hstart,
    State.sampled_of_course hstart, State.eopDone_of_course hstart, State.deadlineDone_of_course hstart⟩

theorem State.periodStart_keeps (s : State) (b : Nat) : (s.periodStart b).pwr = s.pwr ∧
    (s.periodStart b).red.switching = s.red.switching := by
  have hstart := s.periodStart_course b
  exact ⟨State.pwr_of_course hstart, State.switching_of_course hstart⟩

/-- A state that has gone through a deadline to an instant keeps its power, its switch-over and its number. -/
theorem State.of_course_pastDeadline {t w : State} {a b : Nat} (h : t.course = (w.course.at a).pastDeadline.at b) :
    t.clk = max (max w.clk a) b ∧ t.pwr = w.pwr ∧ t.red.switching = w.red.switching ∧
      t.loops.period = w.loops.period :=
  ⟨State.clk_of_course h, State.pwr_of_course h, State.switching_of_course h, State.period_of_course h⟩

theorem exec_endOfPeriodWork (s : State) (standard : Nat) :
    exec (.endOfPeriodWork standard) s = .next (s.endOfPeriod standard) := rfl

section Boundary

variable {s : State} (hcounting : s.loops.counting = true)
include hcounting

/-- The period ends at its boundary, numbered and powered as before. -/
theorem State.periodEnd_at (hclk : s.clk ≤ s.loops.periodAt + 128000) (parity : List Nat) :
    (s.periodEnd parity).clk = s.loops.periodAt + 128000 ∧ (s.periodEnd parity).pwr = s.pwr ∧
      (s.periodEnd parity).red.switching = s.red.switching ∧ (s.periodEnd parity).loops.period = s.loops.period := by
  have hwork : (s.endOfPeriod 0).clk ≤ s.loops.periodAt + 128000 ∧ (s.endOfPeriod 0).pwr = s.pwr ∧
      (s.endOfPeriod 0).red.switching = s.red.switching ∧ (s.endOfPeriod 0).loops.period = s.loops.period := by
    cases hdone : s.loops.eopDone
    case true =>
      rw [State.endOfPeriod_of_done hdone]
      exact ⟨hclk, rfl, rfl, rfl⟩
    case false =>
      have hworked := State.endOfPeriod_course hcounting hdone 0
      have hwclk : (s.endOfPeriod 0).clk = max s.clk (s.loops.periodAt + 121600) := State.clk_of_course hworked
      exact ⟨by omega, State.pwr_of_course hworked, State.switching_of_course hworked, State.period_of_course hworked⟩
  obtain ⟨hwclk, hwpwr, hwswitching, hwperiod⟩ := hwork
  obtain ⟨hat, hpwr, hswitching, hperiod⟩ := State.of_course_pastDeadline (s.periodEnd_course parity)
  exact ⟨by omega, hpwr.trans hwpwr, hswitching.trans hwswitching, hperiod.trans hwperiod⟩

/-- In a module where no keep pass ends and no switch-over moves, the boundary ends one period and starts the next. -/
theorem exec_holdPeriodBoundary (hkeeping : s.pwr.keeping = false) (hswitching : s.red.switching = none)
    (hclk : s.clk ≤ s.loops.periodAt + 128000) (parity : List Nat) :
    exec (.holdPeriodBoundary parity) s =
      .next ((s.periodEnd parity).periodStart (s.loops.periodAt + 128000)) := by
  obtain ⟨-, hpwr, hsw, -⟩ := State.periodEnd_at hcounting hclk parity
  obtain ⟨hstartPwr, hstartSw⟩ := (s.periodEnd parity).periodStart_keeps (s.loops.periodAt + 128000)
  show execHoldPeriodBoundary parity s = _
  rw [execHoldPeriodBoundary, if_pos hcounting, State.periodBoundary_eq,
    State.boundarySwitch_of_none (hstartSw.trans (hsw.trans hswitching)), hstartPwr, hpwr, hkeeping,
    if_neg (by decide)]
  rfl

theorem holdPeriodBoundary_numbers (hkeeping : s.pwr.keeping = false) (hswitching : s.red.switching = none)
    (hclk : s.clk ≤ s.loops.periodAt + 128000) : ∃ t,
    exec (.holdPeriodBoundary []) s = .next t ∧ t.loops.periodAt = s.loops.periodAt + 128000 ∧
    t.clk = s.loops.periodAt + 128000 ∧ t.loops.period = (s.loops.period + 1) % 2 ^ 64 ∧
    t.loops.sampled = decide (s.pwr.state < 2 ∨ (s.loops.period + 1) % 2 ^ 64 % 16 = 0) ∧
    t.loops.eopDone = false ∧ t.loops.deadlineDone = false := by
  obtain ⟨hat, hpwr, -, hperiod⟩ := State.periodEnd_at hcounting hclk []
  obtain ⟨hperiodAt, hsclk, hnumber, hsampled, heop, hdeadline⟩ :=
    (s.periodEnd []).periodStart_numbers (s.loops.periodAt + 128000)
  rw [hat] at hsclk
  rw [hperiod] at hnumber
  rw [hperiod, hpwr] at hsampled
  exact ⟨_, exec_holdPeriodBoundary hcounting hkeeping hswitching hclk [], hperiodAt, hsclk, hnumber, hsampled, heop,
    hdeadline⟩

/-! ### The end-of-period work (R167) -/

theorem endOfPeriodWork_works (hdue : s.loops.eopDone = false) (standard : Nat) : ∃ t,
    exec (.endOfPeriodWork standard) s = .next t ∧ t.loops.eopDone = true ∧ t.loops.coefNext = [] ∧
    t.loops.cmd = none ∧ t.loops.sums = t.cellSums ∧ t.loops.period = s.loops.period ∧
    t.clk = max s.clk (s.loops.periodAt + 121600) := by
  have hcourse := State.endOfPeriod_course hcounting hdue standard
  exact ⟨_, exec_endOfPeriodWork s standard, State.eopDone_of_course hcourse, State.coefNext_of_course hcourse,
    State.cmd_of_course hcourse, State.endOfPeriod_sums hcounting hdue standard, State.period_of_course hcourse,
    State.clk_of_course hcourse⟩

/-! ### The output deadline (R168, R199) -/

theorem exec_loopOutputDeadline (hdue : s.loops.deadlineDone = false) :
    exec .loopOutputDeadline s = .next (s.waitClk (s.loops.periodAt + 127600)).takeOutputs := by
  show execLoopOutputDeadline s = _
  rw [execLoopOutputDeadline, if_neg (by rw [hcounting, hdue]; decide)]
  rfl

end Boundary

/-- What the checkpoint takes at the deadline of a sampled period are the cells as the deadline leaves them. -/
theorem State.takeOutputs_snapCells {s : State} (hdue : s.loops.deadlineDone = false) (hsampled : s.loops.sampled = true)
    (hactive : s.unitActive = true) : s.takeOutputs.red.snapCells = s.takeOutputs.loops.cells := by
  rw [State.takeOutputs, if_neg (by rw [hdue]; decide), if_pos ⟨hsampled, hactive⟩]
  rfl

/-- At the deadline of a period without samples nothing is taken. -/
theorem State.takeOutputs_of_not_sampled {s : State} (hdue : s.loops.deadlineDone = false)
    (hsampled : s.loops.sampled = false) : s.takeOutputs = { s with loops := { s.loops with deadlineDone := true } } := by
  rw [State.takeOutputs, if_neg (by rw [hdue]; decide), if_neg (by rw [hsampled]; simp)]

/-- What the deadline leaves, at whatever instant it is taken. -/
theorem State.takeOutputs_at {s : State} (hdue : s.loops.deadlineDone = false) (a : Nat) :
    (s.waitClk a).takeOutputs.loops.deadlineDone = true ∧ (s.waitClk a).takeOutputs.clk = max s.clk a ∧
    (s.loops.sampled = true → s.unitActive = true →
      (s.waitClk a).takeOutputs.red.snapCells = (s.waitClk a).takeOutputs.loops.cells) ∧
    (s.loops.sampled = false → (s.waitClk a).takeOutputs.loops = { s.loops with deadlineDone := true } ∧
      TimeOnly s { (s.waitClk a).takeOutputs with loops := s.loops }) := by
  have hcourse := (s.waitClk a).takeOutputs_course
  rw [State.waitClk_course] at hcourse
  refine ⟨State.deadlineDone_of_course hcourse, State.clk_of_course hcourse,
    fun hsampled hactive => State.takeOutputs_snapCells (s := s.waitClk a) hdue hsampled hactive, fun hsampled => ?_⟩
  rw [State.takeOutputs_of_not_sampled (s := s.waitClk a) hdue hsampled]
  exact ⟨rfl, s.waitClk_timeOnly a⟩

theorem loopOutputDeadline_takes {s : State} (hcounting : s.loops.counting = true)
    (hdue : s.loops.deadlineDone = false) : ∃ t,
    exec .loopOutputDeadline s = .next t ∧ t.loops.deadlineDone = true ∧
    t.clk = max s.clk (s.loops.periodAt + 127600) ∧
    (s.loops.sampled = true → s.unitActive = true → t.red.snapCells = t.loops.cells) ∧
    (s.loops.sampled = false → t.loops = { s.loops with deadlineDone := true } ∧
      TimeOnly s { t with loops := s.loops }) :=
  ⟨_, exec_loopOutputDeadline hcounting hdue, State.takeOutputs_at hdue _⟩

/-! ### Path words that come late (R198) -/

/-- The state in which the words of some outputs are awaited no more. -/
def State.stopsAwaiting (s : State) (late : Nat → Bool) : State :=
  { s with loops := { s.loops with pathAwait := s.loops.pathAwait.filter (fun o => !late o) } }

theorem pathLate_drops {s : State} {lane : Fin 64} (hdue : s.loops.eopDone = false)
    (hawaits : s.loops.pathAwait.any (fun o => (o - 256) / 4 == lane.val) = true) : ∃ t,
    exec (.pathLate lane) s = .next t ∧ t.clk = max s.clk (s.loops.periodAt + 1000) ∧
    t.loops = { s.loops with
      pathAwait := s.loops.pathAwait.filter (fun o => !((o - 256) / 4 == lane.val)) } ∧
    t.eng = s.eng ∧ t.mx = s.mx := by
  have hexec : exec (.pathLate lane) s = .next
      (((s.waitClk (s.loops.periodAt + 1000)).stopsAwaiting fun o => (o - 256) / 4 == lane.val).raiseLoop 0x0D09 lane
        [(1, lane)]) := by
    show execPathLate lane s = _
    rw [execPathLate, if_neg (by rw [hdue, hawaits]; decide)]
    rfl
  refine ⟨_, hexec, ?_⟩
  rw [State.raiseLoop_clk, State.raiseLoop_loops, State.raiseLoop_eng, State.raiseLoop_mx]
  exact ⟨s.waitClk_clk _, rfl, rfl, rfl⟩

/-- Settles O34: each instant of a period changes its course as the rules say (`Course`), whatever the work of the period
does to cells, outputs and lanes. -/
theorem holdPeriodCourse : Obligations.HoldPeriodCourse := by
  unfold Obligations.HoldPeriodCourse
  intro s standard lane hcounting
  refine ⟨holdPeriodBoundary_numbers hcounting, fun hdue => endOfPeriodWork_works hcounting hdue standard,
    fun hdone => ?_, loopOutputDeadline_takes hcounting, pathLate_drops⟩
  exact congrArg next (State.endOfPeriod_of_done hdone standard)

end Sys2Proof.Machine
end

section
/-!
How an instruction runs on a Stroke core (R205, R210 to R213): what a core is once its instruction has been fetched,
what becomes of it by what the instruction does, and an instruction at a plain place.
-/

namespace Sys2Proof.Machine

open Sys2Proof.Stated

/-! ### The core that an instruction acts on -/

/-- A core whose next instruction has been fetched: one cycle has passed, and the load before it is on its way. -/
def Core.fetched (x : Core) : Core := ({ x with cyc := x.cyc + 1, load := none }).tick

theorem Core.divDone_of_div_none {x : Core} (h : x.div = none) : x.divDone = x := by rw [Core.divDone, h]

/-- With no division in flight, fetching counts a cycle and takes the load out of the core. -/
theorem Core.fetched_eq {z x : Core} {n : Nat} {p : Option LoadPend} (hz : z = { x with cyc := n, load := p })
    (hcyc : x.cyc = n + 1) (hload : x.load = none) (hdiv : x.div = none) : z.fetched = x := by
  obtain ⟨⟩ := x
  subst hz hcyc hload hdiv
  rfl

/-- What fetching leaves alone, whether or not a division ends with it. -/
theorem Core.fetched_keeps (x : Core) : x.fetched.a = x.a ∧ x.fetched.g = x.g ∧ x.fetched.pc = x.pc ∧
    x.fetched.d = x.d := by
  unfold Core.fetched Core.tick
  dsimp only
  split
  · split_ifs <;> exact ⟨rfl, rfl, rfl, rfl⟩
  · exact ⟨rfl, rfl, rfl, rfl⟩

/-! ### What becomes of the core -/

/-- A running core without a division enters its handler with the state it had. -/
theorem Core.enter_of_div_none {x : Core} (hdiv : x.div = none) (cause : Nat) (addr : Option Nat) :
    x.enter cause addr = { x with
      epc := x.pc, efl := BitVec.ofNat 32 (x.st.word + 65536 * x.ract), ecause := cause
      eaddr := addr.getD x.eaddr, rep0 := { x.rep0 with act := false }, rep1 := { x.rep1 with act := false }
      st := { x.st with ie := false }, branch := none, pc := x.evec, run := .running, wait := .none } := by
  rw [Core.enter, Core.divDone_of_div_none hdiv]

/-- The state after an instruction that acted on the fetched core `x` while the load `p` was on its way. -/
def State.settled (s : State) (c : CoreRef) (p : Option LoadPend) (x : Core) : Ran → State
  | .go y t => (t.setCore c ((y.landLoad p).advance (pcMod c))).takeIrq c
  | .jump y pc t => (t.setCore c { y.landLoad p with pc := pc % pcMod c }).takeIrq c
  | .stay y t => (t.setCore c (y.landLoad p)).takeIrq c
  | .trap e =>
    match c with
    | .lane n => s.laneFault n (x.landLoad p) e.laneCode
    | .sup _ => s.setCore c (((x.landLoad p).advance (pcMod c)).enter e.supCause e.addr)

/-- A running core's instruction acts where it may stand, and is ILLEGAL elsewhere (R205). -/
theorem State.issue_running {s : State} {c : CoreRef} (hrun : (s.core c).run = .running) (k : OpClass) (w : Cores)
    (f : State → Core → Ran) : s.issue c k w f = s.settled c (s.core c).load (s.core c).fetched
      (if (s.core c).fetched.misplaced c k w then .trap .illegal else f s (s.core c).fetched) := by
  rw [State.issue, if_neg (not_not_intro hrun)]
  rfl

theorem State.issue_of_not_running {s : State} {c : CoreRef} (hrun : (s.core c).run ≠ .running) (k : OpClass)
    (w : Cores) (f : State → Core → Ran) : s.issue c k w f = s := if_pos hrun

/-- What of a state says which interrupt lines are pending. -/
def State.lines (s : State) : Tbl Nat × Nat := (s.eng.irq, s.red.activeUnit)

/-- A supervisor core with no line that is pending and enabled takes no interrupt. -/
theorem State.takeIrq_sup {s : State} {n : Fin 4}
    (h : tget 0 s.eng.irq (4 * s.red.activeUnit + n) &&& (s.core (.sup n)).imask = 0) :
    s.takeIrq (.sup n) = s := by
  have hline : lowestBit 16 (tget 0 s.eng.irq (4 * s.red.activeUnit + n) &&& (s.core (.sup n)).imask) = none := by
    rw [h]
    decide
  rw [State.takeIrq]
  dsimp only
  rw [hline]

/-- A supervisor core without pending lines takes no interrupt, and a lane has none to take here. -/
theorem State.takeIrq_quiet {s : State} {c : CoreRef}
    (h : ∀ n, c = .sup n → tget 0 s.eng.irq (4 * s.red.activeUnit + n) = 0) : s.takeIrq c = s := by
  cases c with
  | lane n => rfl
  | sup n => exact State.takeIrq_sup (by rw [h n rfl, Nat.zero_and])

/-- A supervisor core with every line masked takes no interrupt. -/
theorem State.takeIrq_masked {s : State} {n : Fin 4} (h : (s.core (.sup n)).imask = 0) : s.takeIrq (.sup n) = s :=
  State.takeIrq_sup (by rw [h, Nat.and_zero])

/-- A lane's core that has halted with a fault code, to be restarted at the next boundary or not (R218). -/
def Core.faulted (x : Core) (code : Nat) (auto : Bool) : Core :=
  { x with run := .halted, fault := code, wait := .none, stopAt := none, restart := auto, restartAuto := auto }

/-- A lane that faults halts where it stands; beside it an event is raised at most (R218). -/
theorem State.laneFault_eng (s : State) (l : Fin 64) (x : Core) (code : Nat) : ∃ auto, (s.laneFault l x code).eng =
    { s.eng with cores := tset {} s.eng.cores (s.coreKey (.lane l)) (x.faulted code auto) } :=
  ⟨_, State.raiseLoop_eng _ _ _ _⟩

theorem State.laneFault_clk (s : State) (n : Nat) (x : Core) (code : Nat) : (s.laneFault n x code).clk = s.clk :=
  State.raiseLoop_clk _ _ _ _

theorem State.laneFault_faulted (s : State) (l : Fin 64) (x : Core) (code : Nat) (ha : x.a = (s.core (.lane l)).a)
    (hg : x.g = (s.core (.lane l)).g) (hpc : x.pc = (s.core (.lane l)).pc) :
    LaneFaulted s (s.laneFault l x code) l code := by
  obtain ⟨auto, heng⟩ := s.laneFault_eng l x code
  exact ⟨_, heng, rfl, rfl, ha, hg, hpc⟩

/-- A trap in a lane is a fault of its code. -/
theorem State.settled_trap_lane (s : State) (l : Fin 64) (p : Option LoadPend) (e : Trap) :
    LaneFaulted s (s.settled (.lane l) p (s.core (.lane l)).fetched (.trap e)) l e.laneCode := by
  obtain ⟨ha, hg, hpc, -⟩ := (s.core (.lane l)).fetched_keeps
  cases p <;> exact s.laneFault_faulted l _ _ ha hg hpc

/-! ### Going on to the next word -/

theorem RepLevel.close_of_idle {r : RepLevel} (h : r.act = false) (pc : Nat) : r.close pc = (r, none) :=
  if_pos (Or.inl h)

theorem RepLevel.close_inside {r : RepLevel} {pc : Nat} (h : pc ≠ r.re) : r.close pc = (r, none) :=
  if_pos (Or.inr h)

/-- Outside branch slots, and where no level closes, the next word follows. -/
theorem Core.advance_next {x : Core} (hbranch : x.branch = none) (h1 : x.rep1.close x.pc = (x.rep1, none))
    (h0 : x.rep0.close x.pc = (x.rep0, none)) (m : Nat) : x.advance m = { x with pc := (x.pc + 1) % m } := by
  rw [Core.advance, hbranch]
  dsimp only
  rw [h1, h0]
  obtain ⟨⟩ := x
  subst hbranch
  rfl

/-- Where a core stands with regard to branch slots and REPEAT bodies. -/
def Core.place (x : Core) : Option BranchPend × RepLevel × RepLevel := (x.branch, x.rep0, x.rep1)

/-- In the place of a core that stands in no slot and no body, the next word follows. -/
theorem Core.advance_of_place {x y : Core} (hplace : y.place = x.place) (hbranch : x.branch = none)
    (h0 : x.rep0.act = false) (h1 : x.rep1.act = false) (m : Nat) : y.advance m = { y with pc := (y.pc + 1) % m } := by
  have hsame : y.branch = x.branch := congrArg Prod.fst hplace
  have hrep0 : y.rep0 = x.rep0 := congrArg (·.2.1) hplace
  have hrep1 : y.rep1 = x.rep1 := congrArg (·.2.2) hplace
  exact Core.advance_next (hsame.trans hbranch) (RepLevel.close_of_idle (by rw [hrep1]; exact h1) _)
    (RepLevel.close_of_idle (by rw [hrep0]; exact h0) _) m

/-- A branch that is set up goes on to its first slot (Table 9.10). -/
theorem Core.advance_branchTo (x : Core) (target : Nat) (st : Option Status) (m : Nat) :
    (x.branchTo target st).advance m = { slots x target st with pc := (x.pc + 1) % m } := rfl

/-! ### An instruction at a plain place -/

/-- A core of the other kind, which does not have the instruction. -/
def Cores.lacks (w : Cores) (c : CoreRef) : Bool :=
  match w with
  | .all => false
  | .lanes => !isLane c
  | .supervisors => isLane c

end Sys2Proof.Machine

namespace Sys2Proof.Stated

open Sys2Proof.Machine

section Plain

variable {s : State} {c : CoreRef} {x : Core} (hat : At s c x)
include hat

theorem At.fetched : (s.core c).fetched = x := by
  obtain ⟨hx, -, -, hload, hdiv, -⟩ := hat
  refine Core.fetched_eq (n := (s.core c).cyc) (p := (s.core c).load) ?_ (by rw [hx]) hload hdiv
  rw [hx]

theorem At.load_none : (s.core c).load = none := by
  obtain ⟨hx, -, -, hload, -⟩ := hat
  rw [hx] at hload
  exact hload

theorem At.running : (s.core c).run = .running := by
  obtain ⟨hx, hrun, -⟩ := hat
  rw [hx] at hrun
  exact hrun

theorem At.reg (r : Fin 16) : (s.core c).reg r = x.reg r := by
  obtain ⟨hx, -⟩ := hat
  rw [hx]
  rfl

theorem At.plain : x.branch = none ∧ x.rep0.act = false ∧ x.rep1.act = false := by
  obtain ⟨-, -, hbranch, -, -, h0, h1, -⟩ := hat
  exact ⟨hbranch, h0, h1⟩

theorem At.misplaced (k : OpClass) (w : Cores) : x.misplaced c k w = w.lacks c := by
  obtain ⟨hbranch, h0, h1⟩ := hat.plain
  have hslot : x.branch.isSome = false := by rw [hbranch]; rfl
  have hbody : (x.rep0.around x.pc || x.rep1.around x.pc) = false := by
    rw [RepLevel.around, RepLevel.around, h0, h1]; rfl
  unfold Core.misplaced
  dsimp only
  rw [hslot, hbody]
  cases k <;> exact Bool.or_false _

/-- An instruction that the core has acts at a plain place. -/
theorem At.issue {w : Cores} (hw : w.lacks c = false) (k : OpClass) (f : State → Core → Ran) :
    s.issue c k w f = s.settled c none x (f s x) := by
  rw [State.issue_running hat.running, hat.load_none, hat.fetched, hat.misplaced, hw, if_neg (by decide)]

/-- No interrupt is taken after the core has become `y`, where `t` has the interrupt lines of `s`. -/
theorem At.takeIrq {t : State} (hlines : t.lines = s.lines) (y : Core) :
    (t.setCore c y).takeIrq c = t.setCore c y := by
  obtain ⟨-, -, -, -, -, -, -, hquiet⟩ := hat
  have hirq : t.eng.irq = s.eng.irq := congrArg Prod.fst hlines
  have hunit : t.red.activeUnit = s.red.activeUnit := congrArg Prod.snd hlines
  refine State.takeIrq_quiet fun n hn => ?_
  show tget 0 t.eng.irq (4 * t.red.activeUnit + n) = 0
  rw [hirq, hunit]
  exact hquiet n hn

/-- An instruction that leads to the next address of `Core.advance`. -/
theorem At.advances {f : State → Core → Ran} {y z : Core} {t : State} (hf : f s x = .go y t)
    (hadvance : y.advance (pcMod c) = z) {k : OpClass} {w : Cores} (hw : w.lacks c = false)
    (hlines : t.lines = s.lines) : next (s.issue c k w f) = .next (t.setCore c z) := by
  subst hadvance
  rw [hat.issue hw, hf]
  exact congrArg next (hat.takeIrq hlines _)

/-- The core goes on with the next word after an instruction that moves neither a branch nor a REPEAT level. -/
theorem At.goes {f : State → Core → Ran} {y : Core} {t : State} (hf : f s x = .go y t) {k : OpClass} {w : Cores}
    (hw : w.lacks c = false) (hlines : t.lines = s.lines) (hplace : y.place = x.place) :
    next (s.issue c k w f) = .next (went t c y) := by
  obtain ⟨hbranch, h0, h1⟩ := hat.plain
  exact hat.advances hf (Core.advance_of_place hplace hbranch h0 h1 _) hw hlines

/-- The core waits in place. -/
theorem At.stays {f : State → Core → Ran} {y : Core} (hf : f s x = .stay y s) {k : OpClass} {w : Cores}
    (hw : w.lacks c = false) : next (s.issue c k w f) = .next (s.setCore c y) := by
  rw [hat.issue hw, hf]
  exact congrArg next (hat.takeIrq rfl _)

/-- The core goes on at an address that the instruction gives. -/
theorem At.jumps {f : State → Core → Ran} {y : Core} {pc : Nat} (hf : f s x = .jump y pc s) {k : OpClass} {w : Cores}
    (hw : w.lacks c = false) :
    next (s.issue c k w f) = .next (s.setCore c { y with pc := pc % pcMod c }) := by
  rw [hat.issue hw, hf]
  exact congrArg next (hat.takeIrq rfl _)

/-- An instruction of every core that acts on its core alone. -/
theorem At.does {f : State → Core → Ran} {y : Core} (hf : f s x = .go y s) {k : OpClass} (hplace : y.place = x.place) :
    next (s.issue c k .all f) = .next (went s c y) := hat.goes hf rfl rfl hplace

/-- An instruction whose result is free goes on with the next word after its draws. -/
theorem At.draws {f : State → Core → Ran} {y : Core} {n : Nat}
    (hf : f s x = .go y { s with freeCtr := s.freeCtr + n }) {k : OpClass} (hplace : y.place = x.place) :
    next (s.issue c k .all f) = .next (drew s c y n) := hat.goes hf rfl rfl hplace

/-- A trap takes a supervisor core into its handler, with the next word in EPC (R219). -/
theorem At.settled_trap {n : Fin 4} (hc : c = .sup n) (e : Trap) :
    Excepted s (s.settled c none x (.trap e)) n x e.supCause e.addr := by
  subst hc
  obtain ⟨hbranch, h0, h1⟩ := hat.plain
  obtain ⟨-, -, -, -, hdiv, -⟩ := hat
  have hnext := Core.advance_next hbranch (RepLevel.close_of_idle h1 x.pc) (RepLevel.close_of_idle h0 x.pc)
    (pcMod (.sup n))
  refine ⟨(x.advance (pcMod (.sup n))).enter e.supCause e.addr, rfl, ?_⟩
  rw [hnext, Core.enter_of_div_none (by exact hdiv)]
  exact ⟨rfl, rfl, rfl, rfl, rfl, rfl, rfl, rfl, rfl, rfl⟩

/-- An instruction that a supervisor core does not have is ILLEGAL there. -/
theorem At.lacking {n : Fin 4} (hc : c = .sup n) {k : OpClass} {w : Cores} (hw : w.lacks c = true)
    {f : State → Core → Ran} : Excepted s (s.issue c k w f) n x 0x10 none := by
  rw [State.issue_running hat.running, hat.load_none, hat.fetched, hat.misplaced, if_pos hw]
  exact hat.settled_trap hc .illegal

/-- An instruction that traps in a supervisor core. -/
theorem At.excepts {n : Fin 4} (hc : c = .sup n) {f : State → Core → Ran} {e : Trap} (hf : f s x = .trap e)
    {k : OpClass} {w : Cores} (hw : w.lacks c = false) :
    ∃ t, next (s.issue c k w f) = .next t ∧ Excepted s t n x e.supCause e.addr :=
  ⟨_, rfl, by rw [hat.issue hw, hf]; exact hat.settled_trap hc e⟩

/-- An instruction that traps in a lane. -/
theorem At.faults {l : Fin 64} (hc : c = .lane l) {f : State → Core → Ran} {e : Trap} (hf : f s x = .trap e)
    {k : OpClass} {w : Cores} (hw : w.lacks c = false) :
    ∃ t, next (s.issue c k w f) = .next t ∧ LaneFaulted s t l e.laneCode := by
  subst hc
  have hfault := s.settled_trap_lane l none e
  rw [hat.fetched] at hfault
  exact ⟨_, rfl, by rw [hat.issue hw, hf]; exact hfault⟩

/-- An instruction that is a function of its core. -/
theorem At.alu {f : Core → Core} {y : Core} (hf : f x = y) (hplace : y.place = x.place) :
    next (s.alu c f) = .next (went s c y) := hat.does (congrArg (Ran.go · s) hf) hplace

end Plain

end Sys2Proof.Stated
end

section
/-!
The results of the register instructions (R206, R207, R209, Table 9.6).
-/

namespace Sys2Proof.Machine

open Sys2Proof.Stated

/-! ### Numbers -/

theorem fits_eq_fitsIn (w : Nat) (i : Int) : fits w i = fitsIn w i := by
  rw [fits, fitsIn, decide_eq_decide]
  omega

/-- A clamp between ordered limits. -/
theorem clampInt_eq_max_min {lo hi : Int} (h : lo ≤ hi) (i : Int) : clampInt i lo hi = max lo (min hi i) := by
  rw [clampInt]
  split_ifs <;> omega

theorem satInt_eq_max_min (w : Nat) (i : Int) :
    satInt w i = max (-(2 ^ (w - 1))) (min (2 ^ (w - 1) - 1) i) := by
  have hpos : (0 : Int) < 2 ^ (w - 1) := by positivity
  exact clampInt_eq_max_min (by omega) i

/-- The low bits of a word as a signed number are those of the narrower word. -/
theorem signed_eq_toInt (w n : Nat) : signed w n = (BitVec.ofNat w n).toInt := by
  rw [signed, BitVec.toInt_eq_toNat_cond, BitVec.toNat_ofNat]
  cases w with
  | zero => simp [Nat.mod_one]
  | succ w =>
    rw [Nat.add_sub_cancel, Nat.pow_succ]
    push_cast
    split_ifs <;> omega

theorem rsh_eq_rounded (x : Int) (k : Nat) : rsh x k = rounded x k := rfl

/-! ### Results of R207 and flags of R201 -/

theorem Core.putArith_eq (x : Core) (d : Fin 16) (i : Int) : x.putArith d i = arith x d i := by
  rw [Core.putArith, satInt_eq_max_min, fits_eq_fitsIn]
  rfl

theorem cmpFlags_eq (x : Status) (a b : Word) : cmpFlags x a b = compared x a b := by
  have hv : decide (a.toInt - b.toInt < -(2 ^ 31) ∨ a.toInt - b.toInt ≥ 2 ^ 31) = !fitsIn 32 (a.toInt - b.toInt) := by
    rw [fitsIn, ← decide_not, decide_eq_decide]
    omega
  rw [cmpFlags, hv]
  rfl

theorem natAbs_eq_ite (i : Int) : (i.natAbs : Int) = if i < 0 then -i else i := by
  split_ifs <;> omega

/-- The lesser of two words, chosen by either order of comparison. -/
theorem ite_toInt_le_eq_ite_slt {α : Type} (a b : Word) (x y : α) :
    (if a.toInt ≤ b.toInt then x else y) = if b.slt a then y else x := by
  by_cases hle : a.toInt ≤ b.toInt
  · have hslt : b.slt a = false := by rw [BitVec.slt_eq_decide]; exact decide_eq_false (by omega)
    rw [if_pos hle, hslt, if_neg (by decide)]
  · have hslt : b.slt a = true := by rw [BitVec.slt_eq_decide]; exact decide_eq_true (by omega)
    rw [if_neg hle, hslt, if_pos rfl]

/-! ### Leading zeros -/

/-- The highest set bit of a word stands right below its leading zeros. -/
theorem clz_spec {n : Nat} (h : n < 2 ^ 32) :
    clz 32 n ≤ 32 ∧ n < 2 ^ (32 - clz 32 n) ∧ (clz 32 n < 32 → 2 ^ (31 - clz 32 n) ≤ n) := by
  rw [clz]
  split_ifs with hzero
  · subst hzero
    decide
  · have hlog : n.log2 < 32 := (Nat.log2_lt hzero).mpr h
    have hlt : 32 - (32 - 1 - n.log2) = n.log2 + 1 := by omega
    have hle : 31 - (32 - 1 - n.log2) = n.log2 := by omega
    rw [hlt, hle]
    exact ⟨by omega, Nat.lt_log2_self, fun _ => Nat.log2_self_le hzero⟩

/-! ### Shifts and fields of a word -/

theorem ofNat_field_eq (a : Word) (lsb w : Nat) :
    BitVec.ofNat 32 (a.toNat / 2 ^ lsb % 2 ^ w) = (a.extractLsb' lsb w).setWidth 32 := by
  apply BitVec.eq_of_toNat_eq
  rw [BitVec.toNat_setWidth, BitVec.extractLsb'_toNat, Nat.shiftRight_eq_div_pow, BitVec.toNat_ofNat]

theorem ofInt_signed_field_eq (a : Word) (lsb w : Nat) :
    BitVec.ofInt 32 (signed w (a.toNat / 2 ^ lsb)) = (a.extractLsb' lsb w).signExtend 32 := by
  rw [signed_eq_toInt, BitVec.signExtend, BitVec.extractLsb', Nat.shiftRight_eq_div_pow]

/-- The bits of a number of which the `len` bits from `lo` on have been replaced. -/
theorem testBit_putBits {hi lo len : Nat} (hlen : hi + 1 = lo + len) (n v j : Nat) :
    (putBits n hi lo v).testBit j = if lo ≤ j ∧ j < lo + len then v.testBit (j - lo) else n.testBit j := by
  have hwidth : hi + 1 - lo = len := by omega
  rw [putBits_eq, hwidth, Nat.add_comm, Nat.testBit_two_pow_mul_add _ (Nat.mod_lt _ (by positivity)),
    Nat.add_comm (v % _), Nat.testBit_two_pow_mul_add _ (Nat.mod_lt _ (by positivity)), Nat.testBit_mod_two_pow,
    Nat.testBit_mod_two_pow, Nat.testBit_div_two_pow, Nat.testBit_div_two_pow]
  by_cases hlow : j < lo
  · rw [if_pos hlow, if_neg (by omega), decide_eq_true hlow, Bool.true_and]
  · by_cases hin : j < lo + len
    · rw [if_neg hlow, if_pos (by omega), if_pos ⟨by omega, hin⟩, decide_eq_true (by omega), Bool.true_and]
    · rw [if_neg hlow, if_neg (by omega), if_neg (by omega)]
      congr 1
      omega

/-- The bits of a word of which a field has been replaced. -/
theorem getLsbD_ofNat_putBits {W V hi lo len j : Nat} (hlen : hi + 1 = lo + len) (hj : j < W) (n : BitVec W)
    (v : BitVec V) : (BitVec.ofNat W (putBits n.toNat hi lo v.toNat)).getLsbD j =
      if lo ≤ j ∧ j < lo + len then v.getLsbD (j - lo) else n.getLsbD j := by
  rw [BitVec.getLsbD_ofNat, testBit_putBits hlen, decide_eq_true hj, Bool.true_and, BitVec.testBit_toNat,
    BitVec.testBit_toNat]

theorem fieldOk_of_fits {lsb w : Nat} (hpos : 1 ≤ w) (hfits : lsb + w ≤ 32) : fieldOk lsb w = true :=
  decide_eq_true ⟨hpos, hfits⟩

theorem fieldOk_of_not_fits {lsb w : Nat} (h : w = 0 ∨ 32 < lsb + w) : fieldOk lsb w = false :=
  decide_eq_false (by omega)

end Sys2Proof.Machine

namespace Sys2Proof.Stated

open Sys2Proof.Machine

section Register

variable {s : State} {c : CoreRef} {x : Core} (hat : At s c x) (d a b : Fin 16)
include hat

/-- A result that the manual does not state is a free word. -/
theorem At.freeReg {f : State → Core → Ran} (hf : f s x = s.freeReg x d) {k : OpClass} :
    next (s.issue c k .all f) = .next (drew s c (x.setReg d (Config.freeWord s.freeCtr)) 1) := hat.draws hf rfl

/-- An arithmetic result of R207. -/
theorem At.arith (f : Core → Int) :
    next (s.alu c fun y => y.putArith d (f y)) = .next (went s c (arith x d (f x))) :=
  hat.alu (x.putArith_eq d (f x)) rfl

theorem At.clz : ∃ k, exec (.clz c d a) s = .next (went s c (x.setReg d (BitVec.ofNat 32 k))) ∧ k ≤ 32 ∧
    (x.reg a).toNat < 2 ^ (32 - k) ∧ (k < 32 → 2 ^ (31 - k) ≤ (x.reg a).toNat) :=
  ⟨_, hat.alu rfl rfl, clz_spec (x.reg a).isLt⟩

theorem At.clamp : exec (.clamp c d a b) s = .next (went s c (x.setReg d (BitVec.ofInt 32
    (max (-(((x.reg b).toNat % 2 ^ 31 : Nat) : Int)) (min ((x.reg b).toNat % 2 ^ 31 : Nat) (x.reg a).toInt))))) :=
  hat.alu (congrArg (fun i => x.setReg d (BitVec.ofInt 32 i)) (clampInt_eq_max_min (by omega) _)) rfl

theorem At.sel {cond : Nat} {t : Bool} (hcond : condHolds x.st cond = some t) : exec (.sel c d a b cond) s =
    .next (went s c (x.setReg d (if t = true then x.reg a else x.reg b))) :=
  hat.does (by rw [hcond]) rfl

/-- The shifts by an amount of the instruction word (R206, R207). -/
theorem At.shifts {sh : Nat} (hsh : sh < 32) :
    exec (.sll c d a sh) s = .next (went s c (Stated.arith x d ((x.reg a).toInt * 2 ^ sh))) ∧
    exec (.srl c d a sh) s = .next (went s c (x.setReg d (x.reg a >>> sh))) ∧
    exec (.sra c d a sh) s = .next (went s c (x.setReg d (BitVec.ofInt 32 ((x.reg a).toInt / 2 ^ sh)))) ∧
    exec (.rsh c d a sh) s = .next (went s c (x.setReg d (BitVec.ofInt 32 (rounded (x.reg a).toInt sh)))) := by
  have hmod : sh % 32 = sh := Nat.mod_eq_of_lt hsh
  have hsra : (x.reg a).sshiftRight sh = BitVec.ofInt 32 ((x.reg a).toInt / 2 ^ sh) := by
    rw [BitVec.sshiftRight_eq, Int.shiftRight_eq_div_pow]
    norm_cast
  refine ⟨hat.alu ?_ rfl, hat.alu ?_ rfl, hat.alu ?_ rfl, hat.alu ?_ rfl⟩
  · rw [hmod, Core.putArith_eq]
  · rw [hmod]
  · rw [hmod, hsra]
  · rw [hmod, rsh_eq_rounded]

/-- SHV: the amount is a signed byte of the second register (R206). -/
theorem At.shv {n : Int} (hn : n = ((x.reg b).setWidth 8).toInt) :
    (0 ≤ n → n ≤ 31 → exec (.shv c d a b) s =
      .next (went s c (x.setReg d (BitVec.ofInt 32 (rounded (x.reg a).toInt n.toNat))))) ∧
    (n < 0 → -31 ≤ n → exec (.shv c d a b) s =
      .next (went s c (Stated.arith x d ((x.reg a).toInt * 2 ^ (-n).toNat)))) ∧
    (31 < n ∨ n < -31 → exec (.shv c d a b) s =
      .next (drew s c (x.setReg d (Config.freeWord s.freeCtr)) 1)) := by
  have hamount : signed 8 (x.reg b).toNat = n := by rw [signed_eq_toInt, hn]; rfl
  refine ⟨fun hpos hle => hat.does ?_ rfl, fun hneg hge => hat.does ?_ rfl,
    fun hout => hat.freeReg d ?_⟩ <;> dsimp only <;> rw [hamount]
  · rw [if_neg (by omega), if_pos hpos, rsh_eq_rounded]
  · have habs : n.natAbs = (-n).toNat := by omega
    rw [if_neg (by omega), if_neg (by omega), habs, Core.putArith_eq]
  · rw [if_pos (by omega)]

/-- A field that lies within the word is extracted, or replaced (Table 9.6). -/
theorem At.fields {sh w : Nat} (hpos : 1 ≤ w) (hfits : sh + w ≤ 32) :
    exec (.ext c d a sh w) s = .next (went s c (x.setReg d (((x.reg a).extractLsb' sh w).setWidth 32))) ∧
    exec (.exts c d a sh w) s = .next (went s c (x.setReg d (((x.reg a).extractLsb' sh w).signExtend 32))) ∧
    ∃ v : Word, exec (.ins c d a sh w) s = .next (went s c (x.setReg d v)) ∧
      ∀ j < 32, v.getLsbD j = if sh ≤ j ∧ j < sh + w then (x.reg a).getLsbD (j - sh) else (x.reg d).getLsbD j := by
  have hok := fieldOk_of_fits hpos hfits
  refine ⟨hat.does ?_ rfl, hat.does ?_ rfl, _, hat.does (if_pos hok) rfl,
    fun j hj => getLsbD_ofNat_putBits (by omega) hj _ _⟩
  · rw [if_pos hok, ofNat_field_eq]
  · rw [if_pos hok, ofInt_signed_field_eq]

/-- A field that is empty or leaves the word has no stated result (log entry 8). -/
theorem At.noFields {sh w : Nat} (h : w = 0 ∨ 32 < sh + w) :
    exec (.ext c d a sh w) s = .next (drew s c (x.setReg d (Config.freeWord s.freeCtr)) 1) ∧
    exec (.exts c d a sh w) s = .next (drew s c (x.setReg d (Config.freeWord s.freeCtr)) 1) ∧
    exec (.ins c d a sh w) s = .next (drew s c (x.setReg d (Config.freeWord s.freeCtr)) 1) := by
  have hbad : ¬fieldOk sh w = true := by rw [fieldOk_of_not_fits h]; decide
  exact ⟨hat.freeReg d (if_neg hbad), hat.freeReg d (if_neg hbad), hat.freeReg d (if_neg hbad)⟩

end Register

/-- Settles O37: each instruction is one step of its core at a plain place (`At.alu`), or draws its free result. -/
theorem registerInstructions : Obligations.RegisterInstructions := by
  unfold Obligations.RegisterInstructions
  intro s c x d a b i sh w hat
  exact ⟨hat.alu rfl rfl, hat.alu rfl rfl, hat.alu rfl rfl, hat.arith d _, hat.arith d _, hat.arith d _, hat.arith d _,
    hat.alu (by rw [natAbs_eq_ite, Core.putArith_eq]) rfl, hat.arith d _, hat.alu rfl rfl, hat.alu rfl rfl,
    hat.alu rfl rfl, hat.alu rfl rfl, hat.alu rfl rfl, hat.alu rfl rfl, hat.alu (by rw [cmpFlags_eq]) rfl,
    hat.alu (by rw [cmpFlags_eq]) rfl, hat.alu rfl rfl, hat.alu (by rw [ite_toInt_le_eq_ite_slt]) rfl,
    hat.alu (by rw [ite_toInt_le_eq_ite_slt]) rfl, hat.clamp d a b, fun cond t hcond => hat.sel d a b hcond,
    hat.clz d a, hat.shifts d a, fun n hn => hat.shv d a b hn, hat.fields d a, hat.noFields d a⟩

end Sys2Proof.Stated
end

section
/-!
The results of the accumulator instructions (R206 to R209, Table 9.7).
-/

namespace Sys2Proof.Machine

open Sys2Proof.Stated

theorem Core.putAcc_eq (x : Core) (k : Fin 2) (i : Int) : x.putAcc k i = accum x k i := by
  rw [Core.putAcc, satInt_eq_max_min, fits_eq_fitsIn]
  rfl

/-! ### The shift of MVA (R208) -/

/-- The search for a shift passes over shifts that do not fit. -/
theorem mvaShift_skip {v : Int} {sh : Nat} : ∀ {m n k : Nat},
    (∀ l < m, fits 32 (rsh v (sh + (k + l))) = false) → m ≤ n → mvaShift v sh n k = mvaShift v sh (n - m) (k + m)
  | 0, _, _, _, _ => rfl
  | m + 1, n + 1, k, hskip, hle => by
    have hfirst : ¬fits 32 (rsh v (sh + k)) = true := by rw [← Nat.add_zero k, hskip 0 (by omega)]; decide
    have hrest : ∀ l < m, fits 32 (rsh v (sh + (k + 1 + l))) = false := fun l hl => by
      rw [Nat.add_assoc k, Nat.add_comm 1]
      exact hskip (l + 1) (by omega)
    rw [mvaShift, if_neg hfirst, mvaShift_skip hrest (by omega), Nat.add_sub_add_right, Nat.add_assoc, Nat.add_comm 1]

/-- The least shift that fits is found. -/
theorem mvaShift_eq_of_least {v : Int} {sh m : Nat} (hm : m ≤ 40) (hfits : fits 32 (rsh v (sh + m)) = true)
    (hleast : ∀ l < m, fits 32 (rsh v (sh + l)) = false) : mvaShift v sh 40 0 = m := by
  rw [mvaShift_skip (m := m) (by simpa using hleast) hm, Nat.zero_add]
  cases 40 - m with
  | zero => rfl
  | succ n => exact if_pos hfits

/-- Where none of the 40 first shifts fits, the search ends at 40. -/
theorem mvaShift_eq_of_none {v : Int} {sh : Nat} (hnone : ∀ l < 40, fits 32 (rsh v (sh + l)) = false) :
    mvaShift v sh 40 0 = 40 := by
  rw [mvaShift_skip (m := 40) (by simpa using hnone) le_rfl]
  rfl

/-! ### MVA -/

theorem Core.mva_place (x : Core) (d : Fin 16) (k : Fin 2) (sh : Nat) : (x.mva d k sh).place = x.place := by
  rw [Core.mva]
  dsimp only
  split_ifs <;> rfl

theorem Core.mva_of_sat {x : Core} (hsat : x.st.sat = true) (d : Fin 16) (k : Fin 2) (sh : Nat) :
    x.mva d k sh = { arith x d (rounded (x.a.get k).toInt sh) with scl := 0 } := by
  rw [Core.mva, if_pos hsat, satInt_eq_max_min, fits_eq_fitsIn, arith, if_pos hsat]
  rfl

theorem Core.mva_of_wrap {x : Core} (hsat : x.st.sat = false) {k : Fin 2} {sh m : Nat}
    (hm : mvaShift (x.acc k) sh 40 0 = m) (d : Fin 16) : x.mva d k sh =
      { x.setReg d (BitVec.ofInt 32 (rounded (x.a.get k).toInt (sh + m))) with
        scl := m, st := { x.st with scaled := x.st.scaled || decide (0 < m) } } := by
  have hpos : decide (m ≠ 0) = decide (0 < m) := by rw [decide_eq_decide]; omega
  rw [Core.mva, if_neg (by rw [hsat]; decide), hm, ← hpos]
  rfl

end Sys2Proof.Machine

namespace Sys2Proof.Stated

open Sys2Proof.Machine

section Accumulator

variable {s : State} {c : CoreRef} {x : Core} (hat : At s c x) (d a b : Fin 16) (k : Fin 2)
include hat

/-- An accumulator result of R207. -/
theorem At.accum (f : Core → Int) :
    next (s.alu c fun y => y.putAcc k (f y)) = .next (went s c (accum x k (f x))) := hat.alu (x.putAcc_eq k (f x)) rfl

/-- An accumulator result that the manual does not state is drawn in three words. -/
theorem At.freeAcc {f : State → Core → Ran} (hf : f s x = s.freeAcc x k) {o : OpClass} :
    ∃ v, next (s.issue c o .all f) = .next (drew s c { x with a := x.a.set k v } 3) := ⟨_, hat.draws hf rfl⟩

theorem At.adda {sh : Nat} : (sh ≤ 40 → exec (.adda c k a sh) s =
      .next (went s c (Stated.accum x k ((x.a.get k).toInt + (x.reg a).toInt * 2 ^ sh)))) ∧
    (40 < sh → ∃ v, exec (.adda c k a sh) s = .next (drew s c { x with a := x.a.set k v } 3)) :=
  ⟨fun hle => hat.does ((if_neg (by omega)).trans (by rw [Core.putAcc_eq]; rfl)) rfl,
    fun hlt => hat.freeAcc k (if_pos (by omega))⟩

/-- SHA and SHAR by a stated amount (R206). -/
theorem At.shiftAcc {f : State → Core → Ran} {n : Int} (hf : f s x = s.shiftAcc x k n) {o : OpClass} :
    (0 ≤ n → n ≤ 63 → next (s.issue c o .all f) =
      .next (went s c (Stated.accum x k (rounded (x.a.get k).toInt n.toNat)))) ∧
    (n < 0 → next (s.issue c o .all f) =
      .next (went s c (Stated.accum x k ((x.a.get k).toInt * 2 ^ (-n).toNat)))) ∧
    (63 < n → ∃ v, next (s.issue c o .all f) = .next (drew s c { x with a := x.a.set k v } 3)) := by
  refine ⟨fun hpos hle => hat.does (hf.trans ?_) rfl, fun hneg => hat.does (hf.trans ?_) rfl,
    fun hlt => hat.freeAcc k (hf.trans (if_pos hlt))⟩ <;> rw [State.shiftAcc, if_neg (by omega)]
  · rw [if_pos hpos, Core.putAcc_eq]
    rfl
  · have habs : n.natAbs = (-n).toNat := by omega
    rw [if_neg (by omega), habs, Core.putAcc_eq]
    rfl

theorem At.sata : exec (.sata c k) s = .next (went s c { x with
    a := x.a.set k (BitVec.ofInt 72 (max (-(2 ^ 31)) (min (2 ^ 31 - 1) (x.a.get k).toInt))) }) :=
  hat.alu (by rw [satInt_eq_max_min]; rfl) rfl

/-- MVA with a stated amount that takes a stated value (R208, R209). -/
theorem At.mva {sh : Nat} (hsh : sh ≤ 63)
    (hstated : x.st.sat = false → fits 32 (rsh (x.acc k) (sh + mvaShift (x.acc k) sh 40 0)) = true) :
    exec (.mva c d k sh) s = .next (went s c (x.mva d k sh)) := by
  have hgo : ¬(x.st.sat = false ∧ fits 32 (rsh (x.acc k) (sh + mvaShift (x.acc k) sh 40 0)) = false) :=
    fun ⟨hsat, hbad⟩ => Bool.false_ne_true (hbad.symm.trans (hstated hsat))
  exact hat.does ((if_neg (by omega)).trans (if_neg hgo)) (x.mva_place d k sh)

theorem At.mva_sat {sh : Nat} (hsh : sh ≤ 63) (hsat : x.st.sat = true) : exec (.mva c d k sh) s =
    .next (went s c { Stated.arith x d (rounded (x.a.get k).toInt sh) with scl := 0 }) := by
  rw [hat.mva d k hsh (fun hwrap => absurd (hsat.symm.trans hwrap) (by decide)), Core.mva_of_sat hsat]

/-- Without SAT the value is shifted by the least further amount with which it fits (R208). -/
theorem At.mva_least {sh : Nat} (hsh : sh ≤ 63) (hsat : x.st.sat = false) {m : Nat} (hm : m ≤ 40)
    (hfits : fitsIn 32 (rounded (x.a.get k).toInt (sh + m)) = true)
    (hleast : ∀ l < m, fitsIn 32 (rounded (x.a.get k).toInt (sh + l)) = false) : exec (.mva c d k sh) s =
    .next (went s c { x.setReg d (BitVec.ofInt 32 (rounded (x.a.get k).toInt (sh + m))) with
      scl := m, st := { x.st with scaled := x.st.scaled || decide (0 < m) } }) := by
  have hshift : mvaShift (x.acc k) sh 40 0 = m :=
    mvaShift_eq_of_least hm ((fits_eq_fitsIn _ _).trans hfits) fun l hl => (fits_eq_fitsIn _ _).trans (hleast l hl)
  have hok : fits 32 (rsh (x.acc k) (sh + m)) = true := (fits_eq_fitsIn _ _).trans hfits
  rw [hat.mva d k hsh (fun _ => by rw [hshift]; exact hok), Core.mva_of_wrap hsat hshift]

/-- Without SAT, where no shift makes the value fit, value and SCL are drawn (R208). -/
theorem At.mva_free {sh : Nat} (hsh : sh ≤ 63) (hsat : x.st.sat = false)
    (hnone : ∀ m ≤ 40, fitsIn 32 (rounded (x.a.get k).toInt (sh + m)) = false) : ∃ v q, q ≤ 40 ∧
    exec (.mva c d k sh) s =
      .next (drew s c { x.setReg d v with scl := q, st := { x.st with scaled := true } } 2) := by
  have hfits (m : Nat) (hm : m ≤ 40) : fits 32 (rsh (x.acc k) (sh + m)) = false :=
    (fits_eq_fitsIn _ _).trans (hnone m hm)
  have hshift : mvaShift (x.acc k) sh 40 0 = 40 := mvaShift_eq_of_none fun l hl => hfits l (by omega)
  refine ⟨Config.freeWord (s.freeCtr + 1), (Config.freeWord s.freeCtr).toNat % 41, by omega, hat.draws ?_ rfl⟩
  rw [if_neg (by omega), if_pos ⟨hsat, by rw [hshift]; exact hfits 40 le_rfl⟩]
  rfl

/-- A part of the accumulator is replaced. -/
theorem At.putPart {f : State → Core → Ran} {hi lo len : Nat} (hlen : hi + 1 = lo + len)
    (hf : f s x = .go { x with
      a := x.a.set k (BitVec.ofNat 72 (putBits (x.a.get k).toNat hi lo (x.reg a).toNat)) } s) {o : OpClass} :
    ∃ v : BitVec 72, next (s.issue c o .all f) = .next (went s c { x with a := x.a.set k v }) ∧
      ∀ q < 72, v.getLsbD q =
        if lo ≤ q ∧ q < lo + len then (x.reg a).getLsbD (q - lo) else (x.a.get k).getLsbD q :=
  ⟨_, hat.does hf rfl, fun _ hq => getLsbD_ofNat_putBits hlen hq _ _⟩

/-- MTAX replaces one of the three parts (Table 9.7). -/
theorem At.mtax {part lo len : Nat}
    (hpart : (part, lo, len) = (0, 0, 32) ∨ (part, lo, len) = (1, 32, 32) ∨ (part, lo, len) = (2, 64, 8)) :
    ∃ v : BitVec 72, exec (.mtax c k a part) s = .next (went s c { x with a := x.a.set k v }) ∧
      ∀ q < 72, v.getLsbD q =
        if lo ≤ q ∧ q < lo + len then (x.reg a).getLsbD (q - lo) else (x.a.get k).getLsbD q := by
  rcases hpart with h | h | h <;> obtain ⟨rfl, rfl, rfl⟩ := h
  · exact hat.putPart a k (hi := 31) (lo := 0) (len := 32) rfl rfl
  · exact hat.putPart a k (hi := 63) (lo := 32) (len := 32) rfl rfl
  · exact hat.putPart a k (hi := 71) (lo := 64) (len := 8) rfl rfl

end Accumulator

/-- Settles O38: each instruction puts its 72-bit result (`At.accum`), draws it where none is stated, or moves a
part. -/
theorem accumulatorInstructions : Obligations.AccumulatorInstructions := by
  unfold Obligations.AccumulatorInstructions
  intro s c x d a b r k k2 j i sh sb hat
  refine ⟨hat.accum k _, hat.accum k _, hat.accum k _, hat.accum k _, hat.accum k _, fun p hp => ?_, hat.alu rfl rfl,
    (hat.adda a k).1, (hat.adda a k).2, hat.accum k _, hat.accum k _, fun n hn => ?_, fun n hn => ?_, hat.sata k,
    fun hsh => ⟨hat.mva_sat d k hsh, fun hsat m => hat.mva_least d k hsh hsat, hat.mva_free d k hsh⟩, hat.alu rfl rfl,
    hat.does rfl rfl, hat.does rfl rfl, hat.does rfl rfl, fun part lo len => hat.mtax a k⟩
  · subst hp
    exact ⟨hat.accum k _, hat.accum k _, hat.accum k _⟩
  · exact hat.shiftAcc k (n := n) (by rw [hn])
  · have hamount : signed 8 (x.reg b).toNat = n := by rw [signed_eq_toInt, hn]; rfl
    obtain ⟨hround, hleft, -⟩ := hat.shiftAcc k (f := fun u y => u.shiftAcc y k (signed 8 (y.reg b).toNat)) (n := n)
      (o := .plain) (by rw [hamount])
    exact ⟨hround, hleft⟩

end Sys2Proof.Stated
end

section
/-!
The events of a Stroke core (R214, R216 to R219, Table 9.10).
-/

namespace Sys2Proof.Machine

open Sys2Proof.Stated

/-! ### Waiting for an instant leaves the cores alone -/

@[simp] theorem State.waitClk_eng (s : State) (t : Nat) : (s.waitClk t).eng = s.eng := rfl
@[simp] theorem State.waitClk_coreKey (s : State) (t : Nat) (c : CoreRef) : (s.waitClk t).coreKey c = s.coreKey c := rfl

/-! ### A lane's deadline, interrupt and stall (R216, R217) -/

section LaneEvents

variable {s : State} {n : Fin 64} {x : Core} (hx : s.core (.lane n) = x)
include hx

theorem laneDeadline_raises (hdeadl : x.deadl ≠ 0) : ∃ t, exec (.laneDeadline n) s = .next t ∧
    t.clk = max s.clk (s.loops.periodAt + 10 * x.deadl) ∧
    t.eng = { s.eng with
      cores := tset {} s.eng.cores (s.coreKey (.lane n)) { x with icause := x.icause ||| 2 } } ∧
    TimeOnly s { t with eng := s.eng } := by
  refine ⟨_, congrArg next (if_neg (by rw [hx]; exact hdeadl)), ?_⟩
  rw [hx]
  exact ⟨s.waitClk_clk _, rfl, rfl⟩

/-- At a clean boundary the lane enters its handler (R217). -/
theorem laneInterrupt_taken (hie : x.st.ie = true) (hcause : x.icause ≠ 0) (hbranch : x.branch = none)
    (hload : x.load = none) (h0 : x.rep0.act = false) (h1 : x.rep1.act = false) (hdiv : x.div = none)
    (hrun : x.run = .running ∨ x.run = .waiting) :
    exec (.laneInterrupt n) s = .next (s.setCore (.lane n) { x with
      iret := x.pc, ifl := x.st, st := { x.st with ie := false }, pc := x.ivec % 2048, run := .running
      wait := .none }) := by
  have hract : x.ract = 0 := by rw [Core.ract, h0, h1]; rfl
  have hclean : x.st.ie = true ∧ x.icause ≠ 0 ∧ x.branch.isNone = true ∧ x.load.isNone = true ∧ x.ract = 0 ∧
      (x.run = .running ∨ x.run = .waiting) :=
    ⟨hie, hcause, by rw [hbranch]; rfl, by rw [hload]; rfl, hract, hrun⟩
  show next (s.laneIrq n) = _
  rw [State.laneIrq]
  dsimp only
  rw [hx, if_pos hclean, Core.divDone_of_div_none hdiv]
  rfl

theorem laneInterrupt_held (h : x.st.ie = false ∨ x.icause = 0 ∨ x.branch.isSome = true) :
    exec (.laneInterrupt n) s = .next s := by
  have hunclean : ¬(x.st.ie = true ∧ x.icause ≠ 0 ∧ x.branch.isNone = true ∧ x.load.isNone = true ∧ x.ract = 0 ∧
      (x.run = .running ∨ x.run = .waiting)) := by
    rintro ⟨hie, hcause, hbranch, -⟩
    rcases h with h | h | h
    · exact absurd (hie.symm.trans h) (by decide)
    · exact hcause h
    · rw [Option.isNone_iff_eq_none.mp hbranch] at h
      exact absurd h (by decide)
  show next (s.laneIrq n) = _
  rw [State.laneIrq]
  dsimp only
  rw [hx, if_neg hunclean]
  rfl

/-- A lane that has not come to WAITP in two periods is halted (R216). -/
theorem laneStallTimeout_halts {a : Nat} (hstop : x.stopAt = some a) : ∃ t y,
    exec (.laneStallTimeout n) s = .next t ∧ t.clk = max s.clk (a + 256000) ∧
    t.eng.cores = tset {} s.eng.cores (s.coreKey (.lane n)) y ∧ y.run = .halted ∧ y.fault = 6 ∧ y.pc = x.pc ∧
    y.d = x.d ∧ y.a = x.a ∧ y.stopAt = none := by
  have hexec : exec (.laneStallTimeout n) s = .next ((s.waitClk (a + 256000)).laneFault n x 6) := by
    show execLaneStallTimeout n s = _
    rw [execLaneStallTimeout]
    dsimp only
    rw [hx, hstop]
    rfl
  obtain ⟨auto, heng⟩ := (s.waitClk (a + 256000)).laneFault_eng n x 6
  refine ⟨_, x.faulted 6 auto, hexec, (State.laneFault_clk _ _ _ _).trans (s.waitClk_clk _), ?_,
    rfl, rfl, rfl, rfl, rfl, rfl⟩
  rw [heng, State.waitClk_eng, State.waitClk_coreKey]

/-- WAITP ends with the boundary of the next period (R214). -/
theorem waitContinue_period (hrun : x.run = .waiting) (hwait : x.wait = .period) (hbranch : x.branch = none)
    (h0 : x.rep0.act = false) (h1 : x.rep1.act = false) :
    (x.waitAt < s.loops.periodAt → exec (.waitContinue (.lane n)) s =
      .next (s.setCore (.lane n) { x with run := .running, wait := .none, pc := (x.pc + 1) % 2048 })) ∧
    (s.loops.periodAt ≤ x.waitAt → exec (.waitContinue (.lane n)) s = .next s) := by
  have hend : ¬x.wait = .endData := by rw [hwait]; decide
  have hexec : exec (.waitContinue (.lane n)) s =
      next (if s.waitOver (.lane n) x then s.continueWait (.lane n) else s) := by
    show execWaitContinue (.lane n) s = _
    rw [execWaitContinue]
    dsimp only
    rw [hx, if_neg (not_not_intro hrun), if_neg hend]
    rfl
  have hover : s.waitOver (.lane n) x = decide (s.loops.periodAt > x.waitAt) := by rw [State.waitOver, hwait]
  rw [hexec, hover]
  refine ⟨fun hlt => ?_, fun hle => ?_⟩
  · rw [if_pos (decide_eq_true hlt), State.continueWait, hx]
    exact congrArg (fun y => next (s.setCore (.lane n) y)) (Core.advance_next
      (x := { x with run := .running, wait := .none }) hbranch (RepLevel.close_of_idle h1 _)
      (RepLevel.close_of_idle h0 _) 2048)
  · rw [if_neg (by simpa using hle)]
    rfl

end LaneEvents

/-! ### Exceptions and interrupts of a supervisor core (R219) -/

theorem supervisorException_enters {s : State} {k : Fin 4} {x : Core} {cause addr : Nat} (hx : s.core (.sup k) = x)
    (hlow : 0x10 ≤ cause) (hhigh : cause ≤ 0x14) (hrun : x.run = .running) (hdiv : x.div = none) : ∃ y,
    exec (.supervisorException k cause addr) s = .next (s.setCore (.sup k) y) ∧ y.epc = x.pc ∧ y.ecause = cause ∧
    y.pc = x.evec ∧ y.st = { x.st with ie := false } ∧ y.efl = BitVec.ofNat 32 (x.st.word + 65536 * x.ract) ∧
    y.eaddr = (if cause = 0x11 ∨ cause = 0x12 then addr else x.eaddr) ∧ y.rep0.act = false ∧ y.rep1.act = false ∧
    y.d = x.d ∧ y.a = x.a ∧ y.branch = none := by
  have hexec : exec (.supervisorException k cause addr) s =
      .next (s.setCore (.sup k) (x.enter cause (if cause = 0x11 ∨ cause = 0x12 then some addr else none))) := by
    show execSupervisorException k cause addr s = _
    rw [execSupervisorException]
    dsimp only
    rw [if_neg (by omega), if_pos hhigh, hx, if_pos (Or.inl hrun)]
    rfl
  have haddr : (if cause = 0x11 ∨ cause = 0x12 then some addr else none).getD x.eaddr =
      if cause = 0x11 ∨ cause = 0x12 then addr else x.eaddr := by
    split_ifs <;> rfl
  refine ⟨_, hexec, ?_⟩
  rw [Core.enter_of_div_none hdiv]
  exact ⟨rfl, rfl, rfl, rfl, rfl, haddr, rfl, rfl, rfl, rfl, rfl⟩

/-- A line that is not enabled is held. -/
theorem supervisorException_held {s : State} {k : Fin 4} {cause : Nat} (hline : cause < 16)
    (hmask : (s.core (.sup k)).imask = 0) (addr : Nat) : exec (.supervisorException k cause addr) s =
      .next { s with eng := { s.eng with
        irq := tset 0 s.eng.irq (4 * s.red.activeUnit + k)
          (tget 0 s.eng.irq (4 * s.red.activeUnit + k) ||| 2 ^ cause) } } := by
  show execSupervisorException k cause addr s = _
  rw [execSupervisorException]
  dsimp only
  rw [if_pos hline]
  exact congrArg next (State.takeIrq_masked hmask)

/-! ### The divide unit (R210, Table 9.10) -/

theorem divideDone_delivers {s : State} {c : CoreRef} {x : Core} {d : DivPend} (hx : s.core c = x)
    (hdiv : x.div = some d) : ∃ t, exec (.divideDone c) s = .next t ∧
    t.eng = { s.eng with cores := tset {} s.eng.cores (s.coreKey c) { x with dq := d.result, div := none } } ∧
    TimeOnly s { t with eng := s.eng } ∧ s.clk ≤ t.clk := by
  have hdone : x.divDone = { x with dq := d.result, div := none } := by rw [Core.divDone, hdiv]
  have hexec : exec (.divideDone c) s = .next ((s.elapse
      (if isLane c then (d.cycles * 1250 + 999) / 1000 else (d.cycles * 834 + 999) / 1000)).setCore c x.divDone) := by
    show execDivideDone c s = _
    rw [execDivideDone]
    dsimp only
    rw [hx, hdiv]
    rfl
  refine ⟨_, hexec, ?_⟩
  rw [hdone]
  exact ⟨rfl, rfl, Nat.le_add_right _ _⟩

/-- Settles O36: each event is one change of its core, made at its instant. -/
theorem coreEvents : Obligations.CoreEvents := by
  unfold Obligations.CoreEvents
  intro s n k c x
  exact ⟨laneDeadline_raises, laneInterrupt_taken, laneInterrupt_held, fun _ hx => laneStallTimeout_halts hx,
    fun _ _ hx => supervisorException_enters hx, fun _ addr hline hmask => supervisorException_held hline hmask addr,
    fun _ hx => divideDone_delivers hx, waitContinue_period⟩

end Sys2Proof.Machine
end

section
/-!
When an instruction issues, and the hazards of load slots, branch slots and REPEAT bodies (R205, R210 to R213,
Table 9.10).
-/

namespace Sys2Proof.Machine

open Sys2Proof.Stated

/-! ### Cores that do not run -/

theorem State.busInstr_of_not_running {s : State} {c : CoreRef} (hrun : (s.core c).run ≠ .running) (a : Nat)
    (t : Option (Nat × State)) (f : Core → Core) : s.busInstr c a t f = s := by
  have hacts : s.acts c = false := by rw [State.acts, beq_false_of_ne hrun, Bool.false_and]
  unfold State.busInstr
  rw [if_pos hacts, State.issue_of_not_running hrun]

/-- An instruction changes nothing for a core that does not run (log entry 24). -/
theorem exec_of_not_running {i : Instr} {c : CoreRef} {s : State} (hcore : coreOf i = some c)
    (hrun : (s.core c).run ≠ .running) : exec i s = .next s := by
  have hissue (k : OpClass) (w : Cores) (f : State → Core → Ran) : next (s.issue c k w f) = .next s :=
    congrArg next (State.issue_of_not_running hrun k w f)
  have hbus (a : Nat) (t : Option (Nat × State)) (f : Core → Core) : next (s.busInstr c a t f) = .next s :=
    congrArg next (State.busInstr_of_not_running hrun a t f)
  cases i with
  | ldb => cases hcore; exact hbus _ _ _
  | stb => cases hcore; exact hbus _ _ _
  | lockb => cases hcore; exact hbus _ _ _
  | unlockb =>
    cases hcore
    show execUnlockb c s = _
    rw [execUnlockb]
    dsimp only
    split <;> exact hbus _ _ _
  | _ => cases hcore <;> exact hissue _ _ _

/-! ### The next address (R212, R213) -/

/-- In the first slot of a branch the next word follows. -/
theorem Core.advance_firstSlot {x : Core} {b : BranchPend} (hbranch : x.branch = some b) (hslots : b.slots = 2)
    (m : Nat) : x.advance m = { x with pc := (x.pc + 1) % m, branch := some { b with slots := 1 } } := by
  rw [Core.advance, hbranch]
  dsimp only
  rw [hslots, if_neg (by decide)]

/-- The second slot of a branch leads to its target, with the STATUS that it brings. -/
theorem Core.advance_lastSlot {x : Core} {b : BranchPend} (hbranch : x.branch = some b) (hslots : b.slots = 1)
    (m : Nat) : x.advance m = { x with pc := b.target % m, branch := none, st := b.status.getD x.st } := by
  rw [Core.advance, hbranch]
  dsimp only
  rw [if_pos (by omega)]

section Body

variable {x : Core} (hbranch : x.branch = none) (h1 : x.rep1.act = false) (h0 : x.rep0.act = true)
  (hend : x.rep0.re = x.pc)
include hbranch h1 h0 hend

/-- The last word of a body turns back to its first while passes are left (R212). -/
theorem Core.advance_turnsBack (hleft : 1 < x.rep0.rc) (m : Nat) : x.advance m =
    { x with rep0 := { x.rep0 with rc := x.rep0.rc - 1 }, pc := x.rep0.rs % m } := by
  have hclose : x.rep0.close x.pc = ({ x.rep0 with rc := x.rep0.rc - 1 }, some x.rep0.rs) := by
    rw [RepLevel.close, if_neg (by rw [h0, hend]; simp), if_pos hleft]
  rw [Core.advance, hbranch]
  dsimp only
  rw [RepLevel.close_of_idle h1, hclose, ← hbranch]
  rfl

/-- The last word of a body's last pass is followed by the next word, and the level has ended (R212). -/
theorem Core.advance_leaves (hlast : x.rep0.rc = 1) (m : Nat) : x.advance m =
    { x with rep0 := { x.rep0 with rc := 0, act := false }, pc := (x.pc + 1) % m } := by
  have hclose : x.rep0.close x.pc = ({ x.rep0 with rc := 0, act := false }, none) := by
    rw [RepLevel.close, if_neg (by rw [h0, hend]; simp), if_neg (by omega)]
  rw [Core.advance, hbranch]
  dsimp only
  rw [RepLevel.close_of_idle h1, hclose, ← hbranch]
  rfl

end Body

/-! ### Instructions of a running lane -/

section Lane

variable {s : State} {l : Fin 64} (hrun : (s.core (.lane l)).run = .running)
include hrun

/-- An instruction that acts on its core alone, with a load before it that lands after it. -/
theorem State.alu_lane {x y : Core} {p : Option LoadPend} (hload : (s.core (.lane l)).load = p)
    (hfetched : (s.core (.lane l)).fetched = x) {f : Core → Core}
    (hy : ((f x).landLoad p).advance 2048 = y) : next (s.alu (.lane l) f) = .next (s.setCore (.lane l) y) := by
  have hplace : (s.core (.lane l)).fetched.misplaced (.lane l) .plain .all = false := rfl
  rw [State.alu, State.issue_running hrun, hplace, if_neg (by decide), hload, hfetched, ← hy]
  rfl

/-- An instruction that may not stand in its place is ILLEGAL (R205). -/
theorem State.issue_misplaced {k : OpClass} {w : Cores}
    (hplace : (s.core (.lane l)).fetched.misplaced (.lane l) k w = true) (f : State → Core → Ran) :
    ∃ t, next (s.issue (.lane l) k w f) = .next t ∧ LaneFaulted s t l 1 := by
  refine ⟨_, rfl, ?_⟩
  rw [State.issue_running hrun, if_pos hplace]
  exact s.settled_trap_lane l _ .illegal

/-- A supervisor core's instruction is ILLEGAL in a lane. -/
theorem State.issue_supervisors (k : OpClass) (f : State → Core → Ran) :
    ∃ t, next (s.issue (.lane l) k .supervisors f) = .next t ∧ LaneFaulted s t l 1 :=
  State.issue_misplaced hrun rfl f

/-- A transfer is ILLEGAL in a branch slot (R205). -/
theorem State.issue_transfer_inSlot {b : BranchPend} (hslot : (s.core (.lane l)).fetched.branch = some b)
    {w : Cores} (f : State → Core → Ran) :
    ∃ t, next (s.issue (.lane l) .transfer w f) = .next t ∧ LaneFaulted s t l 1 := by
  refine State.issue_misplaced hrun ?_ f
  unfold Core.misplaced
  rw [hslot]
  exact Bool.or_true _

end Lane

/-! ### The hazards of one lane -/

section Hazards

variable {s : State} {l : Fin 64} {x : Core} (hrun : x.run = .running) (hdiv : x.div = none)
  (hcyc : x.cyc = (s.core (.lane l)).cyc + 1)
include hrun hdiv hcyc

/-- A load lands after the instruction in its slot, and wins over it (R210, Table 9.10). -/
theorem mov_inLoadSlot {p : LoadPend} (hbranch : x.branch = none) (h0 : x.rep0.act = false) (h1 : x.rep1.act = false)
    (hcore : s.core (.lane l) = { x with cyc := (s.core (.lane l)).cyc, load := some p }) (hload : x.load = none)
    (d a : Fin 16) : exec (.mov (.lane l) d a) s = .next (s.setCore (.lane l)
      { (x.setReg d (x.reg a)).setReg p.reg p.value with pc := (x.pc + 1) % 2048 }) :=
  State.alu_lane (by rw [hcore]; exact hrun) (p := some p) (by rw [hcore]) (Core.fetched_eq hcore hcyc hload hdiv)
    (Core.advance_next (x := (x.setReg d (x.reg a)).setReg p.reg p.value) hbranch (RepLevel.close_of_idle h1 _)
      (RepLevel.close_of_idle h0 _) 2048)

section Slots

variable {b : BranchPend}
  (hcore : s.core (.lane l) = { x with cyc := (s.core (.lane l)).cyc, branch := some b }) (hload : x.load = none)
include hcore hload

theorem core_inSlot : (s.core (.lane l)).run = .running ∧ (s.core (.lane l)).load = none ∧
    (s.core (.lane l)).fetched = { x with branch := some b } :=
  ⟨by rw [hcore]; exact hrun, by rw [hcore]; exact hload, Core.fetched_eq (n := (s.core (.lane l)).cyc) (p := x.load)
    (x := { x with branch := some b }) hcore hcyc hload hdiv⟩

theorem nop_inFirstSlot (hslots : b.slots = 2) : exec (.nop (.lane l)) s = .next (s.setCore (.lane l)
    { x with pc := (x.pc + 1) % 2048, branch := some { b with slots := 1 } }) := by
  obtain ⟨hruns, hloads, hfetched⟩ := core_inSlot hrun hdiv hcyc hcore hload
  exact State.alu_lane hruns hloads hfetched (Core.advance_firstSlot rfl hslots 2048)

theorem nop_inLastSlot (hslots : b.slots = 1) : exec (.nop (.lane l)) s = .next (s.setCore (.lane l)
    { x with pc := b.target % 2048, branch := none, st := b.status.getD x.st }) := by
  obtain ⟨hruns, hloads, hfetched⟩ := core_inSlot hrun hdiv hcyc hcore hload
  exact State.alu_lane hruns hloads hfetched (Core.advance_lastSlot rfl hslots 2048)

theorem transfer_inSlot {w : Cores} (f : State → Core → Ran) :
    ∃ t, next (s.issue (.lane l) .transfer w f) = .next t ∧ LaneFaulted s t l 1 := by
  obtain ⟨hruns, -, hfetched⟩ := core_inSlot hrun hdiv hcyc hcore hload
  exact State.issue_transfer_inSlot hruns (by rw [hfetched]) f

end Slots

/-- The end of a REPEAT body: back to its start, or out of it after the last pass (R212). -/
theorem nop_atBodyEnd (hcore : s.core (.lane l) = { x with cyc := (s.core (.lane l)).cyc }) (hload : x.load = none)
    (hbranch : x.branch = none) (h1 : x.rep1.act = false) (h0 : x.rep0.act = true) (hend : x.rep0.re = x.pc) :
    (1 < x.rep0.rc → exec (.nop (.lane l)) s = .next (s.setCore (.lane l)
      { x with rep0 := { x.rep0 with rc := x.rep0.rc - 1 }, pc := x.rep0.rs % 2048 })) ∧
    (x.rep0.rc = 1 → exec (.nop (.lane l)) s = .next (s.setCore (.lane l)
      { x with rep0 := { x.rep0 with rc := 0, act := false }, pc := (x.pc + 1) % 2048 })) := by
  have hruns : (s.core (.lane l)).run = .running := by rw [hcore]; exact hrun
  have hloads : (s.core (.lane l)).load = none := by rw [hcore]; exact hload
  have hfetched : (s.core (.lane l)).fetched = x := Core.fetched_eq (p := x.load) hcore hcyc hload hdiv
  exact ⟨fun hleft => State.alu_lane hruns hloads hfetched (Core.advance_turnsBack hbranch h1 h0 hend hleft 2048),
    fun hlast => State.alu_lane hruns hloads hfetched (Core.advance_leaves hbranch h1 h0 hend hlast 2048)⟩

end Hazards

/-- Settles O41: a core that does not run issues nothing; one that runs goes on from where `Core.advance` leads, and an
instruction out of its place traps. -/
theorem issueAndHazards : Obligations.IssueAndHazards := by
  unfold Obligations.IssueAndHazards
  refine ⟨fun i c s => exec_of_not_running, fun s l k x d a p b hrun hdiv hcyc => ⟨?_, ?_, ?_, ?_, ?_⟩⟩
  · exact fun hbranch h0 h1 hcore hload => mov_inLoadSlot hrun hdiv hcyc hbranch h0 h1 hcore hload d a
  · exact fun hcore hload => ⟨nop_inFirstSlot hrun hdiv hcyc hcore hload, nop_inLastSlot hrun hdiv hcyc hcore hload,
      transfer_inSlot hrun hdiv hcyc hcore hload _, transfer_inSlot hrun hdiv hcyc hcore hload _⟩
  · exact nop_atBodyEnd hrun hdiv hcyc
  · exact fun hruns => ⟨State.issue_supervisors hruns _ _, State.issue_supervisors hruns _ _⟩
  · exact fun hat => ⟨_, rfl, hat.lacking rfl rfl⟩

end Sys2Proof.Machine
end

section
/-!
Loads, stores, address generators, special registers and the divide unit (R195, R202, R203, Tables 9.1, 9.8).
-/

namespace Sys2Proof.Machine

open Sys2Proof.Stated

/-! ### Address generators (R202) -/

theorem AddrGen.addr_eq (c : CoreRef) (y : AddrGen) (off : Int) : y.addr (agMod c) off = genAddr c y off := by
  rw [AddrGen.addr, genAddr]
  push_cast
  rfl

theorem AddrGen.modify_eq (c : CoreRef) (y : AddrGen) (step : Int) : y.modify (agMod c) step = genStep c y step := by
  rw [AddrGen.modify, genStep]
  push_cast
  rfl

/-- A core whose generator has been modified by a step. -/
def Core.genStepped (x : Core) (c : CoreRef) (g : Fin 8) (step : Int) : Core :=
  { x with g := x.g.set g (genStep c (x.g.get g) step) }

theorem Core.setGen_modify (x : Core) (c : CoreRef) (g : Fin 8) (step : Int) :
    x.setGen g ((x.gen g).modify (agMod c) step) = x.genStepped c g step := by
  rw [AddrGen.modify_eq]
  rfl

/-! ### A store to data memory (R195, R198, Table 9.2) -/

/-- What of a state a store to a lane's data memory leaves alone beside that memory. -/
def State.SameMachine (s t : State) : Prop :=
  t.eng = s.eng ∧ t.red = s.red ∧ t.saf = s.saf ∧ t.mode = s.mode ∧ t.clk = s.clk ∧ t.dac = s.dac

theorem State.raise_sameMachine {s t : State} (h : s.SameMachine t) (code : Nat) (l : List (Nat × Nat)) :
    s.SameMachine (t.raise code l) := by
  rw [State.SameMachine, State.raise_eng, State.raise_red, State.raise_saf, State.raise_mode, State.raise_clk,
    State.raise_dac]
  exact h

theorem State.pathOut_sameMachine (s : State) (out : Nat) (v : Word) : s.SameMachine (s.pathOut out v) := by
  have hkept (x : LoopSt) (m : MatrixSt) : s.SameMachine { s with loops := x, mx := m } :=
    ⟨rfl, rfl, rfl, rfl, rfl, rfl⟩
  unfold State.pathOut
  refine iteInduction (motive := s.SameMachine) (fun _ => hkept s.loops s.mx) fun _ => ?_
  refine iteInduction (motive := s.SameMachine) (fun _ => hkept _ s.mx) fun _ => ?_
  exact iteInduction (motive := s.SameMachine) (fun _ => State.raise_sameMachine (hkept _ _) _ _) fun _ => hkept _ _

/-- The output words that a store marks or brings move nothing else of the machine. -/
theorem State.memWrite_lane (s : State) (n : Fin 64) (a : Nat) (v : Word) :
    (s.setDm n a v).SameMachine (s.memWrite (.lane n) a v) := by
  unfold State.memWrite
  dsimp only
  split
  · split <;> exact ⟨rfl, rfl, rfl, rfl, rfl, rfl⟩
  · split
    · exact State.pathOut_sameMachine _ _ _
    · exact ⟨rfl, rfl, rfl, rfl, rfl, rfl⟩

theorem State.memWrite_lines (s : State) (c : CoreRef) (a : Nat) (v : Word) :
    (s.memWrite c a v).lines = s.lines := by
  cases c with
  | lane n =>
    obtain ⟨heng, hred, -⟩ := s.memWrite_lane n a v
    rw [State.lines, heng, hred]
    rfl
  | sup n => rfl

/-- The core goes on after its store, and its memory holds the word. -/
theorem State.memWrite_stored (s : State) (c : CoreRef) (y : Core) (a : Nat) (v : Word) :
    Stored s (went (s.memWrite c a v) c y) c y a v := by
  cases c with
  | lane n =>
    obtain ⟨heng, hred, hsaf, hmode, hclk, hdac⟩ := s.memWrite_lane n a v
    refine ⟨?_, hsaf, hmode, hclk, hdac⟩
    rw [went, State.setCore, State.coreKey, heng, hred]
    rfl
  | sup n => exact ⟨rfl, rfl, rfl, rfl, rfl⟩

/-! ### Special registers (Table 9.4) -/

/-- The special registers of a lane or a core that stands outside REPEAT bodies. -/
theorem State.readSpecial_stated {s : State} {c : CoreRef} {x : Core} (h0 : x.rep0.act = false)
    (h1 : x.rep1.act = false) : ∀ p ∈ [(0, x.st.word), (1, x.scl), (2, x.lr), (3, x.iret), (4, x.ifl.word), (5, x.ivec),
      (6, x.icause), (7, x.deadl), (8, x.agstat.toNat), (9, x.dq.toNat), (10, x.rep0.rs), (11, x.rep0.re),
      (12, x.rep0.rc), (13, x.rep1.rs), (14, x.rep1.re), (15, x.rep1.rc), (16, 0), (17, s.loops.period)],
    s.readSpecial c x p.1 = some (BitVec.ofNat 32 p.2, s) := by
  have hdq : BitVec.ofNat 32 x.dq.toNat = x.dq := by rw [BitVec.ofNat_toNat, BitVec.setWidth_eq]
  have hract : x.ract = 0 := by rw [Core.ract, h0, h1]; rfl
  have hspecial : s.readSpecial c x 16 = some (BitVec.ofNat 32 x.ract, s) := rfl
  simp only [List.forall_mem_cons, hdq]
  rw [hspecial, hract]
  exact ⟨rfl, rfl, rfl, rfl, rfl, rfl, rfl, rfl, rfl, rfl, rfl, rfl, rfl, rfl, rfl, rfl, rfl, rfl, by simp⟩

/-- The special registers that supervisor cores have alone. -/
theorem State.readSpecial_sup {s : State} {n : Fin 4} {x : Core} : ∀ p ∈ [(32, x.epc), (33, x.efl.toNat),
      (34, x.ecause), (35, x.evec), (36, x.eaddr), (37, x.imask), (38, n.val + 4 * s.red.activeUnit)],
    s.readSpecial (.sup n) x p.1 = some (BitVec.ofNat 32 p.2, s) := by
  have hefl : BitVec.ofNat 32 x.efl.toNat = x.efl := by rw [BitVec.ofNat_toNat, BitVec.setWidth_eq]
  simp only [List.forall_mem_cons, hefl]
  exact ⟨rfl, rfl, rfl, rfl, rfl, rfl, rfl, by simp⟩

theorem State.readSpecial_lane {s : State} {l : Fin 64} {x : Core} {sr : Nat} (hlow : 32 ≤ sr) (hhigh : sr ≤ 39) :
    s.readSpecial (.lane l) x sr = none := by
  interval_cases sr <;> rfl

/-! ### The divide unit (Table 9.8) -/

theorem Core.divide_eq (x : Core) (num den : Int) : x.divide num den = divided x num den := by
  rw [Core.divide, satInt_eq_max_min]
  rfl

/-- The root that the divide unit brings is the greatest below 2^32 whose square does not pass the value. -/
theorem sqrt_limited_spec {v : Int} (hv : 0 ≤ v) {q : Nat} (hq : q = min (Nat.sqrt v.toNat) (2 ^ 32 - 1)) :
    q < 2 ^ 32 ∧ (q : Int) * q ≤ v ∧ (q < 2 ^ 32 - 1 → v < ((q + 1 : Nat) : Int) * ((q + 1 : Nat) : Int)) := by
  obtain ⟨m, rfl⟩ := Int.eq_ofNat_of_zero_le hv
  rw [Int.toNat_natCast] at hq
  have hle : q ≤ Nat.sqrt m := by omega
  refine ⟨by omega, ?_, fun hlt => ?_⟩
  · exact_mod_cast (Nat.mul_le_mul hle hle).trans (Nat.sqrt_le m)
  · have hroot : q = Nat.sqrt m := by omega
    rw [hroot]
    exact_mod_cast Nat.lt_succ_sqrt m

end Sys2Proof.Machine

namespace Sys2Proof.Stated

open Sys2Proof.Machine

/-- A lane that faults leaves the lanes' data memory as it was. -/
theorem LaneFaulted.dm {s t : State} {l : Fin 64} {code : Nat} (h : LaneFaulted s t l code) : t.eng.dm = s.eng.dm := by
  obtain ⟨y, heng, -⟩ := h
  rw [heng]

section Memory

variable {s : State} {c : CoreRef} {x : Core} (hat : At s c x)
include hat

/-! ### Loads and stores -/

section Access

variable {y : Core} {ad : Nat} (htop : ad < memTop c) (hplace : y.place = x.place)
include htop hplace

/-- A load from a word that there is: the word is on its way to its register. -/
theorem At.loads {f : State → Core → Ran} {d : Fin 16} (hf : f s x = s.loadFrom c y d ad) :
    next (s.issue c .plain .all f) = .next (went s c { y with load := some ⟨d, s.memRead c ad⟩ }) :=
  hat.does (y := { y with load := some ⟨d, s.memRead c ad⟩ }) (hf.trans (if_neg (by omega))) hplace

/-- A store to a word that the core may write. -/
theorem At.stores {f : State → Core → Ran} {v : Word} (hf : f s x = s.storeTo c y ad v)
    (hmay : mayStore c ad = true) :
    ∃ t, next (s.issue c .plain .all f) = .next t ∧ Stored s t c y ad v := by
  have hopen : ¬(isLane c = true ∧ laneStores ad = false) := by
    rintro ⟨hlane, hclosed⟩
    rw [mayStore, hlane, hclosed] at hmay
    exact absurd hmay (by decide)
  exact ⟨_, hat.goes (hf.trans ((if_neg (by omega)).trans (if_neg hopen))) rfl (s.memWrite_lines c ad v) hplace,
    s.memWrite_stored c y ad v⟩

end Access

/-- LD, LDV, ST and STV at a generator's address, which is then modified (R202). -/
theorem At.postModify (d b r : Fin 16) (g : Fin 8) (o : BitVec 16) {ad : Nat} (htop : ad < memTop c)
    (had : ad = genAddr c (x.g.get g) 0) :
    exec (.ld c d g o) s = .next (went s c { x with
      g := x.g.set g (genStep c (x.g.get g) o.toInt), load := some ⟨d, s.memRead c ad⟩ }) ∧
    exec (.ldv c d g b) s = .next (went s c { x with
      g := x.g.set g (genStep c (x.g.get g) (x.reg b).toInt), load := some ⟨d, s.memRead c ad⟩ }) ∧
    (mayStore c ad = true →
      (∃ t, exec (.st c b g o) s = .next t ∧
        Stored s t c { x with g := x.g.set g (genStep c (x.g.get g) o.toInt) } ad (x.reg b)) ∧
      ∃ t, exec (.stv c b g r) s = .next t ∧
        Stored s t c { x with g := x.g.set g (genStep c (x.g.get g) (x.reg r).toInt) } ad (x.reg b)) := by
  have haddr : (x.gen g).addr (agMod c) 0 = ad := (AddrGen.addr_eq _ _ _).trans had.symm
  refine ⟨hat.loads (y := x.genStepped c g o.toInt) htop rfl ?_,
    hat.loads (y := x.genStepped c g (x.reg b).toInt) htop rfl ?_,
    fun hmay => ⟨hat.stores (y := x.genStepped c g o.toInt) htop rfl ?_ hmay,
      hat.stores (y := x.genStepped c g (x.reg r).toInt) htop rfl ?_ hmay⟩⟩ <;>
    rw [haddr, Core.setGen_modify]

/-- LDX and STX at an offset from a generator (R202). -/
theorem At.offset (d b : Fin 16) (g : Fin 8) (o : BitVec 16) {ad : Nat} (htop : ad < memTop c)
    (had : ad = genAddr c (x.g.get g) o.toInt) :
    exec (.ldx c d g o) s = .next (went s c { x with load := some ⟨d, s.memRead c ad⟩ }) ∧
    (mayStore c ad = true → ∃ t, exec (.stx c b g o) s = .next t ∧ Stored s t c x ad (x.reg b)) := by
  have haddr : (x.gen g).addr (agMod c) o.toInt = ad := (AddrGen.addr_eq _ _ _).trans had.symm
  refine ⟨hat.loads htop rfl ?_, hat.stores htop rfl ?_⟩ <;> rw [haddr]

/-- LDD and STD; a store to a protected word is a fault of a lane (R195). -/
theorem At.direct (d b : Fin 16) (i : Word) {ad : Nat} (htop : ad < memTop c) (had : ad = i.toNat) :
    exec (.ldd c d i) s = .next (went s c { x with load := some ⟨d, s.memRead c ad⟩ }) ∧
    (mayStore c ad = true → ∃ t, exec (.std c b i) s = .next t ∧ Stored s t c x ad (x.reg b)) ∧
    (∀ l, c = .lane l → mayStore c ad = false → ∃ t, exec (.std c b i) s = .next t ∧ LaneFaulted s t l 3 ∧
      t.eng.dm = s.eng.dm) := by
  subst had
  refine ⟨hat.loads htop rfl rfl, hat.stores htop rfl rfl, fun l hc hclosed => ?_⟩
  have hprotected : isLane c = true ∧ laneStores i.toNat = false := by
    subst hc
    exact ⟨rfl, by simpa [mayStore, isLane] using hclosed⟩
  obtain ⟨t, hexec, hfault⟩ := hat.faults (f := fun u y => u.storeTo c y i.toNat (y.reg b)) (e := .memProt)
    (k := .plain) (w := .all) hc ((if_neg (by omega)).trans (if_pos hprotected)) rfl
  exact ⟨t, hexec, hfault, hfault.dm⟩

/-- LDR and STR at the sum of a register and the instruction's word. -/
theorem At.indirect (d a b : Fin 16) (i : Word) {ad : Nat} (htop : ad < memTop c) (had : ad = (x.reg a + i).toNat) :
    exec (.ldr c d a i) s = .next (went s c { x with load := some ⟨d, s.memRead c ad⟩ }) ∧
    (mayStore c ad = true → ∃ t, exec (.str c b a i) s = .next t ∧ Stored s t c x ad (x.reg b)) := by
  subst had
  exact ⟨hat.loads htop rfl rfl, hat.stores htop rfl rfl⟩

/-- A load from beyond the memory is a fault of a lane and an exception of a supervisor core. -/
theorem At.beyond (d : Fin 16) {i : Word} (htop : memTop c ≤ i.toNat) :
    (∀ l, c = .lane l → ∃ t, exec (.ldd c d i) s = .next t ∧ LaneFaulted s t l 2 ∧ t.eng.dm = s.eng.dm) ∧
    (∀ l, c = .sup l → ∃ t, exec (.ldd c d i) s = .next t ∧ Excepted s t l x 0x11 (some i.toNat)) := by
  refine ⟨fun l hc => ?_, fun l hc => hat.excepts hc (e := .memRange i.toNat) (if_pos htop) rfl⟩
  obtain ⟨t, hexec, hfault⟩ := hat.faults (f := fun u y => u.loadFrom c y d i.toNat) (e := .memRange i.toNat)
    (k := .plain) (w := .all) hc (if_pos htop) rfl
  exact ⟨t, hexec, hfault, hfault.dm⟩

/-! ### Address generators (R202, R203) -/

/-- MTAG: a field of a generator is written; a shorter LEN wraps the pointer and is noted in AGSTAT (R203). -/
theorem At.mtag (a : Fin 16) (g : Fin 8) {n : Nat} (hn : n = (x.reg a).toNat % agMod c) :
    exec (.mtag c g 0 a) s = .next (went s c { x with g := x.g.set g { x.g.get g with base := n } }) ∧
    (n = 0 ∨ (x.g.get g).ptr < n → exec (.mtag c g 1 a) s =
      .next (went s c { x with g := x.g.set g { x.g.get g with len := n } })) ∧
    (n ≠ 0 → n ≤ (x.g.get g).ptr → exec (.mtag c g 1 a) s = .next (went s c { x with
      g := x.g.set g { x.g.get g with len := n, ptr := (x.g.get g).ptr % n }
      agstat := x.agstat ||| 1 <<< g.val })) ∧
    exec (.mtag c g 2 a) s = .next (went s c { x with
      g := x.g.set g { x.g.get g with ptr := if (x.g.get g).len = 0 then n else n % (x.g.get g).len } }) := by
  subst hn
  refine ⟨hat.alu rfl rfl, fun hfits => hat.alu ?_ rfl, fun hpos hle => hat.alu ?_ rfl, hat.alu rfl rfl⟩
  · have hin : ¬((x.reg a).toNat % agMod c ≠ 0 ∧ (x.gen g).ptr ≥ (x.reg a).toNat % agMod c) := by
      rintro ⟨hne, hge⟩
      exact hfits.elim hne fun hlt => absurd hge (not_le.mpr hlt)
    rw [Core.agField]
    dsimp only
    rw [if_neg hin]
    rfl
  · have hout : (x.reg a).toNat % agMod c ≠ 0 ∧ (x.gen g).ptr ≥ (x.reg a).toNat % agMod c := ⟨hpos, hle⟩
    rw [Core.agField]
    dsimp only
    rw [if_pos hout]
    rfl

/-! ### Special registers and the divide unit -/

theorem At.mfs {sr : Nat} {v : Word} (d : Fin 16) (hread : s.readSpecial c x sr = some (v, s)) :
    exec (.mfs c d sr) s = .next (went s c (x.setReg d v)) := hat.does (by rw [hread]) rfl

theorem At.mfs_illegal {sr : Nat} {l : Fin 64} (hc : c = .lane l) (d : Fin 16) (hlow : 32 ≤ sr) (hhigh : sr ≤ 39) :
    ∃ t, exec (.mfs c d sr) s = .next t ∧ LaneFaulted s t l 1 := by
  subst hc
  exact hat.faults rfl (e := .illegal) (by rw [State.readSpecial_lane hlow hhigh]) rfl

/-- A division of the two numbers that an instruction takes. -/
theorem At.divides {f : Core → Core} {num den : Int} (hf : f x = x.divide num den) :
    next (s.alu c f) = .next (went s c (divided x num den)) := hat.alu (hf.trans (x.divide_eq num den)) rfl

/-- SQRTA of a value that has a root. -/
theorem At.sqrta {k : Fin 2} (hv : 0 ≤ (x.a.get k).toInt) : ∃ q : Nat, q < 2 ^ 32 ∧
    ((q : Int) * q ≤ (x.a.get k).toInt) ∧
    (q < 2 ^ 32 - 1 → (x.a.get k).toInt < ((q + 1 : Nat) : Int) * ((q + 1 : Nat) : Int)) ∧
    exec (.sqrta c k) s = .next (went s c { x with div := some ⟨12, BitVec.ofNat 32 q⟩ }) := by
  obtain ⟨hlt, hsq, hnext⟩ := sqrt_limited_spec hv rfl
  refine ⟨_, hlt, hsq, hnext, hat.alu ?_ rfl⟩
  have hneg : ¬x.acc k < 0 := not_lt.mpr hv
  dsimp only
  rw [if_neg hneg, decide_eq_false hneg, Bool.or_false]
  rfl

/-- SQRTA of a negative value brings 0 and sets DZ. -/
theorem At.sqrta_negative {k : Fin 2} (hv : (x.a.get k).toInt < 0) : exec (.sqrta c k) s =
    .next (went s c { x with div := some ⟨12, 0⟩, st := { x.st with dz := true } }) := by
  refine hat.alu ?_ rfl
  have hneg : x.acc k < 0 := hv
  dsimp only
  rw [if_pos hneg, decide_eq_true hneg, Bool.or_true]
  rfl

end Memory

/-- Settles O39: a load or store takes its address by one of four forms, and the other instructions change their
core. -/
theorem memoryInstructions : Obligations.MemoryInstructions := by
  unfold Obligations.MemoryInstructions
  intro s c x d a b r g o i y n hat hy
  subst hy
  obtain ⟨-, h0, h1⟩ := hat.plain
  have hzero : (x.reg a).toInt * 2 ^ (0 % 32) = (x.reg a).toInt := mul_one _
  refine ⟨fun ad htop => ⟨hat.postModify d b r g o htop, hat.offset d b g o htop, hat.direct d b i htop,
    hat.indirect d a b i htop⟩, hat.beyond d, fun base len => hat.alu rfl rfl, hat.alu rfl rfl, hat.mtag a g,
    hat.does rfl rfl, hat.does rfl rfl, hat.does rfl rfl, fun p hp => hat.mfs d (State.readSpecial_stated h0 h1 p hp),
    fun l hc sr => hat.mfs_illegal hc d, fun l hc p hp => ?_, hat.does rfl rfl, hat.does rfl rfl, hat.does rfl rfl,
    hat.does rfl rfl, hat.does rfl rfl, hat.divides (by rw [hzero]),
    fun hn => hat.divides (by rw [Nat.mod_eq_of_lt hn]), fun k => hat.divides rfl, fun k => hat.sqrta, fun k => hat.sqrta_negative⟩
  subst hc
  exact hat.mfs d (State.readSpecial_sup p hp)

end Sys2Proof.Stated
end

section
/-!
CSTEP and the control, wait and privileged instructions (R201, R205, R211 to R215, R219, Tables 9.5 and 9.9).
-/

namespace Sys2Proof.Machine

open Sys2Proof.Stated

/-! ### What the step of a cell leaves alone (R169, R170, R177, R178, R215) -/

/-- The state without the loops, the lanes' data memory and what an event can change. -/
def State.lessCell (s : State) : State :=
  { s.lessEvents with loops := {}, eng := { s.eng with dm := [] } }

@[simp] theorem State.lessCell_ite (c : Prop) [Decidable c] (a b : State) :
    (if c then a else b).lessCell = if c then a.lessCell else b.lessCell := by
  split <;> rfl

@[simp] theorem State.setCell_lessCell (s : State) (c : Nat) (x : CellLoop) :
    (s.setCell c x).lessCell = s.lessCell := rfl

@[simp] theorem State.setCellState_lessCell (s : State) (c : Nat) (x : CellLoop) (st : LoopState) :
    (s.setCellState c x st).lessCell = s.lessCell := rfl

@[simp] theorem State.raiseLoop_lessCell (s : State) (code sub : Nat) (l : List (Nat × Nat)) :
    (s.raiseLoop code sub l).lessCell = s.lessCell := by
  rw [State.lessCell, State.lessCell, State.raiseLoop_lessEvents, State.raiseLoop_eng]

@[simp] theorem State.enterSuspect_lessCell (s : State) (c : Nat) (x : CellLoop) (reason : Nat) :
    (s.enterSuspect c x reason).lessCell = s.lessCell := by
  simp [State.enterSuspect]

@[simp] theorem State.refreshCell_lessCell (s : State) (c : Nat) : (s.refreshCell c).lessCell = s.lessCell := by
  unfold State.refreshCell
  dsimp only
  split <;> split <;> simp

@[simp] theorem State.releaseCell_lessCell (s : State) (c how : Nat) : (s.releaseCell c how).lessCell = s.lessCell := by
  simp [State.releaseCell]

@[simp] theorem State.judgeCell_lessCell (s : State) (c result : Nat) :
    (s.judgeCell c result).lessCell = s.lessCell := by
  unfold State.judgeCell
  dsimp only
  split <;> simp

/-- What such a state shows of the cores. -/
theorem State.cores_of_lessCell {s t : State} (h : t.lessCell = s.lessCell) : t.eng.cores = s.eng.cores ∧
    t.lines = s.lines ∧ t.clk = s.clk := by
  have heng : { t.eng with dm := [] } = { s.eng with dm := [] } := congrArg State.eng h
  have hcores := congrArg EngineSt.cores heng
  have hirq := congrArg EngineSt.irq heng
  have hred : t.red = s.red := by have := congrArg State.red h; exact this
  have hclk : t.clk = s.clk := by have := congrArg State.clk h; exact this
  exact ⟨hcores, by rw [State.lines, hirq, hred]; rfl, hclk⟩

/-- A cell marked as stepped reads so, whatever the form of the table of cells. -/
theorem State.cell_setCell_stepped (s : State) (c : Nat) (x : CellLoop) :
    (s.setCell c { x with stepped := true }).cell c = { x with stepped := true } := by
  have hne : ({ x with stepped := true } : CellLoop) ≠ {} := fun h =>
    have hmark : true = false := congrArg CellLoop.stepped h
    absurd hmark (by decide)
  show tget {} (tset {} s.loops.cells c { x with stepped := true }) c = _
  rw [tget, tset, if_neg hne, tget?_tput_same, Option.getD_some]

/-! ### CSTEP (R215) -/

section Cstep

variable {s : State} {l : Fin 64} {ra : Word}

theorem State.cstep_noCell (h : (s.laneCells l).length ≤ ra.toNat % 128) : s.cstep l ra = (8, s) := by
  rw [State.cstep, List.getElem?_eq_none h]

variable {cell : Nat} (hcell : (s.laneCells l)[ra.toNat % 128]? = some cell)
include hcell

theorem State.cstep_unjudged (h : (s.cell cell).stepped = true ∨ s.ptime < 121800 ∨ 127600 < s.ptime) :
    s.cstep l ra = (BitVec.ofNat 32 ((s.cell cell).state.code + 8), s) := by
  have hno : s.loops.sampled = false ∨ s.ptime < 121800 ∨ s.ptime > 127600 ∨ (s.cell cell).stepped = true := by tauto
  rw [State.cstep, hcell]
  dsimp only
  rw [if_pos hno]

/-- In its window a cell is judged once, by the two bits that the lane gives. -/
theorem State.cstep_judged (hstepped : (s.cell cell).stepped = false) (hsampled : s.loops.sampled = true)
    (hlow : 121800 ≤ s.ptime) (hhigh : s.ptime ≤ 127600) : ∃ u,
    s.cstep l ra = (BitVec.ofNat 32 (u.cell cell).state.code, u) ∧ (u.cell cell).stepped = true ∧
    u.lessCell = s.lessCell := by
  have hyes : ¬(s.loops.sampled = false ∨ s.ptime < 121800 ∨ s.ptime > 127600 ∨ (s.cell cell).stepped = true) := by
    rw [hsampled, hstepped]
    simp only [Bool.true_eq_false, Bool.false_eq_true, or_false, false_or]
    omega
  rw [State.cstep, hcell]
  dsimp only
  rw [if_neg hyes]
  refine ⟨_, rfl, ?_, ?_⟩
  · rw [State.cell_setCell_stepped]
  · rw [State.setCell_lessCell, State.judgeCell_lessCell, State.setCell_lessCell]

end Cstep

end Sys2Proof.Machine

namespace Sys2Proof.Stated

open Sys2Proof.Machine

section Control

variable {s : State} {c : CoreRef} {x : Core} (hat : At s c x)
include hat

/-! ### Branches and REPEAT (R211 to R213) -/

/-- A branch, taken or not, has two slots (Table 9.10). -/
theorem At.branches {f : Core → Option Core} {y : Core} {target : Nat} {st : Option Status}
    (hf : f x = some (y.branchTo target st)) {w : Cores} (hw : w.lacks c = false) :
    next (s.jumpSlots c w f) = .next (went s c (slots y target st)) :=
  hat.advances (by rw [hf]) (y.advance_branchTo target st (pcMod c)) hw rfl

/-- A level of REPEAT opens over the words that follow (R212). -/
theorem At.opensRepeat {f : State → Core → Ran} {n len : Nat} (hf : f s x = x.beginRepeat n len s) (hn : n ≠ 0)
    (hlen : 0 < len) {k : OpClass} : next (s.issue c k .all f) = .next (went s c { x with
      rep0 := { rs := x.pc + 1, re := x.pc + len, rc := n, act := true } }) := by
  obtain ⟨hbranch, h0, h1⟩ := hat.plain
  have hgo : x.beginRepeat n len s =
      .go { x with rep0 := { rs := x.pc + 1, re := x.pc + len, rc := n, act := true } } s := by
    rw [Core.beginRepeat, if_neg (by rw [h0]; decide), if_neg hn]
  have hinside : x.pc ≠ x.pc + len := by omega
  exact hat.advances (hf.trans hgo) (Core.advance_next
    (x := { x with rep0 := { rs := x.pc + 1, re := x.pc + len, rc := n, act := true } }) hbranch
    (RepLevel.close_of_idle h1 _) (RepLevel.close_inside hinside) _) rfl rfl

/-- A REPEAT of no passes leaves its body out (R212). -/
theorem At.skipsRepeat {f : State → Core → Ran} {len : Nat} (hf : f s x = x.beginRepeat 0 len s) {k : OpClass} :
    next (s.issue c k .all f) = .next (s.setCore c { x with pc := (x.pc + len + 1) % pcMod c }) := by
  obtain ⟨-, h0, -⟩ := hat.plain
  have hjump : x.beginRepeat 0 len s = .jump x (x.pc + len + 1) s := by
    rw [Core.beginRepeat, if_neg (by rw [h0]; decide), if_pos rfl]
  exact hat.jumps (hf.trans hjump) rfl

/-! ### The control instructions of a lane (R214 to R216, Table 9.5) -/

section Lane

variable {l : Fin 64} (hc : c = .lane l)
include hc

theorem At.waitp : (x.stopAt = none → exec (.waitp c) s = .next (s.setCore c (waits x .period s.clk))) ∧
    (x.stopAt.isSome = true → exec (.waitp c) s =
      .next (s.setCore c { x with run := .stopped, wait := .period, stopAt := none })) := by
  subst hc
  exact ⟨fun hnone => hat.stays (if_neg (by rw [hnone]; decide)) rfl, fun hsome => hat.stays (if_pos hsome) rfl⟩

theorem At.waite : (s.ptime < 121800 → exec (.waite c) s = .next (s.setCore c (waits x .endData s.clk))) ∧
    (121800 ≤ s.ptime → s.recs l ≠ 0 → exec (.waite c) s = .next (went s c x)) := by
  subst hc
  have hready : s.endDataReady (.lane l) = decide (s.ptime ≥ 121800 ∧ s.recs l ≠ 0) := rfl
  exact ⟨fun hlt => hat.stays (if_neg (by rw [hready]; simp only [decide_eq_true_eq]; omega)) rfl,
    fun hle hrecs => hat.goes (if_pos (by rw [hready]; exact decide_eq_true ⟨hle, hrecs⟩)) rfl rfl rfl⟩

theorem At.waits (a : Fin 16) (n : Nat) :
    (n ≤ seqDiff x.srwc (x.reg a).toNat → exec (.waits c a n) s = .next (went s c x)) ∧
    (seqDiff x.srwc (x.reg a).toNat < n → exec (.waits c a n) s =
      .next (s.setCore c (Stated.waits x (.records (x.reg a).toNat n) s.clk))) := by
  subst hc
  refine ⟨fun hle => hat.goes (if_pos (decide_eq_true hle)) rfl rfl rfl, fun hlt => hat.stays (if_neg ?_) rfl⟩
  rw [recordsReady, decide_eq_true_eq]
  omega

/-- CSTEP brings what the step of the cell answers, and the state that it leaves. -/
theorem At.cstep {d a : Fin 16} {v : Word} {u : State} (hstep : s.cstep l (x.reg a) = (v, u))
    (hlines : u.lines = s.lines) : exec (.cstep c d a) s = .next (went u c { x with load := some ⟨d, v⟩ }) := by
  subst hc
  exact hat.goes (by dsimp only; rw [hstep]) rfl hlines rfl

theorem At.cstep_cell (d a : Fin 16) (cell : Nat)
    (hcell : (s.laneCells l)[(x.reg a).toNat % 128]? = some cell) :
    ((s.cell cell).stepped = true ∨ s.ptime < 121800 ∨ 127600 < s.ptime → exec (.cstep c d a) s =
      .next (went s c { x with load := some ⟨d, BitVec.ofNat 32 ((s.cell cell).state.code + 8)⟩ })) ∧
    ((s.cell cell).stepped = false → s.loops.sampled = true → 121800 ≤ s.ptime → s.ptime ≤ 127600 → ∃ u,
      exec (.cstep c d a) s =
        .next (went u c { x with load := some ⟨d, BitVec.ofNat 32 (u.cell cell).state.code⟩ }) ∧
      (u.cell cell).stepped = true ∧ u.clk = s.clk ∧ u.eng.cores = s.eng.cores) := by
  refine ⟨fun h => hat.cstep hc (State.cstep_unjudged hcell h) rfl, fun hstepped hsampled hlow hhigh => ?_⟩
  obtain ⟨u, hstep, hmarked, hless⟩ := State.cstep_judged hcell hstepped hsampled hlow hhigh
  obtain ⟨hcores, hlines, hclk⟩ := State.cores_of_lessCell hless
  exact ⟨u, hat.cstep hc hstep hlines, hmarked, hclk, hcores⟩

theorem At.bkpt_lane : (s.flag Reg.LE_LANE_CTL_BKPT_EN = false → exec (.bkpt c) s = .next (went s c x)) ∧
    (s.flag Reg.LE_LANE_CTL_BKPT_EN = true → ∃ t, exec (.bkpt c) s = .next t ∧ LaneFaulted s t l 4) := by
  subst hc
  exact ⟨fun hoff => hat.goes (if_pos ⟨rfl, hoff⟩) rfl rfl rfl,
    fun hon => hat.faults rfl (e := .bkpt) (if_neg fun h => absurd (hon.symm.trans h.2) (by decide)) rfl⟩

end Lane

/-! ### The privileged instructions without the bus (R219, Table 9.9) -/

section Supervisor

variable {n : Fin 4} (hc : c = .sup n)
include hc

theorem At.bkpt_sup : ∃ t, exec (.bkpt c) s = .next t ∧ Excepted s t n x 0x14 none := by
  have hlane : ¬(isLane c = true ∧ s.flag Reg.LE_LANE_CTL_BKPT_EN = false) := by
    subst hc
    exact fun h => Bool.false_ne_true h.1
  exact hat.excepts hc (e := .bkpt) (if_neg hlane) rfl

theorem At.waiti : exec (.waiti c) s = .next (s.setCore c (Stated.waits x .interrupt s.clk)) := by
  obtain ⟨-, -, -, -, -, -, -, hquiet⟩ := id hat
  have hline := hquiet n hc
  subst hc
  have hnone : s.irqPending (.sup n) x = false := by
    rw [State.irqPending, hline, Nat.zero_and]
    rfl
  exact hat.stays (if_neg (by rw [hnone]; decide)) rfl

end Supervisor

end Control

end Sys2Proof.Stated
end

section
/-!
The bus instructions of a supervisor core on checkpoint memory (R452, R457, R459, R460, R467, Table 9.9).
-/

namespace Sys2Proof.Machine

open Sys2Proof.Stated

/-! ### One word of a beat -/

/-- A word within a beat of 16 bytes: its place, and its address from the beat's. -/
theorem exists_word_of_aligned {a : Nat} (halign : a % 4 = 0) : ∃ i < 4, a % 16 = 4 * i ∧ a / 16 * 16 + 4 * i = a :=
  ⟨a % 16 / 4, by omega, by omega, by omega⟩

/-- The access of one aligned word is one beat with that word's four strobes. -/
theorem wordBeats_of_aligned {a i : Nat} (hi : i < 4) (hplace : a % 16 = 4 * i) (v : Nat) :
    wordBeats a v = [(BitVec.ofNat 16 (15 * 16 ^ i), BitVec.ofNat 128 (v * 2 ^ (32 * i)))] := by
  have hstrobes : 2 ^ (4 * i) = 16 ^ i := by rw [pow_mul]; norm_num
  have hdata : 8 * (4 * i) = 32 * i := by ring
  rw [wordBeats, hplace, if_pos (by omega), hstrobes, hdata]

theorem toNat_wordStrobes {i : Nat} (hi : i < 4) : (BitVec.ofNat 16 (15 * 16 ^ i)).toNat = 15 * 16 ^ i := by
  interval_cases i <;> rfl

theorem toNat_wordData {i v : Nat} (hi : i < 4) (hv : v < 2 ^ 32) :
    (BitVec.ofNat 128 (v * 2 ^ (32 * i))).toNat = v * 2 ^ (32 * i) := by
  rw [BitVec.toNat_ofNat, Nat.mod_eq_of_lt]
  calc v * 2 ^ (32 * i) < 2 ^ 32 * 2 ^ (32 * i) := by gcongr
    _ = 2 ^ (32 + 32 * i) := by rw [pow_add]
    _ ≤ 2 ^ 128 := Nat.pow_le_pow_right (by decide) (by omega)

/-- Word `j` of a one-word beat is enabled whole where it is the word, and not at all elsewhere. -/
theorem wordStrobes_at {i j : Nat} (hi : i < 4) (hj : j < 4) : 15 * 16 ^ i / 16 ^ j % 16 = if j = i then 15 else 0 := by
  interval_cases i <;> interval_cases j <;> rfl

/-- The word that such a read brings back is the word read. -/
theorem beatsWord_of_aligned {a i v : Nat} (hi : i < 4) (hplace : a % 16 = 4 * i) (hv : v < 2 ^ 32) :
    beatsWord a [BitVec.ofNat 128 (v * 2 ^ (32 * i))] = v := by
  have hdata : 8 * (4 * i) = 32 * i := by ring
  have hfirst : lget (0 : BitVec 128) [BitVec.ofNat 128 (v * 2 ^ (32 * i))] 0 =
    BitVec.ofNat 128 (v * 2 ^ (32 * i)) := rfl
  have hsecond : (lget (0 : BitVec 128) [BitVec.ofNat 128 (v * 2 ^ (32 * i))] 1).toNat = 0 := rfl
  rw [beatsWord, hfirst, hsecond, toNat_wordData hi hv, hplace, hdata, Nat.mul_zero, Nat.add_zero,
    Nat.mul_div_cancel _ (by positivity), Nat.mod_eq_of_lt hv]

/-- A word is read, and then the words after it. -/
theorem State.beatRead_succ {s : State} {b strobes n j v r : Nat}
    (hword : s.busWordRead (b + 4 * j) (strobes / 16 ^ j % 16) = (v, s))
    (hrest : State.beatRead b strobes n (j + 1) s = (r, s)) :
    State.beatRead b strobes (n + 1) j s = (v * 2 ^ (32 * j) + r, s) := by
  rw [State.beatRead, hword]
  dsimp only
  rw [hrest]

/-- A beat in which one word is enabled reads that word. -/
theorem State.beatRead_oneWord {s : State} {b i v : Nat} (hi : i < 4)
    (hread : s.busWordRead (b + 4 * i) 15 = (v, s)) :
    State.beatRead b (15 * 16 ^ i) 4 0 s = (v * 2 ^ (32 * i), s) := by
  have hword {j : Nat} (hj : j < 4) :
      s.busWordRead (b + 4 * j) (15 * 16 ^ i / 16 ^ j % 16) = (if j = i then v else 0, s) := by
    rw [wordStrobes_at hi hj]
    split_ifs with heq
    · rw [heq, hread]
    · rfl
  rw [State.beatRead_succ (hword (by decide)) (State.beatRead_succ (hword (by decide)) (State.beatRead_succ
    (hword (by decide)) (State.beatRead_succ (hword (by decide)) rfl)))]
  interval_cases i <;> simp

/-- A beat in which one word is enabled writes that word. -/
theorem State.beatWrite_oneWord {s : State} {b i v : Nat} (hi : i < 4) (hv : v < 2 ^ 32) :
    State.beatWrite b (15 * 16 ^ i) (v * 2 ^ (32 * i)) s = s.busWordWrite (b + 4 * i) 15 v := by
  have hdata : v * 2 ^ (32 * i) / 2 ^ (32 * i) % 2 ^ 32 = v := by
    rw [Nat.mul_div_cancel _ (by positivity), Nat.mod_eq_of_lt hv]
  have hword (u : State) (j : Nat) (hj : j < 4) :
      u.busWordWrite (b + 4 * j) (15 * 16 ^ i / 16 ^ j % 16) (v * 2 ^ (32 * i) / 2 ^ (32 * j) % 2 ^ 32) =
        if j = i then u.busWordWrite (b + 4 * i) 15 v else u := by
    rw [wordStrobes_at hi hj]
    split_ifs with heq
    · rw [heq, hdata]
    · rfl
  have hrange : List.range 4 = [0, 1, 2, 3] := rfl
  rw [State.beatWrite, State.each, hrange, List.foldl_cons, List.foldl_cons, List.foldl_cons, List.foldl_cons,
    List.foldl_nil, hword _ 0 (by decide), hword _ 1 (by decide), hword _ 2 (by decide), hword _ 3 (by decide)]
  interval_cases i <;> rfl

/-- A burst of one beat reads that beat. The beat's read stands as a variable here: left in place, the kernel evaluates
it as far as it goes before it compares the two sides. -/
theorem State.burstRead_single {s t : State} {b : BitVec 16 × BitVec 128} {a v : Nat}
    (h : State.beatRead a b.1.toNat 4 0 s = (v, t)) : State.burstRead [b] a s = ([BitVec.ofNat 128 v], t) := by
  obtain ⟨read, hread⟩ : ∃ read, read = State.beatRead := ⟨_, rfl⟩
  delta State.burstRead State.burstRead._f
  rw [← hread] at h ⊢
  dsimp only
  rw [h]

/-! ### Checkpoint memory on the bus (R452, R467) -/

theorem State.ckptRead_granted (s : State) (t m a : Nat) : (s.granted t m).ckptRead a = s.ckptRead a := rfl

section Checkpoint

variable {a : Nat} (hlow : 0x5000000 ≤ a) (hhigh : a < 0x5400000)
include hlow hhigh

theorem busRange_ckpt : busRange a = some (0x5000000, 0x53FFFFF, 5) := by
  have hbelow {x y : Nat} (hy : y < 0x5000000) : decide (x ≤ a ∧ a ≤ y) = false := decide_eq_false (by omega)
  have habove {x y : Nat} (hx : 0x53FFFFF < x) : decide (x ≤ a ∧ a ≤ y) = false := decide_eq_false (by omega)
  have hin : decide (0x5000000 ≤ a ∧ a ≤ 0x53FFFFF) = true := decide_eq_true (by omega)
  have hfirst : 0x3FFFF < a := by omega
  simp [busRange, busRanges, -Bool.decide_and, hbelow, habove, hin, hfirst]

theorem busTarget_ckpt : busTarget a = some 5 := by rw [busTarget, busRange_ckpt hlow hhigh]; rfl

theorem registerRange_ckpt : registerRange a = false := by
  rw [registerRange, decide_eq_false (by omega), Bool.false_and]

/-- Both control units have a path to checkpoint memory (Table 21.3). -/
theorem accessCode_ckpt {m : Nat} (hm : m < 2) : accessCode m a = 0 := by
  rw [accessCode, busTarget_ckpt hlow hhigh]
  interval_cases m <;> rfl

theorem State.busWordRead_ckpt (s : State) : s.busWordRead a 15 = (s.ckptRead a % 2 ^ 32, s) := by
  have hmask : beMask 15 = 2 ^ 32 - 1 := by decide
  have hword : s.memWordRead a = (s.ckptRead a, s) := by
    rw [State.memWordRead, if_neg (by omega), if_neg (by omega), if_pos (by omega)]
  rw [State.busWordRead, if_neg (by decide), registerRange_ckpt hlow hhigh, if_neg (by decide), if_neg (by omega),
    hword, hmask]
  dsimp only
  rw [Nat.and_two_pow_sub_one_eq_mod]

theorem State.busWordWrite_ckpt (s : State) {v : Nat} (hv : v < 2 ^ 32) : s.busWordWrite a 15 v = s.ckptWrite a v := by
  have hmask : beMask 15 = 2 ^ 32 - 1 := by decide
  have hvalue : clearBits 0 (beMask 15) ||| (v &&& beMask 15) = v := by
    rw [clearBits, Nat.zero_sub, Nat.zero_or, hmask, Nat.and_two_pow_sub_one_eq_mod, Nat.mod_eq_of_lt hv]
  rw [State.busWordWrite, if_neg (by decide), registerRange_ckpt hlow hhigh, if_neg (by decide), if_neg (by omega),
    if_pos rfl]
  dsimp only
  rw [hvalue, State.memWordWrite, if_neg (by omega), if_pos (by omega)]

section Served

variable (halign : a % 4 = 0)
include halign

theorem burstOk_ckpt (v : Nat) : burstOk a (wordBeats a v) = true := by
  obtain ⟨i, hi, hplace, -⟩ := exists_word_of_aligned halign
  have hfits : 1 ≤ 1 ∧ 1 ≤ 16 ∧ a / 16 * 16 % 256 + 16 * 1 ≤ 256 ∧ a / 16 * 16 + 16 * 1 ≤ 0x53FFFFF + 1 := by omega
  rw [burstOk, busRange_ckpt hlow hhigh, registerRange_ckpt hlow hhigh, wordBeats_of_aligned hi hplace]
  dsimp only
  rw [List.length_singleton, decide_eq_true hfits]
  rfl

theorem State.busCode_ckpt (s : State) {m : Nat} (hm : m < 2) (v : Nat) : s.busCode m a (wordBeats a v) false = 0 := by
  rw [State.busCode, accessCode_ckpt hlow hhigh hm, busTarget_ckpt hlow hhigh, burstOk_ckpt hlow hhigh halign]
  rfl

variable {s : State} {m : Nat} (hm : m < 2)
include hm

/-- A read of an aligned word of checkpoint memory. -/
theorem State.busServe_read_ckpt : ∃ l, s.busServe m a false (wordBeats a 0) false = (0, l, s.granted 5 m) ∧
    beatsWord a l = s.ckptRead a % 2 ^ 32 := by
  obtain ⟨i, hi, hplace, haddr⟩ := exists_word_of_aligned halign
  have hread : (s.granted 5 m).busWordRead (a / 16 * 16 + 4 * i) 15 = (s.ckptRead a % 2 ^ 32, s.granted 5 m) := by
    rw [haddr, State.busWordRead_ckpt hlow hhigh, State.ckptRead_granted]
  have hbeat : State.beatRead (a / 16 * 16) (BitVec.ofNat 16 (15 * 16 ^ i)).toNat 4 0 (s.granted 5 m) =
      (s.ckptRead a % 2 ^ 32 * 2 ^ (32 * i), s.granted 5 m) := by
    rw [toNat_wordStrobes hi]
    exact State.beatRead_oneWord hi hread
  refine ⟨_, ?_, beatsWord_of_aligned hi hplace (Nat.mod_lt (s.ckptRead a) (by decide))⟩
  rw [State.busServe, State.busCode_ckpt hlow hhigh halign s hm, busTarget_ckpt hlow hhigh,
    wordBeats_of_aligned hi hplace]
  dsimp only
  rw [if_neg (by decide), if_neg (by decide), if_neg (by decide),
    State.burstRead_single hbeat]

/-- A write of an aligned word of checkpoint memory. -/
theorem State.busServe_write_ckpt {v : Nat} (hv : v < 2 ^ 32) :
    s.busServe m a true (wordBeats a v) false = (0, [], (s.granted 5 m).ckptWrite a v) := by
  obtain ⟨i, hi, hplace, haddr⟩ := exists_word_of_aligned halign
  rw [State.busServe, State.busCode_ckpt hlow hhigh halign s hm, busTarget_ckpt hlow hhigh,
    wordBeats_of_aligned hi hplace]
  dsimp only
  rw [if_neg (by decide), if_pos rfl, if_neg (by decide), State.burstWrite, State.burstWrite, toNat_wordStrobes hi,
    toNat_wordData hi hv, State.beatWrite_oneWord hi hv, haddr, State.busWordWrite_ckpt hlow hhigh _ hv]

end Served

/-! ### An access of a core (R459, R460) -/

variable {s : State} {m : Nat} {k : Nat} (hbroken : s.brokenLock m k = none) (hready : s.masterReady m = true)
include hbroken hready

/-- A core's access to a free target is served. -/
theorem State.coreAccess_free (hfree : s.targetFree 5 m k = true) (write : Bool) (v : Nat) :
    s.coreAccess m k a write v false = some ((s.busServe m a write (wordBeats a v) false).1,
      beatsWord a (s.busServe m a write (wordBeats a v) false).2.1,
      (s.busServe m a write (wordBeats a v) false).2.2) := by
  have hunbroken : ¬((some 5 : Option Nat).isSome = true ∧ s.brokenLock m k = some 5) := by rw [hbroken]; simp
  have hserved : ¬(accessCode m a = 0 ∧ s.targetFree ((some 5 : Option Nat).getD 0) m k = false) := by
    rw [Option.getD_some, hfree]; simp
  rw [State.coreAccess, busTarget_ckpt hlow hhigh]
  dsimp only
  rw [if_neg hunbroken, hready, if_neg (by decide), if_neg hserved]

/-- A core waits while another holds the target. -/
theorem State.coreAccess_locked (hm : m < 2) (hlocked : s.targetFree 5 m k = false) (write : Bool) (v : Nat) :
    s.coreAccess m k a write v false = none := by
  have hunbroken : ¬((some 5 : Option Nat).isSome = true ∧ s.brokenLock m k = some 5) := by rw [hbroken]; simp
  rw [State.coreAccess, busTarget_ckpt hlow hhigh]
  dsimp only
  rw [if_neg hunbroken, hready, if_neg (by decide), if_pos ⟨accessCode_ckpt hlow hhigh hm, hlocked⟩]

/-- LOCKB takes a target that no one holds (R460). -/
theorem State.lockTry_free (hm : m < 2) (hfree : (s.bmTarget 5).lockedBy = none) (hnone : s.lockOf m k = none) :
    s.lockTry m k a = some (0, (s.granted 5 m).setBmTarget 5
      { (s.granted 5 m).bmTarget 5 with lockedBy := some (m, k), lockAt := s.clk }) := by
  have hunbroken : ¬((some 5 : Option Nat).isSome = true ∧ s.brokenLock m k = some 5) := by rw [hbroken]; simp
  rw [State.lockTry, busTarget_ckpt hlow hhigh]
  dsimp only
  rw [if_neg hunbroken, accessCode_ckpt hlow hhigh hm, if_neg (by decide), hnone, hbroken,
    if_neg (by rw [Option.getD_some]; decide), hready, Option.getD_some, hfree, if_neg (by decide)]

end Checkpoint

end Sys2Proof.Machine
end

section
/-!
The control, wait, privileged and bus instructions of a Stroke core (O40): the bus instructions at a plain place, and
the statement.
-/

namespace Sys2Proof.Machine

/-- A write of checkpoint memory leaves the cores as they were, -/
theorem State.ckptWrite_eng (s : State) (a v : Nat) : (s.ckptWrite a v).eng = s.eng := by
  simp only [State.ckptWrite, apply_ite State.eng, ite_self]

/-- and the active unit. -/
theorem State.ckptWrite_activeUnit (s : State) (a v : Nat) :
    (s.ckptWrite a v).red.activeUnit = s.red.activeUnit := by
  simp only [State.ckptWrite, apply_ite State.red, apply_ite RedSt.activeUnit, ite_self]

/-- The place of a supervisor core: its unit's master, and its number. -/
theorem State.busPlace_sup {s : State} {c : CoreRef} {n : Fin 4} (hc : c = .sup n) {m : Nat}
    (hunit : m = s.red.activeUnit) : s.busPlace c = (m, n.val) := by rw [hc, hunit]; rfl

section Answer

variable {s : State} {c : CoreRef} {m k ad : Nat} {r : Option (Nat × Nat × State)} (hplace : s.busPlace c = (m, k))
include hplace

/-- LDB by the answer of the bus. -/
theorem execLdb_of_access {a : Fin 16} {imm : Word} (had : ((s.core c).reg a + imm).toNat = ad)
    (hr : s.coreAccess m k ad false 0 false = r) (d : Fin 16) :
    execLdb c d a imm false s = next (s.busInstr c ad (r.map fun y => (y.1, y.2.2))
      fun x => x.setReg d (BitVec.ofNat 32 ((r.map fun y => y.2.1).getD 0))) := by
  rw [execLdb, hplace, had]
  dsimp only
  rw [hr]

/-- STB by the answer of the bus. -/
theorem execStb_of_access {a b : Fin 16} {imm : Word} (had : ((s.core c).reg a + imm).toNat = ad)
    (hr : s.coreAccess m k ad true ((s.core c).reg b).toNat false = r) :
    execStb c b a imm false s = next (s.busInstr c ad (r.map fun y => (y.1, y.2.2)) id) := by
  rw [execStb, hplace, had]
  dsimp only
  rw [hr]

/-- LOCKB by the answer of the bus. -/
theorem execLockb_of_try {a : Fin 16} {imm : Word} (had : ((s.core c).reg a + imm).toNat = ad)
    {r : Option (Nat × State)} (hr : s.lockTry m k ad = r) : execLockb c a imm s = next (s.busInstr c ad r id) := by
  rw [execLockb, hplace, had]
  dsimp only
  rw [hr]

/-- UNLOCKB of a core whose lock was not broken, by the lock it holds. -/
theorem execUnlockb_of_lock (hbroken : s.brokenLock m k = none) : execUnlockb c s = next (s.busInstr c 0
    (some (0, ((s.lockOf m k).map fun q => (s.unlockTarget q).busDrain).getD s)) id) := by
  rw [execUnlockb, hplace]
  dsimp only
  rw [hbroken]
  cases s.lockOf m k <;> rfl

end Answer

/-- With no request waiting nothing is granted. -/
theorem State.busDrain_of_idle {s : State} (h : s.bm.waiting = []) : s.busDrain = s := by
  rw [State.busDrain, h]
  rfl

end Sys2Proof.Machine

namespace Sys2Proof.Stated

open Sys2Proof.Machine

section Bus

variable {s : State} {c : CoreRef} {x : Core} (hat : At s c x) {n : Fin 4} (hc : c = .sup n)
include hat

/-- A core is at the same place in a state with the same cores. -/
theorem At.of_eng {t : State} (heng : t.eng = s.eng) (hunit : t.red.activeUnit = s.red.activeUnit) : At t c x := by
  have hcore : t.core c = s.core c := by unfold State.core State.coreKey; rw [heng, hunit]
  rw [At, hcore, heng, hunit]
  exact hat

include hc

theorem At.acts : s.acts c = true := by
  subst hc
  have hplain : (s.core (.sup n)).misplaced (.sup n) .plain .supervisors = false := rfl
  rw [State.acts, hat.running, hplain]
  rfl

/-! ### A bus instruction by its answer (Table 9.9) -/

/-- The bus answers OKAY: the core goes on. -/
theorem At.busGoes {t : State} {f : Core → Core} {y : Core} (hf : f x = y) (a : Nat) (heng : t.eng = s.eng)
    (hunit : t.red.activeUnit = s.red.activeUnit) (hplace : y.place = x.place) :
    next (s.busInstr c a (some (0, t)) f) = .next (went t c y) := by
  unfold State.busInstr
  rw [if_neg (by rw [hat.acts hc]; decide)]
  exact (hat.of_eng heng hunit).goes (congrArg (Ran.go · t) hf) (by subst hc; rfl) rfl hplace

/-- The bus does not answer yet: the core waits in place. -/
theorem At.busWaits (a : Nat) (f : Core → Core) : next (s.busInstr c a none f) = .next (s.setCore c x) := by
  unfold State.busInstr
  rw [if_neg (by rw [hat.acts hc]; decide)]
  exact hat.stays rfl (by subst hc; rfl)

/-! ### The bus instructions on checkpoint memory (R452, R459, R460) -/

section Checkpoint

variable {m : Nat} (hm : m < 2) (hunit : m = s.red.activeUnit) (hready : s.masterReady m = true)
  (hbroken : s.brokenLock m n = none) {a : Fin 16} {i : Word} {ad : Nat} (had : ad = (x.reg a + i).toNat)
  (hlow : 0x5000000 ≤ ad) (hhigh : ad < 0x5400000) (halign : ad % 4 = 0)
include hm hunit hready hbroken had hlow hhigh

section Free

variable (hfree : s.targetFree 5 m n = true)
include hfree halign

theorem At.ldb (d : Fin 16) : exec (.ldb c d a i false) s =
    .next (went (s.granted 5 m) c (x.setReg d (BitVec.ofNat 32 (s.ckptRead ad)))) := by
  obtain ⟨l, hserve, hword⟩ := State.busServe_read_ckpt hlow hhigh halign (s := s) hm
  have haccess := State.coreAccess_free hlow hhigh hbroken hready hfree false 0
  rw [hserve] at haccess
  generalize beatsWord ad l = w at hword haccess
  have hvalue : BitVec.ofNat 32 w = BitVec.ofNat 32 (s.ckptRead ad) := by
    rw [hword]
    exact BitVec.eq_of_toNat_eq (by simp)
  refine (execLdb_of_access (State.busPlace_sup hc hunit) (by rw [hat.reg, had]) haccess d).trans ?_
  exact hat.busGoes hc (congrArg (x.setReg d) hvalue) ad rfl rfl rfl

theorem At.stb (b : Fin 16) : exec (.stb c b a i false) s =
    .next (went ((s.granted 5 m).ckptWrite ad (x.reg b).toNat) c x) := by
  have haccess := State.coreAccess_free hlow hhigh hbroken hready hfree true (x.reg b).toNat
  rw [State.busServe_write_ckpt hlow hhigh halign hm (x.reg b).isLt] at haccess
  have heng := State.ckptWrite_eng (s.granted 5 m) ad (x.reg b).toNat
  have hred := State.ckptWrite_activeUnit (s.granted 5 m) ad (x.reg b).toNat
  generalize (s.granted 5 m).ckptWrite ad (x.reg b).toNat = t at haccess heng hred ⊢
  rw [← hat.reg b] at haccess
  exact (execStb_of_access (State.busPlace_sup hc hunit) (by rw [hat.reg, had]) haccess).trans
    (hat.busGoes hc rfl ad heng hred rfl)

end Free

theorem At.ldb_waits (d : Fin 16) (hlocked : s.targetFree 5 m n = false) :
    exec (.ldb c d a i false) s = .next (s.setCore c x) :=
  (execLdb_of_access (State.busPlace_sup hc hunit) (by rw [hat.reg, had])
    (State.coreAccess_locked hlow hhigh hbroken hready hm hlocked false 0) d).trans (hat.busWaits hc ad _)

theorem At.lockb (hfree : (s.bmTarget 5).lockedBy = none) (hnone : s.lockOf m n = none) :
    exec (.lockb c a i) s = .next (went ((s.granted 5 m).setBmTarget 5
      { (s.granted 5 m).bmTarget 5 with lockedBy := some (m, n.val), lockAt := s.clk }) c x) :=
  (execLockb_of_try (State.busPlace_sup hc hunit) (by rw [hat.reg, had])
    (State.lockTry_free hlow hhigh hbroken hready hm hfree hnone)).trans (hat.busGoes hc rfl ad rfl rfl rfl)

end Checkpoint

section Unlock

variable {m : Nat} (hunit : m = s.red.activeUnit) (hbroken : s.brokenLock m n = none)
include hunit hbroken

theorem At.unlockb_none (hnone : s.lockOf m n = none) : exec (.unlockb c) s = .next (went s c x) := by
  have hlock := execUnlockb_of_lock (State.busPlace_sup hc hunit) hbroken
  rw [hnone] at hlock
  exact hlock.trans (hat.busGoes hc rfl 0 rfl rfl rfl)

theorem At.unlockb_some {q : Nat} (hsome : s.lockOf m n = some q) (hidle : s.bm.waiting = []) :
    exec (.unlockb c) s = .next (went (s.unlockTarget q) c x) := by
  have hlock := execUnlockb_of_lock (State.busPlace_sup hc hunit) hbroken
  rw [hsome, Option.map_some, Option.getD_some, State.busDrain_of_idle (s := s.unlockTarget q) hidle] at hlock
  exact hlock.trans (hat.busGoes hc rfl 0 rfl rfl rfl)

end Unlock

end Bus

/-! ### O40 -/

section Families

variable {s : State} {c : CoreRef} {x : Core} (hat : At s c x)
include hat

theorem At.br {cond : Nat} {taken : Bool} (hcond : condHolds x.st cond = some taken) (tgt : Nat) :
    exec (.br c cond tgt) s = .next (went s c (slots x (if taken then tgt else x.pc + 3) none)) := by
  refine hat.branches (y := x) ?_ rfl
  rw [hcond]
  cases taken <;> rfl

theorem At.reti {l : Fin 64} (hc : c = .lane l) :
    exec (.reti c) s = .next (went s c (slots x x.iret (some x.ifl))) := by
  subst hc
  exact hat.branches (y := x) rfl rfl

theorem At.halt {l : Fin 64} (hc : c = .lane l) : ∃ t, exec (.halt c) s = .next t ∧ LaneFaulted s t l 5 := by
  subst hc
  exact hat.faults rfl (e := .halt) rfl rfl

variable {n : Fin 4} (hc : c = .sup n)
include hc

theorem At.syscall (i : Word) : ∃ t, exec (.syscall c i) s = .next t ∧ Excepted s t n x 0x13 none := by
  subst hc
  exact hat.excepts rfl (e := .syscall) rfl rfl

theorem At.rete : exec (.rete c) s = .next (s.setCore c { x with
    pc := x.epc % 2 ^ 32, st := Status.ofWord x.efl.toNat false
    rep0 := { x.rep0 with act := bitAt x.efl.toNat 16 }, rep1 := { x.rep1 with act := bitAt x.efl.toNat 17 } }) := by
  subst hc
  exact hat.jumps (y := { x with
    st := Status.ofWord x.efl.toNat false, rep0 := { x.rep0 with act := bitAt x.efl.toNat 16 }
    rep1 := { x.rep1 with act := bitAt x.efl.toNat 17 } }) rfl rfl

theorem At.fence : exec (.fence c) s = .next (went s c { x with writesOut := 0 }) := by
  subst hc
  exact hat.goes rfl rfl rfl rfl

end Families

/-- Settles O40: the instructions that every core has, then those of a lane, then those of a supervisor core. -/
theorem controlInstructions : Obligations.ControlInstructions := by
  unfold Obligations.ControlInstructions
  intro s c x d a b n len tgt i l k hat
  refine ⟨fun cond h => hat.br h tgt, fun cond h => hat.br h tgt,
    hat.branches (y := { x with lr := (x.pc + 3) % pcMod c }) rfl rfl, hat.branches (y := x) rfl rfl,
    hat.branches (y := x) rfl rfl, fun hn hlen => hat.opensRepeat rfl hn.ne' hlen,
    fun hlen hn => hat.opensRepeat rfl hn hlen, fun hn => hat.skipsRepeat (by rw [hn]), fun hc => ?lane, fun hc => ?sup⟩
  case lane =>
    obtain ⟨hwaitp, hstop⟩ := hat.waitp hc
    obtain ⟨hwaite, hdata⟩ := hat.waite hc
    obtain ⟨hwaits, hrecords⟩ := hat.waits hc a n
    obtain ⟨hbkpt, hbreak⟩ := hat.bkpt_lane hc
    exact ⟨hat.reti hc, hat.halt hc, hwaitp, hstop, hwaite, hdata, hwaits, hrecords,
      fun h => hat.cstep hc (State.cstep_noCell h) rfl, hat.cstep_cell hc d a, hbkpt, hbreak⟩
  case sup =>
    refine ⟨hat.bkpt_sup hc, hat.syscall hc i, hat.rete hc, hat.waiti hc, hat.fence hc,
      fun m ad hunit hm hready hbroken had hlow hhigh halign => ?_⟩
    exact ⟨fun hfree => ⟨hat.ldb hc hm hunit hready hbroken had hlow hhigh halign hfree d,
        hat.stb hc hm hunit hready hbroken had hlow hhigh halign hfree b⟩,
      hat.ldb_waits hc hm hunit hready hbroken had hlow hhigh d,
      hat.lockb hc hm hunit hready hbroken had hlow hhigh, hat.unlockb_none hc hunit hbroken,
      fun q => hat.unlockb_some hc hunit hbroken⟩

end Sys2Proof.Stated
end

section
/-!
The statement about DAC_CLR_N (R241, R242): what the beginning of a clear does and leaves alone, and what the input does on
an accepted edge and on a pulse that is too short.
-/

namespace Sys2Proof.Machine

open Sys2Proof.Stated

/-! ### The beginning of a clear (R241) -/

/-- The switching outputs at their safe codes: every section at its bar level, every transmitter off, the heaters on their
way at maximum rate, and no part of an earlier clear's end left. -/
def State.clearBegun (s : State) (source : Nat) : State :=
  { s with
    mx := { s.mx with cells := 0, txOn := 0 }
    dac := { s.dac with
      clr := true, released := false, recover := false, flagTail := true, maxRate := true, stepCells := 0
      clrAt := s.clk, clrSource := source } }

theorem State.dacClear_eq (s : State) (source : Nat) :
    s.dacClear source = (s.clearBegun source).raise 0x0C01 [(1, source)] := rfl

theorem State.dacClear_dac (s : State) (source : Nat) : (s.dacClear source).dac = (s.clearBegun source).dac := by
  rw [State.dacClear_eq, State.raise_dac]

theorem State.dacClear_mx (s : State) (source : Nat) : (s.dacClear source).mx = { s.mx with cells := 0, txOn := 0 } := by
  rw [State.dacClear_eq, State.raise_mx]; rfl

theorem State.dacClear_leaves (s : State) (source : Nat) : (s.dacClear source).clk = s.clk ∧
    (s.dacClear source).saf = s.saf ∧ (s.dacClear source).mode = s.mode := by
  rw [State.dacClear_eq, State.raise_clk, State.raise_saf, State.raise_mode]
  exact ⟨rfl, rfl, rfl⟩

theorem packItems_byte_length (a : Nat) : (packItems [(1, a)] []).length ≤ 14 := by
  simp [packItems, itemAlign, alignUp, zeros, leBytes_length]

/-- A clear is told by one event. -/
theorem State.dacClear_evtSeq (s : State) (source : Nat) : (s.dacClear source).cx.evtSeq = seqNext s.cx.evtSeq := by
  rw [State.dacClear_eq, State.raise_evtSeq _ _ (packItems_byte_length source)]; rfl

/-! ### The edges of DAC_CLR_N (R240, R242) -/

theorem State.edge_short {s : State} {n held : Nat} (h : held < s.minPw n) (active : Bool) :
    s.edge n active held = (.ignored, s) := by
  rw [State.edge, if_pos (.inl h)]

theorem State.dacRelease_of_released {s : State} (hclr : s.dac.clr = true) (hfree : s.clrReleased = true) :
    s.dacRelease = { s with dac := { s.dac with released := true } } := by
  rw [State.dacRelease, if_pos ⟨hclr, hfree⟩]

theorem storedField_dacGlitch : StoredField Reg.DAC_ERR_GLITCH := ⟨by decide, by decide, by decide +kernel⟩

/-- A count that is not full goes up by what is added to it. -/
theorem StoredField.fld_bump {s : State} {f : FieldRef} (hf : StoredField f) (hrise : keysRise 0 s.regs = true) {n : Nat}
    (hroom : s.fld f + n < 2 ^ (f.hi + 1 - f.lo)) : (s.bump f n).fld f = s.fld f + n := by
  rw [State.bump, hf.fld_setFld_same hrise, min_eq_left (Nat.le_sub_one_of_lt hroom), Nat.mod_eq_of_lt hroom]

section Edges

variable {s : State} {held : Nat} (hvaon : s.pins.vaon = true)
include hvaon

theorem exec_dacClrNAssert {u : State} (hedge : s.edge 7 true held = (.accepted, u)) :
    exec (.dacClrNAssert held) s = .next ((u.elapse (u.minPw 7 + 200)).dacClear 0) := by
  show execDacClrNAssert held s = _
  rw [execDacClrNAssert, hvaon, if_neg (by decide), hedge]
  rfl

theorem exec_dacClrNAssert_short (hshort : held < s.minPw 7) :
    exec (.dacClrNAssert held) s = .next (s.bump Reg.DAC_ERR_GLITCH 1) := by
  show execDacClrNAssert held s = _
  rw [execDacClrNAssert, hvaon, if_neg (by decide), State.edge_short hshort]
  dsimp only
  rw [State.clrGlitch, if_pos hshort]
  rfl

theorem exec_dacClrNRelease {u : State} (hedge : s.edge 7 false held = (.accepted, u)) :
    exec (.dacClrNRelease held) s = .next u.dacRelease := by
  show execDacClrNRelease held s = _
  rw [execDacClrNRelease, hvaon, if_neg (by decide), hedge]
  rfl

theorem dacClrNAssert_clears (hedge : (s.edge 7 true held).1 = .accepted) : ∃ t,
    exec (.dacClrNAssert held) s = .next t ∧ t.dac.clr = true ∧ t.dac.released = false ∧ t.dac.clrSource = 0 ∧
      t.dac.clrAt = s.clk + s.minPw 7 + 200 ∧ t.clk = t.dac.clrAt ∧ t.mx.cells = 0 ∧ t.mx.txOn = 0 ∧
      t.cx.evtSeq = seqNext s.cx.evtSeq ∧ t.saf = s.saf ∧ t.mode = s.mode := by
  obtain ⟨f, hf⟩ := State.edge_accepted hedge
  obtain ⟨hclk, hsaf, hmode⟩ := ((s.setFilter 7 f).elapse (s.minPw 7 + 200)).dacClear_leaves 0
  have hat : ((s.setFilter 7 f).elapse (s.minPw 7 + 200)).clk = s.clk + s.minPw 7 + 200 := (Nat.add_assoc _ _ _).symm
  refine ⟨_, exec_dacClrNAssert hvaon hf, ?_⟩
  rw [State.dacClear_dac, State.dacClear_mx, State.dacClear_evtSeq]
  exact ⟨rfl, rfl, rfl, hat, hclk, rfl, rfl, rfl, hsaf, hmode⟩

theorem dacClrNRelease_releases (hedge : (s.edge 7 false held).1 = .accepted) (hclr : s.dac.clr = true)
    (hfree : (s.edge 7 false held).2.clrReleased = true) : ∃ t, exec (.dacClrNRelease held) s = .next t ∧
      t.dac = { s.dac with released := true } ∧ { t with dac := s.dac, pins := s.pins } = s := by
  obtain ⟨f, hf⟩ := State.edge_accepted hedge
  rw [hf] at hfree
  have hends := State.dacRelease_of_released (s := s.setFilter 7 f) hclr hfree
  exact ⟨_, (exec_dacClrNRelease hvaon hf).trans (congrArg next hends), rfl, rfl⟩

theorem dacClrNAssert_counts (hrise : keysRise 0 s.regs = true) (hshort : held < s.minPw 7)
    (hroom : s.fld Reg.DAC_ERR_GLITCH < 255) : ∃ t, exec (.dacClrNAssert held) s = .next t ∧
      t.fld Reg.DAC_ERR_GLITCH = s.fld Reg.DAC_ERR_GLITCH + 1 ∧ { t with regs := s.regs } = s := by
  have hfits : s.fld Reg.DAC_ERR_GLITCH + 1 < 2 ^ (23 + 1 - 16) := by omega
  exact ⟨_, exec_dacClrNAssert_short hvaon hshort, storedField_dacGlitch.fld_bump hrise hfits, rfl⟩

end Edges

/-- Settles O20: an accepted assertion begins a clear after its 200 ns, an accepted release lets its end begin, and a short
pulse is a count in DAC_ERR. -/
theorem dacClearFollowsItsPin : Obligations.DacClearFollowsItsPin := by
  unfold Obligations.DacClearFollowsItsPin
  intro s held hvaon
  exact ⟨dacClrNAssert_clears hvaon, dacClrNRelease_releases hvaon,
    fun ⟨hrise, _⟩ => dacClrNAssert_counts hvaon hrise⟩

end Sys2Proof.Machine
end

section
/-!
What a change of mode and the end of a Calibrate run leave of the Easel, and what they do to the mode and the lasers (R251,
R256 to R258).
-/

namespace Sys2Proof.Machine

/-! ### What a change of mode leaves of the Easel -/

theorem State.cal_of_lessEgress {s t : State} (h : t.lessEgress = s.lessEgress) : t.cal = s.cal := by
  have := congrArg State.cal h; exact this

theorem State.cal_ite (c : Prop) [Decidable c] (a b : State) : (if c then a else b).cal = if c then a.cal else b.cal :=
  apply_ite State.cal c a b

theorem State.each_cal {α : Type} (s : State) (l : List α) {f : State → α → State} (hf : ∀ u x, (f u x).cal = u.cal) :
    (s.each l f).cal = s.cal :=
  State.each_induction (P := fun u => u.cal = s.cal) rfl fun u x _ hu => (hf u x).trans hu

@[simp] theorem State.completeOpt_cal (s : State) (tag : Option CmdTag) (st : Nat) (d : List (Nat × Nat)) :
    (s.completeOpt tag st d).cal = s.cal := by
  cases tag with
  | none => rfl
  | some t => exact s.complete_cal t st d

@[simp] theorem State.endApply_cal (s : State) : s.endApply.cal = s.cal := by
  unfold State.endApply
  split
  · exact State.complete_cal _ _ _ _
  · rfl

@[simp] theorem State.endLaserSet_cal (s : State) (st : Nat) : (s.endLaserSet st).cal = s.cal := by
  unfold State.endLaserSet
  split
  · exact State.complete_cal _ _ _ _
  · rfl

@[simp] theorem State.safStop_cal (s : State) (cause st : Nat) : (s.safStop cause st).cal = s.cal := by
  unfold State.safStop
  split
  · exact s.endLaserSet_cal st
  · rw [State.raiseLim_cal, State.endLaserSet_cal]; rfl

/-- The state with no Calibrate run in progress. -/
def State.withoutRun (s : State) : State := { s with cal := { s.cal with run := none } }

@[simp] theorem State.endCalRun_cal (s : State) : s.endCalRun.cal = s.withoutRun.cal := by
  unfold State.endCalRun
  split
  · rw [State.safStop_cal, State.complete_cal]; rfl
  next hnone => rw [State.withoutRun, ← hnone]

@[simp] theorem State.takeEaselCodes_cal (s : State) : s.takeEaselCodes.cal = s.cal :=
  State.each_cal s _ fun _ _ => rfl

@[simp] theorem State.endPendingMode_cal (s : State) (st : Nat) : (s.endPendingMode st).cal = s.cal := by
  unfold State.endPendingMode
  split
  · exact State.completeOpt_cal _ _ _ _
  · rfl

@[simp] theorem State.abortTakeoverWait_cal (s : State) : s.abortTakeoverWait.cal = s.cal := by
  unfold State.abortTakeoverWait
  split
  · split
    · exact s.endPendingMode_cal _
    · rfl
  · rfl

@[simp] theorem State.emptyPending_cal (s : State) : s.emptyPending.cal = s.cal := State.abortTakeoverWait_cal _

@[simp] theorem State.memberEnd_cal (s : State) (last reason by_ : Nat) : (s.memberEnd last reason by_).cal = s.cal :=
  State.abortTakeoverWait_cal _

@[simp] theorem State.dropStaged_cal (s : State) : s.dropStaged.cal = s.cal := by
  unfold State.dropStaged
  dsimp only
  split
  · exact State.complete_cal _ _ _ _
  · rfl

@[simp] theorem State.sendConj_cal (s : State) (m : ConjMsg) : (s.sendConj m).cal = s.cal :=
  State.each_cal (s.meetConj m) _ fun u n => by
    unfold State.sendIkl
    dsimp only
    split <;> rfl

@[simp] theorem State.closeProposal_cal (s : State) (st : Nat) (d : List (Nat × Nat)) :
    (s.closeProposal st d).cal = s.cal := by
  unfold State.closeProposal
  split
  · exact State.complete_cal _ _ _ _
  · rfl

@[simp] theorem State.abortConj_cal (s : State) (reason by_ : Nat) : (s.abortConj reason by_).cal = s.cal := by
  unfold State.abortConj
  split
  · rfl
  · dsimp only
    simp only [State.closeProposal_cal, State.raise_cal, State.cal_ite, State.memberEnd_cal, State.count_cal,
      State.sendConj_cal, ite_self]

@[simp] theorem State.leaveConj_cal (s : State) : s.leaveConj.cal = s.cal := by
  unfold State.leaveConj
  split
  · rfl
  · dsimp only
    split
    · rfl
    · split
      · split
        · rw [State.abortConj_cal, State.sendConj_cal]
        · rw [State.sendConj_cal]
      · rw [State.sendConj_cal]

theorem State.enterSafe_cal (s : State) : s.enterSafe.cal = s.cal := by
  have hstopped (u : State) : u.stopOrbit.unhalt.fabricDark.cal = u.cal := rfl
  have hdark (u : State) : u.toSafe.noSwatch.cal = u.cal := rfl
  simp only [State.enterSafe, State.dropStaged_cal, State.cal_ite, State.emptyPending_cal, ite_self,
    State.leaveConj_cal, hstopped, hdark, State.safStop_cal]

@[simp] theorem State.packetStop_cal (s : State) (limit : Nat) : (s.packetStop limit).cal = s.cal :=
  State.each_cal _ _ fun u f => State.cal_of_lessEgress (u.discard_lessEgress f 49 53)

theorem State.modeEntry_safe_cal (s : State) (old : Mode) : (s.modeEntry old .safe).cal = s.cal := by
  simp only [State.modeEntry, State.cal_ite, State.packetStop_cal, ite_self, State.enterSafe_cal]

/-- The change from mode 2 to mode 1 ends a Calibrate run and voids the windows, and moves nothing else of the Easel (R251,
R258). -/
theorem State.enterMode_safe_cal {s : State} (hmode : s.mode.mode = .calibrate) (trigger : Nat) :
    (s.enterMode .safe trigger).cal = s.withoutRun.voidWindows.cal := by
  have hleft : s.endApply.endCalRun.takeEaselCodes.cal = s.withoutRun.cal := by
    rw [State.takeEaselCodes_cal, State.endCalRun_cal, State.withoutRun, State.endApply_cal]; rfl
  have hvoid (u v : State) (h : u.cal = v.cal) : (u.voidWindows.inMode .safe).cal = v.voidWindows.cal := by
    show u.voidWindows.cal = v.voidWindows.cal
    rw [State.voidWindows, State.voidWindows, h]
  unfold State.enterMode
  rw [hmode, if_neg (by decide)]
  extract_lets s1 s2 sv mode s3 s4
  have h1 : s1 = s.endApply.endCalRun.takeEaselCodes := if_pos rfl
  have h2 : s2 = s1 := if_neg (by decide)
  have h4 : s4 = s3 := if_neg fun h => absurd h.1 (by decide)
  rw [State.cal_of_lessEgress (State.settle_lessEgress _), State.raise_cal, h4, State.modeEntry_safe_cal]
  exact hvoid _ _ (by rw [h2, h1, hleft])

/-! ### The end of a run (R256 to R258) -/

theorem State.safStop_mode (s : State) (cause st : Nat) : (s.safStop cause st).mode = s.mode := by
  have hend (u : State) : (u.endLaserSet st).mode = u.mode := by
    unfold State.endLaserSet
    split
    · exact State.complete_mode _ _ _ _
    · rfl
  unfold State.safStop
  split
  · exact hend s
  · rw [State.raiseLim_mode, hend]; rfl

section LeaveRun

variable {s : State} (hpend : s.mode.pend = none)
include hpend

theorem State.leaveRun_eq : s.leaveRun = (s.safStop 4 St.wrongMode).enterMode .safe 6 := by
  unfold State.leaveRun
  dsimp only
  rw [State.safStop_mode, hpend]

variable (hmode : s.mode.mode = .calibrate)
include hmode

/-- Where no SET_MODE waits, the end of a run is the change to mode 1 with every laser off. -/
theorem State.leaveRun_conduct : s.leaveRun.conduct = (s.inMode .safe).lasersOff.conduct := by
  have hne : Mode.safe ≠ (s.safStop 4 St.wrongMode).mode.mode := by rw [State.safStop_mode, hmode]; decide
  have hstopped : ((s.safStop 4 St.wrongMode).inMode .safe).conduct = (s.lasersOff.inMode .safe).conduct := by
    have := congrArg (·.inMode .safe) (s.safStop_conduct 4 St.wrongMode); exact this
  rw [State.leaveRun_eq hpend, State.enterMode_conduct (Or.inl rfl) hne, State.lasersOff_conduct_congr hstopped]
  rfl

theorem State.leaveRun_clk : s.leaveRun.clk = s.clk := by
  have hclk := State.clk_of_conduct (State.leaveRun_conduct hpend hmode)
  exact hclk

theorem State.leaveRun_cal : s.leaveRun.cal = s.withoutRun.voidWindows.cal := by
  rw [State.leaveRun_eq hpend, State.enterMode_safe_cal ((congrArg ModeSt.mode (s.safStop_mode _ _)).trans hmode),
    State.voidWindows, State.withoutRun, State.safStop_cal]
  rfl

theorem State.leaveRun_values : s.leaveRun.cal.img = s.cal.img ∧ s.leaveRun.cal.trims = s.cal.trims := by
  rw [State.leaveRun_cal hpend hmode]
  exact ⟨rfl, rfl⟩

/-- A run that is over has left mode 2 with every laser off. -/
theorem State.leaveRun_ends : s.leaveRun.cal.run = none ∧ s.leaveRun.mode.mode = .safe ∧ s.leaveRun.saf.lsrEn = 0 := by
  have hends := State.leaveRun_conduct hpend hmode
  exact ⟨by rw [State.leaveRun_cal hpend hmode]; rfl, State.mode_of_conduct hends, State.lsrEn_of_conduct hends⟩

end LeaveRun

/-! ### The writing of the calibration image (R247, R494) -/

theorem State.each_mode {α : Type} (s : State) (l : List α) {f : State → α → State} (hf : ∀ u x, (f u x).mode = u.mode) :
    (s.each l f).mode = s.mode :=
  State.each_induction (P := fun u => u.mode = s.mode) rfl fun u x _ hu => (hf u x).trans hu

theorem State.eraseSector_mode (s : State) (n : Nat) : (s.eraseSector n).mode = s.mode := by
  unfold State.eraseSector
  dsimp only
  split
  · exact State.raise_mode _ _ _
  · rfl

theorem State.eraseSectors_mode (s : State) (first n : Nat) : (s.eraseSectors first n).mode = s.mode :=
  State.each_mode _ _ fun u i => u.eraseSector_mode (first + i)

theorem State.storeCal_mode (s : State) : (s.storeCal true).mode = s.mode := by
  rw [State.storeCal]
  dsimp only
  rw [if_pos rfl, State.programmed]
  dsimp only
  rw [State.eraseSectors_mode]

end Sys2Proof.Machine
end

section
/-!
The Easel's commands: how a Calibrate run begins and where it ends, the reading of the drift ring, eye scans (R256 to R258,
R261, R262, R278).
-/

namespace Sys2Proof.Machine

open Sys2Proof.Stated

/-! ### Calibrate runs (R256 to R258) -/

/-- The state with a Calibrate run in progress. -/
def State.withRun (s : State) (r : CalRun) : State := { s with cal := { s.cal with run := some r } }

/-- In mode 2, with no lockout, tested and guarded, the Easel drives the groups that are wired, and moves nothing else. -/
theorem State.easelLasers_drives {s : State} (hmode : s.mode.mode = .calibrate) (hlock : s.ret.lockout = false)
    (htested : s.ret.tested = true) (hguard : s.saf.guard = .closed) (groups : Nat) :
    (s.easelLasers groups).saf.lsrEn = groups &&& s.saf.wired ∧
      (s.easelLasers groups).saf.request = (s.easelLasers groups).saf.lsrEn ∧
      { s.easelLasers groups with saf := s.saf } = s := by
  rw [State.easelLasers, if_pos ⟨hmode, hlock, htested, hguard⟩]
  exact ⟨rfl, rfl, rfl⟩

section CalRunCommand

variable {s : State} (hs : Serves s) (tag : CmdTag) {set groups : Nat} (store : Bool) (hset : set ≤ 7) (hgroups : groups ≤ 15)
include hs hset hgroups

theorem exec_calRun_wrongMode (hmode : s.mode.mode ≠ .calibrate) :
    exec (.calRun tag 0 set groups store) s = .next ((s.begin tag 0x0A01).complete tag St.wrongMode) := by
  have hlegal : ¬(0 > 1 ∨ set > 7 ∨ groups > 15) := by omega
  have hother : (s.begin tag 0x0A01).mode.mode ≠ .calibrate := hmode
  show execCalRun tag 0 set groups store s = _
  rw [execCalRun, State.serve_eq hs, if_neg hlegal, if_pos hother]
  rfl

/-- A FIELD run begins in mode 2 at L0, where none is in progress: the Easel drives the lasers from here on. -/
theorem exec_calRun (hmode : s.mode.mode = .calibrate) (hstate : s.pwr.state = 0) (htarget : s.pwr.target = 0)
    (hrun : s.cal.run = none) : exec (.calRun tag 0 set groups store) s =
      .next (((s.begin tag 0x0A01).withRun ⟨tag, 0, set, groups, store, 1, s.clk⟩).easelLasers groups) := by
  have hlegal : ¬(0 > 1 ∨ set > 7 ∨ groups > 15) := by omega
  have hmode' : ¬(s.begin tag 0x0A01).mode.mode ≠ .calibrate := not_not.mpr hmode
  have hpower : ¬((s.begin tag 0x0A01).pwr.state ≠ 0 ∨ (s.begin tag 0x0A01).pwr.target ≠ 0) := by
    rintro (h | h)
    · exact h hstate
    · exact h htarget
  have hidle : ¬(s.begin tag 0x0A01).cal.run.isSome = true := by
    rw [State.begin_cal, hrun]; exact Bool.false_ne_true
  show execCalRun tag 0 set groups store s = _
  rw [execCalRun, State.serve_eq hs, if_neg hlegal, if_neg hmode', if_neg hpower, if_neg hidle, if_neg (by omega)]
  rfl

/-- A FIELD run that begins is the Easel's, with the lasers that it asks for and that are wired (R256). -/
theorem calRun_begins (hmode : s.mode.mode = .calibrate) (hstate : s.pwr.state = 0) (htarget : s.pwr.target = 0)
    (hlock : s.ret.lockout = false) (htested : s.ret.tested = true) (hguard : s.saf.guard = .closed)
    (hrun : s.cal.run = none) : ∃ t, exec (.calRun tag 0 set groups store) s = .next t ∧
      t.cal = { s.cal with run := some ⟨tag, 0, set, groups, store, 1, s.clk⟩ } ∧ t.saf.lsrEn = groups &&& s.saf.wired ∧
      t.saf.request = t.saf.lsrEn ∧ { t with cal := s.cal, saf := s.saf, cx := s.cx } = s := by
  obtain ⟨hon, hreq, hrest⟩ := State.easelLasers_drives
    (s := (s.begin tag 0x0A01).withRun ⟨tag, 0, set, groups, store, 1, s.clk⟩) hmode hlock htested hguard groups
  have hleft := congrArg (fun u : State => { u with cal := s.cal, saf := s.saf, cx := s.cx }) hrest
  have hcal := congrArg State.cal hrest
  exact ⟨_, exec_calRun hs tag store hset hgroups hmode hstate htarget hrun, hcal, hon, hreq, hleft⟩

end CalRunCommand

/-- The state with the image in the flash, where the run is to store it (R257). -/
def State.stored (s : State) (r : CalRun) : State := if r.store then s.storeCal true else s

theorem State.stored_mode (s : State) (r : CalRun) : (s.stored r).mode = s.mode := by
  rw [State.stored, apply_ite State.mode, State.storeCal_mode, ite_self]

theorem State.withoutRun_mode (s : State) : s.withoutRun.mode = s.mode := rfl
theorem State.setCodes_mode (s : State) : s.setCodes.mode = s.mode := by rw [State.setCodes]
theorem State.calBoundary_mode (s : State) : s.calBoundary.mode = s.mode := rfl

/-- The run of a command is aborted at the end of its time (R256). -/
def State.runTimedOut (s : State) (tag : CmdTag) (limit : Nat) : State :=
  (s.waitClk limit).withoutRun.complete tag St.aborted [(1, 2)]

theorem State.runTimedOut_mode (s : State) (tag : CmdTag) (limit : Nat) : (s.runTimedOut tag limit).mode = s.mode :=
  State.complete_mode _ _ _ _

theorem State.runTimedOut_values (s : State) (tag : CmdTag) (limit : Nat) :
    (s.runTimedOut tag limit).cal.img = s.cal.img ∧ (s.runTimedOut tag limit).cal.trims = s.cal.trims := by
  rw [State.runTimedOut, State.complete_cal]
  exact ⟨rfl, rfl⟩

theorem State.runTimedOut_clk (s : State) (tag : CmdTag) (limit : Nat) :
    (s.runTimedOut tag limit).clk = max s.clk limit := (State.complete_clk _ _ _ _).trans (s.waitClk_clk limit)

section RunEnds

variable {s : State} {r : CalRun} (hrun : s.cal.run = some r)
include hrun

/-- A run with no results applies what stands for the next boundary, and the codes and the flash follow (Table 11.3). -/
theorem exec_calRunDone_nil : exec (.calRunDone [] 0 true) s =
    .next (((s.calBoundary.setCodes.stored r).withoutRun.raise 0x0A01 [(1, r.kind), (4, 0), (4, 0), (4, 0)]).complete
      r.tag St.ok [(4, 0), (4, 0), (4, 0)]).leaveRun := by
  show execCalRunDone [] 0 true s = _
  rw [execCalRunDone, hrun]
  rfl

theorem exec_calRunTimeout : exec .calRunTimeout s =
    .next (s.runTimedOut r.tag (r.startAt + 60000000000)).leaveRun := by
  show execCalRunTimeout s = _
  rw [execCalRunTimeout, hrun]
  rfl

variable (hmode : s.mode.mode = .calibrate) (hpend : s.mode.pend = none)
include hmode hpend

/-- A run that is over with no results has left mode 2, every laser off. -/
theorem calRunDone_nil_ends : ∃ t, exec (.calRunDone [] 0 true) s = .next t ∧ t.cal.run = none ∧ t.mode.mode = .safe ∧
    t.saf.lsrEn = 0 := by
  refine ⟨_, exec_calRunDone_nil hrun, State.leaveRun_ends ?_ ?_⟩ <;>
    simpa only [State.complete_mode, State.raise_mode, State.withoutRun_mode, State.stored_mode, State.setCodes_mode,
      State.calBoundary_mode]

/-- A run that is over by its time limit applies nothing (R256). -/
theorem calRunTimeout_ends : ∃ t, exec .calRunTimeout s = .next t ∧ t.cal.run = none ∧ t.mode.mode = .safe ∧
    t.saf.lsrEn = 0 ∧ t.clk = max s.clk (r.startAt + 60000000000) ∧ t.cal.img = s.cal.img ∧ t.cal.trims = s.cal.trims := by
  refine ⟨_, exec_calRunTimeout hrun, ?_⟩
  generalize r.startAt + 60000000000 = limit
  have hpend' : (s.runTimedOut r.tag limit).mode.pend = none := by rw [State.runTimedOut_mode, hpend]
  have hmode' : (s.runTimedOut r.tag limit).mode.mode = .calibrate := by rw [State.runTimedOut_mode, hmode]
  obtain ⟨hover, hsafe, hoff⟩ := State.leaveRun_ends hpend' hmode'
  have hclk := (State.leaveRun_clk hpend' hmode').trans (s.runTimedOut_clk r.tag limit)
  obtain ⟨himg, htrims⟩ := State.leaveRun_values hpend' hmode'
  obtain ⟨himg', htrims'⟩ := s.runTimedOut_values r.tag limit
  exact ⟨hover, hsafe, hoff, hclk, himg.trans himg', htrims.trans htrims'⟩

end RunEnds

/-! ### The drift ring (R262) -/

/-- What CAL_DRIFT_READ writes of a cell: the 256 entries of its ring, then the ring index. -/
def CellQuality.driftBytes (q : CellQuality) : Bytes :=
  (List.range 256).flatMap (fun k => leBytes 4 (driftEntry q k).toNat) ++ leBytes 4 q.index

theorem flatMap_leBytes_length (f : Nat → Nat) (n : Nat) :
    ((List.range n).flatMap (fun k => leBytes 4 (f k))).length = 4 * n := by
  simp [List.length_flatMap, leBytes_length, Nat.mul_comm]

theorem CellQuality.driftBytes_length (q : CellQuality) : q.driftBytes.length = 1028 := by
  rw [CellQuality.driftBytes, List.length_append, flatMap_leBytes_length, leBytes_length]

theorem CellQuality.driftBytes_take (q : CellQuality) : q.driftBytes.take 4 = leBytes 4 (driftEntry q 0).toNat := by
  have hfirst : q.driftBytes = leBytes 4 (driftEntry q 0).toNat ++
      ((List.range 255).flatMap (fun k => leBytes 4 (driftEntry q (k + 1)).toNat) ++ leBytes 4 q.index) := by
    rw [CellQuality.driftBytes, List.range_succ_eq_map, List.flatMap_cons, List.flatMap_map, List.append_assoc]
  rw [hfirst, List.take_left' (leBytes_length _ _)]

theorem CellQuality.driftBytes_drop (q : CellQuality) : q.driftBytes.drop 1024 = leBytes 4 q.index :=
  List.drop_left' (flatMap_leBytes_length (fun k => (driftEntry q k).toNat) 256)

theorem exec_calDriftRead {s : State} (hs : Serves s) (tag : CmdTag) {cell : Nat} (out : Nat) (hcell : cell < 4352) :
    exec (.calDriftRead tag cell out) s = .next
      (((s.begin tag 0x0A02).outData tag out (s.quality cell).driftBytes).completeWith tag St.ok [] true) := by
  show execCalDriftRead tag cell out s = _
  rw [execCalDriftRead, State.serve_eq hs, if_neg (by omega)]
  rfl

theorem calDriftRead_delivers {s : State} (hs : Serves s) (tag : CmdTag) {cell : Nat} (out : Nat) (hcell : cell < 4352) :
    ∃ t data, exec (.calDriftRead tag cell out) s = .next t ∧ Answered s t tag St.ok ∧ ExchangeOnly s t ∧
      Delivered s t tag out data ∧ data.length = 1028 ∧ data.take 4 = leBytes 4 (driftEntry (s.quality cell) 0).toNat ∧
      data.drop 1024 = leBytes 4 (s.quality cell).index := by
  obtain ⟨data, hdata⟩ : ∃ data, data = (s.quality cell).driftBytes := ⟨_, rfl⟩
  have hbegun : ((s.begin tag 0x0A02).outData tag out data).lessExchange = s.lessExchange := by
    rw [State.outData_lessExchange, State.begin_lessExchange]
  have hexec := exec_calDriftRead hs tag out hcell
  rw [← hdata] at hexec
  refine ⟨_, data, hexec, ?_, ?_, ?_, ?_, ?_, ?_⟩
  · exact answered_of_begun hs (State.outData_cx _ _ _ _) _ _ _
  · exact exchangeOnly_completeWith hbegun _ _ _ _
  · exact delivered_of_begun hs _ _ _ _ _ _ _
  · rw [hdata, CellQuality.driftBytes_length]
  · rw [hdata, CellQuality.driftBytes_take]
  · rw [hdata, CellQuality.driftBytes_drop]

/-! ### Eye scans (R261, R278) -/

/-- Where eye scans are enabled and none runs, a lane's turn depends on its READY alone. -/
theorem exec_eyeScanStart {s : State} {lane : Nat} (hlane : lane < 512) (hen : s.flag Reg.CAL_CTL_EYE_EN = true)
    (hidle : s.cal.scanning = []) : exec (.eyeScanStart lane) s = .next (
    if (s.lane lane).fn.ready = false then s.setEye lane { tget {} s.cal.eyes lane with stale := true }
    else { s.setLane lane { s.lane lane with eyeNow := false } with cal := { s.cal with scanning := [lane] } }) := by
  have hturn : ¬(lane ≥ 512 ∨ s.flag Reg.CAL_CTL_EYE_EN = false ∨ s.cal.scanning.contains lane = true) := by
    rw [hen, hidle]; simp; omega
  have hroom : ¬s.cal.scanning.length ≥ 32 := by rw [hidle]; simp
  show execEyeScanStart lane s = _
  rw [execEyeScanStart, if_neg hturn, if_neg hroom]
  dsimp only
  rw [State.setLane_cal, hidle]
  rfl

/-- The scan of a lane's whole eye ends with its figures. -/
theorem exec_eyeScanDone {s : State} {lane : Nat} {e : EyeResult} (hscan : s.cal.scanning = [lane]) (hw : e.width ≤ 64)
    (hh : e.height ≤ 1023) (hber : e.ber ≤ 65535) (hlane : lane < 256) :
    exec (.eyeScanDone lane e) s = .next { s with cal := { s.cal with
      scanning := []
      eyes := tset {} s.cal.eyes lane
        ⟨e.width, e.height, e.ber, timeNs s.time.now / 1000000000 % 2 ^ 32, true, false, false⟩ } } := by
  have hunder : ¬s.cal.scanning.contains lane = false := by rw [hscan]; simp
  have hleft : s.cal.scanning.filter (· != lane) = [] := by rw [hscan]; simp
  have hpart : (decide (256 ≤ lane) && e.part) = false := by rw [decide_eq_false (by omega), Bool.false_and]
  show execEyeScanDone lane e s = _
  rw [execEyeScanDone, if_neg hunder, hleft, hpart, min_eq_left hw, min_eq_left hh, min_eq_left hber]
  rfl

theorem exec_eyeNowRequest {s : State} (hup : s.barUp = true) {lane : Nat} (hlane : lane < 512) :
    exec (.eyeNowRequest lane) s = .next ((s.granted 0 2).setLane lane { s.lane lane with eyeNow := true }) := by
  show execEyeNowRequest lane s = _
  rw [execEyeNowRequest, State.hostAct_of_barUp hup, State.eyeRequest, if_pos hlane]
  rfl

end Sys2Proof.Machine
end

section
/-!
The samples, the monthly entries and the writes of drift and trims (R253, R262, R263), and the statement about calibration and
quality.
-/

namespace Sys2Proof.Machine

/-! ### Quality figures -/

theorem State.quality_congr {s t : State} (h : t.cal = s.cal) (c : Nat) : t.quality c = s.quality c := by
  rw [State.quality, State.quality, h]

/-- Figures that hold a sample or an entry read back. -/
theorem State.quality_setQuality_same (s : State) (c : Nat) {q : CellQuality} (hq : q ≠ {}) :
    (s.setQuality c q).quality c = q := by
  show tget {} (tset {} s.cal.quality c q) c = q
  rw [tset, if_neg hq, tget, tget?_tput_same, Option.getD_some]

theorem State.quality_setQuality_ne (s : State) {c j : Nat} (hne : j ≠ c) (q : CellQuality) :
    (s.setQuality c q).quality j = s.quality j :=
  congrArg (·.getD {}) (tget?_tset_ne {} s.cal.quality hne q)

/-! ### The daily sample (R262) -/

/-- What the drift of a cell is computed from: the registers, the converters, the loops, the calibration in force. -/
def State.driftInputs (s : State) : State :=
  { regs := s.regs, adc := s.adc, dac := s.dac, loops := s.loops, cal := { img := s.cal.img, zones := s.cal.zones } }

theorem State.biasDriftNow_inputs (s : State) (c : Nat) : s.driftInputs.biasDriftNow c = s.biasDriftNow c := by
  have hbias : s.driftInputs.biasOut c = s.biasOut c := rfl
  have htemp : s.driftInputs.tempFf c = s.tempFf c := rfl
  have hstage : s.driftInputs.stageFf c = s.stageFf c := rfl
  have hcal : s.driftInputs.calAt .biasCal c = s.calAt .biasCal c := rfl
  rw [State.biasDriftNow, State.biasDriftNow, hbias, htemp, hstage, hcal]

theorem State.htrDriftNow_inputs (s : State) (c : Nat) : s.driftInputs.htrDriftNow c = s.htrDriftNow c := by
  have hhtr : s.driftInputs.htrTarget c = s.htrTarget c := rfl
  have hcal : s.driftInputs.calAt .calHtr c = s.calAt .calHtr c := rfl
  rw [State.htrDriftNow, State.htrDriftNow, hhtr, hcal]

/-- The state at the end of a day of L0 of a length, from which the daily count begins again. -/
def State.dayOver (s : State) (day : Nat) : State :=
  { s.elapse (day - s.cal.l0Day) with
    cal := { (s.elapse (day - s.cal.l0Day)).cal with l0Day := (s.elapse (day - s.cal.l0Day)).cal.l0Day - day } }

theorem State.dayOver_driftInputs (s : State) (day : Nat) : (s.dayOver day).driftInputs = s.driftInputs := rfl

theorem State.dayOver_l0Day {s : State} (hstate : s.pwr.state = 0) {day : Nat} (hday : s.cal.l0Day ≤ day) :
    (s.dayOver day).cal.l0Day = 0 := by
  show s.cal.l0Day + (if s.pwr.state = 0 then day - s.cal.l0Day else 0) - day = 0
  rw [if_pos hstate]
  omega

theorem State.each_nil {α : Type} (s : State) (f : State → α → State) : s.each [] f = s := rfl
theorem State.each_singleton {α : Type} (s : State) (x : α) (f : State → α → State) : s.each [x] f = f s x := rfl

/-- A cell's sample of the day. -/
def State.daySample (s : State) (c : Nat) : State :=
  s.setQuality c { s.quality c with daily := (s.quality c).daily ++ [(s.biasDriftNow c, s.htrDriftNow c)] }

theorem State.daySample_daily (s : State) (c : Nat) :
    ((s.daySample c).quality c).daily = (s.quality c).daily ++ [(s.biasDriftNow c, s.htrDriftNow c)] := by
  rw [State.daySample, State.quality_setQuality_same]
  intro hempty
  simpa using congrArg CellQuality.daily hempty

/-- A sample is the same at whatever instant of the day it is taken. -/
theorem State.dayOver_daySample_daily (s : State) (day c : Nat) :
    (((s.dayOver day).daySample c).quality c).daily = (s.quality c).daily ++ [(s.biasDriftNow c, s.htrDriftNow c)] := by
  rw [State.daySample_daily, ← State.biasDriftNow_inputs, ← State.htrDriftNow_inputs, State.dayOver_driftInputs,
    State.biasDriftNow_inputs, State.htrDriftNow_inputs]
  rfl

/-- Every cell in TRACK is sampled at the end of a day of a length. -/
def State.daySampled (s : State) (day : Nat) : State :=
  (s.dayOver day).each (s.loops.cells.filter (fun e => e.2.state == .track)) (fun u e => u.daySample e.1)

theorem exec_driftDailySample {s : State} (hstate : s.pwr.state = 0) (hstarted : s.started = true) :
    exec .driftDailySample s = .next (s.daySampled dayNs) := by
  show execDriftDailySample s = _
  rw [execDriftDailySample, hstate, hstarted, if_neg (by decide)]
  rfl

/-- The sample of a module with one cell in the loops: taken in TRACK alone. -/
theorem State.daySampled_leaves {s : State} (hstate : s.pwr.state = 0) {cell : Nat} {x : CellLoop}
    (hcells : s.loops.cells = [(cell, x)]) {day : Nat} (hday : s.cal.l0Day ≤ day) :
    (s.daySampled day).cal.l0Day = 0 ∧ (s.daySampled day).clk = s.clk + (day - s.cal.l0Day) ∧
      (x.state = .track → ((s.daySampled day).quality cell).daily =
        (s.quality cell).daily ++ [(s.biasDriftNow cell, s.htrDriftNow cell)]) ∧
      (x.state ≠ .track → (s.daySampled day).cal.quality = s.cal.quality) := by
  have hzero := State.dayOver_l0Day hstate hday
  rw [State.daySampled, hcells]
  by_cases htrack : x.state = .track
  · rw [List.filter_cons_of_pos (by simp [htrack]), List.filter_nil, State.each_singleton]
    exact ⟨hzero, rfl, fun _ => s.dayOver_daySample_daily day cell, fun hother => absurd htrack hother⟩
  · rw [List.filter_cons_of_neg (by simpa using htrack), List.filter_nil, State.each_nil]
    exact ⟨hzero, rfl, fun h => absurd h htrack, fun _ => rfl⟩

/-! ### The monthly entry (R262, R263) -/

/-- The ageing fit tells, and moves no more of the Easel than the cell's figures of age. -/
theorem State.ageCell_cal (s : State) (c : Nat) : ∃ q : CellQuality, (s.ageCell c).cal = (s.setQuality c q).cal ∧
    q.ring = (s.quality c).ring ∧ q.daily = (s.quality c).daily ∧ q.index = (s.quality c).index := by
  unfold State.ageCell
  simp only [State.cal_ite, State.raise_cal, ite_self]
  exact ⟨_, rfl, rfl, rfl, rfl⟩

/-- From `q` to `q'` a cell's month has been entered: no sample is left, and the ring index has gone on (R262). -/
def MonthEntered (q q' : CellQuality) : Prop := q'.daily = [] ∧ q'.index = (q.index + 1) % 256

/-- A month's entry moves no more of the Easel than the cell's own figures. -/
theorem State.monthCell_cal (s : State) (c : Nat) : ∃ q₁ q₂ : CellQuality, q₂ ≠ {} ∧ MonthEntered (s.quality c) q₂ ∧
    (s.monthCell c).cal = ((s.setQuality c q₁).setQuality c q₂).cal := by
  obtain ⟨q₁, hq₁, hring, hentered⟩ : ∃ q₁ : CellQuality, s.monthCell c = (s.setQuality c q₁).ageCell c ∧
      q₁.ring ≠ [] ∧ MonthEntered (s.quality c) q₁ := ⟨_, rfl, by simp, rfl, rfl⟩
  have hfilled {q : CellQuality} (h : q.ring ≠ []) : q ≠ {} := fun hempty => h (congrArg CellQuality.ring hempty)
  obtain ⟨hdaily, hindex⟩ := hentered
  obtain ⟨q₂, haged, hring₂, hdaily₂, hindex₂⟩ := (s.setQuality c q₁).ageCell_cal c
  rw [State.quality_setQuality_same s c (hfilled hring)] at hring₂ hdaily₂ hindex₂
  exact ⟨q₁, q₂, hfilled (by rwa [hring₂]), ⟨hdaily₂.trans hdaily, hindex₂.trans hindex⟩,
    (congrArg State.cal hq₁).trans haged⟩

theorem State.monthCell_quality_same (s : State) (c : Nat) : MonthEntered (s.quality c) ((s.monthCell c).quality c) := by
  obtain ⟨q₁, q₂, hfilled, hentered, hcal⟩ := s.monthCell_cal c
  rwa [State.quality_congr hcal, State.quality_setQuality_same _ c hfilled]

theorem State.monthCell_quality_ne (s : State) {c j : Nat} (hne : j ≠ c) : (s.monthCell c).quality j = s.quality j := by
  obtain ⟨q₁, q₂, -, -, hcal⟩ := s.monthCell_cal c
  rw [State.quality_congr hcal, State.quality_setQuality_ne _ hne, State.quality_setQuality_ne _ hne]

theorem State.monthCell_l0Month (s : State) (c : Nat) : (s.monthCell c).cal.l0Month = s.cal.l0Month := by
  obtain ⟨q₁, q₂, -, -, hcal⟩ := s.monthCell_cal c
  rw [hcal]
  rfl

theorem State.each_monthCell_l0Month (s : State) (l : List Nat) :
    (s.each l State.monthCell).cal.l0Month = s.cal.l0Month :=
  State.each_induction (P := fun u => u.cal.l0Month = s.cal.l0Month) rfl fun u c _ hu => (u.monthCell_l0Month c).trans hu

theorem State.each_monthCell_quality_of_not_mem (s : State) {l : List Nat} {j : Nat} (hj : j ∉ l) :
    (s.each l State.monthCell).quality j = s.quality j :=
  State.each_induction (P := fun u => u.quality j = s.quality j) rfl fun u _ hc hu =>
    (u.monthCell_quality_ne (ne_of_mem_of_not_mem hc hj).symm).trans hu

/-- Every cell of a list without repetition has its month entered once. -/
theorem State.each_monthCell_quality (s : State) {l : List Nat} (hl : l.Nodup) {j : Nat} (hj : j ∈ l) :
    MonthEntered (s.quality j) ((s.each l State.monthCell).quality j) := by
  induction l generalizing s with
  | nil => cases hj
  | cons c rest ih =>
    obtain ⟨hc, hrest⟩ := List.nodup_cons.mp hl
    show MonthEntered _ (((s.monthCell c).each rest State.monthCell).quality j)
    rcases List.mem_cons.mp hj with rfl | hmem
    · rw [State.each_monthCell_quality_of_not_mem _ hc]
      exact s.monthCell_quality_same j
    · have hne : j ≠ c := fun heq => hc (heq ▸ hmem)
      rw [← s.monthCell_quality_ne hne]
      exact ih (s.monthCell c) hrest hmem

/-- The state at the end of a month of L0 of a length, from which the monthly count begins again. -/
def State.monthOver (s : State) (month : Nat) : State :=
  { s.elapse (month - s.cal.l0Month) with
    cal := { (s.elapse (month - s.cal.l0Month)).cal with
      l0Month := (s.elapse (month - s.cal.l0Month)).cal.l0Month - month } }

theorem State.monthOver_quality (s : State) (month c : Nat) : (s.monthOver month).quality c = s.quality c := rfl

theorem State.monthOver_l0Month {s : State} (hstate : s.pwr.state = 0) {month : Nat} (hmonth : s.cal.l0Month ≤ month) :
    (s.monthOver month).cal.l0Month = 0 := by
  show s.cal.l0Month + (if s.pwr.state = 0 then month - s.cal.l0Month else 0) - month = 0
  rw [if_pos hstate]
  omega

section Monthly

variable {s : State} (hstate : s.pwr.state = 0) (hstarted : s.started = true)
include hstate hstarted

theorem exec_driftMonthlyWrite :
    exec .driftMonthlyWrite s = .next (((s.monthOver monthNs).each allCells State.monthCell).flashJob .drift) := by
  show execDriftMonthlyWrite s = _
  rw [execDriftMonthlyWrite, hstate, hstarted, if_neg (by decide)]
  rfl

theorem driftMonthlyWrite_enters (hmonth : s.cal.l0Month ≤ monthNs) : ∃ t, exec .driftMonthlyWrite s = .next t ∧
    t.cal.l0Month = 0 ∧ t.nvm.jobs.getLast? = some .drift ∧
    ∀ c < 4352, (t.quality c).daily = [] ∧ (t.quality c).index = ((s.quality c).index + 1) % 256 := by
  have hexec := exec_driftMonthlyWrite hstate hstarted
  have hcells (c : Nat) (hc : c < 4352) : c ∈ allCells := List.mem_range.mpr hc
  have honce : allCells.Nodup := List.nodup_range
  generalize allCells = l at hexec hcells honce
  refine ⟨_, hexec, ?_, List.getLast?_concat, fun c hc => ?_⟩
  · rw [State.flashJob_cal, State.each_monthCell_l0Month, State.monthOver_l0Month hstate hmonth]
  · have hentered := (s.monthOver monthNs).each_monthCell_quality honce (hcells c hc)
    rw [State.monthOver_quality] at hentered
    rw [State.quality_congr (State.flashJob_cal _ .drift)]
    exact hentered

end Monthly

/-! ### Trims (R253) -/

/-- The trims are handed to the flash at this instant. -/
def State.trimsWritten (s : State) : State := ({ s with cal := { s.cal with trimsAt := s.clk } } : State).flashJob .trims

/-- Trims go to the flash at once the first time, and later no sooner than `due` (R253). -/
def State.trimsDue (s : State) (due : Nat) : State := (if s.cal.trimsAt = 0 then s else s.waitClk due).trimsWritten

theorem State.trimsDue_leaves (s : State) (due : Nat) : (s.trimsDue due).nvm.jobs = s.nvm.jobs ++ [.trims] ∧
    (s.trimsDue due).cal.trimsAt = (s.trimsDue due).clk ∧
    (s.trimsDue due).clk = (if s.cal.trimsAt = 0 then s.clk else max s.clk due) ∧
    (s.trimsDue due).cal.trims = s.cal.trims := by
  unfold State.trimsDue
  split
  · exact ⟨rfl, rfl, rfl, rfl⟩
  · exact ⟨rfl, rfl, s.waitClk_clk due, rfl⟩

theorem exec_trimNvmWrite {s : State} (hstarted : s.started = true) (hchanged : s.cal.trims ≠ s.cal.trimsNvm) :
    exec .trimNvmWrite s = .next (s.trimsDue (s.cal.trimsAt + 3600000000000)) := by
  show execTrimNvmWrite s = _
  rw [execTrimNvmWrite, if_neg (by simp [hstarted, hchanged])]
  rfl

/-! ### O43 -/

/-- Settles O43: a run that ends is a change from mode 2 to mode 1 (`State.leaveRun_conduct`, `State.leaveRun_cal`); the
monthly write enters each cell's month once (`State.each_monthCell_quality`). -/
theorem calibrationAndQuality : Obligations.CalibrationAndQuality := by
  unfold Obligations.CalibrationAndQuality
  intro s tag set groups cell out lane store r e
  refine ⟨fun hs hset hgroups hrun => ⟨fun hmode hstate htarget hlock htested hguard =>
      calRun_begins hs tag store hset hgroups hmode hstate htarget hlock htested hguard hrun,
      fun hmode => ⟨_, exec_calRun_wrongMode hs tag store hset hgroups hmode, refused_of_begun hs tag _ _ _⟩⟩,
    fun hrun hmode hpend _ => ⟨calRunDone_nil_ends hrun hmode hpend, calRunTimeout_ends hrun hmode hpend⟩,
    fun hs hcell => calDriftRead_delivers hs tag out hcell,
    fun hlane hen hidle => ⟨fun hready => ?_, fun hready => ?_⟩,
    fun hscan hw hh hber hlane => exec_eyeScanDone hscan hw hh hber hlane,
    fun hup hlane => exec_eyeNowRequest hup hlane,
    fun hstate hstarted => ⟨fun x hcells hday =>
      ⟨_, exec_driftDailySample hstate hstarted, State.daySampled_leaves hstate hcells hday⟩,
      fun hmonth => driftMonthlyWrite_enters hstate hstarted hmonth⟩,
    fun hstarted hchanged => ⟨_, exec_trimNvmWrite hstarted hchanged, s.trimsDue_leaves _⟩⟩
  · rw [exec_eyeScanStart hlane hen hidle, hready, if_neg Bool.noConfusion]
    rfl
  · rw [exec_eyeScanStart hlane hen hidle, if_pos hready]
    rfl

end Sys2Proof.Machine
end

section
/-!
What a state that follows another keeps, whatever operations lie between: the queue, R500, and the canonical form of the
register store. One lemma per operation, in the order of the model's files: an operation after a sound state leaves a
sound state.
-/

namespace Sys2Proof.Machine

open Sys2Proof.Stated

/-! ### Canonical tables (log entry 3) -/

theorem mem_of_mem_terase {α : Type} {t : Tbl α} {k : Nat} {e : Nat × α} (h : e ∈ terase t k) : e ∈ t := by
  induction t with
  | nil => exact h
  | cons x rest ih =>
    rw [terase] at h
    split_ifs at h with heq hlt
    · exact List.mem_cons_of_mem _ h
    · exact h
    · rcases List.mem_cons.mp h with rfl | h
      · exact List.mem_cons_self
      · exact List.mem_cons_of_mem _ (ih h)

theorem mem_tput {α : Type} {t : Tbl α} {k : Nat} {v : α} {e : Nat × α} (h : e ∈ tput t k v) : e = (k, v) ∨ e ∈ t := by
  induction t with
  | nil => exact .inl (List.mem_singleton.mp h)
  | cons x rest ih =>
    rw [tput] at h
    split_ifs at h with heq hlt
    · exact (List.mem_cons.mp h).imp_right (List.mem_cons_of_mem _)
    · exact List.mem_cons.mp h
    · rcases List.mem_cons.mp h with rfl | h
      · exact .inr List.mem_cons_self
      · exact (ih h).imp_right (List.mem_cons_of_mem _)

/-- A write of what unlisted keys do not read as, or an erasure, lists nothing that an unlisted key reads as. -/
theorem ne_default_tset {α : Type} [DecidableEq α] {d : Nat → α} {t : Tbl α} (h : ∀ e ∈ t, e.2 ≠ d e.1) (k : Nat)
    (v : α) : ∀ e ∈ tset (d k) t k v, e.2 ≠ d e.1 := by
  intro e he
  rw [tset] at he
  split_ifs at he with hv
  · exact h e (mem_of_mem_terase he)
  · rcases mem_tput he with rfl | he
    · exact hv
    · exact h e he

theorem tblWf_iff {α : Type} [DecidableEq α] {d : α} {t : Tbl α} {lo : Nat} :
    tblWf d lo t = true ↔ keysRise lo t = true ∧ ∀ e ∈ t, e.2 ≠ d := by
  induction t generalizing lo with
  | nil => simp [tblWf, keysRise]
  | cons x rest ih =>
    simp only [tblWf, keysRise, Bool.and_eq_true, decide_eq_true_eq, ih, List.mem_cons, forall_eq_or_imp]
    tauto

theorem tblWf_tset {α : Type} [DecidableEq α] {d : α} {t : Tbl α} (h : tblWf d 0 t = true) (k : Nat) (v : α) :
    tblWf d 0 (tset d t k v) = true := by
  obtain ⟨hrise, hne⟩ := tblWf_iff.mp h
  exact tblWf_iff.mpr ⟨keysRise_tset hrise d k v, ne_default_tset (d := fun _ => d) hne k v⟩

theorem tget?_mem {α : Type} {t : Tbl α} {k : Nat} {v : α} (h : tget? t k = some v) : (k, v) ∈ t := by
  induction t with
  | nil => exact nomatch h
  | cons x rest ih =>
    rw [tget?] at h
    split_ifs at h with heq
    · rw [← heq, ← Option.some.inj h]
      exact List.mem_cons_self
    · exact List.mem_cons_of_mem _ (ih h)

theorem terase_of_unlisted {α : Type} {t : Tbl α} {k : Nat} (h : tget? t k = none) : terase t k = t := by
  induction t with
  | nil => rfl
  | cons x rest ih =>
    rw [tget?] at h
    split_ifs at h with heq
    rw [terase, if_neg heq, ih h, ite_self]

theorem tput_of_listed {α : Type} {t : Tbl α} {k lo : Nat} {v : α} (hrise : keysRise lo t = true)
    (h : tget? t k = some v) : tput t k v = t := by
  induction t generalizing lo with
  | nil => exact nomatch h
  | cons x rest ih =>
    obtain ⟨-, hrest⟩ := Bool.and_eq_true_iff.mp hrise
    rw [tget?] at h
    rw [tput]
    split_ifs at h ⊢ with heq hlt
    · rw [← heq, ← Option.some.inj h]
    · rw [tget?_eq_none_of_keysRise hrest (by omega)] at h
      exact nomatch h
    · rw [ih hrest h]

/-- In a canonical table a write of what a key reads as changes nothing. -/
theorem tset_tget {α : Type} [DecidableEq α] {d : α} {t : Tbl α} (h : tblWf d 0 t = true) (k : Nat) :
    tset d t k (tget d t k) = t := by
  obtain ⟨hrise, hne⟩ := tblWf_iff.mp h
  rw [tget]
  cases hk : tget? t k with
  | none => rw [Option.getD_none, tset, if_pos rfl, terase_of_unlisted hk]
  | some v => rw [Option.getD_some, tset, if_neg (hne _ (tget?_mem hk)), tput_of_listed hrise hk]

/-- The words of a register store differ from their reset words. -/
def noReset (t : Tbl Word) : Prop := ∀ e ∈ t, e.2 ≠ resetWord e.1

/-! ### Soundness -/

/-- What every operation keeps without regard to the lasers: the queue, and the canonical form of the register store. -/
def Ordered (o s : State) : Prop := s.pending = o.pending ∧ (RegsCanonical o → RegsCanonical s)

/-- `s` can follow `o`: its queue is that of `o`, its register store is canonical and its lasers obey R500 where those of
`o` are and do. -/
def Sound (o s : State) : Prop := Ordered o s ∧ (LaserSafe o → LaserSafe s)

/-- An outcome is a next state that can follow `o`. -/
def SoundOut (o : State) (r : Host.Outcome State Fault Refusal) : Prop := ∃ t, r = .next t ∧ Sound o t

/-- The state in what an optional result holds can follow `o`. -/
def SoundOpt (o : State) {α : Type} (p : α → State) (x : Option α) : Prop := ∀ a, x = some a → Sound o (p a)

/-- The state that an instruction leaves, where it leaves one, can follow `o`. -/
def SoundRan (o : State) : Ran → Prop
  | .go _ t | .jump _ _ t | .stay _ t => Sound o t
  | .trap _ => True

theorem Sound.refl (o : State) : Sound o o := ⟨⟨rfl, id⟩, id⟩

theorem Sound.ordered {o s : State} (h : Sound o s) : Ordered o s := h.1

theorem SoundOut.next {o s : State} (h : Sound o s) : SoundOut o (next s) := ⟨s, rfl, h⟩

section Update

variable {o s : State}

/-- The queue, the registers, the mode in force, the lockout, the tested flag, the lasers and the guard are all that
soundness reads. -/
theorem Sound.update (h : Sound o s) {m : ModeSt} {r : Retention} {f : SafSt} {x0} {x1} {x2} {x3} {x4} {x5} {x6} {x7}
    {x8} {x9} {x10} {x11} {x12} {x13} {x14} {x15} {x16} {x17} {x18} {x19} {x20} {x21} {x22} {x23} {x24} {x25} {x26}
    {x27} {x28} {x29} {x30} {x31} {x32} {x33} {x34} {x35} {x36}
    (hm : m.mode = s.mode.mode := by rfl) (hr : (r.lockout, r.tested) = (s.ret.lockout, s.ret.tested) := by rfl)
    (hf : (f.lsrEn, f.request, f.wired, f.guard) = (s.saf.lsrEn, s.saf.request, s.saf.wired, s.saf.guard) := by rfl) :
    Sound o (State.mk s.pending x0 x1 s.regs x2 x3 x4 x5 x6 x7 x8 x9 x10 m x11 x12 r x13 x14 x15 x16 f x17 x18 x19 x20
        x21 x22 x23 x24 x25 x26 x27 x28 x29 x30 x31 x32 x33 x34 x35 x36) := by
  simp only [Prod.mk.injEq] at hr hf
  obtain ⟨hlock, htested⟩ := hr
  obtain ⟨hon, hwant, hwired, hguard⟩ := hf
  obtain ⟨hord, hsafe⟩ := h
  refine ⟨hord, fun ho => ?_⟩
  have := hsafe ho
  unfold LaserSafe at this ⊢
  simpa only [hm, hlock, htested, hon, hwant, hwired, hguard] using this

theorem Ordered.update (h : Ordered o s) {m : ModeSt} {r : Retention} {f : SafSt} {x0} {x1} {x2} {x3} {x4} {x5} {x6}
    {x7} {x8} {x9} {x10} {x11} {x12} {x13} {x14} {x15} {x16} {x17} {x18} {x19} {x20} {x21} {x22} {x23} {x24} {x25}
    {x26} {x27} {x28} {x29} {x30} {x31} {x32} {x33} {x34} {x35} {x36} :
    Ordered o (State.mk s.pending x0 x1 s.regs x2 x3 x4 x5 x6 x7 x8 x9 x10 m x11 x12 r x13 x14 x15 x16 f x17 x18 x19
        x20 x21 x22 x23 x24 x25 x26 x27 x28 x29 x30 x31 x32 x33 x34 x35 x36) := h

/-- With every laser off, the mode, the flags and the guard are free. -/
theorem Sound.updateDark (h : Sound o s) (hon : LaserSafe s → s.saf.lsrEn = 0) {m : ModeSt} {r : Retention} {f :
    SafSt} {x0} {x1} {x2} {x3} {x4} {x5} {x6} {x7} {x8} {x9} {x10} {x11} {x12} {x13} {x14} {x15} {x16} {x17} {x18}
    {x19} {x20} {x21} {x22} {x23} {x24} {x25} {x26} {x27} {x28} {x29} {x30} {x31} {x32} {x33} {x34} {x35} {x36}
    (hf : (f.lsrEn, f.request) = (s.saf.lsrEn, s.saf.request) := by rfl) :
    Sound o (State.mk s.pending x0 x1 s.regs x2 x3 x4 x5 x6 x7 x8 x9 x10 m x11 x12 r x13 x14 x15 x16 f x17 x18 x19 x20
        x21 x22 x23 x24 x25 x26 x27 x28 x29 x30 x31 x32 x33 x34 x35 x36) := by
  simp only [Prod.mk.injEq] at hf
  obtain ⟨hord, hsafe⟩ := h
  refine ⟨hord, fun ho => ?_⟩
  obtain ⟨hwant, -, -⟩ := hsafe ho
  have hdark : f.lsrEn = 0 := hf.1.trans (hon (hsafe ho))
  refine ⟨hf.1.trans (hwant.trans hf.2.symm), ?_, fun hne => absurd hdark hne⟩
  rw [show clearBits f.lsrEn f.wired = clearBits 0 f.wired from congrArg (clearBits · _) hdark, clearBits, Nat.zero_sub]

theorem Sound.ite {c : Prop} [Decidable c] {a b : State} (ha : Sound o a) (hb : Sound o b) :
    Sound o (if c then a else b) := by
  split <;> assumption

theorem Sound.ite_snd {α : Type} {c : Prop} [Decidable c] {a b : α × State} (ha : Sound o a.2) (hb : Sound o b.2) :
    Sound o (if c then a else b).2 := by
  split <;> assumption

theorem Sound.ite_snd_snd {α β : Type} {c : Prop} [Decidable c] {a b : α × β × State} (ha : Sound o a.2.2)
    (hb : Sound o b.2.2) : Sound o (if c then a else b).2.2 := by
  split <;> assumption

theorem SoundOut.ite {c : Prop} [Decidable c] {a b : Host.Outcome State Fault Refusal} (ha : SoundOut o a)
    (hb : SoundOut o b) : SoundOut o (if c then a else b) := by
  split <;> assumption

/-- The state beside a result that a match has taken apart. -/
theorem Sound.of_snd {α : Type} {x : α × State} {a : α} (h : Sound o x.2) (he : x = (a, s)) : Sound o s := by
  rw [he] at h
  exact h

theorem Sound.of_snd_snd {α β : Type} {x : α × β × State} {a : α} {b : β} (h : Sound o x.2.2) (he : x = (a, b, s)) :
    Sound o s := by
  rw [he] at h
  exact h

theorem SoundOpt.none {α : Type} {p : α → State} : SoundOpt o p none := fun _ h => nomatch h

theorem SoundOpt.some {α : Type} {p : α → State} {a : α} (h : Sound o (p a)) : SoundOpt o p (some a) :=
  fun _ he => Option.some.inj he ▸ h

theorem SoundOpt.ite {α : Type} {p : α → State} {c : Prop} [Decidable c] {a b : Option α} (ha : SoundOpt o p a)
    (hb : SoundOpt o p b) : SoundOpt o p (if c then a else b) := by
  split <;> assumption

theorem SoundRan.go {x : Core} (h : Sound o s) : SoundRan o (.go x s) := h
theorem SoundRan.jump {x : Core} {pc : Nat} (h : Sound o s) : SoundRan o (.jump x pc s) := h
theorem SoundRan.stay {x : Core} (h : Sound o s) : SoundRan o (.stay x s) := h
theorem SoundRan.trap {t : Trap} : SoundRan o (.trap t) := True.intro

theorem SoundRan.ite {c : Prop} [Decidable c] {a b : Ran} (ha : SoundRan o a) (hb : SoundRan o b) :
    SoundRan o (if c then a else b) := by
  split <;> assumption

theorem Sound.each {α : Type} (h : Sound o s) {l : List α} {f : State → α → State}
    (hf : ∀ u x, Sound o u → Sound o (f u x)) : Sound o (s.each l f) :=
  State.each_induction h fun u x _ hu => hf u x hu

theorem Sound.foldl {α : Type} (h : Sound o s) {l : List α} {f : State → α → State}
    (hf : ∀ u x, Sound o u → Sound o (f u x)) : Sound o (l.foldl f s) := h.each hf

/-- A state with every laser off and unrequested obeys R500, whatever its mode and flags. -/
theorem Ordered.dark (h : Ordered o s) (hon : s.saf.lsrEn = 0) (hwant : s.saf.request = 0) : Sound o s :=
  ⟨h, fun _ => ⟨hon.trans hwant.symm, by simp [hon, clearBits], fun hne => absurd hon hne⟩⟩

theorem Ordered.setRegWord (h : Ordered o s) (a : Nat) (w : Word) : Ordered o (s.setRegWord a w) :=
  ⟨h.1, fun ho => ⟨State.keysRise_setRegWord (h.2 ho).1 a w, ne_default_tset (h.2 ho).2 a w⟩⟩

theorem Sound.setRegWord (h : Sound o s) {a : Nat} {w : Word} : Sound o (s.setRegWord a w) :=
  ⟨h.1.setRegWord a w, h.2⟩

end Update

section Operations

-- A thousand short proofs, each of which would start a thread of its own.
set_option Elab.async false

variable {o s : State}

/-! ### The operations, in the order of the model -/

/-! #### Stored registers -/

theorem Sound.setFld (h : Sound o s) {f : FieldRef} {v : Nat} : Sound o (s.setFld f v) := by
  unfold State.setFld
  exact h.setRegWord

theorem Sound.bump (h : Sound o s) {f : FieldRef} {n : Nat} : Sound o (s.bump f n) := by
  unfold State.bump
  exact h.setFld

/-! #### Parts of the state by index -/

theorem Sound.setLane (h : Sound o s) {n : Nat} {l : LaneSt} : Sound o (s.setLane n l) := h.update

theorem Sound.setPort (h : Sound o s) {p : Nat} {x : PortSt} : Sound o (s.setPort p x) := h.update

theorem Sound.setPq (h : Sound o s) {p : Nat} {x : PortQ} : Sound o (s.setPq p x) := h.update

theorem Sound.setCell (h : Sound o s) {c : Nat} {x : CellLoop} : Sound o (s.setCell c x) := h.update

/-! #### Free values -/

theorem Sound.draw (h : Sound o s) : Sound o (s.draw).2 := h.update

/-! #### Module time and clocks (R376 to R378) -/

theorem Sound.elapse (h : Sound o s) {n : Nat} : Sound o (s.elapse n) := h.update

theorem Sound.waitClk (h : Sound o s) {t : Nat} : Sound o (s.waitClk t) := by
  unfold State.waitClk
  exact h.elapse

theorem Sound.waitTime (h : Sound o s) {t : Nat} : Sound o (s.waitTime t) := by
  unfold State.waitTime
  exact .ite h.elapse.update h

/-! #### Counters (R363, R364) -/

theorem Sound.count (h : Sound o s) {a n : Nat} : Sound o (s.count a n) := h.update

/-! #### Host memory, interrupts and events -/

theorem Sound.granted (h : Sound o s) {t m : Nat} : Sound o (s.granted t m) := h.update

theorem Sound.hostAct (h : Sound o s) {t : Nat} {f : State → State} (hf : ∀ u, Sound o u → Sound o (f u)) :
    Sound o (s.hostAct t f) := by
  unfold State.hostAct
  exact .ite (hf _ h.granted) h

theorem Sound.hostRead (h : Sound o s) {t : Nat} {f : State → State} (hf : ∀ u, Sound o u → Sound o (f u)) :
    Sound o (s.hostRead t f) := by
  unfold State.hostRead
  exact .ite (hf _ h.granted) h.update

theorem Sound.hostWrite (h : Sound o s) {addr : Nat} {b : Bytes} : Sound o (s.hostWrite addr b) := h.update

theorem Sound.raiseVector (h : Sound o s) {v : Nat} : Sound o (s.raiseVector v) := h.update

theorem Sound.coalesce (h : Sound o s) {src : Nat} : Sound o (s.coalesce src) := by
  unfold State.coalesce
  exact .ite h.update.raiseVector h.update

theorem Sound.flashJob (h : Sound o s) {j : FlashJob} : Sound o (s.flashJob j) := h.update

theorem Sound.logPages (h : Sound o s) : Sound o s.logPages := by
  unfold State.logPages
  exact .ite h.flashJob h

theorem Sound.postEvt (h : Sound o s) {code flags : Nat} {data : Bytes} : Sound o (s.postEvt code flags data) := by
  unfold State.postEvt
  extract_lets seq entry _ s1 _ s2 _ s3
  have hs1 : Sound o s1 := h.update
  have hs2 : Sound o s2 := .ite hs1.update.logPages hs1.count
  have hs3 : Sound o s3 := .ite hs2.hostWrite.coalesce hs2.bump
  exact .ite hs3.update hs3

theorem Sound.raise (h : Sound o s) {code : Nat} {items : List (Nat × Nat)} : Sound o (s.raise code items) := by
  unfold State.raise
  exact .ite h.postEvt h.postEvt.postEvt

theorem Sound.raiseLim (h : Sound o s) {code subject : Nat} {items : List (Nat × Nat)} :
    Sound o (s.raiseLim code subject items) := by
  unfold State.raiseLim
  dsimp only
  split
  · exact .ite h h.update.raise
  · exact h.update.raise

theorem Sound.emit (h : Sound o s) {o' : Out} : Sound o (s.emit o') := h.update

/-! #### The bus matrix's own state (chapter 21) -/

theorem Sound.setBmMaster (h : Sound o s) {m : Nat} {x : BmMaster} : Sound o (s.setBmMaster m x) := h.update

theorem Sound.setBmTarget (h : Sound o s) {t : Nat} {x : BmTarget} : Sound o (s.setBmTarget t x) := h.update

theorem Sound.busError (h : Sound o s) {m : Nat} {t : Option Nat} {code addr : Nat} {write : Bool} :
    Sound o (s.busError m t code addr write) := by
  unfold State.busError
  exact h.bump.update.raiseLim

theorem Sound.unlockTarget (h : Sound o s) {t : Nat} : Sound o (s.unlockTarget t) := by
  unfold State.unlockTarget
  exact h.setBmTarget

theorem Sound.resetMaster (h : Sound o s) {m : Nat} {burst : Option (Nat × Nat)} : Sound o (s.resetMaster m burst) := by
  unfold State.resetMaster
  exact ((((h.each (fun _ _ hu => hu.unlockTarget)).setBmMaster).update).bump).raise

theorem Sound.holdMaster (h : Sound o s) {m : Nat} : Sound o (s.holdMaster m) := by
  unfold State.holdMaster
  exact .ite h h.resetMaster

theorem Sound.freeMaster (h : Sound o s) {m : Nat} : Sound o (s.freeMaster m) := by
  unfold State.freeMaster
  exact h.setBmMaster

/-! #### Converters and pairs (R223) -/

theorem Sound.setPair (h : Sound o s) {k : Nat} {x : PairSt} : Sound o (s.setPair k x) := h.update

/-! #### Status codes of Table 20.5 and of R501 -/

theorem Sound.setRing (h : Sound o s) {r : Nat} {x : Ring} : Sound o (s.setRing r x) := h.update

theorem Sound.begin (h : Sound o s) {tag : CmdTag} {op : Nat} : Sound o (s.begin tag op) := by
  unfold State.begin
  exact h.setRing

theorem Sound.outData (h : Sound o s) {tag : CmdTag} {addr : Nat} {b : Bytes} : Sound o (s.outData tag addr b) := by
  unfold State.outData
  exact .ite h.hostWrite h

theorem Sound.produce (h : Sound o s) {r dev : Nat} {entry : Bytes} : Sound o (s.produce r dev entry) := by
  unfold State.produce
  exact .ite h.hostWrite.coalesce h.setRing

theorem Sound.postCompletion (h : Sound o s) {tag : CmdTag} {status flags : Nat} {detail : Bytes} :
    Sound o (s.postCompletion tag status flags detail) := by
  unfold State.postCompletion
  exact h.setRing.produce

theorem Sound.completeWith (h : Sound o s) {tag : CmdTag} {status : Nat} {detail : List (Nat × Nat)} {wrote : Bool} :
    Sound o (s.completeWith tag status detail wrote) := by
  unfold State.completeWith
  exact .setRing (.postCompletion (.ite h.hostWrite h))

theorem Sound.complete (h : Sound o s) {tag : CmdTag} {status : Nat} {detail : List (Nat × Nat)} :
    Sound o (s.complete tag status detail) := by
  unfold State.complete
  exact h.completeWith

theorem Sound.completeOpt (h : Sound o s) {tag : Option CmdTag} {status : Nat} {detail : List (Nat × Nat)} :
    Sound o (s.completeOpt tag status detail) := by
  unfold State.completeOpt
  split
  · exact h.complete
  · exact h

theorem Sound.serve (h : Sound o s) {tag : CmdTag} {op : Nat} {body : State → State} (hbody : ∀ u, Sound o u → Sound o
    (body u)) :
    Sound o (s.serve tag op body) := by
  unfold State.serve
  dsimp only
  split
  · exact h.begin.complete
  · exact hbody _ h.begin

/-! #### Cores and memories (R193, R200) -/

theorem Sound.setCore (h : Sound o s) {c : CoreRef} {x : Core} : Sound o (s.setCore c x) := h.update

theorem Sound.setDm (h : Sound o s) {lane a : Nat} {w : Word} : Sound o (s.setDm lane a w) := h.update

theorem Sound.raiseLoop (h : Sound o s) {code subject : Nat} {items : List (Nat × Nat)} :
    Sound o (s.raiseLoop code subject items) := by
  unfold State.raiseLoop
  exact .ite h.bump h.raiseLim

/-! #### Special registers (Table 9.4) -/

theorem Sound.engineSpecial (h : Sound o s) {c : CoreRef} {x : Core} {sr : Nat} :
    Sound o (s.engineSpecial c x sr).2 := by
  unfold State.engineSpecial
  split
  · exact h
  · exact h
  · exact h
  · exact h
  · exact h
  · exact h
  · exact h
  · exact h
  · exact h
  · exact h.draw

theorem Sound.readSpecial (h : Sound o s) {c : CoreRef} {x : Core} {sr : Nat} :
    SoundOpt o (fun t => t.2) (s.readSpecial c x sr) := by
  unfold State.readSpecial
  split
  · exact .some h
  · exact .some h
  · exact .some h
  · exact .some h
  · exact .some h
  · exact .some h
  · exact .some h
  · exact .some h
  · exact .some h
  · exact .some h
  · exact .some h
  · exact .some h
  · exact .some h
  · exact .some h
  · exact .some h
  · exact .some h
  · exact .some h
  · refine .ite (.some h.engineSpecial) (.ite .none ?_)
    split
    · exact .some h
    · exact .some h
    · exact .some h
    · exact .some h
    · exact .some h
    · exact .some h
    · exact .some h
    · exact .none

/-! #### The course of an instruction (R205, R210 to R213) -/

theorem Sound.laneFault (h : Sound o s) {n : Nat} {x : Core} {code : Nat} : Sound o (s.laneFault n x code) := by
  unfold State.laneFault
  exact h.update.raiseLoop

theorem Sound.eachCore (h : Sound o s) {f : Core → Core} : Sound o (s.eachCore f) := by
  unfold State.eachCore
  exact h.each (fun _ _ hu => hu.update)

theorem Sound.stopLanes (h : Sound o s) : Sound o s.stopLanes := by
  unfold State.stopLanes
  exact h.eachCore

theorem Sound.releaseLanes (h : Sound o s) : Sound o s.releaseLanes := by
  unfold State.releaseLanes
  exact h.eachCore

theorem Sound.takeIrq (h : Sound o s) {c : CoreRef} : Sound o (s.takeIrq c) := by
  unfold State.takeIrq
  dsimp only
  split
  · exact h
  · split
    · exact h
    · exact .ite h.update.setCore h

theorem Sound.issue (h : Sound o s) {c : CoreRef} {k : OpClass} {w : Cores} {f : State → Core → Ran}
    (hf : ∀ x, SoundRan o (f s x)) : Sound o (s.issue c k w f) := by
  unfold State.issue
  dsimp only
  refine .ite h ?_
  have hran : SoundRan o (if Core.misplaced ({ s.core c with cyc := (s.core c).cyc + 1, load := none } : Core).tick c
      k w
      then .trap .illegal else f s ({ s.core c with cyc := (s.core c).cyc + 1, load := none } : Core).tick) :=
    .ite .trap (hf _)
  split
  next heq => rw [heq] at hran; exact hran.setCore.takeIrq
  next heq => rw [heq] at hran; exact hran.setCore.takeIrq
  next heq => rw [heq] at hran; exact hran.setCore.takeIrq
  next =>
    split
    · exact h.laneFault
    · exact h.setCore

theorem Sound.alu (h : Sound o s) {c : CoreRef} {f : Core → Core} : Sound o (s.alu c f) := by
  unfold State.alu
  exact h.issue (fun _ => .go h)

/-! #### Data memory (R195, R202) -/

theorem Sound.pathOut (h : Sound o s) {out : Nat} {v : Word} : Sound o (s.pathOut out v) := by
  unfold State.pathOut
  exact .ite h (.ite h.update (.ite h.update.update.raise h.update.update))

theorem Sound.memWrite (h : Sound o s) {c : CoreRef} {a : Nat} {v : Word} : Sound o (s.memWrite c a v) := by
  unfold State.memWrite
  split
  · exact h.update
  · refine .ite ?_ (.ite h.setDm.pathOut h.setDm)
    split
    · exact h.setDm.setCell
    · exact h.setDm

theorem Sound.loadFrom (h : Sound o s) {c : CoreRef} {x : Core} {d : Fin 16} {a : Nat} :
    SoundRan o (s.loadFrom c x d a) := by
  unfold State.loadFrom
  exact .ite .trap (.go h)

theorem Sound.storeTo (h : Sound o s) {c : CoreRef} {x : Core} {a : Nat} {v : Word} :
    SoundRan o (s.storeTo c x a v) := by
  unfold State.storeTo
  exact .ite .trap (.ite .trap (.go h.memWrite))

/-! #### Palette and stuck table -/

theorem Sound.setSwatch (h : Sound o s) {n : Nat} {w : Swatch} : Sound o (s.setSwatch n w) := h.update

/-! #### Transmitters (R112, R139, R141, R281) -/

theorem Sound.laneBoundary (h : Sound o s) : Sound o s.laneBoundary := h.update

theorem Sound.txDark (h : Sound o s) : Sound o s.txDark := h.update

/-! #### Putting a swatch in force -/

theorem Sound.putSwatch (h : Sound o s) {n b : Nat} : Sound o (s.putSwatch n b) := h.update

theorem Sound.noSwatch (h : Sound o s) : Sound o s.noSwatch := h.update

/-! #### Heaters and safe codes (R238 to R242) -/

theorem Sound.slewTick (h : Sound o s) {step : Nat} : Sound o (s.slewTick step) := h.update

theorem Sound.toSafe (h : Sound o s) : Sound o s.toSafe := h.update

theorem Sound.leaveSafe (h : Sound o s) : Sound o s.leaveSafe := h.update

theorem Sound.dacClear (h : Sound o s) {source : Nat} : Sound o (s.dacClear source) := by
  unfold State.dacClear
  exact h.update.raise

theorem Sound.dacReturn (h : Sound o s) : Sound o s.dacReturn := by
  unfold State.dacReturn
  refine .ite (.raise ?_) h
  split
  · exact h.update.putSwatch
  · exact h.update

/-! #### Burst intervals (R20 to R23, R155) -/

theorem Sound.openInterval (h : Sound o s) {b e : Nat} : Sound o (s.openInterval b e) := by
  unfold State.openInterval
  exact h.laneBoundary.update.dacReturn

theorem Sound.fabricDark (h : Sound o s) : Sound o s.fabricDark := h.update

theorem Sound.swatchTargets (h : Sound o s) {n : Nat} : Sound o (s.swatchTargets n) := h.update

/-! #### The time unit's parts that other units use -/

theorem Sound.withdrawJump (h : Sound o s) : Sound o s.withdrawJump := h.update

theorem Sound.updateSource (h : Sound o s) : Sound o s.updateSource := by
  unfold State.updateSource
  exact .ite h h.withdrawJump.update.raise

theorem Sound.setUnset (h : Sound o s) : Sound o s.setUnset := by
  unfold State.setUnset
  exact h.withdrawJump.update

theorem Sound.toSlowClock (h : Sound o s) : Sound o s.toSlowClock := by
  unfold State.toSlowClock
  exact h.setUnset.update

theorem Sound.toFastClock (h : Sound o s) : Sound o s.toFastClock := h.update

theorem Sound.addOffset (h : Sound o s) {ps : Int} : Sound o (s.addOffset ps) := by
  unfold State.addOffset
  exact h.update.count

/-! #### Exclusion from slotted operation (R412) -/

theorem Sound.exclusionCheck (h : Sound o s) {theta : Option Int} : Sound o (s.exclusionCheck theta) := by
  unfold State.exclusionCheck
  dsimp only
  refine .ite h.update ?_
  split
  · exact h.update.txDark.raise
  · exact h
  · exact h.update
  · exact .ite h.update (.ite h.update.raise h.update)

/-! #### Classification (R289 to R291, R293), policers (R346 to R350), and the commands that change or read the rule set, the comparators and the policers -/

theorem Sound.serveL0 (h : Sound o s) {tag : CmdTag} {op : Nat} {body : State → State} (hbody : ∀ u, Sound o u → Sound
    o (body u)) :
    Sound o (s.serveL0 tag op body) := by
  unfold State.serveL0
  exact h.serve (fun _ hu => .ite hu.complete (hbody _ hu))

/-! #### Rules -/

theorem Sound.clsChanged (h : Sound o s) : Sound o s.clsChanged := h.update

theorem Sound.writeRule (h : Sound o s) {resetCnt : Bool} {rec : Bytes} : Sound o (s.writeRule resetCnt rec) := by
  unfold State.writeRule
  exact .update (.ite h.update h)

theorem execClsRuleWrite_sound (h : Sound o s) {tag : CmdTag} {count : Nat} {resetCnt : Bool} {records : Option Bytes} :
    SoundOut o (execClsRuleWrite tag count resetCnt records s) := by
  unfold execClsRuleWrite
  dsimp only
  refine .next (h.serveL0 (fun _ hu => .ite hu.complete ?_))
  split
  · exact hu.complete
  · split
    · exact hu.complete
    · exact ((hu.each (fun _ _ hu => hu.writeRule)).clsChanged).complete

theorem execClsRuleDelete_sound (h : Sound o s) {tag : CmdTag} {count : Nat} {indices : Option Bytes} :
    SoundOut o (execClsRuleDelete tag count indices s) := by
  unfold execClsRuleDelete
  dsimp only
  refine .next (h.serveL0 (fun _ hu => .ite hu.complete ?_))
  split
  · exact hu.complete
  · split
    · exact hu.complete
    · exact ((hu.each (fun _ _ hu => hu.update)).clsChanged).complete

theorem execClsRangeWrite_sound (h : Sound o s) {tag : CmdTag} {count : Nat} {records : Option Bytes} :
    SoundOut o (execClsRangeWrite tag count records s) := by
  unfold execClsRangeWrite
  dsimp only
  refine .next (h.serveL0 (fun _ hu => .ite hu.complete ?_))
  split
  · exact hu.complete
  · split
    · exact hu.complete
    · exact ((hu.each (fun _ _ hu => hu.update)).clsChanged).complete

theorem execClsRuleRead_sound (h : Sound o s) {tag : CmdTag} {first count outAddr : Nat} :
    SoundOut o (execClsRuleRead tag first count outAddr s) := by
  unfold execClsRuleRead
  exact .next (h.serveL0 (fun _ hu => .ite hu.complete hu.outData.completeWith))

/-! #### Policers (R346 to R350) -/

theorem Sound.setPolicer (h : Sound o s) {i : Nat} {p : Policer} : Sound o (s.setPolicer i p) := h.update

theorem Sound.police (h : Sound o s) {i len colour : Nat} : Sound o (s.police i len colour).2.2 := by
  unfold State.police
  exact h.setPolicer.count.count

theorem execPolWrite_sound (h : Sound o s) {tag : CmdTag} {count : Nat} {resetTokens : Bool} {records : Option Bytes} :
    SoundOut o (execPolWrite tag count resetTokens records s) := by
  unfold execPolWrite
  dsimp only
  refine .next (h.serveL0 (fun _ hu => .ite hu.complete ?_))
  split
  · exact hu.complete
  · split
    · exact hu.complete
    · exact ((hu.each (fun _ _ hu => hu.setPolicer)).update).complete

/-! #### Frame DMA queues -/

theorem Sound.setFqRx (h : Sound o s) {q : Nat} {d : FqDir} : Sound o (s.setFqRx q d) := h.update

theorem Sound.setFqTx (h : Sound o s) {q : Nat} {d : FqDir} : Sound o (s.setFqTx q d) := h.update

theorem Sound.nextSeq (h : Sound o s) {key : Nat} : Sound o (s.nextSeq key).2 := h.update

theorem Sound.ringFault (h : Sound o s) {ring expected : Nat} {f : Nat × Nat} :
    Sound o (s.ringFault ring expected f) := by
  unfold State.ringFault
  exact h.raiseLim

theorem Sound.doorbellBad (h : Sound o s) {ring value : Nat} : Sound o (s.doorbellBad ring value) := by
  unfold State.doorbellBad
  exact h.bump.raiseLim

theorem Sound.deliver (h : Sound o s) {q : Nat} {data : Bytes} : Sound o (s.deliver q data).2 := by
  unfold State.deliver
  dsimp only
  split
  · split
    · exact h.setFqRx.ringFault.count
    · exact h.hostWrite.hostWrite.hostWrite.hostWrite.setFqRx.coalesce
  · exact h.count

theorem Sound.hostCopy (h : Sound o s) {q : Nat} {info : CopyInfo} {frame : Bytes} {bad : Bool} :
    Sound o (s.hostCopy q info frame bad).2 := by
  unfold State.hostCopy
  exact h.update.deliver

theorem Sound.writeBack (h : Sound o s) {r : LaunchRef} {status : Nat} {stamp : Option Nat} :
    Sound o (s.writeBack r status stamp) := by
  unfold State.writeBack
  exact .ite h.hostWrite.coalesce h

/-! #### Back-pressure (R331 to R333, R269, R270) -/

theorem Sound.sendPause (h : Sound o s) {p on off : Nat} : Sound o (s.sendPause p on off) := by
  unfold State.sendPause
  exact h.setPort.setPq

theorem Sound.pausePort (h : Sound o s) {p : Nat} : Sound o (s.pausePort p) := by
  unfold State.pausePort
  exact .ite h.setPq (.ite h.setPq.setPort.sendPause h.setPq.setPort)

theorem Sound.pressure (h : Sound o s) : Sound o s.pressure := by
  unfold State.pressure
  exact .ite h (h.update.each (fun _ _ hu => hu.pausePort))

/-! #### Queueing and release -/

theorem Sound.enqueue (h : Sound o s) {f : Frame} : Sound o (s.enqueue f) := h.update

theorem Sound.newBuf (h : Sound o s) {b : Buf} : Sound o (s.newBuf b).2 := h.update

theorem Sound.freeBuf (h : Sound o s) {b : Nat} : Sound o (s.freeBuf b) := by
  unfold State.freeBuf
  exact .ite h h.update

theorem Sound.unqueue (h : Sound o s) {f : Frame} : Sound o (s.unqueue f) := by
  unfold State.unqueue
  exact h.update.freeBuf

/-! #### Admission (R327 to R330) and push-out (R334) -/

theorem Sound.pushOut (h : Sound o s) {test : State → Option Nat} {fuel : Nat} {l : List Frame} :
    SoundOpt o (fun t => t) (Machine.pushOut test fuel l s) := by
  induction l generalizing fuel s with
  | nil => unfold Machine.pushOut; exact .none
  | cons f rest ih =>
    cases fuel with
    | zero => exact .none
    | succ fuel => exact .ite (.some h.unqueue.count) (ih h.unqueue.count)

theorem Sound.makeRoom (h : Sound o s) {p c : Nat} {test : State → Option Nat} : Sound o (s.makeRoom p c test).2 := by
  unfold State.makeRoom
  split
  · exact h
  · refine .ite_snd ?_ h
    split
    · exact h.pushOut _ ‹_›
    · exact h

theorem Sound.admitDrop (h : Sound o s) {p c check : Nat} : Sound o (s.admitDrop p c check) := by
  unfold State.admitDrop
  extract_lets s1 ignored s2 s3 x quiet s4
  have hs1 : Sound o s1 := h.count
  have hs2 : Sound o s2 := .ite (.ite hs1.count (.ite hs1.count hs1)) hs1
  have hs3 : Sound o s3 := .ite hs2.raiseLim hs2
  have hs4 : Sound o s4 := hs3.setPq
  exact .ite hs4.raise hs4

/-! #### Discards -/

theorem Sound.discard (h : Sound o s) {f : Frame} {local_ fabricCnt : Nat} :
    Sound o (s.discard f local_ fabricCnt) := by
  unfold State.discard
  split
  · exact h.unqueue.count
  · exact h.unqueue.count
  · exact h.unqueue.count

theorem Sound.discardPort (h : Sound o s) {p : Nat} : Sound o (s.discardPort p) := by
  unfold State.discardPort
  refine .each ?_ (fun _ _ hu => hu.count.writeBack)
  split
  · refine .freeBuf ?_
    split
    · exact (((h.each (fun _ _ hu => hu.discard)).setPq).count).writeBack
    · split
      · exact ((h.each (fun _ _ hu => hu.discard)).setPq).count
      · exact ((h.each (fun _ _ hu => hu.discard)).setPq).count
      · exact ((h.each (fun _ _ hu => hu.discard)).setPq).count
  · exact (h.each (fun _ _ hu => hu.discard)).setPq

/-! #### Organisation (R298 to R300, R302) -/

theorem Sound.putSlot (h : Sound o s) {pos : Nat} {e : FdbEntry} : Sound o (s.putSlot pos e) := h.update

theorem Sound.dropSlot (h : Sound o s) {pos : Nat} : Sound o (s.dropSlot pos) := h.update

/-! #### Epochs and drain (R313 to R316) -/

theorem Sound.tableDone (h : Sound o s) {tag : Option CmdTag} {before : List (Nat × Nat)} {epoch : Nat} {notify :
    Bool} :
    Sound o (s.tableDone tag before epoch notify) := by
  unfold State.tableDone
  exact .completeOpt (.ite h.update h)

theorem Sound.advances (h : Sound o s) {n : Nat} : Sound o (advances n s) := by
  induction n generalizing s with
  | zero => exact h
  | succ n ih =>
    rw [Machine.advances]
    split
    · exact h.update
    · exact .ite h.update (ih h.update.tableDone)

theorem Sound.askAdvance (h : Sound o s) {w : EpochWait} : Sound o (s.askAdvance w) := by
  unfold State.askAdvance
  exact h.update.advances

theorem Sound.retire (h : Sound o s) {j epoch : Nat} : Sound o (s.retire j epoch) := by
  unfold State.retire
  exact .ite h h.update

theorem Sound.removeSlot (h : Sound o s) {pos epoch : Nat} : Sound o (s.removeSlot pos epoch) := by
  unfold State.removeSlot
  split
  · exact h.dropSlot.retire
  · exact h.dropSlot

theorem Sound.hwChange (h : Sound o s) : Sound o s.hwChange := h.update

/-! #### Notifications (R309) -/

theorem Sound.fdbNotify (h : Sound o s) {code : Nat} {items : List (Nat × Nat)} : Sound o (s.fdbNotify code items) := by
  unfold State.fdbNotify
  exact .ite h (.ite h.bump h.update.raise)

theorem Sound.fdbFull (h : Sound o s) {mac fid source : Nat} : Sound o (s.fdbFull mac fid source) := by
  unfold State.fdbFull
  exact h.setFld.raiseLim

/-! #### Learning (R306, R307) -/

theorem Sound.askLearn (h : Sound o s) {mac fid port : Nat} : Sound o (s.askLearn mac fid port) := by
  unfold State.askLearn
  exact .ite h.update (.ite h.bump h.update)

theorem Sound.learnLimited (h : Sound o s) {port : Nat} : Sound o (s.learnLimited port) := by
  unfold State.learnLimited
  exact h.bump.raiseLim

theorem Sound.spare (h : Sound o s) {pos : Nat} : Sound o (s.spare pos) := h.update

theorem Sound.learnOne (h : Sound o s) {r : LearnReq} : Sound o (s.learnOne r) := by
  unfold State.learnOne
  refine .ite h.bump ?_
  split
  · exact .ite h (.ite h.putSlot (.ite h.learnLimited h.putSlot.hwChange.fdbNotify))
  · refine .ite h.learnLimited ?_
    split
    · exact h.putSlot.spare.fdbNotify
    · exact h.bump.fdbFull

theorem Sound.learnStep (h : Sound o s) : Sound o s.learnStep := by
  unfold State.learnStep
  split
  · exact h
  · exact .ite h.update.learnOne.update h.update.learnOne

theorem Sound.learnAll (h : Sound o s) {n : Nat} : Sound o (learnAll n s) := by
  induction n generalizing s with
  | zero => exact h
  | succ n ih => exact ih h.learnStep

theorem Sound.engineRun (h : Sound o s) : Sound o s.engineRun := by
  unfold State.engineRun
  exact h.learnAll.each (fun _ _ hu => hu.removeSlot.hwChange)

theorem execLearnCommit_sound (h : Sound o s) : SoundOut o (execLearnCommit s) := by
  unfold execLearnCommit
  exact .next (.ite h h.learnStep)

/-! #### Ageing (R310 to R312) -/

theorem Sound.eccBad (h : Sound o s) {pos : Nat} : Sound o (s.eccBad pos) := by
  unfold State.eccBad
  exact h.bump.update.raiseLim

theorem Sound.ageSlot (h : Sound o s) {pos : Nat} : Sound o (s.ageSlot pos) := by
  unfold State.ageSlot
  split
  · exact h
  · exact .ite h (.ite h.putSlot (.ite h.putSlot h.removeSlot.hwChange.fdbNotify))

theorem execSweeperVisit_sound (h : Sound o s) {ecc : Option EccFault} : SoundOut o (execSweeperVisit ecc s) := by
  unfold execSweeperVisit
  refine .next (.ite h (.update ?_))
  split
  · exact .eccBad (.ite h.update h)
  · exact .ageSlot (.bump (.ite h.update h))
  · exact .ageSlot (.ite h.update h)

/-! #### Epoch events -/

theorem execEpochTick_sound (h : Sound o s) : SoundOut o (execEpochTick s) := by
  unfold execEpochTick
  exact .next (.ite h (.ite (((h.waitClk.update.each (fun _ _ hu => hu.removeSlot.hwChange)).update).askAdvance)
      ((h.waitClk.update.each (fun _ _ hu => hu.removeSlot.hwChange)).advances)))

theorem execChangeDrained_sound (h : Sound o s) : SoundOut o (execChangeDrained s) := by
  unfold execChangeDrained
  exact .next (h.advances.update.each (fun _ _ hu => hu.raise))

theorem execEpochStall_sound (h : Sound o s) : SoundOut o (execEpochStall s) := by
  unfold execEpochStall
  dsimp only
  refine .next ?_
  split
  · exact h
  · refine .ite h.waitClk.advances ?_
    split
    · exact ((h.waitClk.each (fun _ _ hu => hu.discard)).raise).update
    · exact (((((h.waitClk.each (fun _ _ hu => hu.discard)).raise).update).tableDone).pressure).advances

theorem Sound.fdbEpochLatch (h : Sound o s) : Sound o s.fdbEpochLatch := h.update

theorem execFdbEpochRead_sound (h : Sound o s) : SoundOut o (execFdbEpochRead s) := by
  unfold execFdbEpochRead
  exact .next (h.hostRead (fun _ hu => hu.fdbEpochLatch))

/-! #### Commands (R317 to R319) -/

theorem Sound.serveTable (h : Sound o s) {tag : CmdTag} {op : Nat} {body : State → State} (hbody : ∀ u, Sound o u →
    Sound o (body u)) :
    Sound o (s.serveTable tag op body) := by
  unfold State.serveTable
  exact h.serveL0 (fun _ hu => hbody _ hu.engineRun)

theorem execFdbSearch_sound (h : Sound o s) {tag : CmdTag} {mac fid outAddr : Nat} :
    SoundOut o (execFdbSearch tag mac fid outAddr s) := by
  unfold execFdbSearch
  refine .next (h.serveTable (fun _ hu => ?_))
  split
  · exact hu.outData.completeWith
  · exact hu.complete

theorem execFdbNext_sound (h : Sound o s) {tag : CmdTag} {cursor count outAddr : Nat} {filter : FdbFilter} :
    SoundOut o (execFdbNext tag cursor count outAddr filter s) := by
  unfold execFdbNext
  exact .next (h.serveTable (fun _ hu => .ite hu.complete hu.outData.completeWith))

theorem Sound.barrier (h : Sound o s) {b : Barrier} : Sound o (s.barrier b) := h.update

theorem execFdbInsert_sound (h : Sound o s) {tag : CmdTag} {w0 w1 : BitVec 64} {replace notify : Bool} :
    SoundOut o (execFdbInsert tag w0 w1 replace notify s) := by
  unfold execFdbInsert
  refine .next (h.serveTable (fun _ hu => .ite hu.complete (.ite hu.complete ?_)))
  split
  · exact .ite hu.putSlot.spare.retire.tableDone (.ite hu.complete hu.putSlot.retire.barrier.askAdvance)
  · split
    · exact hu.putSlot.tableDone
    · exact hu.fdbFull.complete

theorem execFdbDelete_sound (h : Sound o s) {tag : CmdTag} {mac fid : Nat} {notify : Bool} :
    SoundOut o (execFdbDelete tag mac fid notify s) := by
  unfold execFdbDelete
  refine .next (h.serveTable (fun _ hu => ?_))
  split
  · exact hu.complete
  · exact hu.removeSlot.barrier.askAdvance

theorem Sound.startFlush (h : Sound o s) {dstModule dstPort : Nat} {fid : Option Nat} {staticToo : Bool} {tag : Option
    CmdTag} {notify : Bool} :
    Sound o (s.startFlush dstModule dstPort fid staticToo tag notify) := by
  unfold State.startFlush
  exact .ite h.update.barrier.discardPort.pressure h.update.barrier

theorem execFdbFlushByPort_sound (h : Sound o s) {tag : CmdTag} {dstModule dstPort : Nat} {fid : Option Nat}
    {staticToo notify : Bool} :
    SoundOut o (execFdbFlushByPort tag dstModule dstPort fid staticToo notify s) := by
  unfold execFdbFlushByPort
  exact .next (h.serveTable (fun _ hu => .ite hu.complete (.ite hu.complete hu.startFlush)))

theorem execFlushRemovalDone_sound (h : Sound o s) : SoundOut o (execFlushRemovalDone s) := by
  unfold execFlushRemovalDone
  refine .next ?_
  split
  · exact h
  · exact (h.update.each (fun _ _ hu => hu.removeSlot)).askAdvance

theorem execFidWrite_sound (h : Sound o s) {tag : CmdTag} {fid flags len : Nat} {pairs : Option Bytes} :
    SoundOut o (execFidWrite tag fid flags len pairs s) := by
  unfold execFidWrite
  refine .next (h.serveTable (fun _ hu => .ite hu.complete ?_))
  split
  · exact hu.complete
  · exact .ite hu.complete (.ite hu.complete hu.update.complete)

theorem execFidRead_sound (h : Sound o s) {tag : CmdTag} {fid outAddr : Nat} :
    SoundOut o (execFidRead tag fid outAddr s) := by
  unfold execFidRead
  exact .next (h.serveTable (fun _ hu => .ite hu.complete hu.outData.completeWith))

theorem Sound.reseed (h : Sound o s) : Sound o s.reseed := by
  unfold State.reseed
  refine (h.update.each (fun _ _ hu => ?_)).each (fun _ _ hu => hu.retire)
  split
  · exact hu.putSlot
  · exact hu.fdbFull

/-! #### Mirror copies -/

theorem Sound.mirrorDrop (h : Sound o s) {n cause : Nat} : Sound o (s.mirrorDrop n cause) := by
  unfold State.mirrorDrop
  exact h.count.raiseLim

theorem Sound.mirrorCopy (h : Sound o s) {n : Nat} {info : CopyInfo} {frame : Bytes} {taken : Nat} {bad : Bool} :
    Sound o (s.mirrorCopy n info frame taken bad) := by
  unfold State.mirrorCopy
  refine .ite h ?_
  have hseq : Sound o (s.nextSeq n).2 := h.nextSeq
  generalize s.nextSeq n = x at hseq ⊢
  obtain ⟨seq, s1⟩ := x
  have hcut (c : Prop) [Decidable c] (a b k l : Nat) :
      Sound o (if c then ((s1.count a 1).count b k).count l 1 else (s1.count a 1).count b k) :=
    .ite hseq.count.count.count hseq.count.count
  dsimp only
  refine .ite (.ite (hcut _ _ _ _ _).deliver (hcut _ _ _ _ _).deliver.mirrorDrop) ?_
  split
  · exact (hcut _ _ _ _ _).mirrorDrop
  · exact (hcut _ _ _ _ _).newBuf.enqueue

/-! #### Samplers -/

theorem Sound.sample (h : Sound o s) {p dir : Nat} {info : CopyInfo} {frame : Bytes} {seq : Nat} :
    Sound o (s.sample p dir info frame seq) := by
  unfold State.sample
  extract_lets size s1
  have hs1 : Sound o s1 := h.count
  refine .ite ?_ (.raiseLim (.count ?_))
  · split
    · split
      · exact hs1.setFqRx.ringFault.count
      · exact hs1.hostWrite.hostWrite.hostWrite.hostWrite.setFqRx.coalesce
    · exact hs1.count
  · split
    · split
      · exact hs1.setFqRx.ringFault.count
      · exact hs1.hostWrite.hostWrite.hostWrite.hostWrite.setFqRx.coalesce
    · exact hs1.count

theorem Sound.samplerSet (h : Sound o s) {p : Nat} {tx : Bool} {value : Word} : Sound o (s.samplerSet p tx value) := by
  unfold State.samplerSet
  exact .ite h.setRegWord.setPq h.setRegWord.setPq

theorem execSamplerWrite_sound (h : Sound o s) {port : Nat} {tx : Bool} {value : Word} :
    SoundOut o (execSamplerWrite port tx value s) := by
  unfold execSamplerWrite
  exact .next (h.hostAct (fun _ hu => .ite hu.samplerSet hu))

/-! #### Gate lists -/

theorem Sound.gateTake (h : Sound o s) {p start : Nat} : Sound o (s.gateTake p start) := by
  unfold State.gateTake
  dsimp only
  split
  · exact h
  · exact h.setPq.raise

theorem Sound.gateRealign (h : Sound o s) {amount : Int} : Sound o (s.gateRealign amount) := by
  unfold State.gateRealign
  dsimp only
  refine h.each (fun _ _ hu => ?_)
  split
  · refine .ite (.gateTake ?_) ?_
    · split
      · exact hu.setPq.raise
      · exact hu
    · split
      · exact hu.setPq.raise
      · exact hu
  · split
    · exact hu.setPq.raise
    · exact hu

theorem execPortGateWrite_sound (h : Sound o s) {tag : CmdTag} {port count : Nat} {entries : Option Bytes} {at_ :
    TimeWord} :
    SoundOut o (execPortGateWrite tag port count entries at_ s) := by
  unfold execPortGateWrite
  refine .next (h.serveL0 (fun _ hu => .ite hu.complete (.ite hu.complete ?_)))
  split
  · exact hu.complete
  · exact .ite hu.complete (.ite hu.complete (.ite hu.complete hu.setPq.complete))

theorem execPortGateCancel_sound (h : Sound o s) {tag : CmdTag} {port : Nat} :
    SoundOut o (execPortGateCancel tag port s) := by
  unfold execPortGateCancel
  refine .next (h.serveL0 (fun _ hu => .ite hu.complete ?_))
  split
  · exact hu.complete
  · exact .ite hu.complete hu.setPq.complete

/-! #### Shapers (R353, R354) -/

theorem Sound.setCredit (h : Sound o s) {p n : Nat} {c : Int} {rem : Nat} : Sound o (s.setCredit p n c rem) := by
  unfold State.setCredit
  exact h.setPq

theorem Sound.fillCredit (h : Sound o s) {p n : Nat} : Sound o (s.fillCredit p n) := by
  unfold State.fillCredit
  exact h.setCredit

theorem Sound.chargeShapers (h : Sound o s) {p c len : Nat} : Sound o (s.chargeShapers p c len) := by
  unfold State.chargeShapers
  exact .ite (.ite h h.setCredit) (.setCredit (.ite h h.setCredit))

theorem Sound.setRate (h : Sound o s) {p n : Nat} {value : Word} : Sound o (s.setRate p n value) := by
  unfold State.setRate
  exact .ite h.raise (.ite h.fillCredit.setRegWord.setCredit h.fillCredit.setRegWord)

theorem Sound.setBurst (h : Sound o s) {p n : Nat} {value : Word} : Sound o (s.setBurst p n value) := by
  unfold State.setBurst
  exact .ite h.fillCredit.setRegWord.setCredit h.fillCredit.setRegWord

/-! #### Starting a frame -/

theorem Sound.startFrame (h : Sound o s) {p : Nat} {f : Frame} : Sound o (s.startFrame p f) := by
  unfold State.startFrame
  extract_lets x n
  exact .ite (.mirrorCopy (.ite (.sample (.ite h.setPq.count h.setPq)) (.ite h.setPq.count h.setPq))) (.ite (.sample
      (.ite h.setPq.count h.setPq)) (.ite h.setPq.count h.setPq))

theorem Sound.admitHeld (h : Sound o s) {p : Nat} : Sound o (s.admitHeld p) := by
  unfold State.admitHeld
  split
  · exact .ite h h.update.setPq
  · exact h

theorem Sound.launchLate (h : Sound o s) {p : Nat} {l : Launch} {ns : Nat} : Sound o (s.launchLate p l ns) := by
  unfold State.launchLate
  exact h.count.raiseLim.writeBack

theorem Sound.kickQueue (h : Sound o s) {p : Nat} : Sound o (s.kickQueue p) := by
  unfold State.kickQueue
  split
  · split
    · exact h.setPq.update.chargeShapers.startFrame
    · exact h
  · exact h

theorem Sound.kickPort {p fuel : Nat} (h : Sound o s) : Sound o (kickPort p fuel s) := by
  induction fuel generalizing s with
  | zero => exact h
  | succ fuel ih =>
    rw [Machine.kickPort]
    dsimp only
    split
    · exact h
    · split
      · exact h.setPq.startFrame
      · split
        · exact h
        · split
          · split
            · split
              · exact ih h.setPq.admitHeld.launchLate
              · exact h.setPq.admitHeld.chargeShapers.startFrame
            · exact h.kickQueue
          · exact h.kickQueue

theorem Sound.kick (h : Sound o s) {p : Nat} : Sound o (s.kick p) := by
  unfold State.kick
  exact h.kickPort

theorem Sound.settle (h : Sound o s) : Sound o s.settle := by
  unfold State.settle
  exact ((h.pressure.each (fun _ _ hu => hu.kick)).pressure).each (fun _ _ hu => hu.kick)

/-! #### The end of a transmission -/

theorem Sound.countPair (h : Sound o s) {f : Frame} : Sound o (s.countPair f) := by
  unfold State.countPair
  exact .ite h h.count.count

theorem Sound.drawCell (h : Sound o s) : Sound o (s.drawCell).2 := h.update

theorem Sound.withdrawCell (h : Sound o s) {cell : Nat} : Sound o (s.withdrawCell cell) := by
  unfold State.withdrawCell
  exact .ite h h.update.raise

theorem Sound.countTx (h : Sound o s) {p : Nat} {f : Frame} : Sound o (s.countTx p f) := by
  unfold State.countTx
  split
  · exact h.count
  · exact .ite h.count h.count.count.count.count

theorem Sound.drawSent (h : Sound o s) {len : Nat} : Sound o (s.drawSent len).2 := h.update

theorem Sound.txParity (h : Sound o s) {p : Nat} {f : Frame} {t : TxParity} : Sound o (s.txParity p f t).2 := by
  unfold State.txParity
  exact .ite_snd (.update (.ite h.update.bump.raise.withdrawCell h.update.bump.raise)) (.count (.ite
      h.update.bump.raise.withdrawCell h.update.bump.raise))

theorem Sound.txDone (h : Sound o s) {p : Nat} {parity : Option TxParity} : Sound o (s.txDone p parity) := by
  unfold State.txDone
  dsimp only
  split
  · exact h
  next f0 _ =>
    have hout : Sound o (match parity, f0.buf with
        | some t, _ + 1 => (s.waitClk (s.pq p).sendEnd).txParity p f0 t
        | _, _ => (some f0, s.waitClk (s.pq p).sendEnd)).2 := by
      split
      · exact h.waitClk.txParity
      · exact h.waitClk
    refine .freeBuf ?_
    split
    · exact hout.setPq
    · split
      · exact hout.setPq.emit.countTx.countPair.writeBack
      · exact hout.setPq.emit.countTx.countPair

theorem execFrameTxDone_sound (h : Sound o s) {port : Nat} {parity : Option TxParity} :
    SoundOut o (execFrameTxDone port parity s) := by
  unfold execFrameTxDone
  exact .next (.ite h h.txDone.settle)

theorem execLaunchDue_sound (h : Sound o s) {port : Nat} : SoundOut o (execLaunchDue port s) := by
  unfold execLaunchDue
  refine .next ?_
  split
  · exact h.waitTime.settle
  · exact h

theorem execGateTakeover_sound (h : Sound o s) {port : Nat} : SoundOut o (execGateTakeover port s) := by
  unfold execGateTakeover
  refine .next ?_
  split
  · exact h.waitTime.gateTake.settle
  · exact h

theorem execGateEntryBoundary_sound (h : Sound o s) {port : Nat} : SoundOut o (execGateEntryBoundary port s) := by
  unfold execGateEntryBoundary
  refine .next ?_
  split
  · exact h.waitTime.setPq.settle
  · exact h

theorem execShaperRateWrite_sound (h : Sound o s) {port : Nat} {n : Fin 9} {value : Word} :
    SoundOut o (execShaperRateWrite port n value s) := by
  unfold execShaperRateWrite
  exact .next (h.hostAct (fun _ hu => .ite hu.setRate.settle hu))

theorem execShaperBurstWrite_sound (h : Sound o s) {port : Nat} {n : Fin 9} {value : Word} :
    SoundOut o (execShaperBurstWrite port n value s) := by
  unfold execShaperBurstWrite
  exact .next (h.hostAct (fun _ hu => .ite hu.setBurst.settle hu))

theorem execShaperCreditReachesZero_sound (h : Sound o s) {port : Nat} {n : Fin 9} :
    SoundOut o (execShaperCreditReachesZero port n s) := by
  unfold execShaperCreditReachesZero
  refine .next ?_
  split
  · exact h.waitClk.fillCredit.settle
  · exact h

/-! #### Received and refreshed pauses (R269, R270) -/

theorem Sound.pauseFor (h : Sound o s) {p cls quanta : Nat} : Sound o (s.pauseFor p cls quanta) := by
  unfold State.pauseFor
  exact h.setPort

theorem Sound.macControl (h : Sound o s) {p : Nat} {frame : Bytes} : Sound o (s.macControl p frame) := by
  unfold State.macControl
  split
  · extract_lets s1
    have hs1 : Sound o s1 := h.count
    exact .ite ((hs1.each (fun _ _ hu => hu.pauseFor)).settle) hs1
  · extract_lets s1 cls
    have hs1 : Sound o s1 := h.count
    exact .ite ((hs1.each (fun _ _ hu => hu.pauseFor)).settle) hs1
  · exact h.count

theorem Sound.controlRx (h : Sound o s) {p opcode : Nat} {frame : Bytes} : Sound o (s.controlRx p opcode frame) := by
  unfold State.controlRx
  exact .ite h (.ite h.macControl h.count)

theorem execPauseFrameRx_sound (h : Sound o s) {port : Nat} {frame : Bytes} :
    SoundOut o (execPauseFrameRx port frame s) := by
  unfold execPauseFrameRx
  exact .next h.controlRx

theorem execPfcFrameRx_sound (h : Sound o s) {port : Nat} {frame : Bytes} :
    SoundOut o (execPfcFrameRx port frame s) := by
  unfold execPfcFrameRx
  exact .next h.controlRx

theorem execPauseExpire_sound (h : Sound o s) {port cls : Nat} : SoundOut o (execPauseExpire port cls s) := by
  unfold execPauseExpire
  refine .next ?_
  split
  · exact h.waitClk.pauseFor.settle
  · exact h

theorem execPauseRefresh_sound (h : Sound o s) {port : Nat} : SoundOut o (execPauseRefresh port s) := by
  unfold execPauseRefresh
  exact .next (.ite h h.waitClk.sendPause.settle)

/-! #### The frame's record through the steps of Table 13.1 -/

theorem Sound.rxDrop (h : Sound o s) {x : Rx} {step cause : Nat} : Sound o (s.rxDrop x step cause).2 := by
  unfold State.rxDrop
  exact h.count

theorem Sound.onward {r : Rx × State} (h : Sound o r.2) {f : Rx → State → Rx × State}
    (hf : ∀ x u, Sound o u → Sound o (f x u).2) : Sound o (Machine.onward f r).2 :=
  .ite_snd h (hf _ _ h)

theorem Sound.rxClassify (h : Sound o s) {x : Rx} : Sound o (Machine.rxClassify x s).2 := by
  unfold Machine.rxClassify
  refine .ite_snd ?_ (.ite_snd (.rxDrop ?_) (.ite_snd (.rxDrop ?_) (.rxDrop ?_)))
  · split
    · refine .count (.count ?_)
      split
      · exact h.count
      · exact h
    · split
      · exact h.count
      · exact h
  · split
    · refine .count (.count ?_)
      split
      · exact h.count
      · exact h
    · split
      · exact h.count
      · exact h
  · split
    · refine .count (.count ?_)
      split
      · exact h.count
      · exact h
    · split
      · exact h.count
      · exact h
  · split
    · refine .count (.count ?_)
      split
      · exact h.count
      · exact h
    · split
      · exact h.count
      · exact h

theorem Sound.rxPolice (h : Sound o s) {x : Rx} : Sound o (Machine.rxPolice x s).2 := by
  unfold Machine.rxPolice
  split
  · exact h
  · exact .ite_snd h.setPolicer.count.count.rxDrop h.setPolicer.count.count

theorem Sound.rxLock (h : Sound o s) {x : Rx} : Sound o (Machine.rxLock x s).2 := by
  unfold Machine.rxLock
  exact .ite_snd h.raiseLim.rxDrop h

theorem Sound.rxLearn (h : Sound o s) {x : Rx} : Sound o (Machine.rxLearn x s).2 := by
  unfold Machine.rxLearn
  dsimp only
  split
  · exact .ite_snd h.putSlot (.ite_snd h.count (.ite_snd h.learnLimited.rxDrop h))
  · exact .ite_snd (.ite_snd h.learnLimited.rxDrop h) h

theorem Sound.rxDest (h : Sound o s) {x : Rx} : Sound o (Machine.rxDest x s).2 := by
  unfold Machine.rxDest
  dsimp only
  split
  · exact .ite_snd h.rxDrop (.ite_snd h (.ite_snd h.rxDrop (.ite_snd h h)))
  · exact .ite_snd h (.ite_snd (.ite_snd h h.rxDrop) (.ite_snd h h.rxDrop))

theorem Sound.rxLookup (h : Sound o s) {x : Rx} : Sound o (Machine.rxLookup x s).2 := by
  unfold Machine.rxLookup
  refine .ite_snd h.rxDrop (.ite_snd h.rxDrop (.ite_snd h.rxDrop (.ite_snd h.rxDrop ?_)))
  split
  · exact .ite_snd h.putSlot.rxDrop (h.rxLearn.onward (fun _ _ hu => hu.rxDest))
  · exact h.rxLearn.onward (fun _ _ hu => hu.rxDest)

theorem Sound.setStorm (h : Sound o s) {p k : Nat} {t : Nat × Nat × Option Nat} : Sound o (s.setStorm p k t) := by
  unfold State.setStorm
  exact h.setPort

theorem Sound.rxStorm (h : Sound o s) {x : Rx} : Sound o (Machine.rxStorm x s).2 := by
  unfold Machine.rxStorm
  split
  · exact h
  · exact .ite_snd h (.ite_snd h.setStorm (.rxDrop (.ite h.setStorm.raise h.setStorm)))

theorem Sound.stormWrite (h : Sound o s) {port : Nat} {limiter : Fin 3} {value : Word} :
    Sound o (s.stormWrite port limiter value) := by
  unfold State.stormWrite
  exact .ite h (.ite h.raise h.setRegWord.setStorm)

theorem execStormLimiterWrite_sound (h : Sound o s) {port : Nat} {limiter : Fin 3} {value : Word} :
    SoundOut o (execStormLimiterWrite port limiter value s) := by
  unfold execStormLimiterWrite
  exact .next (h.hostAct (fun _ hu => hu.stormWrite))

theorem Sound.rxClass (h : Sound o s) {x : Rx} : Sound o (Machine.rxClass x s).2 := by
  unfold Machine.rxClass
  exact .ite h.count h

/-! #### Step 9 -/

theorem Sound.rxAdmit {r : Rx × State} (h : Sound o r.2) {d : Nat × Nat} : Sound o (Machine.rxAdmit r d).2 := by
  obtain ⟨x, s⟩ := r
  unfold Machine.rxAdmit
  dsimp only
  refine .ite_snd h.admitDrop (.ite_snd h.count ?_)
  split
  next heq => exact (h.makeRoom.of_snd heq).admitDrop
  next heq =>
    have hroom := h.makeRoom.of_snd heq
    split
    · exact hroom.enqueue.count.count
    · exact hroom.newBuf.enqueue.count.count

theorem Sound.rxQueue (h : Sound o s) {x : Rx} : Sound o (Machine.rxQueue x s).2 := by
  have hfold (l : List (Nat × Nat)) (r : Rx × State) (hr : Sound o r.2) : Sound o (l.foldl Machine.rxAdmit r).2 := by
    induction l generalizing r with
    | nil => exact hr
    | cons d rest ih => exact ih _ hr.rxAdmit
  exact hfold x.dests (x, s) h

/-! #### Cut-through (R339, R340) -/

theorem Sound.stompedData (h : Sound o s) {x : Rx} {e : RxEnd} : Sound o (s.stompedData x e).2 := by
  unfold State.stompedData
  split
  · exact h
  · exact h
  · exact h
  · exact h
  · exact h.update

theorem Sound.parityWrite (h : Sound o s) {stomped : Bool} : Sound o (s.parityWrite stomped) := by
  unfold State.parityWrite
  exact h.update.bump.raise

theorem Sound.cutStart (h : Sound o s) {x : Rx} {f : Frame} {e : RxEnd} : Sound o (s.cutStart x f e) := by
  unfold State.cutStart
  extract_lets s1
  have hs1 : Sound o s1 := .ite h.parityWrite h
  refine .startFrame (.chargeShapers (.update ?_))
  split
  · exact hs1
  · exact hs1
  · exact hs1
  · exact hs1
  · exact hs1.update

theorem Sound.rxForward (h : Sound o s) {e : RxEnd} {x : Rx} : Sound o (Machine.rxForward e x s).2 := by
  unfold Machine.rxForward
  split
  · exact .ite h.cutStart h.cutStart.count
  · split
    · exact h
    · exact ((h.each (fun _ _ hu => hu.unqueue)).parityWrite).count
    · exact (h.each (fun _ _ hu => hu.unqueue)).count

/-! #### Copies (R282, R369, R372) -/

theorem Sound.rxHost (h : Sound o s) {x : Rx} : Sound o (Machine.rxHost x s) := by
  unfold Machine.rxHost
  extract_lets s1 s2
  have hs1 : Sound o s1 := by
    unfold s1
    split
    · exact h.hostCopy
    · exact h
  have hs2 : Sound o s2 := by
    unfold s2
    split
    · exact hs1.hostCopy
    · exact hs1
  split
  · exact .ite (.ite (.ite hs2.hostCopy.count hs2.hostCopy.count.count.count) hs2.hostCopy) hs2
  · exact hs2

theorem Sound.rxMirror (h : Sound o s) {e : RxEnd} {x : Rx} : Sound o (Machine.rxMirror e x s) := by
  unfold Machine.rxMirror
  extract_lets bad s1 s2
  have hs1 : Sound o s1 := by
    unfold s1
    split
    · exact h.mirrorCopy
    · exact h
  have hs2 : Sound o s2 := .ite hs1.mirrorCopy hs1
  exact .ite hs2.mirrorCopy hs2

/-! #### The whole -/

theorem Sound.fecCounts (h : Sound o s) {p : Nat} {u : RxFault} : Sound o (s.fecCounts p u) := by
  unfold State.fecCounts
  exact h.count.count.count

theorem Sound.rxCount (h : Sound o s) {p : Nat} {frame : Bytes} : Sound o (s.rxCount p frame) := by
  unfold State.rxCount
  exact .ite h.count.count.count (.ite h.count.count.count h.count.count)

theorem Sound.rxSampler (h : Sound o s) {p : Nat} {candidate : Bool} : Sound o (s.rxSampler p candidate).2 := by
  unfold State.rxSampler
  exact .ite h.setPq.count h.setPq

theorem Sound.rxCourse (h : Sound o s) {x : Rx} : Sound o (Machine.rxCourse x s).2 :=
  (((((h.rxClassify (x := x)).onward fun _ _ hu => hu.rxPolice).onward fun _ _ hu => hu.rxLock).onward fun _ _ hu =>
    hu.rxLookup).onward fun _ _ hu => hu.rxStorm).onward (fun _ _ hu => hu.rxClass) |>.onward fun _ _ hu => hu.rxQueue

theorem Sound.rxAfter {u : Rx × State} (h : Sound o u.2) {e : RxEnd} {p : Nat} : Sound o (Machine.rxAfter u e p).2 :=
  .rxMirror (.rxHost (.ite h.askLearn h))

theorem Sound.rxFrameIn (h : Sound o s) {p : Nat} {frame : Bytes} {e : RxEnd} : Sound o (s.rxFrameIn p frame e).2 := by
  unfold State.rxFrameIn
  exact h.rxCourse.rxForward.rxAfter

theorem execMemberFrameRx_sound (h : Sound o s) {port : Nat} {frame : Bytes} {upset : RxFault} :
    SoundOut o (execMemberFrameRx port frame upset s) := by
  unfold execMemberFrameRx
  exact .next (.ite h (.ite (.ite h.fecCounts.rxSampler.macControl h.fecCounts.rxSampler.count) (.ite (.count (.ite
      (.ite (.rxCount (.ite h.fecCounts.setPq.count h.fecCounts.setPq)) (.ite h.fecCounts.setPq.count
      h.fecCounts.setPq)) (.count (.ite (.rxCount (.ite h.fecCounts.setPq.count h.fecCounts.setPq)) (.ite
      h.fecCounts.setPq.count h.fecCounts.setPq))))) (.settle (.ite (.sample (.rxMirror (.rxHost (.ite (.askLearn
      (.rxForward (.rxCourse (.ite (.rxCount (.ite h.fecCounts.setPq.count h.fecCounts.setPq)) (.ite
      h.fecCounts.setPq.count h.fecCounts.setPq))))) (.rxForward (.rxCourse (.ite (.rxCount (.ite
      h.fecCounts.setPq.count h.fecCounts.setPq)) (.ite h.fecCounts.setPq.count h.fecCounts.setPq)))))))) (.rxMirror
      (.rxHost (.ite (.askLearn (.rxForward (.rxCourse (.ite (.rxCount (.ite h.fecCounts.setPq.count
      h.fecCounts.setPq)) (.ite h.fecCounts.setPq.count h.fecCounts.setPq))))) (.rxForward (.rxCourse (.ite (.rxCount
      (.ite h.fecCounts.setPq.count h.fecCounts.setPq)) (.ite h.fecCounts.setPq.count h.fecCounts.setPq))))))))))))

/-! #### The host's side of the frame DMA queues (R447 to R449) -/

theorem execFqRxDoorbell_sound (h : Sound o s) {q : Fin 8} {value : Word} {descs : List Descriptor} :
    SoundOut o (execFqRxDoorbell q value descs s) := by
  unfold execFqRxDoorbell
  refine .next (h.hostAct (fun _ hu => ?_))
  split
  · exact hu.setFqRx
  · exact hu.doorbellBad

theorem execFqTxDoorbell_sound (h : Sound o s) {q : Fin 8} {value : Word} {descs : List Descriptor} :
    SoundOut o (execFqTxDoorbell q value descs s) := by
  unfold execFqTxDoorbell
  refine .next (h.hostAct (fun _ hu => ?_))
  split
  · exact hu.setFqTx
  · exact hu.doorbellBad

theorem Sound.launchIn (h : Sound o s) {p q : Nat} {l : Launch} : Sound o (s.launchIn p q l) := by
  unfold State.launchIn
  split
  · exact h.launchLate
  · exact h.update.admitHeld

theorem Sound.txDescriptor (h : Sound o s) {q addr : Nat} {raw : Bytes} {frame : Option Bytes} :
    Sound o (s.txDescriptor q addr raw frame) := by
  unfold State.txDescriptor
  refine .ite h.writeBack ?_
  split
  · exact h.writeBack
  · exact .ite h.count.writeBack h.launchIn.settle

theorem execTxDescriptor_sound (h : Sound o s) {q : Fin 8} {frame : Option Bytes} :
    SoundOut o (execTxDescriptor q frame s) := by
  unfold execTxDescriptor
  dsimp only
  refine .next ?_
  split
  · split
    · exact h.setFqTx.ringFault
    · exact h.setFqTx.txDescriptor
  · exact h

/-! #### Records and floods -/

theorem Sound.setIklPort (h : Sound o s) {n : Nat} {p : IklPort} : Sound o (s.setIklPort n p) := h.update

theorem Sound.sendIkl (h : Sound o s) {n type : Nat} {body : Bytes} : Sound o (s.sendIkl n type body) := by
  unfold State.sendIkl
  exact .ite h h.setIklPort.emit.count

theorem Sound.flood (h : Sound o s) {type except : Nat} {body : Bytes} : Sound o (s.flood type except body) := by
  unfold State.flood
  exact h.each (fun _ _ hu => hu.sendIkl)

theorem Sound.floodConj (h : Sound o s) {except : Nat} {body : Bytes} : Sound o (s.floodConj except body) := by
  unfold State.floodConj
  exact h.flood.update

theorem Sound.meetConj (h : Sound o s) {m : ConjMsg} : Sound o (s.meetConj m) := h.update

theorem Sound.sendConj (h : Sound o s) {m : ConjMsg} : Sound o (s.sendConj m) := by
  unfold State.sendConj
  exact h.meetConj.floodConj

/-! #### Pending SET_MODE and pending Orbit (R39, R152, R153) -/

theorem Sound.endPendingMode (h : Sound o s) {status : Nat} : Sound o (s.endPendingMode status) := by
  unfold State.endPendingMode
  split
  · exact h.update.completeOpt
  · exact h

theorem Sound.abortTakeoverWait (h : Sound o s) : Sound o s.abortTakeoverWait := by
  unfold State.abortTakeoverWait
  split
  · exact .ite h.endPendingMode h
  · exact h

theorem Sound.disarm (h : Sound o s) : Sound o s.disarm := h.update

theorem Sound.emptyPending (h : Sound o s) : Sound o s.emptyPending := by
  unfold State.emptyPending
  exact h.update.abortTakeoverWait

/-! #### The end of a conjunction -/

theorem Sound.memberEnd (h : Sound o s) {last reason by_ : Nat} : Sound o (s.memberEnd last reason by_) := by
  unfold State.memberEnd
  exact h.update.disarm.abortTakeoverWait

theorem Sound.closeProposal (h : Sound o s) {status : Nat} {detail : List (Nat × Nat)} :
    Sound o (s.closeProposal status detail) := by
  unfold State.closeProposal
  split
  · exact h.update.complete
  · exact h

theorem Sound.abortConj (h : Sound o s) {reason by_ : Nat} : Sound o (s.abortConj reason by_) := by
  unfold State.abortConj
  split
  · exact h
  · exact .closeProposal (.raise (.ite h.sendConj.count.memberEnd h.sendConj.count.update))

theorem Sound.leaveConj (h : Sound o s) : Sound o s.leaveConj := by
  unfold State.leaveConj
  dsimp only
  split
  · exact h
  · refine .ite h.update ?_
    split
    · exact .ite h.update.sendConj.abortConj h.update.sendConj
    · exact h.update.sendConj

/-! #### The filters of the external inputs (R511, R512) -/

theorem Sound.setFilter (h : Sound o s) {n : Nat} {f : Filter} : Sound o (s.setFilter n f) := h.update

theorem Sound.edge (h : Sound o s) {n : Nat} {active : Bool} {held : Nat} : Sound o (s.edge n active held).2 := by
  unfold State.edge
  exact .ite_snd h (.ite_snd h.setFilter (.ite_snd h.setFilter h.setFilter))

/-! #### Outputs, stops and faults -/

/-- Outputs may be driven anew on the way to a state that obeys R500. -/
theorem Ordered.driveLasers (h : Ordered o s) {new : Nat} : Ordered o (s.driveLasers new) := h

theorem Sound.endLaserSet (h : Sound o s) {status : Nat} : Sound o (s.endLaserSet status) := by
  unfold State.endLaserSet
  split
  · exact h.update.complete
  · exact h

theorem Ordered.safStop (h : Ordered o s) {cause status : Nat} : Sound o (s.safStop cause status) := by
  unfold State.safStop
  split
  next hoff => exact (h.dark hoff.1 hoff.2).endLaserSet
  next => exact (Ordered.dark (o := o) (s := { s.driveLasers 0 with saf := { (s.driveLasers 0).saf with request := 0 }
      })
      h rfl rfl).endLaserSet.raiseLim

theorem Sound.safStop (h : Sound o s) {cause status : Nat} : Sound o (s.safStop cause status) := h.ordered.safStop

theorem Sound.safFault (h : Sound o s) {code loc : Nat} : Sound o (s.safFault code loc) :=
  (Ordered.dark (o := o) (s := { s.driveLasers 0 with
    saf := { (s.driveLasers 0).saf with request := 0 }
    ret := { s.ret with
      lockout := true, tested := false, faultCode := code, faultWhere := loc, faults := min (s.ret.faults + 1) 65535 }
          })
    h.ordered rfl rfl).endLaserSet.raise

theorem clearBits_and_self (a b : Nat) : clearBits (a &&& b) b = 0 := by
  rw [clearBits, Nat.and_assoc, Nat.and_self, Nat.sub_self]

/-- The recheck leaves on what is requested, wired and permitted: R500 whatever stood before. -/
theorem Ordered.lasersRecheck (h : Ordered o s) : Sound o s.lasersRecheck := by
  refine ⟨h, fun _ => ?_⟩
  show _ = _ ∧ clearBits (if s.lasersMay then s.saf.request &&& s.saf.wired else 0) s.saf.wired = 0 ∧
    ((if s.lasersMay then s.saf.request &&& s.saf.wired else 0) ≠ 0 → _)
  split
  next hmay =>
    simp only [State.lasersMay, Bool.and_eq_true, Bool.not_eq_true', beq_iff_eq, decide_eq_true_eq] at hmay
    obtain ⟨⟨⟨hlock, htested⟩, hguard⟩, hmode⟩ := hmay
    exact ⟨rfl, clearBits_and_self _ _, fun _ => ⟨hlock, htested, hguard, hmode⟩⟩
  next => exact ⟨rfl, Nat.zero_sub _, fun hne => absurd rfl hne⟩

theorem Sound.lasersRecheck (h : Ordered o s) : Sound o s.lasersRecheck := h.lasersRecheck

theorem Sound.easelLasers (h : Sound o s) {groups : Nat} : Sound o (s.easelLasers groups) := by
  unfold State.easelLasers
  split
  next hmay =>
    obtain ⟨hmode, hlock, htested, hguard⟩ := hmay
    refine ⟨h.1, fun _ => ⟨rfl, clearBits_and_self _ _, fun _ => ⟨hlock, htested, hguard, ?_⟩⟩⟩
    show 2 ≤ s.mode.mode.code
    rw [hmode]; decide
  next => exact h

/-- SAF_LASER_SET drives groups that are wired, in a mode of the host, with the lockout clear, tested and the guard CLOSED
(R500, R501). -/
theorem Sound.setGroups (h : Sound o s) {groups : Nat} (hmode : ¬s.lasersPermitted = false)
    (hwired : ¬clearBits groups s.saf.wired ≠ 0) (hlock : ¬s.ret.lockout = true) (htested : ¬s.ret.tested = false)
    (hguard : ¬s.saf.guard ≠ .closed) :
    Sound o { s.driveLasers groups with saf := { (s.driveLasers groups).saf with request := groups } } := by
  have hcode : 3 ≤ s.mode.mode.code := by simpa [State.lasersPermitted] using hmode
  exact ⟨h.1, fun _ => ⟨rfl, not_not.mp hwired, fun _ =>
    ⟨Bool.eq_false_of_not_eq_true hlock, Bool.eq_true_of_not_eq_false htested, not_not.mp hguard, by
      show 2 ≤ s.mode.mode.code; omega⟩⟩⟩

theorem execSafLaserSet_sound (h : Sound o s) {tag : CmdTag} {groups : Nat} :
    SoundOut o (execSafLaserSet tag groups s) := by
  unfold execSafLaserSet
  refine .next (h.serve fun u hu => ?_)
  dsimp only
  split
  · exact hu.complete
  split
  · exact hu.complete
  next hmode =>
  split
  · exact hu.complete
  next hwired =>
  split
  · exact hu.complete
  next hlock =>
  split
  · exact hu.complete
  next htested =>
  split
  · exact hu.complete
  next hguard =>
  have hset := hu.setGroups hmode hwired hlock htested hguard
  exact .ite hu.complete (.ite hset.complete hset.update)

/-! #### The guard (R503 to R505) -/

/-- The guard that leaves CLOSED stops the lasers; one that was not CLOSED had none on (R502, R503). -/
theorem Sound.guardLeft (h : Sound o s) {new : Guard} {seen : Bool} {run : Nat} :
    Sound o (if s.saf.guard = .closed ∧ new ≠ .closed then
      ({ s with saf := { s.saf with guard := new, openSeen := seen, run := run } }).safStop 0 St.guardOpen
      else { s with saf := { s.saf with guard := new, openSeen := seen, run := run } }) := by
  split
  · exact (h.ordered.update : Ordered o { s with saf := { s.saf with guard := new, openSeen := seen, run := run }
      }).safStop
  next hstays =>
    by_cases hold : s.saf.guard = .closed
    · have hnew : new = s.saf.guard := by
        rw [hold]; exact not_not.mp fun hne => hstays ⟨hold, hne⟩
      exact h.update rfl rfl (by rw [hnew])
    · exact h.updateDark fun hsafe => by_contra fun hon => hold (hsafe.2.2 hon).2.2.1

/-- The tested flag is set with every laser off: it was clear (R505). -/
theorem Sound.testPassed (h : Sound o s) (htested : s.ret.tested = false) :
    Sound o { s with ret := { s.ret with tested := true } } :=
  h.updateDark fun hsafe => by_contra fun hon => Bool.false_ne_true (htested.symm.trans (hsafe.2.2 hon).2.1)

theorem Sound.guardUpdate (h : Sound o s) : Sound o s.guardUpdate := by
  have hleft := h.guardLeft (new := s.guardNow) (seen := s.saf.openSeen || s.openAccepted)
    (run := if s.guardNow = .disagree ∧ s.saf.guard = .disagree then s.saf.run else 0)
  unfold State.guardUpdate
  dsimp only
  generalize (if s.saf.guard = .closed ∧ s.guardNow ≠ .closed then _ else _) = u at hleft ⊢
  refine .ite ?_ hleft
  have hseen : Sound o { u with saf := { u.saf with openSeen := false } } := hleft.update
  split
  next hpassed => exact (hseen.testPassed hpassed.2).raise
  next => exact hseen

theorem execGuardChange_sound (h : Sound o s) {chanB closed : Bool} {held : Nat} :
    SoundOut o (execGuardChange chanB closed held s) := by
  unfold execGuardChange
  dsimp only
  refine .next (.ite h ?_)
  split
  · exact h.edge.of_snd ‹_›
  · exact (h.edge.of_snd ‹_›).guardUpdate
  · exact ((h.edge.of_snd ‹_›).safFault).guardUpdate

theorem execDiscrepancyFault_sound (h : Sound o s) : SoundOut o (execDiscrepancyFault s) := by
  unfold execDiscrepancyFault
  exact .next (.ite h.safFault.update h)

theorem execSafetySample_sound (h : Sound o s) {readback : Nat} : SoundOut o (execSafetySample readback s) := by
  unfold execSafetySample
  exact .next (.ite h (h.waitClk.update.each (fun _ _ hu => hu.safFault)))

/-! #### Contactor feedback (R506) -/

theorem Sound.laserSetDone (h : Sound o s) : Sound o s.laserSetDone := by
  unfold State.laserSetDone
  split
  · exact .ite h.endLaserSet h
  · exact h

theorem Sound.closeFollow (h : Sound o s) {g : Nat} : Sound o (s.closeFollow g) := h.update

theorem Sound.fbChange (h : Sound o s) {g : Nat} {contactsOpen : Bool} : Sound o (s.fbChange g contactsOpen) := by
  unfold State.fbChange
  split
  · exact .ite h.closeFollow.safFault.safFault (.ite h.closeFollow.laserSetDone h)
  · exact h.safFault

theorem execLsrFbChange_sound (h : Sound o s) {group : Fin 4} {contactsOpen : Bool} {held : Nat} :
    SoundOut o (execLsrFbChange group contactsOpen held s) := by
  unfold execLsrFbChange
  refine .next (.ite h ?_)
  split
  · exact h.edge.of_snd ‹_›
  · exact .ite ((h.edge.of_snd ‹_›).fbChange) (h.edge.of_snd ‹_›)
  · exact .ite ((h.edge.of_snd ‹_›).safFault) (h.edge.of_snd ‹_›)

theorem execFbLate_sound (h : Sound o s) {group : Fin 4} : SoundOut o (execFbLate group s) := by
  unfold execFbLate
  refine .next ?_
  split
  · exact h.waitClk.closeFollow.safFault
  · exact h

/-! #### The reset button (R508, R509) -/

theorem Sound.resetFaultNow (h : Sound o s) : Sound o s.resetFaultNow := by
  unfold State.resetFaultNow
  exact h.setFilter.update.safFault

theorem execSafResetPress_sound (h : Sound o s) {held : Nat} : SoundOut o (execSafResetPress held s) := by
  unfold execSafResetPress
  refine .next (.ite h ?_)
  split
  · exact h.edge.of_snd ‹_›
  · exact (h.edge.of_snd ‹_›).update
  · exact (h.edge.of_snd ‹_›).resetFaultNow

/-- The lockout is cleared with every laser off: it was set (R508). -/
theorem Sound.resetRelease (h : Sound o s) {dur : Nat} : Sound o (s.resetRelease dur) := by
  unfold State.resetRelease
  split
  · exact h
  next hlock =>
    refine .ite h.raiseLim ?_
    split
    · exact h.raiseLim
    · exact (h.updateDark fun hsafe => by_contra fun hon => hlock (hsafe.2.2 hon).1).raise

theorem execSafResetRelease_sound (h : Sound o s) {held : Nat} : SoundOut o (execSafResetRelease held s) := by
  unfold execSafResetRelease
  refine .next (.ite h ?_)
  split
  · exact h.edge.of_snd ‹_›
  · exact (h.edge.of_snd ‹_›).resetFaultNow
  · split
    · exact h.edge.of_snd ‹_›
    · exact .ite (((h.edge.of_snd ‹_›).update).resetFaultNow) (((h.edge.of_snd ‹_›).update).resetRelease)

theorem execResetFault_sound (h : Sound o s) : SoundOut o (execResetFault s) := by
  unfold execResetFault
  refine .next ?_
  split
  · exact h.waitClk.resetFaultNow
  · exact h

/-! #### Configuration (R512, R513, R555, R556) -/

theorem Sound.safCfgWrite (h : Sound o s) {addr : Nat} {value : Word} : Sound o (s.safCfgWrite addr value) := by
  unfold State.safCfgWrite
  exact .ite (.ite h.raise h) (.ite (.ite h.raise h.ordered.update.lasersRecheck) (.ite h.update h.raise))

theorem execSafCfgWrite_sound (h : Sound o s) {addr : Nat} {value : Word} :
    SoundOut o (execSafCfgWrite addr value s) := by
  unfold execSafCfgWrite
  exact .next (h.hostAct (fun _ hu => .ite hu.safCfgWrite hu))

theorem Sound.loadSafety (h : Sound o s) {sec : Bytes} : Sound o (s.loadSafety sec) := by
  unfold State.loadSafety
  exact h.ordered.update.lasersRecheck

theorem Sound.safetyStartup (h : Sound o s) : Sound o s.safetyStartup := by
  unfold State.safetyStartup
  exact h.each (fun _ _ hu => .ite hu hu.safFault)

/-! #### Coefficients (Table 8.3) and exchange words (Table 9.2) -/

theorem Sound.xchSet (h : Sound o s) {c w : Nat} {v : Word} : Sound o (s.xchSet c w v) := by
  unfold State.xchSet
  exact h.setDm

theorem Sound.setCellState (h : Sound o s) {c : Nat} {x : CellLoop} {st : LoopState} :
    Sound o (s.setCellState c x st) := by
  unfold State.setCellState
  exact h.setCell.xchSet

/-! #### States (R169, R170) -/

theorem Sound.refreshCell (h : Sound o s) {c : Nat} : Sound o (s.refreshCell c) := by
  unfold State.refreshCell
  split
  · exact .ite h h.setCellState
  · exact .ite h.setCellState h

theorem Sound.enterSuspect (h : Sound o s) {c : Nat} {x : CellLoop} {reason : Nat} :
    Sound o (s.enterSuspect c x reason) := by
  unfold State.enterSuspect
  exact h.setCellState.raiseLoop

theorem Sound.releaseCell (h : Sound o s) {c how : Nat} : Sound o (s.releaseCell c how) := by
  unfold State.releaseCell
  exact h.setCell.refreshCell.raiseLoop

theorem Sound.judgeCell (h : Sound o s) {c result : Nat} : Sound o (s.judgeCell c result) := by
  unfold State.judgeCell
  dsimp only
  split
  · exact .ite h.setCellState (.ite (.ite h.setCellState.releaseCell h.setCellState) h.setCellState)
  · exact h.setCellState
  · exact .ite h.enterSuspect (.ite h.enterSuspect h.setCellState)

/-! #### The model's judgement of a period (R172, R175, R176) -/

theorem Sound.summCell (h : Sound o s) {c : Nat} : Sound o (s.summCell c) := by
  unfold State.summCell
  exact h.setCell.xchSet

/-! #### The control law (R180 to R184) -/

theorem Sound.controlCell (h : Sound o s) {c : Nat} : Sound o (s.controlCell c) := by
  unfold State.controlCell
  exact h.xchSet.xchSet.xchSet.xchSet.xchSet.setCell

theorem Sound.standardCell (h : Sound o s) {c : Nat} : Sound o (s.standardCell c) := by
  unfold State.standardCell
  exact .ite h.setCell.xchSet.xchSet.judgeCell.setCell.setCell h.setCell.xchSet.xchSet.judgeCell.setCell.controlCell

/-! #### Acceptance (R251, R264) -/

theorem Sound.calReject (h : Sound o s) {q : CalQ} {item : Nat} {a b inForce : Int} :
    Sound o (s.calReject q item a b inForce) := by
  unfold State.calReject
  exact .ite h.bump.bump h.bump.raiseLim

/-! #### Offsets (R253) -/

theorem Sound.setOfs (h : Sound o s) {ch : Nat} {w : OfsWindow} : Sound o (s.setOfs ch w) := h.update

theorem Sound.ofsPair (h : Sound o s) {ch : Nat} {w : OfsWindow} {a b : Int} : Sound o (s.ofsPair ch w a b) := by
  unfold State.ofsPair
  exact .ite h.setOfs (.ite h.setOfs.update h.setOfs.calReject)

theorem Sound.ofsSample (h : Sound o s) {ch raw : Nat} : Sound o (s.ofsSample ch raw) := by
  unfold State.ofsSample
  dsimp only
  refine .ite h (.ite h.setOfs ?_)
  split
  · exact h.setOfs
  · exact h.ofsPair

theorem Sound.voidWindows (h : Sound o s) : Sound o s.voidWindows := h.update

/-! #### Live BIAS_CAL (R254) -/

theorem Sound.biasWindow (h : Sound o s) {c : Nat} : Sound o (s.biasWindow c) := by
  unfold State.biasWindow
  dsimp only
  split
  · refine .ite (.ite h.update ?_) h.update
    split
    · exact h.update
    · exact .ite h.update (.ite h.update.update h.update.calReject)
  · exact h.update

/-! #### Extinction ratio (R260) -/

theorem Sound.erPeriod (h : Sound o s) {c : Nat} : Sound o (s.erPeriod c) := by
  unfold State.erPeriod
  dsimp only
  refine .ite h ?_
  split
  · exact h.update
  · exact h

/-! #### Zones (R249, R250) -/

theorem Sound.zonePublish (h : Sound o s) {z : Nat} {t : Int} : Sound o (s.zonePublish z t) := by
  unfold State.zonePublish
  exact .ite h.update.raise (.ite h.update.raise h.update)

theorem Sound.calBoundary (h : Sound o s) : Sound o s.calBoundary := h.update

/-! #### Far ports (R117, R118) -/

theorem Sound.putFar (h : Sound o s) {key : Nat} {m : FarMon} : Sound o (s.putFar key m) := h.update

theorem Sound.losStep (h : Sound o s) {p : Nat} {m : FarMon} {peak : Int} : Sound o (s.losStep p m peak) := by
  unfold State.losStep
  exact .ite h.putFar (.ite h.putFar h.putFar.raise)

theorem Sound.ovpStep (h : Sound o s) {p : Nat} {out : Bool} {peak : Int} : Sound o (s.ovpStep p out peak) := by
  unfold State.ovpStep
  exact .ite h.putFar (.ite h.putFar.raiseLim h.putFar)

theorem Sound.farPeriod (h : Sound o s) {p : Nat} {out : Bool} : Sound o (s.farPeriod p out) := by
  unfold State.farPeriod
  dsimp only
  split
  · exact h.putFar
  · exact .ovpStep (.ite h.putFar h.putFar.losStep)

theorem Sound.farPeriods (h : Sound o s) : Sound o s.farPeriods := by
  unfold State.farPeriods
  exact h.foldl (fun _ _ hu => hu.farPeriod.farPeriod)

theorem Sound.putPathIn (h : Sound o s) : Sound o s.putPathIn := by
  unfold State.putPathIn
  exact h.foldl (fun _ _ hu => hu.foldl (fun _ _ hu1 => hu1.setDm))

theorem Sound.standardPath (h : Sound o s) {out : Nat} : Sound o (s.standardPath out) := by
  unfold State.standardPath
  exact h.setDm.pathOut

/-! #### Coefficients (R187, R189) -/

theorem Sound.coefWrite (h : Sound o s) {cell w : Nat} {v : Word} : Sound o (s.coefWrite cell w v) := h.update

theorem Sound.coefCommit (h : Sound o s) {cell : Nat} : Sound o (s.coefCommit cell) := by
  unfold State.coefCommit
  exact .ite h.update h.update.raiseLoop

theorem execCoefWindowWrite_sound (h : Sound o s) {cell word : Nat} {value : Word} :
    SoundOut o (execCoefWindowWrite cell word value s) := by
  unfold execCoefWindowWrite
  exact .next (h.hostAct (fun _ hu => .ite hu (.ite hu.coefCommit hu.coefWrite)))

theorem execCoefCommit_sound (h : Sound o s) {cell : Nat} : SoundOut o (execCoefCommit cell s) := by
  unfold execCoefCommit
  exact .next (h.hostAct (fun _ hu => .ite hu hu.coefCommit))

theorem Sound.coefToDm (h : Sound o s) {c : Nat} {ws : List Word} : Sound o (s.coefToDm c ws) := by
  unfold State.coefToDm
  exact h.foldl (fun _ _ hu => hu.setDm)

theorem Sound.takeCoef (h : Sound o s) {c : Nat} {ws : List Word} : Sound o (s.takeCoef c ws) := by
  unfold State.takeCoef
  exact ((h.update.foldl (fun _ _ hu => hu.xchSet)).coefToDm).refreshCell

theorem Sound.takeCoefs (h : Sound o s) : Sound o s.takeCoefs := by
  unfold State.takeCoefs
  exact (h.foldl (fun _ _ hu => hu.takeCoef)).update

/-! #### Cell commands (Table 8.7) -/

theorem Sound.resetCell (h : Sound o s) {c : Nat} : Sound o (s.resetCell c) := by
  unfold State.resetCell
  dsimp only
  split
  · exact h
  · exact h
  · split
    · exact h.xchSet.xchSet.setCell.setCellState
    · exact h.xchSet.xchSet.setCell.setCellState

theorem Sound.cellAction (h : Sound o s) {action c : Nat} : Sound o (s.cellAction action c) := by
  unfold State.cellAction
  split
  · exact .ite h.releaseCell h
  · exact h.resetCell
  · exact h.setCell.refreshCell
  · exact h.setCell.refreshCell
  · exact h

theorem Sound.runLoopCmd (h : Sound o s) : Sound o s.runLoopCmd := by
  unfold State.runLoopCmd
  split
  · exact (h.foldl (fun _ _ hu => hu.cellAction)).update
  · exact h

theorem Sound.loopCmd (h : Sound o s) {cell action : Nat} {all : Bool} : Sound o (s.loopCmd cell action all) := by
  unfold State.loopCmd
  exact .ite h.raiseLoop h.setFld.setFld.setFld.update

theorem execLoopCmdRelease_sound (h : Sound o s) {cell : Nat} {all : Bool} :
    SoundOut o (execLoopCmdRelease cell all s) := by
  unfold execLoopCmdRelease
  exact .next (h.hostAct (fun _ hu => hu.loopCmd))

theorem execLoopCmdReset_sound (h : Sound o s) {cell : Nat} {all : Bool} :
    SoundOut o (execLoopCmdReset cell all s) := by
  unfold execLoopCmdReset
  exact .next (h.hostAct (fun _ hu => hu.loopCmd))

theorem execLoopCmdDisable_sound (h : Sound o s) {cell : Nat} {all : Bool} :
    SoundOut o (execLoopCmdDisable cell all s) := by
  unfold execLoopCmdDisable
  exact .next (h.hostAct (fun _ hu => hu.loopCmd))

theorem execLoopCmdEnable_sound (h : Sound o s) {cell : Nat} {all : Bool} :
    SoundOut o (execLoopCmdEnable cell all s) := by
  unfold execLoopCmdEnable
  exact .next (h.hostAct (fun _ hu => hu.loopCmd))

/-! #### End-of-period work (R167) -/

theorem Sound.frameworkWords (h : Sound o s) {c : Nat} : Sound o (s.frameworkWords c) := by
  unfold State.frameworkWords
  exact h.refreshCell.summCell.xchSet.xchSet.xchSet.xchSet.xchSet.xchSet.xchSet

theorem Sound.publishPaths (h : Sound o s) : Sound o s.publishPaths := by
  unfold State.publishPaths
  exact h.putPathIn.update

theorem Sound.awaitPaths (h : Sound o s) : Sound o s.awaitPaths := h.update

theorem Sound.sampledWork (h : Sound o s) {standard : Nat} : Sound o (s.sampledWork standard) := by
  unfold State.sampledWork
  extract_lets s1 s2 s4 s5 s6
  have hs1 : Sound o s1 := h.farPeriods.takeCoefs.runLoopCmd
  have hs2 : Sound o s2 := hs1.foldl (fun _ _ hu => hu.frameworkWords)
  have hs4 : Sound o s4 := hs2.publishPaths.awaitPaths
  have hs5 : Sound o s5 := hs4.foldl (fun _ _ hu => hu.standardCell)
  have hs6 : Sound o s6 := hs5.foldl (fun _ _ hu => hu.standardPath)
  exact hs6.foldl (fun _ _ hu => hu.biasWindow.erPeriod)

theorem Sound.endOfPeriod (h : Sound o s) {standard : Nat} : Sound o (s.endOfPeriod standard) := by
  unfold State.endOfPeriod
  exact .ite h (.update (.ite h.waitClk.sampledWork h.waitClk.farPeriods.takeCoefs.runLoopCmd))

theorem execEndOfPeriodWork_sound (h : Sound o s) {standard : Nat} : SoundOut o (execEndOfPeriodWork standard s) := by
  unfold execEndOfPeriodWork
  exact .next h.endOfPeriod

/-! #### CSTEP (R215) -/

theorem Sound.cstep (h : Sound o s) {n : Fin 64} {ra : Word} : Sound o (s.cstep n ra).2 := by
  unfold State.cstep
  split
  · exact h
  · exact .ite_snd h h.setCell.judgeCell.setCell

theorem execCstep_sound (h : Sound o s) {c : CoreRef} {d a : Fin 16} : SoundOut o (execCstep c d a s) := by
  unfold execCstep
  refine .next (h.issue (fun _ => ?_))
  split
  · refine .go ?_
    split
    · exact h
    · exact .ite_snd h h.setCell.judgeCell.setCell
  · exact .trap

/-! #### Output deadline (R168) -/

theorem Sound.takeCell (h : Sound o s) {c : Nat} : Sound o (s.takeCell c) := by
  unfold State.takeCell
  exact h.setCell

theorem Sound.overrun (h : Sound o s) {lane cells : Nat} : Sound o (s.overrun lane cells) := by
  unfold State.overrun
  exact .ite h.bump.update.raiseLoop h.bump.update

theorem Sound.snapCheckpoint (h : Sound o s) : Sound o s.snapCheckpoint := h.update

theorem Sound.takeOutputs (h : Sound o s) : Sound o s.takeOutputs := by
  unfold State.takeOutputs
  exact .ite h (.ite (((h.update.foldl (fun _ _ hu => hu.takeCell)).each (fun _ _ hu => hu.overrun)).snapCheckpoint)
      h.update)

theorem execLoopOutputDeadline_sound (h : Sound o s) : SoundOut o (execLoopOutputDeadline s) := by
  unfold execLoopOutputDeadline
  exact .next (.ite h h.waitClk.takeOutputs)

/-! #### Path words that come late (R198) -/

theorem execPathLate_sound (h : Sound o s) {lane : Fin 64} : SoundOut o (execPathLate lane s) := by
  unfold execPathLate
  exact .next (.ite h h.waitClk.update.raiseLoop)

theorem Sound.loopPeriodLo (h : Sound o s) : Sound o s.loopPeriodLo := h.update

theorem execLeLoopPeriodLoRead_sound (h : Sound o s) : SoundOut o (execLeLoopPeriodLoRead s) := by
  unfold execLeLoopPeriodLoRead
  exact .next (h.hostRead (fun _ hu => hu.loopPeriodLo))

/-! #### Pair flags (R230 to R233) -/

theorem Sound.refreshPair (h : Sound o s) {k : Nat} : Sound o (s.refreshPair k) := by
  unfold State.refreshPair
  exact h.foldl (fun _ _ hu => hu.refreshCell)

theorem Sound.flagPair (h : Sound o s) {k cause : Nat} : Sound o (s.flagPair k cause) := by
  unfold State.flagPair
  exact .ite h h.setPair.refreshPair.raiseLim

theorem Sound.unflagPair (h : Sound o s) {k cause how : Nat} : Sound o (s.unflagPair k cause how) := by
  unfold State.unflagPair
  exact .ite h h.setPair.refreshPair.raiseLim

theorem Sound.adcRange (h : Sound o s) {addr : Nat} : Sound o (s.adcRange addr) := by
  unfold State.adcRange
  exact h.raiseLim

theorem Sound.dacRange (h : Sound o s) {addr : Nat} : Sound o (s.dacRange addr) := by
  unfold State.dacRange
  exact h.raiseLim

theorem Sound.refFlags (h : Sound o s) : Sound o s.refFlags := by
  unfold State.refFlags
  exact h.each (fun _ _ hu => .ite hu.unflagPair hu.flagPair)

/-! #### References (R230) -/

theorem Sound.refStart (h : Sound o s) : Sound o s.refStart := by
  unfold State.refStart
  exact .ite h.update.refFlags h.update

theorem Sound.refStop (h : Sound o s) : Sound o s.refStop := by
  unfold State.refStop
  exact .ite h.update.refFlags h.update

theorem Sound.refHost (h : Sound o s) {en : Bool} : Sound o (s.refHost en) := by
  unfold State.refHost
  exact .ite (.ite h.setFld.refStart h.setFld.refStop) h.adcRange

theorem execRefEnable_sound (h : Sound o s) : SoundOut o (execRefEnable s) := by
  unfold execRefEnable
  exact .next (h.hostAct (fun _ hu => hu.refHost))

theorem execRefDisable_sound (h : Sound o s) : SoundOut o (execRefDisable s) := by
  unfold execRefDisable
  exact .next (h.hostAct (fun _ hu => hu.refHost))

theorem Sound.refWindows (h : Sound o s) {inWindow : Nat} : Sound o (s.refWindows inWindow) := by
  unfold State.refWindows
  exact h.each (fun _ _ hu => hu.setPair)

theorem execRefReady_sound (h : Sound o s) {inWindow : Nat} : SoundOut o (execRefReady inWindow s) := by
  unfold execRefReady
  exact .next (.ite h (.ite h.refWindows.refFlags (.ite h.waitClk.refWindows.update.refFlags h.waitClk.refWindows)))

/-! #### Conversions -/

theorem Sound.lateConversion (h : Sound o s) {conv : Nat} : Sound o (s.lateConversion conv) := by
  unfold State.lateConversion
  exact h.setPair

theorem Sound.entryError (h : Sound o s) {e : Option (Nat × Bool)} : Sound o (s.entryError e) := by
  unfold State.entryError
  split
  · exact h
  · exact h.bump
  · exact h.bump.update.flagPair.raiseLim

theorem Sound.putRecord (h : Sound o s) {c round slot : Nat} {m : LoopSample} {p : Predict} :
    Sound o (s.putRecord c round slot m p) := by
  unfold State.putRecord
  exact .ite h ((h.foldl (fun _ _ hu => hu.setDm)).setCore)

theorem Sound.tapPair (h : Sound o s) {c round slot : Nat} {raw : List (Option Nat)} :
    Sound o (s.tapPair c round slot raw) := by
  unfold State.tapPair
  exact .putRecord (.ite h.setCell h)

theorem Sound.monitorGroup (h : Sound o s) {p round : Nat} {raw : List (Option Nat)} :
    Sound o (s.monitorGroup p round raw) := by
  unfold State.monitorGroup
  dsimp only
  refine .ite h ?_
  split
  · refine .update ?_
    split
    · exact h.update
    · exact h
  · split
    · exact h.update
    · exact h

theorem Sound.easelDark (h : Sound o s) {chs : List Nat} {raw : List (Option Nat)} : Sound o (s.easelDark chs raw) := by
  unfold State.easelDark
  refine .ite (h.foldl (fun _ _ hu => ?_)) h
  split
  · exact hu.ofsSample
  · exact hu

theorem Sound.roundGroup (h : Sound o s) {conv round slot : Nat} {raw : List (Option Nat)} :
    Sound o (s.roundGroup conv round slot raw) := by
  unfold State.roundGroup
  split
  · extract_lets r s1
    have hs1 : Sound o s1 := h.foldl (fun _ _ hu => hu.lateConversion)
    exact hs1.tapPair.easelDark
  · split
    · extract_lets p r s1
      have hs1 : Sound o s1 := h.foldl (fun _ _ hu => hu.lateConversion)
      exact hs1.monitorGroup.easelDark
    · exact h

theorem Sound.directResult (h : Sound o s) {status raw : Nat} : Sound o (s.directResult status raw) := by
  unfold State.directResult
  exact h.update.setFld

theorem Sound.tailSlot (h : Sound o s) {conv m : Nat} {raw : Option Nat} : Sound o (s.tailSlot conv m raw) := by
  unfold State.tailSlot
  split
  · exact h.lateConversion
  · exact .ite h.setPair (.ite h.update (.ite h.setPair (.ite h.setPair (.ite h.directResult h))))

theorem Sound.litNow (h : Sound o s) : Sound o s.litNow := h.update

theorem execAdcConversion_sound (h : Sound o s) {conv : Fin 32} {round slot : Nat} {raw : List (Option Nat)} {secded :
    Option (Nat × Bool)} :
    SoundOut o (execAdcConversion conv round slot raw secded s) := by
  unfold execAdcConversion
  exact .next (.ite h (.ite h.waitClk.flagPair (.ite (.ite h.waitClk.entryError.tailSlot h.waitClk.entryError)
      h.waitClk.entryError.litNow.roundGroup)))

/-! #### Pair evaluation (R231, R232), at the end of a period -/

theorem Sound.clearChecks (h : Sound o s) {k how : Nat} : Sound o (s.clearChecks k how) := by
  unfold State.clearChecks
  exact h.foldl (fun _ _ hu => hu.unflagPair)

theorem Sound.pairPeriod (h : Sound o s) {k : Nat} : Sound o (s.pairPeriod k) := by
  unfold State.pairPeriod
  exact .ite h.setPair (.ite (.ite h.setPair.clearChecks h.setPair) (.ite h.setPair.flagPair h.setPair))

theorem Sound.tailEnd (h : Sound o s) : Sound o s.tailEnd := by
  unfold State.tailEnd
  dsimp only
  split
  · exact .ite ((h.each (fun _ _ hu => hu.pairPeriod)).directResult) ((h.each (fun _ _ hu => hu.pairPeriod)).update)
  · exact h.each (fun _ _ hu => hu.pairPeriod)

theorem Sound.clearFlagged (h : Sound o s) {mask : Nat} : Sound o (s.clearFlagged mask) := by
  unfold State.clearFlagged
  exact h.each (fun _ _ hu => hu.clearChecks.setPair)

theorem execPairFlagClear_sound (h : Sound o s) {mask : Nat} : SoundOut o (execPairFlagClear mask s) := by
  unfold execPairFlagClear
  exact .next (h.hostAct (fun _ hu => hu.clearFlagged))

theorem Sound.forcePairs (h : Sound o s) {mask : Nat} : Sound o (s.forcePairs mask) := by
  unfold State.forcePairs
  exact h.setFld.each (fun _ _ hu => .ite hu.flagPair hu.unflagPair)

theorem execPairForceWrite_sound (h : Sound o s) {mask : Nat} : SoundOut o (execPairForceWrite mask s) := by
  unfold execPairForceWrite
  exact .next (h.hostAct (fun _ hu => hu.forcePairs))

/-! #### Housekeeping and direct conversions (R234, R235) -/

theorem Sound.publish (h : Sound o s) {n : Nat} : Sound o (s.publish n) := by
  unfold State.publish
  dsimp only
  split
  · exact h
  · exact .ite h.update.zonePublish h.update

theorem execHkPublish_sound (h : Sound o s) : SoundOut o (execHkPublish s) := by
  unfold execHkPublish
  have hs1 : Sound o ((s.waitClk (s.loops.periodAt + 124000)).each (List.range 128) State.publish) :=
    h.waitClk.each fun _ _ hu => hu.publish
  exact .next (.ite h hs1.update)

theorem Sound.adcDirect (h : Sound o s) {channel : Nat} : Sound o (s.adcDirect channel) := by
  unfold State.adcDirect
  exact .ite h.adcRange (.ite h.setFld.directResult (.ite h.setFld.directResult (.ite h.setFld.directResult
      h.setFld.update)))

theorem execAdcDirectRequest_sound (h : Sound o s) {channel : Nat} : SoundOut o (execAdcDirectRequest channel s) := by
  unfold execAdcDirectRequest
  exact .next (h.hostAct (fun _ hu => hu.adcDirect))

/-! #### Heaters (R238) -/

theorem execHeaterSlewTick_sound (h : Sound o s) : SoundOut o (execHeaterSlewTick s) := by
  unfold execHeaterSlewTick
  exact .next (.ite h (.ite h.waitClk.slewTick.update h.waitClk.slewTick))

/-! #### DAC_CLR_N (R240 to R242) -/

theorem Sound.dacRelease (h : Sound o s) : Sound o s.dacRelease := by
  unfold State.dacRelease
  exact .ite h.update h

theorem Sound.clrInputFault (h : Sound o s) {kind : Nat} : Sound o (s.clrInputFault kind) := by
  unfold State.clrInputFault
  exact .raiseLim (.ite h.update h.update.dacClear)

theorem Sound.clrGlitch (h : Sound o s) {held : Nat} : Sound o (s.clrGlitch held) := by
  unfold State.clrGlitch
  exact .ite h.bump h

theorem execDacClrNAssert_sound (h : Sound o s) {held : Nat} : SoundOut o (execDacClrNAssert held s) := by
  unfold execDacClrNAssert
  refine .next (.ite h ?_)
  split
  · exact (h.edge.of_snd ‹_›).clrGlitch
  · exact ((h.edge.of_snd ‹_›).elapse).dacClear
  · exact (h.edge.of_snd ‹_›).clrInputFault

theorem execDacClrNRelease_sound (h : Sound o s) {held : Nat} : SoundOut o (execDacClrNRelease held s) := by
  unfold execDacClrNRelease
  refine .next (.ite h ?_)
  split
  · exact (h.edge.of_snd ‹_›).clrGlitch
  · exact (h.edge.of_snd ‹_›).dacRelease
  · exact (h.edge.of_snd ‹_›).clrInputFault

/-! #### Monitor reads (R120, Tables 10.24 and 10.25) -/

theorem Sound.dacMonData (h : Sound o s) : Sound o s.dacMonData := h.update

theorem execDacMonDataRead_sound (h : Sound o s) : SoundOut o (execDacMonDataRead s) := by
  unfold execDacMonDataRead
  exact .next (h.hostRead (fun _ hu => hu.dacMonData))

theorem Sound.monSel (h : Sound o s) {value : Word} : Sound o (s.monSel value) := by
  unfold State.monSel
  exact .ite h.raise h.setFld.setFld.update

theorem execMxMonSelWrite_sound (h : Sound o s) {value : Word} : SoundOut o (execMxMonSelWrite value s) := by
  unfold execMxMonSelWrite
  exact .next (h.hostAct (fun _ hu => hu.monSel))

theorem Sound.monData (h : Sound o s) : Sound o s.monData := h.update

theorem execMxMonDataRead_sound (h : Sound o s) : SoundOut o (execMxMonDataRead s) := by
  unfold execMxMonDataRead
  exact .next (h.hostRead (fun _ hu => hu.monData))

/-! #### Sending -/

theorem Sound.passOver (h : Sound o s) {m : Nat} : Sound o (s.passOver m) := by
  unfold State.passOver
  exact h.each (fun _ _ hu => .ite hu (.ite hu.update.update hu.update))

theorem Sound.placeFrame (h : Sound o s) {i : Nat} {f : Frame} : Sound o (s.placeFrame i f) := by
  unfold State.placeFrame
  exact h.setLane.count.count.unqueue.countPair

theorem Sound.recordTake (h : Sound o s) {i : Nat} : Sound o (s.recordTake i) := by
  unfold State.recordTake
  split
  · exact h
  · refine .ite h ?_
    dsimp only
    split
    · split
      · exact h.passOver.update.placeFrame.settle
      · exact h.passOver
    · exact h.passOver

theorem execFabricRecordTake_sound (h : Sound o s) {lane : Fin 256} : SoundOut o (execFabricRecordTake lane s) := by
  unfold execFabricRecordTake
  exact .next h.recordTake

/-! #### The burst message (R274, R275) -/

theorem Sound.closeBurst (h : Sound o s) {i : Nat} : Sound o (s.closeBurst i) := by
  unfold State.closeBurst
  exact .ite (.emit (.setLane (.ite h.count.count h.count))) (.setLane (.ite h.count.count h.count))

theorem Sound.closeBursts (h : Sound o s) : Sound o s.closeBursts := by
  unfold State.closeBursts
  exact h.each (fun _ _ hu => hu.closeBurst)

/-! #### Receiving (R276, R277) -/

theorem Sound.burstFail (h : Sound o s) {i check counter : Nat} : Sound o (s.burstFail i check counter) := by
  unfold State.burstFail
  exact .ite h.count.setLane h.count.setLane.raiseLim.setLane

theorem Sound.fabricAdmit (h : Sound o s) {f : Frame} : Sound o (s.fabricAdmit f) := by
  unfold State.fabricAdmit
  exact .ite h.count.raiseLim h.update.enqueue

theorem Sound.fabricFrame (h : Sound o s) {i src : Nat} {h' : Bytes} {data : Bytes} :
    Sound o (s.fabricFrame i src h' data) := by
  unfold State.fabricFrame
  exact .ite h.count.count.count h.count.count.fabricAdmit

theorem Sound.burstEnd (h : Sound o s) {i : Nat} {b : BurstIn} {hdr hdrs t : Bytes} {frames bytes : Nat} :
    Sound o (s.burstEnd i b hdr hdrs t frames bytes) := by
  unfold State.burstEnd
  exact .ite h.burstFail (.ite (.ite h h.burstFail) (.burstFail (.ite h h.burstFail)))

theorem Sound.burstRecords (h : Sound o s) {i : Nat} {b : BurstIn} {hdr : Bytes} {fuel off : Nat} {hdrs : Bytes}
    {frames bytes : Nat} : Sound o (Machine.burstRecords i b hdr fuel off hdrs frames bytes s) := by
  induction fuel generalizing off hdrs frames bytes s with
  | zero => exact h
  | succ fuel ih =>
    unfold Machine.burstRecords
    exact .ite h.burstFail (.ite h.burstFail (.ite h.burstEnd (ih (.ite h.fabricFrame h.burstFail))))

theorem Sound.burstBody (h : Sound o s) {i : Nat} {b : BurstIn} {delim : Int} : Sound o (s.burstBody i b delim) := by
  unfold State.burstBody
  exact .ite h.setLane.raiseLim.burstFail (.ite h.setLane.burstFail h.setLane.setLane.count.burstRecords)

theorem Sound.burstIn (h : Sound o s) {i : Nat} {b : BurstIn} : Sound o (s.burstIn i b) := by
  unfold State.burstIn
  dsimp only
  refine .ite h ?_
  split
  · exact h.update.count.count.setLane.burstFail
  · exact .ite h.update.count.count.setLane.burstFail (.ite h.update.count.count.setLane.burstFail
      h.update.count.count.setLane.burstBody.settle)

theorem execBurstRx_sound (h : Sound o s) {lane : Fin 256} {burst : BurstIn} :
    SoundOut o (execBurstRx lane burst s) := by
  unfold execBurstRx
  exact .next h.burstIn

theorem execStartDelimiterTimeout_sound (h : Sound o s) {lane : Fin 256} :
    SoundOut o (execStartDelimiterTimeout lane s) := by
  unfold execStartDelimiterTimeout
  exact .next (.ite h h.waitTime.setLane.burstFail)

/-! #### Lanes of a port -/

theorem Sound.eachLane (h : Sound o s) {p : Nat} {f : LaneSt → LaneSt} : Sound o (s.eachLane p f) := by
  unfold State.eachLane
  exact h.each (fun _ _ hu => hu.setLane)

/-! #### The port function -/

theorem Sound.portStart (h : Sound o s) {p : Nat} : Sound o (s.portStart p) := by
  unfold State.portStart
  exact .ite h.setPort.eachLane h.setPort

theorem Sound.linkLost (h : Sound o s) {p : Nat} : Sound o (s.linkLost p) := by
  unfold State.linkLost
  exact h.setPort.eachLane

theorem Sound.linkDown (h : Sound o s) {p cause : Nat} : Sound o (s.linkDown p cause) := by
  unfold State.linkDown
  exact .ite (.settle (.ite h.setPort.linkLost.raise.discardPort.startFlush h.setPort.linkLost.raise.discardPort))
      h.setPort

theorem Sound.portStop (h : Sound o s) {p : Nat} : Sound o (s.portStop p) := by
  unfold State.portStop
  refine .ite (.eachLane (.linkDown ?_)) h.setPort
  split
  · exact h.setPort.waitClk.txDone
  · exact h.setPort

theorem Sound.portEnable (h : Sound o s) {p : Nat} : Sound o (s.portEnable p) := by
  unfold State.portEnable
  exact .ite h.raise (.ite h.setFld.portStart h.setFld)

theorem Sound.portDisable (h : Sound o s) {p : Nat} : Sound o (s.portDisable p) := by
  unfold State.portDisable
  exact .ite h.setFld.portStop h

theorem execPortEnable_sound (h : Sound o s) {port : Nat} : SoundOut o (execPortEnable port s) := by
  unfold execPortEnable
  exact .next (h.hostAct (fun _ hu => .ite hu.portEnable hu))

theorem execPortDisable_sound (h : Sound o s) {port : Nat} : SoundOut o (execPortDisable port s) := by
  unfold execPortDisable
  exact .next (h.hostAct (fun _ hu => .ite hu.portDisable hu))

theorem Sound.raiseTen (h : Sound o s) {code subject : Nat} {items : List (Nat × Nat)} :
    Sound o (s.raiseTen code subject items) := by
  unfold State.raiseTen
  exact .ite h h.update.raise

theorem Sound.trainFail (h : Sound o s) {p lane reached : Nat} : Sound o (s.trainFail p lane reached) := by
  unfold State.trainFail
  exact .ite h (.ite h.setLane.raiseTen.setPort.setPort.eachLane h.setLane.raiseTen.setPort)

theorem execTrainFailed_sound (h : Sound o s) {port lane reached : Nat} :
    SoundOut o (execTrainFailed port lane reached s) := by
  unfold execTrainFailed
  exact .next (.ite h.trainFail h)

theorem Sound.alignLane (h : Sound o s) {p n : Nat} : Sound o (s.alignLane p n) := by
  unfold State.alignLane
  exact h.update.setLane

theorem Sound.linkUpNow (h : Sound o s) {p : Nat} : Sound o (s.linkUpNow p) := by
  unfold State.linkUpNow
  extract_lets s0 s1 x s2 s3 stop _ _ s4
  have hs1 : Sound o s1 := h.waitClk.each fun _ _ hu => hu.alignLane
  have hs4 : Sound o s4 := hs1.setPort.raise.setPort
  exact .ite hs4.portStop hs4.settle

theorem execPortLinkUp_sound (h : Sound o s) {port : Nat} : SoundOut o (execPortLinkUp port s) := by
  unfold execPortLinkUp
  exact .next (.ite h.linkUpNow h)

theorem execPortLinkDown_sound (h : Sound o s) {port cause : Nat} : SoundOut o (execPortLinkDown port cause s) := by
  unfold execPortLinkDown
  exact .next (.ite h.linkDown h)

/-! #### Fabric lanes -/

theorem Sound.fabricStart (h : Sound o s) {n : Nat} : Sound o (s.fabricStart n) := by
  unfold State.fabricStart
  exact h.setLane

theorem Sound.fabricEnable (h : Sound o s) {n : Nat} : Sound o (s.fabricEnable n) := by
  unfold State.fabricEnable
  exact .ite h.setFld.fabricStart h.setFld

theorem Sound.fabricDisable (h : Sound o s) {n : Nat} : Sound o (s.fabricDisable n) := by
  unfold State.fabricDisable
  exact h.setFld.setLane

theorem execFabricLaneEnable_sound (h : Sound o s) {lane : Fin 256} : SoundOut o (execFabricLaneEnable lane s) := by
  unfold execFabricLaneEnable
  exact .next (h.hostAct (fun _ hu => hu.fabricEnable))

theorem execFabricLaneDisable_sound (h : Sound o s) {lane : Fin 256} : SoundOut o (execFabricLaneDisable lane s) := by
  unfold execFabricLaneDisable
  exact .next (h.hostAct (fun _ hu => hu.fabricDisable))

theorem Sound.fabricReady (h : Sound o s) {n : Nat} : Sound o (s.fabricReady n) := by
  unfold State.fabricReady
  exact .ite h.setLane h

theorem execFabricLaneReady_sound (h : Sound o s) {lane : Fin 256} : SoundOut o (execFabricLaneReady lane s) := by
  unfold execFabricLaneReady
  exact .next h.fabricReady

/-! #### Shut-down complete (R56) -/

theorem Sound.portStopped (h : Sound o s) {p : Nat} : Sound o (s.portStopped p) := by
  unfold State.portStopped
  exact .ite (.ite h.setPort.eachLane.portStart h.setPort.eachLane) h

theorem Sound.fabricStopped (h : Sound o s) {n : Nat} : Sound o (s.fabricStopped n) := by
  unfold State.fabricStopped
  exact .ite h.setLane h

theorem Sound.refStopped (h : Sound o s) : Sound o s.refStopped := h.update

theorem execFunctionStopped_sound (h : Sound o s) {fn : FnRef} : SoundOut o (execFunctionStopped fn s) := by
  unfold execFunctionStopped
  refine .next ?_
  split
  · exact h.portStopped
  · exact h.fabricStopped
  · exact h.refStopped

/-! #### Sleep of the packet domain -/

theorem Sound.portsOff (h : Sound o s) : Sound o s.portsOff := by
  unfold State.portsOff
  exact h.each (fun _ _ hu => hu.linkDown.setPort.eachLane)

theorem Sound.portsWake (h : Sound o s) : Sound o s.portsWake := by
  unfold State.portsWake
  exact h.each (fun _ _ hu => hu.portStart)

theorem Sound.fabricOff (h : Sound o s) : Sound o s.fabricOff := h.update

theorem Sound.fabricWake (h : Sound o s) : Sound o s.fabricWake := by
  unfold State.fabricWake
  exact h.each (fun _ _ hu => hu.fabricStart)

/-! #### What an entry ends -/

theorem Sound.endApply (h : Sound o s) : Sound o s.endApply := by
  unfold State.endApply
  split
  · exact h.update.complete
  · exact h

theorem Sound.endCalRun (h : Sound o s) : Sound o s.endCalRun := by
  unfold State.endCalRun
  split
  · exact h.update.complete.safStop
  · exact h

theorem Sound.dropStaged (h : Sound o s) : Sound o s.dropStaged := by
  unfold State.dropStaged
  split
  · exact h.update.complete
  · exact h.update

theorem Sound.stopOrbit (h : Sound o s) : Sound o s.stopOrbit := h.update

theorem Sound.unhalt (h : Sound o s) : Sound o s.unhalt := h.update

/-! #### The packet engine's stop (R38) -/

theorem Sound.dropFabricQueues (h : Sound o s) : Sound o s.dropFabricQueues := by
  unfold State.dropFabricQueues
  exact h.each (fun _ _ hu => hu.discard)

theorem Sound.packetStop (h : Sound o s) {limit : Nat} : Sound o (s.packetStop limit) := by
  unfold State.packetStop
  exact h.update.dropFabricQueues

theorem Sound.dropLeftovers (h : Sound o s) : Sound o s.dropLeftovers := by
  unfold State.dropLeftovers
  exact (h.each (fun _ _ hu => hu.discard)).each (fun _ _ hu => hu.setPq.each (fun _ _ hu1 => hu1.count.writeBack))

theorem execPacketStopTimeout_sound (h : Sound o s) : SoundOut o (execPacketStopTimeout s) := by
  unfold execPacketStopTimeout
  refine .next ?_
  split
  · exact h.waitClk.dropLeftovers.update
  · exact h

/-! #### Entries -/

theorem Sound.darkAtBoundary (h : Sound o s) : Sound o s.darkAtBoundary := by
  unfold State.darkAtBoundary
  exact .ite h.update h.stopOrbit.fabricDark

theorem Ordered.enterSafe (h : Ordered o s) : Sound o s.enterSafe := by
  have hstop : Sound o (s.safStop 1 St.wrongMode) := h.safStop
  unfold State.enterSafe
  refine .update (.dropStaged (.ite (.emptyPending ?_) ?_)) <;>
    exact hstop.toSafe.noSwatch.stopOrbit.unhalt.fabricDark.leaveConj

theorem Sound.enterSafe (h : Sound o s) : Sound o s.enterSafe := h.ordered.enterSafe

theorem Sound.closeLoops (h : Sound o s) : Sound o s.closeLoops := by
  unfold State.closeLoops
  exact .ite h.leaveSafe.update h

theorem Ordered.enterCalibrate (h : Ordered o s) : Sound o s.enterCalibrate :=
  (Ordered.dark (o := o) (s := { s.driveLasers 0 with saf := { (s.driveLasers 0).saf with request := 0 } })
    h rfl rfl).endLaserSet.stopOrbit.fabricDark.noSwatch.closeLoops

theorem Sound.enterCalibrate (h : Sound o s) : Sound o s.enterCalibrate := h.ordered.enterCalibrate

theorem Sound.modeEntry (h : Sound o s) {old m : Mode} : Sound o (s.modeEntry old m) := by
  unfold State.modeEntry
  split
  · extract_lets s1
    have hs1 : Sound o s1 := h.enterSafe
    exact .ite hs1.packetStop hs1
  · extract_lets s1
    have hs1 : Sound o s1 := h.enterSafe
    exact .ite hs1.packetStop hs1
  · exact h.enterCalibrate
  · extract_lets s1
    have hs1 : Sound o s1 := h.closeLoops.darkAtBoundary.unhalt
    exact .ite hs1.packetStop hs1
  · extract_lets s1
    have hs1 : Sound o s1 := h.closeLoops.darkAtBoundary
    exact hs1.update
  · extract_lets s1
    have hs1 : Sound o s1 := h.closeLoops
    exact hs1.update

theorem Sound.takeEaselCodes (h : Sound o s) : Sound o s.takeEaselCodes := by
  unfold State.takeEaselCodes
  exact h.foldl (fun _ _ hu => hu.xchSet.xchSet)

/-- Lasers that are on may stay on in every mode from 2 on. -/
theorem Sound.inMode (h : Sound o s) {m : Mode} (hm : 2 ≤ m.code) :
    Sound o { s with mode := { s.mode with mode := m } } := by
  obtain ⟨hord, hsafe⟩ := h
  refine ⟨hord, fun ho => ?_⟩
  obtain ⟨hwant, hwired, hmay⟩ := hsafe ho
  exact ⟨hwant, hwired, fun hon => ⟨(hmay hon).1, (hmay hon).2.1, (hmay hon).2.2.1, hm⟩⟩

/-- The entry to a mode follows the change of mode: modes 0, 1 and 2 turn the lasers off, the others permit them. -/
theorem Sound.modeEntered (h : Sound o s) {old m : Mode} :
    Sound o (({ s with mode := { s.mode with mode := m } }).modeEntry old m) := by
  have hord : Ordered o { s with mode := { s.mode with mode := m } } := h.ordered.update
  cases m
  case bootstrap | safe => exact .ite hord.enterSafe.packetStop hord.enterSafe
  case calibrate => exact hord.enterCalibrate
  all_goals exact (h.inMode (by decide)).modeEntry

theorem Sound.enterMode (h : Sound o s) {m : Mode} {trigger : Nat} : Sound o (s.enterMode m trigger) := by
  have hleft : Sound o (if s.mode.mode = .calibrate then s.endApply.endCalRun.takeEaselCodes else s.endApply) :=
    .ite h.endApply.endCalRun.takeEaselCodes h.endApply
  have hentered := (Sound.ite (c := m.asleep = true ∧ ¬s.mode.mode.asleep = true) hleft.portsOff
      hleft).voidWindows.modeEntered
    (old := s.mode.mode) (m := m)
  exact .ite h (Sound.ite hentered.portsWake hentered).raise.settle

theorem Sound.autoMode (h : Sound o s) {m : Mode} {trigger : Nat} : Sound o (s.autoMode m trigger) := by
  unfold State.autoMode
  exact h.endPendingMode.enterMode

/-! #### Commands (R149 to R153, R552) -/

theorem execOrbitPrepare_sound (h : Sound o s) {tag : CmdTag} {record target : Option Bytes} {hasTarget : Bool} {mode
    timeoutMs : Nat} :
    SoundOut o (execOrbitPrepare tag record target hasTarget mode timeoutMs s) := by
  unfold execOrbitPrepare
  dsimp only
  refine .next (h.serve (fun _ hu => ?_))
  split
  · exact hu.complete
  · refine .ite hu.complete (.ite hu.complete (.ite hu.complete (.ite hu.complete ?_)))
    split
    · exact hu.complete
    · exact hu.update.complete

theorem Sound.arm (h : Sound o s) {t : Nat} : Sound o (s.arm t) := h.update

theorem execOrbitCommit_sound (h : Sound o s) {tag : CmdTag} {at_ : TimeWord} :
    SoundOut o (execOrbitCommit tag at_ s) := by
  unfold execOrbitCommit
  refine .next (h.serve (fun _ hu => .ite hu.complete (.ite hu.complete (.ite hu.complete ?_))))
  split
  · exact .ite hu.complete (.ite hu.complete hu.arm.complete)
  · exact hu.complete

theorem execOrbitAbort_sound (h : Sound o s) {tag : CmdTag} : SoundOut o (execOrbitAbort tag s) := by
  unfold execOrbitAbort
  refine .next (h.serve (fun _ hu => .ite hu.complete (.ite hu.complete (.ite hu.complete ?_))))
  split
  · exact .ite hu.complete hu.emptyPending.complete
  · exact hu.emptyPending.complete

theorem execOrbitRead_sound (h : Sound o s) {tag : CmdTag} {bank outAddr maxLen : Nat} :
    SoundOut o (execOrbitRead tag bank outAddr maxLen s) := by
  unfold execOrbitRead
  refine .next (h.serve (fun _ hu => .ite hu.complete ?_))
  split
  · exact hu.complete
  · exact .ite hu.complete hu.outData.completeWith

theorem execOrbitTimeout_sound (h : Sound o s) : SoundOut o (execOrbitTimeout s) := by
  unfold execOrbitTimeout
  refine .next ?_
  split
  · split
    · exact h.waitClk.emptyPending.raise
    · exact h
  · exact h

theorem Sound.orbCycleLo (h : Sound o s) : Sound o s.orbCycleLo := h.update

theorem execOrbCycleLoRead_sound (h : Sound o s) : SoundOut o (execOrbCycleLoRead s) := by
  unfold execOrbCycleLoRead
  exact .next (h.hostRead (fun _ hu => hu.orbCycleLo))

/-! #### The vote (R161, R162) -/

theorem Sound.upset (h : Sound o s) {l : List ReplicaUpset} : Sound o (s.upset l) := h.update

theorem Sound.syncReplicas (h : Sound o s) : Sound o s.syncReplicas := h.update

theorem Sound.outvote (h : Sound o s) {n slot : Nat} : Sound o (s.outvote n slot) := by
  unfold State.outvote
  exact .ite h.update.raise.raise h.update.raise

theorem Sound.haltOrbit (h : Sound o s) {b : OrbitBank} : Sound o (s.haltOrbit b) := by
  unfold State.haltOrbit
  exact h.stopOrbit.fabricDark.update.raise

theorem Sound.vote (h : Sound o s) {b : OrbitBank} {opening : Nat} : Sound o (s.vote b opening).2 := by
  unfold State.vote
  split
  · exact h.haltOrbit
  · exact (h.each (fun _ _ hu => hu.outvote)).syncReplicas

/-! #### Slots and takeovers -/

theorem Sound.openSlot (h : Sound o s) {b : OrbitBank} {slot t e : Nat} : Sound o (s.openSlot b slot t e) := by
  unfold State.openSlot
  exact h.update.openInterval.putSwatch.syncReplicas.settle

theorem Sound.cutInterval (h : Sound o s) {i : Nat} : Sound o (s.cutInterval i) := by
  unfold State.cutInterval
  exact .ite h.update.closeBursts h.update

theorem Sound.missOrbit (h : Sound o s) {b : OrbitBank} : Sound o (s.missOrbit b) := by
  unfold State.missOrbit
  exact h.disarm.update.raise

theorem Sound.takePending (h : Sound o s) : Sound o s.takePending := by
  unfold State.takePending
  split
  · exact h.update.enterMode.completeOpt
  · exact h

theorem Sound.takeOver (h : Sound o s) {b : OrbitBank} {i : Nat} : Sound o (s.takeOver b i) := by
  unfold State.takeOver
  exact .raise (.openSlot (.update (.ite h.cutInterval h.cutInterval.takePending)))

theorem Sound.nextSlot (h : Sound o s) {b : OrbitBank} {t : Nat} : Sound o (s.nextSlot b t) := by
  unfold State.nextSlot
  exact h.update.openSlot

theorem Sound.openPersistent (h : Sound o s) {n b : Nat} : Sound o (s.openPersistent n b) := by
  unfold State.openPersistent
  exact .settle (.putSwatch (.ite h.swatchTargets.openInterval h.swatchTargets))

theorem Sound.enterPersistent (h : Sound o s) {n b : Nat} : Sound o (s.enterPersistent n b) := by
  unfold State.enterPersistent
  exact h.stopOrbit.takePending.openPersistent

theorem Sound.slotEnds (h : Sound o s) {b : OrbitBank} {t : Nat} : Sound o (s.slotEnds b t) := by
  unfold State.slotEnds
  split
  · exact .ite h.enterPersistent h.nextSlot
  · exact .ite h.stopOrbit.fabricDark.settle h.nextSlot

theorem Sound.slotBoundary (h : Sound o s) {upsets : List ReplicaUpset} : Sound o (s.slotBoundary upsets) := by
  unfold State.slotBoundary
  split
  · extract_lets t s1
    have hs1 : Sound o s1 := h.waitTime.upset
    split
    · exact (hs1.vote.of_snd ‹_›).settle
    · split
      · exact .ite (((hs1.vote.of_snd ‹_›).closeBursts).slotEnds) (.ite ((hs1.vote.of_snd ‹_›).takeOver)
          ((((hs1.vote.of_snd ‹_›).missOrbit).closeBursts).slotEnds))
      · exact ((hs1.vote.of_snd ‹_›).closeBursts).slotEnds
  · exact h

theorem execSlotBoundary_sound (h : Sound o s) {upsets : List ReplicaUpset} :
    SoundOut o (execSlotBoundary upsets s) := by
  unfold execSlotBoundary
  exact .next h.slotBoundary

theorem execOrbitTakeover_sound (h : Sound o s) : SoundOut o (execOrbitTakeover s) := by
  unfold execOrbitTakeover
  refine .next ?_
  split
  · exact .ite (.ite h.slotBoundary h) (.ite h.waitTime.takeOver h.waitTime.missOrbit)
  · exact h

/-! #### Persistent intervals (R20 to R23, R134 to R136) -/

theorem Sound.nextInterval (h : Sound o s) {b : Nat} : Sound o (s.nextInterval b) := by
  unfold State.nextInterval
  refine .completeOpt ?_
  split
  · exact .openPersistent (.ite h.update h)
  · exact .ite h.update h

theorem Sound.intervalBoundary (h : Sound o s) : Sound o s.intervalBoundary := by
  unfold State.intervalBoundary
  extract_lets runs b s0 s1
  have hs0 : Sound o s0 := h.waitTime
  have hs1 : Sound o s1 := .ite hs0.closeBursts hs0
  refine .ite hs1.fabricDark.settle ?_
  split
  · exact hs1.enterPersistent
  · exact hs1.takePending.fabricDark.settle
  · exact hs1.enterPersistent
  · exact .ite hs1.nextInterval h

theorem execBurstIntervalBoundary_sound (h : Sound o s) : SoundOut o (execBurstIntervalBoundary s) := by
  unfold execBurstIntervalBoundary
  exact .next (.ite h h.intervalBoundary)

/-! #### After a step of module time (R23, R156) -/

theorem Sound.moveEnd (h : Sound o s) {amount : Int} {e : Nat} : Sound o (s.moveEnd amount e) := h.update

theorem Sound.orbRealign (h : Sound o s) {amount : Int} : Sound o (s.orbRealign amount) := by
  unfold State.orbRealign
  split
  · exact h.moveEnd.update.syncReplicas.raise
  · exact .ite h.moveEnd h

/-! #### SET_MODE -/

theorem Sound.pendMode (h : Sound o s) {tag : CmdTag} {m : Mode} {swatch : Option Nat} {wait : ModeWait} :
    Sound o (s.pendMode tag m swatch wait) := h.update

theorem Sound.setModeListed (h : Sound o s) {tag : CmdTag} {old m : Mode} {n : Nat} :
    Sound o (s.setModeListed tag old m n) := by
  unfold State.setModeListed
  split
  · exact h.enterMode.complete
  · exact .ite h.complete (.ite h.complete h.enterMode.complete)
  · exact .ite h.complete (.ite h.complete h.pendMode)
  · exact .ite h.complete (.ite h.complete h.pendMode)
  · exact .ite h.complete (.ite h.complete h.pendMode)
  · extract_lets w
    exact .ite h.complete (.ite h.complete (.ite h.complete h.pendMode))
  · extract_lets w
    exact .ite h.complete (.ite h.complete (.ite h.complete h.pendMode))
  · extract_lets w
    exact .ite h.complete (.ite h.complete (.ite h.complete h.pendMode))
  · extract_lets w
    exact .ite h.complete (.ite h.complete (.ite h.complete h.pendMode))
  · exact .ite h.complete (.ite h.pendMode h.enterMode.complete)
  · exact .ite h.complete h.enterMode.complete
  · exact h.complete

theorem Sound.from11 (h : Sound o s) {tag : CmdTag} {m : Mode} {n : Nat} : Sound o (s.from11 tag m n) := by
  unfold State.from11
  exact .ite h.setModeListed (.ite h.complete (.ite h.complete h.setModeListed))

theorem Sound.cancelAuto (h : Sound o s) : Sound o s.cancelAuto := by
  unfold State.cancelAuto
  split
  · exact h.update
  · exact h

theorem execSetMode_sound (h : Sound o s) {tag : CmdTag} {mode swatch : Nat} :
    SoundOut o (execSetMode tag mode swatch s) := by
  unfold execSetMode
  refine .next (h.serve (fun _ hu => ?_))
  split
  · exact hu.cancelAuto.complete
  · refine .ite hu.cancelAuto.complete (.ite hu.cancelAuto.complete (.ite hu.cancelAuto.from11 (.ite
      hu.cancelAuto.complete ?_)))
    split
    · exact .ite hu.cancelAuto.pendMode hu.cancelAuto.setModeListed
    · exact hu.cancelAuto.setModeListed

/-! #### The power ladder -/

theorem Sound.rungStart (h : Sound o s) {dest : Nat} : Sound o (s.rungStart dest) := by
  unfold State.rungStart
  refine .ite h.endCalRun.portsOff.fabricOff.fabricDark (.ite (.update (.stopOrbit (.toSafe ?_))) (.ite h.stopLanes h))
  split
  · exact h.update.complete
  · exact h

theorem Sound.nextRung (h : Sound o s) : Sound o s.nextRung := by
  unfold State.nextRung
  exact .ite h.update.completeOpt h.update.rungStart

theorem Sound.refsOn (h : Sound o s) : Sound o s.refsOn := by
  unfold State.refsOn
  exact .ite h.refStart h

theorem Sound.periodSnaps (h : Sound o s) : Sound o s.periodSnaps := h.update

theorem Sound.countPeriods (h : Sound o s) : Sound o s.countPeriods := by
  unfold State.countPeriods
  exact h.periodSnaps.update

theorem Sound.resumePeriods (h : Sound o s) : Sound o s.resumePeriods := by
  unfold State.resumePeriods
  exact h.countPeriods.releaseLanes.eachCore.update

theorem Sound.stallLanes (h : Sound o s) : Sound o s.stallLanes := by
  unfold State.stallLanes
  refine (h.each (fun _ _ hu => ?_)).each (fun _ _ hu => .ite hu.laneFault hu)
  split
  · exact hu.waitClk
  · exact hu

theorem Sound.trainPorts (h : Sound o s) : Sound o s.trainPorts := h.update

theorem Sound.iklOff (h : Sound o s) : Sound o s.iklOff := h.update

theorem Sound.writeStore (h : Sound o s) : Sound o s.writeStore := h.update

theorem Sound.photonicOff (h : Sound o s) : Sound o s.photonicOff := h.update

theorem Sound.arrive (h : Sound o s) {dest : Nat} : Sound o (s.arrive dest) := by
  have hs : Sound o (({ s with pwr := { s.pwr with state := dest, rung := none } }).voidWindows) := h.update.voidWindows
  unfold State.arrive
  dsimp only
  generalize ({ s with pwr := { s.pwr with state := dest, rung := none } } : State).voidWindows = u at hs ⊢
  split
  · exact .ite hs.freeMaster.freeMaster.fabricWake hs.freeMaster.freeMaster.portsWake.fabricWake
  · exact hs.freeMaster.trainPorts
  · exact hs.holdMaster.holdMaster
  · exact .update (.ite hs.toFastClock hs.toFastClock.refsOn.resumePeriods)
  · exact hs.iklOff.holdMaster
  · have hd := (hs.stallLanes.toSlowClock.exclusionCheck (theta := none)).photonicOff
    generalize (u.stallLanes.toSlowClock.exclusionCheck none).photonicOff = v at hd ⊢
    exact hd.update
  · exact hs.writeStore.update
  · exact hs.toSafe.update

theorem Sound.rungReached (h : Sound o s) : Sound o s.rungReached := by
  unfold State.rungReached
  split
  · exact h
  · exact .ite h h.arrive.raise.nextRung

theorem execPowerRungReached_sound (h : Sound o s) : SoundOut o (execPowerRungReached s) := by
  unfold execPowerRungReached
  exact .next h.rungReached

theorem execSetPower_sound (h : Sound o s) {tag : CmdTag} {target : Nat} : SoundOut o (execSetPower tag target s) := by
  unfold execSetPower
  exact .next (h.serve (fun _ hu => .ite hu.complete (.ite hu.complete (.ite hu.complete (.ite hu.completeOpt.update
      (.ite hu.completeOpt.update.arrive.raise.nextRung hu.completeOpt.update.nextRung))))))

/-! #### Keep passes (R47) -/

theorem execKeepPass_sound (h : Sound o s) : SoundOut o (execKeepPass s) := by
  unfold execKeepPass
  refine .next ?_
  split
  · exact .ite h h.waitClk.update.elapse.refsOn.elapse.update.resumePeriods
  · exact h

theorem Sound.endKeepPass (h : Sound o s) : Sound o s.endKeepPass := by
  unfold State.endKeepPass
  exact .ite h.stopLanes.elapse.stallLanes.photonicOff.update.raise h.stopLanes.elapse.stallLanes.photonicOff.update

/-! #### Steps (R376, R384 to R388) -/

theorem Sound.pinsAfterStep (h : Sound o s) : Sound o s.pinsAfterStep := by
  unfold State.pinsAfterStep
  extract_lets s1
  have hs1 : Sound o s1 := h.each (fun _ _ hu => .ite hu.update.emit hu.update)
  split
  · exact .ite hs1.update.emit hs1
  · exact hs1

theorem Sound.stepTime (h : Sound o s) {amount : Int} {cause : Nat} : Sound o (s.stepTime amount cause).2 := by
  unfold State.stepTime
  exact .ite_snd h.raiseLim.count.withdrawJump.update
      h.withdrawJump.update.raise.count.orbRealign.gateRealign.pinsAfterStep.settle

theorem Sound.applyWait (h : Sound o s) {w : StepWait} : Sound o (s.applyWait w) :=
  h.update.stepTime.completeOpt

theorem Sound.announce (h : Sound o s) {ps : Int} {at_ : Nat} : Sound o (s.announce ps at_) := h.update

theorem execTimeOffset_sound (h : Sound o s) {tag : CmdTag} {offset : Int} {measured : TimeWord} :
    SoundOut o (execTimeOffset tag offset measured s) := by
  unfold execTimeOffset
  exact .next (h.serve (fun _ hu => .ite hu.complete (.ite hu.count.complete hu.addOffset.complete)))

theorem execTimeConfirm_sound (h : Sound o s) {tag : CmdTag} {jumpSeq : Nat} {at_ : TimeWord} :
    SoundOut o (execTimeConfirm tag jumpSeq at_ s) := by
  unfold execTimeConfirm
  refine .next (h.serve (fun _ hu => ?_))
  split
  · exact hu.complete
  · exact .ite hu.complete (.ite hu.complete (.ite hu.complete (.ite hu.applyWait (.ite hu.update hu.update.announce))))

theorem execTimeSet_sound (h : Sound o s) {tag : CmdTag} {sec ns frac : Nat} {at_ : TimeWord} :
    SoundOut o (execTimeSet tag sec ns frac at_ s) := by
  unfold execTimeSet
  exact .next (h.serve (fun _ hu => .ite hu.complete (.ite hu.complete (.ite hu.complete (.ite hu.complete (.ite
      hu.applyWait hu.update.announce))))))

theorem execTimeStepApply_sound (h : Sound o s) : SoundOut o (execTimeStepApply s) := by
  unfold execTimeStepApply
  refine .next ?_
  split
  · exact h.waitTime.applyWait
  · exact h

/-! #### The servo (R382 to R385) -/

theorem Sound.refuseJump (h : Sound o s) {theta : Int} : Sound o (s.refuseJump theta) := by
  unfold State.refuseJump
  exact h.update.raiseLim.count

theorem Sound.servoTerms (h : Sound o s) {theta : Int} : Sound o (s.servoTerms theta) := by
  unfold State.servoTerms
  exact .ite (.raise (.ite h.update.raise h.update)) (.ite h.update.raise h.update)

theorem Sound.servo (h : Sound o s) : Sound o s.servo := by
  unfold State.servo
  extract_lets offs misses hold _ m1 m2 theta s1 s2 _ s3
  have hm1 : Sound o m1 := h.update
  have hm2 : Sound o m2 := .ite hm1.count hm1
  have hs1 : Sound o s1 := h.update
  have hs2 : Sound o s2 := hs1.withdrawJump
  have hs3 : Sound o s3 := .ite hs2.update hs2
  refine .ite (.ite hm2.raise.count hm2) (.ite ?_ (.ite hs1.refuseJump hs3.servoTerms))
  have hx : Sound o (s1.stepTime (psToUnits (-theta)) 0).2 := hs1.stepTime
  generalize s1.stepTime (psToUnits (-theta)) 0 = x at hx ⊢
  split
  exact .ite (Sound.update hx).raise hx

theorem execServoInterval_sound (h : Sound o s) : SoundOut o (execServoInterval s) := by
  unfold execServoInterval
  exact .next (.ite h (.update (.updateSource (.exclusionCheck (.ite h.waitClk.update h.waitClk.servo)))))

/-! #### Pins (R393 to R397) -/

theorem Sound.capture (h : Sound o s) {unit : Nat} {rising : Bool} : Sound o (s.capture unit rising) := by
  unfold State.capture
  exact .ite h.count.raiseLim h.update.count

theorem execTrigInEdge_sound (h : Sound o s) {pin : Fin 4} {rising : Bool} {held : Nat} :
    SoundOut o (execTrigInEdge pin rising held s) := by
  unfold execTrigInEdge
  refine .next (.ite h ?_)
  split
  · exact h.edge.of_snd ‹_›
  · exact (h.edge.of_snd ‹_›).raiseLim
  · exact .ite ((h.edge.of_snd ‹_›).capture) (h.edge.of_snd ‹_›)

theorem execPpsInEdge_sound (h : Sound o s) {held : Nat} : SoundOut o (execPpsInEdge held s) := by
  unfold execPpsInEdge
  dsimp only
  refine .next (.ite h ?_)
  split
  · exact h.setFilter.edge.of_snd ‹_›
  · exact (h.setFilter.edge.of_snd ‹_›).raiseLim
  · exact .ite (.addOffset (.ite ((h.setFilter.edge.of_snd ‹_›).capture) (h.setFilter.edge.of_snd ‹_›))) (.ite
      ((h.setFilter.edge.of_snd ‹_›).capture) (h.setFilter.edge.of_snd ‹_›))

theorem Sound.trigArm (h : Sound o s) {n : Nat} : Sound o (s.trigArm n) := by
  unfold State.trigArm
  exact .ite h.raise h.update

theorem execTrigOutArm_sound (h : Sound o s) {pin : Fin 4} : SoundOut o (execTrigOutArm pin s) := by
  unfold execTrigOutArm
  exact .next (h.hostAct (fun _ hu => hu.trigArm))

theorem Sound.trigDisable (h : Sound o s) {n : Nat} : Sound o (s.trigDisable n) := by
  unfold State.trigDisable
  exact .ite h.setFld.update.emit h.setFld.update

theorem execTrigOutDisable_sound (h : Sound o s) {pin : Fin 4} : SoundOut o (execTrigOutDisable pin s) := by
  unfold execTrigOutDisable
  exact .next (h.hostAct (fun _ hu => hu.trigDisable))

theorem execTrigOutPulse_sound (h : Sound o s) {pin : Fin 4} : SoundOut o (execTrigOutPulse pin s) := by
  unfold execTrigOutPulse
  dsimp only
  refine .next ?_
  split
  · exact h.waitTime.update.emit
  · split
    · exact h
    · split
      · exact h.update
      · exact .ite h.waitTime.update.emit h.waitTime.update

theorem execPpsOutPulse_sound (h : Sound o s) : SoundOut o (execPpsOutPulse s) := by
  unfold execPpsOutPulse
  refine .next ?_
  split
  · exact h.waitTime.update.emit
  · exact .ite h.waitTime.update.emit h.waitTime

/-! #### Latched reads -/

theorem Sound.timNowLatch (h : Sound o s) : Sound o s.timNowLatch := h.update

theorem execTimNowFracRead_sound (h : Sound o s) : SoundOut o (execTimNowFracRead s) := by
  unfold execTimNowFracRead
  exact .next (h.hostRead (fun _ hu => hu.timNowLatch))

theorem Sound.jumpLoLatch (h : Sound o s) : Sound o s.jumpLoLatch := h.update

theorem execTimJumpLoRead_sound (h : Sound o s) : SoundOut o (execTimJumpLoRead s) := by
  unfold execTimJumpLoRead
  exact .next (h.hostRead (fun _ hu => hu.jumpLoLatch))

theorem Sound.capRead (h : Sound o s) {n : Nat} : Sound o (s.capRead n) := by
  unfold State.capRead
  split
  · exact h.update
  · exact h.update

theorem execTimCapW0Read_sound (h : Sound o s) {n : Nat} : SoundOut o (execTimCapW0Read n s) := by
  unfold execTimCapW0Read
  exact .next (h.hostRead (fun _ hu => .ite hu.capRead hu))

/-! #### The view (R409 to R413) -/

theorem Sound.quorumCheck (h : Sound o s) : Sound o s.quorumCheck := by
  unfold State.quorumCheck
  exact .ite h.update.raise h.update

/-! #### The parent (R405) -/

theorem Sound.takeParent (h : Sound o s) {p : Option Nat} : Sound o (s.takeParent p) := by
  unfold State.takeParent
  exact .ite h.update.update h.update

theorem Sound.parentUpdate (h : Sound o s) : Sound o s.parentUpdate := by
  unfold State.parentUpdate
  exact .ite h.update (.ite (.ite h h.takeParent) (h.each (fun _ _ hu => hu.setIklPort)))

theorem execParentChange_sound (h : Sound o s) {port : Fin 8} : SoundOut o (execParentChange port s) := by
  unfold execParentChange
  refine .next ?_
  split
  · exact h.waitClk.takeParent
  · exact h

/-! #### A change of the view -/

theorem Sound.leaderGone (h : Sound o s) : Sound o s.leaderGone := by
  unfold State.leaderGone
  exact .ite h.abortConj h

theorem Sound.newLeader (h : Sound o s) {m : Nat} : Sound o (s.newLeader m) := by
  unfold State.newLeader
  exact .ite h.update h.update.raise.leaderGone

theorem Sound.fwCheck (h : Sound o s) {leader major : Nat} : Sound o (s.fwCheck leader major) := by
  unfold State.fwCheck
  exact .ite h.update.raise h.update

theorem Sound.staleCheck (h : Sound o s) {high : Nat} : Sound o (s.staleCheck high) := by
  unfold State.staleCheck
  exact .ite h.update.raise h.update

theorem Sound.fenceCheck (h : Sound o s) {digest : Bytes} : Sound o (s.fenceCheck digest) := by
  unfold State.fenceCheck
  exact .ite h.autoMode h

theorem Sound.updateView (h : Sound o s) : Sound o s.updateView := by
  unfold State.updateView
  exact .ite h (.ite h.update.updateSource.parentUpdate
      h.newLeader.fwCheck.staleCheck.updateSource.parentUpdate.fenceCheck.quorumCheck)

/-! #### Ports (R401, R402) -/

theorem Sound.portDown (h : Sound o s) {n cause : Nat} : Sound o (s.portDown n cause) := by
  unfold State.portDown
  exact .ite h.setIklPort.raiseLim.parentUpdate h.setIklPort

theorem Sound.portTrain (h : Sound o s) {n : Nat} : Sound o (s.portTrain n) := by
  unfold State.portTrain
  exact .ite h.setIklPort h

theorem execIklPortTimeout_sound (h : Sound o s) {port : Fin 8} : SoundOut o (execIklPortTimeout port s) := by
  unfold execIklPortTimeout
  exact .next (.ite h.waitClk.portDown h)

theorem execIklHighSymbolErrors_sound (h : Sound o s) {port : Fin 8} : SoundOut o (execIklHighSymbolErrors port s) := by
  unfold execIklHighSymbolErrors
  exact .next (.ite h.portDown h)

theorem Sound.takeRecord (h : Sound o s) {n : Nat} {r : Bytes} : Sound o (s.takeRecord n r).2 := by
  unfold State.takeRecord
  dsimp only
  refine .ite_snd h (.ite_snd h.setIklPort.count (.ite_snd (.ite_snd h.setIklPort h.setIklPort.raise) ?_))
  split
  · exact .ite_snd h.setIklPort.count.count (.ite h.setIklPort.count.setIklPort.count h.setIklPort.count.setIklPort)
  · exact h.setIklPort.count.setIklPort

/-! #### Time exchanges (R403, R404, R406) -/

theorem Sound.sendExch (h : Sound o s) {n : Nat} : Sound o (s.sendExch n) := by
  unfold State.sendExch
  exact h.sendIkl.setIklPort

theorem execExchSend_sound (h : Sound o s) : SoundOut o (execExchSend s) := by
  unfold execExchSend
  exact .next (h.waitClk.update.each (fun _ _ hu => hu.sendExch))

theorem Sound.exchange (h : Sound o s) {n : Nat} {prev : Option (Nat × Nat)} {b : Bytes} :
    Sound o (s.exchange n prev b) := by
  unfold State.exchange
  dsimp only
  split
  · exact .ite h (.ite h.setIklPort.count.addOffset h.setIklPort.count)
  · exact h

theorem Sound.hearStep (h : Sound o s) {n : Nat} {b : Bytes} : Sound o (s.hearStep n b) := by
  unfold State.hearStep
  exact .ite h h.update.announce

theorem Sound.onExch (h : Sound o s) {n seq : Nat} {b : Bytes} : Sound o (s.onExch n seq b) := by
  unfold State.onExch
  exact .ite h.setIklPort.raise.parentUpdate h.setIklPort.parentUpdate.exchange.hearStep

/-! #### Comets (R407, R408) -/

theorem execCometSend_sound (h : Sound o s) : SoundOut o (execCometSend s) := by
  unfold execCometSend
  exact .next (.ite h h.waitClk.update.updateView.update.flood)

theorem Sound.forward (h : Sound o s) {n type : Nat} {b : Bytes} : Sound o (s.forward n type b) := by
  unfold State.forward
  exact h.each (fun _ _ hu => hu.sendIkl.count)

theorem Sound.onComet (h : Sound o s) {n : Nat} {b : Bytes} : Sound o (s.onComet n b) := by
  unfold State.onComet
  exact .ite h.count (.ite h.count.count (.updateView (.ite h.count.update.forward h.count.update.count)))

theorem execCometExpire_sound (h : Sound o s) {origin : Nat} : SoundOut o (execCometExpire origin s) := by
  unfold execCometExpire
  refine .next ?_
  split
  · exact h.waitClk.update.updateView
  · exact h

theorem execIklViewRead_sound (h : Sound o s) {tag : CmdTag} {outAddr max : Nat} :
    SoundOut o (execIklViewRead tag outAddr max s) := by
  unfold execIklViewRead
  exact .next (h.serve (fun _ hu => hu.outData.completeWith))

/-! #### Tunnels (R423) -/

theorem Sound.tunnelDrop (h : Sound o s) {n : Nat} {b : Bytes} : Sound o (s.tunnelDrop n b) := by
  unfold State.tunnelDrop
  exact h.count.raiseLim

theorem Sound.tunnelOut (h : Sound o s) {n : Nat} {b : Bytes} : Sound o (s.tunnelOut n b) := by
  unfold State.tunnelOut
  exact .ite h.tunnelDrop h.setIklPort.sendIkl.count

theorem Sound.tunnelRoute (h : Sound o s) {n : Nat} {b : Bytes} : Sound o (s.tunnelRoute n b) := by
  unfold State.tunnelRoute
  split
  · exact h.tunnelOut
  · exact h.tunnelDrop

theorem Sound.tunnelHost (h : Sound o s) {n : Nat} {b : Bytes} : Sound o (s.tunnelHost n b) := by
  unfold State.tunnelHost
  exact .ite h.deliver h.tunnelDrop

theorem execIklTunnelSend_sound (h : Sound o s) {tag : CmdTag} {payload : Option Bytes} {len dst channel : Nat} :
    SoundOut o (execIklTunnelSend tag payload len dst channel s) := by
  unfold execIklTunnelSend
  refine .next (h.serve (fun _ hu => .ite hu.complete ?_))
  split
  · exact hu.complete
  · exact .ite hu.complete (.complete (.ite (hu.update.each (fun _ _ hu => hu.tunnelOut)) hu.update.tunnelRoute))

theorem Sound.onTunnel (h : Sound o s) {n : Nat} {b : Bytes} : Sound o (s.onTunnel n b) := by
  unfold State.onTunnel
  exact .ite (.ite h.count.count ((h.count.update.each (fun _ _ hu => hu.tunnelOut)).tunnelHost)) (.ite
      h.count.tunnelHost h.count.tunnelRoute)

/-! #### Commit (R419, R420) -/

theorem Sound.onCommit (h : Sound o s) {m : ConjMsg} : Sound o (s.onCommit m) := by
  unfold State.onCommit
  split
  · exact .ite h h.update.count.raise.updateView
  · exact .ite h.count h

theorem Sound.commitConj (h : Sound o s) {p : Proposal} : Sound o (s.commitConj p) := by
  unfold State.commitConj
  exact h.sendConj.closeProposal.onCommit

theorem Sound.onAnswer (h : Sound o s) {m : ConjMsg} : Sound o (s.onAnswer m) := by
  unfold State.onAnswer
  split
  · exact .ite h (.ite (.ite h.abortConj h.update) (.ite h.update.commitConj h.update))
  · exact .ite h.update h

/-! #### Proposals (R417, R418) -/

theorem Sound.prepare (h : Sound o s) {m : ConjMsg} : Sound o (s.prepare m) := by
  unfold State.prepare
  exact h.arm.update.raise

theorem Sound.onPropose (h : Sound o s) {m : ConjMsg} : Sound o (s.onPropose m) := by
  unfold State.onPropose
  exact .ite h.update (.onAnswer (.sendConj (.update (.ite h.update.prepare h.update))))

theorem execConjPropose_sound (h : Sound o s) {tag : CmdTag} {orbit : Nat} {notBefore : TimeWord} :
    SoundOut o (execConjPropose tag orbit notBefore s) := by
  unfold execConjPropose
  refine .next (h.serve (fun _ hu => .ite hu.complete (.ite hu.quorumCheck.complete (.ite hu.complete ?_))))
  split
  · exact hu.complete
  · exact .ite hu.complete hu.update.count.sendConj.onPropose

theorem execConjAbort_sound (h : Sound o s) {tag : CmdTag} : SoundOut o (execConjAbort tag s) := by
  unfold execConjAbort
  exact .next (h.serve (fun _ hu => .ite hu.complete (.ite hu.complete hu.abortConj.complete)))

theorem execConjDeadline_sound (h : Sound o s) : SoundOut o (execConjDeadline s) := by
  unfold execConjDeadline
  refine .next ?_
  split
  · split
    · exact h.waitTime.abortConj
    · exact h.waitTime.quorumCheck.abortConj
  · exact h

theorem Sound.onAbort (h : Sound o s) {m : ConjMsg} : Sound o (s.onAbort m) := by
  unfold State.onAbort
  exact .raise (.count (.ite h.memberEnd h.update))

theorem execConjLocalAbort_sound (h : Sound o s) : SoundOut o (execConjLocalAbort s) := by
  unfold execConjLocalAbort
  refine .next ?_
  split
  · exact .ite h h.waitTime.memberEnd.count.raise
  · exact h

theorem execConjRepeatSend_sound (h : Sound o s) : SoundOut o (execConjRepeatSend s) := by
  unfold execConjRepeatSend
  refine .next ?_
  split
  · exact h.waitClk.update.flood
  · exact h

/-! #### Resynchronisation (R413) -/

theorem execSyncReqSend_sound (h : Sound o s) : SoundOut o (execSyncReqSend s) := by
  unfold execSyncReqSend
  dsimp only
  refine .next (.ite h ?_)
  split
  · exact h.waitClk.update.sendConj
  · exact h.waitClk.update

theorem Sound.onSyncReq (h : Sound o s) {m : ConjMsg} : Sound o (s.onSyncReq m) := by
  unfold State.onSyncReq
  exact .ite h h.sendConj

theorem Sound.onSyncReply (h : Sound o s) {m : ConjMsg} : Sound o (s.onSyncReply m) := by
  unfold State.onSyncReply
  exact .ite h (.updateView (.ite h.update.count h.update.count.update.txDark.raise))

/-! #### Records as they arrive -/

theorem Sound.onConj (h : Sound o s) {n : Nat} {b : Bytes} : Sound o (s.onConj n b) := by
  unfold State.onConj
  extract_lets m
  refine .ite h.count ?_
  split
  · exact (h.meetConj.floodConj.each (fun _ _ hu => hu.count)).onPropose
  · exact (h.meetConj.floodConj.each (fun _ _ hu => hu.count)).onAnswer
  · exact (h.meetConj.floodConj.each (fun _ _ hu => hu.count)).onCommit
  · exact (h.meetConj.floodConj.each (fun _ _ hu => hu.count)).onAbort
  · exact (h.meetConj.floodConj.each (fun _ _ hu => hu.count)).onSyncReq
  · exact (h.meetConj.floodConj.each (fun _ _ hu => hu.count)).onSyncReply
  · exact h.meetConj.floodConj.each (fun _ _ hu => hu.count)

theorem Sound.recordIn (h : Sound o s) {n : Nat} {r : Bytes} : Sound o (s.recordIn n r) := by
  unfold State.recordIn
  split
  · exact h.takeRecord.of_snd ‹_›
  · split
    · exact (h.takeRecord.of_snd ‹_›).onExch
    · exact (h.takeRecord.of_snd ‹_›).onComet
    · exact (h.takeRecord.of_snd ‹_›).onConj
    · exact (h.takeRecord.of_snd ‹_›).onTunnel

theorem execExchRx_sound (h : Sound o s) {port : Fin 8} {record : Bytes} : SoundOut o (execExchRx port record s) := by
  unfold execExchRx
  exact .next h.recordIn

theorem execCometRx_sound (h : Sound o s) {port : Fin 8} {record : Bytes} : SoundOut o (execCometRx port record s) := by
  unfold execCometRx
  exact .next h.recordIn

theorem execSyncReq_sound (h : Sound o s) {port : Fin 8} {record : Bytes} : SoundOut o (execSyncReq port record s) := by
  unfold execSyncReq
  exact .next h.recordIn

theorem execSyncReply_sound (h : Sound o s) {port : Fin 8} {record : Bytes} :
    SoundOut o (execSyncReply port record s) := by
  unfold execSyncReply
  exact .next h.recordIn

theorem execPropose_sound (h : Sound o s) {port : Fin 8} {record : Bytes} : SoundOut o (execPropose port record s) := by
  unfold execPropose
  exact .next h.recordIn

theorem execAnswer_sound (h : Sound o s) {port : Fin 8} {record : Bytes} : SoundOut o (execAnswer port record s) := by
  unfold execAnswer
  exact .next h.recordIn

theorem execCommit_sound (h : Sound o s) {port : Fin 8} {record : Bytes} : SoundOut o (execCommit port record s) := by
  unfold execCommit
  exact .next h.recordIn

theorem execAbort_sound (h : Sound o s) {port : Fin 8} {record : Bytes} : SoundOut o (execAbort port record s) := by
  unfold execAbort
  exact .next h.recordIn

theorem execTunnelRx_sound (h : Sound o s) {port : Fin 8} {record : Bytes} :
    SoundOut o (execTunnelRx port record s) := by
  unfold execTunnelRx
  exact .next h.recordIn

/-! #### Sectors (R494) -/

theorem Sound.eraseSector (h : Sound o s) {n : Nat} : Sound o (s.eraseSector n) := by
  unfold State.eraseSector
  exact .ite h.update.raise h.update

theorem Sound.eraseSectors (h : Sound o s) {first n : Nat} : Sound o (s.eraseSectors first n) := by
  unfold State.eraseSectors
  exact h.each (fun _ _ hu => hu.eraseSector)

theorem Sound.addLogPage (h : Sound o s) {recs : List EvtRec} : Sound o (s.addLogPage recs) := by
  unfold State.addLogPage
  exact .update (.ite h.eraseSector h)

theorem Sound.addJournal (h : Sound o s) : Sound o s.addJournal := by
  unfold State.addJournal
  exact .update (.ite h.eraseSector h)

/-! #### Shut-down records (R496, Table 23.4) -/

theorem Sound.addRecord (h : Sound o s) {b : Bytes} : Sound o (s.addRecord b) := h.update

theorem Sound.readySlots (h : Sound o s) : Sound o s.readySlots := by
  unfold State.readySlots
  exact .ite h.eraseSector.update h

theorem Sound.recordSettled (h : Sound o s) : Sound o s.recordSettled := by
  unfold State.recordSettled
  split
  · exact h.update
  · exact h

/-! #### Programs (R494) -/

theorem Sound.programmed (h : Sound o s) {j : FlashJob} : Sound o (s.programmed j) := by
  unfold State.programmed
  split
  · exact h.addLogPage
  · exact h.eraseSectors.update
  · exact h.update
  · exact h
  · exact h.addRecord.recordSettled
  · exact h.addJournal

theorem Sound.programFailed (h : Sound o s) {j : FlashJob} : Sound o (s.programFailed j) := by
  unfold State.programFailed
  split
  · exact h.raise.raise
  · exact h.raise.recordSettled
  · exact h.raise.update
  · exact h.raise

theorem execNvmProgramDone_sound (h : Sound o s) {ok : Bool} : SoundOut o (execNvmProgramDone ok s) := by
  unfold execNvmProgramDone
  refine .next ?_
  split
  · exact h
  · exact .ite (.update (.ite h h.bump)) (.logPages (.ite (.programmed (.update (.ite h h.bump))) (.programFailed
      (.update (.ite h h.bump)))))

theorem execShutdownRead_sound (h : Sound o s) {tag : CmdTag} {count outAddr : Nat} :
    SoundOut o (execShutdownRead tag count outAddr s) := by
  unfold execShutdownRead
  exact .next (h.serve (fun _ hu => .ite hu.complete hu.outData.completeWith))

/-! #### Calibrate runs (R256 to R258) -/

theorem execCalRun_sound (h : Sound o s) {tag : CmdTag} {kind set groups : Nat} {store : Bool} :
    SoundOut o (execCalRun tag kind set groups store s) := by
  unfold execCalRun
  exact .next (h.serve (fun _ hu => .ite hu.complete (.ite hu.complete (.ite hu.complete (.ite hu.complete (.ite
      hu.complete hu.update.easelLasers))))))

theorem Sound.runResult (h : Sound o s) {r : CalRun} {m : CalResult} : Sound o (s.runResult r m).2 := by
  unfold State.runResult
  exact .ite_snd h.calReject (.ite_snd h.update.update h.update)

theorem Sound.runResults (h : Sound o s) {r : CalRun} {l : List CalResult} : Sound o (s.runResults r l).2.2 := by
  have hstep (a : Nat × Nat × State) (m : CalResult) (ha : Sound o a.2.2) :
      Sound o (if m.item < runItems m.quantity then
        (if (a.2.2.runResult r m).1 then (a.1 + 1, a.2.1, (a.2.2.runResult r m).2)
          else (a.1, a.2.1 + 1, (a.2.2.runResult r m).2)) else a).2.2 := by
    split
    · split <;> exact ha.runResult
    · exact ha
  unfold State.runResults
  have hfold (l : List CalResult) (a : Nat × Nat × State) (ha : Sound o a.2.2) :
      Sound o (l.foldl (fun a m => if m.item < runItems m.quantity then
        (if (a.2.2.runResult r m).1 then (a.1 + 1, a.2.1, (a.2.2.runResult r m).2)
          else (a.1, a.2.1 + 1, (a.2.2.runResult r m).2)) else a) a).2.2 := by
    induction l generalizing a with
    | nil => exact ha
    | cons m rest ih => exact ih _ (hstep a m ha)
  exact hfold l (0, 0, s) h

theorem Sound.setCodes (h : Sound o s) : Sound o s.setCodes := h.update

theorem Sound.storeCal (h : Sound o s) {ok : Bool} : Sound o (s.storeCal ok) := by
  unfold State.storeCal
  exact .ite h.update.programmed h.update.bump.programFailed

theorem Sound.leaveRun (h : Sound o s) : Sound o s.leaveRun := by
  unfold State.leaveRun
  dsimp only
  split
  · exact h.safStop.takePending
  · exact h.safStop.enterMode

theorem execCalRunDone_sound (h : Sound o s) {results : List CalResult} {skipped : Nat} {nvmOk : Bool} :
    SoundOut o (execCalRunDone results skipped nvmOk s) := by
  unfold execCalRunDone
  refine .next ?_
  split
  · exact h
  · exact .leaveRun (.complete (.raise (.update (.ite h.runResults.calBoundary.setCodes.storeCal
      h.runResults.calBoundary.setCodes))))

theorem execCalRunTimeout_sound (h : Sound o s) : SoundOut o (execCalRunTimeout s) := by
  unfold execCalRunTimeout
  refine .next ?_
  split
  · exact h
  · exact h.waitClk.update.complete.leaveRun

/-! #### Eye scans (R261, R278) -/

theorem Sound.setEye (h : Sound o s) {n : Nat} {e : EyeRecord} : Sound o (s.setEye n e) := h.update

theorem Sound.eyeRequest (h : Sound o s) {n : Nat} : Sound o (s.eyeRequest n) := by
  unfold State.eyeRequest
  exact .ite h.setLane h

theorem execEyeNowRequest_sound (h : Sound o s) {lane : Nat} : SoundOut o (execEyeNowRequest lane s) := by
  unfold execEyeNowRequest
  exact .next (h.hostAct (fun _ hu => hu.eyeRequest))

theorem execEyeScanStart_sound (h : Sound o s) {lane : Nat} : SoundOut o (execEyeScanStart lane s) := by
  unfold execEyeScanStart
  exact .next (.ite h (.ite h.setEye (.ite h h.setLane.update)))

theorem execEyeScanDone_sound (h : Sound o s) {lane : Nat} {result : EyeResult} :
    SoundOut o (execEyeScanDone lane result s) := by
  unfold execEyeScanDone
  exact .next (.ite h h.update.setEye)

/-! #### Drift records and ageing (R262, R263) -/

theorem Sound.setQuality (h : Sound o s) {c : Nat} {q : CellQuality} : Sound o (s.setQuality c q) := h.update

theorem execDriftDailySample_sound (h : Sound o s) : SoundOut o (execDriftDailySample s) := by
  unfold execDriftDailySample
  exact .next (.ite h (h.elapse.update.each (fun _ _ hu => hu.setQuality)))

theorem Sound.ageCell (h : Sound o s) {c : Nat} : Sound o (s.ageCell c) := by
  unfold State.ageCell
  exact .ite h.setQuality.raise (.ite h.setQuality.raise h.setQuality)

theorem Sound.monthCell (h : Sound o s) {c : Nat} : Sound o (s.monthCell c) := by
  unfold State.monthCell
  exact h.setQuality.ageCell

theorem execDriftMonthlyWrite_sound (h : Sound o s) : SoundOut o (execDriftMonthlyWrite s) := by
  unfold execDriftMonthlyWrite
  exact .next (.ite h ((h.elapse.update.each (fun _ _ hu => hu.monthCell)).flashJob))

theorem execCalDriftRead_sound (h : Sound o s) {tag : CmdTag} {cell outAddr : Nat} :
    SoundOut o (execCalDriftRead tag cell outAddr s) := by
  unfold execCalDriftRead
  exact .next (h.serve (fun _ hu => .ite hu.complete hu.outData.completeWith))

/-! #### Trims (R253) -/

theorem execTrimNvmWrite_sound (h : Sound o s) : SoundOut o (execTrimNvmWrite s) := by
  unfold execTrimNvmWrite
  exact .next (.ite h (.flashJob (.update (.ite h h.waitClk))))

/-! #### Reading of counters, snapshots and the event log (R364, R367, R374, R375) -/

theorem execCounterRecordRead_sound (h : Sound o s) {addr : Nat} : SoundOut o (execCounterRecordRead addr s) := by
  unfold execCounterRecordRead
  exact .next (h.hostRead (fun _ hu => hu.update))

theorem Sound.snapshot (h : Sound o s) {tag : CmdTag} {l : List (Nat × Nat)} {clear : Bool} {outAddr : Nat} :
    Sound o (s.snapshot tag l clear outAddr) := by
  unfold State.snapshot
  exact h.outData.update.completeWith

theorem execCntSnapshot_sound (h : Sound o s) {tag : CmdTag} {ranges : Option Bytes} {rangeCount : Nat} {clear : Bool}
    {outAddr : Nat} :
    SoundOut o (execCntSnapshot tag ranges rangeCount clear outAddr s) := by
  unfold execCntSnapshot
  refine .next (h.serve (fun _ hu => .ite hu.complete (.ite hu.complete ?_)))
  split
  · exact hu.complete
  · exact .ite hu.complete (.ite hu.complete (.ite hu.complete hu.snapshot))

theorem execReadLog_sound (h : Sound o s) {tag : CmdTag} {first count outAddr : Nat} :
    SoundOut o (execReadLog tag first count outAddr s) := by
  unfold execReadLog
  exact .next (h.serve (fun _ hu => .ite hu.complete hu.outData.completeWith))

theorem execLogTick_sound (h : Sound o s) : SoundOut o (execLogTick s) := by
  unfold execLogTick
  exact .next (.ite h.waitClk.update h.waitClk.update.flashJob)

/-! #### Check 11, and the order of Table 4.4 -/

theorem Sound.verdictFail (h : Sound o s) {src : Nat} {v : Verdict} : Sound o (s.verdictFail src v) := by
  unfold State.verdictFail
  exact h.update.raise

/-! #### Marks -/

theorem Sound.routeEnds (h : Sound o s) {n result time10ns : Nat} : Sound o (s.routeEnds n result time10ns) := h.update

/-! #### Requests (R126 to R132) -/

theorem Sound.routeQueue (h : Sound o s) {r : RouteReq} : Sound o (s.routeQueue r) := by
  unfold State.routeQueue
  exact .ite h.completeOpt h.update

theorem Sound.palGate (h : Sound o s) {tag : CmdTag} {n : Nat} {change : Bool} {f : State → State} (hf : ∀ u, Sound o
    u → Sound o (f u)) :
    Sound o (s.palGate tag n change f) := by
  unfold State.palGate
  exact .ite h.complete (.ite h.complete (.ite h.complete (hf _ h)))

theorem execSwatchWrite_sound (h : Sound o s) {tag : CmdTag} {swatch : Nat} {perm : Option Bytes} {pinCount : Nat}
    {pins : Option Bytes} {routeOnly : Bool} {outAddr : Nat} :
    SoundOut o (execSwatchWrite tag swatch perm pinCount pins routeOnly outAddr s) := by
  unfold execSwatchWrite
  refine .next (h.serve (fun _ hu => hu.palGate (fun _ hu1 => ?_)))
  split
  · exact .ite hu1.complete hu1.routeQueue
  · exact hu1.complete

theorem execSwatchLoad_sound (h : Sound o s) {tag : CmdTag} {swatch : Nat} {perm cells : Option Bytes} :
    SoundOut o (execSwatchLoad tag swatch perm cells s) := by
  unfold execSwatchLoad
  refine .next (h.serve (fun _ hu => hu.palGate (fun _ hu1 => ?_)))
  split
  · exact .ite hu1.complete hu1.routeQueue
  · exact hu1.complete

theorem Sound.routeWrite (h : Sound o s) {r : RouteReq} {perm : Tbl Nat} {pins : List Pin} {only : Bool} {addr : Nat} :
    Sound o (s.routeWrite r perm pins only addr).2 := by
  unfold State.routeWrite
  dsimp only
  split
  · exact h.completeOpt
  · split
    · exact h.completeOpt
    · refine .ite_snd h.completeOpt (.ite_snd h.completeOpt ?_)
      split
      · exact h.completeOpt
      · split
        · exact h.outData.completeWith
        · exact h.setSwatch.completeOpt

theorem Sound.routeLoad (h : Sound o s) {r : RouteReq} {perm : Tbl Nat} {cells : Nat} :
    Sound o (s.routeLoad r perm cells).2 := by
  unfold State.routeLoad
  split
  · exact h.completeOpt
  · split
    · exact h.completeOpt
    · refine .ite_snd h.completeOpt ?_
      split
      · exact h.completeOpt
      · split
        · exact h.completeOpt
        · exact h.setSwatch.completeOpt

theorem Sound.routeDo (h : Sound o s) {r : RouteReq} : Sound o (s.routeDo r).2 := by
  unfold State.routeDo
  split
  · exact h.routeWrite
  · exact h.routeLoad

theorem execRouteRequestDone_sound (h : Sound o s) {time10ns : Nat} : SoundOut o (execRouteRequestDone time10ns s) := by
  unfold execRouteRequestDone
  refine .next ?_
  split
  · exact .ite h h.update.routeDo.routeEnds
  · exact h

theorem execSwatchInvalidate_sound (h : Sound o s) {tag : CmdTag} {swatch : Nat} :
    SoundOut o (execSwatchInvalidate tag swatch s) := by
  unfold execSwatchInvalidate
  exact .next (h.serve (fun _ hu => hu.palGate (fun _ hu1 => hu1.setSwatch.complete)))

theorem execSwatchRead_sound (h : Sound o s) {tag : CmdTag} {swatch outAddr : Nat} :
    SoundOut o (execSwatchRead tag swatch outAddr s) := by
  unfold execSwatchRead
  exact .next (h.serve (fun _ hu => .ite hu.complete hu.outData.completeWith))

theorem execSwatchApply_sound (h : Sound o s) {tag : CmdTag} {swatch : Nat} {at_ : TimeWord} :
    SoundOut o (execSwatchApply tag swatch at_ s) := by
  unfold execSwatchApply
  exact .next (h.serve (fun _ hu => .ite hu.complete (.ite hu.complete (.ite hu.complete (.ite hu.complete (.ite
      hu.complete (.ite hu.complete (.ite hu.complete hu.update))))))))

/-! #### The stuck table (R133, R138 to R142, R551) -/

theorem Sound.markSwatches (h : Sound o s) {cell : Nat} {cross : Bool} : Sound o (s.markSwatches cell cross) := by
  unfold State.markSwatches
  exact h.update.each (fun _ _ hu => hu.raise)

theorem Sound.addStuck (h : Sound o s) {cell : Nat} {cross byHost mark : Bool} :
    Sound o (s.addStuck cell cross byHost mark) := by
  unfold State.addStuck
  exact .ite h.update.refreshCell (.ite h.update.refreshCell.markSwatches
      h.update.refreshCell.markSwatches.update.raise)

theorem execStuckAdd_sound (h : Sound o s) {tag : CmdTag} {cell state : Nat} :
    SoundOut o (execStuckAdd tag cell state s) := by
  unfold execStuckAdd
  refine .next (h.serve (fun _ hu => .ite hu.complete (.ite hu.complete ?_)))
  split
  · exact .ite hu.complete hu.addStuck.complete
  · exact .ite hu.raise.complete hu.addStuck.complete

theorem execStuckClear_sound (h : Sound o s) {tag : CmdTag} {cell : Nat} : SoundOut o (execStuckClear tag cell s) := by
  unfold execStuckClear
  exact .next (h.serve (fun _ hu => .ite hu.complete (.ite hu.complete (.ite hu.complete
      hu.update.refreshCell.complete))))

theorem Sound.routeCtl (h : Sound o s) {value : Word} : Sound o (s.routeCtl value) := by
  unfold State.routeCtl
  exact .ite h.raise h.setFld.setFld.setFld

theorem execRouteCtlWrite_sound (h : Sound o s) {value : Word} : SoundOut o (execRouteCtlWrite value s) := by
  unfold execRouteCtlWrite
  exact .next (h.hostAct (fun _ hu => hu.routeCtl))

theorem Sound.rerouteOne (h : Sound o s) {n : Nat} : Sound o (s.rerouteOne n) := by
  unfold State.rerouteOne
  exact .routeEnds (.ite h.setSwatch.update.raise h.setSwatch.update)

theorem execReroute_sound (h : Sound o s) : SoundOut o (execReroute s) := by
  unfold execReroute
  refine .next (.ite h ?_)
  split
  · exact h
  · exact .ite h.rerouteOne h.rerouteOne.update.raise

/-! #### Registers that the Canvas sets -/

theorem Sound.portQos (h : Sound o s) {p : Nat} : Sound o (s.portQos p) := by
  unfold State.portQos
  exact h.setFld.setFld.setFld.setFld

theorem Sound.geometryRegs (h : Sound o s) : Sound o s.geometryRegs := by
  unfold State.geometryRegs
  exact h.setFld.setFld.setFld.setFld

theorem Sound.loadThermal (h : Sound o s) : Sound o s.loadThermal := by
  unfold State.loadThermal
  exact h.setFld.setFld.setFld.setFld.setFld.setFld.setFld.setFld.setFld.update

theorem Sound.lockedValue (h : Sound o s) {r : Bytes} : Sound o (s.lockedValue r) := by
  unfold State.lockedValue
  exact .ite h.ordered.update.lasersRecheck (.ite h.update h.setRegWord)

theorem Sound.lockRecord (h : Sound o s) {r : Bytes} : Sound o (s.lockRecord r) := by
  unfold State.lockRecord
  exact h.lockedValue.update

theorem Sound.lockList (h : Sound o s) : Sound o s.lockList := by
  unfold State.lockList
  exact h.update.each (fun _ _ hu => hu.lockRecord)

theorem Sound.queueRegs (h : Sound o s) : Sound o s.queueRegs := by
  unfold State.queueRegs
  exact h.each (fun _ _ hu => hu.portQos)

theorem Sound.clearCanvasRegs (h : Sound o s) : Sound o s.clearCanvasRegs := by
  unfold State.clearCanvasRegs
  exact h.update.geometryRegs.queueRegs

/-! #### Sections -/

theorem Sound.portOffNow (h : Sound o s) {p : Nat} : Sound o (s.portOffNow p) := by
  unfold State.portOffNow
  exact h.linkDown.setPort.eachLane

theorem Sound.planPolicer (h : Sound o s) {i : Nat} : Sound o (s.planPolicer i) := by
  unfold State.planPolicer
  exact h.setPolicer

theorem Sound.planPolicers (h : Sound o s) : Sound o s.planPolicers := by
  unfold State.planPolicers
  exact (h.update.each (fun _ _ hu => hu.planPolicer)).update

theorem Sound.loadClassifier (h : Sound o s) : Sound o s.loadClassifier := by
  unfold State.loadClassifier
  exact h.update.clsChanged

theorem Sound.loadGraph (h : Sound o s) : Sound o s.loadGraph := h.update

theorem Sound.planLoops (h : Sound o s) : Sound o s.planLoops := by
  unfold State.planLoops
  exact h.each (fun _ _ hu => .ite hu hu.update)

theorem Sound.loadProgram (h : Sound o s) {u : Nat} : Sound o (s.loadProgram u) := by
  unfold State.loadProgram
  exact .ite h.update h.update

theorem Sound.swapPrograms (h : Sound o s) : Sound o s.swapPrograms := by
  unfold State.swapPrograms
  exact h.update.stopLanes

theorem Sound.planPrograms (h : Sound o s) : Sound o s.planPrograms := by
  unfold State.planPrograms
  exact .ite (.ite h.loadProgram h) (.swapPrograms (.loadProgram (.ite h.loadProgram h)))

theorem Sound.applyType (h : Sound o s) {t : Nat} : Sound o (s.applyType t) := by
  unfold State.applyType
  split
  · extract_lets ports
    exact h.update.updateView
  · extract_lets ports
    exact h.update.updateView
  · exact h.planLoops
  · exact h.planPrograms
  · exact h.loadGraph
  · exact h.loadClassifier
  · exact h.geometryRegs
  · exact h.queueRegs.planPolicers
  · exact h.loadSafety
  · exact h.loadThermal
  · exact h.lockList
  · exact h

/-! #### Activation -/

theorem Sound.activate (h : Sound o s) {img : Bytes} {source : Nat} {types : List Nat} :
    Sound o (s.activate img source types) := by
  unfold State.activate
  extract_lets old off s1 _ s2 s3 s4 s5
  have hs1 : Sound o s1 := h.each fun _ _ hu => hu.portOffNow
  have hs2 : Sound o s2 := hs1.update
  have hs3 : Sound o s3 := hs2.each fun _ _ hu => hu.applyType
  have hs4 : Sound o s4 := .ite hs3.reseed hs3
  have hs5 : Sound o s5 := .ite (hs4.each fun _ _ hu => hu.portStart) hs4
  exact hs5.settle

theorem Sound.raiseArb (h : Sound o s) {svn : Nat} : Sound o (s.raiseArb svn) := by
  unfold State.raiseArb
  exact .ite h.update.flashJob h

/-! #### Slots (R91, R92) -/

theorem Sound.setSlot (h : Sound o s) {b : Bool} {x : CanvasSlot} : Sound o (s.setSlot b x) := h.update

theorem Sound.writeSlot (h : Sound o s) {b : Bool} {img : Bytes} {marker : Bool} :
    Sound o (s.writeSlot b img marker) := by
  unfold State.writeSlot
  exact h.eraseSectors.setSlot

/-! #### The staged change (R95 to R100) -/

theorem execCanvasPrepare_sound (h : Sound o s) {tag : CmdTag} {image : Option Bytes} {len timeoutMs : Nat} {store :
    Bool} :
    SoundOut o (execCanvasPrepare tag image len timeoutMs store s) := by
  unfold execCanvasPrepare
  refine .next (h.serve (fun _ hu => .ite hu.complete (.ite hu.complete ?_)))
  split
  · exact hu.complete
  · exact .ite hu.verdictFail.complete (.complete (.update (.ite hu.writeSlot hu)))

theorem execCanvasCommit_sound (h : Sound o s) {tag : CmdTag} {at_ : TimeWord} :
    SoundOut o (execCanvasCommit tag at_ s) := by
  unfold execCanvasCommit
  dsimp only
  refine .next (h.serve (fun _ hu => ?_))
  split
  · exact hu.complete
  · exact .ite hu.complete (.ite hu.complete hu.update)

theorem Sound.commitRefused (h : Sound o s) {tag : CmdTag} {st : Staged} : Sound o (s.commitRefused tag st) := by
  unfold State.commitRefused
  exact h.complete.update

theorem Sound.commitDone (h : Sound o s) {tag : CmdTag} {cls : Nat} {store : Bool} :
    Sound o (s.commitDone tag cls store) := by
  unfold State.commitDone
  exact h.update.raise.complete

theorem Sound.activateStaged (h : Sound o s) {tag : CmdTag} {st : Staged} : Sound o (s.activateStaged tag st) := by
  unfold State.activateStaged
  extract_lets old types cls planned
  exact .ite h.commitRefused (.ite (.update (.ite (.activate (.raiseArb (.ite h.ordered.update.lasersRecheck.setSlot
      h.ordered.update.lasersRecheck))) (.update (.activate (.raiseArb (.ite h.ordered.update.lasersRecheck.setSlot
      h.ordered.update.lasersRecheck)))))) (.commitDone (.ite (.activate (.raiseArb (.ite
      h.ordered.update.lasersRecheck.setSlot h.ordered.update.lasersRecheck))) (.update (.activate (.raiseArb (.ite
      h.ordered.update.lasersRecheck.setSlot h.ordered.update.lasersRecheck)))))))

theorem execCanvasActivation_sound (h : Sound o s) : SoundOut o (execCanvasActivation s) := by
  unfold execCanvasActivation
  refine .next ?_
  split
  · exact h.waitTime.update.activateStaged
  · exact h

theorem execCanvasAbort_sound (h : Sound o s) {tag : CmdTag} : SoundOut o (execCanvasAbort tag s) := by
  unfold execCanvasAbort
  refine .next (h.serve (fun _ hu => ?_))
  split
  · exact hu.complete
  · exact hu.complete
  · exact hu.dropStaged.complete

theorem execCanvasTimeout_sound (h : Sound o s) : SoundOut o (execCanvasTimeout s) := by
  unfold execCanvasTimeout
  refine .next ?_
  split
  · split
    · exact h.waitClk.dropStaged.raise
    · exact h
  · exact h

theorem execDigestGraceExpire_sound (h : Sound o s) : SoundOut o (execDigestGraceExpire s) := by
  unfold execDigestGraceExpire
  refine .next ?_
  split
  · exact h.waitClk.update.updateView
  · exact h

/-! #### The copy in memory (R94) -/

theorem Sound.reloadCanvas (h : Sound o s) {b : Bool} : Sound o (s.reloadCanvas b) := by
  unfold State.reloadCanvas
  exact h.update.raise

theorem Sound.retained? (h : Sound o s) : Sound o (s.retained?).2 := by
  unfold State.retained?
  refine .ite_snd h (.ite_snd h ?_)
  split
  · exact h
  · split
    · exact h.reloadCanvas
    · exact h

theorem Sound.loseCanvas (h : Sound o s) {section_ : Nat} : Sound o (s.loseCanvas section_) := by
  have hs2 : Sound o (((s.raise 0x0019 [(4, s.canvasGen), (1, section_)]).autoMode .safe 3).each
      (((s.raise 0x0019 [(4, s.canvasGen), (1, section_)]).autoMode .safe 3).ports.map Prod.fst) State.portOffNow) :=
    h.raise.autoMode.each fun _ _ hu => hu.portOffNow
  unfold State.loseCanvas
  exact hs2.clearCanvasRegs.update.update.updateView

theorem Sound.checkCanvas (h : Sound o s) : Sound o s.checkCanvas := by
  unfold State.checkCanvas
  split
  · exact h
  · split
    · exact h.reloadCanvas
    · exact h.loseCanvas

theorem execCanvasDigestCheck_sound (h : Sound o s) : SoundOut o (execCanvasDigestCheck s) := by
  unfold execCanvasDigestCheck
  exact .next (.ite h h.waitClk.update.checkCanvas)

/-! #### Keys (R81) -/

theorem execKeyRevoke_sound (h : Sound o s) {tag : CmdTag} {index : Nat} : SoundOut o (execKeyRevoke tag index s) := by
  unfold execKeyRevoke
  exact .next (h.serve (fun _ hu => .ite hu.complete (.ite hu.complete hu.update.complete)))

/-! #### Units and their cores -/

theorem Sound.setUnit (h : Sound o s) {u : Nat} {x : CuUnit} : Sound o (s.setUnit u x) := by
  unfold State.setUnit
  exact .ite h.update h.update

theorem Sound.haltUnit (h : Sound o s) {u : Nat} : Sound o (s.haltUnit u) := h.update

theorem Sound.dropClaim (h : Sound o s) {u : Nat} : Sound o (s.dropClaim u) := h.update

theorem Sound.issueClaim (h : Sound o s) : Sound o s.issueClaim := h.update

theorem Sound.enterClaim (h : Sound o s) {u : Nat} : Sound o (s.enterClaim u) := h.update

/-! #### Program starts (R222) -/

theorem Sound.loadUser (h : Sound o s) {u : Nat} {lanes : List Nat} : Sound o (s.loadUser u lanes) := h.update

theorem Sound.startLane (h : Sound o s) {n : Nat} : Sound o (s.startLane n) := by
  unfold State.startLane
  exact h.setCore

theorem Sound.startUnit (h : Sound o s) : Sound o s.startUnit := by
  unfold State.startUnit
  exact (h.loadUser.each (fun _ _ hu => hu.startLane)).each (fun _ _ hu => hu.setCore)

/-! #### Checkpoints (R467) -/

theorem Sound.takeCheckpoint (h : Sound o s) : Sound o s.takeCheckpoint := by
  unfold State.takeCheckpoint
  exact .ite h.update.update h.update.update

theorem Sound.loadCheckpoint (h : Sound o s) {c : Checkpoint} : Sound o (s.loadCheckpoint c) := by
  unfold State.loadCheckpoint
  exact h.update.each (fun _ _ hu => hu.setCell)

theorem Sound.resumeFrom (h : Sound o s) : Sound o s.resumeFrom := by
  unfold State.resumeFrom
  split
  · exact h.loadCheckpoint
  · exact (h.each (fun _ _ hu => .ite hu hu.setCellState)).raise

/-! #### Failures -/

theorem Sound.failUnit (h : Sound o s) {u cause step : Nat} : Sound o (s.failUnit u cause step) := by
  unfold State.failUnit
  exact h.setUnit.haltUnit.dropClaim.holdMaster

theorem Sound.noStandbyNow (h : Sound o s) {u : Nat} : Sound o (s.noStandbyNow u) := by
  unfold State.noStandbyNow
  exact h.update.raise

theorem Sound.endRestore (h : Sound o s) {status : Nat} : Sound o (s.endRestore status) := by
  unfold State.endRestore
  split
  · exact h.setUnit.holdMaster.update.completeOpt
  · exact h

theorem Sound.endSwitching (h : Sound o s) {status : Nat} : Sound o (s.endSwitching status) := by
  unfold State.endSwitching
  split
  · exact h.setUnit.update.complete
  · exact h.setUnit.update
  · exact h

theorem Sound.declare (h : Sound o s) : Sound o s.declare := by
  unfold State.declare
  exact .ite h.endRestore.failUnit.update.raise.noStandbyNow
      h.endRestore.failUnit.update.raise.setUnit.freeMaster.update

/-! #### Heartbeats (R470) -/

theorem Sound.pathEvents (h : Sound o s) {path : Nat} {silent down fault : Bool} :
    Sound o (s.pathEvents path silent down fault) := by
  unfold State.pathEvents
  exact .ite (.raiseLim (.ite h.update h.update)) (.ite (.raiseLim (.ite h.update h.update)) h)

theorem execHeartbeatCheck_sound (h : Sound o s) {toggled : Bool} : SoundOut o (execHeartbeatCheck toggled s) := by
  unfold execHeartbeatCheck
  exact .next (.ite h (.ite h.waitClk.update.declare h.waitClk.update.pathEvents.pathEvents))

/-! #### The starting unit (R471, R476) -/

theorem Sound.startFails (h : Sound o s) {step : Nat} : Sound o (s.startFails step) := by
  unfold State.startFails
  dsimp only
  split
  · exact (h.failUnit.noStandbyNow.each (fun _ _ hu => .ite hu.update hu.update)).complete
  · exact h.failUnit.noStandbyNow

theorem execStartingUnitClaim_sound (h : Sound o s) {failStep : Option Nat} :
    SoundOut o (execStartingUnitClaim failStep s) := by
  unfold execStartingUnitClaim
  dsimp only
  refine .next ?_
  split
  · refine .ite h ?_
    split
    · exact h.waitClk.startFails
    · exact h.waitClk.resumeFrom.issueClaim
  · refine .ite h ?_
    split
    · exact h.waitClk.startFails
    · exact h.waitClk.resumeFrom.issueClaim
  · exact h

theorem execCuSwitch_sound (h : Sound o s) {tag : CmdTag} : SoundOut o (execCuSwitch tag s) := by
  unfold execCuSwitch
  exact .next (h.serve (fun _ hu => .ite hu.complete (.ite hu.complete (.ite hu.complete
      hu.setUnit.freeMaster.update))))

theorem Sound.resumeUnit (h : Sound o s) : Sound o s.resumeUnit := by
  unfold State.resumeUnit
  dsimp only
  split
  · exact .ite (.commitDone (.raise (.startUnit (.ite
      h.enterClaim.setUnit.update.dropClaim.haltUnit.setUnit.holdMaster.loadProgram
      h.enterClaim.setUnit.update.dropClaim.haltUnit.setUnit.holdMaster)))) (.complete (.raise (.startUnit (.ite
      h.enterClaim.setUnit.update.dropClaim.haltUnit.setUnit.holdMaster.loadProgram
      h.enterClaim.setUnit.update.dropClaim.haltUnit.setUnit.holdMaster))))
  · exact h.enterClaim.setUnit.update.startUnit.raise

/-! #### Restore (R477) -/

theorem execCuRestore_sound (h : Sound o s) {tag : CmdTag} {unit : Nat} : SoundOut o (execCuRestore tag unit s) := by
  unfold execCuRestore
  exact .next (h.serve (fun _ hu => .ite hu.complete (.ite hu.complete (.ite hu.complete (.ite hu.complete (.ite
      hu.complete hu.setUnit.update))))))

theorem execCuRestored_sound (h : Sound o s) {failStep : Option Nat} : SoundOut o (execCuRestored failStep s) := by
  unfold execCuRestored
  refine .next ?_
  split
  · exact h
  · split
    · exact h.update.failUnit.raise.completeOpt
    · exact h.update.setUnit.loadProgram.raise.completeOpt

theorem Sound.tieStep (h : Sound o s) : Sound o s.tieStep := by
  unfold State.tieStep
  exact .ite (.ite h h.failUnit.issueClaim.update) (.ite h.update.raise h)

/-! #### What a start ends and resets -/

theorem Sound.endCommands (h : Sound o s) : Sound o s.endCommands := by
  unfold State.endCommands
  exact (h.update.completeOpt.each (fun _ _ hu => hu.complete)).each (fun _ _ hu => hu.setRing)

theorem Sound.cutShort (h : Sound o s) : Sound o s.cutShort := by
  unfold State.cutShort
  exact h.endPendingMode.endApply.endCalRun.dropStaged.leaveConj.safStop.endLaserSet.endRestore.endSwitching.endCommands

/-- A store built by appending rises, and its keys lie below a bound that the next key meets. -/
theorem keysRise_append {α : Type} {t : Tbl α} {lo k : Nat} (h : keysRise lo t = true) (hlo : lo ≤ k)
    (hbelow : ∀ e ∈ t, e.1 < k) (v : α) : keysRise lo (t ++ [(k, v)]) = true := by
  induction t generalizing lo with
  | nil => simpa [keysRise] using hlo
  | cons e rest ih =>
    obtain ⟨hle, hrest⟩ := Bool.and_eq_true_iff.mp h
    simp only [List.cons_append, keysRise, hle, Bool.true_and]
    exact ih hrest (hbelow e List.mem_cons_self) fun x hx => hbelow x (List.mem_cons_of_mem _ hx)

/-- Rebuilding a rising store entry by entry, each at its own key and none at its reset word, keeps it canonical. -/
theorem canonical_rebuild {g : Nat × Word → Word} {l acc : Tbl Word} {lo : Nat} (hl : keysRise lo l = true)
    (hacc : keysRise 0 acc = true) (hbelow : ∀ e ∈ acc, e.1 < lo) (hne : noReset acc) :
    keysRise 0 (l.foldl (fun t e => if g e = resetWord e.1 then t else t ++ [(e.1, g e)]) acc) = true ∧
      noReset (l.foldl (fun t e => if g e = resetWord e.1 then t else t ++ [(e.1, g e)]) acc) := by
  induction l generalizing acc lo with
  | nil => exact ⟨hacc, hne⟩
  | cons e rest ih =>
    obtain ⟨hlo, hrest⟩ := Bool.and_eq_true_iff.mp hl
    have hle : lo ≤ e.1 := of_decide_eq_true hlo
    have hlt : ∀ x ∈ acc, x.1 < e.1 := fun x hx => (hbelow x hx).trans_le hle
    rw [List.foldl_cons]
    split
    · exact ih hrest hacc (fun x hx => (hlt x hx).trans (Nat.lt_succ_self _)) hne
    next hword =>
      refine ih hrest (keysRise_append hacc (Nat.zero_le _) hlt _) (fun x hx => ?_) (fun x hx => ?_) <;>
        rcases List.mem_append.mp hx with hx | hx
      · exact (hlt x hx).trans (Nat.lt_succ_self _)
      · rw [List.mem_singleton.mp hx]; exact Nat.lt_succ_self _
      · exact hne x hx
      · rw [List.mem_singleton.mp hx]; exact hword

theorem Sound.resetRegs (h : Sound o s) {warm : Bool} : Sound o (s.resetRegs warm) :=
  ⟨⟨h.1.1, fun ho => canonical_rebuild (h.1.2 ho).1 rfl (fun _ hx => nomatch hx) (fun _ hx => nomatch hx)⟩, h.2⟩

theorem Sound.loseFrames (h : Sound o s) : Sound o s.loseFrames := h.update

theorem Sound.clearPackets (h : Sound o s) : Sound o s.clearPackets := by
  unfold State.clearPackets
  exact h.loseFrames.update

theorem Sound.clearLight (h : Sound o s) : Sound o s.clearLight := by
  unfold State.clearLight
  exact h.toSafe.noSwatch.update

theorem Sound.clearUnits (h : Sound o s) {warm : Bool} : Sound o (s.clearUnits warm) := h.update

theorem Sound.clearBlocks (h : Sound o s) (hon : s.saf.lsrEn = 0) : Sound o s.clearBlocks :=
  h.toSlowClock.updateDark fun _ => hon

theorem Sound.resetDomains (h : Sound o s) {warm : Bool} : Sound o (s.resetDomains warm) := by
  have hon : (((s.cutShort.clearPackets.clearLight).clearUnits warm)).saf.lsrEn = 0 := by
    have hfoot := (State.clearUnits_footing s.cutShort.clearPackets.clearLight warm).trans
      ((State.clearLight_footing _).trans ((State.clearPackets_footing _).trans s.cutShort_footing))
    exact congrArg (·.saf.lsrEn) hfoot
  exact h.cutShort.clearPackets.clearLight.clearUnits.clearBlocks hon

/-! #### The beginning of a start -/

theorem Sound.resumeEvents (h : Sound o s) : Sound o s.resumeEvents := h.update

theorem Sound.coldBegin (h : Sound o s) : Sound o s.coldBegin := by
  unfold State.coldBegin
  exact h.update.resumeEvents.update

theorem Sound.recordBefore (h : Sound o s) : Sound o s.recordBefore := by
  unfold State.recordBefore
  exact .ite (.update (.ite h.update h)) (.ite h.update h)

theorem Sound.beginStart (h : Sound o s) {cause : Nat} : Sound o (s.beginStart cause) := by
  unfold State.beginStart
  extract_lets warm s1 s2 s3 s4
  have hs1 : Sound o s1 := h.resetDomains.resetRegs.recordBefore
  have hs2 : Sound o s2 := .ite hs1 hs1.coldBegin
  have hs3 : Sound o s3 := .ite hs2.geometryRegs.queueRegs hs2
  have hs4 : Sound o s4 := hs3.update
  exact hs4.raise

/-! #### Failures (R71) -/

theorem Sound.failStart (h : Sound o s) {code : Nat} : Sound o (s.failStart code) := by
  unfold State.failStart
  exact h.safStop.toSafe.update.raise.update

/-! #### The steps (Table 3.2, R62) -/

theorem Sound.turnCold (h : Sound o s) : Sound o s.turnCold := by
  unfold State.turnCold
  exact h.clearUnits.resetRegs.coldBegin.update

theorem Sound.tripAtStart (h : Sound o s) : Sound o s.tripAtStart := by
  unfold State.tripAtStart
  exact .ite h (.update (.ite h.addRecord h))

theorem Sound.discardTorn (h : Sound o s) : Sound o s.discardTorn := by
  unfold State.discardTorn
  split
  · exact h.update.bump.raise
  · exact h

theorem Sound.coldExchange (h : Sound o s) : Sound o s.coldExchange := by
  unfold State.coldExchange
  exact h.update.flashJob.raise

theorem Sound.step2 (h : Sound o s) : Sound o s.step2 := by
  have hread : Sound o (if s.tripAtStart.start.warm then s.tripAtStart.retained? else (true, s.tripAtStart)).2 :=
    .ite_snd h.tripAtStart.retained? h.tripAtStart
  unfold State.step2
  dsimp only
  generalize (if s.tripAtStart.start.warm then s.tripAtStart.retained? else (true, s.tripAtStart)) = r at hread ⊢
  have hcold : Sound o (if r.1 then r.2 else r.2.turnCold) := .ite hread hread.turnCold
  have hready : Ordered o (if r.1 then r.2 else r.2.turnCold).discardTorn.readySlots :=
      hcold.discardTorn.readySlots.ordered
  exact .ite (.lasersRecheck (.update hready)) (.coldExchange (.lasersRecheck (.update hready)))

theorem Sound.step3 (h : Sound o s) : Sound o s.step3 := by
  unfold State.step3
  exact .ite (.raise (.update (.ite h.update.freeMaster.freeMaster.freeMaster h.update))) (.ite
      h.update.freeMaster.freeMaster.freeMaster h.update)

theorem Sound.checkSlot (h : Sound o s) {b : Bool} : Sound o (s.checkSlot b) := by
  unfold State.checkSlot
  exact .ite h (.ite h h.verdictFail.raise)

theorem Sound.loadImage (h : Sound o s) {img : Bytes} {source : Nat} : Sound o (s.loadImage img source) := by
  unfold State.loadImage
  exact h.raiseArb.activate

theorem Sound.step4 (h : Sound o s) : Sound o (s.step4).2 := by
  unfold State.step4
  exact .ite_snd h.checkSlot.checkSlot.loadImage (.ite_snd h.checkSlot.checkSlot.loadImage h.checkSlot.checkSlot.update)

theorem Sound.step5 (h : Sound o s) : Sound o s.step5 := by
  unfold State.step5
  exact h.update.loadProgram.loadProgram

theorem Sound.step6 (h : Sound o s) : Sound o s.step6 := by
  unfold State.step6
  exact h.update.update.countPeriods

theorem Sound.step7 (h : Sound o s) : Sound o s.step7 := by
  unfold State.step7
  exact h.setFld.refStart.update

theorem Sound.step9 (h : Sound o s) : Sound o s.step9 := h.update

theorem Sound.loadCoefs (h : Sound o s) : Sound o s.loadCoefs := by
  unfold State.loadCoefs
  exact h.update.each (fun _ _ hu => hu.update)

theorem Sound.step10 (h : Sound o s) : Sound o s.step10 := by
  unfold State.step10
  dsimp only
  refine .ite ?_ (h.update.loadCoefs.each (fun _ _ hu => hu.resetCell))
  split
  · exact h.loadCoefs.loadCheckpoint
  · exact h.loadCoefs

theorem Sound.step11 (h : Sound o s) {u : Nat} : Sound o (s.step11 u) := by
  unfold State.step11
  exact .each (.update (.startUnit (.enterClaim (.issueClaim (.update (.loadProgram (.ite h.setUnit
      h.setUnit.setUnit))))))) (fun _ _ hu => hu.setCellState)

theorem Sound.step12 (h : Sound o s) : Sound o s.step12 := by
  unfold State.step12
  exact .toFastClock (.update (.ite h h.update))

theorem Sound.step15 (h : Sound o s) : Sound o s.step15 := by
  unfold State.step15
  exact h.trainPorts.update.freeMaster

theorem Sound.step16 (h : Sound o s) : Sound o s.step16 := by
  unfold State.step16
  exact .update (.ite h.update.update.planPolicers h.update.update.loadClassifier.loadGraph.planPolicers.update)

theorem Sound.startMode (h : Sound o s) : Sound o s.startMode := by
  unfold State.startMode
  extract_lets mode sw 
  split
  · exact h
  split
  · exact h
  next job r x s1 _ _ _ _ _ =>
  have hs1 : Sound o s1 := h.routeDo.routeEnds
  clear_value s1
  exact .ite hs1.update hs1

theorem Sound.startDone (h : Sound o s) : Sound o s.startDone := by
  unfold State.startDone
  exact h.update.raise.enterMode.startMode

/-! #### Running a start -/

theorem Sound.toStep (h : Sound o s) {n : Nat} : Sound o (s.toStep n) := h.update

theorem Sound.stepEnd (h : Sound o s) {n : Nat} : Sound o (s.stepEnd n).2 := by
  unfold State.stepEnd
  split
  · exact h.step2
  · exact h.step3
  · exact h.step4
  · exact h.step5
  · exact h.step6
  · exact h.step7
  · exact h.step9
  · exact .ite_snd h h.step10
  · split
    · exact h.step11
    · exact h
  · exact h.step12
  · exact h.safetyStartup
  · exact h.step15
  · exact h.step16
  · exact h

theorem Sound.stepOnce (h : Sound o s) : Sound o s.stepOnce := by
  unfold State.stepOnce
  extract_lets n
  refine .ite h (.ite h.update (.ite h.toStep ?_))
  split
  · exact h
  · refine .ite h.update.waitClk.failStart (.ite h.update.waitClk.failStart (.ite h.update.waitClk.failStart ?_))
    split
    · exact (h.update.waitClk.stepEnd.of_snd ‹_›).failStart
    · exact .ite (h.update.waitClk.stepEnd.of_snd ‹_›) (.ite ((h.update.waitClk.stepEnd.of_snd ‹_›).startDone)
        ((h.update.waitClk.stepEnd.of_snd ‹_›).toStep))

theorem Sound.runStart (h : Sound o s) {n : Nat} : Sound o (State.runStart n s) := by
  induction n generalizing s with
  | zero => exact h
  | succ n ih => exact ih h.stepOnce

theorem execStart_sound (h : Sound o s) {report : List StepResult} : SoundOut o (execStart report s) := by
  unfold execStart
  exact .next (.ite h.update.runStart h)

theorem execStartStepTimeout_sound (h : Sound o s) : SoundOut o (execStartStepTimeout s) := by
  unfold execStartStepTimeout
  exact .next (.ite h h.waitClk.failStart)

theorem execStartRetry_sound (h : Sound o s) : SoundOut o (execStartRetry s) := by
  unfold execStartRetry
  dsimp only
  refine .next ?_
  split
  · exact h
  · split
    · exact h.waitClk.beginStart
    · exact h.waitClk.update

theorem Sound.continueStart (h : Sound o s) : Sound o s.continueStart := by
  unfold State.continueStart
  exact .ite h.update.runStart h

theorem execStartContinue_sound (h : Sound o s) : SoundOut o (execStartContinue s) := by
  unfold execStartContinue
  exact .next (h.hostAct (fun _ hu => hu.continueStart))

theorem Sound.clearFails (h : Sound o s) : Sound o s.clearFails := h.update

theorem execResetModule_sound (h : Sound o s) {tag : CmdTag} {kind : Nat} :
    SoundOut o (execResetModule tag kind s) := by
  unfold execResetModule
  exact .next (h.serve (fun _ hu => .ite hu.complete (.ite hu.complete.clearFails.beginStart hu.complete.beginStart)))

/-! #### LOAD_CANVAS (R92) -/

theorem Sound.storeImage (h : Sound o s) {img : Bytes} : Sound o (s.storeImage img) := by
  unfold State.storeImage
  exact h.writeSlot

theorem execLoadCanvas_sound (h : Sound o s) {tag : CmdTag} {image : Option Bytes} {len : Nat} {store : Bool} :
    SoundOut o (execLoadCanvas tag image len store s) := by
  unfold execLoadCanvas
  refine .next (h.serve fun u hu => .ite hu.complete ?_)
  split
  · exact hu.complete
  next b _ =>
    have hstored (b : Bytes) : Sound o (if store = true then u.storeImage b else u) := .ite hu.storeImage hu
    refine .ite hu.verdictFail.complete (.ite ?_ (.ite ?_ (hstored _).complete))
    · exact (hstored _).loadImage.complete.update.toStep.runStart
    · exact .complete (.lasersRecheck (.update (hstored _).raiseArb.activate.ordered))

/-! #### RST_N (R67 to R69) -/

theorem Sound.linkLost_ (h : Sound o s) : Sound o s.linkLost_ := by
  unfold State.linkLost_
  exact (((((h.each (fun _ _ hu => hu.setFld)).each (fun _ _ hu =>
      hu.setFld.setFld)).update).holdMaster).holdMaster).holdMaster

theorem Sound.resetAsserted (h : Sound o s) : Sound o s.resetAsserted := by
  have hcourse : Sound o s.resetCourse.linkLost_ :=
    h.update.cutShort.dacClear.clearPackets.clearLight.clearUnits.toSlowClock.linkLost_
  exact hcourse.updateDark fun _ => congrArg (·.saf.lsrEn) s.resetCourse_footing

theorem Sound.wake (h : Sound o s) {src : Nat} : Sound o (s.wake src) := by
  unfold State.wake
  exact .ite h.update h.update.beginStart

theorem Sound.resetReleased (h : Sound o s) : Sound o s.resetReleased := by
  unfold State.resetReleased
  dsimp only
  split
  · exact h.dacRelease.runStart
  · exact .ite h.dacRelease.update (.ite h.dacRelease.update.update.wake h.dacRelease.update.update.beginStart)

theorem Sound.resetChatter (h : Sound o s) : Sound o s.resetChatter := by
  unfold State.resetChatter
  exact .ite h.update h.update.resetAsserted

theorem execRstNAssert_sound (h : Sound o s) {held : Nat} : SoundOut o (execRstNAssert held s) := by
  unfold execRstNAssert
  refine .next (.ite h ?_)
  split
  · exact h.edge.of_snd ‹_›
  · exact ((h.edge.of_snd ‹_›).elapse).resetAsserted
  · exact (h.edge.of_snd ‹_›).resetChatter

theorem execRstNRelease_sound (h : Sound o s) {held : Nat} : SoundOut o (execRstNRelease held s) := by
  unfold execRstNRelease
  refine .next (.ite h ?_)
  split
  · exact h.edge.of_snd ‹_›
  · exact ((h.edge.of_snd ‹_›).elapse).resetReleased
  · exact (h.edge.of_snd ‹_›).resetChatter

/-! #### Thresholds and sensors (R481 to R484) -/

theorem Sound.readSensor (h : Sound o s) {n : Nat} : Sound o (s.readSensor n) := by
  unfold State.readSensor
  exact .ite h.update h.update.raiseLim

/-! #### Die states (R485) -/

theorem Sound.setDieState (h : Sound o s) {die st : Nat} : Sound o (s.setDieState die st) := by
  unfold State.setDieState
  exact .ite h.update h.update

theorem Sound.setCoolSince (h : Sound o s) {die : Nat} {t : Option Nat} : Sound o (s.setCoolSince die t) := by
  unfold State.setCoolSince
  exact .ite h.update h.update

theorem Sound.throttleUpdate (h : Sound o s) : Sound o s.throttleUpdate := h.update

theorem Sound.dieRises (h : Sound o s) {die level n : Nat} {v : Int} : Sound o (s.dieRises die level n v) := by
  unfold State.dieRises
  exact ((h.each (fun _ _ hu => hu.raise)).setDieState).setCoolSince

theorem Sound.dieCools (h : Sound o s) {die : Nat} {v : Int} : Sound o (s.dieCools die v) := by
  unfold State.dieCools
  refine .ite h.setCoolSince ?_
  split
  · exact h.setCoolSince
  · exact .ite h h.setDieState.setCoolSince.raise

theorem Sound.judgeDie (h : Sound o s) {die : Nat} : Sound o (s.judgeDie die) := by
  unfold State.judgeDie
  split
  · exact h.setCoolSince
  · extract_lets level _ s1 st s2
    have hs1 : Sound o s1 := .ite h.update h.update
    have hs2 : Sound o s2 := .ite hs1.dieRises (.ite hs1.dieCools hs1)
    exact .ite hs2.setDieState hs2

/-! #### Shut-down (R488 to R490) -/

theorem Sound.shutdownPreempts (h : Sound o s) : Sound o s.shutdownPreempts := by
  unfold State.shutdownPreempts
  exact h.endPendingMode.endApply.endCalRun.safStop.endLaserSet.update.completeOpt.update

theorem Sound.shutdownStep1 (h : Sound o s) : Sound o s.shutdownStep1 := by
  unfold State.shutdownStep1
  dsimp only
  exact .update (.ite h.shutdownPreempts.toSafe.update (.ite h.shutdownPreempts.enterSafe h.shutdownPreempts.enterMode))

theorem Sound.beginShutdown (h : Sound o s) {cause dies sensor temp thr : Nat} :
    Sound o (s.beginShutdown cause dies sensor temp thr) := by
  unfold State.beginShutdown
  split
  · exact h.update
  · exact h.shutdownStep1.raise.update

theorem Sound.commitShutdown (h : Sound o s) {waited : Nat} : Sound o (s.commitShutdown waited) := by
  unfold State.commitShutdown
  split
  · exact h.addRecord.recordSettled
  · exact h

/-! #### Readings (R482) -/

theorem Sound.fastUpdate (h : Sound o s) : Sound o s.fastUpdate := h.update

theorem Sound.takeReading (h : Sound o s) : Sound o s.takeReading := by
  have hread : Sound o (s.each (List.range 96) State.readSensor) := h.each fun _ _ hu => hu.readSensor
  unfold State.takeReading
  dsimp only
  split
  · exact hread.update.judgeDie.judgeDie.fastUpdate.throttleUpdate.beginShutdown
  · exact hread.update.judgeDie.judgeDie.fastUpdate.throttleUpdate

theorem execThermalReading_sound (h : Sound o s) : SoundOut o (execThermalReading s) := by
  unfold execThermalReading
  refine .next (.ite h ?_)
  split
  · exact h.waitClk.takeReading
  · exact h

/-! #### The record and L5 -/

theorem execShutdownRecordWrite_sound (h : Sound o s) {waitedUs : Nat} :
    SoundOut o (execShutdownRecordWrite waitedUs s) := by
  unfold execShutdownRecordWrite
  refine .next ?_
  split
  · refine .ite h (.elapse (.commitShutdown (.elapse ?_)))
    split
    · exact h.update.programmed
    · exact h
  · exact h

theorem Sound.shutdownToL5 (h : Sound o s) : Sound o s.shutdownToL5 := by
  unfold State.shutdownToL5
  exact h.linkLost_.toSlowClock.photonicOff.iklOff.toSafe.update

theorem execShutdownComplete_sound (h : Sound o s) : SoundOut o (execShutdownComplete s) := by
  unfold execShutdownComplete
  refine .next ?_
  split
  · exact .ite h.waitClk.shutdownToL5 h
  · exact h

/-! #### The hardware trip (R490, R491) -/

theorem Sound.recordTrip (h : Sound o s) {die : Nat} : Sound o (s.recordTrip die) := h.update

theorem Sound.tripRecord (h : Sound o s) : Sound o s.tripRecord := by
  unfold State.tripRecord
  split
  · exact .ite h (.ite h.recordSettled h.update.commitShutdown.update)
  · exact h

theorem execTripComparatorFire_sound (h : Sound o s) {pDie : Bool} : SoundOut o (execTripComparatorFire pDie s) := by
  unfold execTripComparatorFire
  exact .next (.ite h (.ite h.recordTrip.setDieState.throttleUpdate
      h.recordTrip.setDieState.throttleUpdate.beginShutdown.tripRecord))

theorem execTripRestart_sound (h : Sound o s) {restartE restartP : Bool} :
    SoundOut o (execTripRestart restartE restartP s) := by
  unfold execTripRestart
  exact .next (.ite h h.update)

/-! #### VAON and the main rails (R52, R57, R59, R530 to R532) -/

theorem Sound.freshFilters (h : Sound o s) {first n : Nat} : Sound o (s.freshFilters first n) := by
  unfold State.freshFilters
  exact h.each (fun _ _ hu => hu.setFilter)

theorem Sound.vaonLost (h : Sound o s) : Sound o s.vaonLost :=
  ⟨⟨h.1.1, fun _ => ⟨rfl, fun e he => by simp [State.vaonLost] at he⟩⟩,
    fun _ => ⟨rfl, Nat.zero_sub _, fun hne => absurd rfl hne⟩⟩

theorem execVaonRise_sound (h : Sound o s) : SoundOut o (execVaonRise s) := by
  unfold execVaonRise
  exact .next (.ite h (.ite h.update.freshFilters h.update.freshFilters.beginStart))

theorem execVaonFall_sound (h : Sound o s) : SoundOut o (execVaonFall s) := by
  unfold execVaonFall
  exact .next (.ite h.vaonLost h)

theorem execMainRailsRise_sound (h : Sound o s) : SoundOut o (execMainRailsRise s) := by
  unfold execMainRailsRise
  exact .next (.ite h (.beginStart (.freshFilters (.update (.ite h.clearFails h)))))

theorem execRailUndervoltage_sound (h : Sound o s) {rail : Fin 6} {heldNs : Nat} :
    SoundOut o (execRailUndervoltage rail heldNs s) := by
  unfold execRailUndervoltage
  exact .next (.ite h h.elapse.resetAsserted.update)

theorem execVhtrRemoved_sound (h : Sound o s) : SoundOut o (execVhtrRemoved s) := by
  unfold execVhtrRemoved
  exact .next (.ite h (.ite h.update (.ite h.update.raise h.update.raise.autoMode)))

theorem execVsramLow_sound (h : Sound o s) : SoundOut o (execVsramLow s) := by
  unfold execVsramLow
  exact .next (.ite h.update h)

/-! #### Reference clocks (R53, R533) -/

theorem Sound.switchRef (h : Sound o s) {n reason : Nat} : Sound o (s.switchRef n reason) := by
  unfold State.switchRef
  exact h.update.setFld.raise

theorem Sound.refAct (h : Sound o s) : Sound o s.refAct := by
  unfold State.refAct
  exact .ite (.ite h h.update.setUnset.raise.exclusionCheck) (.ite h.switchRef (.ite h.switchRef h.update))

theorem execRefclkCheck_sound (h : Sound o s) {ppmA ppmB : Option Int} : SoundOut o (execRefclkCheck ppmA ppmB s) := by
  unfold execRefclkCheck
  exact .next (.ite h (.ite h.waitClk.update.update h.waitClk.update.refAct))

/-! #### Stuck inputs and recoveries (R511) -/

theorem execInputStuckTimeout_sound (h : Sound o s) {input : Fin 14} : SoundOut o (execInputStuckTimeout input s) := by
  unfold execInputStuckTimeout
  dsimp only
  refine .next ?_
  split
  · exact h
  · exact .ite h (.ite h.waitClk.update (.ite h.waitClk.resetFaultNow (.ite h.waitClk.setFilter.clrInputFault
      h.waitClk.setFilter.raiseLim)))

theorem execInputRecovery_sound (h : Sound o s) {input : Fin 14} : SoundOut o (execInputRecovery input s) := by
  unfold execInputRecovery
  exact .next (.ite h (.ite h.waitClk.setFilter.guardUpdate (.ite h.waitClk.setFilter.update (.ite
      h.waitClk.setFilter.update.dacRelease (.ite h.waitClk.setFilter.resetReleased h.waitClk.setFilter)))))

/-! #### SMBus (R450, R516) -/

theorem Sound.smbusReply (h : Sound o s) {b : Bytes} : Sound o (s.smbusReply b) := by
  unfold State.smbusReply
  exact .ite h.emit h

theorem execSmbusIdentRead_sound (h : Sound o s) : SoundOut o (execSmbusIdentRead s) := by
  unfold execSmbusIdentRead
  exact .next h.smbusReply

theorem execSmbusThermalRead_sound (h : Sound o s) : SoundOut o (execSmbusThermalRead s) := by
  unfold execSmbusThermalRead
  exact .next h.smbusReply

theorem execSmbusSafetyRead_sound (h : Sound o s) : SoundOut o (execSmbusSafetyRead s) := by
  unfold execSmbusSafetyRead
  exact .next h.smbusReply

theorem execSmbusStatusRead_sound (h : Sound o s) : SoundOut o (execSmbusStatusRead s) := by
  unfold execSmbusStatusRead
  exact .next h.smbusReply

theorem execSmbusWake_sound (h : Sound o s) {value : Byte} : SoundOut o (execSmbusWake value s) := by
  unfold execSmbusWake
  exact .next (.ite h h.wake)

/-! #### JTAG (R547) -/

theorem Sound.jtagTake (h : Sound o s) {n : Nat} {drives : Bool} : Sound o (s.jtagTake n drives) := by
  unfold State.jtagTake
  exact .ite h.update h

theorem execJtagBypass_sound (h : Sound o s) : SoundOut o (execJtagBypass s) := by
  unfold execJtagBypass
  exact .next h.jtagTake

theorem execJtagIdcode_sound (h : Sound o s) : SoundOut o (execJtagIdcode s) := by
  unfold execJtagIdcode
  exact .next (.ite h.jtagTake.emit h)

theorem execJtagSamplePreload_sound (h : Sound o s) : SoundOut o (execJtagSamplePreload s) := by
  unfold execJtagSamplePreload
  exact .next h.jtagTake

theorem execJtagExtest_sound (h : Sound o s) : SoundOut o (execJtagExtest s) := by
  unfold execJtagExtest
  exact .next h.jtagTake

theorem execJtagExtestPulse_sound (h : Sound o s) : SoundOut o (execJtagExtestPulse s) := by
  unfold execJtagExtestPulse
  exact .next h.jtagTake

theorem execJtagExtestTrain_sound (h : Sound o s) : SoundOut o (execJtagExtestTrain s) := by
  unfold execJtagExtestTrain
  exact .next h.jtagTake

/-! #### NOP and CX_STATE (R445, R446) -/

theorem execCxNop_sound (h : Sound o s) {tag : CmdTag} : SoundOut o (execCxNop tag s) := by
  unfold execCxNop
  exact .next h.begin.complete

theorem execCxStateRead_sound (h : Sound o s) {tag : CmdTag} {outAddr : Nat} :
    SoundOut o (execCxStateRead tag outAddr s) := by
  unfold execCxStateRead
  exact .next (h.serve (fun _ hu => hu.outData.completeWith))

/-! #### The catalogue (R445) -/

theorem Sound.afterOf {r : Host.Outcome State Fault Refusal} (h : SoundOut o r) : Sound o (afterOf s r) := by
  obtain ⟨t, rfl, ht⟩ := h
  exact ht

theorem Sound.runGen (h : Sound o s) {tag : CmdTag} {op : Nat} {p : Bytes} {e : CmdEntry} :
    Sound o (s.runGen tag op p e) := by
  unfold State.runGen
  extract_lets n t
  refine .afterOf ?_
  split
  · exact execCxNop_sound h
  · exact execSetMode_sound h
  · exact execSetPower_sound h
  · exact execResetModule_sound h
  · exact execLoadCanvas_sound h
  · exact execCanvasPrepare_sound h
  · exact execCanvasCommit_sound h
  · exact execCanvasAbort_sound h
  · exact execKeyRevoke_sound h
  · exact execReadLog_sound h
  · exact execCxStateRead_sound h

theorem Sound.runMid (h : Sound o s) {tag : CmdTag} {op : Nat} {p : Bytes} {e : CmdEntry} :
    Sound o (s.runMid tag op p e) := by
  unfold State.runMid
  extract_lets n t
  refine .afterOf ?_
  split
  · exact execSafLaserSet_sound h
  · exact execShutdownRead_sound h
  · exact execTimeOffset_sound h
  · exact execTimeConfirm_sound h
  · exact execTimeSet_sound h
  · exact execConjPropose_sound h
  · exact execConjAbort_sound h
  · exact execIklViewRead_sound h
  · exact execIklTunnelSend_sound h
  · exact execCuRestore_sound h
  · exact execCuSwitch_sound h
  · exact execCalRun_sound h
  · exact execCalDriftRead_sound h

theorem Sound.runLight (h : Sound o s) {tag : CmdTag} {op : Nat} {p : Bytes} {e : CmdEntry} :
    Sound o (s.runLight tag op p e) := by
  unfold State.runLight
  extract_lets n t
  refine .afterOf ?_
  split
  · exact execSwatchWrite_sound h
  · exact execSwatchLoad_sound h
  · exact execSwatchInvalidate_sound h
  · exact execSwatchRead_sound h
  · exact execSwatchApply_sound h
  · exact execStuckAdd_sound h
  · exact execStuckClear_sound h
  · exact execOrbitPrepare_sound h
  · exact execOrbitCommit_sound h
  · exact execOrbitAbort_sound h
  · exact execOrbitRead_sound h

theorem Sound.runPacket (h : Sound o s) {tag : CmdTag} {op : Nat} {p : Bytes} {e : CmdEntry} :
    Sound o (s.runPacket tag op p e) := by
  unfold State.runPacket
  extract_lets n t buf
  refine .afterOf ?_
  split
  · exact execClsRuleWrite_sound h
  · exact execClsRuleDelete_sound h
  · exact execClsRangeWrite_sound h
  · exact execClsRuleRead_sound h
  · exact execFdbSearch_sound h
  · exact execFdbNext_sound h
  · exact execFdbInsert_sound h
  · exact execFdbDelete_sound h
  · exact execFdbFlushByPort_sound h
  · exact execFidWrite_sound h
  · exact execFidRead_sound h
  · exact execPolWrite_sound h
  · exact execPortGateWrite_sound h
  · exact execPortGateCancel_sound h
  · exact execCntSnapshot_sound h

theorem Sound.runEntry (h : Sound o s) {tag : CmdTag} {raw : Bytes} {e : CmdEntry} :
    Sound o (s.runEntry tag raw e) := by
  unfold State.runEntry
  extract_lets op p
  split
  · exact h.begin.complete
  · refine .ite h.begin.complete ?_
    split
    · exact h.begin.complete
    · exact .ite h.begin.complete (.ite h.runGen (.ite h.runMid (.ite h.runLight h.runPacket)))

/-! #### Consumption (R433, R434, R436, R437) -/

theorem Sound.ringStop (h : Sound o s) {r : Nat} {f : Nat × Nat} : Sound o (s.ringStop r f) := by
  unfold State.ringStop
  exact h.setRing.ringFault

theorem Sound.accept (h : Sound o s) {r : Fin 16} {raw : Bytes} {e : CmdEntry} : Sound o (s.accept r raw e) := by
  unfold State.accept
  dsimp only
  split
  · exact h.setRing.bump.postCompletion
  · exact h.setRing.runEntry

theorem Sound.consumeOne (h : Sound o s) {r : Fin 16} : SoundOpt o (fun t => t) (s.consumeOne r) := by
  unfold State.consumeOne
  refine .ite .none ?_
  split
  · exact .none
  · split
    · exact .some h.ringStop
    · exact .ite (.some h.ringStop) (.ite .none (.some h.accept))

theorem Sound.consume (h : Sound o s) {r : Fin 16} {n : Nat} : Sound o (State.consume r n s) := by
  induction n generalizing s with
  | zero => exact h
  | succ n ih =>
    rw [State.consume]
    split
    · exact ih (h.consumeOne _ ‹_›)
    · exact h

theorem Sound.ringRun (h : Sound o s) {r : Fin 16} : Sound o (s.ringRun r) := by
  unfold State.ringRun
  exact h.consume

theorem Sound.flushHeld (h : Sound o s) {r : Nat} {l : List Completion} : Sound o (State.flushHeld r l s) := by
  induction l generalizing s with
  | nil => exact h.setRing
  | cons c rest ih =>
    rw [State.flushHeld]
    exact .ite (ih h.hostWrite.coalesce) h.setRing

theorem Sound.ringGo (h : Sound o s) {r : Fin 16} : Sound o (s.ringGo r) := by
  unfold State.ringGo
  exact h.flushHeld.ringRun

theorem Sound.ringsGo (h : Sound o s) : Sound o s.ringsGo := by
  unfold State.ringsGo
  exact h.each (fun _ _ hu => hu.ringGo)

theorem Sound.sqRing (h : Sound o s) {r : Fin 16} {value : Nat} {entries : List CmdEntry} :
    Sound o (s.sqRing r value entries) := by
  unfold State.sqRing
  exact .ite h.doorbellBad h.setRing.ringRun

theorem execSqDoorbell_sound (h : Sound o s) {ring : Fin 16} {value : Word} {entries : List CmdEntry} :
    SoundOut o (execSqDoorbell ring value entries s) := by
  unfold execSqDoorbell
  exact .next (h.hostAct (fun _ hu => hu.sqRing))

theorem Sound.cqRing (h : Sound o s) {r : Fin 16} {value : Nat} : Sound o (s.cqRing r value) := by
  unfold State.cqRing
  exact h.setRing.ringGo

theorem execCqDoorbell_sound (h : Sound o s) {ring : Fin 16} {value : Word} :
    SoundOut o (execCqDoorbell ring value s) := by
  unfold execCqDoorbell
  exact .next (h.hostAct (fun _ hu => hu.cqRing))

theorem Sound.ringOn (h : Sound o s) {r : Fin 16} : Sound o (s.ringOn r) := by
  unfold State.ringOn
  exact .ite h h.setFld.setRing.ringGo

theorem execRingEnable_sound (h : Sound o s) {ring : Fin 16} : SoundOut o (execRingEnable ring s) := by
  unfold execRingEnable
  exact .next (h.hostAct (fun _ hu => hu.ringOn))

theorem execRingDisable_sound (h : Sound o s) {ring : Fin 16} : SoundOut o (execRingDisable ring s) := by
  unfold execRingDisable
  exact .next (h.hostAct (fun _ hu => hu.setFld))

theorem Sound.ringAgain (h : Sound o s) {r : Fin 16} {entries : List CmdEntry} : Sound o (s.ringAgain r entries) := by
  unfold State.ringAgain
  exact .ite h.setRing.ringRun h

theorem execRingResume_sound (h : Sound o s) {ring : Fin 16} {entries : List CmdEntry} :
    SoundOut o (execRingResume ring entries s) := by
  unfold execRingResume
  exact .next (h.hostAct (fun _ hu => hu.ringAgain))

theorem execEvtDoorbell_sound (h : Sound o s) {value : Word} : SoundOut o (execEvtDoorbell value s) := by
  unfold execEvtDoorbell
  exact .next (h.hostAct (fun _ hu => hu.update))

/-! #### Coalescing and progress (R429, R443) -/

theorem execCoalesceTimeout_sound (h : Sound o s) {source : Nat} : SoundOut o (execCoalesceTimeout source s) := by
  unfold execCoalesceTimeout
  exact .next (.ite h h.waitClk.update.raiseVector)

theorem execCxProgress_sound (h : Sound o s) {ring : Fin 16} {ringSeq : Nat} :
    SoundOut o (execCxProgress ring ringSeq s) := by
  unfold execCxProgress
  dsimp only
  refine .next ?_
  split
  · exact h
  · exact h.waitClk.setRing.raise

/-! #### The host link (R70, R427, R430) -/

theorem Sound.linkBack (h : Sound o s) : Sound o s.linkBack := by
  unfold State.linkBack
  exact .ite h h.update.freeMaster.freeMaster.freeMaster.ringsGo

theorem execPerstNAssert_sound (h : Sound o s) : SoundOut o (execPerstNAssert s) := by
  unfold execPerstNAssert
  exact .next (.ite h.update.linkLost_ h.update)

theorem execPerstNDeassert_sound (h : Sound o s) : SoundOut o (execPerstNDeassert s) := by
  unfold execPerstNDeassert
  exact .next (.ite h (.ite h.update (.ite h.update.wake h.update.linkBack)))

theorem execPcieFunctionReset_sound (h : Sound o s) {linkDown : Bool} :
    SoundOut o (execPcieFunctionReset linkDown s) := by
  unfold execPcieFunctionReset
  exact .next (.ite h (.ite h.linkLost_ h.linkLost_.linkBack))

theorem execBusMasterEnableClear_sound (h : Sound o s) : SoundOut o (execBusMasterEnableClear s) := by
  unfold execBusMasterEnableClear
  exact .next h.update

theorem execBusMasterEnableSet_sound (h : Sound o s) : SoundOut o (execBusMasterEnableSet s) := by
  unfold execBusMasterEnableSet
  exact .next (.ite h h.linkBack.update.ringsGo)

theorem execD3hotTransition_sound (h : Sound o s) {into : Bool} : SoundOut o (execD3hotTransition into s) := by
  unfold execD3hotTransition
  exact .next (.ite h.update h.update.ringsGo)

/-! #### Control (Table 9.5) -/

theorem execNop_sound (h : Sound o s) {c : CoreRef} : SoundOut o (execNop c s) := by
  unfold execNop
  exact .next h.alu

theorem execHalt_sound (h : Sound o s) {c : CoreRef} : SoundOut o (execHalt c s) := by
  unfold execHalt
  exact .next (h.issue (fun _ => .trap))

theorem Sound.jumpSlots (h : Sound o s) {c : CoreRef} {w : Cores} {f : Core → Option Core} :
    Sound o (s.jumpSlots c w f) := by
  unfold State.jumpSlots
  refine h.issue (fun _ => ?_)
  split
  · exact .go h
  · exact .trap

theorem execBr_sound (h : Sound o s) {c : CoreRef} {cond t : Nat} : SoundOut o (execBr c cond t s) := by
  unfold execBr
  exact .next h.jumpSlots

theorem execCall_sound (h : Sound o s) {c : CoreRef} {t : Nat} : SoundOut o (execCall c t s) := by
  unfold execCall
  exact .next h.jumpSlots

theorem execJr_sound (h : Sound o s) {c : CoreRef} {a : Fin 16} : SoundOut o (execJr c a s) := by
  unfold execJr
  exact .next h.jumpSlots

theorem execRet_sound (h : Sound o s) {c : CoreRef} : SoundOut o (execRet c s) := by
  unfold execRet
  exact .next h.jumpSlots

theorem execReti_sound (h : Sound o s) {c : CoreRef} : SoundOut o (execReti c s) := by
  unfold execReti
  exact .next h.jumpSlots

theorem Sound.beginRepeat (h : Sound o s) {x : Core} {n len : Nat} : SoundRan o (Core.beginRepeat x n len s) := by
  unfold Core.beginRepeat
  exact .ite (.ite .trap (.ite (.jump h) (.go h))) (.ite (.jump h) (.go h))

theorem execRepeat_sound (h : Sound o s) {c : CoreRef} {n len : Nat} : SoundOut o (execRepeat c n len s) := by
  unfold execRepeat
  exact .next (h.issue (fun _ => h.beginRepeat))

theorem execRepeatr_sound (h : Sound o s) {c : CoreRef} {a : Fin 16} {len : Nat} :
    SoundOut o (execRepeatr c a len s) := by
  unfold execRepeatr
  exact .next (h.issue (fun _ => h.beginRepeat))

theorem execWaitp_sound (h : Sound o s) {c : CoreRef} : SoundOut o (execWaitp c s) := by
  unfold execWaitp
  exact .next (h.issue (fun _ => .ite (.stay h) (.stay h)))

theorem execWaite_sound (h : Sound o s) {c : CoreRef} : SoundOut o (execWaite c s) := by
  unfold execWaite
  exact .next (h.issue (fun _ => .ite (.go h) (.stay h)))

theorem execWaits_sound (h : Sound o s) {c : CoreRef} {a : Fin 16} {n : Nat} : SoundOut o (execWaits c a n s) := by
  unfold execWaits
  exact .next (h.issue (fun _ => .ite (.go h) (.stay h)))

theorem execBkpt_sound (h : Sound o s) {c : CoreRef} : SoundOut o (execBkpt c s) := by
  unfold execBkpt
  exact .next (h.issue (fun _ => .ite (.go h) .trap))

/-! #### Register instructions (Table 9.6) -/

theorem execMov_sound (h : Sound o s) {c : CoreRef} {d a : Fin 16} : SoundOut o (execMov c d a s) := by
  unfold execMov
  exact .next h.alu

theorem execLi_sound (h : Sound o s) {c : CoreRef} {d : Fin 16} {imm : Word} : SoundOut o (execLi c d imm s) := by
  unfold execLi
  exact .next h.alu

theorem execAdd_sound (h : Sound o s) {c : CoreRef} {d a b : Fin 16} : SoundOut o (execAdd c d a b s) := by
  unfold execAdd
  exact .next h.alu

theorem execAddi_sound (h : Sound o s) {c : CoreRef} {d a : Fin 16} {imm : Word} :
    SoundOut o (execAddi c d a imm s) := by
  unfold execAddi
  exact .next h.alu

theorem execSub_sound (h : Sound o s) {c : CoreRef} {d a b : Fin 16} : SoundOut o (execSub c d a b s) := by
  unfold execSub
  exact .next h.alu

theorem execNeg_sound (h : Sound o s) {c : CoreRef} {d a : Fin 16} : SoundOut o (execNeg c d a s) := by
  unfold execNeg
  exact .next h.alu

theorem execAbs_sound (h : Sound o s) {c : CoreRef} {d a : Fin 16} : SoundOut o (execAbs c d a s) := by
  unfold execAbs
  exact .next h.alu

theorem execMull_sound (h : Sound o s) {c : CoreRef} {d a b : Fin 16} : SoundOut o (execMull c d a b s) := by
  unfold execMull
  exact .next h.alu

theorem execAnd_sound (h : Sound o s) {c : CoreRef} {d a b : Fin 16} : SoundOut o (execAnd c d a b s) := by
  unfold execAnd
  exact .next h.alu

theorem execAndi_sound (h : Sound o s) {c : CoreRef} {d a : Fin 16} {imm : Word} :
    SoundOut o (execAndi c d a imm s) := by
  unfold execAndi
  exact .next h.alu

theorem execOr_sound (h : Sound o s) {c : CoreRef} {d a b : Fin 16} : SoundOut o (execOr c d a b s) := by
  unfold execOr
  exact .next h.alu

theorem execOri_sound (h : Sound o s) {c : CoreRef} {d a : Fin 16} {imm : Word} : SoundOut o (execOri c d a imm s) := by
  unfold execOri
  exact .next h.alu

theorem execXor_sound (h : Sound o s) {c : CoreRef} {d a b : Fin 16} : SoundOut o (execXor c d a b s) := by
  unfold execXor
  exact .next h.alu

theorem execXori_sound (h : Sound o s) {c : CoreRef} {d a : Fin 16} {imm : Word} :
    SoundOut o (execXori c d a imm s) := by
  unfold execXori
  exact .next h.alu

theorem execSll_sound (h : Sound o s) {c : CoreRef} {d a : Fin 16} {sh : Nat} : SoundOut o (execSll c d a sh s) := by
  unfold execSll
  exact .next h.alu

theorem execSrl_sound (h : Sound o s) {c : CoreRef} {d a : Fin 16} {sh : Nat} : SoundOut o (execSrl c d a sh s) := by
  unfold execSrl
  exact .next h.alu

theorem execSra_sound (h : Sound o s) {c : CoreRef} {d a : Fin 16} {sh : Nat} : SoundOut o (execSra c d a sh s) := by
  unfold execSra
  exact .next h.alu

theorem execRsh_sound (h : Sound o s) {c : CoreRef} {d a : Fin 16} {sh : Nat} : SoundOut o (execRsh c d a sh s) := by
  unfold execRsh
  exact .next h.alu

theorem Sound.freeReg (h : Sound o s) {x : Core} {d : Fin 16} : SoundRan o (s.freeReg x d) := by
  unfold State.freeReg
  exact .go h.update

theorem execShv_sound (h : Sound o s) {c : CoreRef} {d a b : Fin 16} : SoundOut o (execShv c d a b s) := by
  unfold execShv
  exact .next (h.issue (fun _ => .ite h.freeReg (.ite (.go h) (.go h))))

theorem execCmp_sound (h : Sound o s) {c : CoreRef} {a b : Fin 16} : SoundOut o (execCmp c a b s) := by
  unfold execCmp
  exact .next h.alu

theorem execCmpi_sound (h : Sound o s) {c : CoreRef} {a : Fin 16} {imm : Word} : SoundOut o (execCmpi c a imm s) := by
  unfold execCmpi
  exact .next h.alu

theorem execTst_sound (h : Sound o s) {c : CoreRef} {a b : Fin 16} : SoundOut o (execTst c a b s) := by
  unfold execTst
  exact .next h.alu

theorem execMin_sound (h : Sound o s) {c : CoreRef} {d a b : Fin 16} : SoundOut o (execMin c d a b s) := by
  unfold execMin
  exact .next h.alu

theorem execMax_sound (h : Sound o s) {c : CoreRef} {d a b : Fin 16} : SoundOut o (execMax c d a b s) := by
  unfold execMax
  exact .next h.alu

theorem execClamp_sound (h : Sound o s) {c : CoreRef} {d a b : Fin 16} : SoundOut o (execClamp c d a b s) := by
  unfold execClamp
  exact .next h.alu

theorem execSel_sound (h : Sound o s) {c : CoreRef} {d a b : Fin 16} {cond : Nat} :
    SoundOut o (execSel c d a b cond s) := by
  unfold execSel
  refine .next (h.issue (fun _ => ?_))
  split
  · exact .go h
  · exact .trap

theorem execClz_sound (h : Sound o s) {c : CoreRef} {d a : Fin 16} : SoundOut o (execClz c d a s) := by
  unfold execClz
  exact .next h.alu

theorem execExt_sound (h : Sound o s) {c : CoreRef} {d a : Fin 16} {lsb w : Nat} :
    SoundOut o (execExt c d a lsb w s) := by
  unfold execExt
  exact .next (h.issue (fun _ => .ite (.go h) h.freeReg))

theorem execExts_sound (h : Sound o s) {c : CoreRef} {d a : Fin 16} {lsb w : Nat} :
    SoundOut o (execExts c d a lsb w s) := by
  unfold execExts
  exact .next (h.issue (fun _ => .ite (.go h) h.freeReg))

theorem execIns_sound (h : Sound o s) {c : CoreRef} {d a : Fin 16} {lsb w : Nat} :
    SoundOut o (execIns c d a lsb w s) := by
  unfold execIns
  exact .next (h.issue (fun _ => .ite (.go h) h.freeReg))

/-! #### Accumulators (Table 9.7) -/

theorem execMpa_sound (h : Sound o s) {c : CoreRef} {ac : Fin 2} {a b : Fin 16} : SoundOut o (execMpa c ac a b s) := by
  unfold execMpa
  exact .next h.alu

theorem execMac_sound (h : Sound o s) {c : CoreRef} {ac : Fin 2} {a b : Fin 16} : SoundOut o (execMac c ac a b s) := by
  unfold execMac
  exact .next h.alu

theorem execMsu_sound (h : Sound o s) {c : CoreRef} {ac : Fin 2} {a b : Fin 16} : SoundOut o (execMsu c ac a b s) := by
  unfold execMsu
  exact .next h.alu

theorem execMpai_sound (h : Sound o s) {c : CoreRef} {ac : Fin 2} {a : Fin 16} {imm : Word} :
    SoundOut o (execMpai c ac a imm s) := by
  unfold execMpai
  exact .next h.alu

theorem execMaci_sound (h : Sound o s) {c : CoreRef} {ac : Fin 2} {a : Fin 16} {imm : Word} :
    SoundOut o (execMaci c ac a imm s) := by
  unfold execMaci
  exact .next h.alu

theorem execMpr_sound (h : Sound o s) {c : CoreRef} {ac : Fin 2} {a b cc : Fin 16} {k : Fin 4} :
    SoundOut o (execMpr c ac a b cc k s) := by
  unfold execMpr
  exact .next h.alu

theorem execMsr_sound (h : Sound o s) {c : CoreRef} {ac : Fin 2} {a b cc : Fin 16} {k : Fin 4} :
    SoundOut o (execMsr c ac a b cc k s) := by
  unfold execMsr
  exact .next h.alu

theorem execMar_sound (h : Sound o s) {c : CoreRef} {ac : Fin 2} {a b cc : Fin 16} {k : Fin 4} :
    SoundOut o (execMar c ac a b cc k s) := by
  unfold execMar
  exact .next h.alu

theorem execClra_sound (h : Sound o s) {c : CoreRef} {ac : Fin 2} : SoundOut o (execClra c ac s) := by
  unfold execClra
  exact .next h.alu

theorem Sound.freeAcc (h : Sound o s) {x : Core} {ac : Fin 2} : SoundRan o (s.freeAcc x ac) := by
  unfold State.freeAcc
  exact .go h.update.update.update

theorem execAdda_sound (h : Sound o s) {c : CoreRef} {ac : Fin 2} {a : Fin 16} {sh : Nat} :
    SoundOut o (execAdda c ac a sh s) := by
  unfold execAdda
  exact .next (h.issue (fun _ => .ite h.freeAcc (.go h)))

theorem execAddaa_sound (h : Sound o s) {c : CoreRef} {ac ac2 : Fin 2} : SoundOut o (execAddaa c ac ac2 s) := by
  unfold execAddaa
  exact .next h.alu

theorem execNega_sound (h : Sound o s) {c : CoreRef} {ac : Fin 2} : SoundOut o (execNega c ac s) := by
  unfold execNega
  exact .next h.alu

theorem Sound.shiftAcc (h : Sound o s) {x : Core} {ac : Fin 2} {n : Int} : SoundRan o (s.shiftAcc x ac n) := by
  unfold State.shiftAcc
  exact .ite h.freeAcc (.ite (.go h) (.go h))

theorem execSha_sound (h : Sound o s) {c : CoreRef} {ac : Fin 2} {sh : BitVec 8} : SoundOut o (execSha c ac sh s) := by
  unfold execSha
  exact .next (h.issue (fun _ => h.shiftAcc))

theorem execShar_sound (h : Sound o s) {c : CoreRef} {ac : Fin 2} {b : Fin 16} : SoundOut o (execShar c ac b s) := by
  unfold execShar
  exact .next (h.issue (fun _ => h.shiftAcc))

theorem execSata_sound (h : Sound o s) {c : CoreRef} {ac : Fin 2} : SoundOut o (execSata c ac s) := by
  unfold execSata
  exact .next h.alu

theorem Sound.mvaFree (h : Sound o s) {x : Core} {d : Fin 16} : SoundRan o (s.mvaFree x d) := by
  unfold State.mvaFree
  exact h.update.freeReg

theorem execMva_sound (h : Sound o s) {c : CoreRef} {d : Fin 16} {ac : Fin 2} {sh : Nat} :
    SoundOut o (execMva c d ac sh s) := by
  unfold execMva
  exact .next (h.issue (fun _ => .ite h.freeReg (.ite h.mvaFree (.go h))))

theorem execMova_sound (h : Sound o s) {c : CoreRef} {ac ac2 : Fin 2} : SoundOut o (execMova c ac ac2 s) := by
  unfold execMova
  exact .next h.alu

theorem execMvax_sound (h : Sound o s) {c : CoreRef} {d : Fin 16} {ac : Fin 2} {p : Nat} :
    SoundOut o (execMvax c d ac p s) := by
  unfold execMvax
  refine .next (h.issue (fun _ => ?_))
  split
  · exact .go h
  · exact .go h
  · exact .go h
  · exact h.freeReg

theorem execMtax_sound (h : Sound o s) {c : CoreRef} {ac : Fin 2} {a : Fin 16} {p : Nat} :
    SoundOut o (execMtax c ac a p s) := by
  unfold execMtax
  refine .next (h.issue (fun _ => ?_))
  split
  · exact .go h
  · exact .go h
  · exact .go h
  · exact h.freeAcc

/-! #### Memory, address generators, special registers, divide unit (Table 9.8) -/

theorem execLd_sound (h : Sound o s) {c : CoreRef} {d : Fin 16} {g : Fin 8} {step : BitVec 16} :
    SoundOut o (execLd c d g step s) := by
  unfold execLd
  exact .next (h.issue (fun _ => h.loadFrom))

theorem execSt_sound (h : Sound o s) {c : CoreRef} {b : Fin 16} {g : Fin 8} {step : BitVec 16} :
    SoundOut o (execSt c b g step s) := by
  unfold execSt
  exact .next (h.issue (fun _ => h.storeTo))

theorem execLdx_sound (h : Sound o s) {c : CoreRef} {d : Fin 16} {g : Fin 8} {off : BitVec 16} :
    SoundOut o (execLdx c d g off s) := by
  unfold execLdx
  exact .next (h.issue (fun _ => h.loadFrom))

theorem execStx_sound (h : Sound o s) {c : CoreRef} {b : Fin 16} {g : Fin 8} {off : BitVec 16} :
    SoundOut o (execStx c b g off s) := by
  unfold execStx
  exact .next (h.issue (fun _ => h.storeTo))

theorem execLdv_sound (h : Sound o s) {c : CoreRef} {d : Fin 16} {g : Fin 8} {b : Fin 16} :
    SoundOut o (execLdv c d g b s) := by
  unfold execLdv
  exact .next (h.issue (fun _ => h.loadFrom))

theorem execStv_sound (h : Sound o s) {c : CoreRef} {b : Fin 16} {g : Fin 8} {cc : Fin 16} :
    SoundOut o (execStv c b g cc s) := by
  unfold execStv
  exact .next (h.issue (fun _ => h.storeTo))

theorem execLdd_sound (h : Sound o s) {c : CoreRef} {d : Fin 16} {imm : Word} : SoundOut o (execLdd c d imm s) := by
  unfold execLdd
  exact .next (h.issue (fun _ => h.loadFrom))

theorem execStd_sound (h : Sound o s) {c : CoreRef} {b : Fin 16} {imm : Word} : SoundOut o (execStd c b imm s) := by
  unfold execStd
  exact .next (h.issue (fun _ => h.storeTo))

theorem execLdr_sound (h : Sound o s) {c : CoreRef} {d a : Fin 16} {imm : Word} : SoundOut o (execLdr c d a imm s) := by
  unfold execLdr
  exact .next (h.issue (fun _ => h.loadFrom))

theorem execStr_sound (h : Sound o s) {c : CoreRef} {b a : Fin 16} {imm : Word} : SoundOut o (execStr c b a imm s) := by
  unfold execStr
  exact .next (h.issue (fun _ => h.storeTo))

theorem execAgset_sound (h : Sound o s) {c : CoreRef} {g : Fin 8} {base len : Nat} :
    SoundOut o (execAgset c g base len s) := by
  unfold execAgset
  exact .next h.alu

theorem execAgsetr_sound (h : Sound o s) {c : CoreRef} {g : Fin 8} {a b : Fin 16} :
    SoundOut o (execAgsetr c g a b s) := by
  unfold execAgsetr
  exact .next h.alu

theorem execMtag_sound (h : Sound o s) {c : CoreRef} {g : Fin 8} {f : Nat} {a : Fin 16} :
    SoundOut o (execMtag c g f a s) := by
  unfold execMtag
  exact .next h.alu

theorem execMfag_sound (h : Sound o s) {c : CoreRef} {d : Fin 16} {g : Fin 8} {f : Nat} :
    SoundOut o (execMfag c d g f s) := by
  unfold execMfag
  refine .next (h.issue (fun _ => ?_))
  split
  · exact .go h
  · exact .go h
  · exact .go h
  · exact h.freeReg

theorem execMfs_sound (h : Sound o s) {c : CoreRef} {d : Fin 16} {sr : Nat} : SoundOut o (execMfs c d sr s) := by
  unfold execMfs
  refine .next (h.issue (fun _ => ?_))
  split
  · exact .go (h.readSpecial _ ‹_›)
  · exact .trap

theorem execMts_sound (h : Sound o s) {c : CoreRef} {sr : Nat} {a : Fin 16} : SoundOut o (execMts c sr a s) := by
  unfold execMts
  refine .next (h.issue (fun _ => ?_))
  split
  · exact .go h
  · exact .trap

theorem execDivq_sound (h : Sound o s) {c : CoreRef} {a b : Fin 16} {q : Nat} : SoundOut o (execDivq c a b q s) := by
  unfold execDivq
  exact .next h.alu

theorem execDiva_sound (h : Sound o s) {c : CoreRef} {ac : Fin 2} {b : Fin 16} : SoundOut o (execDiva c ac b s) := by
  unfold execDiva
  exact .next h.alu

theorem execSqrta_sound (h : Sound o s) {c : CoreRef} {ac : Fin 2} : SoundOut o (execSqrta c ac s) := by
  unfold execSqrta
  exact .next h.alu

/-! #### Supervisor instructions without the bus (Table 9.9) -/

theorem execRete_sound (h : Sound o s) {c : CoreRef} : SoundOut o (execRete c s) := by
  unfold execRete
  exact .next (h.issue (fun _ => .jump h))

theorem execSyscall_sound (h : Sound o s) {c : CoreRef} {_imm : Word} : SoundOut o (execSyscall c _imm s) := by
  unfold execSyscall
  exact .next (h.issue (fun _ => .trap))

theorem execWaiti_sound (h : Sound o s) {c : CoreRef} : SoundOut o (execWaiti c s) := by
  unfold execWaiti
  exact .next (h.issue (fun _ => .ite (.go h) (.stay h)))

theorem execFence_sound (h : Sound o s) {c : CoreRef} : SoundOut o (execFence c s) := by
  unfold execFence
  exact .next (h.issue (fun _ => .go h))

/-! #### Events of a core -/

theorem execDivideDone_sound (h : Sound o s) {c : CoreRef} : SoundOut o (execDivideDone c s) := by
  unfold execDivideDone
  dsimp only
  refine .next ?_
  split
  · exact h.elapse.setCore
  · exact h

theorem Sound.continueWait (h : Sound o s) {c : CoreRef} : Sound o (s.continueWait c) := by
  unfold State.continueWait
  exact h.setCore

theorem execWaitContinue_sound (h : Sound o s) {c : CoreRef} : SoundOut o (execWaitContinue c s) := by
  unfold execWaitContinue
  exact .next (.ite h (.ite (.takeIrq (.continueWait (.ite h.waitClk h))) (.ite h.waitClk h)))

theorem Sound.laneIrq (h : Sound o s) {n : Fin 64} : Sound o (s.laneIrq n) := by
  unfold State.laneIrq
  exact .ite h.setCore h

theorem execLaneInterrupt_sound (h : Sound o s) {lane : Fin 64} : SoundOut o (execLaneInterrupt lane s) := by
  unfold execLaneInterrupt
  exact .next h.laneIrq

theorem execLaneDeadline_sound (h : Sound o s) {lane : Fin 64} : SoundOut o (execLaneDeadline lane s) := by
  unfold execLaneDeadline
  exact .next (.ite h h.waitClk.setCore)

theorem Sound.laneCmd (h : Sound o s) {lane action : Nat} {all : Bool} {f : Core → Core} :
    Sound o (s.laneCmd lane action all f) := by
  unfold State.laneCmd
  exact .ite h.raiseLoop (h.setFld.setFld.setFld.each (fun _ _ hu => hu.setCore))

theorem Sound.laneSoft (h : Sound o s) {lane : Nat} {all : Bool} : Sound o (s.laneSoft lane all) := by
  unfold State.laneSoft
  exact h.laneCmd

theorem execLaneCmdSoft_sound (h : Sound o s) {lane : Nat} {all : Bool} : SoundOut o (execLaneCmdSoft lane all s) := by
  unfold execLaneCmdSoft
  exact .next (h.hostAct (fun _ hu => hu.laneSoft))

theorem Sound.laneRestart (h : Sound o s) {lane : Nat} {all : Bool} : Sound o (s.laneRestart lane all) := by
  unfold State.laneRestart
  exact h.laneCmd.update

theorem execLaneCmdRestart_sound (h : Sound o s) {lane : Nat} {all : Bool} :
    SoundOut o (execLaneCmdRestart lane all s) := by
  unfold execLaneCmdRestart
  exact .next (h.hostAct (fun _ hu => hu.laneRestart))

theorem execLaneStallTimeout_sound (h : Sound o s) {lane : Fin 64} : SoundOut o (execLaneStallTimeout lane s) := by
  unfold execLaneStallTimeout
  dsimp only
  refine .next ?_
  split
  · exact h.waitClk.laneFault
  · exact h

theorem execSupervisorException_sound (h : Sound o s) {core : Fin 4} {cause addr : Nat} :
    SoundOut o (execSupervisorException core cause addr s) := by
  unfold execSupervisorException
  exact .next (.ite h.update.takeIrq (.ite (.ite h.setCore h) h))

/-! #### Outputs (R166, R168, R177, R233, R243) -/

theorem Sound.dacParity (h : Sound o s) {c sec : Nat} : Sound o (s.dacParity c sec) := by
  unfold State.dacParity
  exact h.bump.raiseLim

theorem Sound.applyCell (h : Sound o s) {parity : List Nat} {c : Nat} : Sound o (s.applyCell parity c) := by
  unfold State.applyCell
  exact .ite (.dacParity (.ite h.dacParity h.update)) (.update (.ite h.dacParity h.update))

theorem Sound.outputsTook (h : Sound o s) : Sound o s.outputsTook := h.update

theorem Sound.openLoop (h : Sound o s) {took : Bool} : Sound o (s.openLoop took) := h.update

theorem Sound.applyOutputs (h : Sound o s) {parity : List Nat} : Sound o (s.applyOutputs parity) := by
  unfold State.applyOutputs
  extract_lets cells
  exact .ite h.openLoop (.ite h.bump.openLoop (.ite h.openLoop (.openLoop (.ite (h.each (fun _ _ hu => hu.applyCell))
      ((h.each (fun _ _ hu => hu.applyCell)).outputsTook)))))

theorem Sound.cellFlags (h : Sound o s) {c : Nat} : Sound o (s.cellFlags c) := by
  unfold State.cellFlags
  exact .ite h (.ite (.raiseLoop (.ite h.setCell.raiseLoop h.setCell)) (.ite h.setCell.raiseLoop h.setCell))

/-! #### The stuck test (R137, R138) -/

theorem Sound.declareStuck (h : Sound o s) {c : Nat} {commanded : Bool} {count : Nat} :
    Sound o (s.declareStuck c commanded count) := by
  unfold State.declareStuck
  exact .ite h.raise h.raise.addStuck

theorem Sound.stuckTest (h : Sound o s) {c : Nat} : Sound o (s.stuckTest c) := by
  unfold State.stuckTest
  refine .ite h ?_
  split
  · exact h
  · exact .ite h.declareStuck h

/-! #### Lanes (R216, R218, R222) -/

theorem Sound.restoreLane (h : Sound o s) {n : Nat} : Sound o (s.restoreLane n) := by
  unfold State.restoreLane
  split
  · exact h
  · exact h.update

theorem Sound.restartLane (h : Sound o s) {n : Nat} : Sound o (s.restartLane n) := by
  unfold State.restartLane
  exact .raiseLoop (.ite h.restoreLane.loadUser.startLane.setCore h.restoreLane.loadUser.startLane)

theorem Sound.boundaryLanes (h : Sound o s) : Sound o s.boundaryLanes := by
  unfold State.boundaryLanes
  extract_lets s1 s2
  have hs2 : Sound o s2 := h.eachCore.each fun u n hu => by
    dsimp only
    split
    · exact .ite hu.laneFault hu
    · exact hu
  refine .ite (.ite (.update ?_) hs2) (.update ?_)
  · exact hs2.loadUser.each fun _ _ hu => hu.startLane
  · exact hs2.each fun _ _ hu => hu.restartLane

/-! #### Claims and switch-overs (R468 to R476) -/

theorem Sound.boundaryCheckpoint (h : Sound o s) : Sound o s.boundaryCheckpoint := by
  unfold State.boundaryCheckpoint
  exact .ite h (.ite h.update h.takeCheckpoint)

theorem Sound.boundarySwitch (h : Sound o s) : Sound o s.boundarySwitch := by
  unfold State.boundarySwitch
  split
  · exact h.stopLanes.update
  · exact .ite h.resumeUnit.update h
  · exact h

theorem Sound.boundaryClaim (h : Sound o s) : Sound o s.boundaryClaim := by
  unfold State.boundaryClaim
  exact .ite h.enterClaim h

/-! #### The boundary (R165, R242) -/

theorem Sound.boundaryClear (h : Sound o s) : Sound o s.boundaryClear := by
  unfold State.boundaryClear
  exact .ite (.ite h.update.raise h.update) (.ite h.update h)

theorem Sound.heaterPower (h : Sound o s) : Sound o s.heaterPower := h.update

theorem Sound.boundaryMonitors (h : Sound o s) : Sound o s.boundaryMonitors := h.update

theorem Sound.beginPeriod (h : Sound o s) {b : Nat} : Sound o (s.beginPeriod b) := by
  unfold State.beginPeriod
  exact h.periodSnaps.update

theorem Sound.periodBoundary (h : Sound o s) {parity : List Nat} : Sound o (s.periodBoundary parity) := by
  unfold State.periodBoundary
  extract_lets b s1 s2 s3 s4 s5 s6 s7
  have hs1 : Sound o s1 := h.endOfPeriod.waitClk
  have hs2 : Sound o s2 := hs1.takeOutputs.tailEnd.waitClk.calBoundary.boundaryClear.boundaryClaim
  have hs3 : Sound o s3 := .ite hs2.applyOutputs hs2
  have hs4 : Sound o s4 := hs3.each fun _ _ hu => hu.cellFlags
  have hs5 : Sound o s5 := hs4.each fun _ _ hu => hu.stuckTest
  have hs6 : Sound o s6 := .ite hs5.boundaryCheckpoint hs5
  have hs7 : Sound o s7 := hs6.heaterPower.boundaryMonitors.beginPeriod.boundaryLanes.tieStep.boundarySwitch
  exact .ite hs7.endKeepPass hs7

theorem execHoldPeriodBoundary_sound (h : Sound o s) {parity : List Nat} :
    SoundOut o (execHoldPeriodBoundary parity s) := by
  unfold execHoldPeriodBoundary
  exact .next (.ite h.periodBoundary h)

/-! #### The indirect windows (R519, Table 25.2) -/

theorem Sound.counterWord (h : Sound o s) {ra i : Nat} : Sound o (s.counterWord ra i).2 := by
  unfold State.counterWord
  refine .ite_snd h.update ?_
  split
  · exact h
  · exact h

theorem Sound.windowWord (h : Sound o s) {w : Window} {k a : Nat} : Sound o (s.windowWord w k a).2 := by
  unfold State.windowWord
  refine .ite_snd h.counterWord (.ite_snd h.update ?_)
  split
  · exact h
  · exact h

/-! #### Range rules -/

theorem Sound.rangeEvent (h : Sound o s) {a v : Nat} : Sound o (s.rangeEvent a v) := by
  unfold State.rangeEvent
  refine .ite ?_ (.ite h.raise (.ite h.raise (.ite h.raise (.ite h.raise (.ite h.raise h.raise)))))
  split
  · exact h.raise
  · exact h.raise
  · exact h.adcRange
  · exact h.dacRange
  · exact h.raiseLoop
  · exact h.raise

/-! #### Registers whose write is an operation -/

theorem Sound.alertClear (h : Sound o s) {concurrent : Option Nat} : Sound o (s.alertClear concurrent) := by
  unfold State.alertClear
  split
  · exact h.update
  · exact h.update

theorem Sound.causeClear (h : Sound o s) {v : Nat} : Sound o (s.causeClear v) := h.update

theorem Sound.unmask (h : Sound o s) {n : Nat} : Sound o (s.unmask n) := h.update

theorem Sound.maskVector (h : Sound o s) {n : Nat} : Sound o (s.maskVector n) := h.update

theorem Sound.msixWrite (h : Sound o s) {a v : Nat} : Sound o (s.msixWrite a v) := by
  unfold State.msixWrite
  exact .ite h.setRegWord (.ite h.maskVector h.unmask)

theorem Sound.laneFlagsClear (h : Sound o s) {v : Nat} : Sound o (s.laneFlagsClear v) := by
  unfold State.laneFlagsClear
  exact h.setCore

theorem Sound.laneCmdWrite (h : Sound o s) {v : Nat} : Sound o (s.laneCmdWrite v) := by
  unfold State.laneCmdWrite
  split
  · exact h.laneRestart
  · exact h.laneSoft
  · exact h.raiseLoop

theorem Sound.adcDirectWrite (h : Sound o s) {v : Nat} : Sound o (s.adcDirectWrite v) := by
  unfold State.adcDirectWrite
  exact .ite h.adcDirect (.ite h.adcRange h.setFld)

theorem Sound.laneCtlWrite (h : Sound o s) {n v : Nat} : Sound o (s.laneCtlWrite n v) := by
  unfold State.laneCtlWrite
  exact .ite h.rangeEvent (.ite (.eyeRequest (.ite h (.ite h.fabricEnable h.fabricDisable))) (.ite h (.ite
      h.fabricEnable h.fabricDisable)))

theorem Sound.fqDoor (h : Sound o s) {q : Nat} {tx : Bool} {v : Nat} : Sound o (s.fqDoor q tx v) := by
  generalize hf : @State.fqDoor = f
  delta State.fqDoor at hf
  subst hf
  dsimp only
  generalize FqDir.ring _ v _ = y
  cases y with
  | none => exact h.doorbellBad
  | some x => exact .ite h.setFqTx h.setFqRx

theorem Sound.cxOwn (h : Sound o s) {o' : Nat} {v : Nat} : SoundOpt o (fun t => t) (s.cxOwn o' v) := by
  unfold State.cxOwn
  refine .ite ?_ (.ite (.some h.update) (.ite ?_ (.ite (.some h.msixWrite) .none)))
  · split
    · exact .some h.sqRing
    · exact .some h.cqRing
    · exact .none
  · split
    · exact .some h.fqDoor
    · exact .some h.fqDoor
    · exact .none

theorem Sound.hbClear (h : Sound o s) {v : Nat} : Sound o (s.hbClear v) := h.update

theorem Sound.portOwn (h : Sound o s) {p : Nat} {o' : Nat} {v : Nat} : SoundOpt o (fun t => t) (s.portOwn p o' v) := by
  unfold State.portOwn
  exact .ite (.some h.stormWrite) (.ite (.some h.samplerSet) (.ite (.some h.samplerSet) (.ite (.some (.ite
      h.setRate.settle h.setBurst.settle)) .none)))

theorem Sound.writeOwn (h : Sound o s) {a v : Nat} : SoundOpt o (fun t => t) (s.writeOwn a v) := by
  unfold State.writeOwn
  refine .ite h.cxOwn (.ite (.some (.ite h.laneCtlWrite h)) (.ite h.portOwn (.ite (.some h.safCfgWrite) ?_)))
  split
  · exact .some (.ite h.alertClear h)
  · exact .some h.causeClear
  · exact .some h.hbClear
  · exact .some h.refHost
  · exact .some h.clearFlagged.forcePairs
  · exact .some h.adcDirectWrite
  · exact .some h.loopCmd
  · exact .some h.laneFlagsClear
  · exact .some h.laneCmdWrite
  · exact .some h.monSel
  · exact .some h.routeCtl
  · exact .none

/-! #### Plain fields -/

theorem Sound.iklPorts (h : Sound o s) {was now : Nat} : Sound o (s.iklPorts was now) := by
  unfold State.iklPorts
  exact h.each (fun _ _ hu => .ite hu (.ite hu.portTrain hu.portDown))

theorem Sound.pathReset (h : Sound o s) : Sound o s.pathReset := h.update

theorem Sound.ringCtl (h : Sound o s) {r : Fin 16} {was v : Nat} : Sound o (s.ringCtl r was v) := by
  unfold State.ringCtl
  exact .ite (.ringAgain (.ite h.setFld.ringOn h)) (.ite h.setFld.ringOn h)

theorem Sound.fqCtl (h : Sound o s) {q was v : Nat} : Sound o (s.fqCtl q was v) := by
  unfold State.fqCtl
  exact .ite (.setFqRx (.ite h.setFqTx h)) (.ite h.setFqTx h)

theorem Sound.trigCtl (h : Sound o s) {n was v : Nat} : Sound o (s.trigCtl n was v) := by
  unfold State.trigCtl
  exact .ite (.trigArm (.ite h.trigDisable h)) (.ite h.trigDisable h)

theorem Sound.portCtl (h : Sound o s) {p was v : Nat} : Sound o (s.portCtl p was v) := by
  unfold State.portCtl
  exact .settle (.ite h.setFld (.ite h.setFld.portEnable h.setFld.portDisable))

theorem Sound.writeEffect (h : Sound o s) {a was v : Nat} : Sound o (s.writeEffect a was v) := by
  unfold State.writeEffect
  refine .ite h.ringCtl (.ite h.fqCtl (.ite h.trigCtl (.ite h.portCtl ?_)))
  split
  · exact .ite h.continueStart h
  · exact .ite h.ringsGo h
  · exact h.throttleUpdate
  · exact h.iklPorts
  · exact h.update
  · exact h.update
  · exact .ite h h.pathReset
  · exact h

theorem Sound.writeReg (h : Sound o s) {a v : Nat} : Sound o (s.writeReg a v) := by
  unfold State.writeReg
  split
  · exact h.writeOwn _ ‹_›
  · split
    · exact h
    · exact .ite (.writeEffect (.setRegWord (.ite h.raise h))) (.rangeEvent (.ite h.raise h))

/-! #### Reads -/

theorem Sound.errInfoLatch (h : Sound o s) : Sound o s.errInfoLatch := h.update

theorem Sound.epochLatch (h : Sound o s) : Sound o s.epochLatch := h.update

theorem Sound.readLatch (h : Sound o s) {a : Nat} : SoundOpt o (fun t => t) (s.readLatch a) := by
  unfold State.readLatch
  refine .ite (.some h.capRead) ?_
  split
  · exact .some h.epochLatch
  · exact .some h.errInfoLatch
  · exact .some h.timNowLatch
  · exact .some h.jumpLoLatch
  · exact .some h.dacMonData
  · exact .some h.loopPeriodLo
  · exact .some h.monData
  · exact .some h.orbCycleLo
  · exact .some h.fdbEpochLatch
  · exact .none

theorem Sound.setVoteCount (h : Sound o s) {n v : Nat} : Sound o (s.setVoteCount n v) := h.update

theorem Sound.setRc (h : Sound o s) {a : Nat} {f : FieldDesc} {v : Nat} : Sound o (s.setRc a f v) := by
  unfold State.setRc
  refine .ite h.setRegWord (.ite h.setBmTarget (.ite h.setPair ?_))
  split
  · exact h.update
  · exact h.update
  · exact h.update
  · exact h.update
  · exact h.setCore
  · exact h.update
  · exact h.setVoteCount
  · exact h

theorem Sound.clearRc (h : Sound o s) {a : Nat} {upd : Option FieldUpdate} {fs : List FieldDesc} :
    Sound o (s.clearRc a upd fs) := by
  unfold State.clearRc
  exact h.each (fun _ _ hu => hu.setRc)

theorem Sound.readReg (h : Sound o s) {a : Nat} {upd : Option FieldUpdate} : Sound o (s.readReg a upd) := by
  unfold State.readReg
  split
  · exact h.readLatch _ ‹_›
  · split
    · exact h.update.clearRc
    · exact h.update

/-! #### Windows (R454, R519) -/

theorem Sound.readWindow (h : Sound o s) {a be : Nat} : Sound o (s.readWindow a be) := by
  unfold State.readWindow
  split
  · exact h.windowWord.update
  · exact h.update

theorem Sound.windowEvent (h : Sound o s) {k a : Nat} : Sound o (s.windowEvent k a) := by
  unfold State.windowEvent
  split
  · exact h.raise
  · exact h.raiseLoop
  · exact h.raiseLoop
  · exact h.adcRange
  · exact h.dacRange
  · exact h.raise
  · exact h.raise
  · exact h.raise
  · exact h.raise
  · exact h.raise
  · exact h.raise
  · exact h.raise
  · exact h.raise
  · exact h.raise
  · exact h.raise

theorem Sound.coefStage (h : Sound o s) {cell w be v : Nat} : Sound o (s.coefStage cell w be v) := by
  unfold State.coefStage
  exact .ite h.coefCommit h.coefWrite

theorem Sound.writeWindow (h : Sound o s) {a be v : Nat} : Sound o (s.writeWindow a be v) := by
  unfold State.writeWindow
  split
  · exact .ite h.coefStage h.windowEvent
  · exact h

/-! #### The host's accesses (R520) -/

theorem Sound.hostAccess (h : Sound o s) {a be : Nat} {write : Bool} {f : State → State} (hf : ∀ u, Sound o u → Sound
    o (f u)) :
    Sound o (s.hostAccess a be write f) := by
  unfold State.hostAccess
  exact .ite h (.ite (.ite h h.update) (.ite (hf _ h.granted) (.ite h.busError h.busError.update)))

theorem execRegisterWrite_sound (h : Sound o s) {addr be : Nat} {value : Word} :
    SoundOut o (execRegisterWrite addr be value s) := by
  unfold execRegisterWrite
  exact .next (h.hostAccess (fun _ hu => .ite hu.writeReg hu.writeWindow))

theorem execRegisterReadClear_sound (h : Sound o s) {addr be : Nat} {upd : Option FieldUpdate} :
    SoundOut o (execRegisterReadClear addr be upd s) := by
  unfold execRegisterReadClear
  exact .next (h.hostAccess (fun _ hu => .ite hu.readReg hu.readWindow))

theorem execWindowRecordRead_sound (h : Sound o s) {addr : Nat} : SoundOut o (execWindowRecordRead addr s) := by
  unfold execWindowRecordRead
  exact .next (h.hostAccess (fun _ hu => .ite hu.readReg hu.readWindow))

theorem execBmErrInfoRead_sound (h : Sound o s) : SoundOut o (execBmErrInfoRead s) := by
  unfold execBmErrInfoRead
  exact .next (h.hostRead (fun _ hu => hu.errInfoLatch))

theorem execCxStateEpochRead_sound (h : Sound o s) : SoundOut o (execCxStateEpochRead s) := by
  unfold execCxStateEpochRead
  exact .next (h.hostRead (fun _ hu => hu.epochLatch))

theorem execGenAlertClear_sound (h : Sound o s) {concurrent : Option Nat} :
    SoundOut o (execGenAlertClear concurrent s) := by
  unfold execGenAlertClear
  exact .next (h.hostAct (fun _ hu => hu.alertClear))

theorem execMsixUnmask_sound (h : Sound o s) {vector : Nat} : SoundOut o (execMsixUnmask vector s) := by
  unfold execMsixUnmask
  exact .next (h.hostAct (fun _ hu => .ite hu.unmask hu))

/-! #### Memory ranges (R452, R467) -/

theorem Sound.ckptWrite (h : Sound o s) {a v : Nat} : Sound o (s.ckptWrite a v) := by
  unfold State.ckptWrite
  exact .ite h.update (.ite h.update h)

theorem Sound.flashWord (h : Sound o s) {o' : Nat} : Sound o (s.flashWord o').2 := by
  unfold State.flashWord
  dsimp only
  exact .ite_snd (.ite_snd h h.draw) (.ite_snd (.ite_snd h h.draw) h.draw)

theorem Sound.memWordRead (h : Sound o s) {a : Nat} : Sound o (s.memWordRead a).2 := by
  unfold State.memWordRead
  refine .ite_snd h.flashWord (.ite_snd h.draw (.ite_snd h ?_))
  split
  · exact h
  · exact h.draw

theorem Sound.memWordWrite (h : Sound o s) {a v : Nat} : Sound o (s.memWordWrite a v) := by
  unfold State.memWordWrite
  refine .ite h (.ite h.ckptWrite ?_)
  split
  · exact h.update
  · exact h

/-! #### Beats -/

theorem Sound.busWordRead (h : Sound o s) {a be : Nat} : Sound o (s.busWordRead a be).2 := by
  unfold State.busWordRead
  exact .ite_snd h (.ite_snd h.readReg (.ite_snd h.readWindow h.memWordRead))

theorem Sound.busWordWrite (h : Sound o s) {a be v : Nat} : Sound o (s.busWordWrite a be v) := by
  unfold State.busWordWrite
  refine .ite h (.ite h.writeReg (.ite h.writeWindow ?_))
  have hread : Sound o (if be = 15 then (0, s) else s.memWordRead a).2 := .ite_snd h h.memWordRead
  exact hread.memWordWrite

theorem Sound.beatRead (h : Sound o s) {a strobes n i : Nat} : Sound o (State.beatRead a strobes n i s).2 := by
  induction n generalizing s i with
  | zero => exact h
  | succ n ih => exact ih h.busWordRead

theorem Sound.beatWrite (h : Sound o s) {a strobes data : Nat} : Sound o (State.beatWrite a strobes data s) := by
  unfold State.beatWrite
  exact h.each (fun _ _ hu => hu.busWordWrite)

theorem Sound.burstRead (h : Sound o s) {l : List (BitVec 16 × BitVec 128)} {a : Nat} :
    Sound o (State.burstRead l a s).2 := by
  induction l generalizing s a with
  | nil => exact h
  | cons b rest ih => exact ih (s := (State.beatRead a b.1.toNat 4 0 s).2) h.beatRead

theorem Sound.burstWrite (h : Sound o s) {l : List (BitVec 16 × BitVec 128)} {a : Nat} :
    Sound o (State.burstWrite l a s) := by
  induction l generalizing s a with
  | nil => exact h
  | cons b rest ih => exact ih h.beatWrite

/-! #### One transaction (R454, R457) -/

theorem Sound.busServe (h : Sound o s) {m a : Nat} {write : Bool} {beats : List (BitVec 16 × BitVec 128)} {fails :
    Bool} :
    Sound o (s.busServe m a write beats fails).2.2 := by
  unfold State.busServe
  refine .ite_snd_snd (.busError ?_) (.ite_snd_snd (.burstWrite ?_) (.burstRead ?_))
  · split
    · exact .ite h h.granted
    · exact h
  · split
    · exact .ite h h.granted
    · exact h
  · split
    · exact .ite h h.granted
    · exact h

theorem Sound.busAnswer (h : Sound o s) {r : BusReq} : Sound o (s.busAnswer r) := by
  unfold State.busAnswer
  exact (h.busServe (m := r.master.val) (a := r.addr) (write := r.write) (beats := r.beats) (fails := r.fails)).emit

/-! #### Waiting and arbitration (R455, R456, R459, R463) -/

theorem Sound.busGrant (h : Sound o s) : SoundOpt o (fun t => t) (s.busGrant) := by
  unfold State.busGrant
  split
  · split
    · exact .some h.update.busAnswer
    · exact .none
  · exact .none

theorem Sound.busRun (h : Sound o s) {n : Nat} : Sound o (State.busRun n s) := by
  induction n generalizing s with
  | zero => exact h
  | succ n ih =>
    rw [State.busRun]
    split
    · exact ih (h.busGrant _ ‹_›)
    · exact h

theorem Sound.busDrain (h : Sound o s) : Sound o s.busDrain := by
  unfold State.busDrain
  exact h.busRun

theorem execBusTransaction_sound (h : Sound o s) {req : BusReq} : SoundOut o (execBusTransaction req s) := by
  unfold execBusTransaction
  exact .next (.ite h h.update.busDrain)

/-! #### Locked sequences (R460, R461) -/

theorem Sound.clearBroken (h : Sound o s) {m core : Nat} : Sound o (s.clearBroken m core) := h.update

theorem execLockTimeout_sound (h : Sound o s) {target : Fin 12} : SoundOut o (execLockTimeout target s) := by
  unfold execLockTimeout
  refine .next ?_
  split
  · exact h
  · exact h.waitClk.unlockTarget.update.bump.raise.busDrain

theorem execBusMasterReset_sound (h : Sound o s) {m : Fin 8} {burst : Option (Nat × Nat)} :
    SoundOut o (execBusMasterReset m burst s) := by
  unfold execBusMasterReset
  exact .next (.ite h (.busDrain (.resetMaster (.ite h.haltUnit.dropClaim h))))

theorem execBusDrained_sound (h : Sound o s) {m : Fin 8} : SoundOut o (execBusDrained m s) := by
  unfold execBusDrained
  exact .next (.ite h h.setBmMaster.raise.busDrain)

/-! #### The bus instructions of a supervisor core (Table 9.9) -/

theorem Sound.busInstr (h : Sound o s) {c : CoreRef} {a : Nat} {t : Option (Nat × State)} {f : Core → Core}
    (ht : SoundOpt o (fun t => t.2) t) : Sound o (s.busInstr c a t f) := by
  unfold State.busInstr
  refine .ite (h.issue fun _ => h) ?_
  split
  · exact h.issue fun _ => h
  · exact (ht _ rfl : Sound o _).issue fun _ => ht _ rfl
  · exact (ht _ rfl : Sound o _).issue fun _ => .trap

theorem Sound.coreAccess (h : Sound o s) {m core a : Nat} {write : Bool} {v : Nat} {fails : Bool} :
    SoundOpt o (fun t => t.2.2) (s.coreAccess m core a write v fails) := by
  unfold State.coreAccess
  exact .ite (.some h.clearBroken.busError) (.ite .none (.ite .none (.some h.busServe)))

theorem execLdb_sound (h : Sound o s) {c : CoreRef} {d a : Fin 16} {imm : Word} {fails : Bool} :
    SoundOut o (execLdb c d a imm fails s) := by
  unfold execLdb
  refine .next (h.busInstr fun t ht => ?_)
  obtain ⟨x, hx, rfl⟩ := Option.map_eq_some_iff.mp ht
  exact h.coreAccess x hx

theorem execStb_sound (h : Sound o s) {c : CoreRef} {b a : Fin 16} {imm : Word} {fails : Bool} :
    SoundOut o (execStb c b a imm fails s) := by
  unfold execStb
  refine .next (h.busInstr fun t ht => ?_)
  obtain ⟨x, hx, rfl⟩ := Option.map_eq_some_iff.mp ht
  exact h.coreAccess x hx

theorem Sound.lockTry (h : Sound o s) {m core a : Nat} : SoundOpt o (fun t => t.2) (s.lockTry m core a) := by
  unfold State.lockTry
  exact .ite (.some h.clearBroken.busError) (.ite (.some h.busError) (.ite (.some h.busError) (.ite .none (.some
      h.granted.setBmTarget))))

theorem execLockb_sound (h : Sound o s) {c : CoreRef} {a : Fin 16} {imm : Word} : SoundOut o (execLockb c a imm s) := by
  unfold execLockb
  exact .next (h.busInstr h.lockTry)

theorem execUnlockb_sound (h : Sound o s) {c : CoreRef} : SoundOut o (execUnlockb c s) := by
  unfold execUnlockb
  refine .next ?_
  split
  · exact h.busInstr (.some h.draw.clearBroken.busError)
  · exact h.busInstr (.some h.unlockTarget.busDrain)
  · exact h.busInstr (.some h)

/-! #### The meaning of every command -/

theorem exec_sound (h : Sound o s) {i : Instr} : SoundOut o (exec i s) := by
  unfold exec
  split
  · exact execRegisterWrite_sound h
  · exact execRegisterReadClear_sound h
  · exact execWindowRecordRead_sound h
  · exact execCounterRecordRead_sound h
  · exact execMxMonSelWrite_sound h
  · exact execMxMonDataRead_sound h
  · exact execDacMonDataRead_sound h
  · exact execOrbCycleLoRead_sound h
  · exact execLeLoopPeriodLoRead_sound h
  · exact execFdbEpochRead_sound h
  · exact execTimNowFracRead_sound h
  · exact execTimJumpLoRead_sound h
  · exact execTimCapW0Read_sound h
  · exact execBmErrInfoRead_sound h
  · exact execCxStateEpochRead_sound h
  · exact execGenAlertClear_sound h
  · exact execMsixUnmask_sound h
  · exact execStart_sound h
  · exact execStartStepTimeout_sound h
  · exact execStartRetry_sound h
  · exact execStartContinue_sound h
  · exact execRstNAssert_sound h
  · exact execRstNRelease_sound h
  · exact execPerstNAssert_sound h
  · exact execPerstNDeassert_sound h
  · exact execPcieFunctionReset_sound h
  · exact execBusMasterEnableClear_sound h
  · exact execDacClrNAssert_sound h
  · exact execDacClrNRelease_sound h
  · exact execInputStuckTimeout_sound h
  · exact execInputRecovery_sound h
  · exact execSafetySample_sound h
  · exact execGuardChange_sound h
  · exact execDiscrepancyFault_sound h
  · exact execSafResetPress_sound h
  · exact execSafResetRelease_sound h
  · exact execResetFault_sound h
  · exact execLsrFbChange_sound h
  · exact execFbLate_sound h
  · exact execSafLaserSet_sound h
  · exact execSafCfgWrite_sound h
  · exact execTrigInEdge_sound h
  · exact execPpsInEdge_sound h
  · exact execTrigOutPulse_sound h
  · exact execTrigOutArm_sound h
  · exact execTrigOutDisable_sound h
  · exact execPpsOutPulse_sound h
  · exact execTripComparatorFire_sound h
  · exact execTripRestart_sound h
  · exact execVaonRise_sound h
  · exact execVaonFall_sound h
  · exact execMainRailsRise_sound h
  · exact execRailUndervoltage_sound h
  · exact execVhtrRemoved_sound h
  · exact execVsramLow_sound h
  · exact execRefclkCheck_sound h
  · exact execSmbusIdentRead_sound h
  · exact execSmbusThermalRead_sound h
  · exact execSmbusSafetyRead_sound h
  · exact execSmbusStatusRead_sound h
  · exact execSmbusWake_sound h
  · exact execJtagBypass_sound h
  · exact execJtagIdcode_sound h
  · exact execJtagSamplePreload_sound h
  · exact execJtagExtest_sound h
  · exact execJtagExtestPulse_sound h
  · exact execJtagExtestTrain_sound h
  · exact execSetMode_sound h
  · exact execSetPower_sound h
  · exact execPowerRungReached_sound h
  · exact execKeepPass_sound h
  · exact execPacketStopTimeout_sound h
  · exact execResetModule_sound h
  · exact execLoadCanvas_sound h
  · exact execCanvasPrepare_sound h
  · exact execCanvasCommit_sound h
  · exact execCanvasActivation_sound h
  · exact execCanvasAbort_sound h
  · exact execCanvasTimeout_sound h
  · exact execCanvasDigestCheck_sound h
  · exact execDigestGraceExpire_sound h
  · exact execKeyRevoke_sound h
  · exact execSwatchWrite_sound h
  · exact execSwatchLoad_sound h
  · exact execSwatchInvalidate_sound h
  · exact execSwatchRead_sound h
  · exact execSwatchApply_sound h
  · exact execStuckAdd_sound h
  · exact execStuckClear_sound h
  · exact execRouteRequestDone_sound h
  · exact execRouteCtlWrite_sound h
  · exact execReroute_sound h
  · exact execOrbitPrepare_sound h
  · exact execOrbitCommit_sound h
  · exact execOrbitAbort_sound h
  · exact execOrbitRead_sound h
  · exact execOrbitTimeout_sound h
  · exact execOrbitTakeover_sound h
  · exact execSlotBoundary_sound h
  · exact execBurstIntervalBoundary_sound h
  · exact execHoldPeriodBoundary_sound h
  · exact execEndOfPeriodWork_sound h
  · exact execLoopOutputDeadline_sound h
  · exact execCoefWindowWrite_sound h
  · exact execCoefCommit_sound h
  · exact execLoopCmdRelease_sound h
  · exact execLoopCmdReset_sound h
  · exact execLoopCmdDisable_sound h
  · exact execLoopCmdEnable_sound h
  · exact execLaneCmdRestart_sound h
  · exact execLaneCmdSoft_sound h
  · exact execLaneDeadline_sound h
  · exact execLaneInterrupt_sound h
  · exact execLaneStallTimeout_sound h
  · exact execPathLate_sound h
  · exact execSupervisorException_sound h
  · exact execDivideDone_sound h
  · exact execWaitContinue_sound h
  · exact execNop_sound h
  · exact execHalt_sound h
  · exact execBr_sound h
  · exact execCall_sound h
  · exact execJr_sound h
  · exact execRet_sound h
  · exact execReti_sound h
  · exact execRepeat_sound h
  · exact execRepeatr_sound h
  · exact execWaitp_sound h
  · exact execWaite_sound h
  · exact execWaits_sound h
  · exact execCstep_sound h
  · exact execBkpt_sound h
  · exact execMov_sound h
  · exact execLi_sound h
  · exact execAdd_sound h
  · exact execAddi_sound h
  · exact execSub_sound h
  · exact execNeg_sound h
  · exact execAbs_sound h
  · exact execMull_sound h
  · exact execAnd_sound h
  · exact execAndi_sound h
  · exact execOr_sound h
  · exact execOri_sound h
  · exact execXor_sound h
  · exact execXori_sound h
  · exact execSll_sound h
  · exact execSrl_sound h
  · exact execSra_sound h
  · exact execRsh_sound h
  · exact execShv_sound h
  · exact execCmp_sound h
  · exact execCmpi_sound h
  · exact execTst_sound h
  · exact execMin_sound h
  · exact execMax_sound h
  · exact execClamp_sound h
  · exact execSel_sound h
  · exact execClz_sound h
  · exact execExt_sound h
  · exact execExts_sound h
  · exact execIns_sound h
  · exact execMpa_sound h
  · exact execMac_sound h
  · exact execMsu_sound h
  · exact execMpai_sound h
  · exact execMaci_sound h
  · exact execMpr_sound h
  · exact execMsr_sound h
  · exact execMar_sound h
  · exact execClra_sound h
  · exact execAdda_sound h
  · exact execAddaa_sound h
  · exact execNega_sound h
  · exact execSha_sound h
  · exact execShar_sound h
  · exact execSata_sound h
  · exact execMva_sound h
  · exact execMova_sound h
  · exact execMvax_sound h
  · exact execMtax_sound h
  · exact execLd_sound h
  · exact execSt_sound h
  · exact execLdx_sound h
  · exact execStx_sound h
  · exact execLdv_sound h
  · exact execStv_sound h
  · exact execLdd_sound h
  · exact execStd_sound h
  · exact execLdr_sound h
  · exact execStr_sound h
  · exact execAgset_sound h
  · exact execAgsetr_sound h
  · exact execMtag_sound h
  · exact execMfag_sound h
  · exact execMfs_sound h
  · exact execMts_sound h
  · exact execDivq_sound h
  · exact execDiva_sound h
  · exact execSqrta_sound h
  · exact execRete_sound h
  · exact execSyscall_sound h
  · exact execLdb_sound h
  · exact execStb_sound h
  · exact execLockb_sound h
  · exact execUnlockb_sound h
  · exact execWaiti_sound h
  · exact execFence_sound h
  · exact execAdcConversion_sound h
  · exact execHkPublish_sound h
  · exact execRefEnable_sound h
  · exact execRefDisable_sound h
  · exact execRefReady_sound h
  · exact execFunctionStopped_sound h
  · exact execAdcDirectRequest_sound h
  · exact execPairFlagClear_sound h
  · exact execPairForceWrite_sound h
  · exact execHeaterSlewTick_sound h
  · exact execCalRun_sound h
  · exact execCalRunDone_sound h
  · exact execCalRunTimeout_sound h
  · exact execCalDriftRead_sound h
  · exact execEyeScanStart_sound h
  · exact execEyeScanDone_sound h
  · exact execEyeNowRequest_sound h
  · exact execDriftDailySample_sound h
  · exact execDriftMonthlyWrite_sound h
  · exact execTrimNvmWrite_sound h
  · exact execPortEnable_sound h
  · exact execPortDisable_sound h
  · exact execTrainFailed_sound h
  · exact execPortLinkUp_sound h
  · exact execPortLinkDown_sound h
  · exact execFabricLaneEnable_sound h
  · exact execFabricLaneDisable_sound h
  · exact execFabricLaneReady_sound h
  · exact execMemberFrameRx_sound h
  · exact execPauseFrameRx_sound h
  · exact execPfcFrameRx_sound h
  · exact execPauseExpire_sound h
  · exact execPauseRefresh_sound h
  · exact execFrameTxDone_sound h
  · exact execFabricRecordTake_sound h
  · exact execBurstRx_sound h
  · exact execClsRuleWrite_sound h
  · exact execClsRuleDelete_sound h
  · exact execClsRangeWrite_sound h
  · exact execClsRuleRead_sound h
  · exact execStormLimiterWrite_sound h
  · exact execFdbSearch_sound h
  · exact execFdbNext_sound h
  · exact execFdbInsert_sound h
  · exact execFdbDelete_sound h
  · exact execFdbFlushByPort_sound h
  · exact execFlushRemovalDone_sound h
  · exact execFidWrite_sound h
  · exact execFidRead_sound h
  · exact execLearnCommit_sound h
  · exact execSweeperVisit_sound h
  · exact execEpochTick_sound h
  · exact execChangeDrained_sound h
  · exact execEpochStall_sound h
  · exact execPolWrite_sound h
  · exact execPortGateWrite_sound h
  · exact execPortGateCancel_sound h
  · exact execGateTakeover_sound h
  · exact execGateEntryBoundary_sound h
  · exact execLaunchDue_sound h
  · exact execShaperRateWrite_sound h
  · exact execShaperBurstWrite_sound h
  · exact execSamplerWrite_sound h
  · exact execCntSnapshot_sound h
  · exact execReadLog_sound h
  · exact execLogTick_sound h
  · exact execTimeOffset_sound h
  · exact execTimeConfirm_sound h
  · exact execTimeSet_sound h
  · exact execServoInterval_sound h
  · exact execTimeStepApply_sound h
  · exact execExchSend_sound h
  · exact execExchRx_sound h
  · exact execIklPortTimeout_sound h
  · exact execParentChange_sound h
  · exact execCometSend_sound h
  · exact execCometRx_sound h
  · exact execCometExpire_sound h
  · exact execSyncReqSend_sound h
  · exact execSyncReq_sound h
  · exact execSyncReply_sound h
  · exact execConjPropose_sound h
  · exact execConjAbort_sound h
  · exact execPropose_sound h
  · exact execAnswer_sound h
  · exact execCommit_sound h
  · exact execAbort_sound h
  · exact execConjRepeatSend_sound h
  · exact execConjDeadline_sound h
  · exact execConjLocalAbort_sound h
  · exact execIklViewRead_sound h
  · exact execIklTunnelSend_sound h
  · exact execTunnelRx_sound h
  · exact execCxNop_sound h
  · exact execCxStateRead_sound h
  · exact execSqDoorbell_sound h
  · exact execCqDoorbell_sound h
  · exact execRingEnable_sound h
  · exact execRingDisable_sound h
  · exact execRingResume_sound h
  · exact execEvtDoorbell_sound h
  · exact execCoalesceTimeout_sound h
  · exact execCxProgress_sound h
  · exact execFqTxDoorbell_sound h
  · exact execTxDescriptor_sound h
  · exact execFqRxDoorbell_sound h
  · exact execBusTransaction_sound h
  · exact execLockTimeout_sound h
  · exact execBusMasterReset_sound h
  · exact execBusDrained_sound h
  · exact execHeartbeatCheck_sound h
  · exact execCuSwitch_sound h
  · exact execCuRestore_sound h
  · exact execCuRestored_sound h
  · exact execThermalReading_sound h
  · exact execShutdownRecordWrite_sound h
  · exact execShutdownComplete_sound h
  · exact execShutdownRead_sound h
  · exact execNvmProgramDone_sound h
  · exact execShaperCreditReachesZero_sound h
  · exact execStartDelimiterTimeout_sound h
  · exact execStartingUnitClaim_sound h
  · exact execIklHighSymbolErrors_sound h
  · exact execBusMasterEnableSet_sound h
  · exact execD3hotTransition_sound h

/-! #### What happens while no command waits -/

theorem Sound.idle (h : Sound o s) : Sound o s.idle := by
  unfold State.idle
  exact .ite h.elapse.busDrain.ringsGo h.update

/-! #### One step -/

theorem step_sound : SoundOut { s with pending := s.pending.drop 1 } (step s) := by
  unfold step
  split
  case h_1 hp =>
    have hself : Sound { s with pending := s.pending.drop 1 } s :=
      ⟨⟨by simp [hp], id⟩, id⟩
    exact .next hself.idle
  case h_2 c rest hp =>
    rw [hp]
    exact exec_sound (Sound.refl _)

end Operations

/-! ### The next state (R500, log entries 1 and 3) -/

theorem exec_goesOn (c : Instr) (s : State) : ∃ t, exec c s = .next t :=
  (exec_sound (Sound.refl s)).imp fun _ h => h.1

theorem exec_pending {c : Instr} {s t : State} (h : exec c s = .next t) : t.pending = s.pending := by
  obtain ⟨t', ht', ⟨hqueue, -⟩, -⟩ := exec_sound (o := s) (i := c) (Sound.refl s)
  cases h.symm.trans ht'
  exact hqueue

/-- What a step leaves can follow the state with the front command taken away. -/
theorem sound_of_step {s t : State} (h : step s = .next t) : Sound { s with pending := s.pending.drop 1 } t := by
  obtain ⟨t', ht', hsound⟩ := step_sound (s := s)
  cases h.symm.trans ht'
  exact hsound

theorem step_of_front {s : State} {c : Instr} {rest : List Instr} (h : s.pending = c :: rest) :
    step s = exec c { s with pending := rest } := by
  rw [step, h]

theorem step_of_empty {s : State} (h : s.pending = []) : step s = .next s.idle := by
  rw [step, h]

/-- Settles O3: a step is one of the operations (`sound_of_step`), and `LaserSafe` does not read the queue. -/
theorem laserSafetyIsKept : Obligations.LaserSafetyIsKept := by
  unfold Obligations.LaserSafetyIsKept
  intro s t hsafe hstep
  exact (sound_of_step hstep).2 hsafe

/-- Settles O14: the reset store is empty, and `RegsCanonical` does not read the queue. -/
theorem registerStoreStaysCanonical : Obligations.RegisterStoreStaysCanonical := by
  unfold Obligations.RegisterStoreStaysCanonical
  refine ⟨⟨rfl, fun _ he => absurd he List.not_mem_nil⟩, fun s t hcanon hstep => ?_⟩
  obtain ⟨⟨-, hregs⟩, -⟩ := sound_of_step hstep
  exact hregs hcanon

/-- Settles O13: the rules of the sparse tables, on a table in its canonical form. -/
theorem tablesReadBack : Obligations.TablesReadBack := by
  unfold Obligations.TablesReadBack
  intro d t k v hwf
  exact ⟨tget_tset_same (keysRise_of_tblWf hwf) d k v,
    fun j hj => congrArg (·.getD d) (tget?_tset_ne d t hj v), tblWf_tset hwf k v, tset_tget hwf k⟩

/-- Settles O2: every command's outcome is sound after the state it starts from. -/
theorem everyCommandGoesOnAndLeavesTheQueue : Obligations.EveryCommandGoesOnAndLeavesTheQueue := by
  unfold Obligations.EveryCommandGoesOnAndLeavesTheQueue
  refine ⟨⟨exec_goesOn, fun s => (step_sound (s := s)).imp fun _ h => h.1⟩, fun _ _ _ => exec_pending, fun s t h => ?_⟩
  obtain ⟨⟨hqueue, -⟩, -⟩ := sound_of_step h
  exact hqueue

/-- Settles O1. -/
theorem stepRunsTheFrontCommand : Obligations.StepRunsTheFrontCommand := by
  unfold Obligations.StepRunsTheFrontCommand
  intro s
  refine ⟨fun _ _ => step_of_front, step_of_empty, fun hqueue hvaon => ?_⟩
  rw [step_of_empty hqueue, State.idle, if_neg (by simp [hvaon])]

end Sys2Proof.Machine
end

section
/-!
What the alert and the interrupt vectors take from the host (R429, R523); the replies of SMBus and JTAG (R450, R516, R547);
filtered inputs that are stuck and that recover (R511).
-/

namespace Sys2Proof.Machine

open Sys2Proof.Stated

/-! ### O11 -/

theorem lget_lset_same {α : Type} {d v : α} {l : List α} {k : Nat} (hk : k < l.length) : lget d (lset l k v) k = v := by
  rw [lget, lset, List.getD_eq_getElem?_getD, List.getElem?_set_self hk, Option.getD_some]

theorem lget_lset_ne {α : Type} {d v : α} {l : List α} {j k : Nat} (hne : j ≠ k) :
    lget d (lset l k v) j = lget d l j := by
  rw [lget, lset, List.getD_eq_getElem?_getD, List.getElem?_set_ne hne.symm, ← List.getD_eq_getElem?_getD, lget]

theorem exec_genAlertClear {s : State} (hup : s.barUp = true) (concurrent : Option Nat) :
    exec (.genAlertClear concurrent) s = .next ((s.granted 0 2).alertClear concurrent) := by
  show execGenAlertClear concurrent s = _
  rw [execGenAlertClear, State.hostAct_of_barUp hup]
  rfl

theorem exec_msixUnmask {s : State} (hup : s.barUp = true) {v : Nat} (hv : v < 64) :
    exec (.msixUnmask v) s = .next ((s.granted 0 2).unmask v) := by
  show execMsixUnmask v s = _
  rw [execMsixUnmask, State.hostAct_of_barUp hup, if_pos hv]
  rfl

theorem State.unmask_vector {s : State} {v : Nat} (hv : v < s.cx.msix.length) : lget {} (s.unmask v).cx.msix v =
    { masked := false, pending := false
      raised := (lget {} s.cx.msix v).raised + ofBool (lget {} s.cx.msix v).pending } := by
  refine (lget_lset_same hv).trans ?_
  cases (lget {} s.cx.msix v).pending <;> rfl

/-- Settles O11. -/
theorem alertAndVectorWrites : Obligations.AlertAndVectorWrites := by
  unfold Obligations.AlertAndVectorWrites
  intro s v hup hv hlen
  refine ⟨exec_genAlertClear hup none, fun code => exec_genAlertClear hup (some code), _, exec_msixUnmask hup hv,
    State.unmask_vector (s := s.granted 0 2) (hv.trans_eq hlen.symm), fun m hm => lget_lset_ne hm, rfl⟩

/-! ### O27 -/

theorem State.smbusReply_of_vaon {s : State} (h : s.pins.vaon = true) (b : Bytes) :
    s.smbusReply b = s.emit (.smbus b) := by
  rw [State.smbusReply, if_pos h]

theorem State.jtagTake_of_rails {s : State} (h : s.pins.rails = true) (n : Nat) (drives : Bool) :
    s.jtagTake n drives = { s with pins := { s.pins with jtag := n, extest := drives } } := by
  rw [State.jtagTake, if_pos h]

/-- The flags of the safety block stand above the two bits of the guard. -/
theorem safetyFlags_bits (g : Nat) (lockout tested fault : Bool) (hg : g ≤ 2) :
    bitAt (BitVec.ofNat 8 (g + 4 * ofBool lockout + 8 * ofBool tested + 16 * ofBool fault)).toNat 2 = lockout ∧
      bitAt (BitVec.ofNat 8 (g + 4 * ofBool lockout + 8 * ofBool tested + 16 * ofBool fault)).toNat 3 = tested := by
  interval_cases g <;> revert lockout tested fault <;> decide

theorem State.safetyBytes_reply (s : State) : s.safetyBytes.length = 8 ∧
    lget 0 s.safetyBytes 2 = BitVec.ofNat 8 s.ret.faultCode ∧ bitAt (lget 0 s.safetyBytes 0).toNat 2 = s.ret.lockout ∧
    bitAt (lget 0 s.safetyBytes 0).toNat 3 = s.ret.tested := by
  refine ⟨rfl, rfl, ?_⟩
  unfold State.safetyBytes
  cases s.saf.guard
  · exact safetyFlags_bits 0 _ _ _ (by decide)
  · exact safetyFlags_bits 1 _ _ _ (by decide)
  · exact safetyFlags_bits 2 _ _ _ (by decide)

/-- Settles O27. -/
theorem managementAndTestPorts : Obligations.ManagementAndTestPorts := by
  unfold Obligations.ManagementAndTestPorts
  intro s
  refine ⟨fun hvaon => ?_, fun hrails => ?_⟩
  · have hreply (b : Bytes) : next (s.smbusReply b) = next (s.emit (.smbus b)) :=
      congrArg _ (s.smbusReply_of_vaon hvaon b)
    exact ⟨hreply _, hreply _, ⟨_, hreply _, s.safetyBytes_reply⟩, hreply _⟩
  · have htake (n : Nat) (drives : Bool) : next (s.jtagTake n drives) =
        next { s with pins := { s.pins with jtag := n, extest := drives } } :=
      congrArg _ (s.jtagTake_of_rails hrails n drives)
    refine ⟨htake 0 false, ?_, htake 2 false, htake 3 true, htake 4 true, htake 5 true⟩
    show execJtagIdcode s = _
    rw [execJtagIdcode, if_pos hrails, s.jtagTake_of_rails hrails]
    rfl

/-! ### O21 -/

theorem State.filter_setFilter {s : State} {n : Nat} (hn : n < s.pins.filters.length) (f : Filter) :
    (s.setFilter n f).filter n = f := lget_lset_same hn

theorem exec_inputStuckTimeout_trigger {s : State} {k : Fin 4} {a : Nat} (hvaon : s.pins.vaon = true)
    (hmax : s.maxAct (10 + k) = some a) (hact : (s.filter (10 + k)).active = true)
    (hgood : (s.filter (10 + k)).faulted = false) : exec (.inputStuckTimeout (Fin.ofNat 14 (10 + k))) s =
      .next (((s.waitClk ((s.filter (10 + k)).at_ + a)).setFilter (10 + k)
        { s.filter (10 + k) with faulted := true }).raiseLim 0x0708 k [(1, timeInput (10 + k)), (1, 0)]) := by
  have hn : (Fin.ofNat 14 (10 + (k : Nat))).val = 10 + k := Nat.mod_eq_of_lt (by omega)
  show execInputStuckTimeout _ s = _
  rw [execInputStuckTimeout]
  simp only [hn, hmax]
  rw [if_neg (by simp [hvaon, hact, hgood]), if_neg (by omega), if_neg (by omega), if_neg (by omega),
    if_neg (by omega), Nat.add_sub_cancel_left]
  rfl

theorem exec_inputStuckTimeout_rstN {s : State} {a : Nat} (hvaon : s.pins.vaon = true) (hmax : s.maxAct 8 = some a)
    (hact : (s.filter 8).active = true) (hgood : (s.filter 8).faulted = false) : exec (.inputStuckTimeout 8) s =
      .next { s.waitClk ((s.filter 8).at_ + a) with ret := { s.ret with rstStuck := true, stuckPending := true } } := by
  have hn : (8 : Fin 14).val = 8 := rfl
  show execInputStuckTimeout 8 s = _
  rw [execInputStuckTimeout]
  simp only [hn, hmax]
  rw [if_neg (by simp [hvaon, hact, hgood]), if_pos True.intro]
  rfl

theorem exec_inputRecovery_trigger {s : State} {k : Fin 4} (hvaon : s.pins.vaon = true)
    (hidle : (s.filter (10 + k)).active = false) (hbad : (s.filter (10 + k)).faulted = true) :
    exec (.inputRecovery (Fin.ofNat 14 (10 + k))) s = .next ((s.waitClk (s.recoveryAt (10 + k))).setFilter (10 + k)
      { s.filter (10 + k) with faulted := false }) := by
  have hn : (Fin.ofNat 14 (10 + (k : Nat))).val = 10 + k := Nat.mod_eq_of_lt (by omega)
  show execInputRecovery _ s = _
  rw [execInputRecovery]
  simp only [hn]
  rw [if_neg (by simp [hvaon, hidle, hbad]), if_neg (by omega), if_neg (by omega), if_neg (by omega),
    if_neg (by omega)]
  rfl

/-- Settles O21. -/
theorem filtersFaultAndRecover : Obligations.FiltersFaultAndRecover := by
  unfold Obligations.FiltersFaultAndRecover
  intro s k a hvaon hlen
  have hk : 10 + (k : Nat) < s.pins.filters.length := by omega
  refine ⟨fun hmax hact hgood => ⟨_, exec_inputStuckTimeout_trigger hvaon hmax hact hgood, ?_, ?_, ?_, ?_⟩,
    fun hmax hact hgood => ⟨_, exec_inputStuckTimeout_rstN hvaon hmax hact hgood, rfl, rfl, rfl⟩,
    fun hidle hbad => ⟨_, exec_inputRecovery_trigger hvaon hidle hbad,
      congrArg Filter.faulted (State.filter_setFilter (s := s.waitClk _) hk _), s.waitClk_clk _, rfl, rfl, rfl⟩⟩
  · rw [State.filter, State.raiseLim_pins]
    exact congrArg Filter.faulted (State.filter_setFilter (s := s.waitClk _) hk _)
  · rw [State.raiseLim_clk]
    exact s.waitClk_clk _
  · rw [State.raiseLim_saf]; rfl
  · rw [State.raiseLim_ret]; rfl

end Sys2Proof.Machine
end

section
/-!
The laser safety interlock (chapter 24): its faults, its stop, the guard, a sample, the reset button, SAF_LASER_SET and the
configuration.
-/

namespace Sys2Proof.Machine

open Sys2Proof.Stated

/-! ### What a fault and a stop of the lasers leave (R502, R507) -/

@[simp] theorem State.endLaserSet_saf (s : State) (st : Nat) : (s.endLaserSet st).saf = { s.saf with pending := none } := by
  unfold State.endLaserSet
  split
  · rw [State.complete_saf]
  next h => rw [← h]

@[simp] theorem State.endLaserSet_mode (s : State) (st : Nat) : (s.endLaserSet st).mode = s.mode := by
  unfold State.endLaserSet
  split
  · rw [State.complete_mode]
  · rfl

theorem State.safFault_saf (s : State) (code loc : Nat) : (s.safFault code loc).saf =
    { (s.driveLasers 0).saf with request := 0, pending := none } := by
  rw [State.safFault, State.raise_saf, State.endLaserSet_saf]

theorem State.safFault_ret (s : State) (code loc : Nat) : (s.safFault code loc).ret =
    { s.ret with
      lockout := true, tested := false, faultCode := code, faultWhere := loc, faults := min (s.ret.faults + 1) 65535 } := by
  rw [State.safFault, State.raise_ret, State.ret_of_conduct (State.endLaserSet_conduct _ _)]
  rfl

theorem State.safFault_clk (s : State) (code loc : Nat) : (s.safFault code loc).clk = s.clk := by
  rw [State.safFault, State.raise_clk, State.clk_of_conduct (State.endLaserSet_conduct _ _)]
  rfl

theorem State.safFault_faulted (s : State) (code loc : Nat) : SafetyFaulted (s.safFault code loc) code loc := by
  unfold SafetyFaulted
  rw [State.safFault_ret, State.safFault_saf]
  exact ⟨rfl, rfl, rfl, rfl, rfl, rfl⟩

theorem State.safStop_guard (s : State) (cause st : Nat) : (s.safStop cause st).saf.guard = s.saf.guard := by
  unfold State.safStop
  split
  · rw [State.endLaserSet_saf]
  · rw [State.raiseLim_saf, State.endLaserSet_saf]; rfl

theorem State.safStop_dark (s : State) (cause st : Nat) :
    (s.safStop cause st).saf.lsrEn = 0 ∧ (s.safStop cause st).saf.request = 0 :=
  ⟨(State.lsrEn_of_conduct (t := s.safStop cause st) (s := s.lasersOff) (s.safStop_conduct cause st)),
    (State.request_of_conduct (t := s.safStop cause st) (s := s.lasersOff) (s.safStop_conduct cause st))⟩

/-! ### O22: samples and the reset button -/

@[simp] theorem State.waitClk_saf (s : State) (t : Nat) : (s.waitClk t).saf = s.saf := rfl
@[simp] theorem State.waitClk_ret (s : State) (t : Nat) : (s.waitClk t).ret = s.ret := rfl

/-- The groups whose output differs from its command in a sample have their runs counted, the others start anew (R499). -/
def misCounted (saf : SafSt) (rb : Nat) : List Nat :=
  (List.range 4).map fun g => if bitAt rb g = bitAt saf.lsrEn g then 0 else lget 0 saf.misRun g + 1

/-- The interlock with its run counted and a readback sampled (R499, R504). -/
def State.sampled (s : State) (rb : Nat) : State :=
  let run := if s.saf.guard = .disagree then s.saf.run + 1 else 0
  { s with saf := { s.saf with
    run := run, longest := max s.saf.longest (discTicks run), readback := rb % 16, misRun := misCounted s.saf rb } }

theorem exec_safetySample {s : State} (hvaon : s.pins.vaon = true) (rb : Nat) : exec (.safetySample rb) s =
    .next (((s.waitClk s.slowEdge).sampled rb).each ((s.waitClk s.slowEdge).sampled rb).readbackFaults
      fun s g => s.safFault 0x07 g) := by
  show execSafetySample rb s = _
  rw [execSafetySample, if_neg (by simp [hvaon])]
  generalize s.waitClk s.slowEdge = u
  rfl

theorem State.readbackFaults_sampled (s : State) (rb : Nat) :
    (s.sampled rb).readbackFaults = (List.range 4).filter fun g => lget 0 (misCounted s.saf rb) g == 2 := rfl

theorem State.sampled_leaves (s : State) (rb : Nat) : (s.sampled rb).saf.misRun = misCounted s.saf rb ∧
    (s.sampled rb).saf.readback = rb % 16 ∧
    (s.sampled rb).saf.run = (if s.saf.guard = .disagree then s.saf.run + 1 else 0) ∧
    (s.sampled rb).saf.longest = max s.saf.longest (discTicks (s.sampled rb).saf.run) ∧
    (s.sampled rb).saf.lsrEn = s.saf.lsrEn ∧ (s.sampled rb).ret = s.ret ∧ (s.sampled rb).clk = s.clk :=
  ⟨rfl, rfl, rfl, rfl, rfl, rfl, rfl⟩

theorem misCounted_agrees {saf : SafSt} {rb : Nat} (h : rb = saf.lsrEn) : misCounted saf rb = [0, 0, 0, 0] := by
  simp [misCounted, h, List.range_succ]

theorem misCounted_first {saf : SafSt} {rb : Nat} (hne : bitAt rb 0 ≠ bitAt saf.lsrEn 0) (hone : lget 0 saf.misRun 0 = 1)
    (hothers : ∀ g, 1 ≤ g → g < 4 → bitAt rb g = bitAt saf.lsrEn g) : misCounted saf rb = [2, 0, 0, 0] := by
  simp [misCounted, List.range_succ, hne, hone, hothers 1, hothers 2, hothers 3]

theorem exec_safResetPress {s : State} {held : Nat} (hvaon : s.pins.vaon = true)
    (hedge : (s.edge 2 true held).1 = .accepted) : ∃ f, exec (.safResetPress held) s =
      .next { s.setFilter 2 f with saf := { s.saf with pressAt := some s.clk } } := by
  obtain ⟨f, hf⟩ := State.edge_accepted hedge
  refine ⟨f, ?_⟩
  show execSafResetPress held s = _
  rw [execSafResetPress, if_neg (by simp [hvaon]), hf]
  rfl

theorem State.resetRelease_clears {s : State} {dur : Nat} (hlock : s.ret.lockout = true) (hlong : 100000000 ≤ dur)
    (hfree : s.resetBlocked = none) : s.resetRelease dur =
      ({ s with ret := { s.ret with lockout := false } }).raise 0x0503 [(2, dur / 100000)] := by
  rw [State.resetRelease, if_neg (by simp [hlock]), if_neg (by omega), hfree]

theorem exec_safResetRelease {s : State} {held a : Nat} (hvaon : s.pins.vaon = true)
    (hedge : (s.edge 2 false held).1 = .accepted) (hpress : s.saf.pressAt = some a) (hlong : a + 100000000 ≤ s.clk)
    (hshort : s.clk < a + 3000000000) (hlock : s.ret.lockout = true)
    (hfree : (s.edge 2 false held).2.resetBlocked = none) : ∃ f, exec (.safResetRelease held) s =
      .next (({ s.setFilter 2 f with
        saf := { s.saf with pressAt := none }, ret := { s.ret with lockout := false } }).raise 0x0503
          [(2, (s.clk - a) / 100000)]) := by
  obtain ⟨f, hf⟩ := State.edge_accepted hedge
  rw [hf] at hfree
  refine ⟨f, ?_⟩
  have hclears := State.resetRelease_clears (dur := s.clk - a)
    (s := { s.setFilter 2 f with saf := { s.saf with pressAt := none } }) hlock (by omega) hfree
  show execSafResetRelease held s = _
  rw [execSafResetRelease, if_neg (by simp [hvaon]), hf]
  dsimp only
  have hpress' : (s.setFilter 2 f).saf.pressAt = some a := hpress
  have hclk : (s.setFilter 2 f).clk = s.clk := rfl
  rw [hpress']
  dsimp only
  rw [hclk, if_neg (by omega)]
  exact congrArg _ hclears

theorem safetySample_agrees {s : State} {rb : Nat} (hvaon : s.pins.vaon = true) (hrb : rb < 16) (heq : rb = s.saf.lsrEn) :
    ∃ t, exec (.safetySample rb) s = .next t ∧ t.saf.readback = rb ∧ t.saf.misRun = [0, 0, 0, 0] ∧
      t.saf.run = (if s.saf.guard = .disagree then s.saf.run + 1 else 0) ∧
      t.saf.longest = max s.saf.longest (discTicks t.saf.run) ∧ t.saf.lsrEn = s.saf.lsrEn ∧ t.ret = s.ret ∧
      t.clk = max s.clk s.slowEdge := by
  have hexec := exec_safetySample hvaon rb
  have hsaf : (s.waitClk s.slowEdge).saf = s.saf := s.waitClk_saf _
  have hret : (s.waitClk s.slowEdge).ret = s.ret := s.waitClk_ret _
  have hclk := s.waitClk_clk s.slowEdge
  generalize s.waitClk s.slowEdge = u at hexec hsaf hret hclk
  have hmis : misCounted u.saf rb = [0, 0, 0, 0] := misCounted_agrees (hsaf ▸ heq)
  have hnone : (u.sampled rb).readbackFaults = [] := by rw [State.readbackFaults_sampled, hmis]; rfl
  rw [hnone] at hexec
  obtain ⟨hmisrun, hread, hrun, hlongest, hlsr, hret', hclk'⟩ := u.sampled_leaves rb
  rw [hsaf] at hrun hlongest hlsr
  exact ⟨u.sampled rb, hexec, hread.trans (Nat.mod_eq_of_lt hrb), hmisrun.trans hmis, hrun, hlongest, hlsr,
    hret'.trans hret, hclk'.trans hclk⟩

/-- The groups that differ on two samples in a row are those whose run has become 2 (R504). -/
theorem safetySample_differs {s : State} {rb : Nat} (hvaon : s.pins.vaon = true)
    (hne : bitAt rb 0 ≠ bitAt s.saf.lsrEn 0) (hone : lget 0 s.saf.misRun 0 = 1)
    (hothers : ∀ g, 1 ≤ g → g < 4 → bitAt rb g = bitAt s.saf.lsrEn g) :
    ∃ t, exec (.safetySample rb) s = .next t ∧ SafetyFaulted t 0x07 0 := by
  have hexec := exec_safetySample hvaon rb
  have hsaf : (s.waitClk s.slowEdge).saf = s.saf := s.waitClk_saf _
  generalize s.waitClk s.slowEdge = u at hexec hsaf
  have hmis : misCounted u.saf rb = [2, 0, 0, 0] := misCounted_first (hsaf ▸ hne) (hsaf ▸ hone) (hsaf ▸ hothers)
  have hfirst : (u.sampled rb).readbackFaults = [0] := by rw [State.readbackFaults_sampled, hmis]; rfl
  rw [hfirst] at hexec
  exact ⟨_, hexec, (u.sampled rb).safFault_faulted 0x07 0⟩

/-- Settles O22. -/
theorem safetySampleAndReset : Obligations.SafetySampleAndReset := by
  unfold Obligations.SafetySampleAndReset
  refine ⟨fun s rb hvaon hrb => ⟨fun heq _ => safetySample_agrees hvaon hrb heq, safetySample_differs hvaon⟩,
    fun s held a hvaon => ⟨fun hedge => ?_, fun hedge hpress hlong hshort hlock hfree => ?_⟩⟩
  · obtain ⟨f, hexec⟩ := exec_safResetPress hvaon hedge
    exact ⟨_, hexec, rfl, rfl⟩
  · obtain ⟨f, hexec⟩ := exec_safResetRelease hvaon hedge hpress hlong hshort hlock hfree
    exact ⟨_, hexec, by rw [State.raise_ret], by rw [State.raise_saf], by rw [State.raise_mode]; rfl⟩

/-! ### O23: the guard and the faults -/

theorem State.guardUpdate_leaves (s : State) : s.guardUpdate.saf.guard = s.guardNow ∧ s.guardUpdate.mode = s.mode ∧
    (s.saf.guard = .closed → s.guardNow ≠ .closed → s.guardUpdate.saf.lsrEn = 0 ∧ s.guardUpdate.saf.request = 0) := by
  unfold State.guardUpdate
  extract_lets old new _ s1 s2 passed _ s3
  have hguard : s2.saf.guard = new := by
    unfold s2
    split
    · rw [State.safStop_guard]
    · rfl
  have hmode : s2.mode = s.mode := by
    unfold s2
    split
    · rw [State.safStop_mode]
    · rfl
  split
  next h =>
    refine ⟨?_, ?_, fun hclosed => absurd hclosed h.2⟩
    · split
      · rw [State.raise_saf]; exact hguard
      · exact hguard
    · split
      · rw [State.raise_mode]; exact hmode
      · exact hmode
  next h =>
    refine ⟨hguard, hmode, fun hclosed hopen => ?_⟩
    unfold s2
    rw [if_pos ⟨hclosed, hopen⟩]
    exact s1.safStop_dark 0 St.guardOpen

theorem exec_guardChange {s : State} {b closed : Bool} {held : Nat} (hvaon : s.pins.vaon = true)
    (hedge : (s.edge (if b then 1 else 0) closed held).1 = .accepted) :
    exec (.guardChange b closed held) s = .next (s.edge (if b then 1 else 0) closed held).2.guardUpdate := by
  obtain ⟨f, hf⟩ := State.edge_accepted hedge
  show execGuardChange b closed held s = _
  rw [execGuardChange, if_neg (by simp [hvaon])]
  dsimp only
  rw [hf]
  rfl

theorem exec_discrepancyFault {s : State} (hguard : s.saf.guard = .disagree) (hrun : s.saf.run = s.discK) :
    exec .discrepancyFault s =
      .next { s.safFault 0x01 0 with saf := { (s.safFault 0x01 0).saf with openSeen := false } } := by
  show execDiscrepancyFault s = _
  rw [execDiscrepancyFault, if_pos ⟨hguard, hrun⟩]
  rfl

theorem exec_resetFault {s : State} {a : Nat} (hpress : s.saf.pressAt = some a) :
    exec .resetFault s = .next (s.waitClk (a + 3000000000)).resetFaultNow := by
  show execResetFault s = _
  rw [execResetFault, hpress]
  rfl

theorem exec_fbLate {s : State} {g : Fin 4} {a : Nat} (hopen : lget none s.saf.follow g = some a) :
    exec (.fbLate g) s = .next (((s.waitClk (a + 50000000)).closeFollow g).safFault 0x02 g) := by
  show execFbLate g s = _
  rw [execFbLate, hopen]
  rfl

theorem exec_lsrFbChange_unasked {s : State} {g : Fin 4} {contactsOpen : Bool} {held : Nat} (hvaon : s.pins.vaon = true)
    (hedge : (s.edge (3 + g) contactsOpen held).1 = .accepted) (hwired : bitAt s.saf.wired g = true)
    (hseen : (s.filter (3 + g)).seen = true) (hnone : lget none s.saf.follow g = none) :
    ∃ u : State, exec (.lsrFbChange g contactsOpen held) s = .next (u.safFault 0x03 g) := by
  obtain ⟨f, hf⟩ := State.edge_accepted hedge
  refine ⟨s.setFilter (3 + g) f, ?_⟩
  show execLsrFbChange g contactsOpen held s = _
  rw [execLsrFbChange, if_neg (by simp [hvaon])]
  dsimp only
  have hasked : bitAt (s.setFilter (3 + g) f).saf.wired g = true ∧ ¬ (s.filter (3 + g)).seen = false :=
    ⟨hwired, by simp [hseen]⟩
  have hnone' : lget none (s.setFilter (3 + g) f).saf.follow g = none := hnone
  rw [hf]
  dsimp only
  rw [if_pos hasked, State.fbChange, hnone']
  rfl

/-- Settles O23. -/
theorem guardAndSafetyFaults : Obligations.GuardAndSafetyFaults := by
  unfold Obligations.GuardAndSafetyFaults
  intro s g b closed held a hvaon
  refine ⟨fun hedge => ?_, fun hguard hrun => ?_, fun hpress => ?_, fun hopen => ?_, fun hedge hwired hseen hnone => ?_⟩
  · obtain ⟨hguard, hmode, hdark⟩ := (s.edge (if b then 1 else 0) closed held).2.guardUpdate_leaves
    obtain ⟨f, hf⟩ := State.edge_accepted hedge
    refine ⟨_, exec_guardChange hvaon hedge, hguard, fun hclosed hopen => hdark ?_ (hguard ▸ hopen), ?_⟩
    · rw [hf]; exact hclosed
    · rw [hmode, hf]; rfl
  · exact ⟨_, exec_discrepancyFault hguard hrun, s.safFault_faulted 0x01 0, rfl⟩
  · refine ⟨_, exec_resetFault hpress, State.safFault_faulted _ _ _, ?_, ?_⟩
    · rw [State.resetFaultNow, State.safFault_saf]; rfl
    · rw [State.resetFaultNow, State.safFault_clk]; exact s.waitClk_clk _
  · refine ⟨_, exec_fbLate hopen, State.safFault_faulted _ _ _, ?_⟩
    rw [State.safFault_clk]; exact s.waitClk_clk _
  · obtain ⟨u, hexec⟩ := exec_lsrFbChange_unasked hvaon hedge hwired hseen hnone
    exact ⟨_, hexec, u.safFault_faulted 0x03 g⟩

/-! ### O24: SAF_LASER_SET and the configuration (R500, R501, R556) -/

section LaserSet

variable {s : State} {tag : CmdTag} {groups : Nat} (hs : Serves s) (hfit : groups < 16) (hmode : 3 ≤ s.mode.mode.code)
  (hwired : clearBits groups s.saf.wired = 0)
include hs hfit hmode hwired

theorem exec_safLaserSet_locked (hlock : s.ret.lockout = true) :
    exec (.safLaserSet tag groups) s = .next ((s.begin tag 0x0501).complete tag St.laserLockout) := by
  show execSafLaserSet tag groups s = _
  rw [execSafLaserSet, State.serve_eq hs, if_neg (by omega), if_neg (by simp [State.lasersPermitted, hmode]),
    if_neg (by simp [hwired]), if_pos (by simp [hlock])]
  rfl

theorem exec_safLaserSet_drives (hlock : s.ret.lockout = false) (htested : s.ret.tested = true)
    (hguard : s.saf.guard = .closed) (hidle : s.saf.pending = none) (hne : s.saf.lsrEn ^^^ groups ≠ 0) :
    exec (.safLaserSet tag groups) s = .next { (s.begin tag 0x0501).driveLasers groups with
      saf := { (s.driveLasers groups).saf with
        request := groups, pending := some (tag, s.saf.lsrEn ^^^ groups) } } := by
  show execSafLaserSet tag groups s = _
  rw [execSafLaserSet, State.serve_eq hs, if_neg (by omega), if_neg (by simp [State.lasersPermitted, hmode]),
    if_neg (by simp [hwired]), if_neg (by simp [hlock]), if_neg (by simp [htested]), if_neg (by simp [hguard]),
    if_neg (by simp [hidle])]
  dsimp only
  rw [if_neg (by simpa using hne)]
  rfl

end LaserSet

/-- The follow window of a wired group whose output changes opens (R506). -/
theorem State.driveLasers_follow (s : State) (new : Nat) {g : Nat} (hg : g < 4)
    (hchanged : bitAt ((s.saf.lsrEn ^^^ new) &&& s.saf.wired) g = true) :
    lget none (s.driveLasers new).saf.follow g = some s.clk := by
  simp [State.driveLasers, lget, hg, hchanged]

/-- With the lasers off and unrequested the check of the lasers turns none on. -/
theorem State.lasersRecheck_dark {s : State} (hwant : s.saf.request = 0) :
    s.lasersRecheck.saf.lsrEn = 0 ∧ s.lasersRecheck.saf.tDisc = s.saf.tDisc ∧
      s.lasersRecheck.saf.wired = s.saf.wired ∧ s.lasersRecheck.saf.records = s.saf.records := by
  refine ⟨?_, rfl, rfl, rfl⟩
  show (if s.lasersMay = true then s.saf.request &&& s.saf.wired else 0) = 0
  rw [hwant, Nat.zero_and, ite_self]

section Configuration

variable {s : State} (hup : s.barUp = true) (hactive : s.canvas.active = none)
include hup hactive

theorem exec_safCfgWrite (addr : Nat) (v : Word) (haddr : isSafCfg addr = true) :
    exec (.safCfgWrite addr v) s = .next (
      if addr = 0x5000C then
        if v.toNat % 1024 < 10 ∨ v.toNat % 1024 > 1000 ∨ v.toNat &&& 0xFFF0FC00 ≠ 0 then
          (s.granted 10 2).raise 0x0506 [(4, addr)]
        else State.lasersRecheck { s.granted 10 2 with
          saf := { s.saf with tDisc := v.toNat % 1024, wired := v.toNat / 65536 % 16 } }
      else if filterRecordOk ((addr - 0x50010) / 4) v.toNat (s.filterRecord (1 - (addr - 0x50010) / 4)) then
        { s.granted 10 2 with saf := { s.saf with records := lset s.saf.records ((addr - 0x50010) / 4) v } }
      else (s.granted 10 2).raise 0x0506 [(4, addr)]) := by
  have hidle : ¬ ((s.granted 10 2).canvas.active.isSome = true) := by simp [hactive]
  show execSafCfgWrite addr v s = _
  rw [execSafCfgWrite, State.hostAct_of_barUp hup, if_pos haddr, State.safCfgWrite]
  dsimp only
  rw [if_neg hidle]
  rfl

end Configuration

theorem isSafCfg_record {n : Nat} (hn : n < 11) : isSafCfg (0x50010 + 4 * n) = true := by
  simp [isSafCfg]
  omega

/-- Settles O24. -/
theorem laserSetAndConfiguration : Obligations.LaserSetAndConfiguration := by
  unfold Obligations.LaserSetAndConfiguration
  refine ⟨fun s tag groups hs hfit hmode hwired => ⟨fun hlock htested hguard hidle hne => ?_, fun hlock => ?_⟩,
    fun s v hup hactive _ hwant => ⟨fun hmin hmax hrest => ?_, fun hmin => ?_, fun n hn hlen hok => ?_⟩⟩
  · exact ⟨_, exec_safLaserSet_drives hs hfit hmode hwired hlock htested hguard hidle hne, rfl, rfl, rfl, rfl, rfl,
      fun g hg => s.driveLasers_follow groups hg⟩
  · exact ⟨_, exec_safLaserSet_locked hs hfit hmode hwired hlock, refused_of_begun hs tag _ _ _⟩
  · have hexec := exec_safCfgWrite hup hactive 0x5000C v rfl
    rw [if_pos rfl, if_neg (by omega)] at hexec
    obtain ⟨hdark, hdisc, hwired, hrecords⟩ := State.lasersRecheck_dark (s := { s.granted 10 2 with
      saf := { s.saf with tDisc := v.toNat % 1024, wired := v.toNat / 65536 % 16 } }) hwant
    exact ⟨_, hexec, hdisc, hwired, hdark, hrecords⟩
  · have hexec := exec_safCfgWrite hup hactive 0x5000C v rfl
    rw [if_pos rfl, if_pos (.inl hmin)] at hexec
    exact ⟨_, hexec, by rw [State.raise_saf]; rfl, State.raise_evtSeq _ _ (by decide)⟩
  · have hexec := exec_safCfgWrite hup hactive (0x50010 + 4 * n) v (isSafCfg_record hn)
    rw [if_neg (by omega), Nat.add_sub_cancel_left, Nat.mul_div_cancel_left n (by decide), if_pos hok] at hexec
    exact hexec

end Sys2Proof.Machine
end

section
/-!
Captures, trigger outputs and PPS_OUT (R393 to R397).
-/

namespace Sys2Proof.Machine

open Sys2Proof.Stated

/-! ### Fields above a stored one -/

theorem bitsOf_putBits_above {hi lo hi' lo' : Nat} (hle : lo ≤ hi) (hlt : hi < lo') (n v : Nat) :
    bitsOf (putBits n hi lo v) hi' lo' = bitsOf n hi' lo' := by
  have hdrop (m : Nat) : m / 2 ^ lo' = m / 2 ^ lo / 2 ^ (hi + 1 - lo) / 2 ^ (lo' - (hi + 1)) := by
    rw [Nat.div_div_eq_div_mul, Nat.div_div_eq_div_mul, ← pow_add, ← pow_add]; congr 2; omega
  have hhigh : putBits n hi lo v / 2 ^ lo / 2 ^ (hi + 1 - lo) = n / 2 ^ lo / 2 ^ (hi + 1 - lo) := by
    rw [putBits_eq, Nat.add_mul_div_left _ _ (by positivity), Nat.div_eq_of_lt (Nat.mod_lt n (by positivity)),
      Nat.zero_add, Nat.add_mul_div_left _ _ (by positivity), Nat.div_eq_of_lt (Nat.mod_lt v (by positivity)),
      Nat.zero_add]
  rw [bitsOf, bitsOf, hdrop, hdrop n, hhigh]

/-- A store of a field leaves the fields above it in its register as they were (R4). -/
theorem StoredField.fld_setFld_below {s : State} {f g : FieldRef} (hf : StoredField f) (hg : g.lo ≤ g.hi)
    (hrise : keysRise 0 s.regs = true) (haddr : g.addr = f.addr) (hlt : g.hi < f.lo) (v : Nat) :
    (s.setFld g v).fld f = s.fld f := by
  rw [State.fld_eq_bitsOf _ f hf.reset_eq, State.fld_eq_bitsOf s f hf.reset_eq, State.setFld, haddr,
    State.regWord_setRegWord_same hrise, BitVec.toNat_ofNat, bitsOf_mod hf.lo_le hf.hi_lt,
    bitsOf_putBits_above hg hlt]

theorem storedField_trigOutEn (pin : Fin 4) : StoredField (Reg.TIM_TRIG_OUT_CTL_EN pin) :=
  ⟨le_rfl, show 0 < 32 by decide, by revert pin; decide⟩

theorem storedField_trigOutPol (pin : Fin 4) : StoredField (Reg.TIM_TRIG_OUT_CTL_POL pin) :=
  ⟨le_rfl, show 1 < 32 by decide, by revert pin; decide⟩

/-! ### Captures (R393, R394) -/

@[simp] theorem State.waitTime_pins (s : State) (t : Nat) : (s.waitTime t).pins = s.pins := by
  have h := congrArg State.pins (s.waitTime_timeOnly t); exact h
@[simp] theorem State.waitTime_out (s : State) (t : Nat) : (s.waitTime t).out = s.out := by
  have h := congrArg State.out (s.waitTime_timeOnly t); exact h

theorem State.waitTime_time (s : State) (t : Nat) :
    (s.waitTime t).time = { s.time with now := max s.time.now t } := by
  have hnow := s.waitTime_now t
  unfold State.waitTime at hnow ⊢
  split
  next h => rw [if_pos h] at hnow; rw [← hnow]; rfl
  next h => rw [max_eq_left (not_lt.mp h)]

/-- The capture that a free place of a FIFO takes at this instant. -/
def State.captured (s : State) (unit : Nat) (rising : Bool) : State :=
  { s with time := { s.time with
    caps := tput s.time.caps unit (tget [] s.time.caps unit ++ [⟨s.time.now, rising, !s.traceable⟩]) } }

theorem State.capture_of_room {s : State} {unit : Nat} (h : (tget [] s.time.caps unit).length < 16) (rising : Bool) :
    s.capture unit rising = (s.captured unit rising).count (timCnt (8 + unit)) 1 := by
  rw [State.capture]
  dsimp only
  rw [if_neg (by omega)]
  rfl

theorem State.capture_of_full {s : State} {unit : Nat} (h : 16 ≤ (tget [] s.time.caps unit).length) (rising : Bool) :
    s.capture unit rising = (s.count (timCnt (16 + unit)) 1).raiseLim 0x0707 unit [(1, unit)] := by
  rw [State.capture]
  dsimp only
  rw [if_pos h]

theorem exec_trigInEdge {s : State} {pin : Fin 4} {rising : Bool} {held : Nat} (halive : s.pinsAlive = true)
    (hedge : (s.edge (10 + pin) rising held).1 = .accepted) (hen : s.flag (Reg.TIM_TRIG_IN_EN pin) = true)
    (hsel : bitAt (s.fld (Reg.TIM_TRIG_IN_EDGE pin)) (if rising then 0 else 1) = true) :
    ∃ f, exec (.trigInEdge pin rising held) s = .next ((s.setFilter (10 + pin) f).capture pin rising) := by
  obtain ⟨f, hf⟩ := State.edge_accepted hedge
  refine ⟨f, ?_⟩
  have hcond : (s.setFilter (10 + pin) f).flag (Reg.TIM_TRIG_IN_EN pin) = true ∧
      bitAt ((s.setFilter (10 + pin) f).fld (Reg.TIM_TRIG_IN_EDGE pin)) (if rising then 0 else 1) = true := ⟨hen, hsel⟩
  show execTrigInEdge pin rising held s = _
  rw [execTrigInEdge, if_neg (by simp [halive]), hf]
  dsimp only
  rw [if_pos hcond]
  rfl

theorem State.addOffset_time (s : State) (ps : Int) :
    (s.addOffset ps).time = { s.time with offsets := s.time.offsets ++ [ps] } := rfl

/-- What an accepted edge of PPS_IN brings about while PPS_IN is enabled. -/
def State.ppsTaken (s : State) : State :=
  let s1 := s.capture 4 true
  if s1.flag Reg.TIM_PPS_IN_EN ∧ s1.time.srcUsed = 2 then
    s1.addOffset (ppsOffset s1.time.now (s1.fld Reg.TIM_PPS_IN_DELAY)) else s1

theorem exec_ppsInEdge {s : State} {held : Nat} (halive : s.pinsAlive = true) {f : Filter} (hf : f = { s.filter 9 with
      active := false, edges := if (s.filter 9).active then s.clk :: (s.filter 9).edges else (s.filter 9).edges })
    (hedge : ((s.setFilter 9 f).edge 9 true held).1 = .accepted) (hen : s.flag Reg.TIM_PPS_IN_EN = true) :
    ∃ f', exec (.ppsInEdge held) s = .next ((s.setFilter 9 f).setFilter 9 f').ppsTaken := by
  obtain ⟨f', hf'⟩ := State.edge_accepted hedge
  refine ⟨f', ?_⟩
  have hen' : ((s.setFilter 9 f).setFilter 9 f').flag Reg.TIM_PPS_IN_EN = true := hen
  show execPpsInEdge held s = _
  rw [execPpsInEdge, if_neg (by simp [halive])]
  dsimp only
  rw [← hf, hf']
  dsimp only
  rw [if_pos hen']
  rfl

/-- An edge for which a place is free is stamped, and gives an offset where the servo follows PPS_IN (R394). -/
theorem State.ppsTaken_leaves {s : State} (hen : s.flag Reg.TIM_PPS_IN_EN = true)
    (hroom : (tget [] s.time.caps 4).length < 16) : s.ppsTaken.time = { s.time with
      caps := tput s.time.caps 4 (tget [] s.time.caps 4 ++ [⟨s.time.now, true, !s.traceable⟩])
      offsets := if s.time.srcUsed = 2
        then s.time.offsets ++ [ppsOffset s.time.now (s.fld Reg.TIM_PPS_IN_DELAY)] else s.time.offsets } ∧
    { s.ppsTaken with time := s.time, obs := s.obs } = s := by
  have hcap := State.capture_of_room hroom true
  have htime : (s.capture 4 true).time = (s.captured 4 true).time := by rw [hcap, State.count_time]
  have hregs : (s.capture 4 true).regs = s.regs := by rw [hcap, State.count_regs]; rfl
  have hrest : { s.capture 4 true with time := s.time, obs := s.obs } = s := by rw [hcap]; rfl
  have hen' : (s.capture 4 true).flag Reg.TIM_PPS_IN_EN = true := by rw [State.flag_congr hregs, hen]
  have hsrc : (s.capture 4 true).time.srcUsed = s.time.srcUsed := by rw [htime]; rfl
  have hnow : (s.capture 4 true).time.now = s.time.now := by rw [htime]; rfl
  rw [State.ppsTaken]
  dsimp only
  by_cases h : s.time.srcUsed = 2
  · rw [if_pos ⟨hen', hsrc.trans h⟩, if_pos h, State.addOffset_time, hnow, State.fld_congr hregs, htime]
    exact ⟨rfl, hrest⟩
  · rw [if_neg (fun hboth => h (hsrc.symm.trans hboth.2)), if_neg h, htime]
    exact ⟨rfl, hrest⟩

/-! ### Trigger outputs (R395, R396) -/

/-- A trigger output with its state replaced. -/
def State.setTrig (s : State) (n : Nat) (t : TrigOut) : State :=
  { s with time := { s.time with trigOut := tset {} s.time.trigOut n t } }

theorem exec_trigOutArm {s : State} (hup : s.barUp = true) (pin : Fin 4) :
    exec (.trigOutArm pin) s = .next ((s.granted 9 2).trigArm pin) := by
  show execTrigOutArm pin s = _
  rw [execTrigOutArm, State.hostAct_of_barUp hup]
  rfl

theorem exec_trigOutDisable {s : State} (hup : s.barUp = true) (pin : Fin 4) :
    exec (.trigOutDisable pin) s = .next ((s.granted 9 2).trigDisable pin) := by
  show execTrigOutDisable pin s = _
  rw [execTrigOutDisable, State.hostAct_of_barUp hup]
  rfl

theorem State.trigArm_idle {s : State} {n : Nat} (hidle : (tget {} s.time.trigOut n).sched = none)
    (hahead : s.time.now + 10000 * nsUnit ≤ s.trigStart n) : s.trigArm n = { s with
      time := { s.time with trigOut := tset {} s.time.trigOut n { tget {} s.time.trigOut n with
        sched := some (s.trigStart n, s.fld (Reg.TIM_TRIG_OUT_PERIOD_PERIOD n), s.fld (Reg.TIM_TRIG_OUT_WIDTH_WIDTH n))
        next := none, k := 0 } } } := by
  rw [State.trigArm]
  dsimp only
  rw [if_neg (not_lt.mpr hahead), if_pos (by rw [hidle]; rfl)]

theorem State.trigArm_late {s : State} {n : Nat} (hlate : s.trigStart n < s.time.now + 10000 * nsUnit) :
    s.trigArm n = s.raise 0x0709 [(4, 0x70100 + 0x20 * n)] := by
  rw [State.trigArm]
  dsimp only
  rw [if_pos hlate]

theorem State.trigDisable_leaves {s : State} (hrise : keysRise 0 s.regs = true) (pin : Fin 4) :
    (s.trigDisable pin).flag (Reg.TIM_TRIG_OUT_CTL_EN pin) = false ∧
      (s.trigDisable pin).time = { s.time with trigOut := tset {} s.time.trigOut pin {} } ∧
      (s.trigDisable pin).out = (if (tget {} s.time.trigOut pin).activeEnd.isSome = true
        then .pin pin (s.flag (Reg.TIM_TRIG_OUT_CTL_POL pin)) :: s.out else s.out) := by
  have hen := (storedField_trigOutEn pin).fld_setFld_same hrise 0
  have hpol := (storedField_trigOutPol pin).fld_setFld_below (g := Reg.TIM_TRIG_OUT_CTL_EN pin) le_rfl hrise rfl
    (by decide : 0 < 1) 0
  have hen' : (s.setFld (Reg.TIM_TRIG_OUT_CTL_EN pin) 0).flag (Reg.TIM_TRIG_OUT_CTL_EN pin) = false := by
    rw [State.flag, hen]; rfl
  have hpol' : (s.setFld (Reg.TIM_TRIG_OUT_CTL_EN pin) 0).flag (Reg.TIM_TRIG_OUT_CTL_POL pin) =
      s.flag (Reg.TIM_TRIG_OUT_CTL_POL pin) := by
    rw [State.flag, hpol, State.flag]
  rw [State.trigDisable]
  dsimp only
  split
  · exact ⟨hen', rfl, congrArg (fun b => Out.pin pin b :: s.out) hpol'⟩
  · exact ⟨hen', rfl, rfl⟩

theorem State.waitTime_trigOut (s : State) (t : Nat) : (s.waitTime t).time.trigOut = s.time.trigOut := by
  rw [State.waitTime_time]

/-- What a trigger output leaves that waits for an instant and then changes its level. -/
theorem State.pulse_leaves (s : State) (n t : Nat) (x : TrigOut) (level : Bool) :
    (((s.waitTime t).setTrig n x).emit (.pin n level)).out = .pin n level :: s.out ∧
      (((s.waitTime t).setTrig n x).emit (.pin n level)).time.now = max s.time.now t ∧
      (((s.waitTime t).setTrig n x).emit (.pin n level)).time.trigOut = tset {} s.time.trigOut n x ∧
      TimeOnly s { ((s.waitTime t).setTrig n x).emit (.pin n level) with out := s.out } := by
  have hout := s.waitTime_out t
  have hnow := s.waitTime_now t
  have htrig := s.waitTime_trigOut t
  have honly := s.waitTime_timeOnly t
  generalize s.waitTime t = u at hout hnow htrig honly
  refine ⟨congrArg (List.cons _) hout, hnow, congrArg (fun y => tset ({} : TrigOut) y n x) htrig, ?_⟩
  unfold TimeOnly at honly ⊢
  rw [← honly]
  rfl

/-- The pulse of a trigger output in progress ends (R396). -/
theorem exec_trigOutPulse_ends {s : State} {pin : Fin 4} {e : Nat}
    (hactive : (tget {} s.time.trigOut pin).activeEnd = some e) :
    exec (.trigOutPulse pin) s = .next (((s.waitTime e).setTrig pin { tget ({} : TrigOut) s.time.trigOut pin with activeEnd := none }).emit
      (.pin pin (s.flag (Reg.TIM_TRIG_OUT_CTL_POL pin)))) := by
  show execTrigOutPulse pin s = _
  rw [execTrigOutPulse]
  dsimp only
  rw [hactive]
  rfl

theorem trigEdgeAt_of_pulse {st per w k : Nat} (h : per ≠ 0 ∨ k = 0) :
    trigEdgeAt (st, per, w) k = some (st + k * per * nsUnit) := by
  rw [trigEdgeAt]
  split
  next hper =>
    have hk : k = 0 := h.resolve_left (absurd hper)
    rw [if_pos hk, hk, Nat.zero_mul, Nat.zero_mul, Nat.add_zero]
  next => rfl

theorem exec_trigOutPulse_begins {s : State} {pin : Fin 4} {st per w k : Nat} (halive : s.pinsAlive = true)
    (hsched : tget {} s.time.trigOut pin = ⟨some (st, per, w), none, k, none⟩) (hpulse : per ≠ 0 ∨ k = 0)
    (hen : s.flag (Reg.TIM_TRIG_OUT_CTL_EN pin) = true) :
    exec (.trigOutPulse pin) s = .next (((s.waitTime (st + k * per * nsUnit)).setTrig pin
      ⟨some (st, per, w), none, k + 1, some (st + k * per * nsUnit + w * nsUnit)⟩).emit
        (.pin pin (!s.flag (Reg.TIM_TRIG_OUT_CTL_POL pin)))) := by
  have hon : ((s.waitTime (st + k * per * nsUnit)).flag (Reg.TIM_TRIG_OUT_CTL_EN pin) &&
      (s.waitTime (st + k * per * nsUnit)).pinsAlive) = true := by
    rw [State.flag_congr (s.waitTime_regs _), hen, Bool.true_and, State.pinsAlive, State.waitTime_pwr, State.waitTime_pins]
    exact halive
  show execTrigOutPulse pin s = _
  rw [execTrigOutPulse]
  dsimp only
  rw [hsched]
  simp only [trigFollow, trigEdgeAt_of_pulse hpulse]
  rw [hon]
  rfl

/-! ### PPS_OUT (R397) -/

theorem exec_ppsOutPulse_ends {s : State} {e : Nat} (hactive : s.time.ppsEnd = some e) :
    exec .ppsOutPulse s = .next (({ s.waitTime e with time := { (s.waitTime e).time with ppsEnd := none } }).emit
      (.pin 4 false)) := by
  show execPpsOutPulse s = _
  rw [execPpsOutPulse, hactive]
  rfl

/-- The whole second that module time reaches next. -/
def State.nextSecond (s : State) : Nat := (s.time.now + secUnit - 1) / secUnit * secUnit

theorem State.now_le_nextSecond (s : State) : s.time.now ≤ s.nextSecond := by
  have hpos : 0 < secUnit := by decide
  have hdiv := Nat.div_add_mod' (s.time.now + secUnit - 1) secUnit
  have hmod := Nat.mod_lt (s.time.now + secUnit - 1) hpos
  rw [State.nextSecond]
  omega

theorem exec_ppsOutPulse_begins {s : State} (halive : s.pinsAlive = true) (hidle : s.time.ppsEnd = none)
    (hen : s.flag Reg.TIM_PPS_OUT_EN = true) (hfree : s.flag Reg.TIM_PPS_OUT_NT_SUPPRESS = false) :
    exec .ppsOutPulse s = .next (({ s.waitTime s.nextSecond with time := { (s.waitTime s.nextSecond).time with
      ppsEnd := some (s.nextSecond + s.fld Reg.TIM_PPS_OUT_WIDTH_US * 1000 * nsUnit) } }).emit (.pin 4 true)) := by
  have hon : ((s.waitTime s.nextSecond).flag Reg.TIM_PPS_OUT_EN &&
      (!(s.waitTime s.nextSecond).flag Reg.TIM_PPS_OUT_NT_SUPPRESS || (s.waitTime s.nextSecond).traceable) &&
      (s.waitTime s.nextSecond).pinsAlive) = true := by
    rw [State.flag_congr (s.waitTime_regs _), hen, State.flag_congr (s.waitTime_regs _), hfree, State.pinsAlive,
      State.waitTime_pwr, State.waitTime_pins]
    rw [State.pinsAlive] at halive
    simpa using halive
  show execPpsOutPulse s = _
  rw [execPpsOutPulse, hidle]
  dsimp only
  rw [← State.fld_congr (s.waitTime_regs s.nextSecond)]
  rw [State.nextSecond] at hon ⊢
  rw [hon]
  rfl

/-- What PPS_OUT leaves that goes active at an instant. -/
theorem State.ppsPulse_leaves {s u : State} {now : Nat} (hnow : u.time.now = now) (hout : u.out = s.out) (w : Nat) :
    (({ u with time := { u.time with ppsEnd := some (now + w) } }).emit (.pin 4 true)).out = .pin 4 true :: s.out ∧
      (({ u with time := { u.time with ppsEnd := some (now + w) } }).emit (.pin 4 true)).time.now = now ∧
      (({ u with time := { u.time with ppsEnd := some (now + w) } }).emit (.pin 4 true)).time.ppsEnd =
        some ((({ u with time := { u.time with ppsEnd := some (now + w) } }).emit (.pin 4 true)).time.now + w) :=
  ⟨congrArg (List.cons _) hout, hnow, congrArg (fun n => some (n + w)) hnow.symm⟩

theorem exec_trigOutArm_idle {s : State} (hup : s.barUp = true) {pin : Fin 4}
    (hidle : (tget {} s.time.trigOut pin).sched = none) (hahead : s.time.now + 10000 * nsUnit ≤ s.trigStart pin) :
    exec (.trigOutArm pin) s = .next { s.granted 9 2 with
      time := { s.time with trigOut := tset {} s.time.trigOut pin { tget {} s.time.trigOut pin with
        sched := some (s.trigStart pin, s.fld (Reg.TIM_TRIG_OUT_PERIOD_PERIOD pin),
          s.fld (Reg.TIM_TRIG_OUT_WIDTH_WIDTH pin)), next := none, k := 0 } } } := by
  have hstart : (s.granted 9 2).trigStart pin = s.trigStart pin := rfl
  rw [exec_trigOutArm hup, State.trigArm_idle (s := s.granted 9 2) hidle (hstart.symm ▸ hahead), hstart]
  rfl

theorem exec_trigOutArm_late {s : State} (hup : s.barUp = true) {pin : Fin 4}
    (hlate : s.trigStart pin < s.time.now + 10000 * nsUnit) :
    exec (.trigOutArm pin) s = .next ((s.granted 9 2).raise 0x0709 [(4, 0x70100 + 0x20 * pin)]) := by
  have hstart : (s.granted 9 2).trigStart pin = s.trigStart pin := rfl
  rw [exec_trigOutArm hup, State.trigArm_late (s := s.granted 9 2) (hstart.symm ▸ hlate)]

/-- Settles O25. -/
theorem capturesAndTriggerOutputs : Obligations.CapturesAndTriggerOutputs := by
  unfold Obligations.CapturesAndTriggerOutputs
  intro s pin rising held halive
  refine ⟨fun hedge hen hsel => ?_, fun f hf hedge hen hroom => ?_, fun hup hidle hahead => ?_, fun hup hlate => ?_,
    fun hcanon hup => ?_, fun e hactive => ?_, fun st per w k hsched hpulse hen => ?_, fun e hactive => ?_,
    fun hidle hen hfree => ?_⟩
  · obtain ⟨g, hexec⟩ := exec_trigInEdge halive hedge hen hsel
    refine ⟨_, hexec, fun hroom => ?_, fun hfull => ?_⟩
    · rw [State.capture_of_room (s := s.setFilter (10 + pin) g) hroom]
      exact ⟨rfl, rfl⟩
    · rw [State.capture_of_full (s := s.setFilter (10 + pin) g) hfull, State.raiseLim_time, State.raiseLim_saf,
        State.raiseLim_mode]
      exact ⟨rfl, rfl, rfl⟩
  · obtain ⟨f', hexec⟩ := exec_ppsInEdge halive hf hedge hen
    obtain ⟨htime, hrest⟩ := State.ppsTaken_leaves (s := (s.setFilter 9 f).setFilter 9 f') hen hroom
    exact ⟨_, hexec, htime, congrArg (fun u : State => { u with pins := s.pins }) hrest⟩
  · exact exec_trigOutArm_idle hup hidle hahead
  · exact ⟨_, exec_trigOutArm_late hup hlate, (s.granted 9 2).raise_eventsOnly _
      (by simp [packItems, leBytes_length]; decide)⟩
  · exact ⟨_, exec_trigOutDisable hup pin, State.trigDisable_leaves (s := s.granted 9 2) hcanon.1 pin⟩
  · exact ⟨_, exec_trigOutPulse_ends hactive, s.pulse_leaves pin e _ _⟩
  · exact ⟨_, exec_trigOutPulse_begins halive hsched hpulse hen, s.pulse_leaves pin _ _ _⟩
  · exact ⟨_, exec_ppsOutPulse_ends hactive, congrArg (List.cons _) (s.waitTime_out e), s.waitTime_now e, rfl⟩
  · have hnow : (s.waitTime s.nextSecond).time.now = s.nextSecond :=
      (s.waitTime_now _).trans (max_eq_right s.now_le_nextSecond)
    exact ⟨_, exec_ppsOutPulse_begins halive hidle hen hfree, State.ppsPulse_leaves hnow (s.waitTime_out _) _⟩

end Sys2Proof.Machine
end

section
/-!
Gate lists, launch lists, shapers, storm limiters and samplers (R295, R354 to R358, R373).
-/

namespace Sys2Proof.Machine

open Sys2Proof.Stated

/-! ### Commands of the packet side (R45) -/

/-- In L0 a module that serves carries a command of the packet side out. -/
theorem State.serveL0_awake {s : State} (hs : Serves s) (hpwr : s.pwr.state = 0) (tag : CmdTag) (op : Nat)
    (body : State → State) : s.serveL0 tag op body = body (s.begin tag op) := by
  rw [State.serveL0, State.serve_eq hs, if_neg (by simp [hpwr])]

/-- Beside the exchange and host memory, a state is told by what is left without them. -/
theorem State.beside_of_lessExchange {t u : State} (h : t.lessExchange = u.lessExchange) (cx : CxSt) (host : Tbl Byte) :
    ({ t with cx := cx, host := host } : State) = { u with cx := cx, host := host } :=
  congrArg (fun x : State => { x with cx := cx, host := host }) h

/-- A completion changes no more than the exchange and host memory. -/
theorem State.complete_beside (u : State) (tag : CmdTag) (st : Nat) (d : List (Nat × Nat)) (cx : CxSt) (host : Tbl Byte) :
    ({ u.complete tag st d with cx := cx, host := host } : State) = { u with cx := cx, host := host } :=
  State.beside_of_lessExchange (State.complete_lessExchange u tag st d) cx host

/-- A command whose work has changed one port's queues is answered, and leaves the rest. -/
theorem answered_setPq {s : State} (hs : Serves s) (tag : CmdTag) (op st p : Nat) (x : PortQ) :
    Answered s (((s.begin tag op).setPq p x).complete tag st) tag st ∧
      (((s.begin tag op).setPq p x).complete tag st).tm = { s.tm with ports := tset {} s.tm.ports p x } ∧
      { ((s.begin tag op).setPq p x).complete tag st with tm := s.tm, cx := s.cx, host := s.host } = s := by
  have hrest := State.complete_beside ((s.begin tag op).setPq p x) tag st [] s.cx s.host
  have htm := State.complete_tm ((s.begin tag op).setPq p x) tag st []
  refine ⟨answered_of_begun (u := (s.begin tag op).setPq p x) (op := op) hs rfl st [] false, ?_⟩
  generalize ((s.begin tag op).setPq p x).complete tag st = t at hrest htm ⊢
  exact ⟨htm, congrArg (fun u : State => { u with tm := s.tm }) hrest⟩

/-! ### Gate lists (R355 to R357) -/

section GateWrite

variable {s : State} {p cnt : Nat} {b : Bytes} {at_ : TimeWord} (hs : Serves s) (hpwr : s.pwr.state = 0)
  (hplan : s.planned p = true) (tag : CmdTag) (hpos : 0 < cnt) (hmax : cnt ≤ 64)
include hs hpwr hplan hpos hmax

theorem exec_portGateWrite_arms (hok : (gateEntries cnt b).all gateOk = true) (hat : at_ ≠ 0)
    (hahead : s.time.now + 50000 * nsUnit ≤ s.fromWord at_) (hidle : (s.pq p).gateArmedAt = none) :
    exec (.portGateWrite tag p cnt (some b) at_) s = .next (((s.begin tag 0x1402).setPq p { s.pq p with
      gatePend := some (gateEntries cnt b), gateArmedAt := some (s.fromWord at_), gateTko := s.fromWord at_ }).complete
        tag St.ok) := by
  have hlate : ¬ (at_ = 0 ∨ (s.begin tag 0x1402).fromWord at_ < (s.begin tag 0x1402).time.now + 50000 * nsUnit) :=
    fun h => h.elim hat (not_lt.mpr hahead)
  have hplan' : ¬ (s.begin tag 0x1402).planned p = false := by rw [show (s.begin tag 0x1402).planned p = _ from hplan]; simp
  have hidle' : ¬ ((s.begin tag 0x1402).pq p).gateArmedAt.isSome = true := by
    rw [show ((s.begin tag 0x1402).pq p).gateArmedAt = _ from hidle]; simp
  show execPortGateWrite tag p cnt (some b) at_ s = _
  rw [execPortGateWrite, State.serveL0_awake hs hpwr, if_neg (by omega), if_neg hplan', if_neg (by omega)]
  dsimp only
  rw [if_neg (by simp [hok]), if_neg hlate, if_neg hidle']
  rfl

theorem exec_portGateWrite_invalid (hbad : (gateEntries cnt b).all gateOk = false) :
    exec (.portGateWrite tag p cnt (some b) at_) s = .next ((s.begin tag 0x1402).complete tag St.gateInvalid) := by
  have hplan' : ¬ (s.begin tag 0x1402).planned p = false := by rw [show (s.begin tag 0x1402).planned p = _ from hplan]; simp
  show execPortGateWrite tag p cnt (some b) at_ s = _
  rw [execPortGateWrite, State.serveL0_awake hs hpwr, if_neg (by omega), if_neg hplan', if_neg (by omega)]
  dsimp only
  rw [if_pos hbad]
  rfl

end GateWrite

section GateCancel

variable {s : State} {p : Nat} (hs : Serves s) (hpwr : s.pwr.state = 0) (hplan : s.planned p = true) (tag : CmdTag)
include hs hpwr hplan

theorem exec_portGateCancel_withdraws {a : Nat} (harmed : (s.pq p).gateArmedAt = some a)
    (hahead : s.time.now + 5000 * nsUnit ≤ a) : exec (.portGateCancel tag p) s =
      .next (((s.begin tag 0x1403).setPq p { s.pq p with gatePend := none, gateArmedAt := none }).complete tag St.ok) := by
  have hplan' : ¬ (s.begin tag 0x1403).planned p = false := by rw [show (s.begin tag 0x1403).planned p = _ from hplan]; simp
  have hlate : ¬ a < (s.begin tag 0x1403).time.now + 5000 * nsUnit := not_lt.mpr hahead
  show execPortGateCancel tag p s = _
  rw [execPortGateCancel, State.serveL0_awake hs hpwr]
  dsimp only
  rw [if_neg hplan', show ((s.begin tag 0x1403).pq p).gateArmedAt = _ from harmed]
  dsimp only
  rw [if_neg hlate]
  rfl

theorem exec_portGateCancel_idle (hidle : (s.pq p).gateArmedAt = none) :
    exec (.portGateCancel tag p) s = .next ((s.begin tag 0x1403).complete tag St.noPendingGate) := by
  have hplan' : ¬ (s.begin tag 0x1403).planned p = false := by rw [show (s.begin tag 0x1403).planned p = _ from hplan]; simp
  show execPortGateCancel tag p s = _
  rw [execPortGateCancel, State.serveL0_awake hs hpwr]
  dsimp only
  rw [if_neg hplan', show ((s.begin tag 0x1403).pq p).gateArmedAt = _ from hidle]
  rfl

end GateCancel

theorem exec_portGateCancel_asleep {s : State} (hs : Serves s) (hpwr : s.pwr.state ≠ 0) (tag : CmdTag) (p : Nat) :
    exec (.portGateCancel tag p) s = .next ((s.begin tag 0x1403).complete tag St.powerState) :=
  congrArg next (State.serveL0_of_asleep hs hpwr tag 0x1403 _)

theorem State.waitTime_tm (s : State) (t : Nat) : (s.waitTime t).tm = s.tm := by
  have h := congrArg State.tm (s.waitTime_timeOnly t); exact h

theorem exec_gateTakeover {s : State} {p a : Nat} (harmed : (s.pq p).gateArmedAt = some a) :
    exec (.gateTakeover p) s = .next ((s.waitTime a).gateTake p a).settle := by
  show execGateTakeover p s = _
  rw [execGateTakeover, harmed]
  rfl

/-- An event with more data than an entry holds takes two entries (R440). -/
theorem State.raise_evtSeq_twice (s : State) (code : Nat) {items : List (Nat × Nat)}
    (hlong : 14 < (packItems items []).length) : (s.raise code items).cx.evtSeq = seqNext (seqNext s.cx.evtSeq) := by
  unfold State.raise
  dsimp only
  rw [if_neg (by omega), State.postEvt_evtSeq, State.postEvt_evtSeq]

/-- A gate list takes over at its start, and tells it (R356). -/
theorem State.gateTake_leaves {s : State} {p start : Nat} {e : Nat × Nat} {rest : GateList}
    (hpend : (s.pq p).gatePend = some (e :: rest)) : (s.gateTake p start).time = s.time ∧
      (s.gateTake p start).tm.ports = tset {} s.tm.ports p { s.pq p with
        gate := some (e :: rest), gatePend := none, gateArmedAt := none, gateStart := start, gateEntry := 0
        gateBoundary := start + e.2 * nsUnit } ∧
      (s.gateTake p start).cx.evtSeq = seqNext (seqNext s.cx.evtSeq) := by
  rw [State.gateTake]
  dsimp only
  rw [hpend]
  dsimp only
  rw [if_neg (List.cons_ne_nil e rest), State.raise_time, State.raise_tm,
    State.raise_evtSeq_twice _ _ (by simp [packItems, leBytes_length]; decide)]
  exact ⟨rfl, rfl, rfl⟩

theorem exec_gateEntryBoundary {s : State} {p : Nat} {g : GateList} (hgate : (s.pq p).gate = some g) :
    exec (.gateEntryBoundary p) s = .next ((s.waitTime (s.pq p).gateBoundary).setPq p { s.pq p with
      gateEntry := (gateAt g (s.pq p).gateStart (s.pq p).gateBoundary).1
      gateBoundary := (gateAt g (s.pq p).gateStart (s.pq p).gateBoundary).2 }).settle := by
  have hpq : (s.waitTime (s.pq p).gateBoundary).pq p = s.pq p := by rw [State.pq, State.waitTime_tm, State.pq]
  show execGateEntryBoundary p s = _
  rw [execGateEntryBoundary, hgate]
  show next (((s.waitTime (s.pq p).gateBoundary).setPq p _).settle) = _
  rw [hpq]
  rfl

theorem State.waitTime_setPq_leaves (s : State) (t p : Nat) (x : PortQ) :
    ((s.waitTime t).setPq p x).time.now = max s.time.now t ∧
      ((s.waitTime t).setPq p x).tm.ports = tset {} s.tm.ports p x ∧
      TimeOnly s { (s.waitTime t).setPq p x with tm := s.tm } := by
  have htm := s.waitTime_tm t
  have hnow := s.waitTime_now t
  have honly := s.waitTime_timeOnly t
  generalize s.waitTime t = u at htm hnow honly
  refine ⟨hnow, congrArg (fun y : TmSt => tset ({} : PortQ) y.ports p x) htm, ?_⟩
  unfold TimeOnly at honly ⊢
  rw [← honly]
  rfl

theorem exec_launchDue {s : State} {p : Nat} {d : Launch} {more : List Launch} (hlaunch : (s.pq p).launch = d :: more) :
    exec (.launchDue p) s = .next (s.waitTime d.t).settle := by
  show execLaunchDue p s = _
  rw [execLaunchDue, hlaunch]
  rfl

/-! ### Shapers, storm limiters and samplers (R295, R354, R358, R373) -/

section Writes

variable {s : State} {p : Nat} (hup : s.barUp = true) (hp : p < 256) {v : Word}
include hup hp

theorem exec_shaperRateWrite (k : Fin 9) (v : Word) :
    exec (.shaperRateWrite p k v) s = .next ((s.granted 0 2).setRate p k v).settle := by
  show execShaperRateWrite p k v s = _
  rw [execShaperRateWrite, State.hostAct_of_barUp hup, if_pos hp]
  rfl

theorem exec_shaperBurstWrite (k : Fin 9) (v : Word) :
    exec (.shaperBurstWrite p k v) s = .next ((s.granted 0 2).setBurst p k v).settle := by
  show execShaperBurstWrite p k v s = _
  rw [execShaperBurstWrite, State.hostAct_of_barUp hup, if_pos hp]
  rfl

theorem exec_stormLimiterWrite_sets (l : Fin 3) (hrate : 0 < v.toNat / 2 ^ 24) : exec (.stormLimiterWrite p l v) s =
    .next (((s.granted 0 2).setRegWord (0x200048 + 0x1000 * p + 4 * l) v).setStorm p l
      (v.toNat / 2 ^ 24 * 1000000, s.clk, (lget (0, 0, none) (s.port p).storm l).2.2)) := by
  show execStormLimiterWrite p l v s = _
  rw [execStormLimiterWrite, State.hostAct_of_barUp hup, State.stormWrite]
  dsimp only
  rw [if_neg (by omega), if_neg (by omega)]
  rfl

theorem exec_stormLimiterWrite_zero (l : Fin 3) (hrate : v.toNat / 2 ^ 24 = 0) : exec (.stormLimiterWrite p l v) s =
    .next ((s.granted 0 2).raise 0x1201 [(4, 0x200048 + 0x1000 * p + 4 * l)]) := by
  show execStormLimiterWrite p l v s = _
  rw [execStormLimiterWrite, State.hostAct_of_barUp hup, State.stormWrite]
  dsimp only
  rw [if_neg (by omega), if_pos hrate]
  rfl

theorem exec_samplerWrite (tx : Bool) (v : Word) :
    exec (.samplerWrite p tx v) s = .next ((s.granted 0 2).samplerSet p tx v) := by
  show execSamplerWrite p tx v s = _
  rw [execSamplerWrite, State.hostAct_of_barUp hup, if_pos hp]
  rfl

end Writes

section Effects

variable {s : State} {p : Nat} {v : Word}

theorem State.setRate_refused {k : Nat} (hbig : 1000000000 < v.toNat) (hfree : v ≠ 0xFFFFFFFF) :
    s.setRate p k v = s.raise 0x1406 [(4, 0x200100 + 0x1000 * p + 8 * k)] := by
  have hne : v.toNat ≠ rateUnlimited := fun h => hfree (BitVec.eq_of_toNat_eq h)
  rw [State.setRate]
  dsimp only
  rw [if_pos ⟨hbig, hne⟩]

theorem State.setRate_taken {k : Nat} (hmax : v.toNat ≤ 1000000000) :
    s.setRate p k v = (s.fillCredit p k).setRegWord (0x200100 + 0x1000 * p + 8 * k) v := by
  have hne : v.toNat ≠ rateUnlimited := by rw [rateUnlimited]; omega
  rw [State.setRate]
  dsimp only
  rw [if_neg (by omega), if_neg hne]

/-- A register written beside a change of the queues reads back, and nothing else has changed. -/
theorem State.setRegWord_tm_leaves (hcanon : RegsCanonical s) (a : Nat) (w : Word) (x : TmSt) :
    ({ s.setRegWord a w with tm := x } : State).regWord a = w ∧
      { ({ s.setRegWord a w with tm := x } : State) with regs := s.regs, tm := s.tm } = s :=
  ⟨State.regWord_setRegWord_same hcanon.1 a w, rfl⟩

theorem State.setBurst_taken (s : State) (p k : Nat) (v : Word) :
    ∃ x : TmSt, s.setBurst p k v = { s.setRegWord (0x200104 + 0x1000 * p + 8 * k) (v &&& 0xFFFFFF) with tm := x } := by
  rw [State.setBurst]
  dsimp only
  split
  · exact ⟨_, rfl⟩
  · exact ⟨_, rfl⟩

theorem State.samplerSet_leaves (hcanon : RegsCanonical s) (tx : Bool) (v : Word) :
    (s.samplerSet p tx v).regWord (0x2000E4 + 0x1000 * p + 4 * ofBool tx) = v &&& 0x0FFFFFFF ∧
      (s.samplerSet p tx v).tm.ports = tset {} s.tm.ports p (if tx = true
        then { s.pq p with samplerTx := { (s.pq p).samplerTx with count := v.toNat % 2 ^ 24 - 1 } }
        else { s.pq p with samplerRx := { (s.pq p).samplerRx with count := v.toNat % 2 ^ 24 - 1 } }) ∧
      { s.samplerSet p tx v with regs := s.regs, tm := s.tm } = s := by
  have hword := State.regWord_setRegWord_same hcanon.1 (0x2000E4 + 0x1000 * p + 4 * ofBool tx) (v &&& 0x0FFFFFFF)
  rw [State.samplerSet]
  cases tx
  · exact ⟨hword, rfl, rfl⟩
  · exact ⟨hword, rfl, rfl⟩

end Effects

/-- Settles O47. -/
theorem gatesShapersAndLimiters : Obligations.GatesShapersAndLimiters := by
  unfold Obligations.GatesShapersAndLimiters
  intro s tag p cnt a b at_ v k l tx
  refine ⟨fun hs hpwr hplan => ⟨fun hpos hmax hok hat hahead hidle => ?_, fun hpos hmax hbad => ?_,
    fun harmed hahead => ?_, fun hidle => ?_⟩, fun hs hpwr => ?_, fun e rest harmed hpend => ?_, fun g hgate => ?_,
    fun d more hlaunch => ?_, fun hcanon hup hp => ⟨fun hmax => ?_, fun hbig hfree => ?_, ?_, fun hrate => ?_,
    fun hrate => ?_, ?_⟩⟩
  · exact ⟨_, exec_portGateWrite_arms hs hpwr hplan tag hpos hmax hok hat hahead hidle, answered_setPq hs tag _ _ p _⟩
  · exact ⟨_, exec_portGateWrite_invalid hs hpwr hplan tag hpos hmax hbad, refused_of_begun hs tag _ _ _⟩
  · exact ⟨_, exec_portGateCancel_withdraws hs hpwr hplan tag harmed hahead, answered_setPq hs tag _ _ p _⟩
  · exact ⟨_, exec_portGateCancel_idle hs hpwr hplan tag hidle, refused_of_begun hs tag _ _ _⟩
  · exact ⟨_, exec_portGateCancel_asleep hs hpwr tag p, refused_of_begun hs tag _ _ _⟩
  · have htm := s.waitTime_tm a
    have hpq : (s.waitTime a).pq p = s.pq p := by rw [State.pq, htm, State.pq]
    obtain ⟨htime, hports, hevt⟩ := State.gateTake_leaves (start := a) (hpq ▸ hpend)
    rw [hpq, htm] at hports
    rw [State.waitTime_cx] at hevt
    exact ⟨_, exec_gateTakeover harmed, (congrArg TimeSt.now htime).trans (s.waitTime_now a), hports, hevt⟩
  · exact ⟨_, exec_gateEntryBoundary hgate, s.waitTime_setPq_leaves _ p _⟩
  · exact ⟨_, exec_launchDue hlaunch, s.waitTime_timeOnly _, s.waitTime_now _⟩
  · refine ⟨_, exec_shaperRateWrite hup hp k v, ?_⟩
    rw [State.setRate_taken hmax]
    exact ⟨State.regWord_setRegWord_same (s := (s.granted 0 2).fillCredit p k) hcanon.1 _ v, rfl⟩
  · refine ⟨_, exec_shaperRateWrite hup hp k v, ?_⟩
    rw [State.setRate_refused hbig hfree]
    exact (s.granted 0 2).raise_eventsOnly _ (by simp [packItems, leBytes_length]; decide)
  · obtain ⟨x, hx⟩ := (s.granted 0 2).setBurst_taken p k v
    refine ⟨_, exec_shaperBurstWrite hup hp k v, ?_⟩
    rw [hx]
    exact ⟨State.regWord_setRegWord_same (s := s.granted 0 2) hcanon.1 _ _, rfl⟩
  · exact ⟨_, exec_stormLimiterWrite_sets hup hp l hrate,
      State.regWord_setRegWord_same (s := s.granted 0 2) hcanon.1 _ v, rfl, rfl⟩
  · exact ⟨_, exec_stormLimiterWrite_zero hup hp l hrate,
      (s.granted 0 2).raise_eventsOnly _ (by simp [packItems, leBytes_length]; decide)⟩
  · obtain ⟨hword, hports, hrest⟩ := State.samplerSet_leaves (p := p) (s := s.granted 0 2) hcanon tx v
    exact ⟨_, exec_samplerWrite hup hp tx v, hword, hports, congrArg (fun u : State => { u with bm := s.bm }) hrest⟩

end Sys2Proof.Machine
end

section
/-!
The commands of the rule, comparator, policer and FID tables (R290, R291, R296, R302, R350).
-/

namespace Sys2Proof.Machine

open Sys2Proof.Stated

/-! ### Little-endian words -/

theorem leNat_leBytes (w n : Nat) : leNat (leBytes w n) = n % 256 ^ w := by
  induction w generalizing n with
  | zero => simp [leBytes, leNat, Nat.mod_one]
  | succ w ih =>
    rw [leBytes, leNat, ih, BitVec.toNat_ofNat, pow_succ' 256 w, Nat.mod_mul]

/-- A word put into a record at an offset reads back there. -/
theorem leAt_splice {r : Bytes} {off w : Nat} (hlen : off ≤ r.length) (rest : Bytes) (n : Nat) :
    leAt (r.take off ++ leBytes w n ++ rest) off w = n % 256 ^ w := by
  have htake : (r.take off).length = off := by rw [List.length_take, min_eq_left hlen]
  have hslice : slice (r.take off ++ leBytes w n ++ rest) off w = leBytes w n := by
    rw [slice, List.append_assoc, List.drop_append_of_le_length htake.ge, List.drop_of_length_le htake.le, List.nil_append,
      List.take_append_of_le_length (leBytes_length w n).ge, List.take_of_length_le (leBytes_length w n).le]
  rw [leAt, hslice, leNat_leBytes]

theorem bitAt_eq_bitsOf (n k : Nat) : bitAt n k = (bitsOf n k k == 1) := by
  rw [bitAt, bitsOf, Nat.add_sub_cancel_left, pow_one]

theorem bitAt_cleared {n k m : Nat} (hk : k < m) : bitAt (setBit n k false % 2 ^ m) k = false := by
  rw [bitAt_eq_bitsOf, bitsOf_mod le_rfl hk, setBit, bitsOf_putBits_same, Nat.add_sub_cancel_left]
  rfl

/-! ### Lists of records -/

/-- A list in which no position repeats an earlier number has no number twice. -/
theorem nodup_of_firstRepeat {l : List Nat} (h : firstRepeat l = none) : l.Nodup := by
  refine List.nodup_iff_getElem?_ne_getElem?.mpr fun i j hij hj heq => ?_
  have hnone := List.find?_eq_none.mp h j (List.mem_range.mpr hj)
  refine hnone (List.contains_iff_mem.mpr (List.mem_take_iff_getElem.mpr ⟨i, lt_min hij (hij.trans hj), ?_⟩))
  rw [List.getD_eq_getElem?_getD, ← heq, List.getElem?_eq_getElem (hij.trans hj), Option.getD_some]

theorem firstBad_eq_none {α : Type} {ok : α → Bool} {l : List α} (h : ∀ r ∈ l, ok r = true) : firstBad ok l = none :=
  List.findIdx?_eq_none_iff.mpr fun r hr => by rw [h r hr]; rfl

theorem firstBad_eq_some {α : Type} {ok : α → Bool} {l : List α} (h : ∃ r ∈ l, ok r = false) :
    ∃ i, firstBad ok l = some i := by
  obtain ⟨r, hr, hbad⟩ := h
  refine Option.ne_none_iff_exists'.mp fun hnone => ?_
  have := List.findIdx?_eq_none_iff.mp hnone r hr
  simp [hbad] at this

theorem earlier_some (a : Nat) (b : Option Nat) : ∃ i, earlier (some a) b = some i := by
  cases b <;> exact ⟨_, rfl⟩

/-! ### Rules (R289, R291, R296) -/

/-- A rule that is in order is not the empty record: the marker bits of its mask are set. -/
theorem ne_zeros_of_ruleOk {ranges : Tbl Nat} {policers : Nat} {r : Bytes} (h : ruleOk ranges policers r = true) :
    r ≠ zeros 96 := by
  rintro rfl
  simp only [ruleOk, Bool.and_eq_true, decide_eq_true_eq] at h
  exact absurd h.1.1.1.1.2 (by decide)

section Rules

variable (s : State) (reset : Bool)

theorem State.writeRule_rule {r : Bytes} (hr : r ≠ zeros 96) : (s.writeRule reset r).rule (ruleIndex r) = r := by
  rw [State.writeRule]
  dsimp only
  split <;> exact tget_tset_of_ne_default hr _ _

theorem State.writeRule_rule_ne {r : Bytes} {i : Nat} (hi : i ≠ ruleIndex r) :
    (s.writeRule reset r).rule i = s.rule i := by
  rw [State.writeRule]
  dsimp only
  split <;> exact congrArg (·.getD (zeros 96)) (tget?_tset_ne _ _ hi _)

theorem State.writeRule_rest (r : Bytes) : (s.writeRule reset r).cls.ranges = s.cls.ranges ∧
    (s.writeRule reset r).cls.gen = s.cls.gen ∧ { s.writeRule reset r with cls := s.cls, obs := s.obs } = s := by
  rw [State.writeRule]
  dsimp only
  split <;> exact ⟨rfl, rfl, rfl⟩

/-- Rules of different indices are all written, and no other. -/
theorem State.writeRules_leaves {l : List Bytes} (hnodup : (l.map ruleIndex).Nodup) (hne : ∀ r ∈ l, r ≠ zeros 96) :
    (∀ r ∈ l, (s.each l fun s r => s.writeRule reset r).rule (ruleIndex r) = r) ∧
      (∀ i, i ∉ l.map ruleIndex → (s.each l fun s r => s.writeRule reset r).rule i = s.rule i) ∧
      (s.each l fun s r => s.writeRule reset r).cls.ranges = s.cls.ranges ∧
      (s.each l fun s r => s.writeRule reset r).cls.gen = s.cls.gen ∧
      { s.each l (fun s r => s.writeRule reset r) with cls := s.cls, obs := s.obs } = s := by
  induction l generalizing s with
  | nil => exact ⟨fun _ h => absurd h List.not_mem_nil, fun _ _ => rfl, rfl, rfl, rfl⟩
  | cons r rest ih =>
    obtain ⟨hfresh, hrest⟩ := List.nodup_cons.mp hnodup
    obtain ⟨hin, hout, hranges, hgen, hleft⟩ := ih (s.writeRule reset r) hrest fun x hx => hne x (List.mem_cons_of_mem _ hx)
    obtain ⟨hranges', hgen', hleft'⟩ := s.writeRule_rest reset r
    show (∀ x ∈ r :: rest, ((s.writeRule reset r).each rest _).rule _ = x) ∧ _
    refine ⟨fun x hx => ?_, fun i hi => ?_, hranges.trans hranges', hgen.trans hgen', ?_⟩
    · rcases List.mem_cons.mp hx with rfl | hx
      · exact (hout _ hfresh).trans (s.writeRule_rule reset (hne x List.mem_cons_self))
      · exact hin x hx
    · obtain ⟨hi, hi'⟩ := not_or.mp (mt List.mem_cons.mpr hi)
      exact (hout i hi').trans (s.writeRule_rule_ne reset hi)
    · exact (congrArg (fun u : State => { u with cls := s.cls, obs := s.obs }) hleft).trans hleft'

end Rules

/-- The record of a rule with its VALID bit cleared. -/
def ruleWiped (r : Bytes) : Bytes := r.take 0x50 ++ leBytes 4 (setBit (ruleWord r 0) 15 false) ++ r.drop 0x54

theorem ruleWiped_length {r : Bytes} (h : r.length = 96) : (ruleWiped r).length = 96 := by
  simp [ruleWiped, leBytes_length, h]

theorem ruleValid_ruleWiped {r : Bytes} (h : r.length = 96) : ruleValid (ruleWiped r) = false := by
  rw [ruleValid, ruleWord, ruleWiped]
  exact (congrArg (bitAt · 15) (leAt_splice (by omega) _ _)).trans (bitAt_cleared (m := 32) (by decide))

/-- Rule `i` is deleted (R296). -/
def State.wipeRule (s : State) (i : Nat) : State :=
  { s with cls := { s.cls with rules := tset (zeros 96) s.cls.rules i (ruleWiped (s.rule i)) } }

/-- The rules deleted are not valid, and the others stand, while the table keeps its order and the length of its
records. -/
theorem State.wipeRules_leaves (s : State) (l : List Nat) (hrise : keysRise 0 s.cls.rules = true)
    (hlen : ∀ i, (s.rule i).length = 96) :
    (∀ i ∈ l, ruleValid ((s.each l State.wipeRule).rule i) = false) ∧
      (∀ i, i ∉ l → (s.each l State.wipeRule).rule i = s.rule i) ∧
      (s.each l State.wipeRule).cls.gen = s.cls.gen ∧ { s.each l State.wipeRule with cls := s.cls } = s := by
  induction l generalizing s with
  | nil => exact ⟨fun _ h => absurd h List.not_mem_nil, fun _ _ => rfl, rfl, rfl⟩
  | cons k rest ih =>
    have hsame : (s.wipeRule k).rule k = ruleWiped (s.rule k) := tget_tset_same hrise _ _ _
    have hne {i : Nat} (hi : i ≠ k) : (s.wipeRule k).rule i = s.rule i :=
      congrArg (·.getD (zeros 96)) (tget?_tset_ne _ _ hi _)
    have hlen' (i : Nat) : ((s.wipeRule k).rule i).length = 96 := by
      by_cases hi : i = k
      · rw [hi, hsame, ruleWiped_length (hlen k)]
      · rw [hne hi, hlen i]
    obtain ⟨hin, hout, hgen, hleft⟩ := ih (s.wipeRule k) (keysRise_tset hrise _ _ _) hlen'
    refine ⟨fun i hi => ?_, fun i hi => ?_, hgen, ?_⟩
    · show ruleValid (((s.wipeRule k).each rest State.wipeRule).rule i) = false
      by_cases hrest : i ∈ rest
      · exact hin i hrest
      · have hik : i = k := (List.mem_cons.mp hi).resolve_right hrest
        rw [hout i hrest, hik, hsame, ruleValid_ruleWiped (hlen k)]
    · obtain ⟨hik, hi'⟩ := not_or.mp (mt List.mem_cons.mpr hi)
      exact (hout i hi').trans (hne hik)
    · exact congrArg (fun u : State => { u with cls := s.cls }) hleft

theorem State.rule_length {s : State} (hlen : ∀ x ∈ s.cls.rules, x.2.length = 96) (i : Nat) : (s.rule i).length = 96 := by
  rw [State.rule, tget]
  cases h : tget? s.cls.rules i with
  | none => rfl
  | some r => exact hlen _ (tget?_mem h)

/-! ### The commands of the rule and comparator tables -/

section Commands

variable {s : State} (hs : Serves s) (hpwr : s.pwr.state = 0) (tag : CmdTag) {n : Nat} (hpos : 1 ≤ n) (hmax : n ≤ 256)
include hs hpwr hpos hmax

theorem exec_clsRuleWrite_writes (reset : Bool) {b : Bytes}
    (hdistinct : firstRepeat ((chunks 96 n b).map ruleIndex) = none)
    (hok : ∀ r ∈ chunks 96 n b, ruleOk s.cls.ranges s.policerCount r = true) :
    exec (.clsRuleWrite tag n reset (some b)) s = .next (
      (((s.begin tag 0x1201).each (chunks 96 n b) fun s r => s.writeRule reset r).clsChanged).complete tag St.ok
        [(4, seqNext ((s.begin tag 0x1201).each (chunks 96 n b) fun s r => s.writeRule reset r).cls.gen)]) := by
  have hgood : firstBad (ruleOk (s.begin tag 0x1201).cls.ranges (s.begin tag 0x1201).policerCount) (chunks 96 n b) = none :=
    firstBad_eq_none hok
  show execClsRuleWrite tag n reset (some b) s = _
  rw [execClsRuleWrite, State.serveL0_awake hs hpwr, if_neg (by omega)]
  dsimp only
  rw [hgood, hdistinct]
  rfl

theorem exec_clsRuleWrite_invalid (reset : Bool) {b : Bytes}
    (hbad : ∃ r ∈ chunks 96 n b, ruleOk s.cls.ranges s.policerCount r = false) :
    ∃ i, exec (.clsRuleWrite tag n reset (some b)) s = .next ((s.begin tag 0x1201).complete tag St.clsInvalid [(4, i)]) := by
  obtain ⟨a, ha⟩ := firstBad_eq_some (ok := ruleOk (s.begin tag 0x1201).cls.ranges (s.begin tag 0x1201).policerCount) hbad
  obtain ⟨i, hi⟩ := earlier_some a (firstRepeat ((chunks 96 n b).map ruleIndex))
  refine ⟨i, ?_⟩
  show execClsRuleWrite tag n reset (some b) s = _
  rw [execClsRuleWrite, State.serveL0_awake hs hpwr, if_neg (by omega)]
  dsimp only
  rw [ha, hi]
  rfl

theorem exec_clsRuleDelete_deletes {b : Bytes} (hok : ∀ i ∈ (chunks 2 n b).map leNat, i < 32768) :
    exec (.clsRuleDelete tag n (some b)) s = .next (
      (((s.begin tag 0x1202).each ((chunks 2 n b).map leNat) State.wipeRule).clsChanged).complete tag St.ok
        [(4, seqNext ((s.begin tag 0x1202).each ((chunks 2 n b).map leNat) State.wipeRule).cls.gen)]) := by
  have hgood : firstBad (fun i => decide (i < 32768)) ((chunks 2 n b).map leNat) = none :=
    firstBad_eq_none fun i hi => decide_eq_true (hok i hi)
  show execClsRuleDelete tag n (some b) s = _
  rw [execClsRuleDelete, State.serveL0_awake hs hpwr, if_neg (by omega)]
  dsimp only
  rw [hgood]
  rfl

theorem exec_clsRangeWrite_writes {b : Bytes}
    (hok : ∀ r ∈ chunks 12 n b, leAt r 0 4 < 256 ∧ rangeOk (leAt r 4 8) = true) :
    exec (.clsRangeWrite tag n (some b)) s = .next (
      ({ s.begin tag 0x1203 with cls := { s.cls with
        gen := seqNext s.cls.gen
        ranges := (chunks 12 n b).foldl (fun x r => tset 0 x (leAt r 0 4) (leAt r 4 8)) s.cls.ranges } } : State).complete
          tag St.ok [(4, seqNext s.cls.gen)]) := by
  have hgood : firstBad (fun r : Nat × Nat => decide (r.1 < 256) && rangeOk r.2)
      ((chunks 12 n b).map fun r => (leAt r 0 4, leAt r 4 8)) = none :=
    firstBad_eq_none fun r hr => by
      obtain ⟨c, hc, rfl⟩ := List.mem_map.mp hr
      simp [hok c hc]
  have hfold (l : List Bytes) (u : State) : u.each (l.map fun r => (leAt r 0 4, leAt r 4 8))
      (fun s r => { s with cls := { s.cls with ranges := tset 0 s.cls.ranges r.1 r.2 } }) =
      { u with cls := { u.cls with
        ranges := l.foldl (fun x r => tset 0 x (leAt r 0 4) (leAt r 4 8)) u.cls.ranges } } := by
    induction l generalizing u with
    | nil => rfl
    | cons r rest ih => exact ih _
  show execClsRangeWrite tag n (some b) s = _
  rw [execClsRangeWrite, State.serveL0_awake hs hpwr, if_neg (by omega)]
  dsimp only
  rw [hgood, hfold]
  rfl

end Commands

section Reads

variable {s : State} (hs : Serves s) (tag : CmdTag)
include hs

/-- Data of an accepted command is delivered, the command answered, and nothing but the exchange moves (R428). -/
theorem delivered_of_served (op out : Nat) (data : Bytes) (d : List (Nat × Nat)) :
    Answered s (((s.begin tag op).outData tag out data).completeWith tag St.ok d true) tag St.ok ∧
      ExchangeOnly s (((s.begin tag op).outData tag out data).completeWith tag St.ok d true) ∧
      Delivered s (((s.begin tag op).outData tag out data).completeWith tag St.ok d true) tag out data :=
  ⟨answered_of_begun hs (State.outData_cx _ _ _ _) St.ok d true,
    exchangeOnly_completeWith ((State.outData_lessExchange _ _ _ _).trans (State.begin_lessExchange _ _ _)) tag St.ok d true,
    delivered_of_begun hs tag op out St.ok data d true⟩

theorem exec_clsRuleRead (hpwr : s.pwr.state = 0) {first n out : Nat} (hfit : first + n ≤ 32768) : exec (.clsRuleRead tag first n out) s =
    .next (((s.begin tag 0x1204).outData tag out ((List.range n).flatMap fun k =>
      s.rule (first + k) ++ s.cntRecord (ruleCnt (first + k)) ++ s.cntRecord (ruleCnt (first + k) + 0x10))).completeWith
        tag St.ok [] true) := by
  show execClsRuleRead tag first n out s = _
  rw [execClsRuleRead, State.serveL0_awake hs hpwr, if_neg (by omega)]
  rfl

end Reads

/-! ### Policers (R350) -/

theorem polReplace_record (p : Policer) (rec : Bytes) (reset : Bool) (clk : Nat) :
    (polReplace p rec reset clk).record = rec := by
  unfold polReplace
  split <;> rfl

theorem polReplace_buckets (p : Policer) (rec : Bytes) (reset : Bool) (clk : Nat) :
    (polReplace p rec reset clk).c ≤ polCSize rec ∧ (polReplace p rec reset clk).e ≤ polESize rec ∧
      (reset = true → (polReplace p rec reset clk).c = polCSize rec ∧ (polReplace p rec reset clk).e = polESize rec) := by
  unfold polReplace
  split
  next => exact ⟨le_rfl, le_rfl, fun _ => ⟨rfl, rfl⟩⟩
  next h => exact ⟨min_le_right _ _, min_le_right _ _, fun hreset => absurd (.inl hreset) h⟩

theorem length_of_polOk {rec : Bytes} (h : polOk rec = true) : rec.length = 32 := by
  simp only [polOk, Bool.and_eq_true, decide_eq_true_eq] at h
  exact h.1.1.1.1.1

section Policers

variable {s : State} {b : Bytes} (hs : Serves s) (hpwr : s.pwr.state = 0) (tag : CmdTag) (reset : Bool)
  (hindex : leAt b 0 4 < s.policerCount) (hok : polOk (slice b 4 32) = true) (hlen : b.length = 36)

/-- The state in which one policer has been replaced. -/
def State.polReplaced (s : State) (i : Nat) (rec : Bytes) (reset : Bool) : State :=
  { s with tm := { s.tm with
    policers := tset {} s.tm.policers i (polReplace (s.policer i) rec reset s.clk), polGen := seqNext s.tm.polGen } }

include hs hpwr hindex hok hlen in
theorem exec_polWrite_one : exec (.polWrite tag 1 reset (some b)) s =
    .next (((s.begin tag 0x1401).polReplaced (leAt b 0 4) (slice b 4 32) reset).complete tag St.ok
      [(4, seqNext s.tm.polGen)]) := by
  have hrecs : (chunks 36 1 b).map (fun r => (leAt r 0 4, r.drop 4)) = [(leAt b 0 4, slice b 4 32)] := by
    have hslice : slice b 0 36 = b := by rw [slice, List.drop_zero, List.take_of_length_le hlen.le]
    have hdrop : slice b 4 32 = b.drop 4 := by rw [slice, List.take_of_length_le (by rw [List.length_drop, hlen])]
    simp [chunks, hslice, hdrop]
  have hgood : firstBad (fun r : Nat × Bytes => decide (r.1 < (s.begin tag 0x1401).policerCount) && polOk r.2)
      [(leAt b 0 4, slice b 4 32)] = none :=
    firstBad_eq_none fun r hr => by
      rw [List.mem_singleton.mp hr]
      exact Bool.and_eq_true_iff.mpr ⟨decide_eq_true hindex, hok⟩
  show execPolWrite tag 1 reset (some b) s = _
  rw [execPolWrite, State.serveL0_awake hs hpwr, if_neg (by omega)]
  dsimp only
  rw [hrecs, hgood]
  rfl

include hok in
theorem State.polReplaced_policer (i : Nat) :
    ((s.polReplaced i (slice b 4 32) reset).policer i) = polReplace (s.policer i) (slice b 4 32) reset s.clk := by
  refine tget_tset_of_ne_default (fun h => ?_) _ _
  have hrec := congrArg Policer.record h
  rw [polReplace_record] at hrec
  have hlong := length_of_polOk hok
  rw [hrec] at hlong
  exact absurd hlong (by decide)

end Policers

/-! ### FID records (R302) -/

theorem State.engineRun_idle {s : State} (hlearn : s.fdb.learn = []) (hbad : s.fdb.bad = []) : s.engineRun = s := by
  rw [State.engineRun, hlearn]
  dsimp only [List.length_nil, learnAll]
  rw [hbad]
  rfl

/-- In L0 a module that serves, its engine idle, carries a command of the forwarding table out. -/
theorem State.serveTable_idle {s : State} (hs : Serves s) (hpwr : s.pwr.state = 0) (hlearn : s.fdb.learn = [])
    (hbad : s.fdb.bad = []) (tag : CmdTag) (op : Nat) (body : State → State) :
    s.serveTable tag op body = body (s.begin tag op) := by
  rw [State.serveTable, State.serveL0_awake hs hpwr, State.engineRun_idle (s := s.begin tag op) hlearn hbad]

theorem foldl_add_eq_sum {α : Type} (f : α → Nat) (l : List α) (n : Nat) :
    l.foldl (fun n x => n + f x) n = n + (l.map f).sum := by
  induction l generalizing n with
  | nil => rfl
  | cons x rest ih => rw [List.foldl_cons, ih, List.map_cons, List.sum_cons, Nat.add_assoc]

section Fids

variable {s : State} (hs : Serves s) (hpwr : s.pwr.state = 0) (hlearn : s.fdb.learn = []) (hbad : s.fdb.bad = [])
  (tag : CmdTag) {fid : Nat} (hmin : 1 ≤ fid) (hmax : fid ≤ 4094)
include hs hpwr hlearn hbad hmin hmax

theorem exec_fidRead (out : Nat) : exec (.fidRead tag fid out) s = .next (((s.begin tag 0x1307).outData tag out
    (fidBytes fid (s.fidRec fid))).completeWith tag St.ok [(4, (s.fidRec fid).flood.length)] true) := by
  show execFidRead tag fid out s = _
  rw [execFidRead, State.serveTable_idle hs hpwr hlearn hbad, if_neg (by omega)]
  rfl

/-- A FID record in order is taken where the flood lists have room for it. -/
theorem exec_fidWrite {flags n : Nat} {b : Bytes} (hflags : flags < 16) (hn : n ≤ 4096)
    (hpairs : (chunks 4 n b).any (fun c => leNat c / 512 % 128 != 0 || leNat c / 2 ^ 24 != 0) = false) :
    exec (.fidWrite tag fid flags n (some b)) s = .next (
      if ((s.fdb.fids.filter (fun e => e.1 != fid)).map (fun e => e.2.flood.length)).sum + n > 65536
      then (s.begin tag 0x1306).complete tag St.floodFull
      else ({ s.begin tag 0x1306 with
        fdb := { s.fdb with
          fids := tset {} s.fdb.fids fid
            { valid := bitAt flags 0, learn := bitAt flags 1, uuFlood := bitAt flags 2, mcFlood := bitAt flags 3
              flood := (chunks 4 n b).map (fun c => (leNat c % 512, bitsOf (leNat c) 23 16)) } } } : State).complete tag St.ok
        [(4, 65536 - ((s.fdb.fids.filter (fun e => e.1 != fid)).map (fun e => e.2.flood.length)).sum - n)]) := by
  have hws : ((chunks 4 n b).map leNat).any (fun w => w / 512 % 128 != 0 || w / 2 ^ 24 != 0) = false := by
    rw [List.any_map]; exact hpairs
  show execFidWrite tag fid flags n (some b) s = _
  rw [execFidWrite, State.serveTable_idle hs hpwr hlearn hbad, if_neg (by omega)]
  dsimp only
  rw [hws, if_neg Bool.noConfusion, foldl_add_eq_sum, Nat.zero_add, List.map_map]
  rfl

end Fids

/-! ### What the commands return and leave -/

/-- A command whose work has left the exchange alone is answered, and leaves what its work left. -/
theorem answered_beside {s u : State} {tag : CmdTag} {op : Nat} (hs : Serves s) (hu : u.cx = (s.begin tag op).cx) (st : Nat)
    (d : List (Nat × Nat)) : Answered s (u.complete tag st d) tag st ∧
      ({ u.complete tag st d with cx := s.cx, host := s.host } : State) = { u with cx := s.cx, host := s.host } :=
  ⟨answered_of_begun hs hu st d false, State.complete_beside u tag st d s.cx s.host⟩

theorem State.each_writeRule_cx (s : State) (l : List Bytes) (reset : Bool) :
    (s.each l fun s r => s.writeRule reset r).cx = s.cx :=
  State.each_induction (P := fun u => u.cx = s.cx) rfl fun u r _ hu => by
    rw [State.writeRule]
    dsimp only
    split <;> exact hu

theorem State.each_wipeRule_cx (s : State) (l : List Nat) : (s.each l State.wipeRule).cx = s.cx :=
  State.each_induction (P := fun u => u.cx = s.cx) rfl fun _ _ _ hu => hu

section Outcomes

variable {s : State} (hs : Serves s) (hpwr : s.pwr.state = 0) (tag : CmdTag) {n : Nat} (hpos : 1 ≤ n) (hmax : n ≤ 256)
include hs hpwr hpos hmax

theorem clsRuleWrite_writes (reset : Bool) {b : Bytes} (hdistinct : firstRepeat ((chunks 96 n b).map ruleIndex) = none)
    (hok : ∀ r ∈ chunks 96 n b, ruleOk s.cls.ranges s.policerCount r = true) :
    ∃ t, exec (.clsRuleWrite tag n reset (some b)) s = .next t ∧ Answered s t tag St.ok ∧ t.cls.gen = seqNext s.cls.gen ∧
      (∀ r ∈ chunks 96 n b, t.rule (ruleIndex r) = r) ∧ t.cls.ranges = s.cls.ranges ∧
      (∀ i, i ∉ (chunks 96 n b).map ruleIndex → t.rule i = s.rule i) ∧
      { t with cls := s.cls, obs := s.obs, cx := s.cx, host := s.host } = s := by
  have hexec := exec_clsRuleWrite_writes hs hpwr tag hpos hmax reset hdistinct hok
  have hcx := (s.begin tag 0x1201).each_writeRule_cx (chunks 96 n b) reset
  obtain ⟨hin, hout, hranges, hgen, hleft⟩ := (s.begin tag 0x1201).writeRules_leaves reset
    (nodup_of_firstRepeat hdistinct) fun r hr => ne_zeros_of_ruleOk (hok r hr)
  generalize (s.begin tag 0x1201).each (chunks 96 n b) (fun s r => s.writeRule reset r) = u at hexec hcx hin hout hranges hgen hleft
  obtain ⟨hans, hrest⟩ := answered_beside (u := u.clsChanged) hs hcx St.ok [(4, seqNext u.cls.gen)]
  have hcls := State.complete_cls u.clsChanged tag St.ok [(4, seqNext u.cls.gen)]
  refine ⟨_, hexec, hans, ?_⟩
  generalize u.clsChanged.complete tag St.ok [(4, seqNext u.cls.gen)] = t at hcls hrest ⊢
  have hrule (i : Nat) : t.rule i = u.rule i :=
    (congrArg (fun x : ClsSt => tget (zeros 96) x.rules i) hcls : t.rule i = u.clsChanged.rule i)
  refine ⟨?_, fun r hr => (hrule _).trans (hin r hr), ?_, fun i hi => (hrule i).trans (hout i hi), ?_⟩
  · rw [hcls]; exact congrArg seqNext hgen
  · rw [hcls]; exact hranges
  · have hbeside := congrArg (fun x : State => { x with cls := s.cls, obs := s.obs }) hrest
    exact hbeside.trans (congrArg (fun x : State => { x with cx := s.cx, host := s.host }) hleft)

theorem clsRuleDelete_deletes {b : Bytes} (hwf : tblWf (zeros 96) 0 s.cls.rules = true)
    (hlen : ∀ x ∈ s.cls.rules, x.2.length = 96) (hok : ∀ i ∈ (chunks 2 n b).map leNat, i < 32768) :
    ∃ t, exec (.clsRuleDelete tag n (some b)) s = .next t ∧ Answered s t tag St.ok ∧ t.cls.gen = seqNext s.cls.gen ∧
      (∀ i ∈ (chunks 2 n b).map leNat, ruleValid (t.rule i) = false) ∧
      (∀ i, i ∉ (chunks 2 n b).map leNat → t.rule i = s.rule i) ∧
      { t with cls := s.cls, cx := s.cx, host := s.host } = s := by
  have hexec := exec_clsRuleDelete_deletes hs hpwr tag hpos hmax hok
  have hcx := (s.begin tag 0x1202).each_wipeRule_cx ((chunks 2 n b).map leNat)
  obtain ⟨hin, hout, hgen, hleft⟩ := (s.begin tag 0x1202).wipeRules_leaves ((chunks 2 n b).map leNat)
    (keysRise_of_tblWf hwf) (State.rule_length hlen)
  generalize (s.begin tag 0x1202).each ((chunks 2 n b).map leNat) State.wipeRule = u at hexec hcx hin hout hgen hleft
  obtain ⟨hans, hrest⟩ := answered_beside (u := u.clsChanged) hs hcx St.ok [(4, seqNext u.cls.gen)]
  have hcls := State.complete_cls u.clsChanged tag St.ok [(4, seqNext u.cls.gen)]
  refine ⟨_, hexec, hans, ?_⟩
  generalize u.clsChanged.complete tag St.ok [(4, seqNext u.cls.gen)] = t at hcls hrest ⊢
  have hrule (i : Nat) : t.rule i = u.rule i :=
    (congrArg (fun x : ClsSt => tget (zeros 96) x.rules i) hcls : t.rule i = u.clsChanged.rule i)
  refine ⟨?_, fun i hi => (congrArg ruleValid (hrule i)).trans (hin i hi), fun i hi => (hrule i).trans (hout i hi), ?_⟩
  · rw [hcls]; exact congrArg seqNext hgen
  · have hbeside := congrArg (fun x : State => { x with cls := s.cls }) hrest
    exact hbeside.trans (congrArg (fun x : State => { x with cx := s.cx, host := s.host }) hleft)

theorem clsRangeWrite_writes {b : Bytes} (hok : ∀ r ∈ chunks 12 n b, leAt r 0 4 < 256 ∧ rangeOk (leAt r 4 8) = true) :
    ∃ t, exec (.clsRangeWrite tag n (some b)) s = .next t ∧ Answered s t tag St.ok ∧
      t.cls = { s.cls with
        gen := seqNext s.cls.gen
        ranges := (chunks 12 n b).foldl (fun x r => tset 0 x (leAt r 0 4) (leAt r 4 8)) s.cls.ranges } ∧
      { t with cls := s.cls, cx := s.cx, host := s.host } = s := by
  have hexec := exec_clsRangeWrite_writes hs hpwr tag hpos hmax hok
  generalize (chunks 12 n b).foldl (fun x r => tset 0 x (leAt r 0 4) (leAt r 4 8)) s.cls.ranges = ranges at hexec ⊢
  generalize hu : ({ s.begin tag 0x1203 with cls := { s.cls with gen := seqNext s.cls.gen, ranges := ranges } } : State) =
    u at hexec
  obtain ⟨hans, hrest⟩ := answered_beside (op := 0x1203) (tag := tag) hs (u := u) (by rw [← hu]) St.ok
    [(4, seqNext s.cls.gen)]
  refine ⟨_, hexec, hans, (State.complete_cls _ _ _ _).trans (by rw [← hu]), ?_⟩
  rw [← hu] at hrest ⊢
  exact congrArg (fun x : State => { x with cls := s.cls }) hrest

/-- A list of records that host memory does not yield changes nothing (R434). -/
theorem noRecords_refused (flag : Bool) :
    (∃ t, exec (.clsRuleWrite tag n flag none) s = .next t ∧ Refused s t tag St.hostDmaError) ∧
      (∃ t, exec (.clsRuleDelete tag n none) s = .next t ∧ Refused s t tag St.hostDmaError) ∧
      (∃ t, exec (.clsRangeWrite tag n none) s = .next t ∧ Refused s t tag St.hostDmaError) ∧
      (∃ t, exec (.polWrite tag n flag none) s = .next t ∧ Refused s t tag St.hostDmaError) := by
  refine ⟨⟨_, ?_, refused_of_begun hs tag 0x1201 _ []⟩, ⟨_, ?_, refused_of_begun hs tag 0x1202 _ []⟩,
    ⟨_, ?_, refused_of_begun hs tag 0x1203 _ []⟩, ⟨_, ?_, refused_of_begun hs tag 0x1401 _ []⟩⟩
  · show execClsRuleWrite tag n flag none s = _
    rw [execClsRuleWrite, State.serveL0_awake hs hpwr, if_neg (by omega)]; rfl
  · show execClsRuleDelete tag n none s = _
    rw [execClsRuleDelete, State.serveL0_awake hs hpwr, if_neg (by omega)]; rfl
  · show execClsRangeWrite tag n none s = _
    rw [execClsRangeWrite, State.serveL0_awake hs hpwr, if_neg (by omega)]; rfl
  · show execPolWrite tag n flag none s = _
    rw [execPolWrite, State.serveL0_awake hs hpwr, if_neg (by omega)]; rfl

end Outcomes

theorem longList_refused {s : State} (hs : Serves s) (hpwr : s.pwr.state = 0) (tag : CmdTag) {n : Nat} (hlong : 256 < n)
    (flag : Bool) (b : Bytes) :
    (∃ t, exec (.clsRuleWrite tag n flag (some b)) s = .next t ∧ Refused s t tag St.badParam) ∧
      ∃ t, exec (.polWrite tag n flag (some b)) s = .next t ∧ Refused s t tag St.badParam := by
  refine ⟨⟨_, ?_, refused_of_begun hs tag 0x1201 _ []⟩, ⟨_, ?_, refused_of_begun hs tag 0x1401 _ []⟩⟩
  · show execClsRuleWrite tag n flag (some b) s = _
    rw [execClsRuleWrite, State.serveL0_awake hs hpwr, if_pos (.inr hlong)]; rfl
  · show execPolWrite tag n flag (some b) s = _
    rw [execPolWrite, State.serveL0_awake hs hpwr, if_pos (.inr hlong)]; rfl

theorem polWrite_replaces {s : State} (hs : Serves s) (hpwr : s.pwr.state = 0) (tag : CmdTag) (reset : Bool) {b : Bytes}
    (hindex : leAt b 0 4 < s.policerCount) (hok : polOk (slice b 4 32) = true) (hlen : b.length = 36) :
    ∃ t, exec (.polWrite tag 1 reset (some b)) s = .next t ∧ Answered s t tag St.ok ∧ t.tm.polGen = seqNext s.tm.polGen ∧
      (t.policer (leAt b 0 4)).record = slice b 4 32 ∧
      (reset = true → (t.policer (leAt b 0 4)).c = polCSize (slice b 4 32) ∧
        (t.policer (leAt b 0 4)).e = polESize (slice b 4 32)) ∧
      (t.policer (leAt b 0 4)).c ≤ polCSize (slice b 4 32) ∧ (t.policer (leAt b 0 4)).e ≤ polESize (slice b 4 32) ∧
      (∀ i, i ≠ leAt b 0 4 → t.policer i = s.policer i) ∧
      { t with tm := { s.tm with policers := t.tm.policers, polGen := t.tm.polGen } } = t ∧
      { t with tm := s.tm, cx := s.cx, host := s.host } = s := by
  have hexec := exec_polWrite_one hs hpwr tag reset hindex hok hlen
  have hsame := State.polReplaced_policer (s := s.begin tag 0x1401) reset hok (leAt b 0 4)
  have hne {i : Nat} (hi : i ≠ leAt b 0 4) : ((s.begin tag 0x1401).polReplaced (leAt b 0 4) (slice b 4 32) reset).policer i =
      s.policer i := congrArg (·.getD ({} : Policer)) (tget?_tset_ne _ _ hi _)
  obtain ⟨hc, he, hfull⟩ := polReplace_buckets ((s.begin tag 0x1401).policer (leAt b 0 4)) (slice b 4 32) reset
    (s.begin tag 0x1401).clk
  obtain ⟨hans, hrest⟩ := answered_beside (op := 0x1401) (tag := tag) hs
    (u := (s.begin tag 0x1401).polReplaced (leAt b 0 4) (slice b 4 32) reset) rfl St.ok [(4, seqNext s.tm.polGen)]
  have htm := State.complete_tm ((s.begin tag 0x1401).polReplaced (leAt b 0 4) (slice b 4 32) reset) tag St.ok
    [(4, seqNext s.tm.polGen)]
  refine ⟨_, hexec, hans, ?_⟩
  generalize ((s.begin tag 0x1401).polReplaced (leAt b 0 4) (slice b 4 32) reset).complete tag St.ok
    [(4, seqNext s.tm.polGen)] = t at htm hrest ⊢
  have hpol (i : Nat) : t.policer i = ((s.begin tag 0x1401).polReplaced (leAt b 0 4) (slice b 4 32) reset).policer i :=
    congrArg (fun x : TmSt => tget ({} : Policer) x.policers i) htm
  rw [hpol, hsame]
  refine ⟨congrArg TmSt.polGen htm, polReplace_record _ _ _ _, hfull, hc, he, fun i hi => (hpol i).trans (hne hi), ?_,
    congrArg (fun x : State => { x with tm := s.tm }) hrest⟩
  have htm' : { s.tm with policers := t.tm.policers, polGen := t.tm.polGen } = t.tm := by rw [htm]; rfl
  rw [htm']

theorem fidWrite_outcomes {s : State} (hs : Serves s) (hpwr : s.pwr.state = 0) (hlearn : s.fdb.learn = [])
    (hbad : s.fdb.bad = []) (tag : CmdTag) {fid flags n : Nat} {b : Bytes} (hmin : 1 ≤ fid) (hmax : fid ≤ 4094)
    (hflags : flags < 16) (hn : n ≤ 4096)
    (hpairs : (chunks 4 n b).any (fun c => leNat c / 512 % 128 != 0 || leNat c / 2 ^ 24 != 0) = false) :
    (((s.fdb.fids.filter (fun e => e.1 != fid)).map (fun e => e.2.flood.length)).sum + n ≤ 65536 → ∃ t,
      exec (.fidWrite tag fid flags n (some b)) s = .next t ∧ Answered s t tag St.ok ∧
      t.fdb = { s.fdb with
        fids := tset {} s.fdb.fids fid
          { valid := bitAt flags 0, learn := bitAt flags 1, uuFlood := bitAt flags 2, mcFlood := bitAt flags 3
            flood := (chunks 4 n b).map (fun c => (leNat c % 512, bitsOf (leNat c) 23 16)) } } ∧
      { t with fdb := s.fdb, cx := s.cx, host := s.host } = s) ∧
    (65536 < ((s.fdb.fids.filter (fun e => e.1 != fid)).map (fun e => e.2.flood.length)).sum + n → ∃ t,
      exec (.fidWrite tag fid flags n (some b)) s = .next t ∧ Refused s t tag St.floodFull) := by
  have hexec := exec_fidWrite hs hpwr hlearn hbad tag hmin hmax hflags hn hpairs
  refine ⟨fun hroom => ?_, fun hfull => ?_⟩
  · rw [if_neg (by omega)] at hexec
    generalize (chunks 4 n b).map (fun c => (leNat c % 512, bitsOf (leNat c) 23 16)) = flood at hexec ⊢
    generalize ((s.fdb.fids.filter (fun e => e.1 != fid)).map (fun e => e.2.flood.length)).sum = others at hexec
    generalize hu : ({ s.begin tag 0x1306 with
      fdb := { s.fdb with
        fids := tset {} s.fdb.fids fid
          { valid := bitAt flags 0, learn := bitAt flags 1, uuFlood := bitAt flags 2, mcFlood := bitAt flags 3
            flood := flood } } } : State) = u at hexec
    obtain ⟨hans, hrest⟩ := answered_beside (op := 0x1306) (tag := tag) hs (u := u) (by rw [← hu]) St.ok
      [(4, 65536 - others - n)]
    refine ⟨_, hexec, hans, (State.complete_fdb _ _ _ _).trans (by rw [← hu]), ?_⟩
    rw [← hu] at hrest ⊢
    exact congrArg (fun x : State => { x with fdb := s.fdb }) hrest
  · rw [if_pos (by omega)] at hexec
    exact ⟨_, hexec, refused_of_begun hs tag _ _ _⟩

/-- Settles O48. -/
theorem classifierPolicerAndFidTables : Obligations.ClassifierPolicerAndFidTables := by
  unfold Obligations.ClassifierPolicerAndFidTables
  intro s tag n fid flags out flag b hs hpwr hpos hmax hlearn hbad
  obtain ⟨hrules, hdeletes, hranges, hpolicers⟩ := noRecords_refused hs hpwr tag hpos hmax flag
  refine ⟨clsRuleWrite_writes hs hpwr tag hpos hmax flag, fun hwrong => ?_, clsRuleDelete_deletes hs hpwr tag hpos hmax,
    clsRangeWrite_writes hs hpwr tag hpos hmax,
    fun hfit => ⟨_, exec_clsRuleRead hs tag hpwr hfit, delivered_of_served hs tag _ out _ _⟩,
    fun hone hindex hok hlen => ?_, fun hmin hmax' hflags => ⟨?_, ?_, ?_⟩, hrules, hdeletes, hranges, hpolicers,
    fun hlong => longList_refused hs hpwr tag hlong flag b⟩
  · obtain ⟨i, hexec⟩ := exec_clsRuleWrite_invalid hs hpwr tag hpos hmax flag hwrong
    exact ⟨_, hexec, refused_of_begun hs tag _ _ _⟩
  · subst hone
    exact polWrite_replaces hs hpwr tag flag hindex hok hlen
  · exact fun hpairs => (fidWrite_outcomes hs hpwr hlearn hbad tag hmin hmax' hflags (by omega) hpairs).1
  · exact fun hpairs => (fidWrite_outcomes hs hpwr hlearn hbad tag hmin hmax' hflags (by omega) hpairs).2
  · exact ⟨_, exec_fidRead hs hpwr hlearn hbad tag hmin hmax' out, delivered_of_served hs tag _ out _ _⟩

end Sys2Proof.Machine
end

section
/-!
The forwarding table: its commands (R298, R299, R313, R315, R317 to R319), learning, ageing and the epochs (R307, R310,
R313 to R316).
-/

namespace Sys2Proof.Machine

open Sys2Proof.Stated

/-! ### Advances of the epoch (R313, R315) -/

/-- The state whose epoch has advanced by one, with no advance left to wait. -/
def State.advanced (s : State) : State :=
  { s with fdb := { s.fdb with epoch := seqNext s.fdb.epoch, waiting := [], waitSince := none } }

theorem State.advanced_fdb {s : State} (hwait : s.fdb.waiting = []) :
    s.advanced.fdb = { s.fdb with epoch := seqNext s.fdb.epoch, waitSince := none } := by
  rw [State.advanced, ← hwait]

theorem State.advanced_leaves {s u : State} {x : FdbSt} (h : ({ s with fdb := x } : State) = u) :
    ({ s.advanced with fdb := x } : State) = u := h

theorem State.waitSince_settled {s : State} (h : s.fdb.waitSince = none) :
    { s with fdb := { s.fdb with waitSince := none } } = s := by
  rw [← h]

theorem advances_idle {s : State} (hwait : s.fdb.waiting = []) (n : Nat) :
    advances (n + 1) s = { s with fdb := { s.fdb with waitSince := none } } := by
  rw [advances, hwait]

/-- The only advance that waits is made, where nothing blocks it. -/
theorem advances_one {s : State} {w : EpochWait} (hwait : s.fdb.waiting = [w]) (hfree : s.advanceBlocked = false)
    (hquiet : w.notify = false) (n : Nat) :
    advances (n + 2) s = s.advanced.completeOpt w.tag St.ok (w.before ++ [(4, seqNext s.fdb.epoch)]) := by
  have hfdb : (s.advanced.completeOpt w.tag St.ok (w.before ++ [(4, seqNext s.fdb.epoch)])).fdb = s.advanced.fdb := by
    unfold State.completeOpt
    split
    · rw [State.complete_fdb]
    · rfl
  rw [advances, hwait]
  dsimp only
  rw [if_neg (by simp [hfree]), hquiet]
  show advances (n + 1) (s.advanced.completeOpt w.tag St.ok _) = _
  rw [advances_idle (by rw [hfdb]; rfl), State.waitSince_settled (by rw [hfdb]; rfl)]

/-- What blocks an advance stands in the buffer, beside the epoch that it leaves. -/
theorem State.advanceBlocked_of_table {s t : State} {x : FdbSt} (h : ({ t with fdb := x } : State) = s)
    (hepoch : t.fdb.epoch = s.fdb.epoch) : t.advanceBlocked = s.advanceBlocked := by
  have htm : t.tm = s.tm := by rw [← h]
  rw [State.advanceBlocked, State.advanceBlocked, State.flightEpochs, State.flightEpochs, htm, hepoch]

theorem State.cx_of_table {s t : State} {x : FdbSt} (h : ({ t with fdb := x } : State) = s) : t.cx = s.cx := by
  rw [← h]

section Ask

variable {s : State} (hwait : s.fdb.waiting = []) (hfree : s.advanceBlocked = false)
include hwait hfree

theorem State.askAdvance_now {w : EpochWait} (hquiet : w.notify = false) :
    s.askAdvance w = s.advanced.completeOpt w.tag St.ok (w.before ++ [(4, seqNext s.fdb.epoch)]) := by
  have hjoined : s.fdb.waiting ++ [w] = [w] := by rw [hwait, List.nil_append]
  have hone := advances_one (s := { s with fdb := { s.fdb with waiting := s.fdb.waiting ++ [w] } }) hjoined hfree hquiet 0
  rw [State.askAdvance]
  dsimp only
  rw [hjoined] at hone ⊢
  exact hone

end Ask

theorem State.nextEpoch_now {s : State} (hwait : s.fdb.waiting = []) : s.nextEpoch = seqNext s.fdb.epoch := by
  rw [State.nextEpoch, hwait, List.length_nil, Nat.add_zero, seqNext]

/-! ### Slots (R298, R316) -/

theorem State.retire_none {s : State} {j : Nat} (hj : j = 0) (epoch : Nat) : s.retire j epoch = s := by
  rw [State.retire, if_pos (.inl hj)]

/-- An entry without a counter pair goes with its slot alone. -/
theorem State.removeSlot_plain {s : State} {pos : Nat} {e : FdbEntry} (hslot : s.slot pos = some e) (hcnt : e.counter = 0)
    (epoch : Nat) : s.removeSlot pos epoch = s.dropSlot pos := by
  rw [State.removeSlot, hslot]
  exact State.retire_none hcnt epoch

/-- What the removal of a slot leaves. -/
theorem State.removeSlot_leaves (s : State) (pos epoch : Nat) : (s.removeSlot pos epoch).fdb.slots = terase s.fdb.slots pos ∧
    (s.removeSlot pos epoch).fdb.flushes = s.fdb.flushes ∧ (s.removeSlot pos epoch).fdb.epoch = s.fdb.epoch ∧
    (s.removeSlot pos epoch).fdb.waiting = s.fdb.waiting ∧ { s.removeSlot pos epoch with fdb := s.fdb } = s := by
  rw [State.removeSlot]
  split
  · rw [State.retire]
    split <;> exact ⟨rfl, rfl, rfl, rfl, rfl⟩
  · exact ⟨rfl, rfl, rfl, rfl, rfl⟩

theorem State.removeSlot_fids (s : State) (pos epoch : Nat) : (s.removeSlot pos epoch).fdb.fids = s.fdb.fids := by
  rw [State.removeSlot]
  split
  · rw [State.retire]
    split <;> rfl
  · rfl

/-- A key that is found stands in the slot named. -/
theorem State.slot_of_findAny {s : State} {fid mac pos : Nat} {e : FdbEntry} (h : s.findAny fid mac = some (pos, e)) :
    s.slot pos = some e := by
  obtain ⟨p, -, hp⟩ := List.exists_of_findSome?_eq_some h
  split at hp
  next x hx =>
    split_ifs at hp
    obtain ⟨rfl, rfl⟩ := Prod.mk.inj (Option.some.inj hp)
    exact hx
  next => exact nomatch hp

theorem State.slot_of_find {s : State} {fid mac pos : Nat} {e : FdbEntry} (h : s.find fid mac = some (pos, e)) :
    s.slot pos = some e :=
  State.slot_of_findAny (Option.eq_some_of_filter_eq_some h)

/-- The slots of a list are emptied, and no other; the rest of the table stands, beside the pairs that retire. -/
theorem State.removeSlots_leaves (s : State) (l : List Nat) (hrise : keysRise 0 s.fdb.slots = true) :
    (∀ q ∈ l, (s.each l fun s p => s.removeSlot p s.nextEpoch).slot q = none) ∧
      (∀ q, q ∉ l → (s.each l fun s p => s.removeSlot p s.nextEpoch).slot q = s.slot q) ∧
      (s.each l fun s p => s.removeSlot p s.nextEpoch).fdb.flushes = s.fdb.flushes ∧
      (s.each l fun s p => s.removeSlot p s.nextEpoch).fdb.epoch = s.fdb.epoch ∧
      (s.each l fun s p => s.removeSlot p s.nextEpoch).fdb.waiting = s.fdb.waiting ∧
      { s.each l (fun s p => s.removeSlot p s.nextEpoch) with fdb := s.fdb } = s := by
  induction l generalizing s with
  | nil => exact ⟨fun _ h => absurd h List.not_mem_nil, fun _ _ => rfl, rfl, rfl, rfl, rfl⟩
  | cons k rest ih =>
    obtain ⟨hslots, hflushes, hepoch, hwait, hleft⟩ := s.removeSlot_leaves k s.nextEpoch
    have hgone : (s.removeSlot k s.nextEpoch).slot k = none := by
      rw [State.slot, hslots]; exact tget?_terase_same hrise k
    have hother {q : Nat} (hq : q ≠ k) : (s.removeSlot k s.nextEpoch).slot q = s.slot q := by
      rw [State.slot, hslots]; exact tget?_terase_ne _ hq
    obtain ⟨hin, hout, hflushes', hepoch', hwait', hleft'⟩ :=
      ih (s.removeSlot k s.nextEpoch) (by rw [hslots]; exact keysRise_terase hrise k)
    refine ⟨fun q hq => ?_, fun q hq => ?_, hflushes'.trans hflushes, hepoch'.trans hepoch, hwait'.trans hwait, ?_⟩
    · by_cases hrest : q ∈ rest
      · exact hin q hrest
      · have hqk : q = k := (List.mem_cons.mp hq).resolve_right hrest
        exact (hout q hrest).trans (hqk ▸ hgone)
    · obtain ⟨hqk, hrest⟩ := not_or.mp (mt List.mem_cons.mpr hq)
      exact (hout q hrest).trans (hother hqk)
    · exact (congrArg (fun u : State => { u with fdb := s.fdb }) hleft').trans hleft

/-! ### What the commands leave of the table (R317, R319) -/

/-- The state that a replacement asks the advance in. -/
def State.replaced (s : State) (pos : Nat) (e : FdbEntry) : State :=
  (s.putSlot pos e).barrier { epoch := seqNext s.fdb.epoch, key := some (e.fid, e.mac), dst := none }

theorem State.replaced_leaves (s : State) (pos : Nat) (e : FdbEntry) :
    ({ s.replaced pos e with fdb := s.fdb } : State) = s := rfl

/-- The state that a deletion asks the advance in. -/
def State.deleted (s : State) (pos fid mac : Nat) : State :=
  (s.removeSlot pos (seqNext s.fdb.epoch)).barrier { epoch := seqNext s.fdb.epoch, key := some (fid, mac), dst := none }

theorem State.removeSlot_slot {s : State} (hrise : keysRise 0 s.fdb.slots = true) (pos epoch : Nat) :
    (s.removeSlot pos epoch).slot pos = none ∧ ∀ q, q ≠ pos → (s.removeSlot pos epoch).slot q = s.slot q := by
  obtain ⟨hslots, -⟩ := s.removeSlot_leaves pos epoch
  rw [State.slot, hslots]
  refine ⟨tget?_terase_same hrise pos, fun q hq => ?_⟩
  rw [State.slot, hslots]
  exact tget?_terase_ne _ hq

/-- The flush that FDB_FLUSH_BY_PORT opens (R319). -/
def State.flushOf (s : State) (m p : Nat) (fid : Option Nat) (staticToo : Bool) (tag : CmdTag) : Flush :=
  { dstModule := m, dstPort := p, fid := fid, doomed := s.flushSet m p fid staticToo,
    removed := (s.flushSet m p fid staticToo).length, tag := some tag, notify := false, epoch := s.nextEpoch }

/-- The forwarding table once a flush has been opened. -/
def State.flushing (s : State) (m p : Nat) (fid : Option Nat) (staticToo : Bool) (tag : CmdTag) : FdbSt :=
  { s.fdb with
    flushes := s.fdb.flushes ++ [s.flushOf m p fid staticToo tag]
    barriers := s.fdb.barriers ++ [{ epoch := s.nextEpoch, key := none, dst := some (m, p, fid) }] }

/-! ### The commands (R317 to R319) -/

section Commands

variable {s : State} (hs : Serves s) (hpwr : s.pwr.state = 0) (hlearn : s.fdb.learn = []) (hbad : s.fdb.bad = [])
  (tag : CmdTag)
include hs hpwr hlearn hbad

theorem exec_fdbSearch_found {fid mac pos : Nat} {e : FdbEntry} (hfind : s.find fid mac = some (pos, e)) (out : Nat) :
    exec (.fdbSearch tag mac fid out) s = .next (((s.begin tag 0x1301).outData tag out (entryBytes e)).completeWith tag
      St.ok [(4, pos)] true) := by
  show execFdbSearch tag mac fid out s = _
  rw [execFdbSearch, State.serveTable_idle hs hpwr hlearn hbad, show (s.begin tag 0x1301).find fid mac = _ from hfind]
  rfl

theorem exec_fdbSearch_absent {fid mac : Nat} (hfind : s.find fid mac = none) (out : Nat) :
    exec (.fdbSearch tag mac fid out) s = .next ((s.begin tag 0x1301).complete tag St.notFound) := by
  show execFdbSearch tag mac fid out s = _
  rw [execFdbSearch, State.serveTable_idle hs hpwr hlearn hbad, show (s.begin tag 0x1301).find fid mac = _ from hfind]
  rfl

theorem exec_fdbDelete_absent {fid mac : Nat} (hfind : s.find fid mac = none) (notify : Bool) :
    exec (.fdbDelete tag mac fid notify) s = .next ((s.begin tag 0x1304).complete tag St.notFound) := by
  show execFdbDelete tag mac fid notify s = _
  rw [execFdbDelete, State.serveTable_idle hs hpwr hlearn hbad, show (s.begin tag 0x1304).find fid mac = _ from hfind]
  rfl

/-- The entries of a walk from a position on (R318). -/
def State.walked (s : State) (cursor : Nat) (f : FdbFilter) : Tbl FdbEntry :=
  s.fdb.slots.filter (fun x => decide (cursor ≤ x.1) && filterHit f x.2 && !s.doomed x.1)

theorem exec_fdbNext_walks {n : Nat} (hpos : 1 ≤ n) (hmax : n ≤ 256) {f : FdbFilter} (hkind : f.kind ≤ 2)
    (cursor out : Nat) : ∃ d, exec (.fdbNext tag cursor n out f) s = .next (((s.begin tag 0x1302).outData tag out
      (((s.walked cursor f).take n).flatMap (fun x => entryBytes x.2))).completeWith tag St.ok d true) := by
  show ∃ d, execFdbNext tag cursor n out f s = _
  rw [execFdbNext, State.serveTable_idle hs hpwr hlearn hbad, if_neg (by omega)]
  exact ⟨_, rfl⟩

theorem exec_fdbNext_long {n : Nat} (hlong : 256 < n) (f : FdbFilter) (cursor out : Nat) :
    exec (.fdbNext tag cursor n out f) s = .next ((s.begin tag 0x1302).complete tag St.badParam) := by
  show execFdbNext tag cursor n out f s = _
  rw [execFdbNext, State.serveTable_idle hs hpwr hlearn hbad, if_pos (.inr (.inl hlong))]
  rfl

section Insert

variable {w0 w1 : BitVec 64} {e : FdbEntry} (he : { entryOf w0.toNat w1.toNat with hit := false, ageMark := false } = e)
include he

theorem exec_fdbInsert_invalid (hbadEntry : s.entryOk e w1.toNat = false) (replace : Bool) :
    exec (.fdbInsert tag w0 w1 replace false) s = .next ((s.begin tag 0x1303).complete tag St.fdbInvalid) := by
  show execFdbInsert tag w0 w1 replace false s = _
  rw [execFdbInsert, State.serveTable_idle hs hpwr hlearn hbad]
  extract_lets y x
  obtain rfl : x = e := he
  rw [if_pos (show (s.begin tag 0x1303).entryOk _ _ = _ from hbadEntry)]
  rfl

variable (hok : s.entryOk e w1.toNat = true) (hcnt : e.counter = 0)
include hok hcnt

theorem exec_fdbInsert_free {pos : Nat} (hnone : s.findAny e.fid e.mac = none) (hfree : s.freeSlot e.fid e.mac = some pos)
    (replace : Bool) : exec (.fdbInsert tag w0 w1 replace false) s = .next (((s.begin tag 0x1303).putSlot pos e).complete
      tag St.ok [(4, pos), (4, s.fdb.epoch)]) := by
  show execFdbInsert tag w0 w1 replace false s = _
  rw [execFdbInsert, State.serveTable_idle hs hpwr hlearn hbad]
  extract_lets y x
  obtain rfl : x = e := he
  rw [if_neg (by rw [show (s.begin tag 0x1303).entryOk _ _ = _ from hok]; exact Bool.noConfusion),
    if_neg (fun h => h.1 hcnt), show (s.begin tag 0x1303).findAny _ _ = _ from hnone]
  dsimp only
  rw [show (s.begin tag 0x1303).freeSlot _ _ = _ from hfree]
  rfl

theorem exec_fdbInsert_full (hnone : s.findAny e.fid e.mac = none) (hfull : s.freeSlot e.fid e.mac = none)
    (replace : Bool) : exec (.fdbInsert tag w0 w1 replace false) s = .next (((s.begin tag 0x1303).fdbFull e.mac e.fid
      1).complete tag St.fdbFull) := by
  show execFdbInsert tag w0 w1 replace false s = _
  rw [execFdbInsert, State.serveTable_idle hs hpwr hlearn hbad]
  extract_lets y x
  obtain rfl : x = e := he
  rw [if_neg (by rw [show (s.begin tag 0x1303).entryOk _ _ = _ from hok]; exact Bool.noConfusion),
    if_neg (fun h => h.1 hcnt), show (s.begin tag 0x1303).findAny _ _ = _ from hnone]
  dsimp only
  rw [show (s.begin tag 0x1303).freeSlot _ _ = _ from hfull]
  rfl

theorem exec_fdbInsert_exists {pos : Nat} {old : FdbEntry} (hfound : s.findAny e.fid e.mac = some (pos, old))
    (hkept : s.doomed pos = false) :
    exec (.fdbInsert tag w0 w1 false false) s = .next ((s.begin tag 0x1303).complete tag St.exists_) := by
  show execFdbInsert tag w0 w1 false false s = _
  rw [execFdbInsert, State.serveTable_idle hs hpwr hlearn hbad]
  extract_lets y x
  obtain rfl : x = e := he
  rw [if_neg (by rw [show (s.begin tag 0x1303).entryOk _ _ = _ from hok]; exact Bool.noConfusion),
    if_neg (fun h => h.1 hcnt), show (s.begin tag 0x1303).findAny _ _ = _ from hfound]
  dsimp only
  rw [if_neg (by rw [show (s.begin tag 0x1303).doomed _ = _ from hkept]; exact Bool.noConfusion), if_pos rfl]
  rfl

theorem exec_fdbInsert_replaces (hwait : s.fdb.waiting = []) (hblock : s.advanceBlocked = false) {pos : Nat}
    {old : FdbEntry} (hfound : s.findAny e.fid e.mac = some (pos, old)) (hkept : s.doomed pos = false)
    (hold : old.counter = 0) : exec (.fdbInsert tag w0 w1 true false) s = .next
      (((s.begin tag 0x1303).replaced pos e).advanced.complete tag St.ok [(4, pos), (4, seqNext s.fdb.epoch)]) := by
  show execFdbInsert tag w0 w1 true false s = _
  rw [execFdbInsert, State.serveTable_idle hs hpwr hlearn hbad]
  extract_lets y x ep
  obtain rfl : x = e := he
  rw [if_neg (by rw [show (s.begin tag 0x1303).entryOk _ _ = _ from hok]; exact Bool.noConfusion),
    if_neg (fun h => h.1 hcnt), show (s.begin tag 0x1303).findAny _ _ = _ from hfound]
  dsimp only
  rw [if_neg (by rw [show (s.begin tag 0x1303).doomed _ = _ from hkept]; exact Bool.noConfusion),
    if_neg (fun h => nomatch h)]
  rw [show ep = seqNext s.fdb.epoch from State.nextEpoch_now (s := s.begin tag 0x1303) hwait, State.retire_none hold]
  exact congrArg Host.Outcome.next (State.askAdvance_now (s := (s.begin tag 0x1303).replaced pos x) hwait hblock rfl)

end Insert

theorem exec_fdbDelete_found (hwait : s.fdb.waiting = []) (hblock : s.advanceBlocked = false) {fid mac pos : Nat}
    {old : FdbEntry} (hfind : s.find fid mac = some (pos, old)) : exec (.fdbDelete tag mac fid false) s = .next
      (((s.begin tag 0x1304).deleted pos fid mac).advanced.complete tag St.ok
        [(4, seqNext ((s.begin tag 0x1304).deleted pos fid mac).fdb.epoch)]) := by
  show execFdbDelete tag mac fid false s = _
  rw [execFdbDelete, State.serveTable_idle hs hpwr hlearn hbad, show (s.begin tag 0x1304).find fid mac = _ from hfind]
  dsimp only
  rw [State.nextEpoch_now (s := s.begin tag 0x1304) hwait]
  obtain ⟨-, -, hepoch, hwait', hleft⟩ := (s.begin tag 0x1304).removeSlot_leaves pos (seqNext (s.begin tag 0x1304).fdb.epoch)
  exact congrArg Host.Outcome.next (State.askAdvance_now (s := (s.begin tag 0x1304).deleted pos fid mac)
    (hwait'.trans hwait) ((State.advanceBlocked_of_table hleft hepoch).trans hblock) rfl)

theorem exec_fdbFlushByPort_busy {m p : Nat} (hm : m ≤ 511) (hp : p ≤ 255) (hfour : s.fdb.flushes.length = 4)
    (fid : Option Nat) (staticToo : Bool) :
    exec (.fdbFlushByPort tag m p fid staticToo false) s = .next ((s.begin tag 0x1305).complete tag St.busy) := by
  show execFdbFlushByPort tag m p fid staticToo false s = _
  rw [execFdbFlushByPort, State.serveTable_idle hs hpwr hlearn hbad, if_neg (by omega),
    if_pos (show (s.begin tag 0x1305).fdb.flushes.length ≥ 4 from hfour.ge)]
  rfl

theorem exec_fdbFlushByPort_opens {m p : Nat} (hm : m ≤ 511) (hp : p ≤ 255) (hfew : s.fdb.flushes.length < 4)
    (hother : m ≠ s.moduleId) (fid : Option Nat) (staticToo : Bool) :
    exec (.fdbFlushByPort tag m p fid staticToo false) s = .next { s.begin tag 0x1305 with
      fdb := s.flushing m p fid staticToo tag } := by
  show execFdbFlushByPort tag m p fid staticToo false s = _
  rw [execFdbFlushByPort, State.serveTable_idle hs hpwr hlearn hbad, if_neg (by omega),
    if_neg (show ¬ (s.begin tag 0x1305).fdb.flushes.length ≥ 4 from hfew.not_ge), State.startFlush]
  dsimp only
  rw [if_neg (fun h => hother h.1)]
  rfl

end Commands

/-- An entry that a flush names is doomed as the flush opens. -/
theorem State.mem_flushSet {s : State} {pos m p : Nat} {x : FdbEntry} {fid : Option Nat} {staticToo : Bool}
    (hslot : s.slot pos = some x) (hkind : x.kind = 0) (hm : x.dstModule = m) (hp : x.dstPort = p)
    (hfid : fid = none ∨ fid = some x.fid) (hstatic : x.static = false ∨ staticToo = true)
    (hkept : s.doomed pos = false) : pos ∈ s.flushSet m p fid staticToo := by
  refine List.mem_map.mpr ⟨(pos, x), List.mem_filter.mpr ⟨tget?_mem hslot, ?_⟩, rfl⟩
  have hst : (!x.static || staticToo) = true := by
    obtain h | h := hstatic <;> simp [h]
  obtain rfl | rfl := hfid <;>
    simp only [hkind, hm, hp, hkept, hst, beq_self_eq_true, Bool.not_false, Bool.and_self]


theorem State.setFld_lessEvents (s : State) (f : FieldRef) (v : Nat) : (s.setFld f v).lessEvents = s.lessEvents := rfl

theorem State.begin_lessEvents (s : State) (tag : CmdTag) (op : Nat) : (s.begin tag op).lessEvents = s.lessEvents := rfl

theorem State.fdbFull_lessEvents (s : State) (mac fid source : Nat) :
    (s.fdbFull mac fid source).lessEvents = s.lessEvents := by
  rw [State.fdbFull, State.raiseLim_lessEvents, State.setFld_lessEvents]

theorem State.complete_lessEvents (s : State) (tag : CmdTag) (st : Nat) (d : List (Nat × Nat)) :
    (s.complete tag st d).lessEvents = s.lessEvents := by
  have h := congrArg State.lessEvents (State.complete_lessExchange s tag st d)
  exact h

/-- A full table refuses an entry with an event (R316). -/
theorem told_fdbFull {s : State} (hs : Serves s) (tag : CmdTag) (mac fid source : Nat) :
    Told (((s.begin tag 0x1303).fdbFull mac fid source).complete tag St.fdbFull) tag St.fdbFull ∧
      (((s.begin tag 0x1303).fdbFull mac fid source).complete tag St.fdbFull).fdb = s.fdb ∧
      EventsOnly s (((s.begin tag 0x1303).fdbFull mac fid source).complete tag St.fdbFull) := by
  obtain ⟨-, -, hlen⟩ := hs
  have hrings : ((s.begin tag 0x1303).fdbFull mac fid source).cx.rings.length = 16 := by
    rw [State.fdbFull, State.raiseLim_rings, State.setFld_cx]
    exact (State.setRing_rings_length _ _ _).trans hlen
  have hevents : ((s.begin tag 0x1303).fdbFull mac fid source).lessEvents = s.lessEvents :=
    ((s.begin tag 0x1303).fdbFull_lessEvents mac fid source).trans (s.begin_lessEvents tag 0x1303)
  refine ⟨told_complete hrings tag St.fdbFull [], ?_, eventsOnly_of_lessEvents
    ((State.complete_lessEvents _ tag St.fdbFull []).trans hevents)⟩
  rw [State.complete_fdb, State.fdbFull, State.raiseLim_fdb, State.setFld_fdb]
  rfl

/-- The entries that a flush names are doomed once it has been opened. -/
theorem State.doomed_of_flushing {s t : State} {pos m p : Nat} {x : FdbEntry} {fid : Option Nat} {staticToo : Bool}
    {tag : CmdTag} (hslot : s.slot pos = some x) (hkind : x.kind = 0) (hm : x.dstModule = m) (hp : x.dstPort = p)
    (hfid : fid = none ∨ fid = some x.fid) (hstatic : x.static = false ∨ staticToo = true)
    (ht : t.fdb = s.flushing m p fid staticToo tag) : t.doomed pos = true := by
  rw [State.doomed, ht]
  show (s.fdb.flushes ++ [s.flushOf m p fid staticToo tag]).any _ = true
  rw [List.any_append, Bool.or_eq_true]
  by_cases hkept : s.doomed pos = true
  · exact .inl hkept
  · refine .inr (List.any_eq_true.mpr ⟨_, List.mem_singleton.mpr rfl, List.contains_iff_mem.mpr ?_⟩)
    exact State.mem_flushSet hslot hkind hm hp hfid hstatic (Bool.eq_false_iff.mpr hkept)

/-- A table command's answer, after work on the forwarding table alone. -/
theorem answered_table {s u : State} {tag : CmdTag} {op : Nat} (hs : Serves s)
    (hu : ({ u with fdb := s.fdb } : State) = s.begin tag op) (st : Nat) (d : List (Nat × Nat)) :
    Answered s (u.complete tag st d) tag st ∧ (u.complete tag st d).fdb = u.fdb ∧
      ({ u.complete tag st d with fdb := s.fdb, cx := s.cx, host := s.host } : State) = s := by
  obtain ⟨hans, hleft⟩ := answered_beside hs (u := u) (op := op) (State.cx_of_table hu) st d
  refine ⟨hans, State.complete_fdb u tag st d, ?_⟩
  exact (congrArg (fun x : State => { x with fdb := s.fdb }) hleft).trans
    (congrArg (fun x : State => { x with cx := s.cx, host := s.host }) hu)

/-- The state in which the oldest flush has removed its entries. -/
def State.flushed (s : State) (f : Flush) (rest : List Flush) : State :=
  State.each { s with fdb := { s.fdb with flushes := rest } } f.doomed fun s p => s.removeSlot p s.nextEpoch

theorem State.flushed_leaves {s : State} (hrise : keysRise 0 s.fdb.slots = true) (f : Flush) (rest : List Flush) :
    (∀ q ∈ f.doomed, (s.flushed f rest).slot q = none) ∧
      (∀ q, q ∉ f.doomed → (s.flushed f rest).slot q = s.slot q) ∧
      (s.flushed f rest).fdb.flushes = rest ∧ (s.flushed f rest).fdb.epoch = s.fdb.epoch ∧
      (s.flushed f rest).fdb.waiting = s.fdb.waiting ∧ ({ s.flushed f rest with fdb := s.fdb } : State) = s := by
  obtain ⟨hin, hout, hflushes, hepoch, hwait, hleft⟩ :=
    State.removeSlots_leaves { s with fdb := { s.fdb with flushes := rest } } f.doomed hrise
  exact ⟨hin, hout, hflushes, hepoch, hwait, congrArg (fun x : State => { x with fdb := s.fdb }) hleft⟩

theorem exec_flushRemovalDone {s : State} {tag : CmdTag} {f : Flush} {rest : List Flush} (hwait : s.fdb.waiting = [])
    (hblock : s.advanceBlocked = false) (hrise : keysRise 0 s.fdb.slots = true) (hflushes : s.fdb.flushes = f :: rest)
    (htag : f.tag = some tag) (hquiet : f.notify = false) : exec .flushRemovalDone s = .next
      ((s.flushed f rest).advanced.complete tag St.ok [(4, f.removed), (4, seqNext (s.flushed f rest).fdb.epoch)]) := by
  obtain ⟨-, -, -, hepoch, hwait', hleft⟩ := s.flushed_leaves hrise f rest
  show execFlushRemovalDone s = _
  rw [execFlushRemovalDone, hflushes]
  refine congrArg Host.Outcome.next ((State.askAdvance_now (s := s.flushed f rest) (hwait'.trans hwait)
    ((State.advanceBlocked_of_table hleft hepoch).trans hblock) hquiet).trans ?_)
  rw [htag]
  rfl

/-- Settles O49, a clause per command: a change asks for one advance of the epoch, and none waits before it. -/
theorem forwardingTableCommands : Obligations.ForwardingTableCommands := by
  unfold Obligations.ForwardingTableCommands
  intro s tag mac fid pos n cursor out m p w0 w1 e old f of_ flag fl rest hs hpwr hlearn hbad hwait hblock hrise
  refine ⟨fun hfind => ?_, fun hfind => ?_, fun hpos hmax hkind => ?_, fun hlong => ?_, fun he => ⟨fun hinv => ?_,
    fun hok hcnt => ⟨fun hnone hfree => ?_, fun hnone hfull => ?_, fun hfound hkept hold => ?_⟩⟩, fun hfind hold => ?_,
    fun hm hp hfew hother => ?_, fun hfour hm hp => ?_, fun hflushes htag hquiet => ?_⟩
  · exact ⟨_, exec_fdbSearch_found hs hpwr hlearn hbad tag hfind out, delivered_of_served hs tag 0x1301 out _ _⟩
  · exact ⟨⟨_, exec_fdbSearch_absent hs hpwr hlearn hbad tag hfind out, refused_of_begun hs tag 0x1301 _ _⟩,
      ⟨_, exec_fdbDelete_absent hs hpwr hlearn hbad tag hfind flag, refused_of_begun hs tag 0x1304 _ _⟩⟩
  · obtain ⟨d, hd⟩ := exec_fdbNext_walks hs hpwr hlearn hbad tag hpos hmax hkind cursor out
    exact ⟨_, hd, delivered_of_served hs tag 0x1302 out _ d⟩
  · exact ⟨_, exec_fdbNext_long hs hpwr hlearn hbad tag hlong f cursor out, refused_of_begun hs tag 0x1302 _ _⟩
  · exact ⟨_, exec_fdbInsert_invalid hs hpwr hlearn hbad tag he.symm hinv flag, refused_of_begun hs tag 0x1303 _ _⟩
  · exact ⟨_, exec_fdbInsert_free hs hpwr hlearn hbad tag he.symm hok hcnt hnone hfree flag,
      answered_table hs (op := 0x1303) (u := (s.begin tag 0x1303).putSlot pos e) rfl St.ok _⟩
  · exact ⟨_, exec_fdbInsert_full hs hpwr hlearn hbad tag he.symm hok hcnt hnone hfull flag,
      told_fdbFull hs tag e.mac e.fid 1⟩
  · refine ⟨⟨_, exec_fdbInsert_exists hs hpwr hlearn hbad tag he.symm hok hcnt hfound hkept,
      refused_of_begun hs tag 0x1303 _ _⟩,
      ⟨_, exec_fdbInsert_replaces hs hpwr hlearn hbad tag he.symm hok hcnt hwait hblock hfound hkept hold, ?_⟩⟩
    obtain ⟨hans, hfdb, hleft⟩ := answered_table hs (tag := tag) (op := 0x1303)
      (u := ((s.begin tag 0x1303).replaced pos e).advanced)
      (State.advanced_leaves ((s.begin tag 0x1303).replaced_leaves pos e)) St.ok [(4, pos), (4, seqNext s.fdb.epoch)]
    exact ⟨hans, hfdb.trans (State.advanced_fdb (s := (s.begin tag 0x1303).replaced pos e) hwait), hleft⟩
  · obtain ⟨hslots, hflushes, hepoch, hwait', hleft⟩ :=
      (s.begin tag 0x1304).removeSlot_leaves pos (seqNext s.fdb.epoch)
    obtain ⟨hgone, hother⟩ := State.removeSlot_slot (s := s.begin tag 0x1304) hrise pos (seqNext s.fdb.epoch)
    obtain ⟨hans, hfdb, hleft'⟩ := answered_table hs (tag := tag) (op := 0x1304)
      (u := ((s.begin tag 0x1304).deleted pos fid mac).advanced) (State.advanced_leaves hleft) St.ok
      [(4, seqNext ((s.begin tag 0x1304).deleted pos fid mac).fdb.epoch)]
    refine ⟨_, exec_fdbDelete_found hs hpwr hlearn hbad tag hwait hblock hfind, hans, ?_, fun q hq => ?_, ?_, ?_, hleft'⟩
    · rw [State.slot, hfdb]; exact hgone
    · rw [State.slot, hfdb]; exact hother q hq
    · rw [hfdb]; exact congrArg seqNext hepoch
    · rw [hfdb]; exact State.removeSlot_fids (s.begin tag 0x1304) pos (seqNext s.fdb.epoch)
  · refine ⟨_, exec_fdbFlushByPort_opens hs hpwr hlearn hbad tag hm hp hfew hother of_ flag, ?_, rfl, ?_, rfl, rfl⟩
    · intro q x hslot hkind hxm hxp hfid hstatic
      exact State.doomed_of_flushing hslot hkind hxm hxp hfid hstatic rfl
    · exact List.length_append
  · exact ⟨_, exec_fdbFlushByPort_busy hs hpwr hlearn hbad tag hm hp hfour of_ flag, refused_of_begun hs tag 0x1305 _ _⟩
  · obtain ⟨hin, hout, hflushes', hepoch, hwait', hleft⟩ := s.flushed_leaves hrise fl rest
    refine ⟨_, exec_flushRemovalDone hwait hblock hrise hflushes htag hquiet, ?_⟩
    obtain ⟨-, -, hlen⟩ := hs
    have hcx : (s.flushed fl rest).advanced.cx = s.cx := State.cx_of_table hleft
    have hans := State.completeWith_answered (s := (s.flushed fl rest).advanced) (tag := tag) (by rw [hcx]; omega) St.ok
      [(4, fl.removed), (4, seqNext (s.flushed fl rest).fdb.epoch)] false
    have hfdb := State.complete_fdb (s.flushed fl rest).advanced tag St.ok
      [(4, fl.removed), (4, seqNext (s.flushed fl rest).fdb.epoch)]
    have hbeside := State.complete_beside (s.flushed fl rest).advanced tag St.ok
      [(4, fl.removed), (4, seqNext (s.flushed fl rest).fdb.epoch)] s.cx s.host
    obtain ⟨hdev, hwin⟩ := hans
    refine ⟨⟨hdev.trans (by rw [State.ring, hcx, State.ring]), hwin⟩, ?_, fun q hq => ?_, fun q hq => ?_, ?_, ?_⟩
    · rw [hfdb]; exact hflushes'
    · rw [State.slot, hfdb]; exact hin q hq
    · rw [State.slot, hfdb]; exact hout q hq
    · rw [hfdb]; exact congrArg seqNext hepoch
    · exact (congrArg (fun x : State => { x with fdb := s.fdb }) hbeside).trans
        (congrArg (fun x : State => { x with cx := s.cx, host := s.host }) hleft)

end Sys2Proof.Machine
end

section
/-!
Learning, ageing and the epochs of the forwarding table (R307, R310, R311, R313 to R316).
-/

namespace Sys2Proof.Machine

open Sys2Proof.Stated

/-! ### Slots written by the engine -/

theorem State.putSlot_slot (s : State) (pos : Nat) (e : FdbEntry) :
    (s.putSlot pos e).slot pos = some e ∧ ∀ q, q ≠ pos → (s.putSlot pos e).slot q = s.slot q :=
  ⟨tget?_tput_same s.fdb.slots pos e, fun _ hq => tget?_tput_ne s.fdb.slots hq e⟩

theorem State.fdbNotify_off {s t : State} (h : s.flag Reg.FDB_CTL_NOTIFY = false) (hregs : t.regs = s.regs) (code : Nat)
    (items : List (Nat × Nat)) : t.fdbNotify code items = t := by
  have hflag : t.flag Reg.FDB_CTL_NOTIFY = false := (State.flag_congr hregs _).trans h
  rw [State.fdbNotify, if_pos hflag]

section NoFlush

variable {s : State} (hflushes : s.fdb.flushes = [])
include hflushes

theorem State.spare_idle (pos : Nat) : s.spare pos = s := by
  rw [State.spare, hflushes, List.map_nil, ← hflushes]

theorem State.find_eq_findAny (fid mac : Nat) : s.find fid mac = s.findAny fid mac := by
  have hdoomed (pos : Nat) : s.doomed pos = false := by rw [State.doomed, hflushes, List.any_nil]
  rw [State.find]
  cases s.findAny fid mac with
  | none => rfl
  | some x => rw [Option.filter_some, if_pos (by rw [hdoomed]; rfl)]

/-! ### Learning (R307) -/

section Learn

variable (hbar : s.fdb.barriers = []) {r : LearnReq}
include hbar

omit hflushes in
theorem State.learnStale_idle (old : Option FdbEntry) : s.learnStale r old = false := by
  rw [State.learnStale, hbar, List.any_nil]

theorem State.learnOne_static {pos : Nat} {e : FdbEntry} (hfound : s.findAny r.fid r.mac = some (pos, e))
    (hstatic : e.static = true) : s.learnOne r = s := by
  rw [State.learnOne, State.learnStale_idle hbar, State.find_eq_findAny hflushes, hfound]
  dsimp only
  rw [if_neg Bool.false_ne_true, if_pos hstatic]

variable (hquiet : s.flag Reg.FDB_CTL_NOTIFY = false) (hroom : s.atLimit r.port = false)
include hquiet hroom

theorem State.learnOne_moved {pos : Nat} {e : FdbEntry} (hfound : s.findAny r.fid r.mac = some (pos, e))
    (hstatic : e.static = false) (hport : e.dstPort ≠ r.port) : s.learnOne r = (s.putSlot pos { e with
      kind := 0, dstModule := s.moduleId, dstPort := r.port, hit := true, ageMark := false }).hwChange := by
  rw [State.learnOne, State.learnStale_idle hbar, State.find_eq_findAny hflushes, hfound]
  dsimp only
  rw [if_neg Bool.false_ne_true, if_neg (by rw [hstatic]; exact Bool.false_ne_true), if_neg (fun h => hport h.2.1),
    if_neg (by rw [hroom]; exact Bool.false_ne_true)]
  refine State.fdbNotify_off hquiet ?_ _ _
  rfl

theorem State.learnOne_new {pos : Nat} (hnone : s.findAny r.fid r.mac = none) (hfree : s.freeSlot r.fid r.mac = some pos) :
    s.learnOne r = s.putSlot pos { mac := r.mac, fid := r.fid, valid := true, hit := true
                                   dstModule := s.moduleId, dstPort := r.port } := by
  rw [State.learnOne, State.learnStale_idle hbar, State.find_eq_findAny hflushes, hnone]
  dsimp only
  rw [if_neg Bool.false_ne_true, if_neg (by rw [hroom]; exact Bool.false_ne_true), hfree]
  dsimp only [Option.map_none, Option.none_or]
  rw [State.spare_idle (s := s.putSlot pos _) hflushes]
  refine State.fdbNotify_off hquiet ?_ _ _
  rfl

end Learn

/-- The only request of the queue is handled. -/
theorem State.learnStep_one {r : LearnReq} (hlearn : s.fdb.learn = [r]) {u : State}
    (hu : State.learnOne { s with fdb := { s.fdb with learn := [] } } r = u) (hdone : u.fdb.learn = [])
    (hbar : u.fdb.barriers = []) : s.learnStep = u := by
  have hfind : s.fdb.learn.find? (fun r => !s.learnWaits r) = some r := by
    rw [hlearn, List.find?_cons_of_pos (by rw [State.learnWaits, hflushes]; rfl)]
  have herase : s.fdb.learn.erase r = [] := by rw [hlearn, List.erase_cons_head]
  rw [State.learnStep, hfind]
  dsimp only
  rw [herase, hu, if_pos hdone, ← hbar]

end NoFlush

theorem exec_learnCommit {s : State} (hpwr : s.pwr.state = 0) : exec .learnCommit s = .next s.learnStep := by
  show execLearnCommit s = _
  rw [execLearnCommit, if_neg (by simp [hpwr])]
  rfl

/-! ### Ageing (R310, R311) -/

section Sweep

variable {s : State} (hpwr : s.pwr.state = 0) {pos : Nat} (hlow : 0 < pos) (hhigh : pos < 1052671)
  (hat : s.fdb.sweepPos = pos)
include hpwr hlow hhigh hat

/-- A visit inside a pass ages its slot and goes on to the next. -/
theorem exec_sweeperVisit : exec (.sweeperVisit none) s = .next { s.ageSlot pos with
    fdb := { (s.ageSlot pos).fdb with sweepPos := pos + 1 } } := by
  have hlast : ¬ fdbSlots ≤ pos + 1 := by rw [fdbSlots]; omega
  show execSweeperVisit none s = _
  rw [execSweeperVisit, if_neg (by simp [hpwr])]
  dsimp only
  rw [hat, if_neg (by omega), decide_eq_false hlast]
  rfl

end Sweep

section Age

variable {s : State} {pos : Nat} {e : FdbEntry} (hslot : s.slot pos = some e) (hdyn : e.static = false)
  (hkind : e.kind = 0) (hmod : e.dstModule = s.moduleId) (hsweep : s.fdb.sweepS ≠ 0)
include hslot hdyn hkind hmod hsweep

theorem State.ageSlot_hit (hhit : e.hit = true) :
    s.ageSlot pos = s.putSlot pos { e with hit := false, ageMark := false } := by
  rw [State.ageSlot, hslot]
  dsimp only
  rw [if_neg (by simp [hdyn, hkind, hmod, hsweep]), if_pos hhit]

theorem State.ageSlot_marks (hhit : e.hit = false) (hmark : e.ageMark = false) :
    s.ageSlot pos = s.putSlot pos { e with ageMark := true } := by
  rw [State.ageSlot, hslot]
  dsimp only
  rw [if_neg (by simp [hdyn, hkind, hmod, hsweep]), if_neg (by simp [hhit]), if_pos hmark]

theorem State.ageSlot_removes (hquiet : s.flag Reg.FDB_CTL_NOTIFY = false) (hhit : e.hit = false) (hmark : e.ageMark = true)
    (hcnt : e.counter = 0) : s.ageSlot pos = (s.dropSlot pos).hwChange := by
  rw [State.ageSlot, hslot]
  dsimp only
  rw [if_neg (by simp [hdyn, hkind, hmod, hsweep]), if_neg (by simp [hhit]), if_neg (by simp [hmark]),
    State.removeSlot_plain hslot hcnt]
  refine State.fdbNotify_off hquiet ?_ _ _
  rfl

end Age

/-! ### The tick, the drain and the stall (R313 to R316) -/

/-- The state at a tick, whose next tick stands 1 ms ahead. -/
def State.ticked (s : State) : State :=
  { s.waitClk s.fdb.tickAt with fdb := { s.fdb with tickAt := (s.waitClk s.fdb.tickAt).clk + 1000000 } }

/-- What a tick does with the changes that the hardware has made (R313). -/
def State.tickEnds (s : State) : State :=
  if s.fdb.hwChanged then
    State.askAdvance { s with fdb := { s.fdb with hwChanged := false } } { tag := none, before := [], notify := false }
  else advances (s.fdb.waiting.length + 1) s

theorem State.waitClk_fdb (s : State) (t : Nat) : (s.waitClk t).fdb = s.fdb := rfl
theorem State.waitClk_tm (s : State) (t : Nat) : (s.waitClk t).tm = s.tm := rfl

theorem State.advanced_slots (s : State) : s.advanced.fdb.slots = s.fdb.slots := rfl

theorem State.advanced_eq {s : State} (hwait : s.fdb.waiting = []) :
    s.advanced = { s with fdb := { s.fdb with epoch := seqNext s.fdb.epoch, waitSince := none } } := by
  rw [State.advanced, ← hwait]

section Tick

variable {s : State} (hwait : s.fdb.waiting = [])
include hwait

/-- A tick that finds no advance waiting makes the one that carries the hardware's changes (R313). -/
theorem exec_epochTick (hpwr : s.pwr.state = 0) (hbad : s.fdb.bad = []) (hfree : s.advanceBlocked = false) :
    exec .epochTick s = .next { s.ticked with
      fdb := { s.ticked.fdb with
        hwChanged := false, waitSince := none
        epoch := if s.fdb.hwChanged then seqNext s.fdb.epoch else s.fdb.epoch } } := by
  have hrun : exec .epochTick s = .next s.ticked.tickEnds := by
    show execEpochTick s = _
    rw [execEpochTick, if_neg (by simp [hpwr])]
    show Host.Outcome.next (s.ticked.each s.ticked.fdb.bad fun s p => (s.removeSlot p s.nextEpoch).hwChange).tickEnds = _
    rw [show s.ticked.fdb.bad = [] from hbad, State.each_nil]
  rw [hrun, State.tickEnds, show s.ticked.fdb.hwChanged = s.fdb.hwChanged from rfl]
  cases hchange : s.fdb.hwChanged with
  | true =>
    rw [if_pos rfl, if_pos rfl, State.askAdvance_now (s := { s.ticked with fdb := { s.ticked.fdb with hwChanged := false } })
      hwait hfree rfl, State.advanced_eq (s := { s.ticked with fdb := { s.ticked.fdb with hwChanged := false } }) hwait]
    rfl
  | false =>
    rw [if_neg Bool.false_ne_true, if_neg Bool.false_ne_true, show s.ticked.fdb.waiting = [] from hwait,
      advances_idle (show s.ticked.fdb.waiting = [] from hwait), ← hchange]
    rfl

/-- Where no advance waits, a drain reports the changes that have drained and frees their pairs. -/
theorem exec_changeDrained : exec .changeDrained s = .next (State.each
    { s with fdb := { s.fdb with
      waitSince := none, notify := s.fdb.notify.filter (fun e => !s.drained e)
      retiring := s.fdb.retiring.filter (fun r => s.retiringPair r.1) } }
    (s.fdb.notify.filter s.drained) fun s e => s.raise 0x1306 [(4, e)]) := by
  show execChangeDrained s = _
  rw [execChangeDrained, hwait, advances_idle hwait]
  rfl

end Tick

/-- Events one after the other move nothing but the events. -/
theorem State.each_raise_keeps (s : State) (l : List Nat) (code : Nat) (items : Nat → List (Nat × Nat)) :
    (s.each l fun s e => s.raise code (items e)).fdb = s.fdb ∧
      EventsOnly s (s.each l fun s e => s.raise code (items e)) := by
  have h : (s.each l fun s e => s.raise code (items e)).lessEvents = s.lessEvents :=
    State.each_induction (P := fun u => u.lessEvents = s.lessEvents) rfl fun u e _ hu =>
      (u.raise_lessEvents code (items e)).trans hu
  have hfdb := congrArg State.fdb h
  exact ⟨hfdb, eventsOnly_of_lessEvents h⟩

/-- A pair that is retiring is named by no entry. -/
theorem State.pairNamed_of_retiringPair {s : State} {j : Nat} (h : s.retiringPair j = true) : s.pairNamed j = false := by
  rw [State.retiringPair] at h
  split at h
  · simpa using (Bool.and_eq_true_iff.mp h).1
  · exact absurd h Bool.false_ne_true

/-! ### A stall (R315) -/

/-- The state in which the frames that block the advance are gone, and their event has been raised. -/
def State.unstalled (s : State) : State :=
  let old := (s.fdb.epoch + 1 + (2 ^ 32 - 65536)) % 2 ^ 32
  let gone := s.tm.frames.filter (fun f => f.inFlight && f.epoch == old)
  (s.each gone (fun s f => s.discard f 50 50)).raise 0x1307 [(4, old), (4, gone.length)]

/-- The advance that a stall makes whatever the buffer holds. -/
def State.forced (s : State) : State :=
  match s.fdb.waiting with
  | [] => { s with fdb := { s.fdb with waitSince := none } }
  | w :: rest =>
    let e := seqNext s.fdb.epoch
    let s4 := { s with fdb := { s.fdb with epoch := e, waiting := rest, waitSince := none } }
    let s5 := s4.tableDone w.tag w.before e w.notify
    advances (s5.fdb.waiting.length + 1) s5.pressure

/-- What a stall does when its second is over. -/
def State.stallEnds (s : State) : State :=
  if s.advanceBlocked = false then advances (s.fdb.waiting.length + 1) s else s.unstalled.forced

theorem exec_epochStall {s : State} {a : Nat} (hsince : s.fdb.waitSince = some a) :
    exec .epochStall s = .next (s.waitClk (a + 1000000000)).stallEnds := by
  show execEpochStall s = _
  rw [execEpochStall, hsince]
  rfl

theorem State.lessEgress_keeps {s t : State} (h : t.lessEgress = s.lessEgress) : t.fdb = s.fdb ∧ t.clk = s.clk := by
  have hfdb := congrArg State.fdb h
  have hclk := congrArg State.clk h
  exact ⟨hfdb, hclk⟩

theorem State.unstalled_keeps (s : State) : s.unstalled.fdb = s.fdb ∧ s.unstalled.clk = s.clk := by
  refine State.lessEgress_keeps ?_
  rw [State.unstalled, State.raise_lessEgress]
  exact State.each_lessEgress _ _ fun u f => u.discard_lessEgress f 50 50

section Stall

variable {s : State} {w : EpochWait} (hwait : s.fdb.waiting = [w]) (htag : w.tag = none) (hquiet : w.notify = false)
include hwait htag hquiet

theorem State.forced_one : s.forced = { s.advanced.pressure with fdb := { s.advanced.pressure.fdb with waitSince := none } } := by
  have hpress : s.advanced.pressure.fdb.waiting = [] :=
    congrArg FdbSt.waiting (State.lessEgress_keeps (State.pressure_lessEgress s.advanced)).1
  rw [State.forced, hwait]
  dsimp only
  rw [htag, hquiet]
  exact advances_idle hpress 0

/-- A stall ends with the advance made and none waiting; without a frame in its way it leaves the buffer alone. -/
theorem State.stallEnds_advances : s.stallEnds.clk = s.clk ∧ s.stallEnds.fdb.epoch = seqNext s.fdb.epoch ∧
    s.stallEnds.fdb.waiting = [] ∧ s.stallEnds.fdb.waitSince = none ∧ s.stallEnds.fdb.slots = s.fdb.slots ∧
    (s.advanceBlocked = false → s.stallEnds.tm = s.tm) := by
  rw [State.stallEnds]
  by_cases hfree : s.advanceBlocked = false
  · have hone := advances_one hwait hfree hquiet 0
    rw [htag] at hone
    rw [if_pos hfree, hwait, show ([w] : List EpochWait).length + 1 = 0 + 2 from rfl, hone]
    exact ⟨rfl, rfl, rfl, rfl, rfl, fun _ => rfl⟩
  · obtain ⟨hfdb, hclk⟩ := s.unstalled_keeps
    obtain ⟨hfdb', hclk'⟩ := State.lessEgress_keeps (State.pressure_lessEgress s.unstalled.advanced)
    rw [if_neg hfree, State.forced_one (s := s.unstalled) (by rw [hfdb]; exact hwait) htag hquiet]
    refine ⟨hclk'.trans hclk, ?_, ?_, rfl, ?_, fun h => absurd h hfree⟩
    · show s.unstalled.advanced.pressure.fdb.epoch = _
      rw [hfdb']
      show seqNext s.unstalled.fdb.epoch = _
      rw [hfdb]
    · exact congrArg FdbSt.waiting hfdb'
    · show s.unstalled.advanced.pressure.fdb.slots = _
      rw [hfdb', State.advanced_slots, hfdb]

end Stall

/-- Settles O50: the engine's own work, a lemma for each request, visit and event. -/
theorem learningAgeingAndEpochs : Obligations.LearningAgeingAndEpochs := by
  unfold Obligations.LearningAgeingAndEpochs
  intro s r pos a e w hpwr hbad hflushes hquiet hrise
  refine ⟨fun hlearn hbar => ⟨fun hnone hroom hfree => ?_, fun hfound hdyn hport hroom => ?_, fun hfound hstatic => ?_⟩,
    fun hlow hhigh hat hslot hdyn hkind hmod hsweep => ⟨fun hhit => ?_, fun hhit hmark => ?_, fun hhit hmark hcnt => ?_⟩,
    fun hwait hfree => ?_, fun hwait => ⟨_, exec_changeDrained hwait, ?_⟩, fun hsince hwait htag hquiet' => ?_⟩
  · have hnew := State.learnOne_new (s := { s with fdb := { s.fdb with learn := [] } }) hflushes hbar hquiet hroom hnone hfree
    refine ⟨_, exec_learnCommit hpwr, ?_⟩
    rw [State.learnStep_one hflushes hlearn hnew rfl hbar]
    exact ⟨tget?_tput_same s.fdb.slots pos _, fun q hq => tget?_tput_ne s.fdb.slots hq _, rfl, rfl⟩
  · have hmoved := State.learnOne_moved (s := { s with fdb := { s.fdb with learn := [] } }) hflushes hbar hquiet hroom hfound
      hdyn hport
    refine ⟨_, exec_learnCommit hpwr, ?_⟩
    rw [State.learnStep_one hflushes hlearn hmoved rfl hbar]
    exact ⟨tget?_tput_same s.fdb.slots pos _, rfl, rfl, rfl⟩
  · have hkept := State.learnOne_static (s := { s with fdb := { s.fdb with learn := [] } }) hflushes hbar hfound hstatic
    refine ⟨_, exec_learnCommit hpwr, ?_⟩
    rw [State.learnStep_one hflushes hlearn hkept rfl hbar]
    exact ⟨rfl, rfl⟩
  · rw [exec_sweeperVisit hpwr hlow hhigh hat, State.ageSlot_hit hslot hdyn hkind hmod hsweep hhit]
    rfl
  · rw [exec_sweeperVisit hpwr hlow hhigh hat, State.ageSlot_marks hslot hdyn hkind hmod hsweep hhit hmark]
    rfl
  · refine ⟨_, exec_sweeperVisit hpwr hlow hhigh hat, ?_⟩
    rw [State.ageSlot_removes hslot hdyn hkind hmod hsweep hquiet hhit hmark hcnt]
    exact ⟨tget?_terase_same hrise pos, fun q hq => tget?_terase_ne _ hq, rfl, rfl, rfl⟩
  · exact ⟨_, exec_epochTick hwait hpwr hbad hfree, s.waitClk_clk _, rfl, rfl⟩
  · generalize hu : ({ s with fdb := { s.fdb with
      waitSince := none, notify := s.fdb.notify.filter (fun e => !s.drained e)
      retiring := s.fdb.retiring.filter (fun r => s.retiringPair r.1) } } : State) = u
    obtain ⟨hfdb, hevents⟩ := u.each_raise_keeps (s.fdb.notify.filter s.drained) 0x1306 fun e => [(4, e)]
    rw [hfdb, ← hu]
    refine ⟨rfl, fun x hx => ?_, rfl, rfl, ?_⟩
    · obtain ⟨hin, hpair⟩ := List.mem_filter.mp hx
      exact ⟨hin, State.pairNamed_of_retiringPair hpair⟩
    · exact hu ▸ hevents
  · have hrun := exec_epochStall hsince
    have hclk := s.waitClk_clk (a + 1000000000)
    have hfdb := s.waitClk_fdb (a + 1000000000)
    have htm := s.waitClk_tm (a + 1000000000)
    generalize s.waitClk (a + 1000000000) = u at hrun hclk hfdb htm
    obtain ⟨hclk', hepoch, hnone, hsettled, hslots, htm'⟩ :=
      State.stallEnds_advances (s := u) (by rw [hfdb]; exact hwait) htag hquiet'
    rw [hfdb] at hepoch hslots
    refine ⟨_, hrun, hclk'.trans hclk, hepoch, hnone, hsettled, hslots, fun hfree => (htm' ?_).trans htm⟩
    rwa [State.advanceBlocked, State.flightEpochs, hfdb, htm]

end Sys2Proof.Machine
end

section
/-!
Counter snapshots and the log (R367, R374, R375).
-/

namespace Sys2Proof.Machine

open Sys2Proof.Stated

/-! ### Answers of commands whose work goes beyond the exchange -/

/-- A command accepted by a module with its rings, whose work left the exchange alone, is answered by its completion. -/
theorem answered_of_rings {s u : State} {tag : CmdTag} {op : Nat} (hlen : s.cx.rings.length = 16)
    (hu : u.cx = (s.begin tag op).cx) (st : Nat) (d : List (Nat × Nat)) (w : Bool) :
    Answered s (u.completeWith tag st d w) tag st := by
  have hr : tag.ring < s.cx.rings.length := by omega
  have hrings : u.cx.rings = (s.begin tag op).cx.rings := congrArg CxSt.rings hu
  have hru : tag.ring < u.cx.rings.length := by rw [hrings]; exact hr.trans_eq (State.setRing_rings_length _ _ _).symm
  obtain ⟨hdev, hwin⟩ := State.completeWith_answered hru st d w
  rw [State.ring_congr hrings, State.begin_devSeq hr] at hdev
  exact ⟨hdev, hwin⟩

theorem refused_of_rings {s : State} (hlen : s.cx.rings.length = 16) (tag : CmdTag) (op st : Nat) (d : List (Nat × Nat)) :
    Refused s ((s.begin tag op).complete tag st d) tag st :=
  ⟨answered_of_rings hlen rfl st d false, exchangeOnly_completeWith (State.begin_lessExchange s tag op) tag st d false⟩

/-- Data written to host memory by an accepted command, then its completion entry, stand there after the answer. -/
theorem delivered_of_written {s v : State} {tag : CmdTag} {op addr : Nat} {data : Bytes} (hlen : s.cx.rings.length = 16)
    (hcx : v.cx = (s.begin tag op).cx) (hregs : v.regs = s.regs)
    (hwritten : s.writable tag = true → v.host = putBytes s.host addr data) (st : Nat) (d : List (Nat × Nat)) (w : Bool) :
    Delivered s (v.completeWith tag st d w) tag addr data := by
  intro hwritable hres hheld htakes
  have hr : tag.ring < s.cx.rings.length := by omega
  have hrings : v.cx.rings = (s.begin tag op).cx.rings := congrArg CxSt.rings hcx
  have hrv : tag.ring < v.cx.rings.length := by rw [hrings]; exact hr.trans_eq (State.setRing_rings_length _ _ _).symm
  have hring : v.ring tag.ring = { s.ring tag.ring with
      running := (s.ring tag.ring).running ++ [{ tag := tag, opcode := op, since := s.clk, toldAt := s.clk }] } :=
    (State.ring_congr hrings _).trans (State.ring_setRing_same hr _)
  have hdev : (v.ring tag.ring).devSeq = (s.ring tag.ring).devSeq := by rw [hring]
  have hdma : v.dmaOk = s.dmaOk := by rw [State.dmaOk, State.dmaOk, hcx]; rfl
  have htakes' : v.ringTakes tag.ring (seqNext (v.ring tag.ring).devSeq) = true := by
    rw [hdev, State.ringTakes_congr hregs hdma (by rw [hring])]
    exact htakes
  obtain ⟨u, flags, x, -, hu, -, -, heq⟩ := v.completeWith_cases tag st d w
  obtain ⟨entry, hentry, hhost⟩ :=
    State.postCompletion_host hrv (by rw [hring]; exact hheld) htakes' st flags (packItems d [])
  refine ⟨entry, hentry, ?_⟩
  rw [heq, hu hres]
  refine hhost.trans ?_
  rw [hdev, hwritten hwritable, State.cqPlace_congr hregs]
  rfl

theorem State.begin_outData_host {s : State} {tag : CmdTag} {op addr : Nat} {data : Bytes} (h : s.writable tag = true) :
    ((s.begin tag op).outData tag addr data).host = putBytes s.host addr data := by
  rw [State.outData, if_pos (show (s.begin tag op).writable tag = true from h)]
  rfl

/-! ### Snapshots (R367) -/

/-- The counters after a CLEAR of some ranges. -/
def cleared (cnt : Tbl Nat) (l : List (Nat × Nat)) : Tbl Nat :=
  cnt.filter (fun e => !l.any (fun r => decide (r.1 ≤ e.1 ∧ e.1 < r.1 + 16 * r.2)))

/-- A filter by key leaves the entries of the keys it passes, and no other. -/
theorem tget?_filter_key {α : Type} (t : Tbl α) (P : Nat → Bool) (a : Nat) :
    tget? (t.filter fun e => P e.1) a = if P a = true then tget? t a else none := by
  induction t with
  | nil => simp [tget?]
  | cons x rest ih =>
    obtain ⟨j, v⟩ := x
    rw [List.filter_cons]
    by_cases hj : j = a
    · subst hj
      by_cases hP : P j = true
      · rw [if_pos hP, if_pos hP, tget?, tget?, if_pos rfl, if_pos rfl]
      · rw [if_neg hP, ih, if_neg hP, if_neg hP]
    · rw [tget?, if_neg hj, ← ih]
      split
      · rw [tget?, if_neg hj]
      · rfl

theorem tget_cleared (cnt : Tbl Nat) (l : List (Nat × Nat)) (a : Nat) :
    tget 0 (cleared cnt l) a = if ∃ r ∈ l, r.1 ≤ a ∧ a < r.1 + 16 * r.2 then 0 else tget 0 cnt a := by
  rw [tget, cleared, tget?_filter_key cnt (fun k => !l.any fun r => decide (r.1 ≤ k ∧ k < r.1 + 16 * r.2)) a]
  have hiff : (!l.any fun r => decide (r.1 ≤ a ∧ a < r.1 + 16 * r.2)) = true ↔ ¬ ∃ r ∈ l, r.1 ≤ a ∧ a < r.1 + 16 * r.2 := by
    simp
  by_cases hin : ∃ r ∈ l, r.1 ≤ a ∧ a < r.1 + 16 * r.2
  · rw [if_pos hin, if_neg (fun h => hiff.mp h hin)]
    rfl
  · rw [if_neg hin, if_pos (hiff.mpr hin)]
    rfl

section Commands

variable {s : State} (hs : Serves s) (hpwr : s.pwr.state ≤ 3) (tag : CmdTag) {n : Nat}
include hs hpwr

theorem exec_cntSnapshot_long (hbad : n = 0 ∨ 8 < n) (b : Option Bytes) (clear : Bool) (out : Nat) :
    exec (.cntSnapshot tag b n clear out) s = .next ((s.begin tag 0x1601).complete tag St.badParam) := by
  show execCntSnapshot tag b n clear out s = _
  rw [execCntSnapshot, State.serve_eq hs, if_neg (by rw [State.begin_pwr]; omega), if_pos hbad]
  rfl

section Ranges

variable {b : Bytes} {l : List (Nat × Nat)} (hl : (List.range n).map (fun i => (leAt b (8 * i) 4, leAt b (8 * i + 4) 4)) = l)
  (hpos : 1 ≤ n) (hmax : n ≤ 8) (halign : ∀ r ∈ l, r.1 % 16 = 0) (hsum : (l.map Prod.snd).sum ≤ 262144)
  (clear : Bool) (out : Nat)
include hl hpos hmax halign hsum

/-- A list of aligned ranges, not too long, meets the checks of its regions and of the queue. -/
theorem exec_cntSnapshot : exec (.cntSnapshot tag (some b) n clear out) s = .next (
    if l.any (fun r => !rangeInRegion r) then (s.begin tag 0x1601).complete tag St.cntRange
    else if s.snapsOpen.length ≥ 4 then (s.begin tag 0x1601).complete tag St.busy
    else (s.begin tag 0x1601).snapshot tag l clear out) := by
  have halign' : ¬ l.any (fun r => r.1 % 16 != 0) = true := by simpa using halign
  have hsum' : ¬ (l.map Prod.snd).foldl (· + ·) 0 > 262144 := by rw [← List.sum_eq_foldl]; omega
  show execCntSnapshot tag (some b) n clear out s = _
  rw [execCntSnapshot, State.serve_eq hs, if_neg (by rw [State.begin_pwr]; omega), if_neg (by omega)]
  dsimp only
  rw [hl, if_neg (not_or.mpr ⟨halign', hsum'⟩)]
  rfl

end Ranges

end Commands

/-- The state that a snapshot completes in (R367). -/
def State.snapped (s : State) (tag : CmdTag) (l : List (Nat × Nat)) (clear : Bool) (out : Nat) : State :=
  let a := rangeAddrs l
  let s1 := s.outData tag out (a.flatMap (fun x => padTo 16 (leBytes 9 (s.cntOf x))))
  { s1 with obs := { s1.obs with
    cnt := if clear then cleared s1.obs.cnt l else s1.obs.cnt
    snaps := s1.snapsOpen ++ [s1.clk + 1000000 + 100 * a.length] } }

theorem State.snapshot_eq (s : State) (tag : CmdTag) (l : List (Nat × Nat)) (clear : Bool) (out : Nat) :
    s.snapshot tag l clear out = (s.snapped tag l clear out).completeWith tag St.ok [(8, toWord s.time.now)] true := rfl

theorem State.snapped_cnt (s : State) (tag : CmdTag) (l : List (Nat × Nat)) (clear : Bool) (out : Nat) :
    (s.snapped tag l clear out).obs.cnt = if clear then cleared s.obs.cnt l else s.obs.cnt := by
  have hobs := s.outData_obs tag out ((rangeAddrs l).flatMap (fun x => padTo 16 (leBytes 9 (s.cntOf x))))
  rw [State.snapped]
  dsimp only
  rw [hobs]

/-- A snapshot writes to the host, and to the counters; it leaves the rest. -/
theorem State.snapped_leaves (s : State) (tag : CmdTag) (l : List (Nat × Nat)) (clear : Bool) (out : Nat) :
    (s.snapped tag l clear out).cx = s.cx ∧ (s.snapped tag l clear out).regs = s.regs ∧
      ({ s.snapped tag l clear out with obs := s.obs, cx := s.cx, host := s.host } : State) = s := by
  rw [State.snapped, State.outData]
  split <;> exact ⟨rfl, rfl, rfl⟩

theorem State.snapped_host {s : State} {tag : CmdTag} (h : s.writable tag = true) (l : List (Nat × Nat)) (clear : Bool)
    (out : Nat) : (s.snapped tag l clear out).host = putBytes s.host out
      (l.flatMap fun r => (List.range r.2).flatMap fun i => padTo 16 (leBytes 9 (s.cntOf (r.1 + 16 * i)))) := by
  have hdata : (rangeAddrs l).flatMap (fun x => padTo 16 (leBytes 9 (s.cntOf x))) =
      l.flatMap fun r => (List.range r.2).flatMap fun i => padTo 16 (leBytes 9 (s.cntOf (r.1 + 16 * i))) := by
    rw [rangeAddrs, List.flatMap_assoc]
    simp only [List.flatMap_map]
  rw [State.snapped, hdata]
  dsimp only
  rw [State.outData, if_pos h]
  rfl

/-- What is seen after a snapshot. -/
theorem snapshot_answers {s : State} (hs : Serves s) (tag : CmdTag) (l : List (Nat × Nat)) (clear : Bool) (out : Nat) :
    Answered s ((s.begin tag 0x1601).snapshot tag l clear out) tag St.ok ∧
      Delivered s ((s.begin tag 0x1601).snapshot tag l clear out) tag out
        (l.flatMap fun r => (List.range r.2).flatMap fun i => padTo 16 (leBytes 9 (s.cntOf (r.1 + 16 * i)))) ∧
      (∀ a, ((s.begin tag 0x1601).snapshot tag l clear out).cntOf a =
        if clear = true ∧ (∃ r ∈ l, r.1 ≤ a ∧ a < r.1 + 16 * r.2) then 0 else s.cntOf a) ∧
      ({ (s.begin tag 0x1601).snapshot tag l clear out with obs := s.obs, cx := s.cx, host := s.host } : State) = s := by
  obtain ⟨hcx, hregs, hleft⟩ := (s.begin tag 0x1601).snapped_leaves tag l clear out
  have hcnt := (s.begin tag 0x1601).snapped_cnt tag l clear out
  have hhost := fun h : s.writable tag = true => State.snapped_host (s := s.begin tag 0x1601) h l clear out
  rw [State.snapshot_eq]
  generalize (s.begin tag 0x1601).snapped tag l clear out = v at *
  have hobs := State.completeWith_obs v tag St.ok [(8, toWord (s.begin tag 0x1601).time.now)] true
  have hbeside := State.completeWith_lessExchange v tag St.ok [(8, toWord (s.begin tag 0x1601).time.now)] true
  obtain ⟨-, -, hlen⟩ := hs
  refine ⟨answered_of_rings hlen hcx _ _ _, delivered_of_written hlen hcx hregs hhost _ _ _, fun a => ?_, ?_⟩
  · rw [State.cntOf, hobs, hcnt]
    cases clear with
    | true =>
      rw [if_pos rfl, tget_cleared]
      simp only [true_and]
      rfl
    | false => simp only [Bool.false_eq_true, false_and, if_false]; rfl
  · exact (congrArg (fun x : State => { x with obs := s.obs }) (State.beside_of_lessExchange hbeside s.cx s.host)).trans
      (congrArg (fun x : State => { x with obs := s.obs, cx := s.cx, host := s.host }) hleft)

/-! ### The log (R374, R375) -/

section Log

variable (s : State) (tag : CmdTag) (first out : Nat) {n : Nat}

theorem exec_readLog_bad (hbad : n = 0 ∨ 4096 < n) :
    exec (.readLog tag first n out) s = .next ((s.begin tag 0x0009).complete tag St.badParam) := by
  show execReadLog tag first n out s = _
  rw [execReadLog, State.serve_of_boot s tag (by decide), if_pos hbad]
  rfl

theorem exec_readLog (hpos : 1 ≤ n) (hmax : n ≤ 4096) : ∃ d w, exec (.readLog tag first n out) s = .next
    (((s.begin tag 0x0009).outData tag out
      (((s.retained.filter fun r => !newer 32 first r.seq).take n).flatMap EvtRec.entry)).completeWith tag St.ok d w) := by
  show ∃ d w, execReadLog tag first n out s = _
  rw [execReadLog, State.serve_of_boot s tag (by decide), if_neg (by omega)]
  exact ⟨_, _, rfl⟩

end Log

/-- The state at a tick of the log, whose next tick stands 1 s ahead. -/
def State.logTicked (s : State) : State :=
  { s.waitClk s.obs.tickAt with obs := { s.obs with tickAt := (s.waitClk s.obs.tickAt).clk + 1000000000 } }

theorem exec_logTick (s : State) : exec .logTick s = .next (
    if s.obs.staged = [] ∨ s.nvm.jobs.any isLogJob then s.logTicked
    else s.logTicked.flashJob (.logPage (s.obs.staged.take 7))) := rfl

theorem State.logTicked_leaves (s : State) : s.logTicked.clk = max s.clk s.obs.tickAt ∧
    s.logTicked.obs = { s.obs with tickAt := s.logTicked.clk + 1000000000 } ∧ s.logTicked.nvm = s.nvm ∧
    TimeOnly s { s.logTicked with obs := s.obs, nvm := s.nvm } :=
  ⟨s.waitClk_clk s.obs.tickAt, rfl, rfl, rfl⟩

/-- Settles O51: a snapshot by its one outcome per check, the log by what it retains and stages. -/
theorem snapshotsAndLog : Obligations.SnapshotsAndLog := by
  unfold Obligations.SnapshotsAndLog
  intro s tag b n first out clear l hl
  refine ⟨fun hs hpwr hpos hmax halign hsum => ?_,
    fun hs hpwr hbad => ⟨_, exec_cntSnapshot_long hs hpwr tag hbad (some b) clear out, refused_of_begun hs tag 0x1601 _ _⟩,
    fun hlen => ⟨fun hpos hmax => ?_, fun hbad => ⟨_, exec_readLog_bad s tag first out hbad, refused_of_rings hlen tag 9 _ _⟩⟩,
    ?_⟩
  · have hrun := exec_cntSnapshot hs hpwr tag hl.symm hpos hmax halign hsum clear out
    have hno (hin : ∀ r ∈ l, rangeInRegion r = true) : ¬ l.any (fun r => !rangeInRegion r) = true := by simpa using hin
    refine ⟨fun hin hfew => ?_, fun hout => ?_, fun hin hfull => ?_⟩
    · rw [if_neg (hno hin), if_neg hfew.not_ge] at hrun
      exact ⟨_, hrun, snapshot_answers hs tag l clear out⟩
    · rw [if_pos (by simpa using hout)] at hrun
      exact ⟨_, hrun, refused_of_begun hs tag 0x1601 _ _⟩
    · rw [if_neg (hno hin), if_pos hfull] at hrun
      exact ⟨_, hrun, refused_of_begun hs tag 0x1601 _ _⟩
  · obtain ⟨d, w, hrun⟩ := exec_readLog s tag first out hpos hmax
    exact ⟨_, hrun, answered_of_rings hlen (State.outData_cx _ _ _ _) _ _ _,
      exchangeOnly_completeWith ((State.outData_lessExchange _ _ _ _).trans (State.begin_lessExchange _ _ _)) _ _ _ _,
      delivered_of_written hlen (State.outData_cx _ _ _ _) (by rw [State.outData_regs, State.begin_regs])
        State.begin_outData_host _ _ _⟩
  · refine ⟨_, exec_logTick s, ?_⟩
    obtain ⟨hclk, hobs, hnvm, htime⟩ := s.logTicked_leaves
    generalize s.logTicked = u at hclk hobs hnvm htime ⊢
    split
    next hidle => exact ⟨hclk, hobs, fun _ => hnvm, fun hne hjobs => by simp [hne, hjobs] at hidle, htime⟩
    next hbusy =>
      have hjob : (u.flashJob (.logPage (s.obs.staged.take 7))).nvm =
          { s.nvm with jobs := s.nvm.jobs ++ [.logPage (s.obs.staged.take 7)] } := by rw [State.flashJob, hnvm]
      exact ⟨hclk, hobs, fun hempty => absurd (.inl hempty) hbusy, fun _ _ => hjob, htime⟩

end Sys2Proof.Machine
end

section
/-!
Module time: offsets, steps and the servo (R376, R380, R382, R385 to R388).
-/

namespace Sys2Proof.Machine

open Sys2Proof.Stated

/-! ### Steps (R376, R386, R388) -/

/-- Module time beside its pins, and the command rings: what the realignments after a step leave alone. -/
def State.dated (s : State) : TimeSt × List Ring := ({ s.time with trigOut := {}, ppsEnd := none }, s.cx.rings)

theorem State.dated_of_eq {s t : State} (htime : t.time = s.time) (hrings : t.cx.rings = s.cx.rings) :
    t.dated = s.dated := by
  rw [State.dated, State.dated, htime, hrings]

theorem State.raise_dated (s : State) (code : Nat) (l : List (Nat × Nat)) : (s.raise code l).dated = s.dated :=
  State.dated_of_eq (s.raise_time code l) (s.raise_rings code l)

theorem State.count_dated (s : State) (a n : Nat) : (s.count a n).dated = s.dated := rfl

theorem State.settle_dated (s : State) : s.settle.dated = s.dated := by
  have htime := congrArg State.time s.settle_lessEgress
  exact State.dated_of_eq htime s.settle_rings

theorem State.emit_dated (s : State) (o : Out) : (s.emit o).dated = s.dated := rfl

theorem State.setTrigOut_dated (s : State) (x : Tbl TrigOut) :
    State.dated { s with time := { s.time with trigOut := x } } = s.dated := rfl

theorem State.endPps_dated (s : State) : State.dated { s with time := { s.time with ppsEnd := none } } = s.dated := rfl

theorem State.moveEnd_dated (s : State) (amount : Int) (e : Nat) : (s.moveEnd amount e).dated = s.dated := rfl

theorem State.syncReplicas_dated (s : State) : s.syncReplicas.dated = s.dated := rfl

theorem State.atBoundary_dated (s : State) (e : Nat) :
    State.dated { s with orb := { s.orb with boundary := e } } = s.dated := rfl

theorem State.orbRealign_dated (s : State) (amount : Int) : (s.orbRealign amount).dated = s.dated := by
  rw [State.orbRealign]
  split
  · dsimp only
    rw [State.raise_dated, State.syncReplicas_dated, State.atBoundary_dated, State.moveEnd_dated]
  · split
    · rw [State.moveEnd_dated]
    · rfl

theorem State.gateTake_dated (s : State) (p start : Nat) : (s.gateTake p start).dated = s.dated := by
  rw [State.gateTake]
  split
  · rfl
  · exact State.raise_dated _ _ _

theorem State.gateRealign_dated (s : State) (amount : Int) : (s.gateRealign amount).dated = s.dated := by
  refine State.each_induction (P := fun u => u.dated = s.dated) rfl fun u p _ hu => ?_
  refine Eq.trans ?_ hu
  extract_lets x s1
  have hs1 : s1.dated = u.dated := by
    unfold s1
    split
    · exact State.raise_dated _ _ _
    · rfl
  split
  · split
    · exact (State.gateTake_dated _ _ _).trans hs1
    · exact hs1
  · exact hs1

/-- One TRIG_OUT pin after a step (R396). -/
def State.pinAfterStep (s : State) (n : Nat) : State :=
  let t := tget {} s.time.trigOut n
  let t' := trigAfterStep s.time.now t
  let s' := { s with time := { s.time with trigOut := tset {} s.time.trigOut n t' } }
  if t.activeEnd.isSome ∧ t'.activeEnd.isNone then s'.emit (.pin n (s.flag (Reg.TIM_TRIG_OUT_CTL_POL n))) else s'

theorem State.pinAfterStep_dated (s : State) (n : Nat) : (s.pinAfterStep n).dated = s.dated := by
  rw [State.pinAfterStep]
  dsimp only
  split
  · rw [State.emit_dated, State.setTrigOut_dated]
  · rw [State.setTrigOut_dated]

theorem State.pinsAfterStep_eq (s : State) : s.pinsAfterStep =
    match (s.each [0, 1, 2, 3] State.pinAfterStep).time.ppsEnd with
    | some e =>
      if e ≤ (s.each [0, 1, 2, 3] State.pinAfterStep).time.now then
        State.emit { s.each [0, 1, 2, 3] State.pinAfterStep with
          time := { (s.each [0, 1, 2, 3] State.pinAfterStep).time with ppsEnd := none } } (.pin 4 false)
      else s.each [0, 1, 2, 3] State.pinAfterStep
    | none => s.each [0, 1, 2, 3] State.pinAfterStep := by
  unfold State.pinsAfterStep
  rfl

theorem State.pinsAfterStep_dated (s : State) : s.pinsAfterStep.dated = s.dated := by
  have hpins : (s.each [0, 1, 2, 3] State.pinAfterStep).dated = s.dated :=
    State.each_induction (P := fun u => u.dated = s.dated) rfl fun u n _ hu => (u.pinAfterStep_dated n).trans hu
  rw [State.pinsAfterStep_eq]
  generalize s.each [0, 1, 2, 3] State.pinAfterStep = u at hpins ⊢
  split
  · split
    · rw [State.emit_dated, State.endPps_dated, hpins]
    · exact hpins
  · exact hpins

/-- The amount by which a waiting step moves a time (R386). -/
def StepWait.amount (w : StepWait) (now : Nat) : Int :=
  match w.setTo with
  | some t => (t : Int) - (now : Int)
  | none => psToUnits w.ps

/-- Module time once a step has been taken (R388). -/
def State.stepped (s : State) (amount : Int) : TimeSt :=
  { s.time with
    jump := none, now := ((s.time.now : Int) + amount).toNat, unset := false, good := 0, misses := 0
    lastStep := some (((s.time.now : Int) + amount).toNat, amount), state := s.stateAfterStep }

/-- A step that does not lead below 0 s is taken. -/
theorem State.stepTime_taken {s : State} {amount : Int} (h : 0 ≤ (s.time.now : Int) + amount) (cause : Nat) :
    ∃ t, s.stepTime amount cause = (true, t) ∧ t.dated = State.dated { s with time := s.stepped amount } := by
  rw [State.stepTime]
  dsimp only
  rw [if_neg (not_lt.mpr h)]
  refine ⟨_, rfl, ?_⟩
  rw [State.settle_dated, State.pinsAfterStep_dated, State.gateRealign_dated, State.orbRealign_dated, State.count_dated,
    State.raise_dated]
  rfl

/-- What a step that waited leaves of module time, and its answer (R386, R388). -/
structure StepTaken (s t : State) (w : StepWait) (amount : Int) : Prop where
  now : (t.time.now : Int) = s.time.now + amount
  unset : t.time.unset = false
  jump : t.time.jump = none
  wait : t.time.wait = none
  lastStep : t.time.lastStep = some (t.time.now, amount)
  told : ∀ c, w.tag = some c → Told t c St.ok

theorem stepTaken_of_dated {s u t : State} {w : StepWait} {amount : Int} (hlen : s.cx.rings.length = 16)
    (hpos : 0 ≤ (s.time.now : Int) + amount)
    (hdated : u.dated = State.dated { s with time := { s.stepped amount with wait := none } })
    (ht : t = u.completeOpt w.tag St.ok) : StepTaken s t w amount := by
  obtain ⟨htime, hrings⟩ := Prod.mk.inj hdated
  have htt : t.time = u.time := by
    rw [ht]
    unfold State.completeOpt
    split
    · exact State.complete_time _ _ _ _
    · rfl
  have hnow : u.time.now = ((s.time.now : Int) + amount).toNat := congrArg TimeSt.now htime
  refine ⟨?_, ?_, ?_, ?_, ?_, fun c hc => ?_⟩
  · rw [htt, hnow, Int.toNat_of_nonneg hpos]
  · rw [htt]; exact congrArg TimeSt.unset htime
  · rw [htt]; exact congrArg TimeSt.jump htime
  · rw [htt]; exact congrArg TimeSt.wait htime
  · rw [htt, hnow]; exact congrArg TimeSt.lastStep htime
  · rw [ht, hc]
    exact told_complete (by rw [hrings]; exact hlen) c St.ok []

/-- A step that waited takes effect (R388). -/
theorem State.applyWait_taken {s : State} {w : StepWait} (hlen : s.cx.rings.length = 16)
    (hpos : 0 ≤ (s.time.now : Int) + w.amount s.time.now) : StepTaken s (s.applyWait w) w (w.amount s.time.now) := by
  obtain ⟨t, hstep, hdated⟩ :=
    State.stepTime_taken (s := { s with time := { s.time with wait := none } }) hpos w.cause
  refine stepTaken_of_dated hlen hpos hdated ?_
  unfold State.applyWait
  show (let (done, s2) := State.stepTime { s with time := { s.time with wait := none } } (w.amount s.time.now) w.cause
    s2.completeOpt w.tag (if done then St.ok else St.badParam)) = _
  rw [hstep]
  rfl

/-- A waiting step that sets module time sets it, whatever it was. -/
theorem State.applyWait_set {s : State} {w : StepWait} {x : Nat} (hlen : s.cx.rings.length = 16) (hset : w.setTo = some x) :
    (s.applyWait w).time.now = x ∧ (s.applyWait w).time.unset = false ∧ (s.applyWait w).time.jump = none ∧
      (s.applyWait w).time.wait = none ∧ ∀ c, w.tag = some c → Told (s.applyWait w) c St.ok := by
  have hamount : w.amount s.time.now = (x : Int) - (s.time.now : Int) := by rw [StepWait.amount, hset]
  obtain ⟨hnow, hunset, hjump, hwait, -, htold⟩ := State.applyWait_taken (w := w) hlen (by rw [hamount]; omega)
  rw [hamount] at hnow
  exact ⟨by omega, hunset, hjump, hwait, htold⟩

/-! ### Commands (R380, R386) -/

section Commands

variable {s : State} (hs : Serves s) (tag : CmdTag)
include hs

theorem exec_timeOffset_refused (hsrc : s.fld Reg.TIM_CTL_SRC ≠ 1) (d : Int) (m : TimeWord) :
    exec (.timeOffset tag d m) s = .next ((s.begin tag 0x0701).complete tag St.wrongRole) := by
  show execTimeOffset tag d m s = _
  rw [execTimeOffset, State.serve_eq hs, if_pos (.inl hsrc)]
  rfl

theorem exec_timeOffset_now (hfree : s.follows = false) (hnew : s.time.lastStep = none) (hsrc : s.fld Reg.TIM_CTL_SRC = 1)
    (d : Int) : exec (.timeOffset tag d 0) s = .next (((s.begin tag 0x0701).addOffset d).complete tag St.ok) := by
  have hleads : ¬ ((s.begin tag 0x0701).fld Reg.TIM_CTL_SRC ≠ 1 ∨ (s.begin tag 0x0701).follows = true) := by
    rw [State.fld_congr (State.begin_regs s tag _), show (s.begin tag 0x0701).follows = false from hfree]
    simp [hsrc]
  show execTimeOffset tag d 0 s = _
  rw [execTimeOffset, State.serve_eq hs, if_neg hleads, show (s.begin tag 0x0701).time.lastStep = none from hnew]
  rfl

theorem exec_timeConfirm_none (hnone : s.time.jump = none) (n : Nat) (w : TimeWord) :
    exec (.timeConfirm tag n w) s = .next ((s.begin tag 0x0702).complete tag St.noPendingJump) := by
  show execTimeConfirm tag n w s = _
  rw [execTimeConfirm, State.serve_eq hs, show (s.begin tag 0x0702).time.jump = none from hnone]
  rfl

section Pending

variable {ps : Int} (hjump : s.time.jump = some ps)
include hjump

theorem exec_timeConfirm_stale {n : Nat} (hstale : n ≠ s.time.jumpSeq) (w : TimeWord) :
    exec (.timeConfirm tag n w) s = .next ((s.begin tag 0x0702).complete tag St.staleJump) := by
  show execTimeConfirm tag n w s = _
  rw [execTimeConfirm, State.serve_eq hs, show (s.begin tag 0x0702).time.jump = some ps from hjump]
  dsimp only
  rw [if_pos (show n ≠ (s.begin tag 0x0702).time.jumpSeq from hstale)]
  rfl

theorem exec_timeConfirm_late {w : TimeWord} (hlate : s.stepLate w = true) :
    exec (.timeConfirm tag s.time.jumpSeq w) s = .next ((s.begin tag 0x0702).complete tag St.late) := by
  show execTimeConfirm tag s.time.jumpSeq w s = _
  rw [execTimeConfirm, State.serve_eq hs, show (s.begin tag 0x0702).time.jump = some ps from hjump]
  dsimp only
  rw [if_neg (fun h => h rfl), if_pos (show (s.begin tag 0x0702).stepLate w = true from hlate)]
  rfl

variable {w : TimeWord} (htimely : s.stepLate w = false) (hwait : s.time.wait = none)
include htimely hwait

theorem exec_timeConfirm : exec (.timeConfirm tag s.time.jumpSeq w) s = .next (
    if w = 0 then (s.begin tag 0x0702).applyWait ⟨s.fromWord w, ps, none, 1, some tag⟩
    else if s.follows then
      { s.begin tag 0x0702 with time := { s.time with wait := some ⟨s.fromWord w, ps, none, 1, some tag⟩ } }
    else State.announce
      { s.begin tag 0x0702 with time := { s.time with wait := some ⟨s.fromWord w, ps, none, 1, some tag⟩ } } ps
        (s.fromWord w)) := by
  have htimely' : ¬ (s.begin tag 0x0702).stepLate w = true := by
    rw [show (s.begin tag 0x0702).stepLate w = false from htimely]; exact Bool.false_ne_true
  have hwait' : ¬ (s.begin tag 0x0702).time.wait.isSome = true := by
    rw [show (s.begin tag 0x0702).time.wait = none from hwait]; exact Bool.false_ne_true
  show execTimeConfirm tag s.time.jumpSeq w s = _
  rw [execTimeConfirm, State.serve_eq hs, show (s.begin tag 0x0702).time.jump = some ps from hjump]
  dsimp only
  rw [if_neg (fun h => h rfl), if_neg htimely', if_neg hwait']
  rfl

end Pending

theorem exec_timeSet_follower (hfollows : s.follows = true) (sec ns frac : Nat) (w : TimeWord) :
    exec (.timeSet tag sec ns frac w) s = .next ((s.begin tag 0x0703).complete tag St.wrongRole) := by
  show execTimeSet tag sec ns frac w s = _
  rw [execTimeSet, State.serve_eq hs, if_pos (show (s.begin tag 0x0703).follows = true from hfollows)]
  rfl

section Lead

variable (hfree : s.follows = false)
include hfree

omit hs in
theorem State.begin_leads (op : Nat) : ¬ (s.begin tag op).follows = true := by
  rw [show (s.begin tag op).follows = false from hfree]; exact Bool.false_ne_true

theorem exec_timeSet_bad {ns : Nat} (hns : 1000000000 ≤ ns) (sec frac : Nat) (w : TimeWord) :
    exec (.timeSet tag sec ns frac w) s = .next ((s.begin tag 0x0703).complete tag St.badParam) := by
  show execTimeSet tag sec ns frac w s = _
  rw [execTimeSet, State.serve_eq hs, if_neg (State.begin_leads tag hfree _), if_pos (.inl hns)]
  rfl

/-- The instant that TIME_SET gives module time. -/
def setInstant (sec ns frac : Nat) : Nat := sec * secUnit + ns * nsUnit + frac * 2 ^ 24

theorem exec_timeSet {sec ns frac : Nat} {w : TimeWord} (hsec : sec < 2 ^ 48) (hfrac : frac < 65536)
    (hns : ns < 1000000000) (htimely : s.stepLate w = false) (hwait : s.time.wait = none) :
    exec (.timeSet tag sec ns frac w) s = .next (
      if w = 0 then (s.begin tag 0x0703).applyWait ⟨s.time.now, 0, some (setInstant sec ns frac), 2, some tag⟩
      else State.announce
        { s.begin tag 0x0703 with
          time := { s.time with wait := some ⟨s.fromWord w, 0, some (setInstant sec ns frac), 2, some tag⟩ } }
        (unitsToPs ((setInstant sec ns frac : Int) - (s.fromWord w : Int))) (s.fromWord w)) := by
  have htimely' : ¬ (s.begin tag 0x0703).stepLate w = true := by
    rw [show (s.begin tag 0x0703).stepLate w = false from htimely]; exact Bool.false_ne_true
  have hwait' : ¬ (s.begin tag 0x0703).time.wait.isSome = true := by
    rw [show (s.begin tag 0x0703).time.wait = none from hwait]; exact Bool.false_ne_true
  show execTimeSet tag sec ns frac w s = _
  rw [execTimeSet, State.serve_eq hs, if_neg (State.begin_leads tag hfree _), if_neg (by omega), if_neg htimely',
    if_neg hwait', ← setInstant]
  by_cases hw : w = 0
  · rw [if_pos hw, if_pos hw]
    dsimp only
    rw [if_pos hw]
    rfl
  · rw [if_neg hw, if_neg hw]
    dsimp only
    rw [if_neg hw]
    rfl

end Lead

end Commands

/-! ### The servo (R382, R383, R385) -/

theorem storedField_timSrc : StoredField Reg.TIM_CTL_SRC := ⟨by decide, by decide, by decide⟩

/-- What the end of a servo interval rests on beside the interval's own result: who leads, the clock and the source. -/
def State.steered (s : State) : IklSt × CanvasSt × Nat × Nat :=
  (s.ikl, s.canvas, s.clk, s.fld Reg.TIM_CTL_SRC)

theorem State.raise_steered (s : State) (code : Nat) (l : List (Nat × Nat)) : (s.raise code l).steered = s.steered := by
  rw [State.steered, State.steered, State.raise_ikl, State.raise_canvas, State.raise_clk,
    storedField_timSrc.fld_congr (State.raise_regWord s code l (by decide))]

theorem State.raiseLim_steered (s : State) (code sub : Nat) (l : List (Nat × Nat)) :
    (s.raiseLim code sub l).steered = s.steered := by
  rw [State.steered, State.steered, State.raiseLim_ikl, State.raiseLim_canvas, State.raiseLim_clk,
    storedField_timSrc.fld_congr (State.raiseLim_regWord s code sub l (by decide))]

theorem State.count_steered (s : State) (a n : Nat) : (s.count a n).steered = s.steered := rfl

theorem State.withTime_steered (s : State) (x : TimeSt) : State.steered { s with time := x } = s.steered := rfl

/-- The end of an interval, after its procedure: SRC stays, and the next interval is set (R382). -/
theorem exec_servoInterval {s u : State} (hu : (s.waitClk s.time.intervalAt).servo = u) (hslow : s.time.slow = false)
    (hused : s.time.srcUsed ≠ 0) (hlead : u.follows = false) (hsrc : u.fld Reg.TIM_CTL_SRC = u.time.srcUsed) :
    exec .servoInterval s = .next { u with
      ikl := { u.ikl with excluded := false, readmitAt := none }
      time := { u.time with intervalAt := u.clk + u.servoNs } } := by
  have hexcl : u.exclusionCheck u.time.theta = { u with ikl := { u.ikl with excluded := false, readmitAt := none } } := by
    rw [State.exclusionCheck, if_pos hlead]
  have hkeep : State.updateSource { u with ikl := { u.ikl with excluded := false, readmitAt := none } } =
      { u with ikl := { u.ikl with excluded := false, readmitAt := none } } := by
    have hnow : State.sourceNow { u with ikl := { u.ikl with excluded := false, readmitAt := none } } = u.time.srcUsed := by
      rw [State.sourceNow, if_neg (by rw [show State.follows { u with ikl := { u.ikl with
        excluded := false, readmitAt := none } } = false from hlead]; exact Bool.false_ne_true)]
      exact hsrc
    rw [State.updateSource, hnow]
    exact if_pos rfl
  show execServoInterval s = _
  rw [execServoInterval, if_neg (by rw [hslow]; exact Bool.false_ne_true)]
  dsimp only
  rw [if_neg (show ¬ (s.waitClk s.time.intervalAt).time.srcUsed = 0 from hused), hu, hexcl, hkeep]
  rfl

section Interval

variable {s : State} (hunset : s.time.unset = false)

/-- Nothing was measured, for fewer intervals than HOLD_N. -/
theorem State.servo_misses (hnone : s.time.offsets = []) (hfew : s.time.misses + 1 < s.fld Reg.TIM_LOCK_HOLD_N)
    (hused : s.time.srcUsed = 1) :
    s.servo = { s with time := { s.time with misses := s.time.misses + 1, theta := none } } := by
  have hhold : decide (s.time.misses + 1 ≥ s.fld Reg.TIM_LOCK_HOLD_N) = false := decide_eq_false hfew.not_ge
  rw [State.servo]
  dsimp only
  rw [if_pos hnone, hhold, Bool.false_and, if_neg (show ¬ s.time.srcUsed = 2 by omega)]
  rfl

/-- Nothing was measured for HOLD_N intervals: a locked servo goes to HOLDOVER. -/
theorem State.servo_holds (hnone : s.time.offsets = []) (hmany : s.fld Reg.TIM_LOCK_HOLD_N ≤ s.time.misses + 1)
    (hlocked : s.time.state = 2) (hused : s.time.srcUsed = 1) : s.servo.steered = s.steered ∧
      s.servo.time = { s.time with misses := s.time.misses + 1, theta := none, state := 3 } := by
  have hhold : (decide (s.time.misses + 1 ≥ s.fld Reg.TIM_LOCK_HOLD_N) &&
      (s.time.state == 1 || s.time.state == 2)) = true := by simp [hlocked, hmany]
  rw [State.servo]
  dsimp only
  rw [if_pos hnone, hhold, if_neg (show ¬ s.time.srcUsed = 2 by omega), if_pos (rfl : true = true),
    if_pos (rfl : true = true), State.count_steered, State.raise_steered]
  exact ⟨rfl, State.raise_time _ _ _⟩

section Measured

variable {d : Int} (hone : s.time.offsets = [d])
include hunset hone

/-- The state with an interval's mean offset taken. -/
def State.measured (s : State) (d : Int) : State :=
  { s with time := { s.time with misses := 0, offsets := [], theta := some d } }

/-- The state in which an interval's terms apply: ACQUIRING again after HOLDOVER or a pending jump (R383). -/
def State.acquiring (s : State) : State :=
  if s.withdrawJump.time.state = 3 ∨ s.withdrawJump.time.state = 5 then
    { s.withdrawJump with time := { s.withdrawJump.time with state := 1, good := 0 } }
  else s.withdrawJump

theorem State.servo_one : s.servo = if (s.measured d).fld Reg.TIM_JUMP_THR_THR * 1000 < d.natAbs then
    (s.measured d).refuseJump d else (s.measured d).acquiring.servoTerms d := by
  have hmean : ([d] : List Int).foldl (· + ·) 0 / (([d] : List Int).length : Int) = d := by simp
  rw [State.servo]
  dsimp only
  rw [hone, if_neg (List.cons_ne_nil d []), hmean, if_neg (by rw [hunset]; exact Bool.false_ne_true), Nat.mul_comm]
  rfl

omit hunset hone in
theorem State.acquiring_keeps (u : State) : u.acquiring.steered = u.steered ∧ u.acquiring.regs = u.regs ∧
    u.acquiring.time = { u.time with
      jump := none, good := u.acquiring.time.good, state := u.acquiring.time.state } := by
  rw [State.acquiring]
  split <;> exact ⟨rfl, rfl, rfl⟩

omit hunset hone in
/-- An offset beyond the threshold is refused, and waits as a pending jump (R385). -/
theorem State.refuseJump_sets (u : State) : (u.refuseJump d).steered = u.steered ∧ (u.refuseJump d).time =
    { u.time with jump := some (-d), jumpSeq := (u.time.jumpSeq + 1) % 65536, state := 5, good := 0 } := by
  rw [State.refuseJump]
  dsimp only
  rw [State.count_steered, State.raiseLim_steered]
  exact ⟨rfl, State.raiseLim_time _ _ _ _⟩

/-- The integral term of an interval (R382). -/
def State.integTerm (s : State) (d : Int) : Int :=
  satInt 32 (s.time.integ - rsh ((s.fld Reg.TIM_SERVO_KI : Int) * satInt 32 d) (s.fld Reg.TIM_SERVO2_KI_SH))

/-- The rate that an interval sets (R382). -/
def State.rateTerm (s : State) (d : Int) : Int :=
  clampInt (s.integTerm d - rsh ((s.fld Reg.TIM_SERVO_KP : Int) * satInt 32 d) (s.fld Reg.TIM_SERVO2_KP_SH)) (-fMax) fMax

omit hunset hone in
theorem State.integTerm_congr {s t : State} (hregs : t.regs = s.regs) (hinteg : t.time.integ = s.time.integ) (d : Int) :
    t.integTerm d = s.integTerm d := by
  rw [State.integTerm, State.integTerm, State.fld_congr hregs, State.fld_congr hregs, hinteg]

omit hunset hone in
theorem State.rateTerm_congr {s t : State} (hregs : t.regs = s.regs) (hinteg : t.time.integ = s.time.integ) (d : Int) :
    t.rateTerm d = s.rateTerm d := by
  rw [State.rateTerm, State.rateTerm, State.integTerm_congr hregs hinteg, State.fld_congr hregs, State.fld_congr hregs]

omit hunset hone in
/-- The terms of an interval move the servo alone. -/
theorem State.servoTerms_sets (u : State) : (u.servoTerms d).steered = u.steered ∧
    (u.servoTerms d).time = { u.time with
      integ := u.integTerm d, y := u.rateTerm d, good := (u.servoTerms d).time.good
      state := (u.servoTerms d).time.state } := by
  have hsets (t : State) (ht : u.servoTerms d = t) : ∃ (g st : Nat), t.steered = u.steered ∧
      t.time = { u.time with integ := u.integTerm d, y := u.rateTerm d, good := g, state := st } := by
    unfold State.servoTerms at ht
    extract_lets th i y good wasAcq lock src s1 s2 at ht
    have hs2 : s2.steered = u.steered ∧ s2.time = s1.time := by
      unfold s2
      split
      · exact ⟨State.raise_steered _ _ _, State.raise_time _ _ _⟩
      · exact ⟨rfl, rfl⟩
    have hend : t.steered = s2.steered ∧ t.time = s2.time := by
      rw [← ht]
      split
      · exact ⟨State.raise_steered _ _ _, State.raise_time _ _ _⟩
      · exact ⟨rfl, rfl⟩
    exact ⟨good, if lock then 2 else u.time.state, hend.1.trans hs2.1, hend.2.trans hs2.2⟩
  obtain ⟨g, st, hsteered, htime⟩ := hsets _ rfl
  refine ⟨hsteered, ?_⟩
  rw [htime]

end Measured

end Interval

theorem State.follows_congr {s t : State} (hikl : t.ikl = s.ikl) (hcanvas : t.canvas = s.canvas) : t.follows = s.follows := by
  simp only [State.follows, State.systemSize, State.moduleId, State.ident, State.system, State.section, hikl, hcanvas]
  rfl

theorem State.steered_eq_iff {s t : State} : t.steered = s.steered ↔ t.ikl = s.ikl ∧ t.canvas = s.canvas ∧ t.clk = s.clk ∧
    t.fld Reg.TIM_CTL_SRC = s.fld Reg.TIM_CTL_SRC := by
  simp only [State.steered, Prod.mk.injEq]

theorem State.measured_regs (s : State) (d : Int) (n : Nat) : ((s.waitClk n).measured d).regs = s.regs := rfl

theorem State.waitClk_steered (s : State) (n : Nat) : (s.waitClk n).ikl = s.ikl ∧ (s.waitClk n).canvas = s.canvas ∧
    (s.waitClk n).fld Reg.TIM_CTL_SRC = s.fld Reg.TIM_CTL_SRC := ⟨rfl, rfl, State.fld_congr rfl _⟩

/-- The result of an interval stands in module time after it. -/
theorem servoInterval_ends {s u : State} (hslow : s.time.slow = false) (hfree : s.follows = false)
    (hused : s.time.srcUsed = 1) (hsrc : s.fld Reg.TIM_CTL_SRC = 1) (hu : (s.waitClk s.time.intervalAt).servo = u)
    (hsteered : u.steered = (s.waitClk s.time.intervalAt).steered) (hused' : u.time.srcUsed = 1) :
    ∃ t, exec .servoInterval s = .next t ∧ t.clk = max s.clk s.time.intervalAt ∧
      t.time = { u.time with intervalAt := t.clk + u.fld Reg.TIM_SERVO2_INT * 125000 } := by
  obtain ⟨hikl, hcanvas, hclk, hfld⟩ := State.steered_eq_iff.mp hsteered
  obtain ⟨hikl', hcanvas', hfld'⟩ := s.waitClk_steered s.time.intervalAt
  have hlead : u.follows = false := (State.follows_congr (hikl.trans hikl') (hcanvas.trans hcanvas')).trans hfree
  have hkept : u.fld Reg.TIM_CTL_SRC = u.time.srcUsed := by rw [hused', hfld, hfld', hsrc]
  refine ⟨_, exec_servoInterval hu hslow (by omega) hlead hkept, hclk.trans (s.waitClk_clk _), ?_⟩
  rw [State.servoNs, if_neg (by omega)]

theorem exec_timeStepApply {s : State} {w : StepWait} (hwait : s.time.wait = some w) :
    exec .timeStepApply s = .next ((s.waitTime w.at_).applyWait w) := by
  show execTimeStepApply s = _
  rw [execTimeStepApply, hwait]
  rfl

theorem clampInt_eq {i lo hi : Int} (h : lo ≤ hi) : clampInt i lo hi = max lo (min hi i) := by
  unfold clampInt
  split
  · omega
  · split <;> omega

theorem State.stepLate_zero {s : State} (halone : s.hasFollowers = false) : s.stepLate 0 = false := by
  rw [State.stepLate, halone]
  rfl

theorem State.begin_rings_length {s : State} (hlen : s.cx.rings.length = 16) (tag : CmdTag) (op : Nat) :
    (s.begin tag op).cx.rings.length = 16 := (State.setRing_rings_length _ _ _).trans hlen

/-- Settles O52: each command by its checks, a step by what it leaves of module time, the servo by its interval's result. -/
theorem moduleTimeCommands : Obligations.ModuleTimeCommands := by
  unfold Obligations.ModuleTimeCommands
  intro s tag d ps sec ns frac w0 w
  refine ⟨fun hs hfree hnew => ⟨fun hsrc => ?_, fun hsrc => ⟨_, exec_timeOffset_refused hs tag hsrc d 0,
      refused_of_begun hs tag 0x0701 _ _⟩⟩,
    fun hs hnone => ⟨_, exec_timeConfirm_none hs tag hnone _ w0, refused_of_begun hs tag 0x0702 _ _⟩,
    fun hs hjump hwait => ⟨fun hstale => ⟨_, exec_timeConfirm_stale hs tag hjump hstale w0,
        refused_of_begun hs tag 0x0702 _ _⟩,
      fun _ hlate => ⟨_, exec_timeConfirm_late hs tag hjump hlate, refused_of_begun hs tag 0x0702 _ _⟩,
      fun hw htimely hfollows => ?_, fun halone hpos => ?_⟩,
    fun hs hfree hsec hfrac hwait => ⟨fun hns halone => ?_, fun hns hw htimely => ?_, fun hns =>
      ⟨_, exec_timeSet_bad hs tag hfree hns sec frac w0, refused_of_begun hs tag 0x0703 _ _⟩⟩,
    fun hs hfollows => ⟨_, exec_timeSet_follower hs tag hfollows sec ns frac w0, refused_of_begun hs tag 0x0703 _ _⟩,
    fun hwait hlen => ?_,
    fun hslow hfree hused hsrc hunset => ⟨fun hnone hfew => ?_, fun hnone hmany hlocked => ?_, fun hone =>
      ⟨fun hfar => ?_, fun hnear => ?_⟩⟩⟩
  · obtain ⟨hans, hleft⟩ := answered_beside hs (u := (s.begin tag 0x0701).addOffset d) (op := 0x0701) rfl St.ok []
    refine ⟨_, exec_timeOffset_now hs tag hfree hnew hsrc d, hans, State.complete_time _ _ _ _, ?_⟩
    exact congrArg (fun x : State => { x with time := s.time, obs := s.obs }) hleft
  · have hrun := exec_timeConfirm hs tag hjump htimely hwait
    rw [if_neg hw, if_pos hfollows] at hrun
    exact ⟨_, hrun, rfl, rfl⟩
  · have hrun := exec_timeConfirm hs tag hjump (State.stepLate_zero halone) hwait
    rw [if_pos rfl] at hrun
    obtain ⟨hnow, hunset, hjump', hwait', hlast, htold⟩ := State.applyWait_taken (s := s.begin tag 0x0702)
      (w := ⟨s.fromWord 0, ps, none, 1, some tag⟩) (State.begin_rings_length hs.2.2 tag _) hpos
    exact ⟨_, hrun, hnow, hjump', hunset, hwait', hlast, htold tag rfl⟩
  · have hrun := exec_timeSet hs tag hfree hsec hfrac hns (State.stepLate_zero halone) hwait
    rw [if_pos rfl] at hrun
    obtain ⟨hnow, hunset, hjump, -, htold⟩ := State.applyWait_set (s := s.begin tag 0x0703)
      (w := ⟨s.time.now, 0, some (setInstant sec ns frac), 2, some tag⟩) (State.begin_rings_length hs.2.2 tag _) rfl
    exact ⟨_, hrun, hnow, hunset, hjump, htold tag rfl⟩
  · have hrun := exec_timeSet hs tag hfree hsec hfrac hns htimely hwait
    rw [if_neg hw] at hrun
    exact ⟨_, hrun, rfl, rfl, rfl⟩
  · have hrun := exec_timeStepApply hwait
    have hlen' : (s.waitTime w.at_).cx.rings.length = 16 := by rw [State.waitTime_cx]; exact hlen
    refine ⟨fun x hx => ⟨_, hrun, State.applyWait_set hlen' hx⟩, fun hx hpos => ?_⟩
    have hamount : w.amount (s.waitTime w.at_).time.now = psToUnits w.ps := by rw [StepWait.amount, hx]
    obtain ⟨-, hunset, -, hwait', hlast, -⟩ := State.applyWait_taken (w := w) hlen'
      (by rw [hamount, State.waitTime_now]; omega)
    rw [hamount] at hlast
    exact ⟨_, hrun, hlast, hwait', hunset⟩
  · have hu := State.servo_misses (s := s.waitClk s.time.intervalAt) hnone hfew hused
    obtain ⟨t, hrun, hclk, htime⟩ := servoInterval_ends hslow hfree hused hsrc hu rfl hused
    refine ⟨t, hrun, ?_, ?_, ?_, ?_, hclk, ?_⟩ <;> rw [htime]
    all_goals rfl
  · obtain ⟨hsteered, hset⟩ := State.servo_holds (s := s.waitClk s.time.intervalAt) hnone hmany hlocked hused
    obtain ⟨t, hrun, -, htime⟩ := servoInterval_ends hslow hfree hused hsrc rfl hsteered (by rw [hset]; exact hused)
    refine ⟨t, hrun, ?_, ?_⟩ <;> rw [htime, hset]
    rfl
  · have hservo := State.servo_one (s := s.waitClk s.time.intervalAt) hunset hone
    rw [State.fld_congr (s.measured_regs d s.time.intervalAt), if_pos (by omega)] at hservo
    obtain ⟨hsteered, hset⟩ := State.refuseJump_sets (d := d) ((s.waitClk s.time.intervalAt).measured d)
    obtain ⟨t, hrun, -, htime⟩ := servoInterval_ends hslow hfree hused hsrc hservo hsteered (by rw [hset]; exact hused)
    refine ⟨t, hrun, ?_, ?_, ?_, ?_, ?_, ?_⟩ <;> rw [htime, hset]
    all_goals rfl
  · have hservo := State.servo_one (s := s.waitClk s.time.intervalAt) hunset hone
    rw [State.fld_congr (s.measured_regs d s.time.intervalAt), if_neg (by omega)] at hservo
    obtain ⟨hsteered, hset⟩ := State.servoTerms_sets (d := d) ((s.waitClk s.time.intervalAt).measured d).acquiring
    obtain ⟨hsteered', hregs, hkept⟩ := State.acquiring_keeps ((s.waitClk s.time.intervalAt).measured d)
    have hregs' := hregs.trans (s.measured_regs d s.time.intervalAt)
    generalize ((s.waitClk s.time.intervalAt).measured d).acquiring = v at hservo hsteered hset hsteered' hkept hregs'
    obtain ⟨t, hrun, -, htime⟩ := servoInterval_ends hslow hfree hused hsrc hservo (hsteered.trans hsteered')
      (by rw [hset, hkept]; exact hused)
    have hinteg : t.time.integ = s.integTerm d := by
      rw [htime, hset]
      exact State.integTerm_congr hregs' (by rw [hkept]; rfl) d
    have hrate : t.time.y = s.rateTerm d := by
      rw [htime, hset]
      exact State.rateTerm_congr hregs' (by rw [hkept]; rfl) d
    refine ⟨t, hrun, hinteg, ?_, ?_, ?_, ?_, ?_⟩
    · rw [hrate, hinteg, State.rateTerm, clampInt_eq (by decide)]
      rfl
    all_goals rw [htime, hset, hkept]
    all_goals rfl

end Sys2Proof.Machine
end

section
/-!
The bus matrix (R452, R454, R457, R460 to R463).
-/

namespace Sys2Proof.Machine

open Sys2Proof.Stated

/-! ### One request (R454 to R459) -/

/-- The state with one request waiting. -/
def State.asked (s : State) (r : BusReq) : State := { s with bm := { s.bm with waiting := [(r, s.clk)] } }

section Single

variable {s : State} (hidle : s.bm.waiting = []) (r : BusReq)
include hidle

theorem State.asked_answered : ({ s.asked r with bm := { (s.asked r).bm with waiting := [] } } : State) = s := by
  rw [← hidle]; rfl

/-- The only request that waits is granted where it may go. -/
theorem State.asked_busDrain :
    (s.asked r).busDrain = if s.mayGo [] r then s.busAnswer r else s.asked r := by
  have hgoers : (s.asked r).goers = if s.mayGo [] r then [0] else [] := by
    show (List.range 1).filter _ = _
    rw [List.range_one, List.filter_singleton]
    exact Bool.cond_eq_ite (s.mayGo [] r) [0] []
  have hgrant : (s.asked r).busGrant = if s.mayGo [] r then some (s.busAnswer r) else none := by
    rw [State.busGrant, hgoers]
    by_cases hgo : s.mayGo [] r = true
    · rw [if_pos hgo, if_pos hgo]
      show some (State.busAnswer { s.asked r with bm := { (s.asked r).bm with waiting := [] } } r) = _
      rw [State.asked_answered hidle]
    · rw [if_neg hgo, if_neg hgo]
      rfl
  show State.busRun 1 (s.asked r) = _
  rw [State.busRun, hgrant]
  by_cases hgo : s.mayGo [] r = true
  · rw [if_pos hgo, if_pos hgo]; rfl
  · rw [if_neg hgo, if_neg hgo]

theorem exec_busTransaction (hpwr : s.pwr.state < 4) (hport : r.master = 2 → s.barUp = true) :
    exec (.busTransaction r) s = .next (if s.mayGo [] r then s.busAnswer r else s.asked r) := by
  have hon : ¬ (s.pwr.state ≥ 4 ∨ r.master = 2 ∧ s.barUp = false) := by
    rintro (h | ⟨hm, h⟩)
    · omega
    · rw [hport hm] at h; cases h
  show execBusTransaction r s = _
  rw [execBusTransaction, if_neg hon, ← State.asked_busDrain hidle, hidle]
  rfl

end Single

/-- A request of a master that issues may go where its target is ready. -/
theorem State.mayGo_first {s : State} {r : BusReq} (hready : s.masterReady r.master.val = true) :
    s.mayGo [] r = s.targetReady r := by
  rw [State.mayGo, hready]
  simp

/-! ### The answer (R457) -/

/-- A transaction that R452 turns away. -/
theorem State.busAnswer_turnedAway {s : State} {m : Fin 8} {id a code : Nat} {w : Bool}
    {bs : List (BitVec 16 × BitVec 128)} (hcode : accessCode m a = code) (hne : code ≠ 0) :
    s.busAnswer ⟨m, id, a, w, bs, false⟩ = (State.busError
      (match busTarget a with
      | some t => if code = 1 then s else s.granted t m
      | none => s) m (busTarget a) code a w).emit (.bus m id code (if w then [] else bs.map (fun _ => 0))) := by
  have hbus : s.busCode m a bs false = code := by rw [State.busCode, if_pos (by omega), hcode]
  rw [State.busAnswer, State.busServe, hbus]
  dsimp only
  rw [if_pos hne] <;> rfl

/-- What a reported error leaves. -/
theorem State.busError_leaves (u : State) (m : Nat) (t : Option Nat) (code a : Nat) (w : Bool) :
    (u.busError m t code a w).out = u.out ∧ (u.busError m t code a w).eng = u.eng ∧ (u.busError m t code a w).pwr = u.pwr ∧
      (u.busError m t code a w).bm = { u.bm with
        errMaster := m, errTarget := t.getD 0xF, errCode := code, errWrite := w, errValid := true, errAddr := a } := by
  rw [State.busError, State.raiseLim_out, State.raiseLim_eng, State.raiseLim_pwr, State.raiseLim_bm]
  exact ⟨rfl, rfl, rfl, rfl⟩

/-! ### A write of one register word (R454) -/

/-- A beat whose strobes cover its first word writes that word. -/
theorem State.beatWrite_firstWord (s : State) (a v : Nat) : State.beatWrite a 15 v s = s.busWordWrite a 15 (v % 2 ^ 32) := by
  have hrange : List.range 4 = [0, 1, 2, 3] := rfl
  have hskip (u : State) (b w : Nat) : u.busWordWrite b 0 w = u := rfl
  rw [State.beatWrite, State.each, hrange, List.foldl_cons, List.foldl_cons, List.foldl_cons, List.foldl_cons,
    List.foldl_nil]
  norm_num [hskip]

theorem accessCode_scratch (m : Fin 8) : accessCode m 0x70 = 0 := by
  revert m; decide

theorem State.writeReg_scratch {s : State} (hlist : tget 0 s.locks 0x70 = 0) (v : Nat) :
    s.writeReg 0x70 (v % 2 ^ 32) = s.setRegWord 0x70 (BitVec.ofNat 32 v) := by
  have hlocks : s.lockedBits (0x70 + 4 * (0 : Fin 4).val) scratchReg.fields = 0 :=
    State.lockedBits_eq_zero hlist (by decide) _
  have h := (plainRegister_scratch 0).writeReg_inRange hlocks (n := 32) (v := v % 2 ^ 32) rfl (State.rangeOk_scratch _ _ 0)
  have hmod : BitVec.ofNat 32 (v % 2 ^ 32) = BitVec.ofNat 32 v := BitVec.eq_of_toNat_eq (by simp)
  rw [ofNat_stored _ _ rfl rfl, Nat.mod_mod, hmod] at h
  exact h

theorem State.granted_owner {s : State} {k m : Nat} (hk : k < s.bm.targets.length) :
    ((s.granted k m).bmTarget k).owner = m := by
  show (lget {} (s.bm.targets.modify k _) k).owner = m
  simp [lget, hk]

theorem State.busWordWrite_scratch (s : State) (v : Nat) : s.busWordWrite 0x70 15 v = s.writeReg 0x70 v := by
  rw [State.busWordWrite, if_neg (by decide), if_pos (by decide)]

/-- A register write that its target serves. -/
theorem State.busAnswer_scratch {s : State} (hlist : tget 0 s.locks 0x70 = 0) (m : Fin 8) (id : Nat) (v : BitVec 128) :
    s.busAnswer ⟨m, id, 0x70, true, [(0x000F, v)], false⟩ =
      ((s.granted 0 m).setRegWord 0x70 (BitVec.ofNat 32 v.toNat)).emit (.bus m id 0 []) := by
  have hcode : s.busCode m 0x70 [(0x000F, v)] false = 0 := by
    rw [State.busCode, accessCode_scratch]
    rfl
  have hwrite : State.burstWrite [((0x000F : BitVec 16), v)] 0x70 (s.granted 0 m) =
      (s.granted 0 m).setRegWord 0x70 (BitVec.ofNat 32 v.toNat) := by
    rw [State.burstWrite, State.burstWrite]
    exact (State.beatWrite_firstWord _ 0x70 v.toNat).trans ((State.busWordWrite_scratch _ _).trans
      (State.writeReg_scratch (s := s.granted 0 m) hlist v.toNat))
  rw [State.busAnswer, State.busServe, hcode]
  dsimp only
  rw [if_neg (fun h => h rfl), if_pos rfl]
  exact congrArg (fun u : State => u.emit (.bus m id 0 [])) hwrite

/-! ### Locks and resets (R460 to R463) -/

theorem exec_lockTimeout_none {s : State} {k : Fin 12} (h : (s.bmTarget k).lockedBy = none) :
    exec (.lockTimeout k) s = .next s := by
  show execLockTimeout k s = _
  rw [execLockTimeout, h]
  rfl

/-- The state with a lock broken and its holder to be told. -/
def State.lockBroken (s : State) (k m core : Nat) : State :=
  { s.unlockTarget k with bm := { (s.unlockTarget k).bm with broken := s.bm.broken ++ [(m, core, k)] } }

theorem exec_lockTimeout {s : State} {k : Fin 12} {m core : Nat} (hidle : s.bm.waiting = [])
    (hlock : (s.bmTarget k).lockedBy = some (m, core)) : exec (.lockTimeout k) s = .next
      ((((s.waitClk ((s.bmTarget k).lockAt + 10000)).lockBroken k m core).bump Reg.BM_ERR_LOCK_BROKEN 1).raise 0x0202
        [(1, m), (1, k.val)]) := by
  show execLockTimeout k s = _
  rw [execLockTimeout, hlock]
  refine congrArg Host.Outcome.next (State.busDrain_of_idle ?_)
  rw [State.raise_bm]
  exact hidle

theorem State.lockBroken_leaves {s : State} {k : Fin 12} (hlen : s.bm.targets.length = 12) (m core : Nat) :
    (s.lockBroken k m core).clk = s.clk ∧ ((s.lockBroken k m core).bmTarget k).lockedBy = none ∧
      (s.lockBroken k m core).bm.broken = s.bm.broken ++ [(m, core, k.val)] ∧ (s.lockBroken k m core).cx = s.cx := by
  have hsame : (s.lockBroken k m core).bmTarget k = lget {} (lset s.bm.targets k _) k := rfl
  refine ⟨rfl, ?_, rfl, rfl⟩
  rw [hsame, lget_lset_same (by omega)]

/-- Targets of a list are unlocked, and no other; the rest of the matrix stands. -/
theorem State.each_unlockTarget {s : State} (l : List Nat) (hin : ∀ k ∈ l, k < s.bm.targets.length) :
    (∀ k ∈ l, ((s.each l State.unlockTarget).bmTarget k).lockedBy = none) ∧
      (∀ k, k ∉ l → ((s.each l State.unlockTarget).bmTarget k).lockedBy = (s.bmTarget k).lockedBy) ∧
      (s.each l State.unlockTarget).bm.masters = s.bm.masters ∧
      (s.each l State.unlockTarget).bm.waiting = s.bm.waiting ∧
      ({ s.each l State.unlockTarget with bm := s.bm } : State) = s := by
  induction l generalizing s with
  | nil => exact ⟨fun _ h => absurd h List.not_mem_nil, fun _ _ => rfl, rfl, rfl, rfl⟩
  | cons j rest ih =>
    have hj : j < s.bm.targets.length := hin j List.mem_cons_self
    have hsame : ((s.unlockTarget j).bmTarget j).lockedBy = none := congrArg BmTarget.lockedBy (lget_lset_same hj)
    have hother {k : Nat} (hk : k ≠ j) : (s.unlockTarget j).bmTarget k = s.bmTarget k := lget_lset_ne hk
    obtain ⟨hgone, hkept, hmasters, hwaiting, hleft⟩ := ih (s := s.unlockTarget j) fun k hk =>
      (hin k (List.mem_cons_of_mem j hk)).trans_eq (List.length_set ..).symm
    refine ⟨fun k hk => ?_, fun k hk => ?_, hmasters, hwaiting, ?_⟩
    · by_cases hrest : k ∈ rest
      · exact hgone k hrest
      · have hkj : k = j := (List.mem_cons.mp hk).resolve_right hrest
        exact (hkept k hrest).trans (hkj ▸ hsame)
    · obtain ⟨hkj, hrest⟩ := not_or.mp (mt List.mem_cons.mpr hk)
      exact (hkept k hrest).trans (congrArg BmTarget.lockedBy (hother hkj))
    · exact congrArg (fun u : State => { u with bm := s.bm }) hleft

/-- The targets that a master's cores hold. -/
def State.heldBy (s : State) (m : Nat) : List Nat :=
  (List.range 12).filter (fun t => match (s.bmTarget t).lockedBy with
    | some h => h.1 == m
    | none => false)

/-- The state with a master in reset, its requests withdrawn, its locks released (R462). -/
def State.masterOff (s : State) (m : Nat) : State :=
  let s1 := (s.each (s.heldBy m) State.unlockTarget).setBmMaster m { inReset := true, drained := false }
  { s1 with bm := { s1.bm with
    waiting := s1.bm.waiting.filter (fun e => e.1.master.val != m)
    broken := s1.bm.broken.filter (fun e => e.1 != m) } }

theorem State.resetMaster_told (s : State) (m : Nat) : ∃ items, s.resetMaster m none =
    ((s.masterOff m).bump Reg.BM_ERR_RESETS 1).raise 0x0203 items := ⟨_, rfl⟩

/-- What a master's reset leaves. -/
theorem State.masterOff_leaves {s : State} {m : Nat} (hm : m < s.bm.masters.length) (hlen : s.bm.targets.length = 12)
    (hidle : s.bm.waiting = []) :
    (s.masterOff m).bmMaster m = { inReset := true, drained := false } ∧
      (∀ k : Fin 12, ∀ n, ((s.masterOff m).bmTarget k).lockedBy ≠ some (m, n)) ∧
      (∀ n, n ≠ m → (s.masterOff m).bmMaster n = s.bmMaster n) ∧ (s.masterOff m).bm.waiting = [] ∧
      ({ s.masterOff m with bm := s.bm } : State) = s := by
  have hheld (k : Nat) : k ∈ s.heldBy m ↔ k < 12 ∧ ∃ n, (s.bmTarget k).lockedBy = some (m, n) := by
    rw [State.heldBy, List.mem_filter, List.mem_range]
    refine and_congr_right fun _ => ?_
    cases (s.bmTarget k).lockedBy with
    | none => exact ⟨fun h => absurd h Bool.false_ne_true, fun ⟨_, h⟩ => nomatch h⟩
    | some h =>
      show (h.1 == m) = true ↔ ∃ n, some h = some (m, n)
      rw [beq_iff_eq]
      exact ⟨fun hm => ⟨h.2, hm ▸ rfl⟩, fun ⟨_, hx⟩ => congrArg Prod.fst (Option.some.inj hx)⟩
  obtain ⟨hgone, hkept, hmasters, hwaiting, hleft⟩ := State.each_unlockTarget (s := s) (s.heldBy m) fun k hk =>
    ((hheld k).mp hk).1.trans_eq hlen.symm
  refine ⟨?_, fun k n hlocked => ?_, fun n hn => ?_, ?_, ?_⟩
  · exact lget_lset_same (hm.trans_eq (congrArg List.length hmasters).symm)
  · by_cases hin : k.val ∈ s.heldBy m
    · exact absurd ((hgone k hin).symm.trans hlocked) nofun
    · exact hin ((hheld k).mpr ⟨k.isLt, n, (hkept k hin).symm.trans hlocked⟩)
  · exact (lget_lset_ne hn).trans (congrArg (fun l => lget {} l n) hmasters)
  · show List.filter _ (s.each (s.heldBy m) State.unlockTarget).bm.waiting = []
    rw [hwaiting, hidle, List.filter_nil]
  · exact congrArg (fun u : State => { u with bm := s.bm }) hleft

/-- The state that the reset of a master starts from: a control unit stops, and gives up its claim (R462, R468). -/
def State.unitStopped (s : State) (m : Nat) : State := if m < 2 then (s.haltUnit m).dropClaim m else s

theorem exec_busMasterReset {s : State} {m : Fin 8} (hup : (s.bmMaster m).inReset = false) (hpwr : s.pwr.state < 4)
    (hmasters : s.bm.masters.length = 8) (hlen : s.bm.targets.length = 12) (hidle : s.bm.waiting = []) :
    ∃ items, exec (.busMasterReset m none) s = .next
      ((((s.unitStopped m).masterOff m).bump Reg.BM_ERR_RESETS 1).raise 0x0203 items) := by
  obtain ⟨items, htold⟩ := (s.unitStopped m).resetMaster_told m
  have hbm : (s.unitStopped m).bm = s.bm := by rw [State.unitStopped]; split <;> rfl
  obtain ⟨-, -, -, hwaiting, -⟩ := State.masterOff_leaves (s := s.unitStopped m) (m := m) (by rw [hbm]; omega)
    (by rw [hbm]; exact hlen) (by rw [hbm]; exact hidle)
  refine ⟨items, ?_⟩
  show execBusMasterReset m none s = _
  rw [execBusMasterReset, if_neg (by simp [hup]; omega)]
  show Host.Outcome.next ((s.unitStopped m).resetMaster m none).busDrain = _
  rw [htold, State.busDrain_of_idle]
  rw [State.raise_bm]
  exact hwaiting

theorem State.unitStopped_leaves (s : State) (m : Nat) : (s.unitStopped m).bm = s.bm ∧ (s.unitStopped m).saf = s.saf ∧
    (m = 0 → (s.unitStopped m).dac.claim.a = none ∧ (s.unitStopped m).adc.claim.a = none) ∧
    (m = 1 → (s.unitStopped m).dac.claim.b = none ∧ (s.unitStopped m).adc.claim.b = none) ∧
    (2 ≤ m → (s.unitStopped m).eng = s.eng ∧ (s.unitStopped m).dac = s.dac) := by
  refine ⟨?_, ?_, ?_, ?_, fun hm => ?_⟩
  · rw [State.unitStopped]; split <;> rfl
  · rw [State.unitStopped]; split <;> rfl
  · rintro rfl; exact ⟨rfl, rfl⟩
  · rintro rfl; exact ⟨rfl, rfl⟩
  · rw [State.unitStopped, if_neg (by omega)]; exact ⟨rfl, rfl⟩

theorem exec_busDrained_already {s : State} {m : Fin 8} (h : (s.bmMaster m).drained = true) :
    exec (.busDrained m) s = .next s := by
  show execBusDrained m s = _
  rw [execBusDrained, if_pos h]
  rfl

theorem exec_busDrained {s : State} {m : Fin 8} (h : (s.bmMaster m).drained = false) (hidle : s.bm.waiting = []) :
    exec (.busDrained m) s = .next
      ((s.setBmMaster m { s.bmMaster m with drained := true }).raise 0x0204 [(1, m.val)]) := by
  show execBusDrained m s = _
  rw [execBusDrained, if_neg (by simp [h]), State.busDrain_of_idle]
  · rfl
  · rw [State.raise_bm]
    exact hidle

/-- Settles O58: a request by what its target or its path answers, a lock and a reset by what they leave of the matrix. -/
theorem busMatrix : Obligations.BusMatrix := by
  unfold Obligations.BusMatrix
  intro s m k id a core mm code w v bs req hrings hidle hmasters hlen
  refine ⟨fun hoff => ?_, fun hpwr hready hm hport => ?_, fun hpwr hready hport => ⟨fun hcanon hlist hfree => ?_,
    fun hcode hne => ?_, fun htarget hcode hlocked hother => ?_⟩, fun hlock => ?_, fun hlock => exec_lockTimeout_none hlock,
    fun hup hpwr => ?_, fun hdrained => ?_, fun hdrained => exec_busDrained_already hdrained⟩
  · show execBusTransaction req s = _
    rw [execBusTransaction, if_pos (.inl hoff)]
    rfl
  · show execBusTransaction _ s = _
    rw [execBusTransaction, if_pos (.inr ⟨hm, hport⟩)]
    rfl
  · have hgo : s.mayGo [] ⟨m, id, 0x70, true, [(0x000F, v)], false⟩ = true := by
      have htarget : s.targetFree 0 m 4 = true := by rw [State.targetFree, hfree]
      rw [State.mayGo_first hready, State.targetReady, show busTarget 0x70 = some 0 from by decide]
      show (accessCode m 0x70 != 0 || s.targetFree 0 m 4) = true
      rw [htarget, Bool.or_true]
    refine ⟨_, exec_busTransaction hidle _ hpwr hport, ?_⟩
    rw [if_pos hgo, State.busAnswer_scratch hlist]
    obtain ⟨hrise, -⟩ := hcanon
    refine ⟨rfl, State.regWord_setRegWord_same (s := s.granted 0 m) hrise 0x70 _, ?_, rfl⟩
    exact State.granted_owner (by omega)
  · have hgo : s.mayGo [] ⟨m, id, a, w, bs, false⟩ = true := by
      rw [State.mayGo_first hready, State.targetReady]
      dsimp only
      split
      · rw [hcode, (bne_iff_ne).mpr hne, Bool.true_or]
      · rfl
    refine ⟨_, exec_busTransaction hidle _ hpwr hport, ?_⟩
    rw [if_pos hgo, State.busAnswer_turnedAway hcode hne]
    generalize hu : (match busTarget a with
      | some t => if code = 1 then s else s.granted t m
      | none => s) = u
    have hkept : u.out = s.out ∧ u.eng = s.eng ∧ u.pwr = s.pwr := by
      rw [← hu]
      split
      · split <;> exact ⟨rfl, rfl, rfl⟩
      · exact ⟨rfl, rfl, rfl⟩
    obtain ⟨hout, heng, hpwr'⟩ := hkept
    obtain ⟨hout', heng', hpwr'', hbm⟩ := u.busError_leaves m (busTarget a) code a w
    refine ⟨?_, congrArg BmSt.errValid hbm, congrArg BmSt.errCode hbm, congrArg BmSt.errMaster hbm, congrArg BmSt.errAddr hbm,
      congrArg BmSt.errWrite hbm, congrArg BmSt.errTarget hbm, heng'.trans heng, hpwr''.trans hpwr'⟩
    exact congrArg (.bus m id code (if w then [] else bs.map (fun _ => 0)) :: ·) (hout'.trans hout)
  · have hstay : ¬ s.mayGo [] ⟨m, id, a, w, bs, false⟩ = true := by
      have hbusy : s.targetFree k m 4 = false := by
        rw [State.targetFree, hlocked]
        exact beq_eq_false_iff_ne.mpr fun h => hother (congrArg Prod.fst h)
      rw [State.mayGo_first hready, State.targetReady]
      dsimp only
      rw [htarget, hcode]
      simp [hbusy]
    rw [exec_busTransaction hidle _ hpwr hport, if_neg hstay]
    rfl
  · obtain ⟨hclk, hfree, hbroken, hcx⟩ :=
      State.lockBroken_leaves (s := s.waitClk ((s.bmTarget k).lockAt + 10000)) (k := k) hlen mm core
    have hclk' := s.waitClk_clk ((s.bmTarget k).lockAt + 10000)
    have hrun := exec_lockTimeout hidle hlock
    generalize hu : ((s.waitClk ((s.bmTarget k).lockAt + 10000)).lockBroken k mm core) = u at *
    have hseq := (u.bump Reg.BM_ERR_LOCK_BROKEN 1).raise_evtSeq 0x0202 (items := [(1, mm), (1, k.val)])
      (by simp [packItems, leBytes_length]; decide)
    have hbm := (u.bump Reg.BM_ERR_LOCK_BROKEN 1).raise_bm 0x0202 [(1, mm), (1, k.val)]
    refine ⟨_, hrun, ?_, ?_, ?_, ?_⟩
    · rw [State.raise_clk]; exact hclk.trans hclk'
    · rw [State.bmTarget, hbm]; exact hfree
    · rw [hbm]; exact hbroken
    · rw [hseq]; exact congrArg (fun x : CxSt => seqNext x.evtSeq) hcx
  · obtain ⟨items, hrun⟩ := exec_busMasterReset hup hpwr hmasters hlen hidle
    obtain ⟨hbm, hsaf, hclaimA, hclaimB, hkept⟩ := s.unitStopped_leaves m
    obtain ⟨hmaster, hlocks, hothers, -, hleft⟩ := State.masterOff_leaves (s := s.unitStopped m) (m := m)
      (by rw [hbm]; omega) (by rw [hbm]; exact hlen) (by rw [hbm]; exact hidle)
    generalize (s.unitStopped m).masterOff m = x at hrun hmaster hlocks hothers hleft
    have hbm' := (x.bump Reg.BM_ERR_RESETS 1).raise_bm 0x0203 items
    have hdac : x.dac = (s.unitStopped m).dac := by rw [← hleft]
    have hadc : x.adc = (s.unitStopped m).adc := by rw [← hleft]
    have heng : x.eng = (s.unitStopped m).eng := by rw [← hleft]
    have hsaf' : x.saf = (s.unitStopped m).saf := by rw [← hleft]
    have hmaster' (n : Nat) : ((x.bump Reg.BM_ERR_RESETS 1).raise 0x0203 items).bmMaster n = x.bmMaster n :=
      congrArg (fun y : BmSt => lget ({} : BmMaster) y.masters n) hbm'
    have htarget (n : Nat) : ((x.bump Reg.BM_ERR_RESETS 1).raise 0x0203 items).bmTarget n = x.bmTarget n :=
      congrArg (fun y : BmSt => lget ({} : BmTarget) y.targets n) hbm'
    refine ⟨_, hrun, ?_, ?_, fun k n => ?_, fun n hn => ?_, fun hm => ?_, fun hm => ?_, fun hm => ?_, ?_⟩
    · rw [hmaster', hmaster]
    · rw [hmaster', hmaster]
    · rw [htarget]; exact hlocks k n
    · rw [hmaster', hothers n hn, State.bmMaster, hbm, State.bmMaster]
    · rw [State.raise_dac, State.raise_adc]
      exact ⟨(congrArg (·.claim.a) hdac).trans (hclaimA (congrArg Fin.val hm)).1,
        (congrArg (·.claim.a) hadc).trans (hclaimA (congrArg Fin.val hm)).2⟩
    · rw [State.raise_dac, State.raise_adc]
      exact ⟨(congrArg (·.claim.b) hdac).trans (hclaimB (congrArg Fin.val hm)).1,
        (congrArg (·.claim.b) hadc).trans (hclaimB (congrArg Fin.val hm)).2⟩
    · rw [State.raise_eng, State.raise_dac]
      exact ⟨heng.trans (hkept hm).1, hdac.trans (hkept hm).2⟩
    · rw [State.raise_saf]
      exact hsaf'.trans hsaf
  · have hmaster : (s.setBmMaster m { s.bmMaster m with drained := true }).bmMaster m = { s.bmMaster m with drained := true } :=
      lget_lset_same (by omega)
    generalize hu : s.setBmMaster m { s.bmMaster m with drained := true } = u at hmaster
    obtain ⟨hevents, hseq⟩ := u.raise_eventsOnly 0x0204 (items := [(1, m.val)]) (by simp [packItems, leBytes_length]; decide)
    have hbm := u.raise_bm 0x0204 [(1, m.val)]
    refine ⟨_, by rw [exec_busDrained hdrained hidle, hu], ?_, ?_, ?_⟩
    · rw [State.bmMaster, hbm]; exact hmaster
    · rw [hseq, ← hu]; rfl
    · rw [hbm, ← hu]; rw [← hu] at hevents; exact hevents

end Sys2Proof.Machine
end

section
/-!
Temperature readings, shut-down records and programs of the flash (R482, R483, R488, R489, R493 to R497).
-/

namespace Sys2Proof.Machine

open Sys2Proof.Stated

/-! ### Readings (R482, R483) -/

/-- What a reading makes of a sensor from its housekeeping value. -/
structure SensorRead (s : State) (k : Nat) (y : Sensor) : Prop where
  valid : y.valid = ((tget {} s.adc.hk k).valid &&
    decide (-4000 ≤ (tget {} s.adc.hk k).value ∧ (tget {} s.adc.hk k).value ≤ 15000))
  taken : y.valid = true → y.value = (tget {} s.adc.hk k).value
  kept : y.valid = false → y.value = (s.sensor k).value

theorem State.readSensor_sets (s : State) (n : Nat) : (s.readSensor n).adc = s.adc ∧
    ∃ z, (s.readSensor n).thm.sensors = tset {} s.thm.sensors n z ∧ SensorRead s n z := by
  unfold State.readSensor
  extract_lets h ok x y z src s1
  have hz : SensorRead s n z := by
    have hy : SensorRead s n y := by
      unfold y
      split
      next hok => exact ⟨hok.symm, fun _ => rfl, fun hv => Bool.noConfusion hv⟩
      next hok => exact ⟨(Bool.eq_false_iff.mpr hok).symm, fun hv => Bool.noConfusion hv, fun _ => rfl⟩
    obtain ⟨hvalid, htaken, hkept⟩ := hy
    exact ⟨hvalid, htaken, hkept⟩
  split
  · exact ⟨rfl, z, rfl, hz⟩
  · exact ⟨State.raiseLim_adc _ _ _ _, z, congrArg ThmSt.sensors (State.raiseLim_thm _ _ _ _), hz⟩

/-- Every sensor of a list is read, and no other. -/
theorem State.each_readSensor {s : State} {l : List Nat} (hnodup : l.Nodup) (hrise : keysRise 0 s.thm.sensors = true) :
    (∀ k ∈ l, SensorRead s k ((s.each l State.readSensor).sensor k)) ∧
      ∀ k, k ∉ l → (s.each l State.readSensor).sensor k = s.sensor k := by
  induction l generalizing s with
  | nil => exact ⟨fun _ h => absurd h List.not_mem_nil, fun _ _ => rfl⟩
  | cons j rest ih =>
    obtain ⟨hj, hrest⟩ := List.nodup_cons.mp hnodup
    obtain ⟨hadc, z, hsensors, hz⟩ := s.readSensor_sets j
    have hsame : (s.readSensor j).sensor j = z := by
      rw [State.sensor, hsensors]; exact tget_tset_same hrise _ j z
    have hother {k : Nat} (hk : k ≠ j) : (s.readSensor j).sensor k = s.sensor k := by
      rw [State.sensor, hsensors, tget, tget?_tset_ne _ _ hk]; rfl
    obtain ⟨hin, hout⟩ := ih (s := s.readSensor j) hrest (by rw [hsensors]; exact keysRise_tset hrise _ j z)
    refine ⟨fun k hk => ?_, fun k hk => ?_⟩
    · obtain rfl | hk := List.mem_cons.mp hk
      · have hend : (s.each (k :: rest) State.readSensor).sensor k = z := (hout k hj).trans hsame
        rw [hend]; exact hz
      · obtain ⟨hvalid, htaken, hkept⟩ := hin k hk
        rw [hadc] at hvalid htaken
        rw [hother (fun h => hj (h ▸ hk))] at hkept
        exact ⟨hvalid, htaken, hkept⟩
    · obtain ⟨hkj, hkrest⟩ := not_or.mp (mt List.mem_cons.mpr hk)
      exact (hout k hkrest).trans (hother hkj)

/-- The readings and the instant at which they were taken. -/
def State.readings (s : State) : Tbl Sensor × Nat := (s.thm.sensors, s.thm.readAt)

theorem State.readings_of_thm {s t : State} (h : t.thm = s.thm) : t.readings = s.readings := by
  rw [State.readings, State.readings, h]

theorem State.raise_readings (s : State) (code : Nat) (l : List (Nat × Nat)) : (s.raise code l).readings = s.readings :=
  State.readings_of_thm (s.raise_thm code l)

theorem State.setDieState_readings (s : State) (die st : Nat) : (s.setDieState die st).readings = s.readings := by
  rw [State.setDieState]; split <;> rfl

theorem State.setCoolSince_readings (s : State) (die : Nat) (t : Option Nat) :
    (s.setCoolSince die t).readings = s.readings := by
  rw [State.setCoolSince]; split <;> rfl

theorem State.dieRises_readings (s : State) (die level n : Nat) (v : Int) : (s.dieRises die level n v).readings = s.readings := by
  unfold State.dieRises
  dsimp only
  rw [State.setCoolSince_readings, State.setDieState_readings]
  exact State.each_induction (P := fun u => u.readings = s.readings) rfl fun u k _ hu => (u.raise_readings _ _).trans hu

theorem State.dieCools_readings (s : State) (die : Nat) (v : Int) : (s.dieCools die v).readings = s.readings := by
  unfold State.dieCools
  dsimp only
  split
  · rw [State.setCoolSince_readings]
  · split
    · rw [State.setCoolSince_readings]
    · split
      · rfl
      · rw [State.raise_readings, State.setCoolSince_readings, State.setDieState_readings]

theorem State.judgeDie_readings (s : State) (die : Nat) : (s.judgeDie die).readings = s.readings := by
  unfold State.judgeDie
  split
  · rw [State.setCoolSince_readings]
  · next n v _ =>
    extract_lets level src s1 st s2
    have hs1 : s1.readings = s.readings := by unfold s1; split <;> rfl
    have hs2 : s2.readings = s.readings := by
      unfold s2
      split
      · rw [State.dieRises_readings, hs1]
      · split
        · rw [State.dieCools_readings, hs1]
        · exact hs1
    split
    · rw [State.setDieState_readings, hs2]
    · exact hs2

theorem State.fastUpdate_readings (s : State) : s.fastUpdate.readings = s.readings := rfl
theorem State.throttleUpdate_readings (s : State) : s.throttleUpdate.readings = s.readings := rfl

theorem State.thm_of_conduct {s t : State} (h : t.conduct = s.conduct) : t.thm = s.thm := by
  have := congrArg State.thm h; exact this

/-- Step 1 of a shut-down leaves the temperature unit alone. -/
theorem State.shutdownStep1_thm (s : State) : s.shutdownStep1.thm = s.thm := by
  obtain ⟨x, hx⟩ := s.shutdownPreempts_conduct
  have hpre : s.shutdownPreempts.thm = s.thm := (State.thm_of_conduct hx).trans rfl
  by_cases hboot : s.shutdownPreempts.mode.mode = .bootstrap
  · have hstep : s.shutdownStep1.thm = s.shutdownPreempts.thm := by
      unfold State.shutdownStep1
      dsimp only
      rw [if_pos hboot]
      rfl
    exact hstep.trans hpre
  · have hmode : s.mode.mode ≠ .bootstrap := by
      have hkept := congrArg (·.mode.mode) hx
      exact fun hb => hboot (hkept.trans hb)
    obtain ⟨y, hy⟩ := State.shutdownStep1_conduct hmode
    exact (State.thm_of_conduct hy).trans rfl

theorem State.shutDown_readings (s : State) (x : Option Shutdown) :
    State.readings { s with thm := { s.thm with shutdown := x } } = s.readings := rfl

theorem State.readAt_readings (s : State) (n : Nat) :
    State.readings { s with thm := { s.thm with readAt := n } } = (s.thm.sensors, n) := rfl

theorem State.beginShutdown_readings (s : State) (cause dies sensor temp thr : Nat) :
    (s.beginShutdown cause dies sensor temp thr).readings = s.readings := by
  unfold State.beginShutdown
  split
  · rfl
  · dsimp only
    rw [State.shutDown_readings, State.raise_readings, State.readings_of_thm s.shutdownStep1_thm]

/-- What follows from a reading's sensors (R485, R486). -/
def State.judged (s : State) (now : Nat) : State :=
  let s1 := { s with thm := { s.thm with readAt := now } }
  let s2 := ((s1.judgeDie 0).judgeDie 1).fastUpdate.throttleUpdate
  let e := s2.shutSensors 0
  let p := s2.shutSensors 1
  let dies := ofBool (decide (e ≠ [])) + 2 * ofBool (decide (p ≠ []))
  match hottest (if e ≠ [] then e else p) with
  | some (n, v) => s2.beginShutdown 1 dies n (unsigned 16 v) (s2.thmThr (if e ≠ [] then 0 else 1) 2)
  | none => s2

theorem State.takeReading_eq (s : State) : s.takeReading = (s.each (List.range 96) State.readSensor).judged s.clk := by
  unfold State.takeReading
  generalize s.each (List.range 96) State.readSensor = u
  rfl

/-- What is judged from a reading leaves the sensors alone, whatever it brings about. -/
theorem State.judged_readings (s : State) (now : Nat) : (s.judged now).readings = (s.thm.sensors, now) := by
  unfold State.judged
  extract_lets src s1 s2 e p dies
  have hs2 : s2.readings = (s.thm.sensors, now) := by
    unfold s2
    rw [State.throttleUpdate_readings, State.fastUpdate_readings, State.judgeDie_readings, State.judgeDie_readings]
    rfl
  split
  · rw [State.beginShutdown_readings, hs2]
  · exact hs2

theorem State.takeReading_readings (s : State) :
    s.takeReading.readings = ((s.each (List.range 96) State.readSensor).thm.sensors, s.clk) := by
  rw [State.takeReading_eq, State.judged_readings]

theorem exec_thermalReading_off {s : State} (h : s.readingsRun = false) : exec .thermalReading s = .next s := by
  show execThermalReading s = _
  rw [execThermalReading, if_pos h]
  rfl

theorem exec_thermalReading {s : State} {a : Nat} (hrun : s.readingsRun = true) (hat : s.readingAt = some a) :
    exec .thermalReading s = .next (s.waitClk a).takeReading := by
  show execThermalReading s = _
  rw [execThermalReading, if_neg (by rw [hrun]; exact Bool.noConfusion), hat]
  rfl

/-! ### The record of a shut-down, and L5 (R488, R489) -/

theorem exec_shutdownRecordWrite {s : State} {d : Shutdown} (hd : s.thm.shutdown = some d) (hopen : d.recorded = false)
    (hidle : s.nvm.jobs = []) (waited : Nat) :
    exec (.shutdownRecordWrite waited) s = .next (((s.elapse 0).commitShutdown 0).elapse 50000) := by
  show execShutdownRecordWrite waited s = _
  rw [execShutdownRecordWrite, hd]
  dsimp only
  rw [if_neg (by rw [hopen]; exact Bool.noConfusion), hidle]
  dsimp only
  rw [if_pos rfl, Nat.zero_mul]
  rfl

theorem exec_shutdown_none {s : State} (h : s.thm.shutdown = none) (waited : Nat) :
    exec (.shutdownRecordWrite waited) s = .next s ∧ exec .shutdownComplete s = .next s := by
  constructor
  · show execShutdownRecordWrite waited s = _
    rw [execShutdownRecordWrite, h]
    rfl
  · show execShutdownComplete s = _
    rw [execShutdownComplete, h]
    rfl

theorem exec_shutdownComplete {s : State} {d : Shutdown} (hd : s.thm.shutdown = some d) (hdone : d.recorded = true) :
    exec .shutdownComplete s = .next (s.waitClk (d.at_ + 260000)).shutdownToL5 := by
  show execShutdownComplete s = _
  rw [execShutdownComplete, hd]
  dsimp only
  rw [if_pos hdone]
  rfl

/-- The commit of a record whose shut-down is in progress. -/
theorem State.commitShutdown_sets {s : State} {d : Shutdown} (hd : s.thm.shutdown = some d) (waited : Nat) :
    s.commitShutdown waited = { s with
      nvm := { s.nvm with
        records := (withMarker (shutdownBody (s.nvm.recordTotal + 1) d.cause d.dies d.sensor d.mode d.temp d.threshold
          d.power d.time s.cx.evtSeq d.frames d.gen waited) (s.nvm.recordTotal + 1) :: s.nvm.records).take 1024
        recordTotal := s.nvm.recordTotal + 1, slots := s.nvm.slots - 1 }
      ret := { s.ret with shutdownSeen := true }
      thm := { s.thm with shutdown := some { d with recorded := true } } } := by
  unfold State.commitShutdown
  rw [hd]
  exact State.recordSettled_of_shutdown hd

theorem State.clk_of_lessEndpoint {s t : State} (h : t.lessEndpoint = s.lessEndpoint) : t.clk = s.clk := by
  have hclk := congrArg State.clk h
  exact hclk

theorem State.saf_of_lessEndpoint {s t : State} (h : t.lessEndpoint = s.lessEndpoint) : t.saf = s.saf := by
  have hsaf := congrArg State.saf h
  exact hsaf

/-- What L5 leaves after a shut-down. -/
theorem State.shutdownToL5_leaves (s : State) : s.shutdownToL5.pwr.state = 5 ∧ s.shutdownToL5.thm.shutdown = none ∧
    s.shutdownToL5.ret.thermalL5 = true ∧ s.shutdownToL5.cx.linkUp = false ∧ s.shutdownToL5.store = {} ∧
    s.shutdownToL5.nvm.jobs = [] ∧ s.shutdownToL5.obs.staged = [] ∧ s.shutdownToL5.mx.txOn = 0 ∧
    s.shutdownToL5.time.slow = true ∧ s.shutdownToL5.clk = s.clk ∧ s.shutdownToL5.saf = s.saf := by
  have hlink := s.hostLinkLost_link.1
  have hclk := State.clk_of_lessEndpoint s.hostLinkLost_lessEndpoint
  have hsaf := State.saf_of_lessEndpoint s.hostLinkLost_lessEndpoint
  unfold State.shutdownToL5
  generalize s.linkLost_ = u at hlink hclk hsaf
  refine ⟨rfl, rfl, rfl, ?_, rfl, rfl, rfl, rfl, rfl, ?_, ?_⟩
  all_goals
    dsimp only [State.toSafe, State.iklOff, State.photonicOff, State.toSlowClock, State.setUnset, State.withdrawJump]
    assumption

/-! ### The records as they are read (R497) -/

/-- The newest entry of the duplicate window keeps the result's first bytes (R437). -/
theorem State.completeWith_detail {s : State} {tag : CmdTag} (hr : tag.ring < s.cx.rings.length) (hreq : tag.reqId ≠ 0)
    (st : Nat) (d : List (Nat × Nat)) (w : Bool) :
    (((s.completeWith tag st d w).ring tag.ring).window.getLast?).map DupEntry.detail =
      some (padTo 8 (packItems d [])) := by
  unfold State.completeWith
  extract_lets b rec_ good s1 flags s2 g win
  have hs1 : tag.ring < s1.cx.rings.length := by
    unfold s1
    split <;> exact hr
  have hs2 : tag.ring < s2.cx.rings.length := hs1.trans_eq (State.postCompletion_ring hs1 st flags b).2.symm
  rw [State.ring_setRing_same hs2]
  show (win.getLast?).map DupEntry.detail = _
  unfold win
  rw [if_neg hreq, List.getLast?_append]
  rfl

theorem padTo_two_words (a b : Nat) : padTo 8 (packItems [(4, a), (4, b)] []) = leBytes 4 a ++ leBytes 4 b := by
  have hpack : packItems [(4, a), (4, b)] [] = leBytes 4 a ++ leBytes 4 b := by
    simp [packItems, itemAlign, alignUp, zeros, leBytes_length]
  rw [hpack, padTo, List.take_append_of_le_length (by simp [leBytes_length]), List.take_of_length_le (by simp [leBytes_length])]

theorem exec_shutdownRead_bad (s : State) (tag : CmdTag) {n : Nat} (hbad : n = 0 ∨ 64 < n) (out : Nat) :
    exec (.shutdownRead tag n out) s = .next ((s.begin tag 0x0601).complete tag St.badParam) := by
  show execShutdownRead tag n out s = _
  rw [execShutdownRead, State.serve_of_boot s tag (by decide), if_pos (by omega)]
  rfl

theorem exec_shutdownRead (s : State) (tag : CmdTag) {n : Nat} (hpos : 1 ≤ n) (hmax : n ≤ 64) (out : Nat) :
    ∃ w, exec (.shutdownRead tag n out) s = .next (((s.begin tag 0x0601).outData tag out
      (s.nvm.records.take n).flatten).completeWith tag St.ok
        [(4, (s.nvm.records.take n).length), (4, s.nvm.recordTotal)] w) := by
  show ∃ w, execShutdownRead tag n out s = _
  rw [execShutdownRead, State.serve_of_boot s tag (by decide), if_neg (by omega)]
  exact ⟨_, rfl⟩

/-! ### Programs of the flash (R493 to R495) -/

/-- A flash unit to which at most pages of the log have been queued. -/
def PagesQueued (x y : NvmSt) : Prop := ∃ l, y = { x with jobs := x.jobs ++ l } ∧ ∀ i ∈ l, isLogJob i = true

theorem PagesQueued.refl (x : NvmSt) : PagesQueued x x := ⟨[], by rw [List.append_nil], fun _ h => absurd h List.not_mem_nil⟩

theorem PagesQueued.trans {x y z : NvmSt} (hxy : PagesQueued x y) (hyz : PagesQueued y z) : PagesQueued x z := by
  obtain ⟨l, rfl, hl⟩ := hxy
  obtain ⟨r, rfl, hr⟩ := hyz
  exact ⟨l ++ r, by rw [List.append_assoc], fun i hi => (List.mem_append.mp hi).elim (hl i) (hr i)⟩

theorem State.logPages_queues (s : State) : PagesQueued s.nvm s.logPages.nvm := by
  rw [State.logPages]
  split
  · exact ⟨[.logPage (s.obs.staged.take 7)], rfl, fun i hi => by rw [List.mem_singleton.mp hi]; rfl⟩
  · exact .refl _

theorem State.postEvt_queues (s : State) (code fl : Nat) (d : Bytes) : PagesQueued s.nvm (s.postEvt code fl d).nvm := by
  unfold State.postEvt
  extract_lets seq entry src s1 srcObs s2 base s3
  have hs2 : PagesQueued s.nvm s2.nvm := by
    unfold s2
    split
    · exact State.logPages_queues _
    · exact .refl _
  have hs3 : s3.nvm = s2.nvm := by
    unfold s3
    split
    · exact State.coalesce_nvm _ _
    · rfl
  rw [← hs3] at hs2
  split <;> exact hs2

theorem State.raise_queues (s : State) (code : Nat) (l : List (Nat × Nat)) : PagesQueued s.nvm (s.raise code l).nvm := by
  unfold State.raise
  dsimp only
  split
  · exact State.postEvt_queues _ _ _ _
  · exact (State.postEvt_queues _ _ _ _).trans (State.postEvt_queues _ _ _ _)

theorem exec_nvmProgramDone_idle {s : State} (h : s.nvm.jobs = []) (ok : Bool) :
    exec (.nvmProgramDone ok) s = .next s := by
  show execNvmProgramDone ok s = _
  rw [execNvmProgramDone, h]
  rfl

section Job

variable {s : State} {j : FlashJob} {rest : List FlashJob} (hjobs : s.nvm.jobs = j :: rest)
include hjobs

theorem exec_nvmProgramDone_good : exec (.nvmProgramDone true) s = .next
    (State.programmed { s with nvm := { s.nvm with jobs := rest, retried := false } } j).logPages := by
  show execNvmProgramDone true s = _
  rw [execNvmProgramDone, hjobs]
  dsimp only
  rw [if_pos (rfl : true = true), if_neg (fun h => Bool.noConfusion h.1), if_pos (rfl : true = true)]
  rfl

/-- A program that fails for the first time is tried again. -/
theorem exec_nvmProgramDone_retries (hfirst : s.nvm.retried = false) : exec (.nvmProgramDone false) s = .next
    { s.bump Reg.NVM_ERR_WRITE_FAIL 1 with nvm := { s.nvm with retried := true } } := by
  show execNvmProgramDone false s = _
  rw [execNvmProgramDone, hjobs]
  dsimp only
  rw [if_neg Bool.false_ne_true]
  generalize hu : s.bump Reg.NVM_ERR_WRITE_FAIL 1 = u
  have hnvm : u.nvm = s.nvm := by rw [← hu, State.bump_nvm]
  rw [hnvm, if_pos ⟨rfl, hfirst⟩]
  rfl

theorem exec_nvmProgramDone_fails (hagain : s.nvm.retried = true) : exec (.nvmProgramDone false) s = .next
    (State.programFailed { s.bump Reg.NVM_ERR_WRITE_FAIL 1 with nvm := { s.nvm with jobs := rest, retried := false } }
      j).logPages := by
  show execNvmProgramDone false s = _
  rw [execNvmProgramDone, hjobs]
  dsimp only
  rw [if_neg Bool.false_ne_true]
  generalize hu : s.bump Reg.NVM_ERR_WRITE_FAIL 1 = u
  have hnvm : u.nvm = s.nvm := by rw [← hu, State.bump_nvm]
  rw [hnvm, if_neg (fun h => Bool.noConfusion (hagain.symm.trans h.2)), if_neg Bool.false_ne_true]
  rfl

end Job

theorem State.logPages_few {s : State} (h : s.obs.staged.length < 7) : s.logPages = s := by
  rw [State.logPages, if_neg (fun hp => absurd hp.1 h.not_ge)]

theorem State.logPages_canvas (s : State) : s.logPages.canvas = s.canvas := by
  rw [State.logPages]; split <;> rfl

/-- A journal record that failed twice leaves the flash unit with pages of the log to write. -/
theorem State.journalFailed_queues (s : State) :
    PagesQueued { s.nvm with journalFailed := true } (s.programFailed .journal).logPages.nvm ∧
      (s.programFailed .journal).logPages.canvas = s.canvas := by
  obtain ⟨l, hnvm, hl⟩ := s.raise_queues 0x0602 [(1, FlashJob.journal.region)]
  have hfailed : (s.programFailed .journal).nvm =
      { s.nvm with jobs := s.nvm.jobs ++ l, journalFailed := true } := congrArg (fun x : NvmSt => { x with journalFailed := true }) hnvm
  refine ⟨PagesQueued.trans ⟨l, hfailed, hl⟩ (State.logPages_queues _), ?_⟩
  rw [State.logPages_canvas]
  exact s.raise_canvas 0x0602 _

/-- A page joins the log within its sector. -/
theorem State.addLogPage_within {s : State} (h : s.obs.pageCount % 255 ≠ 0) (recs : List EvtRec) : s.addLogPage recs =
    { s with obs := { s.obs with
      pages := s.obs.pages ++ [recs], pageCount := s.obs.pageCount + 1, staged := s.obs.staged.drop recs.length } } := by
  have hwrap : decide (s.obs.pageCount % logPagesPerSector = 0 ∧ logPagesPerSector * logSectors ≤ s.obs.pageCount) = false :=
    decide_eq_false fun hp => h hp.1
  unfold State.addLogPage
  dsimp only
  rw [hwrap]
  rfl

/-- Settles O60: a reading sensor by sensor, a shut-down's record and end, the records read, a program by how it ends. -/
theorem thermalAndFlash : Obligations.ThermalAndFlash := by
  unfold Obligations.ThermalAndFlash
  intro s tag a n out waited d recs j rest
  refine ⟨exec_thermalReading_off, fun hrun hat hwf => ⟨_, exec_thermalReading hrun hat, ?_⟩,
    fun hd hopen hidle => ⟨_, exec_shutdownRecordWrite hd hopen hidle waited, ?_⟩, fun h => exec_shutdown_none h waited,
    fun hd hdone => ⟨_, exec_shutdownComplete hd hdone, ?_⟩, fun hlen => ⟨fun hpos hmax => ?_, fun hbad =>
      ⟨_, exec_shutdownRead_bad s tag hbad out, refused_of_rings hlen tag 0x0601 _ _⟩⟩,
    fun h => exec_nvmProgramDone_idle h true, fun hjobs hsector hfew => ⟨_, exec_nvmProgramDone_good hjobs, ?_⟩,
    fun hjobs hfirst => ⟨_, exec_nvmProgramDone_retries hjobs hfirst, rfl, rfl⟩,
    fun hjobs hagain => ⟨_, exec_nvmProgramDone_fails hjobs hagain, ?_⟩⟩
  · obtain ⟨hread, -⟩ := State.each_readSensor (s := s.waitClk a) (List.nodup_range (n := 96)) (keysRise_of_tblWf hwf)
    obtain ⟨hsensors, hat'⟩ := Prod.mk.inj (State.takeReading_readings (s.waitClk a))
    refine ⟨hat'.trans (s.waitClk_clk a), fun k hk => ?_⟩
    have hsensor : (s.waitClk a).takeReading.sensor k = ((s.waitClk a).each (List.range 96) State.readSensor).sensor k :=
      congrArg (fun t => tget ({} : Sensor) t k) hsensors
    obtain ⟨hvalid, htaken, hkept⟩ := hread k (List.mem_range.mpr hk)
    rw [hsensor]
    exact ⟨hvalid, htaken, hkept⟩
  · rw [State.commitShutdown_sets (s := s.elapse 0) hd]
    exact ⟨rfl, rfl, rfl, rfl, rfl⟩
  · obtain ⟨hpwr, hnone, hl5, hlink, hstore, hjobs, hstaged, htx, hslow, hclk, hsaf⟩ :=
      (s.waitClk (d.at_ + 260000)).shutdownToL5_leaves
    exact ⟨hpwr, hnone, hl5, hlink, hstore, hjobs, hstaged, htx, hslow, hclk.trans (s.waitClk_clk _), hsaf⟩
  · obtain ⟨w, hrun⟩ := exec_shutdownRead s tag hpos hmax out
    have hcx := (s.begin tag 0x0601).outData_cx tag out (s.nvm.records.take n).flatten
    have hlen' : ((s.begin tag 0x0601).outData tag out (s.nvm.records.take n).flatten).cx.rings.length = 16 := by
      rw [hcx]; exact State.begin_rings_length hlen tag _
    refine ⟨_, hrun, answered_of_rings hlen hcx _ _ _,
      exchangeOnly_completeWith ((State.outData_lessExchange _ _ _ _).trans (State.begin_lessExchange _ _ _)) _ _ _ _,
      delivered_of_written hlen hcx (by rw [State.outData_regs, State.begin_regs]) State.begin_outData_host _ _ _,
      fun hreq => ?_⟩
    rw [State.completeWith_detail (by rw [hlen']; exact tag.ring.isLt) hreq, padTo_two_words]
  · have hpage := State.addLogPage_within (s := { s with nvm := { s.nvm with jobs := [], retried := false } }) hsector recs
    have hprogrammed : State.programmed { s with nvm := { s.nvm with jobs := [], retried := false } } (.logPage recs) = _ :=
      hpage
    have hdrop : (s.obs.staged.drop recs.length).length < 7 := by rw [List.length_drop]; omega
    rw [hprogrammed, State.logPages_few hdrop]
    exact ⟨rfl, rfl, rfl, rfl, rfl⟩
  · obtain ⟨⟨l, hnvm, hl⟩, hcanvas⟩ := State.journalFailed_queues { s.bump Reg.NVM_ERR_WRITE_FAIL 1 with
      nvm := { s.nvm with jobs := [], retried := false } }
    rw [hnvm]
    exact ⟨rfl, rfl, hl, rfl, hcanvas⟩

end Sys2Proof.Machine
end

section
/-!
The control units (R470 to R472, R474, R476, R477).
-/

namespace Sys2Proof.Machine

open Sys2Proof.Stated

/-! ### What events and master resets leave of the control units -/

theorem storedField_autoFailover : StoredField Reg.RED_CTL_AUTO_FAILOVER := ⟨by decide, by decide, by decide⟩

/-- From `s` to `t` the control units, the clock, the outputs' hold, the retention, the rings and AUTO_FAILOVER stand. -/
structure SameDuty (s t : State) : Prop where
  red : t.red = s.red
  clk : t.clk = s.clk
  noStandby : t.noStandby = s.noStandby
  ret : t.ret = s.ret
  rings : t.cx.rings = s.cx.rings
  auto : t.fld Reg.RED_CTL_AUTO_FAILOVER = s.fld Reg.RED_CTL_AUTO_FAILOVER

theorem SameDuty.refl (s : State) : SameDuty s s := ⟨rfl, rfl, rfl, rfl, rfl, rfl⟩

theorem SameDuty.trans {s t u : State} (h : SameDuty s t) (k : SameDuty t u) : SameDuty s u :=
  ⟨k.red.trans h.red, k.clk.trans h.clk, k.noStandby.trans h.noStandby, k.ret.trans h.ret, k.rings.trans h.rings,
    k.auto.trans h.auto⟩

theorem State.raise_sameDuty (s : State) (code : Nat) (l : List (Nat × Nat)) : SameDuty s (s.raise code l) :=
  ⟨s.raise_red code l, s.raise_clk code l, s.raise_noStandby code l, s.raise_ret code l, s.raise_rings code l,
    storedField_autoFailover.fld_congr (s.raise_regWord code l (by decide))⟩

section Endpoint

variable {s t : State} (h : t.lessEndpoint = s.lessEndpoint)
include h

theorem State.red_of_lessEndpoint : t.red = s.red := by have := congrArg State.red h; exact this
theorem State.noStandby_of_lessEndpoint : t.noStandby = s.noStandby := by have := congrArg State.noStandby h; exact this
theorem State.ret_of_lessEndpoint : t.ret = s.ret := by have := congrArg State.ret h; exact this

end Endpoint

theorem State.holdMaster_sameDuty (s : State) (m : Nat) : SameDuty s (s.holdMaster m) := by
  obtain ⟨hless, hseries, hregs⟩ := s.holdMaster_leaves m
  exact ⟨State.red_of_lessEndpoint hless, State.clk_of_lessEndpoint hless, State.noStandby_of_lessEndpoint hless,
    State.ret_of_lessEndpoint hless, (CxSt.link_of_lessSeries hseries).2.2.2,
    storedField_autoFailover.fld_congr (hregs _ (by decide) (by decide))⟩

/-- A master that is held is in reset. -/
theorem State.holdMaster_inReset {s : State} {m : Nat} (hm : m < s.bm.masters.length) :
    ((s.holdMaster m).bmMaster m).inReset = true := by
  rw [State.holdMaster]
  split
  next h => exact h
  next =>
    obtain ⟨items, htold⟩ := s.resetMaster_told m
    have hmasters : (s.each (s.heldBy m) State.unlockTarget).bm.masters = s.bm.masters :=
      State.each_induction (P := fun u => u.bm.masters = s.bm.masters) rfl fun u k _ hu => hu
    have hreset : (s.masterOff m).bmMaster m = { inReset := true, drained := false } :=
      lget_lset_same (hm.trans_eq (congrArg List.length hmasters).symm)
    rw [htold, State.bmMaster, State.raise_bm]
    exact congrArg BmMaster.inReset hreset

/-! ### Units -/

theorem State.unit_setUnit_same (s : State) (u : Nat) (x : CuUnit) : (s.setUnit u x).unit u = x := by
  rw [State.setUnit, State.unit]
  split <;> rfl

theorem State.unit_setUnit_ne (s : State) {u v : Nat} (hu : u ≤ 1) (hv : v ≤ 1) (hne : v ≠ u) (x : CuUnit) :
    (s.setUnit u x).unit v = s.unit v := by
  rw [State.setUnit, State.unit, State.unit]
  by_cases h0 : u = 0
  · rw [if_pos h0, if_neg (by omega), if_neg (by omega)]
  · rw [if_neg h0, if_pos (by omega), if_pos (by omega)]

theorem State.setUnit_leaves (s : State) (u : Nat) (x : CuUnit) : (s.setUnit u x).clk = s.clk ∧
    (s.setUnit u x).noStandby = s.noStandby ∧ (s.setUnit u x).ret = s.ret ∧ (s.setUnit u x).cx = s.cx ∧
    (s.setUnit u x).bm = s.bm ∧ (s.setUnit u x).regs = s.regs ∧ (s.setUnit u x).red.activeUnit = s.red.activeUnit ∧
    (s.setUnit u x).red.switching = s.red.switching ∧ ({ s.setUnit u x with red := s.red } : State) = s := by
  rw [State.setUnit]
  split <;> exact ⟨rfl, rfl, rfl, rfl, rfl, rfl, rfl, rfl, rfl⟩

/-- The unit that is marked FAILED (R471). -/
def CuUnit.marked (x : CuUnit) (cause step : Nat) : CuUnit :=
  { x with
    state := .failed, failed := true, cause := cause, step := step, loaded := false
    times := if cause = 1 then min (x.times + 1) 65535 else x.times }

/-- A unit marked FAILED leaves the other's duty, and its master is held. -/
theorem State.failUnit_leaves (s : State) (u cause step : Nat) :
    SameDuty (s.setUnit u ((s.unit u).marked cause step)) (s.failUnit u cause step) := by
  have hheld := State.holdMaster_sameDuty (((s.setUnit u ((s.unit u).marked cause step)).haltUnit u).dropClaim u) u
  obtain ⟨hred, hclk, hstandby, hret, hrings, hauto⟩ := hheld
  exact ⟨hred, hclk, hstandby, hret, hrings, hauto⟩

theorem State.failUnit_inReset {s : State} {u : Nat} (hu : u < s.bm.masters.length) (cause step : Nat) :
    ((s.failUnit u cause step).bmMaster u).inReset = true := by
  have hbm := (s.setUnit_leaves u ((s.unit u).marked cause step)).2.2.2.2.1
  exact State.holdMaster_inReset (s := ((s.setUnit u ((s.unit u).marked cause step)).haltUnit u).dropClaim u)
    (hu.trans_eq (congrArg (fun x : BmSt => x.masters.length) hbm).symm)

/-! ### Heartbeats (R470, R471) -/

/-- The end of the check interval in progress. -/
def State.checkAt (s : State) : Nat := s.loops.periodAt + (s.ptime / 8000 + 1) * 8000

/-- What a check does at the end of its interval. -/
def State.heartbeat (s : State) (toggled : Bool) (t : Nat) : State :=
  let late := match s.red.ckptOverdue with
    | some o => decide (o ≤ t)
    | none => false
  let (lm, lf) := missStep (!toggled) s.red.lineMiss s.red.lineFirst (t - 8000)
  let (cm, cf) := missStep late s.red.ckptMiss s.red.ckptFirst (t - 8000)
  let s2 := { s with red := { s.red with lineMiss := lm, lineFirst := lf, ckptMiss := cm, ckptFirst := cf } }
  if lm = 3 ∧ cm = 3 then s2.declare
  else
    let s3 := s2.pathEvents 0 (!toggled) s2.red.lineDown (lm == 3)
    s3.pathEvents 1 late s3.red.ckptDown (cm == 3)

theorem exec_heartbeatCheck_off {s : State} (h : s.watches = false) (toggled : Bool) :
    exec (.heartbeatCheck toggled) s = .next s := by
  show execHeartbeatCheck toggled s = _
  rw [execHeartbeatCheck, if_pos h]
  rfl

theorem exec_heartbeatCheck {s : State} (h : s.watches = true) (toggled : Bool) :
    exec (.heartbeatCheck toggled) s = .next ((s.waitClk s.checkAt).heartbeat toggled s.checkAt) := by
  show execHeartbeatCheck toggled s = _
  rw [execHeartbeatCheck, if_neg (by rw [h]; exact Bool.noConfusion)]
  rfl

section Check

variable {s : State} (hnone : s.red.ckptOverdue = none) (hline : s.red.lineDown = false) (hckpt : s.red.ckptDown = false)
  (t : Nat)
include hnone hline hckpt

/-- Both paths are heard. -/
theorem State.heartbeat_heard :
    s.heartbeat true t = { s with red := { s.red with lineMiss := 0, ckptMiss := 0 } } := by
  unfold State.heartbeat
  rw [hnone]
  dsimp only [missStep]
  simp [State.pathEvents, hline, hckpt]

/-- The line is silent for the third time, alone. -/
theorem State.heartbeat_lineLost (hmiss : s.red.lineMiss = 2) : ∃ first, s.heartbeat false t =
    State.raiseLim { s with red := { s.red with
      lineMiss := 3, lineFirst := first, ckptMiss := 0, lineDown := true, lineFault := true } } 0x0901 0
      [(1, s.red.activeUnit), (1, 0)] := by
  refine ⟨s.red.lineFirst, ?_⟩
  unfold State.heartbeat
  rw [hnone]
  dsimp only [missStep]
  simp [State.pathEvents, hline, hckpt, hmiss, State.raiseLim_red]

end Check

/-- Both paths have been silent three times: the active unit is declared failed. -/
theorem State.heartbeat_declares {s : State} {a t : Nat} (hlate : s.red.ckptOverdue = some a) (hat : a ≤ t)
    (hline : s.red.lineMiss = 2) (hckpt : s.red.ckptMiss = 2) : s.heartbeat false t =
      State.declare { s with red := { s.red with lineMiss := 3, ckptMiss := 3 } } := by
  unfold State.heartbeat
  rw [hlate]
  dsimp only
  rw [decide_eq_true hat, hline, hckpt]
  rfl

/-- The state in which the active unit has been marked FAILED, and told (R471). -/
def State.told903 (s : State) : State :=
  let u := s.red.activeUnit
  let s1 := s.failUnit u 1 0
  let first := max s1.red.lineFirst s1.red.ckptFirst
  let s2 := { s1 with red := { s1.red with
    lineMiss := 0, ckptMiss := 0, ckptOverdue := none, gapOpen := true, declareUs := (s1.clk - first) / 1000 } }
  s2.raise 0x0903 [(1, u), (1, 1 - u), (4, (s2.lastCheckpoint.map Checkpoint.seq).getD 0)]

theorem State.unit_congr {s t : State} (ha : t.red.a = s.red.a) (hb : t.red.b = s.red.b) (u : Nat) : t.unit u = s.unit u := by
  rw [State.unit, State.unit, ha, hb]

/-- The units, the outputs and AUTO_FAILOVER as the active unit has been marked FAILED. -/
theorem State.told903_leaves (s : State) :
    (∀ u, s.told903.unit u = (s.setUnit s.red.activeUnit ((s.unit s.red.activeUnit).marked 1 0)).unit u) ∧
      s.told903.noStandby = s.noStandby ∧
      s.told903.fld Reg.RED_CTL_AUTO_FAILOVER = s.fld Reg.RED_CTL_AUTO_FAILOVER := by
  obtain ⟨hred, -, hstandby, -, -, hauto⟩ := s.failUnit_leaves s.red.activeUnit 1 0
  obtain ⟨-, hstandby', -, -, -, hregs, -, -, -⟩ := s.setUnit_leaves s.red.activeUnit ((s.unit s.red.activeUnit).marked 1 0)
  rw [State.fld_congr hregs] at hauto
  unfold State.told903
  extract_lets u s1 first src s2
  obtain ⟨hred', -, hstandby'', -, -, hauto'⟩ :=
    s2.raise_sameDuty 0x0903 [(1, u), (1, 1 - u), (4, (s2.lastCheckpoint.map Checkpoint.seq).getD 0)]
  refine ⟨fun v => ?_, hstandby''.trans (hstandby.trans hstandby'), hauto'.trans hauto⟩
  have ha : s2.red.a = (s.setUnit s.red.activeUnit ((s.unit s.red.activeUnit).marked 1 0)).red.a := by
    have h := congrArg RedSt.a hred; exact h
  have hb : s2.red.b = (s.setUnit s.red.activeUnit ((s.unit s.red.activeUnit).marked 1 0)).red.b := by
    have h := congrArg RedSt.b hred; exact h
  exact State.unit_congr ((congrArg RedSt.a hred').trans ha) ((congrArg RedSt.b hred').trans hb) v

theorem State.declare_eq {s : State} (hnone : s.red.restore = none) : s.declare =
    if s.told903.flag Reg.RED_CTL_AUTO_FAILOVER = false ∨ (s.told903.unit (1 - s.red.activeUnit)).state ≠ .standby then
      s.told903.noStandbyNow s.red.activeUnit
    else
      let s4 := (s.told903.setUnit (1 - s.red.activeUnit)
        { s.told903.unit (1 - s.red.activeUnit) with state := .starting }).freeMaster (1 - s.red.activeUnit)
      { s4 with red := { s4.red with switching := some (.failover s4.clk) } } := by
  have hend : s.endRestore St.aborted = s := by rw [State.endRestore, hnone]
  unfold State.declare
  rw [hend]
  rfl

/-- What a failover leaves (R471): the failed unit, and the standby that starts, or the outputs held. -/
theorem State.declare_leaves {s : State} {u o : Nat} (hu : s.red.activeUnit = u) (ho : o = 1 - u) (hle : u ≤ 1)
    (hnone : s.red.restore = none) :
    (s.declare.unit u).state = .failed ∧ (s.declare.unit u).cause = 1 ∧
      (s.flag Reg.RED_CTL_AUTO_FAILOVER = true → (s.unit o).state = .standby →
        (s.declare.unit o).state = .starting ∧ s.declare.red.switching = some (.failover s.declare.clk) ∧
        s.declare.noStandby = s.noStandby) ∧
      (s.flag Reg.RED_CTL_AUTO_FAILOVER = false ∨ (s.unit o).state ≠ .standby →
        s.declare.noStandby = true ∧ s.declare.red.switching = none) := by
  obtain ⟨hunits, hstandby, hauto⟩ := s.told903_leaves
  rw [State.declare_eq hnone, hu, ← ho]
  rw [hu] at hunits
  have hflag : s.told903.flag Reg.RED_CTL_AUTO_FAILOVER = s.flag Reg.RED_CTL_AUTO_FAILOVER := by
    rw [State.flag, State.flag, hauto]
  have hother : s.told903.unit o = s.unit o := (hunits o).trans (s.unit_setUnit_ne hle (by omega) (by omega) _)
  have hfailed : s.told903.unit u = (s.unit u).marked 1 0 := (hunits u).trans (s.unit_setUnit_same u _)
  rw [hflag, hother]
  generalize s.told903 = v at hunits hstandby hflag hother hfailed ⊢
  split
  next hstuck =>
    obtain ⟨hred, -, hout, -, -, -⟩ :=
      State.raise_sameDuty { v with noStandby := true, red := { v.red with switching := none } } 0x0905 [(1, u)]
    have hunit : (v.noStandbyNow u).unit u = v.unit u :=
      State.unit_congr (congrArg RedSt.a hred) (congrArg RedSt.b hred) u
    rw [hunit, hfailed]
    refine ⟨rfl, rfl, fun hon hready => ?_, fun _ => ⟨hout, congrArg RedSt.switching hred⟩⟩
    exact absurd hstuck (not_or.mpr ⟨by rw [hon]; exact Bool.noConfusion, fun h => h hready⟩)
  next hgo =>
    obtain ⟨-, hready⟩ := not_or.mp hgo
    have hkept := (v.unit_setUnit_ne (u := o) (v := u) (by omega) hle (by omega) { s.unit o with state := .starting }).trans
      hfailed
    have hstarts := v.unit_setUnit_same o { s.unit o with state := .starting }
    obtain ⟨-, hout, -⟩ := v.setUnit_leaves o { s.unit o with state := .starting }
    refine ⟨congrArg CuUnit.state hkept, congrArg CuUnit.cause hkept, fun _ _ =>
      ⟨congrArg CuUnit.state hstarts, rfl, hout.trans hstandby⟩, fun hstuck => absurd hstuck hgo⟩

/-! ### Planned switch-over (R476) -/

section Switch

variable {s : State} (hs : Serves s) (tag : CmdTag)
include hs

theorem exec_cuSwitch_powerState (hpwr : 1 < s.pwr.state) :
    exec (.cuSwitch tag) s = .next ((s.begin tag 0x0902).complete tag St.powerState) := by
  show execCuSwitch tag s = _
  rw [execCuSwitch, State.serve_eq hs]
  dsimp only
  rw [if_pos (by rw [State.begin_pwr]; exact hpwr)]
  rfl

variable (hpwr : s.pwr.state ≤ 1)
include hpwr

theorem exec_cuSwitch_busy (hbusy : s.red.switching ≠ none) :
    exec (.cuSwitch tag) s = .next ((s.begin tag 0x0902).complete tag St.busy) := by
  show execCuSwitch tag s = _
  rw [execCuSwitch, State.serve_eq hs]
  dsimp only
  rw [if_neg (by rw [State.begin_pwr]; omega), if_pos (.inl (by rw [State.begin_red]; exact Option.isSome_iff_ne_none.mpr hbusy))]
  rfl

variable (hidle : s.red.switching = none) (hrestore : s.red.restore = none)
include hidle hrestore

omit hs hpwr in
theorem State.begin_switches : ¬ ((s.begin tag 0x0902).red.switching.isSome = true ∨ (s.begin tag 0x0902).red.restore.isSome = true) := by
  rw [State.begin_red, hidle, hrestore]
  simp

theorem exec_cuSwitch_wrongRole (hother : (s.unit (1 - s.red.activeUnit)).state ≠ .standby) :
    exec (.cuSwitch tag) s = .next ((s.begin tag 0x0902).complete tag St.wrongRole) := by
  show execCuSwitch tag s = _
  rw [execCuSwitch, State.serve_eq hs]
  dsimp only
  rw [if_neg (by rw [State.begin_pwr]; omega), if_neg (State.begin_switches tag hidle hrestore), if_pos (.inl hother)]
  rfl

theorem exec_cuSwitch_starts (hother : (s.unit (1 - s.red.activeUnit)).state = .standby)
    (hactive : (s.unit s.red.activeUnit).state = .active) : exec (.cuSwitch tag) s = .next
      { ((s.begin tag 0x0902).setUnit (1 - s.red.activeUnit)
          { s.unit (1 - s.red.activeUnit) with state := .starting }).freeMaster (1 - s.red.activeUnit) with
        red := { ((s.begin tag 0x0902).setUnit (1 - s.red.activeUnit)
          { s.unit (1 - s.red.activeUnit) with state := .starting }).red with
          switching := some (.planned tag false false) } } := by
  have hready : ¬ (((s.begin tag 0x0902).unit (1 - (s.begin tag 0x0902).red.activeUnit)).state ≠ .standby ∨
      (s.begin tag 0x0902).unitActive = false) := by
    have hon : (s.begin tag 0x0902).unitActive = true := beq_iff_eq.mpr hactive
    rintro (h | h)
    · exact h hother
    · exact Bool.noConfusion (hon.symm.trans h)
  show execCuSwitch tag s = _
  rw [execCuSwitch, State.serve_eq hs]
  dsimp only
  rw [if_neg (by rw [State.begin_pwr]; omega), if_neg (State.begin_switches tag hidle hrestore), if_neg hready]
  rfl

end Switch

/-! ### Restore (R477) -/

section Restore

variable {s : State} (hs : Serves s) (tag : CmdTag) {u : Nat}
include hs

theorem exec_cuRestore_badParam (hu : 1 < u) :
    exec (.cuRestore tag u) s = .next ((s.begin tag 0x0901).complete tag St.badParam) := by
  show execCuRestore tag u s = _
  rw [execCuRestore, State.serve_eq hs, if_pos hu]
  rfl

variable (hu : u ≤ 1)
include hu

theorem exec_cuRestore_wrongRole (hactive : (s.unit u).state = .active) :
    exec (.cuRestore tag u) s = .next ((s.begin tag 0x0901).complete tag St.wrongRole) := by
  show execCuRestore tag u s = _
  rw [execCuRestore, State.serve_eq hs, if_neg (by omega)]
  dsimp only
  rw [if_pos (.inl hactive)]
  rfl

variable (hpwr : s.pwr.state = 0) (hidle : s.red.switching = none) (hrestore : s.red.restore = none)
include hpwr hidle hrestore

/-- A unit that is neither ACTIVE nor STARTING: a standby is restored already, another is tested. -/
theorem exec_cuRestore {x : UnitState} (hstate : (s.unit u).state = x) (hrest : x ≠ .active ∧ x ≠ .starting) :
    exec (.cuRestore tag u) s = .next (if x = .standby then (s.begin tag 0x0901).complete tag St.ok
      else { (s.begin tag 0x0901).setUnit u { s.unit u with state := .testing } with
        red := { ((s.begin tag 0x0901).setUnit u { s.unit u with state := .testing }).red with
          restore := some (u, some tag) } }) := by
  have hstate' : ((s.begin tag 0x0901).unit u).state = x := hstate
  have hquiet : ¬ ((s.begin tag 0x0901).red.switching.isSome = true ∨ (s.begin tag 0x0901).red.restore.isSome = true) := by
    rw [State.begin_red, hidle, hrestore]
    simp
  show execCuRestore tag u s = _
  rw [execCuRestore, State.serve_eq hs, if_neg (by omega)]
  dsimp only
  rw [hstate', if_neg (not_or.mpr hrest), if_neg hquiet, if_neg (by rw [State.begin_pwr]; omega)]
  rfl

end Restore

theorem exec_cuRestored_none {s : State} (h : s.red.restore = none) (k : Option Nat) : exec (.cuRestored k) s = .next s := by
  show execCuRestored k s = _
  rw [execCuRestored, h]
  rfl

/-- The state in which no restore runs any longer. -/
def State.restoreOver (s : State) : State := { s with red := { s.red with restore := none } }

section Restored

variable {s : State} {u : Nat} {tag : CmdTag} (hrestore : s.red.restore = some (u, some tag))
include hrestore

theorem exec_cuRestored_passed : exec (.cuRestored none) s = .next
    ((((s.restoreOver.setUnit u { s.unit u with state := .standby, failed := false, loaded := true }).loadProgram u).raise
      0x0907 [(1, u)]).complete tag St.ok) := by
  show execCuRestored none s = _
  rw [execCuRestored, hrestore]
  rfl

theorem exec_cuRestored_failed (k : Nat) : exec (.cuRestored (some k)) s = .next
    (((s.restoreOver.failUnit u 4 k).raise 0x0908 [(1, u), (1, k)]).complete tag St.aborted) := by
  show execCuRestored (some k) s = _
  rw [execCuRestored, hrestore]
  rfl

end Restored

/-- A completion outside a command's own step answers it on its ring. -/
theorem answered_of_sameRings {s u : State} (hlen : s.cx.rings.length = 16) (hrings : u.cx.rings = s.cx.rings) (tag : CmdTag)
    (st : Nat) (d : List (Nat × Nat)) : Answered s (u.complete tag st d) tag st := by
  obtain ⟨hdev, hwin⟩ := State.completeWith_answered (s := u) (tag := tag) (by rw [hrings]; omega) st d false
  rw [State.ring_congr hrings] at hdev
  exact ⟨hdev, hwin⟩

theorem State.loadProgram_leaves (s : State) (u : Nat) : SameDuty s (s.loadProgram u) ∧
    (s.loadProgram u).programOf u = s.section 8 := by
  unfold State.loadProgram State.programOf
  dsimp only
  split
  · exact ⟨⟨rfl, rfl, rfl, rfl, rfl, rfl⟩, rfl⟩
  · exact ⟨⟨rfl, rfl, rfl, rfl, rfl, rfl⟩, rfl⟩

theorem State.programOf_congr {s t : State} (h : t.eng = s.eng) (u : Nat) : t.programOf u = s.programOf u := by
  rw [State.programOf, State.programOf, h]

/-! ### The starting unit (R471, R476) -/

/-- What loading a checkpoint, or taking the memories as they stand, leaves of the units. -/
theorem State.resumeFrom_sameDuty (s : State) : SameDuty s s.resumeFrom := by
  unfold State.resumeFrom
  split
  next c _ =>
    unfold State.loadCheckpoint
    exact State.each_induction (P := SameDuty s) ⟨rfl, rfl, rfl, rfl, rfl, rfl⟩ fun u e _ hu =>
      hu.trans ⟨rfl, rfl, rfl, rfl, rfl, rfl⟩
  next =>
    dsimp only
    refine SameDuty.trans (State.each_induction (P := SameDuty s) (.refl s) fun u c _ hu => ?_)
      (State.raise_sameDuty _ _ _)
    split
    · exact hu
    · exact hu.trans ⟨rfl, rfl, rfl, rfl, rfl, rfl⟩

theorem State.waitClk_duty (s : State) (t : Nat) : (s.waitClk t).red = s.red ∧ (s.waitClk t).noStandby = s.noStandby ∧
    (s.waitClk t).ret = s.ret ∧ (s.waitClk t).regs = s.regs ∧ (s.waitClk t).loops = s.loops :=
  ⟨rfl, rfl, rfl, rfl, rfl⟩

theorem exec_startingUnitClaim_idle {s : State} (h : s.red.switching = none) (k : Option Nat) :
    exec (.startingUnitClaim k) s = .next s := by
  show execStartingUnitClaim k s = _
  rw [execStartingUnitClaim, h]
  rfl

/-- What the starting unit does once it may claim the outputs. -/
def State.claims (s : State) : Option Nat → State
  | some k => s.startFails k
  | none => s.resumeFrom.issueClaim

section Claim

variable {s : State} (hfree : s.red.claimed = false)
include hfree

theorem exec_startingUnitClaim_failover {d : Nat} (h : s.red.switching = some (.failover d)) (k : Option Nat) :
    exec (.startingUnitClaim k) s = .next ((s.waitClk (d + 100000)).claims k) := by
  show execStartingUnitClaim k s = _
  rw [execStartingUnitClaim, h]
  dsimp only
  rw [if_neg (by rw [hfree]; exact Bool.noConfusion)]
  cases k with
  | none => rfl
  | some k => rfl

theorem exec_startingUnitClaim_planned {tag : CmdTag} {b : Bool} (h : s.red.switching = some (.planned tag b true))
    (k : Option Nat) : exec (.startingUnitClaim k) s = .next ((s.waitClk (s.loops.periodAt + 40000)).claims k) := by
  show execStartingUnitClaim k s = _
  rw [execStartingUnitClaim, h]
  dsimp only
  rw [if_neg (by rw [hfree]; exact Bool.noConfusion)]
  cases k with
  | none => rfl
  | some k => rfl

end Claim

/-- A claim that is issued, from what the memories held. -/
theorem State.claims_issued (s : State) : (s.claims none).clk = s.clk ∧ (s.claims none).red.claimed = true ∧
    (s.claims none).ret.lastClaim = (s.ret.lastClaim + 1) % 65536 ∧
    (s.claims none).red.activeUnit = s.red.activeUnit := by
  obtain ⟨hred, hclk, -, hret, -, -⟩ := s.resumeFrom_sameDuty
  have hactive := congrArg RedSt.activeUnit hred
  exact ⟨hclk, rfl, congrArg (fun r : Retention => (r.lastClaim + 1) % 65536) hret, hactive⟩

/-- A standby that does not start in a failover: it is FAILED, and there is no standby. -/
theorem State.claims_failed {s : State} {d o : Nat} (h : s.red.switching = some (.failover d)) (ho : o = 1 - s.red.activeUnit)
    (k : Nat) : ((s.claims (some k)).unit o).state = .failed ∧ ((s.claims (some k)).unit o).cause = 3 ∧
      ((s.claims (some k)).unit o).step = k ∧ (s.claims (some k)).noStandby = true ∧
      (s.claims (some k)).red.switching = none ∧ (s.claims (some k)).clk = s.clk := by
  have hclaims : s.claims (some k) = (s.failUnit o 3 k).noStandbyNow o := by
    show s.startFails k = _
    rw [State.startFails, h, ho]
  obtain ⟨hred, hclk, -⟩ := s.failUnit_leaves o 3 k
  obtain ⟨hclk', -⟩ := s.setUnit_leaves o ((s.unit o).marked 3 k)
  obtain ⟨hred', hclk'', hout, -⟩ := State.raise_sameDuty
    { s.failUnit o 3 k with noStandby := true, red := { (s.failUnit o 3 k).red with switching := none } } 0x0905 [(1, o)]
  have hunit : ((s.failUnit o 3 k).noStandbyNow o).unit o = (s.unit o).marked 3 k :=
    calc ((s.failUnit o 3 k).noStandbyNow o).unit o
        = (s.failUnit o 3 k).unit o := State.unit_congr (congrArg RedSt.a hred') (congrArg RedSt.b hred') o
      _ = (s.setUnit o ((s.unit o).marked 3 k)).unit o := State.unit_congr (congrArg RedSt.a hred) (congrArg RedSt.b hred) o
      _ = _ := s.unit_setUnit_same o _
  rw [hclaims, hunit]
  exact ⟨rfl, rfl, rfl, hout, congrArg RedSt.switching hred', hclk''.trans (hclk.trans hclk')⟩

/-! ### The clauses -/

theorem State.watches_idle {s : State} (h : s.watches = true) : s.red.switching = none := by
  rw [State.watches, Bool.and_eq_true] at h
  exact Option.isNone_iff_eq_none.mp h.2

theorem State.checkAt_of_started {s : State} (h : s.loops.periodAt ≤ s.clk) : s.clk ≤ s.checkAt := by
  rw [State.checkAt, State.ptime]
  omega

/-- Both paths are heard (R470). -/
theorem heartbeat_both_heard {s : State} (hw : s.watches = true) (hnone : s.red.ckptOverdue = none)
    (hline : s.red.lineDown = false) (hckpt : s.red.ckptDown = false) : ∃ t, exec (.heartbeatCheck true) s = .next t ∧
      t.clk = max s.clk (s.loops.periodAt + (s.ptime / 8000 + 1) * 8000) ∧
      t.red = { s.red with lineMiss := 0, ckptMiss := 0 } ∧ TimeOnly s { t with red := s.red } := by
  have hclk := s.waitClk_clk s.checkAt
  have htime : TimeOnly s { s.waitClk s.checkAt with red := s.red } := rfl
  obtain ⟨hred, -⟩ := s.waitClk_duty s.checkAt
  rw [exec_heartbeatCheck hw]
  generalize s.waitClk s.checkAt = v at hclk htime hred ⊢
  rw [v.heartbeat_heard (by rw [hred, hnone]) (by rw [hred, hline]) (by rw [hred, hckpt])]
  exact ⟨_, rfl, hclk, congrArg (fun r : RedSt => { r with lineMiss := 0, ckptMiss := 0 }) hred, htime⟩

/-- The line is lost, alone (R471). -/
theorem heartbeat_line_lost {s : State} (hw : s.watches = true) (hnone : s.red.ckptOverdue = none)
    (hline : s.red.lineDown = false) (hckpt : s.red.ckptDown = false) (hmiss : s.red.lineMiss = 2) : ∃ t,
      exec (.heartbeatCheck false) s = .next t ∧ t.red.lineMiss = 3 ∧ t.red.ckptMiss = 0 ∧ t.red.lineDown = true ∧
      t.red.lineFault = true ∧ t.red.switching = none ∧ t.red.activeUnit = s.red.activeUnit ∧
      t.noStandby = s.noStandby := by
  obtain ⟨hred, hout, -⟩ := s.waitClk_duty s.checkAt
  rw [exec_heartbeatCheck hw]
  generalize s.waitClk s.checkAt = v at hred hout ⊢
  obtain ⟨first, hlost⟩ := v.heartbeat_lineLost (by rw [hred, hnone]) (by rw [hred, hline]) (by rw [hred, hckpt])
    s.checkAt (by rw [hred, hmiss])
  have hswitch : v.red.switching = none := by rw [hred, State.watches_idle hw]
  have hactive : v.red.activeUnit = s.red.activeUnit := congrArg RedSt.activeUnit hred
  rw [hlost]
  refine ⟨_, rfl, ?_⟩
  rw [State.raiseLim_red, State.raiseLim_noStandby]
  exact ⟨rfl, rfl, rfl, rfl, hswitch, hactive, hout⟩

/-- Both paths are lost: the active unit is declared failed (R471). -/
theorem heartbeat_failover {s : State} {o a : Nat} (hle : s.red.activeUnit ≤ 1) (ho : o = 1 - s.red.activeUnit)
    (hw : s.watches = true) (hline : s.red.lineMiss = 2) (hckpt : s.red.ckptMiss = 2) (hlate : s.red.ckptOverdue = some a)
    (hat : a ≤ s.clk) (hperiod : s.loops.periodAt ≤ s.clk) (hnone : s.red.restore = none) : ∃ t,
      exec (.heartbeatCheck false) s = .next t ∧
      (t.unit s.red.activeUnit).state = .failed ∧ (t.unit s.red.activeUnit).cause = 1 ∧
      (s.flag Reg.RED_CTL_AUTO_FAILOVER = true → (s.unit o).state = .standby →
        (t.unit o).state = .starting ∧ t.red.switching = some (.failover t.clk) ∧ t.noStandby = s.noStandby) ∧
      (s.flag Reg.RED_CTL_AUTO_FAILOVER = false ∨ (s.unit o).state ≠ .standby →
        t.noStandby = true ∧ t.red.switching = none) := by
  obtain ⟨hred, hout, -, hregs, -⟩ := s.waitClk_duty s.checkAt
  have hflag := State.flag_congr hregs Reg.RED_CTL_AUTO_FAILOVER
  have hunit : (s.waitClk s.checkAt).unit o = s.unit o := State.unit_congr (congrArg RedSt.a hred) (congrArg RedSt.b hred) o
  rw [exec_heartbeatCheck hw]
  generalize s.waitClk s.checkAt = v at hred hout hflag hunit ⊢
  rw [State.heartbeat_declares (by rw [hred, hlate]) (hat.trans (State.checkAt_of_started hperiod)) (by rw [hred, hline])
    (by rw [hred, hckpt])]
  have hactive : v.red.activeUnit = s.red.activeUnit := congrArg RedSt.activeUnit hred
  have hrestore : v.red.restore = none := (congrArg RedSt.restore hred).trans hnone
  have hstates := State.declare_leaves (s := { v with red := { v.red with lineMiss := 3, ckptMiss := 3 } }) hactive ho hle
    hrestore
  have hflag' : State.flag { v with red := { v.red with lineMiss := 3, ckptMiss := 3 } } Reg.RED_CTL_AUTO_FAILOVER =
    s.flag Reg.RED_CTL_AUTO_FAILOVER := hflag
  have hunit' : State.unit { v with red := { v.red with lineMiss := 3, ckptMiss := 3 } } o = s.unit o := hunit
  rw [hflag', hunit'] at hstates
  obtain ⟨hfailed, hcause, hover, hstuck⟩ := hstates
  exact ⟨_, rfl, hfailed, hcause, fun hon hready => ⟨(hover hon hready).1, (hover hon hready).2.1,
    (hover hon hready).2.2.trans hout⟩, hstuck⟩

/-- A planned switch-over begins: the standby starts, out of its reset (R476). -/
theorem cuSwitch_begins {s : State} {tag : CmdTag} {o : Nat} (hs : Serves s) (hle : s.red.activeUnit ≤ 1)
    (ho : o = 1 - s.red.activeUnit) (hlen : s.bm.masters.length = 8) (hpwr : s.pwr.state ≤ 1)
    (hrestore : s.red.restore = none) (hidle : s.red.switching = none) (hother : (s.unit o).state = .standby)
    (hactive : (s.unit s.red.activeUnit).state = .active) : ∃ t, exec (.cuSwitch tag) s = .next t ∧
      t.red.switching = some (.planned tag false false) ∧ (t.unit o).state = .starting ∧
      t.unit s.red.activeUnit = s.unit s.red.activeUnit ∧ (t.bmMaster o).inReset = false ∧
      { t with red := s.red, bm := s.bm, cx := s.cx } = s := by
  subst ho
  refine ⟨_, exec_cuSwitch_starts hs tag hpwr hidle hrestore hother hactive, rfl, ?_, ?_, ?_, ?_⟩
  · exact congrArg CuUnit.state ((s.begin tag 0x0902).unit_setUnit_same (1 - s.red.activeUnit) _)
  · exact (s.begin tag 0x0902).unit_setUnit_ne (by omega) hle (by omega) _
  · have hbm : ((s.begin tag 0x0902).setUnit (1 - s.red.activeUnit)
        { s.unit (1 - s.red.activeUnit) with state := .starting }).bm = s.bm :=
      ((s.begin tag 0x0902).setUnit_leaves _ _).2.2.2.2.1.trans (s.begin_bm tag 0x0902)
    refine congrArg BmMaster.inReset (lget_lset_same ?_)
    rw [hbm]
    omega
  · obtain ⟨-, -, -, -, -, -, -, -, hrest⟩ := (s.begin tag 0x0902).setUnit_leaves (1 - s.red.activeUnit)
      { s.unit (1 - s.red.activeUnit) with state := .starting }
    exact congrArg (fun x : State => { x with red := s.red, bm := s.bm, cx := s.cx }) hrest

/-- A failed unit is tested (R477). -/
theorem cuRestore_tests {s : State} {tag : CmdTag} {u : Nat} (hs : Serves s) (hu : u ≤ 1) (hpwr : s.pwr.state = 0)
    (hidle : s.red.switching = none) (hrestore : s.red.restore = none) (hfailed : (s.unit u).state = .failed) : ∃ t,
      exec (.cuRestore tag u) s = .next t ∧ (t.unit u).state = .testing ∧ t.red.restore = some (u, some tag) ∧
      { t with red := s.red, cx := s.cx } = s := by
  rw [exec_cuRestore hs tag hu hpwr hidle hrestore hfailed (by decide), if_neg (by decide)]
  refine ⟨_, rfl, congrArg CuUnit.state ((s.begin tag 0x0901).unit_setUnit_same u _), rfl, ?_⟩
  obtain ⟨-, -, -, -, -, -, -, -, hrest⟩ := (s.begin tag 0x0901).setUnit_leaves u { s.unit u with state := .testing }
  exact congrArg (fun x : State => { x with red := s.red, cx := s.cx }) hrest

/-- A standby is restored already. -/
theorem cuRestore_standby {s : State} {tag : CmdTag} {u : Nat} (hs : Serves s) (hu : u ≤ 1) (hpwr : s.pwr.state = 0)
    (hidle : s.red.switching = none) (hrestore : s.red.restore = none) (hready : (s.unit u).state = .standby) : ∃ t,
      exec (.cuRestore tag u) s = .next t ∧ Answered s t tag St.ok ∧ ExchangeOnly s t := by
  rw [exec_cuRestore hs tag hu hpwr hidle hrestore hready (by decide), if_pos rfl]
  exact ⟨_, rfl, refused_of_begun hs tag _ _ _⟩

/-- A unit that passes its test returns to STANDBY with its program (R477). -/
theorem cuRestored_passes {s : State} {tag : CmdTag} {u : Nat} (hlen : s.cx.rings.length = 16)
    (hrestore : s.red.restore = some (u, some tag)) : ∃ t, exec (.cuRestored none) s = .next t ∧ t.red.restore = none ∧
      (t.unit u).state = .standby ∧ (t.unit u).failed = false ∧ (t.unit u).loaded = true ∧
      t.programOf u = s.section 8 ∧ Answered s t tag St.ok := by
  have hsame := s.restoreOver.unit_setUnit_same u { s.unit u with state := .standby, failed := false, loaded := true }
  obtain ⟨-, -, -, hcx, -, -, -, -, hrest⟩ := s.restoreOver.setUnit_leaves u
    { s.unit u with state := .standby, failed := false, loaded := true }
  have hnone : (s.restoreOver.setUnit u { s.unit u with state := .standby, failed := false, loaded := true }).red.restore = none := by
    rw [State.setUnit]
    split <;> rfl
  have hsection : (s.restoreOver.setUnit u
      { s.unit u with state := .standby, failed := false, loaded := true }).section 8 = s.section 8 :=
    have hprogram := congrArg (fun x : State => x.section 8) hrest
    hprogram
  rw [exec_cuRestored_passed hrestore]
  generalize s.restoreOver.setUnit u { s.unit u with state := .standby, failed := false, loaded := true } = v
    at hsame hcx hnone hsection ⊢
  obtain ⟨⟨hred, -, -, -, hrings, -⟩, hprog⟩ := v.loadProgram_leaves u
  obtain ⟨hred', -, -, -, hrings', -⟩ := (v.loadProgram u).raise_sameDuty 0x0907 [(1, u)]
  have hall := (State.complete_red ((v.loadProgram u).raise 0x0907 [(1, u)]) tag St.ok []).trans (hred'.trans hred)
  have heng := (State.complete_eng ((v.loadProgram u).raise 0x0907 [(1, u)]) tag St.ok []).trans
    (State.raise_eng (v.loadProgram u) 0x0907 [(1, u)])
  have hunit := (State.unit_congr (congrArg RedSt.a hall) (congrArg RedSt.b hall) u).trans hsame
  refine ⟨_, rfl, (congrArg RedSt.restore hall).trans hnone, ?_, ?_, ?_,
    (State.programOf_congr heng u).trans (hprog.trans hsection),
    answered_of_sameRings hlen (hrings'.trans (hrings.trans (congrArg CxSt.rings hcx))) tag _ _⟩
  · rw [hunit]
  · rw [hunit]
  · rw [hunit]

/-- A unit that fails its test stays FAILED, in reset (R477). -/
theorem cuRestored_fails {s : State} {tag : CmdTag} {u : Nat} (k : Nat) (hlen : s.cx.rings.length = 16)
    (hmasters : s.bm.masters.length = 8) (hu : u ≤ 1) (hrestore : s.red.restore = some (u, some tag)) : ∃ t,
      exec (.cuRestored (some k)) s = .next t ∧ t.red.restore = none ∧ (t.unit u).state = .failed ∧
      (t.unit u).cause = 4 ∧ (t.unit u).step = k ∧ (t.bmMaster u).inReset = true ∧ Answered s t tag St.aborted := by
  obtain ⟨hred, -, -, -, hrings, -⟩ := s.restoreOver.failUnit_leaves u 4 k
  have hreset := State.failUnit_inReset (s := s.restoreOver) (u := u) (hmasters.symm ▸ by omega) 4 k
  have hsame := s.restoreOver.unit_setUnit_same u ((s.restoreOver.unit u).marked 4 k)
  obtain ⟨-, -, -, hcx, -⟩ := s.restoreOver.setUnit_leaves u ((s.restoreOver.unit u).marked 4 k)
  have hnone : (s.restoreOver.setUnit u ((s.restoreOver.unit u).marked 4 k)).red.restore = none := by
    rw [State.setUnit]
    split <;> rfl
  rw [exec_cuRestored_failed hrestore]
  generalize hv : s.restoreOver.setUnit u ((s.restoreOver.unit u).marked 4 k) = v at hred hrings hsame hcx hnone
  generalize s.restoreOver.failUnit u 4 k = w at hred hrings hreset ⊢
  obtain ⟨hred', -, -, -, hrings', -⟩ := w.raise_sameDuty 0x0908 [(1, u), (1, k)]
  have hall := (State.complete_red (w.raise 0x0908 [(1, u), (1, k)]) tag St.aborted []).trans (hred'.trans hred)
  have hbm := (State.complete_bm (w.raise 0x0908 [(1, u), (1, k)]) tag St.aborted []).trans
    (State.raise_bm w 0x0908 [(1, u), (1, k)])
  have hunit := (State.unit_congr (congrArg RedSt.a hall) (congrArg RedSt.b hall) u).trans hsame
  refine ⟨_, rfl, (congrArg RedSt.restore hall).trans hnone, ?_, ?_, ?_, ?_,
    answered_of_sameRings hlen (hrings'.trans (hrings.trans (congrArg CxSt.rings hcx))) tag _ _⟩
  · rw [hunit]; rfl
  · rw [hunit]; rfl
  · rw [hunit]; rfl
  · rw [State.bmMaster, hbm]
    exact hreset

/-- The starting unit claims the outputs after a failover (R471). -/
theorem claim_after_failover {s : State} {a o : Nat} (k : Nat) (ho : o = 1 - s.red.activeUnit)
    (h : s.red.switching = some (.failover a)) (hfree : s.red.claimed = false) :
    (∃ t, exec (.startingUnitClaim none) s = .next t ∧ t.clk = max s.clk (a + 100000) ∧ t.red.claimed = true ∧
      t.ret.lastClaim = (s.ret.lastClaim + 1) % 65536 ∧ t.red.activeUnit = s.red.activeUnit) ∧
    (∃ t, exec (.startingUnitClaim (some k)) s = .next t ∧ (t.unit o).state = .failed ∧ (t.unit o).cause = 3 ∧
      (t.unit o).step = k ∧ t.noStandby = true ∧ t.red.switching = none ∧ t.clk = max s.clk (a + 100000)) := by
  rw [exec_startingUnitClaim_failover hfree h none, exec_startingUnitClaim_failover hfree h (some k)]
  have hclk := s.waitClk_clk (a + 100000)
  obtain ⟨hred, -, hret, -, -⟩ := s.waitClk_duty (a + 100000)
  generalize s.waitClk (a + 100000) = v at hclk hred hret ⊢
  obtain ⟨hclk', hclaimed, hlast, hactive⟩ := v.claims_issued
  obtain ⟨hfailed, hcause, hstep, hout, hswitch, hclk''⟩ :=
    State.claims_failed (s := v) (d := a) (o := o) (by rw [hred, h]) (by rw [hred, ho]) k
  rw [hret] at hlast
  rw [hred] at hactive
  exact ⟨⟨_, rfl, hclk'.trans hclk, hclaimed, hlast, hactive⟩,
    _, rfl, hfailed, hcause, hstep, hout, hswitch, hclk''.trans hclk⟩

/-- The starting unit claims the outputs in a planned switch-over (R476). -/
theorem claim_when_planned {s : State} {tag : CmdTag} (h : s.red.switching = some (.planned tag false true))
    (hfree : s.red.claimed = false) : ∃ t,
      exec (.startingUnitClaim none) s = .next t ∧ t.clk = max s.clk (s.loops.periodAt + 40000) ∧ t.red.claimed = true ∧
      t.ret.lastClaim = (s.ret.lastClaim + 1) % 65536 ∧ t.red.activeUnit = s.red.activeUnit := by
  rw [exec_startingUnitClaim_planned hfree h none]
  have hclk := s.waitClk_clk (s.loops.periodAt + 40000)
  obtain ⟨hred, -, hret, -, -⟩ := s.waitClk_duty (s.loops.periodAt + 40000)
  generalize s.waitClk (s.loops.periodAt + 40000) = v at hclk hred hret ⊢
  obtain ⟨hclk', hclaimed, hlast, hactive⟩ := v.claims_issued
  rw [hret] at hlast
  rw [hred] at hactive
  exact ⟨_, rfl, hclk'.trans hclk, hclaimed, hlast, hactive⟩

/-- Settles O59, clause by clause: the heartbeat monitor and a failover, the planned switch-over, the return of a unit, and
the starting unit's claim. -/
theorem controlUnits : Obligations.ControlUnits := by
  unfold Obligations.ControlUnits
  intro s tag u o k a tog hlen hle ho hmasters
  refine ⟨fun hw => exec_heartbeatCheck_off hw tog, heartbeat_both_heard, heartbeat_line_lost,
    heartbeat_failover hle ho, fun hs hpwr hrestore => ⟨cuSwitch_begins hs hle ho hmasters hpwr hrestore,
      fun hidle hother => ⟨_, exec_cuSwitch_wrongRole hs tag hpwr hidle hrestore (ho ▸ hother), refused_of_begun hs tag _ _ _⟩,
      fun hbusy => ⟨_, exec_cuSwitch_busy hs tag hpwr hbusy, refused_of_begun hs tag _ _ _⟩⟩,
    fun hs hpwr => ⟨_, exec_cuSwitch_powerState hs tag hpwr, refused_of_begun hs tag _ _ _⟩,
    fun hs hpwr hu hidle hrestore => ⟨cuRestore_tests hs hu hpwr hidle hrestore, cuRestore_standby hs hu hpwr hidle hrestore,
      fun hactive => ⟨_, exec_cuRestore_wrongRole hs tag hu hactive, refused_of_begun hs tag _ _ _⟩⟩,
    fun hs hu => ⟨_, exec_cuRestore_badParam hs tag hu, refused_of_begun hs tag _ _ _⟩,
    fun hrestore => exec_cuRestored_none hrestore none,
    fun hrestore hu => ⟨cuRestored_passes hlen hrestore, cuRestored_fails k hlen hmasters hu hrestore⟩,
    fun hidle => exec_startingUnitClaim_idle hidle none, claim_after_failover k ho, claim_when_planned⟩

end Sys2Proof.Machine
end

section
/-!
The Ikile agent: what a change of the view leaves of it, what leaves on its ports, and the records that it hears
(R401, R402, R408 to R413, R416).
-/

namespace Sys2Proof.Machine

open Sys2Proof.Stated

/-! ### What the entry to mode 11 leaves of the agent (R33, R411) -/

theorem State.ikl_of_lessEgress {s t : State} (h : t.lessEgress = s.lessEgress) : t.ikl = s.ikl := by
  have := congrArg State.ikl h; exact this

theorem State.each_ikl {α : Type} (s : State) (l : List α) {f : State → α → State} (hf : ∀ u x, (f u x).ikl = u.ikl) :
    (s.each l f).ikl = s.ikl :=
  State.each_induction (P := fun u => u.ikl = s.ikl) rfl fun u x _ hu => (hf u x).trans hu

theorem State.settle_ikl (s : State) : s.settle.ikl = s.ikl := State.ikl_of_lessEgress s.settle_lessEgress

theorem State.eachLane_ikl (s : State) (p : Nat) (f : LaneSt → LaneSt) : (s.eachLane p f).ikl = s.ikl :=
  s.each_ikl _ fun _ _ => rfl

theorem State.portStart_ikl (s : State) (p : Nat) : (s.portStart p).ikl = s.ikl := by
  unfold State.portStart
  dsimp only
  split_ifs
  · exact State.eachLane_ikl _ _ _
  · rfl

theorem State.portsWake_ikl (s : State) : s.portsWake.ikl = s.ikl := s.each_ikl _ State.portStart_ikl

theorem State.endPendingMode_ikl (s : State) (st : Nat) : (s.endPendingMode st).ikl = s.ikl := by
  unfold State.endPendingMode
  split
  · unfold State.completeOpt
    split
    · exact State.complete_ikl _ _ _ _
    · rfl
  · rfl

theorem State.endApply_ikl (s : State) : s.endApply.ikl = s.ikl := by
  unfold State.endApply
  split
  · exact State.complete_ikl _ _ _ _
  · rfl

theorem State.endLaserSet_ikl (s : State) (st : Nat) : (s.endLaserSet st).ikl = s.ikl := by
  unfold State.endLaserSet
  split
  · exact State.complete_ikl _ _ _ _
  · rfl

theorem State.safStop_ikl (s : State) (cause st : Nat) : (s.safStop cause st).ikl = s.ikl := by
  unfold State.safStop
  split
  · exact State.endLaserSet_ikl _ _
  · rw [State.raiseLim_ikl, State.endLaserSet_ikl]; rfl

theorem State.endCalRun_ikl (s : State) : s.endCalRun.ikl = s.ikl := by
  unfold State.endCalRun
  split
  · rw [State.safStop_ikl, State.complete_ikl]
  · rfl

theorem State.takeEaselCodes_ikl (s : State) : s.takeEaselCodes.ikl = s.ikl := s.each_ikl _ fun _ _ => rfl

theorem State.modeEntry_fenced_ikl (s : State) (old : Mode) : (s.modeEntry old .fenced).ikl = s.ikl := by
  have hclose : s.closeLoops.ikl = s.ikl := by unfold State.closeLoops; split <;> rfl
  have hdark (u : State) : u.darkAtBoundary.ikl = u.ikl := by unfold State.darkAtBoundary; split <;> rfl
  exact (hdark _).trans hclose

theorem State.enterMode_fenced_ikl (s : State) (trigger : Nat) : (s.enterMode .fenced trigger).ikl = s.ikl := by
  have hleft (c : Prop) [Decidable c] : (if c then s.endApply.endCalRun.takeEaselCodes else s.endApply).ikl = s.ikl := by
    split
    · rw [State.takeEaselCodes_ikl, State.endCalRun_ikl, State.endApply_ikl]
    · exact s.endApply_ikl
  have hwake (u : State) (c : Prop) [Decidable c] : (if c then u.portsWake else u).ikl = u.ikl := by
    split
    · exact u.portsWake_ikl
    · rfl
  unfold State.enterMode
  dsimp only
  split
  · rfl
  · rw [State.settle_ikl, State.raise_ikl, hwake, State.modeEntry_fenced_ikl,
      if_neg (show ¬(Mode.fenced.asleep = true ∧ ¬s.mode.mode.asleep = true) by simp [Mode.asleep])]
    exact hleft _

/-! ### What a change of the view leaves of the agent (R405, R409 to R415) -/

/-- What of the agent no change of the view moves. -/
def IklSt.chart (x : IklSt) : IklSt :=
  { table := x.table, cometSeq := x.cometSeq, cometAt := x.cometAt, epoch := x.epoch, outOfOrbit := x.outOfOrbit }

/-- What of the conjunctions a change of the view moves only where it ends one. -/
def IklSt.outcome (x : IklSt) : IklSt :=
  { prop := x.prop, last := x.last, reason := x.reason, repeats := x.repeats, seenT := x.seenT }

/-- From `s` to `t` neither the chart nor the outcome has moved. -/
def SameChart (s t : State) : Prop := t.ikl.chart = s.ikl.chart ∧ t.ikl.outcome = s.ikl.outcome

theorem SameChart.trans {s t u : State} (h : SameChart s t) (k : SameChart t u) : SameChart s u :=
  ⟨k.1.trans h.1, k.2.trans h.2⟩

theorem SameChart.of_ikl {s t : State} (h : t.ikl = s.ikl) : SameChart s t :=
  ⟨congrArg IklSt.chart h, congrArg IklSt.outcome h⟩

theorem SameChart.raise {s t : State} (h : SameChart s t) (code : Nat) (l : List (Nat × Nat)) : SameChart s (t.raise code l) :=
  h.trans (.of_ikl (t.raise_ikl code l))

theorem State.fwCheck_chart (s : State) (leader major : Nat) : SameChart s (s.fwCheck leader major) := by
  unfold State.fwCheck
  extract_lets bad src s1
  have h1 : SameChart s s1 := ⟨rfl, rfl⟩
  split
  · exact h1.raise _ _
  · exact h1

/-- The check for a stale module, whether or not it is behind. -/
def State.staleIf (s : State) (stale : Bool) (high : Nat) : State :=
  if stale ∧ s.ikl.stale = false then
    ({ s with ikl := { s.ikl with stale := true, syncAt := s.clk } }).raise 0x080C [(4, s.ikl.epoch), (4, high)]
  else { s with ikl := { s.ikl with stale := stale } }

theorem State.staleIf_chart (s : State) (stale : Bool) (high : Nat) : SameChart s (s.staleIf stale high) := by
  have hmarked : SameChart s { s with ikl := { s.ikl with stale := true, syncAt := s.clk } } := ⟨rfl, rfl⟩
  unfold State.staleIf
  split
  · exact hmarked.raise _ _
  · exact ⟨rfl, rfl⟩

theorem State.staleCheck_chart (s : State) (high : Nat) : SameChart s (s.staleCheck high) :=
  s.staleIf_chart (newer 32 high s.ikl.epoch) high

theorem State.quorumCheck_chart (s : State) : SameChart s s.quorumCheck := by
  unfold State.quorumCheck
  extract_lets lead ok src s1
  have h1 : SameChart s s1 := ⟨rfl, rfl⟩
  split
  · exact h1.raise _ _
  · exact h1

theorem State.fenceCheck_ikl (s : State) (d : Bytes) : (s.fenceCheck d).ikl = s.ikl := by
  unfold State.fenceCheck
  split
  · exact (State.enterMode_fenced_ikl _ _).trans (s.endPendingMode_ikl _)
  · rfl

theorem State.updateSource_ikl (s : State) : s.updateSource.ikl = s.ikl := by
  unfold State.updateSource
  dsimp only
  split
  · rfl
  · rw [State.raise_ikl]
    rfl

/-- The agent with another parent and other ports. -/
def IklSt.reparent (x : IklSt) (parent : Option Nat) (ports : List IklPort) : IklSt :=
  { x with parent := parent, ports := ports }

theorem State.setIklPort_reparent {u : State} {x : IklSt} {parent : Option Nat} {ports : List IklPort}
    (hu : u.ikl = x.reparent parent ports) (n : Nat) (y : IklPort) :
    (u.setIklPort n y).ikl = x.reparent parent (lset ports n y) := by
  show ({ u.ikl with ports := lset u.ikl.ports n y } : IklSt) = _
  rw [hu]
  rfl

/-- What the parent's choice does to the agent: the parent, and the ports' waits for a lower HOP. -/
theorem State.parentUpdate_ikl (s : State) : ∃ parent ports, s.parentUpdate.ikl = s.ikl.reparent parent ports := by
  have htake (p : Option Nat) : ∃ parent ports, (s.takeParent p).ikl = s.ikl.reparent parent ports := by
    unfold State.takeParent
    dsimp only
    split
    · exact ⟨_, _, rfl⟩
    · exact ⟨_, _, rfl⟩
  unfold State.parentUpdate
  dsimp only
  split_ifs
  · exact ⟨none, s.ikl.ports, rfl⟩
  · exact ⟨s.ikl.parent, s.ikl.ports, rfl⟩
  · exact htake _
  · refine State.each_induction (P := fun u => ∃ parent ports, u.ikl = s.ikl.reparent parent ports)
      ⟨s.ikl.parent, s.ikl.ports, rfl⟩ fun u n _ ⟨parent, ports, hu⟩ => ?_
    exact ⟨parent, _, State.setIklPort_reparent hu n _⟩

theorem State.parentUpdate_chart (s : State) : SameChart s s.parentUpdate := by
  obtain ⟨parent, ports, h⟩ := s.parentUpdate_ikl
  exact SameChart.trans (t := { s with ikl := s.ikl.reparent parent ports }) ⟨rfl, rfl⟩ (.of_ikl h)

section Steps

variable {s t : State} (h : SameChart s t)
include h

theorem SameChart.staleCheck (high : Nat) : SameChart s (t.staleCheck high) := h.trans (t.staleCheck_chart high)
theorem SameChart.updateSource : SameChart s t.updateSource := h.trans (.of_ikl t.updateSource_ikl)
theorem SameChart.parentUpdate : SameChart s t.parentUpdate := h.trans t.parentUpdate_chart
theorem SameChart.fenceCheck (d : Bytes) : SameChart s (t.fenceCheck d) := h.trans (.of_ikl (t.fenceCheck_ikl d))
theorem SameChart.quorumCheck : SameChart s t.quorumCheck := h.trans t.quorumCheck_chart

end Steps

/-! ### What leaves on the ports (R402, R416) -/

theorem State.sendIkl_eq (s : State) (n type : Nat) (b : Bytes) : ∃ ports obs out,
    s.sendIkl n type b = { s with ikl := { s.ikl with ports := ports }, obs := obs, out := out } := by
  unfold State.sendIkl
  dsimp only
  split
  · exact ⟨s.ikl.ports, s.obs, s.out, rfl⟩
  · exact ⟨_, _, _, rfl⟩

theorem State.flood_eq (s : State) (type ex : Nat) (b : Bytes) : ∃ ports obs out,
    s.flood type ex b = { s with ikl := { s.ikl with ports := ports }, obs := obs, out := out } := by
  unfold State.flood
  refine State.each_induction (P := fun u => ∃ ports obs out,
    u = { s with ikl := { s.ikl with ports := ports }, obs := obs, out := out })
    ⟨s.ikl.ports, s.obs, s.out, rfl⟩ fun u n _ ⟨ports, obs, out, hu⟩ => ?_
  obtain ⟨ports', obs', out', h⟩ := u.sendIkl_eq n type b
  rw [h, hu]
  exact ⟨ports', obs', out', rfl⟩

theorem State.floodConj_eq (s : State) (ex : Nat) (b : Bytes) : ∃ ports obs out, s.floodConj ex b =
    { s with ikl := { s.ikl with ports := ports, repeats := s.ikl.repeats ++ [(s.clk + 20000, ex, b)] }, obs := obs, out := out } := by
  obtain ⟨ports, obs, out, h⟩ := s.flood_eq 3 ex b
  unfold State.floodConj
  rw [h]
  exact ⟨ports, obs, out, rfl⟩

/-- The state as a conjunction message has left: the ports and the counters have moved, and it leaves again. -/
def State.spoke (s : State) (ports : List IklPort) (seen : List (Nat × Nat × Nat × Nat)) (msg : Nat × Nat × Bytes) (obs : ObsSt)
    (out : List Out) : State :=
  { s with ikl := { s.ikl with ports := ports, seen := seen, repeats := s.ikl.repeats ++ [msg] }, obs := obs, out := out }

/-- A conjunction message of the module's own: it leaves, it is met, and it leaves again 20 µs later. -/
theorem State.sendConj_eq (s : State) (m : ConjMsg) : ∃ ports seen obs out,
    s.sendConj m = s.spoke ports seen (s.clk + 20000, 8, m.bytes) obs out := by
  obtain ⟨ports, obs, out, h⟩ := (s.meetConj m).floodConj_eq 8 m.bytes
  exact ⟨ports, _, obs, out, h⟩

/-! ### The end of a conjunction at a change of leader (R421) -/

theorem State.abortTakeoverWait_ikl (s : State) : s.abortTakeoverWait.ikl = s.ikl := by
  unfold State.abortTakeoverWait
  split
  · split
    · exact State.endPendingMode_ikl _ _
    · rfl
  · rfl

theorem State.memberEnd_ikl (s : State) (last reason by_ : Nat) :
    (s.memberEnd last reason by_).ikl = { s.ikl with held := none, last := last, reason := reason, by_ := by_ } :=
  State.abortTakeoverWait_ikl _

theorem State.closeProposal_ikl (s : State) (st : Nat) (d : List (Nat × Nat)) :
    (s.closeProposal st d).ikl = { s.ikl with prop := none } := by
  unfold State.closeProposal
  split
  · exact State.complete_ikl _ _ _ _
  next h => rw [← h]

/-- What the leader's ABORT leaves of the agent. -/
theorem State.abortConj_ikl {s : State} {p : Proposal} (h : s.ikl.prop = some p) (reason by_ : Nat) : ∃ ports seen held,
    (s.abortConj reason by_).ikl = { s.ikl with
      ports := ports, seen := seen, held := held, prop := none, last := 2, reason := reason, by_ := by_
      repeats := s.ikl.repeats ++ [(s.clk + 20000, 8, (s.conjMsg 4 reason p.id p.orbit p.epoch p.t s.moduleId).bytes)] } := by
  obtain ⟨ports, seen, obs, out, hsend⟩ := s.sendConj_eq (s.conjMsg 4 reason p.id p.orbit p.epoch p.t s.moduleId)
  unfold State.abortConj
  rw [h]
  dsimp only
  rw [State.closeProposal_ikl, State.raise_ikl, hsend]
  split_ifs
  · rw [State.memberEnd_ikl]
    exact ⟨ports, seen, none, rfl⟩
  · exact ⟨ports, seen, s.ikl.held, rfl⟩

theorem State.newLeader_of_none {s : State} (hnone : s.ikl.prop = none) (m : Nat) : (s.newLeader m).ikl =
    { s.ikl with leader := some m } := by
  unfold State.newLeader
  dsimp only
  split
  · rfl
  · unfold State.leaderGone
    rw [if_neg (by rw [State.raise_ikl]; simp [hnone]), State.raise_ikl]

theorem State.newLeader_outcome {s : State} (hnone : s.ikl.prop = none) (m : Nat) :
    (s.newLeader m).ikl.outcome = s.ikl.outcome := by
  rw [State.newLeader_of_none hnone]
  rfl

theorem State.newLeader_chart (s : State) (m : Nat) : (s.newLeader m).ikl.chart = s.ikl.chart := by
  unfold State.newLeader
  dsimp only
  split
  · rfl
  · unfold State.leaderGone
    split
    next h =>
      obtain ⟨p, hp⟩ := Option.isSome_iff_exists.mp h.1
      obtain ⟨ports, seen, held, habort⟩ := State.abortConj_ikl hp 5 (State.moduleId _)
      rw [habort, State.raise_ikl]
      rfl
    · rw [State.raise_ikl]
      rfl

/-- After the leader has been chosen, a change of the view leaves the chart and the outcome. -/
theorem State.afterLeader_chart (u : State) (lead major high : Nat) (d : Bytes) : SameChart u
    ((((u.fwCheck lead major).staleCheck high).updateSource.parentUpdate.fenceCheck d).quorumCheck) :=
  (u.fwCheck_chart lead major).staleCheck high |>.updateSource.parentUpdate.fenceCheck d |>.quorumCheck

/-- The state whose system has one module, before its source is chosen. -/
def State.alone (s : State) : State :=
  { s with ikl := { s.ikl with leader := some s.moduleId, stale := false, fwRefused := false } }

theorem State.updateView_alone {s : State} (h : s.canvas.active.isSome = true) (hone : s.systemSize ≤ 1) :
    s.updateView = s.alone.updateSource.parentUpdate := by
  rw [State.updateView, if_neg (by simpa using Option.isSome_iff_ne_none.mp h), if_pos hone]
  rfl

theorem State.alone_chart (s : State) : SameChart s s.alone.updateSource.parentUpdate := by
  have halone : SameChart s s.alone := ⟨rfl, rfl⟩
  exact halone.updateSource.parentUpdate

/-- The view of a system of several modules: its leader first, and then what follows from it. -/
theorem State.updateView_several {s : State} (h : s.canvas.active.isSome = true) (hmany : 1 < s.systemSize) :
    ∃ lead major high d, s.updateView =
      (((((s.newLeader lead).fwCheck lead major).staleCheck high).updateSource.parentUpdate.fenceCheck d).quorumCheck) := by
  unfold State.updateView
  rw [if_neg (by simpa using Option.isSome_iff_ne_none.mp h), if_neg (by omega)]
  exact ⟨_, _, _, _, rfl⟩

/-- A change of the view leaves the chart. -/
theorem State.updateView_chart (s : State) : s.updateView.ikl.chart = s.ikl.chart := by
  cases h : s.canvas.active.isSome with
  | false => rw [State.updateView_of_noCanvas (by simpa using h)]
  | true =>
    rcases Nat.lt_or_ge 1 s.systemSize with hmany | hone
    · obtain ⟨lead, major, high, d, hview⟩ := State.updateView_several h hmany
      rw [hview, (State.afterLeader_chart _ lead major high d).1, State.newLeader_chart]
    · rw [State.updateView_alone h hone, s.alone_chart.1]

/-- A change of the view leaves the outcome where this module has no conjunction open. -/
theorem State.updateView_outcome {s : State} (hnone : s.ikl.prop = none) : s.updateView.ikl.outcome = s.ikl.outcome := by
  cases h : s.canvas.active.isSome with
  | false => rw [State.updateView_of_noCanvas (by simpa using h)]
  | true =>
    rcases Nat.lt_or_ge 1 s.systemSize with hmany | hone
    · obtain ⟨lead, major, high, d, hview⟩ := State.updateView_several h hmany
      rw [hview, (State.afterLeader_chart _ lead major high d).2, State.newLeader_outcome hnone]
    · rw [State.updateView_alone h hone, s.alone_chart.2]

/-! ### The ports, one by one (R401, R402, R405) -/

theorem State.setIklPort_same {s : State} {n : Nat} (hn : n < s.ikl.ports.length) (x : IklPort) :
    (s.setIklPort n x).iklPort n = x := lget_lset_same hn

theorem State.setIklPort_ne (s : State) {n k : Nat} (hne : k ≠ n) (x : IklPort) :
    (s.setIklPort n x).iklPort k = s.iklPort k := lget_lset_ne hne

theorem State.setIklPort_length (s : State) (n : Nat) (x : IklPort) :
    (s.setIklPort n x).ikl.ports.length = s.ikl.ports.length := List.length_set ..

/-- Work that changes each port of a list by one function, and no other port. -/
theorem State.each_iklPort {f : State → Nat → State} {g : IklPort → IklPort} {I : State → Prop}
    (hkeep : ∀ u n, I u → I (f u n))
    (hf : ∀ u n, I u → n < 8 → (f u n).iklPort n = g (u.iklPort n) ∧ ∀ k, k ≠ n → (f u n).iklPort k = u.iklPort k)
    {l : List Nat} (hl : l.Nodup) (hlt : ∀ n ∈ l, n < 8) {s : State} (hs : I s) (k : Nat) :
    (s.each l f).iklPort k = if k ∈ l then g (s.iklPort k) else s.iklPort k := by
  induction l generalizing s with
  | nil => rfl
  | cons n rest ih =>
    obtain ⟨hnew, hrest⟩ := List.nodup_cons.mp hl
    obtain ⟨hsame, hother⟩ := hf s n hs (hlt n List.mem_cons_self)
    have htail := ih hrest (fun m hm => hlt m (List.mem_cons_of_mem n hm)) (hkeep s n hs)
    show ((f s n).each rest f).iklPort k = _
    rw [htail]
    by_cases hk : k = n
    · subst hk
      rw [if_neg hnew, if_pos List.mem_cons_self, hsame]
    · rw [hother k hk]
      simp only [List.mem_cons, hk, false_or]

theorem State.mem_upPorts {s : State} {k : Nat} : k ∈ s.upPorts ↔ k < 8 ∧ (s.iklPort k).state = 2 := by
  simp [State.upPorts]

theorem State.upPorts_lt {s : State} {k : Nat} (h : k ∈ s.upPorts) : k < 8 := (State.mem_upPorts.mp h).1

theorem State.upPorts_nodup (s : State) : s.upPorts.Nodup := List.nodup_range.filter _

/-- A port after a record has left on it. -/
def IklPort.sent (p : IklPort) : IklPort := if p.state ≠ 2 then p else { p with txSeq := seqNext p.txSeq }

theorem State.sendIkl_port {s : State} (hlen : s.ikl.ports.length = 8) {n : Nat} (hn : n < 8) (type : Nat) (b : Bytes) :
    (s.sendIkl n type b).iklPort n = (s.iklPort n).sent ∧
      ∀ k, k ≠ n → (s.sendIkl n type b).iklPort k = s.iklPort k := by
  unfold State.sendIkl IklPort.sent
  dsimp only
  split
  · exact ⟨rfl, fun _ _ => rfl⟩
  · exact ⟨State.setIklPort_same (by omega) _, fun k hk => s.setIklPort_ne hk _⟩

theorem State.sendIkl_length (s : State) (n type : Nat) (b : Bytes) :
    (s.sendIkl n type b).ikl.ports.length = s.ikl.ports.length := by
  unfold State.sendIkl
  dsimp only
  split
  · rfl
  · exact s.setIklPort_length _ _

/-- A flood counts a record on each up port but one. -/
theorem State.flood_port {s : State} (hlen : s.ikl.ports.length = 8) (type ex : Nat) (b : Bytes) (k : Fin 8) :
    (s.flood type ex b).iklPort k = if (s.iklPort k).state = 2 ∧ k.val ≠ ex then (s.iklPort k).sent else s.iklPort k := by
  have hports := State.each_iklPort (f := fun s n => s.sendIkl n type b) (I := fun u => u.ikl.ports.length = 8)
    (fun u n hu => (u.sendIkl_length n type b).trans hu) (fun u n hu hn => State.sendIkl_port hu hn type b)
    (s.upPorts_nodup.filter (· != ex)) (fun n hn => State.upPorts_lt (List.mem_of_mem_filter hn)) hlen k
  rw [State.flood, hports]
  simp [State.mem_upPorts]

/-- A choice of the parent leaves each port but for its wait for a lower HOP. -/
theorem State.parentUpdate_port {s : State} (hlen : s.ikl.ports.length = 8) :
    s.parentUpdate.ikl.ports.length = 8 ∧
      ∀ k, { s.parentUpdate.iklPort k with lowerSince := none } = { s.iklPort k with lowerSince := none } := by
  have hmap (k : Nat) : lget ({} : IklPort) (s.ikl.ports.map fun x => { x with lowerSince := none }) k =
      { s.iklPort k with lowerSince := none } := by
    rw [State.iklPort, lget, lget, List.getD_eq_getElem?_getD, List.getD_eq_getElem?_getD, List.getElem?_map]
    cases s.ikl.ports[k]? <;> rfl
  have htake (p : Option Nat) : (s.takeParent p).ikl.ports.length = 8 ∧
      ∀ k, { (s.takeParent p).iklPort k with lowerSince := none } = { s.iklPort k with lowerSince := none } := by
    have hports : (s.takeParent p).ikl.ports = s.ikl.ports.map fun x => { x with lowerSince := none } := by
      unfold State.takeParent
      dsimp only
      split <;> rfl
    refine ⟨by rw [hports, List.length_map, hlen], fun k => ?_⟩
    rw [State.iklPort, hports, hmap]
  unfold State.parentUpdate
  dsimp only
  split_ifs
  · exact ⟨hlen, fun _ => rfl⟩
  · exact ⟨hlen, fun _ => rfl⟩
  · exact htake _
  · refine State.each_induction (P := fun u => u.ikl.ports.length = 8 ∧
      ∀ k, { u.iklPort k with lowerSince := none } = { s.iklPort k with lowerSince := none })
      ⟨hlen, fun _ => rfl⟩ fun u n hn ⟨hu, hports⟩ => ⟨(u.setIklPort_length _ _).trans hu, fun k => ?_⟩
    by_cases hk : k = n
    · subst hk
      rw [State.setIklPort_same (by rw [hu]; exact List.mem_range.mp hn)]
      exact hports k
    · rw [u.setIklPort_ne hk]
      exact hports k

/-! ### Records that are heard (R402, R416) -/

/-- A port that has heard a record of a sequence number. -/
def IklPort.heard (p : IklPort) (now seq : Nat) : IklPort :=
  { p with lastValid := now, goodRecs := p.goodRecs + 1, rxSeq := some seq }

/-- The state as a port has heard a record, with `lost` records before it. -/
def State.portHeard (s : State) (n seq lost : Nat) : State :=
  let p := s.iklPort n
  let s1 := (s.setIklPort n { p with lastValid := s.clk, goodRecs := p.goodRecs + 1 }).count (iklCnt n 1) 1
  let s2 := s1.setIklPort n (p.heard s.clk seq)
  if lost > 1 then s2.count (iklCnt n 4) (lost - 1) else s2

/-- A record that is heard hands its body on. -/
theorem State.takeRecord_heard {s : State} {n : Fin 8} {r : Bytes} {type : Nat} (h : Heard s n r type) :
    ∃ lost, s.takeRecord n r = (some (slice r 8 (leAt r 2 2)), s.portHeard n (leAt r 4 4) lost) := by
  obtain ⟨-, hpwr, hstate, hok, -, hnew⟩ := h
  unfold State.takeRecord
  dsimp only
  rw [if_neg (by omega), if_neg (by simp [hok]), if_neg (by omega)]
  split
  next q hq =>
    rw [if_neg (by simp [hnew q hq])]
    exact ⟨seqDiff (leAt r 4 4) q, rfl⟩
  next => exact ⟨0, rfl⟩

theorem State.count_eq (s : State) (a n : Nat) : ∃ obs, s.count a n = { s with obs := obs } := ⟨_, rfl⟩

/-- A record that is heard moves no more than its port and the counters. -/
theorem State.portHeard_eq {s : State} (hlen : s.ikl.ports.length = 8) (n : Fin 8) (seq lost : Nat) : ∃ ports obs,
    s.portHeard n seq lost = { s with ikl := { s.ikl with ports := ports }, obs := obs } ∧
      ports.length = 8 ∧ lget {} ports n = (s.iklPort n).heard s.clk seq ∧
      ∀ k, k ≠ n.val → lget {} ports k = s.iklPort k := by
  have hset (p q : IklPort) : (lset (lset s.ikl.ports n p) n q).length = 8 ∧ lget {} (lset (lset s.ikl.ports n p) n q) n = q ∧
      ∀ k, k ≠ n.val → lget {} (lset (lset s.ikl.ports n p) n q) k = s.iklPort k := by
    have hfirst : (lset s.ikl.ports n p).length = 8 := (List.length_set ..).trans hlen
    refine ⟨(List.length_set ..).trans hfirst, lget_lset_same (hfirst.symm ▸ n.isLt), fun k hk => ?_⟩
    rw [lget_lset_ne hk, lget_lset_ne hk]
    rfl
  obtain ⟨obs, hcount⟩ := State.count_eq
    (s.setIklPort n { s.iklPort n with lastValid := s.clk, goodRecs := (s.iklPort n).goodRecs + 1 }) (iklCnt n 1) 1
  unfold State.portHeard
  dsimp only
  rw [hcount]
  split
  · obtain ⟨obs', hcount'⟩ := State.count_eq (State.setIklPort
      { s.setIklPort n { s.iklPort n with lastValid := s.clk, goodRecs := (s.iklPort n).goodRecs + 1 } with obs := obs } n
        ((s.iklPort n).heard s.clk seq)) (iklCnt n 4) (lost - 1)
    rw [hcount']
    exact ⟨_, obs', rfl, hset _ _⟩
  · exact ⟨_, obs, rfl, hset _ _⟩

/-- The state in which a record has been heard: only the ports and the counters have moved. -/
theorem State.recordIn_heard {s : State} {n : Fin 8} {r : Bytes} {type : Nat} (h : Heard s n r type) : ∃ ports obs,
    s.takeRecord n r = (some (slice r 8 (leAt r 2 2)), { s with ikl := { s.ikl with ports := ports }, obs := obs }) ∧
      ports.length = 8 ∧ lget {} ports n = (s.iklPort n).heard s.clk (leAt r 4 4) ∧
      ∀ k, k ≠ n.val → lget {} ports k = s.iklPort k := by
  obtain ⟨lost, htake⟩ := State.takeRecord_heard h
  obtain ⟨hlen, -⟩ := h
  obtain ⟨ports, obs, heq, hports⟩ := State.portHeard_eq hlen n (leAt r 4 4) lost
  exact ⟨ports, obs, htake.trans (congrArg _ heq), hports⟩

/-- What a conjunction message does where it is new. -/
def State.actConj (s : State) (m : ConjMsg) : State :=
  match m.kind with
  | 1 => s.onPropose m
  | 2 => s.onAnswer m
  | 3 => s.onCommit m
  | 4 => s.onAbort m
  | 5 => s.onSyncReq m
  | 6 => s.onSyncReply m
  | _ => s

theorem State.each_count_eq (s : State) (l : List Nat) (a : Nat → Nat) : ∃ obs,
    s.each l (fun s k => s.count (a k) 1) = { s with obs := obs } := by
  refine State.each_induction (P := fun u => ∃ obs, u = { s with obs := obs }) ⟨s.obs, rfl⟩ fun u k _ ⟨obs, hu⟩ => ?_
  obtain ⟨obs', h⟩ := u.count_eq (a k) 1
  rw [h, hu]
  exact ⟨obs', rfl⟩

/-- A new conjunction message is met and forwarded, and it acts in the state that this leaves (R416). -/
theorem State.onConj_new {s : State} {m : ConjMsg} {n : Nat} {b : Bytes} (hm : m = ConjMsg.read b)
    (horigin : m.origin ≠ s.moduleId) (hseen : s.conjSeen m = false) : ∃ ports seen obs out,
    s.onConj n b = (s.spoke ports seen (s.clk + 20000, n, b) obs out).actConj m := by
  obtain ⟨ports, obs, out, hflood⟩ := (s.meetConj m).floodConj_eq n b
  unfold State.onConj
  dsimp only
  rw [← hm, if_neg (by simp [horigin, hseen]), hflood]
  obtain ⟨obs', hcount⟩ := State.each_count_eq
    { s.meetConj m with ikl := { (s.meetConj m).ikl with ports := ports, repeats := (s.meetConj m).ikl.repeats ++
      [((s.meetConj m).clk + 20000, n, b)] }, obs := obs, out := out }
    ((State.upPorts { s.meetConj m with ikl := { (s.meetConj m).ikl with ports := ports, repeats :=
      (s.meetConj m).ikl.repeats ++ [((s.meetConj m).clk + 20000, n, b)] }, obs := obs, out := out }).filter (· != n))
    (iklCnt · 6)
  rw [hcount]
  exact ⟨ports, _, obs', out, rfl⟩

theorem State.recordIn_conj {s : State} {n : Fin 8} {r b : Bytes} {m : ConjMsg} (h : HeardConj s n r b m) :
    ∃ ports seen obs out, s.recordIn n r = (s.spoke ports seen (s.clk + 20000, n.val, b) obs out).actConj m := by
  obtain ⟨hheard, hb, hm, horigin, hseen⟩ := h
  obtain ⟨ports, obs, htake, -⟩ := State.recordIn_heard hheard
  obtain ⟨-, -, -, -, htype, -⟩ := hheard
  obtain ⟨ports', seen, obs', out, hconj⟩ := State.onConj_new (n := n.val)
    (s := { s with ikl := { s.ikl with ports := ports }, obs := obs }) hm horigin hseen
  refine ⟨ports', seen, obs', out, ?_⟩
  rw [State.recordIn, htake, ← hb]
  dsimp only
  rw [htype]
  exact hconj

end Sys2Proof.Machine
end

section
/-!
Comets, and the resynchronisation of a stale module (R407 to R409, R413).
-/

namespace Sys2Proof.Machine

open Sys2Proof.Stated

/-! ### Comets sent (R407) -/

theorem exec_cometSend_noCanvas {s : State} (h : s.canvas.active = none) : exec .cometSend s = .next s := by
  show execCometSend s = _
  rw [execCometSend, if_pos (.inr (by rw [h]; rfl))]
  rfl

/-- The state in which the next Comet is due 100 µs later. -/
def State.cometDue (s : State) : State := { s with ikl := { s.ikl with cometAt := s.clk + 100000 } }

/-- A Comet leaves, of the view as it stands. -/
def State.sayComet (s : State) : State :=
  let s1 := { s with ikl := { s.ikl with cometSeq := seqNext s.ikl.cometSeq, saidEligible := s.eligible } }
  s1.flood 2 8 s1.cometBody

theorem exec_cometSend {s : State} (hpwr : s.pwr.state ≤ 1) (h : s.canvas.active.isSome = true) :
    exec .cometSend s = .next (s.waitClk s.ikl.cometAt).cometDue.updateView.sayComet := by
  show execCometSend s = _
  rw [execCometSend, if_neg (not_or.mpr ⟨by omega, by simpa using Option.isSome_iff_ne_none.mp h⟩)]
  rfl

theorem State.sayComet_ikl (s : State) : s.sayComet.ikl.cometSeq = seqNext s.ikl.cometSeq ∧
    s.sayComet.ikl.cometAt = s.ikl.cometAt := by
  unfold State.sayComet
  extract_lets src s1
  obtain ⟨ports, obs, out, h⟩ := s1.flood_eq 2 8 s1.cometBody
  rw [h]
  exact ⟨rfl, rfl⟩

theorem State.sayComet_port {s : State} (hlen : s.ikl.ports.length = 8) {k : Fin 8} (hup : (s.iklPort k).state = 2) :
    (s.sayComet.iklPort k).txSeq = seqNext (s.iklPort k).txSeq := by
  unfold State.sayComet
  extract_lets src s1
  have hlen' : s1.ikl.ports.length = 8 := hlen
  have hup' : (s1.iklPort k).state = 2 := hup
  rw [State.flood_port hlen', if_pos ⟨hup', by omega⟩, IklPort.sent, if_neg (by omega)]
  rfl

/-- The agent's own chart, field by field. -/
theorem IklSt.of_chart {x y : IklSt} (h : x.chart = y.chart) : x.table = y.table ∧ x.cometSeq = y.cometSeq ∧
    x.cometAt = y.cometAt ∧ x.epoch = y.epoch ∧ x.outOfOrbit = y.outOfOrbit := by
  have h1 := congrArg IklSt.table h
  have h2 := congrArg IklSt.cometSeq h
  have h3 := congrArg IklSt.cometAt h
  have h4 := congrArg IklSt.epoch h
  have h5 := congrArg IklSt.outOfOrbit h
  exact ⟨h1, h2, h3, h4, h5⟩

/-- In a system of one module a change of the view leaves what the ports have sent. -/
theorem State.updateView_alone_port {s : State} (h : s.canvas.active.isSome = true) (hone : s.systemSize ≤ 1)
    (hlen : s.ikl.ports.length = 8) : s.updateView.ikl.ports.length = 8 ∧
      ∀ k, (s.updateView.iklPort k).state = (s.iklPort k).state ∧ (s.updateView.iklPort k).txSeq = (s.iklPort k).txSeq := by
  have hsource : s.alone.updateSource.ikl = s.alone.ikl := s.alone.updateSource_ikl
  have hlen' : s.alone.updateSource.ikl.ports.length = 8 := by rw [hsource]; exact hlen
  obtain ⟨hcount, hports⟩ := State.parentUpdate_port hlen'
  rw [State.updateView_alone h hone]
  refine ⟨hcount, fun k => ?_⟩
  have hsame : s.alone.updateSource.iklPort k = s.iklPort k := by
    rw [State.iklPort, hsource]
    rfl
  have hstate := congrArg IklPort.state (hports k)
  have hseq := congrArg IklPort.txSeq (hports k)
  rw [← hsame]
  exact ⟨hstate, hseq⟩

/-- A Comet is sent (R407). -/
theorem cometSend_sent {s : State} (hpwr : s.pwr.state ≤ 1) (hcanvas : s.canvas.active.isSome = true) : ∃ t,
      exec .cometSend s = .next t ∧ t.ikl.cometSeq = seqNext s.ikl.cometSeq ∧
      t.ikl.cometAt = max s.clk s.ikl.cometAt + 100000 ∧
      (s.systemSize ≤ 1 → s.ikl.ports.length = 8 → ∀ k : Fin 8, (s.iklPort k).state = 2 →
        (t.iklPort k).txSeq = seqNext (s.iklPort k).txSeq) := by
  rw [exec_cometSend hpwr hcanvas]
  have hclk := s.waitClk_clk s.ikl.cometAt
  have hikl : (s.waitClk s.ikl.cometAt).ikl = s.ikl := rfl
  have hactive : (s.waitClk s.ikl.cometAt).canvas.active.isSome = true := hcanvas
  have hsize : (s.waitClk s.ikl.cometAt).systemSize = s.systemSize := rfl
  generalize s.waitClk s.ikl.cometAt = v at hclk hikl hactive hsize ⊢
  obtain ⟨-, hseq, hat, -, -⟩ := IklSt.of_chart v.cometDue.updateView_chart
  obtain ⟨hseq', hat'⟩ := v.cometDue.updateView.sayComet_ikl
  refine ⟨_, rfl, hseq'.trans ?_, hat'.trans ?_, fun hone hlen k hup => ?_⟩
  · rw [hseq, ← hikl]
    rfl
  · rw [hat, ← hclk]
    rfl
  · have hport : v.cometDue.iklPort k = s.iklPort k := by
      show lget {} v.ikl.ports k = _
      rw [hikl]
      rfl
    have hlen' : v.cometDue.ikl.ports.length = 8 := by
      show v.ikl.ports.length = 8
      rw [hikl, hlen]
    obtain ⟨hcount, hports⟩ := State.updateView_alone_port (s := v.cometDue) hactive (hsize.trans_le hone) hlen'
    obtain ⟨hstate, htx⟩ := hports k
    rw [State.sayComet_port hcount (by rw [hstate, hport, hup]), htx, hport]

/-! ### Comets received and expired (R408) -/

theorem exec_cometRx {s : State} {n : Fin 8} {r : Bytes} (h : Heard s n r 2) : ∃ ports obs,
    exec (.cometRx n r) s = .next (State.onComet { s with ikl := { s.ikl with ports := ports }, obs := obs } n
      (slice r 8 (leAt r 2 2))) := by
  obtain ⟨ports, obs, htake, -⟩ := State.recordIn_heard h
  obtain ⟨-, -, -, -, htype, -⟩ := h
  refine ⟨ports, obs, ?_⟩
  show execCometRx n r s = _
  rw [execCometRx, State.recordIn, htake]
  dsimp only
  rw [htype]
  rfl

/-- What a counted record leaves for the Comet that it holds. -/
theorem State.count_seen (s : State) (a : Nat) : (s.count a 1).systemSize = s.systemSize ∧
    (s.count a 1).moduleId = s.moduleId ∧ (s.count a 1).ikl = s.ikl ∧ (s.count a 1).clk = s.clk := ⟨rfl, rfl, rfl, rfl⟩

/-- A Comet from a module new to the view enters the table. -/
theorem State.onComet_table {s : State} {n o : Nat} {b : Bytes} (hsize : 1 < s.systemSize) (ho : o = leAt b 0 2 % 512)
    (hother : o ≠ s.moduleId) (hnew : tget? s.ikl.table o = none) :
    (s.onComet n b).ikl.table = tput s.ikl.table o ⟨b, n, s.clk⟩ := by
  have hforward (u : State) (m : Nat) (x : Bytes) : (u.forward m 2 x).ikl.table = u.ikl.table :=
    State.each_induction (P := fun v => v.ikl.table = u.ikl.table) rfl fun v k _ hv => by
      obtain ⟨ports, obs, out, h⟩ := v.sendIkl_eq k 2 x
      rw [State.count_ikl, h]
      exact hv
  obtain ⟨hsize', hid, hikl, hclk⟩ := s.count_seen (iklCnt n 5)
  unfold State.onComet
  dsimp only
  rw [← ho]
  generalize s.count (iklCnt n 5) 1 = u at hsize' hid hikl hclk ⊢
  rw [hid, hikl, hclk]
  split_ifs with hone hold
  · omega
  · rw [hnew] at hold
    exact absurd hold (by simpa using hother)
  · rw [(IklSt.of_chart (State.updateView_chart _)).1, hforward]
  · rw [(IklSt.of_chart (State.updateView_chart _)).1, State.count_ikl]

/-- A Comet that is not newer than the entry it meets is counted, and that is all. -/
theorem State.onComet_known {s : State} {n o : Nat} {b : Bytes} {e : ViewEntry} (hsize : 1 < s.systemSize)
    (ho : o = leAt b 0 2 % 512) (hknown : tget? s.ikl.table o = some e)
    (hold : newer 32 (leAt b 4 4) (leAt e.body 4 4) = false) :
    s.onComet n b = (s.count (iklCnt n 5) 1).count (iklCnt n 7) 1 := by
  obtain ⟨hsize', hid, hikl, hclk⟩ := s.count_seen (iklCnt n 5)
  unfold State.onComet
  dsimp only
  rw [← ho]
  generalize s.count (iklCnt n 5) 1 = u at hsize' hid hikl hclk ⊢
  rw [hid, hikl]
  split_ifs with hone hmet
  · omega
  · rfl
  · rw [hknown] at hmet
    exact absurd (.inr hold) hmet
  · rw [hknown] at hmet
    exact absurd (.inr hold) hmet

theorem cometRx_enters {s : State} {n : Fin 8} {r b : Bytes} {o : Nat} (h : Heard s n r 2)
    (hb : b = slice r 8 (leAt r 2 2)) (hsize : 1 < s.systemSize) (ho : o = leAt b 0 2 % 512) (hother : o ≠ s.moduleId)
    (hnew : tget? s.ikl.table o = none) : ∃ t, exec (.cometRx n r) s = .next t ∧
      tget? t.ikl.table o = some ⟨b, n, s.clk⟩ ∧ (∀ k, k ≠ o → tget? t.ikl.table k = tget? s.ikl.table k) := by
  obtain ⟨ports, obs, hexec⟩ := exec_cometRx h
  rw [← hb] at hexec
  have htable := State.onComet_table (s := { s with ikl := { s.ikl with ports := ports }, obs := obs }) (n := n) hsize ho
    hother hnew
  refine ⟨_, hexec, ?_, fun k hk => ?_⟩
  · rw [htable]
    exact tget?_tput_same _ _ _
  · rw [htable]
    exact tget?_tput_ne _ hk _

theorem State.count_count_eq (s : State) (a c : Nat) : ∃ obs, (s.count a 1).count c 1 = { s with obs := obs } := by
  obtain ⟨obs, h⟩ := s.count_eq a 1
  obtain ⟨obs', h'⟩ := State.count_eq { s with obs := obs } c 1
  rw [h, h']
  exact ⟨obs', rfl⟩

theorem cometRx_known {s : State} {n : Fin 8} {r b : Bytes} {o : Nat} {e : ViewEntry} (h : Heard s n r 2)
    (hb : b = slice r 8 (leAt r 2 2)) (hsize : 1 < s.systemSize) (ho : o = leAt b 0 2 % 512)
    (hknown : tget? s.ikl.table o = some e) (hold : newer 32 (leAt b 4 4) (leAt e.body 4 4) = false) : ∃ t,
      exec (.cometRx n r) s = .next t ∧ t.ikl.table = s.ikl.table ∧ t.ikl.leader = s.ikl.leader ∧
      { t with ikl := s.ikl, obs := s.obs } = s := by
  obtain ⟨ports, obs, hexec⟩ := exec_cometRx h
  rw [← hb] at hexec
  have hstands := State.onComet_known (s := { s with ikl := { s.ikl with ports := ports }, obs := obs }) (n := n)
    hsize ho hknown hold
  obtain ⟨obs', hcount⟩ := State.count_count_eq { s with ikl := { s.ikl with ports := ports }, obs := obs } (iklCnt n 5)
    (iklCnt n 7)
  exact ⟨_, hexec.trans (congrArg _ (hstands.trans hcount)), rfl, rfl, rfl⟩

/-- The state whose table has no entry of a module. -/
def State.forget (s : State) (o : Nat) : State := { s with ikl := { s.ikl with table := terase s.ikl.table o } }

theorem exec_cometExpire {s : State} {o : Nat} {e : ViewEntry} (h : tget? s.ikl.table o = some e) :
    exec (.cometExpire o) s = .next ((s.waitClk (e.at_ + s.cometTimeoutUs * 1000)).forget o).updateView := by
  show execCometExpire o s = _
  rw [execCometExpire, h]
  rfl

theorem cometExpire_forgets {s : State} {o : Nat} {e : ViewEntry} (hrise : keysRise 0 s.ikl.table = true)
    (h : tget? s.ikl.table o = some e) : ∃ t, exec (.cometExpire o) s = .next t ∧ tget? t.ikl.table o = none ∧
      (∀ k, k ≠ o → tget? t.ikl.table k = tget? s.ikl.table k) ∧
      t.clk = max s.clk (e.at_ + s.cometTimeoutUs * 1000) := by
  rw [exec_cometExpire h]
  have hclk := s.waitClk_clk (e.at_ + s.cometTimeoutUs * 1000)
  have hikl : (s.waitClk (e.at_ + s.cometTimeoutUs * 1000)).ikl = s.ikl := rfl
  generalize s.waitClk (e.at_ + s.cometTimeoutUs * 1000) = v at hclk hikl ⊢
  have htable : (v.forget o).updateView.ikl.table = terase s.ikl.table o := by
    rw [(IklSt.of_chart (v.forget o).updateView_chart).1, ← hikl]
    rfl
  refine ⟨_, rfl, ?_, fun k hk => ?_, (State.clk_of_standing (v.forget o).updateView_standing).trans hclk⟩
  · rw [htable, tget?_terase_same hrise]
  · rw [htable, tget?_terase_ne _ hk]

/-! ### A stale module asks (R413) -/

theorem exec_syncReqSend_fresh {s : State} (h : s.ikl.stale = false) : exec .syncReqSend s = .next s := by
  show execSyncReqSend s = _
  rw [execSyncReqSend, if_pos h]
  rfl

/-- The state as the next request is made: the one after it is due 10 ms later. -/
def State.syncDue (s : State) : State :=
  { s with ikl := { s.ikl with syncAt := s.clk + 10000000, syncId := (s.ikl.syncId + 1) % 65536 } }

/-- The request of a stale module to another. -/
def State.syncReqOf (s : State) (k : Nat) : ConjMsg :=
  { kind := 5, origin := s.moduleId, id := s.moduleId * 65536 + s.ikl.syncId, epoch := s.ikl.epoch
    leader := s.ikl.leader.getD 0, target := k }

/-- A stale module's request leaves, where there is a module to ask. -/
def State.syncAsk (s : State) : State :=
  match s.syncSource with
  | some k => s.sendConj (s.syncReqOf k)
  | none => s

theorem exec_syncReqSend {s : State} (h : s.ikl.stale = true) :
    exec .syncReqSend s = .next (s.waitClk s.ikl.syncAt).syncDue.syncAsk := by
  show execSyncReqSend s = _
  rw [execSyncReqSend, if_neg (by simp [h])]
  rfl

theorem syncReqSend_asks {s : State} (h : s.ikl.stale = true) : ∃ t, exec .syncReqSend s = .next t ∧
      t.clk = max s.clk s.ikl.syncAt ∧ t.ikl.syncAt = t.clk + 10000000 ∧ t.ikl.syncId = (s.ikl.syncId + 1) % 65536 ∧
      (∀ k, s.syncSource = some k → ∃ q : ConjMsg, q.kind = 5 ∧ q.origin = s.moduleId ∧ q.target = k ∧
        q.epoch = s.ikl.epoch ∧ t.ikl.repeats = s.ikl.repeats ++ [(t.clk + 20000, 8, q.bytes)]) ∧
      TimeOnly s { t with ikl := s.ikl, obs := s.obs, out := s.out } := by
  rw [exec_syncReqSend h]
  have hclk := s.waitClk_clk s.ikl.syncAt
  have hikl : (s.waitClk s.ikl.syncAt).ikl = s.ikl := rfl
  have hsource : (s.waitClk s.ikl.syncAt).syncDue.syncSource = s.syncSource := rfl
  have hid : (s.waitClk s.ikl.syncAt).moduleId = s.moduleId := rfl
  have htime : TimeOnly s (s.waitClk s.ikl.syncAt) := rfl
  generalize s.waitClk s.ikl.syncAt = v at hclk hikl hsource hid htime ⊢
  have hstood (ikl : IklSt) (obs : ObsSt) (out : List Out) :
      TimeOnly s { ({ v with ikl := ikl, obs := obs, out := out } : State) with ikl := s.ikl, obs := s.obs, out := s.out } := by
    have h := congrArg (fun x : State => { x with ikl := s.ikl, obs := s.obs, out := s.out }) htime
    exact h
  have hnext : v.syncDue.ikl.syncId = (s.ikl.syncId + 1) % 65536 := by rw [← hikl]; rfl
  have hrepeats : v.syncDue.ikl.repeats = s.ikl.repeats := by rw [← hikl]; rfl
  have hepoch : v.syncDue.ikl.epoch = s.ikl.epoch := by rw [← hikl]; rfl
  cases hk : s.syncSource with
  | none =>
    rw [State.syncAsk, hsource, hk]
    dsimp only
    refine ⟨_, rfl, hclk, rfl, hnext, ?_, hstood v.syncDue.ikl v.obs v.out⟩
    intro k hk
    cases hk
  | some k =>
    obtain ⟨ports, seen, obs, out, hsend⟩ := v.syncDue.sendConj_eq (v.syncDue.syncReqOf k)
    rw [State.syncAsk, hsource, hk]
    dsimp only
    rw [hsend]
    refine ⟨_, rfl, hclk, rfl, hnext, fun j hj => ?_, hstood _ _ _⟩
    obtain rfl := Option.some.inj hj
    exact ⟨v.syncDue.syncReqOf k, rfl, hid, rfl, hepoch, congrArg (· ++ _) hrepeats⟩

/-! ### The request is answered, and the epoch taken (R413) -/

/-- The answer to a request. -/
def State.syncAnswerOf (s : State) (m : ConjMsg) : ConjMsg :=
  { kind := 6, origin := s.moduleId, id := m.id, orbit := s.orbitPicture.1, digest := s.orbitPicture.2.1
    epoch := s.ikl.epoch, t := s.orbitPicture.2.2, leader := s.ikl.leader.getD 0, target := m.origin }

theorem State.onSyncReq_answers {s : State} {m : ConjMsg} (htarget : m.target = s.moduleId) :
    s.onSyncReq m = s.sendConj (s.syncAnswerOf m) := by
  rw [State.onSyncReq, if_neg (not_not.mpr htarget)]
  rfl

theorem State.actConj_syncReq (s : State) {m : ConjMsg} (h : m.kind = 5) : s.actConj m = s.onSyncReq m := by
  simp only [State.actConj, h]

theorem State.actConj_syncReply (s : State) {m : ConjMsg} (h : m.kind = 6) : s.actConj m = s.onSyncReply m := by
  simp only [State.actConj, h]

theorem syncReq_answered {s : State} {n : Fin 8} {r b : Bytes} {m : ConjMsg} (h : HeardConj s n r b m) (hkind : m.kind = 5)
    (htarget : m.target = s.moduleId) : ∃ t, exec (.syncReq n r) s = .next t ∧
      (∃ q : ConjMsg, q.kind = 6 ∧ q.origin = s.moduleId ∧ q.target = m.origin ∧ q.epoch = s.ikl.epoch ∧
        (q.orbit, q.digest, q.t) = s.orbitPicture ∧
        t.ikl.repeats = s.ikl.repeats ++ [(s.clk + 20000, n.val, b), (s.clk + 20000, 8, q.bytes)]) ∧
      { t with ikl := s.ikl, obs := s.obs, out := s.out } = s := by
  obtain ⟨ports, seen, obs, out, hin⟩ := State.recordIn_conj h
  have hexec : exec (.syncReq n r) s = .next (s.recordIn n r) := rfl
  rw [hin, State.actConj_syncReq _ hkind, State.onSyncReq_answers (s := s.spoke ports seen (s.clk + 20000, n.val, b) obs out) htarget] at hexec
  obtain ⟨ports', seen', obs', out', hsend⟩ := (s.spoke ports seen (s.clk + 20000, n.val, b) obs out).sendConj_eq
    (s.syncAnswerOf m)
  refine ⟨_, hexec.trans (congrArg _ hsend), ⟨s.syncAnswerOf m, rfl, rfl, rfl, rfl, rfl, ?_⟩, rfl⟩
  exact List.append_assoc _ _ _

/-- The module whose STALE clears with the epoch of its answer. -/
def State.epochTaken (s : State) (epoch : Nat) : State :=
  { s with ikl := { s.ikl with epoch := epoch, stale := false } }

/-- The Orbit of the answer is judged. -/
def State.orbitJudged (s : State) (m : ConjMsg) : State :=
  if s.orbitPicture.1 = m.orbit ∧ s.orbitPicture.2.1 = m.digest ∧ s.orbitPicture.2.2 = m.t then s
  else (({ s with ikl := { s.ikl with outOfOrbit := true } }).txDark).raise 0x080D [(4, s.orbitPicture.1), (4, m.orbit)]

theorem State.onSyncReply_taken {s : State} {m : ConjMsg} (htarget : m.target = s.moduleId) (hstale : s.ikl.stale = true) :
    s.onSyncReply m = (((s.epochTaken m.epoch).count (iklCnt 8 5) 1).orbitJudged m).updateView := by
  rw [State.onSyncReply, if_neg (not_or.mpr ⟨not_not.mpr htarget, by simp [hstale]⟩)]
  rfl

/-- What the judgement leaves. -/
theorem State.orbitJudged_leaves (s : State) (m : ConjMsg) : (s.orbitJudged m).ikl.epoch = s.ikl.epoch ∧
    (s.orbitJudged m).ikl.stale = s.ikl.stale ∧ (s.orbitJudged m).canvas = s.canvas ∧
    (s.orbitPicture = (m.orbit, m.digest, m.t) → (s.orbitJudged m).ikl.outOfOrbit = s.ikl.outOfOrbit) ∧
    (s.orbitPicture ≠ (m.orbit, m.digest, m.t) → (s.orbitJudged m).ikl.outOfOrbit = true) := by
  unfold State.orbitJudged
  split
  next h =>
    obtain ⟨h1, h2, h3⟩ := h
    exact ⟨rfl, rfl, rfl, fun _ => rfl, fun hne => absurd (Prod.ext h1 (Prod.ext h2 h3)) hne⟩
  next h =>
    rw [State.raise_ikl, State.raise_canvas]
    refine ⟨rfl, rfl, rfl, fun heq => absurd ?_ h, fun _ => rfl⟩
    rw [heq]
    exact ⟨rfl, rfl, rfl⟩

theorem State.updateView_fresh {s : State} (hone : s.systemSize ≤ 1) (hfresh : s.ikl.stale = false) :
    s.updateView.ikl.stale = false := by
  cases h : s.canvas.active.isSome with
  | false => rw [State.updateView_of_noCanvas (by simpa using h), hfresh]
  | true =>
    rw [State.updateView_alone h hone]
    obtain ⟨parent, ports, hparent⟩ := s.alone.updateSource.parentUpdate_ikl
    rw [hparent, State.updateSource_ikl]
    rfl

theorem syncReply_taken {s : State} {n : Fin 8} {r b : Bytes} {m : ConjMsg} (h : HeardConj s n r b m) (hkind : m.kind = 6)
    (htarget : m.target = s.moduleId) (hstale : s.ikl.stale = true) : ∃ t,
      exec (.syncReply n r) s = .next t ∧ t.ikl.epoch = m.epoch ∧
      (s.systemSize ≤ 1 → t.ikl.stale = false) ∧
      (s.orbitPicture = (m.orbit, m.digest, m.t) → t.ikl.outOfOrbit = s.ikl.outOfOrbit) ∧
      (s.orbitPicture ≠ (m.orbit, m.digest, m.t) → t.ikl.outOfOrbit = true) := by
  obtain ⟨ports, seen, obs, out, hin⟩ := State.recordIn_conj h
  have hexec : exec (.syncReply n r) s = .next (s.recordIn n r) := rfl
  rw [hin, State.actConj_syncReply _ hkind, State.onSyncReply_taken (s := s.spoke ports seen (s.clk + 20000, n.val, b) obs out) htarget
    hstale] at hexec
  obtain ⟨obs', hcount⟩ := ((s.spoke ports seen (s.clk + 20000, n.val, b) obs out).epochTaken m.epoch).count_eq (iklCnt 8 5) 1
  rw [hcount] at hexec
  obtain ⟨hepoch, hfresh, hcanvas, hin', hout⟩ := State.orbitJudged_leaves
    { (s.spoke ports seen (s.clk + 20000, n.val, b) obs out).epochTaken m.epoch with obs := obs' } m
  obtain ⟨-, -, -, hepoch', hout'⟩ := IklSt.of_chart (State.updateView_chart (State.orbitJudged
    { (s.spoke ports seen (s.clk + 20000, n.val, b) obs out).epochTaken m.epoch with obs := obs' } m))
  refine ⟨_, hexec, hepoch'.trans hepoch, fun hone => ?_, fun heq => hout'.trans (hin' heq), fun hne => hout'.trans (hout hne)⟩
  have hsize := congrArg (fun c : CanvasSt => State.systemSize { s with canvas := c }) hcanvas
  exact State.updateView_fresh (hsize.trans_le hone) hfresh

/-- Settles O54, clause by clause: Comets sent, received, known and expired; a stale module asks, is answered and takes the
epoch. -/
theorem cometsAndResynchronisation : Obligations.CometsAndResynchronisation := by
  unfold Obligations.CometsAndResynchronisation
  intro s n r b o e m
  exact ⟨cometSend_sent, exec_cometSend_noCanvas, fun h hb hsize ho => ⟨cometRx_enters h hb hsize ho,
    cometRx_known h hb hsize ho⟩, cometExpire_forgets, exec_syncReqSend_fresh, syncReqSend_asks, syncReq_answered,
    syncReply_taken⟩

end Sys2Proof.Machine
end

section
/-!
The ports of Ikile, its time exchanges and its tunnels (R401 to R405, R423, R424).
-/

namespace Sys2Proof.Machine

open Sys2Proof.Stated

/-! ### Time exchanges sent (R403) -/

/-- The state whose next exchange is due 125 µs later. -/
def State.exchDue (s : State) : State := { s with ikl := { s.ikl with exchAt := s.clk + 125000 } }

theorem exec_exchSend (s : State) :
    exec .exchSend s = .next ((s.waitClk s.ikl.exchAt).exchDue.each s.upPorts State.sendExch) := rfl

/-- A port after an exchange has left on it. -/
def IklPort.exchanged (now : Nat) (p : IklPort) : IklPort :=
  { p.sent with exTx := some (p.sent.txSeq, now), exSent := ((p.sent.txSeq, now) :: p.exSent).take 8 }

theorem State.sendExch_port {s : State} (hlen : s.ikl.ports.length = 8) {n : Nat} (hn : n < 8) :
    (s.sendExch n).iklPort n = (s.iklPort n).exchanged s.time.now ∧
      ∀ k, k ≠ n → (s.sendExch n).iklPort k = s.iklPort k := by
  obtain ⟨hsame, hother⟩ := State.sendIkl_port hlen hn 1 (s.exchBody n)
  have hlen' := (s.sendIkl_length n 1 (s.exchBody n)).trans hlen
  obtain ⟨ports, obs, out, heq⟩ := s.sendIkl_eq n 1 (s.exchBody n)
  have hnow : (s.sendIkl n 1 (s.exchBody n)).time.now = s.time.now := by rw [heq]
  have hsent : (s.iklPort n).sent.exSent = (s.iklPort n).exSent := by rw [IklPort.sent]; split <;> rfl
  unfold State.sendExch
  dsimp only
  refine ⟨?_, fun k hk => (State.setIklPort_ne _ hk _).trans (hother k hk)⟩
  rw [State.setIklPort_same (by omega), hsame, hnow, hsent]
  rfl

/-- What an exchange that leaves moves beside its port: the counters, and one record on the link. -/
theorem State.sendExch_eq {s : State} {n : Nat} (hup : (s.iklPort n).state = 2) : ∃ ports obs o,
    s.sendExch n = { s with ikl := { s.ikl with ports := ports }, obs := obs, out := o :: s.out } := by
  have hsend : s.sendIkl n 1 (s.exchBody n) = ((s.setIklPort n { s.iklPort n with txSeq := seqNext (s.iklPort n).txSeq }).emit
      (.ikile n (iklRecord 1 (seqNext (s.iklPort n).txSeq) (s.exchBody n)))).count (iklCnt n 0) 1 := by
    rw [State.sendIkl, if_neg (by omega)]
  obtain ⟨obs, hcount⟩ := ((s.setIklPort n { s.iklPort n with txSeq := seqNext (s.iklPort n).txSeq }).emit
      (.ikile n (iklRecord 1 (seqNext (s.iklPort n).txSeq) (s.exchBody n)))).count_eq (iklCnt n 0) 1
  unfold State.sendExch
  rw [hsend, hcount]
  exact ⟨_, obs, _, rfl⟩

/-- Exchanges on a list of ports that are up. -/
theorem State.each_sendExch {l : List Nat} (hl : l.Nodup) (hlt : ∀ n ∈ l, n < 8) {s : State}
    (hlen : s.ikl.ports.length = 8) (hup : ∀ n ∈ l, (s.iklPort n).state = 2) : ∃ ports obs out,
      s.each l State.sendExch = { s with ikl := { s.ikl with ports := ports }, obs := obs, out := out } ∧
      out.length = s.out.length + l.length := by
  induction l generalizing s with
  | nil => exact ⟨s.ikl.ports, s.obs, s.out, rfl, rfl⟩
  | cons n rest ih =>
    obtain ⟨hnew, hrest⟩ := List.nodup_cons.mp hl
    obtain ⟨ports, obs, o, hsend⟩ := State.sendExch_eq (hup n List.mem_cons_self)
    obtain ⟨-, hother⟩ := State.sendExch_port hlen (hlt n List.mem_cons_self)
    have hlen' : (s.sendExch n).ikl.ports.length = 8 :=
      (State.setIklPort_length _ _ _).trans ((s.sendIkl_length n 1 (s.exchBody n)).trans hlen)
    obtain ⟨ports', obs', out', heach, hout⟩ := ih hrest (fun m hm => hlt m (List.mem_cons_of_mem n hm)) hlen'
      fun m hm => by rw [hother m (fun h => hnew (h ▸ hm)), hup m (List.mem_cons_of_mem n hm)]
    refine ⟨ports', obs', out', ?_, ?_⟩
    · show (s.sendExch n).each rest State.sendExch = _
      rw [heach, hsend]
    · rw [hout, hsend, List.length_cons, List.length_cons]
      omega

theorem exchSend_sent {s : State} (hlen : s.ikl.ports.length = 8) : ∃ t, exec .exchSend s = .next t ∧
      t.clk = max s.clk s.ikl.exchAt ∧ t.ikl.exchAt = t.clk + 125000 ∧
      (∀ k : Fin 8, (s.iklPort k).state = 2 → (t.iklPort k).txSeq = seqNext (s.iklPort k).txSeq ∧
        (t.iklPort k).exTx = some (seqNext (s.iklPort k).txSeq, t.time.now)) ∧
      (∀ k : Fin 8, (s.iklPort k).state ≠ 2 → t.iklPort k = s.iklPort k) ∧
      t.out.length = s.out.length + s.upPorts.length ∧
      TimeOnly s { t with ikl := s.ikl, obs := s.obs, out := s.out } := by
  rw [exec_exchSend]
  have hclk := s.waitClk_clk s.ikl.exchAt
  have hports : (s.waitClk s.ikl.exchAt).exchDue.ikl.ports = s.ikl.ports := rfl
  have hout : (s.waitClk s.ikl.exchAt).exchDue.out = s.out := rfl
  have htime : TimeOnly s { (s.waitClk s.ikl.exchAt).exchDue with ikl := s.ikl } := rfl
  have hdue : (s.waitClk s.ikl.exchAt).exchDue.ikl.exchAt = (s.waitClk s.ikl.exchAt).exchDue.clk + 125000 := rfl
  have hclk' : (s.waitClk s.ikl.exchAt).exchDue.clk = max s.clk s.ikl.exchAt := hclk
  generalize (s.waitClk s.ikl.exchAt).exchDue = v at hclk' hports hout htime hdue ⊢
  have hport (k : Nat) : v.iklPort k = s.iklPort k := by rw [State.iklPort, hports]; rfl
  have hlen' : v.ikl.ports.length = 8 := by rw [hports, hlen]
  obtain ⟨ports, obs, out, heach, houts⟩ := State.each_sendExch s.upPorts_nodup (fun n => State.upPorts_lt) hlen'
    fun n hn => by rw [hport, (State.mem_upPorts.mp hn).2]
  have hafter (k : Fin 8) := State.each_iklPort (f := State.sendExch) (g := IklPort.exchanged v.time.now)
    (I := fun u => u.ikl.ports.length = 8 ∧ u.time.now = v.time.now)
    (fun u n ⟨hu, hnow⟩ => ⟨(State.setIklPort_length _ _ _).trans ((u.sendIkl_length n 1 (u.exchBody n)).trans hu), by
      obtain ⟨_, _, _, heq⟩ := u.sendIkl_eq n 1 (u.exchBody n)
      exact (congrArg (fun x : State => x.time.now) heq).trans hnow⟩)
    (fun u n ⟨hu, hnow⟩ hn => hnow ▸ State.sendExch_port hu hn)
    s.upPorts_nodup (fun n => State.upPorts_lt) (s := v) ⟨hlen', rfl⟩ k
  have hin (k : Fin 8) : k.val ∈ s.upPorts ↔ (s.iklPort k).state = 2 := State.mem_upPorts.trans (and_iff_right k.isLt)
  refine ⟨_, rfl, ?_, ?_, fun k hup => ?_, fun k hdown => ?_, ?_, ?_⟩
  · rw [heach]; exact hclk'
  · rw [heach]; exact hdue
  · rw [hafter, if_pos ((hin k).mpr hup), hport, IklPort.exchanged, IklPort.sent, if_neg (by omega), heach]
    exact ⟨rfl, rfl⟩
  · rw [hafter, if_neg (fun h => hdown ((hin k).mp h)), hport]
  · rw [heach]
    exact houts.trans (by rw [hout])
  · rw [heach]
    have h := congrArg (fun x : State => { x with obs := s.obs, out := s.out }) htime
    exact h

/-! ### The choice of the parent (R405) -/

theorem State.takeParent_leaves (s : State) (p : Option Nat) :
    ({ s.takeParent p with ikl := s.ikl, time := s.time } : State) = s ∧ (s.takeParent p).time.now = s.time.now := by
  unfold State.takeParent
  dsimp only
  split <;> exact ⟨rfl, rfl⟩

theorem State.parentUpdate_leaves (s : State) :
    ({ s.parentUpdate with ikl := s.ikl, time := s.time } : State) = s ∧ s.parentUpdate.time.now = s.time.now := by
  unfold State.parentUpdate
  dsimp only
  split_ifs
  · exact ⟨rfl, rfl⟩
  · exact ⟨rfl, rfl⟩
  · exact s.takeParent_leaves _
  · exact State.each_induction (P := fun u => ({ u with ikl := s.ikl, time := s.time } : State) = s ∧ u.time.now = s.time.now)
      ⟨rfl, rfl⟩ fun u n _ hu => hu

section ParentUpdate

variable (s : State)

theorem State.parentUpdate_saf : s.parentUpdate.saf = s.saf := by
  have h := congrArg State.saf s.parentUpdate_leaves.1; exact h
theorem State.parentUpdate_mode : s.parentUpdate.mode = s.mode := by
  have h := congrArg State.mode s.parentUpdate_leaves.1; exact h
theorem State.parentUpdate_clk : s.parentUpdate.clk = s.clk := by
  have h := congrArg State.clk s.parentUpdate_leaves.1; exact h

end ParentUpdate

theorem exec_parentChange {s : State} {n : Fin 8} {a : Nat} (h : (s.iklPort n).lowerSince = some a) :
    exec (.parentChange n) s = .next ((s.waitClk (a + 10000000)).takeParent (some n)) := by
  show execParentChange n s = _
  rw [execParentChange, h]
  rfl

theorem State.waitClk_slow (s : State) (t : Nat) : (s.waitClk t).time.slow = s.time.slow := rfl

theorem State.takeParent_taken (s : State) (n : Nat) : (s.takeParent (some n)).ikl.parent = some n ∧
    (s.takeParent (some n)).clk = s.clk ∧ (s.time.slow = false → (s.takeParent (some n)).time.state = 1) ∧
    (s.takeParent (some n)).ikl.ports = s.ikl.ports.map fun x => { x with lowerSince := none } := by
  unfold State.takeParent
  dsimp only
  split
  · exact ⟨rfl, rfl, fun _ => rfl, rfl⟩
  next h => exact ⟨rfl, rfl, fun hslow => absurd ⟨rfl, hslow⟩ h, rfl⟩

theorem parentChange_taken {s : State} {n : Fin 8} {a : Nat} (h : (s.iklPort n).lowerSince = some a) : ∃ t,
      exec (.parentChange n) s = .next t ∧ t.ikl.parent = some n.val ∧
      t.clk = max s.clk (a + 10000000) ∧ (s.time.slow = false → t.time.state = 1) ∧
      (∀ k : Fin 8, (t.iklPort k).lowerSince = none) ∧
      TimeOnly s { t with ikl := s.ikl } := by
  rw [exec_parentChange h]
  have hclk := s.waitClk_clk (a + 10000000)
  have hslow := s.waitClk_slow (a + 10000000)
  have htime := s.waitClk_timeOnly (a + 10000000)
  generalize s.waitClk (a + 10000000) = v at hclk hslow htime ⊢
  obtain ⟨hparent, hclk', hstate, hports⟩ := v.takeParent_taken n
  refine ⟨_, rfl, hparent, hclk'.trans hclk, fun h => hstate (hslow.trans h), fun k => ?_, ?_⟩
  · rw [State.iklPort, hports, lget, List.getD_eq_getElem?_getD, List.getElem?_map]
    cases v.ikl.ports[k.val]? <;> rfl
  · have hleaves := congrArg (fun x : State => { x with ikl := s.ikl, clk := s.clk, time := s.time, thm := s.thm, cal := s.cal })
      (v.takeParent_leaves (some n.val)).1
    have htime' := congrArg (fun x : State => { x with ikl := s.ikl }) htime
    exact hleaves.trans htime'

/-! ### Time exchanges received (R404, R424) -/

/-- What a port knows of its peer. -/
def IklPort.peer (p : IklPort) : IklPort :=
  { peerValid := p.peerValid, peerId := p.peerId, peerHop := p.peerHop, peerTstate := p.peerTstate, exRx := p.exRx }

/-- From `s` to `t` the peer of port n, the safety block and the module time stand. -/
structure SamePeer (n : Nat) (s t : State) : Prop where
  length : t.ikl.ports.length = s.ikl.ports.length
  peer : (t.iklPort n).peer = (s.iklPort n).peer
  saf : t.saf = s.saf
  now : t.time.now = s.time.now

theorem SamePeer.trans {n : Nat} {s t u : State} (h : SamePeer n s t) (k : SamePeer n t u) : SamePeer n s u :=
  ⟨k.length.trans h.length, k.peer.trans h.peer, k.saf.trans h.saf, k.now.trans h.now⟩

theorem State.parentUpdate_samePeer {s : State} (hlen : s.ikl.ports.length = 8) (n : Nat) : SamePeer n s s.parentUpdate := by
  obtain ⟨hcount, hports⟩ := State.parentUpdate_port hlen
  obtain ⟨-, hnow⟩ := s.parentUpdate_leaves
  have hpeer := congrArg IklPort.peer (hports n)
  exact ⟨hcount.trans hlen.symm, hpeer, s.parentUpdate_saf, hnow⟩

theorem State.addOffset_samePeer (s : State) (n : Nat) (ps : Int) : SamePeer n s (s.addOffset ps) := ⟨rfl, rfl, rfl, rfl⟩

theorem State.measured_samePeer {s : State} {n : Nat} (hn : n < s.ikl.ports.length) (delay ofs : Int) (a : Nat) :
    SamePeer n s ((s.setIklPort n { s.iklPort n with delay := delay, ofs := some ofs }).count a 1) := by
  refine ⟨s.setIklPort_length _ _, ?_, rfl, rfl⟩
  have h := congrArg IklPort.peer (State.setIklPort_same hn { s.iklPort n with delay := delay, ofs := some ofs })
  exact h

theorem State.exchange_samePeer {s : State} {n : Nat} (hn : n < s.ikl.ports.length) (prev : Option (Nat × Nat)) (b : Bytes) :
    SamePeer n s (s.exchange n prev b) := by
  unfold State.exchange
  dsimp only
  split
  · split
    · exact ⟨rfl, rfl, rfl, rfl⟩
    · split
      · exact (State.measured_samePeer hn _ _ _).trans (State.addOffset_samePeer _ _ _)
      · exact State.measured_samePeer hn _ _ _
  · exact ⟨rfl, rfl, rfl, rfl⟩

theorem State.hearStep_samePeer (s : State) (n m : Nat) (b : Bytes) : SamePeer n s (s.hearStep m b) := by
  unfold State.hearStep
  dsimp only
  split <;> exact ⟨rfl, rfl, rfl, rfl⟩

/-- A port that has heard its peer. -/
def IklPort.told (p : IklPort) (seq now : Nat) (b : Bytes) : IklPort :=
  { p with
    peerValid := true, peerId := leAt b 0x18 2 % 512, peerHop := byteAt b 0x1A, peerTstate := byteAt b 0x1B
    exRx := some (seq, now) }

theorem State.onExch_peer {s : State} {n : Nat} (hlen : s.ikl.ports.length = 8) (hn : n < 8) (seq : Nat) {b : Bytes}
    (hother : leAt b 0x18 2 % 512 ≠ s.moduleId) :
    SamePeer n (s.setIklPort n ((s.iklPort n).told seq s.time.now b)) (s.onExch n seq b) := by
  have hlen' := (s.setIklPort_length n ((s.iklPort n).told seq s.time.now b)).trans hlen
  have hparent := State.parentUpdate_samePeer hlen' n
  unfold State.onExch
  dsimp only
  rw [if_neg fun h => hother h.1]
  exact (hparent.trans (State.exchange_samePeer (by rw [hparent.length, hlen']; exact hn) _ b)).trans
    (State.hearStep_samePeer _ n n b)

/-- The state as a port has been put down for its peer's MODULE_ID. -/
def State.dupDown (s : State) (n : Nat) : State :=
  ((s.setIklPort n { state := 0, dup := true }).raise 0x080F [(1, n)]).parentUpdate

theorem State.onExch_dup {s : State} {n : Nat} {b : Bytes} (seq : Nat) (hsame : leAt b 0x18 2 % 512 = s.moduleId)
    (hcanvas : s.canvas.active.isSome = true) : s.onExch n seq b = s.dupDown n := by
  unfold State.onExch
  dsimp only
  rw [if_pos ⟨hsame, hcanvas⟩]
  rfl

/-- What a port reads after an event and a choice of the parent. -/
theorem State.raise_parentUpdate_port {s : State} (hlen : s.ikl.ports.length = 8) (code : Nat) (l : List (Nat × Nat)) (k : Nat) :
    ((s.raise code l).parentUpdate.iklPort k).state = (s.iklPort k).state ∧
      ((s.raise code l).parentUpdate.iklPort k).dup = (s.iklPort k).dup := by
  have hikl := s.raise_ikl code l
  obtain ⟨-, hports⟩ := State.parentUpdate_port (s := s.raise code l) (by rw [hikl, hlen])
  have hport : (s.raise code l).iklPort k = s.iklPort k := by rw [State.iklPort, hikl]; rfl
  have hstate := congrArg IklPort.state (hports k)
  have hdup := congrArg IklPort.dup (hports k)
  rw [← hport]
  exact ⟨hstate, hdup⟩

theorem exec_exchRx {s : State} {n : Fin 8} {r : Bytes} (h : Heard s n r 1) : ∃ ports obs, ports.length = 8 ∧
    exec (.exchRx n r) s = .next (State.onExch { s with ikl := { s.ikl with ports := ports }, obs := obs } n (leAt r 4 4)
      (slice r 8 (leAt r 2 2))) := by
  obtain ⟨ports, obs, htake, hlen, -⟩ := State.recordIn_heard h
  obtain ⟨-, -, -, -, htype, -⟩ := h
  refine ⟨ports, obs, hlen, ?_⟩
  show execExchRx n r s = _
  rw [execExchRx, State.recordIn, htake]
  dsimp only
  rw [htype]
  rfl

theorem exchRx_peer {s : State} {n : Fin 8} {r b : Bytes} (h : Heard s n r 1) (hb : b = slice r 8 (leAt r 2 2))
    (hother : leAt b 0x18 2 % 512 ≠ s.moduleId) : ∃ t, exec (.exchRx n r) s = .next t ∧ (t.iklPort n).peerValid = true ∧
      (t.iklPort n).peerId = leAt b 0x18 2 % 512 ∧ (t.iklPort n).peerHop = byteAt b 0x1A ∧
      (t.iklPort n).peerTstate = byteAt b 0x1B ∧ (t.iklPort n).exRx = some (leAt r 4 4, s.time.now) ∧
      t.time.now = s.time.now ∧ t.saf = s.saf := by
  obtain ⟨ports, obs, hlen, hexec⟩ := exec_exchRx h
  rw [← hb] at hexec
  obtain ⟨-, hpeer, hsaf, hnow⟩ := State.onExch_peer (s := { s with ikl := { s.ikl with ports := ports }, obs := obs }) hlen
    n.isLt (leAt r 4 4) hother
  rw [State.setIklPort_same (s := { s with ikl := { s.ikl with ports := ports }, obs := obs }) (hlen.symm ▸ n.isLt)] at hpeer
  have hvalid := congrArg IklPort.peerValid hpeer
  have hid := congrArg IklPort.peerId hpeer
  have hhop := congrArg IklPort.peerHop hpeer
  have hstate := congrArg IklPort.peerTstate hpeer
  have hrx := congrArg IklPort.exRx hpeer
  exact ⟨_, hexec, hvalid, hid, hhop, hstate, hrx, hnow, hsaf⟩

theorem exchRx_dup {s : State} {n : Fin 8} {r b : Bytes} (h : Heard s n r 1) (hb : b = slice r 8 (leAt r 2 2))
    (hsame : leAt b 0x18 2 % 512 = s.moduleId) (hcanvas : s.canvas.active.isSome = true) : ∃ t,
      exec (.exchRx n r) s = .next t ∧ (t.iklPort n).state = 0 ∧ (t.iklPort n).dup = true ∧ t.saf = s.saf := by
  obtain ⟨ports, obs, hlen, hexec⟩ := exec_exchRx h
  rw [← hb, State.onExch_dup (s := { s with ikl := { s.ikl with ports := ports }, obs := obs }) _ hsame hcanvas] at hexec
  have hset : ports.length = 8 → State.iklPort (State.setIklPort { s with ikl := { s.ikl with ports := ports }, obs := obs } n
      { state := 0, dup := true }) n = { state := 0, dup := true } := fun hp => State.setIklPort_same (hp.symm ▸ n.isLt) _
  obtain ⟨hstate, hdup⟩ := State.raise_parentUpdate_port
    (s := State.setIklPort { s with ikl := { s.ikl with ports := ports }, obs := obs } n { state := 0, dup := true })
    ((State.setIklPort_length _ _ _).trans hlen) 0x080F [(1, n.val)] n
  rw [hset hlen] at hstate hdup
  exact ⟨_, hexec, hstate, hdup, (State.parentUpdate_saf _).trans (State.raise_saf _ _ _)⟩

/-! ### Ports that go down (R401) -/

theorem State.raiseLim_parentUpdate_port {s : State} (hlen : s.ikl.ports.length = 8) (code sub : Nat) (l : List (Nat × Nat))
    (k : Nat) : ((s.raiseLim code sub l).parentUpdate.iklPort k).state = (s.iklPort k).state ∧
      ((s.raiseLim code sub l).parentUpdate.iklPort k).peerValid = (s.iklPort k).peerValid := by
  have hikl := s.raiseLim_ikl code sub l
  obtain ⟨-, hports⟩ := State.parentUpdate_port (s := s.raiseLim code sub l) (by rw [hikl, hlen])
  have hport : (s.raiseLim code sub l).iklPort k = s.iklPort k := by rw [State.iklPort, hikl]; rfl
  have hstate := congrArg IklPort.state (hports k)
  have hvalid := congrArg IklPort.peerValid (hports k)
  rw [← hport]
  exact ⟨hstate, hvalid⟩

/-- A port that was up trains again, without its peer. -/
theorem State.portDown_trains {s : State} {n : Nat} (hlen : s.ikl.ports.length = 8) (hn : n < 8)
    (hup : (s.iklPort n).state = 2) (hdup : (s.iklPort n).dup = false) {cause : Nat} (hcause : cause ≠ 2) :
    ((s.portDown n cause).iklPort n).state = 1 ∧ ((s.portDown n cause).iklPort n).peerValid = false ∧
      (s.portDown n cause).clk = s.clk ∧ (s.portDown n cause).saf = s.saf ∧ (s.portDown n cause).mode = s.mode := by
  have hdown : s.portDown n cause =
      ((s.setIklPort n { state := 1, dup := (s.iklPort n).dup }).raiseLim 0x0802 n [(1, n), (1, cause)]).parentUpdate := by
    rw [State.portDown, if_pos hup, if_neg (by simp [hcause, hdup])]
  have hset : (s.setIklPort n { state := 1, dup := (s.iklPort n).dup }).iklPort n = { state := 1, dup := (s.iklPort n).dup } :=
    State.setIklPort_same (by omega) _
  obtain ⟨hstate, hvalid⟩ := State.raiseLim_parentUpdate_port
    (s := s.setIklPort n { state := 1, dup := (s.iklPort n).dup }) ((s.setIklPort_length _ _).trans hlen) 0x0802 n
    [(1, n), (1, cause)] n
  rw [hset] at hstate hvalid
  rw [hdown]
  exact ⟨hstate, hvalid, (State.parentUpdate_clk _).trans (State.raiseLim_clk _ _ _ _),
    (State.parentUpdate_saf _).trans (State.raiseLim_saf _ _ _ _),
    (State.parentUpdate_mode _).trans (State.raiseLim_mode _ _ _ _)⟩

theorem State.waitClk_agent (s : State) (t : Nat) : (s.waitClk t).ikl = s.ikl ∧ (s.waitClk t).saf = s.saf ∧
    (s.waitClk t).mode = s.mode := ⟨rfl, rfl, rfl⟩

theorem exec_iklPortTimeout {s : State} {n : Fin 8} (h : (s.iklPort n).state = 2) : exec (.iklPortTimeout n) s =
    .next ((s.waitClk ((s.iklPort n).lastValid + 1000000)).portDown n 0) := by
  show execIklPortTimeout n s = _
  rw [execIklPortTimeout, if_pos h]
  rfl

theorem iklPortTimeout_down {s : State} {n : Fin 8} (hlen : s.ikl.ports.length = 8) (hup : (s.iklPort n).state = 2)
    (hdup : (s.iklPort n).dup = false) : ∃ t, exec (.iklPortTimeout n) s = .next t ∧ (t.iklPort n).state = 1 ∧
      (t.iklPort n).peerValid = false ∧ t.clk = max s.clk ((s.iklPort n).lastValid + 1000000) ∧ t.saf = s.saf ∧
      t.mode = s.mode := by
  rw [exec_iklPortTimeout hup]
  have hclk := s.waitClk_clk ((s.iklPort n).lastValid + 1000000)
  obtain ⟨hikl, hsaf, hmode⟩ := s.waitClk_agent ((s.iklPort n).lastValid + 1000000)
  generalize s.waitClk ((s.iklPort n).lastValid + 1000000) = v at hclk hikl hsaf hmode ⊢
  have hport : v.iklPort n = s.iklPort n := by rw [State.iklPort, hikl]; rfl
  obtain ⟨hstate, hvalid, hclk', hsaf', hmode'⟩ := State.portDown_trains (s := v) (n := n) (cause := 0) (by rw [hikl, hlen])
    n.isLt (by rw [hport, hup]) (by rw [hport, hdup]) (by decide)
  exact ⟨_, rfl, hstate, hvalid, hclk'.trans hclk, hsaf'.trans hsaf, hmode'.trans hmode⟩

theorem exec_iklHighSymbolErrors {s : State} {n : Fin 8} (h : (s.iklPort n).state = 2) :
    exec (.iklHighSymbolErrors n) s = .next (s.portDown n 1) := by
  show execIklHighSymbolErrors n s = _
  rw [execIklHighSymbolErrors, if_pos h]
  rfl

theorem exec_iklHighSymbolErrors_idle {s : State} {n : Fin 8} (h : (s.iklPort n).state ≠ 2) :
    exec (.iklHighSymbolErrors n) s = .next s := by
  show execIklHighSymbolErrors n s = _
  rw [execIklHighSymbolErrors, if_neg h]
  rfl

/-! ### The view as it is read (R408) -/

theorem exec_iklViewRead {s : State} (hs : Serves s) (tag : CmdTag) (out max_ : Nat) : exec (.iklViewRead tag out max_) s =
    .next (((s.begin tag 0x0803).outData tag out ((s.ikl.table.take max_).flatMap (fun x => x.2.body))).completeWith tag
      St.ok [(4, (s.ikl.table.take max_).length)] (s.ikl.table.take max_ != [])) := by
  show execIklViewRead tag out max_ s = _
  rw [execIklViewRead, State.serve_eq hs]
  dsimp only
  rw [State.begin_ikl, List.flatMap_def]
  rfl

theorem iklViewRead_read {s : State} (hs : Serves s) (tag : CmdTag) (out max_ : Nat) : ∃ t,
      exec (.iklViewRead tag out max_) s = .next t ∧ Answered s t tag St.ok ∧ ExchangeOnly s t ∧
      Delivered s t tag out ((s.ikl.table.take max_).flatMap (fun x => x.2.body)) :=
  ⟨_, exec_iklViewRead hs tag out max_, answered_of_begun hs (State.outData_cx _ _ _ _) _ _ _,
    exchangeOnly_completeWith ((State.outData_lessExchange _ _ _ _).trans (State.begin_lessExchange _ _ _)) tag _ _ _,
    delivered_of_begun hs tag _ out _ _ _ _⟩

/-! ### Tunnels (R423) -/

/-- The clocks at which a port's queued messages have left, all after now, rise to no less than now. -/
theorem State.lastTunnel_le (s : State) (n : Nat) : s.clk ≤ (s.tunnelsAt n).getLastD s.clk := by
  rw [List.getLastD_eq_getLast?]
  cases h : (s.tunnelsAt n).getLast? with
  | none => exact le_rfl
  | some t =>
    have hlate : s.clk < t := by simpa using (List.mem_filter.mp (List.mem_of_getLast? h)).2
    exact hlate.le

/-- A message that joins the queue of a port. -/
theorem State.tunnelOut_joins {s : State} {n : Nat} {b : Bytes} (hn : n < 8) (hlen : s.ikl.ports.length = 8)
    (hup : (s.iklPort n).state = 2) (hroom : (s.tunnelsAt n).length < 64) : ∃ ports obs out,
      s.tunnelOut n b = { s with ikl := { s.ikl with ports := ports }, obs := obs, out := out } ∧
      ((s.tunnelOut n b).iklPort n).txSeq = seqNext (s.iklPort n).txSeq ∧
      ((s.tunnelOut n b).tunnelsAt n).length = (s.tunnelsAt n).length + 1 := by
  obtain ⟨t, ht⟩ : ∃ t, t = (s.tunnelsAt n).getLastD s.clk + (b.length + 12) * 8 / 10 := ⟨_, rfl⟩
  have hlate : s.clk < t := by have := s.lastTunnel_le n; omega
  obtain ⟨v, hv⟩ : ∃ v, v = s.setIklPort n { s.iklPort n with tunnels := s.tunnelsAt n ++ [t] } := ⟨_, rfl⟩
  have hgo : s.tunnelOut n b = (v.sendIkl n 4 b).count (iklCnt n 9) 1 := by
    rw [State.tunnelOut, if_neg (by omega), hv, ht]
  have hport : v.iklPort n = { s.iklPort n with tunnels := s.tunnelsAt n ++ [t] } := by
    rw [hv]
    exact State.setIklPort_same (by omega) _
  have hlen' : v.ikl.ports.length = 8 := by rw [hv, State.setIklPort_length, hlen]
  obtain ⟨ports, obs, out, hsend⟩ := v.sendIkl_eq n 4 b
  obtain ⟨obs', hcount⟩ := (v.sendIkl n 4 b).count_eq (iklCnt n 9) 1
  have hsent : (s.tunnelOut n b).iklPort n = (v.iklPort n).sent := by
    rw [hgo, hcount]
    exact (State.sendIkl_port hlen' hn 4 b).1
  have hclk : (s.tunnelOut n b).clk = s.clk := by
    rw [hgo, hcount, hsend, hv]
    rfl
  refine ⟨ports, obs', out, ?_, ?_, ?_⟩
  · rw [hgo, hcount, hsend, hv]
    rfl
  · rw [hsent, hport, IklPort.sent, if_neg (by simpa using hup)]
  · have hqueue : ((s.tunnelOut n b).iklPort n).tunnels = s.tunnelsAt n ++ [t] := by
      rw [hsent, hport, IklPort.sent, if_neg (by simpa using hup)]
    rw [State.tunnelsAt, hqueue, hclk, List.filter_append, State.tunnelsAt, List.filter_filter]
    simp [hlate]

theorem State.tunnelRoute_known {s : State} {n : Nat} {b : Bytes} {e : ViewEntry}
    (h : tget? s.ikl.table (leAt b 2 2 % 512) = some e) : s.tunnelRoute n b = s.tunnelOut e.port b := by
  rw [State.tunnelRoute, h]

/-- The body of a tunnel message of this module. -/
def State.tunnelBody (s : State) (p : Bytes) (len dst chan : Nat) : Bytes :=
  leBytes 2 s.moduleId ++ leBytes 2 dst ++ leBytes 2 chan ++ leBytes 2 len
    ++ leBytes 4 (seqNext (tget 0 s.ikl.tunSeq chan)) ++ zeros 4 ++ padTo len p

theorem State.tunnelBody_dst (s : State) (p : Bytes) {dst : Nat} (len chan : Nat) (hdst : dst < 512) :
    leAt (s.tunnelBody p len dst chan) 2 2 % 512 = dst := by
  have hbody : leAt (s.tunnelBody p len dst chan) 2 2 = leNat (leBytes 2 dst) := by
    simp [State.tunnelBody, leAt, slice, leBytes]
  rw [hbody, leNat_leBytes]
  omega

/-- The state as a message of a channel has its number. -/
def State.tunnelNumbered (s : State) (chan : Nat) : State :=
  { s with ikl := { s.ikl with tunSeq := tput s.ikl.tunSeq chan (seqNext (tget 0 s.ikl.tunSeq chan)) } }

section Send

variable {s : State} (hs : Serves s) (tag : CmdTag) {p : Bytes} {len dst chan : Nat}
include hs

theorem exec_iklTunnelSend_badParam (hlen : len = 0 ∨ 1024 < len) : exec (.iklTunnelSend tag (some p) len dst chan) s =
    .next ((s.begin tag 0x0804).complete tag St.badParam) := by
  show execIklTunnelSend tag (some p) len dst chan s = _
  rw [execIklTunnelSend, State.serve_eq hs, if_pos (by omega)]
  rfl

variable (hlen1 : 1 ≤ len) (hlen2 : len ≤ 1024) (hdst : dst < 512) (hchan : chan < 65536) {e : ViewEntry}
  (hknown : tget? s.ikl.table dst = some e)
include hlen1 hlen2 hdst hchan hknown

theorem exec_iklTunnelSend_busy (hfull : 64 ≤ (s.tunnelsAt e.port).length) :
    exec (.iklTunnelSend tag (some p) len dst chan) s = .next ((s.begin tag 0x0804).complete tag St.busy) := by
  have hfull' : 64 ≤ ((s.begin tag 0x0804).tunnelsAt e.port).length := hfull
  show execIklTunnelSend tag (some p) len dst chan s = _
  rw [execIklTunnelSend, State.serve_eq hs, if_neg (by omega)]
  dsimp only
  rw [State.begin_ikl, hknown, if_neg (show dst ≠ 0x3FF by omega), if_pos (by simpa using hfull')]
  rfl

theorem exec_iklTunnelSend (hroom : (s.tunnelsAt e.port).length < 64) :
    exec (.iklTunnelSend tag (some p) len dst chan) s = .next
      ((((s.begin tag 0x0804).tunnelNumbered chan).tunnelOut e.port (s.tunnelBody p len dst chan)).complete tag St.ok) := by
  have hroom' : ((s.begin tag 0x0804).tunnelsAt e.port).length < 64 := hroom
  have hroute : State.tunnelRoute ((s.begin tag 0x0804).tunnelNumbered chan) 0 (s.tunnelBody p len dst chan) =
      ((s.begin tag 0x0804).tunnelNumbered chan).tunnelOut e.port (s.tunnelBody p len dst chan) :=
    State.tunnelRoute_known (by rw [s.tunnelBody_dst p len chan hdst]; exact hknown)
  have hbook : (s.begin tag 0x0804).ikl = s.ikl := s.begin_ikl tag 0x0804
  show execIklTunnelSend tag (some p) len dst chan s = _
  rw [execIklTunnelSend, State.serve_eq hs, if_neg (by omega)]
  dsimp only
  rw [hbook, hknown, if_neg (show dst ≠ 0x3FF by omega), if_neg (by simpa using hroom'), if_neg (show dst ≠ 0x3FF by omega),
    ← hroute]
  rfl

end Send

/-- A command that sent on the ports, and has been completed, leaves the rest. -/
theorem State.sent_beside {s v w x : State} {ports : List IklPort} {obs : ObsSt} {out : List Out}
    (hsent : w = { v with ikl := { v.ikl with ports := ports }, obs := obs, out := out })
    (hbegun : ({ v with ikl := s.ikl, cx := s.cx, host := s.host } : State) = s)
    (hdone : ({ x with cx := s.cx, host := s.host } : State) = { w with cx := s.cx, host := s.host }) :
    ({ x with ikl := s.ikl, obs := s.obs, out := s.out, cx := s.cx, host := s.host } : State) = s := by
  subst hsent
  have h1 := congrArg (fun y : State => { y with ikl := s.ikl, obs := s.obs, out := s.out }) hdone
  have h2 := congrArg (fun y : State => { y with obs := s.obs, out := s.out }) hbegun
  exact h1.trans h2

theorem iklTunnelSend_sent {s : State} {tag : CmdTag} {p : Bytes} {len dst chan : Nat} {e : ViewEntry} (hs : Serves s)
    (hlen : s.ikl.ports.length = 8) (hchan : chan < 65536) (hlen1 : 1 ≤ len) (hlen2 : len ≤ 1024) (hdst : dst < 512)
    (hknown : tget? s.ikl.table dst = some e) (hport : e.port < 8) (hup : (s.iklPort e.port).state = 2)
    (hroom : (s.tunnelsAt e.port).length < 64) : ∃ t, exec (.iklTunnelSend tag (some p) len dst chan) s = .next t ∧
        Answered s t tag St.ok ∧ tget? t.ikl.tunSeq chan = some (seqNext (tget 0 s.ikl.tunSeq chan)) ∧
        (t.iklPort e.port).txSeq = seqNext (s.iklPort e.port).txSeq ∧
        (t.tunnelsAt e.port).length = (s.tunnelsAt e.port).length + 1 ∧
        { t with ikl := s.ikl, obs := s.obs, out := s.out, cx := s.cx, host := s.host } = s := by
  obtain ⟨ports, obs, out, heq, hseq, hqueue⟩ := State.tunnelOut_joins (s := (s.begin tag 0x0804).tunnelNumbered chan)
    (b := s.tunnelBody p len dst chan) hport hlen hup hroom
  refine ⟨_, exec_iklTunnelSend hs tag hlen1 hlen2 hdst hchan hknown hroom, ?_, ?_, ?_, ?_, ?_⟩
  · exact answered_of_begun hs (by rw [heq]; rfl) _ _ _
  · rw [State.complete_ikl, heq]
    exact tget?_tput_same _ _ _
  · rw [State.iklPort, State.complete_ikl]
    exact hseq
  · rw [State.tunnelsAt, State.iklPort, State.complete_ikl, State.complete_clk]
    exact hqueue
  · exact State.sent_beside heq rfl (State.complete_beside _ tag St.ok [] s.cx s.host)

/-- A message for one module: delivered here, or sent on its way. -/
theorem State.onTunnel_single {s u : State} {n dst i : Nat} {b : Bytes} (hcount : s.count (iklCnt n 10) 1 = u)
    (hid : u.moduleId = i) (hdst : dst = leAt b 2 2 % 1024) (hsingle : dst ≠ 0x3FF) :
    s.onTunnel n b = if dst % 512 = i then u.tunnelHost n b else u.tunnelRoute n b := by
  unfold State.onTunnel
  dsimp only
  rw [hcount, ← hdst, if_neg hsingle, hid]

section Receive

variable {s : State} {n : Fin 8} {r b : Bytes} {dst : Nat} (h : Heard s n r 4) (hb : b = slice r 8 (leAt r 2 2))
  (hdst : dst = leAt b 2 2 % 1024) (hsingle : dst ≠ 0x3FF)
include h hb hdst hsingle

theorem exec_tunnelRx : ∃ ports obs, ports.length = 8 ∧ (∀ k, k ≠ n.val → lget {} ports k = s.iklPort k) ∧
    exec (.tunnelRx n r) s = .next (if dst % 512 = s.moduleId
      then State.tunnelHost { s with ikl := { s.ikl with ports := ports }, obs := obs } n b
      else State.tunnelRoute { s with ikl := { s.ikl with ports := ports }, obs := obs } n b) := by
  obtain ⟨ports, obs, htake, hlen, -, hother⟩ := State.recordIn_heard h
  obtain ⟨-, -, -, -, htype, -⟩ := h
  obtain ⟨obs', hcount⟩ := State.count_eq { s with ikl := { s.ikl with ports := ports }, obs := obs } (iklCnt n 10) 1
  have hsplit := State.onTunnel_single (i := s.moduleId) (b := b) hcount rfl hdst hsingle
  refine ⟨ports, obs', hlen, hother, ?_⟩
  rw [← hsplit]
  show execTunnelRx n r s = _
  rw [execTunnelRx, State.recordIn, htake, ← hb]
  dsimp only
  rw [htype]
  rfl

theorem tunnelRx_forwarded {e : ViewEntry} (haway : dst % 512 ≠ s.moduleId) (hknown : tget? s.ikl.table (dst % 512) = some e)
    (hport : e.port < 8) (hne : e.port ≠ n) (hup : (s.iklPort e.port).state = 2) (hroom : (s.tunnelsAt e.port).length < 64) :
    ∃ t, exec (.tunnelRx n r) s = .next t ∧ (t.tunnelsAt e.port).length = (s.tunnelsAt e.port).length + 1 ∧
      { t with ikl := s.ikl, obs := s.obs, out := s.out } = s := by
  obtain ⟨ports, obs', hlen, hother, hexec⟩ := exec_tunnelRx h hb hdst hsingle
  rw [if_neg haway] at hexec
  have hway : leAt b 2 2 % 512 = dst % 512 := by omega
  rw [State.tunnelRoute_known (s := { s with ikl := { s.ikl with ports := ports }, obs := obs' })
    (by rw [hway]; exact hknown)] at hexec
  have hsame := hother e.port hne
  have hwaiting : State.tunnelsAt { s with ikl := { s.ikl with ports := ports }, obs := obs' } e.port = s.tunnelsAt e.port :=
    congrArg (fun x : IklPort => x.tunnels.filter fun t => decide (s.clk < t)) hsame
  have hup' : (State.iklPort { s with ikl := { s.ikl with ports := ports }, obs := obs' } e.port).state = 2 :=
    (congrArg IklPort.state hsame).trans hup
  obtain ⟨ports', obs'', out, heq, -, hqueue⟩ := State.tunnelOut_joins
    (s := { s with ikl := { s.ikl with ports := ports }, obs := obs' }) (b := b) hport hlen hup' (by rw [hwaiting]; exact hroom)
  refine ⟨_, hexec, by rw [hqueue, hwaiting], ?_⟩
  rw [heq]

theorem tunnelRx_dropped (hhere : dst % 512 = s.moduleId) (hoff : s.flag Reg.IKL_CTL_TUN_EN = false) : ∃ t,
    exec (.tunnelRx n r) s = .next t ∧ EventsOnly { s with ikl := t.ikl } t := by
  obtain ⟨ports, obs', hlen, hother, hexec⟩ := exec_tunnelRx h hb hdst hsingle
  rw [if_pos hhere] at hexec
  have hoff' : ¬ State.flag { s with ikl := { s.ikl with ports := ports }, obs := obs' } Reg.IKL_CTL_TUN_EN = true := by
    have h' : State.flag { s with ikl := { s.ikl with ports := ports }, obs := obs' } Reg.IKL_CTL_TUN_EN = false := hoff
    rw [h']
    exact Bool.noConfusion
  rw [State.tunnelHost, if_neg hoff'] at hexec
  have hdrop : EventsOnly { s with ikl := { s.ikl with ports := ports } }
      (State.tunnelDrop { s with ikl := { s.ikl with ports := ports }, obs := obs' } n b) :=
    eventsOnly_of_lessEvents (State.raiseLim_lessEvents _ _ _ _)
  have hikl : (State.tunnelDrop { s with ikl := { s.ikl with ports := ports }, obs := obs' } n b).ikl =
      { s.ikl with ports := ports } := State.raiseLim_ikl _ _ _ _
  refine ⟨_, hexec, ?_⟩
  rw [hikl]
  exact hdrop

theorem tunnelRx_delivered (hhere : dst % 512 = s.moduleId) (hon : s.flag Reg.IKL_CTL_TUN_EN = true) : ∃ u t : State,
    exec (.tunnelRx n r) s = .next t ∧ { u with ikl := s.ikl, obs := s.obs } = s ∧
      (u.deliver (s.fld Reg.IKL_CTL_TUN_Q) b).2 = t := by
  obtain ⟨ports, obs', hlen, hother, hexec⟩ := exec_tunnelRx h hb hdst hsingle
  rw [if_pos hhere] at hexec
  have hon' : State.flag { s with ikl := { s.ikl with ports := ports }, obs := obs' } Reg.IKL_CTL_TUN_EN = true := hon
  rw [State.tunnelHost, if_pos hon'] at hexec
  exact ⟨{ s with ikl := { s.ikl with ports := ports }, obs := obs' }, _, hexec, rfl, rfl⟩

end Receive

/-- Settles O53, clause by clause: exchanges sent and received, ports that go down, a new parent, the view, and the tunnels. -/
theorem ikilePortsAndTunnels : Obligations.IkilePortsAndTunnels := by
  unfold Obligations.IkilePortsAndTunnels
  intro s tag n r b p a len dst chan out max_ e
  exact ⟨exchSend_sent, fun h hb => ⟨exchRx_peer h hb, exchRx_dup h hb⟩,
    fun hlen hup hdup => ⟨iklPortTimeout_down hlen hup hdup, by
      obtain ⟨hstate, hvalid, hclk, hsaf, hmode⟩ := State.portDown_trains (cause := 1) hlen n.isLt hup hdup (by decide)
      exact ⟨_, exec_iklHighSymbolErrors hup, hstate, hvalid, hclk, hsaf, hmode⟩⟩,
    exec_iklHighSymbolErrors_idle, parentChange_taken, fun hs => iklViewRead_read hs tag out max_,
    fun hs hlen hchan => ⟨iklTunnelSend_sent hs hlen hchan,
      fun hbad => ⟨_, exec_iklTunnelSend_badParam hs tag hbad, refused_of_begun hs tag _ _ _⟩,
      fun h1 h2 hdst hknown hfull => ⟨_, exec_iklTunnelSend_busy hs tag h1 h2 hdst hchan hknown hfull,
        refused_of_begun hs tag _ _ _⟩⟩,
    fun h hb hdst hsingle => ⟨tunnelRx_forwarded h hb hdst hsingle, tunnelRx_dropped h hb hdst hsingle,
      tunnelRx_delivered h hb hdst hsingle⟩⟩

end Sys2Proof.Machine
end

section
/-!
Conjunctions (R415 to R422).
-/

namespace Sys2Proof.Machine

open Sys2Proof.Stated

/-! ### Time words (R431) -/

theorem nearestSec_near {own sec : Nat} (hle : own ≤ sec) (hnear : sec ≤ own + 1) : nearestSec own (sec % 2 ^ 34) 34 = sec := by
  rw [nearestSec]
  norm_num only
  split_ifs <;> omega

/-- A time of whole ns, in the present second or the next, is what its word says. -/
theorem State.fromWord_toWord {s : State} {k : Nat} (hle : timeNs s.time.now / 1000000000 ≤ k / 1000000000)
    (hnear : k / 1000000000 ≤ timeNs s.time.now / 1000000000 + 1) :
    s.fromWord (BitVec.ofNat 64 (toWord (k * nsUnit))) = k * nsUnit := by
  have hns : timeNs (k * nsUnit) = k := Nat.mul_div_cancel k (by decide)
  have hword : (BitVec.ofNat 64 (toWord (k * nsUnit))).toNat = k % 1000000000 + k / 1000000000 % 2 ^ 34 * 2 ^ 30 := by
    rw [BitVec.toNat_ofNat, toWord, hns]
    omega
  have hsec : (k % 1000000000 + k / 1000000000 % 2 ^ 34 * 2 ^ 30) / 2 ^ 30 = k / 1000000000 % 2 ^ 34 := by omega
  have hfrac : (k % 1000000000 + k / 1000000000 % 2 ^ 34 * 2 ^ 30) % 2 ^ 30 = k % 1000000000 := by omega
  unfold State.fromWord
  dsimp only
  rw [hword, hsec, hfrac, nearestSec_near hle hnear, secUnit, ← Nat.mul_assoc, ← Nat.add_mul, Nat.div_add_mod']

/-! ### The messages of a conjunction act (R416) -/

section Kinds

variable (s : State) {m : ConjMsg}

theorem State.actConj_propose (h : m.kind = 1) : s.actConj m = s.onPropose m := by simp only [State.actConj, h]
theorem State.actConj_answer (h : m.kind = 2) : s.actConj m = s.onAnswer m := by simp only [State.actConj, h]
theorem State.actConj_commit (h : m.kind = 3) : s.actConj m = s.onCommit m := by simp only [State.actConj, h]
theorem State.actConj_abort (h : m.kind = 4) : s.actConj m = s.onAbort m := by simp only [State.actConj, h]

end Kinds

/-! ### COMMIT at a member (R420) -/

theorem IklSt.of_outcome {x y : IklSt} (h : x.outcome = y.outcome) : x.prop = y.prop ∧ x.last = y.last ∧
    x.reason = y.reason ∧ x.repeats = y.repeats ∧ x.seenT = y.seenT := by
  have h1 := congrArg IklSt.prop h
  have h2 := congrArg IklSt.last h
  have h3 := congrArg IklSt.reason h
  have h4 := congrArg IklSt.repeats h
  have h5 := congrArg IklSt.seenT h
  exact ⟨h1, h2, h3, h4, h5⟩

/-- The member that has met its COMMIT, told and counted. -/
def State.committedTo (s : State) (h : Held) (m : ConjMsg) : State :=
  (({ s with ikl := { s.ikl with
      held := some { h with committed := true }, epoch := m.epoch, last := 1, reason := 0, by_ := 0 } }).count (iklCnt 8 1) 1).raise
    0x0806 [(4, h.id), (4, h.orbit), (8, m.t), (4, m.epoch)]

theorem State.committedTo_ikl (s : State) (h : Held) (m : ConjMsg) : (s.committedTo h m).ikl = { s.ikl with
    held := some { h with committed := true }, epoch := m.epoch, last := 1, reason := 0, by_ := 0 } :=
  State.raise_ikl _ _ _

theorem State.onCommit_held {s : State} {m : ConjMsg} {h : Held} (hheld : s.ikl.held = some h) :
    s.onCommit m = if h.id ≠ m.id ∨ h.leader ≠ m.leader ∨ h.committed then s else (s.committedTo h m).updateView := by
  rw [State.onCommit, hheld]
  rfl

theorem State.onCommit_free {s : State} (m : ConjMsg) (hheld : s.ikl.held = none) : ∃ obs, s.onCommit m = { s with obs := obs } := by
  rw [State.onCommit, hheld]
  dsimp only
  split
  · exact s.count_eq _ 1
  · exact ⟨s.obs, rfl⟩

/-- A COMMIT acts on the member that holds its conjunction. -/
theorem State.onCommit_acts {s : State} {m : ConjMsg} {h : Held} (hheld : s.ikl.held = some h) (hid : h.id = m.id)
    (hleader : h.leader = m.leader) (hopen : h.committed = false) (hnone : s.ikl.prop = none) :
    (s.onCommit m).ikl.epoch = m.epoch ∧ (s.onCommit m).ikl.last = 1 ∧ (s.onCommit m).ikl.reason = 0 ∧
      (s.onCommit m).ikl.prop = none := by
  have hikl := s.committedTo_ikl h m
  have hnone' : (s.committedTo h m).ikl.prop = none := by rw [hikl]; exact hnone
  obtain ⟨-, -, -, hepoch, -⟩ := IklSt.of_chart (s.committedTo h m).updateView_chart
  obtain ⟨hprop, hlast, hreason, -, -⟩ := IklSt.of_outcome (State.updateView_outcome hnone')
  rw [State.onCommit_held hheld, if_neg (by simp [hid, hleader, hopen]), hepoch, hlast, hreason, hprop, hikl]
  exact ⟨rfl, rfl, rfl, hnone⟩

/-! ### What is said stays to be said again (R416) -/

/-- From `s` to `t` no message to be repeated is lost, and the latest instant proposed does not fall. -/
structure Says (s t : State) : Prop where
  repeats : ∀ x ∈ s.ikl.repeats, x ∈ t.ikl.repeats
  seenT : s.ikl.seenT ≤ t.ikl.seenT

theorem Says.trans {s t u : State} (h : Says s t) (k : Says t u) : Says s u :=
  ⟨fun x hx => k.repeats x (h.repeats x hx), h.seenT.trans k.seenT⟩

theorem Says.of_eq {s t : State} (hrepeats : t.ikl.repeats = s.ikl.repeats) (hseen : t.ikl.seenT = s.ikl.seenT) : Says s t :=
  ⟨fun _ hx => hrepeats ▸ hx, hseen.ge⟩

theorem State.spoke_says (s : State) (ports : List IklPort) (seen : List (Nat × Nat × Nat × Nat)) (msg : Nat × Nat × Bytes)
    (obs : ObsSt) (out : List Out) : Says s (s.spoke ports seen msg obs out) :=
  ⟨fun _ hx => List.mem_append_left _ hx, le_rfl⟩

theorem State.sendConj_says (s : State) (m : ConjMsg) : Says s (s.sendConj m) := by
  obtain ⟨ports, seen, obs, out, h⟩ := s.sendConj_eq m
  rw [h]
  exact s.spoke_says ports seen _ obs out

theorem State.abortConj_says (s : State) (reason by_ : Nat) : Says s (s.abortConj reason by_) := by
  cases hp : s.ikl.prop with
  | none => rw [State.abortConj, hp]; exact .of_eq rfl rfl
  | some p =>
    obtain ⟨ports, seen, held, h⟩ := State.abortConj_ikl hp reason by_
    refine ⟨fun x hx => ?_, ?_⟩
    · rw [h]; exact List.mem_append_left _ hx
    · rw [h]

theorem State.onCommit_says {s : State} (m : ConjMsg) (hnone : s.ikl.prop = none) : Says s (s.onCommit m) := by
  cases hheld : s.ikl.held with
  | none =>
    obtain ⟨obs, h⟩ := State.onCommit_free m hheld
    rw [h]
    exact .of_eq rfl rfl
  | some h =>
    have hikl := s.committedTo_ikl h m
    have hnone' : (s.committedTo h m).ikl.prop = none := by rw [hikl]; exact hnone
    obtain ⟨-, -, -, hrepeats, hseen⟩ := IklSt.of_outcome (State.updateView_outcome hnone')
    rw [hikl] at hrepeats hseen
    rw [State.onCommit_held hheld]
    split
    · exact .of_eq rfl rfl
    · exact .of_eq hrepeats hseen

/-! ### The leader's book (R417, R419) -/

/-- The leader's COMMIT. -/
def State.commitOf (s : State) (p : Proposal) : ConjMsg :=
  { s.conjMsg 3 0 p.id p.orbit p.epoch p.t s.moduleId with voters := p.voters.length }

theorem State.commitConj_eq (s : State) (p : Proposal) : s.commitConj p =
    ((s.sendConj (s.commitOf p)).closeProposal St.ok [(8, toWord p.t), (4, p.epoch)]).onCommit (s.commitOf p) := rfl

theorem State.closeProposal_says (s : State) (st : Nat) (d : List (Nat × Nat)) : Says s (s.closeProposal st d) := by
  have h := s.closeProposal_ikl st d
  refine .of_eq ?_ ?_
  · rw [h]
  · rw [h]

theorem State.closeProposal_prop (s : State) (st : Nat) (d : List (Nat × Nat)) : (s.closeProposal st d).ikl.prop = none := by
  rw [State.closeProposal_ikl]

theorem State.commitConj_says (s : State) (p : Proposal) : Says s (s.commitConj p) := by
  rw [State.commitConj_eq]
  exact ((s.sendConj_says _).trans (State.closeProposal_says _ _ _)).trans
    (State.onCommit_says _ (State.closeProposal_prop _ _ _))

/-- The answers of a proposal, this module's among them. -/
def Proposal.preparedBy (p : Proposal) (origin : Nat) : Proposal :=
  { p with prepared := p.prepared.filter (· != origin) ++ [origin] }

/-- The state whose book holds a proposal. -/
def State.booked (s : State) (p : Proposal) : State := { s with ikl := { s.ikl with prop := some p } }

theorem State.onAnswer_refused {s : State} {m : ConjMsg} {p : Proposal} (hp : s.ikl.prop = some p) (hid : m.id = p.id)
    (hleader : m.leader = s.moduleId) (hreason : m.reason ≠ 0) (hvoter : p.voters.contains m.origin = true) :
    s.onAnswer m = s.abortConj 1 m.origin := by
  rw [State.onAnswer, hp]
  dsimp only
  rw [if_neg (by simp [hid, hleader]), if_pos hreason, if_pos hvoter]

theorem State.onAnswer_prepared {s : State} {m : ConjMsg} {p : Proposal} (hp : s.ikl.prop = some p) (hid : m.id = p.id)
    (hleader : m.leader = s.moduleId) (hreason : m.reason = 0) : s.onAnswer m =
      if s.canCommit (p.preparedBy m.origin) then (s.booked (p.preparedBy m.origin)).commitConj (p.preparedBy m.origin)
      else s.booked (p.preparedBy m.origin) := by
  rw [State.onAnswer, hp]
  dsimp only
  rw [if_neg (by simp [hid, hleader]), if_neg (not_not.mpr hreason)]
  rfl

/-- An answer at a module that leads nothing. -/
theorem State.onAnswer_bystander {s : State} (m : ConjMsg) (hnone : s.ikl.prop = none) : ∃ refuser,
    s.onAnswer m = { s with ikl := { s.ikl with refuser := refuser } } := by
  unfold State.onAnswer
  rw [hnone]
  dsimp only
  split_ifs
  · exact ⟨_, rfl⟩
  · exact ⟨s.ikl.refuser, rfl⟩

theorem State.onAnswer_says (s : State) (m : ConjMsg) : Says s (s.onAnswer m) := by
  cases hp : s.ikl.prop with
  | none =>
    obtain ⟨refuser, h⟩ := State.onAnswer_bystander m hp
    rw [h]
    exact .of_eq rfl rfl
  | some p =>
    rw [State.onAnswer, hp]
    dsimp only
    split_ifs
    · exact .of_eq rfl rfl
    · exact s.abortConj_says _ _
    · exact .of_eq rfl rfl
    · exact Says.trans (t := s.booked (p.preparedBy m.origin)) (.of_eq rfl rfl) (State.commitConj_says _ _)
    · exact .of_eq rfl rfl

/-! ### Proposals (R417, R418) -/

/-- The state in which a proposal has been met. -/
def State.proposed (s : State) (m : ConjMsg) : State :=
  { s with ikl := { s.ikl with
    seenT := max s.ikl.seenT (s.fromWord (BitVec.ofNat 64 m.t)), lastId := m.id, refuser := none } }

/-- The state in which a proposal has been judged: PREPARED where no row of Table 19.5 applies. -/
def State.proposalJudged (s : State) (m : ConjMsg) : State :=
  let s2 := if s.answerCode m = 0 then s.prepare m else s
  { s2 with ikl := { s2.ikl with reason := s.answerCode m } }

/-- The answer to a proposal. -/
def State.answerOf (s : State) (m : ConjMsg) (code t : Nat) : ConjMsg :=
  { s.conjMsg 2 code m.id m.orbit m.epoch t m.leader with digest := m.digest }

/-- A proposal is answered with a code. -/
def State.replies (s : State) (m : ConjMsg) (code t : Nat) : State :=
  (s.sendConj (s.answerOf m code t)).onAnswer (s.answerOf m code t)

/-- The module holds PREPARED for the conjunction of a message. -/
def State.holdsConj (s : State) (m : ConjMsg) : Bool :=
  match s.ikl.held with
  | some h => h.id == m.id && h.leader == m.leader
  | none => false

theorem State.onPropose_eq (s : State) (m : ConjMsg) : s.onPropose m =
    if s.holdsConj m = true ∨ (s.proposed m).answers = false then s.proposed m
    else ((s.proposed m).proposalJudged m).replies m ((s.proposed m).answerCode m) (s.fromWord (BitVec.ofNat 64 m.t)) := by
  unfold State.onPropose State.proposed
  generalize s.fromWord (BitVec.ofNat 64 m.t) = t
  rfl

theorem State.onPropose_silent {s : State} (m : ConjMsg) (h : s.answers = false) : s.onPropose m = s.proposed m := by
  have h' : (s.proposed m).answers = false := h
  rw [State.onPropose_eq, if_pos (.inr h')]

theorem State.onPropose_judged {s : State} (m : ConjMsg) (hfree : s.ikl.held = none) (h : s.answers = true) : s.onPropose m =
    ((s.proposed m).proposalJudged m).replies m ((s.proposed m).answerCode m) (s.fromWord (BitVec.ofNat 64 m.t)) := by
  have h' : (s.proposed m).answers = true := h
  have hheld : s.holdsConj m = false := by rw [State.holdsConj, hfree]
  rw [State.onPropose_eq, hheld, h', if_neg (by simp)]

theorem State.prepare_ikl (s : State) (m : ConjMsg) : (s.prepare m).ikl = { s.ikl with
    held := some ⟨m.id, m.orbit, s.fromWord (BitVec.ofNat 64 m.t), m.epoch, m.leader, false⟩ } := by
  unfold State.prepare
  generalize s.fromWord (BitVec.ofNat 64 m.t) = t
  dsimp only
  rw [State.raise_ikl]
  rfl

theorem State.prepare_says (s : State) (m : ConjMsg) : Says s (s.prepare m) := by
  have hikl := s.prepare_ikl m
  refine .of_eq ?_ ?_
  · rw [hikl]
  · rw [hikl]

theorem State.proposalJudged_says (s : State) (m : ConjMsg) : Says s (s.proposalJudged m) := by
  unfold State.proposalJudged
  extract_lets s2 src
  have h2 : Says s s2 := by
    unfold s2
    split
    · exact s.prepare_says m
    · exact .of_eq rfl rfl
  exact h2.trans (.of_eq rfl rfl)

theorem State.replies_says (s : State) (m : ConjMsg) (code t : Nat) : Says s (s.replies m code t) :=
  (s.sendConj_says _).trans (State.onAnswer_says _ _)

/-- A proposal that is met stays on the module's book: its instant, and what it had to say. -/
theorem State.onPropose_says (s : State) (m : ConjMsg) : (∀ x ∈ s.ikl.repeats, x ∈ (s.onPropose m).ikl.repeats) ∧
    s.fromWord (BitVec.ofNat 64 m.t) ≤ (s.onPropose m).ikl.seenT := by
  have hmet : (s.proposed m).ikl.repeats = s.ikl.repeats := rfl
  have hseen : s.fromWord (BitVec.ofNat 64 m.t) ≤ (s.proposed m).ikl.seenT := le_max_right _ _
  rw [State.onPropose_eq]
  split
  · rw [hmet]
    exact ⟨fun _ hx => hx, hseen⟩
  · obtain ⟨hrepeats, hlast⟩ := ((s.proposed m).proposalJudged_says m).trans
      (State.replies_says _ m ((s.proposed m).answerCode m) (s.fromWord (BitVec.ofNat 64 m.t)))
    rw [← hmet]
    exact ⟨hrepeats, hseen.trans hlast⟩

/-! ### The leader proposes (R417) -/

/-- The instant of a proposal that is made now, with no Orbit active: the next whole ns from 2 ms on. -/
def State.proposeAt (s : State) : Nat := (s.time.now + 2000000 * nsUnit + nsUnit - 1) / nsUnit * nsUnit

theorem State.le_proposeAt (s : State) : s.time.now + 2000000 * nsUnit ≤ s.proposeAt := by
  have hns : 0 < nsUnit := by decide
  rw [State.proposeAt]
  generalize s.time.now + 2000000 * nsUnit = x
  generalize nsUnit = u at hns ⊢
  have h := Nat.lt_div_mul_add (a := x + u - 1) hns
  omega

/-- The instant of a proposal is what its message says. -/
theorem State.fromWord_proposeAt (s : State) : s.fromWord (BitVec.ofNat 64 (toWord s.proposeAt)) = s.proposeAt := by
  have hns : 0 < nsUnit := by decide
  have hceil : (s.time.now + 2000000 * nsUnit + nsUnit - 1) / nsUnit = 2000000 + (s.time.now + nsUnit - 1) / nsUnit := by
    rw [show s.time.now + 2000000 * nsUnit + nsUnit - 1 = (s.time.now + nsUnit - 1) + nsUnit * 2000000 by omega,
      Nat.add_mul_div_left _ _ hns, Nat.add_comm]
  have hlow : timeNs s.time.now ≤ (s.time.now + nsUnit - 1) / nsUnit := Nat.div_le_div_right (by omega)
  have hhigh : (s.time.now + nsUnit - 1) / nsUnit ≤ timeNs s.time.now + 1 := by
    rw [timeNs, ← Nat.add_div_right _ hns]
    exact Nat.div_le_div_right (by omega)
  rw [State.proposeAt, hceil]
  exact State.fromWord_toWord (by omega) (by omega)

/-- The proposal that a leader makes of its pending Orbit. -/
def State.proposalOf (s : State) (tag : CmdTag) (orbit : Nat) : Proposal :=
  let voters := s.counted s.voter ViewEntry.voter
  let all := s.counted s.eligible ViewEntry.eligible
  { tag := tag, id := s.nextConj, orbit := orbit, t := s.proposeAt, epoch := seqNext s.ikl.epoch, voters := voters
    joiners := all.filter (fun k => !voters.contains k), prepared := [], hops := s.highHop }

/-- The message of a proposal. -/
def State.proposeMsg (s : State) (p : Proposal) : ConjMsg :=
  { s.conjMsg 1 0 p.id p.orbit p.epoch p.t s.moduleId with voters := p.voters.length }

/-- A proposal is counted and leaves, and the leader meets it first. -/
def State.proposes (s : State) (p : Proposal) : State :=
  let s1 := (s.booked p).count (iklCnt 8 0) 1
  (s1.sendConj (s1.proposeMsg p)).onPropose (s1.proposeMsg p)

section Leader

variable {s : State} (hs : Serves s) (tag : CmdTag) (a : Nat) (hsize : 1 < s.systemSize) (hleads : s.isLeader = true)
include hs hsize hleads

theorem exec_conjAbort_late (hnone : s.ikl.prop = none) :
    exec (.conjAbort tag) s = .next ((s.begin tag 0x0802).complete tag St.late) := by
  have hleads' : (s.begin tag 0x0802).isLeader = true := hleads
  have hsize' : 1 < (s.begin tag 0x0802).systemSize := hsize
  show execConjAbort tag s = _
  rw [execConjAbort, State.serve_eq hs]
  rw [if_neg (by rw [hleads']; simpa using hsize'), if_pos (by rw [State.begin_ikl, hnone]; rfl)]
  rfl

theorem exec_conjAbort {p : Proposal} (hp : s.ikl.prop = some p) : exec (.conjAbort tag) s =
    .next (((s.begin tag 0x0802).abortConj 4 s.moduleId).complete tag St.ok) := by
  have hleads' : (s.begin tag 0x0802).isLeader = true := hleads
  have hsize' : 1 < (s.begin tag 0x0802).systemSize := hsize
  show execConjAbort tag s = _
  rw [execConjAbort, State.serve_eq hs]
  rw [if_neg (by rw [hleads']; simpa using hsize'), if_neg (by rw [State.begin_ikl, hp]; exact Bool.noConfusion)]
  rfl

variable (hfresh : s.ikl.stale = false) (hquorum : s.quorum ≤ s.eligibleCount)
include hfresh hquorum

theorem exec_conjPropose_busy {p : Proposal} (hp : s.ikl.prop = some p) :
    exec (.conjPropose tag a 0) s = .next ((s.begin tag 0x0801).complete tag St.busy) := by
  have hleads' : (s.begin tag 0x0801).isLeader = true := hleads
  have hsize' : 1 < (s.begin tag 0x0801).systemSize := hsize
  have hquorum' : (s.begin tag 0x0801).quorum ≤ (s.begin tag 0x0801).eligibleCount := hquorum
  show execConjPropose tag a 0 s = _
  rw [execConjPropose, State.serve_eq hs]
  dsimp only
  rw [if_neg (by rw [hleads']; simpa using hsize'), if_neg (by rw [State.begin_ikl, hfresh]; simpa using hquorum'),
    if_pos (.inl (by rw [State.begin_ikl, hp]; rfl))]
  rfl

variable (hnone : s.ikl.prop = none) (hlate : s.ikl.seenT ≤ s.time.now)
include hnone hlate

theorem exec_conjPropose_noPendingOrbit (hbank : s.orb.pendBank = none) :
    exec (.conjPropose tag a 0) s = .next ((s.begin tag 0x0801).complete tag St.noPendingOrbit) := by
  have hleads' : (s.begin tag 0x0801).isLeader = true := hleads
  have hsize' : 1 < (s.begin tag 0x0801).systemSize := hsize
  have hquorum' : (s.begin tag 0x0801).quorum ≤ (s.begin tag 0x0801).eligibleCount := hquorum
  show execConjPropose tag a 0 s = _
  rw [execConjPropose, State.serve_eq hs]
  dsimp only
  rw [if_neg (by rw [hleads']; simpa using hsize'), if_neg (by rw [State.begin_ikl, hfresh]; simpa using hquorum'),
    if_neg (by rw [State.begin_ikl, State.begin_time, hnone]; simpa using hlate), State.begin_orb, hbank]
  rfl

theorem exec_conjPropose {ob : OrbitBank} (hbank : s.orb.pendBank = some ob) (hid : ob.id = a) (hactive : s.orb.active = none) :
    exec (.conjPropose tag a 0) s = .next ((s.begin tag 0x0801).proposes ((s.begin tag 0x0801).proposalOf tag a)) := by
  have hleads' : (s.begin tag 0x0801).isLeader = true := hleads
  have hsize' : 1 < (s.begin tag 0x0801).systemSize := hsize
  have hquorum' : (s.begin tag 0x0801).quorum ≤ (s.begin tag 0x0801).eligibleCount := hquorum
  show execConjPropose tag a 0 s = _
  rw [execConjPropose, State.serve_eq hs]
  dsimp only
  rw [if_neg (by rw [hleads']; simpa using hsize'), if_neg (by rw [State.begin_ikl, hfresh]; simpa using hquorum'),
    if_neg (by rw [State.begin_ikl, State.begin_time, hnone]; simpa using hlate), State.begin_orb, hbank, hactive]
  dsimp only
  rw [if_neg (not_not.mpr hid), if_pos rfl]
  rfl

end Leader

theorem State.fromWord_congr {s t : State} (h : t.time.now = s.time.now) (w : TimeWord) : t.fromWord w = s.fromWord w := by
  rw [State.fromWord, State.fromWord, h]

/-- What a proposal leaves: its message, said and met, and its page of the book. -/
theorem State.proposes_leaves {s : State} {tag : CmdTag} {a : Nat} {ob : OrbitBank} (hbank : s.orb.pendBank = some ob) :
    (∃ q : ConjMsg, q.kind = 1 ∧ q.origin = s.moduleId ∧ q.orbit = a ∧ q.digest = ob.digest ∧ q.id = s.nextConj ∧
      q.epoch = seqNext s.ikl.epoch ∧ (s.clk + 20000, 8, q.bytes) ∈ (s.proposes (s.proposalOf tag a)).ikl.repeats ∧
      s.time.now + 2000000 * nsUnit ≤ (s.proposes (s.proposalOf tag a)).ikl.seenT) ∧
    (s.answers = false → (s.proposes (s.proposalOf tag a)).ikl.prop = some (s.proposalOf tag a)) := by
  obtain ⟨p, hp⟩ : ∃ p, p = s.proposalOf tag a := ⟨_, rfl⟩
  have hid : p.id = s.nextConj := by rw [hp]; rfl
  have horbit : p.orbit = a := by rw [hp]; rfl
  have hepoch : p.epoch = seqNext s.ikl.epoch := by rw [hp]; rfl
  have ht : p.t = s.proposeAt := by rw [hp]; rfl
  rw [← hp]
  clear hp
  obtain ⟨obs, hcount⟩ := (s.booked p).count_eq (iklCnt 8 0) 1
  unfold State.proposes
  dsimp only
  rw [hcount]
  obtain ⟨q, hq⟩ : ∃ q, q = State.proposeMsg { s.booked p with obs := obs } p := ⟨_, rfl⟩
  have hqt : q.t = toWord s.proposeAt := by rw [hq, ← ht]; rfl
  have hdigest : q.digest = ob.digest := by
    have h : q.digest = (s.orb.pendBank.map OrbitBank.digest).getD [] := by rw [hq]; rfl
    rw [h, hbank]
    rfl
  have hfacts : q.kind = 1 ∧ q.origin = s.moduleId ∧ q.orbit = p.orbit ∧ q.id = p.id ∧ q.epoch = p.epoch := by
    rw [hq]
    exact ⟨rfl, rfl, rfl, rfl, rfl⟩
  obtain ⟨hkind, horigin, hqorbit, hqid, hqepoch⟩ := hfacts
  rw [← hq]
  clear hq
  obtain ⟨ports, seen, obs', out, hsend⟩ := State.sendConj_eq { s.booked p with obs := obs } q
  rw [hsend]
  have hsaid : ((s.booked p).clk + 20000, 8, q.bytes) ∈
      (State.spoke { s.booked p with obs := obs } ports seen ((s.booked p).clk + 20000, 8, q.bytes) obs' out).ikl.repeats :=
    List.mem_append_right _ List.mem_cons_self
  have hprop : (State.spoke { s.booked p with obs := obs } ports seen ((s.booked p).clk + 20000, 8, q.bytes) obs' out).ikl.prop =
    some p := rfl
  have hnow : (State.spoke { s.booked p with obs := obs } ports seen ((s.booked p).clk + 20000, 8, q.bytes) obs' out).time.now =
    s.time.now := rfl
  have hanswers : (State.spoke { s.booked p with obs := obs } ports seen ((s.booked p).clk + 20000, 8, q.bytes) obs' out).answers =
    s.answers := rfl
  generalize State.spoke { s.booked p with obs := obs } ports seen ((s.booked p).clk + 20000, 8, q.bytes) obs' out = u
    at hsaid hprop hnow hanswers ⊢
  obtain ⟨hkept, hseen⟩ := u.onPropose_says q
  rw [hqt, State.fromWord_congr hnow, s.fromWord_proposeAt] at hseen
  refine ⟨⟨q, hkind, horigin, hqorbit.trans horbit, hdigest, hqid.trans hid, hqepoch.trans hepoch, hkept _ hsaid,
    s.le_proposeAt.trans hseen⟩, fun hsilent => ?_⟩
  rw [State.onPropose_silent q (hanswers.trans hsilent)]
  exact hprop

theorem conjPropose_proposes {s : State} {tag : CmdTag} {a : Nat} {ob : OrbitBank} (hs : Serves s) (hsize : 1 < s.systemSize)
    (hleads : s.isLeader = true) (hfresh : s.ikl.stale = false) (hquorum : s.quorum ≤ s.eligibleCount)
    (hnone : s.ikl.prop = none) (hlate : s.ikl.seenT ≤ s.time.now) (hbank : s.orb.pendBank = some ob) (hid : ob.id = a)
    (hactive : s.orb.active = none) : ∃ t, exec (.conjPropose tag a 0) s = .next t ∧
      (∃ q : ConjMsg, q.kind = 1 ∧ q.origin = s.moduleId ∧ q.orbit = a ∧ q.digest = ob.digest ∧ q.id = s.nextConj ∧
        q.epoch = seqNext s.ikl.epoch ∧ (s.clk + 20000, 8, q.bytes) ∈ t.ikl.repeats ∧
        s.time.now + 2000000 * nsUnit ≤ t.ikl.seenT) ∧
      (s.answers = false → ∃ q, t.ikl.prop = some q ∧ q.tag = tag ∧ q.id = s.nextConj ∧ q.orbit = a ∧
        q.prepared = [] ∧ q.voters = s.counted s.voter ViewEntry.voter) := by
  obtain ⟨hmsg, hbook⟩ := State.proposes_leaves (s := s.begin tag 0x0801) (tag := tag) (a := a) (ob := ob)
    ((congrArg OrbitSt.pendBank (s.begin_orb tag 0x0801)).trans hbank)
  exact ⟨_, exec_conjPropose hs tag a hsize hleads hfresh hquorum hnone hlate hbank hid hactive, hmsg,
    fun hsilent => ⟨_, hbook hsilent, rfl, rfl, rfl, rfl, rfl⟩⟩

/-! ### The leader aborts (R422) -/

/-- The leader's ABORT ends by closing its book. -/
theorem State.abortConj_closes {s : State} {p : Proposal} (hp : s.ikl.prop = some p) (reason by_ : Nat) :
    ∃ (w : State) (d : List (Nat × Nat)),
    s.abortConj reason by_ = w.closeProposal St.aborted d ∧ w.ikl.prop = some p ∧ w.standing = s.standing := by
  obtain ⟨ports, seen, obs, out, hsend⟩ := s.sendConj_eq (s.conjMsg 4 reason p.id p.orbit p.epoch p.t s.moduleId)
  have hprop : (s.sendConj (s.conjMsg 4 reason p.id p.orbit p.epoch p.t s.moduleId)).ikl.prop = some p := by rw [hsend]; exact hp
  unfold State.abortConj
  rw [hp]
  dsimp only
  refine ⟨_, _, rfl, ?_, ?_⟩
  · rw [State.raise_ikl]
    split_ifs
    · rw [State.memberEnd_ikl]; exact hprop
    · exact hprop
  · simp only [State.raise_standing, State.standing_ite, State.memberEnd_standing, State.standing_ikl, State.count_standing,
      State.sendConj_standing, ite_self]

/-- The leader's book closes with its command's completion. -/
theorem State.closeProposal_told {s : State} {p : Proposal} (hlen : s.cx.rings.length = 16) (hp : s.ikl.prop = some p)
    (st : Nat) (d : List (Nat × Nat)) : Told (s.closeProposal st d) p.tag st := by
  unfold State.closeProposal
  rw [hp]
  exact told_complete (s := { s with ikl := { s.ikl with prop := none } }) hlen p.tag st d

/-- What the leader's ABORT leaves at its ring. -/
theorem State.abortConj_told {s : State} {p : Proposal} (hlen : s.cx.rings.length = 16) (hp : s.ikl.prop = some p)
    (reason by_ : Nat) : Told (s.abortConj reason by_) p.tag St.aborted := by
  obtain ⟨w, d, hclose, hprop, hstands⟩ := State.abortConj_closes hp reason by_
  rw [hclose]
  exact State.closeProposal_told ((State.ringCount_of_standing hstands).trans hlen) hprop _ d

theorem conjAbort_aborts {s : State} {tag : CmdTag} {p : Proposal} (hs : Serves s) (hsize : 1 < s.systemSize)
    (hleads : s.isLeader = true) (hp : s.ikl.prop = some p) : ∃ t, exec (.conjAbort tag) s = .next t ∧ t.ikl.prop = none ∧
      t.ikl.last = 2 ∧ t.ikl.reason = 4 ∧ t.ikl.by_ = s.moduleId ∧ Told t tag St.ok ∧
      (∃ q : ConjMsg, q.kind = 4 ∧ q.reason = 4 ∧ q.id = p.id ∧ q.origin = s.moduleId ∧
        (s.clk + 20000, 8, q.bytes) ∈ t.ikl.repeats) := by
  have hp' : (s.begin tag 0x0802).ikl.prop = some p := (congrArg IklSt.prop (s.begin_ikl tag 0x0802)).trans hp
  obtain ⟨ports, seen, held, hikl⟩ := State.abortConj_ikl hp' 4 s.moduleId
  have hlen : (s.begin tag 0x0802).cx.rings.length = 16 := State.begin_rings_length hs.2.2 tag 0x0802
  have hrings := (State.ringCount_of_standing ((s.begin tag 0x0802).abortConj_standing 4 s.moduleId)).trans hlen
  refine ⟨_, exec_conjAbort hs tag hsize hleads hp, ?_⟩
  rw [State.complete_ikl, hikl]
  exact ⟨rfl, rfl, rfl, rfl, told_complete hrings tag _ _,
    (s.begin tag 0x0802).conjMsg 4 4 p.id p.orbit p.epoch p.t (s.begin tag 0x0802).moduleId, rfl, rfl, rfl, rfl,
    List.mem_append_right _ List.mem_cons_self⟩

/-! ### The refusals of a module that does not lead (R417, R422) -/

section Follower

variable {s : State} (hs : Serves s) (tag : CmdTag) (a : Nat) (hleads : s.isLeader = false)
include hs hleads

theorem exec_conjPropose_wrongRole : exec (.conjPropose tag a 0) s = .next ((s.begin tag 0x0801).complete tag St.wrongRole) := by
  show execConjPropose tag a 0 s = _
  rw [execConjPropose, State.serve_eq hs, if_pos (.inr hleads)]
  rfl

theorem exec_conjAbort_wrongRole : exec (.conjAbort tag) s = .next ((s.begin tag 0x0802).complete tag St.wrongRole) := by
  show execConjAbort tag s = _
  rw [execConjAbort, State.serve_eq hs, if_pos (.inr hleads)]
  rfl

end Follower

/-! ### A member answers a proposal (R418, Table 19.5) -/

theorem State.orb_of_lessExchange {s t : State} (h : t.lessExchange = s.lessExchange) : t.orb = s.orb := by
  have := congrArg State.orb h; exact this

/-- A reply where this module leads nothing: the answer leaves, and no more than the refuser moves. -/
theorem State.replies_bystander {s : State} (hnone : s.ikl.prop = none) (m : ConjMsg) (code t : Nat) :
    (s.replies m code t).orb = s.orb ∧ (s.replies m code t).ikl.held = s.ikl.held ∧
      (s.replies m code t).ikl.reason = s.ikl.reason ∧
      (s.clk + 20000, 8, (s.answerOf m code t).bytes) ∈ (s.replies m code t).ikl.repeats := by
  obtain ⟨ports, seen, obs, out, hsend⟩ := s.sendConj_eq (s.answerOf m code t)
  have hnone' : (s.sendConj (s.answerOf m code t)).ikl.prop = none := by rw [hsend]; exact hnone
  obtain ⟨refuser, hanswer⟩ := State.onAnswer_bystander (s.answerOf m code t) hnone'
  rw [State.replies, hanswer, hsend]
  exact ⟨rfl, rfl, rfl, List.mem_append_right _ List.mem_cons_self⟩

/-- PREPARED: the bank is armed and held. -/
theorem State.proposalJudged_prepared {s : State} {m : ConjMsg} (h : s.answerCode m = 0) :
    (s.proposalJudged m).ikl = { s.ikl with
      held := some ⟨m.id, m.orbit, s.fromWord (BitVec.ofNat 64 m.t), m.epoch, m.leader, false⟩, reason := 0 } ∧
    (s.proposalJudged m).orb.armed = some (s.fromWord (BitVec.ofNat 64 m.t)) ∧
    (s.proposalJudged m).orb.conjHeld = true ∧ (s.proposalJudged m).clk = s.clk ∧
    (s.proposalJudged m).moduleId = s.moduleId := by
  have horb : (s.prepare m).orb = { (s.arm (s.fromWord (BitVec.ofNat 64 m.t))).orb with conjHeld := true } := by
    unfold State.prepare
    dsimp only
    rw [State.raise_orb]
  have hclk : (s.prepare m).clk = s.clk := by
    unfold State.prepare
    dsimp only
    rw [State.raise_clk]
    rfl
  have hcanvas : (s.prepare m).canvas = s.canvas := by
    unfold State.prepare
    dsimp only
    rw [State.raise_canvas]
    rfl
  have hid : (s.prepare m).moduleId = s.moduleId := congrArg (fun c : CanvasSt => State.moduleId { s with canvas := c }) hcanvas
  have hikl := s.prepare_ikl m
  unfold State.proposalJudged
  rw [h, if_pos rfl]
  dsimp only
  rw [horb, hikl]
  exact ⟨rfl, rfl, rfl, hclk, hid⟩

theorem State.proposalJudged_refused {s : State} {m : ConjMsg} (h : s.answerCode m ≠ 0) :
    s.proposalJudged m = { s with ikl := { s.ikl with reason := s.answerCode m } } := by
  rw [State.proposalJudged, if_neg h]

section Member

variable {s : State} {n : Fin 8} {r b : Bytes} {m : ConjMsg} (h : HeardConj s n r b m) (hkind : m.kind = 1)
  (hnone : s.ikl.prop = none) (hfree : s.ikl.held = none) (hanswers : s.answers = true)
include h hkind hnone hfree hanswers

/-- A proposal that is heard is judged in a state in which nothing that the judgement reads has moved. -/
theorem exec_propose : ∃ u : State, exec (.propose n r) s = .next
      (((u.proposed m).proposalJudged m).replies m (s.answerCode m) (s.fromWord (BitVec.ofNat 64 m.t))) ∧
    (u.proposed m).answerCode m = s.answerCode m ∧ u.time = s.time ∧ u.orb = s.orb ∧ u.clk = s.clk ∧
    u.ikl.prop = none ∧ u.ikl.held = none ∧ u.moduleId = s.moduleId := by
  obtain ⟨ports, seen, obs, out, hin⟩ := State.recordIn_conj h
  have hexec : exec (.propose n r) s = .next (s.recordIn n r) := rfl
  rw [hin, State.actConj_propose _ hkind] at hexec
  have hcode : ((s.spoke ports seen (s.clk + 20000, n.val, b) obs out).proposed m).answerCode m = s.answerCode m := rfl
  have hanswers' : (s.spoke ports seen (s.clk + 20000, n.val, b) obs out).answers = true := hanswers
  have hfree' : (s.spoke ports seen (s.clk + 20000, n.val, b) obs out).ikl.held = none := hfree
  have hnone' : (s.spoke ports seen (s.clk + 20000, n.val, b) obs out).ikl.prop = none := hnone
  have htime : (s.spoke ports seen (s.clk + 20000, n.val, b) obs out).time = s.time := rfl
  have horb : (s.spoke ports seen (s.clk + 20000, n.val, b) obs out).orb = s.orb := rfl
  have hclk : (s.spoke ports seen (s.clk + 20000, n.val, b) obs out).clk = s.clk := rfl
  have hid : (s.spoke ports seen (s.clk + 20000, n.val, b) obs out).moduleId = s.moduleId := rfl
  generalize s.spoke ports seen (s.clk + 20000, n.val, b) obs out = u
    at hexec hcode hanswers' hfree' hnone' htime horb hclk hid
  rw [State.onPropose_judged m hfree' hanswers', hcode, State.fromWord_congr (congrArg TimeSt.now htime)] at hexec
  exact ⟨u, hexec, hcode, htime, horb, hclk, hnone', hfree', hid⟩

theorem propose_prepared (hcode : s.answerCode m = 0) : ∃ t, exec (.propose n r) s = .next t ∧
      t.ikl.held = some ⟨m.id, m.orbit, s.fromWord (BitVec.ofNat 64 m.t), m.epoch, m.leader, false⟩ ∧
      t.orb.armed = some (s.fromWord (BitVec.ofNat 64 m.t)) ∧ t.orb.conjHeld = true ∧ t.ikl.reason = 0 ∧
      (∃ q : ConjMsg, q.kind = 2 ∧ q.reason = 0 ∧ q.id = m.id ∧ q.origin = s.moduleId ∧
        (s.clk + 20000, 8, q.bytes) ∈ t.ikl.repeats) := by
  obtain ⟨u, hexec, hcode', htime, -, hclk, hnone', -, hid⟩ := exec_propose h hkind hnone hfree hanswers
  obtain ⟨hikl, harmed, hconj, hclk', hid'⟩ := State.proposalJudged_prepared (hcode'.trans hcode)
  have hword : (u.proposed m).fromWord (BitVec.ofNat 64 m.t) = s.fromWord (BitVec.ofNat 64 m.t) :=
    State.fromWord_congr (congrArg TimeSt.now htime) _
  have hclk'' : (u.proposed m).clk = s.clk := hclk
  have hid'' : (u.proposed m).moduleId = s.moduleId := hid
  have hnone'' : ((u.proposed m).proposalJudged m).ikl.prop = none := by rw [hikl]; exact hnone'
  rw [hcode] at hexec
  rw [hword] at hikl harmed
  rw [hclk''] at hclk'
  rw [hid''] at hid'
  generalize (u.proposed m).proposalJudged m = w at hexec hikl harmed hconj hclk' hid' hnone''
  obtain ⟨horb, hheld, hreason, hsaid⟩ := State.replies_bystander hnone'' m 0 (s.fromWord (BitVec.ofNat 64 m.t))
  refine ⟨_, hexec, by rw [hheld, hikl], by rw [horb, harmed], by rw [horb, hconj], by rw [hreason, hikl],
    w.answerOf m 0 (s.fromWord (BitVec.ofNat 64 m.t)), rfl, rfl, rfl, hid', ?_⟩
  rw [← hclk']
  exact hsaid

theorem propose_refused (hcode : s.answerCode m ≠ 0) : ∃ t, exec (.propose n r) s = .next t ∧ t.ikl.held = none ∧
      t.orb = s.orb ∧ t.ikl.reason = s.answerCode m ∧ (∃ q : ConjMsg, q.kind = 2 ∧ q.reason = s.answerCode m ∧ q.id = m.id ∧
        q.origin = s.moduleId ∧ (s.clk + 20000, 8, q.bytes) ∈ t.ikl.repeats) := by
  obtain ⟨u, hexec, hcode', htime, horb, hclk, hnone', hfree', hid⟩ := exec_propose h hkind hnone hfree hanswers
  rw [State.proposalJudged_refused (hcode'.trans_ne hcode), hcode'] at hexec
  generalize s.answerCode m = code at hexec ⊢
  have hnone'' : ({ u.proposed m with ikl := { (u.proposed m).ikl with reason := code } } : State).ikl.prop = none := hnone'
  have hfree'' : ({ u.proposed m with ikl := { (u.proposed m).ikl with reason := code } } : State).ikl.held = none := hfree'
  have horb' : ({ u.proposed m with ikl := { (u.proposed m).ikl with reason := code } } : State).orb = s.orb := horb
  have hclk' : ({ u.proposed m with ikl := { (u.proposed m).ikl with reason := code } } : State).clk = s.clk := hclk
  have hid' : State.moduleId { u.proposed m with ikl := { (u.proposed m).ikl with reason := code } } = s.moduleId := hid
  have hreason' : ({ u.proposed m with ikl := { (u.proposed m).ikl with reason := code } } : State).ikl.reason = code := rfl
  generalize ({ u.proposed m with ikl := { (u.proposed m).ikl with reason := code } } : State) = w
    at hexec hnone'' hfree'' horb' hclk' hid' hreason'
  obtain ⟨horb'', hheld, hreason, hsaid⟩ := State.replies_bystander hnone'' m code (s.fromWord (BitVec.ofNat 64 m.t))
  refine ⟨_, hexec, hheld.trans hfree'', horb''.trans horb', hreason.trans hreason',
    w.answerOf m code (s.fromWord (BitVec.ofNat 64 m.t)), rfl, rfl, rfl, hid', ?_⟩
  rw [← hclk']
  exact hsaid

end Member

/-! ### The answers reach the leader (R419) -/

theorem State.count_told {s : State} {tag : CmdTag} {st : Nat} (h : Told s tag st) (obs : ObsSt) :
    Told { s with obs := obs } tag st := h

/-- What the leader's COMMIT leaves where the leader holds nothing itself. -/
theorem State.commitConj_free {s : State} {p : Proposal} (hlen : s.cx.rings.length = 16) (hp : s.ikl.prop = some p)
    (hfree : s.ikl.held = none) : (s.commitConj p).ikl.prop = none ∧ Told (s.commitConj p) p.tag St.ok := by
  obtain ⟨ports, seen, obs, out, hsend⟩ := s.sendConj_eq (s.commitOf p)
  have hp' : (s.sendConj (s.commitOf p)).ikl.prop = some p := by rw [hsend]; exact hp
  have hfree' : (s.sendConj (s.commitOf p)).ikl.held = none := by rw [hsend]; exact hfree
  have hlen' := (State.ringCount_of_standing (s.sendConj_standing (s.commitOf p))).trans hlen
  rw [State.commitConj_eq]
  generalize s.sendConj (s.commitOf p) = v at hp' hfree' hlen' ⊢
  have htold := State.closeProposal_told hlen' hp' St.ok [(8, toWord p.t), (4, p.epoch)]
  have hikl := v.closeProposal_ikl St.ok [(8, toWord p.t), (4, p.epoch)]
  generalize v.closeProposal St.ok [(8, toWord p.t), (4, p.epoch)] = w at htold hikl ⊢
  obtain ⟨obs', hcommit⟩ := State.onCommit_free (s := w) (s.commitOf p) (by rw [hikl]; exact hfree')
  rw [hcommit]
  exact ⟨by show w.ikl.prop = none; rw [hikl], State.count_told htold obs'⟩

/-- What the leader's COMMIT leaves where the leader holds its own conjunction. -/
theorem State.commitConj_held {s : State} {p : Proposal} {h : Held} (hheld : s.ikl.held = some h) (hid : h.id = p.id)
    (hleader : h.leader = s.moduleId) (hopen : h.committed = false) :
    (s.commitConj p).ikl.prop = none ∧ (s.commitConj p).ikl.epoch = p.epoch ∧ (s.commitConj p).ikl.last = 1 := by
  obtain ⟨ports, seen, obs, out, hsend⟩ := s.sendConj_eq (s.commitOf p)
  have hheld' : (s.sendConj (s.commitOf p)).ikl.held = some h := by rw [hsend]; exact hheld
  rw [State.commitConj_eq]
  generalize s.sendConj (s.commitOf p) = v at hheld' ⊢
  have hikl := v.closeProposal_ikl St.ok [(8, toWord p.t), (4, p.epoch)]
  generalize v.closeProposal St.ok [(8, toWord p.t), (4, p.epoch)] = w at hikl ⊢
  obtain ⟨hepoch, hlast, -, hprop⟩ := State.onCommit_acts (s := w) (m := s.commitOf p) (h := h) (by rw [hikl]; exact hheld')
    hid hleader hopen (by rw [hikl])
  exact ⟨hprop, hepoch, hlast⟩

section Answer

variable {s : State} {n : Fin 8} {r b : Bytes} {m : ConjMsg} {p : Proposal} (h : HeardConj s n r b m) (hkind : m.kind = 2)
  (hp : s.ikl.prop = some p)
include h hkind hp

/-- An answer that is heard is judged in a state in which nothing that the judgement reads has moved. -/
theorem exec_answer : ∃ u : State, exec (.answer n r) s = .next (u.onAnswer m) ∧ u.ikl.prop = some p ∧
    u.ikl.held = s.ikl.held ∧ u.ikl.epoch = s.ikl.epoch ∧ u.orb = s.orb ∧ u.cx = s.cx ∧ u.moduleId = s.moduleId ∧
    ∀ p1, u.canCommit p1 = s.canCommit p1 := by
  obtain ⟨ports, seen, obs, out, hin⟩ := State.recordIn_conj h
  have hexec : exec (.answer n r) s = .next (s.recordIn n r) := rfl
  rw [hin, State.actConj_answer _ hkind] at hexec
  exact ⟨_, hexec, hp, rfl, rfl, rfl, rfl, rfl, fun _ => rfl⟩

variable (hid : m.id = p.id) (hleader : m.leader = s.moduleId)
include hid hleader

theorem answer_refused (hlen : s.cx.rings.length = 16) (hreason : m.reason ≠ 0) (hvoter : p.voters.contains m.origin = true) :
    ∃ t, exec (.answer n r) s = .next t ∧ t.ikl.prop = none ∧ t.ikl.last = 2 ∧ t.ikl.reason = 1 ∧ t.ikl.by_ = m.origin ∧
      Told t p.tag St.aborted := by
  obtain ⟨u, hexec, hp', -, -, -, hcx, hmod, -⟩ := exec_answer h hkind hp
  rw [State.onAnswer_refused hp' hid (hleader.trans hmod.symm) hreason hvoter] at hexec
  obtain ⟨ports, seen, held, hikl⟩ := State.abortConj_ikl hp' 1 m.origin
  refine ⟨_, hexec, by rw [hikl], by rw [hikl], by rw [hikl], by rw [hikl], ?_⟩
  exact State.abortConj_told ((congrArg (fun x : CxSt => x.rings.length) hcx).trans hlen) hp' 1 m.origin

variable (hreason : m.reason = 0)
include hreason

theorem answer_waits (hwait : s.canCommit (p.preparedBy m.origin) = false) : ∃ t, exec (.answer n r) s = .next t ∧
    t.ikl.prop = some (p.preparedBy m.origin) ∧ t.ikl.epoch = s.ikl.epoch ∧ t.orb = s.orb := by
  obtain ⟨u, hexec, hp', -, hepoch, horb, -, hmod, hcan⟩ := exec_answer h hkind hp
  rw [State.onAnswer_prepared hp' hid (hleader.trans hmod.symm) hreason, hcan, hwait, if_neg Bool.noConfusion] at hexec
  exact ⟨_, hexec, rfl, hepoch, horb⟩

theorem answer_commits (hlen : s.cx.rings.length = 16) (hgo : s.canCommit (p.preparedBy m.origin) = true)
    (hfree : s.ikl.held = none) : ∃ t, exec (.answer n r) s = .next t ∧ t.ikl.prop = none ∧ Told t p.tag St.ok := by
  obtain ⟨u, hexec, hp', hheld, -, -, hcx, hmod, hcan⟩ := exec_answer h hkind hp
  rw [State.onAnswer_prepared hp' hid (hleader.trans hmod.symm) hreason, hcan, hgo, if_pos rfl] at hexec
  have hlen' : (u.booked (p.preparedBy m.origin)).cx.rings.length = 16 :=
    (congrArg (fun x : CxSt => x.rings.length) hcx).trans hlen
  obtain ⟨hprop, htold⟩ := State.commitConj_free (s := u.booked (p.preparedBy m.origin)) (p := p.preparedBy m.origin) hlen' rfl
    (hheld.trans hfree)
  exact ⟨_, hexec, hprop, htold⟩

theorem answer_commits_held {x : Held} (hgo : s.canCommit (p.preparedBy m.origin) = true) (hheld : s.ikl.held = some x)
    (hxid : x.id = p.id) (hxleader : x.leader = s.moduleId) (hopen : x.committed = false) : ∃ t,
    exec (.answer n r) s = .next t ∧ t.ikl.prop = none ∧ t.ikl.epoch = p.epoch ∧ t.ikl.last = 1 := by
  obtain ⟨u, hexec, hp', hheld', -, -, -, hmod, hcan⟩ := exec_answer h hkind hp
  rw [State.onAnswer_prepared hp' hid (hleader.trans hmod.symm) hreason, hcan, hgo, if_pos rfl] at hexec
  obtain ⟨hprop, hepoch, hlast⟩ := State.commitConj_held (s := u.booked (p.preparedBy m.origin))
    (p := p.preparedBy m.origin) (hheld'.trans hheld) hxid (hxleader.trans hmod.symm) hopen
  exact ⟨_, hexec, hprop, hepoch, hlast⟩

end Answer

/-! ### COMMIT and ABORT reach a member (R420) -/

theorem commit_acts {s : State} {n : Fin 8} {r b : Bytes} {m : ConjMsg} {x : Held} (h : HeardConj s n r b m)
    (hkind : m.kind = 3) (hnone : s.ikl.prop = none) (hheld : s.ikl.held = some x) (hid : x.id = m.id)
    (hleader : x.leader = m.leader) (hopen : x.committed = false) : ∃ t, exec (.commit n r) s = .next t ∧
      t.ikl.epoch = m.epoch ∧ t.ikl.last = 1 ∧ t.ikl.reason = 0 := by
  obtain ⟨ports, seen, obs, out, hin⟩ := State.recordIn_conj h
  have hexec : exec (.commit n r) s = .next (s.recordIn n r) := rfl
  rw [hin, State.actConj_commit _ hkind] at hexec
  obtain ⟨hepoch, hlast, hreason, -⟩ := State.onCommit_acts
    (s := s.spoke ports seen (s.clk + 20000, n.val, b) obs out) hheld hid hleader hopen hnone
  exact ⟨_, hexec, hepoch, hlast, hreason⟩

theorem commit_free {s : State} {n : Fin 8} {r b : Bytes} {m : ConjMsg} (h : HeardConj s n r b m) (hkind : m.kind = 3)
    (hfree : s.ikl.held = none) : ∃ t, exec (.commit n r) s = .next t ∧ t.ikl.epoch = s.ikl.epoch ∧
      t.ikl.last = s.ikl.last ∧ t.orb = s.orb := by
  obtain ⟨ports, seen, obs, out, hin⟩ := State.recordIn_conj h
  have hexec : exec (.commit n r) s = .next (s.recordIn n r) := rfl
  rw [hin, State.actConj_commit _ hkind] at hexec
  obtain ⟨obs', hcommit⟩ := State.onCommit_free (s := s.spoke ports seen (s.clk + 20000, n.val, b) obs out) m hfree
  rw [hcommit] at hexec
  exact ⟨_, hexec, rfl, rfl, rfl⟩

theorem State.abortTakeoverWait_orb (s : State) : s.abortTakeoverWait.orb = s.orb := by
  have hend (st : Nat) : (s.endPendingMode st).orb = s.orb := by
    unfold State.endPendingMode State.completeOpt
    split
    · split
      · exact State.complete_orb _ _ _ _
      · rfl
    · rfl
  unfold State.abortTakeoverWait
  split
  · split
    · exact hend _
    · rfl
  · rfl

/-- A member's part ends: the bank is disarmed and no longer held. -/
theorem State.memberEnd_orb (s : State) (last reason by_ : Nat) : (s.memberEnd last reason by_).orb.armed = none ∧
    (s.memberEnd last reason by_).orb.conjHeld = false := by
  have h := State.abortTakeoverWait_orb
    (State.disarm { s with ikl := { s.ikl with held := none, last := last, reason := reason, by_ := by_ } })
  rw [State.memberEnd, h]
  exact ⟨rfl, rfl⟩

/-- An ABORT acts on the member that holds its conjunction and has met no COMMIT. -/
theorem State.onAbort_open {s : State} {m : ConjMsg} {x : Held} (hnone : s.ikl.refuser = none) (hheld : s.ikl.held = some x)
    (hid : x.id = m.id) (hleader : x.leader = m.leader) (hopen : x.committed = false) : s.onAbort m =
      ((s.memberEnd 2 m.reason m.origin).count (iklCnt 8 2) 1).raise 0x0807 [(4, m.id), (1, m.reason), (2, m.origin)] := by
  rw [State.onAbort, hnone, hheld]
  dsimp only
  rw [if_pos (by simp [hid, hleader, hopen])]

theorem State.onAbort_committed {s : State} {m : ConjMsg} {x : Held} (hnone : s.ikl.refuser = none)
    (hheld : s.ikl.held = some x) (hdone : x.committed = true) : s.onAbort m =
      (State.count { s with ikl := { s.ikl with last := 2, reason := m.reason, by_ := m.origin } } (iklCnt 8 2) 1).raise 0x0807
        [(4, m.id), (1, m.reason), (2, m.origin)] := by
  rw [State.onAbort, hnone, hheld]
  dsimp only
  rw [if_neg (by simp [hdone])]

section Abort

variable {s : State} {n : Fin 8} {r b : Bytes} {m : ConjMsg} {x : Held} (h : HeardConj s n r b m) (hkind : m.kind = 4)
  (hnone : s.ikl.refuser = none) (hheld : s.ikl.held = some x)
include h hkind hnone hheld

theorem abort_ends (hid : x.id = m.id) (hleader : x.leader = m.leader) (hopen : x.committed = false) : ∃ t,
    exec (.abort n r) s = .next t ∧ t.ikl.held = none ∧ t.orb.armed = none ∧ t.orb.conjHeld = false ∧ t.ikl.last = 2 ∧
      t.ikl.reason = m.reason ∧ t.ikl.by_ = m.origin := by
  obtain ⟨ports, seen, obs, out, hin⟩ := State.recordIn_conj h
  have hexec : exec (.abort n r) s = .next (s.recordIn n r) := rfl
  rw [hin, State.actConj_abort _ hkind, State.onAbort_open (s := s.spoke ports seen (s.clk + 20000, n.val, b) obs out) hnone hheld
    hid hleader hopen] at hexec
  generalize s.spoke ports seen (s.clk + 20000, n.val, b) obs out = u at hexec
  obtain ⟨harmed, hconj⟩ := u.memberEnd_orb 2 m.reason m.origin
  refine ⟨_, hexec, ?_⟩
  rw [State.raise_ikl, State.raise_orb, State.count_ikl, State.count_orb, State.memberEnd_ikl]
  exact ⟨rfl, harmed, hconj, rfl, rfl, rfl⟩

theorem abort_committed (hdone : x.committed = true) : ∃ t, exec (.abort n r) s = .next t ∧ t.ikl.held = some x ∧
    t.orb = s.orb := by
  obtain ⟨ports, seen, obs, out, hin⟩ := State.recordIn_conj h
  have hexec : exec (.abort n r) s = .next (s.recordIn n r) := rfl
  rw [hin, State.actConj_abort _ hkind, State.onAbort_committed (s := s.spoke ports seen (s.clk + 20000, n.val, b) obs out) hnone
    hheld hdone] at hexec
  refine ⟨_, hexec, ?_⟩
  rw [State.raise_ikl, State.raise_orb, State.count_ikl, State.count_orb]
  exact ⟨hheld, rfl⟩

end Abort

/-! ### Repeats, deadlines and a member's own abort (R416, R419, R420) -/

/-- The state whose remaining repeats are these. -/
def State.repeating (s : State) (rest : List (Nat × Nat × Bytes)) : State := { s with ikl := { s.ikl with repeats := rest } }

theorem exec_conjRepeatSend {s : State} {a ex : Nat} {body : Bytes} {rest : List (Nat × Nat × Bytes)}
    (h : s.ikl.repeats = (a, ex, body) :: rest) :
    exec .conjRepeatSend s = .next (((s.waitClk a).repeating rest).flood 3 ex body) := by
  show execConjRepeatSend s = _
  rw [execConjRepeatSend, h]
  rfl

theorem conjRepeatSend_sent {s : State} {a ex : Nat} {body : Bytes} {rest : List (Nat × Nat × Bytes)}
    (h : s.ikl.repeats = (a, ex, body) :: rest) (hlen : s.ikl.ports.length = 8) : ∃ t, exec .conjRepeatSend s = .next t ∧
      t.clk = max s.clk a ∧ t.ikl.repeats = rest ∧
      (∀ k : Fin 8, (t.iklPort k).txSeq =
        if (s.iklPort k).state = 2 ∧ k.val ≠ ex then seqNext (s.iklPort k).txSeq else (s.iklPort k).txSeq) ∧
      TimeOnly s { t with ikl := s.ikl, obs := s.obs, out := s.out } := by
  rw [exec_conjRepeatSend h]
  have hclk := s.waitClk_clk a
  have htime := s.waitClk_timeOnly a
  have hikl := (s.waitClk_agent a).1
  generalize s.waitClk a = v at hclk htime hikl ⊢
  have hport (k : Nat) : (v.repeating rest).iklPort k = s.iklPort k := by
    show lget {} v.ikl.ports k = _
    rw [hikl]
    rfl
  have hlen' : (v.repeating rest).ikl.ports.length = 8 := by
    show v.ikl.ports.length = 8
    rw [hikl, hlen]
  have hports := State.flood_port hlen' 3 ex body
  obtain ⟨ports, obs, out, hflood⟩ := (v.repeating rest).flood_eq 3 ex body
  refine ⟨_, rfl, by rw [hflood]; exact hclk, by rw [hflood]; rfl, fun k => ?_, ?_⟩
  · rw [hports, hport]
    by_cases hk : (s.iklPort k).state = 2 ∧ k.val ≠ ex
    · rw [if_pos hk, if_pos hk, IklPort.sent, if_neg (not_not.mpr hk.1)]
    · rw [if_neg hk, if_neg hk]
  · rw [hflood]
    have htime' := congrArg (fun x : State => { x with ikl := s.ikl, obs := s.obs, out := s.out }) htime
    exact htime'

theorem exec_conjDeadline_silent {s : State} {p : Proposal} {v : Nat} (hp : s.ikl.prop = some p)
    (hv : p.voters.find? (fun k => !p.prepared.contains k) = some v) :
    exec .conjDeadline s = .next ((s.waitTime p.deadline).abortConj 2 v) := by
  show execConjDeadline s = _
  rw [execConjDeadline, hp]
  dsimp only
  rw [hv]
  rfl

theorem exec_conjDeadline_all {s : State} {p : Proposal} (hp : s.ikl.prop = some p)
    (hall : p.voters.find? (fun k => !p.prepared.contains k) = none) : exec .conjDeadline s =
      .next ((s.waitTime p.deadline).quorumCheck.abortConj 3 (s.waitTime p.deadline).moduleId) := by
  show execConjDeadline s = _
  rw [execConjDeadline, hp]
  dsimp only
  rw [hall]
  rfl

theorem State.waitTime_agent (s : State) (t : Nat) : (s.waitTime t).ikl = s.ikl ∧ (s.waitTime t).cx = s.cx ∧
    (s.waitTime t).moduleId = s.moduleId ∧ (s.waitTime t).orb = s.orb := by
  unfold State.waitTime
  split <;> exact ⟨rfl, rfl, rfl, rfl⟩

/-- What the leader's ABORT leaves of a state that reads as one does. -/
theorem State.abortConj_ends {s u : State} {p : Proposal} (hlen : u.cx.rings.length = 16) (hp : u.ikl.prop = some p)
    (hepoch : u.ikl.epoch = s.ikl.epoch) (reason by_ : Nat) : (u.abortConj reason by_).ikl.prop = none ∧
      (u.abortConj reason by_).ikl.last = 2 ∧ (u.abortConj reason by_).ikl.epoch = s.ikl.epoch ∧
      Told (u.abortConj reason by_) p.tag St.aborted ∧ (u.abortConj reason by_).ikl.reason = reason ∧
      (u.abortConj reason by_).ikl.by_ = by_ := by
  have htold := State.abortConj_told hlen hp reason by_
  obtain ⟨ports, seen, held, hikl⟩ := State.abortConj_ikl hp reason by_
  rw [hikl]
  exact ⟨rfl, rfl, hepoch, htold, rfl, rfl⟩

theorem conjDeadline_aborts {s : State} {p : Proposal} (hp : s.ikl.prop = some p) (hlen : s.cx.rings.length = 16) : ∃ t,
      exec .conjDeadline s = .next t ∧ t.ikl.prop = none ∧ t.ikl.last = 2 ∧ t.ikl.epoch = s.ikl.epoch ∧
      Told t p.tag St.aborted ∧
      (∀ v, p.voters.find? (fun k => !p.prepared.contains k) = some v → t.ikl.reason = 2 ∧ t.ikl.by_ = v) ∧
      ((∀ v ∈ p.voters, p.prepared.contains v = true) → t.ikl.reason = 3 ∧ t.ikl.by_ = s.moduleId) := by
  obtain ⟨hikl, hcx, hid, -⟩ := s.waitTime_agent p.deadline
  cases hfind : p.voters.find? (fun k => !p.prepared.contains k) with
  | some v =>
    rw [exec_conjDeadline_silent hp hfind]
    generalize s.waitTime p.deadline = w at hikl hcx ⊢
    obtain ⟨hprop, hlast, hepoch, htold, hreason, hby⟩ := State.abortConj_ends (s := s) (u := w) (p := p) (by rw [hcx, hlen])
      (by rw [hikl, hp]) (by rw [hikl]) 2 v
    refine ⟨_, rfl, hprop, hlast, hepoch, htold, fun k hk => ⟨hreason, hby.trans (Option.some.inj hk)⟩, fun hall => ?_⟩
    have hin := List.mem_of_find?_eq_some hfind
    have hout := List.find?_some hfind
    rw [hall v hin] at hout
    exact Bool.noConfusion hout
  | none =>
    rw [exec_conjDeadline_all hp hfind]
    generalize s.waitTime p.deadline = w at hikl hcx hid ⊢
    obtain ⟨hchart, hout⟩ := w.quorumCheck_chart
    obtain ⟨-, -, -, hepoch', -⟩ := IklSt.of_chart hchart
    obtain ⟨hprop', -⟩ := IklSt.of_outcome hout
    obtain ⟨hprop, hlast, hepoch, htold, hreason, hby⟩ := State.abortConj_ends (s := s) (u := w.quorumCheck) (p := p)
      ((State.ringCount_of_standing w.quorumCheck_standing).trans (by rw [hcx, hlen])) (by rw [hprop', hikl, hp])
      (by rw [hepoch', hikl]) 3 w.moduleId
    exact ⟨_, rfl, hprop, hlast, hepoch, htold, fun k hk => absurd hk (Option.some_ne_none k).symm,
      fun _ => ⟨hreason, hby.trans hid⟩⟩

/-- A member ends its part alone. -/
def State.endsAlone (s : State) (x : Held) : State :=
  ((s.memberEnd 3 0 0).count (iklCnt 8 3) 1).raise 0x0808 [(4, x.id)]

theorem State.endsAlone_leaves (s : State) (x : Held) : (s.endsAlone x).ikl.held = none ∧ (s.endsAlone x).ikl.last = 3 ∧
    (s.endsAlone x).orb.armed = none ∧ (s.endsAlone x).orb.conjHeld = false ∧ (s.endsAlone x).ikl.epoch = s.ikl.epoch := by
  obtain ⟨harmed, hconj⟩ := s.memberEnd_orb 3 0 0
  rw [State.endsAlone, State.raise_ikl, State.raise_orb, State.count_ikl, State.count_orb, State.memberEnd_ikl]
  exact ⟨rfl, rfl, harmed, hconj, rfl⟩

/-- The instant at which a member that has heard nothing ends its part. -/
def Held.aloneAt (x : Held) : Nat := x.t - 200000 * nsUnit

theorem exec_conjLocalAbort {s : State} {x : Held} (hheld : s.ikl.held = some x) (hopen : x.committed = false) :
    exec .conjLocalAbort s = .next ((s.waitTime x.aloneAt).endsAlone x) := by
  show execConjLocalAbort s = _
  rw [execConjLocalAbort, hheld]
  dsimp only
  rw [if_neg (by rw [hopen]; exact Bool.noConfusion)]
  rfl

theorem exec_conjLocalAbort_committed {s : State} {x : Held} (hheld : s.ikl.held = some x) (hdone : x.committed = true) :
    exec .conjLocalAbort s = .next s := by
  show execConjLocalAbort s = _
  rw [execConjLocalAbort, hheld]
  dsimp only
  rw [if_pos hdone]
  rfl

theorem conjLocalAbort_ends {s : State} {x : Held} (hheld : s.ikl.held = some x) (hopen : x.committed = false) : ∃ t,
      exec .conjLocalAbort s = .next t ∧ t.ikl.held = none ∧ t.ikl.last = 3 ∧ t.orb.armed = none ∧
      t.orb.conjHeld = false ∧ t.ikl.epoch = s.ikl.epoch := by
  rw [exec_conjLocalAbort hheld hopen]
  obtain ⟨hheld', hlast, harmed, hconj, hepoch⟩ := (s.waitTime x.aloneAt).endsAlone_leaves x
  have hikl := congrArg IklSt.epoch (s.waitTime_agent x.aloneAt).1
  exact ⟨_, rfl, hheld', hlast, harmed, hconj, hepoch.trans hikl⟩

/-- Settles O55, clause by clause: the leader's commands, a member's answer, the leader's judgement of the answers, and what
COMMIT, ABORT, a repeat, the deadline and a member's own abort leave. -/
theorem conjunctions : Obligations.Conjunctions := by
  unfold Obligations.Conjunctions
  intro s tag n r b body m ob p p1 h a ex rest
  refine ⟨fun hs hsize hleads hfresh hquorum => ⟨fun hnone hlate => ⟨fun hbank =>
      ⟨_, exec_conjPropose_noPendingOrbit hs tag a hsize hleads hfresh hquorum hnone hlate hbank, refused_of_begun hs tag _ _ _⟩,
      conjPropose_proposes hs hsize hleads hfresh hquorum hnone hlate⟩,
      fun hp => ⟨_, exec_conjPropose_busy hs tag a hsize hleads hfresh hquorum hp, refused_of_begun hs tag _ _ _⟩,
      fun hnone => ⟨_, exec_conjAbort_late hs tag hsize hleads hnone, refused_of_begun hs tag _ _ _⟩,
      conjAbort_aborts hs hsize hleads⟩,
    fun hs hleads => ⟨⟨_, exec_conjPropose_wrongRole hs tag a hleads, refused_of_begun hs tag _ _ _⟩,
      _, exec_conjAbort_wrongRole hs tag hleads, refused_of_begun hs tag _ _ _⟩,
    fun hm hkind hnone hfree hanswers => ⟨propose_prepared hm hkind hnone hfree hanswers,
      propose_refused hm hkind hnone hfree hanswers⟩,
    fun hm hkind hp hid hleader hlen => ⟨answer_refused hm hkind hp hid hleader hlen, fun hreason hp1 => ?_⟩,
    fun hm hkind hnone => ⟨commit_acts hm hkind hnone, commit_free hm hkind⟩,
    fun hm hkind hnone hheld hid hleader => ⟨abort_ends hm hkind hnone hheld hid hleader, abort_committed hm hkind hnone hheld⟩,
    conjRepeatSend_sent, conjDeadline_aborts, fun hheld => ⟨conjLocalAbort_ends hheld, exec_conjLocalAbort_committed hheld⟩⟩
  subst hp1
  exact ⟨answer_waits hm hkind hp hid hleader hreason, answer_commits hm hkind hp hid hleader hreason hlen,
    answer_commits_held hm hkind hp hid hleader hreason⟩

end Sys2Proof.Machine
end

section
/-!
The command exchange's rings: doorbells, consumption, enable, disable and resume (R429, R433, R434, R437, R439, R445).
-/

namespace Sys2Proof.Machine

open Sys2Proof.Stated

/-! ### Rings that are written -/

theorem State.setRing_setRing (s : State) (r : Nat) (x y : Ring) : (s.setRing r x).setRing r y = s.setRing r y := by
  have hset : lset (lset s.cx.rings r x) r y = lset s.cx.rings r y := List.set_set ..
  exact congrArg (fun l : List Ring => ({ s with cx := { s.cx with rings := l } } : State)) hset

/-- What of a ring its commands' completions leave. -/
def Ring.entries (x : Ring) : Ring := { cons := x.cons, sqDb := x.sqDb, fetched := x.fetched }

theorem State.produce_entries {s : State} {r : Nat} (hr : r < s.cx.rings.length) (dev : Nat) (entry : Bytes) :
    ((s.produce r dev entry).ring r).entries = (s.ring r).entries ∧
      (s.produce r dev entry).cx.rings.length = s.cx.rings.length := by
  unfold State.produce
  dsimp only
  split_ifs
  · rw [State.ring_congr (State.coalesce_rings _ _), State.coalesce_rings]
    exact ⟨rfl, rfl⟩
  · rw [State.ring_setRing_same hr, State.setRing_rings_length]
    exact ⟨rfl, rfl⟩

theorem State.postCompletion_entries {s : State} {tag : CmdTag} (hr : tag.ring < s.cx.rings.length) (st flags : Nat) (d : Bytes) :
    ((s.postCompletion tag st flags d).ring tag.ring).entries = (s.ring tag.ring).entries ∧
      (s.postCompletion tag st flags d).cx.rings.length = s.cx.rings.length := by
  have hset (x : Ring) : tag.ring < (s.setRing tag.ring x).cx.rings.length := by rwa [State.setRing_rings_length]
  obtain ⟨hentries, hlen⟩ := State.produce_entries (hset _) _ _
  have hnumbered := congrArg Ring.entries (State.ring_setRing_same hr { s.ring tag.ring with devSeq := seqNext (s.ring tag.ring).devSeq })
  exact ⟨hentries.trans hnumbered, hlen.trans (State.setRing_rings_length _ _ _)⟩

/-- A completion leaves what its ring has consumed and fetched. -/
theorem State.complete_entries {s : State} {tag : CmdTag} (hr : tag.ring < s.cx.rings.length) (st : Nat) (d : List (Nat × Nat)) :
    ((s.complete tag st d).ring tag.ring).entries = (s.ring tag.ring).entries := by
  have hkeep : ∀ (u : State) (flags : Nat) (b : Bytes) (win : List DupEntry) (run : List InProgress), u.cx = s.cx →
      (((u.postCompletion tag st flags b).setRing tag.ring
        { (u.postCompletion tag st flags b).ring tag.ring with window := win, running := run }).ring tag.ring).entries =
      (s.ring tag.ring).entries := fun u flags b win run hu => by
    have hru : tag.ring < u.cx.rings.length := by rwa [hu]
    obtain ⟨hentries, hlen⟩ := State.postCompletion_entries hru st flags b
    rw [State.ring_setRing_same (by rwa [hlen]), ← State.ring_congr (congrArg CxSt.rings hu)]
    exact hentries
  unfold State.complete State.completeWith
  dsimp only
  refine hkeep _ _ _ _ _ ?_
  split <;> rfl

theorem State.begin_entries {s : State} {tag : CmdTag} (hr : tag.ring < s.cx.rings.length) (op : Nat) :
    ((s.begin tag op).ring tag.ring).entries = (s.ring tag.ring).entries := by
  rw [State.begin, State.ring_setRing_same hr]
  rfl

/-! ### Commands of the exchange itself (R429, R445) -/

section Rings

variable {s : State} (hlen : s.cx.rings.length = 16)
include hlen

theorem cxNop_answered (tag : CmdTag) : ∃ t, exec (.cxNop tag) s = .next t ∧
    Answered s t tag (if s.started then St.ok else St.notStarted) ∧ ExchangeOnly s t :=
  ⟨_, rfl, refused_of_rings hlen tag 0x0000 (if s.started then St.ok else St.notStarted) []⟩

/-- A command in progress is no part of the exchange's state as it is read. -/
theorem State.begin_cxState (tag : CmdTag) (op : Nat) : (s.begin tag op).cxState = s.cxState := by
  have hring (r : Nat) : ((s.begin tag op).ring r).cons = (s.ring r).cons ∧
      ((s.begin tag op).ring r).devSeq = (s.ring r).devSeq := by
    by_cases hr : r = tag.ring.val
    · subst hr
      rw [State.begin, State.ring_setRing_same (by omega)]
      exact ⟨rfl, rfl⟩
    · have hsame : (s.begin tag op).ring r = s.ring r := lget_lset_ne hr
      rw [hsame]
      exact ⟨rfl, rfl⟩
  have hwords : (fun r => leBytes 4 ((s.begin tag op).ring r).cons ++ leBytes 4 ((s.begin tag op).ring r).devSeq) =
      fun r => leBytes 4 (s.ring r).cons ++ leBytes 4 (s.ring r).devSeq := by
    funext r
    rw [(hring r).1, (hring r).2]
  rw [State.cxState, hwords]
  rfl

theorem cxStateRead_read (tag : CmdTag) (out : Nat) : ∃ t, exec (.cxStateRead tag out) s = .next t ∧ Answered s t tag St.ok ∧
    ExchangeOnly s t ∧ Delivered s t tag out s.cxState := by
  have hexec : exec (.cxStateRead tag out) s =
      .next (((s.begin tag 0x0100).outData tag out s.cxState).completeWith tag St.ok [] true) := by
    show execCxStateRead tag out s = _
    rw [execCxStateRead, State.serve_of_boot s tag (by decide), State.begin_cxState hlen]
    rfl
  refine ⟨_, hexec, answered_of_rings hlen (State.outData_cx _ _ _ _) _ _ _,
    exchangeOnly_completeWith ((State.outData_lessExchange _ _ _ _).trans (State.begin_lessExchange _ _ _)) tag _ _ _,
    delivered_of_written hlen (State.outData_cx _ _ _ _) ((State.outData_regs _ _ _ _).trans (s.begin_regs tag 0x0100))
      State.begin_outData_host _ _ _⟩

end Rings

/-! ### Consumption (R433, R434) -/

theorem State.hostAct_up {s : State} (h : s.barUp = true) (t : Nat) (f : State → State) : s.hostAct t f = f (s.granted t 2) :=
  if_pos h

theorem State.hostAct_down {s : State} (h : s.barUp = false) (t : Nat) (f : State → State) : s.hostAct t f = s :=
  if_neg (by rw [h]; exact Bool.noConfusion)

section Consumption

variable {s : State} {r : Fin 16}

theorem State.ringConsumes_off (h : s.flag (Reg.CX_RING_CTL_EN r) = false) : s.ringConsumes r = false := by
  rw [State.ringConsumes, h, Bool.and_false, Bool.false_and, Bool.false_and, Bool.false_and]

theorem State.consumeOne_off (h : s.ringConsumes r = false) : s.consumeOne r = none := by
  rw [State.consumeOne, if_pos (.inl h)]

/-- A ring that may not consume stands. -/
theorem State.ringRun_off (h : s.ringConsumes r = false) : s.ringRun r = s := by
  rw [State.ringRun]
  cases (s.ring r).fetched.length with
  | zero => rfl
  | succ n => rw [State.consume, State.consumeOne_off h]

theorem State.ringRun_empty (h : (s.ring r).fetched = []) : s.ringRun r = s := by
  rw [State.ringRun, h]
  rfl

/-- One fetched entry is consumed, or the ring stops on it. -/
theorem State.ringRun_one {e : CmdEntry} {t : State} (h : (s.ring r).fetched = [e]) (hone : s.consumeOne r = some t) :
    s.ringRun r = t := by
  rw [State.ringRun, h, List.length_singleton, State.consume, hone]
  rfl

/-- A ring with nothing held and nothing fetched goes on as it is. -/
theorem State.ringGo_idle (hr : r.val < s.cx.rings.length) (hheld : (s.ring r).held = []) (hfetched : (s.ring r).fetched = []) :
    s.ringGo r = s := by
  have hself : { s.ring r with held := [] } = s.ring r := congrArg (fun l => { s.ring r with held := l }) hheld.symm
  rw [State.ringGo, hheld, State.flushHeld, State.setRing_self hr hself, State.ringRun_empty hfetched]

end Consumption

/-! ### Doorbells of a command ring (R433) -/

theorem State.raiseLim_lessSeries (s : State) (code sub : Nat) (l : List (Nat × Nat)) :
    (s.raiseLim code sub l).cx.lessSeries = s.cx.lessSeries := by
  unfold State.raiseLim
  dsimp only
  split
  · split
    · rfl
    · rw [State.raise_lessSeries]
  · rw [State.raise_lessSeries]

section Doorbell

variable {s : State} (hlen : s.cx.rings.length = 16) (hbar : s.barUp = true) {r : Fin 16} {v : Word}
include hlen hbar

omit hlen in
theorem exec_sqDoorbell (entries : List CmdEntry) :
    exec (.sqDoorbell r v entries) s = .next ((s.granted 0 2).sqRing r v.toNat entries) :=
  congrArg Host.Outcome.next (State.hostAct_up hbar 0 fun s => s.sqRing r v.toNat entries)

omit hlen hbar in
/-- What a bad doorbell leaves. -/
theorem State.doorbellBad_leaves (s : State) (ring value : Nat) : (s.doorbellBad ring value).cx.lessSeries = s.cx.lessSeries ∧
    EventsOnly s (s.doorbellBad ring value) :=
  ⟨State.raiseLim_lessSeries _ _ _ _, eventsOnly_of_lessEvents (State.raiseLim_lessEvents _ _ _ _)⟩

omit hlen in
theorem sqDoorbell_bad {e : CmdEntry} (hfar : 4096 < seqDiff v.toNat (s.ring r).cons) : ∃ t,
    exec (.sqDoorbell r v [e]) s = .next t ∧ t.ring r = s.ring r ∧ EventsOnly (s.granted 0 2) t := by
  have hsq : (s.granted 0 2).sqRing r v.toNat [e] = (s.granted 0 2).doorbellBad r v.toNat := if_pos hfar
  obtain ⟨hcx, hevents⟩ := (s.granted 0 2).doorbellBad_leaves r v.toNat
  obtain ⟨-, -, -, hrings⟩ := CxSt.link_of_lessSeries hcx
  exact ⟨_, (exec_sqDoorbell hbar [e]).trans (congrArg _ hsq), State.ring_congr hrings r, hevents⟩

/-- The ring as its doorbell has been rung, with what has been fetched for it. -/
def State.rungAt (s : State) (r : Fin 16) (v : Nat) (fetched : List CmdEntry) : State :=
  (s.granted 0 2).setRing r { s.ring r with sqDb := v, fetched := fetched }

omit hbar in
theorem State.rungAt_ring (r : Fin 16) (v : Nat) (fetched : List CmdEntry) :
    (s.rungAt r v fetched).ring r = { s.ring r with sqDb := v, fetched := fetched } :=
  State.ring_setRing_same (s := s.granted 0 2) (by rw [State.granted_cx, hlen]; exact r.isLt) _

omit hlen in
theorem exec_sqDoorbell_rung {e : CmdEntry} (hnear : seqDiff v.toNat (s.ring r).cons ≤ 4096) (hgood : (s.ring r).error = false) :
    exec (.sqDoorbell r v [e]) s = .next ((s.rungAt r v.toNat [e]).ringRun r) := by
  have hnear' : ¬ seqDiff v.toNat ((s.granted 0 2).ring r).cons > 4096 := Nat.not_lt.mpr hnear
  have hgood' : ¬ ((s.granted 0 2).ring r).error = true := ne_true_of_eq_false hgood
  rw [exec_sqDoorbell hbar, State.sqRing, if_neg hnear', if_neg hgood']
  rfl

omit hlen in
theorem sqDoorbell_off {e : CmdEntry} (hnear : seqDiff v.toNat (s.ring r).cons ≤ 4096) (hgood : (s.ring r).error = false)
    (hoff : s.flag (Reg.CX_RING_CTL_EN r) = false) : exec (.sqDoorbell r v [e]) s = .next
      ((s.granted 0 2).setRing r { s.ring r with sqDb := v.toNat, fetched := [e] }) := by
  have hoff' : (s.rungAt r v.toNat [e]).flag (Reg.CX_RING_CTL_EN r) = false := hoff
  rw [exec_sqDoorbell_rung hbar hnear hgood, State.ringRun_off (State.ringConsumes_off hoff')]
  rfl

section Consumed

variable {e : CmdEntry} {raw : Bytes} (hnear : seqDiff v.toNat (s.ring r).cons ≤ 4096) (hnew : v.toNat ≠ (s.ring r).cons)
  (hgo : s.ringConsumes r = true) (hraw : e.raw = some raw)
include hnear hnew hgo hraw

omit hlen hbar hnear hnew hraw in
theorem State.error_of_consumes : (s.ring r).error = false := by
  rw [State.ringConsumes] at hgo
  simp only [Bool.and_eq_true, Bool.not_eq_true'] at hgo
  exact hgo.1.2

omit hbar hnear hnew hraw in
theorem State.rungAt_consumes (fetched : List CmdEntry) : (s.rungAt r v.toNat fetched).ringConsumes r = true := by
  have hload : (s.rungAt r v.toNat fetched).ringLoad r = s.ringLoad r := by
    rw [State.ringLoad, State.rungAt_ring hlen]
    rfl
  rw [State.ringConsumes, hload, State.rungAt_ring hlen]
  exact hgo

/-- The entry is out of its place: the ring stops (R433). -/
theorem sqDoorbell_stops (hseq : leAt raw 0 4 ≠ seqNext (s.ring r).cons) : ∃ t,
    exec (.sqDoorbell r v [e]) s = .next t ∧ (t.ring r).error = true ∧ (t.ring r).cons = (s.ring r).cons ∧
      (t.ring r).devSeq = (s.ring r).devSeq ∧ EventsOnly (s.granted 0 2) t := by
  have hring := State.rungAt_ring hlen r v.toNat [e]
  have hone : (s.rungAt r v.toNat [e]).consumeOne r = some ((s.rungAt r v.toNat [e]).ringStop r (leAt raw 0 4, 0)) := by
    rw [State.consumeOne, State.rungAt_consumes hlen hgo, hring]
    dsimp only
    rw [if_neg (by simpa using Ne.symm hnew), hraw]
    dsimp only
    rw [if_pos hseq]
  have hlen' : r.val < (s.rungAt r v.toNat [e]).cx.rings.length :=
    (hlen.symm ▸ r.isLt : r.val < s.cx.rings.length).trans_eq (State.setRing_rings_length _ _ _).symm
  have hstopped : ((s.rungAt r v.toNat [e]).ringStop r (leAt raw 0 4, 0)).ring r =
      { s.ring r with sqDb := v.toNat, error := true, fetched := [] } := by
    have hset := State.ring_setRing_same hlen' { (s.rungAt r v.toNat [e]).ring r with error := true, fetched := [] }
    refine (State.ring_congr (State.raiseLim_rings _ _ _ _) r).trans (hset.trans ?_)
    rw [hring]
  have hexec := exec_sqDoorbell_rung hbar hnear (State.error_of_consumes hgo) (e := e)
  rw [State.ringRun_one (congrArg Ring.fetched hring) hone] at hexec
  refine ⟨_, hexec, by rw [hstopped], by rw [hstopped], by rw [hstopped], ?_⟩
  exact eventsOnly_of_lessEvents (State.raiseLim_lessEvents _ _ _ _)

/-- The ring as an entry has been consumed. -/
def State.consumed (s : State) (r : Fin 16) (v : Nat) : State :=
  (s.granted 0 2).setRing r { s.ring r with sqDb := v, fetched := [], cons := seqNext (s.ring r).cons }

omit hnear hnew hgo hraw hlen hbar in
/-- An entry of CX_NOP is carried out (R445). -/
theorem State.runEntry_nop (s : State) (tag : CmdTag) (e : CmdEntry) (hop : leAt raw 4 2 = 0) (hflags : leAt raw 6 2 = 0)
    (hparams : paramsOk [] (slice raw 0x18 40) = true) : s.runEntry tag raw e =
      (s.begin tag 0x0000).complete tag (if s.started then St.ok else St.notStarted) := by
  have hlayout : layoutOf 0 = some [] := rfl
  rw [State.runEntry, hop, hlayout]
  dsimp only
  rw [hflags, if_neg (by omega), if_pos rfl]
  dsimp only
  rw [hparams, if_neg (by simp), if_pos (by omega)]
  rfl

theorem sqDoorbell_nop {tag : CmdTag} (hseq : leAt raw 0 4 = seqNext (s.ring r).cons) (hop : leAt raw 4 2 = 0)
    (hflags : leAt raw 6 2 = 0) (hparams : paramsOk [] (slice raw 0x18 40) = true)
    (htag : tag = ⟨r, leAt raw 0 4, 0, leAt raw 0x10 8, e.writesOk⟩) (hreq : leAt raw 8 8 = 0) : ∃ t,
    exec (.sqDoorbell r v [e]) s = .next t ∧ (t.ring r).cons = seqNext (s.ring r).cons ∧
      (t.ring r).sqDb = v.toNat ∧ (t.ring r).fetched = [] ∧
      Answered s t tag (if s.started then St.ok else St.notStarted) ∧ ExchangeOnly (s.granted 0 2) t := by
  have hring := State.rungAt_ring hlen r v.toNat [e]
  have hr : r.val < s.cx.rings.length := hlen.symm ▸ r.isLt
  have hconsumed : (s.rungAt r v.toNat [e]).setRing r { s.ring r with sqDb := v.toNat, fetched := [], cons := seqNext (s.ring r).cons } =
      s.consumed r v.toNat := State.setRing_setRing _ _ _ _
  have htagged : (⟨r, leAt raw 0 4, leAt raw 8 8, leAt raw 0x10 8, e.writesOk⟩ : CmdTag) = tag := by rw [hreq, htag]
  have hfresh : (s.consumed r v.toNat).duplicate r (leAt raw 8 8) = none := by rw [State.duplicate, if_pos hreq]
  have haccept : (s.rungAt r v.toNat [e]).accept r raw e = (s.consumed r v.toNat).runEntry tag raw e := by
    rw [State.accept, hring]
    dsimp only [List.drop]
    rw [hconsumed, htagged, hfresh]
  have hone : (s.rungAt r v.toNat [e]).consumeOne r = some ((s.rungAt r v.toNat [e]).accept r raw e) := by
    rw [State.consumeOne, State.rungAt_consumes hlen hgo, hring]
    dsimp only
    rw [if_neg (by simpa using Ne.symm hnew), hraw]
    dsimp only
    rw [if_neg (not_not.mpr hseq), hflags, if_neg (by simp [bitAt])]
  have hexec := exec_sqDoorbell_rung hbar hnear (State.error_of_consumes hgo) (e := e)
  rw [State.ringRun_one (congrArg Ring.fetched hring) hone, haccept, State.runEntry_nop _ tag e hop hflags hparams] at hexec
  have hlen' : (s.consumed r v.toNat).cx.rings.length = 16 := (State.setRing_rings_length _ _ _).trans hlen
  have hring' : (s.consumed r v.toNat).ring r = { s.ring r with
      sqDb := v.toNat, fetched := [], cons := seqNext (s.ring r).cons } := State.ring_setRing_same (s := s.granted 0 2) hr _
  have hat : tag.ring = r := by rw [htag]
  have hentries : ((((s.consumed r v.toNat).begin tag 0x0000).complete tag (if (s.consumed r v.toNat).started then St.ok
      else St.notStarted)).ring r).entries = ((s.consumed r v.toNat).ring r).entries := by
    rw [← hat]
    have hlen'' : (s.consumed tag.ring v.toNat).cx.rings.length = 16 := hat ▸ hlen'
    exact (State.complete_entries (by rw [State.begin_rings_length hlen'']; exact tag.ring.isLt) _ _).trans
      (State.begin_entries (by rw [hlen'']; exact tag.ring.isLt) _)
  rw [hring'] at hentries
  obtain ⟨⟨hdev, hwin⟩, honly⟩ := refused_of_rings hlen' tag 0x0000 (if (s.consumed r v.toNat).started then St.ok
      else St.notStarted) []
  refine ⟨_, hexec, congrArg Ring.cons hentries, congrArg Ring.sqDb hentries, congrArg Ring.fetched hentries, ⟨?_, hwin⟩, ?_⟩
  · rw [hdev, hat, hring']
  · have hcx := congrArg (fun x : State => { x with cx := s.cx }) honly
    exact hcx

end Consumed

end Doorbell

end Sys2Proof.Machine
end

section
/-!
The completion and event doorbells, the enable, disable and resume of a ring, and the doorbells of the frame queues (R433,
R434, R439, R446).
-/

namespace Sys2Proof.Machine

open Sys2Proof.Stated

section RingControl

variable {s : State} (hlen : s.cx.rings.length = 16) (hbar : s.barUp = true) {r : Fin 16} {v : Word}

/-! ### The completion doorbell (R434) -/

include hbar in
theorem exec_cqDoorbell : exec (.cqDoorbell r v) s =
    .next (((s.granted 0 2).setRing r { s.ring r with cqDb := v.toNat }).ringGo r) :=
  congrArg Host.Outcome.next (State.hostAct_up hbar 0 fun s => s.cqRing r v.toNat)

include hlen in
theorem State.granted_setRing_ring (r : Fin 16) (x : Ring) : ((s.granted 0 2).setRing r x).ring r = x :=
  State.ring_setRing_same (s := s.granted 0 2) (by rw [State.granted_cx, hlen]; exact r.isLt) _

include hlen in
theorem State.granted_setRing_lt (r : Fin 16) (x : Ring) : r.val < ((s.granted 0 2).setRing r x).cx.rings.length := by
  rw [State.setRing_rings_length, State.granted_cx, hlen]
  exact r.isLt

include hlen hbar in
theorem cqDoorbell_idle (hfetched : (s.ring r).fetched = []) (hheld : (s.ring r).held = []) :
    exec (.cqDoorbell r v) s = .next ((s.granted 0 2).setRing r { s.ring r with cqDb := v.toNat }) := by
  have hring := State.granted_setRing_ring hlen r { s.ring r with cqDb := v.toNat }
  rw [exec_cqDoorbell hbar, State.ringGo_idle (State.granted_setRing_lt hlen r _)
    ((congrArg Ring.held hring).trans hheld) ((congrArg Ring.fetched hring).trans hfetched)]

include hlen hbar in
/-- A held completion that the host has made room for is written. -/
theorem cqDoorbell_flushes {c : Completion} (hfetched : (s.ring r).fetched = []) (hheld : (s.ring r).held = [c])
    (htakes : (s.setRing r { s.ring r with cqDb := v.toNat }).ringTakes r c.devSeq = true) : ∃ t,
    exec (.cqDoorbell r v) s = .next t ∧ (t.ring r).held = [] ∧ (t.ring r).cqDb = v.toNat ∧
      t.host = putBytes s.host (s.fld (Reg.CX_RING_CQ_BASE_LO_BASE r) + 2 ^ 32 * s.fld (Reg.CX_RING_CQ_BASE_HI_BASE r)
        + 32 * (c.devSeq % 4096)) c.entry := by
  have hring := State.granted_setRing_ring hlen r { s.ring r with cqDb := v.toNat }
  have hlt := State.granted_setRing_lt hlen r { s.ring r with cqDb := v.toNat }
  have htakes' : ((s.granted 0 2).setRing r { s.ring r with cqDb := v.toNat }).ringTakes r c.devSeq = true := htakes
  have hhost : ((s.granted 0 2).setRing r { s.ring r with cqDb := v.toNat }).host = s.host := rfl
  have hbase : ∀ f, ((s.granted 0 2).setRing r { s.ring r with cqDb := v.toNat }).fld f = s.fld f := fun f => State.fld_congr rfl f
  have hexec := exec_cqDoorbell hbar (s := s) (r := r) (v := v)
  generalize (s.granted 0 2).setRing r { s.ring r with cqDb := v.toNat } = u at *
  have hwritten : ∀ a b, ((u.hostWrite a b).coalesce r).ring r = u.ring r ∧
      ((u.hostWrite a b).coalesce r).cx.rings = u.cx.rings := fun a b =>
    ⟨State.ring_congr (State.coalesce_rings _ _) r, State.coalesce_rings _ _⟩
  obtain ⟨hsame, hrings⟩ := hwritten (u.fld (Reg.CX_RING_CQ_BASE_LO_BASE r) + 2 ^ 32 * u.fld (Reg.CX_RING_CQ_BASE_HI_BASE r)
    + 32 * (c.devSeq % 4096)) c.entry
  have hset := State.ring_setRing_same (by rw [hrings]; exact hlt) { u.ring r with held := [] }
  rw [State.ringGo, (congrArg Ring.held hring).trans hheld, State.flushHeld, if_pos htakes'] at hexec
  dsimp only at hexec
  rw [State.flushHeld, hsame, State.ringRun_empty (by rw [hset, hring]; exact hfetched)] at hexec
  refine ⟨_, hexec, by rw [hset], by rw [hset, hring], ?_⟩
  rw [← hhost, ← hbase, ← hbase]
  exact State.coalesce_host _ _

/-! ### Enable, disable and resume (R439) -/

/-- A link bit that is set reads set. -/
theorem LinkBit.flag_setFld_one {f : FieldRef} (hf : LinkBit f) (hlo : f.lo = 0) (hrise : keysRise 0 s.regs = true) :
    (s.setFld f 1).flag f = true := by
  have hhi : f.hi = 0 := hf.hi_eq.trans hlo
  rw [State.flag, State.fld_setFld_low hrise hlo (by omega) hf.reset_eq, hhi]
  rfl

include hlen in
theorem State.ringOn_enables (hregs : RegsCanonical s) (hoff : s.flag (Reg.CX_RING_CTL_EN r) = false)
    (hfetched : (s.ring r).fetched = []) (hheld : (s.ring r).held = []) :
    (s.ringOn r).flag (Reg.CX_RING_CTL_EN r) = true ∧ (s.ringOn r).ring r = { s.ring r with error := false } ∧
      { s.ringOn r with regs := s.regs, bm := s.bm, cx := s.cx } = s := by
  have hlt : r.val < (s.setFld (Reg.CX_RING_CTL_EN r) 1).cx.rings.length := by
    rw [State.setFld_cx, hlen]
    exact r.isLt
  have hflag := (linkBit_ring r.isLt).flag_setFld_one rfl hregs.1
  have hsame : { s.setFld (Reg.CX_RING_CTL_EN r) 1 with regs := s.regs, bm := s.bm, cx := s.cx } = s := rfl
  rw [State.ringOn, if_neg (by rw [hoff]; exact Bool.noConfusion)]
  generalize s.setFld (Reg.CX_RING_CTL_EN r) 1 = u at *
  have hring := State.ring_setRing_same hlt { s.ring r with error := false }
  rw [State.ringGo_idle (by rw [State.setRing_rings_length]; exact hlt) ((congrArg Ring.held hring).trans hheld)
    ((congrArg Ring.fetched hring).trans hfetched)]
  exact ⟨hflag, hring, hsame⟩

include hlen hbar in
theorem ringEnable_enables (hregs : RegsCanonical s) (hoff : s.flag (Reg.CX_RING_CTL_EN r) = false)
    (hfetched : (s.ring r).fetched = []) (hheld : (s.ring r).held = []) : ∃ t, exec (.ringEnable r) s = .next t ∧
      t.flag (Reg.CX_RING_CTL_EN r) = true ∧ t.ring r = { s.ring r with error := false } ∧
      { t with regs := s.regs, bm := s.bm, cx := s.cx } = s := by
  have hexec : exec (.ringEnable r) s = .next ((s.granted 0 2).ringOn r) :=
    congrArg Host.Outcome.next (State.hostAct_up hbar 0 fun s => s.ringOn r)
  obtain ⟨hflag, hring, hsame⟩ := State.ringOn_enables (s := s.granted 0 2) hlen hregs hoff hfetched hheld
  have hbesides := congrArg (fun t : State => { t with bm := s.bm }) hsame
  exact ⟨_, hexec, hflag, hring, hbesides⟩

include hbar in
theorem ringDisable_disables (hregs : RegsCanonical s) : ∃ t, exec (.ringDisable r) s = .next t ∧
    t.flag (Reg.CX_RING_CTL_EN r) = false ∧ { t with regs := s.regs, bm := s.bm } = s := by
  have hexec : exec (.ringDisable r) s = .next ((s.granted 0 2).setFld (Reg.CX_RING_CTL_EN r) 0) :=
    congrArg Host.Outcome.next (State.hostAct_up hbar 0 fun s => s.setFld (Reg.CX_RING_CTL_EN r) 0)
  obtain ⟨-, hclear⟩ := (linkBit_ring r.isLt).off_setFld_same (s := s.granted 0 2) hregs.1
  exact ⟨_, hexec, hclear, rfl⟩

include hbar in
theorem exec_ringResume (entries : List CmdEntry) : exec (.ringResume r entries) s = .next ((s.granted 0 2).ringAgain r entries) :=
  congrArg Host.Outcome.next (State.hostAct_up hbar 0 fun s => s.ringAgain r entries)

include hbar in
theorem ringResume_runs (entries : List CmdEntry) (hgood : (s.ring r).error = false) :
    exec (.ringResume r entries) s = .next (s.granted 0 2) := by
  have hgood' : ¬ ((s.granted 0 2).ring r).error = true := ne_true_of_eq_false hgood
  rw [exec_ringResume hbar, State.ringAgain, if_neg hgood']

include hbar in
theorem ringResume_off (entries : List CmdEntry) (herror : (s.ring r).error = true)
    (hoff : s.flag (Reg.CX_RING_CTL_EN r) = false) : exec (.ringResume r entries) s = .next
      ((s.granted 0 2).setRing r { s.ring r with error := false, fetched := entries }) := by
  have herror' : ((s.granted 0 2).ring r).error = true := herror
  have hoff' : ((s.granted 0 2).setRing r { s.ring r with error := false, fetched := entries }).flag
      (Reg.CX_RING_CTL_EN r) = false := hoff
  rw [exec_ringResume hbar, State.ringAgain, if_pos herror']
  exact congrArg Host.Outcome.next (State.ringRun_off (State.ringConsumes_off hoff'))

end RingControl

/-! ### Doorbells of the frame queues (R446) -/

section FrameQueues

variable {s : State} (hbar : s.barUp = true) {q : Fin 8} {v : Word} (ds : List Descriptor)

theorem FqDir.ring_near {d : FqDir} {value : Nat} (h : seqDiff value d.cons ≤ 1024) (ds : List Descriptor) :
    d.ring value ds = some { d with db := value, descs := ds.take (seqDiff value d.cons) } :=
  if_neg (Nat.not_lt.mpr h)

theorem FqDir.ring_far {d : FqDir} {value : Nat} (h : 1024 < seqDiff value d.cons) (ds : List Descriptor) :
    d.ring value ds = none :=
  if_pos h

include hbar

theorem fqTxDoorbell_rung (hnear : seqDiff v.toNat (s.fqTxOf q).cons ≤ 1024) : exec (.fqTxDoorbell q v ds) s = .next
    ((s.granted 0 2).setFqTx q { s.fqTxOf q with db := v.toNat, descs := ds.take (seqDiff v.toNat (s.fqTxOf q).cons) }) := by
  have hring : ((s.granted 0 2).fqTxOf q).ring v.toNat ds = _ := FqDir.ring_near hnear ds
  show execFqTxDoorbell q v ds s = _
  rw [execFqTxDoorbell, State.hostAct_up hbar, hring]
  rfl

theorem fqRxDoorbell_rung (hnear : seqDiff v.toNat (s.fqRxOf q).cons ≤ 1024) : exec (.fqRxDoorbell q v ds) s = .next
    ((s.granted 0 2).setFqRx q { s.fqRxOf q with db := v.toNat, descs := ds.take (seqDiff v.toNat (s.fqRxOf q).cons) }) := by
  have hring : ((s.granted 0 2).fqRxOf q).ring v.toNat ds = _ := FqDir.ring_near hnear ds
  show execFqRxDoorbell q v ds s = _
  rw [execFqRxDoorbell, State.hostAct_up hbar, hring]
  rfl

theorem fqTxDoorbell_bad (hfar : 1024 < seqDiff v.toNat (s.fqTxOf q).cons) : ∃ t, exec (.fqTxDoorbell q v ds) s = .next t ∧
    t.cx.fqTx = s.cx.fqTx ∧ EventsOnly (s.granted 0 2) t := by
  have hring : ((s.granted 0 2).fqTxOf q).ring v.toNat ds = none := FqDir.ring_far hfar ds
  have hexec : exec (.fqTxDoorbell q v ds) s = .next ((s.granted 0 2).doorbellBad (16 + 2 * q) v.toNat) := by
    show execFqTxDoorbell q v ds s = _
    rw [execFqTxDoorbell, State.hostAct_up hbar, hring]
    rfl
  obtain ⟨hcx, hevents⟩ := (s.granted 0 2).doorbellBad_leaves (16 + 2 * q) v.toNat
  have hqueues := congrArg CxSt.fqTx hcx
  exact ⟨_, hexec, hqueues, hevents⟩

theorem fqRxDoorbell_bad (hfar : 1024 < seqDiff v.toNat (s.fqRxOf q).cons) : ∃ t, exec (.fqRxDoorbell q v ds) s = .next t ∧
    t.cx.fqRx = s.cx.fqRx ∧ EventsOnly (s.granted 0 2) t := by
  have hring : ((s.granted 0 2).fqRxOf q).ring v.toNat ds = none := FqDir.ring_far hfar ds
  have hexec : exec (.fqRxDoorbell q v ds) s = .next ((s.granted 0 2).doorbellBad (17 + 2 * q) v.toNat) := by
    show execFqRxDoorbell q v ds s = _
    rw [execFqRxDoorbell, State.hostAct_up hbar, hring]
    rfl
  obtain ⟨hcx, hevents⟩ := (s.granted 0 2).doorbellBad_leaves (17 + 2 * q) v.toNat
  have hqueues := congrArg CxSt.fqRx hcx
  exact ⟨_, hexec, hqueues, hevents⟩

end FrameQueues

end Sys2Proof.Machine
end

section
/-!
Doorbells with no BAR, coalescing, progress, and the descriptors of the frame queues that send (R429, R441, R446 to R449).
-/

namespace Sys2Proof.Machine

open Sys2Proof.Stated

theorem hostExchange_down {s : State} (hbar : s.barUp = false) (r : Fin 16) (v : Word) (e : CmdEntry) :
    exec (.sqDoorbell r v [e]) s = .next s ∧ exec (.ringEnable r) s = .next s ∧ exec (.evtDoorbell v) s = .next s :=
  ⟨congrArg Host.Outcome.next (State.hostAct_down hbar 0 fun s => s.sqRing r v.toNat [e]),
    congrArg Host.Outcome.next (State.hostAct_down hbar 0 fun s => s.ringOn r),
    congrArg Host.Outcome.next (State.hostAct_down hbar 0 fun s => { s with cx := { s.cx with evtDb := v.toNat } })⟩

theorem evtDoorbell_rung {s : State} (hbar : s.barUp = true) (v : Word) :
    exec (.evtDoorbell v) s = .next { s.granted 0 2 with cx := { s.cx with evtDb := v.toNat } } :=
  congrArg Host.Outcome.next (State.hostAct_up hbar 0 fun s => { s with cx := { s.cx with evtDb := v.toNat } })

/-! ### Coalescing (R429) -/

theorem coalesceTimeout_none {s : State} {src : Nat} (h : (tget {} s.cx.coal src).count = 0) :
    exec (.coalesceTimeout src) s = .next s :=
  congrArg Host.Outcome.next (if_pos h)

/-- The source whose entries are told to the host. -/
def State.coalCleared (s : State) (src : Nat) : State := { s with cx := { s.cx with coal := tset {} s.cx.coal src {} } }

theorem coalesceTimeout_raises {s : State} {src : Nat} {m : Vector64} (hwf : tblWf {} 0 s.cx.coal = true)
    (hcount : (tget {} s.cx.coal src).count ≠ 0) (hlen : s.cx.msix.length = 64) (hvec : (s.coalOf src).2 < 64)
    (hm : lget {} s.cx.msix (s.coalOf src).2 = m) : ∃ t, exec (.coalesceTimeout src) s = .next t ∧
      t.clk = max s.clk ((tget {} s.cx.coal src).first + s.coalNs src) ∧ (tget {} t.cx.coal src).count = 0 ∧
      lget {} t.cx.msix (s.coalOf src).2 =
        (if m.masked then { m with pending := true } else { m with raised := m.raised + 1 }) ∧
      TimeOnly s { t with cx := s.cx } := by
  have hexec : exec (.coalesceTimeout src) s = .next (((s.waitClk ((tget {} s.cx.coal src).first + s.coalNs src)).coalCleared
      src).raiseVector (s.coalOf src).2) := congrArg Host.Outcome.next (if_neg hcount)
  have hraised : ∀ u : State, u.cx = s.cx →
      (tget {} ((u.coalCleared src).raiseVector (s.coalOf src).2).cx.coal src).count = 0 ∧
      lget {} ((u.coalCleared src).raiseVector (s.coalOf src).2).cx.msix (s.coalOf src).2 =
        (if m.masked then { m with pending := true } else { m with raised := m.raised + 1 }) := fun u hu => by
    have hcoal : ((u.coalCleared src).raiseVector (s.coalOf src).2).cx.coal = tset {} s.cx.coal src {} := by
      rw [← hu]
      rfl
    have hmsix : ((u.coalCleared src).raiseVector (s.coalOf src).2).cx.msix = lset s.cx.msix (s.coalOf src).2
        (if m.masked then { m with pending := true } else { m with raised := m.raised + 1 }) := by
      rw [← hm, ← hu]
      rfl
    rw [hcoal, hmsix, tget_tset_same (keysRise_of_tblWf hwf), lget_lset_same (by rw [hlen]; exact hvec)]
    exact ⟨rfl, rfl⟩
  obtain ⟨hcleared, htold⟩ := hraised (s.waitClk ((tget {} s.cx.coal src).first + s.coalNs src)) rfl
  exact ⟨_, hexec, State.waitClk_clk s _, hcleared, htold, State.waitClk_timeOnly s _⟩

/-! ### Progress (R441) -/

section Progress

variable {s : State} {r : Fin 16} {n : Nat}

theorem State.waitClk_exchange (s : State) (t : Nat) : (s.waitClk t).cx = s.cx ∧ (s.waitClk t).mode = s.mode := ⟨rfl, rfl⟩

/-- The progress of a command told as the clock stands at that of `u`. -/
def State.progressTold (s u : State) (r : Fin 16) (n : Nat) (p : InProgress) : State :=
  let told := u.setRing r { s.ring r with
    running := (s.ring r).running.map (fun q => if q.tag.ringSeq = n then { q with toldAt := u.clk } else q) }
  told.raise 0x0101 [(1, r), (4, n), (8, p.tag.reqId), (1, told.percent p.opcode)]

theorem cxProgress_idle (h : (s.ring r).running = []) : exec (.cxProgress r n) s = .next s := by
  show execCxProgress r n s = _
  rw [execCxProgress]
  simp only [h, List.find?_nil]
  rfl

theorem exec_cxProgress {x : InProgress} (hrun : (s.ring r).running = [x]) (hseq : x.tag.ringSeq = n) :
    exec (.cxProgress r n) s = .next (s.progressTold (s.waitClk (x.toldAt + 1000000000)) r n x) := by
  have hfind : (s.ring r).running.find? (fun p => p.tag.ringSeq == n) = some x := by
    rw [hrun]
    exact List.find?_cons_of_pos (by simp [hseq])
  show execCxProgress r n s = _
  rw [execCxProgress]
  simp only [hfind]
  rfl

/-- A progress event is longer than one event's data. -/
theorem progressItems_long (a b c d : Nat) : 14 < (packItems [(1, a), (4, b), (8, c), (1, d)] []).length := by
  simp [packItems, leBytes_length]
  decide

/-- What the report of the one command in progress leaves. -/
theorem State.progressTold_leaves {u : State} (hlen : u.cx.rings.length = 16) {x : InProgress} (hrun : (s.ring r).running = [x])
    (hseq : x.tag.ringSeq = n) : (s.progressTold u r n x).clk = u.clk ∧
      (s.progressTold u r n x).cx.evtSeq = seqNext (seqNext u.cx.evtSeq) ∧
      (s.progressTold u r n x).ring r = { s.ring r with running := [{ x with toldAt := u.clk }] } ∧
      (s.progressTold u r n x).mode = u.mode := by
  have hrunning : (s.ring r).running.map (fun q => if q.tag.ringSeq = n then { q with toldAt := u.clk } else q) =
      [{ x with toldAt := u.clk }] := by
    rw [hrun, List.map_singleton, if_pos hseq]
  have hring := State.ring_setRing_same (s := u) (r := r) (by rw [hlen]; exact r.isLt)
    { s.ring r with running := [{ x with toldAt := u.clk }] }
  rw [State.progressTold, hrunning]
  exact ⟨State.raise_clk _ _ _, State.raise_evtSeq_twice _ _ (progressItems_long _ _ _ _),
    (State.ring_congr (State.raise_rings _ _ _) r).trans hring, State.raise_mode _ _ _⟩

theorem cxProgress_told (hlen : s.cx.rings.length = 16) {x : InProgress} (hrun : (s.ring r).running = [x])
    (hseq : x.tag.ringSeq = n) : ∃ t, exec (.cxProgress r n) s = .next t ∧
      t.clk = max s.clk (x.toldAt + 1000000000) ∧ t.cx.evtSeq = seqNext (seqNext s.cx.evtSeq) ∧
      (t.ring r).running = [{ x with toldAt := t.clk }] ∧ (t.ring r).devSeq = (s.ring r).devSeq ∧ t.mode = s.mode := by
  have hexec := exec_cxProgress hrun hseq
  have hwait := State.waitClk_clk s (x.toldAt + 1000000000)
  obtain ⟨hcx, hmode'⟩ := State.waitClk_exchange s (x.toldAt + 1000000000)
  generalize s.waitClk (x.toldAt + 1000000000) = u at *
  obtain ⟨hclk, hevt, hring, hmode⟩ := State.progressTold_leaves (u := u) (by rw [hcx]; exact hlen) hrun hseq
  refine ⟨_, hexec, hclk.trans hwait, by rw [hevt, hcx], by rw [hring, hclk], by rw [hring], hmode.trans hmode'⟩

end Progress

/-! ### Descriptors that send (R446 to R449) -/

section TxDescriptor

variable {s : State} {q : Fin 8} {frame raw : Bytes} {d : Descriptor} {rest : List Descriptor}

theorem txDescriptor_stopped (h : s.engineOn = false) (f : Option Bytes) : exec (.txDescriptor q f) s = .next s := by
  show execTxDescriptor q f s = _
  rw [execTxDescriptor]
  simp only [h, Bool.and_false, Bool.false_and]
  rfl

section Ready

variable (hon : s.engineOn = true) (hdma : s.dmaOk = true) (hen : s.flag (Reg.CX_FQ_CTL_TX_EN q) = true)
  (hfree : s.cx.txHeld = []) (hgood : (s.fqTxOf q).error = false) (hdescs : (s.fqTxOf q).descs = d :: rest)
  (hraw : d.raw = some raw)

include hon hdma hen hfree hgood hdescs in
/-- A queue that is ready looks at its first descriptor. -/
theorem exec_txDescriptor (f : Option Bytes) : exec (.txDescriptor q f) s = .next
    (match (s.fqTxOf q).check d with
    | some e => (s.setFqTx q { s.fqTxOf q with error := true }).ringFault (16 + 2 * q) (seqNext (s.fqTxOf q).cons) e
    | none => (s.setFqTx q { s.fqTxOf q with cons := seqNext (s.fqTxOf q).cons, descs := rest }).txDescriptor q d.addr
        (d.raw.getD []) f) := by
  have hnone : (tget? s.cx.txHeld q).isNone = true := by rw [hfree]; rfl
  show execTxDescriptor q f s = _
  rw [execTxDescriptor]
  simp only [hen, hdma, hgood, hon, hnone, hdescs, Bool.and_true, Bool.not_false]
  rfl

theorem State.fqTxOf_setFqTx {s : State} {q : Fin 8} (hlen : s.cx.fqTx.length = 8) (x : FqDir) : (s.setFqTx q x).fqTxOf q = x :=
  lget_lset_same (by rw [hlen]; exact q.isLt)

/-- A frame queue is kept by what keeps the exchange but for its series. -/
theorem State.fqTxOf_congr {s t : State} (h : t.cx.lessSeries = s.cx.lessSeries) (q : Nat) : t.fqTxOf q = s.fqTxOf q := by
  have hqueues := congrArg CxSt.fqTx h
  exact congrArg (fun l : List FqDir => lget {} l q) hqueues

theorem State.ringFault_fqTxOf (s : State) (ring expected : Nat) (f : Nat × Nat) (q : Nat) :
    (s.ringFault ring expected f).fqTxOf q = s.fqTxOf q :=
  State.fqTxOf_congr (State.raiseLim_lessSeries _ _ _ _) q

include hon hdma hen hfree hgood hdescs hraw in
/-- A descriptor out of its place stops its queue. -/
theorem txDescriptor_stops (hlen : s.cx.fqTx.length = 8) (hseq : leAt raw 0x1C 4 ≠ seqNext (s.fqTxOf q).cons) (f : Option Bytes) :
    ∃ t, exec (.txDescriptor q f) s = .next t ∧ (t.fqTxOf q).error = true ∧ (t.fqTxOf q).cons = (s.fqTxOf q).cons ∧
      EventsOnly s t := by
  have hcheck : (s.fqTxOf q).check d = some (leAt raw 0x1C 4, 0) := by
    rw [FqDir.check, hraw]
    exact if_pos hseq
  have hexec := exec_txDescriptor hon hdma hen hfree hgood hdescs f
  rw [hcheck] at hexec
  have hset := State.fqTxOf_setFqTx (q := q) hlen { s.fqTxOf q with error := true }
  have hkept := (s.setFqTx q { s.fqTxOf q with error := true }).ringFault_fqTxOf (16 + 2 * q) (seqNext (s.fqTxOf q).cons)
    (leAt raw 0x1C 4, 0) q
  rw [hset] at hkept
  exact ⟨_, hexec, (congrArg FqDir.error hkept :), (congrArg FqDir.cons hkept :),
    eventsOnly_of_lessEvents (State.raiseLim_lessEvents _ _ _ _)⟩

/-- The queue with its first descriptor used. -/
def State.txTaken (s : State) (q : Fin 8) (rest : List Descriptor) : State :=
  s.setFqTx q { s.fqTxOf q with cons := seqNext (s.fqTxOf q).cons, descs := rest }

/-- What a descriptor is judged by is no part of its queue. -/
theorem State.badTx_txTaken (q : Fin 8) (rest : List Descriptor) (raw : Bytes) :
    (s.txTaken q rest).badTx raw = s.badTx raw := by
  have hplanned : (s.txTaken q rest).planned (byteAt raw 6) = s.planned (byteAt raw 6) := rfl
  have hmtu : (s.txTaken q rest).mtu (byteAt raw 6) = s.mtu (byteAt raw 6) := rfl
  rw [State.badTx, State.badTx, hplanned, hmtu]

include hon hdma hen hfree hgood hdescs hraw in
theorem exec_txDescriptor_taken (hend : leAt raw 0x1C 4 = seqNext (s.fqTxOf q).cons)
    (hseq : leAt raw 0 4 = seqNext (s.fqTxOf q).cons) (f : Option Bytes) :
    exec (.txDescriptor q f) s = .next ((s.txTaken q rest).txDescriptor q d.addr raw f) := by
  have hcheck : (s.fqTxOf q).check d = none := by
    rw [FqDir.check, hraw]
    dsimp only
    rw [if_neg (not_not.mpr hend), if_neg (not_not.mpr hseq)]
  have hexec := exec_txDescriptor hon hdma hen hfree hgood hdescs f
  rw [hcheck, hraw] at hexec
  exact hexec

theorem State.hostWrite_coalesce_leaves (s : State) (addr : Nat) (b : Bytes) (src : Nat) :
    ((s.hostWrite addr b).coalesce src).cx.lessSeries = s.cx.lessSeries ∧
      ((s.hostWrite addr b).coalesce src).lessExchange = s.lessExchange :=
  ⟨State.coalesce_lessSeries _ _, State.coalesce_lessExchange _ _⟩

/-- A status written back is the exchange's own work. -/
theorem State.writeBack_leaves (s : State) (r : LaunchRef) (st : Nat) (stamp : Option Nat) :
    (s.writeBack r st stamp).cx.lessSeries = s.cx.lessSeries ∧ (s.writeBack r st stamp).lessExchange = s.lessExchange := by
  unfold State.writeBack
  dsimp only
  split
  · exact State.hostWrite_coalesce_leaves _ _ _ _
  · exact ⟨rfl, rfl⟩

/-- A bad descriptor is used up and answered with status 3. -/
theorem State.txDescriptor_bad (hlen : s.cx.fqTx.length = 8) (hbad : s.badTx raw = true) (addr : Nat) (f : Option Bytes) :
    (((s.txTaken q rest).txDescriptor q addr raw f).fqTxOf q) =
      { s.fqTxOf q with cons := seqNext (s.fqTxOf q).cons, descs := rest } ∧
    ((s.txTaken q rest).txDescriptor q addr raw f).lessExchange = s.lessExchange := by
  have hbad' : (s.txTaken q rest).badTx raw = true := (State.badTx_txTaken q rest raw).trans hbad
  obtain ⟨hcx, hother⟩ := (s.txTaken q rest).writeBack_leaves (launchRef q addr raw) 3 none
  unfold State.txDescriptor
  dsimp only
  rw [if_pos hbad']
  exact ⟨(State.fqTxOf_congr hcx q).trans (State.fqTxOf_setFqTx hlen _), hother⟩

/-- A launch with no time of its own is held back by nothing and joins its port's list. -/
theorem State.launchIn_untimed {u : State} (hfree : u.cx.txHeld = []) {p : Nat} (hidle : (u.pq p).launch = []) (q : Nat)
    {l : Launch} (huntimed : l.timed = false) : u.launchIn p q l = u.setPq p { u.pq p with launch := [{ l with t := u.time.now }] } := by
  have hlate : u.lateBy l = none := by
    rw [State.lateBy]
    exact if_neg (by rw [huntimed]; exact fun h => Bool.noConfusion h.1)
  have hfind : (tput u.cx.txHeld q (p, l)).find? (fun e => e.2.1 == p) = some (q, p, l) := by
    rw [hfree]
    exact List.find?_cons_of_pos (by simp)
  have herase : terase (tput u.cx.txHeld q (p, l)) q = u.cx.txHeld := by
    rw [hfree]
    exact if_pos rfl
  have hadmit : ({ u with cx := { u.cx with txHeld := tput u.cx.txHeld q (p, l) } } : State).admitHeld p =
      ({ u with cx := { u.cx with txHeld := terase (tput u.cx.txHeld q (p, l)) q } } : State).setPq p
        { u.pq p with launch := [{ l with t := u.time.now }] } := by
    have hlaunch : (({ u with cx := { u.cx with txHeld := tput u.cx.txHeld q (p, l) } } : State).pq p).launch = [] := hidle
    rw [State.admitHeld]
    simp only [hfind, hlaunch, huntimed]
    rfl
  rw [State.launchIn, hlate]
  dsimp only
  rw [hadmit, herase]

/-- The launch that a descriptor with no time of its own asks for. -/
def State.launchOf (s : State) (q : Fin 8) (addr : Nat) (raw frame : Bytes) : Launch :=
  ⟨s.time.now, false, byteAt raw 7 % 8, withFcs (padTo (leAt raw 4 2 - 4) frame), launchRef q addr raw⟩

theorem State.txDescriptor_good {u : State} (hgood : u.badTx raw = false) (hopen : u.portOpen (byteAt raw 6) = true)
    (huntimed : bitAt (byteAt raw 7) 5 = false) (addr : Nat) : u.txDescriptor q addr raw (some frame) =
      (u.launchIn (byteAt raw 6) q (u.launchOf q addr raw frame)).settle := by
  unfold State.txDescriptor
  simp only [hgood, hopen, huntimed]
  rfl

include hon hdma hen hfree hgood hdescs hraw in
/-- A good descriptor's frame joins the launch list of its port. -/
theorem txDescriptor_launches (hlen : s.cx.fqTx.length = 8) (hend : leAt raw 0x1C 4 = seqNext (s.fqTxOf q).cons)
    (hseq : leAt raw 0 4 = seqNext (s.fqTxOf q).cons) (hok : s.badTx raw = false) (hopen : s.portOpen (byteAt raw 6) = true)
    (huntimed : bitAt (byteAt raw 7) 5 = false) (hidle : (s.pq (byteAt raw 6)).launch = []) : ∃ u : State,
    exec (.txDescriptor q (some frame)) s = .next u.settle ∧ (u.fqTxOf q).cons = seqNext (s.fqTxOf q).cons ∧
      (u.fqTxOf q).descs = rest ∧ (u.pq (byteAt raw 6)).launch = [s.launchOf q d.addr raw frame] ∧
      { u with tm := s.tm, cx := s.cx } = s := by
  have hok' : (s.txTaken q rest).badTx raw = false := (State.badTx_txTaken q rest raw).trans hok
  have hopen' : (s.txTaken q rest).portOpen (byteAt raw 6) = true := hopen
  have hfree' : (s.txTaken q rest).cx.txHeld = [] := hfree
  have hidle' : ((s.txTaken q rest).pq (byteAt raw 6)).launch = [] := hidle
  have hlaunch := State.launchIn_untimed hfree' hidle' q (l := (s.txTaken q rest).launchOf q d.addr raw frame) rfl
  have hqueue := State.fqTxOf_setFqTx (q := q) hlen { s.fqTxOf q with cons := seqNext (s.fqTxOf q).cons, descs := rest }
  have hexec := exec_txDescriptor_taken hon hdma hen hfree hgood hdescs hraw hend hseq (some frame)
  rw [State.txDescriptor_good hok' hopen' huntimed, hlaunch] at hexec
  have hlisted : ({ (s.txTaken q rest).pq (byteAt raw 6) with launch := [s.launchOf q d.addr raw frame] } : PortQ) ≠ {} :=
    fun h => List.cons_ne_nil _ _ (congrArg PortQ.launch h)
  have hlist := congrArg PortQ.launch (tget_tset_of_ne_default hlisted (s.txTaken q rest).tm.ports (byteAt raw 6))
  exact ⟨_, hexec, (congrArg FqDir.cons hqueue :), (congrArg FqDir.descs hqueue :), hlist, rfl⟩

include hon hdma hen hfree hgood hdescs hraw in
theorem txDescriptor_bad (hlen : s.cx.fqTx.length = 8) (hend : leAt raw 0x1C 4 = seqNext (s.fqTxOf q).cons)
    (hseq : leAt raw 0 4 = seqNext (s.fqTxOf q).cons) (hbad : s.badTx raw = true) (f : Option Bytes) : ∃ t,
    exec (.txDescriptor q f) s = .next t ∧ (t.fqTxOf q).cons = seqNext (s.fqTxOf q).cons ∧ (t.fqTxOf q).descs = rest ∧
      t.tm = s.tm ∧ ExchangeOnly s t := by
  obtain ⟨hqueue, hother⟩ := State.txDescriptor_bad (q := q) (rest := rest) hlen hbad d.addr f
  have htm := congrArg State.tm hother
  have honly := congrArg (fun x : State => { x with cx := s.cx, host := s.host }) hother
  exact ⟨_, exec_txDescriptor_taken hon hdma hen hfree hgood hdescs hraw hend hseq f, by rw [hqueue], by rw [hqueue], htm, honly⟩

end Ready

end TxDescriptor

/-! ### The family -/

/-- Settles O56, a doorbell, an enable or a descriptor at a time: each goes to the one ring or queue it names. -/
theorem ringsAndFrameQueues : Obligations.RingsAndFrameQueues := by
  intro s tag r q v e raw frame c ds rest d out src n x m hregs hlen hlenTx _
  refine ⟨cxNop_answered hlen tag, cxStateRead_read hlen tag out, fun hbar => ?_, fun hbar => hostExchange_down hbar r v e,
    coalesceTimeout_none, coalesceTimeout_raises, cxProgress_told hlen, cxProgress_idle,
    fun hoff => txDescriptor_stopped hoff _, fun hon hdma hen hfree hgood hdescs hraw => ?_⟩
  · refine ⟨sqDoorbell_bad hbar, sqDoorbell_off hbar, fun hnear hnew hgo hraw =>
        ⟨fun hseq hop hflags hparams htag hreq => ?_, sqDoorbell_stops hlen hbar hnear hnew hgo hraw⟩,
      cqDoorbell_idle hlen hbar, cqDoorbell_flushes hlen hbar, ringEnable_enables hlen hbar hregs,
      ringDisable_disables hbar hregs, ringResume_runs hbar _, ringResume_off hbar _, evtDoorbell_rung hbar v,
      fqTxDoorbell_rung hbar ds, fqRxDoorbell_rung hbar ds, fqTxDoorbell_bad hbar ds, fqRxDoorbell_bad hbar ds⟩
    exact sqDoorbell_nop hlen hbar hnear hnew hgo hraw hseq hop hflags hparams htag hreq
  · exact ⟨fun hseq => txDescriptor_stops hon hdma hen hfree hgood hdescs hraw hlenTx hseq _, fun hend hseq =>
      ⟨fun hbad => txDescriptor_bad hon hdma hen hfree hgood hdescs hraw hlenTx hend hseq hbad _,
        txDescriptor_launches hon hdma hen hfree hgood hdescs hraw hlenTx hend hseq⟩⟩

end Sys2Proof.Machine
end
